-- ==== Sys2Proof/Word.lean ====
section
/-!
DEFINITION. The word of a GN-8 register (R5: registers are 32 bits wide), the byte of its buffers, and the names
of the few widths the manual uses everywhere.
-/

namespace Sys2Proof

/-- A register word (R5). -/
abbrev Word := BitVec 32

/-- One byte of an addressed buffer: packet RAM, DRAM. -/
abbrev Byte := BitVec 8

/-- A number cut to `n` bits, as a field of `n` bits holds it. -/
abbrev cut (n v : Nat) : Nat := v % 2 ^ n

end Sys2Proof
end

