-- ==== Sys2Proof/Types.lean ====
section
/-!
DEFINITION. The plain data that commands carry and the state holds: mould images as R43 to R47 give them, with the decoded contents of
their sections, packets of the Olirlis link (R150), and pixel words (R17).
-/

namespace Sys2Proof

/-- A rectangle of canvas or tile pixels. -/
structure Region where
  x : Nat
  y : Nat
  w : Nat
  h : Nat
  deriving DecidableEq, Repr, Inhabited

/-- The mould image's header (R44). -/
structure MouldHeader where
  magic : Nat := 0x494D4748
  format : Nat := 1
  hdrLen : Nat := 256
  totalLen : Nat
  role : Nat
  senderEnd : Nat
  phases : Nat
  sections : Nat
  wallId : Nat
  mouldSeq : Nat
  frateMax : Nat
  minFw : Nat
  dieUse : Nat
  abaistubVer : Nat := 0
  descHash : Nat := 0
  hdrCrc : Nat
  deriving DecidableEq, Repr, Inhabited

/-- A section-table entry (R45). -/
structure MouldSection where
  type : Nat
  die : Nat
  inst : Nat
  offset : Nat
  length : Nat
  crc : Nat
  deriving DecidableEq, Repr, Inhabited

/-- A LANES entry (R46): a chain port (0 to 15) or a source port (16 to 23) in use, its rate code of R76, active lane count and spare. -/
structure LaneGroupCfg where
  port : Nat
  rate : Nat
  lanes : Nat
  spare : Nat
  deriving DecidableEq, Repr, Inhabited

/-- A CHAINS entry: the port's owner Vat die (0 to 3) and the region of each tile address. -/
structure ChainCfg where
  port : Nat
  owner : Nat
  tiles : List Region
  deriving DecidableEq, Repr, Inhabited

/-- A SOURCES entry: a source port, its ingest engine, whether it is bonded, and the pixel rate planned for it. -/
structure SourceCfg where
  vat : Nat
  engine : Nat
  port : Nat
  bonded : Bool
  rate : Nat
  deriving DecidableEq, Repr, Inhabited

/-- A frame store the image places: kind 0 ingest, 1 renderer, 2 write-back. -/
structure StoreCfg where
  vat : Nat
  kind : Nat
  index : Nat
  stride : Nat
  maxRows : Nat
  base0 : Nat
  base1 : Nat
  base2 : Nat
  deriving DecidableEq, Repr, Inhabited

/-- A LAYERS entry: an engine's target on the target's owner die, and its granules. -/
structure LayerCfg where
  vat : Nat
  engine : Nat
  owner : Nat
  target : Nat
  granules : Nat
  deriving DecidableEq, Repr, Inhabited

/-- A buffer of a DRAM section, in bytes of the die's pair of channels. -/
structure DramBuf where
  vat : Nat
  base : Nat
  len : Nat
  deriving DecidableEq, Repr, Inhabited

/-- What a DRAM section says of a die: channels in use, bytes installed, planned traffic in MB/s, the device minima in picoseconds for CL, CWL, TRCD,
TRP, TRFC4, TFAW and TRAS, and the class-0 requesters of a channel (R371). -/
structure DramCfg where
  vat : Nat
  channels : Nat
  installed : Nat
  traffic : Nat
  minima : List Nat := []
  urgent : Nat := 0
  deriving DecidableEq, Repr, Inhabited

/-- The place of an audio port's delay line, 3 MiB of a Vat die's memory (R460). -/
structure AudioCfg where
  port : Nat
  vat : Nat
  base : Nat
  deriving DecidableEq, Repr, Inhabited

/-- A module of a tile: its Press port, and its rectangle of tile pixels. -/
structure ModuleCfg where
  port : Nat
  area : Region
  deriving DecidableEq, Repr, Inhabited

/-- A PRESS entry: one Press port's geometry. -/
structure PressCfg where
  port : Nat
  lines : Nat
  drivers : Nat
  mux : Nat
  deriving DecidableEq, Repr, Inhabited

/-- The TILE section: tile size, modules, and the die addresses of the two correction banks, the lamp map, the lamp status and the
test records. -/
structure TileCfg where
  w : Nat := 0
  h : Nat := 0
  mods : List ModuleCfg := []
  corr0 : Nat := 0
  corr1 : Nat := 0
  lampMap : Nat := 0
  status : Nat := 0
  recs : Nat := 0
  deriving DecidableEq, Repr, Inhabited

/-- The K24 section (R559). -/
structure K24Cfg where
  width : Nat := 0
  height : Nat := 0
  frate : Nat := 0
  ltotal : Nat := 0
  hold : Nat := 0
  brt : Nat := 0
  gamma : Nat := 0
  deriving DecidableEq, Repr, Inhabited

/-- A mould image: the byte string (R43) with header, section table, sections and signature block, and the decoded contents of its sections, whose
layout the manual leaves to the compiler. `mregs` gives, by BAR0 offset, the word each register with M fields takes. -/
structure MouldImage where
  raw : List Nat
  lanes : List LaneGroupCfg := []
  chains : List ChainCfg := []
  sources : List SourceCfg := []
  stores : List StoreCfg := []
  layers : List LayerCfg := []
  dram : List DramCfg := []
  audio : List AudioCfg := []
  bufs : List DramBuf := []
  press : List PressCfg := []
  tile : TileCfg := {}
  mregs : List (Nat × Word) := []
  deriving DecidableEq, Repr, Inhabited

/-- The traffic of the table of R370, by requester: a layer engine's fetches (its class follows the urgency of its chain, R292); the encode half's reads, due in the
row slot before their upload or not yet (R338); writes from an input or reception buffer, more than half full or not; the correction half's reads; scrub
rewrites; write-back and corrected-store writes; renderer writes, BAR2 reads, table access, Cave loads and audio; patrol scrub and test records. -/
inductive Traffic where
  | layer (v e : Nat)
  | encode (due : Bool)
  | input (full : Bool)
  | correct
  | rewrite
  | store
  | host
  | patrol
  deriving DecidableEq, Repr, Inhabited

/-- A request to a DRAM channel: its address there, its traffic, and whether it writes. -/
structure DramReq where
  addr : Nat
  kind : Traffic
  write : Bool
  deriving DecidableEq, Repr, Inhabited

/-- How a patrol scrub read went: how long it waited, in ns, and what it met: nothing (0), a CE (1) or a UE (2). -/
structure ScrubRead where
  wait : Nat
  err : Nat
  deriving DecidableEq, Repr, Inhabited

/-- Something that stands in a burst at a place the mould compiler chose (R46), apart from the tables: a lamp of a row of the corrected store, by buffer, phase and
row (R305); a word of a row that the tile receives or of its last frame, by phase and row (R149); a frame of an audio delay line, by port and place in the line. -/
inductive BurstItem where
  | stored (buf phase row lamp : Nat)
  | word (last : Bool) (phase row col : Nat)
  | audio (n i : Nat)
  deriving DecidableEq, Repr, Inhabited

/-- The reads of a row repair (R383): the bursts of the row that gave a CE, those that gave a UE, by number, and what else these held. -/
structure RowReads where
  ce : List Nat
  ue : List Nat
  items : List BurstItem
  deriving DecidableEq, Repr, Inhabited

/-- The end of a legacy frame period: its length, in ps, and the lamps, by row and place, whose stored values could not be read for a repeated row (R323). -/
structure VsTurn where
  period : Nat
  ue : List (Nat × Nat)
  deriving DecidableEq, Repr, Inhabited

/-- A control or whey packet (R150): `data` is its payload, one number per byte. -/
structure Pkt where
  ty : Nat
  dest : Nat
  src : Nat
  seq : Nat
  flags : Nat
  data : List Nat
  deriving DecidableEq, Repr, Inhabited

/-- What a received packet carries beside the fields its command names (R150): SRC and SEQ where the command does not name them, FLAGS, the check
value that came, and whether it ended in EDB. -/
structure PktEnd where
  src : Nat := 0
  seq : Nat := 0
  flags : Nat := 0
  check : Nat := 0
  edb : Bool := false
  deriving DecidableEq, Repr, Inhabited

/-- How a packet arrives: the port, and what the packet carries beside the fields its command names. -/
structure Arrival where
  port : Nat
  rest : PktEnd
  deriving DecidableEq, Repr, Inhabited

/-- A control packet of a TYPE that R152 does not list: TYPE, destination and payload. -/
structure UnknownPkt where
  ty : Nat
  dest : Nat
  data : List Nat
  deriving DecidableEq, Repr, Inhabited

/-- What ends RATE (R77): the adapted settings of lanes 0 to 4, laid out as HP_LANE_RXEQ, and the training sets those lanes have received, newest
first, each as the 16 ten-bit codes of the line. -/
structure RateEnd where
  eq : List Word
  sets : List (List (List Nat))
  deriving DecidableEq, Repr, Inhabited

/-- The lanes on which a receiver holds lock, as a bitmap, and the skew between them in symbols. -/
structure LaneLock where
  locked : Nat
  skew : Nat
  deriving DecidableEq, Repr, Inhabited

/-- The times of R80, in ps: the delay that the measuring end tells the other end; at a tile its own forwarding latency. -/
structure HopTimes where
  d : Int
  fwd : Nat
  deriving DecidableEq, Repr, Inhabited

/-- An edge of GENLOCK_IN (R105): its direction and the time since the last edge, in 0.25 ns. -/
structure GenlockIn where
  rising : Bool
  period : Nat
  deriving DecidableEq, Repr, Inhabited

/-- The frame whose start is nearest an edge, and that start minus the edge, in 0.25 ns. -/
structure NearestFrame where
  frame : Nat
  phase : Int
  deriving DecidableEq, Repr, Inhabited

/-- A frame without a good marker (R117): its direction, and whether the marker itself came, without its RASTER packet. -/
structure MarkerGap where
  dirB : Bool
  came : Bool
  deriving DecidableEq, Repr, Inhabited

/-- The means of R116, in ps: half the mean round trip as the measuring end tells it to the other, and the mean change of the own forwarding
latency. -/
structure TrackMeans where
  mean : Option Int
  fwdMeas : Int
  deriving DecidableEq, Repr, Inhabited

/-- An urgent set as received (R142): the column of the port at which it came, and the four symbols each active lane brought. -/
structure UrgentCols where
  col : Nat
  copies : List (List Nat)
  deriving DecidableEq, Repr, Inhabited

/-- What a receiver sees of a LINKED direction (R164): code violations on each active lane within 1,024 columns, SKP sets in a row whose ALN columns
were not aligned, columns since the last SKP set, and whether no active lane has had signal energy for 10 us. -/
structure LossSigns where
  viols : List Nat
  unaligned : Nat
  sinceSkp : Nat
  silent : Bool
  deriving DecidableEq, Repr, Inhabited

/-- Bits as the line brings them to a lane, oldest first. -/
structure LaneLine where
  lane : Nat
  line : List Bool
  deriving DecidableEq, Repr, Inhabited

/-- How a line packet ends (R232): COUNT and the check value as received, whether a ten-bit code in it was unreadable (R137), and the control symbols received
from after its SOS to its end, in order. -/
structure LineEnd where
  count : Nat
  check : Nat
  viol : Bool
  ctrl : List Nat
  deriving DecidableEq, Repr, Inhabited

/-- What a source port holds when it locks (R230): its number, and the adapted settings of its lanes, laid out as HP_LANE_RXEQ (R198). -/
structure SourceLock where
  port : Nat
  eq : List Word
  deriving DecidableEq, Repr, Inhabited

/-- The bytes of a BAR2 write, and the bursts of the buffer whose read gives an uncorrectable error. -/
structure Bar2Data where
  bytes : List Nat
  ue : List Nat
  deriving DecidableEq, Repr, Inhabited

/-- The length of a BAR2 read, and whether it meets an uncorrectable error. -/
structure Bar2Span where
  len : Nat
  ue : Bool
  deriving DecidableEq, Repr, Inhabited

/-- What the read-back of a Press port's pads shows (R349): the signal groups but GCLK that differed in this frame, numbered as PIN_ERR, and the
rising edges counted at the GCLK pad in each row run. -/
structure PadReadBack where
  groups : Nat
  gclk : List Nat
  deriving DecidableEq, Repr, Inhabited

/-- Ten-bit codes of the legacy chain, with the running disparity before them (positive). -/
structure LegacyIn where
  rd : Bool
  codes : List Nat
  deriving DecidableEq, Repr, Inhabited

/-- A line segment (R144) with its pixel words. -/
structure Segment where
  tile : Nat
  phase : Nat
  code : Nat
  row : Nat
  col : Nat
  fnum : Nat
  words : List Nat
  deriving DecidableEq, Repr, Inhabited

/-- The format fields of a FORMAT packet (R231). -/
structure SrcFormat where
  w : Nat
  h : Nat
  num : Nat
  den : Nat
  code : Nat
  depth : Nat
  range : Nat
  bond : Nat
  deriving DecidableEq, Repr, Inhabited

/-- The payload of a RASTER packet (R153). -/
structure RasterPkt where
  fnum : Nat
  ltotal : Nat
  num : Nat
  den : Nat
  changedLen : Bool
  nextValid : Bool
  ovlK : Nat
  residual : Nat
  cumAdj : Int
  lenAdj : Int
  s : Nat
  ltotalS : Nat
  numS : Nat
  denS : Nat
  deriving DecidableEq, Repr, Inhabited

/-- A point of an eye scan (R193): offsets, how many bits of each data value have been compared there, and how many of those differed. -/
structure EyePoint where
  hoff : Int
  voff : Int
  pos : Nat
  neg : Nat
  posErr : Nat
  negErr : Nat
  deriving DecidableEq, Repr, Inhabited

/-- What the partner's training sets carry (R76). -/
structure Partner where
  rate : Nat := 0
  lanes : Nat := 0
  spare : Nat := 0
  endType : Nat := 0
  wallId : Nat := 0
  mouldSeq : Nat := 0
  deriving DecidableEq, Repr, Inhabited

/-- A firmware image (R504): the byte string of header, payload and signature block. -/
structure FwImage where
  raw : List Nat
  deriving DecidableEq, Repr, Inhabited

/-- A tile package (R504): its two images. -/
structure Package where
  fw : FwImage
  mould : MouldImage
  deriving DecidableEq, Repr, Inhabited

/-- What the SD card holds (R508): RECOVER.BIN, RECMOULD.BIN, FW.BIN with MOULD.BIN, TILE.PKG, REMOULD.BIN; a file's bytes are its images'. -/
structure Card where
  present : Bool := false
  recFw : Option FwImage := none
  recMould : Option MouldImage := none
  fw : Option (FwImage × MouldImage) := none
  tile : Option Package := none
  remould : Option MouldImage := none
  deriving DecidableEq, Repr, Inhabited

end Sys2Proof
end

