-- ==== Sys2Proof/Syntax.lean ====
section
/-!
DEFINITION. The commands of the block: one constructor for each row of spec/opcode_table.json, with the row's operands:
in the table's order the rows that carry operands, then those that carry none (so that Lean's runtime can hold every one). An operand is what reaches the part from outside in that step: an offset and a value, a packet, a
level, a measured time, or which of two physical outcomes came about.
-/

namespace Sys2Proof

/-- A command (spec/opcode_table.json). -/
inductive Instr where
  /-- REGISTER_WRITE (R10). A host write to a register that has no row of its own sets its value, its pending RWS value or clears its W1C bits. -/
  | registerWrite (addr : Nat) (val : Word)
  /-- GATED_WINDOW_ACCESS (R6). An access to the window of a gated die reads 0xFFFF_FFFF or discards the write, counts it and logs it. -/
  | gatedWindowAccess (addr : Nat) (write : Bool)
  /-- PIXEL_PAIR_LOW_WRITE (R7). A write to the low half of a pixel-word pair is held until the high half is written. -/
  | pixelPairLowWrite (addr : Nat) (val : Word)
  /-- PIXEL_PAIR_HIGH_WRITE (R7). A write to the high half makes the held pair take effect as one value. `addr` is the high half's offset. -/
  | pixelPairHighWrite (addr : Nat) (val : Word)
  /-- PIXEL_PAIR_LOW_READ (R7). A read of the low half of a pair captures the high half for the next read. -/
  | pixelPairLowRead (addr : Nat)
  /-- DIE_LINK_REPLAY (R25). A die-link transfer that fails its check is repeated and counted. The link joins dies `a` and `b`. -/
  | dieLinkReplay (a b : Nat)
  /-- DIE_LINK_FAIL (R26). A transfer failing 8 times in a row fails the link permanently, logs it, sets LINK_FAIL and changes the outputs by role. The link joins dies `a` and `b`. -/
  | dieLinkFail (a b : Nat)
  /-- RESET_RELEASE (R74). The rise of RESET_N latches RECOVERY_N and runs the starter through RAM test, self-test and firmware selection. The level of RECOVERY_N, the RAM test's and the self-test's outcome (bit n of `selfFail`: die n failed), the SEQ of held log entries whose retention bits no longer match their CRC, and what the SD card holds. -/
  | resetRelease (recoveryN ramOk : Bool) (selfFail : Nat) (badLog : List Nat) (card : Card)
  /-- MOULD_LOAD (R49). The Rind die checks, verifies and distributes the mould image, then sets ROLE and LOADED. `us` is the time since the rise of RESET_N; `sectFail` lists source code, die, and how often in a row a section came to it with a bad CRC; `chanFail` lists DRAM channels whose training failed, `trimFail` groups whose trim block fails its CRC; `card` is what the SD card holds. -/
  | mouldLoad (us : Nat) (sectFail : List (Nat × Nat × Nat)) (chanFail trimFail : List Nat) (card : Card)
  /-- CAVE_LOAD_DONE (R79). The Cave copy of the correction table, lamp map and lamp status into DRAM completes, with failed blocks replaced. The 64 KiB blocks of the table area (R501) that failed their check, and whether the table directory passed its own. -/
  | caveLoadDone (failed : List Nat) (dirOk : Bool)
  /-- SIGNAL_DETECT_CHANGE (R184). The signal detector asserts or deasserts after 1 us beyond its threshold. -/
  | signalDetectChange (lane : Nat) (on : Bool)
  /-- TRAIN_DETECT_EXIT (R77). Signal energy present for 10 us moves a port from DETECT to COMMA. -/
  | trainDetectExit (p : Nat)
  /-- TRAIN_COMMA_DONE (R77). 8 consecutive valid aligned TSA move the port to ANNOUNCE. `sets`: the training sets lanes 0 to 4 have received, newest first. -/
  | trainCommaDone (p : Nat) (sets : List (List (List Nat)))
  /-- TRAIN_ANNOUNCE_DONE (R77). 16 identical valid TSA on every locked lane move the port to CONFIRM, or to WAIT on a rate mismatch. `held`: lanes on which the receiver holds lock; `sets`: the training sets lanes 0 to 4 have received, newest first. -/
  | trainAnnounceDone (p held : Nat) (sets : List (List (List Nat)))
  /-- TRAIN_CONFIRM_DONE (R77). 8 TSB received and 8 sent move the port to RATE. `sets`: the training sets received, as above. -/
  | trainConfirmDone (p : Nat) (sets : List (List (List Nat)))
  /-- TRAIN_RATE_DONE (R77). PLL relock, CDR lock, adaptation and 8 valid TSB move the port to DESKEW. `r`: the adapted settings, and the training sets received. -/
  | trainRateDone (p : Nat) (r : RateEnd)
  /-- TRAIN_DESKEW_DONE (R77). Aligned active lanes and the final LOCKED exchange move the port to HOPMEAS and fix the lane map. `l`: lanes on which the receiver holds lock, and their skew; `sets`: the training sets received. -/
  | trainDeskewDone (p : Nat) (l : LaneLock) (sets : List (List (List Nat)))
  /-- TRAIN_HOPMEAS_DONE (R80). 256 delay-marker round trips give d, and the port enters LINKED. `h`: the times measured or told. -/
  | trainHopmeasDone (p : Nat) (h : HopTimes)
  /-- TRAIN_LIMIT_EXPIRY (R77). A training state whose limit expires sends the port to WAIT with its cause. -/
  | trainLimitExpiry (p : Nat)
  /-- TRAIN_ENERGY_LOST (R608). No signal energy on any lane for 10 us in a training state returns the port to DETECT. -/
  | trainEnergyLost (p : Nat)
  /-- TRAIN_WAIT_EXPIRY (R77). 100 ms in WAIT return the port to DETECT. -/
  | trainWaitExpiry (p : Nat)
  /-- ENUM_SEND (R82). A sender port sends ENUM on reaching LINKED and after any retrain of the chain. -/
  | enumSend (p : Nat)
  /-- ENUM_REPEAT (R82). The sender repeats ENUM every 100 ms, or every 1 s once N addresses are heard. -/
  | enumRepeat (p : Nat)
  /-- ENUM (R83). A tile receiving ENUM updates hop count, address and cumulative delay, and forwards it. The packet of R152 that arrives; `aOld`: the newest ENUM of origin A is more than 3 s old. `a`: the port it arrives at, and the rest of the packet. -/
  | enum (a : Arrival) (origin hop n wallId mouldSeq cum : Nat) (aOld : Bool)
  /-- GENLOCK_EDGE (R105). A GENLOCK_IN edge is timestamped and judged for glitch, rate change or restoration. The edge, and the frame start nearest it. -/
  | genlockEdge (e : GenlockIn) (n : NearestFrame)
  /-- COMMIT_HOLD_WRITE (R123). A write of HOLD holds pending RWS values across cuts. -/
  | commitHoldWrite (val : Word)
  /-- COMMIT_GO (R123). A write to RD_COMMIT_GO releases the held group for frame T, or is ignored. -/
  | commitGo (t : Word)
  /-- CHAIN_LINE_START (R288). At each chain line start the scan-out engine sends each tile's row as segments. Chain line `c` of port `p`; `ready` gives, per tile address in order, how many words of its row the compositor has written by the time they are due. -/
  | chainLineStart (p c : Nat) (ready : List Nat)
  /-- FETCH_URGENCY_CHANGE (R292). FILL crossing WMARK raises or ends output-fetch urgency. -/
  | fetchUrgencyChange (p fill : Nat)
  /-- TILE_MARKER_RX (R115). A tile computes the frame start from a received raster marker and steers its raster. The marker of direction A or B and its RASTER packet; `lag` is its arrival minus the nearest predicted frame start on the tile's raster, in ps. -/
  | tileMarkerRx (dirB : Bool) (lag : Int) (pkt : RasterPkt)
  /-- TILE_MARKER_MISSING (R117). Three missing or invalid markers put a locked tile raster in HOLDOVER. `m`: the direction, and what came of it. -/
  | tileMarkerMissing (m : MarkerGap)
  /-- TRACK_UPDATE (R116). Every 64 frames each end moves its drift term toward the mean round trip. `m`: the means measured. -/
  | trackUpdate (p : Nat) (m : TrackMeans)
  /-- DELAY_MARKER_ROUND_TRIP (R80). A delay marker is answered with its own DMK and a DELAY_RSP. `own`: this end starts the round trip; else it answers round trip `num` after `turn` ps. -/
  | delayMarkerRoundTrip (p : Nat) (own : Bool) (num turn : Nat)
  /-- SKP_SEND (R139). A transmitter on its own reference sends a SKP set after 1,180 columns. -/
  | skpSend (p : Nat)
  /-- SAFE_DARK_ON (R143). An urgent SAFE_DARK_ON sets DARK_X in the tile, which darkens and forwards it. The direction it arrives on, and the set as received. -/
  | safeDarkOn (dirB : Bool) (u : UrgentCols)
  /-- SAFE_DARK_OFF (R143). An urgent SAFE_DARK_OFF clears DARK_X. As for SAFE_DARK_ON. -/
  | safeDarkOff (dirB : Bool) (u : UrgentCols)
  /-- TAKEOVER (R405). An urgent TAKEOVER names the new active sender and frame, and is forwarded. `p` is the port the set arrives at; `again`: within 64 columns of acting on the same set from there. As for SAFE_DARK_ON. -/
  | takeover (p col : Nat) (copies : List (List Nat))
  /-- SEGDOWN (R396). An urgent SEGDOWN arriving on a direction's receive port puts that direction down. As for SAFE_DARK_ON. -/
  | segdown (p col : Nat) (copies : List (List Nat))
  /-- URGENT_SET_BAD_CODE (R142). A valid urgent set with an unknown CODE is ignored and counted. The four symbols each active lane brought. -/
  | urgentSetBadCode (p : Nat) (copies : List (List Nat))
  /-- DARK_FLAG_TIMEOUT (R143). DARK_X clears after 16 frames without a SAFE_DARK_ON from X. -/
  | darkFlagTimeout (dirB : Bool)
  /-- SEGDOWN_CLEAR (R396). Two consecutive valid markers with RASTER on a direction end its SEGDOWN. -/
  | segdownClear (dirB : Bool)
  /-- CH_URG_TX (R172). A write of CODE 1 or 2 sets or clears one port's dark and sends the set. -/
  | chUrgTx (p code arg : Nat)
  /-- SEGMENT_RX (R148). A tile takes, checks and accepts its own segment, and checks and forwards others. `cols`: the ten-bit codes that the columns from its SOS on bring, one for each active lane in logical order; `r0` to `r3`: whether the running disparity of logical lanes 0 to 3 was positive before them. -/
  | segmentRx (p : Nat) (cols : List (List Nat)) (r0 r1 r2 r3 : Bool)
  /-- FRAME_RECEPTION_END (R149). At the end of a frame's reception, uncovered rows are repeated from the last frame. Reads of repeated rows that return an uncorrectable error: `ue` the phase, row and place in the row of a lamp's stored value, `ueWords` of a received word. -/
  | frameReceptionEnd (ue ueWords : List (Nat × Nat × Nat))
  /-- RASTER (R153). A RASTER packet is paired with its marker, modified and forwarded. The RASTER packet of a marker passing or arriving at port `p`. `a`: the port it arrives at, and the rest of the packet. -/
  | raster (a : Arrival) (pkt : RasterPkt)
  /-- HEARTBEAT (R399). A HEARTBEAT is forwarded and recorded by tiles for the referee. `a`: the port it arrives at, and the rest of the packet. -/
  | heartbeat (a : Arrival) (endCode state health fnum arm t wallId mouldSeq : Nat)
  /-- DELAY_RSP (R152). A DELAY_RSP carries t3-t2 of a round trip to the measuring end. The round trip's number, t3 - t2 and t4 - t1, in ps. `a`: the port it arrives at, and the rest of the packet. -/
  | delayRsp (a : Arrival) (num turn : Nat) (elapsed : Int)
  /-- ACK (R154). An ACK completes a unicast delivery at the sender. `a`: the port it arrives at, and the rest of the packet. -/
  | ack (a : Arrival) (src seq dest result : Nat)
  /-- REG_WR (R152). A REG_WR applies up to 31 register writes in the tile in order. `w`: the rest of the packet. -/
  | regWr (p src seq dest : Nat) (data : List Nat) (w : PktEnd)
  /-- REG_RD (R152). A REG_RD reads up to 62 tile registers and returns RD_RESP. `w`: the rest of the packet. -/
  | regRd (p src seq dest : Nat) (data : List Nat) (w : PktEnd)
  /-- RD_RESP (R152). An RD_RESP delivers read values to the sender's receive queue. `a`: the port it arrives at, and the rest of the packet. -/
  | rdResp (a : Arrival) (src seq dest : Nat) (vals : List Nat)
  /-- COMMIT_GO_PACKET (R125). A COMMIT_GO packet performs the GO of R123 in the tile. `a`: the port it arrives at, and the rest of the packet. -/
  | commitGoPacket (a : Arrival) (src seq dest : Nat) (data : List Nat)
  /-- REMOULD (R59). A REMOULD packet delivers GO or CANCEL to the tiles. `a`: the port it arrives at, and the rest of the packet. -/
  | remould (a : Arrival) (src seq : Nat) (go : Bool) (t wallId mouldSeq : Nat)
  /-- CTRL_BAD_TYPE (R152). A control packet of unknown TYPE is refused or dropped and counted. `a`: the port it arrives at, and the rest of the packet. -/
  | ctrlBadType (a : Arrival) (src seq : Nat) (u : UnknownPkt)
  /-- CTRL_RETRY_TIMEOUT (R154). No answer within 1 ms resends the packet, up to 3 times, then reports NOACK. -/
  | ctrlRetryTimeout (p dest : Nat)
  /-- BROADCAST_CONFIRM_TIMEOUT (R155). A broadcast not confirmed by every READY tile within 3 frames is resent, then NOACK. -/
  | broadcastConfirmTimeout (p : Nat)
  /-- STATUS (R157). A STATUS whey packet is stored in the sender's per-tile copy. The 32 payload bytes of R157. `a`: the port it arrives at, and the rest of the packet. -/
  | status (a : Arrival) (payload : List Nat)
  /-- OUTCRC (R296). An OUTCRC is compared with the expected picture CRCs and judged MATCH, REPEAT or MISMATCH. Picture CRCs per phase and output CRCs per module. `a`: the port it arrives at, and the rest of the packet. -/
  | outcrc (a : Arrival) (addr fnum : Nat) (pics outs : List Nat)
  /-- LAMPFAULT (R171). LAMPFAULT entries are queued in the sender's whey queue. Entries: lamp index and new status code. `a`: the port it arrives at, and the rest of the packet. -/
  | lampfault (a : Arrival) (addr f : Nat) (entries : List (Nat × Nat)) (more overflow : Bool)
  /-- TILE_HB (R400). A TILE_HB carries role and decision to senders and tiles. `a`: the port it arrives at, and the rest of the packet. -/
  | tileHb (a : Arrival) (addr role decision sinceA sinceB fnum : Nat)
  /-- PCRC_MISSING (R296). A READY tile's OUTCRC not arriving before its frame leaves the window counts MISSING. -/
  | pcrcMissing (p addr phase : Nat)
  /-- LANE_RETIRE (R162). A lane exceeding 16 charged errors in 2^20 segments is retired by spare swap, drop or giving up. -/
  | laneRetire (p lane : Nat)
  /-- PORT_CRC (R163). More than 16 port errors in 2^20 segments set PORT_CRC and request a calibration rotation. -/
  | portCrc (p : Nat)
  /-- LINK_LOSS (R164). A LINKED port losing lock returns to COMMA or DETECT and sets LOCK_LOST. `e`: what the receiver sees. -/
  | linkLoss (p : Nat) (e : LossSigns)
  /-- RETRAIN (R172). A write of RETRAIN puts the port through the exit to COMMA. -/
  | retrain (p : Nat)
  /-- CTRL_TX_CMD (R168). A write to CH_CTRL_TX_CMD sends the packet in TXBUF, or refuses it. -/
  | ctrlTxCmd (p : Nat) (val : Word)
  /-- CTRL_RX_POP (R170). A read removes the oldest received packet into RXBUF and returns its header. -/
  | ctrlRxPop (p : Nat)
  /-- WHEY_POP (R171). A read removes the oldest LAMPFAULT entry. -/
  | wheyPop (p : Nat)
  /-- STATUS_COPY_READ (R173). A read of a tile STATUS copy's first word captures all eight words. -/
  | statusCopyRead (p addr : Nat)
  /-- REF_SWITCH (R179). Loss of the reference CDR switches a tile group PLL to LREFCLK0. -/
  | refSwitch (g : Nat)
  /-- REF_SWITCH_BACK (R179). After the CDR has held lock for 1 ms the group PLL switches back. -/
  | refSwitchBack (g : Nat)
  /-- CDR_LOCK_LOSS (R196). A lane's CDR losing lock sets CDR_LOST. -/
  | cdrLockLoss (lane : Nat)
  /-- TX_RAMP_STEP (R181). Every 1 us a ramped transmit setting moves one code toward its target. -/
  | txRampStep (lane : Nat)
  /-- LANE_TX_WRITE (R181). A write to HP_LANE_TX sets a target, applied at once or ramped. -/
  | laneTxWrite (lane : Nat) (val : Word)
  /-- LANE_RXMAN_WRITE (R186). A write to HP_LANE_RXMAN applies manual settings, or is refused in TRAIN, ACTIVE or SPARE. -/
  | laneRxmanWrite (lane : Nat) (val : Word)
  /-- PRBS_SYNC (R191). A checker enters SYNC after 128 matching bits. `l`: the lane; the seed bits and the 128 bits after them as the line brings them, oldest first. -/
  | prbsSync (l : LaneLine)
  /-- PRBS_SYNC_LOSS (R191). 32 mismatches in 128 bits leave SYNC, count it and reseed. The bits that come in SYNC, oldest first: those before the last 128, and the last. -/
  | prbsSyncLoss (lane : Nat) (before last : List Bool)
  /-- PRBS_CLR (R191). CLR zeroes the PRBS counters. -/
  | prbsClr (lane : Nat)
  /-- PRBS_INJECT (R191). INJECT inverts one bit of the next generator word. -/
  | prbsInject (lane : Nat)
  /-- TEST_EN_WRITE (R192). TEST_EN puts a group in TEST, or is refused for a group in use. The word written to HP_GROUP_CTRL of group `g` (0 to 15 chain ports, 16 to 23 source ports). -/
  | testEnWrite (g : Nat) (val : Word)
  /-- TEST_RATE_CHANGE (R192). A change of TEST_RATE relocks the group PLL within 200 us. -/
  | testRateChange (g rate : Nat)
  /-- EYE_SCAN_START (R195). START begins a host eye scan, or reports BUSY. The word written to HP_EYE_CTRL. -/
  | eyeScanStart (lane : Nat) (val : Word)
  /-- EYE_SCAN_DONE (R194). A host eye scan ends and reports WIDTH, HEIGHT or the error count. The points measured in the WIDTH sweep, in the HEIGHT sweep, and at HOFF and VOFF. -/
  | eyeScanDone (lane : Nat) (width height point : List EyePoint)
  /-- EYE_SCAN_ABORT (R195). A host scan ends ABORTED when calibration needs the unit, or NOLOCK on CDR loss. -/
  | eyeScanAbort (lane : Nat) (nolock : Bool)
  /-- CAL_STEP_START (R212). A receiving end starts a calibration step at the first frame start PERIOD frames after the last. -/
  | calStepStart (g : Nat)
  /-- CAL_FORCE (R212). FORCE starts a requested rotation. -/
  | calForce (g : Nat)
  /-- CLEAR_TRIM (R221). CLEAR_TRIM makes every trim set of the group invalid. -/
  | clearTrim (g : Nat)
  /-- BRIDGE (R209). The transmitter sends the logical lane also on the spare and answers BRIDGED. `a`: the port it arrives at, and the rest of the packet. -/
  | bridge (a : Arrival) (step logical newPhys oldPhys : Nat)
  /-- BRIDGED (R209). On BRIDGED the receiver compares 4,096 columns on the spare with the lane. `a`: the port it arrives at, and the rest of the packet. -/
  | bridged (a : Arrival) (step : Nat)
  /-- CAL_COMPARE_DONE (R209). After the compare passes, the receiver swaps at the next swap line boundary and sends SWITCHED. -/
  | calCompareDone (p : Nat) (pass : Bool)
  /-- SWITCHED (R206). The transmitter records the new map and answers DONE. `a`: the port it arrives at, and the rest of the packet. -/
  | switched (a : Arrival) (step logical newPhys oldPhys : Nat)
  /-- LANECMD_DONE (R209). On DONE the freed lane becomes the spare and ramps and adapts. `a`: the port it arrives at, and the rest of the packet. -/
  | lanecmdDone (a : Arrival) (step : Nat)
  /-- RETIRE (R206). The transmitter puts the lane in RETIRED and answers DONE. `a`: the port it arrives at, and the rest of the packet. -/
  | retire (a : Arrival) (step oldPhys : Nat)
  /-- DROP (R216). The transmitter answers DROPPED and stripes on the new map after its next SKP set. `a`: the port it arrives at, and the rest of the packet. -/
  | drop (a : Arrival) (step oldPhys lanes : Nat)
  /-- DROPPED (R216). The receiver switches to the new map after the next SKP set it receives. `a`: the port it arrives at, and the rest of the packet. -/
  | dropped (a : Arrival) (step : Nat)
  /-- LANECMD_TIMEOUT (R207). An unanswered LANECMD is resent up to 3 times, then the step is abandoned or the port retrains. -/
  | lanecmdTimeout (p : Nat)
  /-- The measurements of a step are done: 1 and 2; or, in an IN_PLACE step that has yet to do it, measurement 0 (R210, R215). -/
  | calMeasureDone (g : Nat) (w0 h0 w1 h1 w2 h2 : List EyePoint)
  /-- CAL_SETTLE_TIMEOUT (R210). Adaptation not settled within 5 ms fails the step with NO_SETTLE. -/
  | calSettleTimeout (g : Nat)
  /-- AFFINAGE_RAMP_STEP (R219). Every RAMP_STEP us one lane field moves one code toward its target, or freezes on a violation. -/
  | affinageRampStep (lane : Nat) (viol : Bool)
  /-- SOURCE_PORT_LOCK (R230). A source port locks when all four lanes lock and two aligned SKP sets arrive. -/
  | sourcePortLock (l : SourceLock)
  /-- FORMAT (R231). A FORMAT packet starts a source frame and is judged against the format in force. On source port `q`; `period`: the time since the engine's previous frame start in 0.25 ns, if there was one. -/
  | format (q sframe : Nat) (fmt : SrcFormat) (period : Option Nat) (w : PktEnd)
  /-- LINE_PACKET (R233). A line packet is accepted into the frame or discarded and counted. `e`: how it ends. -/
  | linePacket (q row col sf : Nat) (last : Bool) (words : List Nat) (e : LineEnd)
  /-- INGEST_FRAME_COMPLETE (R241). A complete source frame is published, or released if damaged under DROP_DAMAGED. -/
  | ingestFrameComplete (v e : Nat)
  /-- INGEST_STOP (R242). Lock loss or no FORMAT within 4 P stops the engine. `lost`: source ports of the engine that lost lock, bit 0 the even or only one, bit 1 the odd one; 0 for 4 P without FORMAT. -/
  | ingestStop (v e lost : Nat)
  /-- INGEST_OVERFLOW (R242). A full input buffer discards arriving packets and invalidates their rows. The rows of the packets discarded. -/
  | ingestOverflow (v e : Nat) (rows : List Nat)
  /-- STOP_HOLD_EXPIRY (R243). After STOP_HOLD frames in STOPPED the store is emptied. -/
  | stopHoldExpiry (v e : Nat)
  /-- OPEN (R246). OPEN opens the lowest free renderer buffer with its tag. -/
  | openBuf (v r : Nat)
  /-- FENCE (R246). FENCE starts the flush of the open buffer. -/
  | fence (v r : Nat)
  /-- FENCE_FLUSH_DONE (R246). When posted writes reach DRAM the buffer becomes newest complete. -/
  | fenceFlushDone (v r : Nat)
  /-- ABORT (R246). ABORT releases the open buffer. -/
  | abortBuf (v r : Nat)
  /-- BAR2_WRITE (R245). A BAR2 write reaches the open buffer as whole bursts or read-modify-write, tagged by the die. `d`: the bytes, and the bursts that cannot be read. -/
  | bar2Write (off : Nat) (d : Bar2Data)
  /-- BAR2_READ (R569). A BAR2 read returns buffer data, or all ones outside a placed buffer. `r`: its length, and whether it meets an uncorrectable error. -/
  | bar2Read (off : Nat) (r : Bar2Span)
  /-- COMPOSE_LINE (R264). The compositor blends the layers of a target line and encodes it. Region line `y` of target `t` of V`v`. Engines as 16 * die + engine: `late` gives the region column from which an engine's words have not arrived, `ue` the bursts, (engine, source row, burst), whose read gives an uncorrectable error. -/
  | composeLine (v t y : Nat) (late : List (Nat × Nat)) (ue : List (Nat × Nat × Nat))
  /-- WRITE_BACK_PUBLISH (R273). A write-back buffer is published when the target's last line is written. -/
  | writeBackPublish (v t : Nat)
  /-- WRITE_BACK_DROP (R274). A full write-back queue drops the frame and sets WB_DAMAGED. -/
  | writeBackDrop (v t : Nat)
  /-- OCRC_CAPTURE (R297). CAPTURE waits for F1's OUTCRCs and stores them as the reference. -/
  | ocrcCapture (p : Nat)
  /-- OCRC_COMPARE (R297). COMPARE compares F2's output CRCs with the reference and queues the differences. -/
  | ocrcCompare (p : Nat)
  /-- OCRC_TIMEOUT (R297). A tile not reporting 16 frames after F1 ends the capture in TIMEOUT. -/
  | ocrcTimeout (p : Nat)
  /-- OCRC_DIFF_POP (R302). A read removes the oldest output CRC difference. -/
  | ocrcDiffPop (p : Nat)
  /-- ROW_CORRECT (R305). The correction half linearises and matrix-corrects an accepted row into the corrected store. `ue`: columns whose coefficients return an uncorrectable error. -/
  | rowCorrect (phase row : Nat) (ue : List Nat)
  /-- ROW_ENCODE (R320). The encode half scales, checks status and encodes a row's counts before upload. Press row `row`; the lists name lamps whose map entry, status or stored value returns an uncorrectable error. -/
  | rowEncode (phase row : Nat) (ueMap ueStatus ueStore : List Nat)
  /-- TSET_WRITE (R310). A write of TSET values is refused for the active bank or during a ramp. `reg`: 0 to 3 for VT_TP_TSET_B0A, B0B, B1A, B1B. -/
  | tsetWrite (reg : Nat) (val : Word)
  /-- WINDOW_LEAD (R338). At a window's lead the Press sends CONFIG with GAIN, WINDOW, and uploads row 0. `rb`: read-back words that differ from those sent: port, place in the row in the order of R348, value. -/
  | windowLead (k : Nat) (rb : List (Nat × Nat × Nat))
  /-- ROW_SLOT_START (R341). At each row slot the port sends NEXT_ROW, uploads the next row, sets ROWA and runs graded GCLK. `rb` as for WINDOW_LEAD, of the upload of the next row. -/
  | rowSlotStart (k row : Nat) (rb : List (Nat × Nat × Nat))
  /-- LAMP_TEST (R350). In a test frame, after a row run, the port captures open and short flags and updates lamp status. `opens` and `shorts`: the words that the two shifts bring back, (port, data line, words in the order of arrival). -/
  | lampTest (k row : Nat) (opens shorts : List (Nat × Nat × List Nat))
  /-- ROW_PROBE (R354). In a probe frame's dark gap a row probe tests eligible lamps. In the gap after window `k`; `opens` and `shorts` as for LAMP_TEST. -/
  | rowProbe (k : Nat) (opens shorts : List (Nat × Nat × List Nat))
  /-- PIN_READBACK_CHECK (R349). Output-pad read-back differences set PIN_ERR, and 16 frames set PIN_STUCK. `r`: what the pads of Press port `q` show. -/
  | pinReadbackCheck (q : Nat) (r : PadReadBack)
  /-- PIN_STUCK_CLEAR (R349). Clearing PIN_STUCK resumes the port at the next window start. -/
  | pinStuckClear (q : Nat)
  /-- OUTPUT_CRC_COMPLETE (R348). The module output CRC of a picture frame completes and is held. -/
  | outputCrcComplete (q : Nat)
  /-- DRAM_REQUEST (R371). A request is arbitrated by class and served on its channel. On channel `c`: `arrive` joins the queue, then one request is served; it waited `wait` ns and its read ended well (0), with a CE (1) or a UE (2). -/
  | dramRequest (c : Nat) (arrive : List DramReq) (wait err : Nat)
  /-- REFRESH_POINT (R374). At each REF point a REF is issued, or postponed for class 0. -/
  | refreshPoint (c : Nat)
  /-- FORCED_REFRESH (R375). With 32 REF owed, one is issued at once. -/
  | forcedRefresh (c : Nat)
  /-- ZQCS (R376). ZQCS is issued between REF points every 64 points. -/
  | zqcs (c : Nat)
  /-- DRAM_TEMP_READ (R377). Every 32 ms MPR page 2 is read, setting TEMP_HI or DRAM_HOT. `band`: 0 every rank at 85 degrees or less, 1 above 85, 2 above 95. -/
  | dramTempRead (c band : Nat)
  /-- PATROL_SCRUB (R382). The patrol scrub reads the next burst in class 5. `r`: how it went. -/
  | patrolScrub (c : Nat) (r : ScrubRead)
  /-- ROW_REPAIR (R383). A second UE at a row repairs it by sPPR at the next REF point. `x`: what the reads of the row met. -/
  | rowRepair (c : Nat) (x : RowReads)
  /-- REPAIR_RECOPY_DONE (R384). The Rind die recopies the repaired bursts from the Cave. -/
  | repairRecopyDone (c : Nat)
  /-- DRAM_FREQ_JUDGE (R387). A scheduled DRAM frequency change is accepted or refused. -/
  | dramFreqJudge (v : Nat)
  /-- DRAM_FREQ_CHANGE (R388). An accepted change switches the clock at the first REF point at or after S. -/
  | dramFreqChange (v : Nat)
  /-- UNFIT_ENTRY (R399). HEALTH short of HMASK for HFRAMES frames makes the port UNFIT. -/
  | unfitEntry (p : Nat)
  /-- FO_KICK (R412). KICK restarts the host timeout. The word written to RD_FO_KICK. -/
  | foKick (val : Word)
  /-- YIELD (R414). YIELD makes an active sender send YIELDING. -/
  | yield (p : Nat)
  /-- NET_TX_FRAME (R430). A queue's head frame starts when its gate is open and it fits the wheel. On port `n`; `busy`: port 0's medium is not idle. -/
  | netTxFrame (n : Nat) (busy : Bool)
  /-- NET_TX_DONE (R419). When a frame is finished, the GN-8 writes word 3 and clears OWN. -/
  | netTxDone (n : Nat)
  /-- NET_RX_FRAME (R421). A received frame is filtered and delivered into a descriptor, or discarded. From the destination address to the FCS. -/
  | netRxFrame (n : Nat) (bytes : List Nat)
  /-- NET_COLLISION (R424). A collision on port 0 jams and schedules back-off, or ends the frame. `late`: after the first 512 bits. -/
  | netCollision (late : Bool)
  /-- PAUSE_RX (R426). A PAUSE received on port 1 starts, replaces or ends a pause. The pause time. -/
  | pauseRx (q : Nat)
  /-- NO_WINDOW (R431). A head frame not started within two full cycles is discarded. -/
  | noWindow (n q : Nat)
  /-- WHEEL_BANK_WRITE (R432). A write to the bank in force is discarded and sets WHEEL_REFUSED. Entry `e` of bank `b`. -/
  | wheelBankWrite (b e : Nat) (val : Word)
  /-- PTP_INC_WRITE (R433). A write to RD_PTP_INC applies the held increment pair. The word written to RD_PTP_INC. -/
  | ptpIncWrite (val : Word)
  /-- PTP_ADJ (R434). A write to RD_PTP_ADJ adds its value on the next tick. The word written to RD_PTP_ADJ. -/
  | ptpAdj (val : Word)
  /-- TRIGGER_ARM (R437). ARM arms a trigger, or refuses a late time. The word written to RD_PTP_TRIG_CTRL of trigger `t`. -/
  | triggerArm (t : Nat) (val : Word)
  /-- TRIGGER_FIRE (R437). The trigger fires when the clock reaches T and advances by PERIOD. -/
  | triggerFire (t : Nat)
  /-- CAPTURE_EDGE (R438). An enabled edge on PTP_CAPc stores PTP time and raster position. `close`: less than 10 ns after a captured edge. -/
  | captureEdge (c : Nat) (rising close : Bool)
  /-- TXTS_POP (R443). A read removes the oldest transmit timestamp and captures its words. -/
  | txtsPop (n : Nat)
  /-- CAP_POP (R448). A read removes the oldest capture entry and captures its words. -/
  | capPop (c : Nat)
  /-- MDIO_CMD (R444). A command starts a clause 22 MDIO write or read. The word written to RD_NET_MDIO_CMD. -/
  | mdioCmd (val : Word)
  /-- MDIO_DONE (R444). The MDIO operation completes after 25.6 us. -/
  | mdioDone (data : Nat)
  /-- AUDIO_MONITOR_EDGE (R454). An audio monitor edge is timestamped and judged for glitch or rate change. Of the output monitor or the input's; `period`: raster ticks since the edge before. -/
  | audioMonitorEdge (n : Nat) (out : Bool) (period : Nat)
  /-- AUDIO_MONITOR_STOP (R454). No monitor edge within 4 P mutes the side with a ramp. -/
  | audioMonitorStop (n : Nat) (out : Bool)
  /-- AUDIO_RATE_MEASURE (R455). After 64 periods the port adopts the nearest rate or reports UNSUPPORTED. -/
  | audioRateMeasure (n : Nat) (out : Bool)
  /-- AUDIO_BLOCK_RX (R456). A received block is classed PCM or NONPCM and its channel status captured. Both words of each frame and its flags: V, U and C of channel 0 in bits 0 to 2, of channel 1 in bits 3 to 5. The block's first frame arrives now. -/
  | audioBlockRx (n : Nat) (frames : List (Nat × Nat × Nat))
  /-- AUDIO_OUTPUT_BLOCK (R458). At each output block the port computes ALIGN and realigns beyond SLIP_LIM. `ue`: frames of the block that are read with an uncorrectable error. -/
  | audioOutputBlock (n : Nat) (ue : List Nat)
  /-- AUDIO_DELAY_RECOMPUTE (R458). D and D_F are recomputed on a commit, a latency change or a rate adoption. -/
  | audioDelayRecompute (n : Nat)
  /-- AUDIO_UNDERRUN (R460). An output frame not yet read is sent as zero with V = 1. Frame `k` of the next output block. -/
  | audioUnderrun (n k : Nat)
  /-- AUDIO_TS_POP (R466). A read removes the oldest audio timestamp and captures its words. -/
  | audioTsPop (n : Nat)
  /-- AUDIO_CS_IN_READ (R465). A read of CS_IN0 captures the rest of the block's channel status. -/
  | audioCsInRead (n : Nat)
  /-- DIE_SENSOR_SAMPLE (R469). An on-die sensor takes a sample and is cross-checked against its neighbours. Sensor `i` of die `d` reads `t`, in 0.125 degrees. -/
  | dieSensorSample (d i : Nat) (t : Int)
  /-- THROTTLE_STEP_DOWN (R476). 100 ms below threshold less hysteresis lowers the stage. -/
  | throttleStepDown (d : Nat)
  /-- MODULE_SENSOR_SAMPLE (R472). A Press port reads its module sensor over I2C. The two bytes as a signed value; none where the read failed on the bus. -/
  | moduleSensorSample (j : Nat) (bytes : Option (Nat × Nat))
  /-- THERMAL_TRIP (R480). A junction at 130 C for 10 us darkens, idles and gates the part until RESET_N. -/
  | thermalTrip (d i : Nat) (t : Int)
  /-- TH_CLR (R487). RD_TH_CLR clears faulty flags and DEVCNT. The word written to RD_TH_CLR. -/
  | thClr (val : Word)
  /-- TH_LIMIT_WRITE (R482). A limit write that breaks the ordering is discarded with LIM_REFUSED. `reg`: 0 RD_TH_DIE_LIM, 1 RD_TH_MOD_LIM. -/
  | thLimitWrite (reg : Nat) (val : Word)
  /-- CRC_START (R497). START sets S to INIT and BYTES to 0, in queue order. -/
  | crcStart (u : Nat)
  /-- CRC_DATA (R492). A data write feeds 1, 2 or 4 bytes through the check arithmetic. `size`: 0 RD_CRC_DATA8, 1 RD_CRC_DATA16, 2 RD_CRC_DATA32 of unit `u`. -/
  | crcData (u size : Nat) (val : Word)
  /-- CRC_CONFIG_WRITE (R491). A configuration or state write enters the queue and applies between bytes. The word written at offset `off` of unit `u`: its configuration, or one half of a pair. -/
  | crcConfigWrite (u off : Nat) (val : Word)
  /-- CRC_RESULT_COMPLETE (R493). When the queue empties the result becomes VALID with a new SEQ. -/
  | crcResultComplete (u : Nat)
  /-- CRC_STATE_READ (R494). A read of STATE_LO waits for the queue and captures STATE_HI. -/
  | crcStateRead (u : Nat)
  /-- CRC_RESULT_INFO_READ (R493). A read of RESULT_INFO captures RESULT_LO and RESULT_HI. -/
  | crcResultInfoRead (u : Nat)
  /-- INSTALL_FW (R509). FW.BIN and MOULD.BIN are verified and written to the slot not booted. FW.BIN and MOULD.BIN as the card holds them, none without the card or the file. -/
  | installFw (fw : Option FwImage) (mould : Option MouldImage)
  /-- INSTALL_TILE (R509). TILE.PKG is verified and written to the distribution area. TILE.PKG. -/
  | installTile (file : Option Package)
  /-- INSTALL_REMOULD (R509). REMOULD.BIN is verified and written to the staging area. The bytes of REMOULD.BIN, and the decoded contents of its sections. -/
  | installRemould (bytes : Option (List Nat)) (contents : MouldImage)
  /-- CONFIRM (R517). CONFIRM confirms a sender in TRIAL and broadcasts FW_CONFIRM. `late`: less than 2 frames before the trial's window ends. -/
  | confirm (late : Bool)
  /-- FW_BEGIN (R511). A receiver accepts or refuses the start of a transfer. `a`: the port it arrives at, and the rest of the packet. -/
  | fwBegin (a : Arrival) (src seq dest kind total id mseq last : Nat) (dirB : Bool)
  /-- FW_DATA (R511). Transfer data goes into the transfer buffer, or fails the transfer when out of order. `a`: the port it arrives at, and the rest of the packet. -/
  | fwData (a : Arrival) (src seq dest off : Nat) (bytes : List Nat)
  /-- FW_END (R511). FW_END starts verification of the received contents. `a`: the port it arrives at, and the rest of the packet. -/
  | fwEnd (a : Arrival) (src seq dest total : Nat)
  /-- FW_VERIFY_DONE (R511). Verification completes, and the tile forwards and writes flash or fails. What the sections of the mould image in the transfer buffer say: the register settings, and the other decoded contents. -/
  | fwVerifyDone (regs : List (Nat × Word)) (contents : MouldImage)
  /-- FW_FLASH_WRITE_DONE (R511). The flash write and read-back complete and the tile is STAGED. -/
  | fwFlashWriteDone (ok : Bool)
  /-- FW_ACTIVATE (R515). A tile records the FW_ACTIVATE operation for frame S. `a`: the port it arrives at, and the rest of the packet. -/
  | fwActivate (a : Arrival) (src seq op sFrame version win tries : Nat)
  /-- FW_CONFIRM (R517). A tile in TRIAL with a matching VERSION confirms. `a`: the port it arrives at, and the rest of the packet. -/
  | fwConfirm (a : Arrival) (src seq version : Nat)
  /-- FW_ABORT (R511). FW_ABORT ends the receiver's transfer with FAILED. `a`: the port it arrives at, and the rest of the packet. -/
  | fwAbort (a : Arrival) (src seq dest : Nat)
  /-- FW_STATE (R512). An FW_STATE whey updates the sender's distribution registers. The 24 payload bytes of R512. `a`: the port it arrives at, and the rest of the packet. -/
  | fwState (a : Arrival) (addr : Nat) (payload : List Nat)
  /-- DIST_START (R513). START begins a distribution on the port. The word written to CH_DIST_CTRL. -/
  | distStart (p : Nat) (val : Word)
  /-- DIST_ABORT (R526). ABORT sends FW_ABORT to the receiver in progress. The word written to CH_DIST_CTRL. -/
  | distAbort (p : Nat) (val : Word)
  /-- ENROLL (R505). ENROLL writes a key into an empty slot from BUF0-15. -/
  | enroll (slot : Nat)
  /-- REVOKE (R520). REVOKE blows a slot's revoke fuse, unless it is the last key. -/
  | revoke (slot : Nat)
  /-- ELOG_SEL_WRITE (R537). A write of RD_ELOG_SEL selects an entry. -/
  | elogSelWrite (val : Word)
  /-- VS (R548). A valid VS starts the K24 tile's frame, sets its address and is forwarded. The packet as received: the running disparity before it and its ten-bit codes from the start symbol through END (R137, R544). The time since the last VS in ps. -/
  | vs (rd : Bool) (codes : List Nat) (v : VsTurn)
  /-- LS (R547). A line packet of the tile's address is accepted, and all are forwarded. As for VS. -/
  | ls (rd : Bool) (codes : List Nat)
  /-- K24_WRITE (R545). A WRITE command sets a legacy register at once. As for VS. -/
  | k24Write (rd : Bool) (codes : List Nat)
  /-- K24_READ (R545). A unicast READ returns RSP upstream within 2 us. As for VS. -/
  | k24Read (rd : Bool) (codes : List Nat)
  /-- K24_BLOCK (R545). A BLOCK command feeds bytes to a data port. As for VS. -/
  | k24Block (rd : Bool) (codes : List Nat)
  /-- RSP (R547). An RSP is forwarded upstream unchanged. `l`: its codes. -/
  | rsp (l : LegacyIn)
  /-- K24_GAM_DATA_ACCESS (R556). A read or write of RD_K24_GAM_DATA accesses the gamma entry and steps the index. A write of the low 16 bits of `val`, or a read. -/
  | k24GamDataAccess (val : Option Nat)
  /-- K24_GAIN_DATA_ACCESS (R556). A read or write of RD_K24_GAIN_DATA accesses the lamp gain and steps the index. A write of the low 8 bits of `val`, or a read. -/
  | k24GainDataAccess (val : Option Nat)
  /-- K24_SAVE (R557). Key 0x5A5A starts a SAVE with the gamma tables. -/
  | k24Save (key : Nat)
  /-- UPD_DATA (R556). A write adds the next byte to the transfer buffer. -/
  | updData (byte : Nat)
  /-- IRQ_CAUSE (R570). A cause occurring sets its pending bit and may activate its vector. -/
  | irqCause (c : Nat)
  /-- MSIX_SEND (R572). An active vector sends its MSI-X message, or sets its PBA bit while masked. -/
  | msixSend (v : Nat)
  /-- IRQ_ACK (R572). A write of a vector number lets it send again, at once if still active. The word written to RD_IRQ_ACK. -/
  | irqAck (val : Word)
  /-- IRQ_CONFIG_WRITE (R573). A change of RD_IRQ_MAP or RD_IRQ_EN is judged at once as a change of activity. -/
  | irqConfigWrite (addr : Nat) (val : Word)
  /-- EXTEST (R576). EXTEST drives the boundary cells, with Press outputs dark under SAFE_DARK. The cells shifted in, and what the scan captured. -/
  | extest (cells : List Bool) (seen : Nat)
  /-- SAMPLE_PRELOAD (R576). SAMPLE/PRELOAD samples or preloads the boundary scan. As for EXTEST. -/
  | samplePreload (cells : List Bool) (seen : Nat)
  /-- ELOG_SEL (R536). The JTAG ELOG_SEL register selects a log entry. -/
  | elogSel (sel : Nat)
  /-- DBG_ACCESS (R576). DBG_ACCESS reaches any die's registers, when debug is open or unlocked. A write of `val`, or a read. -/
  | dbgAccess (addr : Nat) (val : Option Word)
  /-- BYPASS (R576). BYPASS selects the 1-bit bypass register. -/
  | bypass (code : Nat)
  /-- RAIL_FAULT (R587). A rail leaving its range for 1 us acts as RESET_N. `dark`: the Rind die's supply is lost below 0.60 V. -/
  | railFault (dark : Bool)
  /-- LEGACY_LANE_LOCK (R543). A legacy lane locks after CDR lock and 4 consecutive aligned IDLE pairs. -/
  | legacyLaneLock (lane : Nat)
  /-- LEGACY_LANE_LOCK_LOST (R543). A legacy lane loses lock after 16 code violations in 1,024 symbols or 8,192 symbols without K28.5, and its transmitter falls back to IDLE pairs on LREFCLK0. -/
  | legacyLaneLockLost (lane : Nat)
  /-- CHAIN_REF_MARKER_RX (R110). A sender under REF_SEL 0b11 takes a direction-A raster marker on CHAIN_REF_PORT as its reference point and steers its WTG. `lag`: the marker's arrival minus this sender's own frame start, ps. -/
  | chainRefMarkerRx (p : Nat) (lag : Int) (pkt : RasterPkt)
  /-- MSIX_UNMASK (R572). Unmasking a vector or the function, or setting Bus Master Enable, sends the messages held as PBA bits. The host's configuration after its write, and the table entries it wrote: vector, address, data. -/
  | msixUnmask (busMaster enable funcMask : Bool) (vecMask : Nat) (entries : List (Nat × Nat × Nat))
  /-- IDLE_TIMER_EXPIRY (R369). A bank's idle timer reaching IDLE_NS closes its open row. `bank`: 16 rank + 4 bank group + bank. -/
  | idleTimerExpiry (c bank : Nat)
  /-- DRAM_CLASS_PROMOTION (R370). A request waiting past its class's promotion time moves to the next higher class. `i`: place in the queue. -/
  | dramClassPromotion (c i : Nat)
  /-- CAL_ADAPTATION_SETTLED (R209). Adaptation on the freed or in-place lane settles and measurement 1 begins. The settled or computed equaliser settings, laid out as HP_LANE_RXEQ. -/
  | calAdaptationSettled (g : Nat) (eq : Word)
  /-- INSTALL_DONE (R509). An INSTALL command finishes writing and reading back flash, updates the directory and reports INSTALLED or FAILED. -/
  | installDone (ok : Bool)
  /-- SET_CMD_DONE (R524). A settings STORE, DELETE or CLEAR finishes its flash write and RD_SET_RESULT leaves BUSY. `drop`: the older firmware's format cannot express the record. -/
  | setCmdDone (drop : Bool)
  /-- TABLE_CMD_DONE (R332). A READ or correction WRITE through VT_TP_TAB_CMD completes within 2 us and leaves BUSY. `ue`: the read found an uncorrectable error. -/
  | tableCmdDone (ue : Bool)
  /-- ING_FMT_READ (R247). A read of VT_ING_FMT0 captures VT_ING_FMT1 and VT_ING_FMT2. -/
  | ingFmtRead (v e : Nat)
  /-- ERR_LAST_READ (R391). A read of VT_DRAM_ERR_LAST0 captures VT_DRAM_ERR_LAST1. -/
  | errLastRead (c : Nat)
  /-- OCRC_INFO_READ (R362). A read of PR_PORT_OCRC_INFO captures PR_PORT_OCRC. -/
  | ocrcInfoRead (q : Nat)
  /-- UPD_VERIFY_DONE (R557). Verification of the legacy update package ends and the tile moves to WRITING or FAILED. What the sections of the mould image in the transfer buffer say: the register settings, and the other decoded contents. -/
  | updVerifyDone (regs : List (Nat × Word)) (contents : MouldImage)
  /-- UPD_WRITE_DONE (R557). The flash write and read-back of the legacy update end and the tile becomes STAGED or FAILED. -/
  | updWriteDone (ok : Bool)
  /-- UNLOCK (R520). UNLOCK accepts a signed token and opens debug until RELOCK or a start. `slot`: SLOT of the word written, which UNLOCK does not use. -/
  | unlock (slot : Nat)
  /-- RESET_ASSERT (R71). RESET_N low ends all activity, darkens every lamp and idles every transmitter within 1 us. -/
  | resetAssert
  /-- PERST_RELEASE (R73). After PERST_N rises the endpoint answers configuration within 100 ms. -/
  | perstRelease
  /-- PERST_ASSERT (R566). PERST_N low takes the PCIe link down and resets configuration and the MSI-X table, leaving the rest of the part running. -/
  | perstAssert
  /-- FLR (R566). A function-level reset resets the endpoint as PERST_N does, without dropping the link. -/
  | flr
  /-- REMOULD_VERIFY (R57). VERIFY checks the staged image and copies it into Rind RAM. -/
  | remouldVerify
  /-- REMOULD_ARM (R58). ARM arms the verified image for frame T, or refuses it with an error. -/
  | remouldArm
  /-- REMOULD_CANCEL (R66). CANCEL withdraws an armed re-mould until GO is sent. -/
  | remouldCancel
  /-- REMOULD_PARTNER_TIMEOUT (R58). A partner sender not reporting the same arm within 4 frames refuses the arm with error 14. -/
  | remouldPartnerTimeout
  /-- REMOULD_GO_CHECK (R59). At frame T-2 the active sender rechecks the arm and sends GO, or cancels. -/
  | remouldGoCheck
  /-- REMOULD_SWITCH (R61). At T the part switches to the new image by class: live, retrain or restart. -/
  | remouldSwitch
  /-- REMOULD_NO_GO (R59). A tile holding an armed image with no GO by the end of T-1 stays on its image and reports CANCELLED. -/
  | remouldNoGo
  /-- END_DETECT (R85). On a single-sender chain a tile whose OUT port stays in DETECT for 50 ms becomes the chain's end. -/
  | endDetect
  /-- TILE_READY (R87). A tile becomes READY once all its conditions hold. -/
  | tileReady
  /-- RASTER_TICK (R100). Each 400 MHz raster tick advances the raster position by integer arithmetic. -/
  | rasterTick
  /-- FRAME_START (R102). At a frame boundary the GN-8 applies SCHED values, commits, re-mould fields, activations, switch-over and layer flips in order. -/
  | frameStart
  /-- GENLOCK_STOP (R105). No genlock edge within 4 P sets REF_LOST and sends the WTG to HOLDOVER. -/
  | genlockStop
  /-- CHAIN_REF_MARKER_LOSS (R110). Three missing markers on CHAIN_REF_PORT send the WTG to HOLDOVER. -/
  | chainRefMarkerLoss
  /-- SCHED_JUDGE (R111). At frame S-8 the pending geometry is judged and accepted or refused. -/
  | schedJudge
  /-- COMMIT_CUT (R121). At the cut the Rind die takes the pending RWS values and distributes them. -/
  | commitCut
  /-- COMMIT_GO_ACCEPT (R124). Once posted writes have reached their dies, the GO is accepted and judged on time, late, stale or far. -/
  | commitGoAccept
  /-- SAFE_DARK_PIN_SENDER (R143). The sender's SAFE_DARK pin makes every chain port send SAFE_DARK_ON and hold dark. -/
  | safeDarkPinSender
  /-- SAFE_DARK_PIN_TILE (R355). A tile's SAFE_DARK pin darkens every Press port within 2 ticks. -/
  | safeDarkPinTile
  /-- TRIM_SAVE (R220). Changed trim blocks are written to the Cave at most hourly and before a restart. -/
  | trimSave
  /-- TABLE_READ (R332). READ fills the DATA registers from the addressed table entry. -/
  | tableRead
  /-- TABLE_WRITE (R310). WRITE writes a correction entry or queues a lamp-map or status write, or is refused. -/
  | tableWrite
  /-- TABLE_SAVE (R502). SAVE writes the active bank, lamp map and status to the Cave block by block. -/
  | tableSave
  /-- TABLE_SAVE_DONE (R332). A SAVE completes and reports its final state. -/
  | tableSaveDone
  /-- PRESS_DARK (R355). Any dark cause makes the port dark within 2 ticks, and emission resumes when all clear. -/
  | pressDarkEval
  /-- REFEREE_DEADLINE (R402). At each frame's deadline the acting referee judges both senders and may send TAKEOVER. -/
  | refereeDeadline
  /-- REFEREE_FIRST_DECISION (R403). A newly READY referee with no decision after 4 frames decides itself. -/
  | refereeFirstDecision
  /-- DEPUTY_TIMEOUT (R404). No referee TILE_HB for 4 frames makes the deputy act. -/
  | deputyTimeout
  /-- HOST_KICK_TIMEOUT (R399). No RD_FO_KICK within TIMEOUT_MS clears HEALTH bit HOST. -/
  | hostKickTimeout
  /-- BACKOFF_EXPIRY (R424). A back-off ends and the retry waits for its gate. -/
  | backoffExpiry
  /-- PAUSE_EXPIRY (R426). A pause ends after Q x 512 ns. -/
  | pauseExpiry
  /-- FLOW_PAUSE_SEND (R427). Receive descriptors below XOFF send a PAUSE, repeated until XON. -/
  | flowPauseSend
  /-- WHEEL_CYCLE_START (R428). A wheel cycle starts at BASE after a frame start, applying any committed bank change. -/
  | wheelCycleStart
  /-- WHEEL_ENTRY_CHANGE (R429). The wheel moves to the next entry and its gate mask. -/
  | wheelEntryChange
  /-- PTP_TICK (R433). Each 200 MHz tick advances the PTP clock. -/
  | ptpTick
  /-- PTP_SET (R434). SET loads the clock on the next tick, or is refused. -/
  | ptpSet
  /-- PTP_NS_READ (R446). A read of RD_PTP_NS captures the seconds. -/
  | ptpNsRead
  /-- FW_ARM (R514). ARM arms the staged firmware for frame S, or refuses it. -/
  | fwArm
  /-- ARM_REVERT (R514). ARM_REVERT arms a return to the OLD slot, in TRIAL only. -/
  | armRevert
  /-- FW_CANCEL (R522). CANCEL withdraws an armed activation until GO is sent. -/
  | fwCancel
  /-- FW_ACTIVATE_CHECK (R515). At S-2 the sender rechecks and sends FW_ACTIVATE, or cancels. -/
  | fwActivateCheck
  /-- CONFIRM_WINDOW_EXPIRY (R516). CONFIRM_WIN passing without confirmation marks the trial BAD and restarts the part. -/
  | confirmWindowExpiry
  /-- SET_STORE (R524). STORE adds or replaces a settings record. -/
  | setStore
  /-- SET_DELETE (R524). DELETE removes a settings record. -/
  | setDelete
  /-- SET_CLEAR (R524). CLEAR empties the settings store. -/
  | setClear
  /-- LOCK_DEBUG (R520). LOCK_DEBUG blows the debug lock fuse. -/
  | lockDebug
  /-- RELOCK (R520). RELOCK ends UNLOCKED. -/
  | relock
  /-- LOG_EVENT (R530). The logger writes an event into the ring or fatal area, or drops it when the queue is full. The oldest event the logger holds. -/
  | logEvent
  /-- ELOG_DATA_READ (R537). A read of RD_ELOG_DATA0 captures the selected entry's words. -/
  | elogDataRead
  /-- CLR_RING (R540). CLR_RING empties the ring. -/
  | clrRing
  /-- CLR_FATAL (R540). CLR_FATAL empties the fatal area. -/
  | clrFatal
  /-- WATCHDOG_KICK (R539). A firmware kick restarts the watchdog count. -/
  | watchdogKick
  /-- WATCHDOG_WARN (R539). TIMEOUT_MS without a kick sets WARN, logs, and interrupts the processor. -/
  | watchdogWarn
  /-- WATCHDOG_RESTART (R539). GRACE_MS more without a kick logs and restarts the part as RESET_N does. -/
  | watchdogRestart
  /-- VS_HOLD_EXPIRY (R549). After HOLD frames without VS the K24 tile goes dark. -/
  | vsHoldExpiry
  /-- VS_MISSING (R548). Three missing VS put the K24 raster in HOLDOVER. -/
  | vsMissing
  /-- K24_ERR_POP (R552). A read returns the error count and zeroes it. -/
  | k24ErrPop
  /-- UPD_BEGIN (R557). BEGIN empties the transfer buffer and starts receiving. -/
  | updBegin
  /-- UPD_END (R557). END verifies the package and writes it into the slot not booted. -/
  | updEnd
  /-- UPD_APPLY (R557). APPLY at the next VS darkens, marks TRIAL and restarts the part. -/
  | updApply
  /-- UPD_CONFIRM (R557). CONFIRM confirms this K24 tile's trial. -/
  | updConfirm
  /-- UPD_ABORT (R557). ABORT returns the update to IDLE. -/
  | updAbort
  /-- UID_READ (R580). A read of RD_ID_UID_LO captures RD_ID_UID_HI. -/
  | uidRead
  /-- IDCODE (R576). IDCODE returns the 32-bit JTAG identity. -/
  | idcode
  /-- ELOG_DATA (R536). Capture-DR of ELOG_DATA loads one whole log entry. -/
  | elogData
  /-- RAILS_GOOD (R586). Every rail within range for 1 ms ends the power hold. -/
  | railsGood
  /-- SAFE_DARK_PIN_RELEASE (R143). Deassertion of the SAFE_DARK pin makes a sender send SAFE_DARK_OFF and repeat it for 4 frames, and lets a tile's Press resume at the next window start. -/
  | safeDarkPinRelease
  /-- FW_ARM_PARTNER_TIMEOUT (R514). A partner sender not reporting the same firmware arm within 4 frames refuses the arm with error 0x09. -/
  | fwArmPartnerTimeout
  /-- REMOULD_VERIFY_DONE (R57). Verification of the staged image ends with VERIFIED or REFUSED. -/
  | remouldVerifyDone
  /-- SEC_CMD_DONE (R525). An ENROLL, REVOKE, LOCK_DEBUG or UNLOCK command finishes and RD_SEC_RESULT leaves BUSY. -/
  | secCmdDone
  /-- SEC_CHAL_READ (R525). A read of RD_SEC_CHAL_LO captures RD_SEC_CHAL_HI. -/
  | secChalRead
  /-- UPD_APPLY_TIMEOUT (R557). With no VS within 100 ms of APPLY, the K24 tile darkens, marks TRIAL and restarts at once. -/
  | updApplyTimeout
  deriving DecidableEq, Repr

end Sys2Proof
end

