-- ==== Sys2Proof/Decode.lean ====
section
/-!
DEFINITION. Commands as bits. No row of spec/opcode_table.json gives its command any bits: a command is an event or a register access, not a word.
-/

namespace Sys2Proof

/-- The command that a word spells by the table's bits: none, since no row of the table has bits. -/
def decodeTableWord (_nbits _w : Nat) : Option Instr := none

end Sys2Proof
end

