-- ==== Sys2Proof/Config.lean ====
section
/-!
DEFINITION. What an implementation fixes and the manual does not state: free values without a body, so that no proof can see
what they are.
-/

namespace Sys2Proof.Config

/-- The n-th free value a run draws: random numbers (R520, R424, R378) and every value the manual leaves open. -/
opaque freeWord : Nat → BitVec 64

/-- Lot, wafer, die X and die Y of the part's identity fuses (R579). -/
opaque uidTop : BitVec 45

/-- The silicon step of the fuses and the starter version of the ROM (R580). -/
opaque step : BitVec 8
opaque starter : BitVec 16

end Sys2Proof.Config
end

