-- ==== Sys2Proof/Machine/Tab.lean ====
section
/-!
DEFINITION. Tables keyed by a number, in one canonical form: keys strictly rising, no entry equal to what an unlisted
key reads as. The register store, the per-port, per-lane and per-tile records and the sparse memories of the state are such tables.
-/

namespace Sys2Proof.Machine

/-- A table from numbers to values of `α`; a key not listed reads as the default its reader names. -/
abbrev Tab (α : Type) := List (Nat × α)

/-- The entry of key `k`, if listed. -/
def Tab.find {α : Type} (k : Nat) : Tab α → Option α
  | [] => none
  | (j, v) :: t => if j = k then some v else Tab.find k t

/-- The value at `k`, where unlisted keys read as `d k`. -/
def Tab.get {α : Type} (d : Nat → α) (t : Tab α) (k : Nat) : α :=
  (Tab.find k t).getD (d k)

/-- Takes key `k` out. -/
def Tab.del {α : Type} (k : Nat) : Tab α → Tab α
  | [] => []
  | (j, v) :: t => if j = k then Tab.del k t else (j, v) :: Tab.del k t

/-- Puts `v` at key `k`, in key order. -/
def Tab.ins {α : Type} (k : Nat) (v : α) : Tab α → Tab α
  | [] => [(k, v)]
  | (j, w) :: t =>
    if k < j then (k, v) :: (j, w) :: t
    else if k = j then (k, v) :: t
    else (j, w) :: Tab.ins k v t

/-- Writes `v` at `k`: a value equal to what an unlisted key reads as is taken out, any other is put in. -/
def Tab.set {α : Type} [DecidableEq α] (d : Nat → α) (k : Nat) (v : α) (t : Tab α) : Tab α :=
  if v = d k then Tab.del k t else Tab.ins k v t

/-- Every key of the table is above `b`. -/
def Tab.above {α : Type} (b : Nat) : Tab α → Bool
  | [] => true
  | (j, _) :: t => decide (b < j) && Tab.above b t

/-- The keys rise strictly. -/
def Tab.rising {α : Type} : Tab α → Bool
  | [] => true
  | (j, _) :: t => Tab.above j t && Tab.rising t

/-- No entry equals what an unlisted key reads as. -/
def Tab.lean {α : Type} [DecidableEq α] (d : Nat → α) (t : Tab α) : Bool :=
  t.all fun e => decide (e.2 ≠ d e.1)

/-- The canonical form. -/
def Tab.wf {α : Type} [DecidableEq α] (d : Nat → α) (t : Tab α) : Bool :=
  Tab.rising t && Tab.lean d t

end Sys2Proof.Machine
end

