-- ==== Sys2Proof/Machine/Regs.lean ====
section
/-!
DEFINITION. What a register is (R8 to R14), where the register blocks of each die sit (R4, R581), and how a field is taken
out of a word and put into one.
-/

namespace Sys2Proof.Machine

/-- The access types of R10. -/
inductive Acc where
  | ro | rw | rws | w1c | wo
  deriving DecidableEq, Repr

/-- When a written value takes effect (R13). No field of the manual's tables carries RESTART. -/
inductive Applies where
  | imm | commit | sched
  deriving DecidableEq, Repr

/-- The Reset column of a field: a value, M (the mould image, R42), or another source. -/
inductive RstVal where
  | const (v : Nat) | mould | other
  deriving DecidableEq, Repr

/-- One row of a register table. -/
structure FieldDef where
  name : String
  hi : Nat
  lo : Nat
  acc : Acc
  rst : RstVal
  app : Applies
  deriving DecidableEq, Repr

/-- One register of a block: its offset in the block, how many consecutive copies it has and their stride, the offset of the
register it is the `_ACT` companion of (R12), and its fields. -/
structure RegDef where
  name : String
  off : Nat
  cnt : Nat
  stride : Nat
  act : Option Nat
  fields : List FieldDef
  deriving DecidableEq, Repr

/-- A field of a register: the register's BAR0 offset and the field's bits. -/
structure Fld where
  addr : Nat
  hi : Nat
  lo : Nat
  deriving DecidableEq, Repr

/-- The number of bits of a field. -/
def Fld.width (f : Fld) : Nat := f.hi + 1 - f.lo

/-- The field's value in a register word. -/
def Fld.of (f : Fld) (w : Word) : Nat := (w.toNat >>> f.lo) % 2 ^ f.width

/-- The bits of a field as a word mask. -/
def maskOf (hi lo : Nat) : Word := BitVec.ofNat 32 ((2 ^ (hi + 1 - lo) - 1) <<< lo)

/-- The word with the field's bits replaced by `v`, cut to the field's width. -/
def Fld.into (f : Fld) (w : Word) (v : Nat) : Word :=
  let m := maskOf f.hi f.lo
  (w &&& ~~~ m) ||| (BitVec.ofNat 32 (v <<< f.lo) &&& m)

/-- BAR0 window base of die `d` (R4). -/
def dieBase (d : Nat) : Nat := d * 0x1000000

/-! Where the blocks sit (R581 and the chapters' own lines). -/

/-- Rind registers. -/
def atRD (off : Nat) : Nat := off
/-- Chain-port block of port `p` (chapter 03): window of the Hoop die that holds the port (R27). -/
def atCH (p off : Nat) : Nat := dieBase (5 + p / 8) + 0x100000 + 0x100 * (p % 8) + off
/-- The chain-port registers at the offsets whose meaning depends on the role, as a tile has them: these share their BAR0
offsets with the sender's, so the store keeps them under keys above the 128 MiB of BAR0. -/
def atCHT (p off : Nat) : Nat := 0x8000000 + atCH p off
/-- The same offsets as a sender has them. -/
def atCHS (p off : Nat) : Nat := atCH p off
/-- Lane block of lane `n`, 0 to 111 (chapter 06). -/
def atLANE (n off : Nat) : Nat := dieBase (5 + n / 56) + 0x400000 + 0x40 * (n % 56) + off
/-- Group block: `g` = 0 to 15 the chain port's group, 16 to 23 the group of source port `g - 16` (chapter 06). -/
def atGROUP (g off : Nat) : Nat :=
  if g < 16 then dieBase (5 + g / 8) + 0x410000 + 0x20 * (g % 8) + off
  else dieBase (5 + (g - 16) / 4) + 0x410000 + 0x20 * (8 + (g - 16) % 4) + off
/-- Trim set `j` of lane `n` (chapter 07). -/
def atTRIM (n j : Nat) : Nat := dieBase (5 + n / 56) + 0x420000 + 0x40 * (n % 56) + 8 * j
/-- Ingest engine `e` of Vat die V`v` (chapter 08). -/
def atING (v e off : Nat) : Nat := dieBase (1 + v) + 0x20000 + 0x100 * e + off
/-- Renderer store `r` of V`v` (chapter 08). -/
def atRND (v r off : Nat) : Nat := dieBase (1 + v) + 0x21000 + 0x100 * r + off
/-- Write-back store `w` of V`v` (chapter 09). -/
def atWB (v w off : Nat) : Nat := dieBase (1 + v) + 0x22000 + 0x100 * w + off
/-- Layer engine `e` of V`v` (chapter 09). -/
def atLE (v e off : Nat) : Nat := dieBase (1 + v) + 0x30000 + 0x100 * e + off
/-- Composition target `t` of V`v` (chapter 09). -/
def atTGT (v t off : Nat) : Nat := dieBase (1 + v) + 0x31000 + 0x80 * t + off
/-- Composition registers of V`v` (chapter 09). -/
def atVTC (v off : Nat) : Nat := dieBase (1 + v) + off
/-- Coefficient set `k` of V`v` (R284). -/
def atCOEF (v k off : Nat) : Nat := dieBase (1 + v) + 0x34000 + 0x800 * k + off
/-- DRAM channel `c`, 0 to 7, on its Vat die (R29, chapter 13). -/
def atDCH (c off : Nat) : Nat := dieBase (1 + c / 2) + 0x50000 + 0x100 * (c % 2) + off
/-- DRAM registers of a Vat die (R393). -/
def atDDIE (v off : Nat) : Nat := dieBase (1 + v) + 0x50200 + off
/-- Tile pixel path, on V0 (chapter 11). -/
def atTP (off : Nat) : Nat := dieBase 1 + 0x60000 + off
/-- Press slot scheduler (chapter 12). -/
def atSLOT (off : Nat) : Nat := dieBase 7 + 0x10000 + off
/-- Press diagnosis. -/
def atDIAG (off : Nat) : Nat := dieBase 7 + 0x10100 + off
/-- Press pattern engine. -/
def atPAT (off : Nat) : Nat := dieBase 7 + 0x10200 + off
/-- Press port `q`. -/
def atPORT (q off : Nat) : Nat := dieBase 7 + 0x20000 + 0x100 * q + off
/-- Network port `n` (chapter 15). -/
def atNET (n off : Nat) : Nat := 0x10000 + 0x1000 * n + off
/-- The wheel. -/
def atWHEEL (off : Nat) : Nat := 0x12000 + off
/-- PTP clock. -/
def atPTP (off : Nat) : Nat := 0x13000 + off
/-- PTP trigger `t`. -/
def atTRIG (t off : Nat) : Nat := 0x13040 + 0x20 * t + off
/-- PTP capture input `c`. -/
def atCAP (c off : Nat) : Nat := 0x13080 + 0x20 * c + off
/-- Audio port `n` (chapter 16). -/
def atAUD (n off : Nat) : Nat := 0x14000 + 0x100 * n + off
/-- Check-value unit `u` (chapter 18). -/
def atCRC (u off : Nat) : Nat := 0x15000 + 0x100 * u + off
/-- The legacy window (chapter 21); `off` is 4 times the legacy address. -/
def atK24 (off : Nat) : Nat := 0x100000 + off

end Sys2Proof.Machine
end

