-- ==== Sys2Proof/Machine/Fields.lean ====
section
/-!
DEFINITION. One name for each register field the meanings read or write: block prefix, register and field name as the manual's
tables have them, its instance numbers as arguments, its bits as the tables give them.
-/

namespace Sys2Proof.Machine.F

/-- RD_DIE_STATE.ROLE. -/
def RD_DIE_STATE_ROLE : Fld := ⟨(atRD 0x40), 26, 24⟩
/-- RD_DIE_STATE.LINK_FAIL. -/
def RD_DIE_STATE_LINK_FAIL : Fld := ⟨(atRD 0x40), 23, 16⟩
/-- RD_DIE_STATE.DIE_RUN. -/
def RD_DIE_STATE_DIE_RUN : Fld := ⟨(atRD 0x40), 15, 8⟩
/-- RD_DIE_STATE.DIE_ON. -/
def RD_DIE_STATE_DIE_ON : Fld := ⟨(atRD 0x40), 7, 0⟩
/-- RD_PRES_LAT.PRES_LAT. -/
def RD_PRES_LAT_PRES_LAT : Fld := ⟨(atRD 0x44), 31, 0⟩
/-- RD_MOULD_STATUS.VALID. -/
def RD_MOULD_STATUS_VALID : Fld := ⟨(atRD 0x100), 31, 31⟩
/-- RD_MOULD_STATUS.SEQ. -/
def RD_MOULD_STATUS_SEQ : Fld := ⟨(atRD 0x100), 23, 16⟩
/-- RD_MOULD_STATUS.MOULD_LIMIT. -/
def RD_MOULD_STATUS_MOULD_LIMIT : Fld := ⟨(atRD 0x100), 15, 15⟩
/-- RD_MOULD_STATUS.SOURCE. -/
def RD_MOULD_STATUS_SOURCE : Fld := ⟨(atRD 0x100), 14, 12⟩
/-- RD_MOULD_STATUS.STATE. -/
def RD_MOULD_STATUS_STATE : Fld := ⟨(atRD 0x100), 11, 8⟩
/-- RD_MOULD_STATUS.ERR. -/
def RD_MOULD_STATUS_ERR : Fld := ⟨(atRD 0x100), 7, 0⟩
/-- RD_MOULD_INFO.MOULD_SEQ. -/
def RD_MOULD_INFO_MOULD_SEQ : Fld := ⟨(atRD 0x108), 31, 16⟩
/-- RD_MOULD_INFO.PHASES. -/
def RD_MOULD_INFO_PHASES : Fld := ⟨(atRD 0x108), 10, 8⟩
/-- RD_MOULD_INFO.SENDER_END. -/
def RD_MOULD_INFO_SENDER_END : Fld := ⟨(atRD 0x108), 5, 4⟩
/-- RD_MOULD_INFO.FORMAT. -/
def RD_MOULD_INFO_FORMAT : Fld := ⟨(atRD 0x108), 3, 0⟩
/-- RD_REMOULD_CTRL.CMD. -/
def RD_REMOULD_CTRL_CMD : Fld := ⟨(atRD 0x110), 1, 0⟩
/-- RD_REMOULD_RESULT.VALID. -/
def RD_REMOULD_RESULT_VALID : Fld := ⟨(atRD 0x118), 31, 31⟩
/-- RD_REMOULD_RESULT.SEQ. -/
def RD_REMOULD_RESULT_SEQ : Fld := ⟨(atRD 0x118), 23, 16⟩
/-- RD_REMOULD_RESULT.STATE. -/
def RD_REMOULD_RESULT_STATE : Fld := ⟨(atRD 0x118), 15, 12⟩
/-- RD_REMOULD_RESULT.ERR. -/
def RD_REMOULD_RESULT_ERR : Fld := ⟨(atRD 0x118), 7, 0⟩
/-- RD_BOOT_STATUS.STAGE. -/
def RD_BOOT_STATUS_STAGE : Fld := ⟨(atRD 0x20), 31, 28⟩
/-- RD_BOOT_STATUS.SOURCE. -/
def RD_BOOT_STATUS_SOURCE : Fld := ⟨(atRD 0x20), 26, 24⟩
/-- RD_BOOT_STATUS.ERR. -/
def RD_BOOT_STATUS_ERR : Fld := ⟨(atRD 0x20), 23, 16⟩
/-- RD_BOOT_STATUS.TILE_STATE. -/
def RD_BOOT_STATUS_TILE_STATE : Fld := ⟨(atRD 0x20), 15, 12⟩
/-- RD_WTG_CTRL.REF_SEL. -/
def RD_WTG_CTRL_REF_SEL : Fld := ⟨(atRD 0x208), 31, 30⟩
/-- RD_WTG_CTRL.REF_HOLD. -/
def RD_WTG_CTRL_REF_HOLD : Fld := ⟨(atRD 0x208), 29, 29⟩
/-- RD_WTG_CTRL.JUMP_EN. -/
def RD_WTG_CTRL_JUMP_EN : Fld := ⟨(atRD 0x208), 28, 28⟩
/-- RD_WTG_CTRL.CHAIN_REF_PORT. -/
def RD_WTG_CTRL_CHAIN_REF_PORT : Fld := ⟨(atRD 0x208), 27, 24⟩
/-- RD_WTG_CTRL.GL_DIV. -/
def RD_WTG_CTRL_GL_DIV : Fld := ⟨(atRD 0x208), 23, 21⟩
/-- RD_WTG_CTRL.GL_EDGE. -/
def RD_WTG_CTRL_GL_EDGE : Fld := ⟨(atRD 0x208), 20, 20⟩
/-- RD_WTG_CTRL.LOOP_BW. -/
def RD_WTG_CTRL_LOOP_BW : Fld := ⟨(atRD 0x208), 19, 18⟩
/-- RD_WTG_CTRL.CUT_LINES. -/
def RD_WTG_CTRL_CUT_LINES : Fld := ⟨(atRD 0x208), 15, 8⟩
/-- RD_WTG_LTOTAL.LTOTAL. -/
def RD_WTG_LTOTAL_LTOTAL : Fld := ⟨(atRD 0x20c), 15, 0⟩
/-- RD_WTG_FRATE.NUM. -/
def RD_WTG_FRATE_NUM : Fld := ⟨(atRD 0x210), 31, 12⟩
/-- RD_WTG_FRATE.DEN. -/
def RD_WTG_FRATE_DEN : Fld := ⟨(atRD 0x210), 11, 0⟩
/-- RD_WTG_SCHED_FNUM.S. -/
def RD_WTG_SCHED_FNUM_S : Fld := ⟨(atRD 0x214), 31, 0⟩
/-- RD_WTG_FNUM_LOAD.FNUM_LOAD. -/
def RD_WTG_FNUM_LOAD_FNUM_LOAD : Fld := ⟨(atRD 0x218), 31, 0⟩
/-- RD_WTG_REF_OFFSET.OFFSET. -/
def RD_WTG_REF_OFFSET_OFFSET : Fld := ⟨(atRD 0x21c), 31, 0⟩
/-- RD_WTG_STATUS.STATE. -/
def RD_WTG_STATUS_STATE : Fld := ⟨(atRD 0x220), 31, 28⟩
/-- RD_WTG_STATUS.REF_LOST. -/
def RD_WTG_STATUS_REF_LOST : Fld := ⟨(atRD 0x220), 15, 15⟩
/-- RD_WTG_STATUS.GLITCH. -/
def RD_WTG_STATUS_GLITCH : Fld := ⟨(atRD 0x220), 14, 14⟩
/-- RD_WTG_STATUS.RATE_CHG. -/
def RD_WTG_STATUS_RATE_CHG : Fld := ⟨(atRD 0x220), 13, 13⟩
/-- RD_WTG_STATUS.JUMPED. -/
def RD_WTG_STATUS_JUMPED : Fld := ⟨(atRD 0x220), 12, 12⟩
/-- RD_WTG_STATUS.FNUM_IGN. -/
def RD_WTG_STATUS_FNUM_IGN : Fld := ⟨(atRD 0x220), 11, 11⟩
/-- RD_WTG_STATUS.SCHED_REFUSED. -/
def RD_WTG_STATUS_SCHED_REFUSED : Fld := ⟨(atRD 0x220), 10, 10⟩
/-- RD_WTG_STATUS.GLITCH_COUNT. -/
def RD_WTG_STATUS_GLITCH_COUNT : Fld := ⟨(atRD 0x220), 7, 0⟩
/-- RD_WTG_PHASE_ERR.VALID. -/
def RD_WTG_PHASE_ERR_VALID : Fld := ⟨(atRD 0x224), 31, 31⟩
/-- RD_WTG_PHASE_ERR.SEQ. -/
def RD_WTG_PHASE_ERR_SEQ : Fld := ⟨(atRD 0x224), 29, 22⟩
/-- RD_WTG_PHASE_ERR.ERR. -/
def RD_WTG_PHASE_ERR_ERR : Fld := ⟨(atRD 0x224), 21, 0⟩
/-- RD_COMMIT_CTRL.HOLD. -/
def RD_COMMIT_CTRL_HOLD : Fld := ⟨(atRD 0x230), 0, 0⟩
/-- RD_COMMIT_GO.T. -/
def RD_COMMIT_GO_T : Fld := ⟨(atRD 0x234), 31, 0⟩
/-- RD_COMMIT_RESULT.VALID. -/
def RD_COMMIT_RESULT_VALID : Fld := ⟨(atRD 0x238), 31, 31⟩
/-- RD_COMMIT_RESULT.SEQ. -/
def RD_COMMIT_RESULT_SEQ : Fld := ⟨(atRD 0x238), 23, 16⟩
/-- RD_COMMIT_RESULT.LATE. -/
def RD_COMMIT_RESULT_LATE : Fld := ⟨(atRD 0x238), 15, 15⟩
/-- RD_COMMIT_RESULT.STALE. -/
def RD_COMMIT_RESULT_STALE : Fld := ⟨(atRD 0x238), 14, 14⟩
/-- RD_COMMIT_RESULT.FAR. -/
def RD_COMMIT_RESULT_FAR : Fld := ⟨(atRD 0x238), 13, 13⟩
/-- RD_COMMIT_RESULT.APPLIED. -/
def RD_COMMIT_RESULT_APPLIED : Fld := ⟨(atRD 0x238), 12, 0⟩
/-- RD_COMMIT_STATUS.COMMIT_LATE. -/
def RD_COMMIT_STATUS_COMMIT_LATE : Fld := ⟨(atRD 0x23c), 31, 31⟩
/-- RD_COMMIT_STATUS.GO_IGN. -/
def RD_COMMIT_STATUS_GO_IGN : Fld := ⟨(atRD 0x23c), 30, 30⟩
/-- RD_COMMIT_STATUS.LATE_COUNT. -/
def RD_COMMIT_STATUS_LATE_COUNT : Fld := ⟨(atRD 0x23c), 15, 0⟩
/-- RD_FO_CFG.REFEREE. -/
def RD_FO_CFG_REFEREE : Fld := ⟨(atRD 0x300), 31, 26⟩
/-- RD_FO_CFG.DEPUTY. -/
def RD_FO_CFG_DEPUTY : Fld := ⟨(atRD 0x300), 25, 20⟩
/-- RD_FO_CFG.HB_MISS. -/
def RD_FO_CFG_HB_MISS : Fld := ⟨(atRD 0x300), 17, 16⟩
/-- RD_FO_CFG.LOSS_ACTION. -/
def RD_FO_CFG_LOSS_ACTION : Fld := ⟨(atRD 0x300), 15, 15⟩
/-- RD_FO_CFG.HB_DL. -/
def RD_FO_CFG_HB_DL : Fld := ⟨(atRD 0x300), 14, 8⟩
/-- RD_FO_CFG.REVERT. -/
def RD_FO_CFG_REVERT : Fld := ⟨(atRD 0x300), 7, 0⟩
/-- RD_FO_KICK.TIMEOUT_MS. -/
def RD_FO_KICK_TIMEOUT_MS : Fld := ⟨(atRD 0x304), 31, 16⟩
/-- RD_FO_KICK.KICK. -/
def RD_FO_KICK_KICK : Fld := ⟨(atRD 0x304), 0, 0⟩
/-- RD_TH_DIE_LIM.THR3. -/
def RD_TH_DIE_LIM_THR3 : Fld := ⟨(atRD 0x400), 31, 24⟩
/-- RD_TH_DIE_LIM.THR2. -/
def RD_TH_DIE_LIM_THR2 : Fld := ⟨(atRD 0x400), 23, 16⟩
/-- RD_TH_DIE_LIM.THR1. -/
def RD_TH_DIE_LIM_THR1 : Fld := ⟨(atRD 0x400), 15, 8⟩
/-- RD_TH_DIE_LIM.DIE_HYST. -/
def RD_TH_DIE_LIM_DIE_HYST : Fld := ⟨(atRD 0x400), 7, 4⟩
/-- RD_TH_MOD_LIM.MOD_CRIT. -/
def RD_TH_MOD_LIM_MOD_CRIT : Fld := ⟨(atRD 0x404), 31, 24⟩
/-- RD_TH_MOD_LIM.MOD_HI. -/
def RD_TH_MOD_LIM_MOD_HI : Fld := ⟨(atRD 0x404), 23, 16⟩
/-- RD_TH_MOD_LIM.HYST. -/
def RD_TH_MOD_LIM_HYST : Fld := ⟨(atRD 0x404), 15, 8⟩
/-- RD_TH_MOD_LIM.DEV_LIM. -/
def RD_TH_MOD_LIM_DEV_LIM : Fld := ⟨(atRD 0x404), 7, 0⟩
/-- RD_TH_CEIL_CFG.CEIL_MIN. -/
def RD_TH_CEIL_CFG_CEIL_MIN : Fld := ⟨(atRD 0x408), 31, 16⟩
/-- RD_TH_CEIL_CFG.CSTEP. -/
def RD_TH_CEIL_CFG_CSTEP : Fld := ⟨(atRD 0x408), 15, 8⟩
/-- RD_TH_CEIL_CFG.CDWELL. -/
def RD_TH_CEIL_CFG_CDWELL : Fld := ⟨(atRD 0x408), 7, 0⟩
/-- RD_TH_STATUS.STAGE. -/
def RD_TH_STATUS_STAGE : Fld := ⟨(atRD 0x40c), 31, 28⟩
/-- RD_TH_STATUS.TRIPPED. -/
def RD_TH_STATUS_TRIPPED : Fld := ⟨(atRD 0x40c), 27, 27⟩
/-- RD_TH_STATUS.LIM_REFUSED. -/
def RD_TH_STATUS_LIM_REFUSED : Fld := ⟨(atRD 0x40c), 26, 26⟩
/-- RD_TH_STATUS.SENSOR_FAULT. -/
def RD_TH_STATUS_SENSOR_FAULT : Fld := ⟨(atRD 0x40c), 25, 25⟩
/-- RD_TH_STATUS.STAGE_EV. -/
def RD_TH_STATUS_STAGE_EV : Fld := ⟨(atRD 0x40c), 24, 24⟩
/-- RD_TH_STATUS.CEIL_EV. -/
def RD_TH_STATUS_CEIL_EV : Fld := ⟨(atRD 0x40c), 23, 23⟩
/-- RD_TH_STATUS.TJ_MAX. -/
def RD_TH_STATUS_TJ_MAX : Fld := ⟨(atRD 0x40c), 15, 0⟩
/-- RD_TH_DIE.STAGE. -/
def RD_TH_DIE_STAGE (i : Nat) : Fld := ⟨(atRD (0x410 + 4 * i)), 31, 28⟩
/-- RD_TH_DIE.FAST. -/
def RD_TH_DIE_FAST (i : Nat) : Fld := ⟨(atRD (0x410 + 4 * i)), 27, 27⟩
/-- RD_TH_DIE.NONE_OK. -/
def RD_TH_DIE_NONE_OK (i : Nat) : Fld := ⟨(atRD (0x410 + 4 * i)), 26, 26⟩
/-- RD_TH_DIE.FAULTY. -/
def RD_TH_DIE_FAULTY (i : Nat) : Fld := ⟨(atRD (0x410 + 4 * i)), 20, 16⟩
/-- RD_TH_DIE.MAX. -/
def RD_TH_DIE_MAX (i : Nat) : Fld := ⟨(atRD (0x410 + 4 * i)), 15, 0⟩
/-- RD_TH_SENS_DATA.VALID. -/
def RD_TH_SENS_DATA_VALID : Fld := ⟨(atRD 0x434), 31, 31⟩
/-- RD_TH_SENS_DATA.FAULTY. -/
def RD_TH_SENS_DATA_FAULTY : Fld := ⟨(atRD 0x434), 30, 30⟩
/-- RD_TH_SENS_DATA.SEQ. -/
def RD_TH_SENS_DATA_SEQ : Fld := ⟨(atRD 0x434), 29, 22⟩
/-- RD_TH_SENS_DATA.DEVCNT. -/
def RD_TH_SENS_DATA_DEVCNT : Fld := ⟨(atRD 0x434), 21, 16⟩
/-- RD_TH_SENS_DATA.TEMP. -/
def RD_TH_SENS_DATA_TEMP : Fld := ⟨(atRD 0x434), 15, 0⟩
/-- RD_TH_MOD.FAULTY. -/
def RD_TH_MOD_FAULTY (i : Nat) : Fld := ⟨(atRD (0x440 + 4 * i)), 31, 31⟩
/-- RD_TH_MOD.FAST. -/
def RD_TH_MOD_FAST (i : Nat) : Fld := ⟨(atRD (0x440 + 4 * i)), 30, 30⟩
/-- RD_TH_MOD.DEVCNT. -/
def RD_TH_MOD_DEVCNT (i : Nat) : Fld := ⟨(atRD (0x440 + 4 * i)), 29, 24⟩
/-- RD_TH_MOD.RDFAIL_N. -/
def RD_TH_MOD_RDFAIL_N (i : Nat) : Fld := ⟨(atRD (0x440 + 4 * i)), 23, 16⟩
/-- RD_TH_MOD.TEMP. -/
def RD_TH_MOD_TEMP (i : Nat) : Fld := ⟨(atRD (0x440 + 4 * i)), 15, 0⟩
/-- RD_TH_CLR.DIE_ALL. -/
def RD_TH_CLR_DIE_ALL : Fld := ⟨(atRD 0x480), 31, 31⟩
/-- RD_TH_CLR.MOD. -/
def RD_TH_CLR_MOD : Fld := ⟨(atRD 0x480), 15, 0⟩
/-- RD_TH_I2C.ADDR. -/
def RD_TH_I2C_ADDR : Fld := ⟨(atRD 0x484), 22, 16⟩
/-- RD_TH_I2C.PTR. -/
def RD_TH_I2C_PTR : Fld := ⟨(atRD 0x484), 15, 8⟩
/-- RD_TH_I2C.FAST. -/
def RD_TH_I2C_FAST : Fld := ⟨(atRD 0x484), 0, 0⟩
/-- RD_FW_STATUS.RUN_SLOT. -/
def RD_FW_STATUS_RUN_SLOT : Fld := ⟨(atRD 0x500), 31, 31⟩
/-- RD_FW_STATUS.RUN_STATE. -/
def RD_FW_STATUS_RUN_STATE : Fld := ⟨(atRD 0x500), 30, 28⟩
/-- RD_FW_STATUS.ALT_STATE. -/
def RD_FW_STATUS_ALT_STATE : Fld := ⟨(atRD 0x500), 27, 25⟩
/-- RD_FW_STATUS.FELL_BACK. -/
def RD_FW_STATUS_FELL_BACK : Fld := ⟨(atRD 0x500), 24, 24⟩
/-- RD_FW_STATUS.SET_DROPPED. -/
def RD_FW_STATUS_SET_DROPPED : Fld := ⟨(atRD 0x500), 23, 23⟩
/-- RD_FW_STATUS.TRIES. -/
def RD_FW_STATUS_TRIES : Fld := ⟨(atRD 0x500), 22, 20⟩
/-- RD_FW_STATUS.WIN_LEFT. -/
def RD_FW_STATUS_WIN_LEFT : Fld := ⟨(atRD 0x500), 15, 0⟩
/-- RD_FW_VER_RUN.VERSION. -/
def RD_FW_VER_RUN_VERSION : Fld := ⟨(atRD 0x504), 31, 0⟩
/-- RD_FW_VER_ALT.VERSION. -/
def RD_FW_VER_ALT_VERSION : Fld := ⟨(atRD 0x508), 31, 0⟩
/-- RD_FW_CTRL.CMD. -/
def RD_FW_CTRL_CMD : Fld := ⟨(atRD 0x50c), 3, 0⟩
/-- RD_FW_SCHED_FNUM.S. -/
def RD_FW_SCHED_FNUM_S : Fld := ⟨(atRD 0x510), 31, 0⟩
/-- RD_FW_CFG.TRIES_INIT. -/
def RD_FW_CFG_TRIES_INIT : Fld := ⟨(atRD 0x514), 18, 16⟩
/-- RD_FW_CFG.CONFIRM_WIN. -/
def RD_FW_CFG_CONFIRM_WIN : Fld := ⟨(atRD 0x514), 15, 0⟩
/-- RD_FW_TILE_VER.VERSION. -/
def RD_FW_TILE_VER_VERSION : Fld := ⟨(atRD 0x51c), 31, 0⟩
/-- RD_FW_RESULT.VALID. -/
def RD_FW_RESULT_VALID : Fld := ⟨(atRD 0x518), 31, 31⟩
/-- RD_FW_RESULT.SEQ. -/
def RD_FW_RESULT_SEQ : Fld := ⟨(atRD 0x518), 29, 22⟩
/-- RD_FW_RESULT.STATE. -/
def RD_FW_RESULT_STATE : Fld := ⟨(atRD 0x518), 21, 18⟩
/-- RD_FW_RESULT.ERR. -/
def RD_FW_RESULT_ERR : Fld := ⟨(atRD 0x518), 7, 0⟩
/-- RD_SET_CMD.OP. -/
def RD_SET_CMD_OP : Fld := ⟨(atRD 0x520), 1, 0⟩
/-- RD_SET_ADDR.OFFSET. -/
def RD_SET_ADDR_OFFSET : Fld := ⟨(atRD 0x524), 26, 0⟩
/-- RD_SET_DATA.VALUE. -/
def RD_SET_DATA_VALUE : Fld := ⟨(atRD 0x528), 31, 0⟩
/-- RD_SET_RESULT.VALID. -/
def RD_SET_RESULT_VALID : Fld := ⟨(atRD 0x52c), 31, 31⟩
/-- RD_SET_RESULT.SEQ. -/
def RD_SET_RESULT_SEQ : Fld := ⟨(atRD 0x52c), 29, 22⟩
/-- RD_SET_RESULT.STATE. -/
def RD_SET_RESULT_STATE : Fld := ⟨(atRD 0x52c), 21, 19⟩
/-- RD_SET_RESULT.COUNT. -/
def RD_SET_RESULT_COUNT : Fld := ⟨(atRD 0x52c), 9, 0⟩
/-- RD_SEC_STATUS.DEBUG_LOCKED. -/
def RD_SEC_STATUS_DEBUG_LOCKED : Fld := ⟨(atRD 0x540), 31, 31⟩
/-- RD_SEC_STATUS.UNLOCKED. -/
def RD_SEC_STATUS_UNLOCKED : Fld := ⟨(atRD 0x540), 30, 30⟩
/-- RD_SEC_STATUS.REVOKED. -/
def RD_SEC_STATUS_REVOKED : Fld := ⟨(atRD 0x540), 27, 24⟩
/-- RD_SEC_STATUS.ENROLLED. -/
def RD_SEC_STATUS_ENROLLED : Fld := ⟨(atRD 0x540), 23, 20⟩
/-- RD_SEC_STATUS.ROLLBACK_CNT. -/
def RD_SEC_STATUS_ROLLBACK_CNT : Fld := ⟨(atRD 0x540), 6, 0⟩
/-- RD_SEC_CMD.SLOT. -/
def RD_SEC_CMD_SLOT : Fld := ⟨(atRD 0x544), 9, 8⟩
/-- RD_SEC_CMD.OP. -/
def RD_SEC_CMD_OP : Fld := ⟨(atRD 0x544), 3, 0⟩
/-- RD_SEC_RESULT.VALID. -/
def RD_SEC_RESULT_VALID : Fld := ⟨(atRD 0x548), 31, 31⟩
/-- RD_SEC_RESULT.SEQ. -/
def RD_SEC_RESULT_SEQ : Fld := ⟨(atRD 0x548), 29, 22⟩
/-- RD_SEC_RESULT.STATE. -/
def RD_SEC_RESULT_STATE : Fld := ⟨(atRD 0x548), 21, 20⟩
/-- RD_SEC_RESULT.ERR. -/
def RD_SEC_RESULT_ERR : Fld := ⟨(atRD 0x548), 3, 0⟩
/-- RD_SEC_BUF.DATA. -/
def RD_SEC_BUF_DATA (i : Nat) : Fld := ⟨(atRD (0x580 + 4 * i)), 31, 0⟩
/-- RD_ELOG_STATUS.NEW. -/
def RD_ELOG_STATUS_NEW : Fld := ⟨(atRD 0x600), 31, 31⟩
/-- RD_ELOG_STATUS.DROP_EV. -/
def RD_ELOG_STATUS_DROP_EV : Fld := ⟨(atRD 0x600), 30, 30⟩
/-- RD_ELOG_STATUS.FATAL_N. -/
def RD_ELOG_STATUS_FATAL_N : Fld := ⟨(atRD 0x600), 21, 16⟩
/-- RD_ELOG_STATUS.COUNT. -/
def RD_ELOG_STATUS_COUNT : Fld := ⟨(atRD 0x600), 11, 0⟩
/-- RD_ELOG_SEL.SEL. -/
def RD_ELOG_SEL_SEL : Fld := ⟨(atRD 0x604), 31, 0⟩
/-- RD_ELOG_CTRL.CLR_RING. -/
def RD_ELOG_CTRL_CLR_RING : Fld := ⟨(atRD 0x608), 31, 31⟩
/-- RD_ELOG_CTRL.CLR_FATAL. -/
def RD_ELOG_CTRL_CLR_FATAL : Fld := ⟨(atRD 0x608), 30, 30⟩
/-- RD_ELOG_CTRL.AREA. -/
def RD_ELOG_CTRL_AREA : Fld := ⟨(atRD 0x608), 29, 29⟩
/-- RD_ELOG_CTRL.IRQ_SEV. -/
def RD_ELOG_CTRL_IRQ_SEV : Fld := ⟨(atRD 0x608), 1, 0⟩
/-- RD_ELOG_HEAD.SEQ. -/
def RD_ELOG_HEAD_SEQ : Fld := ⟨(atRD 0x60c), 31, 0⟩
/-- RD_ELOG_DATA.WORD. -/
def RD_ELOG_DATA_WORD (i : Nat) : Fld := ⟨(atRD (0x610 + 4 * i)), 31, 0⟩
/-- RD_GATED_ACCESS_COUNT.N. -/
def RD_GATED_ACCESS_COUNT_N : Fld := ⟨(atRD 0x640), 31, 0⟩
/-- RD_ELOG_LOST.DROPPED_N. -/
def RD_ELOG_LOST_DROPPED_N : Fld := ⟨(atRD 0x644), 31, 16⟩
/-- RD_ELOG_LOST.CRC_N. -/
def RD_ELOG_LOST_CRC_N : Fld := ⟨(atRD 0x644), 15, 8⟩
/-- RD_ELOG_LOST.FATAL_LOST. -/
def RD_ELOG_LOST_FATAL_LOST : Fld := ⟨(atRD 0x644), 7, 0⟩
/-- RD_WDT_CTRL.EN. -/
def RD_WDT_CTRL_EN : Fld := ⟨(atRD 0x650), 31, 31⟩
/-- RD_WDT_CTRL.LOCK. -/
def RD_WDT_CTRL_LOCK : Fld := ⟨(atRD 0x650), 30, 30⟩
/-- RD_WDT_CTRL.GRACE_MS. -/
def RD_WDT_CTRL_GRACE_MS : Fld := ⟨(atRD 0x650), 23, 16⟩
/-- RD_WDT_CTRL.TIMEOUT_MS. -/
def RD_WDT_CTRL_TIMEOUT_MS : Fld := ⟨(atRD 0x650), 15, 0⟩
/-- RD_WDT_STATUS.WARN. -/
def RD_WDT_STATUS_WARN : Fld := ⟨(atRD 0x654), 31, 31⟩
/-- RD_WDT_STATUS.FIRED. -/
def RD_WDT_STATUS_FIRED : Fld := ⟨(atRD 0x654), 30, 30⟩
/-- RD_WDT_STATUS.RESTART_N. -/
def RD_WDT_STATUS_RESTART_N : Fld := ⟨(atRD 0x654), 23, 16⟩
/-- RD_WDT_STATUS.LEFT_MS. -/
def RD_WDT_STATUS_LEFT_MS : Fld := ⟨(atRD 0x654), 15, 0⟩
/-- RD_IRQ_PEND0.PEND. -/
def RD_IRQ_PEND0_PEND : Fld := ⟨(atRD 0x700), 31, 0⟩
/-- RD_IRQ_PEND1.PEND. -/
def RD_IRQ_PEND1_PEND : Fld := ⟨(atRD 0x704), 4, 0⟩
/-- RD_IRQ_EN0.EN. -/
def RD_IRQ_EN0_EN : Fld := ⟨(atRD 0x708), 31, 0⟩
/-- RD_IRQ_EN1.EN. -/
def RD_IRQ_EN1_EN : Fld := ⟨(atRD 0x70c), 4, 0⟩
/-- RD_IRQ_ACK.VECTOR. -/
def RD_IRQ_ACK_VECTOR : Fld := ⟨(atRD 0x710), 4, 0⟩
/-- RD_IRQ_ACTIVE.ACTIVE. -/
def RD_IRQ_ACTIVE_ACTIVE : Fld := ⟨(atRD 0x714), 31, 0⟩
/-- RD_IRQ_MAP.VEC0. -/
def RD_IRQ_MAP_VEC0 (i : Nat) : Fld := ⟨(atRD (0x720 + 4 * i)), 4, 0⟩
/-- RD_IRQ_MAP.VEC1. -/
def RD_IRQ_MAP_VEC1 (i : Nat) : Fld := ⟨(atRD (0x720 + 4 * i)), 12, 8⟩
/-- RD_IRQ_MAP.VEC2. -/
def RD_IRQ_MAP_VEC2 (i : Nat) : Fld := ⟨(atRD (0x720 + 4 * i)), 20, 16⟩
/-- RD_IRQ_MAP.VEC3. -/
def RD_IRQ_MAP_VEC3 (i : Nat) : Fld := ⟨(atRD (0x720 + 4 * i)), 28, 24⟩
/-- RD_ID_PART.PART. -/
def RD_ID_PART_PART : Fld := ⟨(atRD 0x0), 31, 0⟩
/-- RD_ID_REV.STEP. -/
def RD_ID_REV_STEP : Fld := ⟨(atRD 0x4), 31, 24⟩
/-- RD_ID_REV.STARTER. -/
def RD_ID_REV_STARTER : Fld := ⟨(atRD 0x4), 15, 0⟩
/-- RD_ID_UID_LO.UID. -/
def RD_ID_UID_LO_UID : Fld := ⟨(atRD 0x8), 31, 0⟩
/-- RD_ID_UID_HI.UID. -/
def RD_ID_UID_HI_UID : Fld := ⟨(atRD 0xc), 31, 0⟩
/-- RD_ID_IDCODE.IDCODE. -/
def RD_ID_IDCODE_IDCODE : Fld := ⟨(atRD 0x10), 31, 0⟩
/-- RD_ID_CAPS.DIES. -/
def RD_ID_CAPS_DIES : Fld := ⟨(atRD 0x14), 31, 24⟩
/-- RD_ID_CAPS.CHAIN. -/
def RD_ID_CAPS_CHAIN : Fld := ⟨(atRD 0x14), 23, 16⟩
/-- RD_ID_CAPS.SOURCE. -/
def RD_ID_CAPS_SOURCE : Fld := ⟨(atRD 0x14), 15, 8⟩
/-- RD_ID_CAPS.DDR. -/
def RD_ID_CAPS_DDR : Fld := ⟨(atRD 0x14), 7, 0⟩
/-- RD_LOADED_TIME.LOADED_US. -/
def RD_LOADED_TIME_LOADED_US : Fld := ⟨(atRD 0x24), 31, 0⟩
/-- RD_MOULD_ID.WALL_ID. -/
def RD_MOULD_ID_WALL_ID : Fld := ⟨(atRD 0x104), 31, 0⟩
/-- RD_MOULD_FRATE_MAX.FRATE_MAX. -/
def RD_MOULD_FRATE_MAX_FRATE_MAX : Fld := ⟨(atRD 0x10c), 31, 0⟩
/-- RD_REMOULD_FNUM.FNUM. -/
def RD_REMOULD_FNUM_FNUM : Fld := ⟨(atRD 0x114), 31, 0⟩
/-- RD_REMOULD_NRDY.TILES. -/
def RD_REMOULD_NRDY_TILES (i : Nat) : Fld := ⟨(atRD (0x140 + 4 * i)), 31, 0⟩
/-- RD_RASTER_FNUM.FNUM. -/
def RD_RASTER_FNUM_FNUM : Fld := ⟨(atRD 0x200), 31, 0⟩
/-- RD_RASTER_POS.LPOS. -/
def RD_RASTER_POS_LPOS : Fld := ⟨(atRD 0x204), 31, 16⟩
/-- RD_RASTER_POS.LPHASE. -/
def RD_RASTER_POS_LPHASE : Fld := ⟨(atRD 0x204), 15, 0⟩
/-- RD_WTG_REF_PERIOD.PERIOD. -/
def RD_WTG_REF_PERIOD_PERIOD : Fld := ⟨(atRD 0x228), 31, 0⟩
/-- RD_WTG_STEER.STEER. -/
def RD_WTG_STEER_STEER : Fld := ⟨(atRD 0x22c), 31, 0⟩
/-- RD_TH_SENS_SEL.DIE. -/
def RD_TH_SENS_SEL_DIE : Fld := ⟨(atRD 0x430), 6, 4⟩
/-- RD_TH_SENS_SEL.INDEX. -/
def RD_TH_SENS_SEL_INDEX : Fld := ⟨(atRD 0x430), 3, 0⟩
/-- RD_SEC_CHAL_LO.CHAL. -/
def RD_SEC_CHAL_LO_CHAL : Fld := ⟨(atRD 0x550), 31, 0⟩
/-- RD_SEC_CHAL_HI.CHAL. -/
def RD_SEC_CHAL_HI_CHAL : Fld := ⟨(atRD 0x554), 31, 0⟩
/-- CH_TRAIN_STATE.STATE. -/
def CH_TRAIN_STATE_STATE (p : Nat) : Fld := ⟨(atCH p 0x0), 31, 28⟩
/-- CH_TRAIN_STATE.CAUSE. -/
def CH_TRAIN_STATE_CAUSE (p : Nat) : Fld := ⟨(atCH p 0x0), 27, 24⟩
/-- CH_TRAIN_STATE.ID_DIFF. -/
def CH_TRAIN_STATE_ID_DIFF (p : Nat) : Fld := ⟨(atCH p 0x0), 23, 23⟩
/-- CH_TRAIN_STATE.END. -/
def CH_TRAIN_STATE_END (p : Nat) : Fld := ⟨(atCH p 0x0), 22, 22⟩
/-- CH_TRAIN_STATE.RATE. -/
def CH_TRAIN_STATE_RATE (p : Nat) : Fld := ⟨(atCH p 0x0), 17, 16⟩
/-- CH_LANE_MAP.TX_SPARE. -/
def CH_LANE_MAP_TX_SPARE (p : Nat) : Fld := ⟨(atCH p 0x4), 28, 24⟩
/-- CH_LANE_MAP.TX_ACTIVE. -/
def CH_LANE_MAP_TX_ACTIVE (p : Nat) : Fld := ⟨(atCH p 0x4), 20, 16⟩
/-- CH_LANE_MAP.RX_SPARE. -/
def CH_LANE_MAP_RX_SPARE (p : Nat) : Fld := ⟨(atCH p 0x4), 12, 8⟩
/-- CH_LANE_MAP.RX_ACTIVE. -/
def CH_LANE_MAP_RX_ACTIVE (p : Nat) : Fld := ⟨(atCH p 0x4), 4, 0⟩
/-- CH_SEG_DELAY.VALID. -/
def CH_SEG_DELAY_VALID (p : Nat) : Fld := ⟨(atCH p 0x8), 31, 31⟩
/-- CH_SEG_DELAY.SEQ. -/
def CH_SEG_DELAY_SEQ (p : Nat) : Fld := ⟨(atCH p 0x8), 29, 22⟩
/-- CH_SEG_DELAY.DELAY. -/
def CH_SEG_DELAY_DELAY (p : Nat) : Fld := ⟨(atCH p 0x8), 21, 0⟩
/-- CH_ENUM.VALID. -/
def CH_ENUM_VALID (p : Nat) : Fld := ⟨(atCH p 0xc), 31, 31⟩
/-- CH_ENUM.SEQ. -/
def CH_ENUM_SEQ (p : Nat) : Fld := ⟨(atCH p 0xc), 23, 16⟩
/-- CH_ENUM.CONFLICT. -/
def CH_ENUM_CONFLICT (p : Nat) : Fld := ⟨(atCH p 0xc), 15, 15⟩
/-- CH_ENUM.EXCESS. -/
def CH_ENUM_EXCESS (p : Nat) : Fld := ⟨(atCH p 0xc), 14, 14⟩
/-- CH_ENUM.MISMATCH. -/
def CH_ENUM_MISMATCH (p : Nat) : Fld := ⟨(atCH p 0xc), 13, 13⟩
/-- CH_ENUM.FROM_B. -/
def CH_ENUM_FROM_B (p : Nat) : Fld := ⟨(atCH p 0xc), 12, 12⟩
/-- CH_ENUM.FROM_A. -/
def CH_ENUM_FROM_A (p : Nat) : Fld := ⟨(atCH p 0xc), 11, 11⟩
/-- CH_ENUM.REVERSED. -/
def CH_ENUM_REVERSED (p : Nat) : Fld := ⟨(atCH p 0xc), 10, 10⟩
/-- CH_ENUM.ADDR_COUNT. -/
def CH_ENUM_ADDR_COUNT (p : Nat) : Fld := ⟨(atCH p 0xc), 5, 0⟩
/-- CH_CTG_GEOM.ACTIVE_C. -/
def CH_CTG_GEOM_ACTIVE_C (p : Nat) : Fld := ⟨(atCH p 0x40), 31, 16⟩
/-- CH_CTG_GEOM.LTOTAL_C. -/
def CH_CTG_GEOM_LTOTAL_C (p : Nat) : Fld := ⟨(atCH p 0x40), 15, 0⟩
/-- CH_CTG_OFFSET.OFF_LPOS. -/
def CH_CTG_OFFSET_OFF_LPOS (p : Nat) : Fld := ⟨(atCH p 0x44), 31, 16⟩
/-- CH_CTG_OFFSET.OFF_LPHASE. -/
def CH_CTG_OFFSET_OFF_LPHASE (p : Nat) : Fld := ⟨(atCH p 0x44), 15, 0⟩
/-- CH_CTG_STATUS.REFUSED. -/
def CH_CTG_STATUS_REFUSED (p : Nat) : Fld := ⟨(atCH p 0x48), 31, 31⟩
/-- CH_CTG_STATUS.RUNNING. -/
def CH_CTG_STATUS_RUNNING (p : Nat) : Fld := ⟨(atCH p 0x48), 30, 30⟩
/-- CH_CTG_STATUS.CLINE. -/
def CH_CTG_STATUS_CLINE (p : Nat) : Fld := ⟨(atCH p 0x48), 15, 0⟩
/-- CH_REF_DELAY.DELAY. -/
def CH_REF_DELAY_DELAY (p : Nat) : Fld := ⟨(atCH p 0x58), 31, 0⟩
/-- CH_LINK_STATUS.OVERLOAD. -/
def CH_LINK_STATUS_OVERLOAD (p : Nat) : Fld := ⟨(atCH p 0x1c), 31, 31⟩
/-- CH_LINK_STATUS.OVL_K. -/
def CH_LINK_STATUS_OVL_K (p : Nat) : Fld := ⟨(atCH p 0x1c), 30, 28⟩
/-- CH_LINK_STATUS.RX_GIVEN_UP. -/
def CH_LINK_STATUS_RX_GIVEN_UP (p : Nat) : Fld := ⟨(atCH p 0x1c), 27, 27⟩
/-- CH_LINK_STATUS.DARK_A. -/
def CH_LINK_STATUS_DARK_A (p : Nat) : Fld := ⟨(atCH p 0x1c), 26, 26⟩
/-- CH_LINK_STATUS.DARK_B. -/
def CH_LINK_STATUS_DARK_B (p : Nat) : Fld := ⟨(atCH p 0x1c), 25, 25⟩
/-- CH_LINK_STATUS.PORT_CRC. -/
def CH_LINK_STATUS_PORT_CRC (p : Nat) : Fld := ⟨(atCH p 0x1c), 24, 24⟩
/-- CH_LINK_STATUS.RETIRED. -/
def CH_LINK_STATUS_RETIRED (p : Nat) : Fld := ⟨(atCH p 0x1c), 23, 19⟩
/-- CH_LINK_STATUS.RX_LANES. -/
def CH_LINK_STATUS_RX_LANES (p : Nat) : Fld := ⟨(atCH p 0x1c), 18, 16⟩
/-- CH_LINK_STATUS.TX_LANES. -/
def CH_LINK_STATUS_TX_LANES (p : Nat) : Fld := ⟨(atCH p 0x1c), 15, 13⟩
/-- CH_LINK_STATUS.LOCK_LOST. -/
def CH_LINK_STATUS_LOCK_LOST (p : Nat) : Fld := ⟨(atCH p 0x1c), 12, 12⟩
/-- CH_SEG_COUNT.SEGS. -/
def CH_SEG_COUNT_SEGS (p : Nat) : Fld := ⟨(atCH p 0x20), 31, 0⟩
/-- CH_SEG_ERR.LOCAL. -/
def CH_SEG_ERR_LOCAL (p : Nat) : Fld := ⟨(atCH p 0x24), 31, 20⟩
/-- CH_SEG_ERR.UPSTREAM. -/
def CH_SEG_ERR_UPSTREAM (p : Nat) : Fld := ⟨(atCH p 0x24), 19, 8⟩
/-- CH_SEG_ERR.BADHDR. -/
def CH_SEG_ERR_BADHDR (p : Nat) : Fld := ⟨(atCH p 0x24), 7, 0⟩
/-- CH_LINE_REPEAT.LAST. -/
def CH_LINE_REPEAT_LAST (p : Nat) : Fld := ⟨(atCH p 0x28), 31, 16⟩
/-- CH_LINE_REPEAT.TOTAL. -/
def CH_LINE_REPEAT_TOTAL (p : Nat) : Fld := ⟨(atCH p 0x28), 15, 0⟩
/-- CH_LANE_ERR.LANE0. -/
def CH_LANE_ERR_LANE0 (p : Nat) : Fld := ⟨(atCH p 0x2c), 5, 0⟩
/-- CH_LANE_ERR.LANE1. -/
def CH_LANE_ERR_LANE1 (p : Nat) : Fld := ⟨(atCH p 0x2c), 11, 6⟩
/-- CH_LANE_ERR.LANE2. -/
def CH_LANE_ERR_LANE2 (p : Nat) : Fld := ⟨(atCH p 0x2c), 17, 12⟩
/-- CH_LANE_ERR.LANE3. -/
def CH_LANE_ERR_LANE3 (p : Nat) : Fld := ⟨(atCH p 0x2c), 23, 18⟩
/-- CH_LANE_ERR.LANE4. -/
def CH_LANE_ERR_LANE4 (p : Nat) : Fld := ⟨(atCH p 0x2c), 29, 24⟩
/-- CH_CTRL_STAT.NOACK. -/
def CH_CTRL_STAT_NOACK (p : Nat) : Fld := ⟨(atCH p 0x30), 31, 24⟩
/-- CH_CTRL_STAT.RETRIES. -/
def CH_CTRL_STAT_RETRIES (p : Nat) : Fld := ⟨(atCH p 0x30), 23, 16⟩
/-- CH_CTRL_STAT.DUP. -/
def CH_CTRL_STAT_DUP (p : Nat) : Fld := ⟨(atCH p 0x30), 15, 8⟩
/-- CH_CTRL_STAT.BAD. -/
def CH_CTRL_STAT_BAD (p : Nat) : Fld := ⟨(atCH p 0x30), 7, 0⟩
/-- CH_CTRL_TX_CMD.TYPE. -/
def CH_CTRL_TX_CMD_TYPE (p : Nat) : Fld := ⟨(atCH p 0x74), 31, 24⟩
/-- CH_CTRL_TX_CMD.DEST. -/
def CH_CTRL_TX_CMD_DEST (p : Nat) : Fld := ⟨(atCH p 0x74), 23, 16⟩
/-- CH_CTRL_TX_CMD.LEN. -/
def CH_CTRL_TX_CMD_LEN (p : Nat) : Fld := ⟨(atCH p 0x74), 15, 8⟩
/-- CH_CTRL_TX_RESULT.VALID. -/
def CH_CTRL_TX_RESULT_VALID (p : Nat) : Fld := ⟨(atCH p 0x78), 31, 31⟩
/-- CH_CTRL_TX_RESULT.SEQ. -/
def CH_CTRL_TX_RESULT_SEQ (p : Nat) : Fld := ⟨(atCH p 0x78), 23, 16⟩
/-- CH_CTRL_TX_RESULT.STATE. -/
def CH_CTRL_TX_RESULT_STATE (p : Nat) : Fld := ⟨(atCH p 0x78), 15, 12⟩
/-- CH_CTRL_TX_RESULT.RESULT. -/
def CH_CTRL_TX_RESULT_RESULT (p : Nat) : Fld := ⟨(atCH p 0x78), 11, 8⟩
/-- CH_CTRL_TX_RESULT.PKT_SEQ. -/
def CH_CTRL_TX_RESULT_PKT_SEQ (p : Nat) : Fld := ⟨(atCH p 0x78), 7, 0⟩
/-- CH_CTRL_RX_POP.VALID. -/
def CH_CTRL_RX_POP_VALID (p : Nat) : Fld := ⟨(atCH p 0x7c), 31, 31⟩
/-- CH_CTRL_RX_POP.TYPE. -/
def CH_CTRL_RX_POP_TYPE (p : Nat) : Fld := ⟨(atCH p 0x7c), 23, 16⟩
/-- CH_CTRL_RX_POP.SRC. -/
def CH_CTRL_RX_POP_SRC (p : Nat) : Fld := ⟨(atCH p 0x7c), 15, 8⟩
/-- CH_CTRL_RX_POP.LEN. -/
def CH_CTRL_RX_POP_LEN (p : Nat) : Fld := ⟨(atCH p 0x7c), 7, 0⟩
/-- CH_WHEY_POP.VALID. -/
def CH_WHEY_POP_VALID (p : Nat) : Fld := ⟨(atCH p 0x80), 31, 31⟩
/-- CH_WHEY_POP.ADDR. -/
def CH_WHEY_POP_ADDR (p : Nat) : Fld := ⟨(atCH p 0x80), 30, 25⟩
/-- CH_WHEY_POP.STATUS. -/
def CH_WHEY_POP_STATUS (p : Nat) : Fld := ⟨(atCH p 0x80), 24, 21⟩
/-- CH_WHEY_POP.LAMP. -/
def CH_WHEY_POP_LAMP (p : Nat) : Fld := ⟨(atCH p 0x80), 20, 0⟩
/-- CH_SO_CTRL.PCRC_EN. -/
def CH_SO_CTRL_PCRC_EN (p : Nat) : Fld := ⟨(atCH p 0x90), 31, 31⟩
/-- CH_SO_CTRL.WMARK. -/
def CH_SO_CTRL_WMARK (p : Nat) : Fld := ⟨(atCH p 0x90), 15, 0⟩
/-- CH_SO_STATUS.UNDERRUN. -/
def CH_SO_STATUS_UNDERRUN (p : Nat) : Fld := ⟨(atCH p 0x94), 31, 31⟩
/-- CH_SO_STATUS.URGENT. -/
def CH_SO_STATUS_URGENT (p : Nat) : Fld := ⟨(atCH p 0x94), 30, 30⟩
/-- CH_SO_STATUS.PCRC_MISMATCH. -/
def CH_SO_STATUS_PCRC_MISMATCH (p : Nat) : Fld := ⟨(atCH p 0x94), 29, 29⟩
/-- CH_SO_STATUS.PCRC_MISSING. -/
def CH_SO_STATUS_PCRC_MISSING (p : Nat) : Fld := ⟨(atCH p 0x94), 28, 28⟩
/-- CH_SO_STATUS.SHORT_ACTIVE. -/
def CH_SO_STATUS_SHORT_ACTIVE (p : Nat) : Fld := ⟨(atCH p 0x94), 27, 27⟩
/-- CH_SO_STATUS.FILL. -/
def CH_SO_STATUS_FILL (p : Nat) : Fld := ⟨(atCH p 0x94), 14, 0⟩
/-- CH_SO_UNDERRUN.LAST_CLINE. -/
def CH_SO_UNDERRUN_LAST_CLINE (p : Nat) : Fld := ⟨(atCH p 0x98), 31, 16⟩
/-- CH_SO_UNDERRUN.UNDERRUN_N. -/
def CH_SO_UNDERRUN_UNDERRUN_N (p : Nat) : Fld := ⟨(atCH p 0x98), 15, 0⟩
/-- CH_SO_BGWORDS.BG_WORDS. -/
def CH_SO_BGWORDS_BG_WORDS (p : Nat) : Fld := ⟨(atCH p 0x9c), 31, 0⟩
/-- CH_SO_URG_TIME.URG_US. -/
def CH_SO_URG_TIME_URG_US (p : Nat) : Fld := ⟨(atCH p 0xa0), 31, 0⟩
/-- CH_PCRC_COUNT.MISMATCH_N. -/
def CH_PCRC_COUNT_MISMATCH_N (p : Nat) : Fld := ⟨(atCH p 0xa4), 31, 24⟩
/-- CH_PCRC_COUNT.MISSING_N. -/
def CH_PCRC_COUNT_MISSING_N (p : Nat) : Fld := ⟨(atCH p 0xa4), 23, 16⟩
/-- CH_PCRC_COUNT.REPEAT_N. -/
def CH_PCRC_COUNT_REPEAT_N (p : Nat) : Fld := ⟨(atCH p 0xa4), 15, 0⟩
/-- CH_PCRC_MATCH.MATCH_N. -/
def CH_PCRC_MATCH_MATCH_N (p : Nat) : Fld := ⟨(atCH p 0xa8), 31, 0⟩
/-- CH_PCRC_TILES.TILES. -/
def CH_PCRC_TILES_TILES (p : Nat) : Fld := ⟨(atCH p 0xac), 31, 0⟩
/-- CH_PCRC_MISSED.TILES. -/
def CH_PCRC_MISSED_TILES (p : Nat) : Fld := ⟨(atCH p 0xb0), 31, 0⟩
/-- CH_PCRC_LAST.VALID. -/
def CH_PCRC_LAST_VALID (p : Nat) : Fld := ⟨(atCH p 0xb4), 31, 31⟩
/-- CH_PCRC_LAST.SEQ. -/
def CH_PCRC_LAST_SEQ (p : Nat) : Fld := ⟨(atCH p 0xb4), 29, 22⟩
/-- CH_PCRC_LAST.OUTCOME. -/
def CH_PCRC_LAST_OUTCOME (p : Nat) : Fld := ⟨(atCH p 0xb4), 21, 20⟩
/-- CH_PCRC_LAST.PHASE. -/
def CH_PCRC_LAST_PHASE (p : Nat) : Fld := ⟨(atCH p 0xb4), 19, 18⟩
/-- CH_PCRC_LAST.ADDR. -/
def CH_PCRC_LAST_ADDR (p : Nat) : Fld := ⟨(atCH p 0xb4), 17, 12⟩
/-- CH_PCRC_LAST.FNUM. -/
def CH_PCRC_LAST_FNUM (p : Nat) : Fld := ⟨(atCH p 0xb4), 11, 0⟩
/-- CH_OCRC_CTRL.CMD. -/
def CH_OCRC_CTRL_CMD (p : Nat) : Fld := ⟨(atCH p 0xb8), 1, 0⟩
/-- CH_OCRC_FNUM.FNUM. -/
def CH_OCRC_FNUM_FNUM (p : Nat) : Fld := ⟨(atCH p 0xbc), 31, 0⟩
/-- CH_OCRC_RESULT.VALID. -/
def CH_OCRC_RESULT_VALID (p : Nat) : Fld := ⟨(atCH p 0xc0), 31, 31⟩
/-- CH_OCRC_RESULT.SEQ. -/
def CH_OCRC_RESULT_SEQ (p : Nat) : Fld := ⟨(atCH p 0xc0), 29, 22⟩
/-- CH_OCRC_RESULT.STATE. -/
def CH_OCRC_RESULT_STATE (p : Nat) : Fld := ⟨(atCH p 0xc0), 21, 19⟩
/-- CH_OCRC_RESULT.TILES. -/
def CH_OCRC_RESULT_TILES (p : Nat) : Fld := ⟨(atCH p 0xc0), 17, 12⟩
/-- CH_OCRC_RESULT.DIFF_N. -/
def CH_OCRC_RESULT_DIFF_N (p : Nat) : Fld := ⟨(atCH p 0xc0), 9, 0⟩
/-- CH_OCRC_DIFF_POP.VALID. -/
def CH_OCRC_DIFF_POP_VALID (p : Nat) : Fld := ⟨(atCH p 0xc4), 31, 31⟩
/-- CH_OCRC_DIFF_POP.ADDR. -/
def CH_OCRC_DIFF_POP_ADDR (p : Nat) : Fld := ⟨(atCH p 0xc4), 30, 25⟩
/-- CH_OCRC_DIFF_POP.MODULE. -/
def CH_OCRC_DIFF_POP_MODULE (p : Nat) : Fld := ⟨(atCH p 0xc4), 24, 21⟩
/-- CH_DIST_CTRL.START. -/
def CH_DIST_CTRL_START (p : Nat) : Fld := ⟨(atCH p 0xe8), 31, 31⟩
/-- CH_DIST_CTRL.ABORT. -/
def CH_DIST_CTRL_ABORT (p : Nat) : Fld := ⟨(atCH p 0xe8), 30, 30⟩
/-- CH_DIST_CTRL.KIND. -/
def CH_DIST_CTRL_KIND (p : Nat) : Fld := ⟨(atCH p 0xe8), 29, 28⟩
/-- CH_DIST_CTRL.ORIGIN. -/
def CH_DIST_CTRL_ORIGIN (p : Nat) : Fld := ⟨(atCH p 0xe8), 27, 27⟩
/-- CH_DIST_CTRL.FIRST. -/
def CH_DIST_CTRL_FIRST (p : Nat) : Fld := ⟨(atCH p 0xe8), 21, 16⟩
/-- CH_DIST_CTRL.LAST. -/
def CH_DIST_CTRL_LAST (p : Nat) : Fld := ⟨(atCH p 0xe8), 13, 8⟩
/-- CH_DIST_STATUS.VALID. -/
def CH_DIST_STATUS_VALID (p : Nat) : Fld := ⟨(atCH p 0xec), 31, 31⟩
/-- CH_DIST_STATUS.SEQ. -/
def CH_DIST_STATUS_SEQ (p : Nat) : Fld := ⟨(atCH p 0xec), 29, 22⟩
/-- CH_DIST_STATUS.STATE. -/
def CH_DIST_STATUS_STATE (p : Nat) : Fld := ⟨(atCH p 0xec), 21, 20⟩
/-- CH_DIST_STATUS.AT. -/
def CH_DIST_STATUS_AT (p : Nat) : Fld := ⟨(atCH p 0xec), 13, 8⟩
/-- CH_DIST_STATUS.STAGED_N. -/
def CH_DIST_STATUS_STAGED_N (p : Nat) : Fld := ⟨(atCH p 0xec), 5, 0⟩
/-- CH_DIST_NRDY.TILES. -/
def CH_DIST_NRDY_TILES (p : Nat) : Fld := ⟨(atCH p 0xf0), 31, 0⟩
/-- CH_DIST_FAIL.TILES. -/
def CH_DIST_FAIL_TILES (p : Nat) : Fld := ⟨(atCH p 0xf4), 31, 0⟩
/-- CH_CUM_DELAY_A.DELAY. -/
def CH_CUM_DELAY_A_DELAY (p : Nat) : Fld := ⟨(atCH p 0x10), 31, 0⟩
/-- CH_CUM_DELAY_B.DELAY. -/
def CH_CUM_DELAY_B_DELAY (p : Nat) : Fld := ⟨(atCH p 0x14), 31, 0⟩
/-- CH_TRAIN_COUNT.ATTEMPTS. -/
def CH_TRAIN_COUNT_ATTEMPTS (p : Nat) : Fld := ⟨(atCH p 0x18), 31, 16⟩
/-- CH_TRAIN_COUNT.FAILS. -/
def CH_TRAIN_COUNT_FAILS (p : Nat) : Fld := ⟨(atCH p 0x18), 15, 0⟩
/-- CH_URG_TX.CODE. -/
def CH_URG_TX_CODE (p : Nat) : Fld := ⟨(atCH p 0x84), 15, 8⟩
/-- CH_URG_TX.ARG. -/
def CH_URG_TX_ARG (p : Nat) : Fld := ⟨(atCH p 0x84), 7, 0⟩
/-- CH_LINK_CTRL.RETRAIN. -/
def CH_LINK_CTRL_RETRAIN (p : Nat) : Fld := ⟨(atCH p 0x88), 0, 0⟩
/-- CH_RASTER_STATE.STATE. -/
def CH_RASTER_STATE_STATE (p : Nat) : Fld := ⟨(atCHT p 0x60), 31, 28⟩
/-- CH_RASTER_STATE.DIR. -/
def CH_RASTER_STATE_DIR (p : Nat) : Fld := ⟨(atCHT p 0x60), 27, 27⟩
/-- CH_RASTER_STATE.TRACK_LARGE. -/
def CH_RASTER_STATE_TRACK_LARGE (p : Nat) : Fld := ⟨(atCHT p 0x60), 16, 16⟩
/-- CH_RASTER_STATE.JUMPED. -/
def CH_RASTER_STATE_JUMPED (p : Nat) : Fld := ⟨(atCHT p 0x60), 15, 15⟩
/-- CH_RASTER_STATE.MISSED. -/
def CH_RASTER_STATE_MISSED (p : Nat) : Fld := ⟨(atCHT p 0x60), 14, 14⟩
/-- CH_RASTER_STATE.JUMP_COUNT. -/
def CH_RASTER_STATE_JUMP_COUNT (p : Nat) : Fld := ⟨(atCHT p 0x60), 7, 0⟩
/-- CH_RASTER_ERR.VALID. -/
def CH_RASTER_ERR_VALID (p : Nat) : Fld := ⟨(atCHT p 0x64), 31, 31⟩
/-- CH_RASTER_ERR.SEQ. -/
def CH_RASTER_ERR_SEQ (p : Nat) : Fld := ⟨(atCHT p 0x64), 29, 22⟩
/-- CH_RASTER_ERR.ERR. -/
def CH_RASTER_ERR_ERR (p : Nat) : Fld := ⟨(atCHT p 0x64), 21, 0⟩
/-- CH_DELTA_AB.VALID. -/
def CH_DELTA_AB_VALID (p : Nat) : Fld := ⟨(atCHT p 0x68), 31, 31⟩
/-- CH_DELTA_AB.SEQ. -/
def CH_DELTA_AB_SEQ (p : Nat) : Fld := ⟨(atCHT p 0x68), 29, 22⟩
/-- CH_DELTA_AB.DELTA. -/
def CH_DELTA_AB_DELTA (p : Nat) : Fld := ⟨(atCHT p 0x68), 21, 0⟩
/-- CH_TRACK_ADJ_A.ADJ. -/
def CH_TRACK_ADJ_A_ADJ (p : Nat) : Fld := ⟨(atCHT p 0x6c), 31, 0⟩
/-- CH_TRACK_ADJ_B.ADJ. -/
def CH_TRACK_ADJ_B_ADJ (p : Nat) : Fld := ⟨(atCHT p 0x70), 31, 0⟩
/-- CH_FO_TILE.ACTIVE. -/
def CH_FO_TILE_ACTIVE (p : Nat) : Fld := ⟨(atCHT p 0xd0), 31, 30⟩
/-- CH_FO_TILE.PDIR. -/
def CH_FO_TILE_PDIR (p : Nat) : Fld := ⟨(atCHT p 0xd0), 29, 28⟩
/-- CH_FO_TILE.ROLE. -/
def CH_FO_TILE_ROLE (p : Nat) : Fld := ⟨(atCHT p 0xd0), 27, 26⟩
/-- CH_FO_TILE.LOSS. -/
def CH_FO_TILE_LOSS (p : Nat) : Fld := ⟨(atCHT p 0xd0), 25, 25⟩
/-- CH_FO_TILE.HEALED. -/
def CH_FO_TILE_HEALED (p : Nat) : Fld := ⟨(atCHT p 0xd0), 24, 24⟩
/-- CH_FO_TILE.DOWN_A. -/
def CH_FO_TILE_DOWN_A (p : Nat) : Fld := ⟨(atCHT p 0xd0), 23, 23⟩
/-- CH_FO_TILE.DOWN_B. -/
def CH_FO_TILE_DOWN_B (p : Nat) : Fld := ⟨(atCHT p 0xd0), 22, 22⟩
/-- CH_FO_TILE.RUN. -/
def CH_FO_TILE_RUN (p : Nat) : Fld := ⟨(atCHT p 0xd0), 21, 16⟩
/-- CH_FO_TILE.SINCE_A. -/
def CH_FO_TILE_SINCE_A (p : Nat) : Fld := ⟨(atCHT p 0xd0), 15, 8⟩
/-- CH_FO_TILE.SINCE_B. -/
def CH_FO_TILE_SINCE_B (p : Nat) : Fld := ⟨(atCHT p 0xd0), 7, 0⟩
/-- CH_FO_TILE_EV.TAKEOVER_EV. -/
def CH_FO_TILE_EV_TAKEOVER_EV (p : Nat) : Fld := ⟨(atCHT p 0xd4), 31, 31⟩
/-- CH_FO_TILE_EV.HEAL_EV. -/
def CH_FO_TILE_EV_HEAL_EV (p : Nat) : Fld := ⟨(atCHT p 0xd4), 30, 30⟩
/-- CH_FO_TILE_EV.LOSS_EV. -/
def CH_FO_TILE_EV_LOSS_EV (p : Nat) : Fld := ⟨(atCHT p 0xd4), 29, 29⟩
/-- CH_FO_TILE_EV.DEPUTY_EV. -/
def CH_FO_TILE_EV_DEPUTY_EV (p : Nat) : Fld := ⟨(atCHT p 0xd4), 28, 28⟩
/-- CH_FO_TILE_EV.TAKEOVER_N. -/
def CH_FO_TILE_EV_TAKEOVER_N (p : Nat) : Fld := ⟨(atCHT p 0xd4), 15, 8⟩
/-- CH_FO_TILE_EV.HEAL_N. -/
def CH_FO_TILE_EV_HEAL_N (p : Nat) : Fld := ⟨(atCHT p 0xd4), 7, 0⟩
/-- CH_FO_LAST_TO.FNUM. -/
def CH_FO_LAST_TO_FNUM (p : Nat) : Fld := ⟨(atCHT p 0xd8), 31, 0⟩
/-- CH_FO_LAST_P.FNUM. -/
def CH_FO_LAST_P_FNUM (p : Nat) : Fld := ⟨(atCHT p 0xdc), 31, 0⟩
/-- CH_FO_CTRL.YIELD. -/
def CH_FO_CTRL_YIELD (p : Nat) : Fld := ⟨(atCHS p 0xd0), 31, 31⟩
/-- CH_FO_CTRL.HFRAMES. -/
def CH_FO_CTRL_HFRAMES (p : Nat) : Fld := ⟨(atCHS p 0xd0), 23, 16⟩
/-- CH_FO_CTRL.HMASK. -/
def CH_FO_CTRL_HMASK (p : Nat) : Fld := ⟨(atCHS p 0xd0), 15, 0⟩
/-- CH_FO_STATUS.STATE. -/
def CH_FO_STATUS_STATE (p : Nat) : Fld := ⟨(atCHS p 0xd4), 31, 28⟩
/-- CH_FO_STATUS.DECISION. -/
def CH_FO_STATUS_DECISION (p : Nat) : Fld := ⟨(atCHS p 0xd4), 27, 26⟩
/-- CH_FO_STATUS.REFEREE. -/
def CH_FO_STATUS_REFEREE (p : Nat) : Fld := ⟨(atCHS p 0xd4), 25, 20⟩
/-- CH_FO_STATUS.TAKEOVER_EV. -/
def CH_FO_STATUS_TAKEOVER_EV (p : Nat) : Fld := ⟨(atCHS p 0xd4), 19, 19⟩
/-- CH_FO_STATUS.UNFIT_EV. -/
def CH_FO_STATUS_UNFIT_EV (p : Nat) : Fld := ⟨(atCHS p 0xd4), 18, 18⟩
/-- CH_FO_STATUS.HEALTH. -/
def CH_FO_STATUS_HEALTH (p : Nat) : Fld := ⟨(atCHS p 0xd4), 15, 0⟩
/-- CH_FO_COUNT.TO_N. -/
def CH_FO_COUNT_TO_N (p : Nat) : Fld := ⟨(atCHS p 0xd8), 31, 16⟩
/-- CH_FO_COUNT.UNFIT_N. -/
def CH_FO_COUNT_UNFIT_N (p : Nat) : Fld := ⟨(atCHS p 0xd8), 15, 0⟩
/-- CH_FO_LAST.FNUM. -/
def CH_FO_LAST_FNUM (p : Nat) : Fld := ⟨(atCHS p 0xdc), 31, 0⟩
/-- CH_FO_TILES_B.TILES. -/
def CH_FO_TILES_B_TILES (p : Nat) : Fld := ⟨(atCHS p 0xe0), 31, 0⟩
/-- HP_LANE_STATE.TXS. -/
def HP_LANE_STATE_TXS (n : Nat) : Fld := ⟨(atLANE n 0x0), 31, 28⟩
/-- HP_LANE_STATE.RXS. -/
def HP_LANE_STATE_RXS (n : Nat) : Fld := ⟨(atLANE n 0x0), 27, 24⟩
/-- HP_LANE_STATE.SIGDET. -/
def HP_LANE_STATE_SIGDET (n : Nat) : Fld := ⟨(atLANE n 0x0), 23, 23⟩
/-- HP_LANE_STATE.CDR_LOCK. -/
def HP_LANE_STATE_CDR_LOCK (n : Nat) : Fld := ⟨(atLANE n 0x0), 22, 22⟩
/-- HP_LANE_STATE.RXMAN_REFUSED. -/
def HP_LANE_STATE_RXMAN_REFUSED (n : Nat) : Fld := ⟨(atLANE n 0x0), 21, 21⟩
/-- HP_LANE_STATE.CDR_LOST. -/
def HP_LANE_STATE_CDR_LOST (n : Nat) : Fld := ⟨(atLANE n 0x0), 20, 20⟩
/-- HP_LANE_TXM.SWING. -/
def HP_LANE_TXM_SWING (n : Nat) : Fld := ⟨(atLANE n 0x4), 15, 12⟩
/-- HP_LANE_TXM.PRE. -/
def HP_LANE_TXM_PRE (n : Nat) : Fld := ⟨(atLANE n 0x4), 10, 8⟩
/-- HP_LANE_TXM.POST. -/
def HP_LANE_TXM_POST (n : Nat) : Fld := ⟨(atLANE n 0x4), 7, 4⟩
/-- HP_LANE_TXM.RX_POL. -/
def HP_LANE_TXM_RX_POL (n : Nat) : Fld := ⟨(atLANE n 0x4), 1, 1⟩
/-- HP_LANE_TXM.TX_POL. -/
def HP_LANE_TXM_TX_POL (n : Nat) : Fld := ⟨(atLANE n 0x4), 0, 0⟩
/-- HP_LANE_TX.OVERRIDE. -/
def HP_LANE_TX_OVERRIDE (n : Nat) : Fld := ⟨(atLANE n 0x8), 31, 31⟩
/-- HP_LANE_TX.SWING. -/
def HP_LANE_TX_SWING (n : Nat) : Fld := ⟨(atLANE n 0x8), 15, 12⟩
/-- HP_LANE_TX.PRE. -/
def HP_LANE_TX_PRE (n : Nat) : Fld := ⟨(atLANE n 0x8), 10, 8⟩
/-- HP_LANE_TX.POST. -/
def HP_LANE_TX_POST (n : Nat) : Fld := ⟨(atLANE n 0x8), 7, 4⟩
/-- HP_LANE_TX_ACT.As_HP_LANE_TX. -/
def HP_LANE_TX_ACT_As_HP_LANE_TX (n : Nat) : Fld := ⟨(atLANE n 0xc), 15, 4⟩
/-- HP_PRBS_CTRL.CLR. -/
def HP_PRBS_CTRL_CLR (n : Nat) : Fld := ⟨(atLANE n 0x18), 31, 31⟩
/-- HP_PRBS_CTRL.INJECT. -/
def HP_PRBS_CTRL_INJECT (n : Nat) : Fld := ⟨(atLANE n 0x18), 30, 30⟩
/-- HP_PRBS_CTRL.TX_PAT. -/
def HP_PRBS_CTRL_TX_PAT (n : Nat) : Fld := ⟨(atLANE n 0x18), 5, 4⟩
/-- HP_PRBS_CTRL.RX_PAT. -/
def HP_PRBS_CTRL_RX_PAT (n : Nat) : Fld := ⟨(atLANE n 0x18), 1, 0⟩
/-- HP_PRBS_STAT.SYNC. -/
def HP_PRBS_STAT_SYNC (n : Nat) : Fld := ⟨(atLANE n 0x1c), 31, 31⟩
/-- HP_PRBS_STAT.SYNC_LOST. -/
def HP_PRBS_STAT_SYNC_LOST (n : Nat) : Fld := ⟨(atLANE n 0x1c), 30, 30⟩
/-- HP_PRBS_STAT.SYNC_LOSS_COUNT. -/
def HP_PRBS_STAT_SYNC_LOSS_COUNT (n : Nat) : Fld := ⟨(atLANE n 0x1c), 7, 0⟩
/-- HP_PRBS_ERR.ERR. -/
def HP_PRBS_ERR_ERR (n : Nat) : Fld := ⟨(atLANE n 0x20), 31, 0⟩
/-- HP_PRBS_BITS.BITS. -/
def HP_PRBS_BITS_BITS (n : Nat) : Fld := ⟨(atLANE n 0x24), 31, 0⟩
/-- HP_EYE_CTRL.START. -/
def HP_EYE_CTRL_START (n : Nat) : Fld := ⟨(atLANE n 0x28), 31, 31⟩
/-- HP_EYE_CTRL.MODE. -/
def HP_EYE_CTRL_MODE (n : Nat) : Fld := ⟨(atLANE n 0x28), 30, 29⟩
/-- HP_EYE_CTRL.DWELL. -/
def HP_EYE_CTRL_DWELL (n : Nat) : Fld := ⟨(atLANE n 0x28), 28, 23⟩
/-- HP_EYE_CTRL.HOFF. -/
def HP_EYE_CTRL_HOFF (n : Nat) : Fld := ⟨(atLANE n 0x28), 21, 16⟩
/-- HP_EYE_CTRL.VOFF. -/
def HP_EYE_CTRL_VOFF (n : Nat) : Fld := ⟨(atLANE n 0x28), 15, 10⟩
/-- HP_EYE_CTRL.ERR_LIM. -/
def HP_EYE_CTRL_ERR_LIM (n : Nat) : Fld := ⟨(atLANE n 0x28), 9, 0⟩
/-- HP_EYE_RESULT.VALID. -/
def HP_EYE_RESULT_VALID (n : Nat) : Fld := ⟨(atLANE n 0x2c), 31, 31⟩
/-- HP_EYE_RESULT.SEQ. -/
def HP_EYE_RESULT_SEQ (n : Nat) : Fld := ⟨(atLANE n 0x2c), 29, 22⟩
/-- HP_EYE_RESULT.RES. -/
def HP_EYE_RESULT_RES (n : Nat) : Fld := ⟨(atLANE n 0x2c), 21, 19⟩
/-- HP_EYE_RESULT.WIDTH. -/
def HP_EYE_RESULT_WIDTH (n : Nat) : Fld := ⟨(atLANE n 0x2c), 18, 12⟩
/-- HP_EYE_RESULT.HEIGHT. -/
def HP_EYE_RESULT_HEIGHT (n : Nat) : Fld := ⟨(atLANE n 0x2c), 11, 3⟩
/-- HP_EYE_POINT.ERRORS. -/
def HP_EYE_POINT_ERRORS (n : Nat) : Fld := ⟨(atLANE n 0x30), 31, 0⟩
/-- HP_LANE_CAL.VALID. -/
def HP_LANE_CAL_VALID (n : Nat) : Fld := ⟨(atLANE n 0x34), 31, 31⟩
/-- HP_LANE_CAL.SEQ. -/
def HP_LANE_CAL_SEQ (n : Nat) : Fld := ⟨(atLANE n 0x34), 29, 22⟩
/-- HP_LANE_CAL.WIDTH. -/
def HP_LANE_CAL_WIDTH (n : Nat) : Fld := ⟨(atLANE n 0x34), 21, 15⟩
/-- HP_LANE_CAL.HEIGHT. -/
def HP_LANE_CAL_HEIGHT (n : Nat) : Fld := ⟨(atLANE n 0x34), 14, 6⟩
/-- HP_LANE_CAL.CONSEC_FAIL. -/
def HP_LANE_CAL_CONSEC_FAIL (n : Nat) : Fld := ⟨(atLANE n 0x34), 5, 4⟩
/-- HP_LANE_CAL.CAL_FAIL. -/
def HP_LANE_CAL_CAL_FAIL (n : Nat) : Fld := ⟨(atLANE n 0x34), 3, 3⟩
/-- HP_LANE_CAL.RAMP_FROZEN. -/
def HP_LANE_CAL_RAMP_FROZEN (n : Nat) : Fld := ⟨(atLANE n 0x34), 2, 2⟩
/-- HP_LANE_RXEQ.CTLE. -/
def HP_LANE_RXEQ_CTLE (n : Nat) : Fld := ⟨(atLANE n 0x10), 30, 27⟩
/-- HP_LANE_RXEQ.H1. -/
def HP_LANE_RXEQ_H1 (n : Nat) : Fld := ⟨(atLANE n 0x10), 26, 20⟩
/-- HP_LANE_RXEQ.H2. -/
def HP_LANE_RXEQ_H2 (n : Nat) : Fld := ⟨(atLANE n 0x10), 19, 15⟩
/-- HP_LANE_RXEQ.H3. -/
def HP_LANE_RXEQ_H3 (n : Nat) : Fld := ⟨(atLANE n 0x10), 14, 10⟩
/-- HP_LANE_RXEQ.H4. -/
def HP_LANE_RXEQ_H4 (n : Nat) : Fld := ⟨(atLANE n 0x10), 9, 5⟩
/-- HP_LANE_RXEQ.H5. -/
def HP_LANE_RXEQ_H5 (n : Nat) : Fld := ⟨(atLANE n 0x10), 4, 0⟩
/-- HP_LANE_RXMAN.MANUAL. -/
def HP_LANE_RXMAN_MANUAL (n : Nat) : Fld := ⟨(atLANE n 0x14), 31, 31⟩
/-- HP_LANE_RXMAN.CTLE. -/
def HP_LANE_RXMAN_CTLE (n : Nat) : Fld := ⟨(atLANE n 0x14), 30, 27⟩
/-- HP_LANE_RXMAN.H1. -/
def HP_LANE_RXMAN_H1 (n : Nat) : Fld := ⟨(atLANE n 0x14), 26, 20⟩
/-- HP_LANE_RXMAN.H2. -/
def HP_LANE_RXMAN_H2 (n : Nat) : Fld := ⟨(atLANE n 0x14), 19, 15⟩
/-- HP_LANE_RXMAN.H3. -/
def HP_LANE_RXMAN_H3 (n : Nat) : Fld := ⟨(atLANE n 0x14), 14, 10⟩
/-- HP_LANE_RXMAN.H4. -/
def HP_LANE_RXMAN_H4 (n : Nat) : Fld := ⟨(atLANE n 0x14), 9, 5⟩
/-- HP_LANE_RXMAN.H5. -/
def HP_LANE_RXMAN_H5 (n : Nat) : Fld := ⟨(atLANE n 0x14), 4, 0⟩
/-- HP_LANE_CAL_TGT.CTLE. -/
def HP_LANE_CAL_TGT_CTLE (n : Nat) : Fld := ⟨(atLANE n 0x38), 30, 27⟩
/-- HP_LANE_CAL_TGT.H1. -/
def HP_LANE_CAL_TGT_H1 (n : Nat) : Fld := ⟨(atLANE n 0x38), 26, 20⟩
/-- HP_LANE_CAL_TGT.H2. -/
def HP_LANE_CAL_TGT_H2 (n : Nat) : Fld := ⟨(atLANE n 0x38), 19, 15⟩
/-- HP_LANE_CAL_TGT.H3. -/
def HP_LANE_CAL_TGT_H3 (n : Nat) : Fld := ⟨(atLANE n 0x38), 14, 10⟩
/-- HP_LANE_CAL_TGT.H4. -/
def HP_LANE_CAL_TGT_H4 (n : Nat) : Fld := ⟨(atLANE n 0x38), 9, 5⟩
/-- HP_LANE_CAL_TGT.H5. -/
def HP_LANE_CAL_TGT_H5 (n : Nat) : Fld := ⟨(atLANE n 0x38), 4, 0⟩
/-- HP_LANE_CAL_AGE.SECS. -/
def HP_LANE_CAL_AGE_SECS (n : Nat) : Fld := ⟨(atLANE n 0x3c), 31, 16⟩
/-- HP_LANE_CAL_AGE.N. -/
def HP_LANE_CAL_AGE_N (n : Nat) : Fld := ⟨(atLANE n 0x3c), 15, 0⟩
/-- HP_GROUP_STATE.PLL_LOCK. -/
def HP_GROUP_STATE_PLL_LOCK (g : Nat) : Fld := ⟨(atGROUP g 0x0), 31, 31⟩
/-- HP_GROUP_STATE.RATE. -/
def HP_GROUP_STATE_RATE (g : Nat) : Fld := ⟨(atGROUP g 0x0), 30, 29⟩
/-- HP_GROUP_STATE.REF. -/
def HP_GROUP_STATE_REF (g : Nat) : Fld := ⟨(atGROUP g 0x0), 28, 28⟩
/-- HP_GROUP_STATE.REF_SWITCHED. -/
def HP_GROUP_STATE_REF_SWITCHED (g : Nat) : Fld := ⟨(atGROUP g 0x0), 27, 27⟩
/-- HP_GROUP_STATE.IN_USE. -/
def HP_GROUP_STATE_IN_USE (g : Nat) : Fld := ⟨(atGROUP g 0x0), 26, 26⟩
/-- HP_GROUP_STATE.TEST_REFUSED. -/
def HP_GROUP_STATE_TEST_REFUSED (g : Nat) : Fld := ⟨(atGROUP g 0x0), 25, 25⟩
/-- HP_GROUP_CTRL.TEST_EN. -/
def HP_GROUP_CTRL_TEST_EN (g : Nat) : Fld := ⟨(atGROUP g 0x4), 31, 31⟩
/-- HP_GROUP_CTRL.TEST_RATE. -/
def HP_GROUP_CTRL_TEST_RATE (g : Nat) : Fld := ⟨(atGROUP g 0x4), 30, 29⟩
/-- HP_GROUP_CTRL.LOOP. -/
def HP_GROUP_CTRL_LOOP (g : Nat) : Fld := ⟨(atGROUP g 0x4), 28, 28⟩
/-- HP_CAL_CTRL.EN. -/
def HP_CAL_CTRL_EN (g : Nat) : Fld := ⟨(atGROUP g 0x8), 31, 31⟩
/-- HP_CAL_CTRL.FORCE. -/
def HP_CAL_CTRL_FORCE (g : Nat) : Fld := ⟨(atGROUP g 0x8), 30, 30⟩
/-- HP_CAL_CTRL.CLEAR_TRIM. -/
def HP_CAL_CTRL_CLEAR_TRIM (g : Nat) : Fld := ⟨(atGROUP g 0x8), 29, 29⟩
/-- HP_CAL_CTRL.DWELL. -/
def HP_CAL_CTRL_DWELL (g : Nat) : Fld := ⟨(atGROUP g 0x8), 28, 23⟩
/-- HP_CAL_CTRL.RAMP_STEP. -/
def HP_CAL_CTRL_RAMP_STEP (g : Nat) : Fld := ⟨(atGROUP g 0x8), 22, 16⟩
/-- HP_CAL_CTRL.PERIOD. -/
def HP_CAL_CTRL_PERIOD (g : Nat) : Fld := ⟨(atGROUP g 0x8), 15, 0⟩
/-- HP_CAL_LIMITS.MIN_H. -/
def HP_CAL_LIMITS_MIN_H (g : Nat) : Fld := ⟨(atGROUP g 0xc), 31, 23⟩
/-- HP_CAL_LIMITS.MIN_W. -/
def HP_CAL_LIMITS_MIN_W (g : Nat) : Fld := ⟨(atGROUP g 0xc), 22, 16⟩
/-- HP_CAL_LIMITS.TOL_H. -/
def HP_CAL_LIMITS_TOL_H (g : Nat) : Fld := ⟨(atGROUP g 0xc), 15, 12⟩
/-- HP_CAL_LIMITS.TOL_W. -/
def HP_CAL_LIMITS_TOL_W (g : Nat) : Fld := ⟨(atGROUP g 0xc), 11, 8⟩
/-- HP_CAL_STATUS.VALID. -/
def HP_CAL_STATUS_VALID (g : Nat) : Fld := ⟨(atGROUP g 0x10), 31, 31⟩
/-- HP_CAL_STATUS.IN_PLACE. -/
def HP_CAL_STATUS_IN_PLACE (g : Nat) : Fld := ⟨(atGROUP g 0x10), 30, 30⟩
/-- HP_CAL_STATUS.SEQ. -/
def HP_CAL_STATUS_SEQ (g : Nat) : Fld := ⟨(atGROUP g 0x10), 29, 22⟩
/-- HP_CAL_STATUS.STEP. -/
def HP_CAL_STATUS_STEP (g : Nat) : Fld := ⟨(atGROUP g 0x10), 21, 19⟩
/-- HP_CAL_STATUS.LANE. -/
def HP_CAL_STATUS_LANE (g : Nat) : Fld := ⟨(atGROUP g 0x10), 18, 16⟩
/-- HP_CAL_STATUS.OUTCOME. -/
def HP_CAL_STATUS_OUTCOME (g : Nat) : Fld := ⟨(atGROUP g 0x10), 15, 13⟩
/-- HP_CAL_STATUS.REQUESTED. -/
def HP_CAL_STATUS_REQUESTED (g : Nat) : Fld := ⟨(atGROUP g 0x10), 12, 12⟩
/-- HP_CAL_STATUS.ROTATIONS. -/
def HP_CAL_STATUS_ROTATIONS (g : Nat) : Fld := ⟨(atGROUP g 0x10), 11, 0⟩
/-- HP_CAL_COUNT.STEPS. -/
def HP_CAL_COUNT_STEPS (g : Nat) : Fld := ⟨(atGROUP g 0x14), 31, 16⟩
/-- HP_CAL_COUNT.FAILS. -/
def HP_CAL_COUNT_FAILS (g : Nat) : Fld := ⟨(atGROUP g 0x14), 15, 8⟩
/-- HP_CAL_COUNT.ABANDONED. -/
def HP_CAL_COUNT_ABANDONED (g : Nat) : Fld := ⟨(atGROUP g 0x14), 7, 0⟩
/-- HP_CAL_TEMP.TEMP. -/
def HP_CAL_TEMP_TEMP (g : Nat) : Fld := ⟨(atGROUP g 0x18), 15, 0⟩
/-- HP_CAL_MAP.RX_SPARE. -/
def HP_CAL_MAP_RX_SPARE (g : Nat) : Fld := ⟨(atGROUP g 0x1c), 14, 12⟩
/-- HP_CAL_MAP.TX_SPARE. -/
def HP_CAL_MAP_TX_SPARE (g : Nat) : Fld := ⟨(atGROUP g 0x1c), 30, 28⟩
/-- HP_CAL_MAP.RX_L0. -/
def HP_CAL_MAP_RX_L0 (g : Nat) : Fld := ⟨(atGROUP g 0x1c), 2, 0⟩
/-- HP_CAL_MAP.TX_L0. -/
def HP_CAL_MAP_TX_L0 (g : Nat) : Fld := ⟨(atGROUP g 0x1c), 18, 16⟩
/-- HP_CAL_MAP.RX_L1. -/
def HP_CAL_MAP_RX_L1 (g : Nat) : Fld := ⟨(atGROUP g 0x1c), 5, 3⟩
/-- HP_CAL_MAP.TX_L1. -/
def HP_CAL_MAP_TX_L1 (g : Nat) : Fld := ⟨(atGROUP g 0x1c), 21, 19⟩
/-- HP_CAL_MAP.RX_L2. -/
def HP_CAL_MAP_RX_L2 (g : Nat) : Fld := ⟨(atGROUP g 0x1c), 8, 6⟩
/-- HP_CAL_MAP.TX_L2. -/
def HP_CAL_MAP_TX_L2 (g : Nat) : Fld := ⟨(atGROUP g 0x1c), 24, 22⟩
/-- HP_CAL_MAP.RX_L3. -/
def HP_CAL_MAP_RX_L3 (g : Nat) : Fld := ⟨(atGROUP g 0x1c), 11, 9⟩
/-- HP_CAL_MAP.TX_L3. -/
def HP_CAL_MAP_TX_L3 (g : Nat) : Fld := ⟨(atGROUP g 0x1c), 27, 25⟩
/-- VT_ING_CTRL.DROP_DAMAGED. -/
def VT_ING_CTRL_DROP_DAMAGED (v e : Nat) : Fld := ⟨(atING v e 0x0), 31, 31⟩
/-- VT_ING_CTRL.STOP_HOLD. -/
def VT_ING_CTRL_STOP_HOLD (v e : Nat) : Fld := ⟨(atING v e 0x0), 7, 0⟩
/-- VT_ING_STATUS.STATE. -/
def VT_ING_STATUS_STATE (v e : Nat) : Fld := ⟨(atING v e 0x4), 31, 28⟩
/-- VT_ING_STATUS.PORT. -/
def VT_ING_STATUS_PORT (v e : Nat) : Fld := ⟨(atING v e 0x4), 27, 24⟩
/-- VT_ING_STATUS.BONDED. -/
def VT_ING_STATUS_BONDED (v e : Nat) : Fld := ⟨(atING v e 0x4), 23, 23⟩
/-- VT_ING_STATUS.STOPPED_EV. -/
def VT_ING_STATUS_STOPPED_EV (v e : Nat) : Fld := ⟨(atING v e 0x4), 22, 22⟩
/-- VT_ING_STATUS.GLITCH. -/
def VT_ING_STATUS_GLITCH (v e : Nat) : Fld := ⟨(atING v e 0x4), 21, 21⟩
/-- VT_ING_STATUS.FMT_CHG. -/
def VT_ING_STATUS_FMT_CHG (v e : Nat) : Fld := ⟨(atING v e 0x4), 20, 20⟩
/-- VT_ING_STATUS.DAMAGED. -/
def VT_ING_STATUS_DAMAGED (v e : Nat) : Fld := ⟨(atING v e 0x4), 19, 19⟩
/-- VT_ING_STATUS.TRUNC. -/
def VT_ING_STATUS_TRUNC (v e : Nat) : Fld := ⟨(atING v e 0x4), 18, 18⟩
/-- VT_ING_STATUS.CAL_FAIL. -/
def VT_ING_STATUS_CAL_FAIL (v e : Nat) : Fld := ⟨(atING v e 0x4), 17, 17⟩
/-- VT_ING_FMT0.VALID. -/
def VT_ING_FMT0_VALID (v e : Nat) : Fld := ⟨(atING v e 0x8), 31, 31⟩
/-- VT_ING_FMT0.SEQ. -/
def VT_ING_FMT0_SEQ (v e : Nat) : Fld := ⟨(atING v e 0x8), 29, 22⟩
/-- VT_ING_FMT0.CODE. -/
def VT_ING_FMT0_CODE (v e : Nat) : Fld := ⟨(atING v e 0x8), 17, 16⟩
/-- VT_ING_FMT0.DEPTH. -/
def VT_ING_FMT0_DEPTH (v e : Nat) : Fld := ⟨(atING v e 0x8), 15, 12⟩
/-- VT_ING_FMT0.RANGE. -/
def VT_ING_FMT0_RANGE (v e : Nat) : Fld := ⟨(atING v e 0x8), 8, 8⟩
/-- VT_ING_FMT1.WIDTH. -/
def VT_ING_FMT1_WIDTH (v e : Nat) : Fld := ⟨(atING v e 0xc), 31, 16⟩
/-- VT_ING_FMT1.HEIGHT. -/
def VT_ING_FMT1_HEIGHT (v e : Nat) : Fld := ⟨(atING v e 0xc), 15, 0⟩
/-- VT_ING_FMT2.NUM. -/
def VT_ING_FMT2_NUM (v e : Nat) : Fld := ⟨(atING v e 0x10), 31, 12⟩
/-- VT_ING_FMT2.DEN. -/
def VT_ING_FMT2_DEN (v e : Nat) : Fld := ⟨(atING v e 0x10), 11, 0⟩
/-- VT_ING_COUNT.FRAMES. -/
def VT_ING_COUNT_FRAMES (v e : Nat) : Fld := ⟨(atING v e 0x14), 31, 16⟩
/-- VT_ING_COUNT.DROPPED. -/
def VT_ING_COUNT_DROPPED (v e : Nat) : Fld := ⟨(atING v e 0x14), 15, 8⟩
/-- VT_ING_COUNT.DAMAGED_N. -/
def VT_ING_COUNT_DAMAGED_N (v e : Nat) : Fld := ⟨(atING v e 0x14), 7, 0⟩
/-- VT_ING_COUNT2.GLITCH_N. -/
def VT_ING_COUNT2_GLITCH_N (v e : Nat) : Fld := ⟨(atING v e 0x18), 31, 24⟩
/-- VT_ING_COUNT2.SKIPPED. -/
def VT_ING_COUNT2_SKIPPED (v e : Nat) : Fld := ⟨(atING v e 0x18), 23, 16⟩
/-- VT_ING_COUNT2.OVERFLOW. -/
def VT_ING_COUNT2_OVERFLOW (v e : Nat) : Fld := ⟨(atING v e 0x18), 15, 8⟩
/-- VT_ING_COUNT2.PKT_ERR. -/
def VT_ING_COUNT2_PKT_ERR (v e : Nat) : Fld := ⟨(atING v e 0x18), 7, 0⟩
/-- VT_ING_SFRAME.SFRAME. -/
def VT_ING_SFRAME_SFRAME (v e : Nat) : Fld := ⟨(atING v e 0x1c), 31, 0⟩
/-- VT_FS_GEOM.STRIDE. -/
def VT_FS_GEOM_STRIDE (v e : Nat) : Fld := ⟨(atING v e 0x20), 31, 16⟩
/-- VT_FS_GEOM.MAX_ROWS. -/
def VT_FS_GEOM_MAX_ROWS (v e : Nat) : Fld := ⟨(atING v e 0x20), 15, 0⟩
/-- VT_FS_BASE.BASE. -/
def VT_FS_BASE_BASE (v e i : Nat) : Fld := ⟨(atING v e (0x24 + 4 * i)), 31, 0⟩
/-- VT_FS_STATE.NEWEST. -/
def VT_FS_STATE_NEWEST (v e : Nat) : Fld := ⟨(atING v e 0x30), 31, 30⟩
/-- VT_FS_STATE.WRITING. -/
def VT_FS_STATE_WRITING (v e : Nat) : Fld := ⟨(atING v e 0x30), 29, 28⟩
/-- VT_FS_STATE.HELD. -/
def VT_FS_STATE_HELD (v e : Nat) : Fld := ⟨(atING v e 0x30), 26, 24⟩
/-- VT_FS_STATE.TAG_ERR. -/
def VT_FS_STATE_TAG_ERR (v e : Nat) : Fld := ⟨(atING v e 0x30), 15, 0⟩
/-- VT_RND_CMD.OP. -/
def VT_RND_CMD_OP (v r : Nat) : Fld := ⟨(atRND v r 0x0), 3, 0⟩
/-- VT_RND_FMT.WIDTH. -/
def VT_RND_FMT_WIDTH (v r : Nat) : Fld := ⟨(atRND v r 0x4), 31, 16⟩
/-- VT_RND_FMT.HEIGHT. -/
def VT_RND_FMT_HEIGHT (v r : Nat) : Fld := ⟨(atRND v r 0x4), 15, 0⟩
/-- VT_RND_CODE.CODE. -/
def VT_RND_CODE_CODE (v r : Nat) : Fld := ⟨(atRND v r 0x8), 1, 0⟩
/-- VT_RND_FENCE_VAL.VAL. -/
def VT_RND_FENCE_VAL_VAL (v r : Nat) : Fld := ⟨(atRND v r 0xc), 31, 0⟩
/-- VT_RND_RESULT.VALID. -/
def VT_RND_RESULT_VALID (v r : Nat) : Fld := ⟨(atRND v r 0x10), 31, 31⟩
/-- VT_RND_RESULT.SEQ. -/
def VT_RND_RESULT_SEQ (v r : Nat) : Fld := ⟨(atRND v r 0x10), 29, 22⟩
/-- VT_RND_RESULT.STATE. -/
def VT_RND_RESULT_STATE (v r : Nat) : Fld := ⟨(atRND v r 0x10), 21, 18⟩
/-- VT_RND_RESULT.BUF. -/
def VT_RND_RESULT_BUF (v r : Nat) : Fld := ⟨(atRND v r 0x10), 17, 16⟩
/-- VT_RND_DONE.VAL. -/
def VT_RND_DONE_VAL (v r : Nat) : Fld := ⟨(atRND v r 0x14), 31, 0⟩
/-- VT_RND_APERT.OFFSET. -/
def VT_RND_APERT_OFFSET (v r i : Nat) : Fld := ⟨(atRND v r (0x34 + 4 * i)), 31, 0⟩
/-- VT_FS_GEOM.STRIDE. -/
def RND_VT_FS_GEOM_STRIDE (v r : Nat) : Fld := ⟨(atRND v r 0x20), 31, 16⟩
/-- VT_FS_GEOM.MAX_ROWS. -/
def RND_VT_FS_GEOM_MAX_ROWS (v r : Nat) : Fld := ⟨(atRND v r 0x20), 15, 0⟩
/-- VT_FS_BASE.BASE. -/
def RND_VT_FS_BASE_BASE (v r i : Nat) : Fld := ⟨(atRND v r (0x24 + 4 * i)), 31, 0⟩
/-- VT_FS_STATE.NEWEST. -/
def RND_VT_FS_STATE_NEWEST (v r : Nat) : Fld := ⟨(atRND v r 0x30), 31, 30⟩
/-- VT_FS_STATE.WRITING. -/
def RND_VT_FS_STATE_WRITING (v r : Nat) : Fld := ⟨(atRND v r 0x30), 29, 28⟩
/-- VT_FS_STATE.HELD. -/
def RND_VT_FS_STATE_HELD (v r : Nat) : Fld := ⟨(atRND v r 0x30), 26, 24⟩
/-- VT_FS_STATE.TAG_ERR. -/
def RND_VT_FS_STATE_TAG_ERR (v r : Nat) : Fld := ⟨(atRND v r 0x30), 15, 0⟩
/-- VT_FS_GEOM.STRIDE. -/
def WB_VT_FS_GEOM_STRIDE (v w : Nat) : Fld := ⟨(atWB v w 0x20), 31, 16⟩
/-- VT_FS_GEOM.MAX_ROWS. -/
def WB_VT_FS_GEOM_MAX_ROWS (v w : Nat) : Fld := ⟨(atWB v w 0x20), 15, 0⟩
/-- VT_FS_BASE.BASE. -/
def WB_VT_FS_BASE_BASE (v w i : Nat) : Fld := ⟨(atWB v w (0x24 + 4 * i)), 31, 0⟩
/-- VT_FS_STATE.NEWEST. -/
def WB_VT_FS_STATE_NEWEST (v w : Nat) : Fld := ⟨(atWB v w 0x30), 31, 30⟩
/-- VT_FS_STATE.WRITING. -/
def WB_VT_FS_STATE_WRITING (v w : Nat) : Fld := ⟨(atWB v w 0x30), 29, 28⟩
/-- VT_FS_STATE.HELD. -/
def WB_VT_FS_STATE_HELD (v w : Nat) : Fld := ⟨(atWB v w 0x30), 26, 24⟩
/-- VT_FS_STATE.TAG_ERR. -/
def WB_VT_FS_STATE_TAG_ERR (v w : Nat) : Fld := ⟨(atWB v w 0x30), 15, 0⟩
/-- VT_WB_APERT.OFFSET. -/
def VT_WB_APERT_OFFSET (v w i : Nat) : Fld := ⟨(atWB v w (0x34 + 4 * i)), 31, 0⟩
/-- VT_LE_CTRL.EN. -/
def VT_LE_CTRL_EN (v e : Nat) : Fld := ⟨(atLE v e 0x0), 31, 31⟩
/-- VT_LE_CTRL.FIT. -/
def VT_LE_CTRL_FIT (v e : Nat) : Fld := ⟨(atLE v e 0x0), 30, 30⟩
/-- VT_LE_CTRL.MODE. -/
def VT_LE_CTRL_MODE (v e : Nat) : Fld := ⟨(atLE v e 0x0), 29, 29⟩
/-- VT_LE_CTRL.FENCE_EN. -/
def VT_LE_CTRL_FENCE_EN (v e : Nat) : Fld := ⟨(atLE v e 0x0), 28, 28⟩
/-- VT_LE_CTRL.FENCE_MODE. -/
def VT_LE_CTRL_FENCE_MODE (v e : Nat) : Fld := ⟨(atLE v e 0x0), 27, 27⟩
/-- VT_LE_CTRL.Z. -/
def VT_LE_CTRL_Z (v e : Nat) : Fld := ⟨(atLE v e 0x0), 26, 24⟩
/-- VT_LE_CTRL.HSET. -/
def VT_LE_CTRL_HSET (v e : Nat) : Fld := ⟨(atLE v e 0x0), 22, 20⟩
/-- VT_LE_CTRL.VSET. -/
def VT_LE_CTRL_VSET (v e : Nat) : Fld := ⟨(atLE v e 0x0), 18, 16⟩
/-- VT_LE_CTRL.ASSIGNED. -/
def VT_LE_CTRL_ASSIGNED (v e : Nat) : Fld := ⟨(atLE v e 0x0), 4, 4⟩
/-- VT_LE_CTRL.TARGET. -/
def VT_LE_CTRL_TARGET (v e : Nat) : Fld := ⟨(atLE v e 0x0), 3, 0⟩
/-- VT_LE_SRC.DIE. -/
def VT_LE_SRC_DIE (v e : Nat) : Fld := ⟨(atLE v e 0x4), 9, 8⟩
/-- VT_LE_SRC.KIND. -/
def VT_LE_SRC_KIND (v e : Nat) : Fld := ⟨(atLE v e 0x4), 5, 4⟩
/-- VT_LE_SRC.INDEX. -/
def VT_LE_SRC_INDEX (v e : Nat) : Fld := ⟨(atLE v e 0x4), 1, 0⟩
/-- VT_LE_CROP_XY.CROP_X. -/
def VT_LE_CROP_XY_CROP_X (v e : Nat) : Fld := ⟨(atLE v e 0x8), 31, 16⟩
/-- VT_LE_CROP_XY.CROP_Y. -/
def VT_LE_CROP_XY_CROP_Y (v e : Nat) : Fld := ⟨(atLE v e 0x8), 15, 0⟩
/-- VT_LE_CROP_WH.CROP_W. -/
def VT_LE_CROP_WH_CROP_W (v e : Nat) : Fld := ⟨(atLE v e 0xc), 31, 16⟩
/-- VT_LE_CROP_WH.CROP_H. -/
def VT_LE_CROP_WH_CROP_H (v e : Nat) : Fld := ⟨(atLE v e 0xc), 15, 0⟩
/-- VT_LE_DST_XY.DST_X. -/
def VT_LE_DST_XY_DST_X (v e : Nat) : Fld := ⟨(atLE v e 0x10), 31, 16⟩
/-- VT_LE_DST_XY.DST_Y. -/
def VT_LE_DST_XY_DST_Y (v e : Nat) : Fld := ⟨(atLE v e 0x10), 15, 0⟩
/-- VT_LE_DST_WH.DST_W. -/
def VT_LE_DST_WH_DST_W (v e : Nat) : Fld := ⟨(atLE v e 0x14), 31, 16⟩
/-- VT_LE_DST_WH.DST_H. -/
def VT_LE_DST_WH_DST_H (v e : Nat) : Fld := ⟨(atLE v e 0x14), 15, 0⟩
/-- VT_LE_HSTEP.HSTEP. -/
def VT_LE_HSTEP_HSTEP (v e : Nat) : Fld := ⟨(atLE v e 0x18), 31, 0⟩
/-- VT_LE_VSTEP.VSTEP. -/
def VT_LE_VSTEP_VSTEP (v e : Nat) : Fld := ⟨(atLE v e 0x1c), 31, 0⟩
/-- VT_LE_HSTART.HSTART. -/
def VT_LE_HSTART_HSTART (v e : Nat) : Fld := ⟨(atLE v e 0x20), 31, 0⟩
/-- VT_LE_VSTART.VSTART. -/
def VT_LE_VSTART_VSTART (v e : Nat) : Fld := ⟨(atLE v e 0x24), 31, 0⟩
/-- VT_LE_BLEND.ALPHA. -/
def VT_LE_BLEND_ALPHA (v e : Nat) : Fld := ⟨(atLE v e 0x28), 26, 16⟩
/-- VT_LE_BLEND.GAIN. -/
def VT_LE_BLEND_GAIN (v e : Nat) : Fld := ⟨(atLE v e 0x28), 15, 0⟩
/-- VT_LE_FENCE_WAIT.FENCE_WAIT. -/
def VT_LE_FENCE_WAIT_FENCE_WAIT (v e : Nat) : Fld := ⟨(atLE v e 0x2c), 31, 0⟩
/-- VT_LE_STATUS.BUF. -/
def VT_LE_STATUS_BUF (v e : Nat) : Fld := ⟨(atLE v e 0x30), 31, 30⟩
/-- VT_LE_STATUS.VT. -/
def VT_LE_STATUS_VT (v e : Nat) : Fld := ⟨(atLE v e 0x30), 29, 27⟩
/-- VT_LE_STATUS.SHOWING. -/
def VT_LE_STATUS_SHOWING (v e : Nat) : Fld := ⟨(atLE v e 0x30), 26, 26⟩
/-- VT_LE_STATUS.LAYERLATE. -/
def VT_LE_STATUS_LAYERLATE (v e : Nat) : Fld := ⟨(atLE v e 0x30), 20, 20⟩
/-- VT_LE_STATUS.LBSHORT. -/
def VT_LE_STATUS_LBSHORT (v e : Nat) : Fld := ⟨(atLE v e 0x30), 19, 19⟩
/-- VT_LE_STATUS.EMPTY. -/
def VT_LE_STATUS_EMPTY (v e : Nat) : Fld := ⟨(atLE v e 0x30), 18, 18⟩
/-- VT_LE_STATUS.BADSRC. -/
def VT_LE_STATUS_BADSRC (v e : Nat) : Fld := ⟨(atLE v e 0x30), 17, 17⟩
/-- VT_LE_STATUS.FETCH_LATE. -/
def VT_LE_STATUS_FETCH_LATE (v e : Nat) : Fld := ⟨(atLE v e 0x30), 16, 16⟩
/-- VT_LE_STATUS.STEP_CLAMP. -/
def VT_LE_STATUS_STEP_CLAMP (v e : Nat) : Fld := ⟨(atLE v e 0x30), 15, 15⟩
/-- VT_LE_SHOWN_VAL.FENCE_VAL. -/
def VT_LE_SHOWN_VAL_FENCE_VAL (v e : Nat) : Fld := ⟨(atLE v e 0x34), 31, 0⟩
/-- VT_LE_COUNT.LATE_N. -/
def VT_LE_COUNT_LATE_N (v e : Nat) : Fld := ⟨(atLE v e 0x38), 31, 24⟩
/-- VT_LE_COUNT.LBSHORT_N. -/
def VT_LE_COUNT_LBSHORT_N (v e : Nat) : Fld := ⟨(atLE v e 0x38), 23, 16⟩
/-- VT_LE_COUNT.FETCH_LATE_N. -/
def VT_LE_COUNT_FETCH_LATE_N (v e : Nat) : Fld := ⟨(atLE v e 0x38), 15, 0⟩
/-- VT_LE_LBCAP.GRANULES. -/
def VT_LE_LBCAP_GRANULES (v e : Nat) : Fld := ⟨(atLE v e 0x3c), 24, 16⟩
/-- VT_LE_LBCAP.CAP. -/
def VT_LE_LBCAP_CAP (v e : Nat) : Fld := ⟨(atLE v e 0x3c), 15, 0⟩
/-- VT_LE_EFF_HSTEP.HSTEP. -/
def VT_LE_EFF_HSTEP_HSTEP (v e : Nat) : Fld := ⟨(atLE v e 0x70), 31, 0⟩
/-- VT_LE_EFF_VSTEP.VSTEP. -/
def VT_LE_EFF_VSTEP_VSTEP (v e : Nat) : Fld := ⟨(atLE v e 0x74), 31, 0⟩
/-- VT_TGT_CTRL.WB_EN. -/
def VT_TGT_CTRL_WB_EN (v t : Nat) : Fld := ⟨(atTGT v t 0x0), 31, 31⟩
/-- VT_TGT_CTRL.WB_STORE. -/
def VT_TGT_CTRL_WB_STORE (v t : Nat) : Fld := ⟨(atTGT v t 0x0), 24, 24⟩
/-- VT_TGT_CTRL.ASSIGNED. -/
def VT_TGT_CTRL_ASSIGNED (v t : Nat) : Fld := ⟨(atTGT v t 0x0), 21, 21⟩
/-- VT_TGT_CTRL.PORT. -/
def VT_TGT_CTRL_PORT (v t : Nat) : Fld := ⟨(atTGT v t 0x0), 19, 16⟩
/-- VT_TGT_CTRL.PHASE. -/
def VT_TGT_CTRL_PHASE (v t : Nat) : Fld := ⟨(atTGT v t 0x0), 13, 12⟩
/-- VT_TGT_CTRL.OUT_CODE. -/
def VT_TGT_CTRL_OUT_CODE (v t : Nat) : Fld := ⟨(atTGT v t 0x0), 1, 0⟩
/-- VT_TGT_REGION_XY.X. -/
def VT_TGT_REGION_XY_X (v t : Nat) : Fld := ⟨(atTGT v t 0x4), 31, 16⟩
/-- VT_TGT_REGION_XY.Y. -/
def VT_TGT_REGION_XY_Y (v t : Nat) : Fld := ⟨(atTGT v t 0x4), 15, 0⟩
/-- VT_TGT_REGION_WH.W. -/
def VT_TGT_REGION_WH_W (v t : Nat) : Fld := ⟨(atTGT v t 0x8), 31, 16⟩
/-- VT_TGT_REGION_WH.H. -/
def VT_TGT_REGION_WH_H (v t : Nat) : Fld := ⟨(atTGT v t 0x8), 15, 0⟩
/-- VT_TGT_BG_LO.BG. -/
def VT_TGT_BG_LO_BG (v t : Nat) : Fld := ⟨(atTGT v t 0xc), 31, 0⟩
/-- VT_TGT_BG_HI.BG. -/
def VT_TGT_BG_HI_BG (v t : Nat) : Fld := ⟨(atTGT v t 0x10), 3, 0⟩
/-- VT_TGT_STATUS.WB_REFUSED. -/
def VT_TGT_STATUS_WB_REFUSED (v t : Nat) : Fld := ⟨(atTGT v t 0x14), 31, 31⟩
/-- VT_TGT_STATUS.WB_DAMAGED. -/
def VT_TGT_STATUS_WB_DAMAGED (v t : Nat) : Fld := ⟨(atTGT v t 0x14), 30, 30⟩
/-- VT_TGT_STATUS.CODE_RSVD. -/
def VT_TGT_STATUS_CODE_RSVD (v t : Nat) : Fld := ⟨(atTGT v t 0x14), 29, 29⟩
/-- VT_TGT_STATUS.WB_DAMAGED_N. -/
def VT_TGT_STATUS_WB_DAMAGED_N (v t : Nat) : Fld := ⟨(atTGT v t 0x14), 23, 16⟩
/-- VT_TGT_STATUS.LAYERS. -/
def VT_TGT_STATUS_LAYERS (v t : Nat) : Fld := ⟨(atTGT v t 0x14), 3, 0⟩
/-- VT_COMP_EVENTS.LAYERLATE. -/
def VT_COMP_EVENTS_LAYERLATE (v : Nat) : Fld := ⟨(atVTC v 0x32000), 31, 16⟩
/-- VT_COMP_EVENTS.LBSHORT. -/
def VT_COMP_EVENTS_LBSHORT (v : Nat) : Fld := ⟨(atVTC v 0x32000), 15, 0⟩
/-- VT_COMP_LAST.LBSHORT_FNUM. -/
def VT_COMP_LAST_LBSHORT_FNUM (v : Nat) : Fld := ⟨(atVTC v 0x32004), 31, 16⟩
/-- VT_COMP_LAST.LATE_ENG. -/
def VT_COMP_LAST_LATE_ENG (v : Nat) : Fld := ⟨(atVTC v 0x32004), 11, 8⟩
/-- VT_COMP_LAST.LBSHORT_VT. -/
def VT_COMP_LAST_LBSHORT_VT (v : Nat) : Fld := ⟨(atVTC v 0x32004), 6, 4⟩
/-- VT_COMP_LAST.LBSHORT_ENG. -/
def VT_COMP_LAST_LBSHORT_ENG (v : Nat) : Fld := ⟨(atVTC v 0x32004), 3, 0⟩
/-- VT_DRAM_CFG.RANKS. -/
def VT_DRAM_CFG_RANKS (c : Nat) : Fld := ⟨(atDCH c 0x0), 29, 28⟩
/-- VT_DRAM_CFG.DENSITY. -/
def VT_DRAM_CFG_DENSITY (c : Nat) : Fld := ⟨(atDCH c 0x0), 24, 24⟩
/-- VT_DRAM_CFG.RATE_MAX. -/
def VT_DRAM_CFG_RATE_MAX (c : Nat) : Fld := ⟨(atDCH c 0x0), 17, 16⟩
/-- VT_DRAM_CFG.SIZE. -/
def VT_DRAM_CFG_SIZE (c : Nat) : Fld := ⟨(atDCH c 0x0), 5, 0⟩
/-- VT_DRAM_STATE.STATE. -/
def VT_DRAM_STATE_STATE (c : Nat) : Fld := ⟨(atDCH c 0x4), 31, 28⟩
/-- VT_DRAM_STATE.TEMP_HI. -/
def VT_DRAM_STATE_TEMP_HI (c : Nat) : Fld := ⟨(atDCH c 0x4), 27, 27⟩
/-- VT_DRAM_STATE.DRAM_HOT. -/
def VT_DRAM_STATE_DRAM_HOT (c : Nat) : Fld := ⟨(atDCH c 0x4), 26, 26⟩
/-- VT_DRAM_STATE.REF_FORCED_N. -/
def VT_DRAM_STATE_REF_FORCED_N (c : Nat) : Fld := ⟨(atDCH c 0x4), 15, 0⟩
/-- VT_DRAM_PAGE.MAX_HITS. -/
def VT_DRAM_PAGE_MAX_HITS (c : Nat) : Fld := ⟨(atDCH c 0x8), 23, 16⟩
/-- VT_DRAM_PAGE.IDLE_NS. -/
def VT_DRAM_PAGE_IDLE_NS (c : Nat) : Fld := ⟨(atDCH c 0x8), 15, 0⟩
/-- VT_DRAM_NRR.NRR_N. -/
def VT_DRAM_NRR_NRR_N (c : Nat) : Fld := ⟨(atDCH c 0xc), 31, 8⟩
/-- VT_DRAM_NRR.NRR_SHIFT. -/
def VT_DRAM_NRR_NRR_SHIFT (c : Nat) : Fld := ⟨(atDCH c 0xc), 3, 0⟩
/-- VT_DRAM_ERRCNT.CE_N. -/
def VT_DRAM_ERRCNT_CE_N (c : Nat) : Fld := ⟨(atDCH c 0x10), 31, 16⟩
/-- VT_DRAM_ERRCNT.UE_N. -/
def VT_DRAM_ERRCNT_UE_N (c : Nat) : Fld := ⟨(atDCH c 0x10), 15, 8⟩
/-- VT_DRAM_ERRCNT.REPAIR_N. -/
def VT_DRAM_ERRCNT_REPAIR_N (c : Nat) : Fld := ⟨(atDCH c 0x10), 7, 0⟩
/-- VT_DRAM_SCRUB.SCRUB_EN. -/
def VT_DRAM_SCRUB_SCRUB_EN (c : Nat) : Fld := ⟨(atDCH c 0x1c), 31, 31⟩
/-- VT_DRAM_SCRUB.SCRUB_H. -/
def VT_DRAM_SCRUB_SCRUB_H (c : Nat) : Fld := ⟨(atDCH c 0x1c), 15, 0⟩
/-- VT_DRAM_SCRUB_POS.POS. -/
def VT_DRAM_SCRUB_POS_POS (c : Nat) : Fld := ⟨(atDCH c 0x20), 31, 0⟩
/-- VT_DRAM_ERR_LAST0.VALID. -/
def VT_DRAM_ERR_LAST0_VALID (c : Nat) : Fld := ⟨(atDCH c 0x14), 31, 31⟩
/-- VT_DRAM_ERR_LAST0.UE. -/
def VT_DRAM_ERR_LAST0_UE (c : Nat) : Fld := ⟨(atDCH c 0x14), 30, 30⟩
/-- VT_DRAM_ERR_LAST0.SEQ. -/
def VT_DRAM_ERR_LAST0_SEQ (c : Nat) : Fld := ⟨(atDCH c 0x14), 29, 22⟩
/-- VT_DRAM_ERR_LAST0.RANK. -/
def VT_DRAM_ERR_LAST0_RANK (c : Nat) : Fld := ⟨(atDCH c 0x14), 21, 21⟩
/-- VT_DRAM_ERR_LAST0.BG. -/
def VT_DRAM_ERR_LAST0_BG (c : Nat) : Fld := ⟨(atDCH c 0x14), 20, 19⟩
/-- VT_DRAM_ERR_LAST0.BA. -/
def VT_DRAM_ERR_LAST0_BA (c : Nat) : Fld := ⟨(atDCH c 0x14), 18, 17⟩
/-- VT_DRAM_ERR_LAST0.CLASS. -/
def VT_DRAM_ERR_LAST0_CLASS (c : Nat) : Fld := ⟨(atDCH c 0x14), 16, 14⟩
/-- VT_DRAM_ERR_LAST1.COL. -/
def VT_DRAM_ERR_LAST1_COL (c : Nat) : Fld := ⟨(atDCH c 0x18), 30, 24⟩
/-- VT_DRAM_ERR_LAST1.ROW. -/
def VT_DRAM_ERR_LAST1_ROW (c : Nat) : Fld := ⟨(atDCH c 0x18), 16, 0⟩
/-- VT_DRAM_PPR.EXHAUSTED. -/
def VT_DRAM_PPR_EXHAUSTED (c : Nat) : Fld := ⟨(atDCH c 0x24), 31, 31⟩
/-- VT_DRAM_PPR.REPAIRED. -/
def VT_DRAM_PPR_REPAIRED (c : Nat) : Fld := ⟨(atDCH c 0x24), 30, 30⟩
/-- VT_DRAM_PPR.LISTED. -/
def VT_DRAM_PPR_LISTED (c : Nat) : Fld := ⟨(atDCH c 0x24), 15, 8⟩
/-- VT_DRAM_PPR.SPARE. -/
def VT_DRAM_PPR_SPARE (c : Nat) : Fld := ⟨(atDCH c 0x24), 7, 0⟩
/-- VT_DRAM_WAIT.EXCEED_N. -/
def VT_DRAM_WAIT_EXCEED_N (v i : Nat) : Fld := ⟨(atDDIE v (0x0 + 4 * i)), 31, 16⟩
/-- VT_DRAM_WAIT.MAX_NS. -/
def VT_DRAM_WAIT_MAX_NS (v i : Nat) : Fld := ⟨(atDDIE v (0x0 + 4 * i)), 15, 0⟩
/-- VT_DRAM_FC_RATE.RATE. -/
def VT_DRAM_FC_RATE_RATE (v : Nat) : Fld := ⟨(atDDIE v 0x20), 1, 0⟩
/-- VT_DRAM_FC_T0.CL. -/
def VT_DRAM_FC_T0_CL (v : Nat) : Fld := ⟨(atDDIE v 0x24), 29, 24⟩
/-- VT_DRAM_FC_T0.CWL. -/
def VT_DRAM_FC_T0_CWL (v : Nat) : Fld := ⟨(atDDIE v 0x24), 21, 16⟩
/-- VT_DRAM_FC_T0.TRCD. -/
def VT_DRAM_FC_T0_TRCD (v : Nat) : Fld := ⟨(atDDIE v 0x24), 13, 8⟩
/-- VT_DRAM_FC_T0.TRP. -/
def VT_DRAM_FC_T0_TRP (v : Nat) : Fld := ⟨(atDDIE v 0x24), 5, 0⟩
/-- VT_DRAM_FC_T1.TRFC4. -/
def VT_DRAM_FC_T1_TRFC4 (v : Nat) : Fld := ⟨(atDDIE v 0x28), 25, 16⟩
/-- VT_DRAM_FC_T1.TFAW. -/
def VT_DRAM_FC_T1_TFAW (v : Nat) : Fld := ⟨(atDDIE v 0x28), 15, 8⟩
/-- VT_DRAM_FC_T1.TRAS. -/
def VT_DRAM_FC_T1_TRAS (v : Nat) : Fld := ⟨(atDDIE v 0x28), 7, 0⟩
/-- VT_DRAM_SCHED_FNUM.S. -/
def VT_DRAM_SCHED_FNUM_S (v : Nat) : Fld := ⟨(atDDIE v 0x2c), 31, 0⟩
/-- VT_DRAM_FC_STATUS.VALID. -/
def VT_DRAM_FC_STATUS_VALID (v : Nat) : Fld := ⟨(atDDIE v 0x30), 31, 31⟩
/-- VT_DRAM_FC_STATUS.SEQ. -/
def VT_DRAM_FC_STATUS_SEQ (v : Nat) : Fld := ⟨(atDDIE v 0x30), 29, 22⟩
/-- VT_DRAM_FC_STATUS.STATE. -/
def VT_DRAM_FC_STATUS_STATE (v : Nat) : Fld := ⟨(atDDIE v 0x30), 21, 20⟩
/-- VT_DRAM_FC_STATUS.FC_REFUSED. -/
def VT_DRAM_FC_STATUS_FC_REFUSED (v : Nat) : Fld := ⟨(atDDIE v 0x30), 19, 19⟩
/-- VT_DRAM_FC_STATUS.ERR. -/
def VT_DRAM_FC_STATUS_ERR (v : Nat) : Fld := ⟨(atDDIE v 0x30), 2, 0⟩
/-- VT_TP_CTRL.TSTEP. -/
def VT_TP_CTRL_TSTEP : Fld := ⟨(atTP 0x0), 23, 16⟩
/-- VT_TP_CTRL.BSTEP. -/
def VT_TP_CTRL_BSTEP : Fld := ⟨(atTP 0x0), 15, 8⟩
/-- VT_TP_CTRL.BANK. -/
def VT_TP_CTRL_BANK : Fld := ⟨(atTP 0x0), 0, 0⟩
/-- VT_TP_STATUS.BANK_ACT. -/
def VT_TP_STATUS_BANK_ACT : Fld := ⟨(atTP 0x4), 31, 31⟩
/-- VT_TP_STATUS.RAMP. -/
def VT_TP_STATUS_RAMP : Fld := ⟨(atTP 0x4), 30, 30⟩
/-- VT_TP_STATUS.BETA. -/
def VT_TP_STATUS_BETA : Fld := ⟨(atTP 0x4), 29, 21⟩
/-- VT_TP_STATUS.BANK_REFUSED. -/
def VT_TP_STATUS_BANK_REFUSED : Fld := ⟨(atTP 0x4), 15, 15⟩
/-- VT_TP_STATUS.WRITE_REFUSED. -/
def VT_TP_STATUS_WRITE_REFUSED : Fld := ⟨(atTP 0x4), 14, 14⟩
/-- VT_TP_STATUS.UE_CORR. -/
def VT_TP_STATUS_UE_CORR : Fld := ⟨(atTP 0x4), 13, 13⟩
/-- VT_TP_STATUS.UE_MAP. -/
def VT_TP_STATUS_UE_MAP : Fld := ⟨(atTP 0x4), 12, 12⟩
/-- VT_TP_STATUS.UE_STATUS. -/
def VT_TP_STATUS_UE_STATUS : Fld := ⟨(atTP 0x4), 11, 11⟩
/-- VT_TP_STATUS.UE_STORE. -/
def VT_TP_STATUS_UE_STORE : Fld := ⟨(atTP 0x4), 10, 10⟩
/-- VT_TP_BRIGHT.BRIGHT. -/
def VT_TP_BRIGHT_BRIGHT (i : Nat) : Fld := ⟨(atTP (0x10 + 4 * i)), 19, 0⟩
/-- VT_TP_TSET_B0A.TSET1. -/
def VT_TP_TSET_B0A_TSET1 : Fld := ⟨(atTP 0x20), 31, 16⟩
/-- VT_TP_TSET_B0A.TSET0. -/
def VT_TP_TSET_B0A_TSET0 : Fld := ⟨(atTP 0x20), 15, 0⟩
/-- VT_TP_TSET_B0B.TSET3. -/
def VT_TP_TSET_B0B_TSET3 : Fld := ⟨(atTP 0x24), 31, 16⟩
/-- VT_TP_TSET_B0B.TSET2. -/
def VT_TP_TSET_B0B_TSET2 : Fld := ⟨(atTP 0x24), 15, 0⟩
/-- VT_TP_TSET_B1A.TSET1. -/
def VT_TP_TSET_B1A_TSET1 : Fld := ⟨(atTP 0x28), 31, 16⟩
/-- VT_TP_TSET_B1A.TSET0. -/
def VT_TP_TSET_B1A_TSET0 : Fld := ⟨(atTP 0x28), 15, 0⟩
/-- VT_TP_TSET_B1B.TSET3. -/
def VT_TP_TSET_B1B_TSET3 : Fld := ⟨(atTP 0x2c), 31, 16⟩
/-- VT_TP_TSET_B1B.TSET2. -/
def VT_TP_TSET_B1B_TSET2 : Fld := ⟨(atTP 0x2c), 15, 0⟩
/-- VT_TP_TFALL.TFALL. -/
def VT_TP_TFALL_TFALL : Fld := ⟨(atTP 0x30), 15, 0⟩
/-- VT_TP_GRADE01.N1. -/
def VT_TP_GRADE01_N1 : Fld := ⟨(atTP 0x34), 27, 16⟩
/-- VT_TP_GRADE01.N0. -/
def VT_TP_GRADE01_N0 : Fld := ⟨(atTP 0x34), 11, 0⟩
/-- VT_TP_GRADE23.N3. -/
def VT_TP_GRADE23_N3 : Fld := ⟨(atTP 0x38), 27, 16⟩
/-- VT_TP_GRADE23.N2. -/
def VT_TP_GRADE23_N2 : Fld := ⟨(atTP 0x38), 11, 0⟩
/-- VT_TP_UMAX.U_MAX. -/
def VT_TP_UMAX_U_MAX : Fld := ⟨(atTP 0x3c), 20, 0⟩
/-- VT_TP_UE_COUNT.UE_CORR_N. -/
def VT_TP_UE_COUNT_UE_CORR_N : Fld := ⟨(atTP 0x80), 31, 16⟩
/-- VT_TP_UE_COUNT.UE_MAP_N. -/
def VT_TP_UE_COUNT_UE_MAP_N : Fld := ⟨(atTP 0x80), 15, 8⟩
/-- VT_TP_UE_COUNT.UE_STATUS_N. -/
def VT_TP_UE_COUNT_UE_STATUS_N : Fld := ⟨(atTP 0x80), 7, 0⟩
/-- VT_TP_UE_COUNT2.UE_STORE_N. -/
def VT_TP_UE_COUNT2_UE_STORE_N : Fld := ⟨(atTP 0x84), 15, 0⟩
/-- VT_TP_RAMPS.RAMPS. -/
def VT_TP_RAMPS_RAMPS : Fld := ⟨(atTP 0x88), 15, 0⟩
/-- VT_TP_MOD_TEMP.T_EFF. -/
def VT_TP_MOD_TEMP_T_EFF (i : Nat) : Fld := ⟨(atTP (0x100 + 4 * i)), 31, 16⟩
/-- VT_TP_MOD_TEMP.T_MEAS. -/
def VT_TP_MOD_TEMP_T_MEAS (i : Nat) : Fld := ⟨(atTP (0x100 + 4 * i)), 15, 0⟩
/-- VT_TP_MOD_CEIL.SUBST. -/
def VT_TP_MOD_CEIL_SUBST (i : Nat) : Fld := ⟨(atTP (0x140 + 4 * i)), 31, 31⟩
/-- VT_TP_MOD_CEIL.CEIL. -/
def VT_TP_MOD_CEIL_CEIL (i : Nat) : Fld := ⟨(atTP (0x140 + 4 * i)), 16, 0⟩
/-- VT_TP_TAB_ADDR.BANK. -/
def VT_TP_TAB_ADDR_BANK : Fld := ⟨(atTP 0x180), 31, 31⟩
/-- VT_TP_TAB_ADDR.TABLE. -/
def VT_TP_TAB_ADDR_TABLE : Fld := ⟨(atTP 0x180), 30, 29⟩
/-- VT_TP_TAB_ADDR.SET. -/
def VT_TP_TAB_ADDR_SET : Fld := ⟨(atTP 0x180), 26, 25⟩
/-- VT_TP_TAB_ADDR.INDEX. -/
def VT_TP_TAB_ADDR_INDEX : Fld := ⟨(atTP 0x180), 20, 0⟩
/-- VT_TP_TAB_CMD.OP. -/
def VT_TP_TAB_CMD_OP : Fld := ⟨(atTP 0x198), 1, 0⟩
/-- VT_TP_TAB_RESULT.VALID. -/
def VT_TP_TAB_RESULT_VALID : Fld := ⟨(atTP 0x19c), 31, 31⟩
/-- VT_TP_TAB_RESULT.SEQ. -/
def VT_TP_TAB_RESULT_SEQ : Fld := ⟨(atTP 0x19c), 29, 22⟩
/-- VT_TP_TAB_RESULT.STATE. -/
def VT_TP_TAB_RESULT_STATE : Fld := ⟨(atTP 0x19c), 21, 19⟩
/-- VT_TP_TAB_DATA.DATA. -/
def VT_TP_TAB_DATA_DATA (i : Nat) : Fld := ⟨(atTP (0x184 + 4 * i)), 31, 0⟩
/-- PR_SLOT_WIN.WSTART. -/
def PR_SLOT_WIN_WSTART (i : Nat) : Fld := ⟨(atSLOT (0x0 + 4 * i)), 24, 0⟩
/-- PR_SLOT_ROW.FINE. -/
def PR_SLOT_ROW_FINE : Fld := ⟨(atSLOT 0x10), 31, 24⟩
/-- PR_SLOT_ROW.ROW_SLOT. -/
def PR_SLOT_ROW_ROW_SLOT : Fld := ⟨(atSLOT 0x10), 20, 0⟩
/-- PR_SLOT_LEAD.LEAD. -/
def PR_SLOT_LEAD_LEAD : Fld := ⟨(atSLOT 0x14), 19, 0⟩
/-- PR_SLOT_BLANK.ROWA_DLY. -/
def PR_SLOT_BLANK_ROWA_DLY : Fld := ⟨(atSLOT 0x18), 31, 16⟩
/-- PR_SLOT_BLANK.BLANK. -/
def PR_SLOT_BLANK_BLANK : Fld := ⟨(atSLOT 0x18), 15, 0⟩
/-- PR_SLOT_CTRL.HOST. -/
def PR_SLOT_CTRL_HOST : Fld := ⟨(atSLOT 0x1c), 31, 31⟩
/-- PR_SLOT_CTRL.DIV. -/
def PR_SLOT_CTRL_DIV : Fld := ⟨(atSLOT 0x1c), 7, 0⟩
/-- PR_SLOT_STATUS.SLOT_REFUSED. -/
def PR_SLOT_STATUS_SLOT_REFUSED : Fld := ⟨(atSLOT 0x20), 31, 31⟩
/-- PR_SLOT_STATUS.SLOT_TRUNC. -/
def PR_SLOT_STATUS_SLOT_TRUNC : Fld := ⟨(atSLOT 0x20), 30, 30⟩
/-- PR_SLOT_STATUS.ROW_LATE. -/
def PR_SLOT_STATUS_ROW_LATE : Fld := ⟨(atSLOT 0x20), 29, 29⟩
/-- PR_SLOT_STATUS.DARK. -/
def PR_SLOT_STATUS_DARK : Fld := ⟨(atSLOT 0x20), 28, 28⟩
/-- PR_SLOT_STATUS.DARK_SRC. -/
def PR_SLOT_STATUS_DARK_SRC : Fld := ⟨(atSLOT 0x20), 21, 16⟩
/-- PR_SLOT_MOULD_WIN.WSTART. -/
def PR_SLOT_MOULD_WIN_WSTART (i : Nat) : Fld := ⟨(atSLOT (0x80 + 4 * i)), 24, 0⟩
/-- PR_SLOT_MOULD_ROW.FINE. -/
def PR_SLOT_MOULD_ROW_FINE : Fld := ⟨(atSLOT 0x90), 31, 24⟩
/-- PR_SLOT_MOULD_ROW.ROW_SLOT. -/
def PR_SLOT_MOULD_ROW_ROW_SLOT : Fld := ⟨(atSLOT 0x90), 20, 0⟩
/-- PR_SLOT_MOULD_LEAD.LEAD. -/
def PR_SLOT_MOULD_LEAD_LEAD : Fld := ⟨(atSLOT 0x94), 19, 0⟩
/-- PR_SLOT_MOULD_BLANK.ROWA_DLY. -/
def PR_SLOT_MOULD_BLANK_ROWA_DLY : Fld := ⟨(atSLOT 0x98), 31, 16⟩
/-- PR_SLOT_MOULD_BLANK.BLANK. -/
def PR_SLOT_MOULD_BLANK_BLANK : Fld := ⟨(atSLOT 0x98), 15, 0⟩
/-- PR_SLOT_MOULD_CTRL.DIV. -/
def PR_SLOT_MOULD_CTRL_DIV : Fld := ⟨(atSLOT 0x9c), 7, 0⟩
/-- PR_DIAG_CTRL.EN. -/
def PR_DIAG_CTRL_EN : Fld := ⟨(atDIAG 0x0), 31, 31⟩
/-- PR_DIAG_CTRL.PHASE. -/
def PR_DIAG_CTRL_PHASE : Fld := ⟨(atDIAG 0x0), 25, 24⟩
/-- PR_DIAG_CTRL.EVERY. -/
def PR_DIAG_CTRL_EVERY : Fld := ⟨(atDIAG 0x0), 15, 0⟩
/-- PR_DIAG_PROBE.PROBE_EN. -/
def PR_DIAG_PROBE_PROBE_EN : Fld := ⟨(atDIAG 0x4), 31, 31⟩
/-- PR_DIAG_PROBE.PROBE_NS. -/
def PR_DIAG_PROBE_PROBE_NS : Fld := ⟨(atDIAG 0x4), 25, 16⟩
/-- PR_DIAG_PROBE.PROBE_AGE. -/
def PR_DIAG_PROBE_PROBE_AGE : Fld := ⟨(atDIAG 0x4), 15, 8⟩
/-- PR_DIAG_PROBE.PROBE_EVERY. -/
def PR_DIAG_PROBE_PROBE_EVERY : Fld := ⟨(atDIAG 0x4), 7, 0⟩
/-- PR_DIAG_COUNT.TESTS. -/
def PR_DIAG_COUNT_TESTS : Fld := ⟨(atDIAG 0x8), 31, 16⟩
/-- PR_DIAG_COUNT.PROBE_ROWS. -/
def PR_DIAG_COUNT_PROBE_ROWS : Fld := ⟨(atDIAG 0x8), 15, 0⟩
/-- PR_DIAG_COUNT2.NEW_PERM. -/
def PR_DIAG_COUNT2_NEW_PERM : Fld := ⟨(atDIAG 0xc), 31, 16⟩
/-- PR_DIAG_COUNT2.DIAG_SKIP. -/
def PR_DIAG_COUNT2_DIAG_SKIP : Fld := ⟨(atDIAG 0xc), 15, 0⟩
/-- PR_PAT_CTRL.EN. -/
def PR_PAT_CTRL_EN : Fld := ⟨(atPAT 0x0), 31, 31⟩
/-- PR_PAT_CTRL.MODE. -/
def PR_PAT_CTRL_MODE : Fld := ⟨(atPAT 0x0), 29, 28⟩
/-- PR_PAT_CTRL.PERIOD. -/
def PR_PAT_CTRL_PERIOD : Fld := ⟨(atPAT 0x0), 15, 0⟩
/-- PR_PAT_BASE.BASE. -/
def PR_PAT_BASE_BASE : Fld := ⟨(atPAT 0x10), 31, 0⟩
/-- PR_PAT_CHASE.SPEED. -/
def PR_PAT_CHASE_SPEED : Fld := ⟨(atPAT 0x14), 31, 16⟩
/-- PR_PAT_CHASE.WIDTH. -/
def PR_PAT_CHASE_WIDTH : Fld := ⟨(atPAT 0x14), 15, 0⟩
/-- PR_PAT_XORG.SPAN. -/
def PR_PAT_XORG_SPAN : Fld := ⟨(atPAT 0x18), 31, 16⟩
/-- PR_PAT_XORG.X_ORG. -/
def PR_PAT_XORG_X_ORG : Fld := ⟨(atPAT 0x18), 15, 0⟩
/-- PR_PAT_LEVEL_R.LEVEL. -/
def PR_PAT_LEVEL_R_LEVEL : Fld := ⟨(atPAT 0x4), 19, 0⟩
/-- PR_PAT_LEVEL_G.LEVEL. -/
def PR_PAT_LEVEL_G_LEVEL : Fld := ⟨(atPAT 0x8), 19, 0⟩
/-- PR_PAT_LEVEL_B.LEVEL. -/
def PR_PAT_LEVEL_B_LEVEL : Fld := ⟨(atPAT 0xc), 19, 0⟩
/-- PR_PORT_GEOM.USED. -/
def PR_PORT_GEOM_USED (q : Nat) : Fld := ⟨(atPORT q 0x0), 31, 31⟩
/-- PR_PORT_GEOM.CH_ORDER. -/
def PR_PORT_GEOM_CH_ORDER (q : Nat) : Fld := ⟨(atPORT q 0x0), 30, 30⟩
/-- PR_PORT_GEOM.ROWEN_POL. -/
def PR_PORT_GEOM_ROWEN_POL (q : Nat) : Fld := ⟨(atPORT q 0x0), 29, 29⟩
/-- PR_PORT_GEOM.LINES. -/
def PR_PORT_GEOM_LINES (q : Nat) : Fld := ⟨(atPORT q 0x0), 19, 16⟩
/-- PR_PORT_GEOM.DRIVERS. -/
def PR_PORT_GEOM_DRIVERS (q : Nat) : Fld := ⟨(atPORT q 0x0), 13, 8⟩
/-- PR_PORT_GEOM.MUX. -/
def PR_PORT_GEOM_MUX (q : Nat) : Fld := ⟨(atPORT q 0x0), 5, 0⟩
/-- PR_PORT_GAIN.GAIN. -/
def PR_PORT_GAIN_GAIN (q : Nat) : Fld := ⟨(atPORT q 0x4), 7, 0⟩
/-- PR_PORT_STATUS.PIN_STUCK. -/
def PR_PORT_STATUS_PIN_STUCK (q : Nat) : Fld := ⟨(atPORT q 0x8), 31, 31⟩
/-- PR_PORT_STATUS.PIN_ERR. -/
def PR_PORT_STATUS_PIN_ERR (q : Nat) : Fld := ⟨(atPORT q 0x8), 21, 16⟩
/-- PR_PORT_STATUS.CHAIN_ERR. -/
def PR_PORT_STATUS_CHAIN_ERR (q : Nat) : Fld := ⟨(atPORT q 0x8), 15, 8⟩
/-- PR_PORT_STATUS.ROW_LATE. -/
def PR_PORT_STATUS_ROW_LATE (q : Nat) : Fld := ⟨(atPORT q 0x8), 0, 0⟩
/-- PR_PORT_COUNT.CHAIN_ERR_N. -/
def PR_PORT_COUNT_CHAIN_ERR_N (q : Nat) : Fld := ⟨(atPORT q 0xc), 31, 16⟩
/-- PR_PORT_COUNT.ROW_LATE_N. -/
def PR_PORT_COUNT_ROW_LATE_N (q : Nat) : Fld := ⟨(atPORT q 0xc), 15, 0⟩
/-- PR_PORT_OCRC_INFO.VALID. -/
def PR_PORT_OCRC_INFO_VALID (q : Nat) : Fld := ⟨(atPORT q 0x14), 31, 31⟩
/-- PR_PORT_OCRC_INFO.SEQ. -/
def PR_PORT_OCRC_INFO_SEQ (q : Nat) : Fld := ⟨(atPORT q 0x14), 29, 22⟩
/-- PR_PORT_OCRC_INFO.FNUM. -/
def PR_PORT_OCRC_INFO_FNUM (q : Nat) : Fld := ⟨(atPORT q 0x14), 15, 0⟩
/-- PR_PORT_OCRC.CRC. -/
def PR_PORT_OCRC_CRC (q : Nat) : Fld := ⟨(atPORT q 0x10), 31, 0⟩
/-- RD_NET_CTRL.EN. -/
def RD_NET_CTRL_EN (n : Nat) : Fld := ⟨(atNET n 0x0), 31, 31⟩
/-- RD_NET_CTRL.TX_FCS. -/
def RD_NET_CTRL_TX_FCS (n : Nat) : Fld := ⟨(atNET n 0x0), 30, 30⟩
/-- RD_NET_CTRL.RX_FCS. -/
def RD_NET_CTRL_RX_FCS (n : Nat) : Fld := ⟨(atNET n 0x0), 29, 29⟩
/-- RD_NET_CTRL.VLAN_STRIP. -/
def RD_NET_CTRL_VLAN_STRIP (n : Nat) : Fld := ⟨(atNET n 0x0), 28, 28⟩
/-- RD_NET_CTRL.PROMISC. -/
def RD_NET_CTRL_PROMISC (n : Nat) : Fld := ⟨(atNET n 0x0), 27, 27⟩
/-- RD_NET_CTRL.MCAST. -/
def RD_NET_CTRL_MCAST (n : Nat) : Fld := ⟨(atNET n 0x0), 26, 26⟩
/-- RD_NET_CTRL.PAUSE_EN. -/
def RD_NET_CTRL_PAUSE_EN (n : Nat) : Fld := ⟨(atNET n 0x0), 25, 25⟩
/-- RD_NET_CTRL.FLOW_EN. -/
def RD_NET_CTRL_FLOW_EN (n : Nat) : Fld := ⟨(atNET n 0x0), 24, 24⟩
/-- RD_NET_CTRL.TXC_DLY. -/
def RD_NET_CTRL_TXC_DLY (n : Nat) : Fld := ⟨(atNET n 0x0), 23, 23⟩
/-- RD_NET_CTRL.RXC_DLY. -/
def RD_NET_CTRL_RXC_DLY (n : Nat) : Fld := ⟨(atNET n 0x0), 22, 22⟩
/-- RD_NET_CTRL.MAXLEN. -/
def RD_NET_CTRL_MAXLEN (n : Nat) : Fld := ⟨(atNET n 0x0), 15, 0⟩
/-- RD_NET_MAC_LO.MAC. -/
def RD_NET_MAC_LO_MAC (n : Nat) : Fld := ⟨(atNET n 0x4), 31, 0⟩
/-- RD_NET_MAC_HI.MAC. -/
def RD_NET_MAC_HI_MAC (n : Nat) : Fld := ⟨(atNET n 0x8), 15, 0⟩
/-- RD_NET_TXHEAD.HEAD0. -/
def RD_NET_TXHEAD_HEAD0 (n : Nat) : Fld := ⟨(atNET n 0xc), 5, 0⟩
/-- RD_NET_TXHEAD.HEAD1. -/
def RD_NET_TXHEAD_HEAD1 (n : Nat) : Fld := ⟨(atNET n 0xc), 11, 6⟩
/-- RD_NET_TXHEAD.HEAD2. -/
def RD_NET_TXHEAD_HEAD2 (n : Nat) : Fld := ⟨(atNET n 0xc), 17, 12⟩
/-- RD_NET_TXHEAD.HEAD3. -/
def RD_NET_TXHEAD_HEAD3 (n : Nat) : Fld := ⟨(atNET n 0xc), 23, 18⟩
/-- RD_NET_RXHEAD.HEAD. -/
def RD_NET_RXHEAD_HEAD (n : Nat) : Fld := ⟨(atNET n 0x10), 6, 0⟩
/-- RD_NET_FLOW.PAUSE_TIME. -/
def RD_NET_FLOW_PAUSE_TIME (n : Nat) : Fld := ⟨(atNET n 0x14), 31, 16⟩
/-- RD_NET_FLOW.XON. -/
def RD_NET_FLOW_XON (n : Nat) : Fld := ⟨(atNET n 0x14), 13, 7⟩
/-- RD_NET_FLOW.XOFF. -/
def RD_NET_FLOW_XOFF (n : Nat) : Fld := ⟨(atNET n 0x14), 6, 0⟩
/-- RD_NET_LAT.TX_LAT. -/
def RD_NET_LAT_TX_LAT (n : Nat) : Fld := ⟨(atNET n 0x18), 31, 16⟩
/-- RD_NET_LAT.RX_LAT. -/
def RD_NET_LAT_RX_LAT (n : Nat) : Fld := ⟨(atNET n 0x18), 15, 0⟩
/-- RD_NET_STATUS.TS_OVF. -/
def RD_NET_STATUS_TS_OVF (n : Nat) : Fld := ⟨(atNET n 0x1c), 31, 31⟩
/-- RD_NET_STATUS.PAUSED. -/
def RD_NET_STATUS_PAUSED (n : Nat) : Fld := ⟨(atNET n 0x1c), 30, 30⟩
/-- RD_NET_STATUS.XOFF_SENT. -/
def RD_NET_STATUS_XOFF_SENT (n : Nat) : Fld := ⟨(atNET n 0x1c), 29, 29⟩
/-- RD_NET_CNT0.TX_N. -/
def RD_NET_CNT0_TX_N (n : Nat) : Fld := ⟨(atNET n 0x20), 31, 16⟩
/-- RD_NET_CNT0.RX_N. -/
def RD_NET_CNT0_RX_N (n : Nat) : Fld := ⟨(atNET n 0x20), 15, 0⟩
/-- RD_NET_CNT1.FCS_N. -/
def RD_NET_CNT1_FCS_N (n : Nat) : Fld := ⟨(atNET n 0x24), 31, 24⟩
/-- RD_NET_CNT1.RUNT_N. -/
def RD_NET_CNT1_RUNT_N (n : Nat) : Fld := ⟨(atNET n 0x24), 23, 16⟩
/-- RD_NET_CNT1.LONG_N. -/
def RD_NET_CNT1_LONG_N (n : Nat) : Fld := ⟨(atNET n 0x24), 15, 8⟩
/-- RD_NET_CNT1.NODESC_N. -/
def RD_NET_CNT1_NODESC_N (n : Nat) : Fld := ⟨(atNET n 0x24), 7, 0⟩
/-- RD_NET_CNT2.OVERSIZE_N. -/
def RD_NET_CNT2_OVERSIZE_N (n : Nat) : Fld := ⟨(atNET n 0x28), 31, 24⟩
/-- RD_NET_CNT2.PAUSE_N. -/
def RD_NET_CNT2_PAUSE_N (n : Nat) : Fld := ⟨(atNET n 0x28), 23, 16⟩
/-- RD_NET_CNT2.MACCTL_N. -/
def RD_NET_CNT2_MACCTL_N (n : Nat) : Fld := ⟨(atNET n 0x28), 15, 8⟩
/-- RD_NET_CNT2.NOWIN_N. -/
def RD_NET_CNT2_NOWIN_N (n : Nat) : Fld := ⟨(atNET n 0x28), 7, 0⟩
/-- RD_NET_CNT3.COLL_N. -/
def RD_NET_CNT3_COLL_N (n : Nat) : Fld := ⟨(atNET n 0x2c), 31, 24⟩
/-- RD_NET_CNT3.EXCOL_N. -/
def RD_NET_CNT3_EXCOL_N (n : Nat) : Fld := ⟨(atNET n 0x2c), 23, 16⟩
/-- RD_NET_CNT3.LATECOL_N. -/
def RD_NET_CNT3_LATECOL_N (n : Nat) : Fld := ⟨(atNET n 0x2c), 15, 8⟩
/-- RD_NET_CNT3.TS_OVF_N. -/
def RD_NET_CNT3_TS_OVF_N (n : Nat) : Fld := ⟨(atNET n 0x2c), 7, 0⟩
/-- RD_NET_TXTS_POP.VALID. -/
def RD_NET_TXTS_POP_VALID (n : Nat) : Fld := ⟨(atNET n 0x30), 31, 31⟩
/-- RD_NET_TXTS_POP.TS_TAG. -/
def RD_NET_TXTS_POP_TS_TAG (n : Nat) : Fld := ⟨(atNET n 0x30), 23, 16⟩
/-- RD_NET_TXTS_POP.SEC_HI. -/
def RD_NET_TXTS_POP_SEC_HI (n : Nat) : Fld := ⟨(atNET n 0x30), 15, 0⟩
/-- RD_NET_MDIO_CMD.OP. -/
def RD_NET_MDIO_CMD_OP (n : Nat) : Fld := ⟨(atNET n 0x3c), 27, 26⟩
/-- RD_NET_MDIO_CMD.PHYAD. -/
def RD_NET_MDIO_CMD_PHYAD (n : Nat) : Fld := ⟨(atNET n 0x3c), 25, 21⟩
/-- RD_NET_MDIO_CMD.REGAD. -/
def RD_NET_MDIO_CMD_REGAD (n : Nat) : Fld := ⟨(atNET n 0x3c), 20, 16⟩
/-- RD_NET_MDIO_CMD.DATA. -/
def RD_NET_MDIO_CMD_DATA (n : Nat) : Fld := ⟨(atNET n 0x3c), 15, 0⟩
/-- RD_NET_MDIO_RESULT.VALID. -/
def RD_NET_MDIO_RESULT_VALID (n : Nat) : Fld := ⟨(atNET n 0x40), 31, 31⟩
/-- RD_NET_MDIO_RESULT.SEQ. -/
def RD_NET_MDIO_RESULT_SEQ (n : Nat) : Fld := ⟨(atNET n 0x40), 29, 22⟩
/-- RD_NET_MDIO_RESULT.DATA. -/
def RD_NET_MDIO_RESULT_DATA (n : Nat) : Fld := ⟨(atNET n 0x40), 15, 0⟩
/-- RD_NET_TXTS_SEC.SEC. -/
def RD_NET_TXTS_SEC_SEC (n : Nat) : Fld := ⟨(atNET n 0x34), 31, 0⟩
/-- RD_NET_TXTS_NS.NS. -/
def RD_NET_TXTS_NS_NS (n : Nat) : Fld := ⟨(atNET n 0x38), 29, 0⟩
/-- RD_WHEEL_CTRL.WHEEL_EN. -/
def RD_WHEEL_CTRL_WHEEL_EN : Fld := ⟨(atWHEEL 0x0), 31, 31⟩
/-- RD_WHEEL_CTRL.BANK. -/
def RD_WHEEL_CTRL_BANK : Fld := ⟨(atWHEEL 0x0), 30, 30⟩
/-- RD_WHEEL_CTRL.CYCLE. -/
def RD_WHEEL_CTRL_CYCLE : Fld := ⟨(atWHEEL 0x0), 26, 24⟩
/-- RD_WHEEL_CTRL.BASE. -/
def RD_WHEEL_CTRL_BASE : Fld := ⟨(atWHEEL 0x0), 23, 0⟩
/-- RD_WHEEL_STATUS.WHEEL_REFUSED. -/
def RD_WHEEL_STATUS_WHEEL_REFUSED : Fld := ⟨(atWHEEL 0x4), 31, 31⟩
/-- RD_WHEEL_STATUS.BANK_ACT. -/
def RD_WHEEL_STATUS_BANK_ACT : Fld := ⟨(atWHEEL 0x4), 30, 30⟩
/-- RD_WHEEL_STATUS.STATE. -/
def RD_WHEEL_STATUS_STATE : Fld := ⟨(atWHEEL 0x4), 29, 28⟩
/-- RD_WHEEL_STATUS.ENTRY. -/
def RD_WHEEL_STATUS_ENTRY : Fld := ⟨(atWHEEL 0x4), 5, 0⟩
/-- RD_PTP_NS.NS. -/
def RD_PTP_NS_NS : Fld := ⟨(atPTP 0x0), 29, 0⟩
/-- RD_PTP_SEC_LO.SEC. -/
def RD_PTP_SEC_LO_SEC : Fld := ⟨(atPTP 0x4), 31, 0⟩
/-- RD_PTP_SEC_HI.SEC. -/
def RD_PTP_SEC_HI_SEC : Fld := ⟨(atPTP 0x8), 15, 0⟩
/-- RD_PTP_INC_FRAC.INC_FRAC. -/
def RD_PTP_INC_FRAC_INC_FRAC : Fld := ⟨(atPTP 0xc), 31, 0⟩
/-- RD_PTP_INC.INC_NS. -/
def RD_PTP_INC_INC_NS : Fld := ⟨(atPTP 0x10), 7, 0⟩
/-- RD_PTP_SET_NS.SET_NS. -/
def RD_PTP_SET_NS_SET_NS : Fld := ⟨(atPTP 0x14), 31, 0⟩
/-- RD_PTP_SET_SEC_LO.SET_SEC. -/
def RD_PTP_SET_SEC_LO_SET_SEC : Fld := ⟨(atPTP 0x18), 31, 0⟩
/-- RD_PTP_SET_SEC_HI.SET_SEC. -/
def RD_PTP_SET_SEC_HI_SET_SEC : Fld := ⟨(atPTP 0x1c), 15, 0⟩
/-- RD_PTP_ADJ.ADJ. -/
def RD_PTP_ADJ_ADJ : Fld := ⟨(atPTP 0x20), 31, 0⟩
/-- RD_PTP_CMD.SET. -/
def RD_PTP_CMD_SET : Fld := ⟨(atPTP 0x24), 0, 0⟩
/-- RD_PTP_STATUS.STEPPED. -/
def RD_PTP_STATUS_STEPPED : Fld := ⟨(atPTP 0x28), 31, 31⟩
/-- RD_PTP_STATUS.SET_REFUSED. -/
def RD_PTP_STATUS_SET_REFUSED : Fld := ⟨(atPTP 0x28), 30, 30⟩
/-- RD_PTP_STATUS.TRIG_LATE. -/
def RD_PTP_STATUS_TRIG_LATE : Fld := ⟨(atPTP 0x28), 29, 28⟩
/-- RD_PTP_STATUS.CAP_OVF. -/
def RD_PTP_STATUS_CAP_OVF : Fld := ⟨(atPTP 0x28), 27, 26⟩
/-- RD_PTP_TRIG_SEC_HI.SEC. -/
def RD_PTP_TRIG_SEC_HI_SEC (t : Nat) : Fld := ⟨(atTRIG t 0x0), 15, 0⟩
/-- RD_PTP_TRIG_SEC_LO.SEC. -/
def RD_PTP_TRIG_SEC_LO_SEC (t : Nat) : Fld := ⟨(atTRIG t 0x4), 31, 0⟩
/-- RD_PTP_TRIG_NS.NS. -/
def RD_PTP_TRIG_NS_NS (t : Nat) : Fld := ⟨(atTRIG t 0x8), 29, 0⟩
/-- RD_PTP_TRIG_PERIOD.PERIOD. -/
def RD_PTP_TRIG_PERIOD_PERIOD (t : Nat) : Fld := ⟨(atTRIG t 0xc), 31, 0⟩
/-- RD_PTP_TRIG_CTRL.ARM. -/
def RD_PTP_TRIG_CTRL_ARM (t : Nat) : Fld := ⟨(atTRIG t 0x10), 31, 31⟩
/-- RD_PTP_TRIG_CTRL.MODE. -/
def RD_PTP_TRIG_CTRL_MODE (t : Nat) : Fld := ⟨(atTRIG t 0x10), 30, 30⟩
/-- RD_PTP_TRIG_CTRL.POL. -/
def RD_PTP_TRIG_CTRL_POL (t : Nat) : Fld := ⟨(atTRIG t 0x10), 29, 29⟩
/-- RD_PTP_TRIG_CTRL.WIDTH. -/
def RD_PTP_TRIG_CTRL_WIDTH (t : Nat) : Fld := ⟨(atTRIG t 0x10), 23, 0⟩
/-- RD_PTP_CAP_CTRL.EN. -/
def RD_PTP_CAP_CTRL_EN (c : Nat) : Fld := ⟨(atCAP c 0x0), 31, 31⟩
/-- RD_PTP_CAP_CTRL.EDGE. -/
def RD_PTP_CAP_CTRL_EDGE (c : Nat) : Fld := ⟨(atCAP c 0x0), 30, 29⟩
/-- RD_PTP_CAP_POP.VALID. -/
def RD_PTP_CAP_POP_VALID (c : Nat) : Fld := ⟨(atCAP c 0x4), 31, 31⟩
/-- RD_PTP_CAP_POP.RASTER_VALID. -/
def RD_PTP_CAP_POP_RASTER_VALID (c : Nat) : Fld := ⟨(atCAP c 0x4), 30, 30⟩
/-- RD_PTP_CAP_POP.RISING. -/
def RD_PTP_CAP_POP_RISING (c : Nat) : Fld := ⟨(atCAP c 0x4), 29, 29⟩
/-- RD_PTP_CAP_POP.SEC_HI. -/
def RD_PTP_CAP_POP_SEC_HI (c : Nat) : Fld := ⟨(atCAP c 0x4), 15, 0⟩
/-- RD_PTP_CAP_SEC.SEC. -/
def RD_PTP_CAP_SEC_SEC (c : Nat) : Fld := ⟨(atCAP c 0x8), 31, 0⟩
/-- RD_PTP_CAP_NS.NS. -/
def RD_PTP_CAP_NS_NS (c : Nat) : Fld := ⟨(atCAP c 0xc), 29, 0⟩
/-- RD_PTP_CAP_POS.LPOS. -/
def RD_PTP_CAP_POS_LPOS (c : Nat) : Fld := ⟨(atCAP c 0x10), 31, 16⟩
/-- RD_PTP_CAP_POS.LPHASE. -/
def RD_PTP_CAP_POS_LPHASE (c : Nat) : Fld := ⟨(atCAP c 0x10), 15, 0⟩
/-- RD_PTP_CAP_FNUM.FNUM. -/
def RD_PTP_CAP_FNUM_FNUM (c : Nat) : Fld := ⟨(atCAP c 0x14), 31, 0⟩
/-- RD_PTP_CAP_CNT.CAP_N. -/
def RD_PTP_CAP_CNT_CAP_N (c : Nat) : Fld := ⟨(atCAP c 0x18), 31, 16⟩
/-- RD_PTP_CAP_CNT.CAP_OVF_N. -/
def RD_PTP_CAP_CNT_CAP_OVF_N (c : Nat) : Fld := ⟨(atCAP c 0x18), 15, 0⟩
/-- RD_AUD_CTRL.EN. -/
def RD_AUD_CTRL_EN (n : Nat) : Fld := ⟨(atAUD n 0x0), 31, 31⟩
/-- RD_AUD_CTRL.FORMAT. -/
def RD_AUD_CTRL_FORMAT (n : Nat) : Fld := ⟨(atAUD n 0x0), 30, 30⟩
/-- RD_AUD_CTRL.CS_SRC. -/
def RD_AUD_CTRL_CS_SRC (n : Nat) : Fld := ⟨(atAUD n 0x0), 29, 29⟩
/-- RD_AUD_CTRL.MUTE_NONPCM. -/
def RD_AUD_CTRL_MUTE_NONPCM (n : Nat) : Fld := ⟨(atAUD n 0x0), 28, 28⟩
/-- RD_AUD_CTRL.AUTO_LAT. -/
def RD_AUD_CTRL_AUTO_LAT (n : Nat) : Fld := ⟨(atAUD n 0x0), 27, 27⟩
/-- RD_AUD_CTRL.GROUP_EN. -/
def RD_AUD_CTRL_GROUP_EN (n : Nat) : Fld := ⟨(atAUD n 0x0), 26, 26⟩
/-- RD_AUD_CTRL.GROUP. -/
def RD_AUD_CTRL_GROUP (n : Nat) : Fld := ⟨(atAUD n 0x0), 25, 24⟩
/-- RD_AUD_CTRL.SLIP_LIM. -/
def RD_AUD_CTRL_SLIP_LIM (n : Nat) : Fld := ⟨(atAUD n 0x0), 7, 0⟩
/-- RD_AUD_ADJ.ADJ. -/
def RD_AUD_ADJ_ADJ (n : Nat) : Fld := ⟨(atAUD n 0x4), 31, 0⟩
/-- RD_AUD_STATUS.STATE. -/
def RD_AUD_STATUS_STATE (n : Nat) : Fld := ⟨(atAUD n 0x8), 31, 28⟩
/-- RD_AUD_STATUS.FS. -/
def RD_AUD_STATUS_FS (n : Nat) : Fld := ⟨(atAUD n 0x8), 27, 25⟩
/-- RD_AUD_STATUS.NONPCM. -/
def RD_AUD_STATUS_NONPCM (n : Nat) : Fld := ⟨(atAUD n 0x8), 24, 24⟩
/-- RD_AUD_STATUS.IN_STOP. -/
def RD_AUD_STATUS_IN_STOP (n : Nat) : Fld := ⟨(atAUD n 0x8), 23, 23⟩
/-- RD_AUD_STATUS.OUT_STOP. -/
def RD_AUD_STATUS_OUT_STOP (n : Nat) : Fld := ⟨(atAUD n 0x8), 22, 22⟩
/-- RD_AUD_STATUS.GLITCH. -/
def RD_AUD_STATUS_GLITCH (n : Nat) : Fld := ⟨(atAUD n 0x8), 21, 21⟩
/-- RD_AUD_STATUS.RATE_CHG. -/
def RD_AUD_STATUS_RATE_CHG (n : Nat) : Fld := ⟨(atAUD n 0x8), 20, 20⟩
/-- RD_AUD_STATUS.RATE_DIFF. -/
def RD_AUD_STATUS_RATE_DIFF (n : Nat) : Fld := ⟨(atAUD n 0x8), 19, 19⟩
/-- RD_AUD_STATUS.DELAY_CLAMP. -/
def RD_AUD_STATUS_DELAY_CLAMP (n : Nat) : Fld := ⟨(atAUD n 0x8), 18, 18⟩
/-- RD_AUD_STATUS.GROUP_RATE. -/
def RD_AUD_STATUS_GROUP_RATE (n : Nat) : Fld := ⟨(atAUD n 0x8), 17, 17⟩
/-- RD_AUD_STATUS.TS_OVF. -/
def RD_AUD_STATUS_TS_OVF (n : Nat) : Fld := ⟨(atAUD n 0x8), 16, 16⟩
/-- RD_AUD_DELAY.VALID. -/
def RD_AUD_DELAY_VALID (n : Nat) : Fld := ⟨(atAUD n 0xc), 31, 31⟩
/-- RD_AUD_DELAY.SEQ. -/
def RD_AUD_DELAY_SEQ (n : Nat) : Fld := ⟨(atAUD n 0xc), 29, 22⟩
/-- RD_AUD_DELAY.D_F. -/
def RD_AUD_DELAY_D_F (n : Nat) : Fld := ⟨(atAUD n 0xc), 18, 0⟩
/-- RD_AUD_ALIGN.ALIGN. -/
def RD_AUD_ALIGN_ALIGN (n : Nat) : Fld := ⟨(atAUD n 0x10), 15, 0⟩
/-- RD_AUD_COUNT.GLITCH_N. -/
def RD_AUD_COUNT_GLITCH_N (n : Nat) : Fld := ⟨(atAUD n 0x14), 31, 24⟩
/-- RD_AUD_COUNT.REALIGN. -/
def RD_AUD_COUNT_REALIGN (n : Nat) : Fld := ⟨(atAUD n 0x14), 23, 16⟩
/-- RD_AUD_COUNT.UNDERRUN. -/
def RD_AUD_COUNT_UNDERRUN (n : Nat) : Fld := ⟨(atAUD n 0x14), 15, 8⟩
/-- RD_AUD_COUNT.ZERO_N. -/
def RD_AUD_COUNT_ZERO_N (n : Nat) : Fld := ⟨(atAUD n 0x14), 7, 0⟩
/-- RD_AUD_COUNT2.TS_OVF_N. -/
def RD_AUD_COUNT2_TS_OVF_N (n : Nat) : Fld := ⟨(atAUD n 0x18), 7, 0⟩
/-- RD_AUD_CS_IN.CS. -/
def RD_AUD_CS_IN_CS (n i : Nat) : Fld := ⟨(atAUD n (0x20 + 4 * i)), 31, 0⟩
/-- RD_AUD_CS_OUT.CS. -/
def RD_AUD_CS_OUT_CS (n i : Nat) : Fld := ⟨(atAUD n (0x38 + 4 * i)), 31, 0⟩
/-- RD_AUD_TS_POP.VALID. -/
def RD_AUD_TS_POP_VALID (n : Nat) : Fld := ⟨(atAUD n 0x60), 31, 31⟩
/-- RD_AUD_TS_POP.DIR. -/
def RD_AUD_TS_POP_DIR (n : Nat) : Fld := ⟨(atAUD n 0x60), 30, 30⟩
/-- RD_AUD_TS_POP.SEC_HI. -/
def RD_AUD_TS_POP_SEC_HI (n : Nat) : Fld := ⟨(atAUD n 0x60), 29, 16⟩
/-- RD_AUD_TS_POP.BLOCK. -/
def RD_AUD_TS_POP_BLOCK (n : Nat) : Fld := ⟨(atAUD n 0x60), 15, 0⟩
/-- RD_AUD_TS_SEC.SEC. -/
def RD_AUD_TS_SEC_SEC (n : Nat) : Fld := ⟨(atAUD n 0x64), 31, 0⟩
/-- RD_AUD_TS_NS.NS. -/
def RD_AUD_TS_NS_NS (n : Nat) : Fld := ⟨(atAUD n 0x68), 29, 0⟩
/-- RD_AUD_TS_FNUM.FNUM. -/
def RD_AUD_TS_FNUM_FNUM (n : Nat) : Fld := ⟨(atAUD n 0x6c), 31, 0⟩
/-- RD_AUD_TS_POS.LPOS. -/
def RD_AUD_TS_POS_LPOS (n : Nat) : Fld := ⟨(atAUD n 0x70), 31, 16⟩
/-- RD_AUD_TS_POS.LPHASE. -/
def RD_AUD_TS_POS_LPHASE (n : Nat) : Fld := ⟨(atAUD n 0x70), 15, 0⟩
/-- RD_CRC_CFG.REFIN. -/
def RD_CRC_CFG_REFIN (u : Nat) : Fld := ⟨(atCRC u 0x0), 31, 31⟩
/-- RD_CRC_CFG.REFOUT. -/
def RD_CRC_CFG_REFOUT (u : Nat) : Fld := ⟨(atCRC u 0x0), 30, 30⟩
/-- RD_CRC_CFG.WIDTH_M1. -/
def RD_CRC_CFG_WIDTH_M1 (u : Nat) : Fld := ⟨(atCRC u 0x0), 5, 0⟩
/-- RD_CRC_CMD.START. -/
def RD_CRC_CMD_START (u : Nat) : Fld := ⟨(atCRC u 0x4), 0, 0⟩
/-- RD_CRC_DATA8.DATA. -/
def RD_CRC_DATA8_DATA (u : Nat) : Fld := ⟨(atCRC u 0x28), 7, 0⟩
/-- RD_CRC_DATA16.DATA. -/
def RD_CRC_DATA16_DATA (u : Nat) : Fld := ⟨(atCRC u 0x2c), 15, 0⟩
/-- RD_CRC_DATA32.DATA. -/
def RD_CRC_DATA32_DATA (u : Nat) : Fld := ⟨(atCRC u 0x30), 31, 0⟩
/-- RD_CRC_RESULT_INFO.VALID. -/
def RD_CRC_RESULT_INFO_VALID (u : Nat) : Fld := ⟨(atCRC u 0x34), 31, 31⟩
/-- RD_CRC_RESULT_INFO.SEQ. -/
def RD_CRC_RESULT_INFO_SEQ (u : Nat) : Fld := ⟨(atCRC u 0x34), 29, 22⟩
/-- RD_CRC_RESULT_INFO.PENDING. -/
def RD_CRC_RESULT_INFO_PENDING (u : Nat) : Fld := ⟨(atCRC u 0x34), 4, 0⟩
/-- RD_CRC_BYTES.BYTES. -/
def RD_CRC_BYTES_BYTES (u : Nat) : Fld := ⟨(atCRC u 0x40), 31, 0⟩
/-- RD_CRC_POLY_LO.V. -/
def RD_CRC_POLY_LO_V (u : Nat) : Fld := ⟨(atCRC u 0x8), 31, 0⟩
/-- RD_CRC_POLY_HI.V. -/
def RD_CRC_POLY_HI_V (u : Nat) : Fld := ⟨(atCRC u 0xc), 31, 0⟩
/-- RD_CRC_INIT_LO.V. -/
def RD_CRC_INIT_LO_V (u : Nat) : Fld := ⟨(atCRC u 0x10), 31, 0⟩
/-- RD_CRC_INIT_HI.V. -/
def RD_CRC_INIT_HI_V (u : Nat) : Fld := ⟨(atCRC u 0x14), 31, 0⟩
/-- RD_CRC_XOR_LO.V. -/
def RD_CRC_XOR_LO_V (u : Nat) : Fld := ⟨(atCRC u 0x18), 31, 0⟩
/-- RD_CRC_XOR_HI.V. -/
def RD_CRC_XOR_HI_V (u : Nat) : Fld := ⟨(atCRC u 0x1c), 31, 0⟩
/-- RD_CRC_STATE_LO.V. -/
def RD_CRC_STATE_LO_V (u : Nat) : Fld := ⟨(atCRC u 0x20), 31, 0⟩
/-- RD_CRC_STATE_HI.V. -/
def RD_CRC_STATE_HI_V (u : Nat) : Fld := ⟨(atCRC u 0x24), 31, 0⟩
/-- RD_CRC_RESULT_LO.V. -/
def RD_CRC_RESULT_LO_V (u : Nat) : Fld := ⟨(atCRC u 0x38), 31, 0⟩
/-- RD_CRC_RESULT_HI.V. -/
def RD_CRC_RESULT_HI_V (u : Nat) : Fld := ⟨(atCRC u 0x3c), 31, 0⟩
/-- RD_K24_ID.ID. -/
def RD_K24_ID_ID : Fld := ⟨(atK24 0x0), 15, 0⟩
/-- RD_K24_REV.REV. -/
def RD_K24_REV_REV : Fld := ⟨(atK24 0x4), 15, 0⟩
/-- RD_K24_ADDR.EXCESS. -/
def RD_K24_ADDR_EXCESS : Fld := ⟨(atK24 0x8), 15, 15⟩
/-- RD_K24_ADDR.ADDR. -/
def RD_K24_ADDR_ADDR : Fld := ⟨(atK24 0x8), 5, 0⟩
/-- RD_K24_STATUS.UPD. -/
def RD_K24_STATUS_UPD : Fld := ⟨(atK24 0xc), 15, 12⟩
/-- RD_K24_STATUS.NO_MOULD. -/
def RD_K24_STATUS_NO_MOULD : Fld := ⟨(atK24 0xc), 8, 8⟩
/-- RD_K24_STATUS.SAFE_DARK. -/
def RD_K24_STATUS_SAFE_DARK : Fld := ⟨(atK24 0xc), 7, 7⟩
/-- RD_K24_STATUS.LAMP_FAULT. -/
def RD_K24_STATUS_LAMP_FAULT : Fld := ⟨(atK24 0xc), 6, 6⟩
/-- RD_K24_STATUS.CEIL_LOW. -/
def RD_K24_STATUS_CEIL_LOW : Fld := ⟨(atK24 0xc), 5, 5⟩
/-- RD_K24_STATUS.SAVING. -/
def RD_K24_STATUS_SAVING : Fld := ⟨(atK24 0xc), 4, 4⟩
/-- RD_K24_STATUS.DARK. -/
def RD_K24_STATUS_DARK : Fld := ⟨(atK24 0xc), 3, 3⟩
/-- RD_K24_STATUS.HOLDING. -/
def RD_K24_STATUS_HOLDING : Fld := ⟨(atK24 0xc), 2, 2⟩
/-- RD_K24_STATUS.SHOWING. -/
def RD_K24_STATUS_SHOWING : Fld := ⟨(atK24 0xc), 1, 1⟩
/-- RD_K24_STATUS.LOCK. -/
def RD_K24_STATUS_LOCK : Fld := ⟨(atK24 0xc), 0, 0⟩
/-- RD_K24_CTRL.HOLD. -/
def RD_K24_CTRL_HOLD : Fld := ⟨(atK24 0x10), 15, 8⟩
/-- RD_K24_CTRL.PAT. -/
def RD_K24_CTRL_PAT : Fld := ⟨(atK24 0x10), 3, 2⟩
/-- RD_K24_CTRL.TEST. -/
def RD_K24_CTRL_TEST : Fld := ⟨(atK24 0x10), 1, 1⟩
/-- RD_K24_CTRL.BLANK. -/
def RD_K24_CTRL_BLANK : Fld := ⟨(atK24 0x10), 0, 0⟩
/-- RD_K24_BRT.BRT. -/
def RD_K24_BRT_BRT : Fld := ⟨(atK24 0x14), 7, 0⟩
/-- RD_K24_WIDTH.WIDTH. -/
def RD_K24_WIDTH_WIDTH : Fld := ⟨(atK24 0x18), 15, 0⟩
/-- RD_K24_HEIGHT.HEIGHT. -/
def RD_K24_HEIGHT_HEIGHT : Fld := ⟨(atK24 0x1c), 15, 0⟩
/-- RD_K24_FCNT.FCNT. -/
def RD_K24_FCNT_FCNT : Fld := ⟨(atK24 0x20), 7, 0⟩
/-- RD_K24_GAM_IDX.COLOUR. -/
def RD_K24_GAM_IDX_COLOUR : Fld := ⟨(atK24 0x40), 9, 8⟩
/-- RD_K24_GAM_IDX.INDEX. -/
def RD_K24_GAM_IDX_INDEX : Fld := ⟨(atK24 0x40), 7, 0⟩
/-- RD_K24_GAM_DATA.DATA. -/
def RD_K24_GAM_DATA_DATA : Fld := ⟨(atK24 0x44), 15, 0⟩
/-- RD_K24_GAIN_IDX_LO.IDX. -/
def RD_K24_GAIN_IDX_LO_IDX : Fld := ⟨(atK24 0x60), 15, 0⟩
/-- RD_K24_GAIN_IDX_HI.IDX. -/
def RD_K24_GAIN_IDX_HI_IDX : Fld := ⟨(atK24 0x64), 1, 0⟩
/-- RD_K24_GAIN_DATA.GAIN. -/
def RD_K24_GAIN_DATA_GAIN : Fld := ⟨(atK24 0x68), 7, 0⟩
/-- RD_K24_TEMP.TEMP. -/
def RD_K24_TEMP_TEMP : Fld := ⟨(atK24 0x80), 15, 0⟩
/-- RD_K24_ERR_POP.ERR. -/
def RD_K24_ERR_POP_ERR : Fld := ⟨(atK24 0x84), 15, 0⟩
/-- RD_K24_FAULTS.N. -/
def RD_K24_FAULTS_N : Fld := ⟨(atK24 0x88), 15, 0⟩
/-- RD_K24_REPEAT.ROWS. -/
def RD_K24_REPEAT_ROWS : Fld := ⟨(atK24 0x8c), 15, 0⟩
/-- RD_K24_SAVE.KEY. -/
def RD_K24_SAVE_KEY : Fld := ⟨(atK24 0xc0), 15, 0⟩
/-- RD_K24_UPD_CTRL.CMD. -/
def RD_K24_UPD_CTRL_CMD : Fld := ⟨(atK24 0x100), 3, 0⟩
/-- RD_K24_UPD_DATA.BYTE. -/
def RD_K24_UPD_DATA_BYTE : Fld := ⟨(atK24 0x104), 7, 0⟩
/-- RD_K24_UPD_STATUS.ERR. -/
def RD_K24_UPD_STATUS_ERR : Fld := ⟨(atK24 0x108), 15, 8⟩
/-- RD_K24_UPD_STATUS.STATE. -/
def RD_K24_UPD_STATUS_STATE : Fld := ⟨(atK24 0x108), 3, 0⟩
/-- RD_K24_UPD_WIN.MIN. -/
def RD_K24_UPD_WIN_MIN : Fld := ⟨(atK24 0x10c), 15, 0⟩
/-- RD_K24_GN8.TAG. -/
def RD_K24_GN8_TAG : Fld := ⟨(atK24 0x3c0), 15, 0⟩

end Sys2Proof.Machine.F
end

