-- ==== Sys2Proof/Machine/RegTable.lean ====
section
/-!
DEFINITION. The register tables of the manual, block by block: every register with its fields, their bits, access type,
reset value and Applies column (R9, R10, R13), as the chapters' tables give them. A field whose reset is marked `mould`
takes its value from the mould image (R42); `other` marks a reset of another source (fuses, retention RAM, ROM), which
the state holds in a record of its own.
-/

namespace Sys2Proof.Machine

/-- Registers of block RD, part 0. -/
def regsRD_0 : List RegDef := [
  ⟨"RD_DIE_STATE", 0x40, 1, 4, none, [
    ⟨"ROLE", 26, 24, .ro, .const 0, .imm⟩,
    ⟨"LINK_FAIL", 23, 16, .ro, .const 0, .imm⟩,
    ⟨"DIE_RUN", 15, 8, .ro, .const 1, .imm⟩,
    ⟨"DIE_ON", 7, 0, .ro, .mould, .imm⟩]⟩,
  ⟨"RD_PRES_LAT", 0x44, 1, 4, none, [
    ⟨"PRES_LAT", 31, 0, .ro, .const 0, .imm⟩]⟩,
  ⟨"RD_MOULD_STATUS", 0x100, 1, 4, none, [
    ⟨"VALID", 31, 31, .ro, .const 0, .imm⟩,
    ⟨"SEQ", 23, 16, .ro, .const 0, .imm⟩,
    ⟨"MOULD_LIMIT", 15, 15, .w1c, .const 0, .imm⟩,
    ⟨"SOURCE", 14, 12, .ro, .const 0, .imm⟩,
    ⟨"STATE", 11, 8, .ro, .const 0, .imm⟩,
    ⟨"ERR", 7, 0, .ro, .const 0, .imm⟩]⟩,
  ⟨"RD_MOULD_INFO", 0x108, 1, 4, none, [
    ⟨"MOULD_SEQ", 31, 16, .ro, .mould, .imm⟩,
    ⟨"PHASES", 10, 8, .ro, .mould, .imm⟩,
    ⟨"SENDER_END", 5, 4, .ro, .mould, .imm⟩,
    ⟨"FORMAT", 3, 0, .ro, .mould, .imm⟩]⟩,
  ⟨"RD_REMOULD_CTRL", 0x110, 1, 4, none, [
    ⟨"CMD", 1, 0, .wo, .const 0, .imm⟩]⟩,
  ⟨"RD_REMOULD_RESULT", 0x118, 1, 4, none, [
    ⟨"VALID", 31, 31, .ro, .const 0, .imm⟩,
    ⟨"SEQ", 23, 16, .ro, .const 0, .imm⟩,
    ⟨"STATE", 15, 12, .ro, .const 0, .imm⟩,
    ⟨"ERR", 7, 0, .ro, .const 0, .imm⟩]⟩,
  ⟨"RD_BOOT_STATUS", 0x20, 1, 4, none, [
    ⟨"STAGE", 31, 28, .ro, .const 1, .imm⟩,
    ⟨"SOURCE", 26, 24, .ro, .const 0, .imm⟩,
    ⟨"ERR", 23, 16, .ro, .const 0, .imm⟩,
    ⟨"TILE_STATE", 15, 12, .ro, .const 0, .imm⟩]⟩,
  ⟨"RD_WTG_CTRL", 0x208, 1, 4, none, [
    ⟨"REF_SEL", 31, 30, .rws, .const 0, .commit⟩,
    ⟨"REF_HOLD", 29, 29, .rw, .const 0, .imm⟩,
    ⟨"JUMP_EN", 28, 28, .rw, .const 1, .imm⟩,
    ⟨"CHAIN_REF_PORT", 27, 24, .rws, .const 0, .commit⟩,
    ⟨"GL_DIV", 23, 21, .rws, .const 0, .commit⟩,
    ⟨"GL_EDGE", 20, 20, .rws, .const 0, .commit⟩,
    ⟨"LOOP_BW", 19, 18, .rws, .const 1, .commit⟩,
    ⟨"CUT_LINES", 15, 8, .rws, .const 8, .commit⟩]⟩,
  ⟨"RD_WTG_LTOTAL", 0x20c, 1, 4, none, [
    ⟨"LTOTAL", 15, 0, .rws, .const 1125, .sched⟩]⟩,
  ⟨"RD_WTG_FRATE", 0x210, 1, 4, none, [
    ⟨"NUM", 31, 12, .rws, .const 60, .sched⟩,
    ⟨"DEN", 11, 0, .rws, .const 1, .sched⟩]⟩,
  ⟨"RD_WTG_SCHED_FNUM", 0x214, 1, 4, none, [
    ⟨"S", 31, 0, .rw, .const 0, .imm⟩]⟩,
  ⟨"RD_WTG_FNUM_LOAD", 0x218, 1, 4, none, [
    ⟨"FNUM_LOAD", 31, 0, .rws, .const 0, .commit⟩]⟩,
  ⟨"RD_WTG_REF_OFFSET", 0x21c, 1, 4, none, [
    ⟨"OFFSET", 31, 0, .rws, .const 0, .commit⟩]⟩,
  ⟨"RD_WTG_STATUS", 0x220, 1, 4, none, [
    ⟨"STATE", 31, 28, .ro, .const 0, .imm⟩,
    ⟨"REF_LOST", 15, 15, .w1c, .const 0, .imm⟩,
    ⟨"GLITCH", 14, 14, .w1c, .const 0, .imm⟩,
    ⟨"RATE_CHG", 13, 13, .w1c, .const 0, .imm⟩,
    ⟨"JUMPED", 12, 12, .w1c, .const 0, .imm⟩,
    ⟨"FNUM_IGN", 11, 11, .w1c, .const 0, .imm⟩,
    ⟨"SCHED_REFUSED", 10, 10, .w1c, .const 0, .imm⟩,
    ⟨"GLITCH_COUNT", 7, 0, .ro, .const 0, .imm⟩]⟩,
  ⟨"RD_WTG_PHASE_ERR", 0x224, 1, 4, none, [
    ⟨"VALID", 31, 31, .ro, .const 0, .imm⟩,
    ⟨"SEQ", 29, 22, .ro, .const 0, .imm⟩,
    ⟨"ERR", 21, 0, .ro, .const 0, .imm⟩]⟩,
  ⟨"RD_COMMIT_CTRL", 0x230, 1, 4, none, [
    ⟨"HOLD", 0, 0, .rw, .const 0, .imm⟩]⟩,
  ⟨"RD_COMMIT_GO", 0x234, 1, 4, none, [
    ⟨"T", 31, 0, .wo, .const 0, .imm⟩]⟩,
  ⟨"RD_COMMIT_RESULT", 0x238, 1, 4, none, [
    ⟨"VALID", 31, 31, .ro, .const 0, .imm⟩,
    ⟨"SEQ", 23, 16, .ro, .const 0, .imm⟩,
    ⟨"LATE", 15, 15, .ro, .const 0, .imm⟩,
    ⟨"STALE", 14, 14, .ro, .const 0, .imm⟩,
    ⟨"FAR", 13, 13, .ro, .const 0, .imm⟩,
    ⟨"APPLIED", 12, 0, .ro, .const 0, .imm⟩]⟩,
  ⟨"RD_COMMIT_STATUS", 0x23c, 1, 4, none, [
    ⟨"COMMIT_LATE", 31, 31, .w1c, .const 0, .imm⟩,
    ⟨"GO_IGN", 30, 30, .w1c, .const 0, .imm⟩,
    ⟨"LATE_COUNT", 15, 0, .ro, .const 0, .imm⟩]⟩,
  ⟨"RD_FO_CFG", 0x300, 1, 4, none, [
    ⟨"REFEREE", 31, 26, .rw, .const 0, .imm⟩,
    ⟨"DEPUTY", 25, 20, .rw, .const 0, .imm⟩,
    ⟨"HB_MISS", 17, 16, .rw, .const 2, .imm⟩,
    ⟨"LOSS_ACTION", 15, 15, .rw, .const 0, .imm⟩,
    ⟨"HB_DL", 14, 8, .rw, .const 10, .imm⟩,
    ⟨"REVERT", 7, 0, .rw, .const 64, .imm⟩]⟩]

/-- Registers of block RD, part 1. -/
def regsRD_1 : List RegDef := [
  ⟨"RD_FO_KICK", 0x304, 1, 4, none, [
    ⟨"TIMEOUT_MS", 31, 16, .rw, .const 0, .imm⟩,
    ⟨"KICK", 0, 0, .wo, .const 0, .imm⟩]⟩,
  ⟨"RD_TH_DIE_LIM", 0x400, 1, 4, none, [
    ⟨"THR3", 31, 24, .rw, .const 125, .imm⟩,
    ⟨"THR2", 23, 16, .rw, .const 118, .imm⟩,
    ⟨"THR1", 15, 8, .rw, .const 110, .imm⟩,
    ⟨"DIE_HYST", 7, 4, .rw, .const 5, .imm⟩]⟩,
  ⟨"RD_TH_MOD_LIM", 0x404, 1, 4, none, [
    ⟨"MOD_CRIT", 31, 24, .rw, .const 85, .imm⟩,
    ⟨"MOD_HI", 23, 16, .rw, .const 70, .imm⟩,
    ⟨"HYST", 15, 8, .rw, .const 5, .imm⟩,
    ⟨"DEV_LIM", 7, 0, .rw, .const 15, .imm⟩]⟩,
  ⟨"RD_TH_CEIL_CFG", 0x408, 1, 4, none, [
    ⟨"CEIL_MIN", 31, 16, .rw, .const 16384, .imm⟩,
    ⟨"CSTEP", 15, 8, .rw, .const 8, .imm⟩,
    ⟨"CDWELL", 7, 0, .rw, .const 50, .imm⟩]⟩,
  ⟨"RD_TH_STATUS", 0x40c, 1, 4, none, [
    ⟨"STAGE", 31, 28, .ro, .const 0, .imm⟩,
    ⟨"TRIPPED", 27, 27, .ro, .const 0, .imm⟩,
    ⟨"LIM_REFUSED", 26, 26, .w1c, .const 0, .imm⟩,
    ⟨"SENSOR_FAULT", 25, 25, .w1c, .const 0, .imm⟩,
    ⟨"STAGE_EV", 24, 24, .w1c, .const 0, .imm⟩,
    ⟨"CEIL_EV", 23, 23, .w1c, .const 0, .imm⟩,
    ⟨"TJ_MAX", 15, 0, .ro, .const 32768, .imm⟩]⟩,
  ⟨"RD_TH_DIE", 0x410, 8, 4, none, [
    ⟨"STAGE", 31, 28, .ro, .const 0, .imm⟩,
    ⟨"FAST", 27, 27, .ro, .const 0, .imm⟩,
    ⟨"NONE_OK", 26, 26, .ro, .const 0, .imm⟩,
    ⟨"FAULTY", 20, 16, .ro, .const 0, .imm⟩,
    ⟨"MAX", 15, 0, .ro, .const 32768, .imm⟩]⟩,
  ⟨"RD_TH_SENS_DATA", 0x434, 1, 4, none, [
    ⟨"VALID", 31, 31, .ro, .const 0, .imm⟩,
    ⟨"FAULTY", 30, 30, .ro, .const 0, .imm⟩,
    ⟨"SEQ", 29, 22, .ro, .const 0, .imm⟩,
    ⟨"DEVCNT", 21, 16, .ro, .const 0, .imm⟩,
    ⟨"TEMP", 15, 0, .ro, .const 32768, .imm⟩]⟩,
  ⟨"RD_TH_MOD", 0x440, 16, 4, none, [
    ⟨"FAULTY", 31, 31, .ro, .const 0, .imm⟩,
    ⟨"FAST", 30, 30, .ro, .const 0, .imm⟩,
    ⟨"DEVCNT", 29, 24, .ro, .const 0, .imm⟩,
    ⟨"RDFAIL_N", 23, 16, .ro, .const 0, .imm⟩,
    ⟨"TEMP", 15, 0, .ro, .const 32768, .imm⟩]⟩,
  ⟨"RD_TH_CLR", 0x480, 1, 4, none, [
    ⟨"DIE_ALL", 31, 31, .wo, .const 0, .imm⟩,
    ⟨"MOD", 15, 0, .wo, .const 0, .imm⟩]⟩,
  ⟨"RD_TH_I2C", 0x484, 1, 4, none, [
    ⟨"ADDR", 22, 16, .ro, .mould, .imm⟩,
    ⟨"PTR", 15, 8, .ro, .mould, .imm⟩,
    ⟨"FAST", 0, 0, .ro, .mould, .imm⟩]⟩,
  ⟨"RD_FW_STATUS", 0x500, 1, 4, none, [
    ⟨"RUN_SLOT", 31, 31, .ro, .const 0, .imm⟩,
    ⟨"RUN_STATE", 30, 28, .ro, .const 0, .imm⟩,
    ⟨"ALT_STATE", 27, 25, .ro, .const 0, .imm⟩,
    ⟨"FELL_BACK", 24, 24, .w1c, .const 0, .imm⟩,
    ⟨"SET_DROPPED", 23, 23, .w1c, .const 0, .imm⟩,
    ⟨"TRIES", 22, 20, .ro, .const 0, .imm⟩,
    ⟨"WIN_LEFT", 15, 0, .ro, .const 0, .imm⟩]⟩,
  ⟨"RD_FW_VER_RUN", 0x504, 1, 4, none, [
    ⟨"VERSION", 31, 0, .ro, .const 0, .imm⟩]⟩,
  ⟨"RD_FW_VER_ALT", 0x508, 1, 4, none, [
    ⟨"VERSION", 31, 0, .ro, .const 0, .imm⟩]⟩,
  ⟨"RD_FW_CTRL", 0x50c, 1, 4, none, [
    ⟨"CMD", 3, 0, .wo, .const 0, .imm⟩]⟩,
  ⟨"RD_FW_SCHED_FNUM", 0x510, 1, 4, none, [
    ⟨"S", 31, 0, .rw, .const 0, .imm⟩]⟩,
  ⟨"RD_FW_CFG", 0x514, 1, 4, none, [
    ⟨"TRIES_INIT", 18, 16, .rw, .const 3, .imm⟩,
    ⟨"CONFIRM_WIN", 15, 0, .rw, .const 900, .imm⟩]⟩,
  ⟨"RD_FW_TILE_VER", 0x51c, 1, 4, none, [
    ⟨"VERSION", 31, 0, .rw, .const 0, .imm⟩]⟩,
  ⟨"RD_FW_RESULT", 0x518, 1, 4, none, [
    ⟨"VALID", 31, 31, .ro, .const 0, .imm⟩,
    ⟨"SEQ", 29, 22, .ro, .const 0, .imm⟩,
    ⟨"STATE", 21, 18, .ro, .const 0, .imm⟩,
    ⟨"ERR", 7, 0, .ro, .const 0, .imm⟩]⟩,
  ⟨"RD_SET_CMD", 0x520, 1, 4, none, [
    ⟨"OP", 1, 0, .wo, .const 0, .imm⟩]⟩,
  ⟨"RD_SET_ADDR", 0x524, 1, 4, none, [
    ⟨"OFFSET", 26, 0, .rw, .const 0, .imm⟩]⟩]

/-- Registers of block RD, part 2. -/
def regsRD_2 : List RegDef := [
  ⟨"RD_SET_DATA", 0x528, 1, 4, none, [
    ⟨"VALUE", 31, 0, .rw, .const 0, .imm⟩]⟩,
  ⟨"RD_SET_RESULT", 0x52c, 1, 4, none, [
    ⟨"VALID", 31, 31, .ro, .const 0, .imm⟩,
    ⟨"SEQ", 29, 22, .ro, .const 0, .imm⟩,
    ⟨"STATE", 21, 19, .ro, .const 0, .imm⟩,
    ⟨"COUNT", 9, 0, .ro, .const 0, .imm⟩]⟩,
  ⟨"RD_SEC_STATUS", 0x540, 1, 4, none, [
    ⟨"DEBUG_LOCKED", 31, 31, .ro, .other, .imm⟩,
    ⟨"UNLOCKED", 30, 30, .ro, .const 0, .imm⟩,
    ⟨"REVOKED", 27, 24, .ro, .other, .imm⟩,
    ⟨"ENROLLED", 23, 20, .ro, .other, .imm⟩,
    ⟨"ROLLBACK_CNT", 6, 0, .ro, .other, .imm⟩]⟩,
  ⟨"RD_SEC_CMD", 0x544, 1, 4, none, [
    ⟨"SLOT", 9, 8, .wo, .const 0, .imm⟩,
    ⟨"OP", 3, 0, .wo, .const 0, .imm⟩]⟩,
  ⟨"RD_SEC_RESULT", 0x548, 1, 4, none, [
    ⟨"VALID", 31, 31, .ro, .const 0, .imm⟩,
    ⟨"SEQ", 29, 22, .ro, .const 0, .imm⟩,
    ⟨"STATE", 21, 20, .ro, .const 0, .imm⟩,
    ⟨"ERR", 3, 0, .ro, .const 0, .imm⟩]⟩,
  ⟨"RD_SEC_BUF", 0x580, 32, 4, none, [
    ⟨"DATA", 31, 0, .rw, .const 0, .imm⟩]⟩,
  ⟨"RD_ELOG_STATUS", 0x600, 1, 4, none, [
    ⟨"NEW", 31, 31, .w1c, .const 0, .imm⟩,
    ⟨"DROP_EV", 30, 30, .w1c, .const 0, .imm⟩,
    ⟨"FATAL_N", 21, 16, .ro, .other, .imm⟩,
    ⟨"COUNT", 11, 0, .ro, .other, .imm⟩]⟩,
  ⟨"RD_ELOG_SEL", 0x604, 1, 4, none, [
    ⟨"SEL", 31, 0, .rw, .const 0, .imm⟩]⟩,
  ⟨"RD_ELOG_CTRL", 0x608, 1, 4, none, [
    ⟨"CLR_RING", 31, 31, .wo, .const 0, .imm⟩,
    ⟨"CLR_FATAL", 30, 30, .wo, .const 0, .imm⟩,
    ⟨"AREA", 29, 29, .rw, .const 0, .imm⟩,
    ⟨"IRQ_SEV", 1, 0, .rw, .const 2, .imm⟩]⟩,
  ⟨"RD_ELOG_HEAD", 0x60c, 1, 4, none, [
    ⟨"SEQ", 31, 0, .ro, .other, .imm⟩]⟩,
  ⟨"RD_ELOG_DATA", 0x610, 12, 4, none, [
    ⟨"WORD", 31, 0, .ro, .const 0, .imm⟩]⟩,
  ⟨"RD_GATED_ACCESS_COUNT", 0x640, 1, 4, none, [
    ⟨"N", 31, 0, .ro, .const 0, .imm⟩]⟩,
  ⟨"RD_ELOG_LOST", 0x644, 1, 4, none, [
    ⟨"DROPPED_N", 31, 16, .ro, .const 0, .imm⟩,
    ⟨"CRC_N", 15, 8, .ro, .const 0, .imm⟩,
    ⟨"FATAL_LOST", 7, 0, .ro, .const 0, .imm⟩]⟩,
  ⟨"RD_WDT_CTRL", 0x650, 1, 4, none, [
    ⟨"EN", 31, 31, .rw, .const 1, .imm⟩,
    ⟨"LOCK", 30, 30, .rw, .const 0, .imm⟩,
    ⟨"GRACE_MS", 23, 16, .rw, .const 100, .imm⟩,
    ⟨"TIMEOUT_MS", 15, 0, .rw, .const 1000, .imm⟩]⟩,
  ⟨"RD_WDT_STATUS", 0x654, 1, 4, none, [
    ⟨"WARN", 31, 31, .w1c, .const 0, .imm⟩,
    ⟨"FIRED", 30, 30, .ro, .const 0, .imm⟩,
    ⟨"RESTART_N", 23, 16, .ro, .other, .imm⟩,
    ⟨"LEFT_MS", 15, 0, .ro, .const 1000, .imm⟩]⟩,
  ⟨"RD_IRQ_PEND0", 0x700, 1, 4, none, [
    ⟨"PEND", 31, 0, .w1c, .const 0, .imm⟩]⟩,
  ⟨"RD_IRQ_PEND1", 0x704, 1, 4, none, [
    ⟨"PEND", 4, 0, .w1c, .const 0, .imm⟩]⟩,
  ⟨"RD_IRQ_EN0", 0x708, 1, 4, none, [
    ⟨"EN", 31, 0, .rw, .const 0, .imm⟩]⟩,
  ⟨"RD_IRQ_EN1", 0x70c, 1, 4, none, [
    ⟨"EN", 4, 0, .rw, .const 0, .imm⟩]⟩,
  ⟨"RD_IRQ_ACK", 0x710, 1, 4, none, [
    ⟨"VECTOR", 4, 0, .wo, .const 0, .imm⟩]⟩]

/-- Registers of block RD, part 3. -/
def regsRD_3 : List RegDef := [
  ⟨"RD_IRQ_ACTIVE", 0x714, 1, 4, none, [
    ⟨"ACTIVE", 31, 0, .ro, .const 0, .imm⟩]⟩,
  ⟨"RD_IRQ_MAP", 0x720, 9, 4, none, [
    ⟨"VEC0", 4, 0, .rw, .other, .imm⟩,
    ⟨"VEC1", 12, 8, .rw, .other, .imm⟩,
    ⟨"VEC2", 20, 16, .rw, .other, .imm⟩,
    ⟨"VEC3", 28, 24, .rw, .other, .imm⟩]⟩,
  ⟨"RD_IRQ_MAP9", 0x744, 1, 4, none, [
    ⟨"VEC0", 4, 0, .rw, .other, .imm⟩]⟩,
  ⟨"RD_ID_PART", 0x0, 1, 4, none, [
    ⟨"PART", 31, 0, .ro, .const 1212632632, .imm⟩]⟩,
  ⟨"RD_ID_REV", 0x4, 1, 4, none, [
    ⟨"STEP", 31, 24, .ro, .other, .imm⟩,
    ⟨"STARTER", 15, 0, .ro, .other, .imm⟩]⟩,
  ⟨"RD_ID_UID_LO", 0x8, 1, 4, none, [
    ⟨"UID", 31, 0, .ro, .other, .imm⟩]⟩,
  ⟨"RD_ID_UID_HI", 0xc, 1, 4, none, [
    ⟨"UID", 31, 0, .ro, .other, .imm⟩]⟩,
  ⟨"RD_ID_IDCODE", 0x10, 1, 4, none, [
    ⟨"IDCODE", 31, 0, .ro, .const 343115175, .imm⟩]⟩,
  ⟨"RD_ID_CAPS", 0x14, 1, 4, none, [
    ⟨"DIES", 31, 24, .ro, .const 8, .imm⟩,
    ⟨"CHAIN", 23, 16, .ro, .const 16, .imm⟩,
    ⟨"SOURCE", 15, 8, .ro, .const 8, .imm⟩,
    ⟨"DDR", 7, 0, .ro, .const 8, .imm⟩]⟩,
  ⟨"RD_LOADED_TIME", 0x24, 1, 4, none, [
    ⟨"LOADED_US", 31, 0, .ro, .const 0, .imm⟩]⟩,
  ⟨"RD_MOULD_ID", 0x104, 1, 4, none, [
    ⟨"WALL_ID", 31, 0, .ro, .mould, .imm⟩]⟩,
  ⟨"RD_MOULD_FRATE_MAX", 0x10c, 1, 4, none, [
    ⟨"FRATE_MAX", 31, 0, .ro, .mould, .imm⟩]⟩,
  ⟨"RD_REMOULD_FNUM", 0x114, 1, 4, none, [
    ⟨"FNUM", 31, 0, .rw, .const 0, .imm⟩]⟩,
  ⟨"RD_REMOULD_NRDY", 0x140, 16, 4, none, [
    ⟨"TILES", 31, 0, .ro, .const 0, .imm⟩]⟩,
  ⟨"RD_RASTER_FNUM", 0x200, 1, 4, none, [
    ⟨"FNUM", 31, 0, .ro, .const 0, .imm⟩]⟩,
  ⟨"RD_RASTER_POS", 0x204, 1, 4, none, [
    ⟨"LPOS", 31, 16, .ro, .const 0, .imm⟩,
    ⟨"LPHASE", 15, 0, .ro, .const 0, .imm⟩]⟩,
  ⟨"RD_WTG_REF_PERIOD", 0x228, 1, 4, none, [
    ⟨"PERIOD", 31, 0, .ro, .const 0, .imm⟩]⟩,
  ⟨"RD_WTG_STEER", 0x22c, 1, 4, none, [
    ⟨"STEER", 31, 0, .ro, .const 0, .imm⟩]⟩,
  ⟨"RD_TH_SENS_SEL", 0x430, 1, 4, none, [
    ⟨"DIE", 6, 4, .rw, .const 0, .imm⟩,
    ⟨"INDEX", 3, 0, .rw, .const 0, .imm⟩]⟩,
  ⟨"RD_SEC_CHAL_LO", 0x550, 1, 4, none, [
    ⟨"CHAL", 31, 0, .ro, .other, .imm⟩]⟩,
  ⟨"RD_SEC_CHAL_HI", 0x554, 1, 4, none, [
    ⟨"CHAL", 31, 0, .ro, .other, .imm⟩]⟩]

/-- Registers of block RD, part 4. -/
def regsRD_4 : List RegDef := [
  ⟨"RD_WTG_LTOTAL_ACT", 0x250, 1, 4, some 0x20c, [
    ⟨"LTOTAL", 15, 0, .ro, .const 1125, .imm⟩]⟩,
  ⟨"RD_WTG_FRATE_ACT", 0x254, 1, 4, some 0x210, [
    ⟨"NUM", 31, 12, .ro, .const 60, .imm⟩,
    ⟨"DEN", 11, 0, .ro, .const 1, .imm⟩]⟩,
  ⟨"RD_WTG_CTRL_ACT", 0x258, 1, 4, some 0x208, [
    ⟨"REF_SEL", 31, 30, .ro, .const 0, .imm⟩,
    ⟨"REF_HOLD", 29, 29, .ro, .const 0, .imm⟩,
    ⟨"JUMP_EN", 28, 28, .ro, .const 1, .imm⟩,
    ⟨"CHAIN_REF_PORT", 27, 24, .ro, .const 0, .imm⟩,
    ⟨"GL_DIV", 23, 21, .ro, .const 0, .imm⟩,
    ⟨"GL_EDGE", 20, 20, .ro, .const 0, .imm⟩,
    ⟨"LOOP_BW", 19, 18, .ro, .const 1, .imm⟩,
    ⟨"CUT_LINES", 15, 8, .ro, .const 8, .imm⟩]⟩]

/-- Registers of block RD. -/
def regsRD : List RegDef :=
  regsRD_0 ++ regsRD_1 ++ regsRD_2 ++ regsRD_3 ++ regsRD_4

/-- Registers of block CH, part 0. -/
def regsCH_0 : List RegDef := [
  ⟨"CH_TRAIN_STATE", 0x0, 1, 4, none, [
    ⟨"STATE", 31, 28, .ro, .const 0, .imm⟩,
    ⟨"CAUSE", 27, 24, .ro, .const 0, .imm⟩,
    ⟨"ID_DIFF", 23, 23, .ro, .const 0, .imm⟩,
    ⟨"END", 22, 22, .ro, .const 0, .imm⟩,
    ⟨"RATE", 17, 16, .ro, .const 0, .imm⟩]⟩,
  ⟨"CH_LANE_MAP", 0x4, 1, 4, none, [
    ⟨"TX_SPARE", 28, 24, .ro, .const 0, .imm⟩,
    ⟨"TX_ACTIVE", 20, 16, .ro, .const 0, .imm⟩,
    ⟨"RX_SPARE", 12, 8, .ro, .const 0, .imm⟩,
    ⟨"RX_ACTIVE", 4, 0, .ro, .const 0, .imm⟩]⟩,
  ⟨"CH_SEG_DELAY", 0x8, 1, 4, none, [
    ⟨"VALID", 31, 31, .ro, .const 0, .imm⟩,
    ⟨"SEQ", 29, 22, .ro, .const 0, .imm⟩,
    ⟨"DELAY", 21, 0, .ro, .const 0, .imm⟩]⟩,
  ⟨"CH_ENUM", 0xc, 1, 4, none, [
    ⟨"VALID", 31, 31, .ro, .const 0, .imm⟩,
    ⟨"SEQ", 23, 16, .ro, .const 0, .imm⟩,
    ⟨"CONFLICT", 15, 15, .ro, .const 0, .imm⟩,
    ⟨"EXCESS", 14, 14, .ro, .const 0, .imm⟩,
    ⟨"MISMATCH", 13, 13, .ro, .const 0, .imm⟩,
    ⟨"FROM_B", 12, 12, .ro, .const 0, .imm⟩,
    ⟨"FROM_A", 11, 11, .ro, .const 0, .imm⟩,
    ⟨"REVERSED", 10, 10, .ro, .const 0, .imm⟩,
    ⟨"ADDR_COUNT", 5, 0, .ro, .const 0, .imm⟩]⟩,
  ⟨"CH_CTG_GEOM", 0x40, 1, 4, none, [
    ⟨"ACTIVE_C", 31, 16, .rws, .const 0, .commit⟩,
    ⟨"LTOTAL_C", 15, 0, .rws, .const 0, .commit⟩]⟩,
  ⟨"CH_CTG_OFFSET", 0x44, 1, 4, none, [
    ⟨"OFF_LPOS", 31, 16, .rws, .const 0, .commit⟩,
    ⟨"OFF_LPHASE", 15, 0, .rws, .const 0, .commit⟩]⟩,
  ⟨"CH_CTG_STATUS", 0x48, 1, 4, none, [
    ⟨"REFUSED", 31, 31, .w1c, .const 0, .imm⟩,
    ⟨"RUNNING", 30, 30, .ro, .const 0, .imm⟩,
    ⟨"CLINE", 15, 0, .ro, .const 0, .imm⟩]⟩,
  ⟨"CH_REF_DELAY", 0x58, 1, 4, none, [
    ⟨"DELAY", 31, 0, .ro, .const 0, .imm⟩]⟩,
  ⟨"CH_LINK_STATUS", 0x1c, 1, 4, none, [
    ⟨"OVERLOAD", 31, 31, .ro, .const 0, .imm⟩,
    ⟨"OVL_K", 30, 28, .ro, .const 1, .imm⟩,
    ⟨"RX_GIVEN_UP", 27, 27, .ro, .const 0, .imm⟩,
    ⟨"DARK_A", 26, 26, .ro, .const 0, .imm⟩,
    ⟨"DARK_B", 25, 25, .ro, .const 0, .imm⟩,
    ⟨"PORT_CRC", 24, 24, .w1c, .const 0, .imm⟩,
    ⟨"RETIRED", 23, 19, .ro, .const 0, .imm⟩,
    ⟨"RX_LANES", 18, 16, .ro, .const 0, .imm⟩,
    ⟨"TX_LANES", 15, 13, .ro, .const 0, .imm⟩,
    ⟨"LOCK_LOST", 12, 12, .w1c, .const 0, .imm⟩]⟩,
  ⟨"CH_SEG_COUNT", 0x20, 1, 4, none, [
    ⟨"SEGS", 31, 0, .ro, .const 0, .imm⟩]⟩,
  ⟨"CH_SEG_ERR", 0x24, 1, 4, none, [
    ⟨"LOCAL", 31, 20, .ro, .const 0, .imm⟩,
    ⟨"UPSTREAM", 19, 8, .ro, .const 0, .imm⟩,
    ⟨"BADHDR", 7, 0, .ro, .const 0, .imm⟩]⟩,
  ⟨"CH_LINE_REPEAT", 0x28, 1, 4, none, [
    ⟨"LAST", 31, 16, .ro, .const 0, .imm⟩,
    ⟨"TOTAL", 15, 0, .ro, .const 0, .imm⟩]⟩,
  ⟨"CH_LANE_ERR", 0x2c, 1, 4, none, [
    ⟨"LANE0", 5, 0, .ro, .const 0, .imm⟩,
    ⟨"LANE1", 11, 6, .ro, .const 0, .imm⟩,
    ⟨"LANE2", 17, 12, .ro, .const 0, .imm⟩,
    ⟨"LANE3", 23, 18, .ro, .const 0, .imm⟩,
    ⟨"LANE4", 29, 24, .ro, .const 0, .imm⟩]⟩,
  ⟨"CH_CTRL_STAT", 0x30, 1, 4, none, [
    ⟨"NOACK", 31, 24, .ro, .const 0, .imm⟩,
    ⟨"RETRIES", 23, 16, .ro, .const 0, .imm⟩,
    ⟨"DUP", 15, 8, .ro, .const 0, .imm⟩,
    ⟨"BAD", 7, 0, .ro, .const 0, .imm⟩]⟩,
  ⟨"CH_CTRL_TX_CMD", 0x74, 1, 4, none, [
    ⟨"TYPE", 31, 24, .wo, .const 0, .imm⟩,
    ⟨"DEST", 23, 16, .wo, .const 0, .imm⟩,
    ⟨"LEN", 15, 8, .wo, .const 0, .imm⟩]⟩,
  ⟨"CH_CTRL_TX_RESULT", 0x78, 1, 4, none, [
    ⟨"VALID", 31, 31, .ro, .const 0, .imm⟩,
    ⟨"SEQ", 23, 16, .ro, .const 0, .imm⟩,
    ⟨"STATE", 15, 12, .ro, .const 0, .imm⟩,
    ⟨"RESULT", 11, 8, .ro, .const 0, .imm⟩,
    ⟨"PKT_SEQ", 7, 0, .ro, .const 0, .imm⟩]⟩,
  ⟨"CH_CTRL_RX_POP", 0x7c, 1, 4, none, [
    ⟨"VALID", 31, 31, .ro, .const 0, .imm⟩,
    ⟨"TYPE", 23, 16, .ro, .const 0, .imm⟩,
    ⟨"SRC", 15, 8, .ro, .const 0, .imm⟩,
    ⟨"LEN", 7, 0, .ro, .const 0, .imm⟩]⟩,
  ⟨"CH_WHEY_POP", 0x80, 1, 4, none, [
    ⟨"VALID", 31, 31, .ro, .const 0, .imm⟩,
    ⟨"ADDR", 30, 25, .ro, .const 0, .imm⟩,
    ⟨"STATUS", 24, 21, .ro, .const 0, .imm⟩,
    ⟨"LAMP", 20, 0, .ro, .const 0, .imm⟩]⟩,
  ⟨"CH_SO_CTRL", 0x90, 1, 4, none, [
    ⟨"PCRC_EN", 31, 31, .rw, .const 1, .imm⟩,
    ⟨"WMARK", 15, 0, .rw, .const 4096, .imm⟩]⟩,
  ⟨"CH_SO_STATUS", 0x94, 1, 4, none, [
    ⟨"UNDERRUN", 31, 31, .w1c, .const 0, .imm⟩,
    ⟨"URGENT", 30, 30, .ro, .const 0, .imm⟩,
    ⟨"PCRC_MISMATCH", 29, 29, .w1c, .const 0, .imm⟩,
    ⟨"PCRC_MISSING", 28, 28, .w1c, .const 0, .imm⟩,
    ⟨"SHORT_ACTIVE", 27, 27, .w1c, .const 0, .imm⟩,
    ⟨"FILL", 14, 0, .ro, .const 0, .imm⟩]⟩]

/-- Registers of block CH, part 1. -/
def regsCH_1 : List RegDef := [
  ⟨"CH_SO_UNDERRUN", 0x98, 1, 4, none, [
    ⟨"LAST_CLINE", 31, 16, .ro, .const 0, .imm⟩,
    ⟨"UNDERRUN_N", 15, 0, .ro, .const 0, .imm⟩]⟩,
  ⟨"CH_SO_BGWORDS", 0x9c, 1, 4, none, [
    ⟨"BG_WORDS", 31, 0, .ro, .const 0, .imm⟩]⟩,
  ⟨"CH_SO_URG_TIME", 0xa0, 1, 4, none, [
    ⟨"URG_US", 31, 0, .ro, .const 0, .imm⟩]⟩,
  ⟨"CH_PCRC_COUNT", 0xa4, 1, 4, none, [
    ⟨"MISMATCH_N", 31, 24, .ro, .const 0, .imm⟩,
    ⟨"MISSING_N", 23, 16, .ro, .const 0, .imm⟩,
    ⟨"REPEAT_N", 15, 0, .ro, .const 0, .imm⟩]⟩,
  ⟨"CH_PCRC_MATCH", 0xa8, 1, 4, none, [
    ⟨"MATCH_N", 31, 0, .ro, .const 0, .imm⟩]⟩,
  ⟨"CH_PCRC_TILES", 0xac, 1, 4, none, [
    ⟨"TILES", 31, 0, .w1c, .const 0, .imm⟩]⟩,
  ⟨"CH_PCRC_MISSED", 0xb0, 1, 4, none, [
    ⟨"TILES", 31, 0, .w1c, .const 0, .imm⟩]⟩,
  ⟨"CH_PCRC_LAST", 0xb4, 1, 4, none, [
    ⟨"VALID", 31, 31, .ro, .const 0, .imm⟩,
    ⟨"SEQ", 29, 22, .ro, .const 0, .imm⟩,
    ⟨"OUTCOME", 21, 20, .ro, .const 0, .imm⟩,
    ⟨"PHASE", 19, 18, .ro, .const 0, .imm⟩,
    ⟨"ADDR", 17, 12, .ro, .const 0, .imm⟩,
    ⟨"FNUM", 11, 0, .ro, .const 0, .imm⟩]⟩,
  ⟨"CH_OCRC_CTRL", 0xb8, 1, 4, none, [
    ⟨"CMD", 1, 0, .wo, .const 0, .imm⟩]⟩,
  ⟨"CH_OCRC_FNUM", 0xbc, 1, 4, none, [
    ⟨"FNUM", 31, 0, .rw, .const 0, .imm⟩]⟩,
  ⟨"CH_OCRC_RESULT", 0xc0, 1, 4, none, [
    ⟨"VALID", 31, 31, .ro, .const 0, .imm⟩,
    ⟨"SEQ", 29, 22, .ro, .const 0, .imm⟩,
    ⟨"STATE", 21, 19, .ro, .const 0, .imm⟩,
    ⟨"TILES", 17, 12, .ro, .const 0, .imm⟩,
    ⟨"DIFF_N", 9, 0, .ro, .const 0, .imm⟩]⟩,
  ⟨"CH_OCRC_DIFF_POP", 0xc4, 1, 4, none, [
    ⟨"VALID", 31, 31, .ro, .const 0, .imm⟩,
    ⟨"ADDR", 30, 25, .ro, .const 0, .imm⟩,
    ⟨"MODULE", 24, 21, .ro, .const 0, .imm⟩]⟩,
  ⟨"CH_DIST_CTRL", 0xe8, 1, 4, none, [
    ⟨"START", 31, 31, .wo, .const 0, .imm⟩,
    ⟨"ABORT", 30, 30, .wo, .const 0, .imm⟩,
    ⟨"KIND", 29, 28, .rw, .const 1, .imm⟩,
    ⟨"ORIGIN", 27, 27, .rw, .const 0, .imm⟩,
    ⟨"FIRST", 21, 16, .rw, .const 1, .imm⟩,
    ⟨"LAST", 13, 8, .rw, .const 0, .imm⟩]⟩,
  ⟨"CH_DIST_STATUS", 0xec, 1, 4, none, [
    ⟨"VALID", 31, 31, .ro, .const 0, .imm⟩,
    ⟨"SEQ", 29, 22, .ro, .const 0, .imm⟩,
    ⟨"STATE", 21, 20, .ro, .const 0, .imm⟩,
    ⟨"AT", 13, 8, .ro, .const 0, .imm⟩,
    ⟨"STAGED_N", 5, 0, .ro, .const 0, .imm⟩]⟩,
  ⟨"CH_DIST_NRDY", 0xf0, 1, 4, none, [
    ⟨"TILES", 31, 0, .ro, .const 0, .imm⟩]⟩,
  ⟨"CH_DIST_FAIL", 0xf4, 1, 4, none, [
    ⟨"TILES", 31, 0, .w1c, .const 0, .imm⟩]⟩,
  ⟨"CH_CUM_DELAY_A", 0x10, 1, 4, none, [
    ⟨"DELAY", 31, 0, .ro, .const 0, .imm⟩]⟩,
  ⟨"CH_CUM_DELAY_B", 0x14, 1, 4, none, [
    ⟨"DELAY", 31, 0, .ro, .const 0, .imm⟩]⟩,
  ⟨"CH_TRAIN_COUNT", 0x18, 1, 4, none, [
    ⟨"ATTEMPTS", 31, 16, .ro, .const 0, .imm⟩,
    ⟨"FAILS", 15, 0, .ro, .const 0, .imm⟩]⟩,
  ⟨"CH_URG_TX", 0x84, 1, 4, none, [
    ⟨"CODE", 15, 8, .wo, .const 0, .imm⟩,
    ⟨"ARG", 7, 0, .wo, .const 0, .imm⟩]⟩]

/-- Registers of block CH, part 2. -/
def regsCH_2 : List RegDef := [
  ⟨"CH_LINK_CTRL", 0x88, 1, 4, none, [
    ⟨"RETRAIN", 0, 0, .wo, .const 0, .imm⟩]⟩,
  ⟨"CH_CTG_GEOM_ACT", 0x50, 1, 4, some 0x40, [
    ⟨"ACTIVE_C", 31, 16, .ro, .const 0, .imm⟩,
    ⟨"LTOTAL_C", 15, 0, .ro, .const 0, .imm⟩]⟩,
  ⟨"CH_CTG_OFFSET_ACT", 0x54, 1, 4, some 0x44, [
    ⟨"OFF_LPOS", 31, 16, .ro, .const 0, .imm⟩,
    ⟨"OFF_LPHASE", 15, 0, .ro, .const 0, .imm⟩]⟩]

/-- Registers of block CH. -/
def regsCH : List RegDef :=
  regsCH_0 ++ regsCH_1 ++ regsCH_2

/-- Registers of block CHT. -/
def regsCHT : List RegDef := [
  ⟨"CH_RASTER_STATE", 0x60, 1, 4, none, [
    ⟨"STATE", 31, 28, .ro, .const 0, .imm⟩,
    ⟨"DIR", 27, 27, .ro, .const 0, .imm⟩,
    ⟨"TRACK_LARGE", 16, 16, .w1c, .const 0, .imm⟩,
    ⟨"JUMPED", 15, 15, .w1c, .const 0, .imm⟩,
    ⟨"MISSED", 14, 14, .w1c, .const 0, .imm⟩,
    ⟨"JUMP_COUNT", 7, 0, .ro, .const 0, .imm⟩]⟩,
  ⟨"CH_RASTER_ERR", 0x64, 1, 4, none, [
    ⟨"VALID", 31, 31, .ro, .const 0, .imm⟩,
    ⟨"SEQ", 29, 22, .ro, .const 0, .imm⟩,
    ⟨"ERR", 21, 0, .ro, .const 0, .imm⟩]⟩,
  ⟨"CH_DELTA_AB", 0x68, 1, 4, none, [
    ⟨"VALID", 31, 31, .ro, .const 0, .imm⟩,
    ⟨"SEQ", 29, 22, .ro, .const 0, .imm⟩,
    ⟨"DELTA", 21, 0, .ro, .const 0, .imm⟩]⟩,
  ⟨"CH_TRACK_ADJ_A", 0x6c, 1, 4, none, [
    ⟨"ADJ", 31, 0, .ro, .const 0, .imm⟩]⟩,
  ⟨"CH_TRACK_ADJ_B", 0x70, 1, 4, none, [
    ⟨"ADJ", 31, 0, .ro, .const 0, .imm⟩]⟩,
  ⟨"CH_FO_TILE", 0xd0, 1, 4, none, [
    ⟨"ACTIVE", 31, 30, .ro, .const 1, .imm⟩,
    ⟨"PDIR", 29, 28, .ro, .const 1, .imm⟩,
    ⟨"ROLE", 27, 26, .ro, .const 0, .imm⟩,
    ⟨"LOSS", 25, 25, .ro, .const 0, .imm⟩,
    ⟨"HEALED", 24, 24, .ro, .const 0, .imm⟩,
    ⟨"DOWN_A", 23, 23, .ro, .const 0, .imm⟩,
    ⟨"DOWN_B", 22, 22, .ro, .const 0, .imm⟩,
    ⟨"RUN", 21, 16, .ro, .const 0, .imm⟩,
    ⟨"SINCE_A", 15, 8, .ro, .const 0, .imm⟩,
    ⟨"SINCE_B", 7, 0, .ro, .const 0, .imm⟩]⟩,
  ⟨"CH_FO_TILE_EV", 0xd4, 1, 4, none, [
    ⟨"TAKEOVER_EV", 31, 31, .w1c, .const 0, .imm⟩,
    ⟨"HEAL_EV", 30, 30, .w1c, .const 0, .imm⟩,
    ⟨"LOSS_EV", 29, 29, .w1c, .const 0, .imm⟩,
    ⟨"DEPUTY_EV", 28, 28, .w1c, .const 0, .imm⟩,
    ⟨"TAKEOVER_N", 15, 8, .ro, .const 0, .imm⟩,
    ⟨"HEAL_N", 7, 0, .ro, .const 0, .imm⟩]⟩,
  ⟨"CH_FO_LAST_TO", 0xd8, 1, 4, none, [
    ⟨"FNUM", 31, 0, .ro, .const 0, .imm⟩]⟩,
  ⟨"CH_FO_LAST_P", 0xdc, 1, 4, none, [
    ⟨"FNUM", 31, 0, .ro, .const 0, .imm⟩]⟩]

/-- Registers of block CHS. -/
def regsCHS : List RegDef := [
  ⟨"CH_FO_CTRL", 0xd0, 1, 4, none, [
    ⟨"YIELD", 31, 31, .wo, .const 0, .imm⟩,
    ⟨"HFRAMES", 23, 16, .rw, .const 3, .imm⟩,
    ⟨"HMASK", 15, 0, .rw, .const 0, .imm⟩]⟩,
  ⟨"CH_FO_STATUS", 0xd4, 1, 4, none, [
    ⟨"STATE", 31, 28, .ro, .const 0, .imm⟩,
    ⟨"DECISION", 27, 26, .ro, .const 0, .imm⟩,
    ⟨"REFEREE", 25, 20, .ro, .const 0, .imm⟩,
    ⟨"TAKEOVER_EV", 19, 19, .w1c, .const 0, .imm⟩,
    ⟨"UNFIT_EV", 18, 18, .w1c, .const 0, .imm⟩,
    ⟨"HEALTH", 15, 0, .ro, .const 0, .imm⟩]⟩,
  ⟨"CH_FO_COUNT", 0xd8, 1, 4, none, [
    ⟨"TO_N", 31, 16, .ro, .const 0, .imm⟩,
    ⟨"UNFIT_N", 15, 0, .ro, .const 0, .imm⟩]⟩,
  ⟨"CH_FO_LAST", 0xdc, 1, 4, none, [
    ⟨"FNUM", 31, 0, .ro, .const 0, .imm⟩]⟩,
  ⟨"CH_FO_TILES_B", 0xe0, 1, 4, none, [
    ⟨"TILES", 31, 0, .ro, .const 0, .imm⟩]⟩]

/-- Registers of block LANE. -/
def regsLANE : List RegDef := [
  ⟨"HP_LANE_STATE", 0x0, 1, 4, none, [
    ⟨"TXS", 31, 28, .ro, .const 0, .imm⟩,
    ⟨"RXS", 27, 24, .ro, .const 0, .imm⟩,
    ⟨"SIGDET", 23, 23, .ro, .const 0, .imm⟩,
    ⟨"CDR_LOCK", 22, 22, .ro, .const 0, .imm⟩,
    ⟨"RXMAN_REFUSED", 21, 21, .w1c, .const 0, .imm⟩,
    ⟨"CDR_LOST", 20, 20, .w1c, .const 0, .imm⟩]⟩,
  ⟨"HP_LANE_TXM", 0x4, 1, 4, none, [
    ⟨"SWING", 15, 12, .ro, .mould, .imm⟩,
    ⟨"PRE", 10, 8, .ro, .mould, .imm⟩,
    ⟨"POST", 7, 4, .ro, .mould, .imm⟩,
    ⟨"RX_POL", 1, 1, .ro, .mould, .imm⟩,
    ⟨"TX_POL", 0, 0, .ro, .mould, .imm⟩]⟩,
  ⟨"HP_LANE_TX", 0x8, 1, 4, none, [
    ⟨"OVERRIDE", 31, 31, .rw, .const 0, .imm⟩,
    ⟨"SWING", 15, 12, .rw, .const 8, .imm⟩,
    ⟨"PRE", 10, 8, .rw, .const 0, .imm⟩,
    ⟨"POST", 7, 4, .rw, .const 0, .imm⟩]⟩,
  ⟨"HP_LANE_TX_ACT", 0xc, 1, 4, none, [
    ⟨"As_HP_LANE_TX", 15, 4, .ro, .const 0, .imm⟩]⟩,
  ⟨"HP_PRBS_CTRL", 0x18, 1, 4, none, [
    ⟨"CLR", 31, 31, .wo, .const 0, .imm⟩,
    ⟨"INJECT", 30, 30, .wo, .const 0, .imm⟩,
    ⟨"TX_PAT", 5, 4, .rw, .const 0, .imm⟩,
    ⟨"RX_PAT", 1, 0, .rw, .const 0, .imm⟩]⟩,
  ⟨"HP_PRBS_STAT", 0x1c, 1, 4, none, [
    ⟨"SYNC", 31, 31, .ro, .const 0, .imm⟩,
    ⟨"SYNC_LOST", 30, 30, .w1c, .const 0, .imm⟩,
    ⟨"SYNC_LOSS_COUNT", 7, 0, .ro, .const 0, .imm⟩]⟩,
  ⟨"HP_PRBS_ERR", 0x20, 1, 4, none, [
    ⟨"ERR", 31, 0, .ro, .const 0, .imm⟩]⟩,
  ⟨"HP_PRBS_BITS", 0x24, 1, 4, none, [
    ⟨"BITS", 31, 0, .ro, .const 0, .imm⟩]⟩,
  ⟨"HP_EYE_CTRL", 0x28, 1, 4, none, [
    ⟨"START", 31, 31, .wo, .const 0, .imm⟩,
    ⟨"MODE", 30, 29, .rw, .const 0, .imm⟩,
    ⟨"DWELL", 28, 23, .rw, .const 20, .imm⟩,
    ⟨"HOFF", 21, 16, .rw, .const 0, .imm⟩,
    ⟨"VOFF", 15, 10, .rw, .const 0, .imm⟩,
    ⟨"ERR_LIM", 9, 0, .rw, .const 0, .imm⟩]⟩,
  ⟨"HP_EYE_RESULT", 0x2c, 1, 4, none, [
    ⟨"VALID", 31, 31, .ro, .const 0, .imm⟩,
    ⟨"SEQ", 29, 22, .ro, .const 0, .imm⟩,
    ⟨"RES", 21, 19, .ro, .const 0, .imm⟩,
    ⟨"WIDTH", 18, 12, .ro, .const 0, .imm⟩,
    ⟨"HEIGHT", 11, 3, .ro, .const 0, .imm⟩]⟩,
  ⟨"HP_EYE_POINT", 0x30, 1, 4, none, [
    ⟨"ERRORS", 31, 0, .ro, .const 0, .imm⟩]⟩,
  ⟨"HP_LANE_CAL", 0x34, 1, 4, none, [
    ⟨"VALID", 31, 31, .ro, .const 0, .imm⟩,
    ⟨"SEQ", 29, 22, .ro, .const 0, .imm⟩,
    ⟨"WIDTH", 21, 15, .ro, .const 0, .imm⟩,
    ⟨"HEIGHT", 14, 6, .ro, .const 0, .imm⟩,
    ⟨"CONSEC_FAIL", 5, 4, .ro, .const 0, .imm⟩,
    ⟨"CAL_FAIL", 3, 3, .w1c, .const 0, .imm⟩,
    ⟨"RAMP_FROZEN", 2, 2, .ro, .const 0, .imm⟩]⟩,
  ⟨"HP_LANE_RXEQ", 0x10, 1, 4, none, [
    ⟨"CTLE", 30, 27, .ro, .const 0, .imm⟩,
    ⟨"H1", 26, 20, .ro, .const 0, .imm⟩,
    ⟨"H2", 19, 15, .ro, .const 0, .imm⟩,
    ⟨"H3", 14, 10, .ro, .const 0, .imm⟩,
    ⟨"H4", 9, 5, .ro, .const 0, .imm⟩,
    ⟨"H5", 4, 0, .ro, .const 0, .imm⟩]⟩,
  ⟨"HP_LANE_RXMAN", 0x14, 1, 4, none, [
    ⟨"MANUAL", 31, 31, .rw, .const 0, .imm⟩,
    ⟨"CTLE", 30, 27, .rw, .const 0, .imm⟩,
    ⟨"H1", 26, 20, .rw, .const 0, .imm⟩,
    ⟨"H2", 19, 15, .rw, .const 0, .imm⟩,
    ⟨"H3", 14, 10, .rw, .const 0, .imm⟩,
    ⟨"H4", 9, 5, .rw, .const 0, .imm⟩,
    ⟨"H5", 4, 0, .rw, .const 0, .imm⟩]⟩,
  ⟨"HP_LANE_CAL_TGT", 0x38, 1, 4, none, [
    ⟨"CTLE", 30, 27, .ro, .const 0, .imm⟩,
    ⟨"H1", 26, 20, .ro, .const 0, .imm⟩,
    ⟨"H2", 19, 15, .ro, .const 0, .imm⟩,
    ⟨"H3", 14, 10, .ro, .const 0, .imm⟩,
    ⟨"H4", 9, 5, .ro, .const 0, .imm⟩,
    ⟨"H5", 4, 0, .ro, .const 0, .imm⟩]⟩,
  ⟨"HP_LANE_CAL_AGE", 0x3c, 1, 4, none, [
    ⟨"SECS", 31, 16, .ro, .const 65535, .imm⟩,
    ⟨"N", 15, 0, .ro, .const 0, .imm⟩]⟩]

/-- Registers of block GROUP. -/
def regsGROUP : List RegDef := [
  ⟨"HP_GROUP_STATE", 0x0, 1, 4, none, [
    ⟨"PLL_LOCK", 31, 31, .ro, .const 0, .imm⟩,
    ⟨"RATE", 30, 29, .ro, .const 0, .imm⟩,
    ⟨"REF", 28, 28, .ro, .const 0, .imm⟩,
    ⟨"REF_SWITCHED", 27, 27, .w1c, .const 0, .imm⟩,
    ⟨"IN_USE", 26, 26, .ro, .mould, .imm⟩,
    ⟨"TEST_REFUSED", 25, 25, .w1c, .const 0, .imm⟩]⟩,
  ⟨"HP_GROUP_CTRL", 0x4, 1, 4, none, [
    ⟨"TEST_EN", 31, 31, .rw, .const 0, .imm⟩,
    ⟨"TEST_RATE", 30, 29, .rw, .const 3, .imm⟩,
    ⟨"LOOP", 28, 28, .rw, .const 0, .imm⟩]⟩,
  ⟨"HP_CAL_CTRL", 0x8, 1, 4, none, [
    ⟨"EN", 31, 31, .rw, .const 1, .imm⟩,
    ⟨"FORCE", 30, 30, .wo, .const 0, .imm⟩,
    ⟨"CLEAR_TRIM", 29, 29, .wo, .const 0, .imm⟩,
    ⟨"DWELL", 28, 23, .rw, .const 22, .imm⟩,
    ⟨"RAMP_STEP", 22, 16, .rw, .const 50, .imm⟩,
    ⟨"PERIOD", 15, 0, .rw, .const 60, .imm⟩]⟩,
  ⟨"HP_CAL_LIMITS", 0xc, 1, 4, none, [
    ⟨"MIN_H", 31, 23, .rw, .const 40, .imm⟩,
    ⟨"MIN_W", 22, 16, .rw, .const 16, .imm⟩,
    ⟨"TOL_H", 15, 12, .rw, .const 2, .imm⟩,
    ⟨"TOL_W", 11, 8, .rw, .const 2, .imm⟩]⟩,
  ⟨"HP_CAL_STATUS", 0x10, 1, 4, none, [
    ⟨"VALID", 31, 31, .ro, .const 0, .imm⟩,
    ⟨"IN_PLACE", 30, 30, .ro, .const 0, .imm⟩,
    ⟨"SEQ", 29, 22, .ro, .const 0, .imm⟩,
    ⟨"STEP", 21, 19, .ro, .const 0, .imm⟩,
    ⟨"LANE", 18, 16, .ro, .const 0, .imm⟩,
    ⟨"OUTCOME", 15, 13, .ro, .const 0, .imm⟩,
    ⟨"REQUESTED", 12, 12, .ro, .const 0, .imm⟩,
    ⟨"ROTATIONS", 11, 0, .ro, .const 0, .imm⟩]⟩,
  ⟨"HP_CAL_COUNT", 0x14, 1, 4, none, [
    ⟨"STEPS", 31, 16, .ro, .const 0, .imm⟩,
    ⟨"FAILS", 15, 8, .ro, .const 0, .imm⟩,
    ⟨"ABANDONED", 7, 0, .ro, .const 0, .imm⟩]⟩,
  ⟨"HP_CAL_TEMP", 0x18, 1, 4, none, [
    ⟨"TEMP", 15, 0, .ro, .const 0, .imm⟩]⟩,
  ⟨"HP_CAL_MAP", 0x1c, 1, 4, none, [
    ⟨"RX_SPARE", 14, 12, .ro, .const 7, .imm⟩,
    ⟨"TX_SPARE", 30, 28, .ro, .const 7, .imm⟩,
    ⟨"RX_L0", 2, 0, .ro, .const 7, .imm⟩,
    ⟨"TX_L0", 18, 16, .ro, .const 7, .imm⟩,
    ⟨"RX_L1", 5, 3, .ro, .const 7, .imm⟩,
    ⟨"TX_L1", 21, 19, .ro, .const 7, .imm⟩,
    ⟨"RX_L2", 8, 6, .ro, .const 7, .imm⟩,
    ⟨"TX_L2", 24, 22, .ro, .const 7, .imm⟩,
    ⟨"RX_L3", 11, 9, .ro, .const 7, .imm⟩,
    ⟨"TX_L3", 27, 25, .ro, .const 7, .imm⟩]⟩]

/-- Registers of block ING. -/
def regsING : List RegDef := [
  ⟨"VT_ING_CTRL", 0x0, 1, 4, none, [
    ⟨"DROP_DAMAGED", 31, 31, .rw, .const 1, .imm⟩,
    ⟨"STOP_HOLD", 7, 0, .rw, .const 0, .imm⟩]⟩,
  ⟨"VT_ING_STATUS", 0x4, 1, 4, none, [
    ⟨"STATE", 31, 28, .ro, .const 0, .imm⟩,
    ⟨"PORT", 27, 24, .ro, .mould, .imm⟩,
    ⟨"BONDED", 23, 23, .ro, .mould, .imm⟩,
    ⟨"STOPPED_EV", 22, 22, .w1c, .const 0, .imm⟩,
    ⟨"GLITCH", 21, 21, .w1c, .const 0, .imm⟩,
    ⟨"FMT_CHG", 20, 20, .w1c, .const 0, .imm⟩,
    ⟨"DAMAGED", 19, 19, .w1c, .const 0, .imm⟩,
    ⟨"TRUNC", 18, 18, .w1c, .const 0, .imm⟩,
    ⟨"CAL_FAIL", 17, 17, .w1c, .const 0, .imm⟩]⟩,
  ⟨"VT_ING_FMT0", 0x8, 1, 4, none, [
    ⟨"VALID", 31, 31, .ro, .const 0, .imm⟩,
    ⟨"SEQ", 29, 22, .ro, .const 0, .imm⟩,
    ⟨"CODE", 17, 16, .ro, .const 0, .imm⟩,
    ⟨"DEPTH", 15, 12, .ro, .const 0, .imm⟩,
    ⟨"RANGE", 8, 8, .ro, .const 0, .imm⟩]⟩,
  ⟨"VT_ING_FMT1", 0xc, 1, 4, none, [
    ⟨"WIDTH", 31, 16, .ro, .const 0, .imm⟩,
    ⟨"HEIGHT", 15, 0, .ro, .const 0, .imm⟩]⟩,
  ⟨"VT_ING_FMT2", 0x10, 1, 4, none, [
    ⟨"NUM", 31, 12, .ro, .const 0, .imm⟩,
    ⟨"DEN", 11, 0, .ro, .const 0, .imm⟩]⟩,
  ⟨"VT_ING_COUNT", 0x14, 1, 4, none, [
    ⟨"FRAMES", 31, 16, .ro, .const 0, .imm⟩,
    ⟨"DROPPED", 15, 8, .ro, .const 0, .imm⟩,
    ⟨"DAMAGED_N", 7, 0, .ro, .const 0, .imm⟩]⟩,
  ⟨"VT_ING_COUNT2", 0x18, 1, 4, none, [
    ⟨"GLITCH_N", 31, 24, .ro, .const 0, .imm⟩,
    ⟨"SKIPPED", 23, 16, .ro, .const 0, .imm⟩,
    ⟨"OVERFLOW", 15, 8, .ro, .const 0, .imm⟩,
    ⟨"PKT_ERR", 7, 0, .ro, .const 0, .imm⟩]⟩,
  ⟨"VT_ING_SFRAME", 0x1c, 1, 4, none, [
    ⟨"SFRAME", 31, 0, .ro, .const 0, .imm⟩]⟩,
  ⟨"VT_FS_GEOM", 0x20, 1, 4, none, [
    ⟨"STRIDE", 31, 16, .ro, .mould, .imm⟩,
    ⟨"MAX_ROWS", 15, 0, .ro, .mould, .imm⟩]⟩,
  ⟨"VT_FS_BASE", 0x24, 3, 4, none, [
    ⟨"BASE", 31, 0, .ro, .mould, .imm⟩]⟩,
  ⟨"VT_FS_STATE", 0x30, 1, 4, none, [
    ⟨"NEWEST", 31, 30, .ro, .const 3, .imm⟩,
    ⟨"WRITING", 29, 28, .ro, .const 3, .imm⟩,
    ⟨"HELD", 26, 24, .ro, .const 0, .imm⟩,
    ⟨"TAG_ERR", 15, 0, .ro, .const 0, .imm⟩]⟩]

/-- Registers of block RND. -/
def regsRND : List RegDef := [
  ⟨"VT_RND_CMD", 0x0, 1, 4, none, [
    ⟨"OP", 3, 0, .wo, .const 0, .imm⟩]⟩,
  ⟨"VT_RND_FMT", 0x4, 1, 4, none, [
    ⟨"WIDTH", 31, 16, .rw, .const 0, .imm⟩,
    ⟨"HEIGHT", 15, 0, .rw, .const 0, .imm⟩]⟩,
  ⟨"VT_RND_CODE", 0x8, 1, 4, none, [
    ⟨"CODE", 1, 0, .rw, .const 0, .imm⟩]⟩,
  ⟨"VT_RND_FENCE_VAL", 0xc, 1, 4, none, [
    ⟨"VAL", 31, 0, .rw, .const 0, .imm⟩]⟩,
  ⟨"VT_RND_RESULT", 0x10, 1, 4, none, [
    ⟨"VALID", 31, 31, .ro, .const 0, .imm⟩,
    ⟨"SEQ", 29, 22, .ro, .const 0, .imm⟩,
    ⟨"STATE", 21, 18, .ro, .const 0, .imm⟩,
    ⟨"BUF", 17, 16, .ro, .const 3, .imm⟩]⟩,
  ⟨"VT_RND_DONE", 0x14, 1, 4, none, [
    ⟨"VAL", 31, 0, .ro, .const 0, .imm⟩]⟩,
  ⟨"VT_RND_APERT", 0x34, 3, 4, none, [
    ⟨"OFFSET", 31, 0, .ro, .mould, .imm⟩]⟩,
  ⟨"VT_FS_GEOM", 0x20, 1, 4, none, [
    ⟨"STRIDE", 31, 16, .ro, .mould, .imm⟩,
    ⟨"MAX_ROWS", 15, 0, .ro, .mould, .imm⟩]⟩,
  ⟨"VT_FS_BASE", 0x24, 3, 4, none, [
    ⟨"BASE", 31, 0, .ro, .mould, .imm⟩]⟩,
  ⟨"VT_FS_STATE", 0x30, 1, 4, none, [
    ⟨"NEWEST", 31, 30, .ro, .const 3, .imm⟩,
    ⟨"WRITING", 29, 28, .ro, .const 3, .imm⟩,
    ⟨"HELD", 26, 24, .ro, .const 0, .imm⟩,
    ⟨"TAG_ERR", 15, 0, .ro, .const 0, .imm⟩]⟩]

/-- Registers of block WB. -/
def regsWB : List RegDef := [
  ⟨"VT_FS_GEOM", 0x20, 1, 4, none, [
    ⟨"STRIDE", 31, 16, .ro, .mould, .imm⟩,
    ⟨"MAX_ROWS", 15, 0, .ro, .mould, .imm⟩]⟩,
  ⟨"VT_FS_BASE", 0x24, 3, 4, none, [
    ⟨"BASE", 31, 0, .ro, .mould, .imm⟩]⟩,
  ⟨"VT_FS_STATE", 0x30, 1, 4, none, [
    ⟨"NEWEST", 31, 30, .ro, .const 3, .imm⟩,
    ⟨"WRITING", 29, 28, .ro, .const 3, .imm⟩,
    ⟨"HELD", 26, 24, .ro, .const 0, .imm⟩,
    ⟨"TAG_ERR", 15, 0, .ro, .const 0, .imm⟩]⟩,
  ⟨"VT_WB_APERT", 0x34, 3, 4, none, [
    ⟨"OFFSET", 31, 0, .ro, .mould, .imm⟩]⟩]

/-- Registers of block LE, part 0. -/
def regsLE_0 : List RegDef := [
  ⟨"VT_LE_CTRL", 0x0, 1, 4, none, [
    ⟨"EN", 31, 31, .rws, .const 0, .commit⟩,
    ⟨"FIT", 30, 30, .rws, .const 0, .commit⟩,
    ⟨"MODE", 29, 29, .rws, .const 0, .commit⟩,
    ⟨"FENCE_EN", 28, 28, .rws, .const 0, .commit⟩,
    ⟨"FENCE_MODE", 27, 27, .rws, .const 0, .commit⟩,
    ⟨"Z", 26, 24, .rws, .const 0, .commit⟩,
    ⟨"HSET", 22, 20, .rws, .const 0, .commit⟩,
    ⟨"VSET", 18, 16, .rws, .const 0, .commit⟩,
    ⟨"ASSIGNED", 4, 4, .ro, .mould, .imm⟩,
    ⟨"TARGET", 3, 0, .ro, .mould, .imm⟩]⟩,
  ⟨"VT_LE_SRC", 0x4, 1, 4, none, [
    ⟨"DIE", 9, 8, .rws, .const 0, .commit⟩,
    ⟨"KIND", 5, 4, .rws, .const 0, .commit⟩,
    ⟨"INDEX", 1, 0, .rws, .const 0, .commit⟩]⟩,
  ⟨"VT_LE_CROP_XY", 0x8, 1, 4, none, [
    ⟨"CROP_X", 31, 16, .rws, .const 0, .commit⟩,
    ⟨"CROP_Y", 15, 0, .rws, .const 0, .commit⟩]⟩,
  ⟨"VT_LE_CROP_WH", 0xc, 1, 4, none, [
    ⟨"CROP_W", 31, 16, .rws, .const 0, .commit⟩,
    ⟨"CROP_H", 15, 0, .rws, .const 0, .commit⟩]⟩,
  ⟨"VT_LE_DST_XY", 0x10, 1, 4, none, [
    ⟨"DST_X", 31, 16, .rws, .const 0, .commit⟩,
    ⟨"DST_Y", 15, 0, .rws, .const 0, .commit⟩]⟩,
  ⟨"VT_LE_DST_WH", 0x14, 1, 4, none, [
    ⟨"DST_W", 31, 16, .rws, .const 0, .commit⟩,
    ⟨"DST_H", 15, 0, .rws, .const 0, .commit⟩]⟩,
  ⟨"VT_LE_HSTEP", 0x18, 1, 4, none, [
    ⟨"HSTEP", 31, 0, .rws, .const 65536, .commit⟩]⟩,
  ⟨"VT_LE_VSTEP", 0x1c, 1, 4, none, [
    ⟨"VSTEP", 31, 0, .rws, .const 65536, .commit⟩]⟩,
  ⟨"VT_LE_HSTART", 0x20, 1, 4, none, [
    ⟨"HSTART", 31, 0, .rws, .const 0, .commit⟩]⟩,
  ⟨"VT_LE_VSTART", 0x24, 1, 4, none, [
    ⟨"VSTART", 31, 0, .rws, .const 0, .commit⟩]⟩,
  ⟨"VT_LE_BLEND", 0x28, 1, 4, none, [
    ⟨"ALPHA", 26, 16, .rws, .const 1024, .commit⟩,
    ⟨"GAIN", 15, 0, .rws, .const 32768, .commit⟩]⟩,
  ⟨"VT_LE_FENCE_WAIT", 0x2c, 1, 4, none, [
    ⟨"FENCE_WAIT", 31, 0, .rws, .const 0, .commit⟩]⟩,
  ⟨"VT_LE_STATUS", 0x30, 1, 4, none, [
    ⟨"BUF", 31, 30, .ro, .const 3, .imm⟩,
    ⟨"VT", 29, 27, .ro, .const 6, .imm⟩,
    ⟨"SHOWING", 26, 26, .ro, .const 0, .imm⟩,
    ⟨"LAYERLATE", 20, 20, .w1c, .const 0, .imm⟩,
    ⟨"LBSHORT", 19, 19, .w1c, .const 0, .imm⟩,
    ⟨"EMPTY", 18, 18, .w1c, .const 0, .imm⟩,
    ⟨"BADSRC", 17, 17, .w1c, .const 0, .imm⟩,
    ⟨"FETCH_LATE", 16, 16, .w1c, .const 0, .imm⟩,
    ⟨"STEP_CLAMP", 15, 15, .w1c, .const 0, .imm⟩]⟩,
  ⟨"VT_LE_SHOWN_VAL", 0x34, 1, 4, none, [
    ⟨"FENCE_VAL", 31, 0, .ro, .const 0, .imm⟩]⟩,
  ⟨"VT_LE_COUNT", 0x38, 1, 4, none, [
    ⟨"LATE_N", 31, 24, .ro, .const 0, .imm⟩,
    ⟨"LBSHORT_N", 23, 16, .ro, .const 0, .imm⟩,
    ⟨"FETCH_LATE_N", 15, 0, .ro, .const 0, .imm⟩]⟩,
  ⟨"VT_LE_LBCAP", 0x3c, 1, 4, none, [
    ⟨"GRANULES", 24, 16, .ro, .mould, .imm⟩,
    ⟨"CAP", 15, 0, .ro, .const 0, .imm⟩]⟩,
  ⟨"VT_LE_EFF_HSTEP", 0x70, 1, 4, none, [
    ⟨"HSTEP", 31, 0, .ro, .const 0, .imm⟩]⟩,
  ⟨"VT_LE_EFF_VSTEP", 0x74, 1, 4, none, [
    ⟨"VSTEP", 31, 0, .ro, .const 0, .imm⟩]⟩,
  ⟨"VT_LE_CTRL_ACT", 0x40, 1, 4, some 0x0, [
    ⟨"EN", 31, 31, .ro, .const 0, .imm⟩,
    ⟨"FIT", 30, 30, .ro, .const 0, .imm⟩,
    ⟨"MODE", 29, 29, .ro, .const 0, .imm⟩,
    ⟨"FENCE_EN", 28, 28, .ro, .const 0, .imm⟩,
    ⟨"FENCE_MODE", 27, 27, .ro, .const 0, .imm⟩,
    ⟨"Z", 26, 24, .ro, .const 0, .imm⟩,
    ⟨"HSET", 22, 20, .ro, .const 0, .imm⟩,
    ⟨"VSET", 18, 16, .ro, .const 0, .imm⟩,
    ⟨"ASSIGNED", 4, 4, .ro, .mould, .imm⟩,
    ⟨"TARGET", 3, 0, .ro, .mould, .imm⟩]⟩,
  ⟨"VT_LE_SRC_ACT", 0x44, 1, 4, some 0x4, [
    ⟨"DIE", 9, 8, .ro, .const 0, .imm⟩,
    ⟨"KIND", 5, 4, .ro, .const 0, .imm⟩,
    ⟨"INDEX", 1, 0, .ro, .const 0, .imm⟩]⟩]

/-- Registers of block LE, part 1. -/
def regsLE_1 : List RegDef := [
  ⟨"VT_LE_CROP_XY_ACT", 0x48, 1, 4, some 0x8, [
    ⟨"CROP_X", 31, 16, .ro, .const 0, .imm⟩,
    ⟨"CROP_Y", 15, 0, .ro, .const 0, .imm⟩]⟩,
  ⟨"VT_LE_CROP_WH_ACT", 0x4c, 1, 4, some 0xc, [
    ⟨"CROP_W", 31, 16, .ro, .const 0, .imm⟩,
    ⟨"CROP_H", 15, 0, .ro, .const 0, .imm⟩]⟩,
  ⟨"VT_LE_DST_XY_ACT", 0x50, 1, 4, some 0x10, [
    ⟨"DST_X", 31, 16, .ro, .const 0, .imm⟩,
    ⟨"DST_Y", 15, 0, .ro, .const 0, .imm⟩]⟩,
  ⟨"VT_LE_DST_WH_ACT", 0x54, 1, 4, some 0x14, [
    ⟨"DST_W", 31, 16, .ro, .const 0, .imm⟩,
    ⟨"DST_H", 15, 0, .ro, .const 0, .imm⟩]⟩,
  ⟨"VT_LE_HSTEP_ACT", 0x58, 1, 4, some 0x18, [
    ⟨"HSTEP", 31, 0, .ro, .const 65536, .imm⟩]⟩,
  ⟨"VT_LE_VSTEP_ACT", 0x5c, 1, 4, some 0x1c, [
    ⟨"VSTEP", 31, 0, .ro, .const 65536, .imm⟩]⟩,
  ⟨"VT_LE_HSTART_ACT", 0x60, 1, 4, some 0x20, [
    ⟨"HSTART", 31, 0, .ro, .const 0, .imm⟩]⟩,
  ⟨"VT_LE_VSTART_ACT", 0x64, 1, 4, some 0x24, [
    ⟨"VSTART", 31, 0, .ro, .const 0, .imm⟩]⟩,
  ⟨"VT_LE_BLEND_ACT", 0x68, 1, 4, some 0x28, [
    ⟨"ALPHA", 26, 16, .ro, .const 1024, .imm⟩,
    ⟨"GAIN", 15, 0, .ro, .const 32768, .imm⟩]⟩,
  ⟨"VT_LE_FENCE_WAIT_ACT", 0x6c, 1, 4, some 0x2c, [
    ⟨"FENCE_WAIT", 31, 0, .ro, .const 0, .imm⟩]⟩]

/-- Registers of block LE. -/
def regsLE : List RegDef :=
  regsLE_0 ++ regsLE_1

/-- Registers of block TGT. -/
def regsTGT : List RegDef := [
  ⟨"VT_TGT_CTRL", 0x0, 1, 4, none, [
    ⟨"WB_EN", 31, 31, .rws, .const 0, .commit⟩,
    ⟨"WB_STORE", 24, 24, .rws, .const 0, .commit⟩,
    ⟨"ASSIGNED", 21, 21, .ro, .mould, .imm⟩,
    ⟨"PORT", 19, 16, .ro, .mould, .imm⟩,
    ⟨"PHASE", 13, 12, .ro, .mould, .imm⟩,
    ⟨"OUT_CODE", 1, 0, .rws, .const 0, .commit⟩]⟩,
  ⟨"VT_TGT_REGION_XY", 0x4, 1, 4, none, [
    ⟨"X", 31, 16, .ro, .mould, .imm⟩,
    ⟨"Y", 15, 0, .ro, .mould, .imm⟩]⟩,
  ⟨"VT_TGT_REGION_WH", 0x8, 1, 4, none, [
    ⟨"W", 31, 16, .ro, .mould, .imm⟩,
    ⟨"H", 15, 0, .ro, .mould, .imm⟩]⟩,
  ⟨"VT_TGT_BG_LO", 0xc, 1, 4, none, [
    ⟨"BG", 31, 0, .rws, .const 0, .commit⟩]⟩,
  ⟨"VT_TGT_BG_HI", 0x10, 1, 4, none, [
    ⟨"BG", 3, 0, .rws, .const 0, .commit⟩]⟩,
  ⟨"VT_TGT_STATUS", 0x14, 1, 4, none, [
    ⟨"WB_REFUSED", 31, 31, .w1c, .const 0, .imm⟩,
    ⟨"WB_DAMAGED", 30, 30, .w1c, .const 0, .imm⟩,
    ⟨"CODE_RSVD", 29, 29, .w1c, .const 0, .imm⟩,
    ⟨"WB_DAMAGED_N", 23, 16, .ro, .const 0, .imm⟩,
    ⟨"LAYERS", 3, 0, .ro, .mould, .imm⟩]⟩,
  ⟨"VT_TGT_CTRL_ACT", 0x40, 1, 4, some 0x0, [
    ⟨"WB_EN", 31, 31, .ro, .const 0, .imm⟩,
    ⟨"WB_STORE", 24, 24, .ro, .const 0, .imm⟩,
    ⟨"ASSIGNED", 21, 21, .ro, .mould, .imm⟩,
    ⟨"PORT", 19, 16, .ro, .mould, .imm⟩,
    ⟨"PHASE", 13, 12, .ro, .mould, .imm⟩,
    ⟨"OUT_CODE", 1, 0, .ro, .const 0, .imm⟩]⟩,
  ⟨"VT_TGT_BG_ACT_LO", 0x44, 1, 4, some 0xc, [
    ⟨"BG", 31, 0, .ro, .const 0, .imm⟩]⟩,
  ⟨"VT_TGT_BG_ACT_HI", 0x48, 1, 4, some 0x10, [
    ⟨"BG", 3, 0, .ro, .const 0, .imm⟩]⟩]

/-- Registers of block VTC. -/
def regsVTC : List RegDef := [
  ⟨"VT_COMP_EVENTS", 0x32000, 1, 4, none, [
    ⟨"LAYERLATE", 31, 16, .w1c, .const 0, .imm⟩,
    ⟨"LBSHORT", 15, 0, .w1c, .const 0, .imm⟩]⟩,
  ⟨"VT_COMP_LAST", 0x32004, 1, 4, none, [
    ⟨"LBSHORT_FNUM", 31, 16, .ro, .const 0, .imm⟩,
    ⟨"LATE_ENG", 11, 8, .ro, .const 0, .imm⟩,
    ⟨"LBSHORT_VT", 6, 4, .ro, .const 0, .imm⟩,
    ⟨"LBSHORT_ENG", 3, 0, .ro, .const 0, .imm⟩]⟩]

/-- Registers of block DCH. -/
def regsDCH : List RegDef := [
  ⟨"VT_DRAM_CFG", 0x0, 1, 4, none, [
    ⟨"RANKS", 29, 28, .ro, .mould, .imm⟩,
    ⟨"DENSITY", 24, 24, .ro, .mould, .imm⟩,
    ⟨"RATE_MAX", 17, 16, .ro, .mould, .imm⟩,
    ⟨"SIZE", 5, 0, .ro, .mould, .imm⟩]⟩,
  ⟨"VT_DRAM_STATE", 0x4, 1, 4, none, [
    ⟨"STATE", 31, 28, .ro, .const 0, .imm⟩,
    ⟨"TEMP_HI", 27, 27, .ro, .const 0, .imm⟩,
    ⟨"DRAM_HOT", 26, 26, .w1c, .const 0, .imm⟩,
    ⟨"REF_FORCED_N", 15, 0, .ro, .const 0, .imm⟩]⟩,
  ⟨"VT_DRAM_PAGE", 0x8, 1, 4, none, [
    ⟨"MAX_HITS", 23, 16, .rw, .const 8, .imm⟩,
    ⟨"IDLE_NS", 15, 0, .rw, .const 200, .imm⟩]⟩,
  ⟨"VT_DRAM_NRR", 0xc, 1, 4, none, [
    ⟨"NRR_N", 31, 8, .ro, .const 0, .imm⟩,
    ⟨"NRR_SHIFT", 3, 0, .rw, .const 11, .imm⟩]⟩,
  ⟨"VT_DRAM_ERRCNT", 0x10, 1, 4, none, [
    ⟨"CE_N", 31, 16, .ro, .const 0, .imm⟩,
    ⟨"UE_N", 15, 8, .ro, .const 0, .imm⟩,
    ⟨"REPAIR_N", 7, 0, .ro, .const 0, .imm⟩]⟩,
  ⟨"VT_DRAM_SCRUB", 0x1c, 1, 4, none, [
    ⟨"SCRUB_EN", 31, 31, .rw, .const 1, .imm⟩,
    ⟨"SCRUB_H", 15, 0, .rw, .const 24, .imm⟩]⟩,
  ⟨"VT_DRAM_SCRUB_POS", 0x20, 1, 4, none, [
    ⟨"POS", 31, 0, .ro, .const 0, .imm⟩]⟩,
  ⟨"VT_DRAM_ERR_LAST0", 0x14, 1, 4, none, [
    ⟨"VALID", 31, 31, .ro, .const 0, .imm⟩,
    ⟨"UE", 30, 30, .ro, .const 0, .imm⟩,
    ⟨"SEQ", 29, 22, .ro, .const 0, .imm⟩,
    ⟨"RANK", 21, 21, .ro, .const 0, .imm⟩,
    ⟨"BG", 20, 19, .ro, .const 0, .imm⟩,
    ⟨"BA", 18, 17, .ro, .const 0, .imm⟩,
    ⟨"CLASS", 16, 14, .ro, .const 0, .imm⟩]⟩,
  ⟨"VT_DRAM_ERR_LAST1", 0x18, 1, 4, none, [
    ⟨"COL", 30, 24, .ro, .const 0, .imm⟩,
    ⟨"ROW", 16, 0, .ro, .const 0, .imm⟩]⟩,
  ⟨"VT_DRAM_PPR", 0x24, 1, 4, none, [
    ⟨"EXHAUSTED", 31, 31, .w1c, .const 0, .imm⟩,
    ⟨"REPAIRED", 30, 30, .w1c, .const 0, .imm⟩,
    ⟨"LISTED", 15, 8, .ro, .const 0, .imm⟩,
    ⟨"SPARE", 7, 0, .ro, .const 255, .imm⟩]⟩]

/-- Registers of block DDIE. -/
def regsDDIE : List RegDef := [
  ⟨"VT_DRAM_WAIT", 0x0, 6, 4, none, [
    ⟨"EXCEED_N", 31, 16, .ro, .const 0, .imm⟩,
    ⟨"MAX_NS", 15, 0, .ro, .const 0, .imm⟩]⟩,
  ⟨"VT_DRAM_FC_RATE", 0x20, 1, 4, none, [
    ⟨"RATE", 1, 0, .rws, .mould, .sched⟩]⟩,
  ⟨"VT_DRAM_FC_T0", 0x24, 1, 4, none, [
    ⟨"CL", 29, 24, .rws, .mould, .sched⟩,
    ⟨"CWL", 21, 16, .rws, .mould, .sched⟩,
    ⟨"TRCD", 13, 8, .rws, .mould, .sched⟩,
    ⟨"TRP", 5, 0, .rws, .mould, .sched⟩]⟩,
  ⟨"VT_DRAM_FC_T1", 0x28, 1, 4, none, [
    ⟨"TRFC4", 25, 16, .rws, .mould, .sched⟩,
    ⟨"TFAW", 15, 8, .rws, .mould, .sched⟩,
    ⟨"TRAS", 7, 0, .rws, .mould, .sched⟩]⟩,
  ⟨"VT_DRAM_SCHED_FNUM", 0x2c, 1, 4, none, [
    ⟨"S", 31, 0, .rw, .const 0, .imm⟩]⟩,
  ⟨"VT_DRAM_FC_STATUS", 0x30, 1, 4, none, [
    ⟨"VALID", 31, 31, .ro, .const 0, .imm⟩,
    ⟨"SEQ", 29, 22, .ro, .const 0, .imm⟩,
    ⟨"STATE", 21, 20, .ro, .const 0, .imm⟩,
    ⟨"FC_REFUSED", 19, 19, .w1c, .const 0, .imm⟩,
    ⟨"ERR", 2, 0, .ro, .const 0, .imm⟩]⟩,
  ⟨"VT_DRAM_FC_RATE_ACT", 0x60, 1, 4, some 0x20, [
    ⟨"RATE", 1, 0, .ro, .mould, .imm⟩]⟩,
  ⟨"VT_DRAM_FC_T0_ACT", 0x64, 1, 4, some 0x24, [
    ⟨"CL", 29, 24, .ro, .mould, .imm⟩,
    ⟨"CWL", 21, 16, .ro, .mould, .imm⟩,
    ⟨"TRCD", 13, 8, .ro, .mould, .imm⟩,
    ⟨"TRP", 5, 0, .ro, .mould, .imm⟩]⟩,
  ⟨"VT_DRAM_FC_T1_ACT", 0x68, 1, 4, some 0x28, [
    ⟨"TRFC4", 25, 16, .ro, .mould, .imm⟩,
    ⟨"TFAW", 15, 8, .ro, .mould, .imm⟩,
    ⟨"TRAS", 7, 0, .ro, .mould, .imm⟩]⟩]

/-- Registers of block TP, part 0. -/
def regsTP_0 : List RegDef := [
  ⟨"VT_TP_CTRL", 0x0, 1, 4, none, [
    ⟨"TSTEP", 23, 16, .rw, .const 1, .imm⟩,
    ⟨"BSTEP", 15, 8, .rw, .const 4, .imm⟩,
    ⟨"BANK", 0, 0, .rws, .const 0, .commit⟩]⟩,
  ⟨"VT_TP_STATUS", 0x4, 1, 4, none, [
    ⟨"BANK_ACT", 31, 31, .ro, .const 0, .imm⟩,
    ⟨"RAMP", 30, 30, .ro, .const 0, .imm⟩,
    ⟨"BETA", 29, 21, .ro, .const 256, .imm⟩,
    ⟨"BANK_REFUSED", 15, 15, .w1c, .const 0, .imm⟩,
    ⟨"WRITE_REFUSED", 14, 14, .w1c, .const 0, .imm⟩,
    ⟨"UE_CORR", 13, 13, .w1c, .const 0, .imm⟩,
    ⟨"UE_MAP", 12, 12, .w1c, .const 0, .imm⟩,
    ⟨"UE_STATUS", 11, 11, .w1c, .const 0, .imm⟩,
    ⟨"UE_STORE", 10, 10, .w1c, .const 0, .imm⟩]⟩,
  ⟨"VT_TP_BRIGHT", 0x10, 4, 4, none, [
    ⟨"BRIGHT", 19, 0, .rws, .const 65536, .commit⟩]⟩,
  ⟨"VT_TP_TSET_B0A", 0x20, 1, 4, none, [
    ⟨"TSET1", 31, 16, .rw, .const 320, .imm⟩,
    ⟨"TSET0", 15, 0, .rw, .const 160, .imm⟩]⟩,
  ⟨"VT_TP_TSET_B0B", 0x24, 1, 4, none, [
    ⟨"TSET3", 31, 16, .rw, .const 640, .imm⟩,
    ⟨"TSET2", 15, 0, .rw, .const 480, .imm⟩]⟩,
  ⟨"VT_TP_TSET_B1A", 0x28, 1, 4, none, [
    ⟨"TSET1", 31, 16, .rw, .const 320, .imm⟩,
    ⟨"TSET0", 15, 0, .rw, .const 160, .imm⟩]⟩,
  ⟨"VT_TP_TSET_B1B", 0x2c, 1, 4, none, [
    ⟨"TSET3", 31, 16, .rw, .const 640, .imm⟩,
    ⟨"TSET2", 15, 0, .rw, .const 480, .imm⟩]⟩,
  ⟨"VT_TP_TFALL", 0x30, 1, 4, none, [
    ⟨"TFALL", 15, 0, .rw, .const 200, .imm⟩]⟩,
  ⟨"VT_TP_GRADE01", 0x34, 1, 4, none, [
    ⟨"N1", 27, 16, .rws, .const 256, .commit⟩,
    ⟨"N0", 11, 0, .rws, .const 256, .commit⟩]⟩,
  ⟨"VT_TP_GRADE23", 0x38, 1, 4, none, [
    ⟨"N3", 27, 16, .rws, .const 256, .commit⟩,
    ⟨"N2", 11, 0, .rws, .const 256, .commit⟩]⟩,
  ⟨"VT_TP_UMAX", 0x3c, 1, 4, none, [
    ⟨"U_MAX", 20, 0, .ro, .const 1036016, .imm⟩]⟩,
  ⟨"VT_TP_UE_COUNT", 0x80, 1, 4, none, [
    ⟨"UE_CORR_N", 31, 16, .ro, .const 0, .imm⟩,
    ⟨"UE_MAP_N", 15, 8, .ro, .const 0, .imm⟩,
    ⟨"UE_STATUS_N", 7, 0, .ro, .const 0, .imm⟩]⟩,
  ⟨"VT_TP_UE_COUNT2", 0x84, 1, 4, none, [
    ⟨"UE_STORE_N", 15, 0, .ro, .const 0, .imm⟩]⟩,
  ⟨"VT_TP_RAMPS", 0x88, 1, 4, none, [
    ⟨"RAMPS", 15, 0, .ro, .const 0, .imm⟩]⟩,
  ⟨"VT_TP_MOD_TEMP", 0x100, 16, 4, none, [
    ⟨"T_EFF", 31, 16, .ro, .const 0, .imm⟩,
    ⟨"T_MEAS", 15, 0, .ro, .const 0, .imm⟩]⟩,
  ⟨"VT_TP_MOD_CEIL", 0x140, 16, 4, none, [
    ⟨"SUBST", 31, 31, .ro, .const 0, .imm⟩,
    ⟨"CEIL", 16, 0, .ro, .const 65536, .imm⟩]⟩,
  ⟨"VT_TP_TAB_ADDR", 0x180, 1, 4, none, [
    ⟨"BANK", 31, 31, .rw, .const 0, .imm⟩,
    ⟨"TABLE", 30, 29, .rw, .const 0, .imm⟩,
    ⟨"SET", 26, 25, .rw, .const 0, .imm⟩,
    ⟨"INDEX", 20, 0, .rw, .const 0, .imm⟩]⟩,
  ⟨"VT_TP_TAB_CMD", 0x198, 1, 4, none, [
    ⟨"OP", 1, 0, .wo, .const 0, .imm⟩]⟩,
  ⟨"VT_TP_TAB_RESULT", 0x19c, 1, 4, none, [
    ⟨"VALID", 31, 31, .ro, .const 0, .imm⟩,
    ⟨"SEQ", 29, 22, .ro, .const 0, .imm⟩,
    ⟨"STATE", 21, 19, .ro, .const 0, .imm⟩]⟩,
  ⟨"VT_TP_TAB_DATA", 0x184, 5, 4, none, [
    ⟨"DATA", 31, 0, .rw, .const 0, .imm⟩]⟩]

/-- Registers of block TP, part 1. -/
def regsTP_1 : List RegDef := [
  ⟨"VT_TP_BRIGHT_ACT", 0x50, 4, 4, some 0x10, [
    ⟨"BRIGHT", 19, 0, .ro, .const 65536, .imm⟩]⟩,
  ⟨"VT_TP_GRADE01_ACT", 0x74, 1, 4, some 0x34, [
    ⟨"N1", 27, 16, .ro, .const 256, .imm⟩,
    ⟨"N0", 11, 0, .ro, .const 256, .imm⟩]⟩,
  ⟨"VT_TP_GRADE23_ACT", 0x78, 1, 4, some 0x38, [
    ⟨"N3", 27, 16, .ro, .const 256, .imm⟩,
    ⟨"N2", 11, 0, .ro, .const 256, .imm⟩]⟩]

/-- Registers of block TP. -/
def regsTP : List RegDef :=
  regsTP_0 ++ regsTP_1

/-- Registers of block SLOT. -/
def regsSLOT : List RegDef := [
  ⟨"PR_SLOT_WIN", 0x0, 4, 4, none, [
    ⟨"WSTART", 24, 0, .rws, .const 0, .commit⟩]⟩,
  ⟨"PR_SLOT_ROW", 0x10, 1, 4, none, [
    ⟨"FINE", 31, 24, .rws, .const 3, .commit⟩,
    ⟨"ROW_SLOT", 20, 0, .rws, .const 0, .commit⟩]⟩,
  ⟨"PR_SLOT_LEAD", 0x14, 1, 4, none, [
    ⟨"LEAD", 19, 0, .rws, .const 0, .commit⟩]⟩,
  ⟨"PR_SLOT_BLANK", 0x18, 1, 4, none, [
    ⟨"ROWA_DLY", 31, 16, .rws, .const 0, .commit⟩,
    ⟨"BLANK", 15, 0, .rws, .const 0, .commit⟩]⟩,
  ⟨"PR_SLOT_CTRL", 0x1c, 1, 4, none, [
    ⟨"HOST", 31, 31, .rws, .const 0, .commit⟩,
    ⟨"DIV", 7, 0, .rws, .const 4, .commit⟩]⟩,
  ⟨"PR_SLOT_STATUS", 0x20, 1, 4, none, [
    ⟨"SLOT_REFUSED", 31, 31, .w1c, .const 0, .imm⟩,
    ⟨"SLOT_TRUNC", 30, 30, .w1c, .const 0, .imm⟩,
    ⟨"ROW_LATE", 29, 29, .w1c, .const 0, .imm⟩,
    ⟨"DARK", 28, 28, .ro, .const 1, .imm⟩,
    ⟨"DARK_SRC", 21, 16, .ro, .const 8, .imm⟩]⟩,
  ⟨"PR_SLOT_MOULD_WIN", 0x80, 4, 4, none, [
    ⟨"WSTART", 24, 0, .ro, .mould, .imm⟩]⟩,
  ⟨"PR_SLOT_MOULD_ROW", 0x90, 1, 4, none, [
    ⟨"FINE", 31, 24, .ro, .mould, .imm⟩,
    ⟨"ROW_SLOT", 20, 0, .ro, .mould, .imm⟩]⟩,
  ⟨"PR_SLOT_MOULD_LEAD", 0x94, 1, 4, none, [
    ⟨"LEAD", 19, 0, .ro, .mould, .imm⟩]⟩,
  ⟨"PR_SLOT_MOULD_BLANK", 0x98, 1, 4, none, [
    ⟨"ROWA_DLY", 31, 16, .ro, .mould, .imm⟩,
    ⟨"BLANK", 15, 0, .ro, .mould, .imm⟩]⟩,
  ⟨"PR_SLOT_MOULD_CTRL", 0x9c, 1, 4, none, [
    ⟨"DIV", 7, 0, .ro, .mould, .imm⟩]⟩,
  ⟨"PR_SLOT_WIN_ACT", 0x40, 4, 4, some 0x0, [
    ⟨"WSTART", 24, 0, .ro, .const 0, .imm⟩]⟩,
  ⟨"PR_SLOT_ROW_ACT", 0x50, 1, 4, some 0x10, [
    ⟨"FINE", 31, 24, .ro, .const 3, .imm⟩,
    ⟨"ROW_SLOT", 20, 0, .ro, .const 0, .imm⟩]⟩,
  ⟨"PR_SLOT_LEAD_ACT", 0x54, 1, 4, some 0x14, [
    ⟨"LEAD", 19, 0, .ro, .const 0, .imm⟩]⟩,
  ⟨"PR_SLOT_BLANK_ACT", 0x58, 1, 4, some 0x18, [
    ⟨"ROWA_DLY", 31, 16, .ro, .const 0, .imm⟩,
    ⟨"BLANK", 15, 0, .ro, .const 0, .imm⟩]⟩,
  ⟨"PR_SLOT_CTRL_ACT", 0x5c, 1, 4, some 0x1c, [
    ⟨"HOST", 31, 31, .ro, .const 0, .imm⟩,
    ⟨"DIV", 7, 0, .ro, .const 4, .imm⟩]⟩]

/-- Registers of block DIAG. -/
def regsDIAG : List RegDef := [
  ⟨"PR_DIAG_CTRL", 0x0, 1, 4, none, [
    ⟨"EN", 31, 31, .rw, .const 1, .imm⟩,
    ⟨"PHASE", 25, 24, .rw, .const 0, .imm⟩,
    ⟨"EVERY", 15, 0, .rw, .const 1, .imm⟩]⟩,
  ⟨"PR_DIAG_PROBE", 0x4, 1, 4, none, [
    ⟨"PROBE_EN", 31, 31, .rw, .const 0, .imm⟩,
    ⟨"PROBE_NS", 25, 16, .rw, .const 200, .imm⟩,
    ⟨"PROBE_AGE", 15, 8, .rw, .const 16, .imm⟩,
    ⟨"PROBE_EVERY", 7, 0, .rw, .const 60, .imm⟩]⟩,
  ⟨"PR_DIAG_COUNT", 0x8, 1, 4, none, [
    ⟨"TESTS", 31, 16, .ro, .const 0, .imm⟩,
    ⟨"PROBE_ROWS", 15, 0, .ro, .const 0, .imm⟩]⟩,
  ⟨"PR_DIAG_COUNT2", 0xc, 1, 4, none, [
    ⟨"NEW_PERM", 31, 16, .ro, .const 0, .imm⟩,
    ⟨"DIAG_SKIP", 15, 0, .ro, .const 0, .imm⟩]⟩]

/-- Registers of block PAT. -/
def regsPAT : List RegDef := [
  ⟨"PR_PAT_CTRL", 0x0, 1, 4, none, [
    ⟨"EN", 31, 31, .rws, .const 0, .commit⟩,
    ⟨"MODE", 29, 28, .rws, .const 0, .commit⟩,
    ⟨"PERIOD", 15, 0, .rws, .const 120, .commit⟩]⟩,
  ⟨"PR_PAT_BASE", 0x10, 1, 4, none, [
    ⟨"BASE", 31, 0, .rws, .const 0, .commit⟩]⟩,
  ⟨"PR_PAT_CHASE", 0x14, 1, 4, none, [
    ⟨"SPEED", 31, 16, .rws, .const 0, .commit⟩,
    ⟨"WIDTH", 15, 0, .rws, .const 0, .commit⟩]⟩,
  ⟨"PR_PAT_XORG", 0x18, 1, 4, none, [
    ⟨"SPAN", 31, 16, .rws, .const 0, .commit⟩,
    ⟨"X_ORG", 15, 0, .rws, .const 0, .commit⟩]⟩,
  ⟨"PR_PAT_LEVEL_R", 0x4, 1, 4, none, [
    ⟨"LEVEL", 19, 0, .rws, .const 0, .commit⟩]⟩,
  ⟨"PR_PAT_LEVEL_G", 0x8, 1, 4, none, [
    ⟨"LEVEL", 19, 0, .rws, .const 0, .commit⟩]⟩,
  ⟨"PR_PAT_LEVEL_B", 0xc, 1, 4, none, [
    ⟨"LEVEL", 19, 0, .rws, .const 0, .commit⟩]⟩,
  ⟨"PR_PAT_CTRL_ACT", 0x40, 1, 4, some 0x0, [
    ⟨"EN", 31, 31, .ro, .const 0, .imm⟩,
    ⟨"MODE", 29, 28, .ro, .const 0, .imm⟩,
    ⟨"PERIOD", 15, 0, .ro, .const 120, .imm⟩]⟩,
  ⟨"PR_PAT_BASE_ACT", 0x50, 1, 4, some 0x10, [
    ⟨"BASE", 31, 0, .ro, .const 0, .imm⟩]⟩,
  ⟨"PR_PAT_CHASE_ACT", 0x54, 1, 4, some 0x14, [
    ⟨"SPEED", 31, 16, .ro, .const 0, .imm⟩,
    ⟨"WIDTH", 15, 0, .ro, .const 0, .imm⟩]⟩,
  ⟨"PR_PAT_XORG_ACT", 0x58, 1, 4, some 0x18, [
    ⟨"SPAN", 31, 16, .ro, .const 0, .imm⟩,
    ⟨"X_ORG", 15, 0, .ro, .const 0, .imm⟩]⟩,
  ⟨"PR_PAT_LEVEL_R_ACT", 0x44, 1, 4, some 0x4, [
    ⟨"LEVEL", 19, 0, .ro, .const 0, .imm⟩]⟩,
  ⟨"PR_PAT_LEVEL_G_ACT", 0x48, 1, 4, some 0x8, [
    ⟨"LEVEL", 19, 0, .ro, .const 0, .imm⟩]⟩,
  ⟨"PR_PAT_LEVEL_B_ACT", 0x4c, 1, 4, some 0xc, [
    ⟨"LEVEL", 19, 0, .ro, .const 0, .imm⟩]⟩]

/-- Registers of block PORT. -/
def regsPORT : List RegDef := [
  ⟨"PR_PORT_GEOM", 0x0, 1, 4, none, [
    ⟨"USED", 31, 31, .ro, .mould, .imm⟩,
    ⟨"CH_ORDER", 30, 30, .ro, .mould, .imm⟩,
    ⟨"ROWEN_POL", 29, 29, .ro, .mould, .imm⟩,
    ⟨"LINES", 19, 16, .ro, .mould, .imm⟩,
    ⟨"DRIVERS", 13, 8, .ro, .mould, .imm⟩,
    ⟨"MUX", 5, 0, .ro, .mould, .imm⟩]⟩,
  ⟨"PR_PORT_GAIN", 0x4, 1, 4, none, [
    ⟨"GAIN", 7, 0, .rws, .const 128, .commit⟩]⟩,
  ⟨"PR_PORT_STATUS", 0x8, 1, 4, none, [
    ⟨"PIN_STUCK", 31, 31, .w1c, .const 0, .imm⟩,
    ⟨"PIN_ERR", 21, 16, .w1c, .const 0, .imm⟩,
    ⟨"CHAIN_ERR", 15, 8, .w1c, .const 0, .imm⟩,
    ⟨"ROW_LATE", 0, 0, .w1c, .const 0, .imm⟩]⟩,
  ⟨"PR_PORT_COUNT", 0xc, 1, 4, none, [
    ⟨"CHAIN_ERR_N", 31, 16, .ro, .const 0, .imm⟩,
    ⟨"ROW_LATE_N", 15, 0, .ro, .const 0, .imm⟩]⟩,
  ⟨"PR_PORT_OCRC_INFO", 0x14, 1, 4, none, [
    ⟨"VALID", 31, 31, .ro, .const 0, .imm⟩,
    ⟨"SEQ", 29, 22, .ro, .const 0, .imm⟩,
    ⟨"FNUM", 15, 0, .ro, .const 0, .imm⟩]⟩,
  ⟨"PR_PORT_OCRC", 0x10, 1, 4, none, [
    ⟨"CRC", 31, 0, .ro, .const 0, .imm⟩]⟩]

/-- Registers of block NET. -/
def regsNET : List RegDef := [
  ⟨"RD_NET_CTRL", 0x0, 1, 4, none, [
    ⟨"EN", 31, 31, .rw, .const 0, .imm⟩,
    ⟨"TX_FCS", 30, 30, .rw, .const 0, .imm⟩,
    ⟨"RX_FCS", 29, 29, .rw, .const 0, .imm⟩,
    ⟨"VLAN_STRIP", 28, 28, .rw, .const 0, .imm⟩,
    ⟨"PROMISC", 27, 27, .rw, .const 0, .imm⟩,
    ⟨"MCAST", 26, 26, .rw, .const 1, .imm⟩,
    ⟨"PAUSE_EN", 25, 25, .rw, .const 1, .imm⟩,
    ⟨"FLOW_EN", 24, 24, .rw, .const 0, .imm⟩,
    ⟨"TXC_DLY", 23, 23, .rw, .const 0, .imm⟩,
    ⟨"RXC_DLY", 22, 22, .rw, .const 0, .imm⟩,
    ⟨"MAXLEN", 15, 0, .rw, .const 1522, .imm⟩]⟩,
  ⟨"RD_NET_MAC_LO", 0x4, 1, 4, none, [
    ⟨"MAC", 31, 0, .rw, .const 0, .imm⟩]⟩,
  ⟨"RD_NET_MAC_HI", 0x8, 1, 4, none, [
    ⟨"MAC", 15, 0, .rw, .const 0, .imm⟩]⟩,
  ⟨"RD_NET_TXHEAD", 0xc, 1, 4, none, [
    ⟨"HEAD0", 5, 0, .ro, .const 0, .imm⟩,
    ⟨"HEAD1", 11, 6, .ro, .const 0, .imm⟩,
    ⟨"HEAD2", 17, 12, .ro, .const 0, .imm⟩,
    ⟨"HEAD3", 23, 18, .ro, .const 0, .imm⟩]⟩,
  ⟨"RD_NET_RXHEAD", 0x10, 1, 4, none, [
    ⟨"HEAD", 6, 0, .ro, .const 0, .imm⟩]⟩,
  ⟨"RD_NET_FLOW", 0x14, 1, 4, none, [
    ⟨"PAUSE_TIME", 31, 16, .rw, .const 65535, .imm⟩,
    ⟨"XON", 13, 7, .rw, .const 32, .imm⟩,
    ⟨"XOFF", 6, 0, .rw, .const 8, .imm⟩]⟩,
  ⟨"RD_NET_LAT", 0x18, 1, 4, none, [
    ⟨"TX_LAT", 31, 16, .rw, .const 0, .imm⟩,
    ⟨"RX_LAT", 15, 0, .rw, .const 0, .imm⟩]⟩,
  ⟨"RD_NET_STATUS", 0x1c, 1, 4, none, [
    ⟨"TS_OVF", 31, 31, .w1c, .const 0, .imm⟩,
    ⟨"PAUSED", 30, 30, .ro, .const 0, .imm⟩,
    ⟨"XOFF_SENT", 29, 29, .ro, .const 0, .imm⟩]⟩,
  ⟨"RD_NET_CNT0", 0x20, 1, 4, none, [
    ⟨"TX_N", 31, 16, .ro, .const 0, .imm⟩,
    ⟨"RX_N", 15, 0, .ro, .const 0, .imm⟩]⟩,
  ⟨"RD_NET_CNT1", 0x24, 1, 4, none, [
    ⟨"FCS_N", 31, 24, .ro, .const 0, .imm⟩,
    ⟨"RUNT_N", 23, 16, .ro, .const 0, .imm⟩,
    ⟨"LONG_N", 15, 8, .ro, .const 0, .imm⟩,
    ⟨"NODESC_N", 7, 0, .ro, .const 0, .imm⟩]⟩,
  ⟨"RD_NET_CNT2", 0x28, 1, 4, none, [
    ⟨"OVERSIZE_N", 31, 24, .ro, .const 0, .imm⟩,
    ⟨"PAUSE_N", 23, 16, .ro, .const 0, .imm⟩,
    ⟨"MACCTL_N", 15, 8, .ro, .const 0, .imm⟩,
    ⟨"NOWIN_N", 7, 0, .ro, .const 0, .imm⟩]⟩,
  ⟨"RD_NET_CNT3", 0x2c, 1, 4, none, [
    ⟨"COLL_N", 31, 24, .ro, .const 0, .imm⟩,
    ⟨"EXCOL_N", 23, 16, .ro, .const 0, .imm⟩,
    ⟨"LATECOL_N", 15, 8, .ro, .const 0, .imm⟩,
    ⟨"TS_OVF_N", 7, 0, .ro, .const 0, .imm⟩]⟩,
  ⟨"RD_NET_TXTS_POP", 0x30, 1, 4, none, [
    ⟨"VALID", 31, 31, .ro, .const 0, .imm⟩,
    ⟨"TS_TAG", 23, 16, .ro, .const 0, .imm⟩,
    ⟨"SEC_HI", 15, 0, .ro, .const 0, .imm⟩]⟩,
  ⟨"RD_NET_MDIO_CMD", 0x3c, 1, 4, none, [
    ⟨"OP", 27, 26, .wo, .const 0, .imm⟩,
    ⟨"PHYAD", 25, 21, .wo, .const 0, .imm⟩,
    ⟨"REGAD", 20, 16, .wo, .const 0, .imm⟩,
    ⟨"DATA", 15, 0, .wo, .const 0, .imm⟩]⟩,
  ⟨"RD_NET_MDIO_RESULT", 0x40, 1, 4, none, [
    ⟨"VALID", 31, 31, .ro, .const 0, .imm⟩,
    ⟨"SEQ", 29, 22, .ro, .const 0, .imm⟩,
    ⟨"DATA", 15, 0, .ro, .const 0, .imm⟩]⟩,
  ⟨"RD_NET_TXTS_SEC", 0x34, 1, 4, none, [
    ⟨"SEC", 31, 0, .ro, .const 0, .imm⟩]⟩,
  ⟨"RD_NET_TXTS_NS", 0x38, 1, 4, none, [
    ⟨"NS", 29, 0, .ro, .const 0, .imm⟩]⟩]

/-- Registers of block WHEEL. -/
def regsWHEEL : List RegDef := [
  ⟨"RD_WHEEL_CTRL", 0x0, 1, 4, none, [
    ⟨"WHEEL_EN", 31, 31, .rws, .const 0, .commit⟩,
    ⟨"BANK", 30, 30, .rws, .const 0, .commit⟩,
    ⟨"CYCLE", 26, 24, .rws, .const 1, .commit⟩,
    ⟨"BASE", 23, 0, .rws, .const 0, .commit⟩]⟩,
  ⟨"RD_WHEEL_STATUS", 0x4, 1, 4, none, [
    ⟨"WHEEL_REFUSED", 31, 31, .w1c, .const 0, .imm⟩,
    ⟨"BANK_ACT", 30, 30, .ro, .const 0, .imm⟩,
    ⟨"STATE", 29, 28, .ro, .const 0, .imm⟩,
    ⟨"ENTRY", 5, 0, .ro, .const 0, .imm⟩]⟩,
  ⟨"RD_WHEEL_CTRL_ACT", 0x40, 1, 4, some 0x0, [
    ⟨"WHEEL_EN", 31, 31, .ro, .const 0, .imm⟩,
    ⟨"BANK", 30, 30, .ro, .const 0, .imm⟩,
    ⟨"CYCLE", 26, 24, .ro, .const 1, .imm⟩,
    ⟨"BASE", 23, 0, .ro, .const 0, .imm⟩]⟩]

/-- Registers of block PTP. -/
def regsPTP : List RegDef := [
  ⟨"RD_PTP_NS", 0x0, 1, 4, none, [
    ⟨"NS", 29, 0, .ro, .const 0, .imm⟩]⟩,
  ⟨"RD_PTP_SEC_LO", 0x4, 1, 4, none, [
    ⟨"SEC", 31, 0, .ro, .const 0, .imm⟩]⟩,
  ⟨"RD_PTP_SEC_HI", 0x8, 1, 4, none, [
    ⟨"SEC", 15, 0, .ro, .const 0, .imm⟩]⟩,
  ⟨"RD_PTP_INC_FRAC", 0xc, 1, 4, none, [
    ⟨"INC_FRAC", 31, 0, .rw, .const 0, .imm⟩]⟩,
  ⟨"RD_PTP_INC", 0x10, 1, 4, none, [
    ⟨"INC_NS", 7, 0, .rw, .const 5, .imm⟩]⟩,
  ⟨"RD_PTP_SET_NS", 0x14, 1, 4, none, [
    ⟨"SET_NS", 31, 0, .rw, .const 0, .imm⟩]⟩,
  ⟨"RD_PTP_SET_SEC_LO", 0x18, 1, 4, none, [
    ⟨"SET_SEC", 31, 0, .rw, .const 0, .imm⟩]⟩,
  ⟨"RD_PTP_SET_SEC_HI", 0x1c, 1, 4, none, [
    ⟨"SET_SEC", 15, 0, .rw, .const 0, .imm⟩]⟩,
  ⟨"RD_PTP_ADJ", 0x20, 1, 4, none, [
    ⟨"ADJ", 31, 0, .wo, .const 0, .imm⟩]⟩,
  ⟨"RD_PTP_CMD", 0x24, 1, 4, none, [
    ⟨"SET", 0, 0, .wo, .const 0, .imm⟩]⟩,
  ⟨"RD_PTP_STATUS", 0x28, 1, 4, none, [
    ⟨"STEPPED", 31, 31, .w1c, .const 0, .imm⟩,
    ⟨"SET_REFUSED", 30, 30, .w1c, .const 0, .imm⟩,
    ⟨"TRIG_LATE", 29, 28, .w1c, .const 0, .imm⟩,
    ⟨"CAP_OVF", 27, 26, .w1c, .const 0, .imm⟩]⟩]

/-- Registers of block TRIG. -/
def regsTRIG : List RegDef := [
  ⟨"RD_PTP_TRIG_SEC_HI", 0x0, 1, 4, none, [
    ⟨"SEC", 15, 0, .rw, .const 0, .imm⟩]⟩,
  ⟨"RD_PTP_TRIG_SEC_LO", 0x4, 1, 4, none, [
    ⟨"SEC", 31, 0, .rw, .const 0, .imm⟩]⟩,
  ⟨"RD_PTP_TRIG_NS", 0x8, 1, 4, none, [
    ⟨"NS", 29, 0, .rw, .const 0, .imm⟩]⟩,
  ⟨"RD_PTP_TRIG_PERIOD", 0xc, 1, 4, none, [
    ⟨"PERIOD", 31, 0, .rw, .const 0, .imm⟩]⟩,
  ⟨"RD_PTP_TRIG_CTRL", 0x10, 1, 4, none, [
    ⟨"ARM", 31, 31, .rw, .const 0, .imm⟩,
    ⟨"MODE", 30, 30, .rw, .const 0, .imm⟩,
    ⟨"POL", 29, 29, .rw, .const 1, .imm⟩,
    ⟨"WIDTH", 23, 0, .rw, .const 1000, .imm⟩]⟩]

/-- Registers of block CAP. -/
def regsCAP : List RegDef := [
  ⟨"RD_PTP_CAP_CTRL", 0x0, 1, 4, none, [
    ⟨"EN", 31, 31, .rw, .const 0, .imm⟩,
    ⟨"EDGE", 30, 29, .rw, .const 1, .imm⟩]⟩,
  ⟨"RD_PTP_CAP_POP", 0x4, 1, 4, none, [
    ⟨"VALID", 31, 31, .ro, .const 0, .imm⟩,
    ⟨"RASTER_VALID", 30, 30, .ro, .const 0, .imm⟩,
    ⟨"RISING", 29, 29, .ro, .const 0, .imm⟩,
    ⟨"SEC_HI", 15, 0, .ro, .const 0, .imm⟩]⟩,
  ⟨"RD_PTP_CAP_SEC", 0x8, 1, 4, none, [
    ⟨"SEC", 31, 0, .ro, .const 0, .imm⟩]⟩,
  ⟨"RD_PTP_CAP_NS", 0xc, 1, 4, none, [
    ⟨"NS", 29, 0, .ro, .const 0, .imm⟩]⟩,
  ⟨"RD_PTP_CAP_POS", 0x10, 1, 4, none, [
    ⟨"LPOS", 31, 16, .ro, .const 0, .imm⟩,
    ⟨"LPHASE", 15, 0, .ro, .const 0, .imm⟩]⟩,
  ⟨"RD_PTP_CAP_FNUM", 0x14, 1, 4, none, [
    ⟨"FNUM", 31, 0, .ro, .const 0, .imm⟩]⟩,
  ⟨"RD_PTP_CAP_CNT", 0x18, 1, 4, none, [
    ⟨"CAP_N", 31, 16, .ro, .const 0, .imm⟩,
    ⟨"CAP_OVF_N", 15, 0, .ro, .const 0, .imm⟩]⟩]

/-- Registers of block AUD. -/
def regsAUD : List RegDef := [
  ⟨"RD_AUD_CTRL", 0x0, 1, 4, none, [
    ⟨"EN", 31, 31, .rw, .const 0, .imm⟩,
    ⟨"FORMAT", 30, 30, .rw, .const 0, .imm⟩,
    ⟨"CS_SRC", 29, 29, .rw, .const 0, .imm⟩,
    ⟨"MUTE_NONPCM", 28, 28, .rw, .const 1, .imm⟩,
    ⟨"AUTO_LAT", 27, 27, .rw, .const 1, .imm⟩,
    ⟨"GROUP_EN", 26, 26, .rw, .const 0, .imm⟩,
    ⟨"GROUP", 25, 24, .rw, .const 0, .imm⟩,
    ⟨"SLIP_LIM", 7, 0, .rw, .const 4, .imm⟩]⟩,
  ⟨"RD_AUD_ADJ", 0x4, 1, 4, none, [
    ⟨"ADJ", 31, 0, .rws, .const 0, .commit⟩]⟩,
  ⟨"RD_AUD_STATUS", 0x8, 1, 4, none, [
    ⟨"STATE", 31, 28, .ro, .const 0, .imm⟩,
    ⟨"FS", 27, 25, .ro, .const 0, .imm⟩,
    ⟨"NONPCM", 24, 24, .ro, .const 0, .imm⟩,
    ⟨"IN_STOP", 23, 23, .w1c, .const 0, .imm⟩,
    ⟨"OUT_STOP", 22, 22, .w1c, .const 0, .imm⟩,
    ⟨"GLITCH", 21, 21, .w1c, .const 0, .imm⟩,
    ⟨"RATE_CHG", 20, 20, .w1c, .const 0, .imm⟩,
    ⟨"RATE_DIFF", 19, 19, .w1c, .const 0, .imm⟩,
    ⟨"DELAY_CLAMP", 18, 18, .w1c, .const 0, .imm⟩,
    ⟨"GROUP_RATE", 17, 17, .w1c, .const 0, .imm⟩,
    ⟨"TS_OVF", 16, 16, .w1c, .const 0, .imm⟩]⟩,
  ⟨"RD_AUD_DELAY", 0xc, 1, 4, none, [
    ⟨"VALID", 31, 31, .ro, .const 0, .imm⟩,
    ⟨"SEQ", 29, 22, .ro, .const 0, .imm⟩,
    ⟨"D_F", 18, 0, .ro, .const 0, .imm⟩]⟩,
  ⟨"RD_AUD_ALIGN", 0x10, 1, 4, none, [
    ⟨"ALIGN", 15, 0, .ro, .const 0, .imm⟩]⟩,
  ⟨"RD_AUD_COUNT", 0x14, 1, 4, none, [
    ⟨"GLITCH_N", 31, 24, .ro, .const 0, .imm⟩,
    ⟨"REALIGN", 23, 16, .ro, .const 0, .imm⟩,
    ⟨"UNDERRUN", 15, 8, .ro, .const 0, .imm⟩,
    ⟨"ZERO_N", 7, 0, .ro, .const 0, .imm⟩]⟩,
  ⟨"RD_AUD_COUNT2", 0x18, 1, 4, none, [
    ⟨"TS_OVF_N", 7, 0, .ro, .const 0, .imm⟩]⟩,
  ⟨"RD_AUD_CS_IN", 0x20, 6, 4, none, [
    ⟨"CS", 31, 0, .ro, .const 0, .imm⟩]⟩,
  ⟨"RD_AUD_CS_OUT", 0x38, 6, 4, none, [
    ⟨"CS", 31, 0, .rw, .const 0, .imm⟩]⟩,
  ⟨"RD_AUD_TS_POP", 0x60, 1, 4, none, [
    ⟨"VALID", 31, 31, .ro, .const 0, .imm⟩,
    ⟨"DIR", 30, 30, .ro, .const 0, .imm⟩,
    ⟨"SEC_HI", 29, 16, .ro, .const 0, .imm⟩,
    ⟨"BLOCK", 15, 0, .ro, .const 0, .imm⟩]⟩,
  ⟨"RD_AUD_TS_SEC", 0x64, 1, 4, none, [
    ⟨"SEC", 31, 0, .ro, .const 0, .imm⟩]⟩,
  ⟨"RD_AUD_TS_NS", 0x68, 1, 4, none, [
    ⟨"NS", 29, 0, .ro, .const 0, .imm⟩]⟩,
  ⟨"RD_AUD_TS_FNUM", 0x6c, 1, 4, none, [
    ⟨"FNUM", 31, 0, .ro, .const 0, .imm⟩]⟩,
  ⟨"RD_AUD_TS_POS", 0x70, 1, 4, none, [
    ⟨"LPOS", 31, 16, .ro, .const 0, .imm⟩,
    ⟨"LPHASE", 15, 0, .ro, .const 0, .imm⟩]⟩,
  ⟨"RD_AUD_ADJ_ACT", 0x50, 1, 4, some 0x4, [
    ⟨"ADJ", 31, 0, .ro, .const 0, .imm⟩]⟩]

/-- Registers of block CRC. -/
def regsCRC : List RegDef := [
  ⟨"RD_CRC_CFG", 0x0, 1, 4, none, [
    ⟨"REFIN", 31, 31, .rw, .const 1, .imm⟩,
    ⟨"REFOUT", 30, 30, .rw, .const 1, .imm⟩,
    ⟨"WIDTH_M1", 5, 0, .rw, .const 31, .imm⟩]⟩,
  ⟨"RD_CRC_CMD", 0x4, 1, 4, none, [
    ⟨"START", 0, 0, .wo, .const 0, .imm⟩]⟩,
  ⟨"RD_CRC_DATA8", 0x28, 1, 4, none, [
    ⟨"DATA", 7, 0, .wo, .const 0, .imm⟩]⟩,
  ⟨"RD_CRC_DATA16", 0x2c, 1, 4, none, [
    ⟨"DATA", 15, 0, .wo, .const 0, .imm⟩]⟩,
  ⟨"RD_CRC_DATA32", 0x30, 1, 4, none, [
    ⟨"DATA", 31, 0, .wo, .const 0, .imm⟩]⟩,
  ⟨"RD_CRC_RESULT_INFO", 0x34, 1, 4, none, [
    ⟨"VALID", 31, 31, .ro, .const 0, .imm⟩,
    ⟨"SEQ", 29, 22, .ro, .const 0, .imm⟩,
    ⟨"PENDING", 4, 0, .ro, .const 0, .imm⟩]⟩,
  ⟨"RD_CRC_BYTES", 0x40, 1, 4, none, [
    ⟨"BYTES", 31, 0, .ro, .const 0, .imm⟩]⟩,
  ⟨"RD_CRC_POLY_LO", 0x8, 1, 4, none, [
    ⟨"V", 31, 0, .rw, .const 79764919, .imm⟩]⟩,
  ⟨"RD_CRC_POLY_HI", 0xc, 1, 4, none, [
    ⟨"V", 31, 0, .rw, .const 0, .imm⟩]⟩,
  ⟨"RD_CRC_INIT_LO", 0x10, 1, 4, none, [
    ⟨"V", 31, 0, .rw, .const 4294967295, .imm⟩]⟩,
  ⟨"RD_CRC_INIT_HI", 0x14, 1, 4, none, [
    ⟨"V", 31, 0, .rw, .const 0, .imm⟩]⟩,
  ⟨"RD_CRC_XOR_LO", 0x18, 1, 4, none, [
    ⟨"V", 31, 0, .rw, .const 4294967295, .imm⟩]⟩,
  ⟨"RD_CRC_XOR_HI", 0x1c, 1, 4, none, [
    ⟨"V", 31, 0, .rw, .const 0, .imm⟩]⟩,
  ⟨"RD_CRC_STATE_LO", 0x20, 1, 4, none, [
    ⟨"V", 31, 0, .rw, .const 4294967295, .imm⟩]⟩,
  ⟨"RD_CRC_STATE_HI", 0x24, 1, 4, none, [
    ⟨"V", 31, 0, .rw, .const 0, .imm⟩]⟩,
  ⟨"RD_CRC_RESULT_LO", 0x38, 1, 4, none, [
    ⟨"V", 31, 0, .ro, .const 0, .imm⟩]⟩,
  ⟨"RD_CRC_RESULT_HI", 0x3c, 1, 4, none, [
    ⟨"V", 31, 0, .ro, .const 0, .imm⟩]⟩]

/-- Registers of block K24, part 0. -/
def regsK24_0 : List RegDef := [
  ⟨"RD_K24_ID", 0x0, 1, 4, none, [
    ⟨"ID", 15, 0, .ro, .const 19236, .imm⟩]⟩,
  ⟨"RD_K24_REV", 0x4, 1, 4, none, [
    ⟨"REV", 15, 0, .ro, .const 263, .imm⟩]⟩,
  ⟨"RD_K24_ADDR", 0x8, 1, 4, none, [
    ⟨"EXCESS", 15, 15, .ro, .const 0, .imm⟩,
    ⟨"ADDR", 5, 0, .ro, .const 0, .imm⟩]⟩,
  ⟨"RD_K24_STATUS", 0xc, 1, 4, none, [
    ⟨"UPD", 15, 12, .ro, .const 0, .imm⟩,
    ⟨"NO_MOULD", 8, 8, .ro, .const 0, .imm⟩,
    ⟨"SAFE_DARK", 7, 7, .ro, .const 0, .imm⟩,
    ⟨"LAMP_FAULT", 6, 6, .ro, .const 0, .imm⟩,
    ⟨"CEIL_LOW", 5, 5, .ro, .const 0, .imm⟩,
    ⟨"SAVING", 4, 4, .ro, .const 0, .imm⟩,
    ⟨"DARK", 3, 3, .ro, .const 0, .imm⟩,
    ⟨"HOLDING", 2, 2, .ro, .const 0, .imm⟩,
    ⟨"SHOWING", 1, 1, .ro, .const 0, .imm⟩,
    ⟨"LOCK", 0, 0, .ro, .const 0, .imm⟩]⟩,
  ⟨"RD_K24_CTRL", 0x10, 1, 4, none, [
    ⟨"HOLD", 15, 8, .rw, .mould, .imm⟩,
    ⟨"PAT", 3, 2, .rw, .const 0, .imm⟩,
    ⟨"TEST", 1, 1, .rw, .const 0, .imm⟩,
    ⟨"BLANK", 0, 0, .rw, .const 0, .imm⟩]⟩,
  ⟨"RD_K24_BRT", 0x14, 1, 4, none, [
    ⟨"BRT", 7, 0, .rw, .mould, .imm⟩]⟩,
  ⟨"RD_K24_WIDTH", 0x18, 1, 4, none, [
    ⟨"WIDTH", 15, 0, .ro, .mould, .imm⟩]⟩,
  ⟨"RD_K24_HEIGHT", 0x1c, 1, 4, none, [
    ⟨"HEIGHT", 15, 0, .ro, .mould, .imm⟩]⟩,
  ⟨"RD_K24_FCNT", 0x20, 1, 4, none, [
    ⟨"FCNT", 7, 0, .ro, .const 0, .imm⟩]⟩,
  ⟨"RD_K24_GAM_IDX", 0x40, 1, 4, none, [
    ⟨"COLOUR", 9, 8, .rw, .const 0, .imm⟩,
    ⟨"INDEX", 7, 0, .rw, .const 0, .imm⟩]⟩,
  ⟨"RD_K24_GAM_DATA", 0x44, 1, 4, none, [
    ⟨"DATA", 15, 0, .rw, .mould, .imm⟩]⟩,
  ⟨"RD_K24_GAIN_IDX_LO", 0x60, 1, 4, none, [
    ⟨"IDX", 15, 0, .rw, .const 0, .imm⟩]⟩,
  ⟨"RD_K24_GAIN_IDX_HI", 0x64, 1, 4, none, [
    ⟨"IDX", 1, 0, .rw, .const 0, .imm⟩]⟩,
  ⟨"RD_K24_GAIN_DATA", 0x68, 1, 4, none, [
    ⟨"GAIN", 7, 0, .rw, .other, .imm⟩]⟩,
  ⟨"RD_K24_TEMP", 0x80, 1, 4, none, [
    ⟨"TEMP", 15, 0, .ro, .const 0, .imm⟩]⟩,
  ⟨"RD_K24_ERR_POP", 0x84, 1, 4, none, [
    ⟨"ERR", 15, 0, .ro, .const 0, .imm⟩]⟩,
  ⟨"RD_K24_FAULTS", 0x88, 1, 4, none, [
    ⟨"N", 15, 0, .ro, .const 0, .imm⟩]⟩,
  ⟨"RD_K24_REPEAT", 0x8c, 1, 4, none, [
    ⟨"ROWS", 15, 0, .ro, .const 0, .imm⟩]⟩,
  ⟨"RD_K24_SAVE", 0xc0, 1, 4, none, [
    ⟨"KEY", 15, 0, .wo, .const 0, .imm⟩]⟩,
  ⟨"RD_K24_UPD_CTRL", 0x100, 1, 4, none, [
    ⟨"CMD", 3, 0, .wo, .const 0, .imm⟩]⟩]

/-- Registers of block K24, part 1. -/
def regsK24_1 : List RegDef := [
  ⟨"RD_K24_UPD_DATA", 0x104, 1, 4, none, [
    ⟨"BYTE", 7, 0, .wo, .const 0, .imm⟩]⟩,
  ⟨"RD_K24_UPD_STATUS", 0x108, 1, 4, none, [
    ⟨"ERR", 15, 8, .ro, .const 0, .imm⟩,
    ⟨"STATE", 3, 0, .ro, .const 0, .imm⟩]⟩,
  ⟨"RD_K24_UPD_WIN", 0x10c, 1, 4, none, [
    ⟨"MIN", 15, 0, .rw, .const 60, .imm⟩]⟩,
  ⟨"RD_K24_GN8", 0x3c0, 1, 4, none, [
    ⟨"TAG", 15, 0, .ro, .const 18232, .imm⟩]⟩]

/-- Registers of block K24. -/
def regsK24 : List RegDef :=
  regsK24_0 ++ regsK24_1

end Sys2Proof.Machine
end

