-- ==== Sys2Proof/Machine/RegLookup.lean ====
section
/-!
DEFINITION. From a BAR0 offset to the register that sits there (R4, R581), its reset word (R9) and the bits each access type
covers (R10). An offset of a running die that no block assigns holds no register (R567).
-/

namespace Sys2Proof.Machine

/-- The wheel's entry words (R445): two banks of 64. -/
def regsWHEELENT : List RegDef := [
  ⟨"RD_WHEEL_ENTRY", 0x0, 128, 4, none, [⟨"GATES", 31, 24, .rw, .const 0xFF, .imm⟩, ⟨"DUR", 23, 0, .rw, .const 0, .imm⟩]⟩]

/-- Network port 0's registers: those of both ports, but that bit 25 of RD_NET_CTRL is reserved there (R440). -/
def regsNET0 : List RegDef := regsNET.map fun r =>
  if r.off = 0 then { r with fields := r.fields.filter fun f => f.name != "PAUSE_EN" } else r

/-- Tile STATUS copies (R173): per port, eight words for each of 32 addresses. -/
def regsSTCOPY : List RegDef := [⟨"CH_STATUS_COPY", 0x0, 2048, 4, none, [⟨"WORD", 31, 0, .ro, .const 0, .imm⟩]⟩]

/-- Control-packet buffers (R168, R170): per port TXBUF and RXBUF, 64 words each. -/
def regsTXRX : List RegDef := [
  ⟨"CH_CTRL_TXBUF", 0x0, 64, 4, none, [⟨"WORD", 31, 0, .rw, .const 0, .imm⟩]⟩,
  ⟨"CH_CTRL_RXBUF", 0x100, 64, 4, none, [⟨"WORD", 31, 0, .ro, .const 0, .imm⟩]⟩]

/-- Trim sets (R224): five 64-bit sets per lane as word pairs. -/
def regsTRIM : List RegDef := [⟨"HP_TRIM", 0x0, 10, 4, none, [⟨"WORD", 31, 0, .ro, .const 0, .imm⟩]⟩]

/-- Coefficient words (R284). -/
def regsCOEF : List RegDef := [
  ⟨"VT_COEF", 0x0, 448, 4, none, [⟨"ODD", 27, 16, .rw, .other, .imm⟩, ⟨"EVEN", 11, 0, .rw, .other, .imm⟩]⟩]

/-- The block of registers at an offset and the offset within one instance of it. -/
def blockAt (a : Nat) : Option (List RegDef × Nat) :=
  let d := (a / 0x1000000) % 8
  let o := a % 0x1000000
  if 0x8000000 ≤ a then some (regsCHT, o % 0x100)
  else if d = 0 then
    if o < 0x800 then some (regsRD, o)
    else if 0x10000 ≤ o && o < 0x11000 then some (regsNET0, o % 0x1000)
    else if 0x11000 ≤ o && o < 0x12000 then some (regsNET, o % 0x1000)
    else if 0x12000 ≤ o && o < 0x12100 then some (regsWHEEL, o - 0x12000)
    else if 0x12100 ≤ o && o < 0x12300 then some (regsWHEELENT, o - 0x12100)
    else if 0x13000 ≤ o && o < 0x13040 then some (regsPTP, o - 0x13000)
    else if 0x13040 ≤ o && o < 0x13080 then some (regsTRIG, o % 0x20)
    else if 0x13080 ≤ o && o < 0x130C0 then some (regsCAP, o % 0x20)
    else if 0x14000 ≤ o && o < 0x14400 then some (regsAUD, o % 0x100)
    else if 0x15000 ≤ o && o < 0x15400 then some (regsCRC, o % 0x100)
    else if 0x100000 ≤ o && o < 0x140000 then some (regsK24, o - 0x100000)
    else none
  else if d ≤ 4 then
    if 0x20000 ≤ o && o < 0x20200 then some (regsING, o % 0x100)
    else if 0x21000 ≤ o && o < 0x21200 then some (regsRND, o % 0x100)
    else if 0x22000 ≤ o && o < 0x22200 then some (regsWB, o % 0x100)
    else if 0x30000 ≤ o && o < 0x31000 then some (regsLE, o % 0x100)
    else if 0x31000 ≤ o && o < 0x31800 then some (regsTGT, o % 0x80)
    else if 0x32000 ≤ o && o < 0x33000 then some (regsVTC, o)
    else if 0x34000 ≤ o && o < 0x38000 then some (regsCOEF, o % 0x800)
    else if 0x50000 ≤ o && o < 0x50200 then some (regsDCH, o % 0x100)
    else if 0x50200 ≤ o && o < 0x50300 then some (regsDDIE, o - 0x50200)
    else if d = 1 && 0x60000 ≤ o && o < 0x60200 then some (regsTP, o - 0x60000)
    else none
  else if d ≤ 6 then
    if 0x100000 ≤ o && o < 0x100800 then some (regsCH ++ regsCHS, o % 0x100)
    else if 0x200000 ≤ o && o < 0x202000 then some (regsSTCOPY, o - 0x200000)
    else if 0x300000 ≤ o && o < 0x301000 then some (regsTXRX, o % 0x200)
    else if 0x400000 ≤ o && o < 0x400E00 then some (regsLANE, o % 0x40)
    else if 0x410000 ≤ o && o < 0x410180 then some (regsGROUP, o % 0x20)
    else if 0x420000 ≤ o && o < 0x420E00 then some (regsTRIM, o % 0x40)
    else none
  else
    if 0x10000 ≤ o && o < 0x10100 then some (regsSLOT, o - 0x10000)
    else if 0x10100 ≤ o && o < 0x10200 then some (regsDIAG, o - 0x10100)
    else if 0x10200 ≤ o && o < 0x10300 then some (regsPAT, o - 0x10200)
    else if 0x20000 ≤ o && o < 0x21000 then some (regsPORT, o % 0x100)
    else none

/-- Does copy `i` of the register, for some `i`, sit at offset `o` of the block? -/
def RegDef.covers (r : RegDef) (o : Nat) : Bool :=
  r.off ≤ o && o < r.off + r.cnt * r.stride && (o - r.off) % r.stride = 0

/-- The register at a BAR0 offset. -/
def regAt (a : Nat) : Option RegDef :=
  match blockAt a with
  | some (rs, o) => rs.find? (fun r => r.covers o)
  | none => none

/-- The bits of a register that fields satisfying `p` cover. -/
def RegDef.mask (r : RegDef) (p : FieldDef → Bool) : Word :=
  r.fields.foldl (fun m f => if p f then m ||| maskOf f.hi f.lo else m) 0

/-- The bits some field names; the others are reserved (R9). -/
def RegDef.named (r : RegDef) : Word := r.mask fun _ => true
/-- The bits of RW fields. -/
def RegDef.rwBits (r : RegDef) : Word := r.mask fun f => f.acc = .rw
/-- The bits of W1C fields. -/
def RegDef.w1cBits (r : RegDef) : Word := r.mask fun f => f.acc = .w1c
/-- The bits of RWS fields. -/
def RegDef.rwsBits (r : RegDef) : Word := r.mask fun f => f.acc = .rws
/-- The bits of RWS fields that apply at a commit. -/
def RegDef.commitBits (r : RegDef) : Word := r.mask fun f => f.acc = .rws && f.app = .commit
/-- The bits of WO fields, which read as zero. -/
def RegDef.woBits (r : RegDef) : Word := r.mask fun f => f.acc = .wo
/-- The bits of fields that the mould image loads (R42). -/
def RegDef.mouldBits (r : RegDef) : Word := r.mask fun f => f.rst = .mould

/-- The constant part of a register's reset word; M fields and fields of another source start at zero in the store. -/
def RegDef.rst (r : RegDef) : Nat :=
  r.fields.foldl (fun n f => match f.rst with | .const v => n + v <<< f.lo | _ => n) 0

/-- Reset word at offset `o` of a coefficient set (R259, R284): linear interpolation. KH taps 3 and 4 sit in the odd half of word 1 and the
even half of word 2 of a phase, KF taps 2 and 3 in word 1. -/
def coefReset (o : Nat) : Nat :=
  if o < 0x400 then
    let p := o / 16
    if o % 16 = 4 then (1024 - 16 * p) <<< 16 else if o % 16 = 8 then 16 * p else 0
  else
    let p := (o - 0x400) / 12
    if p < 64 && (o - 0x400) % 12 = 4 then (1024 - 16 * p) + (16 * p) <<< 16 else 0

/-- The word at an offset after RESET_N (R9). RD_DIE_STATE has bit 0 of DIE_ON set at all times (R39). -/
def resetWord (a : Nat) : Word :=
  let d := a / 0x1000000
  let o := a % 0x1000000
  if d = 0 && 0x720 ≤ o && o ≤ 0x744 then
    -- RD_IRQ_MAP (R573): field j of register k resets to (4k + j) mod 32; the fields of causes 37 to 39 are reserved.
    let k := (o - 0x720) / 4
    let v := fun j => if 4 * k + j < 37 then ((4 * k + j) % 32) <<< (8 * j) else 0
    BitVec.ofNat 32 (v 0 + v 1 + v 2 + v 3)
  else if 1 ≤ d && d ≤ 4 && 0x34000 ≤ o && o < 0x38000 then BitVec.ofNat 32 (coefReset (o % 0x800))
  else match regAt a with
    | some r => BitVec.ofNat 32 (if a = 0x40 then r.rst ||| 1 else r.rst)
    | none => 0

end Sys2Proof.Machine
end

