-- ==== Sys2Proof/Machine/State.lean ====
section
/-!
DEFINITION. The state of the block: every register, buffer, counter, mode and pin the manual gives the GN-8, as plain data, and the queue of
waiting commands. The registers that the manual's tables list live in one store keyed by BAR0 offset (R4); what the tables
do not hold lives in the records below, chapter by chapter.
-/

namespace Sys2Proof.Machine

open Sys2Proof

/-! ### Chapters 00, 01, 22: the host's access, die links, pins and power -/

/-- What the host's accesses leave held (R7, R16). -/
structure HostAcc where
  /-- Low halves of pixel-word pairs written and waiting for the high half, by the low half's BAR0 offset (R7). -/
  lowHeld : Tab (Option Word) := []
  /-- Captured partner words, by BAR0 offset, each returned by the next read of that offset (R16). -/
  captured : Tab (Option Word) := []
  /-- The data the last read command returned, and whether its completion was poisoned, EP = 1 (R381): the model's own fields. -/
  rdata : List Nat := []
  poisoned : Bool := false
  deriving DecidableEq, Repr, Inhabited

/-- Power, reset and sideband pins (chapters 03, 20, 22, 23). -/
structure Sys where
  /-- RESET_N is low (R71). -/
  resetLow : Bool := false
  /-- A rail is outside its range, or has not been within it for 1 ms (R586, R587). -/
  railsBad : Bool := false
  /-- The hardware thermal trip holds the part (R480). -/
  tripped : Bool := false
  /-- The level of RECOVERY_N latched at the rise of RESET_N was low (R72). -/
  recovery : Bool := false
  /-- PERST_N is low (R566). -/
  perstLow : Bool := false
  /-- The SAFE_DARK pin is asserted (R143, R355). -/
  safeDark : Bool := false
  /-- Dies that passed self-test at this start, bit n for die n (R75). -/
  selfTest : Nat := 0xFF
  /-- THERMTRIP_N is driven low (R480). -/
  thermtrip : Bool := false
  /-- Levels of PTP_TRIG0 and PTP_TRIG1 (R437). -/
  trigPins : Nat := 0
  /-- A start is due or runs up to the choice of firmware (R74), and it follows a commanded or watchdog restart: the latched level of
  RECOVERY_N stands (R539). -/
  starting : Bool := true
  warm : Bool := false
  /-- The watchdog is past its first step: GRACE_MS runs (R539). -/
  wdtGrace : Bool := false
  /-- Every lane transmitter is in electrical idle (R70, R71). -/
  txIdle : Bool := true
  /-- What the SD card holds, as the command that read it last found it (R508, R575). -/
  card : Card := {}
  /-- Raster ticks at the last write of trim blocks to the Cave (R220). -/
  trimSaved : Nat := 0
  deriving DecidableEq, Repr, Inhabited

/-- Die links (R24 to R26); a link is keyed 8a + b for dies a < b. -/
structure Links where
  replays : Tab Nat := []
  failed : List Nat := []
  /-- Chain ports that send no heartbeats because their picture crosses a failed data link (R26), bit p, as last judged. -/
  hbStopped : Nat := 0
  /-- Tile: whey status and heartbeats of this tile stopped (V0 to H0 failed). -/
  wheyStopped : Bool := false
  deriving DecidableEq, Repr, Inhabited

/-- The PCIe endpoint and the interrupt controller (R563, R566, R570 to R573). -/
structure Pcie where
  /-- Configuration requests are answered. -/
  ready : Bool := false
  busMaster : Bool := false
  msixEnable : Bool := false
  funcMask : Bool := false
  /-- Masked vectors, bit v. -/
  vecMask : Nat := 0xFFFFFFFF
  /-- MSI-X table: address and data of each vector. -/
  table : Tab (Nat × Nat) := []
  /-- PBA bits. -/
  pba : Nat := 0
  /-- Vectors whose message has gone and that wait for RD_IRQ_ACK (R572). -/
  waitAck : Nat := 0
  /-- Vectors that became active and whose message is due. -/
  due : Nat := 0
  /-- RD_IRQ_ACTIVE: vectors with a cause both pending and enabled. -/
  active : Nat := 0
  /-- IRQ_N is asserted (R21). -/
  irqN : Bool := false
  deriving DecidableEq, Repr, Inhabited

/-- JTAG (R576, R536). -/
structure Jtag where
  ir : Nat := 0x01
  elogSel : Nat := 0
  cells : List Bool := []
  /-- EXTEST drives the balls from the boundary cells. -/
  driving : Bool := false
  deriving DecidableEq, Repr, Inhabited

/-! ### Chapter 20: the error log -/

/-- An event on its way to the logger (R530): what the entry will hold of it. -/
structure LogReq where
  sev : Nat
  die : Nat
  code : Nat
  fnum : Nat
  rasterValid : Bool
  lpos : Nat
  sec : Nat
  ns : Nat
  arg0 : Nat
  arg1 : Nat
  arg2 : Nat
  deriving DecidableEq, Repr, Inhabited

/-- A log entry (R531). `crc` is word 11 as stored. -/
structure LogEntry where
  seq : Nat
  startN : Nat
  rep : Nat
  lastFnum : Nat
  req : LogReq
  crc : Nat
  deriving DecidableEq, Repr, Inhabited

/-- The retention RAM and the logger (R530 to R532). -/
structure Elog where
  /-- The ring, oldest first. -/
  ring : List LogEntry := []
  /-- The fatal area, oldest first. -/
  fatal : List LogEntry := []
  /-- Events waiting for the logger, oldest first: at most 64. -/
  queue : List LogReq := []
  /-- SEQ of the newest entry, 0 if none ever. -/
  seq : Nat := 0
  /-- Starts since the retention RAM was cleared. -/
  startN : Nat := 0
  /-- Watchdog restarts since the retention RAM was cleared (R541). -/
  wdtRestarts : Nat := 0
  deriving DecidableEq, Repr, Inhabited

/-! ### Chapter 02: the mould image -/

/-- The loaded image and the re-mould (R49 to R63). -/
structure Mould where
  /-- The image in force. -/
  loaded : Option MouldImage := none
  /-- The image being verified, verified or armed, in Rind RAM (R57). -/
  staged : Option MouldImage := none
  /-- The partner sender has reported the same arm, and that its GO is sent. -/
  partnerOk : Bool := false
  partnerGo : Bool := false
  /-- Tile: GO received, with its T (R59). -/
  goFor : Option Nat := none
  /-- The staged image has passed verification (R57), and RD_REMOULD_RESULT as it read before the verification that runs (R67). -/
  verified : Bool := false
  shown : Word := 0
  /-- An image whose Press geometry takes effect at the next frame start (R60), and one that a restart for a personality change is to load (R61). -/
  pressDue : Option MouldImage := none
  carry : Option MouldImage := none
  /-- Places from which re-moulds have moved a store, oldest first, and whether the first frame written into a later place is complete: the readers
  keep to the first that is not (R60, R63). -/
  oldStores : List (StoreCfg × Bool) := []
  deriving DecidableEq, Repr, Inhabited

/-! ### Chapters 03, 05: a chain port -/

/-- A unicast or broadcast packet waiting for its answer (R154, R155). -/
structure InFlight where
  pkt : Pkt
  resends : Nat := 0
  frames : Nat := 0
  /-- The packet came from CH_CTRL_TX_CMD, whose result register it reports in. -/
  host : Bool := false
  deriving DecidableEq, Repr, Inhabited

/-- A composed frame at a scan-out engine (R287 to R296). -/
structure SoFrame where
  fnum : Nat
  /-- OVL_K in force for the frame (R165). -/
  k : Nat := 1
  /-- The code and the background word of each phase, in force for the frame (R266, R288, R293). -/
  codes : List Nat := []
  bgs : List Nat := []
  /-- The first chain line of the frame that has not started. -/
  next : Nat := 0
  /-- Running expected picture CRC of each tile and phase (R295): key 4 * address + phase. -/
  crcs : Tab (Option Nat) := []
  /-- The port left LINKED in this frame. -/
  left : Bool := false
  /-- READY tiles that were sent segments, bit a. -/
  ready : Nat := 0
  /-- Does the tile's STATUS for this frame show a repeat? By address. -/
  status : Tab (Option Bool) := []
  /-- Picture CRCs that came before the tile's STATUS. -/
  waiting : Tab (Option (List Nat)) := []
  /-- Outcomes given: keys 4 * address + phase; and addresses whose OUTCRC has come. -/
  given : List Nat := []
  came : List Nat := []
  deriving DecidableEq, Repr, Inhabited

/-- The output CRC comparison of a port (R297). -/
structure Ocrc where
  /-- The command in progress: true for CAPTURE, with its frame. -/
  cmd : Option (Bool × Nat) := none
  /-- Reference output CRCs per tile address; none before a capture. -/
  ref : Option (Tab (Option (List Nat))) := none
  /-- Output CRCs that have come for the command in progress. -/
  got : Tab (Option (List Nat)) := []
  /-- Differences queued: CH_OCRC_DIFF_POP words. -/
  diffs : List Nat := []
  deriving DecidableEq, Repr, Inhabited

/-- A chain port: training (R77), and the Olirlis link on it (chapter 05). -/
structure Port where
  /-- The transmitters are in electrical idle: out of use, in WAIT, or waiting for an image (R77). -/
  txIdle : Bool := true
  /-- Lanes on which this end's receiver holds lock. -/
  locked : Nat := 0
  partner : Option Partner := none
  /-- LOCKED as the partner last sent it. -/
  partnerLocked : Nat := 0
  /-- Own lane rate, count and spare: the mould's, or a partner's for a tile without mould. -/
  rate : Nat := 0
  lanes : Nat := 0
  spare : Nat := 0
  /-- Distinct tile addresses heard in whey since the first LINKED, bit a. -/
  heard : Nat := 0
  /-- Last SEQ used towards each destination (R154). -/
  seqOut : Tab Nat := []
  /-- Unicast packets awaiting an answer, by destination. -/
  unacked : Tab (Option InFlight) := []
  bcast : Option InFlight := none
  bcastWait : List InFlight := []
  /-- Unicast packets that wait for an earlier one to the same destination. -/
  uniWait : List InFlight := []
  /-- Received packets the port does not handle itself (R170). -/
  rxq : List Pkt := []
  /-- LAMPFAULT entries received (R171): CH_WHEY_POP words. -/
  whey : List Nat := []
  /-- Last SEQ executed from each source (R154), none before the first, and the result it was answered with. -/
  lastExec : Tab (Option Nat) := []
  lastResult : Tab Nat := []
  /-- Tile: what the last RD_RESP to each source held, while the last packet executed from it was a REG_RD. -/
  lastRead : Tab (Option (List Nat)) := []
  /-- Segment indexes of the newest charged errors of each lane, newest first, at most 17 (R162). -/
  laneErr : Tab (List Nat) := []
  /-- The same for errors charged to the port (R163). -/
  portErr : List Nat := []
  /-- Sender: the last CH_URG_TX write was SAFE_DARK_ON (R143). -/
  darkWritten : Bool := false
  /-- Sender: the port holds dark. -/
  dark : Bool := false
  /-- Repeats of SAFE_DARK_OFF still to send. -/
  offLeft : Nat := 0
  /-- Tile: the column of the port at which a set was last acted on (R142), by 256 * CODE + ARG. -/
  urg : Tab (Option Nat) := []
  /-- Lanes given up or retired on this port's receive side are in CH_LINK_STATUS; this is its transmit side given up by the partner. -/
  txGivenUp : Bool := false
  /-- BC_SEQ each tile last reported, by address. -/
  bcSeen : Tab Nat := []
  /-- WALL_ID and MOULD_SEQ agree for the tile at an address, bit a (R55, R89). -/
  agree : Nat := 0
  /-- TILE_STATE each tile last reported. -/
  tileState : Tab Nat := []
  /-- The last ENUM has been sent at least once. -/
  enumStarted : Bool := false
  /-- Sum and count of delay-marker round trips since the last track update (R116), in ps. -/
  rtSum : Int := 0
  rtCount : Nat := 0
  /-- The segment's drift term (R116). -/
  drift : Int := 0
  /-- Sender: consecutive frames in which HEALTH was short of HMASK, and in which it was not (R399). -/
  hBad : Nat := 0
  hGood : Nat := 0
  unfit : Bool := false
  /-- YIELD was written and no decision has reached the port since. -/
  yielding : Bool := false
  /-- An underrun in this frame, and in the previous one (R293, R399). -/
  underrun : Bool := false
  underrunPrev : Bool := false
  /-- The last 16 composed frames, newest first (R295). -/
  so : List SoFrame := []
  /-- Raster tick at which the fetch urgency in force began, and the ticks spent urgent before it (R300). -/
  urgAt : Option Nat := none
  urgTicks : Nat := 0
  ocrc : Ocrc := {}
  deriving DecidableEq, Repr, Inhabited

/-- A tile's address decision (R84). -/
structure Enum where
  /-- The own address, which may exceed what ADDR_COUNT can show; none before the first ENUM, and while REVERSED. -/
  addr : Option Nat := none
  newestA : Option Nat := none
  newestB : Option Nat := none
  candA : Nat := 0
  cntA : Nat := 0
  candB : Nat := 0
  cntB : Nat := 0
  /-- N of the newest ENUM, its origin code and the identity it carried. -/
  n : Nat := 0
  origin : Nat := 0
  wallId : Nat := 0
  mouldSeq : Nat := 0
  /-- Own forwarding latency, ps (R80). -/
  fwd : Nat := 0
  /-- A direction's ENUM has given a valid CUM_DELAY (R115). -/
  validA : Bool := false
  validB : Bool := false
  /-- The OUT port stayed in DETECT for 50 ms after IN reached LINKED (R85). -/
  outSilent : Bool := false
  deriving DecidableEq, Repr, Inhabited

/-! ### Chapter 04: wall time -/

/-- The raster (R98, R100). -/
structure Raster where
  running : Bool := false
  ltotal : Nat := 1125
  num : Nat := 60
  den : Nat := 1
  acc : Nat := 0
  rpos : Nat := 0
  fnum : Nat := 0
  /-- A tick has wrapped and the frame start's actions are still to be taken. -/
  boundary : Bool := false
  /-- The cut of this frame has passed (R121), and the referee's deadline (R402). -/
  cutDone : Bool := false
  refDone : Bool := false
  /-- Raster ticks added to this frame (R107), and to the next one. -/
  adj : Int := 0
  adjNext : Int := 0
  /-- Raster ticks since the start. -/
  ticks : Nat := 0
  deriving DecidableEq, Repr, Inhabited

/-- The wall timing generator (R104 to R111). -/
structure Wtg where
  /-- Steering of the newest frames, newest first, at most 64 (R106). -/
  steer : List Int := []
  /-- Consecutive errors within 20 ns, and beyond 500 ns. -/
  good : Nat := 0
  bad : Nat := 0
  /-- Consecutive periods within 0.1 % of P (R105). -/
  restored : Nat := 0
  /-- Consecutive periods outside 12.5 % of P, agreeing with one another: their least and greatest. -/
  odd : Nat := 0
  oddMin : Nat := 0
  oddMax : Nat := 0
  /-- The next edge restarts the period count. -/
  restart : Bool := true
  /-- A marked frame (R105), none before acquisition. -/
  marked : Option Nat := none
  /-- A rate change was confirmed and the geometry does not match it yet. -/
  rateWait : Bool := false
  /-- BASE of R109. -/
  base : Nat := 0
  /-- A jump decided and not yet announced: ticks to add (R107). -/
  jump : Option Int := none
  /-- The jump announced in this frame's RASTER packet, for the next frame. -/
  announced : Int := 0
  /-- A change of length under R110 was followed: the error of this frame is not steered on. -/
  ignoreFrame : Option Nat := none
  /-- Frames without a marker on CHAIN_REF_PORT, and whether this frame's has come. -/
  missed : Nat := 0
  seen : Bool := false
  /-- The geometry accepted under R111: S, LTOTAL, NUM, DEN. -/
  sched : Option (Nat × Nat × Nat × Nat) := none
  /-- A change that the raster packets of the reference, or of a tile's picture direction, announce (R110, R111). -/
  follow : Option (Nat × Nat × Nat × Nat) := none
  /-- The pending values were refused and wait for a new S. -/
  schedRefused : Bool := false
  deriving DecidableEq, Repr, Inhabited

/-- Commit groups (R121 to R125). -/
structure Commit where
  /-- A GO waiting for its flush: T, and FNUM and whether the cut had passed when it arrived. -/
  go : Option (Nat × Nat × Bool) := none
  /-- The group waiting for its cut: T, late, stale. -/
  group : Option (Nat × Bool × Bool) := none
  /-- The group taken at the last cut and not applied yet. -/
  takenGroup : Option (Nat × Bool × Bool) := none
  /-- Whether a cut has taken values that the next frame start applies. -/
  takenAny : Bool := false
  /-- RD_WTG_FNUM_LOAD was written and awaits its commit point (R108): every write counts. -/
  fnumLoad : Bool := false
  fnumLoadTaken : Bool := false
  deriving DecidableEq, Repr, Inhabited

/-- A tile's raster recovery (R115 to R118). -/
structure TileRas where
  good : Nat := 0
  missed : Nat := 0
  /-- The newest computed starts from A and from B, ps on the tile's raster. -/
  startA : Option Int := none
  startB : Option Int := none
  /-- A jump of this many ps is due at the next frame boundary. -/
  jump : Option Int := none
  /-- Error still to slew out, ps. -/
  slew : Int := 0
  /-- The first marker after entering ACQUIRE or changing direction is still to be judged. -/
  fresh : Bool := true
  /-- Newest RASTER packet of each direction. -/
  rasterA : Option RasterPkt := none
  rasterB : Option RasterPkt := none
  /-- CUM_ADJ as received with the newest RASTER of each direction. -/
  cumAdjA : Int := 0
  cumAdjB : Int := 0
  /-- Drift of the own forwarding latency. -/
  fwdDrift : Int := 0
  /-- A marker seen in this frame from each direction. -/
  seenA : Bool := false
  seenB : Bool := false
  deriving DecidableEq, Repr, Inhabited

/-! ### Chapter 05: a tile on its chain -/

/-- A tile's reception and its dark flags (R143, R148, R149). -/
structure TileRx where
  /-- Frames since the last SAFE_DARK_ON from each origin. -/
  ageA : Nat := 0
  ageB : Nat := 0
  /-- Frame being received. -/
  fnum : Nat := 0
  /-- Columns accepted of each row of the frame being received, per direction: key phase * 65536 + row, value spans (first, count). -/
  coverA : Tab (List (Nat × Nat)) := []
  coverB : Tab (List (Nat × Nat)) := []
  /-- Pixel rows of the frame being received and of the last complete frame: key phase * 65536 + row, value its words, each with its
  segment's code (R144) above bit 35. -/
  cur : Tab (List Nat) := []
  last : Tab (List Nat) := []
  /-- A complete frame is held. -/
  haveLast : Bool := false
  /-- A frame is being received, it started at a READY tile (R87, R88), and it is taken from direction B (R397). -/
  rx : Bool := false
  rxOk : Bool := false
  dirB : Bool := false
  /-- A reception has ended, and its corrected values are the picture from the next frame start on (R305). -/
  turn : Bool := false
  /-- The last frame held, its picture CRCs by phase (R157), and whether it was repeated whole. -/
  lastF : Nat := 0
  pcrc : List Nat := []
  wholeRepeat : Bool := false
  /-- The frame that is being emitted, and its picture CRCs; none while nothing is emitted. -/
  emitF : Option Nat := none
  emitCrc : List Nat := []
  /-- OVL_K of the newest RASTER of the picture direction. -/
  ovlK : Nat := 1
  /-- LAMPFAULT entries waiting: (lamp, code). -/
  lampQ : List (Nat × Nat) := []
  lampOverflow : Bool := false
  /-- Last broadcast SEQ executed from A and from B. -/
  bcA : Nat := 0
  bcB : Nat := 0
  /-- Local segment errors since the last STATUS. -/
  segErrs : Nat := 0
  /-- COMMIT_LATE to report in whey. -/
  wheyLate : Bool := false
  /-- The tile is READY (R87), and has emitted its first frame (R88). -/
  ready : Bool := false
  showing : Bool := false
  /-- The Cave load of R79 is complete; the blocks that failed in it; and whether one that a re-mould brings leaves the correction table, whose place stays
  (R315). -/
  caveDone : Bool := false
  caveFailed : List Nat := []
  corrKept : Bool := false
  /-- A direction is down (R396), and consecutive valid markers on it since. -/
  downA : Bool := false
  downB : Bool := false
  upRunA : Nat := 0
  upRunB : Nat := 0
  deriving DecidableEq, Repr, Inhabited

/-! ### Chapters 06, 07: lanes and calibration -/

/-- A lane pair, beside its registers. -/
structure Lane where
  /-- A host eye scan runs (R195). -/
  scanning : Bool := false
  /-- Charged with an error since its last accepted calibration (R214). -/
  charged : Bool := false
  /-- Order of its last accepted calibration, 0 if none: greater is newer. -/
  order : Nat := 0
  /-- The last ramp step, to undo on a code violation (R219): the equaliser word before it. -/
  before : Option Word := none
  /-- Where the ramp leads while that is not the trim target (R215). -/
  aim : Option Word := none
  /-- Raster ticks at its last accepted calibration (R226). -/
  calAt : Option Nat := none
  /-- The PRBS checker in SYNC (R191): the pattern's newest bits, newest first, bits towards the next unit of 1,024, the newest verdicts. -/
  prbs : List Bool := []
  prbsBits : Nat := 0
  prbsMiss : List Bool := []
  /-- The PRBS generator (R190): the newest bits of its pattern, newest first, none while it is off; an error waits for its next word. -/
  gen : List Bool := []
  inject : Bool := false
  deriving DecidableEq, Repr, Inhabited

/-- A calibration step in progress at a receiving end (R209, R215). -/
structure CalStep where
  id : Nat
  /-- The lane q being freed or measured, physical 0 to 4. -/
  lane : Nat
  /-- The spare that takes its traffic, and the logical lane. -/
  spare : Nat := 0
  logical : Nat := 0
  inPlace : Bool := false
  /-- The step only moves traffic off a lane being retired (R216). -/
  retiring : Bool := false
  /-- A DROP to this many lanes is under way (R216). -/
  dropTo : Nat := 0
  /-- Adaptation has settled: the measurements run (R209 step 6). -/
  settled : Bool := false
  /-- Steps 5 to 7 have been repeated once (R210). -/
  repeated : Bool := false
  /-- Equaliser word before an IN_PLACE step. -/
  former : Word := 0
  /-- Temperature at the start of measurement 1. -/
  temp : Int := 0
  /-- The LANECMD awaiting its answer, and its resends (R207). -/
  cmd : List Nat := []
  resends : Nat := 0
  /-- The compare has passed in this frame, in which no swap line boundary was left (R208, R209 step 4). -/
  passed : Option Nat := none
  /-- Measurement 0 of an IN_PLACE step (R215): width and height. -/
  m0 : Option (Nat × Nat) := none
  /-- Targets were computed afresh without this step's lane (R217). -/
  stale : Bool := false
  /-- DROPPED has come: the new map holds from the next SKP set on (R216). -/
  dropAck : Bool := false
  deriving DecidableEq, Repr, Inhabited

/-- Calibration of a group's receive direction, and the transmitter's side of LANECMD. -/
structure Cal where
  step : Option CalStep := none
  /-- STEP_ID used last. -/
  lastId : Nat := 0
  /-- The first frame that starts no earlier than the last step's end (R212). -/
  ended : Option Nat := none
  /-- A requested rotation runs (R212), and its first step has not begun; and the lanes measured in the rotation. -/
  requested : Bool := false
  rotDue : Bool := false
  measured : Nat := 0
  /-- The spare when a requested rotation began: its last lane (R213). -/
  spare0 : Option Nat := none
  /-- Accepted calibrations so far, to order lanes by age. -/
  orders : Nat := 0
  /-- LANECMDs carried out as transmitter: STEP_ID and OP of the last one (R207). -/
  done : Option (Nat × Nat) := none
  /-- The copy that the transmitter sends (R205, R206): the physical lane that carries it, and the logical lane it copies. -/
  copies : Option (Nat × Nat) := none
  /-- A DROP answered (R216): the count and the lane it retires, until the next SKP set sent. -/
  txDrop : Option (Nat × Nat) := none
  /-- Lanes to retire, with the cause, once the retirement under way has ended (R216). -/
  retireNext : List (Nat × Nat) := []
  /-- WALL_ID and address of the group's trim sets as the Hoop die holds them (R220). -/
  ident : Nat × Nat := (0, 0)
  /-- The address of the trim block is still to be held against the tile's own, which had none at LINKED (R220). -/
  idDue : Bool := false
  /-- The Hoop die's temperature for the group, 0.125 degrees. -/
  temp : Int := 0
  /-- Trim sets changed since the last save (R220). -/
  changed : Bool := false
  deriving DecidableEq, Repr, Inhabited

/-! ### Chapter 08: ingest and the frame stores -/

/-- A buffer of a frame store: what was noted of the frame in it. -/
structure BufInfo where
  w : Nat := 0
  h : Nat := 0
  code : Nat := 0
  tag : Nat := 0
  /-- FENCE_VAL of R268: the fence value, SFRAME, or composed FNUM. -/
  fence : Nat := 0
  /-- Rows marked invalid in the row map (R233). -/
  invalid : List Nat := []
  /-- The frame went beyond the store's layout (R238, R273). -/
  trunc : Bool := false
  /-- A reader has latched it since it was published. -/
  latched : Bool := false
  deriving DecidableEq, Repr, Inhabited

/-- A frame store, beside its registers (R248); keyed 16 * vat + 4 * kind + index. -/
structure Store where
  bufs : Tab BufInfo := []
  deriving DecidableEq, Repr, Inhabited

/-- A source frame at an ingest engine (R231 to R233). -/
structure IngFrame where
  fmt : SrcFormat
  sframe : Nat
  /-- The store's place and the target buffer in it; none for a frame that is discarded (R60). -/
  lay : StoreCfg := default
  target : Option Nat
  tag : Nat
  /-- Spans (first column, count) accepted of each row. -/
  cover : Tab (List (Nat × Nat)) := []
  /-- Rows of which a packet was lost to an input overflow. -/
  lost : List Nat := []
  /-- Ports that have begun, and ended, the frame: bit 0 even or only, bit 1 odd. -/
  begun : Nat := 0
  ended : Nat := 0
  /-- No line packet is accepted until the next valid FORMAT packet, by port. -/
  shut : Nat := 0
  deriving DecidableEq, Repr, Inhabited

/-- An ingest engine; keyed 2 * vat + engine. -/
structure Ingest where
  /-- The last FORMAT packet's format while it is not in force. -/
  cand : Option SrcFormat := none
  frame : Option IngFrame := none
  /-- A bonded frame that one port has ended by beginning the next while the other still sends it (R233). -/
  older : Option IngFrame := none
  /-- An ended frame whose last burst is being written (R38). -/
  done : Option IngFrame := none
  /-- Format in force. -/
  inForce : Option SrcFormat := none
  lastSframe : Option Nat := none
  /-- Wall frames spent in STOPPED (R243). -/
  stopped : Nat := 0
  /-- Ports that hold lock: bit 0 even or only, bit 1 odd. -/
  lock : Nat := 0
  deriving DecidableEq, Repr, Inhabited

/-- A renderer store's open buffer (R246); keyed 2 * vat + store. -/
structure Rnd where
  buf : Option Nat := none
  /-- The store's place when the buffer was opened (R60). -/
  lay : StoreCfg := default
  tag : Nat := 0
  w : Nat := 0
  h : Nat := 0
  code : Nat := 0
  /-- FENCE_VAL taken at FENCE while the buffer flushes. -/
  flush : Option Nat := none
  /-- Buffers that an ABORT ended during their flush, which is not over, oldest first. -/
  ended : List Nat := []
  deriving DecidableEq, Repr, Inhabited

/-! ### Chapter 09: layers and write-back -/

/-- What a layer engine latched for the frame (R253 to R260, R267); keyed 16 * vat + engine. -/
structure Layer where
  /-- Store key and buffer held, and the place it is read from (R63). -/
  hold : Option (Nat × Nat) := none
  lay : StoreCfg := default
  /-- Effective crop. -/
  cx : Nat := 0
  cy : Nat := 0
  cw : Nat := 0
  ch : Nat := 0
  hstep : Nat := 0
  vstep : Nat := 0
  hstart : Int := 0
  vstart : Int := 0
  vt : Nat := 6
  cap : Nat := 0
  /-- It covered a pixel in the frame being composed. -/
  covered : Bool := false
  deriving DecidableEq, Repr, Inhabited

/-- Write-back of a target in progress (R273); keyed 16 * vat + target. -/
structure WriteBack where
  store : Nat := 0
  /-- The store's place when the frame began (R60). -/
  lay : StoreCfg := default
  buf : Option Nat := none
  fnum : Nat := 0
  damaged : Bool := false
  /-- The target's last line has been composed: what is noted of the frame at its publication. -/
  last : Option BufInfo := none
  /-- An earlier frame whose last line is composed and whose publication is still to come: its place, buffer and what is noted of it. -/
  done : Option (StoreCfg × Nat × BufInfo) := none
  deriving DecidableEq, Repr, Inhabited

/-! ### Chapter 14: hot standby -/

/-- A heartbeat as a tile holds it (R152, R402). -/
structure Hb where
  state : Nat
  fnum : Nat
  wallId : Nat
  mouldSeq : Nat
  deriving DecidableEq, Repr, Inhabited

/-- A tile's failover state (R395 to R406), beside CH_FO_TILE. -/
structure Fo where
  /-- A decision has been adopted (R401). -/
  adopted : Bool := false
  /-- The referee has not had its first decision since it became READY (R403). -/
  refInit : Bool := true
  /-- RD_FO_CFG as the tile read it at its last frame start (R411). -/
  cfg : Word := 0x00020A40
  /-- Newest heartbeat of each sender. -/
  hbA : Option Hb := none
  hbB : Option Hb := none
  /-- A heartbeat of each sender came in this frame. -/
  gotA : Bool := false
  gotB : Bool := false
  /-- Consecutive bad frames of each sender (R402). -/
  badA : Nat := 0
  badB : Nat := 0
  /-- A TAKEOVER waiting for its frame: sender (1 A, 2 B) and frame. -/
  takeover : Option (Nat × Nat) := none
  /-- Frames with every own row accepted on ACTIVE's direction while healed (R397). -/
  revertRun : Nat := 0
  /-- Frames the referee has waited for a decision since it became READY (R403). -/
  refWait : Nat := 0
  /-- The DECISION of this frame's TILE_HB with ROLE 1 from the referee's address, and of one from another tile (R404, R406). -/
  decRef : Option Nat := none
  decOther : Option Nat := none
  /-- Consecutive frames without, and with, the referee's TILE_HB (R404). -/
  refSilent : Nat := 0
  refBack : Nat := 0
  /-- The deputy acts. -/
  acting : Bool := false
  /-- Consecutive frames in which ACTIVE differed from the DECISION the tile follows (R406). -/
  diffRun : Nat := 0
  /-- The lamps are dark by LOSS_ACTION = 0 (R398). -/
  lossDark : Bool := false
  /-- Frames since the identities disagreed (R55). -/
  mismatchRun : Nat := 0
  /-- Sender: RD_FO_KICK was not written within TIMEOUT_MS (R399). -/
  kickExpired : Bool := false
  deriving DecidableEq, Repr, Inhabited

/-! ### The Cave and the other flash contents (chapters 07, 11, 19), and the tile's pixel tables (chapter 11) -/

/-- A correction bank (R308): coefficients keyed 36 p + 9 s + 3 r + c. An unlisted one is 1.0 on the diagonal and 0 elsewhere
when `unity`, else 0. -/
structure CorrBank where
  unity : Bool := false
  coef : Tab Int := []
  deriving DecidableEq, Repr, Inhabited

/-- The Cave: the flash store of trim and correction sets. -/
structure Cave where
  /-- Trim words as saved, by their register offset; and the WALL_ID and address each group's block carries (R220). -/
  trim : Tab Word := []
  trimId : Tab (Nat × Nat) := []
  /-- The CAL_FMT of those blocks; and the blocks that a firmware on trial has written, in the copy that does not hold them (R519). -/
  trimFmt : Nat := 1
  trimTrial : Option (Tab Word × Tab (Nat × Nat)) := none
  /-- The blocks as the other of the two copies holds them: each as it was before its last write (R220). -/
  trimOld : Tab Word × Tab (Nat × Nat) := ([], [])
  /-- The correction table saved, with its TSET values, the lamp map and the lamp status (R501). -/
  corr : CorrBank := {}
  tset : List Int := []
  lampMap : Tab Nat := []
  status : Tab Nat := []
  /-- The repair list (R386): channel, and the channel address of the row's first burst. -/
  repairs : List (Nat × Nat) := []
  /-- The gamma tables of a K24 tile, which take the TSET values' place (R557): 768 entries. -/
  gamma : Option (List Nat) := none
  deriving DecidableEq, Repr, Inhabited

/-- What the picture of a frame is encoded with (R317, R319, R357): the values committed for it. -/
structure EncSet where
  bright : List Nat := [0x10000, 0x10000, 0x10000, 0x10000]
  n0 : Nat := 256
  n1 : Nat := 256
  n2 : Nat := 256
  n3 : Nat := 256
  pat : Bool := false
  mode : Nat := 0
  period : Nat := 120
  level : List Nat := [0, 0, 0]
  base : Nat := 0
  speed : Int := 0
  width : Nat := 0
  span : Nat := 0
  xorg : Nat := 0
  deriving DecidableEq, Repr, Inhabited

/-- A lamp's test record (R352), as State.recWord lays it out in the DRAM word. -/
structure LampRec where
  /-- Faults in a row, at most 7: the eighth is permanent (R351). -/
  consec : Nat := 0
  openSeen : Bool := false
  shortSeen : Bool := false
  /-- The frame count at which AGE was 0; of a lamp that does not exist, the frames its AGE has run. -/
  mark : Nat := 0
  deriving DecidableEq, Repr, Inhabited

/-- The tile pixel path (chapter 11), beside its registers. -/
structure TilePath where
  bank0 : CorrBank := {}
  bank1 : CorrBank := {}
  /-- The lamp map, by lamp (R321), and each lamp's status code: unlisted UNTESTED. -/
  lampMap : Tab Nat := []
  status : Tab Nat := []
  recs : Tab LampRec := []
  /-- Host writes that wait for the next frame start, oldest first: map entry or not, lamp, value (R310). -/
  queue : List (Bool × Nat × Nat) := []
  /-- Status changes of the diagnosis that wait for it: lamp, code. -/
  diag : List (Nat × Nat) := []
  /-- The correction WRITE or READ in progress: VT_TP_TAB_ADDR as it was written, and a WRITE's coefficients (R332). -/
  cmd : Option (Word × Option (List Int)) := none
  /-- Frames since the start, for AGE. -/
  frames : Nat := 0
  /-- What the picture now emitted, that of the frame before, is encoded with. -/
  prev : EncSet := {}
  /-- The ramp started at this frame start. -/
  rampNew : Bool := false
  /-- The corrected store (R305): key (buffer * 4 + phase) * 65536 + row, value the row's W20 per lamp; and the buffer written in this
  frame. -/
  store : Tab (List Nat) := []
  ix : Nat := 0
  /-- Counts encoded for this frame's windows, of each Press row that has arrived: key (phase * 32 + row) * 16 + port, value by channel
  position 512 line + 16 driver + channel. -/
  counts : Tab (Option (Tab Nat)) := []
  deriving DecidableEq, Repr, Inhabited

/-- The Press (chapter 12), beside its registers. -/
structure Press where
  /-- Ports that emit in the window in progress, bit q. -/
  lit : Nat := 0
  /-- Rows of that window whose test results are discarded (R347, R356), 32 q + row. -/
  discard : List Nat := []
  /-- Counts uploaded for each row of that window: key 32 q + row. -/
  sram : Tab (Tab Nat) := []
  /-- Running register of each port's output CRC (R348), none before its first row. -/
  crc : Tab (Option Nat) := []
  /-- Consecutive frames in which a signal group of a port differed: key 8 q + group (R349). -/
  differ : Tab Nat := []
  /-- The last row probed (R354). -/
  probed : Option Nat := none
  /-- Ticks of the gap in progress already used by probes. -/
  gapUsed : Nat := 0
  /-- ROWA of each port. Between steps its other outputs stand at the dark levels: ROW_EN inactive, GCLK, DCLK, LAT and SDO low (R334, R341). -/
  rowa : Tab Nat := []
  deriving DecidableEq, Repr, Inhabited

/-! ### Chapter 13: DRAM -/

/-- A DRAM channel, beside its registers. -/
structure DramCh where
  /-- Requests waiting, oldest first, each with the class it now has (R370, R371). -/
  reqs : List (DramReq × Nat) := []
  /-- The open row of each bank, keyed 16 rank + 4 bank group + bank. -/
  rows : Tab (Option Nat) := []
  /-- Row hits in a row that passed an older miss. -/
  hits : Nat := 0
  /-- REF commands owed; the frame and number of the last REF point, with the raster's tick count there; and the point after which the last ZQCS was issued. -/
  owed : Nat := 0
  point : Option (Nat × Nat) := none
  pointAt : Nat := 0
  zqcs : Option (Nat × Nat) := none
  /-- Rows of each bank whose refresh is to come before the bank's next ACT (R378). -/
  nrr : Tab (List Nat) := []
  /-- RSTEP is halved in this frame (R377), and consecutive reads at 85 degrees or less. -/
  fast : Bool := false
  cool : Nat := 0
  /-- CEs of each burst and UEs of each row since the start, by channel address / 64 and by the row's first channel address. -/
  ces : Tab Nat := []
  ues : Tab Nat := []
  /-- Repairs due: row, and the first frame in which it may run. -/
  due : List (Nat × Nat) := []
  /-- Bursts replaced by zero that the Rind die is to copy afresh (R384). -/
  recopy : List Nat := []
  deriving DecidableEq, Repr, Inhabited

/-- The scheduled frequency change of a Vat die (R387): accepted for frame S, or refused until a new S. -/
structure DramFc where
  accepted : Option Nat := none
  refused : Bool := false
  /-- A re-mould has changed the rate in frame T: the change runs from T on (R389). -/
  remould : Option Nat := none
  deriving DecidableEq, Repr, Inhabited

/-! ### Chapter 15: the network, the wheel and the PTP clock -/

/-- A frame being sent (R419, R430): queue, attempts made with this one, and the timestamp. -/
structure NetTx where
  queue : Nat
  attempts : Nat
  sec : Nat
  ns : Nat
  deriving DecidableEq, Repr, Inhabited

/-- A network port, beside its registers and packet RAM. -/
structure NetPort where
  tx : Option NetTx := none
  /-- Collisions of the head frame of each queue. -/
  tries : Tab Nat := []
  /-- Slot times of the back-off in progress, and its queue (R424). -/
  backoff : Option (Nat × Nat) := none
  /-- A PAUSE that starts at the end of the frame being sent, and one that was in force in this cycle (R426, R431). -/
  pauseNext : Bool := false
  pausedInCycle : Bool := false
  /-- Cycle starts seen by the head frame of each queue (R431). -/
  waits : Tab Nat := []
  /-- The transmit timestamp FIFO (R436): TS_TAG, seconds, nanoseconds. -/
  txts : List (Nat × Nat × Nat) := []
  /-- The MDIO operation in progress: the command word (R444). -/
  mdio : Option Word := none
  deriving DecidableEq, Repr, Inhabited

/-- The wheel (R428 to R432), beside its registers. -/
structure Wheel where
  /-- A committed control word that waits for its cycle start. -/
  next : Option Word := none
  /-- Gates in force, and the raster ticks at which the cycle and the entry started. -/
  mask : Nat := 0xFF
  entryAt : Nat := 0
  /-- The current frame's cycle has started. -/
  done : Bool := false
  /-- The control word of a cycle that the last frame ended before: it starts with this frame (R428). -/
  late : Option Word := none
  deriving DecidableEq, Repr, Inhabited

/-- An armed trigger (R437): its time, period and mode as taken at the arm, and the end of the pulse being driven. Times in seconds and
nanoseconds. -/
structure Trig where
  sec : Nat := 0
  ns : Nat := 0
  period : Nat := 0
  toggle : Bool := false
  pulse : Option (Nat × Nat) := none
  deriving DecidableEq, Repr, Inhabited

/-- A capture entry (R438). -/
structure Capture where
  sec : Nat
  ns : Nat
  rising : Bool
  valid : Bool
  fnum : Nat
  rpos : Nat
  deriving DecidableEq, Repr, Inhabited

/-- The PTP clock (R433, R434). -/
structure Ptp where
  sec : Nat := 0
  ns : Nat := 0
  frac : Nat := 0
  /-- The increment in force, and one that takes effect on the next tick. -/
  incNs : Nat := 5
  incFrac : Nat := 0
  incNext : Option (Nat × Nat) := none
  /-- A SET and an ADJ due on the next tick. -/
  set : Option (Nat × Nat) := none
  adj : Option Int := none
  trigs : Tab Trig := []
  caps : Tab (List Capture) := []
  deriving DecidableEq, Repr, Inhabited

/-! ### Chapter 16: audio -/

/-- A monitored clock of an audio port (R453 to R455). -/
structure AudMon where
  /-- Running: the rate is adopted and no glitch is pending. -/
  ok : Bool := false
  stopped : Bool := false
  /-- The adopted rate, coded as FS; 0 none. -/
  rate : Nat := 0
  unsupported : Bool := false
  /-- Consecutive agreeing periods: how many, least, greatest, and their sum, in raster ticks. -/
  run : Nat := 0
  least : Nat := 0
  most : Nat := 0
  sum : Nat := 0
  /-- Consecutive periods within 0.1 % of P after a glitch. -/
  good : Nat := 0
  deriving DecidableEq, Repr, Inhabited

/-- A frame of the delay line: both words, the V, U and C bits of channel 0 in bits 0 to 2 and of channel 1 in bits 3 to 5, its arrival tick, whether its
block is NONPCM, whether it is the first after an interruption, and the gain numerator of a fade (R459). -/
structure AudFrame where
  l : Nat
  r : Nat
  flags : Nat
  tick : Nat
  nonpcm : Bool
  first : Bool := false
  fade : Option Nat := none
  deriving DecidableEq, Repr, Inhabited

/-- A timestamp entry (R463). -/
structure AudTs where
  out : Bool
  block : Nat
  sec : Nat
  ns : Nat
  fnum : Nat
  rpos : Nat
  deriving DecidableEq, Repr, Inhabited

/-- An audio port, beside its registers. -/
structure Aud where
  inp : AudMon := {}
  outp : AudMon := {}
  /-- The delay line, oldest first, and the number of the frame after the newest. -/
  line : List AudFrame := []
  got : Nat := 0
  /-- The received frame that the next output frame carries; none before the alignment is set. -/
  next : Option Nat := none
  /-- The ramp's position, 0 to R_F; a realignment waits for it to reach 0. -/
  gain : Nat := 0
  realign : Bool := false
  /-- The two sides' rates have differed since they last agreed (R455). -/
  differ : Bool := false
  /-- A D_F computed and not in force yet. -/
  dfNext : Option Nat := none
  blocksIn : Nat := 0
  blocksOut : Nat := 0
  /-- Frames of the next output block whose data has not been read (R460). -/
  late : List Nat := []
  ts : List AudTs := []
  deriving DecidableEq, Repr, Inhabited

/-! ### Chapter 17: temperatures -/

/-- An on-die sensor (R469, R474, R485); keyed 16 die + index. `temp` is in 0.125 degrees. -/
structure Sensor where
  temp : Option Int := none
  seq : Nat := 0
  devcnt : Nat := 0
  faulty : Bool := false
  /-- Consecutive samples below THR1 - 10 degrees, at most 1,000: 100 ms of fast sampling. -/
  cold : Nat := 0
  deriving DecidableEq, Repr, Inhabited

/-- A module's ceiling (R478): its band, 0 below MOD_HI - HYST, 1 between, 2 from MOD_HI, 3 from MOD_CRIT, and the raster tick from which the dwell
counts. -/
structure CeilBand where
  band : Nat := 1
  since : Nat := 0
  deriving DecidableEq, Repr, Inhabited

/-! ### Chapter 18: check-value units -/

/-- A write in a unit's queue (R491): the register's offset in the block, and its value; a pair is one write under its _LO offset. -/
structure CrcWrite where
  off : Nat
  val : Nat
  deriving DecidableEq, Repr, Inhabited

/-! ### Chapter 19: flash, fuses, firmware update and security -/

/-- A firmware slot (R500, R503): 0 EMPTY, 1 STAGED, 2 TRIAL, 3 CONFIRMED, 4 OLD, 5 BAD. -/
structure Slot where
  state : Nat := 0
  fw : Option FwImage := none
  mould : Option MouldImage := none
  deriving DecidableEq, Repr, Inhabited

/-- Key 0, fused by Holtuc (R505). DESIGN CHOICE (log entry 114): the manual does not print it; the model's is the curve's base point. -/
def holtucKey : List Word :=
  [0xF2D1176B, 0x47422CE1, 0xE5E6BCF8, 0xF240A463, 0x817D0377, 0xA033EB2D, 0x4539A1F4, 0x96C298D8,
   0xE242E34F, 0x9B7F1AFE, 0x4AEBE78E, 0x169E0F7C, 0x5733CE2B, 0xCE5E316B, 0x6840B6CB, 0xF551BF37]

/-- What the flash beside the Cave, and the fuses, hold. -/
structure Nv where
  slotA : Slot := {}
  slotB : Slot := {}
  /-- The slot directory: slot to boot (0 A, 1 B), TRIES, the confirmation window in seconds, LAST_ROLE (R503). -/
  boot : Nat := 0
  tries : Nat := 0
  window : Nat := 900
  lastRole : Nat := 0
  /-- A trial slot marked BAD at the end of its window, until the next start reports the fall-back (R516). -/
  fell : Option Nat := none
  /-- The staging area. -/
  staging : Option MouldImage := none
  /-- The distribution area of a sender. -/
  pkg : Option Package := none
  /-- The copies of the settings store, newest first: SET_FMT and the records in stored order (R518). -/
  sets : List (Nat × List (Nat × Word)) := []
  /-- Fuses: key words of the slots enrolled, the ENROLLED and REVOKED bitmaps, DEBUG_LOCKED, the rollback counter (R505, R506). -/
  keys : Tab (List Word) := [(0, holtucKey)]
  enrolled : Nat := 1
  revoked : Nat := 0
  debugLocked : Bool := false
  rollback : Nat := 0
  /-- Flash fitted, in Mbit (R499). -/
  flash : Nat := 1024
  deriving DecidableEq, Repr, Inhabited

/-- A hop being sent (R510, R511): receiver, KIND, length, ID, MOULD_SEQ, LAST and DIR, the next byte to send, and what is out: 0 BEGIN, 1 a DATA, 2 END. -/
structure Hop where
  dst : Nat
  kind : Nat
  total : Nat
  id : Nat
  mseq : Nat
  last : Nat
  dirB : Bool
  off : Nat := 0
  phase : Nat := 0
  deriving DecidableEq, Repr, Inhabited

/-- An INSTALL under way: what is being written. -/
inductive Install where
  | fw (f : FwImage) (m : MouldImage)
  | tile (p : Package)
  | remould (m : MouldImage)
  deriving DecidableEq, Repr, Inhabited

/-- An FW_ACTIVATE as a tile records it (R515). -/
structure FwAct where
  op : Nat
  s : Nat
  version : Nat
  win : Nat
  tries : Nat
  deriving DecidableEq, Repr, Inhabited

/-- A transfer at its receiver (R511). -/
structure Rx where
  /-- FW_STATE's STATE and ERR: 0 idle, 1 receiving, 2 verifying, 3 forwarding, 4 staged, 5 failed. -/
  state : Nat := 0
  err : Nat := 0
  kind : Nat := 0
  total : Nat := 0
  id : Nat := 0
  mseq : Nat := 0
  last : Nat := 0
  dirB : Bool := false
  /-- The transfer buffer in Rind RAM. -/
  buf : List Nat := []
  /-- Verified contents that await their flash write. -/
  fw : Option FwImage := none
  mould : Option MouldImage := none
  /-- What is staged: ID and MOULD_SEQ. -/
  stagedId : Nat := 0
  stagedSeq : Nat := 0
  deriving DecidableEq, Repr, Inhabited

/-- Firmware, distribution, settings and security beside their registers. -/
structure Upd where
  /-- The booted slot, none when booted from the card, and the firmware that runs. -/
  slot : Option Nat := none
  run : Option FwImage := none
  install : Option Install := none
  /-- An armed activation: revert or not, S, GO sent (R514, R515); and the partner's report of the same arm. -/
  arm : Option (Bool × Nat × Bool) := none
  partnerOk : Bool := false
  /-- Tile: the FW_ACTIVATE recorded. -/
  act : Option FwAct := none
  rx : Rx := {}
  /-- Hops being sent, by port. -/
  hops : Tab (Option Hop) := []
  /-- Tile: an FW_STATE is due, and frames since the last. -/
  due : Bool := false
  since : Nat := 0
  /-- Sender: KIND, ID, MOULD_SEQ, FIRST, LAST and DIR of a port's distribution. -/
  dist : Tab (Option Hop) := []
  /-- Sender: the last FW_STATE of each tile, keyed 64 port + address. -/
  tiles : Tab (List Nat) := []
  /-- The raster tick at which the running second of the trial window began; none before LOADED (R516). -/
  winAt : Option Nat := none
  /-- The settings command that runs: OP, offset, value; and the security command: OP, slot, signer of a token, the buffer. -/
  setCmd : Option (Nat × Nat × Word) := none
  secCmd : Option (Nat × Nat × Nat × List Word) := none
  deriving DecidableEq, Repr, Inhabited

/-! ### Chapter 21: K24 mode -/

/-- The legacy chain and pixel path, beside the legacy registers. -/
structure K24 where
  /-- Lanes that hold lock (R543): bit 0 lane 0, bit 1 lane 5. -/
  lock : Nat := 0
  /-- Entries of the gamma tables that differ from the reset curve (R551): key 256 * colour + index. -/
  gam : Tab Nat := []
  /-- A valid VS has come. -/
  vs : Bool := false
  /-- The last 64 VS periods, newest first, in ps; consecutive ones within 2 ns of their mean; VS missing in a row (R548). -/
  periods : List Nat := []
  good : Nat := 0
  missed : Nat := 0
  /-- The frame start that is due comes from a VS. -/
  turn : Bool := false
  /-- Frames started since the last VS, and whether the hold has expired (R549). -/
  held : Nat := 0
  expired : Bool := false
  /-- BLANK_ALL of the frame being received and of the frame being emitted (R549). -/
  blank : Bool := false
  blankPrev : Bool := false
  /-- APPLY waits for a VS or for a SAVE's end (R557), and its 100 ms have passed. -/
  apply : Bool := false
  applyNow : Bool := false
  deriving DecidableEq, Repr, Inhabited

/-! ### What leaves the part -/

/-- Something a step sends or drives (the model's own record of it). -/
inductive Out where
  /-- A raster marker on a port's logical lane 0 (R114). -/
  | marker (p : Nat)
  /-- A delay marker (R141). -/
  | dmk (p : Nat)
  /-- A SKP set (R139). -/
  | skp (p : Nat)
  /-- An urgent set: three copies on a port's transmitter (R142). -/
  | urgent (p code arg : Nat)
  /-- A control packet (R150). -/
  | ctrl (p : Nat) (pkt : Pkt)
  /-- A whey packet (R156). -/
  | whey (p : Nat) (pkt : Pkt)
  /-- A line segment (R144); `edb` when it ends in EDB. -/
  | segment (p : Nat) (seg : Segment) (edb : Bool)
  /-- A segment or packet passed on as it came, symbol by symbol from its start to its end symbol (R148, R151). -/
  | relay (p : Nat) (syms : List Nat)
  /-- The first 40-bit word of a lane's PRBS generator, oldest bit first as it leaves the transmitter; the pattern goes on (R190). -/
  | prbs (lane : Nat) (word : List Bool)
  /-- An inverted bit in the next generator word of a lane (R191). -/
  | inject (lane : Nat)
  /-- A training set that a lane of a port repeats from now on, symbol by symbol (R76): K codes are 256 and above; and whether its bits leave the
  serialiser inverted (R182). -/
  | training (p lane : Nat) (set : List Nat) (inverted : Bool)
  /-- K28.3 on the active lanes of a port, every 32 symbols (R77, DESKEW). -/
  | deskew (p : Nat)
  /-- The measured delay of a segment, told to its other end (R80). -/
  | segDelay (p : Nat) (d : Int)
  /-- An MSI-X message (R572). -/
  | msix (v addr data : Nat)
  /-- Words shifted out of JTAG's data register. -/
  | tdo (bits : Nat)
  /-- A command of a Press port (R336, R337): the 16-bit words shifted on its data lines, line by line and first out first, each with its most significant
  bit first, and the DCLK edges for which LAT is high, the last of which shifts the last bit. Without words there are `lat` edges alone. -/
  | pressCmd (q lat : Nat) (lines : List (List Nat))
  /-- A row run of a Press port: ROWA, the level of ROW_EN while the run lasts, the GCLK pulses as (number, period, high time) in steps of 78.125 ps, and
  whether the slot's end cuts them before the terminal edge (R341, R344, R345). -/
  | pressRun (q row : Nat) (level : Bool) (pulses : List (Nat × Nat × Nat)) (cut : Bool)
  /-- A frame on a network port, from the destination address to the FCS (R422). -/
  | net (n : Nat) (bytes : List Nat)
  /-- A read cycle of a module sensor on a Press port's I2C bus: the address, the pointer byte, and whether at 400 kHz (R472). -/
  | i2c (q addr ptr : Nat) (fast : Bool)
  /-- A clause 22 operation on MDC and MDIO (R444). -/
  | mdio (op phy reg data : Nat)
  /-- A block on AUDn_TX (R452, R457): its subframes, or in word-select format its words. -/
  | audio (n : Nat) (words : List Nat)
  /-- A packet of the legacy chain (R544, R545) on lane 0 or 5: `start` is 0 VS, 1 LS, 2 CMD, 3 RSP; its bytes up to END. -/
  | legacy (lane start : Nat) (bytes : List Nat)
  deriving DecidableEq, Repr

/-! ### The whole -/

/-- The state of the block. -/
structure State where
  /-- Registers in force, by BAR0 offset; an unlisted offset holds its reset word (R9). -/
  regs : Tab Word
  /-- Pending values of registers with RWS fields (R10). -/
  pend : Tab (Option Word)
  /-- Values taken at a cut and not in force yet (R121, R122). -/
  taken : Tab (Option Word)
  acc : HostAcc
  sys : Sys
  links : Links
  pcie : Pcie
  jtag : Jtag
  log : Elog
  mould : Mould
  ports : Tab Port
  enum : Enum
  raster : Raster
  wtg : Wtg
  commit : Commit
  tileRas : TileRas
  tileRx : TileRx
  fo : Fo
  stores : Tab Store
  ings : Tab Ingest
  rnds : Tab Rnd
  layers : Tab Layer
  wbs : Tab WriteBack
  /-- Composed words of each target's lines in the frame being composed: key (16 * vat + target) * 65536 + row (R264). -/
  comp : Tab (List Nat)
  /-- DRAM contents: the byte at 2^40 * vat + its byte address on the die's pair of channels. -/
  dram : List Host.Cell
  /-- Columns of ten-bit codes that the step puts on a link port's active lanes, in logical order, and after them on the lane that carries the copy (R136,
  R137, R159, R205), by port; as they leave the serialisers (R182). -/
  line : Tab (List (List Nat))
  /-- Is the running disparity of a transmit lane positive (R137)? By lane. -/
  disp : Tab Bool
  lanes : Tab Lane
  cals : Tab Cal
  cave : Cave
  tp : TilePath
  press : Press
  drams : Tab DramCh
  dramFc : Tab DramFc
  sensors : Tab Sensor
  ceils : Tab CeilBand
  ptp : Ptp
  nets : Tab NetPort
  wheel : Wheel
  auds : Tab Aud
  /-- The queue of each check-value unit, oldest first; writes beyond sixteen wait at the Rind die for room (R491). -/
  crcs : Tab (List CrcWrite)
  nv : Nv
  upd : Upd
  k24 : K24
  /-- Packet RAM (R418): the byte at 2^20 * port + buffer offset. -/
  pram : List Host.Cell
  /-- What the last step sent, oldest first: the model's own field. -/
  out : List Out
  /-- How many free values have been drawn: the model's own field. -/
  freeN : Nat
  /-- The commands that wait, first in, first out: the model's own field. -/
  pending : List Instr
  deriving DecidableEq, Repr

/-- The machine right after reset. -/
def State.reset : State where
  regs := []
  pend := []
  taken := []
  acc := {}
  sys := {}
  links := {}
  pcie := {}
  jtag := {}
  log := {}
  mould := {}
  ports := []
  enum := {}
  raster := {}
  wtg := {}
  commit := {}
  tileRas := {}
  tileRx := {}
  fo := {}
  stores := []
  ings := []
  rnds := []
  layers := []
  wbs := []
  comp := []
  dram := []
  line := []
  disp := []
  lanes := []
  cals := []
  cave := {}
  tp := {}
  press := {}
  drams := []
  dramFc := []
  sensors := []
  ceils := []
  ptp := {}
  nets := []
  wheel := {}
  auds := []
  crcs := []
  nv := {}
  upd := {}
  k24 := {}
  pram := []
  out := []
  freeN := 0
  pending := []

/-- Why a step stops with a fault. -/
inductive Fault where
  /-- Raised by a host access that R5 or R9 forbids (another width or alignment, a non-zero write to reserved bits) or another use
  that R542 lists: the manual calls the results unpredictable. Safe: the model stops where the part may do anything. -/
  | unpredictable (rule : Nat)
  deriving DecidableEq, Repr

/-- Why a step refuses. -/
inductive Refusal where
  /-- Raised by exec for a command that has no meaning in the model yet. Safe. -/
  | notModelled (mnemonic : String)
  deriving DecidableEq, Repr

end Sys2Proof.Machine
end

