-- ==== Sys2Proof/Machine/Check.lean ====
section
/-!
DEFINITION. Byte orders and the check values of the manual: CRC-32 of R48, CRC-8 of R76, little-endian fields.
-/

namespace Sys2Proof.Machine

/-- `n` bytes of `v`, least significant first. -/
def leBytes : Nat → Nat → List Nat
  | 0, _ => []
  | n + 1, v => v % 256 :: leBytes n (v / 256)

/-- The number that bytes spell, least significant first. -/
def ofLe : List Nat → Nat
  | [] => 0
  | b :: t => b % 256 + 256 * ofLe t

/-- A signed number as the `n`-bit pattern that holds it. -/
def ofInt (n : Nat) (v : Int) : Nat := (v % (2 ^ n : Nat)).toNat

/-- The signed number an `n`-bit pattern holds. -/
def toInt (n v : Nat) : Int :=
  let v := v % 2 ^ n
  if v < 2 ^ (n - 1) then (v : Int) else (v : Int) - (2 ^ n : Nat)

/-- Saturates a signed number to `n` bits. -/
def satInt (n : Nat) (v : Int) : Int :=
  if v < -((2 ^ (n - 1) : Nat) : Int) then -((2 ^ (n - 1) : Nat) : Int)
  else if v ≥ ((2 ^ (n - 1) : Nat) : Int) then ((2 ^ (n - 1) : Nat) : Int) - 1 else v

/-- One bit step of a reflected CRC-32. -/
def crc32Bit (r : Nat) : Nat := if r % 2 = 1 then (r / 2) ^^^ 0xEDB88320 else r / 2

/-- `n` bit steps. -/
def crc32Bits : Nat → Nat → Nat
  | 0, r => r
  | n + 1, r => crc32Bits n (crc32Bit r)

/-- The register after more bytes. -/
def crc32Run : Nat → List Nat → Nat
  | r, [] => r
  | r, b :: t => crc32Run (crc32Bits 8 (r ^^^ (b % 256))) t

/-- CRC-32 of R48: polynomial 0x04C1_1DB7 reflected, initial value and final XOR all ones. -/
def crc32 (bytes : List Nat) : Nat := crc32Run 0xFFFFFFFF bytes ^^^ 0xFFFFFFFF

/-- `n` bit steps of CRC-8 with polynomial 0x07, not reflected. -/
def crc8Bits : Nat → Nat → Nat
  | 0, r => r
  | n + 1, r => crc8Bits n (if r ≥ 128 then (2 * r % 256) ^^^ 0x07 else 2 * r)

/-- CRC-8 of R76. -/
def crc8 (bytes : List Nat) : Nat := bytes.foldl (fun r b => crc8Bits 8 (r ^^^ (b % 256))) 0

/-- The signed 32-bit difference of two frame numbers (R98): positive when `t` is ahead of `f`. -/
def ahead (t f : Nat) : Int := toInt 32 (t % 2 ^ 32 + 2 ^ 32 - f % 2 ^ 32)

/-- Set bits of `m` below `n`, lowest first. -/
def bitsOf (n m : Nat) : List Nat := (List.range n).filter fun i => m.testBit i

/-- How many of the low `n` bits of `m` are set. -/
def popCount (n m : Nat) : Nat := (bitsOf n m).length

/-- The number with bit `i` set, and with it clear. -/
def setBit (m i : Nat) : Nat := m ||| 2 ^ i
def clearBit (m i : Nat) : Nat := if m.testBit i then m - 2 ^ i else m

/-- The bitmap of a list of bit numbers. -/
def maskOfBits (l : List Nat) : Nat := l.foldl setBit 0

/-- Quotients of positive divisors, rounded up and rounded half up. -/
def ceilDiv (a b : Nat) : Nat := (a + b - 1) / b
def roundDiv (a b : Nat) : Nat := (2 * a + b) / (2 * b)

end Sys2Proof.Machine
end

