-- ==== Sys2Proof/Machine/Wire.lean ====
section
/-!
DEFINITION. The Olirlis link on the wire (chapter 05, R136 to R138, R140 to R146, R150): the 8b/10b code, columns, the symbols of segments,
packets, markers and sets, and how a receiver reads them.
-/

namespace Sys2Proof.Machine

open Sys2Proof

/-! ### Symbols (R137, R138) -/

/-- A symbol on a lane: a data byte is itself, the K code of byte b is 256 + b, a code violation 512. -/
def kSym (b : Nat) : Nat := 256 + b
def symViolation : Nat := 512

def symCom : Nat := kSym 0xBC
def symSkp : Nat := kSym 0x1C
def symAln : Nat := kSym 0x7C
def symDmk : Nat := kSym 0x3C
def symRmk : Nat := kSym 0xDC
def symUrg : Nat := kSym 0x5C
def symSos : Nat := kSym 0xFB
def symScp : Nat := kSym 0x9C
def symSwp : Nat := kSym 0xF7
def symEop : Nat := kSym 0xFD
def symEdb : Nat := kSym 0xFE
def symIdl : Nat := 0xB5

/-- The control symbols that the link uses. -/
def linkSyms : List Nat := [symCom, symSkp, symAln, symDmk, symRmk, symUrg, symSos, symScp, symSwp, symEop, symEdb]

/-! ### The 8b/10b code (R137). The tables are those of IEEE 802.3-2022, clause 36, which the manual names and does not print: PRESUMED, log entry
100. A code group's bit a is its most significant bit; `rd` says that the running disparity is positive. -/

/-- The six bits of D.x and the four of y at negative running disparity. -/
def table6 : List Nat :=
  [0x27, 0x1D, 0x2D, 0x31, 0x35, 0x29, 0x19, 0x38, 0x39, 0x25, 0x15, 0x34, 0x0D, 0x2C, 0x1C, 0x17] ++
  [0x1B, 0x23, 0x13, 0x32, 0x0B, 0x2A, 0x1A, 0x3A, 0x33, 0x26, 0x16, 0x36, 0x0E, 0x2E, 0x1E, 0x2B]
def table4 : List Nat := [0xB, 0x9, 0x5, 0xC, 0xD, 0xA, 0x6, 0xE]
/-- The four bits of K28.y at negative running disparity. -/
def tableK28 : List Nat := [0x4, 0x9, 0x5, 0x3, 0x2, 0xA, 0x6, 0x8]

/-- Running disparity after a sub-block of `w` bits. -/
def rdAfterSub (w c : Nat) (rd : Bool) : Bool :=
  let n := popCount w c
  if w < 2 * n then true
  else if 2 * n < w then false
  else if c = 2 ^ (w / 2) - 1 then true
  else if c = 2 ^ w - 2 ^ (w / 2) then false
  else rd

/-- The sub-blocks of a data symbol. -/
def enc6 (rd : Bool) (x : Nat) : Nat :=
  let c := table6.getD x 0
  if rd && (popCount 6 c != 3 || x == 7) then 63 - c else c
def enc4 (rd : Bool) (x y : Nat) : Nat :=
  let c := if y == 7 && (if rd then [11, 13, 14].contains x else [17, 18, 20].contains x) then 0x7 else table4.getD y 0
  if rd && (popCount 4 c != 2 || y == 3) then 15 - c else c

/-- A symbol's ten bits. -/
def encSym (rd : Bool) (b : Nat) : Nat :=
  if b < 256 then
    let c := enc6 rd (b % 32)
    c * 16 + enc4 (rdAfterSub 6 c rd) (b % 32) (b / 32)
  else
    let x := b % 32
    let y := b % 256 / 32
    let c := if x = 28 then 0xF * 16 + tableK28.getD y 0 else enc6 false x * 16 + 0x8
    if rd then 1023 - c else c

/-- Running disparity after a code group. -/
def rdAfter (rd : Bool) (c : Nat) : Bool := rdAfterSub 4 (c % 16) (rdAfterSub 6 (c / 16) rd)

/-- The symbol of ten bits on a link with control symbols `ks`: a violation where the code has none at this disparity, or one the link does not use. -/
def decWith (ks : List Nat) (rd : Bool) (c : Nat) : Nat :=
  let data := match (List.range 32).find? fun x => enc6 rd x == c / 16 with
    | some x => (List.range 8).find? (fun y => enc4 (rdAfterSub 6 (c / 16) rd) x y == c % 16) |>.map fun y => x + 32 * y
    | none => none
  match data with
  | some b => b
  | none => (ks.find? fun k => encSym rd k == c).getD symViolation
def decSym (rd : Bool) (c : Nat) : Nat := decWith linkSyms rd c

/-! ### What a segment and a packet are on the wire (R144 to R146, R150) -/

/-- Payload bytes of pixel words: pairs of words in 9 bytes, a last odd word in 5 (R145). -/
def packWords : List Nat → List Nat
  | a :: b :: t => leBytes 9 (a % 2 ^ 36 + b % 2 ^ 36 * 2 ^ 36) ++ packWords t
  | [a] => leBytes 5 (a % 2 ^ 36)
  | [] => []

/-- `n` pixel words of payload bytes. -/
def unpackWords : Nat → List Nat → List Nat
  | 0, _ => []
  | 1, l => [ofLe (l.take 5) % 2 ^ 36]
  | n + 2, l => ofLe (l.take 9) % 2 ^ 36 :: ofLe (l.take 9) / 2 ^ 36 % 2 ^ 36 :: unpackWords n (l.drop 9)

/-- Header and payload of a segment. -/
def segmentBytes (g : Segment) : List Nat :=
  [g.tile % 256, g.phase % 4 + 4 * (g.code % 4)] ++ leBytes 2 g.row ++ leBytes 2 g.col ++ leBytes 2 g.words.length ++ leBytes 4 g.fnum ++
    [0, 0, 0, 0] ++ packWords g.words

/-- Header and payload of a packet. -/
def pktBytes (k : Pkt) : List Nat :=
  [k.ty % 256, k.dest % 256, k.src % 256, k.seq % 256] ++ leBytes 2 k.data.length ++ [k.flags % 256, 0] ++ k.data.map (· % 256)

/-- The check value of a packet (R146). -/
def pktCheck (k : Pkt) : Nat := crc32 (pktBytes k)

/-- How a good packet ends. -/
def goodEnd (k : Pkt) : PktEnd := ⟨k.src, k.seq, k.flags, pktCheck k, false⟩

/-- The bytes of a source's line packet up to its check value (R232). -/
def lineBytes (row col count flags sf : Nat) (words : List Nat) : List Nat :=
  leBytes 2 row ++ leBytes 2 col ++ leBytes 2 count ++ [flags % 256, sf % 256] ++ packWords words

/-- The payload of a FORMAT packet (R231). -/
def formatBytes (sframe : Nat) (f : SrcFormat) : List Nat :=
  leBytes 4 sframe ++ leBytes 2 f.w ++ leBytes 2 f.h ++ leBytes 3 f.num ++ leBytes 2 f.den ++ [f.code, f.depth, f.range, f.bond] ++
    List.replicate 7 0
def formatPkt (sframe : Nat) (f : SrcFormat) : Pkt := ⟨0x40, 0, 0, 0, 0, formatBytes sframe f⟩

/-- A received packet: what its command names, and of the header the rest as it came. -/
def rxHead (w : PktEnd) (k : Pkt) : Pkt := { k with src := w.src, seq := w.seq, flags := w.flags }
def rxSeq (w : PktEnd) (k : Pkt) : Pkt := { k with seq := w.seq, flags := w.flags }
def rxFlags (w : PktEnd) (k : Pkt) : Pkt := { k with flags := w.flags }

/-- Start symbol, bytes, check value and end symbol. -/
def framed (start : Nat) (bytes : List Nat) (check : Nat) (edb : Bool) : List Nat :=
  start :: bytes ++ leBytes 4 check ++ [if edb then symEdb else symEop]

def segmentSyms (g : Segment) (edb : Bool) : List Nat := framed symSos (segmentBytes g) (crc32 (segmentBytes g)) edb

/-- Is a packet of a whey type (R157)? -/
def isWhey (k : Pkt) : Bool := 0x80 ≤ k.ty
def pktSyms (k : Pkt) (check : Nat) (edb : Bool) : List Nat := framed (if isWhey k then symSwp else symScp) (pktBytes k) check edb

/-- An urgent set's four symbols (R142). -/
def urgentSyms (code arg : Nat) : List Nat := [symUrg, code, arg, code ^^^ arg ^^^ 0x5A]

/-- What goes out on a link port: the port, its place in R159's precedence, whether each symbol takes a whole column, and the symbols. RASTER comes
first among class 2 (R152). -/
def Out.onLink : Out → Option (Nat × Nat × Bool × List Nat)
  | .marker p => some (p, 0, true, [symRmk])
  | .dmk p => some (p, 0, true, [symDmk])
  | .urgent p c a => some (p, 1, true, urgentSyms c a ++ urgentSyms c a ++ urgentSyms c a)
  | .skp p => some (p, 2, true, [symCom, symSkp, symAln])
  | .ctrl p k => some (p, if k.ty = 2 then 3 else if k.flags.testBit 2 then 4 else 6, false, pktSyms k (pktCheck k) false)
  | .whey p k => some (p, 7, false, pktSyms k (pktCheck k) false)
  | .segment p g edb => some (p, 5, false, segmentSyms g edb)
  | .relay p l => some (p, if l.headD 0 = symSos then 5 else if l.headD 0 = symSwp then 7 else if (l.getD 7 0).testBit 2 then 4 else 6, false, l)
  | _ => none

/-- A column filled up with IDL (R136). -/
def padColumn (m : Nat) (c : List Nat) : List Nat := c ++ List.replicate (m - c.length) symIdl

/-- Symbols on columns of `m` lanes from lane 0 on (R136); the first number bounds the columns. -/
def columnsOf (m : Nat) : Nat → List Nat → List (List Nat)
  | 0, _ => []
  | _, [] => []
  | n + 1, a :: l => padColumn m ((a :: l).take m) :: columnsOf m n ((a :: l).drop m)

/-- The columns of one thing sent. -/
def outColumns (m : Nat) (byColumn : Bool) (l : List Nat) : List (List Nat) :=
  if m = 0 then [] else if byColumn then l.map fun k => List.replicate m k else columnsOf m l.length l

/-- Columns from a segment's SOS to the first at which the next segment of the sender may start, for `len` symbols on `m` lanes (R147). -/
def segColumns (m len : Nat) : Nat := ceilDiv (len + ceilDiv len 17) (max m 1)

/-- A transmitter's choice at each packet boundary (R159), among urgent packets, segments with their spacing, and packets of classes 4 and 5, as columns:
`gap` columns must pass before the next SOS, and `after` says that a segment has just ended, whose first packet boundary goes to the highest waiting class
of the packets. With nothing else to send, IDL fills the gap. The first number bounds the choices. -/
def arbitrate (m : Nat) : Nat → Nat → Bool → List (List (List Nat)) → List (List (List Nat) × Nat) → List (List (List Nat)) → List (List Nat)
  | 0, _, _, _, _, _ => []
  | n + 1, gap, _, x :: c2, segs, low => x ++ arbitrate m n (gap - x.length) false c2 segs low
  | n + 1, gap, true, [], segs, x :: low => x ++ arbitrate m n (gap - x.length) false [] segs low
  | n + 1, 0, _, [], g :: segs, low => g.1 ++ arbitrate m n (g.2 - g.1.length) true [] segs low
  | n + 1, gap, _, [], g :: segs, x :: low => x ++ arbitrate m n (gap - x.length) false [] (g :: segs) low
  | n + 1, gap, _, [], g :: segs, [] => List.replicate gap (List.replicate m symIdl) ++ arbitrate m n 0 false [] (g :: segs) []
  | _, _, _, [], [], low => low.flatten

/-- What the step sends on a port, as columns of symbols: markers, urgent sets and SKP sets first, and the packets and segments in the order of R147 and
R159. A segment that a tile passes on keeps no spacing of its own. The line is taken to be free when the step begins (log entry 119). -/
def portColumns (p m : Nat) (out : List Out) : List (List Nat) :=
  let mine := (out.filterMap Out.onLink).filter (·.1 == p)
  let ofClass := fun c => (mine.filter (·.2.1 == c)).map fun e => outColumns m e.2.2.1 e.2.2.2
  let segs := out.filterMap fun o => match o with
    | .segment q g edb => if q = p then some (segmentSyms g edb, true) else none
    | .relay q l => if q = p && l.headD 0 == symSos then some (l, false) else none
    | _ => none
  let segs := segs.map fun e => (outColumns m false e.1, if e.2 then segColumns m e.1.length else 0)
  (ofClass 0 ++ ofClass 1 ++ ofClass 2).flatten ++ arbitrate m (3 * mine.length + 1) 0 false (ofClass 3 ++ ofClass 4) segs (ofClass 6 ++ ofClass 7)

/-- Columns of ten-bit codes, from each lane's running disparity on, and the disparities after them. -/
def encodeColumns : List Bool → List (List Nat) → List (List Nat) × List Bool
  | rd, [] => ([], rd)
  | rd, c :: t =>
    let codes := (c.zip rd).map fun e => encSym e.2 e.1
    let r := encodeColumns ((codes.zip rd).map fun e => rdAfter e.2 e.1) t
    (codes :: r.1, r.2)

/-! ### Reading columns (R138, R140, R148) -/

/-- The symbols of received columns, from each lane's running disparity on. -/
def decodeColumns : List Bool → List (List Nat) → List (List Nat)
  | _, [] => []
  | rd, c :: t => ((c.zip rd).map fun e => decSym e.2 e.1) :: decodeColumns ((c.zip rd).map fun e => rdAfter e.2 e.1) t

/-- Is a column a control symbol on every lane that shows no violation, and on one at least? -/
def columnIs (k : Nat) (c : List Nat) : Bool := c.contains k && c.all fun x => x == k || x == symViolation

/-- Does no lane of a column bring a control symbol? -/
def columnData (c : List Nat) : Bool := c.all fun x => x < 256 || x == symViolation

/-- Columns of the urgent set at the head, 0 for none: URG and three columns of data (R142). -/
def urgentSetLen (l : List (List Nat)) : Nat :=
  if columnIs symUrg (l.headD []) && 4 ≤ l.length && ((l.drop 1).take 3).all columnData then 4 else 0

/-- Columns of the SKP set at the head, 0 for none: COM, the SKP column as the elastic buffer leaves it, none to three times, and ALN (R139). -/
def skpSetLen (l : List (List Nat)) : Nat :=
  let k := ((l.drop 1).takeWhile (columnIs symSkp)).length
  if columnIs symCom (l.headD []) && k ≤ 3 && columnIs symAln ((l.drop (k + 1)).headD []) then k + 2 else 0

/-- Drops the sets whose length at the head of a list `len` tells; the first number counts the columns of one that are still to go. -/
def stripSets (len : List (List Nat) → Nat) : Nat → List (List Nat) → List (List Nat)
  | _, [] => []
  | n + 1, _ :: t => stripSets len n t
  | 0, c :: t => match len (c :: t) with | 0 => c :: stripSets len 0 t | n + 1 => stripSets len n t

/-- The columns that remain when markers, then urgent sets, then SKP sets are stripped (R140); a control symbol that belongs to none of them stays, and is
a violation where it stands (R137). -/
def stripColumns (l : List (List Nat)) : List (List Nat) :=
  stripSets skpSetLen 0 (stripSets urgentSetLen 0 (l.filter fun c => !(columnIs symRmk c || columnIs symDmk c)))

/-- A received segment: what its header and payload say, its symbols from SOS to its end symbol, its tests, and the logical lanes that showed a code
violation within its columns. -/
structure SegmentIn where
  seg : Segment
  syms : List Nat
  crcOk : Bool
  lenOk : Bool
  /-- It did not end in EDB. -/
  eop : Bool
  viol : List Nat
  deriving DecidableEq, Repr

/-- Reads a segment from received columns of `m` lanes; none where they do not begin with SOS. A control symbol inside it, and a data symbol other than IDL
after its end, are violations (R137, R138). Where no end symbol can be read, the segment ends where its COUNT says it would. -/
def readSegment (m : Nat) (rd : List Bool) (cols : List (List Nat)) : Option SegmentIn :=
  let all := decodeColumns (rd.take m) (cols.map (·.take m))
  let l := (stripColumns all).flatten
  let toEnd := l.tail.takeWhile fun x => x != symEop && x != symEdb
  let count := fun (b : List Nat) => ofLe ((b.drop 6).take 2)
  let body := if toEnd.length + 1 < l.length then toEnd else toEnd.take (20 + (9 * count toEnd + 1) / 2)
  let e := (l.drop (body.length + 1)).headD symViolation
  let pad := l.drop (body.length + 2)
  if l.headD 0 ≠ symSos then none
  else
    let bad := ((body.zipIdx 1).filter (fun x => 256 ≤ x.1) ++ (pad.zipIdx (body.length + 2)).filter (fun x => x.1 != symIdl)).map (·.2 % m)
    let n := count body
    let pay := (body.drop 16).take (body.length - 20)
    some {
      seg := ⟨body.getD 0 0, body.getD 1 0 % 4, body.getD 1 0 / 4 % 4, ofLe ((body.drop 2).take 2), ofLe ((body.drop 4).take 2),
        ofLe ((body.drop 8).take 4), unpackWords n pay⟩
      syms := l.headD 0 :: body ++ [e]
      crcOk := 20 ≤ body.length && crc32 (body.take (body.length - 4)) == ofLe (body.drop (body.length - 4))
      lenOk := body.length == 20 + (9 * n + 1) / 2 && (e == symEop || e == symEdb)
      eop := e != symEdb
      viol := (List.range m).filter fun i => bad.contains i || all.any fun c => c.getD i 0 == symViolation }

/-- How many SKP sets stand among columns. -/
def skpCount : Nat → List (List Nat) → Nat
  | _, [] => 0
  | n + 1, _ :: t => skpCount n t
  | 0, c :: t => match skpSetLen (c :: t) with | 0 => skpCount 0 t | n + 1 => skpCount n t + 1

/-- SKP sets among received columns. -/
def skpSets (m : Nat) (rd : List Bool) (cols : List (List Nat)) : Nat :=
  let all := decodeColumns (rd.take m) (cols.map (·.take m))
  skpCount 0 (stripSets urgentSetLen 0 (all.filter fun c => !(columnIs symRmk c || columnIs symDmk c)))

/-- The urgent set that copies on `m` lanes give (R142): one that is valid on a lane, or on two of four. A lane's copy is valid without a violation and
with its CHK right. -/
def urgentVote (m : Nat) (lanes : List (List Nat)) : Option (Nat × Nat) :=
  let sets := (lanes.take m).filterMap fun l =>
    let c := l.getD 1 512
    let a := l.getD 2 512
    if c < 256 && a < 256 && l == urgentSyms c a then some (c, a) else none
  sets.find? fun x => (if m ≤ 2 then 1 else 2) ≤ (sets.filter (· == x)).length

/-! ### The legacy chain (R544) -/

/-- The control symbols of the legacy link: COM of IDLE, VS, LS, CMD, RSP, END. -/
def legacyKs : List Nat := [symCom, kSym 0x1C, symSos, symScp, symUrg, symEop]

/-- The start symbol of a packet: VS, LS, CMD, RSP. -/
def legacyStart (k : Nat) : Nat := [kSym 0x1C, symSos, symScp, symUrg].getD k symCom

/-- An IDLE pair, and a packet's symbols. -/
def legacyIdle : List Nat := [symCom, symIdl]
def legacySyms (k : Nat) (bytes : List Nat) : List Nat := legacyStart k :: bytes ++ [symEop]

/-- The codes of symbols on one lane, and the symbols of codes, from a running disparity on. -/
def encodeLane : Bool → List Nat → List Nat
  | _, [] => []
  | rd, k :: t => encSym rd k :: encodeLane (rdAfter rd (encSym rd k)) t
def decodeLane (ks : List Nat) : Bool → List Nat → List Nat
  | _, [] => []
  | rd, c :: t => decWith ks rd c :: decodeLane ks (rdAfter rd c) t

/-- The codes of a packet. -/
def legacyCodes (rd : Bool) (k : Nat) (bytes : List Nat) : List Nat := encodeLane rd (legacySyms k bytes)

/-- What a receiver reads of a packet's codes: its bytes, and whether it has a code violation or does not end in END. -/
def legacyRx (k : Nat) (rd : Bool) (codes : List Nat) : List Nat × Bool :=
  let l := decodeLane legacyKs rd codes
  let body := l.tail.takeWhile (· != symEop)
  (body, l.headD 0 != legacyStart k || body.any (256 ≤ ·) || l.length != body.length + 2)

/-- What goes out on a legacy lane, as symbols. -/
def Out.onLegacy : Out → Option (Nat × List Nat)
  | .legacy lane k bytes => some (lane, legacySyms k bytes)
  | _ => none

end Sys2Proof.Machine
end

