-- ==== Sys2Proof/Machine/Ops.lean ====
section
/-!
DEFINITION. The named operations every meaning is built from: reading and writing fields of the register store, counters, status
flags with their interrupt causes (R570), the logger's queue (R530), sending, free values, and the settling of the interrupt
outputs that ends each step (R572).
-/

namespace Sys2Proof.Machine

open Sys2Proof

/-- The part identity (R579): lot, wafer, die X and die Y in bits 63:19, zeros below them, and the CRC-8 over bits 63:8 in bits 7:0. -/
def partUid : Nat :=
  let hi := Config.uidTop.toNat * 2 ^ 11
  hi * 256 + crc8 (leBytes 7 hi).reverse

/-- Raster ticks of a second. -/
def tickSec : Nat := 400000000

/-! ### Registers in force -/

/-- The word in force at a BAR0 offset. -/
def State.rd (s : State) (a : Nat) : Word := Tab.get resetWord s.regs a

/-- Puts a word in force. -/
def State.wr (s : State) (a : Nat) (w : Word) : State := { s with regs := Tab.set resetWord a w s.regs }

/-- A field in force. -/
def State.get (s : State) (f : Fld) : Nat := f.of (s.rd f.addr)

/-- Sets a field, cut to its width. -/
def State.put (s : State) (f : Fld) (v : Nat) : State := s.wr f.addr (f.into (s.rd f.addr) v)

/-- Is a field non-zero? -/
def State.on (s : State) (f : Fld) : Bool := s.get f != 0

/-- A field as a signed number. -/
def State.getI (s : State) (f : Fld) : Int := toInt f.width (s.get f)

/-- Sets a field to a signed number, saturating at the field's limits. -/
def State.putI (s : State) (f : Fld) (v : Int) : State := s.put f (ofInt f.width (satInt f.width v))

/-- Sets a one-bit field from a truth value. -/
def State.putB (s : State) (f : Fld) (b : Bool) : State := s.put f (if b then 1 else 0)

/-- Adds to a counter that saturates. -/
def State.addSat (s : State) (f : Fld) (n : Nat) : State := s.put f (min (s.get f + n) (2 ^ f.width - 1))

/-- Steps a counter that saturates. -/
def State.inc (s : State) (f : Fld) : State := s.addSat f 1

/-- Steps a counter that wraps, such as SEQ (R15). -/
def State.bump (s : State) (f : Fld) : State := s.put f (s.get f + 1)

/-- Applies `f` where `b` holds. -/
def State.when (s : State) (b : Bool) (f : State → State) : State := if b then f s else s

/-- Applies a step for each element of a list, in order. -/
def State.each {α : Type} (s : State) (l : List α) (f : α → State → State) : State := l.foldl (fun s a => f a s) s

/-! ### Pending values of RWS fields (R10, R12, R121, R122) -/

/-- What a read of an RWS field returns as a word: the pending value, else the value taken at a cut, else the value in force. -/
def State.pendWord (s : State) (a : Nat) : Word :=
  match Tab.get (fun _ => none) s.pend a with
  | some w => w
  | none => (Tab.get (fun _ => none) s.taken a).getD (s.rd a)

/-- Sets the pending value. -/
def State.setPend (s : State) (a : Nat) (w : Word) : State :=
  { s with pend := Tab.set (fun _ => none) a (some w) s.pend }

/-- A field of the pending word. -/
def State.getPend (s : State) (f : Fld) : Nat := f.of (s.pendWord f.addr)

/-! ### Roles and identity -/

/-- RD_DIE_STATE.ROLE (R39). -/
def State.role (s : State) : Nat := s.get F.RD_DIE_STATE_ROLE
def State.isSender (s : State) : Bool := s.role == 1
def State.isTile (s : State) : Bool := s.role == 2
def State.isK24 (s : State) : Bool := s.role == 3
/-- Tile role or K24 mode: the roles that drive lamps. -/
def State.drives (s : State) : Bool := s.isTile || s.isK24
/-- No mould image and H0 running as a tile without one (R52). -/
def State.noMouldTile (s : State) : Bool :=
  s.role == 0 && s.get F.RD_MOULD_STATUS_STATE == 2 && s.on F.RD_MOULD_STATUS_VALID && (s.get F.RD_DIE_STATE_DIE_RUN).testBit 5
/-- A part that behaves as a tile on its chain, with or without a mould image. -/
def State.tileLike (s : State) : Bool := s.isTile || s.noMouldTile
/-- PHASES of the image in force. -/
def State.phases (s : State) : Nat := s.get F.RD_MOULD_INFO_PHASES
/-- SENDER_END of the image in force: 1 A, 2 B, 3 single. -/
def State.senderEnd (s : State) : Nat := s.get F.RD_MOULD_INFO_SENDER_END
/-- Is a die powered and running? -/
def State.dieRuns (s : State) (d : Nat) : Bool :=
  (s.get F.RD_DIE_STATE_DIE_ON).testBit d && (s.get F.RD_DIE_STATE_DIE_RUN).testBit d

/-! ### Ports -/

/-- A chain port's record. -/
def State.port (s : State) (p : Nat) : Port := Tab.get (fun _ => {}) s.ports p
/-- Changes a chain port's record. -/
def State.setPort (s : State) (p : Nat) (f : Port → Port) : State :=
  { s with ports := Tab.set (fun _ => {}) p (f (s.port p)) s.ports }
/-- Is the port LINKED (R92)? -/
def State.linked (s : State) (p : Nat) : Bool := s.get (F.CH_TRAIN_STATE_STATE p) == 8
/-- Does the legacy lane of group 0 or 1 of a K24 tile hold lock (R543)? -/
def State.k24Locked (s : State) (g : Nat) : Bool := s.isK24 && g < 2 && s.k24.lock.testBit g
/-- The chain ports the image puts in use. -/
def State.portsInUse (s : State) : List Nat :=
  match s.mould.loaded with
  | some m => (m.lanes.map (·.port)).filter (· < 16)
  | none => if s.noMouldTile then [0, 1] else []

/-! ### Sending and free values -/

/-- Sends something. -/
def State.send (s : State) (o : Out) : State := { s with out := s.out ++ [o] }

/-- Draws a free value. -/
def State.draw (s : State) : BitVec 64 × State := (Config.freeWord s.freeN, { s with freeN := s.freeN + 1 })

/-- Gives the host data. -/
def State.reply (s : State) (l : List Nat) : State := { s with acc := { s.acc with rdata := l } }

/-- A read of offset `a` that captures partner words (R16): the host gets the word at `a`, and the next read of each partner returns what
it holds now. -/
def State.captureRead (s : State) (a : Nat) (partners : List Nat) : State :=
  let cap := partners.foldl (fun t b => Tab.set (fun _ => none) b (some (s.rd b)) t) s.acc.captured
  { s with acc := { s.acc with captured := cap, rdata := [(s.rd a).toNat] } }

/-! ### Interrupt causes (R570, R571) -/

/-- Sets the pending bit of a cause. -/
def State.cause (s : State) (c : Nat) : State :=
  if c < 32 then s.put F.RD_IRQ_PEND0_PEND (setBit (s.get F.RD_IRQ_PEND0_PEND) c)
  else s.put F.RD_IRQ_PEND1_PEND (setBit (s.get F.RD_IRQ_PEND1_PEND) (c - 32))

/-- Sets a W1C status bit that is the source of a cause: the cause occurs when the bit goes from 0 to 1. -/
def State.raise (s : State) (f : Fld) (c : Nat) : State :=
  if s.on f then s else (s.put f 1).cause c

/-- Sets a status bit that no cause watches. -/
def State.flag (s : State) (f : Fld) : State := s.put f 1

/-! ### The logger (R530) -/

/-- Does the part have a raster? With ROLE = 0b000 it has none (R428): a tile without an image only passes markers on by one. -/
def State.rasterValid (s : State) : Bool := s.raster.running && s.role != 0

/-- The current raster line. -/
def State.lpos (s : State) : Nat := s.raster.rpos / 65536

/-- Hands an event to the logger: it joins the queue of 64, or is dropped and counted while the queue is full. -/
def State.logEv (s : State) (sev die code a0 a1 : Nat) : State :=
  if s.log.queue.length < 64 then
    let r : LogReq := ⟨sev, die, code, s.raster.fnum, s.rasterValid, s.lpos, s.ptp.sec % 2 ^ 32, s.ptp.ns, a0, a1, 0⟩
    { s with log := { s.log with queue := s.log.queue ++ [r] } }
  else (s.inc F.RD_ELOG_LOST_DROPPED_N).flag F.RD_ELOG_STATUS_DROP_EV

/-! ### Settling the interrupt outputs (R21, R572) -/

/-- Causes both pending and enabled, bit c. -/
def State.irqLive (s : State) : Nat :=
  (s.get F.RD_IRQ_PEND0_PEND &&& s.get F.RD_IRQ_EN0_EN) +
  (s.get F.RD_IRQ_PEND1_PEND &&& s.get F.RD_IRQ_EN1_EN) * 2 ^ 32

/-- The vector RD_IRQ_MAP gives a cause (R573). -/
def State.irqVector (s : State) (c : Nat) : Nat :=
  s.get ⟨0x720 + 4 * (c / 4), 8 * (c % 4) + 4, 8 * (c % 4)⟩

/-- Vectors with a live cause. -/
def State.irqVectors (s : State) : Nat :=
  (bitsOf 37 s.irqLive).foldl (fun m c => setBit m (s.irqVector c)) 0

/-- Physical lane number of lane `i` of chain port `p`. -/
def chainLane (p i : Nat) : Nat := if p < 8 then 5 * p + i else 56 + 5 * (p - 8) + i

/-- Field k of HP_CAL_MAP on the receive and transmit side (R224). -/
def calMapRx (g k : Nat) : Fld := ⟨atGROUP g 0x1C, 3 * k + 2, 3 * k⟩
def calMapTx (g k : Nat) : Fld := ⟨atGROUP g 0x1C, 3 * k + 18, 3 * k + 16⟩

/-- The physical lanes of a port's transmitter, in logical order (R136). -/
def State.txOrder (s : State) (p : Nat) : List Nat :=
  (List.range (s.get (F.CH_LINK_STATUS_TX_LANES p))).map fun k => chainLane p (s.get (calMapTx p k))

/-- The lane of a port that carries a copy, and the logical lane it copies (R205). -/
def State.copyLane (s : State) (p : Nat) : Option (Nat × Nat) :=
  (Tab.get (fun _ => {}) s.cals p : Cal).copies.map fun c => (chainLane p c.1, c.2)

/-- Ten-bit codes through a polarity: inverted or as they are (R182). -/
def polar (inverted : Bool) (c : Nat) : Nat := if inverted then 1023 - c else c

/-- Is a lane's transmit, or receive, polarity inverted? -/
def State.txInv (s : State) (n : Nat) : Bool := s.on (F.HP_LANE_TXM_TX_POL n)
def State.rxInv (s : State) (n : Nat) : Bool := s.on (F.HP_LANE_TXM_RX_POL n)

/-- What the step sends on a port, encoded on its lanes and on the one that carries the copy, and the disparities it leaves; a line already encoded
stands. -/
def State.lineUp (s : State) (p : Nat) (x : Tab (List (List Nat)) × Tab Bool) : Tab (List (List Nat)) × Tab Bool :=
  let order := if (Tab.get (fun _ => []) x.1 p).isEmpty then s.txOrder p else []
  match portColumns p order.length s.out with
  | [] => x
  | cols =>
    let lanes := order ++ (s.copyLane p).toList.map (·.1)
    let cols := cols.map fun c => c ++ (s.copyLane p).toList.map fun e => c.getD e.2 symIdl
    let (codes, rd) := encodeColumns (lanes.map (Tab.get (fun _ => false) x.2)) cols
    (Tab.set (fun _ => []) p (codes.map fun c => (c.zip lanes).map fun e => polar (s.txInv e.2) e.1) x.1,
     (lanes.zip rd).foldl (fun d e => Tab.set (fun _ => false) e.1 e.2 d) x.2)

/-- All ports' lines. -/
def State.lines (s : State) : Tab (List (List Nat)) × Tab Bool := (List.range 16).foldl (fun x p => s.lineUp p x) (s.line, s.disp)

/-- Encodes what a port has sent so far on the lanes it has now, before its map changes. -/
def emitLine (p : Nat) (s : State) : State := { s with line := (s.lineUp p (s.line, s.disp)).1, disp := (s.lineUp p (s.line, s.disp)).2 }

/-- The end of every step: what it sends stands on the lines, the vectors that became active have a message due, and IRQ_N follows the live
causes. -/
def settle (s : State) : State :=
  let act := s.irqVectors
  let rise := maskOfBits ((bitsOf 32 act).filter fun v => !s.pcie.active.testBit v && !s.pcie.waitAck.testBit v)
  { s with line := s.lines.1, disp := s.lines.2, pcie := { s.pcie with active := act, due := s.pcie.due ||| rise, irqN := s.irqLive != 0 } }

/-- The starter has halted (R75, R90). -/
def State.halted (s : State) : Bool := s.get F.RD_BOOT_STATUS_STAGE == 0xF

/-- The part is held: RESET_N low, rails bad, the thermal trip, or the starter halted (R71, R587, R480, R75). -/
def State.held (s : State) : Bool := s.sys.resetLow || s.sys.railsBad || s.sys.tripped || s.halted

/-- The Rind die is held, which the thermal trip leaves at work (R480). -/
def State.rindHeld (s : State) : Bool := s.sys.resetLow || s.sys.railsBad || s.halted

/-- STEP_N and STEP_D of R100. -/
def Raster.stepN (r : Raster) : Nat := r.ltotal * 65536 * r.num
def Raster.stepD (r : Raster) : Nat := 400000000 * r.den

/-- Does the raster stand at the start of a frame, on its first tick? -/
def Raster.atStart (r : Raster) : Bool := r.rpos * r.stepD + r.acc < r.stepN

/-- The first frame that starts no earlier than now. -/
def Raster.nextStart (r : Raster) : Nat := if r.atStart then r.fnum else (r.fnum + 1) % 2 ^ 32

/-- A step starts with nothing sent and no read data. -/
def State.fresh (s : State) : State := { s with out := [], line := [], acc := { s.acc with rdata := [], poisoned := false } }

/-- The outcome of a command's effect; a held part does not act. -/
def run (f : State → State) (s : State) : Host.Outcome State Fault Refusal :=
  .next (settle (if s.held then s.fresh else f s.fresh))

/-- The same for the few commands that act on a held part as well. -/
def runHeld (f : State → State) (s : State) : Host.Outcome State Fault Refusal :=
  .next (settle (f s.fresh))

/-- The same for what the Rind die does without its processor, which the thermal trip leaves at work: host port, logger, raster, network, PTP clock, audio and
check units (R439, R462, R480, R534). -/
def runRind (f : State → State) (s : State) : Host.Outcome State Fault Refusal :=
  .next (settle (if s.rindHeld then s.fresh else f s.fresh))

/-- The same for the operations that complete whatever state the processor and the firmware are in, and so after a halt as well (R75, R534). -/
def runAlways (f : State → State) (s : State) : Host.Outcome State Fault Refusal :=
  .next (settle (if s.sys.resetLow || s.sys.railsBad then s.fresh else f s.fresh))

/-- The same for a command whose use the manual calls unpredictable in some cases. -/
def runF (f : State → Except Fault State) (s : State) : Host.Outcome State Fault Refusal :=
  if s.held then .next (settle s.fresh)
  else match f s.fresh with
    | .ok t => .next (settle t)
    | .error e => .fault e

/-- The same for the Rind die's commands (see `runRind`) whose use the manual calls unpredictable in some cases. -/
def runRindF (f : State → Except Fault State) (s : State) : Host.Outcome State Fault Refusal :=
  if s.rindHeld then .next (settle s.fresh)
  else match f s.fresh with
    | .ok t => .next (settle t)
    | .error e => .fault e

/-- The SAFE_DARK pin changes: a held part only sees the level, which it finds when it starts (R535). -/
def onPin (level : Bool) (f : State → State) (s : State) : State :=
  if s.held then { s with sys := { s.sys with safeDark := level } } else f s

/-- A command that names a port, lane, die or unit acts where the part has it. -/
def only (b : Bool) (f : State → State) (s : State) : State := if b then f s else s
def onlyE (b : Bool) (f : State → Except Fault State) (s : State) : Except Fault State := if b then f s else .ok s

/-- The chain ports of the part in its role: a tile uses ports 0 and 1 (R28). -/
def State.hasPort (s : State) (p : Nat) : Bool := p < (if s.tileLike then 2 else 16)
def onPort (p : Nat) (f : State → State) (s : State) : State := if s.hasPort p then f s else s
def onPortE (p : Nat) (f : State → Except Fault State) (s : State) : Except Fault State := if s.hasPort p then f s else .ok s

end Sys2Proof.Machine
end

