-- ==== Sys2Proof/Machine/Dark.lean ====
section
/-!
DEFINITION. The causes that hold the Press dark (R355, R360).
-/

namespace Sys2Proof.Machine

open Sys2Proof

/-- A pattern is in force for the picture being emitted at a READY tile (R357). -/
def State.patternShown (s : State) : Bool := s.tileRx.ready && s.tp.prev.pat

/-- The no-picture cause: no frame to emit, which a pattern lifts; identities that disagree for more than 3 frames; EXCESS or REVERSED. In
K24 mode: no frame yet, an expired hold, BLANK_ALL, or EXCESS (R547, R549). -/
def State.noPicture (s : State) : Bool :=
  if s.isK24 then !s.tileRx.showing || s.k24.expired || s.k24.blankPrev || s.on F.RD_K24_ADDR_EXCESS
  else (!s.patternShown && (!s.tileRx.showing || s.fo.lossDark)) || 3 < s.fo.mismatchRun ||
    s.on (F.CH_ENUM_EXCESS 0) || s.on (F.CH_ENUM_REVERSED 0)

/-- The schedule in force emits nothing: ROW_SLOT 0 of the host's or the mould's schedule (R340, R359). -/
def State.noEmission (s : State) : Bool :=
  if s.on F.PR_SLOT_CTRL_HOST then !s.on F.PR_SLOT_ROW_ROW_SLOT else !s.on F.PR_SLOT_MOULD_ROW_ROW_SLOT

/-- DARK_SRC (R360); the link of V0 to the Press is die link 1 to 7. -/
def State.darkSrc (s : State) : Nat :=
  maskOfBits ((bitsOf 6 63).filter fun i =>
    match i with
    | 0 => s.sys.safeDark
    | 1 => s.on (F.CH_LINK_STATUS_DARK_A 0) || s.on (F.CH_LINK_STATUS_DARK_B 0)
    | 2 => s.links.failed.contains 15
    | 3 => s.noPicture
    | 4 => s.sys.tripped
    | _ => s.noEmission)

/-- Evaluates the dark causes: every port stops emitting while one holds, and a port with PIN_STUCK stops alone. A port emits again from the
start of the next window (R355). A schedule that emits nothing is no cause of R355: it shows in DARK_SRC and not in DARK (R360). -/
def pressDark (s : State) : State :=
  let src := s.darkSrc
  let s := (s.put F.PR_SLOT_STATUS_DARK_SRC src).putB F.PR_SLOT_STATUS_DARK (src % 32 != 0)
  let lit := if src != 0 then 0 else maskOfBits ((bitsOf 16 s.press.lit).filter fun q => !s.on (F.PR_PORT_STATUS_PIN_STUCK q))
  { s with press := { s.press with lit := lit } }

end Sys2Proof.Machine
end

