-- ==== Sys2Proof/Machine/Crypto.lean ====
section
/-!
DEFINITION. The signature of R47: the SHA-256 digest of bytes (FIPS 180-4) and the verification of an ECDSA signature on the curve P-256
(FIPS 186-4). Numbers are kept below their modulus by every operation.
-/

namespace Sys2Proof.Machine

/-- Continues with a number once it is worked out. -/
def withNat {α : Type} (n : Nat) (f : Nat → α) : α := match n with
  | 0 => f 0
  | k + 1 => f (k + 1)

/-- The number that bytes spell, most significant first. -/
def ofBe (l : List Nat) : Nat := l.foldl (fun n b => 256 * n + b % 256) 0

/-! ### SHA-256 -/

/-- A 32-bit word rotated right. -/
def rotr32 (x n : Nat) : Nat := (x >>> n) ||| ((x <<< (32 - n)) % 2 ^ 32)

/-- The greatest number below `2 ^ i` above `r` whose `k`-th power is at most `n`, bit by bit. -/
def rootBits (k n : Nat) : Nat → Nat → Nat
  | 0, r => r
  | i + 1, r => withNat (if (r + 2 ^ i) ^ k ≤ n then r + 2 ^ i else r) (rootBits k n i)

/-- The first 32 bits of the fractional part of the `k`-th root of a number (FIPS 180-4, 4.2.2 and 5.3.3). -/
def rootFrac (k n : Nat) : Nat := rootBits k (n * 2 ^ (32 * k)) 37 0 % 2 ^ 32

/-- The first 64 primes. -/
def shaPrimes : List Nat := (List.range 312).filter fun n => 2 ≤ n && (List.range 18).all fun d => d < 2 || n ≤ d || n % d != 0

/-- A round's constant comes from the cube root of its prime. -/
def shaK : List Nat := shaPrimes.map (rootFrac 3)

/-- The digest being worked out; it begins with the square roots of the first eight primes. -/
structure ShaState where
  a : Nat
  b : Nat
  c : Nat
  d : Nat
  e : Nat
  f : Nat
  g : Nat
  h : Nat
  deriving DecidableEq, Repr

/-- The digest before the first block. -/
def ShaState.init : ShaState :=
  ⟨rootFrac 2 2, rootFrac 2 3, rootFrac 2 5, rootFrac 2 7, rootFrac 2 11, rootFrac 2 13, rootFrac 2 17, rootFrac 2 19⟩

/-- One round with the constant and the schedule word summed. -/
def shaRound (s : ShaState) (kw : Nat) : ShaState :=
  let t1 := s.h + (rotr32 s.e 6 ^^^ rotr32 s.e 11 ^^^ rotr32 s.e 25) + ((s.e &&& s.f) ^^^ ((s.e ^^^ 0xFFFFFFFF) &&& s.g)) + kw
  let t2 := (rotr32 s.a 2 ^^^ rotr32 s.a 13 ^^^ rotr32 s.a 22) + ((s.a &&& s.b) ^^^ (s.a &&& s.c) ^^^ (s.b &&& s.c))
  withNat ((t1 + t2) % 2 ^ 32) fun na => withNat ((s.d + t1) % 2 ^ 32) fun ne => ⟨na, s.a, s.b, s.c, ne, s.e, s.f, s.g⟩

/-- `n` further schedule words; the words so far stand newest first. -/
def shaExtend : Nat → List Nat → List Nat
  | 0, w => w
  | n + 1, w =>
    let x := w.getD 14 0
    let y := w.getD 1 0
    withNat ((w.getD 15 0 + (rotr32 x 7 ^^^ rotr32 x 18 ^^^ (x >>> 3)) + w.getD 6 0 + (rotr32 y 17 ^^^ rotr32 y 19 ^^^ (y >>> 10))) % 2 ^ 32)
      fun v => shaExtend n (v :: w)

/-- The rounds over constants and schedule words. -/
def shaRounds : List Nat → List Nat → ShaState → ShaState
  | k :: ks, w :: ws, s => shaRounds ks ws (shaRound s (k + w))
  | _, _, s => s

/-- The big-endian words of bytes. -/
def beWords : List Nat → List Nat
  | a :: b :: c :: d :: t => ofBe [a, b, c, d] :: beWords t
  | _ => []

/-- One 64-byte block. -/
def shaBlock (s : ShaState) (w : List Nat) : ShaState :=
  let t := shaRounds shaK (shaExtend 48 w.reverse).reverse s
  withNat ((s.a + t.a) % 2 ^ 32) fun a => withNat ((s.b + t.b) % 2 ^ 32) fun b => withNat ((s.c + t.c) % 2 ^ 32) fun c =>
  withNat ((s.d + t.d) % 2 ^ 32) fun d => withNat ((s.e + t.e) % 2 ^ 32) fun e => withNat ((s.f + t.f) % 2 ^ 32) fun f =>
  withNat ((s.g + t.g) % 2 ^ 32) fun g => withNat ((s.h + t.h) % 2 ^ 32) fun h => ⟨a, b, c, d, e, f, g, h⟩

/-- `n` blocks of 16 words. -/
def shaBlocks : Nat → List Nat → ShaState → ShaState
  | 0, _, s => s
  | n + 1, w, s => shaBlocks n (w.drop 16) (shaBlock s (w.take 16))

/-- The message with its padding. -/
def shaPad (m : List Nat) : List Nat :=
  m ++ 0x80 :: List.replicate ((119 - m.length % 64) % 64) 0 ++ (leBytes 8 (8 * m.length)).reverse

/-- The digest of a byte string, as the number its 32 bytes spell. -/
def sha256 (m : List Nat) : Nat :=
  let p := shaPad m
  let s := shaBlocks (p.length / 64) (beWords p) .init
  [s.b, s.c, s.d, s.e, s.f, s.g, s.h].foldl (fun n w => n * 2 ^ 32 + w) s.a

/-! ### ECDSA on P-256 -/

/-- The field, the group order, the curve's b and its base point. -/
def p256p : Nat := 0xffffffff00000001000000000000000000000000ffffffffffffffffffffffff
def p256n : Nat := 0xffffffff00000000ffffffffffffffffbce6faada7179e84f3b9cac2fc632551
def p256b : Nat := 0x5ac635d8aa3a93e7b3ebbd55769886bc651d06b0cc53b0f63bce3c3e27d2604b
def p256gx : Nat := 0x6b17d1f2e12c4247f8bce6e563a440f277037d812deb33a0f4a13945d898c296
def p256gy : Nat := 0x4fe342e2fe1a7f9b8ee7eb4a7c0f9e162bce33576b315ececbb6406837bf51f5

/-- A point: x = X / Z², y = Y / Z³; Z = 0 is the point at infinity. -/
structure EcPoint where
  x : Nat
  y : Nat
  z : Nat
  deriving DecidableEq, Repr

/-- A difference in the field. -/
def fsub (a b : Nat) : Nat := (a + p256p - b) % p256p

/-- A point of its coordinates, worked out. -/
def ecMk (x y z : Nat) : EcPoint := withNat x fun x => withNat y fun y => withNat z fun z => ⟨x, y, z⟩

/-- Twice a point. -/
def ecDouble (p : EcPoint) : EcPoint :=
  withNat (p.y * p.y % p256p) fun yy => withNat (4 * p.x * yy % p256p) fun s => withNat (p.z * p.z % p256p) fun zz =>
  withNat (3 * (fsub p.x zz) * (p.x + zz) % p256p) fun m => withNat (fsub (m * m % p256p) (2 * s % p256p)) fun x =>
  ecMk x (fsub (m * fsub s x % p256p) (8 * yy * yy % p256p)) (2 * p.y * p.z % p256p)

/-- The sum of two points. -/
def ecAdd (p q : EcPoint) : EcPoint :=
  if p.z = 0 then q else if q.z = 0 then p
  else
    withNat (p.z * p.z % p256p) fun zp => withNat (q.z * q.z % p256p) fun zq => withNat (p.x * zq % p256p) fun u =>
    withNat (fsub (q.x * zp % p256p) u) fun h => withNat (p.y * (q.z * zq % p256p) % p256p) fun v =>
    withNat (fsub (q.y * (p.z * zp % p256p) % p256p) v) fun r =>
    if h = 0 then (if r = 0 then ecDouble p else ⟨1, 1, 0⟩)
    else
      withNat (h * h % p256p) fun hh => withNat (h * hh % p256p) fun hc => withNat (u * hh % p256p) fun uh =>
      withNat (fsub (r * r % p256p) ((hc + 2 * uh) % p256p)) fun x =>
      ecMk x (fsub (r * fsub uh x % p256p) (v * hc % p256p)) (h * (p.z * q.z % p256p) % p256p)

/-- u1 G + u2 Q over the low `n` bits of both, with G + Q given. -/
def ecSum (g q gq : EcPoint) (u1 u2 : Nat) : Nat → EcPoint → EcPoint
  | 0, a => a
  | n + 1, a =>
    let d := ecDouble a
    ecSum g q gq u1 u2 n
      (match u1.testBit n, u2.testBit n with
        | true, true => ecAdd d gq
        | true, false => ecAdd d g
        | false, true => ecAdd d q
        | false, false => d)

/-- `b` to the power of the low `n` bits of `e`, modulo `m`. -/
def powMod (b e m : Nat) : Nat → Nat → Nat
  | 0, r => r
  | n + 1, r => withNat (r * r % m) fun s => powMod b e m n (if e.testBit n then s * b % m else s)

/-- Does (r, s) sign a digest under the public key (x, y)? -/
def ecdsaVerify (x y digest r s : Nat) : Bool :=
  if x ≥ p256p || y ≥ p256p || y * y % p256p != (x * x * x + (p256p - 3) * x + p256b) % p256p then false
  else if r = 0 || p256n ≤ r || s = 0 || p256n ≤ s then false
  else
    withNat (powMod s (p256n - 2) p256n 256 1) fun w =>
    let g : EcPoint := ⟨p256gx, p256gy, 1⟩
    let q : EcPoint := ⟨x, y, 1⟩
    let a := ecSum g q (ecAdd g q) (digest * w % p256n) (r * w % p256n) 256 ⟨1, 1, 0⟩
    if a.z = 0 then false
    else
      withNat (powMod a.z (p256p - 2) p256p 256 1) fun zi => (a.x * (zi * zi % p256p) % p256p) % p256n == r

end Sys2Proof.Machine
end

