-- ==== Sys2Proof/Machine/Image.lean ====
section
/-!
DEFINITION. The bytes of a mould image (chapter 02): its header (R44), its section table (R45), its sections, and its signature block (R47); those of
a firmware image and of a tile package (R504).
-/

namespace Sys2Proof

open Sys2Proof.Machine

/-- The little-endian field of `n` bytes at offset `o` of a byte string. -/
def leAt (b : List Nat) (o n : Nat) : Nat := ofLe ((b.drop o).take n)

/-- The image's header (R44). -/
def MouldImage.hdr (m : MouldImage) : MouldHeader :=
  let b := m.raw
  { magic := leAt b 0x00 4, format := leAt b 0x04 2, hdrLen := leAt b 0x06 2, totalLen := leAt b 0x08 4, role := leAt b 0x0C 1,
    senderEnd := leAt b 0x0D 1, phases := leAt b 0x0E 1, sections := leAt b 0x0F 1, wallId := leAt b 0x10 4, mouldSeq := leAt b 0x14 2,
    frateMax := leAt b 0x18 4, minFw := leAt b 0x1C 4, dieUse := leAt b 0x20 1, abaistubVer := leAt b 0x24 4, descHash := leAt b 0x28 32,
    hdrCrc := leAt b 0xFC 4 }

/-- The section table: SECTIONS entries of 16 bytes from 0x100 on (R45). -/
def MouldImage.secs (m : MouldImage) : List MouldSection :=
  (List.range (leAt m.raw 0x0F 1)).map fun i =>
    let o := 0x100 + 16 * i
    { type := leAt m.raw o 1, die := leAt m.raw (o + 1) 1, inst := leAt m.raw (o + 2) 2, offset := leAt m.raw (o + 4) 4,
      length := leAt m.raw (o + 8) 4, crc := leAt m.raw (o + 12) 4 }

/-- The check value over a section's bytes (R45, R48). -/
def MouldImage.sectionCrc (m : MouldImage) (c : MouldSection) : Nat := crc32 ((m.raw.drop c.offset).take c.length)

/-- A section's bytes, and the K24 section's fields (R559); a field that is not there reads as 0. -/
def MouldImage.k24Bytes (m : MouldImage) : List Nat :=
  match m.secs.find? (·.type == 0x40) with | some c => (m.raw.drop c.offset).take c.length | none => []
def MouldImage.k24 (m : MouldImage) : K24Cfg :=
  let b := m.k24Bytes
  { width := leAt b 0x00 2, height := leAt b 0x02 2, frate := leAt b 0x04 4, ltotal := leAt b 0x08 2, hold := leAt b 0x0A 1, brt := leAt b 0x0B 1,
    gamma := leAt b 0x0C 1 }

/-- Where the signature block starts: TOTAL_LEN places it at its last 68 bytes (R605). -/
def MouldImage.sigAt (m : MouldImage) : Nat := m.hdr.totalLen - 68

/-- KEY_INDEX (R47). -/
def MouldImage.keyIndex (m : MouldImage) : Nat := leAt m.raw m.sigAt 1

/-- Does the signature block at byte `o` verify the bytes before it under a public key of 64 bytes, x and y (R47, R505)? r and s follow KEY_INDEX and
three zero bytes. -/
def signedAt (raw : List Nat) (o : Nat) (key : List Nat) : Bool :=
  let be := fun (n : Nat) => ofBe ((raw.drop (o + n)).take 32)
  o + 68 ≤ raw.length && key.length == 64 && ecdsaVerify (ofBe (key.take 32)) (ofBe (key.drop 32)) (sha256 (raw.take o)) (be 4) (be 36)

/-- Does the image's signature verify under a public key? -/
def MouldImage.signedBy (m : MouldImage) (key : List Nat) : Bool := signedAt m.raw m.sigAt key

/-! ### Firmware images and packages (R504) -/

/-- Header fields of a firmware image. -/
def FwImage.totalLen (f : FwImage) : Nat := leAt f.raw 0x08 4
def FwImage.version (f : FwImage) : Nat := leAt f.raw 0x0C 4
def FwImage.rollback (f : FwImage) : Nat := leAt f.raw 0x10 1
def FwImage.roles (f : FwImage) : Nat := leAt f.raw 0x11 1
def FwImage.setFmt (f : FwImage) : Nat := leAt f.raw 0x12 2
def FwImage.calFmt (f : FwImage) : Nat := leAt f.raw 0x14 2

/-- Is the header right: MAGIC, FORMAT, HDR_LEN, TOTAL_LEN, ROLLBACK, HDR_CRC? -/
def FwImage.hdrOk (f : FwImage) : Bool :=
  leAt f.raw 0x00 4 == 0x57464748 && leAt f.raw 0x04 2 == 1 && leAt f.raw 0x06 2 == 256 && f.totalLen ≤ 0x400000 && f.totalLen ≤ f.raw.length &&
    256 + 68 ≤ f.totalLen && f.rollback ≤ 64 && crc32 (f.raw.take 0xFC) == leAt f.raw 0xFC 4

/-- KEY_INDEX of its signature block, and the signature under a public key (R47). -/
def FwImage.keyIndex (f : FwImage) : Nat := leAt f.raw (f.totalLen - 68) 1
def FwImage.signedBy (f : FwImage) (key : List Nat) : Bool := signedAt f.raw (f.totalLen - 68) key

/-- Bytes up to the next 4 KiB boundary. -/
def padded4K (n : Nat) : Nat := (n + 4095) / 4096 * 4096

/-- A package's bytes: the firmware, zero-padded to the next 4 KiB boundary, and the mould image. -/
def Package.bytes (k : Package) : List Nat := k.fw.raw ++ List.replicate (padded4K k.fw.raw.length - k.fw.raw.length) 0 ++ k.mould.raw

/-- The firmware image and the mould image that a package's bytes hold; `m` gives the decoded contents of the mould image's sections. -/
def fwOf (b : List Nat) : FwImage := ⟨b.take (leAt b 0x08 4)⟩
def mouldOf (b : List Nat) (m : MouldImage) : MouldImage := { m with raw := b.drop (padded4K (leAt b 0x08 4)) }

end Sys2Proof
end

