-- ==== Sys2Proof/Machine/Flash.lean ====
section
/-!
DEFINITION. The firmware slots, the checks of a firmware image, and the firmware registers (chapter 19, R500 to R507, R522, R523).
-/

namespace Sys2Proof.Machine

open Sys2Proof

/-- Slot states (R503). -/
def slEmpty : Nat := 0
def slStaged : Nat := 1
def slTrial : Nat := 2
def slConfirmed : Nat := 3
def slOld : Nat := 4
def slBad : Nat := 5

/-- Slot `i`: 0 A, 1 B. -/
def Nv.slot (n : Nv) (i : Nat) : Slot := if i = 0 then n.slotA else n.slotB
def Nv.setSlot (n : Nv) (i : Nat) (x : Slot) : Nv := if i = 0 then { n with slotA := x } else { n with slotB := x }
def Nv.mark (n : Nv) (i st : Nat) : Nv := n.setSlot i { n.slot i with state := st }

/-- Changes the flash and fuses. -/
def State.setNv (s : State) (f : Nv → Nv) : State := { s with nv := f s.nv }
def State.setUpd (s : State) (f : Upd → Upd) : State := { s with upd := f s.upd }
def State.setRx (s : State) (f : Rx → Rx) : State := s.setUpd fun u => { u with rx := f u.rx }

/-- RUN_SLOT: 0 when booted from the card (R522). -/
def State.runSlot (s : State) : Nat := s.upd.slot.getD 0
/-- The slot not booted. -/
def State.altSlot (s : State) : Nat := 1 - s.runSlot
/-- The part runs firmware on trial. -/
def State.inTrial (s : State) : Bool :=
  match s.upd.slot with
  | some i => (s.nv.slot i).state == slTrial
  | none => false
/-- VERSION of the running firmware. -/
def State.runVersion (s : State) : Nat := match s.upd.run with | some f => f.version | none => 0

/-- RD_FW_STATUS, RD_FW_VER_RUN and RD_FW_VER_ALT follow the slots. -/
def showFw (s : State) : State :=
  let alt := s.nv.slot s.altSlot
  let s := s.put F.RD_FW_STATUS_RUN_SLOT s.runSlot
  let s := s.put F.RD_FW_STATUS_RUN_STATE (match s.upd.slot with | some i => (s.nv.slot i).state | none => 0)
  let s := s.put F.RD_FW_STATUS_ALT_STATE alt.state
  let s := s.put F.RD_FW_STATUS_TRIES s.nv.tries
  let s := s.put F.RD_FW_STATUS_WIN_LEFT (if s.inTrial then s.nv.window else 0)
  let s := s.put F.RD_FW_VER_RUN_VERSION s.runVersion
  s.put F.RD_FW_VER_ALT_VERSION (if alt.state = slEmpty then 0 else match alt.fw with | some f => f.version | none => 0)

/-- The 64 bytes of the public key in a fuse slot (R505): byte 4k in the low byte of word k (R525). -/
def Nv.keyBytes (n : Nv) (slot : Nat) : List Nat := (Tab.get (fun _ => []) n.keys slot).flatMap fun w => leBytes 4 w.toNat

/-- The checks of R504 to R506 on a firmware image, in the order header, signature, rollback, ROLES; `roles` is the bitmap of personalities of
which it must run one. 0, or the code of R523. -/
def Nv.fwCheck (n : Nv) (roles : Nat) (f : FwImage) : Nat :=
  if !f.hdrOk then 2
  else if f.keyIndex ≠ 0 || !f.signedBy (n.keyBytes 0) then 3
  else if f.rollback < n.rollback then 4
  else if f.roles &&& roles = 0 then 5
  else 0

/-- The personality a slot's mould image asks of its firmware: any, where there is none. -/
def rolesFor (m : Option MouldImage) : Nat := match m with | some m => 2 ^ m.hdr.role | none => 14

/-- Row states of RD_FW_RESULT (R523). -/
def fwInstalling : Nat := 1
def fwInstalled : Nat := 2
def fwArmed : Nat := 3
def fwGoSent : Nat := 4
def fwTrial : Nat := 5
def fwConfirmed : Nat := 6
def fwRefused : Nat := 7
def fwCancelled : Nat := 8
def fwFailed : Nat := 9

/-- A state of RD_FW_RESULT. INSTALLED, CONFIRMED, REFUSED, CANCELLED and FAILED are final; entering FAILED is cause 13. -/
def fwResult (st err : Nat) (s : State) : State :=
  let s := if st = fwFailed && s.get F.RD_FW_RESULT_STATE != fwFailed then s.cause 13 else s
  let s := (s.put F.RD_FW_RESULT_STATE st).put F.RD_FW_RESULT_ERR err
  if st = fwInstalled || fwConfirmed ≤ st then (s.put F.RD_FW_RESULT_VALID 1).bump F.RD_FW_RESULT_SEQ
  else s.put F.RD_FW_RESULT_VALID 0

/-- A trial slot is left for the other one: it is BAD (R507, R516). -/
def leaveTrial (i : Nat) (s : State) : State :=
  let v := match (s.nv.slot i).fw with | some f => f.version | none => 0
  (s.setNv fun n => n.mark i slBad).logEv 2 0 0x0303 i v |>.raise F.RD_FW_STATUS_FELL_BACK 12

/-- The part confirms its trial (R517): the slots, and the rollback counter. -/
def confirmPart (s : State) : State :=
  match s.upd.slot with
  | none => s
  | some i =>
    if (s.nv.slot i).state ≠ slTrial then s
    else
      let rb := match s.upd.run with | some f => f.rollback | none => 0
      let n := s.nv.mark i slConfirmed
      let n := if (n.slot (1 - i)).state = slConfirmed then n.mark (1 - i) slOld else n
      let n := { n with rollback := max n.rollback rb, tries := 0, sets := n.sets.filter fun c => some c.1 == (s.upd.run.map (·.setFmt)) }
      -- the blocks of the trial are the part's own from now on (R519)
      let t := s.cave.trimTrial.getD ([], [])
      let fmt := (s.upd.run.map (·.calFmt)).getD 1
      showFw { s with nv := n, cave := { s.cave with trim := t.1, trimId := t.2, trimFmt := fmt, trimTrial := none } }

end Sys2Proof.Machine
end

