-- ==== Sys2Proof/Machine/LaneState.lean ====
section
/-!
DEFINITION. Lane halves and their states (R187, R189), lane maps of a port (R78, R224), equaliser settings and trim sets (R198, R218).
-/

namespace Sys2Proof.Machine

open Sys2Proof

/-! ### Numbering (R27, R196) -/

/-- Hoop die ID of a chain port (R27). -/
def hoopOf (p : Nat) : Nat := 5 + p / 8

/-- Physical lane number of lane `i` of source port `q`. -/
def sourceLane (q i : Nat) : Nat := if q < 4 then 40 + 4 * q + i else 96 + 4 * (q - 4) + i

/-- Lane `i` of group `g`: groups 0 to 15 are chain ports, 16 to 23 source ports. -/
def groupLane (g i : Nat) : Nat := if g < 16 then chainLane g i else sourceLane (g - 16) i

/-- The lanes of a group. -/
def groupLanes (g : Nat) : List Nat := (List.range (if g < 16 then 5 else 4)).map (groupLane g)

/-- The Hoop die of a group, and the group's number on it (R27, R469). -/
def groupDie (g : Nat) : Nat := if g < 16 then 5 + g / 8 else 5 + (g - 16) / 4
def groupIndex (g : Nat) : Nat := if g < 16 then g % 8 else 8 + (g - 16) % 4

/-- The group and index of a lane (R27). -/
def laneGroup (n : Nat) : Nat × Nat :=
  let h := n / 56
  let k := n % 56
  if k < 40 then (8 * h + k / 5, k % 5) else (16 + 4 * h + (k - 40) / 4, (k - 40) % 4)

/-! ### States of R187 -/

def lnRest : Nat := 0
def lnStandby : Nat := 1
def lnTrain : Nat := 2
def lnActive : Nat := 3
def lnSpare : Nat := 4
def lnRetired : Nat := 5
def lnTest : Nat := 6

/-- Puts the receive half of a lane in a state: the detector is off in REST and RETIRED, the CDR in STANDBY as well. -/
def setRxHalf (n rx : Nat) (s : State) : State :=
  let off := rx = lnRest ∨ rx = lnRetired
  let s := if off then s.put (F.HP_LANE_STATE_SIGDET n) 0 else s
  let s := if off ∨ rx = lnStandby then s.put (F.HP_LANE_STATE_CDR_LOCK n) 0 else s
  s.put (F.HP_LANE_STATE_RXS n) rx

/-- Sets both halves of a lane. -/
def setLane (n tx rx : Nat) (s : State) : State := setRxHalf n rx (s.put (F.HP_LANE_STATE_TXS n) tx)

/-- Lanes of a group in a state other than REST or RETIRED keep its PLL running (R177). -/
def groupPll (g : Nat) (s : State) : State :=
  s.putB (F.HP_GROUP_STATE_PLL_LOCK g) ((groupLanes g).any fun n =>
    let on := fun (st : Nat) => st != lnRest && st != lnRetired
    on (s.get (F.HP_LANE_STATE_TXS n)) || on (s.get (F.HP_LANE_STATE_RXS n)))

/-- Puts the lanes of a group in a state; the transmit halves of a source port stay in REST (R27, R178, R187). -/
def groupState (g st : Nat) (s : State) : State :=
  groupPll g (s.each (groupLanes g) fun n s => setLane n (if g < 16 then st else lnRest) st s)

/-- The rate a group runs at, in the codes of R92 (R201). -/
def groupRate (g r : Nat) (s : State) : State := s.put (F.HP_GROUP_STATE_RATE g) r

/-- Rate codes of 3.125 and 12.5 Gbaud. -/
def rate3125 : Nat := 1
def rate12500 : Nat := 3

/-- A lane's record, and its change. -/
def State.lane (s : State) (n : Nat) : Lane := Tab.get (fun _ => {}) s.lanes n
def State.setLn (s : State) (n : Nat) (f : Lane → Lane) : State :=
  { s with lanes := Tab.set (fun _ => {}) n (f (s.lane n)) s.lanes }

/-- A group's calibration record, and its change. -/
def State.cal (s : State) (g : Nat) : Cal := Tab.get (fun _ => {}) s.cals g
def State.setCal (s : State) (g : Nat) (f : Cal → Cal) : State :=
  { s with cals := Tab.set (fun _ => {}) g (f (s.cal g)) s.cals }

/-- Shows which lanes of a port hold lock (R196). -/
def showLocks (p mask : Nat) (s : State) : State :=
  s.each (List.range 5) fun i s => s.putB (F.HP_LANE_STATE_CDR_LOCK (chainLane p i)) (mask.testBit i)

/-- The lanes of a port in training, at 3.125 Gbaud, with no lock yet; RETIRED lanes come back (R187, R189). -/
def lanesTrain (p : Nat) (s : State) : State :=
  groupRate p rate3125 (showLocks p 0 (s.each (groupLanes p) fun n s => setLane n lnTrain lnTrain s))

/-- Is there signal energy on any lane of a port (R184)? -/
def State.energy (s : State) (p : Nat) : Bool := (groupLanes p).any fun n => s.on (F.HP_LANE_STATE_SIGDET n)

/-- The state of a half of lane `i` under a map at LINKED: active, spare, retired where it did not lock, standby otherwise (R187, R203). -/
def halfState (active spare locked i : Nat) : Nat :=
  if active.testBit i then lnActive
  else if spare.testBit i then lnSpare
  else if locked.testBit i then lnStandby else lnRetired

/-- The logical lanes of a bitmap of active lanes, in ascending physical order (R78). -/
def showCalMap (g : Nat) (fld : Nat → Nat → Fld) (active spare : Nat) (s : State) : State :=
  let ls := bitsOf 5 active
  let s := s.each (List.range 4) fun k s => s.put (fld g k) (ls.getD k 7)
  s.put (fld g 4) ((bitsOf 5 spare).getD 0 7)

/-- Writes the receive map of a port and the lane count that follows from it. -/
def State.setRxMap (s : State) (p active spare : Nat) : State :=
  let s := (s.put (F.CH_LANE_MAP_RX_ACTIVE p) active).put (F.CH_LANE_MAP_RX_SPARE p) spare
  showCalMap p calMapRx active spare (s.put (F.CH_LINK_STATUS_RX_LANES p) (popCount 5 active))

/-- Writes the transmit map of a port. -/
def State.setTxMap (s : State) (p active spare : Nat) : State :=
  let s := (s.put (F.CH_LANE_MAP_TX_ACTIVE p) active).put (F.CH_LANE_MAP_TX_SPARE p) spare
  showCalMap p calMapTx active spare (s.put (F.CH_LINK_STATUS_TX_LANES p) (popCount 5 active))

/-- A port that has not trained, or no longer: it shows no rate, map or lock (R92, R93). -/
def clearTrained (p : Nat) (s : State) : State :=
  showLocks p 0 (((s.put (F.CH_TRAIN_STATE_RATE p) 0).setRxMap p 0 0).setTxMap p 0 0)

/-- The lane states of a port that reaches LINKED. -/
def lanesLinked (p : Nat) (s : State) : State :=
  let c := s.port p
  s.each (List.range 5) fun i s =>
    let n := chainLane p i
    let rx := halfState (s.get (F.CH_LANE_MAP_RX_ACTIVE p)) (s.get (F.CH_LANE_MAP_RX_SPARE p)) c.locked i
    let s := setLane n
      (halfState (s.get (F.CH_LANE_MAP_TX_ACTIVE p)) (s.get (F.CH_LANE_MAP_TX_SPARE p)) c.partnerLocked i) rx s
    s.putB (F.HP_LANE_STATE_CDR_LOCK n) (rx == lnActive || rx == lnSpare)

/-! ### Equaliser settings (R198) and trim sets (R218) -/

/-- Receiver settings. -/
structure EqVals where
  ctle : Int := 0
  h1 : Int := 0
  h2 : Int := 0
  h3 : Int := 0
  h4 : Int := 0
  h5 : Int := 0
  deriving DecidableEq, Repr, Inhabited

/-- A bit field of a number. -/
def bits (v hi lo : Nat) : Nat := v / 2 ^ lo % 2 ^ (hi + 1 - lo)

/-- Settings laid out as HP_LANE_RXEQ. -/
def EqVals.ofWord (w : Word) : EqVals :=
  let v := w.toNat
  ⟨bits v 30 27, toInt 7 (bits v 26 20), toInt 5 (bits v 19 15), toInt 5 (bits v 14 10), toInt 5 (bits v 9 5), toInt 5 (bits v 4 0)⟩

/-- HP_LANE_RXEQ of settings. -/
def EqVals.word (e : EqVals) : Word :=
  BitVec.ofNat 32 (ofInt 4 e.ctle * 2 ^ 27 + ofInt 7 e.h1 * 2 ^ 20 + ofInt 5 e.h2 * 2 ^ 15 + ofInt 5 e.h3 * 2 ^ 10 +
    ofInt 5 e.h4 * 2 ^ 5 + ofInt 5 e.h5)

/-- Combines settings field by field. -/
def EqVals.zip (f : Int → Int → Int) (a b : EqVals) : EqVals :=
  ⟨f a.ctle b.ctle, f a.h1 b.h1, f a.h2 b.h2, f a.h3 b.h3, f a.h4 b.h4, f a.h5 b.h5⟩

/-- A value held in a range. -/
def clampI (lo hi v : Int) : Int := if v < lo then lo else if hi < v then hi else v

/-- Every field held in its range. -/
def EqVals.clamp (e : EqVals) : EqVals :=
  ⟨clampI 0 15 e.ctle, clampI (-64) 63 e.h1, clampI (-16) 15 e.h2, clampI (-16) 15 e.h3, clampI (-16) 15 e.h4, clampI (-16) 15 e.h5⟩

/-- A trim set (R218). -/
structure TrimSet where
  eq : EqVals
  valid : Bool
  width : Nat
  height : Nat
  count : Nat
  deriving DecidableEq, Repr, Inhabited

/-- Set `j` of lane `n`, from its two words. -/
def State.trimSet (s : State) (n j : Nat) : TrimSet :=
  let a := (s.rd (atTRIM n j)).toNat
  let b := (s.rd (atTRIM n j + 4)).toNat
  { eq := ⟨bits a 3 0, toInt 7 (bits a 10 4), toInt 5 (bits a 15 11), toInt 5 (bits a 20 16), toInt 5 (bits a 25 21), toInt 5 (bits a 30 26)⟩,
    valid := a.testBit 31, width := bits b 6 0, height := bits b 15 7, count := bits b 23 16 }

/-- Writes a trim set. -/
def setTrim (n j : Nat) (t : TrimSet) (s : State) : State :=
  let e := t.eq
  let a := ofInt 4 e.ctle + ofInt 7 e.h1 * 2 ^ 4 + ofInt 5 e.h2 * 2 ^ 11 + ofInt 5 e.h3 * 2 ^ 16 + ofInt 5 e.h4 * 2 ^ 21 +
    ofInt 5 e.h5 * 2 ^ 26 + (if t.valid then 2 ^ 31 else 0)
  let b := cut 7 t.width + cut 9 t.height * 2 ^ 7 + min t.count 255 * 2 ^ 16
  (s.wr (atTRIM n j) (BitVec.ofNat 32 a)).wr (atTRIM n j + 4) (BitVec.ofNat 32 b)

/-- rdiv of R218: round half away from zero. -/
def rdiv (num den : Int) : Int :=
  if 0 ≤ num then (num + den / 2) / den else -((-num + den / 2) / den)

/-- Temperature of set `j`, 0.125 degrees (R218). -/
def trimTemp (j : Nat) : Int := -320 + 320 * (j : Int)

/-- The lower bracketing set of a temperature held in range. -/
def trimLower (t : Int) : Nat := min ((t + 320) / 320).toNat 3

/-- The valid set nearest in temperature; a tie goes to the lower one. -/
def nearestValid (t : Int) (sets : List (Nat × TrimSet)) : Option TrimSet :=
  ((sets.filter fun e => e.2.valid).foldl (fun (b : Option (Nat × TrimSet)) e =>
    match b with
    | none => some e
    | some x => if (t - trimTemp e.1).natAbs < (t - trimTemp x.1).natAbs then some e else some x) none).map (·.2)

/-- The target of a lane's settings at a temperature (R218). -/
def trimTarget (n : Nat) (temp : Int) (s : State) : EqVals :=
  let t := clampI (-320) 960 temp
  let k := trimLower t
  let f := t - trimTemp k
  let a := s.trimSet n k
  let b := s.trimSet n (k + 1)
  if a.valid && b.valid then EqVals.zip (fun x y => x + rdiv ((y - x) * f) 320) a.eq b.eq
  else if a.valid then a.eq
  else if b.valid then b.eq
  else match nearestValid t ((List.range 5).map fun j => (j, s.trimSet n j)) with
    | some e => e.eq
    | none => EqVals.ofWord (s.rd (F.HP_LANE_RXEQ_CTLE n).addr)

/-- The trim write after acceptance: calibrated settings `c` at temperature `temp` (R218). -/
def trimWrite (n : Nat) (temp : Int) (c : EqVals) (w h : Nat) (s : State) : State :=
  let t := clampI (-320) 960 temp
  let k := trimLower t
  let f := t - trimTemp k
  let j := if f ≤ 160 then k else k + 1
  let o := if f ≤ 160 then k + 1 else k
  let d : Int := ((t - trimTemp j).natAbs : Nat)
  let so := s.trimSet n o
  let old := s.trimSet n j
  let e := if so.valid then (EqVals.zip (fun c o => rdiv (320 * c - d * o) (320 - d)) c so.eq).clamp else c
  setTrim n j ⟨e, true, w, h, old.count + 1⟩ s

/-- Recomputes a lane's target (R219, R226). -/
def retarget (n : Nat) (temp : Int) (s : State) : State :=
  s.wr (F.HP_LANE_CAL_TGT_CTLE n).addr (trimTarget n temp s).word

/-- Makes every trim set of a group invalid. -/
def trimInvalid (g : Nat) (s : State) : State :=
  s.each (groupLanes g) fun n s => s.each (List.range 5) fun j s => setTrim n j ⟨{}, false, 0, 0, 0⟩ s

/-- The trim blocks in the Cave that the running firmware reads: on trial those it has written itself, else those of its CAL_FMT (R220, R519). -/
def State.trimBlocks (s : State) : Tab Word × Tab (Nat × Nat) :=
  if s.inTrial then s.cave.trimTrial.getD ([], [])
  else if s.upd.run.all (fun f => f.calFmt == s.cave.trimFmt) then (s.cave.trim, s.cave.trimId) else ([], [])

/-- The lane whose trim sets hold a BAR0 offset (R227). -/
def trimLane (a : Nat) : Nat := 56 * (a / 0x1000000 % 8 - 5) + (a % 0x1000000 - 0x420000) / 0x40

/-- The trim blocks of the groups on some dies come from the Cave, each with the identity it carries; one that fails its check gives invalid sets and a
log entry, which names the group by its number on its die (R220, R533). -/
def loadTrims (trimFail dies : List Nat) (s : State) : State :=
  let s := s.each ((List.range 24).filter fun g => dies.contains (groupDie g)) fun g s =>
    s.setCal g fun x => { x with ident := Tab.get (fun _ => (0, 0)) s.trimBlocks.2 g }
  let s := s.each (s.trimBlocks.1.filter fun e =>
      let g := (laneGroup (trimLane e.1)).1
      dies.contains (groupDie g) && !trimFail.contains g) fun e s => s.wr e.1 e.2
  s.each ((List.range 24).filter fun g => dies.contains (groupDie g) && trimFail.contains g) fun g s =>
    s.logEv 1 (groupDie g) 0x0601 (groupIndex g) 0

/-- At LINKED trim sets of another WALL_ID or address are invalid, 0 standing for a sender's (R220); what is learned from then on is the port's own, and
stays over a retrain (R217). A tile that has no address yet holds the sets against the first it takes (DEDUCED, log entry 106). -/
def trimIdentity (p : Nat) (s : State) : State :=
  let wall := s.get F.RD_MOULD_ID_WALL_ID
  let own := if s.isSender then some 0 else s.enum.addr
  let was := (s.cal p).ident
  let s := s.setCal p fun x => { x with idDue := own.isNone, ident := (wall, own.getD was.2) }
  if was.1 == wall && own.all (was.2 == ·) then s else trimInvalid p s

/-- The ports whose blocks wait for the tile's address. -/
def trimAddress (s : State) : State := s.each ((List.range 2).filter fun p => (s.cal p).idDue && s.enum.addr.isSome) trimIdentity

/-! ### The end of a calibration step (R211, R212, R223) -/

/-- Outcome codes of R223. -/
def calAccepted : Nat := 0
def calDisagree : Nat := 1
def calBelowMin : Nat := 2
def calNoSettle : Nat := 3
def calLockLost : Nat := 4
def calBridgeFail : Nat := 5
def calAbandoned : Nat := 6
def calWorse : Nat := 7

/-- Lane indexes of a group whose receive half is in a state. -/
def State.rxIn (s : State) (g st : Nat) : List Nat :=
  (List.range (if g < 16 then 5 else 4)).filter fun i => s.get (F.HP_LANE_STATE_RXS (groupLane g i)) == st

/-- After a judged step on lane `q`: a rotation is full once every active lane and the spare have been measured. A requested rotation that has not begun
its first step yet does not end with this one (R212, R213). -/
def rotationStep (g q : Nat) (s : State) : State :=
  let m := setBit (s.cal g).measured q
  if (s.rxIn g lnActive ++ s.rxIn g lnSpare).all fun i => m.testBit i then
    let due := (s.cal g).rotDue
    let s := (s.inc (F.HP_CAL_STATUS_ROTATIONS g)).putB (F.HP_CAL_STATUS_REQUESTED g) due
    s.setCal g fun x => { x with measured := 0, requested := due, spare0 := none }
  else s.setCal g fun x => { x with measured := m }

/-- Ends the step in progress with an outcome. Its lane is ramped to its trim target again, which follows a temperature that moved during the step
(R217, R219). -/
def endStep (g outcome : Nat) (s : State) : State :=
  match (s.cal g).step with
  | none => s
  | some c =>
    let s := s.setCal g fun x => { x with step := none, ended := some s.raster.nextStart }
    let s := s.setLn (groupLane g c.lane) fun l => { l with aim := none, before := none }
    let s := s.when c.stale (retarget (groupLane g c.lane) (s.getI (F.HP_CAL_TEMP_TEMP g)))
    let s := ((s.put (F.HP_CAL_STATUS_STEP g) 0).put (F.HP_CAL_STATUS_VALID g) 1)
    if c.retiring then s
    else
      let s := ((s.bump (F.HP_CAL_STATUS_SEQ g)).put (F.HP_CAL_STATUS_OUTCOME g) outcome).inc (F.HP_CAL_COUNT_STEPS g)
      if outcome = calAbandoned then s.inc (F.HP_CAL_COUNT_ABANDONED g)
      else
        let s := if outcome = calAccepted then s else s.inc (F.HP_CAL_COUNT_FAILS g)
        if outcome = calBridgeFail then s else rotationStep g c.lane s

/-- A step abandoned (R217). -/
def calAbandon (g : Nat) (s : State) : State := endStep g calAbandoned s

/-- The receiver settings of a lane, HP_LANE_RXEQ: with MANUAL set, the manual ones (R186). Whatever a ramp before them was to undo or to reach is past
(R219). -/
def setRxEq (n : Nat) (w : Word) (s : State) : State :=
  let v := if s.on (F.HP_LANE_RXMAN_MANUAL n) then s.rd (F.HP_LANE_RXMAN_CTLE n).addr else w
  (s.wr (F.HP_LANE_RXEQ_CTLE n).addr (v &&& 0x7FFFFFFF)).setLn n fun l => { l with before := none, aim := none }

end Sys2Proof.Machine
end

