-- ==== Sys2Proof/Machine/Training.lean ====
section
/-!
DEFINITION. Link training, lane assignment, hop-delay measurement and enumeration (chapter 03, R76 to R86, R608, R609).
-/

namespace Sys2Proof.Machine

open Sys2Proof

/-! ### Training states (R77, R92) -/

def trRest : Nat := 0
def trDetect : Nat := 1
def trComma : Nat := 2
def trAnnounce : Nat := 3
def trConfirm : Nat := 4
def trRate : Nat := 5
def trDeskew : Nat := 6
def trHopmeas : Nat := 7
def trLinked : Nat := 8
def trWait : Nat := 9

/-- The training state of a port. -/
def State.train (s : State) (p : Nat) : Nat := s.get (F.CH_TRAIN_STATE_STATE p)

/-- Moves a port to a training state. -/
def State.toTrain (s : State) (p st : Nat) : State := s.put (F.CH_TRAIN_STATE_STATE p) st

/-- Training-set types of R76. -/
def tsA : Nat := 0x0A
def tsB : Nat := 0x0B

/-- The end type a part shows (R76). -/
def State.endType (s : State) : Nat := if s.isSender then s.senderEnd else if s.isTile then 0x10 else 0x11

/-- The 16 symbols of a training set of type `ty` on physical lane `lane` of port `p` (R76). LOCKED is zero in TSA. -/
def State.trainSet (s : State) (p ty lane : Nat) : List Nat :=
  let c := s.port p
  let d := [ty, lane, c.rate, c.lanes, c.spare, s.endType, if ty = tsB then c.locked else 0] ++
    leBytes 4 (s.get F.RD_MOULD_ID_WALL_ID) ++ leBytes 2 (s.get F.RD_MOULD_INFO_MOULD_SEQ) ++ [0]
  kSym 0xBC :: d ++ [crc8 d]

/-- Is a received set of a type valid: 16 symbols, aligned on K28.5, without a violation, and its check right (R76)? -/
def setValid (ty : Nat) (t : List Nat) : Bool :=
  t.length == 16 && t.headD 0 == kSym 0xBC && (t.drop 1).all (· < 256) && t.getD 1 0 == ty && crc8 ((t.drop 1).take 14) == t.getD 15 0

/-- Are the newest `n` sets of a lane, given newest first, valid sets of a type? -/
def setRun (n ty : Nat) (l : List (List Nat)) : Bool := n ≤ l.length && (l.take n).all (setValid ty)

/-- The same for sets that are identical as well. -/
def setRunSame (n ty : Nat) (l : List (List Nat)) : Bool := setRun n ty l && (l.take n).all (· == l.headD [])

/-- What a set carries (R76). -/
def decodeSet (t : List Nat) : Partner :=
  ⟨t.getD 3 0, t.getD 4 0, t.getD 5 0, t.getD 6 0, ofLe ((t.drop 8).take 4), ofLe ((t.drop 12).take 2)⟩

/-- Lanes whose received sets meet a condition, as a bitmap; `sets` holds each lane's sets, newest first. -/
def lanesWith (sets : List (List (List Nat))) (f : List (List Nat) → Bool) : Nat :=
  maskOfBits ((List.range 5).filter fun i => f (sets.getD i []))

/-- LOCKED of the partner's newest TSB on the lowest locked lane that has received `n` in a row, none before that (log entry 90). -/
def State.heardLocked (s : State) (p n : Nat) (sets : List (List (List Nat))) : Option Nat :=
  ((bitsOf 5 (s.port p).locked).find? fun i => setRun n tsB (sets.getD i [])).map fun i => ((sets.getD i []).headD []).getD 7 0 % 32

/-- Sends training sets of a type on every lane of a port; they pass through each lane's polarity (R182). -/
def sendSets (p ty : Nat) (s : State) : State :=
  s.each (List.range 5) fun i s => s.send (.training p i (s.trainSet p ty i) (s.txInv (chainLane p i)))

/-- A set as the receiver of a lane reads it from 16 ten-bit codes of the line: through its polarity, its disparity taken from the form of K28.5. -/
def State.readSet (s : State) (n : Nat) (codes : List Nat) : List Nat :=
  let l := codes.map (polar (s.rxInv n))
  decodeLane linkSyms (l.headD 0 == encSym true symCom) l

/-- The sets of each lane of a port, newest first, from their codes. -/
def State.readSets (s : State) (p : Nat) (sets : List (List (List Nat))) : List (List (List Nat)) :=
  sets.zipIdx.map fun e => e.1.map (s.readSet (chainLane p e.2))

/-- The OUT port of a tile without an image waits, in electrical idle, for the values its IN port receives (R77). -/
def State.waitsOut (s : State) (p : Nat) : Bool := s.noMouldTile && p == 1 && (s.port 1).rate == 0

/-- Enters a training state and sends what it sends (R77). -/
def enterTrain (p st : Nat) (s : State) : State :=
  let s := s.toTrain p st
  let idle := st == trWait || st == trRest || (st == trDetect && s.waitsOut p)
  let s := s.setPort p fun x => { x with txIdle := idle }
  if idle then s
  else if st ≤ trAnnounce then sendSets p tsA s
  else if st == trConfirm || st == trRate then sendSets p tsB s
  else if st == trDeskew then sendSets p tsB (s.send (.deskew p))
  else s

/-- A failed attempt: the cause is kept, the failure counted, and the port shows no rate, map or lock (R92, R93, R97). -/
def State.trainFail (s : State) (p cause next : Nat) : State :=
  let s := (s.put (F.CH_TRAIN_STATE_CAUSE p) cause).inc (F.CH_TRAIN_COUNT_FAILS p)
  enterTrain p next (groupRate p rate3125 (clearTrained p s))

/-- Is a receive direction up at a tile (R396)? Direction A comes in at port 0, B at port 1. -/
def State.dirUp (s : State) (dirB : Bool) : Bool :=
  let q := if dirB then 1 else 0
  s.linked q && !s.on (F.CH_LINK_STATUS_RX_GIVEN_UP q) && !(if dirB then s.tileRx.downB else s.tileRx.downA)

/-- The tile's own address, 0 if none. -/
def State.addr (s : State) : Nat := s.get (F.CH_ENUM_ADDR_COUNT 0)

/-- Every module's sensor has delivered a reading or is marked faulty. -/
def State.modulesRead (s : State) : Bool :=
  match s.mould.loaded with
  | some m => m.press.all fun c => s.on (F.RD_TH_MOD_FAULTY c.port) || s.get (F.RD_TH_MOD_TEMP c.port) != 0x8000
  | none => false

/-- The conditions of R87 that a READY tile must go on meeting: all but a locked raster, which HOLDOVER may follow. In K24 mode the legacy
chain's lock and its VS stand in for link, address and identity. -/
def State.mayBeReady (s : State) : Bool :=
  s.mould.loaded.isSome && s.tileRx.caveDone && s.modulesRead &&
    (if s.isK24 then s.k24Locked 0 && s.k24.vs
     else s.isTile && (s.dirUp false || s.dirUp true) && s.addr != 0 && !s.on (F.CH_ENUM_EXCESS 0) && !s.on (F.CH_ENUM_REVERSED 0) &&
       !s.on (F.CH_ENUM_MISMATCH 0))

/-- TILE_STATE of R90 from what the tile has reached. -/
def State.tileStateNow (s : State) : Nat :=
  if s.tileRx.ready && s.tileRx.showing then 6
  else if s.tileRx.ready then 5
  else if s.get (F.CH_RASTER_STATE_STATE 0) == 2 then 4
  else if s.get (F.CH_ENUM_ADDR_COUNT 0) != 0 || (s.isK24 && s.k24.vs) then 3
  else if s.linked 0 || s.linked 1 || s.k24Locked 0 then 2
  else if s.get F.RD_MOULD_STATUS_STATE == 1 then 1 else 0

/-- Refreshes TILE_STATE, which reads 0 in the sender role; a tile that no longer meets R87 is READY no more. -/
def State.retile (s : State) : State :=
  let s := if s.tileRx.ready && !s.mayBeReady then { s with tileRx := { s.tileRx with ready := false } } else s
  s.put F.RD_BOOT_STATUS_TILE_STATE (if s.isSender then 0 else s.tileStateNow)

/-! ### Lane assignment (R78) -/

/-- The mould's active lanes: the `n` lowest lanes of the five other than the spare (R53). -/
def mouldLanes (n spare : Nat) : List Nat := ((List.range 5).filter (· ≠ spare)).take n

/-- Active lanes and spare of a direction from the receiving end's LOCKED field: bitmaps. -/
def laneAssign (lockedMask n spare : Nat) : Nat × Nat :=
  let ls := bitsOf 5 lockedMask
  if ls.length = 5 then (maskOfBits (mouldLanes n spare), setBit 0 spare)
  else
    let k := min n ls.length
    let m := if 4 ≤ k then 4 else if 2 ≤ k then 2 else if 1 ≤ k then 1 else 0
    (maskOfBits (ls.take m), maskOfBits ((ls.drop m).take 1))

/-! ### The state machine (R77) -/

/-- DETECT to COMMA on signal energy. -/
def opDetectExit (p : Nat) (s : State) : State :=
  if s.train p != trDetect || !s.energy p || s.waitsOut p then s
  else enterTrain p trComma (s.inc (F.CH_TRAIN_COUNT_ATTEMPTS p))

/-- Lanes on which the receiver holds lock, recorded and shown. -/
def setLocked (p mask : Nat) (s : State) : State := showLocks p mask (s.setPort p fun x => { x with locked := mask })

/-- COMMA to ANNOUNCE once a lane has received 8 consecutive valid TSA. -/
def opCommaDone (p : Nat) (sets : List (List (List Nat))) (s : State) : State :=
  let locked := lanesWith (s.readSets p sets) (setRun 8 tsA)
  if s.train p != trComma || locked == 0 then s else enterTrain p trAnnounce (setLocked p locked s)

/-- A tile without a mould image takes rate, lane count and spare from its IN port's partner, for both its ports; a waiting OUT port then sends. -/
def takePartner (p : Nat) (v : Partner) (s : State) : State :=
  if s.noMouldTile && p == 0 then
    let f := fun (x : Port) => { x with rate := v.rate, lanes := v.lanes, spare := v.spare }
    let waited := s.waitsOut 1
    let s := (s.setPort 0 f).setPort 1 f
    if waited && s.train 1 == trDetect then enterTrain 1 trDetect s else s
  else s

/-- ANNOUNCE to CONFIRM on 16 identical valid TSA on every locked lane, or to WAIT with cause 3 on a rate or lane-count mismatch. Lanes that
lock within the state join; those that no longer hold lock, as `held` tells, are out. -/
def opAnnounceDone (p held : Nat) (sets : List (List (List Nat))) (s : State) : State :=
  let sets := s.readSets p sets
  let locked := ((s.port p).locked ||| lanesWith sets (setRun 8 tsA)) &&& held
  if s.train p != trAnnounce || locked == 0 || !(bitsOf 5 locked).all fun i => setRunSame 16 tsA (sets.getD i []) then s
  else
    let v := decodeSet ((sets.getD ((bitsOf 5 locked).headD 0) []).headD [])
    let s := takePartner p v ((setLocked p locked s).setPort p fun x => { x with partner := some v })
    let s := s.putB (F.CH_TRAIN_STATE_ID_DIFF p)
      (v.wallId != s.get F.RD_MOULD_ID_WALL_ID || v.mouldSeq != s.get F.RD_MOULD_INFO_MOULD_SEQ)
    if v.rate != (s.port p).rate || v.lanes != (s.port p).lanes then s.trainFail p 3 trWait
    else enterTrain p trConfirm s

/-- CONFIRM to RATE after 8 valid TSB received and 8 sent: the group runs at the port's rate, and adaptation starts from the trim set interpolated
for the temperature (R185). -/
def opConfirmDone (p : Nat) (sets : List (List (List Nat))) (s : State) : State :=
  match s.heardLocked p 8 (s.readSets p sets) with
  | none => s
  | some l =>
    if s.train p != trConfirm then s
    else
      let s := s.each (bitsOf 5 (s.port p).locked) fun i s =>
        setRxEq (chainLane p i) (trimTarget (chainLane p i) (s.cal p).temp s).word s
      let s := groupRate p (s.port p).rate (s.setPort p fun x => { x with partnerLocked := l })
      enterTrain p trRate s

/-- RATE to DESKEW: the trained rate is the port's own. The adapted settings of each lane of the set are `eq`, laid out as HP_LANE_RXEQ; a lane
with MANUAL set uses the manual ones (R185, R186). -/
def opRateDone (p : Nat) (eq : List Word) (sets : List (List (List Nat))) (s : State) : State :=
  if s.train p != trRate || (s.heardLocked p 8 (s.readSets p sets)).isNone then s
  else
    let s := s.each (bitsOf 5 (s.port p).locked) fun i s => setRxEq (chainLane p i) (eq.getD i 0) s
    enterTrain p trDeskew (s.put (F.CH_TRAIN_STATE_RATE p) (s.port p).rate)

/-- Refreshes DOWN_A and DOWN_B (R413). -/
def showDown (s : State) : State :=
  ((s.putB (F.CH_FO_TILE_DOWN_A 0) (!s.dirUp false)).putB (F.CH_FO_TILE_DOWN_B 0) (!s.dirUp true)).retile

/-- DESKEW to HOPMEAS: with the skew within 32 symbols, the final LOCKED fields fix both lane maps (R78); a lane that did not lock is logged. -/
def opDeskewDone (p locked skew : Nat) (sets : List (List (List Nat))) (s : State) : State :=
  let locked := locked % 32
  let partnerLocked := ((setLocked p locked s).heardLocked p 8 (s.readSets p sets)).getD 0
  if s.train p != trDeskew || locked == 0 || partnerLocked == 0 || 32 < skew then s
  else
    let s := sendSets p tsB (setLocked p locked s)
    let c := s.port p
    let rx := laneAssign locked c.lanes c.spare
    let tx := laneAssign partnerLocked c.lanes c.spare
    let s := (s.setRxMap p rx.1 rx.2).setTxMap p tx.1 tx.2
    let s := (s.put (F.CH_LINK_STATUS_RETIRED p) 0).put (F.CH_LINK_STATUS_RX_GIVEN_UP p) 0
    let s := s.setPort p fun x =>
      { x with partnerLocked := partnerLocked, laneErr := [], portErr := [], txGivenUp := false, rtSum := 0, rtCount := 0 }
    let s := s.each ((List.range 5).filter fun i => !locked.testBit i) fun i s =>
      s.logEv 1 (hoopOf p) 0x0401 (chainLane p i) 0
    enterTrain p trHopmeas s

/-- Half the mean of 256 round trips, rounded half up, from their sum (R80). -/
def segDelay (sum : Int) : Int := (sum + 256) / 512

/-- The end that transmits direction A on the segment measures it: sender A, a single sender, or a tile's OUT port (R80, R85). -/
def State.measures (s : State) (p : Nat) : Bool := if s.tileLike then p == 1 else s.senderEnd != 2

/-- The running disparities that a port's transmit lanes have when it reaches LINKED: the manual gives none, so they are a free value (log entry 100). -/
def drawDisparity (p : Nat) (s : State) : State :=
  let (w, s) := s.draw
  { s with disp := (List.range 5).foldl (fun d i => Tab.set (fun _ => false) (chainLane p i) (w.toNat.testBit i) d) s.disp }

/-- HOPMEAS to LINKED. The measuring end has done its 256 round trips, whose sum it keeps, and tells the other end d; the other end takes the `d` it is
told. The delay is reported, END clears at a tile's OUT port (R85), DOWN_x follows (R396), and a tile keeps its forwarding latency `fwd`. -/
def opHopmeasDone (p : Nat) (d : Int) (fwd : Nat) (s : State) : State :=
  if s.train p != trHopmeas || (s.measures p && (s.port p).rtCount != 256) then s
  else
    let d := if s.measures p then segDelay (s.port p).rtSum else d
    let s := if s.measures p then s.send (.segDelay p d) else s
    let s := (s.put (F.CH_SEG_DELAY_VALID p) 1).bump (F.CH_SEG_DELAY_SEQ p)
    let s := s.put (F.CH_SEG_DELAY_DELAY p) (ofInt 22 d)
    let s := drawDisparity p (lanesLinked p (s.toTrain p trLinked))
    let s := if s.tileLike then { s.put (F.HP_GROUP_STATE_REF (1 - p)) 1 with enum := { s.enum with fwd := fwd } } else s
    let s := trimIdentity p (s.setCal p fun x => { x with
      step := none, copies := (bitsOf 5 (s.get (F.CH_LANE_MAP_TX_SPARE p))).head?.map fun i => (i, 0), txDrop := none, retireNext := [] })
    let s := s.putI (F.HP_CAL_TEMP_TEMP p) (s.cal p).temp
    let s := (s.put (F.HP_CAL_STATUS_VALID p) 1).putB (F.HP_CAL_STATUS_IN_PLACE p) (s.rxIn p lnSpare).isEmpty
    let s := s.each (s.rxIn p lnActive ++ s.rxIn p lnSpare) fun i s => retarget (chainLane p i) (s.cal p).temp s
    let s := s.setPort p fun x => { x with rtSum := 0, rtCount := 0, drift := 0 }
    let s := if s.tileLike && p == 1 then
        let s := s.put (F.CH_TRAIN_STATE_END 1) 0
        { s with enum := { s.enum with outSilent := false } }
      else s
    if s.tileLike then showDown s else s.retile

/-- A state's limit expires: to WAIT with the cause R77 gives. -/
def opLimitExpiry (p : Nat) (s : State) : State :=
  let t := s.train p
  if t == trComma then s.trainFail p 6 trWait
  else if t == trAnnounce || t == trConfirm then s.trainFail p 2 trWait
  else if t == trRate || t == trHopmeas then s.trainFail p 4 trWait
  else if t == trDeskew then s.trainFail p 5 trWait
  else s

/-- No signal energy for 10 us in a training state: back to DETECT with cause 2 (R608). -/
def opEnergyLost (p : Nat) (s : State) : State :=
  if trComma ≤ s.train p && s.train p ≤ trHopmeas && !s.energy p then s.trainFail p 2 trDetect else s

/-- 100 ms in WAIT return the port to DETECT. -/
def opWaitExpiry (p : Nat) (s : State) : State := if s.train p == trWait then enterTrain p trDetect s else s

/-! ### Enumeration (R82 to R86) -/

/-- The DEST and SRC code of a sender end (R150). -/
def endCode (e : Nat) : Nat := 0xF0 + e

/-- The SRC of a packet of this part's own: its end, or its address, 0 while it has none (R150). -/
def State.ownCode (s : State) : Nat := if s.isSender then endCode s.senderEnd else s.addr

/-- Tiles the image gives a chain port. -/
def State.chainTiles (s : State) (p : Nat) : List Region :=
  match s.mould.loaded with
  | some m => ((m.chains.find? (·.port == p)).map (·.tiles)).getD []
  | none => []

/-- The payload of ENUM, and the packet (R152). -/
def enumBytes (origin hop n wallId mouldSeq cum : Nat) : List Nat :=
  [origin, hop, n, 0] ++ leBytes 4 wallId ++ leBytes 2 mouldSeq ++ [0, 0] ++ leBytes 4 cum
def enumPkt (src origin hop n wallId mouldSeq cum : Nat) : Pkt := ⟨0x01, 0xFF, src, 0, 4, enumBytes origin hop n wallId mouldSeq cum⟩

/-- The sender's ENUM on a port: hop count 0, delay 0. -/
def sendEnum (p : Nat) (s : State) : State :=
  let e := s.senderEnd
  let s := s.send (.ctrl p (enumPkt (endCode e) e 0 (s.chainTiles p).length
    (s.get F.RD_MOULD_ID_WALL_ID) (s.get F.RD_MOULD_INFO_MOULD_SEQ) 0))
  s.setPort p fun x => { x with enumStarted := true }

/-- Row ENUM_SEND: the sender port has reached LINKED, or a segment of its chain has trained, which the command itself tells (R82, log entry 95). -/
def opEnumSend (p : Nat) (s : State) : State := if s.isSender && s.linked p then sendEnum p s else s

/-- The repeat every 100 ms, or every 1 s once N addresses are heard. -/
def opEnumRepeat (p : Nat) (s : State) : State :=
  if s.isSender && s.linked p && (s.port p).enumStarted then sendEnum p s else s

/-- Writes the enumeration result of a tile; SEQ steps when any field below it changes (R95). -/
def State.enumResult (s : State) (f : State → State) : State :=
  let before := (s.rd (F.CH_ENUM_VALID 0).addr).toNat % 2 ^ 16
  let t := (f s).put (F.CH_ENUM_VALID 0) 1
  if (t.rd (F.CH_ENUM_VALID 0).addr).toNat % 2 ^ 16 = before then t else t.bump (F.CH_ENUM_SEQ 0)

/-- Counts consecutive ENUMs that agree on an address other than the tile's own. -/
def candidate (own addr cand cnt : Nat) : Nat × Nat :=
  if addr = own then (0, 0) else if addr = cand then (addr, cnt + 1) else (addr, 1)

/-- The address decision of R84 on an ENUM in the ring's direction that gives `addr`. -/
def Enum.decide (e : Enum) (fromA : Bool) (addr : Nat) (aOld : Bool) : Enum :=
  let own := e.addr.getD 0
  let first := e.addr.isNone
  let e := if fromA then
      let c := candidate own addr e.candA e.cntA
      { e with newestA := some addr, candA := c.1, cntA := c.2 }
    else
      let c := candidate own addr e.candB e.cntB
      { e with newestB := some addr, candB := c.1, cntB := c.2 }
  let take := first || (fromA && 3 ≤ e.cntA) || (!fromA && (aOld || e.newestA.isNone) && 3 ≤ e.cntB)
  if take then { e with addr := some addr, candA := 0, cntA := 0, candB := 0, cntB := 0 } else e

/-- CH_ENUM as the decision leaves it (R84, R86, R95). An address beyond the field shows as 63 (log entry 94). -/
def showEnum (fromA reversed : Bool) (n wallId mouldSeq : Nat) (s : State) : State :=
  let e := s.enum
  s.enumResult fun s =>
    let s := s.put (F.CH_ENUM_ADDR_COUNT 0) (min (e.addr.getD 0) 63)
    let s := s.putB (F.CH_ENUM_EXCESS 0) (e.addr.any fun a => a > n || a > 32 || a == 0)
    let s := s.putB (F.CH_ENUM_CONFLICT 0) (e.newestA.isSome && e.newestB.isSome && e.newestA != e.newestB)
    let s := if fromA then s.put (F.CH_ENUM_FROM_A 0) 1 else s.put (F.CH_ENUM_FROM_B 0) 1
    let s := s.putB (F.CH_ENUM_REVERSED 0) reversed
    s.putB (F.CH_ENUM_MISMATCH 0)
      (s.isTile && (wallId != s.get F.RD_MOULD_ID_WALL_ID || mouldSeq != s.get F.RD_MOULD_INFO_MOULD_SEQ))

/-- END on a single-sender chain whose OUT port has stayed in DETECT (R85); group 0 then runs on the clock recovered on port 0 (R178). -/
def endDecide (s : State) : State :=
  if s.enum.origin == 3 && s.enum.outSilent && s.train 1 == trDetect then
    (s.put (F.CH_TRAIN_STATE_END 1) 1).put (F.HP_GROUP_STATE_REF 0) 1
  else s

/-- ENUM at a tile (R83 to R86), which passes it on modified; at a sender port, the arriving ENUM of origin A gives CH_REF_DELAY (R133). -/
def opEnum (p origin hop n wallId mouldSeq cum : Nat) (aOld : Bool) (k : Pkt) (s : State) : State :=
  if s.isSender then (if origin == 1 then s.put (F.CH_REF_DELAY_DELAY p) cum else s)
  else if !s.tileLike then s
  else
    let fromA := origin != 2
    let onward := 1 - p
    let hop' := hop + 1
    let cum' := cum + s.get (F.CH_SEG_DELAY_DELAY p)
    let along := (fromA && p == 0) || (!fromA && p == 1)
    let s := if along then
        let s := if fromA then s.put (F.CH_CUM_DELAY_A_DELAY 0) cum' else s.put (F.CH_CUM_DELAY_B_DELAY 0) cum'
        let e := s.enum.decide fromA (if fromA then hop' else n + 1 - hop') aOld
        { s with enum := { e with n := n, origin := origin, wallId := wallId, mouldSeq := mouldSeq,
                                  validA := e.validA || fromA, validB := e.validB || !fromA } }
      else { s with enum := { s.enum with addr := none, candA := 0, cntA := 0, candB := 0, cntB := 0 } }
    let s := trimAddress (showEnum fromA (!along) n wallId mouldSeq s)
    let s := if along then endDecide s else s
    let s := if s.linked onward then
        s.send (.ctrl onward { k with data := enumBytes origin hop' n wallId mouldSeq (cum' + s.enum.fwd) })
      else s
    s.retile

/-- The OUT port has stayed in DETECT for 50 ms after the IN port reached LINKED. -/
def opEndDetect (s : State) : State :=
  if s.tileLike && s.linked 0 && s.train 1 == trDetect then
    endDecide { s with enum := { s.enum with outSilent := true } }
  else s

end Sys2Proof.Machine
end

