-- ==== Sys2Proof/Machine/WallTime.lean ====
section
/-!
DEFINITION. The raster, the wall timing generator and the judging of scheduled geometry (chapter 04, R98 to R111).
-/

namespace Sys2Proof.Machine

open Sys2Proof

/-! ### The raster arithmetic (R100) -/

/-- Raster units of a frame. -/
def Raster.total (r : Raster) : Nat := r.ltotal * 65536

/-- The arithmetic of `k` ticks at once: acc and rpos before the wrap is taken. -/
def Raster.advance (r : Raster) (k : Nat) : Nat × Nat :=
  let a := r.acc + k * r.stepN
  (a % r.stepD, r.rpos + a / r.stepD)

/-- Raster ticks by which a frame is shortened (R107). -/
def Raster.early (r : Raster) : Nat := if r.adj < 0 then r.adj.natAbs else 0

/-- One raster tick. A frame whose length is changed by `adj` ticks (R107) holds its last position for that many ticks, or
wraps that many ticks early. -/
def Raster.tick (r : Raster) : Raster :=
  let (acc, pos) := r.advance (1 + r.early)
  if r.total ≤ pos then
    if 0 < r.adj then { r with adj := r.adj - 1, ticks := r.ticks + 1 }
    else { r with acc := acc, rpos := pos - r.total, fnum := (r.fnum + 1) % 2 ^ 32, boundary := true, ticks := r.ticks + 1 }
  else
    let (acc, pos) := r.advance 1
    { r with acc := acc, rpos := pos, ticks := r.ticks + 1 }

/-- Ticks of the arithmetic of R100 from here to the wrap. -/
def Raster.toWrap (r : Raster) : Nat := ceilDiv ((r.total - r.rpos) * r.stepD - r.acc) (max r.stepN 1)

/-- The raster carried `k` ticks on, no further than the last tick of its frame, where an event takes place whose position a shortened frame never
reaches (R107); while a wrapped tick awaits its frame start it stays. The command of an event that the manual places on the raster says that the event's
position has come (log entry 97). -/
def Raster.forward (r : Raster) (k : Nat) : Raster :=
  if r.boundary then r
  else
    let k := min k (r.toWrap - r.early - 1)
    { r with acc := (r.advance k).1, rpos := (r.advance k).2, ticks := r.ticks + k }

/-- The raster carried to the first tick at or after a position of its frame, where it has not passed it. -/
def Raster.reach (r : Raster) (pos : Nat) : Raster :=
  if pos ≤ r.rpos then r else r.forward (ceilDiv ((pos - r.rpos) * r.stepD - r.acc) (max r.stepN 1))

/-- The raster carried to tick `n` of its frame, where it has not passed it. -/
def Raster.reachTick (r : Raster) (n : Nat) : Raster := r.forward (n - (r.rpos * r.stepD + r.acc) / max r.stepN 1)

/-- The raster carried to the tick on which its next frame starts: what its last advance passes the wrap by is kept (R100). -/
def Raster.wrapped (r : Raster) : Raster :=
  if r.boundary then r
  else { r with acc := (r.advance r.toWrap).1, rpos := (r.advance r.toWrap).2 - r.total, fnum := (r.fnum + 1) % 2 ^ 32, boundary := true,
                ticks := r.ticks + ((r.toWrap : Int) + r.adj).toNat }

/-- The same for the part's raster. -/
def reachTick (n : Nat) (s : State) : State := { s with raster := s.raster.reachTick n }

/-- The same for a position. -/
def reach (pos : Nat) (s : State) : State := { s with raster := s.raster.reach pos }

/-- Is a position of the frame reached before the frame ends, where a change of length shortens it (R107)? -/
def Raster.holds (r : Raster) (pos : Nat) : Bool :=
  pos * r.stepD + r.early * r.stepN < r.total * r.stepD

/-- Wall frames over which the lines of a composed frame of a port are spread (R165). -/
def State.spread (s : State) (p : Nat) : Nat := max (s.get (F.CH_LINK_STATUS_OVL_K p)) 1

/-- The raster position, counted from the start of the composed frame, at or after which chain line `c` starts; it may lie past the frame's end (R112).
Under overload the lines are spread evenly over the wall frames of the composed frame (DESIGN CHOICE, log entry 124). -/
def State.linePos (s : State) (p c : Nat) : Nat :=
  s.get (F.CH_CTG_OFFSET_OFF_LPOS p) * 65536 + s.get (F.CH_CTG_OFFSET_OFF_LPHASE p) +
    ceilDiv (c * s.spread p * s.raster.total) (max (s.get (F.CH_CTG_GEOM_LTOTAL_C p)) 1)

/-- The frame that chain line `c` belongs to when it starts in this wall frame, and its position there; none where its place is in another one. A line that
starts past the end of its frame stands in the frame after it (R112, R165). -/
def State.lineAt (s : State) (p c : Nat) : Option (Nat × Nat) :=
  let j := s.linePos p c / max s.raster.total 1
  if s.raster.fnum % s.spread p = j % s.spread p then some ((s.raster.fnum + 2 ^ 32 - j) % 2 ^ 32, s.linePos p c % max s.raster.total 1) else none

/-- Ticks of the frame in progress (R343, R107). -/
def State.frameTicks (s : State) : Int := (400000000 * s.raster.den / s.raster.num : Nat) + s.raster.adj

/-- Raster ticks left in a frame, and those gone. -/
def Raster.ticksLeft (r : Raster) : Nat := ((r.toWrap : Int) + r.adj).toNat
def Raster.tickIn (r : Raster) : Nat := (r.rpos * r.stepD + r.acc) / max r.stepN 1

/-- Row RASTER_TICK. In K24 mode a VS starts the frame: before HOLDOVER the last position is held for it (R548). -/
def opRasterTick (s : State) : State :=
  let r := s.raster.tick
  if !s.raster.running then s
  else if s.isK24 && s.get (F.CH_RASTER_STATE_STATE 0) != 3 && r.fnum != s.raster.fnum then
    { s with raster := { s.raster with ticks := r.ticks } }
  else { s with raster := r }

/-- Nominal frame period, in units of 1/NUM of a quarter nanosecond: DEN times 4 * 10^9. -/
def Raster.periodQ (r : Raster) : Nat := r.den * 4000000000

/-- Nominal frame period in nanoseconds, rounded to the nearest. -/
def Raster.periodNs (r : Raster) : Nat := roundDiv (r.den * 1000000000) r.num

/-! ### Geometry (R99, R56, R111) -/

/-- Is the rate above FRATE_MAX (R56)? -/
def rateAbove (num den frateMax : Nat) : Bool := num * 1000 > frateMax * den

/-- Is a geometry within the ranges of R99? -/
def geometryOk (lt num den : Nat) : Bool :=
  1 ≤ num && num ≤ 1048575 && 1 ≤ den && den ≤ 4095 && 64 ≤ lt && lt ≤ 65535 && lt * num ≤ 1000000 * den

/-- The pending geometry. -/
def State.pendGeometry (s : State) : Nat × Nat × Nat :=
  (s.getPend F.RD_WTG_LTOTAL_LTOTAL, s.getPend F.RD_WTG_FRATE_NUM, s.getPend F.RD_WTG_FRATE_DEN)

/-- Is a geometry value pending? -/
def State.geometryPending (s : State) : Bool :=
  s.pendGeometry != (s.get F.RD_WTG_LTOTAL_LTOTAL, s.get F.RD_WTG_FRATE_NUM, s.get F.RD_WTG_FRATE_DEN)

/-- A refusal of a scheduled change (R111): the values stay pending until a new S is written. -/
def schedRefuse (s : State) : State :=
  { s.flag F.RD_WTG_STATUS_SCHED_REFUSED with wtg := { s.wtg with sched := none, schedRefused := true } }

/-- The start of frame S - 8 judges the pending geometry: a rate above FRATE_MAX sets MOULD_LIMIT as well, whatever else is wrong (R111, R56). -/
def opSchedJudge (s : State) : State :=
  let d := ahead (s.get F.RD_WTG_SCHED_FNUM_S) s.raster.fnum
  if !s.isSender || !s.geometryPending || s.wtg.schedRefused || s.wtg.sched.isSome || d < 1 || 8 < d then s
  else
    let (lt, num, den) := s.pendGeometry
    let fast := den != 0 && rateAbove num den (s.get F.RD_MOULD_FRATE_MAX_FRATE_MAX)
    if !geometryOk lt num den || fast then (schedRefuse s).when fast (·.flag F.RD_MOULD_STATUS_MOULD_LIMIT)
    else { s with wtg := { s.wtg with sched := some (s.get F.RD_WTG_SCHED_FNUM_S, lt, num, den) } }

/-- After a write of LTOTAL, NUM, DEN or S (R111): at or after the start of frame S - 8 the change is refused; a new S
lets refused values be judged again. -/
def schedWritten (newS : Bool) (s : State) : State :=
  if !s.isSender then s
  else
    let s := if s.wtg.sched.isSome then schedRefuse s else s
    let s := if newS then { s with wtg := { s.wtg with schedRefused := false } } else s
    if s.geometryPending && ahead (s.get F.RD_WTG_SCHED_FNUM_S) s.raster.fnum ≤ 8 then schedRefuse s else s

/-! ### The lock loop (R104 to R107) -/

def wtgFree : Nat := 0
def wtgAcquire : Nat := 1
def wtgLocked : Nat := 2
def wtgHoldover : Nat := 3

/-- The reference in force. -/
def State.refSel (s : State) : Nat := s.get F.RD_WTG_CTRL_REF_SEL

/-- Writes the steering. -/
def setSteer (v : Int) (s : State) : State := s.put F.RD_WTG_STEER_STEER (ofInt 32 v)

/-- At each frame start the steering joins the history of the last 64 frames. -/
def steerFrame (s : State) : State :=
  { s with wtg := { s.wtg with steer := (s.getI F.RD_WTG_STEER_STEER :: s.wtg.steer).take 64 } }

/-- The mean of the kept steering (R106). DESIGN CHOICE (log entry 118): where fewer than 64 frames have run, the mean of those there are, 0 where there
is none; a quotient that is no whole number is rounded down. -/
def steerMean (l : List Int) : Int := if l.isEmpty then 0 else l.foldl (· + ·) 0 / (l.length : Int)

/-- Enters HOLDOVER: steering held at the mean of the last 64 frames (R106). -/
def toHoldover (s : State) : State :=
  if s.get F.RD_WTG_STATUS_STATE == wtgHoldover then s
  else
    let s := s.put F.RD_WTG_STEER_STEER (ofInt 32 (steerMean s.wtg.steer))
    { s.put F.RD_WTG_STATUS_STATE wtgHoldover with wtg := { s.wtg with good := 0, bad := 0, restored := 0 } }

/-- Enters ACQUIRE: a marked frame is chosen afresh (R105). -/
def toAcquire (s : State) : State :=
  { s.put F.RD_WTG_STATUS_STATE wtgAcquire with wtg := { s.wtg with good := 0, bad := 0, marked := none } }

/-- Enters ACQUIRE where REF_HOLD lets it; REF_HOLD = 1 forces HOLDOVER at once (R106). -/
def acquireOrHold (s : State) : State :=
  if s.on F.RD_WTG_CTRL_REF_HOLD then { toHoldover s with wtg := { (toHoldover s).wtg with marked := none } } else toAcquire s

/-- Loss of the reference (R105, R110): REF_LOST, HOLDOVER. -/
def refLost (s : State) : State := toHoldover (s.raise F.RD_WTG_STATUS_REF_LOST 0)

/-- An error brought into -1/2 to +1/2 of a period, both scaled by `n`. -/
def modPeriod (e p : Int) : Int := (e + p / 2) % p - p / 2

/-- The jump of R107, in raster ticks of 10 quarter-nanoseconds: the error modulo the frame period, removed. -/
def jumpTicks (errQ : Int) (num periodQ : Nat) : Int :=
  -((modPeriod (errQ * num) periodQ) / (10 * (num : Int)))

/-- A measured phase error, in 0.25 ns, is shown (R131). -/
def showPhase (errQ : Int) (s : State) : State :=
  ((s.put F.RD_WTG_PHASE_ERR_VALID 1).bump F.RD_WTG_PHASE_ERR_SEQ).putI F.RD_WTG_PHASE_ERR_ERR errQ

/-- One phase measurement, `errQ` in 0.25 ns (R106, R107, R131). No jump is decided from the decision of one to the end of the frame it changes.
The loop's law is not given: the steering it answers is a free value within 100 ppm. -/
def measurePhase (errQ : Int) (s : State) : State :=
  let s := showPhase errQ s
  let st := s.get F.RD_WTG_STATUS_STATE
  let r := s.raster
  if s.on F.RD_WTG_CTRL_REF_HOLD then toHoldover s
  else if st == wtgFree || st == wtgHoldover then s
  else if st == wtgAcquire && s.on F.RD_WTG_CTRL_JUMP_EN && s.wtg.jump.isNone && s.wtg.announced == 0 && s.raster.adj == 0
      && errQ.natAbs * r.num * r.ltotal > r.periodQ then
    { s.flag F.RD_WTG_STATUS_JUMPED with
      wtg := { s.wtg with jump := some (jumpTicks errQ r.num r.periodQ), good := 0 } }
  else
    let (v, s) := s.draw
    let s := setSteer ((v.toNat % 200000001 : Nat) - 100000000 : Int) s
    if st == wtgAcquire then
      let g := if errQ.natAbs ≤ 80 then s.wtg.good + 1 else 0
      let s := { s with wtg := { s.wtg with good := g } }
      if 16 ≤ g then { s.put F.RD_WTG_STATUS_STATE wtgLocked with wtg := { s.wtg with good := 0, bad := 0 } } else s
    else
      let b := if errQ.natAbs > 2000 then s.wtg.bad + 1 else 0
      let s := { s with wtg := { s.wtg with bad := b } }
      if 4 ≤ b then toAcquire s else s

/-- REF_OFFSET in 0.25 ns, modulo the frame period: it is added to the reference point (R106, R109, R129; log entry 19). -/
def State.refOffsetQ (s : State) : Int :=
  let n : Int := max s.raster.num 1
  modPeriod (s.getI F.RD_WTG_REF_OFFSET_OFFSET * 4 * n) s.raster.periodQ / n

/-- The error against an edge in 0.25 ns, from the frame whose start is nearest the edge and that start minus the edge: the error of the marked frame
nearest the edge. Every (GL_DIV + 1)-th frame is marked, from the first one on (R105). -/
def State.edgeError (s : State) (frame : Nat) (phase : Int) : Int :=
  let n : Int := (s.get F.RD_WTG_CTRL_GL_DIV + 1 : Nat)
  let d := modPeriod (ahead frame (s.wtg.marked.getD frame)) n
  phase - d * s.raster.periodQ / (max s.raster.num 1 : Nat)

/-- Row GENLOCK_EDGE (R105): `period` and `phase` in 0.25 ns. The WTG uses the edge that GL_EDGE selects. DESIGN CHOICE (log entry 99): periods agree
within 0.1 % where the greatest and the least differ by at most 0.1 % of the greatest. -/
def opGenlockEdge (rising : Bool) (period frame : Nat) (phase : Int) (s : State) : State :=
  if !s.isSender || s.refSel != 1 || rising == s.on F.RD_WTG_CTRL_GL_EDGE then s
  else
    let r := s.raster
    -- P and the measured period on one scale: P = (GL_DIV + 1) * DEN / NUM
    let p := (s.get F.RD_WTG_CTRL_GL_DIV + 1) * r.periodQ
    let m := period * r.num
    let dev := ((m : Int) - p).natAbs
    let out : Bool := decide (dev * 8 > p)
    let w := s.wtg
    let first := w.restart
    let agree : Bool := decide (0 < w.odd) && decide ((max w.oddMax period - min w.oddMin period) * 1000 ≤ max w.oddMax period)
    let w := if !out then { w with odd := 0 }
      else if agree then { w with odd := w.odd + 1, oddMin := min w.oddMin period, oddMax := max w.oddMax period }
      else { w with odd := 1, oddMin := period, oddMax := period }
    let w := { w with
      restored := if dev * 1000 ≤ p && !first then w.restored + 1 else 0,
      rateWait := w.rateWait && out,
      restart := out && !first }
    let s := { s.put F.RD_WTG_REF_PERIOD_PERIOD period with wtg := w }
    let s := if out && !first then (s.flag F.RD_WTG_STATUS_GLITCH).inc F.RD_WTG_STATUS_GLITCH_COUNT else s
    let s := if w.odd = 64 then
        let s := toHoldover (s.flag F.RD_WTG_STATUS_RATE_CHG)
        { s with wtg := { s.wtg with rateWait := true } }
      else s
    let s := if 16 ≤ w.restored && s.get F.RD_WTG_STATUS_STATE == wtgHoldover && !s.on F.RD_WTG_CTRL_REF_HOLD && !s.wtg.rateWait
      then toAcquire s else s
    if out || first then s
    else
      let s := { s with wtg := { s.wtg with marked := some (s.wtg.marked.getD frame) } }
      measurePhase (s.edgeError frame phase - s.refOffsetQ) s

/-- Row GENLOCK_STOP: no edge within 4 P (R105). -/
def opGenlockStop (s : State) : State :=
  if s.isSender && s.refSel == 1 then
    let s := refLost s
    { s with wtg := { s.wtg with restart := true, odd := 0, restored := 0 } }
  else s

/-- Row CHAIN_REF_MARKER_LOSS: three markers in a row missed on CHAIN_REF_PORT (R110). -/
def opChainRefMarkerLoss (s : State) : State :=
  if s.isSender && s.refSel == 3 then refLost { s with wtg := { s.wtg with missed := 0 } } else s

/-- 1/16 UI in picoseconds at a rate code of R76. -/
def sixteenthUi (rate : Nat) : Nat := if rate = 3 then 5 else if rate = 2 then 10 else 20

/-- A geometry comes into force at a sender, as its registers and their companions show (R129). -/
def setGeometry (lt num den : Nat) (s : State) : State :=
  let s := { s with raster := { s.raster with ltotal := lt, num := num, den := den } }
  ((s.put F.RD_WTG_LTOTAL_LTOTAL lt).put F.RD_WTG_FRATE_NUM num).put F.RD_WTG_FRATE_DEN den

/-- Row CHAIN_REF_MARKER_RX: `lag` is the marker's arrival minus this sender's own frame start, in ps (R110). -/
def opChainRefMarkerRx (p : Nat) (lag : Int) (k : RasterPkt) (s : State) : State :=
  if !s.isSender || s.refSel != 3 || p != s.get F.RD_WTG_CTRL_CHAIN_REF_PORT then s
  else
    let s := setGeometry k.ltotal k.num k.den { s with raster := { s.raster with fnum := k.fnum % 2 ^ 32 } }
    let s := { s with wtg := { s.wtg with seen := true, missed := 0 } }
    let s := if s.get F.RD_WTG_STATUS_STATE == wtgHoldover && !s.on F.RD_WTG_CTRL_REF_HOLD then toAcquire s else s
    let ref := lag - (k.residual * sixteenthUi (s.port p).rate : Nat) - (s.get (F.CH_REF_DELAY_DELAY p) : Nat) - k.cumAdj
    let err := (-ref) / 250 - s.refOffsetQ
    if s.wtg.ignoreFrame = some k.fnum then showPhase err { s with wtg := { s.wtg with ignoreFrame := none } }
    else measurePhase err s

/-- The change of geometry that the raster packets of a reference announce: taken, and dropped once they announce it no more (R110, R111). It stands
beside a change of the host's own, which a write can refuse. -/
def schedFollow (k : RasterPkt) (s : State) : State :=
  { s with wtg := { s.wtg with follow := if k.nextValid then some (k.s, k.ltotalS, k.numS, k.denS) else none } }

/-- A sender under REF_SEL 0b11 follows the changes its reference announces, one frame later for a changed length (R110). -/
def followRaster (k : RasterPkt) (s : State) : State :=
  let s := schedFollow k s
  if k.changedLen then
    { s with wtg := { s.wtg with jump := some k.lenAdj, ignoreFrame := some ((k.fnum + 2) % 2 ^ 32) } }
  else s

/-- PTP time in 0.25 ns. -/
def Ptp.quarter (t : Ptp) : Nat := (t.sec * 1000000000 + t.ns) * 4 + t.frac / 2 ^ 30

/-- The frame number of R109 nearest PTP time `q`, and the error against it, in 0.25 ns: t(n) = n * DEN / NUM + OFFSET. -/
def ptpFrame (q : Nat) (offQ : Int) (num den : Nat) : Int × Int :=
  let x := ((q : Int) - offQ) * num
  let d : Int := (den * 4000000000 : Nat)
  let n := (2 * x + d) / (2 * d)
  (n, (x - n * d) / num)

/-- At each frame start under REF_SEL 0b10: the error against PTP time, and FNUM from it (R109). -/
def ptpReference (s : State) : State :=
  if !s.isSender || s.refSel != 2 then s
  else
    let (n, e) := ptpFrame s.ptp.quarter s.refOffsetQ s.raster.num s.raster.den
    let s := { s with raster := { s.raster with fnum := ofInt 32 (n + s.wtg.base) } }
    let s := if s.get F.RD_WTG_STATUS_STATE == wtgHoldover && !s.on F.RD_WTG_CTRL_REF_HOLD then toAcquire s else s
    measurePhase e s

/-- After RD_WTG_CTRL.REF_SEL comes into force (R106). -/
def refSelApplied (old : Nat) (s : State) : State :=
  if !s.isSender || s.refSel == old then s
  else
    let s := { s with wtg := { s.wtg with
      restart := true, marked := none, odd := 0, restored := 0, rateWait := false, missed := 0, ignoreFrame := none, follow := none } }
    if s.refSel == 0 then (s.put F.RD_WTG_STATUS_STATE wtgFree).put F.RD_WTG_STEER_STEER 0 else acquireOrHold s

/-- After a write of RD_WTG_CTRL.REF_HOLD (R106). -/
def refHoldWritten (s : State) : State :=
  if !s.isSender then s
  else
    let st := s.get F.RD_WTG_STATUS_STATE
    if s.on F.RD_WTG_CTRL_REF_HOLD then (if st == wtgAcquire || st == wtgLocked then toHoldover s else s) else s

/-- A write to RD_WTG_FNUM_LOAD applied at its commit point (R108); the marked frame of R105 stays the frame it is, under its new number. -/
def fnumLoadApply (s : State) : State :=
  if s.isSender && s.refSel < 2 then
    let f := s.get F.RD_WTG_FNUM_LOAD_FNUM_LOAD
    { s with
      raster := { s.raster with fnum := f },
      wtg := { s.wtg with marked := s.wtg.marked.map fun m => (m + f + 2 ^ 32 - s.raster.fnum % 2 ^ 32) % 2 ^ 32 } }
  else s.flag F.RD_WTG_STATUS_FNUM_IGN

/-- The change of geometry that is next: one that a reference announces, else the host's accepted one (R110, R111). -/
def State.nextGeometry (s : State) : Option (Nat × Nat × Nat × Nat) := s.wtg.follow.or s.wtg.sched

/-- A change that takes effect at the start of this frame, and whether it is the host's own. -/
def State.geometryDue (s : State) : Option ((Nat × Nat × Nat × Nat) × Bool) :=
  match s.wtg.follow.filter (·.1 == s.raster.fnum) with
  | some g => some (g, false)
  | none => (s.wtg.sched.filter (·.1 == s.raster.fnum)).map fun g => (g, true)

/-- The start of frame S takes the new geometry (R100, R110, R111). -/
def geometryChange (s : State) : State :=
  match s.geometryDue with
  | none => s
  | some ((sf, lt, num, den), own) =>
    let s := if s.isSender then setGeometry lt num den s else s
    let s := { s with
      pend := if own then Tab.del F.RD_WTG_LTOTAL_LTOTAL.addr (Tab.del F.RD_WTG_FRATE_NUM.addr s.pend) else s.pend,
      raster := { s.raster with ltotal := lt, num := num, den := den, acc := 0, rpos := 0 },
      wtg := if own then { s.wtg with sched := none } else { s.wtg with follow := none } }
    let s := if s.refSel == 1 then acquireOrHold s else s
    if s.refSel == 2 then
      let n := (ptpFrame s.ptp.quarter s.refOffsetQ num den).1
      { s with wtg := { s.wtg with base := ofInt 32 ((sf : Int) - n) } }
    else s

/-- Under REF_SEL 0b10 the frame before a geometry change is lengthened to the first alignment point of the new rate at or after
its nominal end (R111): the ticks to add, announced by the RASTER packet of frame S - 2. -/
def ptpLengthen (s : State) : Int :=
  match s.nextGeometry with
  | some (sf, _, num, den) =>
    if s.refSel == 2 && ahead sf s.raster.fnum == 2 then
      let r := s.raster
      let endQ : Int := (s.ptp.quarter : Int) + ((2 * r.periodQ / r.num : Nat) : Int)
      let d : Int := (den * 4000000000 : Nat)
      let x := (endQ - s.refOffsetQ) * num
      let n := (x + d - 1) / d
      (n * d - x) / (10 * (num : Int))
    else 0
  | none => 0

/-- The frame-start share of R107: the frame named last time takes its changed length, and a decided jump is announced. -/
def lengthStep (s : State) : State :=
  let a := (s.wtg.jump.getD 0) + ptpLengthen s
  { s with
    raster := { s.raster with adj := s.raster.adjNext, adjNext := a },
    wtg := { s.wtg with jump := none, announced := a } }

end Sys2Proof.Machine
end

