-- ==== Sys2Proof/Machine/Commit.lean ====
section
/-!
DEFINITION. The commit cut, HOLD and GO (R121 to R125).
-/

namespace Sys2Proof.Machine

open Sys2Proof

/-- Does a register have fields that apply at a commit? -/
def commitBitsAt (a : Nat) : Word := match regAt a with | some r => r.commitBits | none => 0

/-- Takes every pending value with Applies COMMIT (R122); SCHED values stay pending. -/
def takePending (s : State) : State :=
  let mine := s.pend.filter fun e => commitBitsAt e.1 != 0
  { s with
    taken := mine.foldl (fun t e => Tab.set (fun _ => none) e.1 e.2 t) s.taken,
    pend := s.pend.filter fun e => commitBitsAt e.1 == 0,
    commit := { s.commit with
      takenAny := true,
      fnumLoadTaken := s.commit.fnumLoadTaken || s.commit.fnumLoad, fnumLoad := false } }

/-- The cut of the current frame (R121, R123, R124). A waiting group is taken at the cut before its frame, or at the first cut
after its acceptance when it is late; with HOLD set and no group nothing is taken. -/
def cutNow (s : State) : State :=
  let s := { s with raster := { s.raster with cutDone := true } }
  match s.commit.group with
  | some (t, late, stale) =>
    if ahead t s.raster.fnum ≤ 1 then
      { takePending s with commit := { (takePending s).commit with group := none, takenGroup := some (t, late, stale) } }
    else s
  | none => if s.on F.RD_COMMIT_CTRL_HOLD then s else takePending s

/-- CUT_LINES as R121 uses it: at least 20 us of lines. -/
def cutLines (s : State) : Nat :=
  max (s.get F.RD_WTG_CTRL_CUT_LINES) (ceilDiv (20 * s.raster.num * s.raster.ltotal) (1000000 * s.raster.den))

/-- The raster position of the cut (R121). -/
def cutPos (s : State) : Nat := (s.raster.ltotal - cutLines s) * 65536

/-- Row COMMIT_CUT: the raster comes to the cut of its frame. -/
def opCommitCut (s : State) : State :=
  if !s.raster.running || s.raster.cutDone then s else cutNow (reach (cutPos s) s)

/-- Has the cut of frame `f` passed when the raster is in frame `now` with its own cut passed or not? -/
def cutPassed (f now : Nat) (cutDone : Bool) : Bool :=
  let d := ahead f now
  d < 0 || (d == 0 && cutDone)

/-- A write of RD_COMMIT_GO (R123, R132): ignored while a group waits, with GO_IGN, and ignored while HOLD = 0. DESIGN CHOICE (log entry 99): a GO
that waits for its flush counts as a group that waits. -/
def opCommitGo (t : Nat) (s : State) : State :=
  if s.commit.group.isSome || s.commit.go.isSome then s.flag F.RD_COMMIT_STATUS_GO_IGN
  else if !s.on F.RD_COMMIT_CTRL_HOLD then s
  else { s with commit := { s.commit with go := some (t % 2 ^ 32, s.raster.fnum, s.raster.cutDone) } }

/-- The result of a group (R132). -/
def commitResult (late stale far : Bool) (applied : Option Nat) (s : State) : State :=
  let s := (s.put F.RD_COMMIT_RESULT_VALID 1).bump F.RD_COMMIT_RESULT_SEQ
  let s := ((s.putB F.RD_COMMIT_RESULT_LATE late).putB F.RD_COMMIT_RESULT_STALE stale).putB F.RD_COMMIT_RESULT_FAR far
  match applied with
  | some f => s.put F.RD_COMMIT_RESULT_APPLIED f
  | none => s

/-- Row COMMIT_GO_ACCEPT (R123, R124): the GO is judged by its arrival. DESIGN CHOICE (log entry 99): a FAR refusal shows LATE and STALE clear and keeps
APPLIED. -/
def opCommitGoAccept (s : State) : State :=
  match s.commit.go with
  | none => s
  | some (t, now, cutDone) =>
    let s := { s with commit := { s.commit with go := none } }
    if ahead t now > 256 then commitResult false false true none s
    else
      let late := cutPassed (t + 2 ^ 32 - 1) now cutDone
      let stale := cutPassed t now cutDone
      let s := { s.put F.RD_COMMIT_CTRL_HOLD 0 with commit := { s.commit with group := some (t, late, stale) } }
      -- the cut the group belongs to passed between arrival and acceptance
      if s.raster.running && s.raster.cutDone && !cutDone && ahead t s.raster.fnum ≤ 1 then cutNow s else s

/-- A write of RD_COMMIT_CTRL.HOLD (R123). -/
def opCommitHold (b : Bool) (s : State) : State := s.putB F.RD_COMMIT_CTRL_HOLD b

/-- Reports the group that a frame start applied (R124). -/
def commitReport (s : State) : State :=
  match s.commit.takenGroup with
  | none => s
  | some (_, late, stale) =>
    let s := { s with commit := { s.commit with takenGroup := none } }
    let s := commitResult late stale false (some s.raster.fnum) s
    if late then
      let s := (s.raise F.RD_COMMIT_STATUS_COMMIT_LATE 1).inc F.RD_COMMIT_STATUS_LATE_COUNT
      { s with tileRx := { s.tileRx with wheyLate := true } }
    else s

end Sys2Proof.Machine
end

