-- ==== Sys2Proof/Machine/TileRaster.lean ====
section
/-!
DEFINITION. Raster recovery in the tile, delay tracking and markers (R114 to R118, R139, R141).
-/

namespace Sys2Proof.Machine

open Sys2Proof

/-- Payload of a RASTER packet (R153). -/
def rasterBytes (k : RasterPkt) : List Nat :=
  leBytes 4 k.fnum ++ leBytes 2 k.ltotal ++ leBytes 3 k.num ++ leBytes 2 k.den ++
  [(if k.changedLen then 1 else 0) + (if k.nextValid then 2 else 0) + 4 * (k.ovlK % 8)] ++
  leBytes 2 k.residual ++ leBytes 4 (ofInt 32 k.cumAdj) ++ leBytes 4 (ofInt 32 k.lenAdj) ++
  leBytes 4 k.s ++ leBytes 2 k.ltotalS ++ leBytes 3 k.numS ++ leBytes 2 k.denS ++ [0, 0, 0]

/-- A RASTER packet from a source. -/
def rasterPkt (src : Nat) (k : RasterPkt) : Pkt := ⟨0x02, 0xFF, src, 0, 4, rasterBytes k⟩

/-- CUM_DELAY of a direction (R96). -/
def State.cumDelay (s : State) (dirB : Bool) : Nat :=
  if dirB then s.get (F.CH_CUM_DELAY_B_DELAY 0) else s.get (F.CH_CUM_DELAY_A_DELAY 0)

/-- The port a direction arrives on, and the port it leaves by (R28). -/
def rxPort (dirB : Bool) : Nat := if dirB then 1 else 0
def txPort (dirB : Bool) : Nat := if dirB then 0 else 1

/-- May the tile use a direction's markers (R115)? -/
def State.dirUsable (s : State) (dirB : Bool) : Bool := if dirB then s.enum.validB else s.enum.validA

/-- The active direction: 1 for B (R134). -/
def State.activeB (s : State) : Bool := s.get (F.CH_RASTER_STATE_DIR 0) == 1

/-- CUM_ADJ in use of a direction: as received, plus the drift of the receiving segment (R115). -/
def cumAdjUsed (dirB : Bool) (k : RasterPkt) (s : State) : Int := k.cumAdj + (s.port (rxPort dirB)).drift

/-- err of R115, in ps. -/
def markerErr (dirB : Bool) (lag : Int) (k : RasterPkt) (s : State) : Int :=
  lag - (k.residual * sixteenthUi (s.port (rxPort dirB)).rate : Nat) - ((s.cumDelay dirB : Int) + cumAdjUsed dirB k s)

/-- The first marker judged after entering ACQUIRE or changing direction: beyond 50 ns the raster jumps at the next frame boundary,
else the error is slewed out (R117, R118). -/
def judgeFirst (err : Int) (s : State) : State :=
  let s := { s with tileRas := { s.tileRas with fresh := false, good := if err.natAbs ≤ 2000 then 1 else 0 } }
  if err.natAbs > 50000 then
    let s := (s.flag (F.CH_RASTER_STATE_JUMPED 0)).inc (F.CH_RASTER_STATE_JUMP_COUNT 0)
    { s with tileRas := { s.tileRas with jump := some err, slew := 0 } }
  else { s with tileRas := { s.tileRas with slew := err } }

/-- The raster takes up a marker's frame number and geometry when it starts, at the place that lies `past` ps after the computed start (R115). -/
def rasterTake (past : Int) (k : RasterPkt) (s : State) : State :=
  let r := { s.raster with running := true, ltotal := k.ltotal, num := k.num, den := k.den, fnum := k.fnum % 2 ^ 32, acc := 0, rpos := 0 }
  let (acc, pos) := r.advance (past.toNat / 2500)
  { s with raster := { r with acc := acc, rpos := pos } }

/-- The raster follows the packet: its frame is numbered and its geometry taken as the packet says (R108, R115); a reception that began with this
frame takes the number too. -/
def rasterFollow (k : RasterPkt) (s : State) : State :=
  let old := s.raster.fnum
  let f := k.fnum % 2 ^ 32
  let s := { s with raster := { s.raster with ltotal := k.ltotal, num := k.num, den := k.den, fnum := f } }
  if s.tileRx.rx && s.tileRx.fnum == old then { s with tileRx := { s.tileRx with fnum := f } } else s

/-- Relays a raster marker on the onward port (R141). -/
def relayMarker (dirB : Bool) (s : State) : State :=
  if s.linked (txPort dirB) then s.send (.marker (txPort dirB)) else s

/-- CH_DELTA_AB: the start from A minus the start from B (R118). -/
def deltaAB (s : State) : State :=
  match s.tileRas.startA, s.tileRas.startB with
  | some a, some b =>
    if s.tileRas.seenA && s.tileRas.seenB then
      ((s.put (F.CH_DELTA_AB_VALID 0) 1).bump (F.CH_DELTA_AB_SEQ 0)).putI (F.CH_DELTA_AB_DELTA 0) (a - b)
    else s
  | _, _ => s

/-- Reports the direction's CUM_ADJ in use, and a total beyond 5 ns (R116). -/
def reportTrack (dirB : Bool) (adj : Int) (s : State) : State :=
  let s := if dirB then s.put (F.CH_TRACK_ADJ_B_ADJ 0) (ofInt 32 adj) else s.put (F.CH_TRACK_ADJ_A_ADJ 0) (ofInt 32 adj)
  if adj.natAbs > 5000 then s.flag (F.CH_RASTER_STATE_TRACK_LARGE 0) else s

/-- The first marker of a raster that is not running or holds over: ACQUIRE (R117). A raster that does not run starts in place. -/
def markerAcquire (dirB : Bool) (err : Int) (k : RasterPkt) (s : State) : State :=
  let s := if s.get (F.CH_RASTER_STATE_STATE 0) == 0 then rasterTake (-(markerErr dirB 0 k s)) k s else rasterFollow k s
  (judgeFirst err ((s.put (F.CH_RASTER_STATE_STATE 0) 1).putB (F.CH_RASTER_STATE_DIR 0) dirB)).retile

/-- A later marker: the error is slewed out, and 4 errors in a row within 2 ns lock the raster. -/
def markerTrack (err : Int) (s : State) : State :=
  let g := if err.natAbs ≤ 2000 then s.tileRas.good + 1 else 0
  let acquiring := s.get (F.CH_RASTER_STATE_STATE 0) == 1
  let s := { s with tileRas := { s.tileRas with slew := err, good := if acquiring then g else s.tileRas.good } }
  if acquiring && decide (4 ≤ g) then (s.put (F.CH_RASTER_STATE_STATE 0) 2).retile else s

/-- Notes a marker's computed start for its direction. -/
def markerNote (dirB : Bool) (err : Int) (s : State) : State :=
  if dirB then { s with tileRas := { s.tileRas with startB := some err, seenB := true } }
  else { s with tileRas := { s.tileRas with startA := some err, seenA := true } }

/-- Counts consecutive valid markers of a direction (R396). -/
def markerRun (dirB : Bool) (s : State) : State :=
  if dirB then { s with tileRx := { s.tileRx with upRunB := s.tileRx.upRunB + 1 } }
  else { s with tileRx := { s.tileRx with upRunA := s.tileRx.upRunA + 1 } }

/-- The marker of the direction in use steers the raster. -/
def markerUse (dirB : Bool) (err : Int) (k : RasterPkt) (s : State) : State :=
  let s := ((s.put (F.CH_RASTER_ERR_VALID 0) 1).bump (F.CH_RASTER_ERR_SEQ 0)).putI (F.CH_RASTER_ERR_ERR 0) err
  let s := { s with tileRas := { s.tileRas with missed := 0 } }
  let st := s.get (F.CH_RASTER_STATE_STATE 0)
  if st == 0 || st == 3 then markerAcquire dirB err k s
  else if s.tileRas.fresh then judgeFirst err (rasterFollow k s)
  else markerTrack err (rasterFollow k s)

/-- Row TILE_MARKER_RX (R115, R117, R118). -/
def opTileMarkerRx (dirB : Bool) (lag : Int) (k : RasterPkt) (s : State) : State :=
  if !s.tileLike then s
  else
    let s := markerRun dirB (relayMarker dirB s)
    if !s.dirUsable dirB then s
    else
      -- in NONE there is no raster and so no predicted start: this marker's computed start becomes it (log entry 77)
      let err := if s.get (F.CH_RASTER_STATE_STATE 0) == 0 then 0 else markerErr dirB lag k s
      let s := reportTrack dirB (cumAdjUsed dirB k s) (deltaAB (markerNote dirB err s))
      let st := s.get (F.CH_RASTER_STATE_STATE 0)
      if dirB == s.activeB || st == 0 || st == 3 then markerUse dirB err k s else s

/-- Row TILE_MARKER_MISSING (R117): a marker is missing or invalid; the third in a row of the active direction ends LOCKED. One that `came` without
its RASTER passes on as every raster marker does (R141). -/
def opTileMarkerMissing (dirB came : Bool) (s : State) : State :=
  let s := if s.tileLike && came then relayMarker dirB s else s
  let s := if !s.tileLike then s
    else if dirB then { s with tileRx := { s.tileRx with upRunB := 0 } } else { s with tileRx := { s.tileRx with upRunA := 0 } }
  if !s.tileLike || !s.dirUsable dirB then s
  else
    let s := s.flag (F.CH_RASTER_STATE_MISSED 0)
    if dirB != s.activeB then s
    else
      let n := s.tileRas.missed + 1
      let s := { s with tileRas := { s.tileRas with missed := n } }
      if 3 ≤ n && s.get (F.CH_RASTER_STATE_STATE 0) == 2 then (s.put (F.CH_RASTER_STATE_STATE 0) 3).retile else s

/-- Row RASTER: a tile pairs it with its marker, takes what it announces, adds its drift terms and forwards it; a sender follows
the announcements of its reference (R110, R116, R153). -/
def opRaster (p : Nat) (k : RasterPkt) (h : Pkt) (s : State) : State :=
  if s.isSender then
    (if s.refSel == 3 && p == s.get F.RD_WTG_CTRL_CHAIN_REF_PORT then followRaster k s else s)
  else if !s.tileLike then s
  else
    let dirB := p == 1
    let s := { s with tileRas := if dirB then { s.tileRas with rasterB := some k, cumAdjB := k.cumAdj }
                                 else { s.tileRas with rasterA := some k, cumAdjA := k.cumAdj } }
    let s := if dirB != s.activeB then s
      else
        let s := { s with tileRx := { s.tileRx with ovlK := k.ovlK } }
        let s := schedFollow k s
        if k.changedLen then { s with raster := { s.raster with adjNext := k.lenAdj } } else s
    let k' := { k with cumAdj := cumAdjUsed dirB k s + s.tileRas.fwdDrift }
    if s.linked (txPort dirB) then
      s.send (.ctrl (txPort dirB) { h with data := rasterBytes k' })
    else s

/-- A value moved toward a target by at most `m`. -/
def toward (v t m : Int) : Int := if t - v > m then v + m else if v - t > m then v - m else t

/-- Row TRACK_UPDATE: every 64 frames each end's drift term moves toward the mean of the round trips by at most 20 ps (R116). The measuring end has
them and tells the other end, which takes `mean`, half the mean round trip (log entry 98). -/
def opTrackUpdate (p : Nat) (mean : Option Int) (fwdMeas : Int) (s : State) : State :=
  let c := s.port p
  let mean := if !s.measures p then mean else if c.rtCount = 0 then none else some (c.rtSum / (2 * (c.rtCount : Int)))
  let s := match mean with
    | none => s
    | some d =>
      let s := s.setPort p fun x => { x with drift := toward x.drift (d - (s.get (F.CH_SEG_DELAY_DELAY p) : Int)) 20, rtSum := 0, rtCount := 0 }
      if s.measures p then s.send (.segDelay p d) else s
  if s.tileLike then { s with tileRas := { s.tileRas with fwdDrift := fwdMeas } } else s

/-- A DELAY_RSP packet (R152). -/
def delayRspPkt (src num turn : Nat) : Pkt := ⟨0x04, 0, src, 0, 4, [num % 256, 0, 0, 0] ++ leBytes 4 turn⟩

/-- Row DELAY_MARKER_ROUND_TRIP: the end that transmits direction A sends a delay marker; the other end answers with its own marker and
a DELAY_RSP (R141, R152). -/
def opDelayMarker (p : Nat) (own : Bool) (num turn : Nat) (s : State) : State :=
  if (s.train p != trLinked && s.train p != trHopmeas) || own != s.measures p then s
  else if own then s.send (.dmk p)
  else (s.send (.dmk p)).send (.ctrl p (delayRspPkt s.ownCode num turn))

/-- Row DELAY_RSP: t3 - t2 completes a round trip at the measuring end (R80); HOPMEAS makes 256 of them. -/
def opDelayRsp (p _num turn : Nat) (elapsed : Int) (s : State) : State :=
  if (s.linked p || (s.train p == trHopmeas && (s.port p).rtCount < 256)) && s.measures p then
    s.setPort p fun x => { x with rtSum := x.rtSum + (elapsed - turn), rtCount := x.rtCount + 1 }
  else s

end Sys2Proof.Machine
end

