-- ==== Sys2Proof/Machine/Chain.lean ====
section
/-!
DEFINITION. The Olirlis link: SAFE_DARK and urgent sets, control packets with their retries, whey at the sender, and the exit from LINKED
(chapter 05, R142, R143, R150 to R157, R164, R168 to R173).
-/

namespace Sys2Proof.Machine

open Sys2Proof

/-! ### Urgent control sets (R142, R143) -/

/-- Sends an urgent set onward, in the direction it travels. -/
def urgentOnward (dirB : Bool) (code arg : Nat) (s : State) : State :=
  if s.linked (txPort dirB) then s.send (.urgent (txPort dirB) code arg) else s

/-- Sets or clears a tile's dark flag of an origin, shown in both its port blocks (R143, R166). -/
def setDarkFlag (dirB on : Bool) (s : State) : State :=
  if dirB then (s.putB (F.CH_LINK_STATUS_DARK_B 0) on).putB (F.CH_LINK_STATUS_DARK_B 1) on
  else (s.putB (F.CH_LINK_STATUS_DARK_A 0) on).putB (F.CH_LINK_STATUS_DARK_A 1) on

/-- A dark flag of R143. -/
def State.darkFlag (s : State) (dirB : Bool) : Bool :=
  if dirB then s.on (F.CH_LINK_STATUS_DARK_B 0) else s.on (F.CH_LINK_STATUS_DARK_A 0)

/-- An urgent set arrives at port `p` (R142): with the code of the row, valid on enough lanes, and at a tile not within 64 columns of acting on the
same set from there, it acts with its ARG. -/
def onUrgent (p col : Nat) (copies : List (List Nat)) (code : Nat) (f : Nat → State → State) (s : State) : State :=
  match urgentVote (s.get (F.CH_LINK_STATUS_RX_LANES p)) copies with
  | none => s
  | some (c, a) =>
    let key := 256 * c + a
    let seen := match Tab.get (fun _ => none) (s.port p).urg key with | some last => decide (col < last + 64) | none => false
    if c ≠ code || (s.tileLike && seen) then s
    else f a (if s.tileLike then s.setPort p fun x => { x with urg := Tab.set (fun _ => none) key (some col) x.urg } else s)

/-- Row SAFE_DARK_ON at a tile. -/
def opSafeDarkOn (dirB : Bool) (arg : Nat) (s : State) : State :=
  if !s.tileLike then s
  else
    let s := setDarkFlag dirB true s
    let s := { s with tileRx := if dirB then { s.tileRx with ageB := 0 } else { s.tileRx with ageA := 0 } }
    pressDark (urgentOnward dirB 0x01 arg s)

/-- Row SAFE_DARK_OFF at a tile. -/
def opSafeDarkOff (dirB : Bool) (arg : Nat) (s : State) : State :=
  if !s.tileLike then s
  else pressDark (urgentOnward dirB 0x02 arg (setDarkFlag dirB false s))

/-- Row DARK_FLAG_TIMEOUT: 16 frames without a SAFE_DARK_ON from that origin. -/
def opDarkFlagTimeout (dirB : Bool) (s : State) : State :=
  if s.tileLike && 16 ≤ (if dirB then s.tileRx.ageB else s.tileRx.ageA) then pressDark (setDarkFlag dirB false s) else s

/-- Row URGENT_SET_BAD_CODE: a valid set with a code that the manual does not give. -/
def opUrgentBadCode (p : Nat) (copies : List (List Nat)) (s : State) : State :=
  match urgentVote (s.get (F.CH_LINK_STATUS_RX_LANES p)) copies with
  | some (code, _) => if code == 0x01 || code == 0x02 || code == 0x10 || code == 0x11 then s else s.inc (F.CH_CTRL_STAT_BAD p)
  | none => s

/-- A sender port enters dark, or repeats its cause: SAFE_DARK_ON goes out. -/
def portDarkOn (p : Nat) (s : State) : State :=
  let s := s.setPort p fun x => { x with dark := true, offLeft := 0 }
  if s.linked p then s.send (.urgent p 0x01 0) else s

/-- A sender port leaves dark when both causes have cleared: SAFE_DARK_OFF now, and in each of the next 4 frames. -/
def portDarkOff (p : Nat) (s : State) : State :=
  if !(s.port p).dark || s.sys.safeDark || (s.port p).darkWritten then s
  else
    let s := s.setPort p fun x => { x with dark := false, offLeft := 4 }
    if s.linked p then s.send (.urgent p 0x02 0) else s

/-- Row SAFE_DARK_PIN_SENDER. -/
def opSafeDarkPinSender (s : State) : State :=
  if !s.isSender then s
  else
    let s := { s with sys := { s.sys with safeDark := true } }
    s.each s.portsInUse fun p s => portDarkOn p s

/-- Row SAFE_DARK_PIN_TILE: the pin darkens the Press of a part that is no sender. -/
def opSafeDarkPinTile (s : State) : State :=
  if s.isSender then s else pressDark { s with sys := { s.sys with safeDark := true } }

/-- Row SAFE_DARK_PIN_RELEASE. -/
def opSafeDarkPinRelease (s : State) : State :=
  let s := { s with sys := { s.sys with safeDark := false } }
  if s.isSender then s.each s.portsInUse fun p s => portDarkOff p s else pressDark s

/-- A write of CH_URG_TX (R172): CODE 1 or 2 acts on this port alone, any other is ignored. -/
def opChUrgTx (p code _arg : Nat) (s : State) : State :=
  if !s.isSender then s
  else if code == 0x01 then portDarkOn p (s.setPort p fun x => { x with darkWritten := true })
  else if code == 0x02 then portDarkOff p (s.setPort p fun x => { x with darkWritten := false })
  else s

/-- The once-per-frame repeats of a sender port, directly after the raster marker (R143). -/
def darkRepeat (p : Nat) (s : State) : State :=
  let c := s.port p
  if c.dark then s.send (.urgent p 0x01 0)
  else if 0 < c.offLeft then (s.setPort p fun x => { x with offLeft := x.offLeft - 1 }).send (.urgent p 0x02 0)
  else s

/-! ### Leaving LINKED (R164, R172) -/

/-- A tile tells both directions that one of its receive directions has gone down (R396, R142). -/
def sendSegdown (dirB : Bool) (s : State) : State :=
  let arg := s.get (F.CH_ENUM_ADDR_COUNT 0) % 64 + (if dirB then 64 else 0)
  let s := if s.linked 0 then s.send (.urgent 0 0x11 arg) else s
  showDown (if s.linked 1 then s.send (.urgent 1 0x11 arg) else s)

/-- The exit from LINKED, in the frames whose chain lines have not all started (R296): to COMMA, or to DETECT where there is no energy; LOCK_LOST is set. -/
def linkExit (p : Nat) (s : State) : State :=
  if !s.linked p then s
  else
    let s := s.raise (F.CH_LINK_STATUS_LOCK_LOST p) 35
    let s := lanesTrain p (clearTrained p s)
    let s := if s.energy p then enterTrain p trComma (s.inc (F.CH_TRAIN_COUNT_ATTEMPTS p)) else enterTrain p trDetect s
    let s := (calAbandon p s).setCal p fun x => { x with txDrop := none, copies := none, retireNext := [] }
    let s := s.each (groupLanes p) fun n s => s.setLn n fun l => { l with before := none, aim := none }
    let act := s.get (F.CH_CTG_GEOM_ACTIVE_C p)
    let s := s.setPort p fun x =>
      { x with urg := [], so := x.so.zipIdx.map fun e => { e.1 with left := e.1.left || e.2 == 0 || (e.2 == 1 && e.1.next < act) } }
    (if s.tileLike then sendSegdown (p == 1) s else s).retile

/-- One of the four conditions of R164 holds. Silence is what the signal detectors of the active lanes show (R184), for the 10 us that the command tells. -/
def State.lossSeen (s : State) (p : Nat) (e : LossSigns) : Bool :=
  (!e.viols.isEmpty && e.viols.length == s.get (F.CH_LINK_STATUS_RX_LANES p) && e.viols.all (32 < ·)) || 2 ≤ e.unaligned || 9352 ≤ e.sinceSkp ||
    (e.silent && (s.rxIn p lnActive).all fun i => !s.on (F.HP_LANE_STATE_SIGDET (chainLane p i)))

/-- Row LINK_LOSS: a LINKED port leaves LINKED where one of the conditions holds. -/
def opLinkLoss (p : Nat) (e : LossSigns) (s : State) : State := if s.lossSeen p e then linkExit p s else s

/-! ### Control packets (R150 to R155, R168 to R170) -/

/-- ACK of R152. -/
def ackPkt (src dest seq result : Nat) : Pkt := ⟨0x06, dest, src, 0, 4, [seq % 256, result]⟩

/-- Sends an answer in the opposite direction, that is on the transmitter of the port the packet came in by, unless that
direction is given up (R154). -/
def answer (p : Nat) (k : Pkt) (s : State) : State :=
  if s.linked p && !(s.port p).txGivenUp then s.send (.ctrl p k) else s

/-- A packet passes on in its direction. -/
def forward (p : Nat) (k : Pkt) (s : State) : State := if s.linked (1 - p) then s.send (.ctrl (1 - p) k) else s

/-- A whey packet at a tile goes on in its direction; the end tile of a single-sender chain turns direction A's whey back (R85, R151, R156). -/
def passWhey (p : Nat) (k : Pkt) (s : State) : State :=
  if !s.tileLike then s
  else
    let q := if s.on (F.CH_TRAIN_STATE_END 1) then 0 else 1 - p
    if s.linked q then s.send (.whey q k) else s

/-- A packet that is discarded here passes on as it came, ending in EDB, where it goes further: not one that is hop-local, addressed to this part or
modified in passing (R151). -/
def passBad (p : Nat) (k : Pkt) (w : PktEnd) (s : State) : State :=
  let q := if isWhey k && s.on (F.CH_TRAIN_STATE_END 1) then 0 else 1 - p
  if !s.tileLike || k.dest = 0 || k.ty = 1 || k.ty = 2 || (s.addr ≠ 0 && k.dest = s.addr) || !s.linked q then s
  else s.send (.relay q (pktSyms k w.check true))

/-- A control or whey packet arrives at port `p` (R146, R151, R161): one that ends in EDB is discarded without being counted, one that fails its check
is counted in BAD; any other acts. -/
def receiveE (p : Nat) (k : Pkt) (w : PktEnd) (f : State → Except Fault State) (s : State) : Except Fault State :=
  if w.edb then .ok (passBad p k w s)
  else if w.check = pktCheck k then f s
  else .ok (passBad p k w (s.inc (F.CH_CTRL_STAT_BAD p)))

/-- The same for a packet whose effect is always well defined. -/
def receive (p : Nat) (k : Pkt) (w : PktEnd) (f : State → State) (s : State) : State :=
  if w.edb then passBad p k w s
  else if w.check = pktCheck k then f s
  else passBad p k w (s.inc (F.CH_CTRL_STAT_BAD p))

/-- Was this SEQ the last one executed from that source? Broadcasts and unicasts are counted apart. -/
def State.duplicate (s : State) (p src seq dest : Nat) : Bool :=
  Tab.get (fun _ => none) (s.port p).lastExec (if dest = 0xFF then 256 + src else src) == some seq

/-- Records a packet as executed, and the result of a unicast (R154, R155). -/
def noteExec (p src seq dest result : Nat) (s : State) : State :=
  let s := s.setPort p fun x =>
    { x with lastExec := Tab.set (fun _ => none) (if dest = 0xFF then 256 + src else src) (some seq) x.lastExec,
             lastResult := if dest = 0xFF then x.lastResult else Tab.set (fun _ => 0) src result x.lastResult,
             lastRead := if dest = 0xFF then x.lastRead else Tab.set (fun _ => none) src none x.lastRead }
  if dest = 0xFF then
    { s with tileRx := if src = 0xF2 then { s.tileRx with bcB := seq } else { s.tileRx with bcA := seq } }
  else s

/-- RD_RESP of R152. -/
def rdRespPkt (src dest seq : Nat) (vals : List Nat) : Pkt := ⟨0x12, dest, src, seq, 0, vals.flatMap (leBytes 4)⟩

/-- The answer to the last unicast executed from a source (R154): what a REG_RD read, or an ACK with its result. -/
def answerLast (p src seq : Nat) (s : State) : State :=
  match Tab.get (fun _ => none) (s.port p).lastRead src with
  | some vals => answer p (rdRespPkt s.addr src seq vals) s
  | none => answer p (ackPkt s.addr src seq (Tab.get (fun _ => 0) (s.port p).lastResult src)) s

/-- A packet a tile executes at most once (R151, R154): one for another tile passes on; a broadcast passes on and is executed; a unicast is
executed and acknowledged with `result`; a repeated SEQ is answered again without being executed. A hop-local one goes no further. Executing may be
unpredictable. -/
def execOnceE (p : Nat) (k : Pkt) (result : Nat) (f : State → Except Fault State) (s : State) : Except Fault State :=
  if !s.tileLike || k.dest = 0 then .ok s
  else if k.dest ≠ 0xFF && k.dest ≠ s.addr then .ok (forward p k s)
  else
    let s := if k.dest = 0xFF then forward p k s else s
    let finish : State → State := if k.dest = 0xFF then id else answerLast p k.src k.seq
    if s.duplicate p k.src k.seq k.dest then .ok (finish (s.inc (F.CH_CTRL_STAT_DUP p)))
    else match f s with
      | .ok t => .ok (finish (noteExec p k.src k.seq k.dest result t))
      | .error e => .error e

/-- The same for a packet that is always well defined. -/
def execOnce (p : Nat) (k : Pkt) (result : Nat) (f : State → State) (s : State) : State :=
  match execOnceE p k result (fun s => .ok (f s)) s with
  | .ok t => t
  | .error _ => s

/-- A packet whose payload cannot be what its type says: a unicast is answered with result 2, bad payload, and nothing is executed (R152). -/
def badPayload (p : Nat) (k : Pkt) (s : State) : State :=
  if !s.tileLike || k.dest = 0 then s
  else if k.dest = 0xFF || k.dest ≠ s.addr then forward p k s
  else answer p (ackPkt s.addr k.src k.seq 2) s

/-- The control packet types of R152. -/
def ctrlType (ty : Nat) : Bool := (1 ≤ ty && ty ≤ 6) || (0x10 ≤ ty && ty ≤ 0x13) || ty == 0x20 || (0x30 ≤ ty && ty ≤ 0x3F)

/-- Row CTRL_BAD_TYPE: a packet of any other type is counted, and answered where it asks for it; a broadcast and one for another tile pass on. -/
def opCtrlBadType (p : Nat) (k : Pkt) (s : State) : State :=
  if ctrlType k.ty || isWhey k then s
  else if s.tileLike && k.dest ≠ 0xFF && k.dest ≠ 0 && k.dest ≠ s.addr then forward p k s
  else
    let s := if s.tileLike && k.dest = 0xFF then forward p k s else s
    let s := s.inc (F.CH_CTRL_STAT_BAD p)
    if k.flags.testBit 0 && s.tileLike then answer p (ackPkt s.addr k.src k.seq 1) s else s

/-- Writes the state of CH_CTRL_TX_RESULT; a final state sets VALID and steps SEQ (R169). -/
def txResult (p st result : Nat) (s : State) : State :=
  let s := (s.put (F.CH_CTRL_TX_RESULT_STATE p) st).put (F.CH_CTRL_TX_RESULT_RESULT p) result
  if 3 ≤ st then (s.put (F.CH_CTRL_TX_RESULT_VALID p) 1).bump (F.CH_CTRL_TX_RESULT_SEQ p)
  else s.put (F.CH_CTRL_TX_RESULT_VALID p) 0

/-- The next SEQ towards a destination (R154). -/
def State.nextSeq (s : State) (p dest : Nat) : Nat := (Tab.get (fun _ => 0) (s.port p).seqOut dest + 1) % 256

/-- Sends a packet on a sender port with its SEQ and remembers it until it is answered. -/
def launch (p : Nat) (host : Bool) (k : Pkt) (s : State) : State :=
  let q := s.nextSeq p k.dest
  let k := { k with seq := q }
  let fl : InFlight := { pkt := k, host := host }
  let s := s.setPort p fun x =>
    { x with seqOut := Tab.set (fun _ => 0) k.dest q x.seqOut,
             unacked := if k.dest = 0xFF then x.unacked else Tab.set (fun _ => none) k.dest (some fl) x.unacked,
             bcast := if k.dest = 0xFF then some fl else x.bcast }
  let s := if host then txResult p 2 0 (s.put (F.CH_CTRL_TX_RESULT_PKT_SEQ p) q) else s
  s.send (.ctrl p k)

/-- Sends a packet now, or queues it: at most one unacknowledged unicast to each destination, one broadcast at a time. -/
def submit (p : Nat) (host : Bool) (k : Pkt) (s : State) : State :=
  let c := s.port p
  if k.dest = 0xFF then
    if c.bcast.isSome then
      (s.setPort p fun x => { x with bcastWait := x.bcastWait ++ [{ pkt := k, host := host }] }).when host (txResult p 1 0)
    else launch p host k s
  else if (Tab.get (fun _ => none) c.unacked k.dest).isSome then
    (s.setPort p fun x => { x with uniWait := x.uniWait ++ [{ pkt := k, host := host }] }).when host (txResult p 1 0)
  else launch p host k s

/-- After a unicast ends: the next one that waits for the same destination goes out. -/
def nextUnicast (p dest : Nat) (s : State) : State :=
  match (s.port p).uniWait.find? (fun f => f.pkt.dest == dest) with
  | some f =>
    let s := s.setPort p fun x => { x with uniWait := x.uniWait.erase f }
    launch p f.host f.pkt s
  | none => s

/-- After a broadcast ends: the next one goes out. -/
def nextBroadcast (p : Nat) (s : State) : State :=
  match (s.port p).bcastWait with
  | f :: t => launch p f.host f.pkt (s.setPort p fun x => { x with bcastWait := t })
  | [] => s

/-- First word of the control buffers of a port; `rx` for RXBUF. -/
def bufAddr (p : Nat) (rx : Bool) : Nat :=
  dieBase (hoopOf p) + 0x300000 + 0x200 * (p % 8) + (if rx then 0x100 else 0)

/-- The first `n` bytes of TXBUF. -/
def State.txBytes (s : State) (p n : Nat) : List Nat :=
  ((List.range 64).flatMap fun i => leBytes 4 (s.rd (bufAddr p false + 4 * i)).toNat).take n

/-- Words of bytes, zero-filled. -/
def wordsOf : Nat → List Nat → List Nat
  | 0, _ => []
  | n + 1, l => ofLe (l.take 4) :: wordsOf n (l.drop 4)

/-- A write of CH_CTRL_TX_CMD (R168). A REG_RD is unicast by R152. -/
def opCtrlTxCmd (p ty dest len : Nat) (s : State) : State :=
  let tyOk := ty == 0x10 || ty == 0x11 || ty == 0x13 || (0x30 ≤ ty && ty ≤ 0x3F)
  let destOk := (1 ≤ dest && dest ≤ 32) || (dest == 0xFF && ty != 0x11)
  if !s.isSender || !tyOk || !destOk || 248 < len then txResult p 5 0 s
  else submit p true ⟨ty, dest, endCode s.senderEnd, 0, if dest = 0xFF then 0 else 1, s.txBytes p len⟩ s

/-- The end of an unanswered or answered unicast at the sender: its record is dropped, its result reported. -/
def endUnicast (p dest st result : Nat) (s : State) : State :=
  match Tab.get (fun _ => none) (s.port p).unacked dest with
  | none => s
  | some f =>
    let s := s.setPort p fun x => { x with unacked := Tab.set (fun _ => none) dest none x.unacked }
    nextUnicast p dest (s.when f.host (txResult p st result))

/-- Does an answer from `src` with this SEQ end the unicast that waits for it? -/
def State.answers (s : State) (p src seq : Nat) : Bool :=
  match Tab.get (fun _ => none) (s.port p).unacked src with
  | some f => f.pkt.seq == seq
  | none => false

/-- Is an answer for this part: at a sender every one, at a tile those that carry its address? -/
def State.forMe (s : State) (dest : Nat) : Bool := s.isSender || (s.addr != 0 && dest == s.addr)

/-- Row ACK at its destination (R152, R154); any other tile forwards it. -/
def opAck (p src seq result : Nat) (k : Pkt) (s : State) : State :=
  if s.forMe k.dest then (if s.answers p src seq then endUnicast p src 3 result s else s)
  else if s.tileLike && k.dest ≠ 0 then forward p k s
  else s

/-- Adds a received packet that the port does not handle itself (R170). -/
def rxPush (p : Nat) (k : Pkt) (s : State) : State := s.setPort p fun x => { x with rxq := x.rxq ++ [k] }

/-- Row RD_RESP at the sender; a tile forwards it. -/
def opRdResp (p : Nat) (k : Pkt) (s : State) : State :=
  if s.forMe k.dest then (if s.answers p k.src k.seq then endUnicast p k.src 3 0 (rxPush p k s) else s)
  else if s.tileLike && k.dest ≠ 0 then forward p k s
  else s

/-- Row CTRL_RETRY_TIMEOUT: no answer within 1 ms (R154): up to 3 resends with RETRY, then NOACK. -/
def opCtrlRetry (p dest : Nat) (s : State) : State :=
  match Tab.get (fun _ => none) (s.port p).unacked dest with
  | none => s
  | some f =>
    if f.resends < 3 then
      let k := { f.pkt with flags := f.pkt.flags ||| 2 }
      let s := s.setPort p fun x =>
        { x with unacked := Tab.set (fun _ => none) dest (some { f with pkt := k, resends := f.resends + 1 }) x.unacked }
      (s.inc (F.CH_CTRL_STAT_RETRIES p)).send (.ctrl p k)
    else endUnicast p dest 4 0 (s.inc (F.CH_CTRL_STAT_NOACK p))

/-- The end of a broadcast at the sender. -/
def endBroadcast (p st : Nat) (s : State) : State :=
  match (s.port p).bcast with
  | none => s
  | some f =>
    let s := s.setPort p fun x => { x with bcast := none }
    nextBroadcast p (s.when f.host (txResult p st 0))

/-- Row BROADCAST_CONFIRM_TIMEOUT: not every READY tile reported the SEQ within 3 frames (R155). -/
def opBcastTimeout (p : Nat) (s : State) : State :=
  match (s.port p).bcast with
  | none => s
  | some f =>
    if f.frames < 3 then s
    else if f.resends < 3 then
      let k := { f.pkt with flags := f.pkt.flags ||| 2 }
      let s := s.setPort p fun x => { x with bcast := some { f with pkt := k, resends := f.resends + 1, frames := 0 } }
      (s.inc (F.CH_CTRL_STAT_RETRIES p)).send (.ctrl p k)
    else endBroadcast p 4 (s.inc (F.CH_CTRL_STAT_NOACK p))

/-- A read of CH_CTRL_RX_POP (R170). -/
def opCtrlRxPop (p : Nat) (s : State) : State :=
  match (s.port p).rxq with
  | [] => s.reply [0]
  | k :: t =>
    let s := s.setPort p fun x => { x with rxq := t }
    let s := s.each ((wordsOf 64 k.data).zipIdx) fun w s => s.wr (bufAddr p true + 4 * w.2) (BitVec.ofNat 32 w.1)
    s.reply [2 ^ 31 + (k.ty % 256) * 2 ^ 16 + (k.src % 256) * 2 ^ 8 + k.data.length % 256]

/-- The payload of LAMPFAULT (R157). -/
def lampfaultPkt (a f : Nat) (entries : List (Nat × Nat)) (more overflow : Bool) : Pkt :=
  ⟨0x83, 0xFE, a, 0, 0, leBytes 2 f ++ [entries.length, (if more then 1 else 0) + (if overflow then 2 else 0)] ++
    entries.flatMap fun e => leBytes 4 (e.1 % 2 ^ 21 + e.2 % 16 * 2 ^ 21)⟩

/-- Row LAMPFAULT at a sender (R171): the queue holds 8,192 entries, further ones are dropped and counted; a tile passes it on. -/
def opLampfault (p a : Nat) (entries : List (Nat × Nat)) (k : Pkt) (s : State) : State :=
  if !s.isSender then passWhey p k s
  else s.each entries fun e s =>
    if (s.port p).whey.length < 8192 then
      s.setPort p fun x =>
        { x with whey := x.whey ++ [2 ^ 31 + (a % 64) * 2 ^ 25 + (e.2 % 16) * 2 ^ 21 + e.1 % 2 ^ 21] }
    else s.inc (F.CH_CTRL_STAT_BAD p)

/-- A read of CH_WHEY_POP (R171). -/
def opWheyPop (p : Nat) (s : State) : State :=
  match (s.port p).whey with
  | [] => s.reply [0]
  | w :: t => (s.setPort p fun x => { x with whey := t }).reply [w]

/-! ### STATUS at the sender (R157, R173, R82, R155) -/

/-- The first of the eight words of a tile's STATUS copy (R173). -/
def copyAddr (p a : Nat) : Nat := dieBase (hoopOf p) + 0x200000 + 0x400 * (p % 8) + 0x20 * (a - 1)

/-- A read of the first word of a STATUS copy captures all eight. -/
def opStatusCopyRead (p a : Nat) (s : State) : State :=
  let b := copyAddr p a
  let cap := (List.range 7).foldl (fun t i => Tab.set (fun _ => none) (b + 4 * (i + 1)) (some (s.rd (b + 4 * (i + 1)))) t) s.acc.captured
  { s with acc := { s.acc with captured := cap, rdata := [(s.rd b).toNat] } }

/-- Have all READY tiles of the port reported the outstanding broadcast? -/
def bcastConfirmed (p : Nat) (s : State) : Bool :=
  match (s.port p).bcast with
  | none => false
  | some f =>
    let c := s.port p
    (bitsOf 33 c.heard).all fun a =>
      Tab.get (fun _ => 0) c.tileState a < 5 || Tab.get (fun _ => 256) c.bcSeen a == f.pkt.seq

/-- Row STATUS at a sender: the tile's copy, the distinct addresses heard, the identity, and the broadcast SEQ it executed. -/
def opStatus (p : Nat) (b : List Nat) (k : Pkt) (s : State) : State :=
  let a := b.getD 0 0 % 64
  if !s.isSender then passWhey p k s
  else if a == 0 || 32 < a then s
  else
    let s := s.each ((wordsOf 8 b).zipIdx) fun w s => s.wr (copyAddr p a + 4 * w.2) (BitVec.ofNat 32 w.1)
    let wid := ofLe ((b.drop 8).take 4)
    let msq := ofLe ((b.drop 12).take 2)
    let same := wid == s.get F.RD_MOULD_ID_WALL_ID && msq == s.get F.RD_MOULD_INFO_MOULD_SEQ && !(b.getD 2 0).testBit 0
    let bc := if s.senderEnd == 2 then b.getD 17 0 else b.getD 16 0
    let s := s.setPort p fun x =>
      { x with heard := setBit x.heard a,
               agree := if same then setBit x.agree a else clearBit x.agree a,
               tileState := Tab.set (fun _ => 0) a (b.getD 1 0 % 16) x.tileState,
               bcSeen := Tab.set (fun _ => 256) a bc x.bcSeen }
    let n := popCount 33 (s.port p).heard
    let t := s.get (F.CH_FO_TILES_B_TILES p)
    let s := s.put (F.CH_FO_TILES_B_TILES p) (if (b.getD 1 0).testBit 6 then setBit t (a - 1) else clearBit t (a - 1))
    let s := if s.get (F.CH_ENUM_ADDR_COUNT p) == n then s
      else ((s.put (F.CH_ENUM_ADDR_COUNT p) n).put (F.CH_ENUM_VALID p) 1).bump (F.CH_ENUM_SEQ p)
    if bcastConfirmed p s then endBroadcast p 3 s else s

end Sys2Proof.Machine
end

