-- ==== Sys2Proof/Machine/Lanes.lean ====
section
/-!
DEFINITION. Serial lanes: references, transmit settings, manual receiver settings, PRBS, TEST and the host's eye scans (chapter 06, R175 to R201).
-/

namespace Sys2Proof.Machine

open Sys2Proof

/-! ### Group PLL and its reference (R177, R179) -/

/-- Row REF_SWITCH: a tile group on a recovered clock falls back to LREFCLK0. -/
def opRefSwitch (g : Nat) (s : State) : State :=
  if s.tileLike && g < 2 && s.on (F.HP_GROUP_STATE_REF g) then
    (s.put (F.HP_GROUP_STATE_REF g) 0).flag (F.HP_GROUP_STATE_REF_SWITCHED g)
  else s

/-- Row REF_SWITCH_BACK. -/
def opRefSwitchBack (g : Nat) (s : State) : State :=
  if s.tileLike && g < 2 then s.put (F.HP_GROUP_STATE_REF g) 1 else s

/-! ### Signal detector and CDR (R184, R196) -/

/-- Row SIGNAL_DETECT_CHANGE; the detector is off in REST and RETIRED (R187). -/
def opSignalDetect (lane : Nat) (on : Bool) (s : State) : State :=
  let st := s.get (F.HP_LANE_STATE_RXS lane)
  if st == lnRest || st == lnRetired then s else s.putB (F.HP_LANE_STATE_SIGDET lane) on

/-- Ends a host eye scan with a result code; only a completed one changes WIDTH, HEIGHT and the point (R195, R200). -/
def eyeEnd (lane res : Nat) (s : State) : State :=
  let s := (s.put (F.HP_EYE_RESULT_RES lane) res).put (F.HP_EYE_RESULT_VALID lane) 1
  (s.bump (F.HP_EYE_RESULT_SEQ lane)).setLn lane fun l => { l with scanning := false }

/-! ### Transmit settings (R180, R181) -/

/-- Transmit settings. -/
structure TxVals where
  swing : Nat
  pre : Nat
  post : Nat
  deriving DecidableEq, Repr

/-- POST is applied reduced where PRE + POST exceeds 16. -/
def TxVals.reduce (v : TxVals) : TxVals := { v with post := min v.post (16 - v.pre) }

/-- The target of a lane: the mould's values, or the host's under OVERRIDE. -/
def State.txTarget (s : State) (n : Nat) : TxVals :=
  (if s.on (F.HP_LANE_TX_OVERRIDE n) then
    TxVals.mk (s.get (F.HP_LANE_TX_SWING n)) (s.get (F.HP_LANE_TX_PRE n)) (s.get (F.HP_LANE_TX_POST n))
  else TxVals.mk (s.get (F.HP_LANE_TXM_SWING n)) (s.get (F.HP_LANE_TXM_PRE n)) (s.get (F.HP_LANE_TXM_POST n))).reduce

/-- The settings in force, HP_LANE_TX_ACT laid out as HP_LANE_TX. -/
def State.txAct (s : State) (n : Nat) : TxVals :=
  let v := s.get (F.HP_LANE_TX_ACT_As_HP_LANE_TX n)
  ⟨v / 256, v / 16 % 8, v % 16⟩

/-- Puts settings in force. -/
def setTxAct (n : Nat) (v : TxVals) (s : State) : State :=
  s.put (F.HP_LANE_TX_ACT_As_HP_LANE_TX n) (v.swing * 256 + v.pre * 16 + v.post)

/-- One code toward a target. -/
def oneCode (v t : Nat) : Nat := if v < t then v + 1 else if t < v then v - 1 else v

/-- Row TX_RAMP_STEP: PRE, then POST, then SWING. -/
def opTxRampStep (lane : Nat) (s : State) : State :=
  let a := s.txAct lane
  let t := s.txTarget lane
  let a' := if a.pre ≠ t.pre then { a with pre := oneCode a.pre t.pre }
    else if a.post ≠ t.post then { a with post := oneCode a.post t.post }
    else { a with swing := oneCode a.swing t.swing }
  setTxAct lane a'.reduce s

/-- Is the transmit half in a state in which settings are ramped (R181)? DESIGN CHOICE (log entry 121): on a RETIRED lane, which R181 does not name, a change
takes effect at once. -/
def State.txRamps (s : State) (n : Nat) : Bool :=
  let st := s.get (F.HP_LANE_STATE_TXS n)
  st == lnTrain || st == lnActive || st == lnSpare

/-- Row LANE_TX_WRITE. -/
def opLaneTxWrite (lane : Nat) (val : Word) (s : State) : State :=
  let v := val.toNat
  let s := s.put (F.HP_LANE_TX_OVERRIDE lane) (bits v 31 31)
  let s := (s.put (F.HP_LANE_TX_SWING lane) (bits v 15 12)).put (F.HP_LANE_TX_PRE lane) (bits v 10 8)
  let s := s.put (F.HP_LANE_TX_POST lane) (bits v 7 4)
  if s.txRamps lane then s else setTxAct lane (s.txTarget lane) s

/-! ### Manual receiver settings (R186) -/

/-- Row LANE_RXMAN_WRITE. DESIGN CHOICE (log entry 121): R186 names no effect on a lane in REST or RETIRED, where the write is stored and not applied. -/
def opLaneRxmanWrite (lane : Nat) (val : Word) (s : State) : State :=
  let st := s.get (F.HP_LANE_STATE_RXS lane)
  if st == lnTrain || st == lnActive || st == lnSpare then s.flag (F.HP_LANE_STATE_RXMAN_REFUSED lane)
  else
    let s := s.wr (F.HP_LANE_RXMAN_CTLE lane).addr val
    if val.toNat.testBit 31 && (st == lnStandby || st == lnTest) then
      s.wr (F.HP_LANE_RXEQ_CTLE lane).addr (BitVec.ofNat 32 (val.toNat % 2 ^ 31))
    else s

/-! ### PRBS (R190, R191, R199) -/

/-- Does a pattern code name a pattern? -/
def patOn (c : Nat) : Bool := c == 1 || c == 2

/-- The distances back, in bits, of the two taps of a pattern's polynomial (R190): x^7 + x^6 + 1 and x^31 + x^28 + 1. -/
def prbsTaps (pat : Nat) : Nat × Nat := if pat = 1 then (7, 6) else (31, 28)

/-- The bit that follows a pattern's newest bits, given newest first (R190). -/
def prbsNext (pat : Nat) (l : List Bool) : Bool :=
  let (a, b) := prbsTaps pat
  l.getD (a - 1) false != l.getD (b - 1) false

/-- The generator's next `n` bits from the newest bits it has sent, oldest first (R190). -/
def prbsRun (pat : Nat) : Nat → List Bool → List Bool
  | 0, _ => []
  | n + 1, l => let b := prbsNext pat l; b :: prbsRun pat n (b :: l)

/-- Checks bits, oldest first, against the prediction from `seed`, the newest bits before them, newest first: which of them mismatch. The checker
runs on from its seed, so an error counts once (R191). -/
def prbsMiss (pat : Nat) (seed : List Bool) (bits : List Bool) : List Bool :=
  (bits.zip (prbsRun pat bits.length seed)).map fun e => e.1 != e.2

/-- Bits as the checker of a lane sees the line: through the receive polarity (R182). -/
def State.rxBits (s : State) (n : Nat) (l : List Bool) : List Bool := if s.rxInv n then l.map (!·) else l

/-- Does a checker run: it is enabled, on a receive half that is on (R187, R190)? -/
def State.checks (s : State) (n : Nat) : Bool :=
  let st := s.get (F.HP_LANE_STATE_RXS n)
  patOn (s.get (F.HP_PRBS_CTRL_RX_PAT n)) && st != lnRest && st != lnRetired && st != lnStandby

/-- Bits as they leave the transmitter of a lane (R182). -/
def State.txBits (s : State) (n : Nat) (l : List Bool) : List Bool := if s.txInv n then l.map (!·) else l

/-- Does a lane's own output feed its receiver: LOOP in TEST, on chain-port groups (R192)? -/
def State.loops (s : State) (n : Nat) : Bool :=
  let g := (laneGroup n).1
  g < 16 && s.on (F.HP_GROUP_CTRL_TEST_EN g) && s.on (F.HP_GROUP_CTRL_LOOP g)

/-- The generator's next `n` bits at the transmitter, oldest first, the first of them inverted where an error waits; it moves on. -/
def genTake (lane n : Nat) (s : State) : List Bool × State :=
  let x := s.lane lane
  let pat := s.get (F.HP_PRBS_CTRL_TX_PAT lane)
  let l := if x.gen.isEmpty then List.replicate n false else prbsRun pat n x.gen
  let out := match l with | b :: t => (b != x.inject) :: t | [] => []
  (s.txBits lane out, s.setLn lane fun x =>
    { x with gen := if x.gen.isEmpty then [] else (l.reverse ++ x.gen).take (prbsTaps pat).1, inject := x.inject && l.isEmpty })

/-- The bits at a lane's receiver: those of the line, or in loopback as many of its own. -/
def lineBits (lane : Nat) (line : List Bool) (s : State) : List Bool × State :=
  let (l, s) := if s.loops lane then genTake lane line.length s else (line, s)
  (s.rxBits lane l, s)

/-- The generator starts or stops with its pattern code: in TEST only. The manual gives it no first bits: they are a free value, with one bit set
(log entry 96). -/
def genStart (lane : Nat) (s : State) : State :=
  let pat := s.get (F.HP_PRBS_CTRL_TX_PAT lane)
  if patOn pat && s.get (F.HP_LANE_STATE_TXS lane) == lnTest then
    let (w, s) := s.draw
    let g := true :: (List.range ((prbsTaps pat).1 - 1)).map fun i => w.toNat.testBit i
    (s.setLn lane fun x => { x with gen := g, inject := false }).send (.prbs lane (s.txBits lane (prbsRun pat 40 g)))
  else s.setLn lane fun x => { x with gen := [], inject := false }

/-- Row PRBS_SYNC: the checker has loaded the first 7 or 31 line bits as its seed, and the 128 that follow match its prediction. `line` holds them all,
oldest first. DESIGN CHOICE (log entry 121): a lane in TEST shows CDR_LOCK from SYNC on. -/
def opPrbsSync (lane : Nat) (line : List Bool) (s : State) : State :=
  let pat := s.get (F.HP_PRBS_CTRL_RX_PAT lane)
  let (l, s) := lineBits lane line s
  let n := (prbsTaps pat).1
  let rest := l.drop n
  if s.checks lane && !s.on (F.HP_PRBS_STAT_SYNC lane) && rest.length == 128 && (prbsMiss pat (l.take n).reverse rest).all (!·) then
    let s := if s.get (F.HP_LANE_STATE_RXS lane) == lnTest then s.put (F.HP_LANE_STATE_CDR_LOCK lane) 1 else s
    (s.put (F.HP_PRBS_STAT_SYNC lane) 1).setLn lane fun x => { x with prbs := l.reverse.take n, prbsBits := 0, prbsMiss := [] }
  else s

/-- Bits compared in SYNC: each mismatch counts, as does every 1,024 bits; 32 mismatches in any 128 end SYNC, and the bits after that are not
compared. The record keeps the pattern's newest bits, the bits towards the next unit, and the newest 127 verdicts. -/
def prbsCompare (lane pat : Nat) : List Bool → State → State
  | [], s => s
  | b :: t, s =>
    let x := s.lane lane
    let want := prbsNext pat x.prbs
    let miss := b != want
    let window := miss :: x.prbsMiss
    let s := if miss then s.inc (F.HP_PRBS_ERR_ERR lane) else s
    let full := x.prbsBits + 1 == 1024
    let s := if full then s.inc (F.HP_PRBS_BITS_BITS lane) else s
    let s := s.setLn lane fun x => { x with prbs := (want :: x.prbs).take (prbsTaps pat).1, prbsBits := if full then 0 else x.prbsBits + 1,
                                            prbsMiss := window.take 127 }
    if 32 ≤ window.countP (· == true) then
      let s := (s.put (F.HP_PRBS_STAT_SYNC lane) 0).flag (F.HP_PRBS_STAT_SYNC_LOST lane)
      (s.inc (F.HP_PRBS_STAT_SYNC_LOSS_COUNT lane)).setLn lane fun x => { x with prbs := [], prbsBits := 0, prbsMiss := [] }
    else prbsCompare lane pat t s

/-- Row PRBS_SYNC_LOSS, for the line bits that come in SYNC, oldest first: SYNC is lost where they hold 32 mismatches in 128; the counts made are
kept. -/
def opPrbsSyncLoss (lane : Nat) (line : List Bool) (s : State) : State :=
  if s.on (F.HP_PRBS_STAT_SYNC lane) then
    let (l, s) := lineBits lane line s
    prbsCompare lane (s.get (F.HP_PRBS_CTRL_RX_PAT lane)) l s
  else s

/-- Row PRBS_CLR. -/
def opPrbsClr (lane : Nat) (s : State) : State :=
  ((s.put (F.HP_PRBS_ERR_ERR lane) 0).put (F.HP_PRBS_BITS_BITS lane) 0).put (F.HP_PRBS_STAT_SYNC_LOSS_COUNT lane) 0

/-- Row PRBS_INJECT: ignored when the generator is off. -/
def opPrbsInject (lane : Nat) (s : State) : State :=
  if s.get (F.HP_LANE_STATE_TXS lane) == lnTest && patOn (s.get (F.HP_PRBS_CTRL_TX_PAT lane)) then
    (s.setLn lane fun x => { x with inject := true }).send (.inject lane)
  else s

/-- A write of HP_PRBS_CTRL: another pattern makes the checker seed again, and the generator start afresh. DESIGN CHOICE (log entry 121): the SYNC that ends
so is not lost, and SYNC_LOST stays as it is. -/
def opPrbsCtrlWrite (lane : Nat) (val : Word) (s : State) : State :=
  let v := val.toNat
  let tx := s.get (F.HP_PRBS_CTRL_TX_PAT lane)
  let rx := s.get (F.HP_PRBS_CTRL_RX_PAT lane)
  let s := (s.put (F.HP_PRBS_CTRL_TX_PAT lane) (bits v 5 4)).put (F.HP_PRBS_CTRL_RX_PAT lane) (bits v 1 0)
  let s := if bits v 1 0 = rx then s else s.put (F.HP_PRBS_STAT_SYNC lane) 0
  let s := if bits v 5 4 = tx then s else genStart lane s
  (s.when (v.testBit 31) (opPrbsClr lane)).when (v.testBit 30) (opPrbsInject lane)

/-! ### TEST (R192) -/

/-- Row TEST_RATE_CHANGE. -/
def opTestRateChange (g rate : Nat) (s : State) : State :=
  let s := s.put (F.HP_GROUP_CTRL_TEST_RATE g) rate
  if s.on (F.HP_GROUP_CTRL_TEST_EN g) then groupPll g (groupRate g rate s) else s

/-- Row TEST_EN_WRITE. -/
def opTestEnWrite (g : Nat) (val : Word) (s : State) : State :=
  let v := val.toNat
  let was := s.on (F.HP_GROUP_CTRL_TEST_EN g)
  if v.testBit 31 && s.on (F.HP_GROUP_STATE_IN_USE g) then s.flag (F.HP_GROUP_STATE_TEST_REFUSED g)
  else
    let s := (s.put (F.HP_GROUP_CTRL_TEST_EN g) (bits v 31 31)).put (F.HP_GROUP_CTRL_LOOP g) (bits v 28 28)
    let s := if v.testBit 31 == was then s
      else (groupRate g 0 (groupState g (if v.testBit 31 then lnTest else lnStandby) s)).each (groupLanes g) genStart
    opTestRateChange g (bits v 30 29) s

/-! ### Eye scans of the host (R193 to R195) -/

/-- Does live calibration hold the eye-scan unit of a lane: a step is in MEASURE on it (R223)? -/
def State.calHolds (s : State) (lane : Nat) : Bool :=
  let (g, i) := laneGroup lane
  match (s.cal g).step with
  | some c => c.lane == i && s.get (F.HP_CAL_STATUS_STEP g) == 4
  | none => false

/-- Row EYE_SCAN_START. DESIGN CHOICE (log entry 121): a write during a running scan, whose START is ignored, stores the other fields, which the scan uses from
then on; and a scan starts on a lane whose CDR holds no lock, since R195 names the loss of a lock alone. -/
def opEyeScanStart (lane : Nat) (val : Word) (s : State) : State :=
  let s := s.wr (F.HP_EYE_CTRL_MODE lane).addr (BitVec.ofNat 32 (val.toNat % 2 ^ 31))
  if !val.toNat.testBit 31 || (s.lane lane).scanning then s
  else if s.calHolds lane then s.put (F.HP_EYE_RESULT_RES lane) 1
  else s.setLn lane fun l => { l with scanning := true }

/-- How far a sweep goes from the centre in one direction: at most `n` points, to the first closed one. -/
def sweepSide (isOpen : Int → Bool) (dir : Int) : Nat → Int → Nat
  | 0, _ => 0
  | n + 1, at' => if isOpen (at' + dir) then sweepSide isOpen dir n (at' + dir) + 1 else 0

/-- Points of a sweep that are open around an open centre; 0 with a closed centre (R194). -/
def sweep (isOpen : Int → Bool) (below above : Nat) : Nat :=
  if isOpen 0 then sweepSide isOpen (-1) below 0 + sweepSide isOpen 1 above 0 + 1 else 0

/-- Of two counts at a point, for either data value, those that count there (R193). -/
def eyeCounts (voff : Int) (pos neg : Nat) : Nat := if voff = 0 then pos + neg else if 0 < voff then pos else neg

/-- The error count of a point that has lasted its dwell, of 2^20 to 2^36 counted bits. -/
def eyeErrors (pts : List EyePoint) (dwell : Nat) (h v : Int) : Option Nat :=
  (pts.find? fun e => e.hoff == h && e.voff == v && eyeCounts v e.pos e.neg == 2 ^ min 36 (max 20 dwell)).map fun e =>
    eyeCounts v e.posErr e.negErr

/-- The open points of a scan under a dwell and a limit, and the WIDTH and HEIGHT that its sweeps give (R193, R194). -/
def eyeOpen (pts : List EyePoint) (dwell lim : Nat) (h v : Int) : Bool := (eyeErrors pts dwell h v).any (· ≤ lim)
def eyeWidth (pts : List EyePoint) (dwell lim : Nat) : Nat := sweep (fun h => eyeOpen pts dwell lim h 0) 32 31
def eyeHeight (pts : List EyePoint) (dwell lim : Nat) : Nat := 5 * sweep (eyeOpen pts dwell lim 0) 31 31

/-- Row EYE_SCAN_DONE, with the points measured. -/
def opEyeScanDone (lane : Nat) (pts : List EyePoint) (s : State) : State :=
  if !(s.lane lane).scanning then s
  else
    let m := s.get (F.HP_EYE_CTRL_MODE lane)
    let dwell := s.get (F.HP_EYE_CTRL_DWELL lane)
    let lim := s.get (F.HP_EYE_CTRL_ERR_LIM lane)
    let at0 := eyeErrors pts dwell (s.getI (F.HP_EYE_CTRL_HOFF lane)) (max (-31) (s.getI (F.HP_EYE_CTRL_VOFF lane)))
    let s := if m == 1 || m == 3 then s.put (F.HP_EYE_RESULT_WIDTH lane) (eyeWidth pts dwell lim) else s
    let s := if m == 2 || m == 3 then s.put (F.HP_EYE_RESULT_HEIGHT lane) (eyeHeight pts dwell lim) else s
    let s := if m == 0 then s.put (F.HP_EYE_POINT_ERRORS lane) (min (at0.getD 0) (2 ^ 32 - 1)) else s
    eyeEnd lane 0 s

/-- Row EYE_SCAN_ABORT. -/
def opEyeScanAbort (lane : Nat) (nolock : Bool) (s : State) : State :=
  if (s.lane lane).scanning then eyeEnd lane (if nolock then 3 else 2) s else s

/-- A lane taken by live calibration ends a host scan (R195). -/
def takeUnit (lane : Nat) (s : State) : State := opEyeScanAbort lane false s

end Sys2Proof.Machine
end

