-- ==== Sys2Proof/Machine/Calib.lean ====
section
/-!
DEFINITION. Live lane calibration: steps, LANECMD, judging, retirement, the affinage ramp and the trim store (chapter 07, R203 to R227; R162, R163).
-/

namespace Sys2Proof.Machine

open Sys2Proof

/-! ### LANECMD (R206, R207) -/

def cmdBridge : Nat := 1
def cmdBridged : Nat := 2
def cmdSwitched : Nat := 3
def cmdRetire : Nat := 4
def cmdDrop : Nat := 5
def cmdDropped : Nat := 6
def cmdDone : Nat := 7

/-- A LANECMD packet: it goes no further than the partner. -/
def laneCmd (src op step logical new old lanes : Nat) : Pkt := ⟨0x05, 0, src, 0, 4, [op, step, logical, new, old, lanes, 0, 0]⟩

/-- The receiver sends a command of the step in progress and waits for its answer. -/
def sendCmd (p op logical new old lanes : Nat) (s : State) : State :=
  match (s.cal p).step with
  | none => s
  | some c =>
    let k := laneCmd s.ownCode op c.id logical new old lanes
    (s.setCal p fun x => { x with step := some { c with cmd := k.data, resends := 0 } }).send (.ctrl p k)

/-- Begins a step's record. -/
def beginStep (g : Nat) (c : Nat → CalStep) (s : State) : State :=
  s.setCal g fun x => { x with lastId := (x.lastId + 1) % 256, step := some (c ((x.lastId + 1) % 256)) }

/-- Shows a step's state and lane (R223). -/
def showStep (g st lane : Nat) (s : State) : State :=
  ((s.put (F.HP_CAL_STATUS_STEP g) st).put (F.HP_CAL_STATUS_LANE g) lane).put (F.HP_CAL_STATUS_VALID g) 0

/-- Steps as HP_CAL_STATUS.STEP codes them. -/
def csBridge : Nat := 1
def csCompare : Nat := 2
def csAdapt : Nat := 3
def csMeasure : Nat := 4
def csRamp : Nat := 5
def csDrop : Nat := 6

/-- The step state of a group. -/
def State.calState (s : State) (g : Nat) : Nat := s.get (F.HP_CAL_STATUS_STEP g)

/-- Changes the record of the step in progress. -/
def modStep (g : Nat) (f : CalStep → CalStep) (s : State) : State := s.setCal g fun x => { x with step := x.step.map f }

/-- The logical lane that a physical lane carries, by HP_CAL_MAP. -/
def State.logicalOf (s : State) (fld : Nat → Nat → Fld) (g i : Nat) : Nat :=
  ((List.range 4).find? fun k => s.get (fld g k) == i).getD 0

/-- IN_PLACE of R204. -/
def showMode (g : Nat) (s : State) : State := s.putB (F.HP_CAL_STATUS_IN_PLACE g) (s.rxIn g lnSpare).isEmpty

/-! ### Retirement of a lane (R162, R211, R216) -/

/-- The direction a port receives: at a tile port 1 receives direction B; a sender of end B receives direction A. -/
def State.rxDirB (s : State) (p : Nat) : Bool := if s.tileLike then p == 1 else s.senderEnd != 2

/-- With no lane left the direction is given up; a tile sends SEGDOWN. -/
def giveUp (p : Nat) (s : State) : State :=
  let s := ((s.setRxMap p 0 0).put (F.CH_LINK_STATUS_RX_GIVEN_UP p) 1).logEv 2 (hoopOf p) 0x0403 p (if s.rxDirB p then 1 else 0)
  if s.tileLike then sendSegdown (p == 1) s else s

/-- The no-spare rows: DROP to 2 lanes, to 1, or give the direction up. -/
def dropLanes (p i : Nat) (s : State) : State :=
  let m := (s.rxIn p lnActive).length
  let m' := if 4 ≤ m then 2 else if 2 ≤ m then 1 else 0
  if m' = 0 then
    giveUp p ((setRxHalf (chainLane p i) lnRetired s).setCal p fun x => { x with retireNext := [] })
  else
    let s := beginStep p (fun id => { id := id, lane := i, retiring := true, dropTo := m' }) s
    sendCmd p cmdDrop 0 0 i m' (showStep p csDrop i s)

/-- Takes a lane that carries nothing of its own out of use, and tells the transmitter. -/
def retireSpare (p i : Nat) (s : State) : State :=
  let s := (setRxHalf (chainLane p i) lnRetired s).put (F.CH_LANE_MAP_RX_SPARE p) 0
  let s := showMode p (s.put (F.HP_CAL_MAP_RX_SPARE p) 7)
  let s := beginStep p (fun id => { id := id, lane := i, retiring := true }) s
  sendCmd p cmdRetire 0 0 i 0 s

/-- Is a retirement under way on a port? -/
def State.retires (s : State) (p : Nat) : Bool := (s.cal p).step.any (·.retiring)

/-- The retirement of lane `i` begins: cause 0 errors, 1 calibration. A calibration step in progress is abandoned (R217). -/
def beginRetire (p i cause : Nat) (s : State) : State :=
  let s := calAbandon p s
  let s := s.logEv 2 (hoopOf p) 0x0402 (chainLane p i) cause
  let s := s.put (F.CH_LINK_STATUS_RETIRED p) (setBit (s.get (F.CH_LINK_STATUS_RETIRED p)) i)
  let s := s.setPort p fun x => { x with laneErr := Tab.set (fun _ => []) i [] x.laneErr }
  match s.rxIn p lnSpare with
  | [] => dropLanes p i s
  | sp :: _ =>
    if sp = i then retireSpare p i s
    else if s.on (F.HP_LANE_STATE_CDR_LOCK (chainLane p sp)) then
      let k := s.logicalOf calMapRx p i
      let s := beginStep p (fun id => { id := id, lane := i, spare := sp, logical := k, retiring := true }) s
      sendCmd p cmdBridge k sp i 0 (showStep p csBridge i s)
    else dropLanes p i s

/-- Retires lane `i` of a port. While another lane's retirement is under way it waits for the end of that (DESIGN CHOICE, log entry 122). -/
def retireLane (p i cause : Nat) (s : State) : State :=
  if !s.retires p then beginRetire p i cause s
  else if (s.cal p).step.any (·.lane == i) || (s.cal p).retireNext.any (·.1 == i) then s
  else s.setCal p fun x => { x with retireNext := x.retireNext ++ [(i, cause)] }

/-- A retirement has ended: the lane that waits longest is next, if it is still in use. -/
def nextRetire (p : Nat) (s : State) : State :=
  match (s.cal p).retireNext with
  | [] => s
  | (i, cause) :: t =>
    let s := s.setCal p fun x => { x with retireNext := t }
    if !s.retires p && (s.rxIn p lnActive ++ s.rxIn p lnSpare).contains i then beginRetire p i cause s else s

/-- More than 16 of the newest indexes within 2^20. -/
def overRate (l : List Nat) : Bool := 17 ≤ l.length && (l.headD 0 + 2 ^ 32 - l.getD 16 0) % 2 ^ 32 < 2 ^ 20

/-- Row LANE_RETIRE; `i` is the lane's index on the port. -/
def opLaneRetire (p i : Nat) (s : State) : State :=
  let st := s.get (F.HP_LANE_STATE_RXS (chainLane p i))
  if s.linked p && i < 5 && (st == lnActive || st == lnSpare) && overRate (Tab.get (fun _ => []) (s.port p).laneErr i)
  then retireLane p i 0 s else s

/-- Starts a requested rotation (R212); it begins with the next step, and one that runs is not of it (R213). -/
def opCalForce (g : Nat) (s : State) : State :=
  (s.put (F.HP_CAL_STATUS_REQUESTED g) 1).setCal g fun x => { x with requested := true, rotDue := true, spare0 := none }

/-- Row PORT_CRC. -/
def opPortCrc (p : Nat) (s : State) : State :=
  if overRate (s.port p).portErr && !s.on (F.CH_LINK_STATUS_PORT_CRC p) then
    opCalForce p (s.flag (F.CH_LINK_STATUS_PORT_CRC p))
  else s

/-! ### Judged steps (R210, R211) -/

/-- The engine whose source port has this group. -/
def State.groupEngine (s : State) (g : Nat) : Option SourceCfg :=
  match s.mould.loaded with
  | some m => m.sources.find? fun c => c.port + 16 == g || (c.bonded && c.port + 17 == g)
  | none => none

/-- A failed calibration of lane `i`: counted, and the second in a row retires a chain lane or flags a source's. -/
def calFailed (g i : Nat) (s : State) : State :=
  let n := groupLane g i
  let s := (s.inc (F.HP_LANE_CAL_CONSEC_FAIL n)).flag (F.HP_LANE_CAL_CAL_FAIL n)
  if s.get (F.HP_LANE_CAL_CONSEC_FAIL n) < 2 || s.isK24 then s
  else if g < 16 then retireLane g i 1 s
  else match s.groupEngine g with
    | some c => s.flag (F.VT_ING_STATUS_CAL_FAIL c.vat c.engine)
    | none => s

/-- The step fails with an outcome: the lane ramps back. -/
def failStep (g outcome : Nat) (s : State) : State :=
  match (s.cal g).step with
  | none => s
  | some c =>
    let n := groupLane g c.lane
    let s := endStep g outcome (s.put (F.HP_LANE_CAL_RAMP_FROZEN n) 0)
    calFailed g c.lane (s.setLn n fun l => { l with aim := if c.inPlace then some c.former else none })

/-- Computes the targets of a group's covered lanes afresh at its temperature, all but that of a step in progress (R217, R219). -/
def retargetAll (g : Nat) (s : State) : State :=
  let t := (s.cal g).temp
  let busy := fun i => (s.cal g).step.any (·.lane == i)
  let s := s.putI (F.HP_CAL_TEMP_TEMP g) t
  let s := s.each ((s.rxIn g lnActive ++ s.rxIn g lnSpare).filter (!busy ·)) fun i s =>
    (retarget (groupLane g i) t s).setLn (groupLane g i) fun l => { l with aim := none }
  modStep g (fun c => { c with stale := true }) s

/-- The step is accepted with quality `w`, `h` (R211, R218, R225, R226). -/
def acceptStep (g w h : Nat) (s : State) : State :=
  match (s.cal g).step with
  | none => s
  | some c =>
    let n := groupLane g c.lane
    let s := trimWrite n c.temp (EqVals.ofWord (s.rd (F.HP_LANE_RXEQ_CTLE n).addr)) w h s
    let s := (s.put (F.HP_LANE_CAL_VALID n) 1).bump (F.HP_LANE_CAL_SEQ n)
    let s := (s.put (F.HP_LANE_CAL_WIDTH n) w).put (F.HP_LANE_CAL_HEIGHT n) h
    let s := (s.put (F.HP_LANE_CAL_CONSEC_FAIL n) 0).put (F.HP_LANE_CAL_RAMP_FROZEN n) 0
    let s := (s.put (F.HP_LANE_CAL_AGE_SECS n) 0).inc (F.HP_LANE_CAL_AGE_N n)
    let s := s.setCal g fun x => { x with orders := x.orders + 1, changed := true }
    let s := s.setLn n fun l => { l with charged := false, order := (s.cal g).orders, calAt := some s.raster.ticks }
    retargetAll g (endStep g calAccepted s)

/-! ### The steps of R209 and R215 -/

/-- May calibration touch a lane's receiver settings (R203)? -/
def State.calMay (s : State) (g i : Nat) : Bool := !s.on (F.HP_LANE_RXMAN_MANUAL (groupLane g i))

/-- The lane whose accepted calibration is oldest, lowest index on ties. -/
def oldest (s : State) (g : Nat) (l : List Nat) : Option Nat :=
  l.foldl (fun b i => match b with
    | none => some i
    | some j => if (s.lane (groupLane g i)).order < (s.lane (groupLane g j)).order then some i else some j) none

/-- The lane of the next step (R214); in a requested rotation the lane that was the spare when it began comes last (R213). -/
def calChoose (s : State) (g : Nat) : Option Nat :=
  let act := (s.rxIn g lnActive).filter (s.calMay g)
  let sp := (s.rxIn g lnSpare).filter (s.calMay g)
  match sp.find? (fun i => s.get (F.HP_LANE_CAL_CONSEC_FAIL (groupLane g i)) != 0) with
  | some i => some i
  | none =>
    let rest := (act ++ sp).filter fun i => !((s.cal g).measured).testBit i
    let last := fun i => (s.cal g).spare0 == some i
    match (if (s.cal g).requested then ((List.range 5).filter (!last ·) ++ (List.range 5).filter last).find? fun i => rest.contains i else none) with
    | some i => some i
    | none =>
      match act.find? (fun i => s.on (F.HP_LANE_CAL_RAMP_FROZEN (groupLane g i)) || (s.lane (groupLane g i)).charged) with
      | some i => some i
      | none => oldest s g act

/-- Has the gap since the last step passed (R212)? DESIGN CHOICE (log entry 123): where no step has ended since the port reached LINKED, the first may start at
any frame start. -/
def State.calDue (s : State) (g : Nat) : Bool :=
  let gap := if (s.cal g).requested then 1 else s.get (F.HP_CAL_CTRL_PERIOD g)
  gap != 0 && (match (s.cal g).ended with
    | none => true
    | some e => (gap : Int) ≤ ahead s.raster.fnum e)

/-- Does the raster stand at a frame start whose actions are done? -/
def State.atFrameStart (s : State) : Bool := s.raster.running && !s.raster.boundary && s.raster.atStart

/-- Row CAL_STEP_START, at a frame start (R209, R212). The spare of a requested rotation's first step is that with which it began. -/
def opCalStepStart (g : Nat) (s : State) : State :=
  if !s.atFrameStart || !s.on (F.HP_CAL_CTRL_EN g) || s.on (F.RD_TH_DIE_STAGE (groupDie g)) || (s.cal g).step.isSome || (g < 16 && !(s.linked g || s.k24Locked g)) || !s.calDue g then s
  else
    let s := s.when (s.cal g).rotDue fun s =>
      s.setCal g fun x => { x with rotDue := false, measured := 0, spare0 := (s.rxIn g lnSpare).head? }
    match calChoose s g with
    | none => s
    | some q =>
      let n := groupLane g q
      let s := showMode g s
      match s.rxIn g lnSpare with
      | [] =>
        let s := beginStep g (fun id => { id := id, lane := q, inPlace := true, former := s.rd (F.HP_LANE_RXEQ_CTLE n).addr }) s
        takeUnit n (showStep g csMeasure q s)
      | sp :: _ =>
        if sp = q then showStep g csAdapt q (beginStep g (fun id => { id := id, lane := q, spare := q }) s)
        else
          let k := s.logicalOf calMapRx g q
          let s := beginStep g (fun id => { id := id, lane := q, spare := sp, logical := k }) s
          sendCmd g cmdBridge k sp q 0 (showStep g csBridge q s)

/-- Row BRIDGED. -/
def opBridged (p id : Nat) (s : State) : State :=
  match (s.cal p).step with
  | some c =>
    if c.id = id && s.calState p == csBridge then showStep p csCompare c.lane (modStep p (fun c => { c with cmd := [] }) s) else s
  | none => s

/-- Exchanges lane `a` for `b` as the carrier of a logical lane in the receive map. -/
def swapRx (p k a b : Nat) (spareAfter : Nat) (s : State) : State :=
  let act := setBit (clearBit (s.get (F.CH_LANE_MAP_RX_ACTIVE p)) a) b
  let s := (s.put (F.CH_LANE_MAP_RX_ACTIVE p) act).put (F.CH_LANE_MAP_RX_SPARE p) (2 ^ spareAfter)
  let s := (s.put (calMapRx p k) b).put (F.HP_CAL_MAP_RX_SPARE p) spareAfter
  setRxHalf (chainLane p a) lnSpare (setRxHalf (chainLane p b) lnActive s)

/-- The swap of R209 step 4, and the SWITCHED that tells of it. -/
def calSwap (p : Nat) (s : State) : State :=
  match (s.cal p).step with
  | none => s
  | some c =>
    sendCmd p cmdSwitched c.logical c.spare c.lane 0
      (swapRx p c.logical c.lane c.spare c.lane (modStep p (fun c => { c with passed := none }) s))

/-- The swap line boundaries of a frame (R208): starts of chain lines of the port's CTG, or of wall lines; none stands in wall line 0. -/
def State.swapLines (s : State) (p : Nat) : List Nat :=
  let n := s.get (F.CH_CTG_GEOM_LTOTAL_C p)
  let l := if s.isSender && n != 0 then (List.range n).map (s.linePos p) else (List.range s.raster.ltotal).map (· * 65536)
  l.filter fun x => 65536 ≤ x && s.raster.holds x

/-- Row CAL_COMPARE_DONE. A pass swaps at the first swap line boundary after it, to which the raster comes (R208, R209); where this frame has none
left, the swap waits for the next frame's first. -/
def opCalCompareDone (p : Nat) (pass : Bool) (s : State) : State :=
  match (s.cal p).step with
  | none => s
  | some c =>
    if s.calState p != csCompare || !c.cmd.isEmpty || c.passed.isSome then s
    else if pass then
      let s := s.put (F.HP_LANE_STATE_CDR_LOCK (chainLane p c.spare)) 1
      match (if s.raster.running then (s.swapLines p).find? (s.raster.rpos < ·) else none) with
      | some x => calSwap p (reach x s)
      | none => modStep p (fun c => { c with passed := some s.raster.fnum }) s
    else if c.retiring then dropLanes p c.lane (calAbandon p s)
    else calFailed p c.spare ((endStep p calBridgeFail s).put (F.HP_LANE_CAL_RAMP_FROZEN (chainLane p c.spare)) 0)

/-- The ports whose swap waited for a frame with a swap line boundary, where the raster has come to its first. -/
def State.swapsDue (s : State) : List Nat :=
  (List.range 16).filter fun p => (s.cal p).step.any fun c =>
    c.passed.any (· != s.raster.fnum) && s.raster.running && !s.raster.boundary && ((s.swapLines p).head?.any (· ≤ s.raster.rpos))

/-- Their swaps are made (R101). -/
def calSwaps (s : State) : State := s.each s.swapsDue calSwap

/-- The outcome of a command whose event has a place on the raster: as the raster comes there, the swaps whose boundary it passes are made (R101). -/
def runRaster (f : State → State) (s : State) : Host.Outcome State Fault Refusal := run (fun s => calSwaps (f s)) s

/-- The same for an event on the Rind die, which the thermal trip leaves at work; the lanes of the gated dies swap no more. -/
def runRindRaster (f : State → State) (s : State) : Host.Outcome State Fault Refusal :=
  runRind (fun s => if s.sys.tripped then f s else calSwaps (f s)) s

/-- Row LANECMD_DONE: the answer to SWITCHED or RETIRE. -/
def opLanecmdDone (p id : Nat) (s : State) : State :=
  match (s.cal p).step with
  | none => s
  | some c =>
    if c.id ≠ id then s
    else if c.cmd.headD 0 = cmdSwitched then
      let s := modStep p (fun c => { c with cmd := [] }) s
      if c.retiring then retireSpare p c.lane s else showStep p csAdapt c.lane s
    else if c.cmd.headD 0 = cmdRetire then nextRetire p (endStep p calAbandoned s)
    else s

/-- The measurements begin: the unit is taken, the temperature read. -/
def beginMeasure (g : Nat) (s : State) : State :=
  match (s.cal g).step with
  | none => s
  | some c =>
    let s := modStep g (fun c => { c with settled := true, temp := (s.cal g).temp }) s
    takeUnit (groupLane g c.lane) (showStep g csMeasure c.lane s)

/-- Row CAL_ADAPTATION_SETTLED; adaptation settles on a lane whose CDR holds lock (DEDUCED, log entry 120). -/
def opCalSettled (g : Nat) (eq : Word) (s : State) : State :=
  match (s.cal g).step with
  | none => s
  | some c =>
    let n := groupLane g c.lane
    let eq := eq &&& 0x7FFFFFFF
    if c.settled || c.retiring || s.calState g != csAdapt then s
    else
      let s := s.put (F.HP_LANE_STATE_CDR_LOCK n) 1
      if c.inPlace then
      let s := s.setLn n fun l => { l with aim := some eq, before := none }
      if s.rd (F.HP_LANE_RXEQ_CTLE n).addr == eq then beginMeasure g s
      else showStep g csRamp c.lane (modStep g (fun c => { c with settled := true }) s)
    else beginMeasure g ((s.wr (F.HP_LANE_RXEQ_CTLE n).addr eq).setLn n fun l => { l with before := none })

/-- WIDTH and HEIGHT of a measurement of live calibration, from the points of its two sweeps: MODE = BOTH at ERR_LIM = 0 and the DWELL of HP_CAL_CTRL
(R209). -/
def State.calEye (s : State) (g : Nat) (w h : List EyePoint) : Nat × Nat :=
  (eyeWidth w (s.get (F.HP_CAL_CTRL_DWELL g)) 0, eyeHeight h (s.get (F.HP_CAL_CTRL_DWELL g)) 0)

/-- Row CAL_MEASURE_DONE (R209, R210, R215): measurements 1 and 2, each the points of a WIDTH and of a HEIGHT sweep, are done and judged. In an IN_PLACE step
it ends measurement 0 before them; adaptation in observe mode follows. DESIGN CHOICE (log entry 123): measurements that disagree and are below the minimum
as well count as disagreeing. -/
def opCalMeasureDone (g : Nat) (p0 q0 p1 q1 p2 q2 : List EyePoint) (s : State) : State :=
  match (s.cal g).step with
  | none => s
  | some c =>
    if s.calState g != csMeasure then s
    else if !c.settled then showStep g csAdapt c.lane (modStep g (fun c => { c with m0 := some (s.calEye g p0 q0) }) s)
    else
      let (w1, h1) := s.calEye g p1 q1
      let (w2, h2) := s.calEye g p2 q2
      let (w0, h0) := c.m0.getD (0, 0)
      let tw := s.get (F.HP_CAL_LIMITS_TOL_W g)
      let th := 5 * s.get (F.HP_CAL_LIMITS_TOL_H g)
      let w := min w1 w2
      let h := min h1 h2
      if max w1 w2 - w > tw || max h1 h2 - h > th then
        if c.repeated then failStep g calDisagree s
        else showStep g csAdapt c.lane (modStep g (fun c => { c with repeated := true, settled := false }) s)
      else if w < s.get (F.HP_CAL_LIMITS_MIN_W g) || h < s.get (F.HP_CAL_LIMITS_MIN_H g) then failStep g calBelowMin s
      else if c.inPlace && (w + tw < w0 || h + th < h0) then failStep g calWorse s
      else acceptStep g w h s

/-- Row CAL_SETTLE_TIMEOUT. -/
def opCalSettleTimeout (g : Nat) (s : State) : State :=
  match (s.cal g).step with
  | some c =>
    if !c.settled && !c.retiring && s.calState g == csAdapt then failStep g calNoSettle s else s
  | none => s

/-- Row CDR_LOCK_LOSS. -/
def opCdrLockLoss (lane : Nat) (s : State) : State :=
  let (g, i) := laneGroup lane
  let s := (s.put (F.HP_LANE_STATE_CDR_LOCK lane) 0).flag (F.HP_LANE_STATE_CDR_LOST lane)
  let s := opEyeScanAbort lane true s
  match (s.cal g).step with
  | some c =>
    if c.lane = i && !c.retiring && csAdapt ≤ s.calState g && s.calState g ≤ csRamp then failStep g calLockLost s else s
  | none => s

/-! ### The transmitter's side (R205 to R207, R216) -/

/-- Carries out a command once and answers it; a repeated STEP_ID and OP is only answered again. -/
def answerCmd (p id op ans : Nat) (f : State → State) (s : State) : State :=
  if !s.linked p then s
  else
    let s := if (s.cal p).done = some (id, op) then s
      else (f s).setCal p fun x => { x with done := some (id, op) }
    s.send (.ctrl p (laneCmd s.ownCode ans id 0 0 0xFF 0))

/-- The transmitter's lane map as a BRIDGE shows it: the lane `new` is the receiver's spare and `old` carries the logical lane. Where the transmitter has
followed a SWITCHED that the receiver gave up, the logical lane on `new` is back on the lane that carried its copy (R207). -/
def bridgeMap (p logical new old : Nat) (s : State) : State :=
  let act := s.get (F.CH_LANE_MAP_TX_ACTIVE p)
  let copy := s.get (F.HP_CAL_MAP_TX_SPARE p)
  let s := if !act.testBit new || 5 ≤ copy then s
    else
      let s := s.put (calMapTx p (s.logicalOf calMapTx p new)) copy
      let s := (s.put (F.CH_LANE_MAP_TX_ACTIVE p) (setBit (clearBit act new) copy)).put (F.CH_LANE_MAP_TX_SPARE p) (2 ^ new)
      let s := s.put (F.HP_CAL_MAP_TX_SPARE p) new
      (s.put (F.HP_LANE_STATE_TXS (chainLane p copy)) lnActive).put (F.HP_LANE_STATE_TXS (chainLane p new)) lnSpare
  if old < 5 then s.put (calMapTx p logical) old else s

/-- Row BRIDGE: from the next column on, the lane NEW_PHYS carries a copy of the logical lane in place of what it copied (R206, R209 step 2). -/
def opBridge (p id logical new old : Nat) (s : State) : State :=
  answerCmd p id cmdBridge cmdBridged (fun s =>
    (bridgeMap p logical new old (emitLine p s)).setCal p fun x => { x with copies := some (new, logical) }) s

/-- Row SWITCHED: the transmitter records the new map; the freed lane carries the copy. -/
def opSwitched (p id logical new old : Nat) (s : State) : State :=
  answerCmd p id cmdSwitched cmdDone (fun s =>
    let s := emitLine p s
    let act := setBit (clearBit (s.get (F.CH_LANE_MAP_TX_ACTIVE p)) old) new
    let s := (s.put (F.CH_LANE_MAP_TX_ACTIVE p) act).put (F.CH_LANE_MAP_TX_SPARE p) (2 ^ old)
    let s := (s.put (calMapTx p logical) new).put (F.HP_CAL_MAP_TX_SPARE p) old
    let s := (s.put (F.HP_LANE_STATE_TXS (chainLane p new)) lnActive).put (F.HP_LANE_STATE_TXS (chainLane p old)) lnSpare
    s.setCal p fun x => { x with copies := some (old, logical) }) s

/-- Row RETIRE. -/
def opRetire (p id old : Nat) (s : State) : State :=
  answerCmd p id cmdRetire cmdDone (fun s =>
    let s := (emitLine p s).put (F.HP_LANE_STATE_TXS (chainLane p old)) lnRetired
    let s := s.setCal p fun x => { x with copies := x.copies.filter (·.1 != old) }
    if (s.get (F.CH_LANE_MAP_TX_SPARE p)).testBit old then
      (s.put (F.CH_LANE_MAP_TX_SPARE p) 0).put (F.HP_CAL_MAP_TX_SPARE p) 7
    else s) s

/-- The map of R216 after a drop: lanes neither retired nor the one being retired. -/
def dropMap (usable : List Nat) (m : Nat) : Nat × Nat := (maskOfBits (usable.take m), maskOfBits ((usable.drop m).take 1))

/-- The states of a half after a drop. -/
def dropState (m : Nat × Nat) (old st i : Nat) : Nat :=
  if i = old || st = lnRetired then lnRetired
  else if m.1.testBit i then lnActive else if m.2.testBit i then lnSpare else lnStandby

/-- Row DROP: DROPPED goes out, and the new map holds from the next SKP set sent. -/
def opDrop (p id old lanes : Nat) (s : State) : State :=
  answerCmd p id cmdDrop cmdDropped (fun s => s.setCal p fun x => { x with txDrop := some (lanes, old) }) s

/-- A SKP set has gone out on a port: what was sent up to it stands on the old lanes, and a drop that was answered takes effect (R216). -/
def skpSent (p : Nat) (s : State) : State :=
  match (s.cal p).txDrop with
  | none => s
  | some (lanes, old) =>
    let s := (emitLine p s).setCal p fun x => { x with txDrop := none }
    let s := s.setPort p fun x => { x with txGivenUp := x.txGivenUp || lanes == 0 }
    let st := fun i => s.get (F.HP_LANE_STATE_TXS (chainLane p i))
    let m := dropMap ((List.range 5).filter fun i => st i != lnRetired && i != old) lanes
    let s := (s.setTxMap p m.1 m.2).setCal p fun x => { x with copies := (bitsOf 5 m.2).head?.map fun i => (i, 0) }
    s.each (List.range 5) fun i s => s.put (F.HP_LANE_STATE_TXS (chainLane p i)) (dropState m old (st i) i)

/-- Row SKP_SEND: a transmitter on its own reference (R139); a tile's is, where the direction it sends has lost its input, which a port out of LINKED
and a direction given up have. -/
def opSkpSend (p : Nat) (s : State) : State :=
  let lost := (!s.linked (1 - p) || s.on (F.CH_LINK_STATUS_RX_GIVEN_UP (1 - p))) && s.get (F.CH_TRAIN_STATE_END 1) == 0
  if s.linked p && (s.isSender || (s.tileLike && lost)) then skpSent p (s.send (.skp p)) else s

/-- Row DROPPED: the receiver switches to the new map after the next SKP set it receives (R216). -/
def opDropped (p id : Nat) (s : State) : State :=
  match (s.cal p).step with
  | none => s
  | some c =>
    if c.id ≠ id || c.dropTo = 0 then s else modStep p (fun c => { c with cmd := [], dropAck := true }) s

/-- A SKP set has come in on a port. -/
def skpReceived (p : Nat) (s : State) : State :=
  match (s.cal p).step with
  | none => s
  | some c =>
    if !c.dropAck then s
    else
      let st := fun i => s.get (F.HP_LANE_STATE_RXS (chainLane p i))
      let m := dropMap ((List.range 5).filter fun i => st i != lnRetired && i != c.lane) c.dropTo
      let s := s.setRxMap p m.1 m.2
      let s := s.each (List.range 5) fun i t => setRxHalf (chainLane p i) (dropState m c.lane (st i) i) t
      nextRetire p (showMode p (endStep p calAbandoned s))

/-- Row LANECMD_TIMEOUT. -/
def opLanecmdTimeout (p : Nat) (s : State) : State :=
  match (s.cal p).step with
  | none => s
  | some c =>
    if c.cmd.isEmpty then s
    else if c.resends < 3 then
      (modStep p (fun c => { c with resends := c.resends + 1 }) s).send (.ctrl p ⟨0x05, 0, s.ownCode, 0, 4, c.cmd⟩)
    else
      let op := c.cmd.headD 0
      if op = cmdDrop then linkExit p s
      else nextRetire p (calAbandon p (if op = cmdSwitched then swapRx p c.logical c.spare c.lane c.spare s else s))

/-! ### The affinage ramp (R219) -/

/-- The first field in the order CTLE, H1 to H5 that differs moves one code. -/
def eqOneCode (v t : EqVals) : EqVals :=
  let step := fun (a b : Int) => if a < b then a + 1 else a - 1
  if v.ctle ≠ t.ctle then { v with ctle := step v.ctle t.ctle }
  else if v.h1 ≠ t.h1 then { v with h1 := step v.h1 t.h1 }
  else if v.h2 ≠ t.h2 then { v with h2 := step v.h2 t.h2 }
  else if v.h3 ≠ t.h3 then { v with h3 := step v.h3 t.h3 }
  else if v.h4 ≠ t.h4 then { v with h4 := step v.h4 t.h4 }
  else if v.h5 ≠ t.h5 then { v with h5 := step v.h5 t.h5 }
  else v

/-- May the ramp move a lane now: a covered half that is not frozen? A step's own lane is ramped as the step says, frozen or not (R215, R219; DESIGN
CHOICE, log entry 104). -/
def State.rampMay (s : State) (g i : Nat) : Bool :=
  let n := groupLane g i
  let st := s.get (F.HP_LANE_STATE_RXS n)
  (st == lnActive || st == lnSpare) && s.calMay g i && s.on (F.HP_LANE_STATE_CDR_LOCK n) &&
  (match (s.cal g).step with
    | some c => if c.lane == i && !c.retiring then s.calState g == csRamp || (!c.inPlace && s.calState g == csAdapt)
        else !s.on (F.HP_LANE_CAL_RAMP_FROZEN n)
    | none => !s.on (F.HP_LANE_CAL_RAMP_FROZEN n))

/-- Row AFFINAGE_RAMP_STEP; `viol`: the lane showed a code violation since the previous step. -/
def opAffinage (lane : Nat) (viol : Bool) (s : State) : State :=
  let (g, i) := laneGroup lane
  if !s.rampMay g i then s
  else
    let a := (F.HP_LANE_RXEQ_CTLE lane).addr
    let l := s.lane lane
    if viol then
      match l.before with
      | some w =>
        ((s.wr a w).put (F.HP_LANE_CAL_RAMP_FROZEN lane) 1).setLn lane fun l => { l with before := none }
      | none => s
    else
      let cur := s.rd a
      let t := l.aim.getD (s.rd (F.HP_LANE_CAL_TGT_CTLE lane).addr)
      let new := (eqOneCode (EqVals.ofWord cur) (EqVals.ofWord t)).word
      let s := (s.wr a new).setLn lane fun l => { l with before := if new = cur then none else some cur }
      if s.calState g == csRamp && s.get (F.HP_CAL_STATUS_LANE g) == i && new = t then beginMeasure g s else s

/-- Row CLEAR_TRIM. -/
def opClearTrim (g : Nat) (s : State) : State := (trimInvalid g s).setCal g fun x => { x with changed := true }

/-- At a frame start the targets follow a temperature that has moved by 8 units or more. -/
def trimRetarget (g : Nat) (s : State) : State :=
  if ((s.cal g).temp - s.getI (F.HP_CAL_TEMP_TEMP g)).natAbs < 8 then s else retargetAll g s

/-- At a frame start HP_LANE_CAL_AGE shows whole seconds since the last accepted calibration, measured on the raster (R226, log entry 105). -/
def calAges (s : State) : State :=
  s.each (s.lanes.filterMap fun e => e.2.calAt.map fun t => (e.1, t)) fun e s =>
    s.put (F.HP_LANE_CAL_AGE_SECS e.1) (min ((s.raster.ticks - e.2) / tickSec) 0xFFFF)

/-- The changed groups' trim blocks go to the Cave, each into the copy that does not hold its newest (R220). -/
def trimSave (s : State) : State :=
  let s := { s with sys := { s.sys with trimSaved := s.raster.ticks } }
  s.each ((List.range 24).filter fun g => (s.cal g).changed) fun g s =>
    let words := (groupLanes g).flatMap fun n => (List.range 10).map fun k => atTRIM n 0 + 4 * k
    let old := s.trimBlocks
    let trim := words.foldl (fun t a => Tab.set (fun _ => 0) a (s.rd a) t) old.1
    let ids := Tab.set (fun _ => (0, 0)) g (s.get F.RD_MOULD_ID_WALL_ID, if s.isSender then 0 else s.enum.addr.getD 0) old.2
    let older := (words.foldl (fun t a => Tab.set (fun _ => 0) a (Tab.get (fun _ => 0) old.1 a) t) s.cave.trimOld.1,
      Tab.set (fun _ => (0, 0)) g (Tab.get (fun _ => (0, 0)) old.2 g) s.cave.trimOld.2)
    let cave := if s.inTrial then { s.cave with trimTrial := some (trim, ids) }
      else { s.cave with trimOld := older, trim := trim, trimId := ids, trimFmt := (s.upd.run.map (·.calFmt)).getD s.cave.trimFmt }
    { s with cave := cave }.setCal g fun x => { x with changed := false }

/-- Row TRIM_SAVE: at most once an hour, measured on the raster (R220, log entry 105). -/
def opTrimSave (s : State) : State := if s.sys.trimSaved + 3600 * tickSec ≤ s.raster.ticks then trimSave s else s

end Sys2Proof.Machine
end

