-- ==== Sys2Proof/Machine/Mem.lean ====
section
/-!
DEFINITION. DRAM bytes, P14 bursts and frame stores (R235 to R239, R248). A byte nothing has written reads as zero.
-/

namespace Sys2Proof.Machine

open Sys2Proof

/-! ### Bytes -/

/-- What an unlisted DRAM address reads as. -/
def blankByte (_ : Nat) : Byte := 0

/-- The byte at a DRAM address. -/
def State.byte (s : State) (a : Nat) : Byte := Tab.get blankByte s.dram a

/-- Writes a byte. -/
def State.setByte (s : State) (a : Nat) (b : Byte) : State := { s with dram := Tab.set blankByte a b s.dram }

/-- Is the memory in its canonical form? -/
def Memory.wf (m : List Host.Cell) : Bool := Tab.wf blankByte m

/-- `n` bytes as a number, least significant first. -/
def State.bytesN (s : State) : Nat → Nat → Nat
  | _, 0 => 0
  | a, n + 1 => (s.byte a).toNat + 256 * s.bytesN (a + 1) n

/-- Writes `n` bytes of a number, least significant first. -/
def State.setBytesN (s : State) : Nat → Nat → Nat → State
  | _, 0, _ => s
  | a, n + 1, v => (s.setByte a (BitVec.ofNat 8 v)).setBytesN (a + 1) n (v / 256)

/-- The DRAM address of byte `b` on the channels of Vat die `v`. -/
def dramAt (v b : Nat) : Nat := v * 2 ^ 40 + b

/-! ### P14 (R235) -/

/-- Word `k` of the burst at an address. -/
def State.p14 (s : State) (burst k : Nat) : Nat := s.bytesN (burst + 36 * k / 8) 5 / 2 ^ (36 * k % 8) % 2 ^ 36

/-- Writes word `k` of a burst. -/
def State.setP14 (s : State) (burst k w : Nat) : State :=
  let a := burst + 36 * k / 8
  let sh := 36 * k % 8
  let old := s.bytesN a 5
  s.setBytesN a 5 (old - old / 2 ^ sh % 2 ^ 36 * 2 ^ sh + w % 2 ^ 36 * 2 ^ sh)

/-- The tag of a burst, byte 63. -/
def State.tagOf (s : State) (burst : Nat) : Nat := (s.byte (burst + 63)).toNat

/-! ### Frame stores (R236, R239, R248) -/

/-- Store kinds as VT_LE_SRC codes them. -/
def skIngest : Nat := 0
def skRenderer : Nat := 1
def skWriteBack : Nat := 2

/-- The key of a store. -/
def storeKey (v kind i : Nat) : Nat := 16 * v + 4 * kind + i

/-- The registers of a store. -/
def storeAt (k off : Nat) : Nat :=
  let v := k / 16
  let i := k % 4
  if k / 4 % 4 = 0 then atING v i off else if k / 4 % 4 = 1 then atRND v i off else atWB v i off

def fsStride (k : Nat) : Fld := ⟨storeAt k 0x20, 31, 16⟩
def fsMaxRows (k : Nat) : Fld := ⟨storeAt k 0x20, 15, 0⟩
def fsBase (k b : Nat) : Fld := ⟨storeAt k (0x24 + 4 * b), 31, 0⟩
def fsNewest (k : Nat) : Fld := ⟨storeAt k 0x30, 31, 30⟩
def fsWriting (k : Nat) : Fld := ⟨storeAt k 0x30, 29, 28⟩
def fsHeld (k : Nat) : Fld := ⟨storeAt k 0x30, 26, 24⟩
def fsTagErr (k : Nat) : Fld := ⟨storeAt k 0x30, 15, 0⟩

/-- Does the image in force place the store? -/
def State.placed (s : State) (k : Nat) : Bool :=
  match s.mould.loaded with
  | some m => m.stores.any fun c => storeKey c.vat c.kind c.index == k
  | none => false

/-- A store's record, and its change. -/
def State.store (s : State) (k : Nat) : Store := Tab.get (fun _ => {}) s.stores k
def State.setBuf (s : State) (k b : Nat) (f : BufInfo → BufInfo) : State :=
  let t := s.store k
  { s with stores := Tab.set (fun _ => {}) k { t with bufs := Tab.set (fun _ => {}) b (f (Tab.get (fun _ => {}) t.bufs b)) t.bufs } s.stores }
def State.buf (s : State) (k b : Nat) : BufInfo := Tab.get (fun _ => {}) (s.store k).bufs b

/-- The key of a placed store. -/
def storeCfgKey (c : StoreCfg) : Nat := storeKey c.vat c.kind c.index

/-- STRIDE, MAX_ROWS and the three bases of a store as the image in force places it: where a frame that begins now is written (R60). -/
def State.storeCfg (s : State) (k : Nat) : StoreCfg :=
  { vat := k / 16, kind := k / 4 % 4, index := k % 4, stride := s.get (fsStride k), maxRows := s.get (fsMaxRows k),
    base0 := s.get (fsBase k 0), base1 := s.get (fsBase k 1), base2 := s.get (fsBase k 2) }

/-- Where the readers of a store find its newest complete frame: in the oldest place it was moved from without a frame complete since (R63). -/
def State.readCfg (s : State) (k : Nat) : StoreCfg :=
  ((s.mould.oldStores.find? fun e => storeCfgKey e.1 == k && !e.2).map (·.1)).getD (s.storeCfg k)

/-- A frame is complete in place `c` of its store: the places that it was moved from before are no longer needed (R63). -/
def placeComplete (c : StoreCfg) : List (StoreCfg × Bool) → List (StoreCfg × Bool)
  | [] => []
  | e :: t => if e.1 = c then e :: t else (e.1, e.2 || storeCfgKey e.1 == storeCfgKey c) :: placeComplete c t

/-- The places that are no longer needed are released: from this latch on the readers find a later one (R63). -/
def releaseStores (s : State) : State :=
  { s with mould := { s.mould with oldStores := s.mould.oldStores.filter (!·.2) } }

/-- The DRAM address of the burst that holds pixel (x, y) of buffer `b` (R236). -/
def storeBurst (c : StoreCfg) (b x y : Nat) : Nat :=
  dramAt c.vat ((if b = 0 then c.base0 else if b = 1 then c.base1 else c.base2) * 64 + (y * c.stride + x / 14) * 64)

/-- Writes a pixel of a buffer with the frame's tag; columns and rows beyond the layout are not written (R238). -/
def State.putPixel (s : State) (c : StoreCfg) (b tag x y w : Nat) : State :=
  if x < 14 * c.stride && y < c.maxRows then
    let a := storeBurst c b x y
    (s.setP14 a (x % 14) w).setByte (a + 63) (BitVec.ofNat 8 tag)
  else s

/-- Writes words along a row from column `x`; the slots after the row's last word are zeroed where the row of `wid` words ends. -/
def State.putRow (s : State) (c : StoreCfg) (b tag x y wid : Nat) (words : List Nat) : State :=
  let s := s.each words.zipIdx fun e s => s.putPixel c b tag (x + e.2) y e.1
  let pad := if x + words.length = wid then (14 - wid % 14) % 14 else 0
  s.each (List.range pad) fun i s => s.putPixel c b tag (wid + i) y 0

/-- A pixel of a buffer. -/
def State.pixel (s : State) (c : StoreCfg) (b x y : Nat) : Nat :=
  if x < 14 * c.stride then s.p14 (storeBurst c b x y) (x % 14) else 0

/-- The lowest buffer that is not held, not the newest complete one and not in `busy` (R239, R240). -/
def State.freeBuf (s : State) (k : Nat) (busy : List Nat) : Option Nat :=
  (List.range 3).find? fun b => !(s.get (fsHeld k)).testBit b && s.get (fsNewest k) != b && !busy.contains b

/-- Empties a store: no buffer is newest complete. -/
def emptyStore (k : Nat) (s : State) : State := s.put (fsNewest k) 3

/-- Spans merged into an ascending list: columns covered of a row. -/
def spanIns (a n : Nat) : List (Nat × Nat) → List (Nat × Nat)
  | [] => [(a, n)]
  | (b, m) :: t =>
    if a + n < b then (a, n) :: (b, m) :: t
    else if b + m < a then (b, m) :: spanIns a n t
    else spanIns (min a b) (max (a + n) (b + m) - min a b) t

/-- Do the spans cover columns 0 to w - 1? -/
def spanFull (w : Nat) (l : List (Nat × Nat)) : Bool := w == 0 || l.any fun e => e.1 == 0 && w ≤ e.2

end Sys2Proof.Machine
end

