-- ==== Sys2Proof/Machine/Ingest.lean ====
section
/-!
DEFINITION. Source ingest and the renderer path (chapter 08, R228 to R249; BAR2, R568, R569).
-/

namespace Sys2Proof.Machine

open Sys2Proof

/-! ### Engines -/

def ingUnused : Nat := 0
def ingNoSignal : Nat := 1
def ingWait : Nat := 2
def ingRunning : Nat := 3
def ingStopped : Nat := 4
def ingOver : Nat := 5

/-- An engine's record, and its change. -/
def State.ing (s : State) (v e : Nat) : Ingest := Tab.get (fun _ => {}) s.ings (2 * v + e)
def State.setIng (s : State) (v e : Nat) (f : Ingest → Ingest) : State :=
  { s with ings := Tab.set (fun _ => {}) (2 * v + e) (f (s.ing v e)) s.ings }

/-- The engine that a source port feeds, and the port's bit in a bonded pair. -/
def State.engineOf (s : State) (q : Nat) : Option (SourceCfg × Nat) :=
  match s.mould.loaded with
  | some m =>
    match m.sources.find? fun c => c.port == q || (c.bonded && c.port + 1 == q) with
    | some c => some (c, q - c.port)
    | none => none
  | none => none

/-- All port bits of an engine. -/
def portBits (c : SourceCfg) : Nat := if c.bonded then 3 else 1

/-- The state of an engine. -/
def State.ingState (s : State) (v e : Nat) : Nat := s.get (F.VT_ING_STATUS_STATE v e)

/-- Row SOURCE_PORT_LOCK (R230): adaptation has settled on each lane `i` with the settings `eq i`, laid out as HP_LANE_RXEQ (R185, R198). -/
def opSourceLock (q : Nat) (eq : List Word) (s : State) : State :=
  match s.engineOf q with
  | none => s
  | some (c, bit) =>
    let s := s.each (groupLanes (16 + q)).zipIdx fun n s =>
      setRxEq n.1 (eq.getD n.2 0) ((s.put (F.HP_LANE_STATE_RXS n.1) lnActive).put (F.HP_LANE_STATE_CDR_LOCK n.1) 1)
    let s := showCalSource q s
    let s := s.setIng c.vat c.engine fun x => { x with lock := setBit x.lock bit }
    if s.ingState c.vat c.engine == ingNoSignal && (s.ing c.vat c.engine).lock == portBits c then
      s.put (F.VT_ING_STATUS_STATE c.vat c.engine) ingWait
    else s
where
  /-- A source port calibrates in IN_PLACE mode (R204). -/
  showCalSource (q : Nat) (s : State) : State :=
    let g := 16 + q
    let s := ((s.put (F.HP_CAL_STATUS_VALID g) 1).put (F.HP_CAL_STATUS_IN_PLACE g) 1).putI (F.HP_CAL_TEMP_TEMP g) (s.cal g).temp
    s.each (groupLanes g) fun n s => retarget n (s.cal g).temp s

/-! ### FORMAT packets (R231, R242, R244) -/

/-- Are the fields of a FORMAT packet within their ranges? -/
def formatOk (f : SrcFormat) : Bool :=
  1 ≤ f.w && f.w ≤ 8192 && 1 ≤ f.h && f.h ≤ 8192 && 1 ≤ f.num && f.num ≤ 1048575 && 1 ≤ f.den && f.den ≤ 4095 &&
  f.code ≤ 2 && (f.depth == 8 || f.depth == 10 || f.depth == 12) && f.range ≤ 1 && f.bond ≤ 2

/-- The format without its BOND field, which differs between the ports of a pair. -/
def fmtPlain (f : SrcFormat) : SrcFormat := { f with bond := 0 }

/-- The format as the engine compares it (R242). BOND differs between the ports of a pair, so it stands as: 0 unbonded, 1 that of the port's own side of a
pair, 2 that of the other side (DEDUCED, log entry 107). -/
def fmtSeen (bit : Nat) (f : SrcFormat) : SrcFormat := { f with bond := if f.bond = 0 then 0 else if f.bond = bit + 1 then 1 else 2 }

/-- Pixel rate as a fraction. -/
def fmtRate (f : SrcFormat) : Nat × Nat := (f.w * f.h * f.num, f.den)

/-- Sum of fractions. -/
def fracAdd (a b : Nat × Nat) : Nat × Nat := (a.1 * b.2 + b.1 * a.2, a.2 * b.2)

/-- May the format be adopted (R244)? -/
def State.budgetOk (s : State) (c : SourceCfg) (f : SrcFormat) : Bool :=
  let r := fmtRate f
  let others := (List.range 8).filter fun i =>
    i != 2 * c.vat + c.engine && s.ingState (i / 2) (i % 2) != ingOver
  let sum := others.foldl (fun a i =>
    match (s.ing (i / 2) (i % 2)).inForce with | some g => fracAdd a (fmtRate g) | none => a) r
  r.1 ≤ (if c.bonded then 2080000000 else 1040000000) * r.2 && sum.1 ≤ 4000000000 * sum.2

/-- Puts a format in force (R247). -/
def adopt (v e : Nat) (f : SrcFormat) (s : State) : State :=
  let s := (s.put (F.VT_ING_FMT0_VALID v e) 1).bump (F.VT_ING_FMT0_SEQ v e)
  let s := ((s.put (F.VT_ING_FMT0_CODE v e) f.code).put (F.VT_ING_FMT0_DEPTH v e) f.depth).put (F.VT_ING_FMT0_RANGE v e) f.range
  let s := (s.put (F.VT_ING_FMT1_WIDTH v e) f.w).put (F.VT_ING_FMT1_HEIGHT v e) f.h
  let s := (s.put (F.VT_ING_FMT2_NUM v e) f.num).put (F.VT_ING_FMT2_DEN v e) f.den
  let s := s.put (F.VT_ING_STATUS_STATE v e) ingRunning
  s.setIng v e fun x => { x with inForce := some f, cand := none, stopped := 0 }

/-- WRITING of an engine's store: the target of the newest frame that has one and is not written yet, none otherwise (R248). -/
def showWriting (v e : Nat) (s : State) : State :=
  let x := s.ing v e
  let t := fun (o : Option IngFrame) => o.bind (·.target)
  s.put (fsWriting (storeKey v skIngest e)) ((t x.frame <|> t x.older <|> t x.done).getD 3)

/-- Discards the frame in progress. -/
def dropFrame (v e : Nat) (s : State) : State := showWriting v e (s.setIng v e fun x => { x with frame := none })

/-- A glitch (R242). -/
def glitch (v e : Nat) (s : State) : State := (s.flag (F.VT_ING_STATUS_GLITCH v e)).inc (F.VT_ING_COUNT2_GLITCH_N v e)

/-- The rows of a frame that accepted packets have not fully covered. -/
def IngFrame.badRows (fr : IngFrame) : List Nat :=
  (List.range fr.fmt.h).filter fun r => fr.lost.contains r || !spanFull fr.fmt.w (Tab.get (fun _ => []) fr.cover r)

/-- Publishes a buffer of a store that stands at `c` as the newest complete one (R63, R241). -/
def publish (c : StoreCfg) (b : Nat) (i : BufInfo) (s : State) : State :=
  let k := storeCfgKey c
  let s := (s.setBuf k b fun _ => i).put (fsNewest k) b
  { s with mould := { s.mould with oldStores := placeComplete c s.mould.oldStores } }

/-- Row INGEST_FRAME_COMPLETE. -/
def opIngestComplete (v e : Nat) (s : State) : State :=
  match (s.ing v e).done with
  | none => s
  | some fr =>
    let k := storeKey v skIngest e
    let s := showWriting v e (s.setIng v e fun x => { x with done := none })
    match fr.target with
    | none => s
    | some b =>
      let bad := fr.badRows
      let damaged := !bad.isEmpty
      let s := if damaged then (s.flag (F.VT_ING_STATUS_DAMAGED v e)).inc (F.VT_ING_COUNT_DAMAGED_N v e) else s
      if damaged && s.on (F.VT_ING_CTRL_DROP_DAMAGED v e) then s
      else
        let newest := s.get (fsNewest k)
        let s := if newest < 3 && !(s.buf k newest).latched then s.inc (F.VT_ING_COUNT_DROPPED v e) else s
        let w := min fr.fmt.w (14 * fr.lay.stride)
        let h := min fr.fmt.h fr.lay.maxRows
        let s := publish fr.lay b { w := w, h := h, code := fr.fmt.code, tag := fr.tag, fence := fr.sframe, invalid := bad, trunc := w < fr.fmt.w || h < fr.fmt.h } s
        (s.inc (F.VT_ING_COUNT_FRAMES v e)).put (F.VT_ING_SFRAME_SFRAME v e) fr.sframe

/-- A frame that has ended waits for its last burst to be written; one that is discarded ends with nothing. -/
def finishFrame (v e : Nat) (fr : IngFrame) (s : State) : State :=
  if fr.target.isNone then s else (opIngestComplete v e s).setIng v e fun x => { x with done := some fr }

/-- The newest frame ends on every port. -/
def endFrame (v e : Nat) (s : State) : State :=
  match (s.ing v e).frame with
  | none => s
  | some fr => showWriting v e (finishFrame v e fr (s.setIng v e fun x => { x with frame := none }))

/-- The bonded frame that one port still sent ends. -/
def endOlder (v e : Nat) (s : State) : State :=
  match (s.ing v e).older with
  | none => s
  | some fr => showWriting v e (finishFrame v e fr (s.setIng v e fun x => { x with older := none }))

/-- Begins a frame that is ingested: the target of R240, the tag of R237. -/
def beginFrame (v e : Nat) (f : SrcFormat) (sframe bit : Nat) (s : State) : State :=
  let k := storeKey v skIngest e
  let x := s.ing v e
  let busy := (x.done.toList ++ x.older.toList).filterMap (·.target)
  let t := s.freeBuf k busy
  let s := if t.isNone then s.inc (F.VT_ING_COUNT_DROPPED v e) else s
  let s := if f.w > 14 * s.get (fsStride k) || f.h > s.get (fsMaxRows k) then s.flag (F.VT_ING_STATUS_TRUNC v e) else s
  showWriting v e (s.setIng v e fun x =>
    { x with frame := some { fmt := f, sframe := sframe, lay := s.storeCfg k, target := t, tag := s.raster.fnum % 256, begun := 2 ^ bit } })

/-- A frame whose source data is discarded: it accepts nothing into a buffer. -/
def beginDiscard (v e : Nat) (f : SrcFormat) (sframe bit : Nat) (s : State) : State :=
  showWriting v e (s.setIng v e fun x => { x with frame := some { fmt := f, sframe := sframe, target := none, tag := 0, begun := 2 ^ bit } })

/-- Counts a gap of SFRAME (R242). -/
def sframeGap (v e sframe : Nat) (s : State) : State :=
  let s := match (s.ing v e).lastSframe with
    | some l =>
      let gap := (sframe % 2 ^ 32 + 2 ^ 32 - l % 2 ^ 32) % 2 ^ 32
      if gap = 1 then s else s.addSat (F.VT_ING_COUNT2_SKIPPED v e) ((gap + 2 ^ 32 - 1) % 2 ^ 32)
    | none => s
  s.setIng v e fun x => { x with lastSframe := some sframe }

/-- Is a start-to-start period (0.25 ns) outside P of the format by more than 12.5 %? -/
def offPeriod (f : SrcFormat) (period : Nat) : Bool :=
  let p := f.den * 4000000000
  (((period * f.num : Nat) : Int) - p).natAbs * 8 > p

/-- Judges the format of a packet that begins a frame. -/
def judgeFormat (c : SourceCfg) (f : SrcFormat) (sframe bit : Nat) (s : State) : State :=
  let v := c.vat
  let e := c.engine
  let x := s.ing v e
  let running := s.ingState v e == ingRunning
  if running && x.inForce == some (fmtSeen bit f) then
    beginFrame v e (fmtSeen bit f) sframe bit (s.setIng v e fun x => { x with cand := none })
  else if x.cand == some (fmtSeen bit f) then
    if s.budgetOk c (fmtSeen bit f) then beginFrame v e (fmtSeen bit f) sframe bit (adopt v e (fmtSeen bit f) s)
    else beginDiscard v e (fmtSeen bit f) sframe bit (s.put (F.VT_ING_STATUS_STATE v e) ingOver)
  else
    let s := s.raise (F.VT_ING_STATUS_FMT_CHG v e) 17
    beginDiscard v e (fmtSeen bit f) sframe bit (s.setIng v e fun x => { x with cand := some (fmtSeen bit f) })

/-- A FORMAT packet that begins a frame of the engine. In a pair whose other port still sends the frame before, that one goes on there (R233). -/
def formatBegins (c : SourceCfg) (f : SrcFormat) (sframe bit : Nat) (period : Option Nat) (s : State) : State :=
  let v := c.vat
  let e := c.engine
  let s := match (s.ing v e).frame with
    | some fr =>
      if c.bonded && setBit fr.ended bit != 3 then (endOlder v e s).setIng v e fun x => { x with frame := none, older := some { fr with ended := 2 ^ bit } }
      else endFrame v e s
    | none => s
  let s := match (s.ing v e).inForce, period with
    | some g, some p => if s.ingState v e == ingRunning && offPeriod g p then glitch v e s else s
    | _, _ => s
  judgeFormat c f sframe bit (sframeGap v e sframe s)

/-- Row FORMAT. -/
def opFormat (q sframe : Nat) (f : SrcFormat) (crcOk : Bool) (period : Option Nat) (s : State) : State :=
  match s.engineOf q with
  | none => s
  | some (c, bit) =>
    let v := c.vat
    let e := c.engine
    if !(s.ing v e).lock.testBit bit then s
    else if !crcOk || !formatOk f then
      let s := s.inc (F.VT_ING_COUNT2_PKT_ERR v e)
      let shut := fun (o : Option IngFrame) => o.map fun fr => { fr with shut := setBit fr.shut bit }
      s.setIng v e fun x => { x with frame := shut x.frame, older := shut x.older }
    else
      -- the frame before ends on this port, if the port still sends it: the last of the two
      let s := if (s.ing v e).older.any (!·.ended.testBit bit) then endOlder v e s else s
      match (s.ing v e).frame with
      | some fr =>
        if c.bonded && !fr.begun.testBit bit then
          -- the second port of a pair begins the frame
          if fmtPlain fr.fmt != fmtPlain f || fr.sframe != sframe then
            showWriting v e ((glitch v e s).setIng v e fun x => { x with frame := some { fr with target := none, begun := 3 } })
          else if (fmtSeen bit f).bond != fr.fmt.bond then
            -- its BOND alone differs, which is a change of format (R242)
            showWriting v e ((s.raise (F.VT_ING_STATUS_FMT_CHG v e) 17).setIng v e fun x =>
              { x with cand := some (fmtSeen bit f), frame := some { fr with target := none, begun := 3 } })
          else s.setIng v e fun x => { x with frame := some { fr with begun := 3, shut := clearBit fr.shut bit } }
        else if c.bonded && fr.begun != 3 then
          -- this port begins the next frame before the other has begun the current one
          formatBegins c f sframe bit period (dropFrame v e (glitch v e s))
        else formatBegins c f sframe bit period s
      | none => formatBegins c f sframe bit period s

/-! ### Line packets (R233, R234) -/

/-- A component of depth `n` as a 12-bit code (R234). -/
def comp12 (depth range c : Nat) : Nat :=
  let c := c % 2 ^ depth
  if range = 0 then
    if depth = 12 then c else if depth = 10 then c * 4 + c / 256 else c * 16 + c / 16
  else
    let blk := 16 * 2 ^ (depth - 8)
    let wht := 235 * 2 ^ (depth - 8)
    let span := wht - blk
    if c ≤ blk then 0 else if wht ≤ c then 4095 else (2 * (c - blk) * 4095 + span) / (2 * span)

/-- The control symbols of the source format (R229): COM, SKP, ALN, SCP, SOS and EOP. -/
def sourceKs : List Nat := [symCom, symSkp, symAln, symScp, symSos, symEop]

/-- Was a line packet received without a code violation, and did it end in EOP (R229, R233)? -/
def lineClean (e : LineEnd) : Bool := !e.viol && e.ctrl.all sourceKs.contains && e.ctrl.getLast? == some symEop

/-- A source word as a pixel word. -/
def pixelWord (f : SrcFormat) (w : Nat) : Nat :=
  let cc := fun i => comp12 f.depth f.range (w / 2 ^ (12 * i) % 4096)
  cc 2 * 2 ^ 24 + cc 1 * 2 ^ 12 + cc 0

/-- Is what a port sends of the frame before, which the other port has ended? It comes before the frame that the other port has begun (R233). -/
def Ingest.onOlder (x : Ingest) (bit : Nat) : Bool := x.older.isSome && !x.frame.any (·.begun.testBit bit)

/-- Row LINE_PACKET. -/
def opLinePacket (q row col sf : Nat) (last : Bool) (words : List Nat) (ok : Bool) (s : State) : State :=
  match s.engineOf q with
  | none => s
  | some (c, bit) =>
    let v := c.vat
    let e := c.engine
    let bad := s.inc (F.VT_ING_COUNT2_PKT_ERR v e)
    let x := s.ing v e
    let older := x.onOlder bit
    match (if older then x.older else x.frame) with
    | none => bad
    | some fr =>
      let n := words.length
      if !ok || sf % 256 != fr.sframe % 256 || fr.fmt.h ≤ row || fr.fmt.w < col + n || n == 0 || 1024 < n ||
          (c.bonded && row % 2 != bit) || fr.shut.testBit bit || !fr.begun.testBit bit || fr.ended.testBit bit then bad
      else
        let s := match fr.target with
          | some b => s.putRow fr.lay b fr.tag col row fr.fmt.w (words.map (pixelWord fr.fmt))
          | none => s
        let old := Tab.get (fun _ => []) fr.cover row
        let fr := { fr with cover := Tab.set (fun _ => []) row (spanIns col n old) fr.cover,
                            ended := if last then setBit fr.ended bit else fr.ended }
        let s := s.setIng v e fun x => if older then { x with older := some fr } else { x with frame := some fr }
        if fr.ended == portBits c then (if older then endOlder v e s else endFrame v e s) else s

/-- Row INGEST_STOP (R242). -/
def opIngestStop (v e lost : Nat) (s : State) : State :=
  let st := s.ingState v e
  let s := s.setIng v e fun x => { x with lock := x.lock - (x.lock &&& lost) }
  let s := match s.mould.loaded with
    | some m => match m.sources.find? fun c => c.vat == v && c.engine == e with
      | some c => s.each (bitsOf 2 lost) fun i s => s.each (groupLanes (16 + c.port + i)) fun n s =>
          (s.put (F.HP_LANE_STATE_RXS n) lnTrain)
      | none => s
    | none => s
  if st == ingWait || st == ingRunning || st == ingOver then
    let s := (s.put (F.VT_ING_STATUS_STATE v e) ingStopped).raise (F.VT_ING_STATUS_STOPPED_EV v e) 16
    (dropFrame v e (s.setIng v e fun x => { x with older := none })).setIng v e fun x => { x with cand := none, stopped := 0 }
  else s

/-- Row INGEST_OVERFLOW: each row is lost to the frame that its port sends; a row's parity names the port of a pair (R232, R242). -/
def opIngestOverflow (v e : Nat) (rows : List Nat) (s : State) : State :=
  (s.inc (F.VT_ING_COUNT2_OVERFLOW v e)).setIng v e fun x =>
    let lose := fun (l : List Nat) (o : Option IngFrame) => o.map fun fr => { fr with lost := l ++ fr.lost }
    { x with older := lose (rows.filter fun r => x.onOlder (r % 2)) x.older, frame := lose (rows.filter fun r => !x.onOlder (r % 2)) x.frame }

/-- Row STOP_HOLD_EXPIRY (R243, R244). -/
def opStopHold (v e : Nat) (s : State) : State :=
  let n := s.get (F.VT_ING_CTRL_STOP_HOLD v e)
  let st := s.ingState v e
  if (st == ingStopped || st == ingOver) && 0 < n && n ≤ (s.ing v e).stopped then emptyStore (storeKey v skIngest e) s else s

/-- A wall frame passes in STOPPED. -/
def stoppedFrame (v e : Nat) (s : State) : State :=
  let st := s.ingState v e
  if st == ingStopped || st == ingOver then s.setIng v e fun x => { x with stopped := x.stopped + 1 } else s

/-- Row ING_FMT_READ: the three format registers read coherently. -/
def opIngFmtRead (v e : Nat) (s : State) : State :=
  let a := (F.VT_ING_FMT0_VALID v e).addr
  s.captureRead a [a + 4, a + 8]

/-! ### The renderer path (R245, R246, R249) -/

def rndIdle : Nat := 0
def rndOpen : Nat := 1
def rndFlushing : Nat := 2
def rndDone : Nat := 3
def rndNoFree : Nat := 4
def rndRefused : Nat := 5

def State.rnd (s : State) (v r : Nat) : Rnd := Tab.get (fun _ => {}) s.rnds (2 * v + r)
def State.setRnd (s : State) (v r : Nat) (f : Rnd → Rnd) : State :=
  { s with rnds := Tab.set (fun _ => {}) (2 * v + r) (f (s.rnd v r)) s.rnds }

/-- A finished command's result. -/
def rndResult (v r st buf : Nat) (s : State) : State :=
  let s := (s.put (F.VT_RND_RESULT_VALID v r) 1).bump (F.VT_RND_RESULT_SEQ v r)
  (s.put (F.VT_RND_RESULT_STATE v r) st).put (F.VT_RND_RESULT_BUF v r) buf

/-- A refused command changes nothing but the result's state. -/
def rndRefuse (v r : Nat) (s : State) : State := rndResult v r rndRefused (s.get (F.VT_RND_RESULT_BUF v r)) s

/-- Row OPEN. -/
def opOpen (v r : Nat) (s : State) : State :=
  let k := storeKey v skRenderer r
  let w := s.get (F.VT_RND_FMT_WIDTH v r)
  let h := s.get (F.VT_RND_FMT_HEIGHT v r)
  if !s.placed k || (s.rnd v r).buf.isSome || 14 * s.get (fsStride k) < w || s.get (fsMaxRows k) < h then rndRefuse v r s
  else match s.freeBuf k (s.rnd v r).ended with
    | none => rndResult v r rndNoFree 3 s
    | some b =>
      let s := s.setRnd v r fun x =>
        { buf := some b, lay := s.storeCfg k, tag := s.raster.fnum % 256, w := w, h := h, code := s.get (F.VT_RND_CODE_CODE v r), ended := x.ended }
      rndResult v r rndOpen b (s.put (fsWriting k) b)

/-- Row FENCE. -/
def opFence (v r : Nat) (s : State) : State :=
  let x := s.rnd v r
  if x.buf.isNone || x.flush.isSome then rndRefuse v r s
  else
    let s := s.setRnd v r fun x => { x with flush := some (s.get (F.VT_RND_FENCE_VAL_VAL v r)) }
    (s.put (F.VT_RND_RESULT_STATE v r) rndFlushing).put (F.VT_RND_RESULT_VALID v r) 0

/-- Row FENCE_FLUSH_DONE: the oldest flush is over; its buffer is published, or released where an ABORT ended it. -/
def opFlushDone (v r : Nat) (s : State) : State :=
  let x := s.rnd v r
  match x.ended, x.buf, x.flush with
  | _ :: t, _, _ => s.setRnd v r fun x => { x with ended := t }
  | [], some b, some fv =>
    let s := (s.setRnd v r fun _ => {}).put (fsWriting (storeKey v skRenderer r)) 3
    let s := publish x.lay b { w := x.w, h := x.h, code := x.code, tag := x.tag, fence := fv } s
    let s := s.put (F.VT_RND_DONE_VAL v r) fv
    (rndResult v r rndDone b s).cause 18
  | _, _, _ => s

/-- Row ABORT: the buffer is open no longer; one that flushes is free again once its flush is over (R239, R246). -/
def opAbort (v r : Nat) (s : State) : State :=
  let x := s.rnd v r
  match x.buf with
  | none => rndRefuse v r s
  | some b =>
    let s := rndResult v r rndIdle b s
    (s.setRnd v r fun x => { ended := if x.flush.isSome then x.ended ++ [b] else x.ended }).put (fsWriting (storeKey v skRenderer r)) 3

/-- A write of VT_RND_CMD: any other OP is refused. -/
def opRndCmd (v r op : Nat) (s : State) : State :=
  if op == 1 then opOpen v r s else if op == 2 then opFence v r s else if op == 3 then opAbort v r s else rndRefuse v r s

/-! ### BAR2 (R568, R569) -/

/-- Die, store key and buffer of a BAR2 offset, if its slot is used. -/
def bar2Slot (off : Nat) : Option (Nat × Nat × Nat) :=
  let v := off / 2 ^ 33 % 4
  let slot := off / 2 ^ 29 % 16
  if slot < 6 then some (v, storeKey v skRenderer (slot / 3), slot % 3)
  else if slot < 12 then some (v, storeKey v skWriteBack ((slot - 6) / 3), slot % 3)
  else none

/-- Where an access finds the store: an open buffer's own place, or the readers' (R63, log entry 126). -/
def State.bar2Cfg (s : State) (k b : Nat) : StoreCfg :=
  let x := s.rnd (k / 16) (k % 4)
  if k / 4 % 4 == skRenderer && x.buf == some b then x.lay else s.readCfg k

/-- Bytes of a buffer of a store. -/
def storeBytes (c : StoreCfg) : Nat := c.stride * c.maxRows * 64

/-- Does an access to a slot cross no failed link, and find its store on a die that runs (R26, R568)? -/
def State.bar2Reaches (s : State) (v k : Nat) : Bool := s.isSender && s.dieRuns (1 + v) && s.placed k && !s.links.failed.contains (1 + v)

/-- The buffer an access reaches: store key, buffer and first byte. -/
def State.bar2Target (s : State) (off len : Nat) : Option (Nat × Nat × Nat) :=
  match bar2Slot off with
  | some (v, k, b) => if s.bar2Reaches v k && off % 2 ^ 29 + len ≤ storeBytes (s.bar2Cfg k b) then some (k, b, off % 2 ^ 29) else none
  | none => none

/-- A write into a slot beyond its buffer's size: the picture of the store concerned is unpredictable (R250), so each byte changes a free place of
that buffer to a free value. -/
def bar2Beyond (base len n : Nat) (s : State) : State :=
  s.each (List.range n) fun _ s =>
    let d := s.draw
    let e := d.2.draw
    e.2.setByte (base + d.1.toNat % max len 1) (e.1.setWidth 8)

/-- A write into a buffer that is not the open one of its renderer store: the picture there is unpredictable (R250), so each byte it addresses and
the tag of each burst it touches become free values. -/
def bar2Stray (base at' n : Nat) (s : State) : State :=
  s.each (List.range n) fun i s =>
    let d := s.draw
    let s := d.2.setByte (base + at' + i) (d.1.setWidth 8)
    let d := s.draw
    d.2.setByte (base + (at' + i) / 64 * 64 + 63) (d.1.setWidth 8)

/-- The bursts of a buffer, of those listed, that a write of `n` bytes from byte `a` covers in part: they are merged with what DRAM holds (R245). -/
def partBursts (a n : Nat) (l : List Nat) : List Nat :=
  l.filter fun b => a < 64 * b + 64 && 64 * b < a + n && !(a ≤ 64 * b && 64 * b + 64 ≤ a + n)

/-- Row BAR2_WRITE: the bytes reach the open buffer, byte 63 of each burst carries its tag; a burst written in part whose read meets an uncorrectable
error (`ue`, by its number in the buffer) is zero otherwise (R381). A write that reaches no buffer of any store changes no picture (R250, R569). -/
def opBar2Write (off : Nat) (bytes : List Nat) (ue : List Nat) (s : State) : State :=
  match s.bar2Target off bytes.length with
  | none =>
    match bar2Slot off with
    | some (v, k, b) =>
      if s.bar2Reaches v k then bar2Beyond (storeBurst (s.bar2Cfg k b) b 0 0) (storeBytes (s.bar2Cfg k b)) bytes.length s else s
    | none => s
  | some (k, b, at') =>
    let x := s.rnd (k / 16) (k % 4)
    let base := storeBurst (s.bar2Cfg k b) b 0 0
    if k / 4 % 4 != skRenderer || x.buf != some b || x.flush.isSome then bar2Stray base at' bytes.length s
    else
      let s := s.each (partBursts at' bytes.length ue) fun b s => s.setBytesN (base + 64 * b) 64 0
      (s.each bytes.zipIdx fun e s =>
        let a := at' + e.2
        let s := s.setByte (base + a) (BitVec.ofNat 8 (if a % 64 = 63 then x.tag else e.1))
        s.setByte (base + a / 64 * 64 + 63) (BitVec.ofNat 8 x.tag))

/-- Row BAR2_READ; with an uncorrectable error the completion carries its data poisoned (R381). -/
def opBar2Read (off len : Nat) (ue : Bool) (s : State) : State :=
  match s.bar2Target off len with
  | none => s.reply (List.replicate len 0xFF)
  | some (k, b, at') =>
    let base := storeBurst (s.bar2Cfg k b) b 0 0
    let s := s.reply ((List.range len).map fun i => (s.byte (base + at' + i)).toNat)
    { s with acc := { s.acc with poisoned := ue } }

end Sys2Proof.Machine
end

