-- ==== Sys2Proof/Machine/Rom.lean ====
section
/-!
DEFINITION. The ROM tables of LIN (R256): code to W20 for ST 2084 and BT.1886, 64 rows of 64 entries each. Entry o is the nearest integer of
1,048,575 times the standard's EOTF at o / 4,095, as the rule's formulas give it.
-/

namespace Sys2Proof.Machine

/-! ### ST 2084 -/

def romPq0 : List Nat := [
  0, 0, 0, 0, 0, 0, 0, 0, 0, 0, 0, 0, 0, 0, 0, 0,
  0, 0, 0, 0, 0, 0, 0, 0, 0, 0, 0, 0, 0, 0, 0, 0,
  0, 0, 0, 0, 0, 0, 0, 0, 0, 0, 0, 0, 0, 0, 0, 0,
  0, 0, 0, 0, 0, 0, 0, 0, 0, 0, 0, 0, 0, 1, 1, 1]
def romPq1 : List Nat := [
  1, 1, 1, 1, 1, 1, 1, 1, 1, 1, 1, 1, 1, 1, 1, 1,
  1, 1, 1, 1, 1, 1, 1, 1, 1, 1, 1, 1, 1, 1, 1, 1,
  1, 1, 1, 1, 1, 1, 1, 1, 1, 1, 2, 2, 2, 2, 2, 2,
  2, 2, 2, 2, 2, 2, 2, 2, 2, 2, 2, 2, 2, 2, 2, 2]
def romPq2 : List Nat := [
  2, 2, 2, 2, 2, 2, 2, 3, 3, 3, 3, 3, 3, 3, 3, 3,
  3, 3, 3, 3, 3, 3, 3, 3, 3, 3, 3, 3, 3, 3, 4, 4,
  4, 4, 4, 4, 4, 4, 4, 4, 4, 4, 4, 4, 4, 4, 4, 4,
  4, 5, 5, 5, 5, 5, 5, 5, 5, 5, 5, 5, 5, 5, 5, 5]
def romPq3 : List Nat := [
  5, 6, 6, 6, 6, 6, 6, 6, 6, 6, 6, 6, 6, 6, 6, 6,
  7, 7, 7, 7, 7, 7, 7, 7, 7, 7, 7, 7, 7, 7, 8, 8,
  8, 8, 8, 8, 8, 8, 8, 8, 8, 8, 9, 9, 9, 9, 9, 9,
  9, 9, 9, 9, 9, 10, 10, 10, 10, 10, 10, 10, 10, 10, 10, 10]
def romPq4 : List Nat := [
  11, 11, 11, 11, 11, 11, 11, 11, 11, 11, 12, 12, 12, 12, 12, 12,
  12, 12, 12, 13, 13, 13, 13, 13, 13, 13, 13, 13, 14, 14, 14, 14,
  14, 14, 14, 14, 14, 15, 15, 15, 15, 15, 15, 15, 15, 16, 16, 16,
  16, 16, 16, 16, 16, 17, 17, 17, 17, 17, 17, 17, 18, 18, 18, 18]
def romPq5 : List Nat := [
  18, 18, 18, 19, 19, 19, 19, 19, 19, 19, 20, 20, 20, 20, 20, 20,
  20, 21, 21, 21, 21, 21, 21, 22, 22, 22, 22, 22, 22, 23, 23, 23,
  23, 23, 23, 24, 24, 24, 24, 24, 24, 25, 25, 25, 25, 25, 25, 26,
  26, 26, 26, 26, 27, 27, 27, 27, 27, 27, 28, 28, 28, 28, 28, 29]
def romPq6 : List Nat := [
  29, 29, 29, 29, 30, 30, 30, 30, 30, 31, 31, 31, 31, 31, 32, 32,
  32, 32, 32, 33, 33, 33, 33, 33, 34, 34, 34, 34, 35, 35, 35, 35,
  35, 36, 36, 36, 36, 37, 37, 37, 37, 38, 38, 38, 38, 38, 39, 39,
  39, 39, 40, 40, 40, 40, 41, 41, 41, 41, 42, 42, 42, 42, 43, 43]
def romPq7 : List Nat := [
  43, 43, 44, 44, 44, 45, 45, 45, 45, 46, 46, 46, 46, 47, 47, 47,
  48, 48, 48, 48, 49, 49, 49, 50, 50, 50, 50, 51, 51, 51, 52, 52,
  52, 52, 53, 53, 53, 54, 54, 54, 55, 55, 55, 55, 56, 56, 56, 57,
  57, 57, 58, 58, 58, 59, 59, 59, 60, 60, 60, 61, 61, 61, 62, 62]
def romPq8 : List Nat := [
  62, 63, 63, 63, 64, 64, 64, 65, 65, 65, 66, 66, 66, 67, 67, 68,
  68, 68, 69, 69, 69, 70, 70, 70, 71, 71, 72, 72, 72, 73, 73, 74,
  74, 74, 75, 75, 75, 76, 76, 77, 77, 77, 78, 78, 79, 79, 79, 80,
  80, 81, 81, 82, 82, 82, 83, 83, 84, 84, 84, 85, 85, 86, 86, 87]
def romPq9 : List Nat := [
  87, 87, 88, 88, 89, 89, 90, 90, 91, 91, 91, 92, 92, 93, 93, 94,
  94, 95, 95, 96, 96, 97, 97, 98, 98, 98, 99, 99, 100, 100, 101, 101,
  102, 102, 103, 103, 104, 104, 105, 105, 106, 106, 107, 107, 108, 108, 109, 109,
  110, 110, 111, 112, 112, 113, 113, 114, 114, 115, 115, 116, 116, 117, 117, 118]
def romPq10 : List Nat := [
  119, 119, 120, 120, 121, 121, 122, 122, 123, 124, 124, 125, 125, 126, 126, 127,
  128, 128, 129, 129, 130, 131, 131, 132, 132, 133, 134, 134, 135, 135, 136, 137,
  137, 138, 138, 139, 140, 140, 141, 142, 142, 143, 144, 144, 145, 145, 146, 147,
  147, 148, 149, 149, 150, 151, 151, 152, 153, 153, 154, 155, 155, 156, 157, 157]
def romPq11 : List Nat := [
  158, 159, 160, 160, 161, 162, 162, 163, 164, 164, 165, 166, 167, 167, 168, 169,
  169, 170, 171, 172, 172, 173, 174, 175, 175, 176, 177, 178, 178, 179, 180, 181,
  181, 182, 183, 184, 185, 185, 186, 187, 188, 188, 189, 190, 191, 192, 192, 193,
  194, 195, 196, 197, 197, 198, 199, 200, 201, 201, 202, 203, 204, 205, 206, 207]
def romPq12 : List Nat := [
  207, 208, 209, 210, 211, 212, 213, 213, 214, 215, 216, 217, 218, 219, 220, 221,
  221, 222, 223, 224, 225, 226, 227, 228, 229, 230, 231, 231, 232, 233, 234, 235,
  236, 237, 238, 239, 240, 241, 242, 243, 244, 245, 246, 247, 248, 249, 250, 251,
  252, 253, 254, 255, 256, 257, 258, 259, 260, 261, 262, 263, 264, 265, 266, 267]
def romPq13 : List Nat := [
  268, 269, 270, 271, 272, 273, 274, 275, 277, 278, 279, 280, 281, 282, 283, 284,
  285, 286, 287, 289, 290, 291, 292, 293, 294, 295, 296, 298, 299, 300, 301, 302,
  303, 304, 306, 307, 308, 309, 310, 312, 313, 314, 315, 316, 317, 319, 320, 321,
  322, 324, 325, 326, 327, 328, 330, 331, 332, 333, 335, 336, 337, 338, 340, 341]
def romPq14 : List Nat := [
  342, 344, 345, 346, 347, 349, 350, 351, 353, 354, 355, 357, 358, 359, 360, 362,
  363, 365, 366, 367, 369, 370, 371, 373, 374, 375, 377, 378, 380, 381, 382, 384,
  385, 387, 388, 389, 391, 392, 394, 395, 396, 398, 399, 401, 402, 404, 405, 407,
  408, 410, 411, 413, 414, 416, 417, 419, 420, 422, 423, 425, 426, 428, 429, 431]
def romPq15 : List Nat := [
  432, 434, 435, 437, 438, 440, 442, 443, 445, 446, 448, 450, 451, 453, 454, 456,
  458, 459, 461, 462, 464, 466, 467, 469, 471, 472, 474, 476, 477, 479, 481, 482,
  484, 486, 487, 489, 491, 493, 494, 496, 498, 500, 501, 503, 505, 507, 508, 510,
  512, 514, 515, 517, 519, 521, 523, 524, 526, 528, 530, 532, 534, 535, 537, 539]
def romPq16 : List Nat := [
  541, 543, 545, 547, 548, 550, 552, 554, 556, 558, 560, 562, 564, 566, 567, 569,
  571, 573, 575, 577, 579, 581, 583, 585, 587, 589, 591, 593, 595, 597, 599, 601,
  603, 605, 607, 609, 611, 613, 616, 618, 620, 622, 624, 626, 628, 630, 632, 634,
  636, 639, 641, 643, 645, 647, 649, 652, 654, 656, 658, 660, 662, 665, 667, 669]
def romPq17 : List Nat := [
  671, 674, 676, 678, 680, 683, 685, 687, 689, 692, 694, 696, 698, 701, 703, 705,
  708, 710, 712, 715, 717, 719, 722, 724, 727, 729, 731, 734, 736, 739, 741, 743,
  746, 748, 751, 753, 756, 758, 761, 763, 765, 768, 770, 773, 775, 778, 781, 783,
  786, 788, 791, 793, 796, 798, 801, 804, 806, 809, 811, 814, 817, 819, 822, 824]
def romPq18 : List Nat := [
  827, 830, 832, 835, 838, 840, 843, 846, 849, 851, 854, 857, 860, 862, 865, 868,
  871, 873, 876, 879, 882, 884, 887, 890, 893, 896, 899, 901, 904, 907, 910, 913,
  916, 919, 922, 925, 927, 930, 933, 936, 939, 942, 945, 948, 951, 954, 957, 960,
  963, 966, 969, 972, 975, 978, 981, 984, 988, 991, 994, 997, 1000, 1003, 1006, 1009]
def romPq19 : List Nat := [
  1013, 1016, 1019, 1022, 1025, 1028, 1032, 1035, 1038, 1041, 1044, 1048, 1051, 1054, 1057, 1061,
  1064, 1067, 1071, 1074, 1077, 1081, 1084, 1087, 1091, 1094, 1097, 1101, 1104, 1108, 1111, 1114,
  1118, 1121, 1125, 1128, 1132, 1135, 1139, 1142, 1146, 1149, 1153, 1156, 1160, 1163, 1167, 1170,
  1174, 1177, 1181, 1185, 1188, 1192, 1195, 1199, 1203, 1206, 1210, 1214, 1217, 1221, 1225, 1229]
def romPq20 : List Nat := [
  1232, 1236, 1240, 1244, 1247, 1251, 1255, 1259, 1262, 1266, 1270, 1274, 1278, 1282, 1285, 1289,
  1293, 1297, 1301, 1305, 1309, 1313, 1317, 1321, 1325, 1329, 1333, 1337, 1341, 1345, 1349, 1353,
  1357, 1361, 1365, 1369, 1373, 1377, 1381, 1385, 1390, 1394, 1398, 1402, 1406, 1410, 1415, 1419,
  1423, 1427, 1431, 1436, 1440, 1444, 1449, 1453, 1457, 1461, 1466, 1470, 1474, 1479, 1483, 1488]
def romPq21 : List Nat := [
  1492, 1496, 1501, 1505, 1510, 1514, 1519, 1523, 1528, 1532, 1537, 1541, 1546, 1550, 1555, 1559,
  1564, 1568, 1573, 1578, 1582, 1587, 1592, 1596, 1601, 1606, 1610, 1615, 1620, 1624, 1629, 1634,
  1639, 1644, 1648, 1653, 1658, 1663, 1668, 1672, 1677, 1682, 1687, 1692, 1697, 1702, 1707, 1712,
  1717, 1722, 1727, 1732, 1737, 1742, 1747, 1752, 1757, 1762, 1767, 1772, 1777, 1782, 1788, 1793]
def romPq22 : List Nat := [
  1798, 1803, 1808, 1814, 1819, 1824, 1829, 1834, 1840, 1845, 1850, 1856, 1861, 1866, 1872, 1877,
  1882, 1888, 1893, 1899, 1904, 1910, 1915, 1921, 1926, 1932, 1937, 1943, 1948, 1954, 1959, 1965,
  1970, 1976, 1982, 1987, 1993, 1999, 2004, 2010, 2016, 2022, 2027, 2033, 2039, 2045, 2050, 2056,
  2062, 2068, 2074, 2080, 2086, 2091, 2097, 2103, 2109, 2115, 2121, 2127, 2133, 2139, 2145, 2151]
def romPq23 : List Nat := [
  2157, 2163, 2170, 2176, 2182, 2188, 2194, 2200, 2206, 2213, 2219, 2225, 2231, 2238, 2244, 2250,
  2257, 2263, 2269, 2276, 2282, 2288, 2295, 2301, 2308, 2314, 2321, 2327, 2334, 2340, 2347, 2353,
  2360, 2366, 2373, 2380, 2386, 2393, 2399, 2406, 2413, 2420, 2426, 2433, 2440, 2447, 2453, 2460,
  2467, 2474, 2481, 2488, 2495, 2501, 2508, 2515, 2522, 2529, 2536, 2543, 2550, 2557, 2565, 2572]
def romPq24 : List Nat := [
  2579, 2586, 2593, 2600, 2607, 2615, 2622, 2629, 2636, 2643, 2651, 2658, 2665, 2673, 2680, 2687,
  2695, 2702, 2710, 2717, 2725, 2732, 2740, 2747, 2755, 2762, 2770, 2777, 2785, 2793, 2800, 2808,
  2816, 2823, 2831, 2839, 2846, 2854, 2862, 2870, 2878, 2886, 2893, 2901, 2909, 2917, 2925, 2933,
  2941, 2949, 2957, 2965, 2973, 2981, 2989, 2998, 3006, 3014, 3022, 3030, 3038, 3047, 3055, 3063]
def romPq25 : List Nat := [
  3072, 3080, 3088, 3097, 3105, 3113, 3122, 3130, 3139, 3147, 3156, 3164, 3173, 3181, 3190, 3199,
  3207, 3216, 3224, 3233, 3242, 3251, 3259, 3268, 3277, 3286, 3295, 3303, 3312, 3321, 3330, 3339,
  3348, 3357, 3366, 3375, 3384, 3393, 3402, 3412, 3421, 3430, 3439, 3448, 3457, 3467, 3476, 3485,
  3495, 3504, 3513, 3523, 3532, 3542, 3551, 3561, 3570, 3580, 3589, 3599, 3608, 3618, 3627, 3637]
def romPq26 : List Nat := [
  3647, 3657, 3666, 3676, 3686, 3696, 3705, 3715, 3725, 3735, 3745, 3755, 3765, 3775, 3785, 3795,
  3805, 3815, 3825, 3835, 3845, 3856, 3866, 3876, 3886, 3897, 3907, 3917, 3928, 3938, 3948, 3959,
  3969, 3980, 3990, 4001, 4011, 4022, 4033, 4043, 4054, 4065, 4075, 4086, 4097, 4107, 4118, 4129,
  4140, 4151, 4162, 4173, 4184, 4195, 4206, 4217, 4228, 4239, 4250, 4261, 4272, 4283, 4295, 4306]
def romPq27 : List Nat := [
  4317, 4329, 4340, 4351, 4363, 4374, 4385, 4397, 4408, 4420, 4431, 4443, 4455, 4466, 4478, 4490,
  4501, 4513, 4525, 4537, 4548, 4560, 4572, 4584, 4596, 4608, 4620, 4632, 4644, 4656, 4668, 4680,
  4693, 4705, 4717, 4729, 4741, 4754, 4766, 4778, 4791, 4803, 4816, 4828, 4841, 4853, 4866, 4878,
  4891, 4904, 4916, 4929, 4942, 4955, 4967, 4980, 4993, 5006, 5019, 5032, 5045, 5058, 5071, 5084]
def romPq28 : List Nat := [
  5097, 5110, 5124, 5137, 5150, 5163, 5177, 5190, 5203, 5217, 5230, 5244, 5257, 5271, 5284, 5298,
  5311, 5325, 5339, 5352, 5366, 5380, 5394, 5407, 5421, 5435, 5449, 5463, 5477, 5491, 5505, 5519,
  5533, 5548, 5562, 5576, 5590, 5605, 5619, 5633, 5648, 5662, 5677, 5691, 5706, 5720, 5735, 5749,
  5764, 5779, 5793, 5808, 5823, 5838, 5853, 5868, 5883, 5898, 5913, 5928, 5943, 5958, 5973, 5988]
def romPq29 : List Nat := [
  6003, 6019, 6034, 6049, 6065, 6080, 6096, 6111, 6127, 6142, 6158, 6173, 6189, 6205, 6220, 6236,
  6252, 6268, 6284, 6299, 6315, 6331, 6347, 6364, 6380, 6396, 6412, 6428, 6444, 6461, 6477, 6493,
  6510, 6526, 6543, 6559, 6576, 6592, 6609, 6626, 6642, 6659, 6676, 6693, 6709, 6726, 6743, 6760,
  6777, 6794, 6811, 6829, 6846, 6863, 6880, 6897, 6915, 6932, 6950, 6967, 6985, 7002, 7020, 7037]
def romPq30 : List Nat := [
  7055, 7073, 7090, 7108, 7126, 7144, 7162, 7180, 7198, 7216, 7234, 7252, 7270, 7288, 7306, 7325,
  7343, 7361, 7380, 7398, 7417, 7435, 7454, 7472, 7491, 7510, 7528, 7547, 7566, 7585, 7604, 7623,
  7642, 7661, 7680, 7699, 7718, 7738, 7757, 7776, 7795, 7815, 7834, 7854, 7873, 7893, 7913, 7932,
  7952, 7972, 7991, 8011, 8031, 8051, 8071, 8091, 8111, 8131, 8152, 8172, 8192, 8212, 8233, 8253]
def romPq31 : List Nat := [
  8274, 8294, 8315, 8335, 8356, 8377, 8397, 8418, 8439, 8460, 8481, 8502, 8523, 8544, 8565, 8586,
  8607, 8628, 8650, 8671, 8693, 8714, 8735, 8757, 8779, 8800, 8822, 8844, 8866, 8887, 8909, 8931,
  8953, 8975, 8997, 9020, 9042, 9064, 9086, 9109, 9131, 9154, 9176, 9199, 9221, 9244, 9267, 9289,
  9312, 9335, 9358, 9381, 9404, 9427, 9450, 9473, 9497, 9520, 9543, 9567, 9590, 9614, 9637, 9661]
def romPq32 : List Nat := [
  9684, 9708, 9732, 9756, 9780, 9804, 9828, 9852, 9876, 9900, 9924, 9948, 9973, 9997, 10022, 10046,
  10071, 10095, 10120, 10145, 10169, 10194, 10219, 10244, 10269, 10294, 10319, 10344, 10369, 10395, 10420, 10445,
  10471, 10496, 10522, 10548, 10573, 10599, 10625, 10651, 10677, 10703, 10729, 10755, 10781, 10807, 10833, 10860,
  10886, 10913, 10939, 10966, 10992, 11019, 11046, 11073, 11099, 11126, 11153, 11180, 11207, 11235, 11262, 11289]
def romPq33 : List Nat := [
  11317, 11344, 11372, 11399, 11427, 11454, 11482, 11510, 11538, 11566, 11594, 11622, 11650, 11678, 11706, 11735,
  11763, 11791, 11820, 11848, 11877, 11906, 11935, 11963, 11992, 12021, 12050, 12079, 12108, 12138, 12167, 12196,
  12226, 12255, 12285, 12314, 12344, 12374, 12404, 12434, 12463, 12493, 12524, 12554, 12584, 12614, 12645, 12675,
  12706, 12736, 12767, 12797, 12828, 12859, 12890, 12921, 12952, 12983, 13014, 13046, 13077, 13108, 13140, 13171]
def romPq34 : List Nat := [
  13203, 13235, 13266, 13298, 13330, 13362, 13394, 13426, 13458, 13491, 13523, 13556, 13588, 13621, 13653, 13686,
  13719, 13751, 13784, 13817, 13850, 13884, 13917, 13950, 13984, 14017, 14050, 14084, 14118, 14152, 14185, 14219,
  14253, 14287, 14321, 14356, 14390, 14424, 14459, 14493, 14528, 14562, 14597, 14632, 14667, 14702, 14737, 14772,
  14807, 14843, 14878, 14913, 14949, 14985, 15020, 15056, 15092, 15128, 15164, 15200, 15236, 15272, 15309, 15345]
def romPq35 : List Nat := [
  15382, 15418, 15455, 15492, 15529, 15566, 15603, 15640, 15677, 15714, 15751, 15789, 15826, 15864, 15902, 15939,
  15977, 16015, 16053, 16091, 16129, 16168, 16206, 16244, 16283, 16322, 16360, 16399, 16438, 16477, 16516, 16555,
  16594, 16634, 16673, 16712, 16752, 16792, 16831, 16871, 16911, 16951, 16991, 17031, 17072, 17112, 17153, 17193,
  17234, 17275, 17315, 17356, 17397, 17438, 17480, 17521, 17562, 17604, 17645, 17687, 17729, 17771, 17813, 17855]
def romPq36 : List Nat := [
  17897, 17939, 17981, 18024, 18066, 18109, 18151, 18194, 18237, 18280, 18323, 18366, 18410, 18453, 18496, 18540,
  18584, 18627, 18671, 18715, 18759, 18803, 18848, 18892, 18936, 18981, 19026, 19070, 19115, 19160, 19205, 19250,
  19296, 19341, 19386, 19432, 19478, 19523, 19569, 19615, 19661, 19707, 19754, 19800, 19847, 19893, 19940, 19987,
  20033, 20080, 20128, 20175, 20222, 20269, 20317, 20365, 20412, 20460, 20508, 20556, 20604, 20653, 20701, 20750]
def romPq37 : List Nat := [
  20798, 20847, 20896, 20945, 20994, 21043, 21092, 21141, 21191, 21240, 21290, 21340, 21390, 21440, 21490, 21540,
  21590, 21641, 21691, 21742, 21793, 21844, 21895, 21946, 21997, 22049, 22100, 22152, 22204, 22255, 22307, 22359,
  22412, 22464, 22516, 22569, 22621, 22674, 22727, 22780, 22833, 22886, 22940, 22993, 23047, 23101, 23154, 23208,
  23262, 23317, 23371, 23425, 23480, 23534, 23589, 23644, 23699, 23754, 23810, 23865, 23921, 23976, 24032, 24088]
def romPq38 : List Nat := [
  24144, 24200, 24256, 24313, 24369, 24426, 24483, 24540, 24597, 24654, 24711, 24769, 24826, 24884, 24942, 24999,
  25057, 25116, 25174, 25232, 25291, 25350, 25409, 25467, 25527, 25586, 25645, 25705, 25764, 25824, 25884, 25944,
  26004, 26064, 26125, 26185, 26246, 26307, 26368, 26429, 26490, 26551, 26613, 26675, 26736, 26798, 26860, 26922,
  26985, 27047, 27110, 27173, 27235, 27298, 27362, 27425, 27488, 27552, 27616, 27680, 27744, 27808, 27872, 27936]
def romPq39 : List Nat := [
  28001, 28066, 28131, 28196, 28261, 28326, 28391, 28457, 28523, 28589, 28655, 28721, 28787, 28854, 28920, 28987,
  29054, 29121, 29188, 29255, 29323, 29391, 29458, 29526, 29594, 29663, 29731, 29800, 29868, 29937, 30006, 30075,
  30145, 30214, 30284, 30354, 30424, 30494, 30564, 30634, 30705, 30776, 30846, 30917, 30989, 31060, 31131, 31203,
  31275, 31347, 31419, 31491, 31564, 31636, 31709, 31782, 31855, 31929, 32002, 32076, 32149, 32223, 32297, 32372]
def romPq40 : List Nat := [
  32446, 32521, 32595, 32670, 32745, 32820, 32896, 32971, 33047, 33123, 33199, 33275, 33352, 33428, 33505, 33582,
  33659, 33736, 33814, 33891, 33969, 34047, 34125, 34204, 34282, 34361, 34440, 34519, 34598, 34677, 34757, 34836,
  34916, 34996, 35076, 35157, 35237, 35318, 35399, 35480, 35561, 35643, 35725, 35806, 35888, 35971, 36053, 36136,
  36218, 36301, 36384, 36468, 36551, 36635, 36719, 36803, 36887, 36971, 37056, 37141, 37226, 37311, 37396, 37482]
def romPq41 : List Nat := [
  37567, 37653, 37739, 37826, 37912, 37999, 38086, 38173, 38260, 38348, 38435, 38523, 38611, 38699, 38788, 38876,
  38965, 39054, 39143, 39233, 39322, 39412, 39502, 39592, 39683, 39773, 39864, 39955, 40046, 40138, 40229, 40321,
  40413, 40505, 40598, 40691, 40783, 40876, 40970, 41063, 41157, 41251, 41345, 41439, 41533, 41628, 41723, 41818,
  41913, 42009, 42105, 42201, 42297, 42393, 42490, 42587, 42684, 42781, 42878, 42976, 43074, 43172, 43270, 43369]
def romPq42 : List Nat := [
  43468, 43567, 43666, 43765, 43865, 43965, 44065, 44165, 44266, 44366, 44467, 44569, 44670, 44772, 44873, 44976,
  45078, 45180, 45283, 45386, 45489, 45593, 45696, 45800, 45905, 46009, 46113, 46218, 46323, 46429, 46534, 46640,
  46746, 46852, 46959, 47065, 47172, 47279, 47387, 47495, 47602, 47711, 47819, 47928, 48036, 48145, 48255, 48364,
  48474, 48584, 48694, 48805, 48916, 49027, 49138, 49250, 49361, 49473, 49586, 49698, 49811, 49924, 50037, 50151]
def romPq43 : List Nat := [
  50265, 50379, 50493, 50607, 50722, 50837, 50952, 51068, 51184, 51300, 51416, 51533, 51649, 51767, 51884, 52001,
  52119, 52237, 52356, 52474, 52593, 52713, 52832, 52952, 53072, 53192, 53312, 53433, 53554, 53675, 53797, 53919,
  54041, 54163, 54286, 54409, 54532, 54656, 54779, 54903, 55028, 55152, 55277, 55402, 55527, 55653, 55779, 55905,
  56032, 56159, 56286, 56413, 56541, 56668, 56797, 56925, 57054, 57183, 57312, 57442, 57572, 57702, 57832, 57963]
def romPq44 : List Nat := [
  58094, 58226, 58357, 58489, 58621, 58754, 58887, 59020, 59153, 59287, 59421, 59555, 59690, 59825, 59960, 60095,
  60231, 60367, 60503, 60640, 60777, 60914, 61052, 61190, 61328, 61467, 61605, 61744, 61884, 62024, 62164, 62304,
  62445, 62586, 62727, 62869, 63010, 63153, 63295, 63438, 63581, 63725, 63869, 64013, 64157, 64302, 64447, 64592,
  64738, 64884, 65031, 65177, 65324, 65472, 65619, 65767, 65916, 66064, 66213, 66363, 66512, 66662, 66813, 66963]
def romPq45 : List Nat := [
  67114, 67266, 67417, 67569, 67722, 67874, 68027, 68181, 68334, 68488, 68643, 68797, 68952, 69108, 69263, 69420,
  69576, 69733, 69890, 70047, 70205, 70363, 70522, 70681, 70840, 71000, 71159, 71320, 71480, 71641, 71803, 71964,
  72127, 72289, 72452, 72615, 72778, 72942, 73106, 73271, 73436, 73601, 73767, 73933, 74100, 74266, 74434, 74601,
  74769, 74937, 75106, 75275, 75444, 75614, 75784, 75955, 76126, 76297, 76469, 76641, 76813, 76986, 77159, 77333]
def romPq46 : List Nat := [
  77507, 77681, 77856, 78031, 78207, 78383, 78559, 78736, 78913, 79090, 79268, 79446, 79625, 79804, 79983, 80163,
  80344, 80524, 80705, 80887, 81069, 81251, 81433, 81617, 81800, 81984, 82168, 82353, 82538, 82724, 82910, 83096,
  83283, 83470, 83657, 83845, 84034, 84223, 84412, 84602, 84792, 84982, 85173, 85365, 85556, 85749, 85941, 86134,
  86328, 86522, 86716, 86911, 87106, 87302, 87498, 87695, 87892, 88089, 88287, 88485, 88684, 88883, 89083, 89283]
def romPq47 : List Nat := [
  89483, 89684, 89886, 90087, 90290, 90492, 90696, 90899, 91103, 91308, 91513, 91718, 91924, 92131, 92338, 92545,
  92753, 92961, 93170, 93379, 93588, 93798, 94009, 94220, 94431, 94643, 94856, 95069, 95282, 95496, 95710, 95925,
  96140, 96356, 96572, 96789, 97006, 97224, 97442, 97661, 97880, 98099, 98320, 98540, 98761, 98983, 99205, 99427,
  99651, 99874, 100098, 100323, 100548, 100773, 100999, 101226, 101453, 101681, 101909, 102137, 102366, 102596, 102826, 103057]
def romPq48 : List Nat := [
  103288, 103520, 103752, 103984, 104218, 104451, 104686, 104920, 105156, 105392, 105628, 105865, 106102, 106340, 106579, 106818,
  107057, 107297, 107538, 107779, 108021, 108263, 108506, 108749, 108993, 109237, 109482, 109727, 109973, 110220, 110467, 110715,
  110963, 111212, 111461, 111711, 111961, 112212, 112464, 112716, 112969, 113222, 113476, 113730, 113985, 114241, 114497, 114753,
  115011, 115268, 115527, 115786, 116045, 116305, 116566, 116827, 117089, 117352, 117615, 117878, 118142, 118407, 118673, 118939]
def romPq49 : List Nat := [
  119205, 119472, 119740, 120008, 120277, 120547, 120817, 121088, 121359, 121631, 121904, 122177, 122451, 122725, 123000, 123276,
  123552, 123829, 124106, 124384, 124663, 124943, 125223, 125503, 125784, 126066, 126349, 126632, 126916, 127200, 127485, 127771,
  128057, 128344, 128631, 128920, 129209, 129498, 129788, 130079, 130371, 130663, 130955, 131249, 131543, 131838, 132133, 132429,
  132726, 133023, 133321, 133620, 133919, 134219, 134520, 134821, 135124, 135426, 135730, 136034, 136339, 136644, 136950, 137257]
def romPq50 : List Nat := [
  137565, 137873, 138182, 138491, 138802, 139113, 139424, 139737, 140050, 140364, 140678, 140993, 141309, 141626, 141943, 142261,
  142580, 142899, 143219, 143540, 143862, 144184, 144507, 144831, 145155, 145481, 145807, 146133, 146461, 146789, 147118, 147447,
  147778, 148109, 148441, 148773, 149107, 149441, 149776, 150111, 150448, 150785, 151122, 151461, 151800, 152141, 152481, 152823,
  153166, 153509, 153853, 154197, 154543, 154889, 155236, 155584, 155933, 156282, 156632, 156983, 157335, 157688, 158041, 158395]
def romPq51 : List Nat := [
  158750, 159106, 159462, 159820, 160178, 160537, 160897, 161257, 161618, 161981, 162344, 162707, 163072, 163438, 163804, 164171,
  164539, 164908, 165277, 165648, 166019, 166391, 166764, 167138, 167512, 167888, 168264, 168641, 169019, 169398, 169778, 170158,
  170539, 170922, 171305, 171689, 172074, 172459, 172846, 173233, 173622, 174011, 174401, 174792, 175184, 175576, 175970, 176364,
  176760, 177156, 177553, 177951, 178350, 178750, 179151, 179553, 179955, 180359, 180763, 181168, 181574, 181981, 182390, 182798]
def romPq52 : List Nat := [
  183208, 183619, 184031, 184444, 184857, 185272, 185687, 186103, 186521, 186939, 187358, 187778, 188200, 188622, 189045, 189469,
  189893, 190319, 190746, 191174, 191603, 192033, 192463, 192895, 193328, 193761, 194196, 194631, 195068, 195506, 195944, 196384,
  196824, 197266, 197708, 198152, 198596, 199042, 199488, 199936, 200385, 200834, 201285, 201736, 202189, 202643, 203097, 203553,
  204010, 204468, 204926, 205386, 205847, 206309, 206772, 207236, 207701, 208167, 208635, 209103, 209572, 210043, 210514, 210986]
def romPq53 : List Nat := [
  211460, 211935, 212410, 212887, 213365, 213844, 214324, 214805, 215287, 215771, 216255, 216741, 217227, 217715, 218204, 218694,
  219185, 219677, 220170, 220665, 221160, 221657, 222155, 222653, 223153, 223655, 224157, 224660, 225165, 225671, 226177, 226685,
  227195, 227705, 228216, 228729, 229243, 229758, 230274, 230791, 231310, 231829, 232350, 232872, 233395, 233920, 234445, 234972,
  235500, 236029, 236560, 237091, 237624, 238158, 238693, 239230, 239768, 240306, 240847, 241388, 241930, 242474, 243019, 243566]
def romPq54 : List Nat := [
  244113, 244662, 245212, 245763, 246316, 246869, 247424, 247981, 248538, 249097, 249657, 250219, 250781, 251345, 251910, 252477,
  253045, 253614, 254184, 254756, 255329, 255903, 256479, 257056, 257634, 258213, 258794, 259377, 259960, 260545, 261131, 261719,
  262307, 262898, 263489, 264082, 264676, 265272, 265869, 266467, 267067, 267668, 268270, 268874, 269479, 270086, 270694, 271303,
  271914, 272526, 273140, 273755, 274371, 274989, 275608, 276228, 276850, 277474, 278099, 278725, 279353, 279982, 280612, 281244]
def romPq55 : List Nat := [
  281878, 282512, 283149, 283787, 284426, 285067, 285709, 286352, 286998, 287644, 288292, 288942, 289593, 290245, 290899, 291555,
  292212, 292870, 293530, 294192, 294855, 295520, 296186, 296853, 297523, 298193, 298865, 299539, 300214, 300891, 301570, 302250,
  302931, 303614, 304299, 304985, 305673, 306362, 307053, 307746, 308440, 309136, 309833, 310532, 311232, 311934, 312638, 313343,
  314050, 314759, 315469, 316181, 316895, 317610, 318326, 319045, 319765, 320487, 321210, 321935, 322662, 323390, 324120, 324852]
def romPq56 : List Nat := [
  325585, 326320, 327057, 327795, 328535, 329277, 330021, 330766, 331513, 332262, 333012, 333764, 334518, 335274, 336031, 336790,
  337551, 338314, 339078, 339844, 340612, 341382, 342153, 342926, 343701, 344478, 345256, 346037, 346819, 347603, 348389, 349176,
  349965, 350757, 351550, 352344, 353141, 353940, 354740, 355542, 356346, 357152, 357960, 358769, 359581, 360394, 361209, 362027,
  362846, 363666, 364489, 365314, 366140, 366969, 367799, 368632, 369466, 370302, 371140, 371980, 372822, 373666, 374512, 375360]
def romPq57 : List Nat := [
  376210, 377061, 377915, 378771, 379628, 380488, 381350, 382213, 383079, 383946, 384816, 385688, 386561, 387437, 388315, 389194,
  390076, 390960, 391846, 392734, 393624, 394516, 395410, 396306, 397204, 398105, 399007, 399911, 400818, 401727, 402638, 403550,
  404465, 405383, 406302, 407223, 408147, 409072, 410000, 410930, 411862, 412797, 413733, 414672, 415613, 416556, 417501, 418448,
  419398, 420349, 421303, 422260, 423218, 424179, 425142, 426107, 427074, 428044, 429016, 429990, 430966, 431945, 432926, 433909]
def romPq58 : List Nat := [
  434894, 435882, 436872, 437865, 438859, 439856, 440856, 441857, 442861, 443867, 444876, 445887, 446900, 447916, 448934, 449955,
  450978, 452003, 453030, 454060, 455093, 456127, 457165, 458204, 459246, 460291, 461338, 462387, 463439, 464493, 465550, 466609,
  467671, 468735, 469801, 470870, 471942, 473016, 474092, 475172, 476253, 477337, 478424, 479513, 480605, 481699, 482796, 483895,
  484997, 486102, 487209, 488319, 489431, 490546, 491664, 492784, 493906, 495032, 496160, 497290, 498424, 499560, 500698, 501839]
def romPq59 : List Nat := [
  502983, 504130, 505279, 506431, 507586, 508743, 509903, 511066, 512232, 513400, 514571, 515745, 516921, 518100, 519282, 520467,
  521655, 522845, 524038, 525234, 526433, 527634, 528839, 530046, 531256, 532469, 533684, 534903, 536124, 537348, 538576, 539806,
  541038, 542274, 543513, 544755, 545999, 547247, 548497, 549750, 551006, 552266, 553528, 554793, 556061, 557332, 558606, 559883,
  561163, 562446, 563733, 565022, 566314, 567609, 568907, 570209, 571513, 572820, 574131, 575444, 576761, 578081, 579404, 580730]
def romPq60 : List Nat := [
  582059, 583391, 584727, 586065, 587407, 588752, 590100, 591451, 592805, 594163, 595524, 596888, 598255, 599625, 600999, 602376,
  603756, 605140, 606526, 607916, 609309, 610706, 612106, 613509, 614915, 616325, 617738, 619155, 620574, 621998, 623424, 624854,
  626287, 627724, 629164, 630607, 632054, 633504, 634958, 636415, 637876, 639340, 640807, 642278, 643753, 645231, 646712, 648197,
  649686, 651178, 652673, 654172, 655675, 657181, 658691, 660204, 661721, 663242, 664766, 666293, 667825, 669360, 670898, 672441]
def romPq61 : List Nat := [
  673987, 675536, 677090, 678647, 680207, 681772, 683340, 684911, 686487, 688066, 689649, 691236, 692827, 694421, 696019, 697621,
  699227, 700836, 702450, 704067, 705688, 707313, 708942, 710574, 712211, 713851, 715496, 717144, 718796, 720452, 722112, 723776,
  725444, 727116, 728792, 730472, 732156, 733843, 735535, 737231, 738931, 740635, 742344, 744056, 745772, 747492, 749217, 750945,
  752678, 754415, 756156, 757901, 759650, 761404, 763162, 764923, 766689, 768460, 770234, 772013, 773796, 775583, 777375, 779171]
def romPq62 : List Nat := [
  780971, 782775, 784584, 786397, 788214, 790036, 791862, 793693, 795527, 797367, 799210, 801058, 802911, 804768, 806629, 808495,
  810365, 812240, 814119, 816003, 817891, 819784, 821681, 823583, 825489, 827400, 829316, 831236, 833161, 835090, 837024, 838963,
  840906, 842854, 844807, 846764, 848726, 850693, 852664, 854640, 856621, 858607, 860597, 862593, 864593, 866598, 868607, 870622,
  872641, 874665, 876694, 878728, 880767, 882811, 884859, 886913, 888972, 891035, 893104, 895177, 897255, 899339, 901427, 903521]
def romPq63 : List Nat := [
  905619, 907723, 909831, 911945, 914064, 916188, 918317, 920451, 922590, 924735, 926885, 929039, 931199, 933365, 935535, 937711,
  939892, 942078, 944270, 946466, 948668, 950876, 953089, 955307, 957530, 959759, 961993, 964233, 966478, 968728, 970984, 973246,
  975513, 977785, 980063, 982346, 984635, 986929, 989229, 991535, 993846, 996162, 998485, 1000813, 1003146, 1005486, 1007830, 1010181,
  1012537, 1014899, 1017267, 1019640, 1022020, 1024405, 1026795, 1029192, 1031594, 1034002, 1036417, 1038836, 1041262, 1043694, 1046132, 1048575]

/-- LIN of ST 2084. -/
def romPq : List (List Nat) :=
  [romPq0, romPq1, romPq2, romPq3, romPq4, romPq5, romPq6, romPq7]
  ++ [romPq8, romPq9, romPq10, romPq11, romPq12, romPq13, romPq14, romPq15]
  ++ [romPq16, romPq17, romPq18, romPq19, romPq20, romPq21, romPq22, romPq23]
  ++ [romPq24, romPq25, romPq26, romPq27, romPq28, romPq29, romPq30, romPq31]
  ++ [romPq32, romPq33, romPq34, romPq35, romPq36, romPq37, romPq38, romPq39]
  ++ [romPq40, romPq41, romPq42, romPq43, romPq44, romPq45, romPq46, romPq47]
  ++ [romPq48, romPq49, romPq50, romPq51, romPq52, romPq53, romPq54, romPq55]
  ++ [romPq56, romPq57, romPq58, romPq59, romPq60, romPq61, romPq62, romPq63]

/-! ### BT.1886 -/

def romBt0 : List Nat := [
  0, 0, 0, 0, 0, 0, 0, 0, 0, 0, 1, 1, 1, 1, 1, 1,
  2, 2, 2, 3, 3, 3, 4, 4, 5, 5, 6, 6, 7, 7, 8, 9,
  9, 10, 11, 11, 12, 13, 14, 15, 16, 17, 18, 19, 20, 21, 22, 23,
  24, 26, 27, 28, 29, 31, 32, 34, 35, 37, 38, 40, 42, 43, 45, 47]
def romBt1 : List Nat := [
  49, 50, 52, 54, 56, 58, 60, 62, 64, 67, 69, 71, 73, 76, 78, 80,
  83, 85, 88, 91, 93, 96, 99, 101, 104, 107, 110, 113, 116, 119, 122, 125,
  128, 132, 135, 138, 142, 145, 149, 152, 156, 159, 163, 167, 170, 174, 178, 182,
  186, 190, 194, 198, 202, 206, 211, 215, 219, 224, 228, 233, 237, 242, 247, 251]
def romBt2 : List Nat := [
  256, 261, 266, 271, 276, 281, 286, 291, 296, 302, 307, 312, 318, 323, 329, 334,
  340, 346, 351, 357, 363, 369, 375, 381, 387, 393, 399, 405, 412, 418, 425, 431,
  438, 444, 451, 458, 464, 471, 478, 485, 492, 499, 506, 513, 521, 528, 535, 543,
  550, 558, 565, 573, 581, 588, 596, 604, 612, 620, 628, 636, 644, 653, 661, 669]
def romBt3 : List Nat := [
  678, 686, 695, 704, 712, 721, 730, 739, 748, 757, 766, 775, 784, 793, 803, 812,
  821, 831, 840, 850, 860, 870, 879, 889, 899, 909, 919, 930, 940, 950, 960, 971,
  981, 992, 1002, 1013, 1024, 1035, 1046, 1056, 1067, 1079, 1090, 1101, 1112, 1124, 1135, 1146,
  1158, 1170, 1181, 1193, 1205, 1217, 1229, 1241, 1253, 1265, 1277, 1289, 1302, 1314, 1327, 1339]
def romBt4 : List Nat := [
  1352, 1365, 1377, 1390, 1403, 1416, 1429, 1442, 1456, 1469, 1482, 1496, 1509, 1523, 1536, 1550,
  1564, 1578, 1591, 1605, 1619, 1634, 1648, 1662, 1676, 1691, 1705, 1720, 1734, 1749, 1764, 1779,
  1794, 1809, 1824, 1839, 1854, 1869, 1885, 1900, 1916, 1931, 1947, 1962, 1978, 1994, 2010, 2026,
  2042, 2058, 2075, 2091, 2107, 2124, 2140, 2157, 2174, 2190, 2207, 2224, 2241, 2258, 2275, 2292]
def romBt5 : List Nat := [
  2310, 2327, 2344, 2362, 2380, 2397, 2415, 2433, 2451, 2469, 2487, 2505, 2523, 2541, 2560, 2578,
  2597, 2615, 2634, 2653, 2671, 2690, 2709, 2728, 2747, 2767, 2786, 2805, 2825, 2844, 2864, 2884,
  2903, 2923, 2943, 2963, 2983, 3003, 3023, 3044, 3064, 3085, 3105, 3126, 3147, 3167, 3188, 3209,
  3230, 3251, 3272, 3294, 3315, 3337, 3358, 3380, 3401, 3423, 3445, 3467, 3489, 3511, 3533, 3555]
def romBt6 : List Nat := [
  3578, 3600, 3622, 3645, 3668, 3690, 3713, 3736, 3759, 3782, 3805, 3828, 3852, 3875, 3899, 3922,
  3946, 3970, 3993, 4017, 4041, 4065, 4089, 4114, 4138, 4162, 4187, 4211, 4236, 4261, 4285, 4310,
  4335, 4360, 4385, 4411, 4436, 4461, 4487, 4512, 4538, 4564, 4590, 4615, 4641, 4668, 4694, 4720,
  4746, 4773, 4799, 4826, 4852, 4879, 4906, 4933, 4960, 4987, 5014, 5041, 5069, 5096, 5124, 5151]
def romBt7 : List Nat := [
  5179, 5207, 5235, 5263, 5291, 5319, 5347, 5375, 5404, 5432, 5461, 5490, 5518, 5547, 5576, 5605,
  5634, 5663, 5693, 5722, 5751, 5781, 5811, 5840, 5870, 5900, 5930, 5960, 5990, 6021, 6051, 6081,
  6112, 6142, 6173, 6204, 6235, 6266, 6297, 6328, 6359, 6390, 6422, 6453, 6485, 6517, 6548, 6580,
  6612, 6644, 6676, 6709, 6741, 6773, 6806, 6838, 6871, 6904, 6937, 6970, 7003, 7036, 7069, 7102]
def romBt8 : List Nat := [
  7136, 7169, 7203, 7236, 7270, 7304, 7338, 7372, 7406, 7440, 7475, 7509, 7544, 7578, 7613, 7648,
  7683, 7718, 7753, 7788, 7823, 7858, 7894, 7929, 7965, 8001, 8037, 8072, 8108, 8144, 8181, 8217,
  8253, 8290, 8326, 8363, 8400, 8437, 8473, 8510, 8548, 8585, 8622, 8660, 8697, 8735, 8772, 8810,
  8848, 8886, 8924, 8962, 9000, 9039, 9077, 9116, 9154, 9193, 9232, 9271, 9310, 9349, 9388, 9427]
def romBt9 : List Nat := [
  9467, 9506, 9546, 9586, 9625, 9665, 9705, 9745, 9785, 9826, 9866, 9907, 9947, 9988, 10028, 10069,
  10110, 10151, 10192, 10234, 10275, 10316, 10358, 10400, 10441, 10483, 10525, 10567, 10609, 10651, 10694, 10736,
  10779, 10821, 10864, 10907, 10949, 10992, 11036, 11079, 11122, 11165, 11209, 11252, 11296, 11340, 11384, 11428,
  11472, 11516, 11560, 11605, 11649, 11694, 11738, 11783, 11828, 11873, 11918, 11963, 12008, 12054, 12099, 12145]
def romBt10 : List Nat := [
  12191, 12236, 12282, 12328, 12374, 12420, 12467, 12513, 12559, 12606, 12653, 12699, 12746, 12793, 12840, 12888,
  12935, 12982, 13030, 13077, 13125, 13173, 13221, 13269, 13317, 13365, 13413, 13461, 13510, 13559, 13607, 13656,
  13705, 13754, 13803, 13852, 13902, 13951, 14000, 14050, 14100, 14150, 14199, 14250, 14300, 14350, 14400, 14451,
  14501, 14552, 14603, 14653, 14704, 14755, 14807, 14858, 14909, 14961, 15012, 15064, 15116, 15167, 15219, 15272]
def romBt11 : List Nat := [
  15324, 15376, 15428, 15481, 15534, 15586, 15639, 15692, 15745, 15798, 15851, 15905, 15958, 16012, 16065, 16119,
  16173, 16227, 16281, 16335, 16389, 16444, 16498, 16553, 16608, 16662, 16717, 16772, 16827, 16883, 16938, 16993,
  17049, 17105, 17160, 17216, 17272, 17328, 17384, 17441, 17497, 17554, 17610, 17667, 17724, 17781, 17838, 17895,
  17952, 18009, 18067, 18124, 18182, 18240, 18298, 18356, 18414, 18472, 18530, 18589, 18647, 18706, 18765, 18823]
def romBt12 : List Nat := [
  18882, 18941, 19001, 19060, 19119, 19179, 19238, 19298, 19358, 19418, 19478, 19538, 19598, 19659, 19719, 19780,
  19840, 19901, 19962, 20023, 20084, 20145, 20207, 20268, 20330, 20391, 20453, 20515, 20577, 20639, 20701, 20764,
  20826, 20889, 20951, 21014, 21077, 21140, 21203, 21266, 21329, 21393, 21456, 21520, 21584, 21647, 21711, 21776,
  21840, 21904, 21968, 22033, 22098, 22162, 22227, 22292, 22357, 22422, 22488, 22553, 22618, 22684, 22750, 22816]
def romBt13 : List Nat := [
  22882, 22948, 23014, 23080, 23146, 23213, 23280, 23346, 23413, 23480, 23547, 23614, 23682, 23749, 23817, 23884,
  23952, 24020, 24088, 24156, 24224, 24292, 24361, 24429, 24498, 24567, 24635, 24704, 24773, 24843, 24912, 24981,
  25051, 25121, 25190, 25260, 25330, 25400, 25470, 25541, 25611, 25682, 25752, 25823, 25894, 25965, 26036, 26107,
  26179, 26250, 26322, 26393, 26465, 26537, 26609, 26681, 26754, 26826, 26898, 26971, 27044, 27116, 27189, 27262]
def romBt14 : List Nat := [
  27336, 27409, 27482, 27556, 27629, 27703, 27777, 27851, 27925, 27999, 28074, 28148, 28223, 28297, 28372, 28447,
  28522, 28597, 28672, 28748, 28823, 28899, 28974, 29050, 29126, 29202, 29278, 29354, 29431, 29507, 29584, 29661,
  29738, 29815, 29892, 29969, 30046, 30124, 30201, 30279, 30357, 30434, 30512, 30591, 30669, 30747, 30826, 30904,
  30983, 31062, 31141, 31220, 31299, 31378, 31458, 31537, 31617, 31697, 31777, 31857, 31937, 32017, 32097, 32178]
def romBt15 : List Nat := [
  32258, 32339, 32420, 32501, 32582, 32663, 32744, 32826, 32907, 32989, 33071, 33152, 33235, 33317, 33399, 33481,
  33564, 33646, 33729, 33812, 33895, 33978, 34061, 34144, 34228, 34311, 34395, 34479, 34563, 34647, 34731, 34815,
  34899, 34984, 35069, 35153, 35238, 35323, 35408, 35493, 35579, 35664, 35750, 35835, 35921, 36007, 36093, 36179,
  36266, 36352, 36439, 36525, 36612, 36699, 36786, 36873, 36960, 37048, 37135, 37223, 37310, 37398, 37486, 37574]
def romBt16 : List Nat := [
  37663, 37751, 37839, 37928, 38017, 38105, 38194, 38283, 38373, 38462, 38551, 38641, 38731, 38820, 38910, 39000,
  39090, 39181, 39271, 39362, 39452, 39543, 39634, 39725, 39816, 39907, 39999, 40090, 40182, 40273, 40365, 40457,
  40549, 40642, 40734, 40826, 40919, 41012, 41104, 41197, 41290, 41384, 41477, 41570, 41664, 41758, 41852, 41945,
  42040, 42134, 42228, 42322, 42417, 42512, 42606, 42701, 42796, 42892, 42987, 43082, 43178, 43273, 43369, 43465]
def romBt17 : List Nat := [
  43561, 43657, 43754, 43850, 43947, 44043, 44140, 44237, 44334, 44431, 44528, 44626, 44723, 44821, 44919, 45016,
  45114, 45213, 45311, 45409, 45508, 45606, 45705, 45804, 45903, 46002, 46101, 46201, 46300, 46400, 46500, 46600,
  46700, 46800, 46900, 47000, 47101, 47202, 47302, 47403, 47504, 47605, 47707, 47808, 47909, 48011, 48113, 48215,
  48317, 48419, 48521, 48624, 48726, 48829, 48932, 49034, 49137, 49241, 49344, 49447, 49551, 49654, 49758, 49862]
def romBt18 : List Nat := [
  49966, 50070, 50175, 50279, 50384, 50488, 50593, 50698, 50803, 50908, 51013, 51119, 51224, 51330, 51436, 51542,
  51648, 51754, 51860, 51967, 52073, 52180, 52287, 52394, 52501, 52608, 52716, 52823, 52931, 53038, 53146, 53254,
  53362, 53470, 53579, 53687, 53796, 53905, 54014, 54123, 54232, 54341, 54450, 54560, 54669, 54779, 54889, 54999,
  55109, 55220, 55330, 55441, 55551, 55662, 55773, 55884, 55995, 56107, 56218, 56330, 56441, 56553, 56665, 56777]
def romBt19 : List Nat := [
  56889, 57002, 57114, 57227, 57339, 57452, 57565, 57678, 57792, 57905, 58019, 58132, 58246, 58360, 58474, 58588,
  58702, 58817, 58931, 59046, 59161, 59276, 59391, 59506, 59621, 59737, 59852, 59968, 60084, 60200, 60316, 60432,
  60549, 60665, 60782, 60899, 61016, 61133, 61250, 61367, 61484, 61602, 61720, 61837, 61955, 62074, 62192, 62310,
  62429, 62547, 62666, 62785, 62904, 63023, 63142, 63261, 63381, 63501, 63620, 63740, 63860, 63981, 64101, 64221]
def romBt20 : List Nat := [
  64342, 64463, 64583, 64704, 64826, 64947, 65068, 65190, 65311, 65433, 65555, 65677, 65799, 65921, 66044, 66166,
  66289, 66412, 66535, 66658, 66781, 66905, 67028, 67152, 67275, 67399, 67523, 67647, 67772, 67896, 68021, 68145,
  68270, 68395, 68520, 68645, 68771, 68896, 69022, 69148, 69274, 69400, 69526, 69652, 69778, 69905, 70032, 70159,
  70285, 70413, 70540, 70667, 70795, 70922, 71050, 71178, 71306, 71434, 71562, 71691, 71819, 71948, 72077, 72206]
def romBt21 : List Nat := [
  72335, 72464, 72594, 72723, 72853, 72983, 73112, 73242, 73373, 73503, 73633, 73764, 73895, 74026, 74157, 74288,
  74419, 74550, 74682, 74814, 74945, 75077, 75209, 75342, 75474, 75606, 75739, 75872, 76005, 76138, 76271, 76404,
  76538, 76671, 76805, 76939, 77073, 77207, 77341, 77475, 77610, 77744, 77879, 78014, 78149, 78284, 78420, 78555,
  78691, 78827, 78962, 79098, 79235, 79371, 79507, 79644, 79781, 79917, 80054, 80192, 80329, 80466, 80604, 80741]
def romBt22 : List Nat := [
  80879, 81017, 81155, 81293, 81432, 81570, 81709, 81848, 81986, 82125, 82265, 82404, 82543, 82683, 82823, 82963,
  83103, 83243, 83383, 83523, 83664, 83805, 83945, 84086, 84227, 84369, 84510, 84652, 84793, 84935, 85077, 85219,
  85361, 85503, 85646, 85789, 85931, 86074, 86217, 86360, 86504, 86647, 86791, 86934, 87078, 87222, 87366, 87511,
  87655, 87800, 87944, 88089, 88234, 88379, 88525, 88670, 88815, 88961, 89107, 89253, 89399, 89545, 89692, 89838]
def romBt23 : List Nat := [
  89985, 90132, 90278, 90426, 90573, 90720, 90868, 91015, 91163, 91311, 91459, 91607, 91755, 91904, 92052, 92201,
  92350, 92499, 92648, 92798, 92947, 93097, 93246, 93396, 93546, 93696, 93847, 93997, 94148, 94298, 94449, 94600,
  94751, 94903, 95054, 95205, 95357, 95509, 95661, 95813, 95965, 96118, 96270, 96423, 96576, 96729, 96882, 97035,
  97188, 97342, 97496, 97649, 97803, 97958, 98112, 98266, 98421, 98575, 98730, 98885, 99040, 99195, 99351, 99506]
def romBt24 : List Nat := [
  99662, 99818, 99974, 100130, 100286, 100442, 100599, 100755, 100912, 101069, 101226, 101383, 101541, 101698, 101856, 102014,
  102172, 102330, 102488, 102646, 102805, 102963, 103122, 103281, 103440, 103599, 103759, 103918, 104078, 104238, 104398, 104558,
  104718, 104878, 105039, 105199, 105360, 105521, 105682, 105843, 106005, 106166, 106328, 106490, 106652, 106814, 106976, 107138,
  107301, 107463, 107626, 107789, 107952, 108115, 108279, 108442, 108606, 108770, 108934, 109098, 109262, 109426, 109591, 109756]
def romBt25 : List Nat := [
  109920, 110085, 110250, 110416, 110581, 110747, 110912, 111078, 111244, 111410, 111576, 111743, 111909, 112076, 112243, 112410,
  112577, 112744, 112912, 113079, 113247, 113415, 113583, 113751, 113919, 114088, 114256, 114425, 114594, 114763, 114932, 115101,
  115271, 115440, 115610, 115780, 115950, 116120, 116290, 116461, 116631, 116802, 116973, 117144, 117315, 117487, 117658, 117830,
  118001, 118173, 118345, 118518, 118690, 118863, 119035, 119208, 119381, 119554, 119727, 119901, 120074, 120248, 120422, 120596]
def romBt26 : List Nat := [
  120770, 120944, 121118, 121293, 121468, 121642, 121817, 121993, 122168, 122343, 122519, 122695, 122871, 123047, 123223, 123399,
  123576, 123752, 123929, 124106, 124283, 124460, 124637, 124815, 124993, 125170, 125348, 125526, 125705, 125883, 126061, 126240,
  126419, 126598, 126777, 126956, 127136, 127315, 127495, 127675, 127855, 128035, 128215, 128396, 128576, 128757, 128938, 129119,
  129300, 129482, 129663, 129845, 130026, 130208, 130390, 130573, 130755, 130938, 131120, 131303, 131486, 131669, 131852, 132036]
def romBt27 : List Nat := [
  132219, 132403, 132587, 132771, 132955, 133139, 133324, 133508, 133693, 133878, 134063, 134248, 134434, 134619, 134805, 134991,
  135177, 135363, 135549, 135735, 135922, 136109, 136295, 136482, 136670, 136857, 137044, 137232, 137420, 137608, 137796, 137984,
  138172, 138361, 138549, 138738, 138927, 139116, 139305, 139495, 139684, 139874, 140064, 140254, 140444, 140634, 140825, 141015,
  141206, 141397, 141588, 141779, 141971, 142162, 142354, 142545, 142737, 142929, 143122, 143314, 143507, 143699, 143892, 144085]
def romBt28 : List Nat := [
  144278, 144472, 144665, 144859, 145053, 145246, 145441, 145635, 145829, 146024, 146218, 146413, 146608, 146803, 146998, 147194,
  147389, 147585, 147781, 147977, 148173, 148370, 148566, 148763, 148959, 149156, 149354, 149551, 149748, 149946, 150143, 150341,
  150539, 150737, 150936, 151134, 151333, 151532, 151730, 151930, 152129, 152328, 152528, 152727, 152927, 153127, 153327, 153528,
  153728, 153929, 154129, 154330, 154531, 154732, 154934, 155135, 155337, 155539, 155741, 155943, 156145, 156348, 156550, 156753]
def romBt29 : List Nat := [
  156956, 157159, 157362, 157565, 157769, 157972, 158176, 158380, 158584, 158789, 158993, 159198, 159402, 159607, 159812, 160017,
  160223, 160428, 160634, 160840, 161046, 161252, 161458, 161664, 161871, 162078, 162285, 162492, 162699, 162906, 163114, 163321,
  163529, 163737, 163945, 164153, 164362, 164570, 164779, 164988, 165197, 165406, 165616, 165825, 166035, 166244, 166454, 166665,
  166875, 167085, 167296, 167507, 167717, 167928, 168140, 168351, 168563, 168774, 168986, 169198, 169410, 169622, 169835, 170047]
def romBt30 : List Nat := [
  170260, 170473, 170686, 170899, 171113, 171326, 171540, 171754, 171968, 172182, 172396, 172611, 172825, 173040, 173255, 173470,
  173685, 173901, 174116, 174332, 174548, 174764, 174980, 175196, 175413, 175629, 175846, 176063, 176280, 176497, 176715, 176932,
  177150, 177368, 177586, 177804, 178023, 178241, 178460, 178679, 178898, 179117, 179336, 179556, 179775, 179995, 180215, 180435,
  180655, 180876, 181096, 181317, 181538, 181759, 181980, 182201, 182423, 182644, 182866, 183088, 183310, 183532, 183755, 183977]
def romBt31 : List Nat := [
  184200, 184423, 184646, 184869, 185093, 185316, 185540, 185764, 185988, 186212, 186436, 186661, 186885, 187110, 187335, 187560,
  187786, 188011, 188237, 188462, 188688, 188914, 189140, 189367, 189593, 189820, 190047, 190274, 190501, 190728, 190956, 191183,
  191411, 191639, 191867, 192096, 192324, 192553, 192781, 193010, 193239, 193468, 193698, 193927, 194157, 194387, 194617, 194847,
  195077, 195308, 195539, 195769, 196000, 196231, 196463, 196694, 196926, 197158, 197389, 197622, 197854, 198086, 198319, 198551]
def romBt32 : List Nat := [
  198784, 199017, 199250, 199484, 199717, 199951, 200185, 200419, 200653, 200887, 201122, 201356, 201591, 201826, 202061, 202296,
  202532, 202767, 203003, 203239, 203475, 203711, 203948, 204184, 204421, 204658, 204895, 205132, 205369, 205607, 205845, 206082,
  206320, 206559, 206797, 207035, 207274, 207513, 207752, 207991, 208230, 208469, 208709, 208949, 209189, 209429, 209669, 209909,
  210150, 210391, 210631, 210873, 211114, 211355, 211597, 211838, 212080, 212322, 212564, 212807, 213049, 213292, 213534, 213777]
def romBt33 : List Nat := [
  214021, 214264, 214507, 214751, 214995, 215239, 215483, 215727, 215971, 216216, 216461, 216706, 216951, 217196, 217441, 217687,
  217933, 218178, 218424, 218671, 218917, 219163, 219410, 219657, 219904, 220151, 220398, 220646, 220894, 221141, 221389, 221638,
  221886, 222134, 222383, 222632, 222881, 223130, 223379, 223628, 223878, 224128, 224378, 224628, 224878, 225128, 225379, 225630,
  225881, 226132, 226383, 226634, 226886, 227138, 227390, 227642, 227894, 228146, 228399, 228651, 228904, 229157, 229410, 229664]
def romBt34 : List Nat := [
  229917, 230171, 230425, 230679, 230933, 231187, 231442, 231696, 231951, 232206, 232461, 232717, 232972, 233228, 233483, 233739,
  233995, 234252, 234508, 234765, 235022, 235279, 235536, 235793, 236050, 236308, 236566, 236824, 237082, 237340, 237598, 237857,
  238116, 238375, 238634, 238893, 239152, 239412, 239672, 239931, 240191, 240452, 240712, 240973, 241233, 241494, 241755, 242016,
  242278, 242539, 242801, 243063, 243325, 243587, 243849, 244112, 244375, 244638, 244901, 245164, 245427, 245691, 245954, 246218]
def romBt35 : List Nat := [
  246482, 246746, 247011, 247275, 247540, 247805, 248070, 248335, 248600, 248866, 249131, 249397, 249663, 249929, 250196, 250462,
  250729, 250995, 251262, 251530, 251797, 252064, 252332, 252600, 252868, 253136, 253404, 253673, 253941, 254210, 254479, 254748,
  255018, 255287, 255557, 255826, 256096, 256367, 256637, 256907, 257178, 257449, 257720, 257991, 258262, 258534, 258805, 259077,
  259349, 259621, 259893, 260166, 260439, 260711, 260984, 261257, 261531, 261804, 262078, 262352, 262626, 262900, 263174, 263448]
def romBt36 : List Nat := [
  263723, 263998, 264273, 264548, 264823, 265099, 265374, 265650, 265926, 266202, 266479, 266755, 267032, 267308, 267585, 267863,
  268140, 268417, 268695, 268973, 269251, 269529, 269807, 270086, 270364, 270643, 270922, 271201, 271480, 271760, 272040, 272319,
  272599, 272880, 273160, 273440, 273721, 274002, 274283, 274564, 274845, 275127, 275409, 275690, 275972, 276255, 276537, 276819,
  277102, 277385, 277668, 277951, 278234, 278518, 278802, 279085, 279369, 279654, 279938, 280223, 280507, 280792, 281077, 281362]
def romBt37 : List Nat := [
  281648, 281933, 282219, 282505, 282791, 283077, 283363, 283650, 283937, 284224, 284511, 284798, 285085, 285373, 285661, 285949,
  286237, 286525, 286813, 287102, 287391, 287679, 287969, 288258, 288547, 288837, 289127, 289417, 289707, 289997, 290287, 290578,
  290869, 291160, 291451, 291742, 292034, 292325, 292617, 292909, 293201, 293493, 293786, 294079, 294371, 294664, 294958, 295251,
  295544, 295838, 296132, 296426, 296720, 297014, 297309, 297604, 297899, 298194, 298489, 298784, 299080, 299375, 299671, 299967]
def romBt38 : List Nat := [
  300264, 300560, 300857, 301153, 301450, 301747, 302045, 302342, 302640, 302937, 303235, 303533, 303832, 304130, 304429, 304728,
  305026, 305326, 305625, 305924, 306224, 306524, 306824, 307124, 307424, 307725, 308025, 308326, 308627, 308929, 309230, 309531,
  309833, 310135, 310437, 310739, 311042, 311344, 311647, 311950, 312253, 312556, 312860, 313163, 313467, 313771, 314075, 314379,
  314684, 314988, 315293, 315598, 315903, 316208, 316514, 316820, 317125, 317431, 317738, 318044, 318350, 318657, 318964, 319271]
def romBt39 : List Nat := [
  319578, 319886, 320193, 320501, 320809, 321117, 321425, 321733, 322042, 322351, 322660, 322969, 323278, 323587, 323897, 324207,
  324517, 324827, 325137, 325448, 325758, 326069, 326380, 326691, 327003, 327314, 327626, 327938, 328250, 328562, 328874, 329187,
  329500, 329813, 330126, 330439, 330752, 331066, 331380, 331694, 332008, 332322, 332637, 332951, 333266, 333581, 333896, 334211,
  334527, 334843, 335159, 335475, 335791, 336107, 336424, 336740, 337057, 337374, 337692, 338009, 338327, 338644, 338962, 339280]
def romBt40 : List Nat := [
  339599, 339917, 340236, 340555, 340874, 341193, 341512, 341832, 342151, 342471, 342791, 343111, 343432, 343752, 344073, 344394,
  344715, 345036, 345358, 345679, 346001, 346323, 346645, 346967, 347290, 347613, 347935, 348258, 348582, 348905, 349228, 349552,
  349876, 350200, 350524, 350849, 351173, 351498, 351823, 352148, 352473, 352799, 353124, 353450, 353776, 354102, 354429, 354755,
  355082, 355409, 355736, 356063, 356390, 356718, 357045, 357373, 357701, 358030, 358358, 358687, 359016, 359344, 359674, 360003]
def romBt41 : List Nat := [
  360332, 360662, 360992, 361322, 361652, 361982, 362313, 362644, 362975, 363306, 363637, 363968, 364300, 364632, 364964, 365296,
  365628, 365961, 366293, 366626, 366959, 367292, 367626, 367959, 368293, 368627, 368961, 369295, 369629, 369964, 370299, 370634,
  370969, 371304, 371640, 371975, 372311, 372647, 372983, 373320, 373656, 373993, 374330, 374667, 375004, 375342, 375679, 376017,
  376355, 376693, 377031, 377370, 377709, 378047, 378386, 378726, 379065, 379405, 379744, 380084, 380424, 380764, 381105, 381446]
def romBt42 : List Nat := [
  381786, 382127, 382468, 382810, 383151, 383493, 383835, 384177, 384519, 384861, 385204, 385547, 385890, 386233, 386576, 386920,
  387263, 387607, 387951, 388295, 388639, 388984, 389329, 389674, 390019, 390364, 390709, 391055, 391401, 391747, 392093, 392439,
  392786, 393132, 393479, 393826, 394173, 394521, 394868, 395216, 395564, 395912, 396260, 396609, 396957, 397306, 397655, 398004,
  398354, 398703, 399053, 399403, 399753, 400103, 400453, 400804, 401155, 401506, 401857, 402208, 402560, 402911, 403263, 403615]
def romBt43 : List Nat := [
  403967, 404320, 404672, 405025, 405378, 405731, 406084, 406438, 406792, 407145, 407499, 407854, 408208, 408562, 408917, 409272,
  409627, 409982, 410338, 410693, 411049, 411405, 411761, 412118, 412474, 412831, 413188, 413545, 413902, 414260, 414617, 414975,
  415333, 415691, 416049, 416408, 416766, 417125, 417484, 417844, 418203, 418563, 418922, 419282, 419642, 420003, 420363, 420724,
  421085, 421446, 421807, 422168, 422530, 422892, 423253, 423616, 423978, 424340, 424703, 425066, 425429, 425792, 426155, 426519]
def romBt44 : List Nat := [
  426883, 427247, 427611, 427975, 428339, 428704, 429069, 429434, 429799, 430164, 430530, 430896, 431262, 431628, 431994, 432360,
  432727, 433094, 433461, 433828, 434195, 434563, 434930, 435298, 435666, 436035, 436403, 436772, 437141, 437510, 437879, 438248,
  438618, 438987, 439357, 439727, 440098, 440468, 440839, 441209, 441580, 441952, 442323, 442694, 443066, 443438, 443810, 444182,
  444555, 444927, 445300, 445673, 446046, 446420, 446793, 447167, 447541, 447915, 448289, 448664, 449038, 449413, 449788, 450163]
def romBt45 : List Nat := [
  450539, 450914, 451290, 451666, 452042, 452418, 452795, 453171, 453548, 453925, 454302, 454680, 455057, 455435, 455813, 456191,
  456569, 456948, 457326, 457705, 458084, 458463, 458843, 459222, 459602, 459982, 460362, 460742, 461123, 461504, 461884, 462265,
  462647, 463028, 463410, 463791, 464173, 464555, 464938, 465320, 465703, 466086, 466469, 466852, 467235, 467619, 468003, 468387,
  468771, 469155, 469540, 469925, 470309, 470694, 471080, 471465, 471851, 472237, 472623, 473009, 473395, 473782, 474168, 474555]
def romBt46 : List Nat := [
  474942, 475330, 475717, 476105, 476493, 476881, 477269, 477657, 478046, 478434, 478823, 479212, 479602, 479991, 480381, 480771,
  481161, 481551, 481941, 482332, 482723, 483114, 483505, 483896, 484288, 484679, 485071, 485463, 485856, 486248, 486641, 487034,
  487427, 487820, 488213, 488607, 489000, 489394, 489788, 490183, 490577, 490972, 491367, 491762, 492157, 492552, 492948, 493344,
  493740, 494136, 494532, 494929, 495325, 495722, 496119, 496516, 496914, 497312, 497709, 498107, 498505, 498904, 499302, 499701]
def romBt47 : List Nat := [
  500100, 500499, 500898, 501298, 501698, 502097, 502498, 502898, 503298, 503699, 504100, 504500, 504902, 505303, 505705, 506106,
  506508, 506910, 507312, 507715, 508118, 508520, 508923, 509327, 509730, 510134, 510537, 510941, 511345, 511750, 512154, 512559,
  512964, 513369, 513774, 514180, 514585, 514991, 515397, 515803, 516210, 516616, 517023, 517430, 517837, 518244, 518652, 519059,
  519467, 519875, 520284, 520692, 521101, 521509, 521918, 522328, 522737, 523146, 523556, 523966, 524376, 524787, 525197, 525608]
def romBt48 : List Nat := [
  526019, 526430, 526841, 527252, 527664, 528076, 528488, 528900, 529312, 529725, 530137, 530550, 530963, 531377, 531790, 532204,
  532618, 533032, 533446, 533860, 534275, 534690, 535105, 535520, 535935, 536351, 536767, 537183, 537599, 538015, 538431, 538848,
  539265, 539682, 540099, 540517, 540934, 541352, 541770, 542188, 542607, 543025, 543444, 543863, 544282, 544701, 545121, 545541,
  545960, 546380, 546801, 547221, 547642, 548063, 548484, 548905, 549326, 549748, 550170, 550591, 551014, 551436, 551858, 552281]
def romBt49 : List Nat := [
  552704, 553127, 553550, 553974, 554398, 554821, 555245, 555670, 556094, 556519, 556943, 557368, 557794, 558219, 558644, 559070,
  559496, 559922, 560348, 560775, 561202, 561628, 562056, 562483, 562910, 563338, 563766, 564194, 564622, 565050, 565479, 565908,
  566336, 566766, 567195, 567624, 568054, 568484, 568914, 569344, 569775, 570206, 570636, 571067, 571499, 571930, 572362, 572793,
  573225, 573658, 574090, 574523, 574955, 575388, 575821, 576255, 576688, 577122, 577556, 577990, 578424, 578859, 579293, 579728]
def romBt50 : List Nat := [
  580163, 580598, 581034, 581469, 581905, 582341, 582777, 583214, 583650, 584087, 584524, 584961, 585398, 585836, 586273, 586711,
  587149, 587588, 588026, 588465, 588904, 589343, 589782, 590221, 590661, 591101, 591541, 591981, 592421, 592862, 593302, 593743,
  594185, 594626, 595067, 595509, 595951, 596393, 596835, 597278, 597720, 598163, 598606, 599050, 599493, 599937, 600380, 600824,
  601269, 601713, 602158, 602602, 603047, 603492, 603938, 604383, 604829, 605275, 605721, 606167, 606614, 607061, 607507, 607955]
def romBt51 : List Nat := [
  608402, 608849, 609297, 609745, 610193, 610641, 611089, 611538, 611987, 612436, 612885, 613334, 613784, 614234, 614684, 615134,
  615584, 616035, 616485, 616936, 617387, 617839, 618290, 618742, 619194, 619646, 620098, 620550, 621003, 621456, 621909, 622362,
  622815, 623269, 623723, 624177, 624631, 625085, 625540, 625995, 626450, 626905, 627360, 627816, 628271, 628727, 629183, 629640,
  630096, 630553, 631010, 631467, 631924, 632382, 632839, 633297, 633755, 634213, 634672, 635130, 635589, 636048, 636507, 636967]
def romBt52 : List Nat := [
  637426, 637886, 638346, 638806, 639267, 639727, 640188, 640649, 641110, 641571, 642033, 642495, 642957, 643419, 643881, 644343,
  644806, 645269, 645732, 646195, 646659, 647122, 647586, 648050, 648515, 648979, 649444, 649908, 650373, 650839, 651304, 651770,
  652235, 652701, 653168, 653634, 654101, 654567, 655034, 655501, 655969, 656436, 656904, 657372, 657840, 658308, 658777, 659246,
  659714, 660184, 660653, 661122, 661592, 662062, 662532, 663002, 663473, 663943, 664414, 664885, 665356, 665828, 666299, 666771]
def romBt53 : List Nat := [
  667243, 667715, 668188, 668660, 669133, 669606, 670079, 670553, 671026, 671500, 671974, 672448, 672922, 673397, 673872, 674347,
  674822, 675297, 675773, 676248, 676724, 677200, 677677, 678153, 678630, 679107, 679584, 680061, 680539, 681016, 681494, 681972,
  682450, 682929, 683408, 683886, 684365, 684845, 685324, 685804, 686284, 686764, 687244, 687724, 688205, 688686, 689167, 689648,
  690129, 690611, 691093, 691575, 692057, 692539, 693022, 693504, 693987, 694470, 694954, 695437, 695921, 696405, 696889, 697374]
def romBt54 : List Nat := [
  697858, 698343, 698828, 699313, 699798, 700284, 700769, 701255, 701741, 702228, 702714, 703201, 703688, 704175, 704662, 705149,
  705637, 706125, 706613, 707101, 707590, 708078, 708567, 709056, 709546, 710035, 710525, 711015, 711505, 711995, 712485, 712976,
  713467, 713958, 714449, 714940, 715432, 715924, 716416, 716908, 717400, 717893, 718386, 718879, 719372, 719865, 720359, 720853,
  721347, 721841, 722335, 722830, 723324, 723819, 724315, 724810, 725305, 725801, 726297, 726793, 727290, 727786, 728283, 728780]
def romBt55 : List Nat := [
  729277, 729774, 730272, 730770, 731268, 731766, 732264, 732762, 733261, 733760, 734259, 734759, 735258, 735758, 736258, 736758,
  737258, 737759, 738259, 738760, 739261, 739763, 740264, 740766, 741268, 741770, 742272, 742774, 743277, 743780, 744283, 744786,
  745290, 745794, 746297, 746801, 747306, 747810, 748315, 748820, 749325, 749830, 750336, 750841, 751347, 751853, 752359, 752866,
  753372, 753879, 754386, 754894, 755401, 755909, 756417, 756925, 757433, 757941, 758450, 758959, 759468, 759977, 760487, 760996]
def romBt56 : List Nat := [
  761506, 762016, 762526, 763037, 763547, 764058, 764569, 765080, 765592, 766103, 766615, 767127, 767640, 768152, 768665, 769177,
  769691, 770204, 770717, 771231, 771745, 772259, 772773, 773287, 773802, 774317, 774832, 775347, 775862, 776378, 776894, 777410,
  777926, 778443, 778959, 779476, 779993, 780510, 781028, 781545, 782063, 782581, 783099, 783618, 784136, 784655, 785174, 785693,
  786213, 786732, 787252, 787772, 788293, 788813, 789334, 789854, 790375, 790897, 791418, 791940, 792462, 792984, 793506, 794028]
def romBt57 : List Nat := [
  794551, 795074, 795597, 796120, 796643, 797167, 797691, 798215, 798739, 799264, 799788, 800313, 800838, 801363, 801889, 802414,
  802940, 803466, 803993, 804519, 805046, 805573, 806100, 806627, 807154, 807682, 808210, 808738, 809266, 809795, 810323, 810852,
  811381, 811910, 812440, 812969, 813499, 814029, 814560, 815090, 815621, 816152, 816683, 817214, 817746, 818277, 818809, 819341,
  819873, 820406, 820939, 821472, 822005, 822538, 823071, 823605, 824139, 824673, 825207, 825742, 826277, 826812, 827347, 827882]
def romBt58 : List Nat := [
  828417, 828953, 829489, 830025, 830562, 831098, 831635, 832172, 832709, 833246, 833784, 834321, 834859, 835398, 835936, 836474,
  837013, 837552, 838091, 838631, 839170, 839710, 840250, 840790, 841330, 841871, 842412, 842953, 843494, 844035, 844577, 845119,
  845661, 846203, 846745, 847288, 847831, 848374, 848917, 849460, 850004, 850548, 851092, 851636, 852180, 852725, 853270, 853815,
  854360, 854906, 855451, 855997, 856543, 857089, 857636, 858182, 858729, 859276, 859824, 860371, 860919, 861467, 862015, 862563]
def romBt59 : List Nat := [
  863111, 863660, 864209, 864758, 865307, 865857, 866407, 866957, 867507, 868057, 868608, 869158, 869709, 870260, 870812, 871363,
  871915, 872467, 873019, 873571, 874124, 874677, 875230, 875783, 876336, 876890, 877444, 877998, 878552, 879106, 879661, 880216,
  880771, 881326, 881881, 882437, 882993, 883549, 884105, 884661, 885218, 885775, 886332, 886889, 887447, 888004, 888562, 889120,
  889678, 890237, 890796, 891354, 891914, 892473, 893032, 893592, 894152, 894712, 895272, 895833, 896394, 896955, 897516, 898077]
def romBt60 : List Nat := [
  898639, 899200, 899762, 900324, 900887, 901449, 902012, 902575, 903138, 903702, 904265, 904829, 905393, 905957, 906522, 907086,
  907651, 908216, 908781, 909347, 909913, 910478, 911044, 911611, 912177, 912744, 913311, 913878, 914445, 915013, 915580, 916148,
  916716, 917285, 917853, 918422, 918991, 919560, 920129, 920699, 921269, 921839, 922409, 922979, 923550, 924120, 924691, 925263,
  925834, 926406, 926977, 927549, 928122, 928694, 929267, 929840, 930413, 930986, 931559, 932133, 932707, 933281, 933855, 934430]
def romBt61 : List Nat := [
  935004, 935579, 936154, 936730, 937305, 937881, 938457, 939033, 939609, 940186, 940763, 941340, 941917, 942494, 943072, 943650,
  944228, 944806, 945384, 945963, 946542, 947121, 947700, 948279, 948859, 949439, 950019, 950599, 951180, 951760, 952341, 952922,
  953504, 954085, 954667, 955249, 955831, 956413, 956996, 957579, 958161, 958745, 959328, 959912, 960495, 961079, 961664, 962248,
  962833, 963417, 964002, 964588, 965173, 965759, 966345, 966931, 967517, 968103, 968690, 969277, 969864, 970451, 971039, 971627]
def romBt62 : List Nat := [
  972215, 972803, 973391, 973980, 974568, 975157, 975746, 976336, 976925, 977515, 978105, 978695, 979286, 979877, 980467, 981058,
  981650, 982241, 982833, 983425, 984017, 984609, 985202, 985794, 986387, 986980, 987574, 988167, 988761, 989355, 989949, 990543,
  991138, 991733, 992328, 992923, 993518, 994114, 994710, 995306, 995902, 996499, 997095, 997692, 998289, 998886, 999484, 1000082,
  1000680, 1001278, 1001876, 1002475, 1003073, 1003672, 1004271, 1004871, 1005470, 1006070, 1006670, 1007270, 1007871, 1008471, 1009072, 1009673]
def romBt63 : List Nat := [
  1010274, 1010876, 1011478, 1012079, 1012682, 1013284, 1013886, 1014489, 1015092, 1015695, 1016298, 1016902, 1017506, 1018110, 1018714, 1019318,
  1019923, 1020528, 1021133, 1021738, 1022343, 1022949, 1023555, 1024161, 1024767, 1025374, 1025980, 1026587, 1027194, 1027802, 1028409, 1029017,
  1029625, 1030233, 1030841, 1031450, 1032059, 1032668, 1033277, 1033886, 1034496, 1035106, 1035716, 1036326, 1036936, 1037547, 1038158, 1038769,
  1039380, 1039992, 1040604, 1041216, 1041828, 1042440, 1043053, 1043665, 1044278, 1044891, 1045505, 1046118, 1046732, 1047346, 1047961, 1048575]

/-- LIN of BT.1886. -/
def romBt : List (List Nat) :=
  [romBt0, romBt1, romBt2, romBt3, romBt4, romBt5, romBt6, romBt7]
  ++ [romBt8, romBt9, romBt10, romBt11, romBt12, romBt13, romBt14, romBt15]
  ++ [romBt16, romBt17, romBt18, romBt19, romBt20, romBt21, romBt22, romBt23]
  ++ [romBt24, romBt25, romBt26, romBt27, romBt28, romBt29, romBt30, romBt31]
  ++ [romBt32, romBt33, romBt34, romBt35, romBt36, romBt37, romBt38, romBt39]
  ++ [romBt40, romBt41, romBt42, romBt43, romBt44, romBt45, romBt46, romBt47]
  ++ [romBt48, romBt49, romBt50, romBt51, romBt52, romBt53, romBt54, romBt55]
  ++ [romBt56, romBt57, romBt58, romBt59, romBt60, romBt61, romBt62, romBt63]

/-- A linearisation table's entry. -/
def romAt (t : List (List Nat)) (o : Nat) : Nat := (t.getD (o / 64) []).getD (o % 64) 0

end Sys2Proof.Machine
end

