-- ==== Sys2Proof/Machine/Compose.lean ====
section
/-!
DEFINITION. Layers, scaling and composition (chapter 09, R251 to R275).
-/

namespace Sys2Proof.Machine

open Sys2Proof

/-! ### From code to W20 and back (R256, R257, R266) -/

/-- OUT_CODE 0b11 is used as linear. -/
def codeUsed (c : Nat) : Nat := if c = 3 then 2 else c

/-- LIN of a 12-bit code. -/
def lin (code o : Nat) : Nat :=
  if code = 0 then romAt romPq o else if code = 1 then romAt romBt o else o * 256 + o / 16

/-- LIN as a list over all codes. -/
def linTable (code : Nat) : List Nat :=
  if code = 0 then romPq.flatten else if code = 1 then romBt.flatten else (List.range 4096).map (lin 2)

/-- One step of the search for the nearest entry: code looked at, best code and its distance. -/
def nearStep (v : Nat) (b : Nat × Nat × Nat) (x : Nat) : Nat × Nat × Nat :=
  let d := (x - v) + (v - x)
  if d < b.2.2 then (b.1 + 1, b.1, d) else (b.1 + 1, b.2)

/-- The code whose LIN is nearest to `v`, the lower on a tie. -/
def encode20 (code v : Nat) : Nat := ((linTable code).foldl (nearStep v) (0, 0, 2 ^ 32)).2.1

/-- Component `i` (0 B, 1 G, 2 R) of a pixel word. -/
def compOf (w i : Nat) : Nat := w / 2 ^ (12 * i) % 4096

/-- A pixel word from a function of the component. -/
def wordOf (f : Nat → Nat) : Nat := f 2 % 4096 * 2 ^ 24 + f 1 % 4096 * 2 ^ 12 + f 0 % 4096

/-! ### Layers -/

/-- The engines of a target in the image in force, as (die, engine, granules). -/
def State.layersOf (s : State) (v t : Nat) : List LayerCfg :=
  match s.mould.loaded with
  | some m => m.layers.filter fun c => c.owner == v && c.target == t
  | none => []

def State.layer (s : State) (v e : Nat) : Layer := Tab.get (fun _ => {}) s.layers (16 * v + e)
def State.setLayer (s : State) (v e : Nat) (f : Layer → Layer) : State :=
  { s with layers := Tab.set (fun _ => {}) (16 * v + e) (f (s.layer v e)) s.layers }

/-- The chain port a target feeds, and whether its chain composes frame `f` (R165, R251). -/
def State.composes (s : State) (v t f : Nat) : Bool :=
  let k := s.get (F.CH_LINK_STATUS_OVL_K (s.get (F.VT_TGT_CTRL_PORT v t)))
  s.on (F.VT_TGT_CTRL_ASSIGNED v t) && k != 0 && f % k == 0

/-- Sampling position along an axis: nearest source sample, base sample and phase (R258). -/
structure Pos where
  near : Int
  base : Int
  phase : Nat
  deriving DecidableEq, Repr

/-- The position of output pixel `o`. -/
def posAt (start : Int) (step o : Nat) : Pos :=
  let p := start + (o * step : Nat)
  let ph := ((p % 65536).toNat + 512) / 1024
  if ph = 64 then ⟨(p + 0x8000) / 65536, p / 65536 + 1, 0⟩ else ⟨(p + 0x8000) / 65536, p / 65536, ph⟩

/-- Crop test along an axis of `n` samples. -/
def Pos.inCrop (p : Pos) (n : Nat) : Bool := decide (0 ≤ p.near) && decide (p.near < (n : Int))

/-- The horizontal position of canvas column `X` for an engine, where it is covered horizontally. -/
def State.hPos (s : State) (v e : Nat) (l : Layer) (X : Nat) : Option Pos :=
  let x0 := s.get (F.VT_LE_DST_XY_DST_X v e)
  if x0 ≤ X && X - x0 < s.get (F.VT_LE_DST_WH_DST_W v e) then
    let p := posAt l.hstart l.hstep (X - x0)
    if p.inCrop l.cw then some p else none
  else none

/-- The vertical position of canvas row `Y`. -/
def State.vPos (s : State) (v e : Nat) (l : Layer) (Y : Nat) : Option Pos :=
  let y0 := s.get (F.VT_LE_DST_XY_DST_Y v e)
  if y0 ≤ Y && Y - y0 < s.get (F.VT_LE_DST_WH_DST_H v e) then
    let p := posAt l.vstart l.vstep (Y - y0)
    if p.inCrop l.ch then some p else none
  else none

/-- Base samples of the covered pixels of a line across columns X0 to X0 + W - 1. -/
def State.bases (s : State) (v e : Nat) (l : Layer) (x0 w : Nat) : List Int :=
  (List.range w).filterMap fun x => (s.hPos v e l (x0 + x)).map (·.base)

/-! ### Latching at a frame start (R254, R255, R260, R262, R267 to R270) -/

/-- The store a layer's SRC names; none for KIND 0b11. -/
def State.srcStore (s : State) (v e : Nat) : Option Nat :=
  let kind := s.get (F.VT_LE_SRC_KIND v e)
  if kind = 3 then none else some (storeKey (s.get (F.VT_LE_SRC_DIE v e)) kind (s.get (F.VT_LE_SRC_INDEX v e)))

/-- Is the newest complete buffer eligible for frame `f` (R268)? -/
def State.eligible (s : State) (v e k b f : Nat) : Bool :=
  if !s.on (F.VT_LE_CTRL_FENCE_EN v e) then true
  else
    let wait := s.get (F.VT_LE_FENCE_WAIT_FENCE_WAIT v e)
    let want := if s.on (F.VT_LE_CTRL_FENCE_MODE v e) then f + wait else wait
    decide (0 ≤ ahead (s.buf k b).fence want)

/-- LAYERLATE (R269). -/
def layerLate (v e : Nat) (s : State) : State :=
  let ev := s.get (F.VT_COMP_EVENTS_LAYERLATE v)
  let s := if ev.testBit e then s else (s.put (F.VT_COMP_EVENTS_LAYERLATE v) (setBit ev e)).cause 19
  ((s.flag (F.VT_LE_STATUS_LAYERLATE v e)).inc (F.VT_LE_COUNT_LATE_N v e)).put (F.VT_COMP_LAST_LATE_ENG v) e

/-- LBSHORT (R262). -/
def lbShort (v e vt f : Nat) (s : State) : State :=
  let ev := s.get (F.VT_COMP_EVENTS_LBSHORT v)
  let s := if ev.testBit e then s else (s.put (F.VT_COMP_EVENTS_LBSHORT v) (setBit ev e)).cause 20
  let s := (s.flag (F.VT_LE_STATUS_LBSHORT v e)).inc (F.VT_LE_COUNT_LBSHORT_N v e)
  ((s.put (F.VT_COMP_LAST_LBSHORT_ENG v) e).put (F.VT_COMP_LAST_LBSHORT_VT v) vt).put (F.VT_COMP_LAST_LBSHORT_FNUM v) f

/-- The buffer the layer shows in frame `f`; the flags of R269 and R270. -/
def latchBuffer (v e f : Nat) (s : State) : State :=
  let prev := (s.layer v e).hold
  match s.srcStore v e with
  | none => s.setLayer v e fun l => { l with hold := none }
  | some k =>
    if !s.placed k then (s.flag (F.VT_LE_STATUS_BADSRC v e)).setLayer v e fun l => { l with hold := none }
    else
      let b := s.get (fsNewest k)
      if b = 3 then (s.flag (F.VT_LE_STATUS_EMPTY v e)).setLayer v e fun l => { l with hold := none }
      else if s.eligible v e k b f then
        (s.setBuf k b fun i => { i with latched := true }).setLayer v e fun l => { l with hold := some (k, b), lay := s.readCfg k }
      else match prev with
        | some (k', _) => if k' = k then layerLate v e s else s.setLayer v e fun l => { l with hold := none }
        | none => s

/-- A step held within R255's limits. -/
def clampStep (x : Nat) : Nat := if x < 0x400 then 0x400 else if 0x40000 < x then 0x40000 else x

/-- Effective crop and sampling of the latched buffer. -/
def layerGeometry (v e : Nat) (s : State) : State :=
  match (s.layer v e).hold with
  | none => s.setLayer v e fun l => { l with cw := 0, ch := 0 }
  | some (k, b) =>
    let i := Tab.get (fun _ => {}) (s.store k).bufs b
    if s.on (F.VT_LE_CTRL_FIT v e) then
      let hr := i.w * 65536 / s.get (F.VT_LE_DST_WH_DST_W v e)
      let vr := i.h * 65536 / s.get (F.VT_LE_DST_WH_DST_H v e)
      let hs := clampStep hr
      let vs := clampStep vr
      let s := if hs = hr && vs = vr then s else s.flag (F.VT_LE_STATUS_STEP_CLAMP v e)
      s.setLayer v e fun l =>
        { l with cx := 0, cy := 0, cw := i.w, ch := i.h, hstep := hs, vstep := vs,
                 hstart := ((hs : Int) - 65536) / 2, vstart := ((vs : Int) - 65536) / 2 }
    else
      let cx := s.get (F.VT_LE_CROP_XY_CROP_X v e)
      let cy := s.get (F.VT_LE_CROP_XY_CROP_Y v e)
      let hr := s.get (F.VT_LE_HSTEP_HSTEP v e)
      let vr := s.get (F.VT_LE_VSTEP_VSTEP v e)
      let hs := clampStep hr
      let vs := clampStep vr
      let cw := min (cx + s.get (F.VT_LE_CROP_WH_CROP_W v e)) i.w - cx
      let ch := min (cy + s.get (F.VT_LE_CROP_WH_CROP_H v e)) i.h - cy
      let s := if hs = hr && vs = vr then s else s.flag (F.VT_LE_STATUS_STEP_CLAMP v e)
      s.setLayer v e fun l =>
        { l with cx := cx, cy := cy, cw := if ch = 0 then 0 else cw, ch := ch, hstep := hs, vstep := vs,
                 hstart := s.getI (F.VT_LE_HSTART_HSTART v e), vstart := s.getI (F.VT_LE_VSTART_VSTART v e) }

/-- CAP(VT) of `g` granules. -/
def lbCap (g vt : Nat) : Nat := g * 896 / vt - 7

/-- Vertical taps for a span of `w` source words. -/
def lbTaps (g w : Nat) : Nat := if w ≤ lbCap g 6 then 6 else if w ≤ lbCap g 4 then 4 else 2

/-- The line-buffer choice of a latch (R260). -/
def layerTaps (c : LayerCfg) (f : Nat) (s : State) : State :=
  let v := c.vat
  let e := c.engine
  let l := s.layer v e
  let bs := s.bases v e l (s.get (F.VT_TGT_REGION_XY_X c.owner c.target)) (s.get (F.VT_TGT_REGION_WH_W c.owner c.target))
  let w := match bs.head?, bs.getLast? with
    | some a, some b => (b - a + 1).toNat
    | _, _ => 0
  let vt := lbTaps c.granules w
  let s := s.setLayer v e fun l => { l with vt := vt, cap := lbCap c.granules vt }
  let s := (s.put (F.VT_LE_STATUS_VT v e) vt).put (F.VT_LE_LBCAP_CAP v e) (lbCap c.granules vt)
  if vt < 6 then lbShort v e vt f s else s

/-- One engine's share of a frame start. -/
def latchLayer (c : LayerCfg) (f : Nat) (s : State) : State :=
  let v := c.vat
  let e := c.engine
  let s := s.putB (F.VT_LE_STATUS_SHOWING v e) (s.layer v e).covered
  let s := s.setLayer v e fun l => { l with covered := false }
  if !s.on (F.VT_LE_CTRL_EN v e) then
    (s.put (F.VT_LE_STATUS_BUF v e) 3).setLayer v e fun l => { l with hold := none, cw := 0, ch := 0 }
  else
    let s := layerTaps c f (layerGeometry v e (latchBuffer v e f s))
    let l := s.layer v e
    let s := (s.put (F.VT_LE_EFF_HSTEP_HSTEP v e) l.hstep).put (F.VT_LE_EFF_VSTEP_VSTEP v e) l.vstep
    match l.hold with
    | some (k, b) =>
      let i := Tab.get (fun _ => {}) (s.store k).bufs b
      (s.put (F.VT_LE_STATUS_BUF v e) b).put (F.VT_LE_SHOWN_VAL_FENCE_VAL v e) i.fence
    | none => s.put (F.VT_LE_STATUS_BUF v e) 3

/-- Engines that the image in force gives no target hold no buffer (R279). -/
def dropLayers (s : State) : State :=
  s.each (s.layers.filter fun e => !(s.mould.loaded.any fun m => m.layers.any fun c => 16 * c.vat + c.engine == e.1)) fun e s =>
    (s.put (F.VT_LE_STATUS_BUF (e.1 / 16) (e.1 % 16)) 3).setLayer (e.1 / 16) (e.1 % 16) fun _ => {}

/-- HELD of every store follows the layers (R239, R248). -/
def showHeld (s : State) : State :=
  match s.mould.loaded with
  | none => s
  | some m => s.each m.stores fun c s =>
    let k := storeKey c.vat c.kind c.index
    s.put (fsHeld k) (s.layers.foldl (fun h e =>
      match e.2.hold with | some (k', b) => if k' = k then setBit h b else h | none => h) 0)

/-- Publishes the ended frame of a target's write-back (R273). -/
def publishDone (v t : Nat) (s : State) : State :=
  let x := Tab.get (fun _ => {}) s.wbs (16 * v + t)
  match x.done with
  | none => s
  | some (c, b, i) =>
    let k := storeCfgKey c
    let s := publish c b i s
    let s := if s.get (fsWriting k) == b then s.put (fsWriting k) 3 else s
    { s with wbs := Tab.set (fun _ => {}) (16 * v + t) { x with done := none } s.wbs }

/-- A finished frame of a write-back, which waits for its publication: its place, buffer and what is noted of it. -/
def WriteBack.finished (x : WriteBack) : Option (StoreCfg × Nat × BufInfo) :=
  match x.last, x.buf with
  | some i, some b => if x.damaged then none else some (x.lay, b, i)
  | _, _ => none

/-- A write-back lets go of a buffer that holds no finished frame: WRITING no longer names it (R248, R273). -/
def dropWriting (v : Nat) (x : WriteBack) (s : State) : State :=
  let k := storeKey v skWriteBack x.store
  match x.buf with
  | some b => if x.finished.isNone && s.get (fsWriting k) == b then s.put (fsWriting k) 3 else s
  | none => s

/-- Write-back of a target takes its buffer for frame `f`; one that is switched off takes none, and a frame that has ended still waits for its publication
(R273). -/
def latchWriteBack (v t f : Nat) (s : State) : State :=
  let old := Tab.get (fun _ => {}) s.wbs (16 * v + t)
  let on := s.on (F.VT_TGT_CTRL_WB_EN v t)
  if !on && (Tab.find (16 * v + t) s.wbs).isNone then s
  else
    let w := s.get (F.VT_TGT_CTRL_WB_STORE v t)
    let k := storeKey v skWriteBack w
    let s := dropWriting v old (if old.done.isSome && (on || old.finished.isSome) then publishDone v t s else s)
    let done := match old.finished with | some d => some d | none => if on then none else old.done
    let b := if on && s.placed k then s.freeBuf k (match done with | some (c, b, _) => if storeCfgKey c == k then [b] else [] | none => []) else none
    if !on && done.isNone then { s with wbs := Tab.del (16 * v + t) s.wbs }
    else
      let x : WriteBack := { store := w, lay := s.storeCfg k, buf := b, fnum := f, done := done }
      { (if on && s.placed k then s.put (fsWriting k) (b.getD 3) else s) with wbs := Tab.set (fun _ => {}) (16 * v + t) x s.wbs }

/-- The targets of the part, (die, target). -/
def State.targets (s : State) : List (Nat × Nat) :=
  (List.range 4).flatMap fun v =>
    ((List.range 16).filter fun t => s.on (F.VT_TGT_CTRL_ASSIGNED v t)).map fun t => (v, t)

/-- The target (die, index) of phase `k` of a chain port. -/
def State.targetOf (s : State) (p k : Nat) : Option (Nat × Nat) :=
  s.targets.find? fun t => s.get (F.VT_TGT_CTRL_PORT t.1 t.2) == p && s.get (F.VT_TGT_CTRL_PHASE t.1 t.2) == k

/-- Key of a composed line. -/
def compKey (v t y : Nat) : Nat := (16 * v + t) * 65536 + y

/-- The words of a region line that its chain's tiles show, each with its own identity or not (R287, R288, R291). -/
def State.lineWidth (s : State) (p v t y : Nat) : Nat :=
  let Y := s.get (F.VT_TGT_REGION_XY_Y v t) + y
  let tiles := (s.mould.loaded.map fun m => ((m.chains.find? (·.port == p)).map (·.tiles)).getD []).getD []
  ((tiles.filter fun r => r.y ≤ Y && Y < r.y + r.h).map (·.w)).foldl (· + ·) 0

/-- The chain line that carries region line `y` of a target (R287). -/
def State.chainLine (s : State) (v t y : Nat) : Nat := y * max s.phases 1 + s.get (F.VT_TGT_CTRL_PHASE v t)

/-- Does a chain line still wait to be sent: it carries picture, and it has not started (R289, R293)? -/
def State.lineWaits (s : State) (p c : Nat) : Bool :=
  c < s.get (F.CH_CTG_GEOM_ACTIVE_C p) && ((s.port p).so.head?.map (·.next)).getD 0 ≤ c

/-- The words composed for a port and not yet sent (R291): those of every composed line whose chain line waits. -/
def State.fillWords (s : State) (p : Nat) : Nat :=
  (s.comp.map fun e =>
    let v := e.1 / 65536 / 16
    let t := e.1 / 65536 % 16
    let y := e.1 % 65536
    if s.get (F.VT_TGT_CTRL_PORT v t) == p && s.on (F.VT_TGT_CTRL_ASSIGNED v t) && s.lineWaits p (s.chainLine v t y) then s.lineWidth p v t y else 0).foldl
      (· + ·) 0

/-- The chain line in progress is the frame's last, and its words, if it has any, are composed (R289, R292). -/
def State.lastComposed (s : State) (p : Nat) : Bool :=
  let c := s.get (F.CH_CTG_STATUS_CLINE p)
  let ph := max s.phases 1
  c + 1 == s.get (F.CH_CTG_GEOM_ACTIVE_C p) && (match s.targetOf p (c % ph) with
    | some (v, t) => s.get (F.VT_TGT_REGION_WH_H v t) ≤ c / ph || !(Tab.get (fun _ => []) s.comp (compKey v t (c / ph))).isEmpty
    | none => true)

/-- URG_US: the time spent urgent, measured on the raster (R300, log entry 105). -/
def State.urgUs (s : State) (p : Nat) : Nat :=
  let x := s.port p
  min ((x.urgTicks + (match x.urgAt with | some t => s.raster.ticks - t | none => 0)) / 400) 0xFFFFFFFF

/-- URGENT begins or ends. -/
def showUrgent (p : Nat) (b : Bool) (s : State) : State :=
  let s := s.setPort p fun x => match x.urgAt, b with
    | none, true => { x with urgAt := some s.raster.ticks }
    | some t, false => { x with urgAt := none, urgTicks := x.urgTicks + (s.raster.ticks - t) }
    | _, _ => x
  s.putB (F.CH_SO_STATUS_URGENT p) b

/-- FILL of a port's line buffer, and the fetch urgency it brings (R291, R292). -/
def showFill (p fill : Nat) (s : State) : State :=
  let fill := min fill 16384
  let s := s.put (F.CH_SO_STATUS_FILL p) fill
  let w := s.get (F.CH_SO_CTRL_WMARK p)
  if w + 1024 ≤ fill || s.lastComposed p then showUrgent p false s
  else if fill < w then showUrgent p true s else s

/-- FILL follows what has been composed and sent. -/
def refill (p : Nat) (s : State) : State := showFill p (s.fillWords p) s

/-- A write of CH_SO_CTRL judges the urgency afresh (R292). -/
def wmarkWritten (p : Nat) (s : State) : State := if s.isSender then showFill p (s.get (F.CH_SO_STATUS_FILL p)) s else s

/-- The latch of every engine at the start of frame `f`. -/
def latchAll (f : Nat) (s : State) : State :=
  let s := dropLayers (releaseStores s)
  let ts := s.targets.filter fun t => s.composes t.1 t.2 f
  let s := s.each ts fun t s => s.each (s.layersOf t.1 t.2) fun c s => latchLayer c f s
  let s := showHeld s
  let s := s.each ts fun t s => latchWriteBack t.1 t.2 f s
  { s with comp := s.comp.filter fun e => !(ts.any fun t => (16 * t.1 + t.2) == e.1 / 65536) }

/-! ### Coefficients (R259, R261, R284) -/

/-- A 12-bit coefficient of a die's set. -/
def State.coef (s : State) (v k off tap : Nat) : Int :=
  let w := (s.rd (atCOEF v k (off + 4 * (tap / 2)))).toNat
  toInt 12 (w / 2 ^ (16 * (tap % 2)))

/-- KH[p][t]. -/
def State.kh (s : State) (v k p t : Nat) : Int := s.coef v k (16 * p) t
/-- KF[p][t]. -/
def State.kf (s : State) (v k p t : Nat) : Int := s.coef v k (0x400 + 12 * p) t

/-- KV[p][0..5]: KF folded to VT taps. -/
def State.kv (s : State) (v k p vt : Nat) : List Int :=
  let f := s.kf v k p
  if vt = 6 then [f 0, f 1, f 2, f 3, f 4, f 5]
  else if vt = 4 then [0, f 0 + f 1, f 2, f 3, f 4 + f 5, 0]
  else [0, 0, f 0 + f 1 + f 2, f 3 + f 4 + f 5, 0, 0]

/-! ### The scaler (R258) -/

/-- A sample held in the crop. -/
def clampPos (n : Nat) (c : Int) : Nat := if c < 0 then 0 else min c.toNat (n - 1)

/-- The rounded, clamped result of a filter. -/
def filterOut (a : Int) : Nat := (clampI 0 0xFFFFF ((a + 512) / 1024)).toNat

/-- LIN of a component of the source word at crop column `c`, crop row `r`. -/
def State.sample (s : State) (l : Layer) (c r i : Nat) : Nat :=
  match l.hold with
  | none => 0
  | some (k, b) =>
    let inf := Tab.get (fun _ => {}) (s.store k).bufs b
    if inf.invalid.contains (l.cy + r) then 0
    else lin (codeUsed inf.code) (compOf (s.pixel l.lay b (l.cx + c) (l.cy + r)) i)

/-- The scaled component `i` at a position. -/
def State.scale (s : State) (l : Layer) (kv : List Int) (kh : List Int) (hp vp : Pos) (i : Nat) : Nat :=
  let col := fun (c : Int) =>
    filterOut ((kv.zipIdx).foldl (fun a t =>
      if t.1 = 0 then a else a + t.1 * (s.sample l (clampPos l.cw c) (clampPos l.ch (vp.base - 2 + t.2)) i : Nat)) 0)
  filterOut ((kh.zipIdx).foldl (fun a t => if t.1 = 0 then a else a + t.1 * (col (hp.base - 3 + t.2) : Nat)) 0)

/-- The layer's W20 components at canvas position (X, Y), none where it does not cover; `first` is the base sample of the line's first
covered pixel, `late` the region column from which its words have not arrived (R263). -/
def State.layerAt (s : State) (c : LayerCfg) (l : Layer) (first : Int) (x0 x Y : Nat) (late : Option Nat) : Option (List Nat) :=
  let v := c.vat
  let e := c.engine
  match s.hPos v e l (x0 + x), s.vPos v e l Y with
  | some hp, some vp =>
    if (l.cap : Int) ≤ hp.base - first || (match late with | some n => decide (n ≤ x) | none => false) then none
    else
      let kv := s.kv v (s.get (F.VT_LE_CTRL_VSET v e)) vp.phase l.vt
      let kh := (List.range 8).map (s.kh v (s.get (F.VT_LE_CTRL_HSET v e)) hp.phase)
      some ((List.range 3).map fun i => s.scale l kv kh hp vp i)
  | _, _ => none

/-! ### Blending (R264, R265) -/

/-- One layer over the value so far. -/
def blend (s : State) (v e out h : Nat) : Nat :=
  let g := min ((h * s.get (F.VT_LE_BLEND_GAIN v e) + 0x4000) / 0x8000) 0xFFFFF
  let a := min (s.get (F.VT_LE_BLEND_ALPHA v e)) 1024
  if s.on (F.VT_LE_CTRL_MODE v e) then min (out + (a * g + 512) / 1024) 0xFFFFF
  else (a * g + (1024 - a) * out + 512) / 1024

/-- The background word of a target. -/
def State.bgWord (s : State) (v t : Nat) : Nat :=
  s.get (F.VT_TGT_BG_LO_BG v t) + s.get (F.VT_TGT_BG_HI_BG v t) * 2 ^ 32

/-- A list in ascending key order. -/
def insBy (key : LayerCfg → Nat) (c : LayerCfg) : List LayerCfg → List LayerCfg
  | [] => [c]
  | d :: t => if key c < key d then c :: d :: t else d :: insBy key c t

/-- The contributing layers in blend order: Z, engine number, die. -/
def State.contributing (s : State) (v t : Nat) : List LayerCfg :=
  ((s.layersOf v t).filter fun c => s.on (F.VT_LE_CTRL_EN c.vat c.engine)).foldl (fun l c =>
    insBy (fun c => s.get (F.VT_LE_CTRL_Z c.vat c.engine) * 256 + c.engine * 8 + c.vat) c l) []

/-- The composed word from the layers' components, each with its layer; none of them covering gives the BG word. -/
def composeWord (s : State) (code bg : Nat) (ls : List (LayerCfg × List Nat)) : Nat :=
  if ls.isEmpty then bg
  else wordOf fun i =>
    encode20 code (ls.foldl (fun out l => blend s l.1.vat l.1.engine out (l.2.getD i 0)) (lin code (compOf bg i)))

/-- The words of region line `y` of a target, and which of its engines covered a pixel. -/
def State.composeLine (s : State) (v t y : Nat) (late : List (Nat × Nat)) : List Nat × List LayerCfg :=
  let code := codeUsed (s.get (F.VT_TGT_CTRL_OUT_CODE v t))
  let bg := s.bgWord v t
  let x0 := s.get (F.VT_TGT_REGION_XY_X v t)
  let w := s.get (F.VT_TGT_REGION_WH_W v t)
  let Y := s.get (F.VT_TGT_REGION_XY_Y v t) + y
  let ls := (s.contributing v t).map fun c =>
    let l := s.layer c.vat c.engine
    let first := (s.bases c.vat c.engine l x0 w).headD 0
    (c, fun x => s.layerAt c l first x0 x Y ((late.find? (·.1 == 16 * c.vat + c.engine)).map (·.2)))
  let at' := fun x => ls.filterMap fun e => (e.2 x).map fun h => (e.1, h)
  ((List.range w).map fun x => composeWord s code bg (at' x),
   (ls.filter fun e => (List.range w).any fun x => (e.2 x).isSome).map (·.1))

/-- Writes a composed line to the target's write-back store (R273, R274). -/
def writeBackLine (v t y : Nat) (words : List Nat) (s : State) : State :=
  match Tab.find (16 * v + t) s.wbs with
  | none => s
  | some x =>
    let h := s.get (F.VT_TGT_REGION_WH_H v t)
    let w := s.get (F.VT_TGT_REGION_WH_W v t)
    let i : BufInfo :=
      { w := min w (14 * x.lay.stride), h := min h x.lay.maxRows, code := codeUsed (s.get (F.VT_TGT_CTRL_OUT_CODE v t)),
        tag := x.fnum % 256, fence := x.fnum, trunc := 14 * x.lay.stride < w || x.lay.maxRows < h }
    let s := { s with wbs := Tab.set (fun _ => {}) (16 * v + t) { x with last := if y + 1 == h then some i else x.last } s.wbs }
    match x.buf with
    | some b => if x.damaged then s else s.putRow x.lay b (x.fnum % 256) 0 y words.length words
    | none => s

/-- The source rows of a layer that region line `y` of its target uses, within its crop (R258): those of the vertical taps. -/
def State.rowsUsed (s : State) (c : LayerCfg) (Y : Nat) : List Nat :=
  let l := s.layer c.vat c.engine
  match s.vPos c.vat c.engine l Y with
  | none => []
  | some p => ((List.range l.vt).map fun k => clampPos l.ch (p.base - 2 + ((6 - l.vt) / 2 + k : Nat))).eraseDups

/-- The source columns that a line of a layer uses, first and last, within its crop and its line buffer (R258, R260). -/
def State.colsUsed (s : State) (c : LayerCfg) (x0 w : Nat) : Option (Nat × Nat) :=
  let l := s.layer c.vat c.engine
  let bs := s.bases c.vat c.engine l x0 w
  match bs.head?, bs.getLast? with
  | some a, some b => some (clampPos l.cw (a - 3), clampPos l.cw (min b (a + l.cap - 1) + 4))
  | _, _ => none

/-- The bursts that a layer fetches for a line, (row, burst), within the frame store: those of the rows that the line before it did not use. Rows marked
invalid are not read (R237). -/
def State.fetched (s : State) (c : LayerCfg) (x0 y0 w y : Nat) : List (Nat × Nat) :=
  let l := s.layer c.vat c.engine
  match l.hold, s.colsUsed c x0 w with
  | some (k, b), some (a, z) =>
    let had := if y = 0 then [] else s.rowsUsed c (y0 + y - 1)
    let rows := ((s.rowsUsed c (y0 + y)).filter (!had.contains ·)).map (l.cy + ·)
    let first := (l.cx + a) / 14
    (rows.filter fun r => !(s.buf k b).invalid.contains r).flatMap fun r =>
      ((List.range ((l.cx + z) / 14 + 1 - first)).map fun i => (r, first + i)).filter fun e => e.2 < l.lay.stride
  | _, _ => []

/-- Bursts fetched for a line whose tag is not that of their buffer (R237). DEDUCED (log entry 108): a row is fetched once in a frame. -/
def State.tagErrs (s : State) (c : LayerCfg) (x0 y0 w y : Nat) : Nat :=
  let l := s.layer c.vat c.engine
  match l.hold with
  | none => 0
  | some (k, b) => (s.fetched c x0 y0 w y).countP fun e => s.tagOf (storeBurst l.lay b (14 * e.2) e.1) != (s.buf k b).tag

/-- Counts a line's fetches in TAG_ERR of their stores. -/
def countTags (v t y : Nat) (s : State) : State :=
  s.each (s.contributing v t) fun c s =>
    match (s.layer c.vat c.engine).hold with
    | none => s
    | some (k, _) =>
      let n := s.tagErrs c (s.get (F.VT_TGT_REGION_XY_X v t)) (s.get (F.VT_TGT_REGION_XY_Y v t)) (s.get (F.VT_TGT_REGION_WH_W v t)) y
      if n = 0 then s else s.addSat (fsTagErr k) n

/-- The bursts whose fetch by a layer engine meets an uncorrectable error, (engine, source row, burst), read as zero (R381). -/
def zeroReads (ue : List (Nat × Nat × Nat)) (s : State) : State :=
  s.each ue fun e s =>
    let l := s.layer (e.1 / 16) (e.1 % 16)
    match l.hold with
    | none => s
    | some (_, b) => s.setBytesN (storeBurst l.lay b (14 * e.2.2) e.2.1) 64 0

/-- Does the line buffer of the target's port have no room for a line that is still to be sent (R291)? One longer than the buffer is let in once it is empty,
and is sent as it is written. -/
def State.lineHeld (s : State) (v t y : Nat) : Bool :=
  let p := s.get (F.VT_TGT_CTRL_PORT v t)
  s.lineWaits p (s.chainLine v t y) && s.fillWords p != 0 && 16384 < s.fillWords p + s.lineWidth p v t y

/-- Row COMPOSE_LINE. The compositor goes only as far ahead as the line buffer allows; the words of a line that has started without them go to write-back
alone (R293, R294). -/
def opComposeLine (v t y : Nat) (late : List (Nat × Nat)) (ue : List (Nat × Nat × Nat)) (s : State) : State :=
  if !s.on (F.VT_TGT_CTRL_ASSIGNED v t) || s.get (F.VT_TGT_REGION_WH_H v t) ≤ y || s.lineHeld v t y then s
  else
    let (words, shown) := (zeroReads ue s).composeLine v t y late
    let p := s.get (F.VT_TGT_CTRL_PORT v t)
    let s := refill p { s with comp := Tab.set (fun _ => []) (compKey v t y) words s.comp }
    let s := if s.get (F.VT_TGT_CTRL_OUT_CODE v t) == 3 then s.flag (F.VT_TGT_STATUS_CODE_RSVD v t) else s
    let s := s.each shown fun c s => s.setLayer c.vat c.engine fun l => { l with covered := true }
    let s := s.each late fun e s =>
      (s.flag (F.VT_LE_STATUS_FETCH_LATE (e.1 / 16) (e.1 % 16))).inc (F.VT_LE_COUNT_FETCH_LATE_N (e.1 / 16) (e.1 % 16))
    writeBackLine v t y words (countTags v t y s)

/-- Row WRITE_BACK_PUBLISH: a frame whose last line is written becomes the newest complete one (R273). -/
def opWriteBackPublish (v t : Nat) (s : State) : State :=
  match Tab.find (16 * v + t) s.wbs with
  | none => s
  | some x =>
    if x.done.isSome then publishDone v t s
    else if x.finished.isSome then
      publishDone v t { s with wbs := Tab.set (fun _ => {}) (16 * v + t) { x with buf := none, done := x.finished } s.wbs }
    else s

/-- Row WRITE_BACK_DROP. -/
def opWriteBackDrop (v t : Nat) (s : State) : State :=
  match Tab.find (16 * v + t) s.wbs with
  | none => s
  | some x =>
    let s := { s with wbs := Tab.set (fun _ => {}) (16 * v + t) { x with damaged := true } s.wbs }
    (s.raise (F.VT_TGT_STATUS_WB_DAMAGED v t) 21).inc (F.VT_TGT_STATUS_WB_DAMAGED_N v t)

/-! ### Commit of write-back (R275) -/

/-- Would the die's output with write-back of target `t` exceed 1.2 Gpixel/s at FRATE_MAX? -/
def State.wbRefuse (s : State) (v t : Nat) : Bool :=
  let area := fun t => s.get (F.VT_TGT_REGION_WH_W v t) * s.get (F.VT_TGT_REGION_WH_H v t)
  let ts := (List.range 16).filter fun t => s.on (F.VT_TGT_CTRL_ASSIGNED v t)
  let wb := ts.filter fun u => u == t || s.on (F.VT_TGT_CTRL_WB_EN v u)
  ((ts ++ wb).map area).foldl (· + ·) 0 * s.get F.RD_MOULD_FRATE_MAX_FRATE_MAX > 1200000000 * 1000

end Sys2Proof.Machine
end

