-- ==== Sys2Proof/Machine/TilePath.lean ====
section
/-!
DEFINITION. The tile pixel path: correction, brightness, lamp status and the count encoding (chapter 11, with the pattern engine of
R357 and R358).
-/

namespace Sys2Proof.Machine

open Sys2Proof

/-! ### The tables (R308, R309, R318, R321) -/

/-- The coefficient an unlisted key of a bank reads as. -/
def corrBlank (unity : Bool) (k : Nat) : Int := if unity && k % 9 % 4 == 0 then 16384 else 0

/-- Coefficient m[r][c] of set `set` of pixel `p`. -/
def CorrBank.at (b : CorrBank) (p set rc : Nat) : Int := Tab.get (corrBlank b.unity) b.coef (36 * p + 9 * set + rc)

/-- Puts a coefficient. -/
def CorrBank.put (b : CorrBank) (p set rc : Nat) (v : Int) : CorrBank :=
  { b with coef := Tab.set (corrBlank b.unity) (36 * p + 9 * set + rc) v b.coef }

/-- Bank 0 or 1. -/
def State.bank (s : State) (b : Nat) : CorrBank := if b = 0 then s.tp.bank0 else s.tp.bank1

/-- TSET[k] of a bank (R309, R326). -/
def State.tset (s : State) (b k : Nat) : Int :=
  match b, k with
  | 0, 0 => s.getI F.VT_TP_TSET_B0A_TSET0
  | 0, 1 => s.getI F.VT_TP_TSET_B0A_TSET1
  | 0, 2 => s.getI F.VT_TP_TSET_B0B_TSET2
  | 0, _ => s.getI F.VT_TP_TSET_B0B_TSET3
  | _, 0 => s.getI F.VT_TP_TSET_B1A_TSET0
  | _, 1 => s.getI F.VT_TP_TSET_B1A_TSET1
  | _, 2 => s.getI F.VT_TP_TSET_B1B_TSET2
  | _, _ => s.getI F.VT_TP_TSET_B1B_TSET3

/-- The TSET values of a bank rise strictly. -/
def State.tsetRises (s : State) (b : Nat) : Bool :=
  decide (s.tset b 0 < s.tset b 1) && decide (s.tset b 1 < s.tset b 2) && decide (s.tset b 2 < s.tset b 3)

/-- A lamp's entry of the map, and its status code. -/
def State.lampEntry (s : State) (i : Nat) : Nat := Tab.get (fun _ => 0) s.tp.lampMap i
def State.lampStatus (s : State) (i : Nat) : Nat := Tab.get (fun _ => 1) s.tp.status i

/-- Fields of a lamp-map entry (R321). -/
def lmValid (e : Nat) : Bool := e.testBit 31
def lmRow (e : Nat) : Nat := bits e 20 16
def lmChannel (e : Nat) : Nat := bits e 15 12
def lmDriver (e : Nat) : Nat := bits e 11 7
def lmLine (e : Nat) : Nat := bits e 6 4
def lmPort (e : Nat) : Nat := bits e 3 0
/-- A channel position on a port. -/
def lmPos (e : Nat) : Nat := 512 * lmLine e + 16 * lmDriver e + lmChannel e

/-- The tile as the image in force lays it out. -/
def State.tile (s : State) : TileCfg := match s.mould.loaded with | some m => m.tile | none => {}

/-- The module that contains a pixel (R312). -/
def State.moduleAt (s : State) (x y : Nat) : Option ModuleCfg :=
  s.tile.mods.find? fun m => m.area.x ≤ x && x < m.area.x + m.area.w && m.area.y ≤ y && y < m.area.y + m.area.h

/-! ### Temperatures (R312) and the affinage ramp (R314) -/

/-- A module's T_MEAS, and its T_EFF by one step. -/
def tempStep (j : Nat) (meas : Int) (subst take : Bool) (s : State) : State :=
  let eff := s.getI (F.VT_TP_MOD_TEMP_T_EFF j)
  let step : Int := s.get F.VT_TP_CTRL_TSTEP
  let next :=
    if take then meas
    else if !s.tileRx.ready then eff
    else if step = 0 then meas
    else if meas - eff > step then eff + step
    else if eff - meas > step then eff - step
    else meas
  ((s.putI (F.VT_TP_MOD_TEMP_T_MEAS j) meas).putI (F.VT_TP_MOD_TEMP_T_EFF j) next).putB (F.VT_TP_MOD_CEIL_SUBST j) subst

/-- Is a SAVE running (R332)? -/
def State.saving (s : State) : Bool := s.get F.VT_TP_TAB_RESULT_STATE == 5

/-- A BANK commit is refused (R314). -/
def State.bankRefuse (s : State) (b : Nat) : Bool :=
  s.on F.VT_TP_STATUS_RAMP || s.saving || !s.tsetRises b || s.get F.VT_TP_STATUS_BANK_ACT == b

/-- A committed BANK that is accepted starts a ramp. -/
def bankStart (b : Nat) (s : State) : State :=
  let s := (s.put F.VT_TP_STATUS_BANK_ACT b).put F.VT_TP_STATUS_RAMP 1
  { s with tp := { s.tp with rampNew := true } }

/-- The step of the ramp at a frame start; β stands while the tile is not READY (R314, R315). -/
def rampStep (s : State) : State :=
  if !s.on F.VT_TP_STATUS_RAMP then s
  else
    let new := s.tp.rampNew
    let s := { s with tp := { s.tp with rampNew := false } }
    let b := s.get F.VT_TP_CTRL_BSTEP
    let beta :=
      if b = 0 then 256
      else if new then min b 256
      else if s.tileRx.ready then min (s.get F.VT_TP_STATUS_BETA + b) 256
      else s.get F.VT_TP_STATUS_BETA
    let s := s.put F.VT_TP_STATUS_BETA beta
    if beta = 256 then (s.put F.VT_TP_STATUS_RAMP 0).inc F.VT_TP_RAMPS_RAMPS else s

/-! ### Interpolation and the matrix (R313, R314, R316) -/

/-- The share of R313 that depends on the temperature alone: the lower set and f8. -/
def State.corrAt (s : State) (b j : Nat) : Nat × Int :=
  let t := clampI (s.tset b 0) (s.tset b 3) (s.getI (F.VT_TP_MOD_TEMP_T_EFF j))
  let k := if t ≥ s.tset b 2 then 2 else if t ≥ s.tset b 1 then 1 else 0
  let span := s.tset b (k + 1) - s.tset b k
  (k, ((t - s.tset b k) * 256 + span / 2) / span)

/-- An interpolated coefficient (R313). -/
def interp (b : CorrBank) (kf : Nat × Int) (p rc : Nat) : Int :=
  b.at p kf.1 rc + ((b.at p (kf.1 + 1) rc - b.at p kf.1 rc) * kf.2 + 128) / 256

/-- The matrix of a pixel of module `j`, blended while a ramp runs (R314). -/
def State.matrix (s : State) (p j : Nat) : List Int :=
  let new := s.get F.VT_TP_STATUS_BANK_ACT
  let kn := s.corrAt new j
  if s.on F.VT_TP_STATUS_RAMP then
    let ko := s.corrAt (1 - new) j
    let beta : Int := s.get F.VT_TP_STATUS_BETA
    (List.range 9).map fun rc =>
      let o := interp (s.bank (1 - new)) ko p rc
      o + ((interp (s.bank new) kn p rc - o) * beta + 128) / 256
  else (List.range 9).map fun rc => interp (s.bank new) kn p rc

/-- The unity matrix. -/
def unityMatrix : List Int := [16384, 0, 0, 0, 16384, 0, 0, 0, 16384]

/-- Matrix application (R316): the W20 of each lamp of a pixel. -/
def applyMatrix (m : List Int) (l : List Int) : List Nat :=
  (List.range 3).map fun r =>
    let a := m.getD (3 * r) 0 * l.getD 0 0 + m.getD (3 * r + 1) 0 * l.getD 1 0 + m.getD (3 * r + 2) 0 * l.getD 2 0
    (clampI 0 0xFFFFF ((a + 8192) / 16384)).toNat

/-- Sets a UE flag, the source of cause 26, and counts `n` cases (R323). -/
def pathUe (flag cnt : Fld) (n : Nat) (s : State) : State := if n = 0 then s else (s.raise flag 26).addSat cnt n

/-- The key of a row of the corrected store, in the buffer `back` frames old. -/
def State.corrKey (s : State) (back phase row : Nat) : Nat := ((s.tp.ix + 3 - back) % 3 * 4 + phase) * 65536 + row

/-- A row of the corrected store. -/
def State.corrRow (s : State) (back phase row : Nat) : List Nat := Tab.get (fun _ => []) s.tp.store (s.corrKey back phase row)
def State.setCorrRow (s : State) (back phase row : Nat) (l : List Nat) : State :=
  { s with tp := { s.tp with store := Tab.set (fun _ => []) (s.corrKey back phase row) l s.tp.store } }

/-- The words of a row corrected one after another: pixels whose coefficients did not read take the matrix of the pixel before (R323). -/
def correctRow (s : State) (row : Nat) (ue : List Nat) : Nat → List Int → List Nat → List Nat
  | _, _, [] => []
  | x, last, w :: t =>
    let m :=
      if ue.contains x then last
      else match s.moduleAt x row with
        | some c => s.matrix (row * s.tile.w + x) c.port
        | none => unityMatrix
    let code := codeUsed (w / 2 ^ 36 % 4)
    applyMatrix m ((List.range 3).map fun i => (lin code (compOf w (2 - i)) : Int)) ++ correctRow s row ue (x + 1) m t

/-- Row ROW_CORRECT: an accepted row of the frame being received goes through the correction half. `ue` lists columns whose coefficients return an
uncorrectable error. -/
def opRowCorrect (phase row : Nat) (ue : List Nat) (s : State) : State :=
  let words := Tab.get (fun _ => []) s.tileRx.cur (phase * 65536 + row)
  if !s.isTile || words.isEmpty then s
  else
    let ue := ue.filter (· < words.length)
    let s := s.setCorrRow 0 phase row (correctRow s row ue 0 unityMatrix words)
    pathUe F.VT_TP_STATUS_UE_CORR F.VT_TP_UE_COUNT_UE_CORR_N ue.length s

/-- A repeated row takes the values of the frame before (R306); a lamp whose stored value does not read stores 0 (R323). -/
def repeatCorr (phase row : Nat) (ue : List Nat) (s : State) : State :=
  let l := s.corrRow 1 phase row
  s.setCorrRow 0 phase row ((List.range l.length).map fun i => if ue.contains i then 0 else l.getD i 0)

/-! ### The encode half (R317 to R320, R357, R358) -/

/-- U_MAX of a profile (R319). -/
def uMax (n0 n1 n2 n3 : Nat) : Nat := n0 + 2 * n1 + 4 * n2 + 8 * n3 + (65535 - (n0 + n1 + n2 + n3)) * 16

/-- Boundaries, cumulative on-times and weights of the grades, highest grade first: (weight, B, U, pulses). -/
def EncSet.grades (e : EncSet) : List (Nat × Nat × Nat × Nat) :=
  [(16, e.n0 + e.n1 + e.n2 + e.n3, e.n0 + 2 * e.n1 + 4 * e.n2 + 8 * e.n3, 65535 - (e.n0 + e.n1 + e.n2 + e.n3)),
   (8, e.n0 + e.n1 + e.n2, e.n0 + 2 * e.n1 + 4 * e.n2, e.n3), (4, e.n0 + e.n1, e.n0 + 2 * e.n1, e.n2), (2, e.n0, e.n0, e.n1),
   (1, 0, 0, e.n0)]

def EncSet.uMax (e : EncSet) : Nat := Machine.uMax e.n0 e.n1 e.n2 e.n3

/-- The count of a W20 value (R320). -/
def encodeCount (e : EncSet) (v : Nat) : Nat :=
  let u := (2 * v * e.uMax + 1048575) / 2097150
  match e.grades.find? (fun g => g.2.2.1 ≤ u && 0 < g.2.2.2) with
  | some (w, b, ug, _) => min (b + (u - ug + (w - 1) / 2) / w) 65535
  | none => 0

/-- The on-time of a count, in fine units (R320, R345). -/
def onTime (e : EncSet) (c : Nat) : Nat :=
  match e.grades.find? (fun g => g.2.1 ≤ c && 0 < g.2.2.2) with
  | some (w, b, ug, _) => ug + (c - b) * w
  | none => 0

/-- The scaled value of a lamp (R317). -/
def scaleLamp (bright ceil w : Nat) : Nat := min ((w * ((bright * ceil + 0x8000) / 65536) + 0x8000) / 65536) 0xFFFFF

/-- A number cut to 32 signed bits (R358). -/
def wrap32 (n : Int) : Int := (n + 2 ^ 31) % 2 ^ 32 - 2 ^ 31

/-- The pattern value of colour `c` at tile column `x` for picture frame `f` (R358). -/
def patternValue (e : EncSet) (f c x : Nat) : Nat :=
  let n := ahead f e.base
  let level := e.level.getD c 0
  if e.mode = 1 then
    let p := max e.period 2
    let half := p / 2
    let q := (n % (p : Int)).toNat
    let tri := if q ≤ half then q else p - q
    let a := min ((tri * 65536 + half / 2) / half) 65536
    (level * a + 0x8000) / 65536
  else if e.mode = 2 then
    let pos := (wrap32 ((x : Int) + e.xorg - n * e.speed) % ((max e.span 1 : Nat) : Int)).toNat
    if pos < e.width then level else 0
  else level

/-- The values committed for the frame that starts or runs now: what its picture will be encoded with. -/
def State.encSet (s : State) : EncSet where
  bright := (List.range 4).map fun k => s.get (F.VT_TP_BRIGHT_BRIGHT k)
  n0 := if s.isK24 then 0 else s.get F.VT_TP_GRADE01_N0
  n1 := if s.isK24 then 0 else s.get F.VT_TP_GRADE01_N1
  n2 := if s.isK24 then 0 else s.get F.VT_TP_GRADE23_N2
  n3 := if s.isK24 then 0 else s.get F.VT_TP_GRADE23_N3
  pat := !s.isK24 && s.on F.PR_PAT_CTRL_EN
  mode := s.get F.PR_PAT_CTRL_MODE
  period := s.get F.PR_PAT_CTRL_PERIOD
  level := [s.get F.PR_PAT_LEVEL_R_LEVEL, s.get F.PR_PAT_LEVEL_G_LEVEL, s.get F.PR_PAT_LEVEL_B_LEVEL]
  base := s.get F.PR_PAT_BASE_BASE
  speed := s.getI F.PR_PAT_CHASE_SPEED
  width := s.get F.PR_PAT_CHASE_WIDTH
  span := s.get F.PR_PAT_XORG_SPAN
  xorg := s.get F.PR_PAT_XORG_X_ORG

/-- U_MAX of the profile in force (R326); the profile of K24 mode is fixed (R550). -/
def showUmax (s : State) : State :=
  if s.isK24 then s.put F.VT_TP_UMAX_U_MAX (uMax 0 0 0 0)
  else s.put F.VT_TP_UMAX_U_MAX (uMax (s.get F.VT_TP_GRADE01_N0) (s.get F.VT_TP_GRADE01_N1) (s.get F.VT_TP_GRADE23_N2)
    (s.get F.VT_TP_GRADE23_N3))

/-- The frame whose picture is emitted now (R37). -/
def State.picFrame (s : State) : Nat := s.tileRx.emitF.getD ((s.raster.fnum + 2 ^ 32 - 1) % 2 ^ 32)

/-- The stored value of a lamp, or the pattern's (R357). -/
def State.lampValue (s : State) (phase i : Nat) : Nat :=
  let tw := max s.tile.w 1
  let p := i / 3
  if s.tp.prev.pat then patternValue s.tp.prev s.picFrame (i % 3) (p % tw)
  else (s.corrRow 1 phase (p / tw)).getD (3 * (p % tw) + i % 3) 0

/-- GAM[c][k] of R550. -/
def State.gam (s : State) (c k : Nat) : Nat := Tab.get (fun j => gammaCurve (j % 256)) s.k24.gam (256 * c + k)

/-- The legacy gain of a lamp: the diagonal coefficient of set 0 of bank 0, rounded to units of 1/128 (R550). -/
def State.k24Gain (s : State) (i : Nat) : Nat := (clampI 0 255 ((s.tp.bank0.at (i / 3) 0 (4 * (i % 3)) + 64) / 128)).toNat

/-- The code a lamp shows: the stored one, or 0xFF under TEST for the colours PAT selects. -/
def State.k24Code (s : State) (i : Nat) : Nat :=
  let w := max (s.get F.RD_K24_WIDTH_WIDTH) 1
  let pat := s.get F.RD_K24_CTRL_PAT
  if s.on F.RD_K24_CTRL_TEST && (pat == 0 || pat == i % 3 + 1) then 0xFF
  else (s.corrRow 1 0 (i / 3 / w)).getD (3 * (i / 3 % w) + i % 3) 0 % 256

/-- The arithmetic of R550 from a linear value, a gain, BRT and a module's CEIL. -/
def k24Arith (lin g brt ceil : Nat) : Nat := (min ((lin * g * (brt + 1) + 0x4000) / 2 ^ 15) 65535 * ceil + 0x8000) / 2 ^ 16

/-- The count of a lamp in K24 mode. -/
def State.k24Count (s : State) (i e : Nat) : Nat :=
  if s.on F.RD_K24_CTRL_BLANK then 0
  else k24Arith (s.gam (i % 3) (s.k24Code i)) (s.k24Gain i) (s.get F.RD_K24_BRT_BRT) (s.get (F.VT_TP_MOD_CEIL_CEIL (lmPort e)))

/-- The count of a lamp for the picture being emitted (R317, R318, R320, R550). -/
def State.lampCount (s : State) (phase i e : Nat) : Nat :=
  let st := s.lampStatus i
  if 4 ≤ st && st ≤ 7 then 0
  else if s.isK24 then s.k24Count i e
  else encodeCount s.tp.prev
    (scaleLamp (s.tp.prev.bright.getD phase 0) (s.get (F.VT_TP_MOD_CEIL_CEIL (lmPort e))) (s.lampValue phase i))

/-- Lamps that the map puts on a row. -/
def State.lampsOn (s : State) (row : Nat) : List (Nat × Nat) :=
  s.tp.lampMap.filter fun e => lmValid e.2 && lmRow e.2 == row

/-- The ports the image uses. -/
def State.pressPorts (s : State) : List Nat := (List.range 16).filter fun q => s.on (F.PR_PORT_GEOM_USED q)

/-- The key of a row's counts. -/
def countKey (phase row q : Nat) : Nat := (phase * 32 + row) * 16 + q

/-- Row ROW_ENCODE: the counts of Press row `row` of a content phase, for every port. The lists name lamps whose map entry, status or stored value
returns an uncorrectable error (R323). -/
def opRowEncode (phase row : Nat) (ueMap ueStatus ueStore : List Nat) (s : State) : State :=
  if !s.drives then s
  else
    let lamps := s.lampsOn row
    let hit := fun (l : List Nat) => (lamps.filter fun e => l.contains e.1).length
    let dead := fun i => ueMap.contains i || ueStatus.contains i || ueStore.contains i
    let counts := lamps.filterMap fun e =>
      let c := if dead e.1 then 0 else s.lampCount phase e.1 e.2
      if c = 0 then none else some (lmPort e.2, lmPos e.2, c)
    let s := s.each s.pressPorts fun q s =>
      let mine := (counts.filter (·.1 == q)).foldl (fun t e => Tab.set (fun _ => 0) e.2.1 e.2.2 t) ([] : Tab Nat)
      { s with tp := { s.tp with counts := Tab.set (fun _ => none) (countKey phase row q) (some mine) s.tp.counts } }
    let s := pathUe F.VT_TP_STATUS_UE_MAP F.VT_TP_UE_COUNT_UE_MAP_N (hit ueMap) s
    let s := pathUe F.VT_TP_STATUS_UE_STATUS F.VT_TP_UE_COUNT_UE_STATUS_N (hit ueStatus) s
    pathUe F.VT_TP_STATUS_UE_STORE F.VT_TP_UE_COUNT2_UE_STORE_N (hit ueStore) s

/-! ### Lamp status at the frame start (R310, R318) -/

/-- A lamp's record, and its AGE in units of 256 frames (R352). -/
def State.lampRec (s : State) (i : Nat) : LampRec := Tab.get (fun _ => {}) s.tp.recs i
def State.setRec (s : State) (i : Nat) (f : LampRec → LampRec) : State :=
  { s with tp := { s.tp with recs := Tab.set (fun _ => {}) i (f (s.lampRec i)) s.tp.recs } }
def State.lampAge (s : State) (i : Nat) : Nat := min ((s.tp.frames - (s.lampRec i).mark) / 256) 255

/-- The record of a lamp as the 16-bit word that V0 keeps in DRAM channels 0 and 1, at the place the TILE section gives it (R352). -/
def State.recWord (s : State) (i : Nat) : Nat :=
  let r := s.lampRec i
  r.consec % 8 + (if r.openSeen then 8 else 0) + (if r.shortSeen then 16 else 0) + 32 * s.lampAge i

/-- Puts a status in force, that of a lamp with VALID = 0 stays UNTESTED (R322); a change goes into LAMPFAULT (R157): four packets of 61 entries go in the same
frame, and 4,096 further entries are queued. -/
def setStatus (i code : Nat) (s : State) : State :=
  let code := if lmValid (s.lampEntry i) then code else 1
  if s.lampStatus i = code then s
  else
    let s := { s with tp := { s.tp with status := Tab.set (fun _ => 1) i code s.tp.status } }
    let r := s.tileRx
    if r.lampQ.length < 4 * 61 + 4096 then { s with tileRx := { r with lampQ := r.lampQ ++ [(i, code)] } }
    else { s with tileRx := { r with lampOverflow := true } }

/-- Applies a host write of a lamp-map entry; AGE runs, and the status is other than UNTESTED, only while the lamp exists. -/
def setEntry (i w : Nat) (s : State) : State :=
  let was := lmValid (s.lampEntry i)
  let s := { s with tp := { s.tp with lampMap := Tab.set (fun _ => 0) i w s.tp.lampMap } }
  let s := if lmValid w then s else setStatus i 1 s
  if was == lmValid w then s else s.setRec i fun r => { r with mark := s.tp.frames - r.mark }

/-- What a queued host write does. -/
def applyHostWrite (e : Bool × Nat × Nat) (s : State) : State :=
  if e.1 then setEntry e.2.1 e.2.2 s
  else
    let s := setStatus e.2.1 e.2.2 s
    if e.2.2 = 1 then s.setRec e.2.1 fun r => { r with consec := 0, openSeen := false, shortSeen := false } else s

/-- A final state of VT_TP_TAB_RESULT (R332). -/
def tabFinal (st : Nat) (s : State) : State :=
  ((s.put F.VT_TP_TAB_RESULT_STATE st).put F.VT_TP_TAB_RESULT_VALID 1).bump F.VT_TP_TAB_RESULT_SEQ
/-- A running state. -/
def tabRunning (st : Nat) (s : State) : State := (s.put F.VT_TP_TAB_RESULT_STATE st).put F.VT_TP_TAB_RESULT_VALID 0

/-- The frame start's changes: diagnosis first, then the host's writes; permanent faults are logged (code 0x0B01). -/
def lampApply (s : State) : State :=
  let d := s.tp.diag
  let q := s.tp.queue
  let s := { s with tp := { s.tp with diag := [], queue := [], frames := s.tp.frames + 1 } }
  let s := s.each d fun e s => setStatus e.1 e.2 s
  let perm := d.filter fun e => 4 ≤ e.2
  let s := match perm with
    | e :: _ => s.logEv 2 7 0x0B01 perm.length e.1
    | [] => s
  let s := s.each q applyHostWrite
  if s.get F.VT_TP_TAB_RESULT_STATE == 6 then tabFinal 2 s else s

/-- The share of a frame start before the commits: the picture of the frame that ends is encoded with what was in force for it, and no counts have arrived.
Where a reception has ended, or in K24 mode a VS starts the frame, its corrected values become the picture and the next buffer is opened; an overloaded chain
goes on with the frame being received (R165, R305, R549). -/
def pathTurn (s : State) : State :=
  let s := { s with tp := { s.tp with prev := s.encSet, counts := [] } }
  if !(if s.isK24 then s.k24.turn else s.tileRx.turn) then s
  else
    let ix := (s.tp.ix + 1) % 3
    { s with tp := { s.tp with ix := ix, store := s.tp.store.filter fun e => e.1 / (4 * 65536) != ix }, tileRx := { s.tileRx with turn := false } }

/-! ### Table access (R310, R330 to R332) -/

/-- WRITE_REFUSED alone, and a refusal that the result reports too. -/
def tabRefuse (report : Bool) (s : State) : State :=
  let s := s.flag F.VT_TP_STATUS_WRITE_REFUSED
  if report then tabFinal 3 s else s

/-- Is the INDEX below the tile's pixel or lamp count, and the TABLE one that exists? -/
def State.tabInRange (s : State) : Bool :=
  let px := s.tile.w * s.tile.h
  match s.get F.VT_TP_TAB_ADDR_TABLE with
  | 0 => s.get F.VT_TP_TAB_ADDR_INDEX < px
  | 3 => false
  | _ => s.get F.VT_TP_TAB_ADDR_INDEX < 3 * px

/-- The nine coefficients in VT_TP_TAB_DATA order (R331). -/
def State.tabCoef (s : State) (k : Nat) : Int :=
  toInt 16 (s.get (F.VT_TP_TAB_DATA_DATA (k / 2)) / 2 ^ (16 * (k % 2)))

/-- Row TABLE_READ: the read begins; refused while another command runs, or out of range. -/
def opTableRead (s : State) : State :=
  let st := s.get F.VT_TP_TAB_RESULT_STATE
  if st == 1 || st == 5 then tabRefuse false s
  else if !s.tabInRange then tabRefuse true s
  else { tabRunning 1 s with tp := { s.tp with cmd := some (s.rd F.VT_TP_TAB_ADDR_INDEX.addr, none) } }

/-- The code a lamp will have once the writes already queued have applied (R322, R331). -/
def State.queuedStatus (s : State) (i : Nat) : Nat :=
  let valid := lmValid (s.lampEntry i)
  let st := match s.tp.diag.reverse.find? (·.1 == i) with | some e => if valid then e.2 else 1 | none => s.lampStatus i
  ((s.tp.queue.filter (·.2.1 == i)).foldl (fun (x : Bool × Nat) e =>
    if e.1 then (lmValid e.2.2, if lmValid e.2.2 then x.2 else 1) else (x.1, if x.1 then e.2.2 else 1)) (valid, st)).2

/-- Row TABLE_WRITE: a correction entry begins its write; a lamp-map or status write is queued; or it is refused. -/
def opTableWrite (s : State) : State :=
  let st := s.get F.VT_TP_TAB_RESULT_STATE
  let i := s.get F.VT_TP_TAB_ADDR_INDEX
  if st == 1 || st == 5 then tabRefuse false s
  else if !s.tabInRange then tabRefuse true s
  else match s.get F.VT_TP_TAB_ADDR_TABLE with
    | 0 =>
      if !s.isK24 && (s.on F.VT_TP_STATUS_RAMP || s.get F.VT_TP_TAB_ADDR_BANK == s.get F.VT_TP_STATUS_BANK_ACT) then tabRefuse true s
      else { tabRunning 1 s with tp := { s.tp with cmd := some (s.rd F.VT_TP_TAB_ADDR_INDEX.addr, some ((List.range 9).map s.tabCoef)) } }
    | t =>
      let v := if t = 1 then s.get (F.VT_TP_TAB_DATA_DATA 0) else s.get (F.VT_TP_TAB_DATA_DATA 0) % 16
      let codeOk := t == 1 || v == 7 || (v == 1 && s.queuedStatus i == 7)
      if !codeOk || 256 ≤ s.tp.queue.length then tabRefuse true s
      else { tabRunning 6 s with tp := { s.tp with queue := s.tp.queue ++ [(t == 1, i, v)] } }

/-- Fills the DATA registers with the entry that a VT_TP_TAB_ADDR word names (R331). -/
def tabFill (a : Word) (s : State) : State :=
  let i := F.VT_TP_TAB_ADDR_INDEX.of a
  let put := fun (l : List Nat) (s : State) => s.each (List.range 5) fun k s => s.put (F.VT_TP_TAB_DATA_DATA k) (l.getD k 0)
  match F.VT_TP_TAB_ADDR_TABLE.of a with
  | 0 =>
    let b := s.bank (F.VT_TP_TAB_ADDR_BANK.of a)
    let c := fun rc => if rc < 9 then ofInt 16 (b.at i (F.VT_TP_TAB_ADDR_SET.of a) rc) else 0
    put ((List.range 5).map fun k => c (2 * k) + 65536 * c (2 * k + 1)) s
  | 1 => put [s.lampEntry i] s
  | _ => put [s.lampStatus i] s

/-- Row TABLE_CMD_DONE: the READ or correction WRITE completes; `ue` when the read found an uncorrectable error (R332). -/
def opTableCmdDone (ue : Bool) (s : State) : State :=
  match s.tp.cmd with
  | none => s
  | some (a, wr) =>
    let s := { s with tp := { s.tp with cmd := none } }
    match wr with
    | none =>
      if ue then tabFinal 4 (s.each (List.range 5) fun k s => s.put (F.VT_TP_TAB_DATA_DATA k) 0)
      else tabFinal 2 (tabFill a s)
    | some l =>
      let b := F.VT_TP_TAB_ADDR_BANK.of a
      let w := (List.range 9).foldl
        (fun c k => c.put (F.VT_TP_TAB_ADDR_INDEX.of a) (F.VT_TP_TAB_ADDR_SET.of a) k (l.getD k 0)) (s.bank b)
      tabFinal 2 { s with tp := if b = 0 then { s.tp with bank0 := w } else { s.tp with bank1 := w } }

/-- Row TABLE_SAVE: the SAVE begins. -/
def opTableSave (s : State) : State :=
  let st := s.get F.VT_TP_TAB_RESULT_STATE
  if st == 1 || st == 5 then tabRefuse false s else tabRunning 5 s

/-- Row TABLE_SAVE_DONE: the active bank with its TSET values, the lamp map and the lamp status are in the Cave (R332, R502);
in K24 mode the gamma tables stand in place of the TSET values (R557). -/
def opTableSaveDone (s : State) : State :=
  if !s.saving then s
  else
    let b := s.get F.VT_TP_STATUS_BANK_ACT
    let gamma := (List.range 768).map fun k => s.gam (k / 256) (k % 256)
    tabFinal 2 { s with cave := { s.cave with
      corr := s.bank b, tset := if s.isK24 then [] else (List.range 4).map (s.tset b), gamma := if s.isK24 then some gamma else none,
      lampMap := s.tp.lampMap, status := s.tp.status } }

/-- Row TSET_WRITE: register `r` of VT_TP_TSET_B0A, B0B, B1A, B1B; refused for the active bank and during a ramp (R310). -/
def opTsetWrite (r : Nat) (val : Word) (s : State) : State :=
  if 3 < r then s
  else if s.on F.VT_TP_STATUS_RAMP || s.get F.VT_TP_STATUS_BANK_ACT == r / 2 then tabRefuse false s
  else s.wr (atTP (0x20 + 4 * r)) val

end Sys2Proof.Machine
end

