-- ==== Sys2Proof/Machine/Dram.lean ====
section
/-!
DEFINITION. The DRAM controller: arbitration, refresh, error handling, scrub, repair and the frequency change (chapter 13). What a request reads
or writes is taken in its requester's own step; a request here is what the controller does with it.
-/

namespace Sys2Proof.Machine

open Sys2Proof

/-- A channel's record. -/
def State.dramCh (s : State) (c : Nat) : DramCh := Tab.get (fun _ => {}) s.drams c
def State.setDramCh (s : State) (c : Nat) (f : DramCh → DramCh) : State :=
  { s with drams := Tab.set (fun _ => {}) c (f (s.dramCh c)) s.drams }

/-- Does an image use a channel? -/
def usesChannel (m : MouldImage) (c : Nat) : Bool := m.dram.any fun d => d.vat == c / 2 && d.channels.testBit (c % 2)

/-- The channel runs (R390). -/
def State.dramRuns (s : State) (c : Nat) : Bool := c < 8 && s.get (F.VT_DRAM_STATE_STATE c) == 2

/-- The level of DDRc_RESET_N: low where the die is gated or the channel is out of use or failed its training (R368). -/
def State.ddrResetN (s : State) (c : Nat) : Bool := s.dieRuns (1 + c / 2) && s.get (F.VT_DRAM_STATE_STATE c) != 0 && s.get (F.VT_DRAM_STATE_STATE c) != 15

/-! ### Addresses (R367) -/

/-- Row bits, 16 or 17. -/
def State.rowBits (s : State) (c : Nat) : Nat := 16 + s.get (F.VT_DRAM_CFG_DENSITY c)

/-- Rank, bank group, bank, row and column of a channel address. -/
structure DramLoc where
  rank : Nat
  bg : Nat
  ba : Nat
  row : Nat
  col : Nat
  deriving DecidableEq, Repr

def State.locate (s : State) (c a : Nat) : DramLoc :=
  let nr := s.rowBits c
  { rank := a / 2 ^ (nr + 17) % 2, bg := a / 64 % 4, ba := a / 2 ^ 15 % 4, row := a / 2 ^ 17 % 2 ^ nr, col := a / 256 % 128 }

/-- The bank, and the first channel address of the row. -/
def DramLoc.bank (l : DramLoc) : Nat := 16 * l.rank + 4 * l.bg + l.ba
def rowFirst (a : Nat) : Nat := a / 2 ^ 15 * 2 ^ 15 + a / 64 % 4 * 64

/-- The die address of a channel address (the inverse of R367). -/
def dieAddr (c a : Nat) : Nat := a / 64 * 128 + c % 2 * 64 + a % 64

/-- ARG0 and ARG1 of the DRAM log entries (R533). -/
def DramLoc.arg0 (l : DramLoc) (c cls : Nat) : Nat := c * 2 ^ 24 + l.rank * 2 ^ 21 + l.bg * 2 ^ 19 + l.ba * 2 ^ 17 + cls * 2 ^ 14
def DramLoc.arg1 (l : DramLoc) : Nat := l.col * 2 ^ 24 + l.row

/-! ### Errors (R379 to R381) -/

/-- Records an error in VT_DRAM_ERR_LAST (R391). -/
def errLast (c : Nat) (l : DramLoc) (cls : Nat) (ue : Bool) (s : State) : State :=
  let s := ((s.put (F.VT_DRAM_ERR_LAST0_VALID c) 1).putB (F.VT_DRAM_ERR_LAST0_UE c) ue).bump (F.VT_DRAM_ERR_LAST0_SEQ c)
  let s := ((s.put (F.VT_DRAM_ERR_LAST0_RANK c) l.rank).put (F.VT_DRAM_ERR_LAST0_BG c) l.bg).put (F.VT_DRAM_ERR_LAST0_BA c) l.ba
  ((s.put (F.VT_DRAM_ERR_LAST0_CLASS c) cls).put (F.VT_DRAM_ERR_LAST1_COL c) l.col).put (F.VT_DRAM_ERR_LAST1_ROW c) l.row

/-- A correctable error (R380): the third of a burst is logged once. -/
def dramCeCount (c a cls : Nat) (s : State) : State :=
  let l := s.locate c a
  let s := errLast c l cls false (s.inc (F.VT_DRAM_ERRCNT_CE_N c))
  let n := Tab.get (fun _ => 0) (s.dramCh c).ces (a / 64) + 1
  let s := s.setDramCh c fun d => { d with ces := Tab.set (fun _ => 0) (a / 64) n d.ces }
  if n = 3 then s.logEv 0 (1 + c / 2) 0x0C01 (l.arg0 c cls) l.arg1 else s

/-- A correctable error of a read: the corrected burst is written back in class 2 unless a write to it waits already (R380). -/
def dramCe (c a cls : Nat) (s : State) : State :=
  (dramCeCount c a cls s).setDramCh c fun d =>
    { d with reqs := if d.reqs.any (fun r => r.1.write && r.1.addr / 64 == a / 64) then d.reqs else d.reqs ++ [(⟨a / 64 * 64, .rewrite, true⟩, 2)] }

/-- The spare row of a rank and bank group is unused (R392). -/
def State.spareOf (s : State) (c : Nat) (l : DramLoc) : Bool := (s.get (F.VT_DRAM_PPR_SPARE c)).testBit (4 * l.rank + l.bg)

/-- An uncorrectable error (R381): counted, recorded and logged; the second at a row makes a repair due from the next frame (R383), or with no
spare left sets EXHAUSTED (R385). -/
def dramUe (c a cls : Nat) (s : State) : State :=
  let l := s.locate c a
  let row := rowFirst a
  let s := errLast c l cls true (s.inc (F.VT_DRAM_ERRCNT_UE_N c))
  let s := (s.cause 24).logEv 1 (1 + c / 2) 0x0C02 (l.arg0 c cls) l.arg1
  let n := Tab.get (fun _ => 0) (s.dramCh c).ues row + 1
  let s := s.setDramCh c fun d => { d with ues := Tab.set (fun _ => 0) row n d.ues }
  if n ≠ 2 then s
  else if s.spareOf c l then s.setDramCh c fun d => { d with due := d.due ++ [(row, (s.raster.fnum + 1) % 2 ^ 32)] }
  else (s.raise (F.VT_DRAM_PPR_EXHAUSTED c) 23).logEv 2 (1 + c / 2) 0x0C04 (l.arg0 c cls) l.arg1

/-- A read ends without error (0), with a CE (1) or with a UE (2). -/
def dramRead (c a cls err : Nat) (s : State) : State :=
  if err = 1 then dramCe c a cls s else if err = 2 then dramUe c a cls s else s

/-! ### Arbitration (R369 to R373) -/

/-- Does a layer engine feed a target of a chain whose output fetches are urgent (R292)? -/
def State.urgentLayer (s : State) (v e : Nat) : Bool :=
  match s.mould.loaded with
  | none => false
  | some m => m.layers.any fun l => l.vat == v && l.engine == e && s.on (F.CH_SO_STATUS_URGENT (s.get (F.VT_TGT_CTRL_PORT l.owner l.target)))

/-- The class of a kind of traffic (R370). DESIGN CHOICE (log entry 130): the encode half's reads before they are due, which the table does not list, are of the
class of the correction half's. -/
def State.clsOf (s : State) : Traffic → Nat
  | .layer v e => if s.urgentLayer v e then 0 else 2
  | .encode due => if due then 0 else 2
  | .input full => if full then 1 else 3
  | .correct => 2
  | .rewrite => 2
  | .store => 3
  | .host => 4
  | .patrol => 5

/-- Do two requests keep their order: the same row, and one of them writes? -/
def rowOrdered (x y : DramReq) : Bool := rowFirst x.addr == rowFirst y.addr && (x.write || y.write)

/-- The class of the oldest request of a list, raised to that of every request that must wait for it, and those. -/
def withClass : List (DramReq × Nat) → List (DramReq × Nat)
  | [] => []
  | r :: t =>
    let t := withClass t
    (r.1, (t.filter fun x => rowOrdered r.1 x.1).foldl (fun m x => min m x.2) r.2) :: t

/-- The waiting requests with the class each has now: by its promotions, by its traffic, and by what waits for it. -/
def State.waiting (s : State) (c : Nat) : List (DramReq × Nat) :=
  withClass ((s.dramCh c).reqs.map fun r => (r.1, min r.2 (s.clsOf r.1.kind)))

/-- Requests that no older one holds back, with their place in the queue. -/
def readyReqs : List (DramReq × Nat) → List (DramReq × Nat) → Nat → List (Nat × DramReq × Nat)
  | _, [], _ => []
  | old, r :: t, i =>
    let rest := readyReqs (old ++ [r]) t (i + 1)
    if old.any (fun o => rowOrdered o.1 r.1) then rest else (i, r) :: rest

/-- The bank's row is open. -/
def State.rowHit (s : State) (c : Nat) (r : DramReq) : Bool :=
  let l := s.locate c r.addr
  Tab.get (fun _ => none) (s.dramCh c).rows l.bank == some l.row

/-- The requests that are ready in the highest class that has one, oldest first. -/
def State.contenders (s : State) (c : Nat) : List (Nat × DramReq × Nat) :=
  let ready := readyReqs [] (s.waiting c) 0
  let best := ready.foldl (fun m x => min m x.2.2) 6
  ready.filter (·.2.2 == best)

/-- The request served next, and whether it passes an older miss of its class: the oldest of the contenders, or the oldest row hit, which passes older misses no
more than MAX_HITS times in a row (R371). -/
def State.pickReq (s : State) (c : Nat) : Option ((Nat × DramReq × Nat) × Bool) :=
  match s.contenders c with
  | [] => none
  | x :: t =>
    if !s.rowHit c x.2.1 && (s.dramCh c).hits < max 1 (s.get (F.VT_DRAM_PAGE_MAX_HITS c)) then
      match t.find? fun y => s.rowHit c y.2.1 with
      | some y => some (y, true)
      | none => some (x, false)
    else some (x, false)

/-- The figure of R370 for a class, in ns; class 0 depends on rate and density (R372). -/
def State.classFigure (s : State) (c cls : Nat) : Nat :=
  match cls with
  | 0 => [574, 561, 550, 540].getD (s.get (F.VT_DRAM_FC_RATE_RATE (c / 2))) 540 - (if s.on (F.VT_DRAM_CFG_DENSITY c) then 0 else 100)
  | 1 => 1600
  | 2 => 4000
  | 3 => 10000
  | 4 => 40000
  | _ => 1000000

/-- A request of a class has waited: the maximum, and a wait above the class's figure (R372, R391). -/
def noteWait (c cls wait : Nat) (s : State) : State :=
  let f := F.VT_DRAM_WAIT_MAX_NS (c / 2) (min cls 5)
  let s := if s.get f < wait then s.put f (min wait 65535) else s
  if s.classFigure c cls < wait then s.inc (F.VT_DRAM_WAIT_EXCEED_N (c / 2) (min cls 5)) else s

/-- The rows of a bank next to row `row` (R378). -/
def State.neighbours (s : State) (c row : Nat) : List Nat :=
  (if row = 0 then [] else [row - 1]) ++ (if row + 1 < 2 ^ s.rowBits c then [row + 1] else [])

/-- A column access opens its row where it was closed. Neighbour rows whose refresh is still to come are activated and precharged before the ACT, and the ACT may
be followed by the refresh of its own row's neighbours, by the draw's low bits (R369, R378). -/
def openRow (c : Nat) (r : DramReq) (s : State) : State :=
  let l := s.locate c r.addr
  if s.rowHit c r then s
  else
    let k := s.get (F.VT_DRAM_NRR_NRR_SHIFT c)
    let (w, s) := s.draw
    let near := if k ≠ 0 && w.toNat % 2 ^ k == 0 then s.neighbours c l.row else []
    let s := s.setDramCh c fun d =>
      { d with rows := Tab.set (fun _ => none) l.bank (some l.row) d.rows, nrr := Tab.set (fun _ => []) l.bank near d.nrr }
    if near.isEmpty then s else s.inc (F.VT_DRAM_NRR_NRR_N c)

/-- Issues a REF that is owed where no class-0 request waits: every bank is closed (R375). -/
def payRefresh (c : Nat) (s : State) : State :=
  let d := s.dramCh c
  if d.owed = 0 || (s.waiting c).any (·.2 == 0) then s
  else s.setDramCh c fun d => { d with owed := d.owed - 1, rows := [] }

/-- A raster tick: each channel issues at most one of the REFs that it owes (R375). -/
def refTicks (s : State) : State := s.each ((List.range 8).filter fun c => s.dramRuns c && (s.dramCh c).owed != 0) payRefresh

/-- A request joins the queue. A requester has at most one class-0 burst queued (R371): another is not taken yet. A write drops the rewrite of its burst that
waits (R380). -/
def arriveReq (c : Nat) (r : DramReq) (s : State) : State :=
  let cls := s.clsOf r.kind
  if cls = 0 && (s.dramCh c).reqs.any (·.1.kind == r.kind) then s
  else s.setDramCh c fun d =>
    { d with reqs := (d.reqs.filter fun x => !(r.write && x.1.kind == .rewrite && x.1.addr / 64 == r.addr / 64)) ++ [(r, cls)] }

/-- Row DRAM_REQUEST: requests arrive, and the one that the arbitration picks is served: it waited `wait` ns, and `err` is what its read
met. -/
def opDramRequest (c : Nat) (arrive : List DramReq) (wait err : Nat) (s : State) : State :=
  if !s.dramRuns c then s
  else
    let s := s.each arrive (arriveReq c)
    match s.pickReq c with
    | none => s
    | some ((i, r, _), passed) =>
      let cls := s.clsOf r.kind
      let s := openRow c r s
      let s := s.setDramCh c fun d =>
        { d with reqs := d.reqs.take i ++ d.reqs.drop (i + 1), hits := if passed then d.hits + 1 else 0 }
      let s := noteWait c cls wait s
      payRefresh c (if r.write then s else dramRead c r.addr cls err s)

/-- Row DRAM_CLASS_PROMOTION: request `i` of the queue moves to the next higher class; classes 0 and 1 are not promoted. -/
def opClassPromotion (c i : Nat) (s : State) : State :=
  let f := fun (e : (DramReq × Nat) × Nat) => if e.2 = i && 2 ≤ e.1.2 then (e.1.1, e.1.2 - 1) else e.1
  s.setDramCh c fun d => { d with reqs := (d.reqs.zip (List.range d.reqs.length)).map f }

/-- Row IDLE_TIMER_EXPIRY: the bank closes its row. -/
def opIdleExpiry (c bank : Nat) (s : State) : State :=
  s.setDramCh c fun d => { d with rows := Tab.set (fun _ => none) bank none d.rows }

/-! ### Refresh and temperature (R374 to R377) -/

/-- The raster tick of point `k` of channel `c`; RSTEP is 780, or 390 while halved. -/
def refTick (c k : Nat) (fast : Bool) : Nat := (if c % 2 = 1 then (if fast then 195 else 390) else 0) + k * (if fast then 390 else 780)

/-- The number of a channel's next REF point in this frame. -/
def State.nextPoint (s : State) (c : Nat) : Nat :=
  match (s.dramCh c).point with | some (f, k) => if f = s.raster.fnum then k + 1 else 0 | none => 0

/-- Does the raster stand at the channel's last REF point? Without a raster every point is where its command says. -/
def State.atPoint (s : State) (c : Nat) : Bool := !s.rasterValid || ((s.dramCh c).point.isSome && (s.dramCh c).pointAt == s.raster.ticks)

/-- Row REFRESH_POINT: the raster comes to the channel's next point, where the frame has one; one REF more is owed, and issued unless a class-0 request
waits. -/
def opRefreshPoint (c : Nat) (s : State) : State :=
  let k := s.nextPoint c
  let tick := refTick c k (s.dramCh c).fast
  if !s.dramRuns c || (s.rasterValid && s.frameTicks ≤ (tick : Nat)) then s
  else
    let s := if s.rasterValid then reachTick tick s else s
    payRefresh c (s.setDramCh c fun d => { d with owed := d.owed + 1, point := some (s.raster.fnum, k), pointAt := s.raster.ticks })

/-- The temperature of a frame start decides the interval of its REF points (R377). -/
def dramFrame (s : State) : State :=
  s.each ((List.range 8).filter fun c => s.dramRuns c && (s.dramCh c).fast != s.on (F.VT_DRAM_STATE_TEMP_HI c)) fun c s =>
    s.setDramCh c fun d => { d with fast := s.on (F.VT_DRAM_STATE_TEMP_HI c) }

/-- Row FORCED_REFRESH: with 32 owed one is issued at once. -/
def opForcedRefresh (c : Nat) (s : State) : State :=
  if !s.dramRuns c || (s.dramCh c).owed < 32 then s
  else (s.setDramCh c fun d => { d with owed := d.owed - 1, rows := [] }).inc (F.VT_DRAM_STATE_REF_FORCED_N c)

/-- Row ZQCS: at the midpoint between point 64 n + 63 and the one after it, once, with every bank closed (R376). -/
def opZqcs (c : Nat) (s : State) : State :=
  match (s.dramCh c).point with
  | none => s
  | some (f, k) =>
    let fast := (s.dramCh c).fast
    let tick := refTick c k fast + (if fast then 195 else 390)
    if !s.dramRuns c || k % 64 ≠ 63 || (s.dramCh c).zqcs == some (f, k) || (s.rasterValid && (f ≠ s.raster.fnum || s.frameTicks ≤ (tick : Nat))) then s
    else (if s.rasterValid then reachTick tick s else s).setDramCh c fun d => { d with rows := [], zqcs := some (f, k) }

/-- The controller's share of a temperature read: 0 at most 85 degrees on every rank, 1 above 85, 2 above 95. -/
def dramTemp (c band : Nat) (s : State) : State :=
  if !s.dramRuns c then s
  else if band = 0 then
    let n := (s.dramCh c).cool + 1
    let s := s.setDramCh c fun d => { d with cool := n }
    if 2 ≤ n then s.put (F.VT_DRAM_STATE_TEMP_HI c) 0 else s
  else
    let s := (s.setDramCh c fun d => { d with cool := 0 }).put (F.VT_DRAM_STATE_TEMP_HI c) 1
    if 2 ≤ band then s.raise (F.VT_DRAM_STATE_DRAM_HOT c) 22 else s

/-! ### Scrub and repair (R382 to R386) -/

/-- Row PATROL_SCRUB: the next burst of the installed memory is read in class 5; a throttled die pauses it (R476). -/
def opPatrolScrub (c : Nat) (r : ScrubRead) (s : State) : State :=
  if !s.dramRuns c || !s.on (F.VT_DRAM_SCRUB_SCRUB_EN c) || s.on (F.RD_TH_DIE_STAGE (1 + c / 2)) then s
  else
    let p := s.get (F.VT_DRAM_SCRUB_POS_POS c)
    let n := s.get (F.VT_DRAM_CFG_SIZE c) * 2 ^ 24
    let s := noteWait c 5 r.wait (openRow c ⟨64 * p, .patrol, false⟩ s)
    dramRead c (64 * p) 5 r.err (s.put (F.VT_DRAM_SCRUB_POS_POS c) (if n ≤ p + 1 then 0 else p + 1))

/-- What a burst holds of a table of the tile at base `b` with `k` entries to the byte pair: the first entry, and how many. -/
def inTable (b len d : Nat) : Bool := b ≤ d && d < b + len

/-- Entries `per` to a burst of a table at `b`, from the burst at die address `d`. -/
def entriesOf (b per d : Nat) : List Nat := (List.range per).map fun i => (d - b) / 64 * per + i

/-- A burst of channel `c` reads as zero from now on: its bytes, and on V0 of a part that drives lamps the table entries it holds. -/
def zeroBurst (c a : Nat) (s : State) : State :=
  let d := dieAddr c (a / 64 * 64)
  let s := s.setBytesN (dramAt (c / 2) d) 64 0
  if !s.drives || 2 ≤ c then s
  else
    let t := s.tile
    let px := t.w * t.h
    let z := fun (b : CorrBank) base => { b with coef := (entriesOf base 32 d).foldl (fun m k => Tab.set (corrBlank b.unity) k 0 m) b.coef }
    let tp := s.tp
    let tp := if inTable t.corr0 (72 * px) d then { tp with bank0 := z tp.bank0 t.corr0 } else tp
    let tp := if inTable t.corr1 (72 * px) d then { tp with bank1 := z tp.bank1 t.corr1 } else tp
    let tp := if inTable t.lampMap (12 * px) d then
        { tp with lampMap := (entriesOf t.lampMap 16 d).foldl (fun m k => Tab.set (fun _ => 0) k 0 m) tp.lampMap } else tp
    let tp := if inTable t.status (ceilDiv (3 * px) 2) d then
        { tp with status := (entriesOf t.status 128 d).foldl (fun m k => Tab.set (fun _ => 1) k 0 m) tp.status } else tp
    let tp := if inTable t.recs (6 * px) d then
        { tp with recs := (entriesOf t.recs 32 d).foldl (fun m k => Tab.set (fun _ => {}) k { mark := tp.frames } m) tp.recs } else tp
    { s with tp := tp }

/-- What stood in a burst that reads as zero, at a place that the compiler chose (R383). -/
def zeroItem (i : BurstItem) (s : State) : State :=
  let at0 := fun (l : List Nat) (n : Nat) => if n < l.length then l.set n 0 else l
  match i with
  | .stored b phase row lamp =>
    let k := (b % 3 * 4 + phase) * 65536 + row
    { s with tp := { s.tp with store := Tab.set (fun _ => []) k (at0 (Tab.get (fun _ => []) s.tp.store k) lamp) s.tp.store } }
  | .word last phase row col =>
    let k := phase * 65536 + row
    let f := fun (t : Tab (List Nat)) => Tab.set (fun _ => []) k (at0 (Tab.get (fun _ => []) t k) col) t
    { s with tileRx := if last then { s.tileRx with last := f s.tileRx.last } else { s.tileRx with cur := f s.tileRx.cur } }
  | .audio n i =>
    let a := Tab.get (fun _ => {}) s.auds n
    let line := a.line.zipIdx.map fun e => if e.2 = i then { e.1 with l := 0, r := 0, flags := 0 } else e.1
    { s with auds := Tab.set (fun _ => {}) n { a with line := line } s.auds }

/-- Row ROW_REPAIR: the first repair due on the channel, at a REF point of a frame that may run it. A burst of the row that gives a UE on the way is replaced by
zero and not counted again (R389); one that gives a CE is counted, and written back with the row (R379, R380). -/
def opRowRepair (c : Nat) (x : RowReads) (s : State) : State :=
  match (s.dramCh c).due with
  | [] => s
  | (row, f) :: t =>
    if !s.dramRuns c || !s.atPoint c || ahead s.raster.fnum f < 0 then s
    else
      let l := s.locate c row
      let s := s.setDramCh c fun d => { d with due := t }
      if !s.spareOf c l then (s.raise (F.VT_DRAM_PPR_EXHAUSTED c) 23).logEv 2 (1 + c / 2) 0x0C04 (l.arg0 c 0) l.arg1
      else
        let at' := fun (l : List Nat) => (l.filter (· < 128)).map fun i => row + 256 * i
        let bursts := at' x.ue
        let s := s.each (at' x.ce) fun a s => dramCeCount c a 0 s
        let s := (s.each bursts (zeroBurst c)).each x.items zeroItem
        let s := s.setDramCh c fun d =>
          { d with rows := [], ues := Tab.set (fun _ => 0) row 0 d.ues, recopy := d.recopy ++ bursts }
        let s := s.put (F.VT_DRAM_PPR_SPARE c) (clearBit (s.get (F.VT_DRAM_PPR_SPARE c)) (4 * l.rank + l.bg))
        let s := ((s.inc (F.VT_DRAM_ERRCNT_REPAIR_N c)).flag (F.VT_DRAM_PPR_REPAIRED c)).inc (F.VT_DRAM_PPR_LISTED c)
        State.logEv { s with cave := { s.cave with repairs := s.cave.repairs ++ [(c, row)] } } 2 (1 + c / 2) 0x0C03 (l.arg0 c 0) l.arg1

/-- Do `n` bytes from `a` of the table area touch a failed block? -/
def inFailed (failed : List Nat) (a n : Nat) : Bool := failed.any fun b => a / 65536 ≤ b && b ≤ (a + n - 1) / 65536

/-- A burst that the Cave load had filled is copied afresh from the Cave (R384), as the load fills it: where a block had failed with unity matrices, entries with
VALID = 0 and UNTESTED (R79; DEDUCED, log entry 129). -/
def recopyBurst (c a : Nat) (s : State) : State :=
  let d := dieAddr c (a / 64 * 64)
  let t := s.tile
  let px := t.w * t.h
  let tp := s.tp
  let cv := s.cave
  let lost := inFailed s.tileRx.caveFailed
  let tp := if inTable t.corr0 (72 * px) d then
      let b := tp.bank0
      let cell := fun k => if lost (2 * k) 2 then corrBlank true k else Tab.get (corrBlank cv.corr.unity) cv.corr.coef k
      { tp with bank0 := { b with coef := (entriesOf t.corr0 32 d).foldl (fun m k => Tab.set (corrBlank b.unity) k (cell k) m) b.coef } } else tp
  let tp := if inTable t.lampMap (12 * px) d then
      let cell := fun k => if lost (72 * px + 4 * k) 4 then 0 else Tab.get (fun _ => 0) cv.lampMap k
      { tp with lampMap := (entriesOf t.lampMap 16 d).foldl (fun m k => Tab.set (fun _ => 0) k (cell k) m) tp.lampMap } else tp
  let tp := if inTable t.status (ceilDiv (3 * px) 2) d then
      let cell := fun k => if lost (84 * px + k / 2) 1 || !lmValid (Tab.get (fun _ => 0) tp.lampMap k) then 1 else Tab.get (fun _ => 1) cv.status k
      { tp with status := (entriesOf t.status 128 d).foldl (fun m k => Tab.set (fun _ => 1) k (cell k) m) tp.status } else tp
  { s with tp := tp }

/-- Row REPAIR_RECOPY_DONE. -/
def opRecopyDone (c : Nat) (s : State) : State :=
  let l := (s.dramCh c).recopy
  let s := s.setDramCh c fun d => { d with recopy := [] }
  if s.drives && c < 2 then s.each l (recopyBurst c) else s

/-- Training applies the Cave repair list to a channel and uses up the spares (R386). -/
def applyRepairs (c : Nat) (s : State) : State :=
  let mine := s.cave.repairs.filter (·.1 == c)
  let s := s.put (F.VT_DRAM_PPR_LISTED c) (min mine.length 255)
  s.each mine fun e s =>
    let l := s.locate c e.2
    s.put (F.VT_DRAM_PPR_SPARE c) (clearBit (s.get (F.VT_DRAM_PPR_SPARE c)) (4 * l.rank + l.bg))

/-- A channel trains: it runs with every bank closed, and the repair list is applied to it (R368). -/
def trainChannel (c : Nat) (s : State) : State := applyRepairs c ((s.setDramCh c fun _ => {}).put (F.VT_DRAM_STATE_STATE c) 2)

/-! ### The frequency change (R387, R388) -/

def State.fc (s : State) (v : Nat) : DramFc := Tab.get (fun _ => {}) s.dramFc v
def State.setFc (s : State) (v : Nat) (f : DramFc) : State := { s with dramFc := Tab.set (fun _ => {}) v f s.dramFc }

/-- The three scheduled registers of a die. -/
def fcAddrs (v : Nat) : List Nat := [atDDIE v 0x20, atDDIE v 0x24, atDDIE v 0x28]

/-- A change is pending. -/
def State.fcPending (s : State) (v : Nat) : Bool := (fcAddrs v).any fun a => s.pendWord a != s.rd a

/-- A final result of VT_DRAM_FC_STATUS. -/
def fcFinal (v st err : Nat) (s : State) : State :=
  ((s.put (F.VT_DRAM_FC_STATUS_STATE v) st).put (F.VT_DRAM_FC_STATUS_ERR v) err).put (F.VT_DRAM_FC_STATUS_VALID v) 1
    |>.bump (F.VT_DRAM_FC_STATUS_SEQ v)

/-- A refusal: the values in force stay. -/
def fcRefuse (v err : Nat) (s : State) : State :=
  (fcFinal v 3 err (s.flag (F.VT_DRAM_FC_STATUS_FC_REFUSED v))).setFc v { refused := true, remould := (s.fc v).remould }

/-- Three times the rate in MT/s. -/
def rate3 (code : Nat) : Nat := [7200, 8000, 8800, 9600].getD code 9600

/-- What the DRAM section says of a die. -/
def State.dramCfg (s : State) (v : Nat) : Option DramCfg := match s.mould.loaded with | some m => m.dram.find? (·.vat == v) | none => none

/-- The error of a pending change, 0 for none; the clock period is 6,000,000 / rate3 picoseconds. -/
def State.fcError (s : State) (v : Nat) : Nat :=
  let r := s.getPend (F.VT_DRAM_FC_RATE_RATE v)
  let vals := [F.VT_DRAM_FC_T0_CL v, F.VT_DRAM_FC_T0_CWL v, F.VT_DRAM_FC_T0_TRCD v, F.VT_DRAM_FC_T0_TRP v, F.VT_DRAM_FC_T1_TRFC4 v,
    F.VT_DRAM_FC_T1_TFAW v, F.VT_DRAM_FC_T1_TRAS v].map s.getPend
  match s.dramCfg v with
  | none => 0
  | some d =>
    if s.get (F.VT_DRAM_CFG_RATE_MAX (2 * v)) < r then 2
    else if 80 * 16 * rate3 r < d.traffic * 300 then 3
    else if (vals.zip d.minima).any fun e => e.1 * 6000000 < e.2 * rate3 r then 4
    else 0

/-- Row DRAM_FREQ_JUDGE: the start of frame S - 8 judges the pending change. -/
def opFreqJudge (v : Nat) (s : State) : State :=
  let S := s.get (F.VT_DRAM_SCHED_FNUM_S v)
  let d := ahead S s.raster.fnum
  if !s.fcPending v || (s.fc v).refused || (s.fc v).accepted.isSome || d < 1 || 8 < d then s
  else match s.fcError v with
    | 0 => s.setFc v { s.fc v with accepted := some S }
    | e => fcRefuse v e s

/-- After a write of one of the scheduled registers or of S: at or after the start of frame S - 8 the change is refused with error 1; a
new S lets it be judged again. -/
def fcWritten (v : Nat) (newS : Bool) (s : State) : State :=
  let f := s.fc v
  if f.accepted.isSome then fcRefuse v 1 s
  else
    let s := if newS then s.setFc v { f with refused := false } else s
    if s.fcPending v && ahead (s.get (F.VT_DRAM_SCHED_FNUM_S v)) s.raster.fnum ≤ 8 then fcRefuse v 1 s else s

/-- The frame from which a change of a die's rate runs: an accepted change's, or that of a re-mould (R388, R389). -/
def DramFc.dueAt (f : DramFc) : Option Nat := f.accepted <|> f.remould

/-- Row DRAM_FREQ_CHANGE: at the first REF point of the even channel at or after S with no repair due there, both channels of the die change. -/
def opFreqChange (v : Nat) (s : State) : State :=
  match (s.fc v).dueAt with
  | none => s
  | some S =>
    let repair := (s.dramCh (2 * v)).due.any fun e => 0 ≤ ahead s.raster.fnum e.2
    if !s.atPoint (2 * v) || ahead s.raster.fnum S < 0 || repair then s
    else
      let s := (s.setDramCh (2 * v) fun d => { d with rows := [] }).setDramCh (2 * v + 1) fun d => { d with rows := [] }
      if (s.fc v).accepted.isNone then s.setFc v { s.fc v with remould := none }
      else
        let s := s.each (fcAddrs v) fun a s => { s.wr a (s.pendWord a) with pend := Tab.set (fun _ => none) a none s.pend }
        fcFinal v 2 0 (s.setFc v {})

/-- Row ERR_LAST_READ (R391). -/
def opErrLastRead (c : Nat) (s : State) : State :=
  s.captureRead (F.VT_DRAM_ERR_LAST0_VALID c).addr [(F.VT_DRAM_ERR_LAST1_ROW c).addr]

end Sys2Proof.Machine
end

