-- ==== Sys2Proof/Machine/Logger.lean ====
section
/-!
DEFINITION. The error log and the Rind watchdog (chapter 20): writing and merging entries, selecting and reading them, clearing, and the
watchdog's count.
-/

namespace Sys2Proof.Machine

open Sys2Proof

/-! ### Entries (R531) -/

/-- Words 0 to 10 of an entry. -/
def logWords (e : LogEntry) : List Nat :=
  [e.seq, e.req.sev % 16 * 2 ^ 28 + e.req.die % 16 * 2 ^ 24 + e.req.code % 2 ^ 16, e.startN % 2 ^ 16 * 2 ^ 16 + e.rep % 2 ^ 16, e.req.fnum % 2 ^ 32,
   (if e.req.rasterValid then 2 ^ 31 else 0) + e.req.lpos % 2 ^ 16, e.req.sec % 2 ^ 32, e.req.ns % 2 ^ 30, e.lastFnum % 2 ^ 32,
   e.req.arg0 % 2 ^ 32, e.req.arg1 % 2 ^ 32, e.req.arg2 % 2 ^ 32]

/-- Word 11 as R531 computes it. -/
def logCrc (e : LogEntry) : Nat := crc32 ((logWords e).flatMap (leBytes 4))

/-- The twelve words of an entry as it stands. -/
def LogEntry.words (e : LogEntry) : List Nat := logWords e ++ [e.crc]

/-- The entry with its CRC rewritten. -/
def LogEntry.sealed (e : LogEntry) : LogEntry := { e with crc := logCrc e }

/-- The SEQ after one (R531). -/
def seqNext (n : Nat) : Nat := if n + 1 < 2 ^ 32 then n + 1 else 1

/-- An event merges into the newest ring entry (R532). -/
def merges (e : LogEntry) (r : LogReq) : Bool :=
  let d : Int := (toInt 32 (r.sec + 2 ^ 32 - e.req.sec % 2 ^ 32)) * 1000000000 + (r.ns : Int) - e.req.ns
  r.sev < 3 && e.req.code == r.code && e.req.die == r.die && e.req.arg0 == r.arg0 && e.req.arg1 == r.arg1 && e.req.arg2 == r.arg2
    && decide (0 ≤ d) && decide (d ≤ 1000000000)

/-- The counts that outlive a restart, shown in the registers that report them (R540, R541). -/
def showLog (s : State) : State :=
  (((s.put F.RD_ELOG_STATUS_FATAL_N s.log.fatal.length).put F.RD_ELOG_STATUS_COUNT s.log.ring.length).put F.RD_ELOG_HEAD_SEQ s.log.seq).put
    F.RD_WDT_STATUS_RESTART_N (min s.log.wdtRestarts 255)

def State.setLog (s : State) (f : Elog → Elog) : State := { s with log := f s.log }

/-- Appends to the ring, which keeps the newest 2,048 (R530). -/
def ringPush (l : List LogEntry) (e : LogEntry) : List LogEntry := (l ++ [e]).drop (l.length + 1 - 2048)

/-- A new entry in the ring, and a FATAL one in the fatal area while that has room (R530). -/
def logNew (r : LogReq) (s : State) : State :=
  let e : LogEntry := LogEntry.sealed
    { seq := seqNext s.log.seq, startN := s.log.startN % 2 ^ 16, rep := 0, lastFnum := r.fnum, req := r, crc := 0 }
  let room := decide (s.log.fatal.length < 32)
  let fatal := r.sev == 3
  let s := s.setLog fun l =>
    { l with ring := ringPush l.ring e, seq := e.seq, fatal := if fatal && room then l.fatal ++ [e] else l.fatal }
  s.when (fatal && !room) fun s => s.inc F.RD_ELOG_LOST_FATAL_LOST

/-- Adds a repeat to the newest ring entry. -/
def logMerge (old : List LogEntry) (e : LogEntry) (r : LogReq) (s : State) : State :=
  let e' := LogEntry.sealed { e with rep := min (e.rep + 1) 0xFFFF, lastFnum := r.fnum }
  s.setLog fun l => { l with ring := old ++ [e'] }

/-- LOG_EVENT (R530 to R532): the logger takes the oldest event it holds, merges it or writes it. -/
def opLogEvent (s : State) : State :=
  match s.log.queue with
  | [] => s
  | r :: t =>
    let s := s.setLog fun l => { l with queue := t }
    let s := match s.log.ring.getLast? with
      | some e => if merges e r then logMerge s.log.ring.dropLast e r s else logNew r s
      | none => logNew r s
    let s := showLog s
    if s.get F.RD_ELOG_CTRL_IRQ_SEV ≤ r.sev then s.raise F.RD_ELOG_STATUS_NEW 14 else s

/-! ### Reading the log (R536, R537) -/

/-- The entry that a selection names: of the ring by SEQ, or of the fatal area by index. -/
def State.logSelected (s : State) (fatal : Bool) (sel : Nat) : Option LogEntry :=
  if fatal then s.log.fatal[sel % 32]? else s.log.ring.find? fun e => e.seq == sel

/-- ELOG_SEL_WRITE. -/
def opElogSelWrite (val : Word) (s : State) : State := s.put F.RD_ELOG_SEL_SEL val.toNat

/-- ELOG_DATA_READ: RD_ELOG_DATA0 returns word 0 and captures words 1 to 11; all twelve read 0 for an entry that is not held. -/
def opElogDataRead (s : State) : State :=
  let ws := match s.logSelected (s.on F.RD_ELOG_CTRL_AREA) (s.get F.RD_ELOG_SEL_SEL) with
    | some e => e.words
    | none => List.replicate 12 0
  let s := s.each ws.zipIdx fun e s => s.put (F.RD_ELOG_DATA_WORD e.2) e.1
  s.reply [ws.headD 0]

/-- CLR_RING and CLR_FATAL (R537, R540). -/
def opClrRing (s : State) : State := showLog (s.setLog fun l => { l with ring := [] })
def opClrFatal (s : State) : State := showLog (s.setLog fun l => { l with fatal := [] })

/-- The check of every held entry at a start (R531). -/
def logStartCheck (s : State) : State :=
  let good := fun (e : LogEntry) => e.crc == logCrc e
  let bad := (s.log.ring.filter fun e => !good e).length + (s.log.fatal.filter fun e => !good e).length
  showLog ((s.setLog fun l => { l with ring := l.ring.filter good, fatal := l.fatal.filter good }).addSat F.RD_ELOG_LOST_CRC_N bad)

/-- Retention RAM damaged before a start: the entries, by SEQ, whose words no longer match their CRC. -/
def logDamage (bad : List Nat) (s : State) : State :=
  let hit := fun (e : LogEntry) => if bad.contains e.seq then { e with crc := (logCrc e + 1) % 2 ^ 32 } else e
  s.setLog fun l => { l with ring := l.ring.map hit, fatal := l.fatal.map hit }

/-! ### The watchdog (R539, R541) -/

/-- TIMEOUT_MS and GRACE_MS as they are taken. -/
def State.wdtTimeout (s : State) : Nat := max 100 (s.get F.RD_WDT_CTRL_TIMEOUT_MS)
def State.wdtGraceMs (s : State) : Nat := max 1 (s.get F.RD_WDT_CTRL_GRACE_MS)

/-- WATCHDOG_KICK: the count restarts, and a count that had reached its grace period goes back to the first step. -/
def opWdtKick (s : State) : State :=
  { s with sys := { s.sys with wdtGrace := false } }.put F.RD_WDT_STATUS_LEFT_MS s.wdtTimeout

/-- WATCHDOG_WARN: TIMEOUT_MS have passed without a kick. -/
def opWdtWarn (s : State) : State :=
  if s.on F.RD_WDT_CTRL_EN && !s.sys.wdtGrace then
    let s := { s with sys := { s.sys with wdtGrace := true } }
    ((s.raise F.RD_WDT_STATUS_WARN 15).logEv 1 0 0x1201 0 0).put F.RD_WDT_STATUS_LEFT_MS s.wdtGraceMs
  else s

/-- A write of RD_WDT_CTRL: ignored for EN and the two times while LOCK is 1; LOCK cannot be cleared. -/
def opWdtCtrl (val : Word) (s : State) : State :=
  if s.on F.RD_WDT_CTRL_LOCK then s else s.wr (atRD 0x650) (val &&& 0xC0FFFFFF)

end Sys2Proof.Machine
end

