-- ==== Sys2Proof/Machine/Irq.lean ====
section
/-!
DEFINITION. Interrupt messages, identification and JTAG (chapter 22).
-/

namespace Sys2Proof.Machine

open Sys2Proof

def State.setPcie (s : State) (f : Pcie → Pcie) : State := { s with pcie := f s.pcie }
def State.setJtag (s : State) (f : Jtag → Jtag) : State := { s with jtag := f s.jtag }

/-! ### Interrupts (R570 to R573) -/

/-- IRQ_CAUSE: causes 37 to 63 are reserved and never set. -/
def opIrqCause (c : Nat) (s : State) : State := if c < 37 then s.cause c else s

/-- Does a message of vector `v` wait as a PBA bit? -/
def State.msgHeld (s : State) (v : Nat) : Bool := !s.pcie.busMaster || s.pcie.funcMask || s.pcie.vecMask.testBit v

/-- The message of vector `v` goes, and the vector waits for its acknowledgement; or it is held as a PBA bit. -/
def message (v : Nat) (s : State) : State :=
  if s.msgHeld v then s.setPcie fun x => { x with pba := setBit x.pba v }
  else
    let e := Tab.get (fun _ => (0, 0)) s.pcie.table v
    (s.send (.msix v e.1 e.2)).setPcie fun x => { x with pba := clearBit x.pba v, waitAck := setBit x.waitAck v }

/-- MSIX_SEND: the message due for vector `v`. While MSI-X is not enabled it stays due. -/
def opMsixSend (v : Nat) (s : State) : State :=
  if s.pcie.msixEnable && s.pcie.due.testBit v then message v (s.setPcie fun x => { x with due := clearBit x.due v }) else s

/-- MSIX_UNMASK: the host's configuration as it stands after its write, with the table entries it wrote; the messages held as PBA bits
that nothing holds any longer go. -/
def opMsixUnmask (bm en fmask : Bool) (vecMask : Nat) (entries : List (Nat × Nat × Nat)) (s : State) : State :=
  if !s.pcie.ready then s
  else
    let table := entries.foldl (fun t e => Tab.set (fun _ => (0, 0)) e.1 e.2 t) s.pcie.table
    let s := s.setPcie fun x =>
      { x with busMaster := bm, msixEnable := en, funcMask := fmask, vecMask := vecMask % 2 ^ 32, table := table }
    if en then s.each (bitsOf 32 s.pcie.pba) fun v s => if s.msgHeld v then s else message v s else s

/-- IRQ_ACK: the vector may send again, and does at once while it is still active. -/
def opIrqAck (v : Nat) (s : State) : State :=
  if s.pcie.waitAck.testBit v then
    let s := s.setPcie fun x => { x with waitAck := clearBit x.waitAck v }
    if !s.irqVectors.testBit v then s
    else if s.pcie.msixEnable then message v s
    else s.setPcie fun x => { x with due := setBit x.due v }
  else s

/-- IRQ_CONFIG_WRITE: a write of RD_IRQ_EN0, RD_IRQ_EN1 or an RD_IRQ_MAP register. -/
def irqConfig (a : Nat) : Bool := a == 0x708 || a == 0x70C || (0x720 ≤ a && a ≤ 0x744 && a % 4 == 0)
def opIrqConfig (a : Nat) (val : Word) (s : State) : State := if irqConfig a then s.wr a val else s

/-! ### Identification (R576, R579, R580) -/

/-- The JTAG identity. -/
def idcode : Nat := Config.step.toNat % 16 * 2 ^ 28 + 0x4738 * 2 ^ 12 + 0x2D3 * 2 + 1

/-- The identification registers, which the fuses and the ROM hold. -/
def idWord (a : Nat) : Option Word :=
  if a = 4 then some (BitVec.ofNat 32 (Config.step.toNat * 2 ^ 24 + Config.starter.toNat))
  else if a = 8 then some (BitVec.ofNat 32 (partUid % 2 ^ 32))
  else if a = 0xC then some (BitVec.ofNat 32 (partUid / 2 ^ 32))
  else if a = 0x10 then some (BitVec.ofNat 32 idcode)
  else none

/-- UID_READ. -/
def opUidRead (s : State) : State :=
  let s := { s with acc := { s.acc with captured := Tab.set (fun _ => none) 0xC (idWord 0xC) s.acc.captured } }
  s.reply [partUid % 2 ^ 32]

/-! ### JTAG (R536, R576, R577) -/

/-- Do the links and lamps of a part that drives a running chain follow the boundary cells (R583)? -/
def State.cellsDrive (s : State) : Bool := s.jtag.driving && s.portsInUse.any fun p => s.linked p

/-- EXTEST: the cells shifted in drive the balls; `seen` is what the scan captured. On a part that drives a running chain its links and lamps, apart
from R577, follow the cells as well (R583). -/
def opExtest (cells : List Bool) (seen : Nat) (s : State) : State :=
  (s.setJtag fun j => { j with ir := 0, cells := cells, driving := true }).send (.tdo seen)

/-- SAMPLE/PRELOAD: the same scan, and the balls stay with the part. -/
def opSample (cells : List Bool) (seen : Nat) (s : State) : State :=
  (s.setJtag fun j => { j with ir := 2, cells := cells, driving := false }).send (.tdo seen)

/-- The Press outputs' boundary cells drive the dark levels while SAFE_DARK is asserted, in every mode (R577). -/
def State.pressCellsDark (s : State) : Bool := s.sys.safeDark

/-- IDCODE. -/
def opIdcode (s : State) : State := (s.setJtag fun j => { j with ir := 1, driving := false }).send (.tdo idcode)

/-- ELOG_SEL: 33 bits. -/
def opJtagSel (sel : Nat) (s : State) : State :=
  s.setJtag fun j => { j with ir := 0x10, elogSel := sel % 2 ^ 33, driving := false }

/-- The number that words spell, the first least significant. -/
def ofWords : List Nat → Nat
  | [] => 0
  | w :: t => w % 2 ^ 32 + 2 ^ 32 * ofWords t

/-- ELOG_DATA: the entry as it stands, with bit 384 set when it is held. -/
def opJtagData (s : State) : State :=
  let e := s.logSelected (s.jtag.elogSel.testBit 32) (s.jtag.elogSel % 2 ^ 32)
  let bits := match e with | some e => ofWords e.words + 2 ^ 384 | none => 0
  (s.setJtag fun j => { j with ir := 0x11, driving := false }).send (.tdo bits)

/-- BYPASS: the code 0xFF or one that names no other instruction; its bit captures 0 (IEEE 1149.1). -/
def bypassCode (c : Nat) : Bool := !([0x00, 0x01, 0x02, 0x10, 0x11, 0x20].contains (c % 256))
def opBypass (c : Nat) (s : State) : State :=
  if bypassCode c then (s.setJtag fun j => { j with ir := c % 256, driving := false }).send (.tdo 0) else s

/-- Is DBG_ACCESS open (R520)? -/
def State.debugOpen (s : State) : Bool := !s.nv.debugLocked || s.on F.RD_SEC_STATUS_UNLOCKED

end Sys2Proof.Machine
end

