-- ==== Sys2Proof/Machine/Crc.lean ====
section
/-!
DEFINITION. The check-value units (chapter 18): the arithmetic of R489, the queue of R491, results and their readiness.
-/

namespace Sys2Proof.Machine

open Sys2Proof

/-! ### The arithmetic of R489 -/

/-- The low `w` bits of `v` in reverse order. -/
def bitRev : Nat → Nat → Nat
  | 0, _ => 0
  | w + 1, v => (v % 2) * 2 ^ w + bitRev w (v / 2)

/-- One bit step: `b` is the next message bit. -/
def crcBit (w poly s : Nat) (b : Bool) : Nat :=
  let t := 2 * s % 2 ^ w
  if s.testBit (w - 1) != b then t ^^^ (poly % 2 ^ w) else t

/-- The `n` bits of a byte, most significant first. -/
def crcBits : Nat → Nat → Nat → Nat → Nat → Nat
  | 0, _, _, _, s => s
  | n + 1, w, poly, b, s => crcBits n w poly b (crcBit w poly s (b.testBit n))

/-- Feeds a byte. -/
def crcByte (w poly : Nat) (refin : Bool) (s b : Nat) : Nat :=
  crcBits 8 w poly (if refin then bitRev 8 b else b % 256) s

/-- The result R of a running value. -/
def crcResult (w xorout : Nat) (refout : Bool) (s : Nat) : Nat :=
  ((if refout then bitRev w s else s) ^^^ xorout) % 2 ^ w

/-! ### A unit -/

def State.crcq (s : State) (u : Nat) : List CrcWrite := Tab.get (fun _ => []) s.crcs u

/-- The 64-bit value of the register pair whose _LO half sits at offset `off` of unit `u`. -/
def State.crcPair (s : State) (u off : Nat) : Nat :=
  (s.rd (atCRC u off)).toNat + (s.rd (atCRC u (off + 4))).toNat * 2 ^ 32

/-- Writes a pair. -/
def setCrcPair (u off v : Nat) (s : State) : State :=
  (s.wr (atCRC u off) (BitVec.ofNat 32 v)).wr (atCRC u (off + 4)) (BitVec.ofNat 32 (v / 2 ^ 32))

/-- W of a unit. -/
def State.crcW (s : State) (u : Nat) : Nat := s.get (F.RD_CRC_CFG_WIDTH_M1 u) + 1

/-- Feeds bytes to a unit and counts them (R489, R492). -/
def crcFeed (u : Nat) (bytes : List Nat) (s : State) : State :=
  let v := bytes.foldl (crcByte (s.crcW u) (s.crcPair u 0x8) (s.on (F.RD_CRC_CFG_REFIN u))) (s.crcPair u 0x20)
  (setCrcPair u 0x20 v s).put (F.RD_CRC_BYTES_BYTES u) (s.get (F.RD_CRC_BYTES_BYTES u) + bytes.length)

/-- Processes one queued write. -/
def crcProcess (u : Nat) (q : CrcWrite) (s : State) : State :=
  if q.off = 0 then
    let s := s.wr (atCRC u 0) (BitVec.ofNat 32 q.val)
    setCrcPair u 0x20 (s.crcPair u 0x20 % 2 ^ s.crcW u) s
  else if q.off = 4 then
    if q.val.testBit 0 then (setCrcPair u 0x20 (s.crcPair u 0x10 % 2 ^ s.crcW u) s).put (F.RD_CRC_BYTES_BYTES u) 0 else s
  else if q.off = 0x20 then setCrcPair u 0x20 (q.val % 2 ^ s.crcW u) s
  else if q.off = 0x28 then crcFeed u (leBytes 1 q.val) s
  else if q.off = 0x2C then crcFeed u (leBytes 2 q.val) s
  else if q.off = 0x30 then crcFeed u (leBytes 4 q.val) s
  else setCrcPair u q.off q.val s

/-- R of the bytes processed so far, in the result registers. -/
def crcShow (u : Nat) (s : State) : State :=
  setCrcPair u 0x38 (crcResult (s.crcW u) (s.crcPair u 0x18) (s.on (F.RD_CRC_CFG_REFOUT u)) (s.crcPair u 0x20)) s

/-- A write joins the queue (R491, R493). -/
def crcEnqueue (u : Nat) (q : CrcWrite) (s : State) : State :=
  let l := s.crcq u ++ [q]
  let s := { s with crcs := Tab.set (fun _ => []) u l s.crcs }
  (s.put (F.RD_CRC_RESULT_INFO_VALID u) 0).put (F.RD_CRC_RESULT_INFO_PENDING u) (min 16 l.length)

/-- The queue runs empty: every write is processed in order of arrival, and the result is complete (R493). -/
def crcDrain (u : Nat) (s : State) : State :=
  match s.crcq u with
  | [] => s
  | l =>
    let s := crcShow u (s.each l (crcProcess u))
    let s := { s with crcs := Tab.set (fun _ => []) u [] s.crcs }
    ((s.put (F.RD_CRC_RESULT_INFO_PENDING u) 0).put (F.RD_CRC_RESULT_INFO_VALID u) 1).bump (F.RD_CRC_RESULT_INFO_SEQ u)

/-! ### Rows -/

/-- Row CRC_START. -/
def opCrcStart (u : Nat) (s : State) : State := if 3 < u then s else crcEnqueue u ⟨4, 1⟩ s

/-- Row CRC_DATA (R492). -/
def opCrcData (u size : Nat) (val : Word) (s : State) : State :=
  if 3 < u || 2 < size then s else crcEnqueue u ⟨0x28 + 4 * size, val.toNat⟩ s

/-- Row CRC_CONFIG_WRITE: RD_CRC_CFG enters the queue at once; the _LO half of a pair is held until the _HI half is written (R495). -/
def opCrcConfig (u off : Nat) (val : Word) (s : State) : State :=
  let a := atCRC u off
  if 3 < u then s
  else if off = 0 then crcEnqueue u ⟨0, val.toNat⟩ s
  else if [0x8, 0x10, 0x18, 0x20].contains off then
    { s with acc := { s.acc with lowHeld := Tab.set (fun _ => none) a (some val) s.acc.lowHeld } }
  else if [0xC, 0x14, 0x1C, 0x24].contains off then
    let lo := (Tab.get (fun _ => none) s.acc.lowHeld (a - 4)).getD (s.rd (a - 4))
    let s := { s with acc := { s.acc with lowHeld := Tab.set (fun _ => none) (a - 4) none s.acc.lowHeld } }
    crcEnqueue u ⟨off - 4, lo.toNat + val.toNat * 2 ^ 32⟩ s
  else s

/-- Row CRC_RESULT_COMPLETE. -/
def opCrcComplete (u : Nat) (s : State) : State := if 3 < u then s else crcDrain u s

/-- Row CRC_STATE_READ (R494): every earlier write is processed first. -/
def opCrcStateRead (u : Nat) (s : State) : State :=
  if 3 < u then s else (crcDrain u s).captureRead (atCRC u 0x20) [atCRC u 0x24]

/-- Row CRC_RESULT_INFO_READ: captures the result pair. -/
def opCrcInfoRead (u : Nat) (s : State) : State :=
  if 3 < u then s else s.captureRead (atCRC u 0x34) [atCRC u 0x38, atCRC u 0x3C]

end Sys2Proof.Machine
end

