-- ==== Sys2Proof/Machine/Press.lean ====
section
/-!
DEFINITION. The Press: the slot schedule, the row uploads and runs, read-back, lamp tests and probes, stuck pins and the output CRCs
(chapter 12).
-/

namespace Sys2Proof.Machine

open Sys2Proof

/-! ### The slot schedule (R340 to R343) -/

/-- A slot schedule. -/
structure Sched where
  win : List Nat
  fine : Nat
  slot : Nat
  lead : Nat
  rowaDly : Nat
  blank : Nat
  div : Nat
  deriving DecidableEq, Repr

/-- The host's schedule as the words `rd` hold it. -/
def hostSched (rd : Nat → Word) : Sched :=
  let g := fun (f : Fld) => f.of (rd f.addr)
  { win := (List.range 4).map fun k => g (F.PR_SLOT_WIN_WSTART k), fine := g F.PR_SLOT_ROW_FINE, slot := g F.PR_SLOT_ROW_ROW_SLOT,
    lead := g F.PR_SLOT_LEAD_LEAD, rowaDly := g F.PR_SLOT_BLANK_ROWA_DLY, blank := g F.PR_SLOT_BLANK_BLANK, div := g F.PR_SLOT_CTRL_DIV }

/-- The mould's schedule (R359). -/
def State.mouldSched (s : State) : Sched where
  win := (List.range 4).map fun k => s.get (F.PR_SLOT_MOULD_WIN_WSTART k)
  fine := s.get F.PR_SLOT_MOULD_ROW_FINE
  slot := s.get F.PR_SLOT_MOULD_ROW_ROW_SLOT
  lead := s.get F.PR_SLOT_MOULD_LEAD_LEAD
  rowaDly := s.get F.PR_SLOT_MOULD_BLANK_ROWA_DLY
  blank := s.get F.PR_SLOT_MOULD_BLANK_BLANK
  div := s.get F.PR_SLOT_MOULD_CTRL_DIV

/-- The schedule in force. -/
def State.sched (s : State) : Sched := if s.on F.PR_SLOT_CTRL_HOST then hostSched s.rd else s.mouldSched

/-- MUX and D: the largest of the ports in use. -/
def State.pressMux (s : State) : Nat := (s.pressPorts.map fun q => s.get (F.PR_PORT_GEOM_MUX q)).foldl max 0
def State.pressD (s : State) : Nat := (s.pressPorts.map fun q => s.get (F.PR_PORT_GEOM_DRIVERS q)).foldl max 0

/-- Start of row slot `r` of window `k`; slot MUX is the window's end. -/
def Sched.slotAt (c : Sched) (k r : Nat) : Nat := c.win.getD k 0 + c.lead + r * c.slot

/-- F_MIN of a rate (R342). -/
def frameMin (num den : Nat) : Nat := 400000000 * den / num

/-- The conditions of R342; times in picoseconds, t_D = 4000 DIV. -/
def slotFits (c : Sched) (phases mux d fmin : Nat) : Bool :=
  ((List.range phases).all fun k =>
      (k == 0 || c.win.getD (k - 1) 0 < c.win.getD k 0) &&
      c.slotAt k mux ≤ (if k + 1 < phases then c.win.getD (k + 1) 0 else fmin)) &&
    c.rowaDly < c.blank && c.blank < c.slot &&
    (15 + 288 * d) * (4000 * c.div) ≤ c.lead * 2500 &&
    (3 + 272 * d) * (4000 * c.div) ≤ c.slot * 2500 &&
    1 ≤ c.fine && 4 ≤ c.div

/-- Does a commit that leaves the words `rd` break R342? Only a schedule that is to be used is checked, and one with ROW_SLOT 0 emits nothing and is accepted. -/
def State.slotRefuse (s : State) (rd : Nat → Word) : Bool :=
  F.PR_SLOT_CTRL_HOST.of (rd F.PR_SLOT_CTRL_HOST.addr) == 1 && (hostSched rd).slot != 0 &&
    !slotFits (hostSched rd) s.phases s.pressMux s.pressD (frameMin s.raster.num s.raster.den)

/-- The end of the last window in force. -/
def State.lastWindowEnd (s : State) : Nat := s.sched.slotAt (s.phases - 1) s.pressMux

/-- Does a last window of the schedule in force end beyond the shortest frame (R343)? -/
def State.slotsPast (s : State) : Bool := s.sched.slot != 0 && frameMin s.raster.num s.raster.den < s.lastWindowEnd

/-- The Press's share of a frame start: a last window beyond the shortest frame sets SLOT_TRUNC (R343); the output CRCs of the frame that
starts begin afresh (R348). -/
def pressFrame (s : State) : State :=
  let past := s.drives && s.raster.running && s.slotsPast
  let s := { s with press := { s.press with crc := [] } }
  (if past then s.flag F.PR_SLOT_STATUS_SLOT_TRUNC else s)

/-! ### Row uploads (R337 to R339, R347, R348) -/

/-- A word for every driver of every data line of a port (R336). -/
def State.sameWord (s : State) (q w : Nat) : List (List Nat) :=
  List.replicate (s.get (F.PR_PORT_GEOM_LINES q)) (List.replicate (s.get (F.PR_PORT_GEOM_DRIVERS q)) w)

/-- The commands of a row upload (R337, R338): sixteen write groups, the word of the farthest driver first, each ended by WRITE, and one flush. -/
def State.rowCmds (s : State) (q : Nat) (counts : Tab Nat) : List Out :=
  let d := s.get (F.PR_PORT_GEOM_DRIVERS q)
  ((List.range 16).map fun g =>
    let ch := if s.on (F.PR_PORT_GEOM_CH_ORDER q) then 15 - g else g
    .pressCmd q 1 ((List.range (s.get (F.PR_PORT_GEOM_LINES q))).map fun l =>
      (List.range d).map fun i => Tab.get (fun _ => 0) counts (512 * l + 16 * (d - 1 - i) + ch))) ++ [.pressCmd q 0 (s.sameWord q 0)]

/-- The words of a row in the order of R348: write group, data line, then driver D - 1 first. -/
def State.rowWords (s : State) (q : Nat) (counts : Tab Nat) : List Nat :=
  let d := s.get (F.PR_PORT_GEOM_DRIVERS q)
  (List.range 16).flatMap fun g =>
    (List.range (s.get (F.PR_PORT_GEOM_LINES q))).flatMap fun l =>
      (List.range d).map fun i =>
        let ch := if s.on (F.PR_PORT_GEOM_CH_ORDER q) then 15 - g else g
        Tab.get (fun _ => 0) counts (512 * l + 16 * (d - 1 - i) + ch)

/-- Sets bits of a W1C field, a source of cause `c` when one of them was clear. -/
def State.raiseBits (s : State) (f : Fld) (m c : Nat) : State :=
  let old := s.get f
  let s := s.put f (old ||| m)
  if (old ||| m) = old then s else s.cause c

/-- A late row (R339). -/
def rowLate (q : Nat) (s : State) : State :=
  ((s.raise F.PR_SLOT_STATUS_ROW_LATE 31).flag (F.PR_PORT_STATUS_ROW_LATE q)).inc (F.PR_PORT_COUNT_ROW_LATE_N q)

/-- Uploads a row on one port; no counts come over a failed link from V0. `rb` lists read-back words that differ from what was sent, by their place in the order of R348, and the value received. -/
def uploadRow (k row : Nat) (rb : List (Nat × Nat × Nat)) (q : Nat) (s : State) : State :=
  if s.get (F.PR_PORT_GEOM_MUX q) ≤ row then s
  else
    let arrived := if s.links.failed.contains 15 then none else Tab.get (fun _ => none) s.tp.counts (countKey k row q)
    let s := if arrived.isSome then s else rowLate q s
    let counts := arrived.getD []
    let sent := s.rowWords q counts
    let per := max (s.get (F.PR_PORT_GEOM_DRIVERS q)) 1
    let lines := max (s.get (F.PR_PORT_GEOM_LINES q)) 1
    let bad := rb.filter fun e => e.1 == q && e.2.1 < sent.length && sent.getD e.2.1 0 != e.2.2 % 65536
    let got := (List.range sent.length).map fun i =>
      match bad.find? (·.2.1 == i) with | some e => e.2.2 % 65536 | none => sent.getD i 0
    let run := crc32Run ((Tab.get (fun _ => none) s.press.crc q).getD 0xFFFFFFFF) (got.flatMap (leBytes 2))
    let s := s.each (s.rowCmds q counts) fun o s => s.send o
    let s := { s with press := { s.press with
      crc := Tab.set (fun _ => none) q (some run) s.press.crc,
      sram := Tab.set (fun _ => []) (32 * q + row) counts s.press.sram,
      discard := if bad.isEmpty then s.press.discard else s.press.discard ++ [32 * q + row] } }
    if bad.isEmpty then s
    else (s.raiseBits (F.PR_PORT_STATUS_CHAIN_ERR q) (maskOfBits (bad.map fun e => e.2.1 / per % lines)) 32).inc
      (F.PR_PORT_COUNT_CHAIN_ERR_N q)

/-- Row WINDOW_LEAD: at the lead of window `k`, CONFIG with GAIN, WINDOW and row 0 on every port; a port emits in the window unless a
cause holds it dark (R338, R346, R355). -/
def opWindowLead (k : Nat) (rb : List (Nat × Nat × Nat)) (s : State) : State :=
  if !s.drives || s.phases ≤ k then s
  else
    let s := reachTick (s.sched.win.getD k 0) s
    let s := { s with press := { s.press with lit := maskOfBits s.pressPorts, discard := [], sram := [], gapUsed := 0 } }
    let s := pressDark s
    s.each s.pressPorts fun q s =>
      uploadRow k 0 rb q ((s.send (.pressCmd q 11 (s.sameWord q (s.get (F.PR_PORT_GAIN_GAIN q))))).send (.pressCmd q 5 []))

/-- Does the run of the profile fit its slot (R345)? In grid steps of 78.125 ps, 32 to a tick. -/
def State.runFits (s : State) (c : Sched) : Bool := 32 * c.blank + s.tp.prev.uMax * c.fine ≤ 32 * c.slot

/-- The pulses of grades (weight, number) that begin within `room` grid steps: number, period and high time of each grade (R344, R345). -/
def gclkPulses (fine : Nat) : Nat → List (Nat × Nat) → List (Nat × Nat × Nat)
  | _, [] => []
  | room, (w, n) :: t =>
    let k := min n (ceilDiv room (max (w * fine) 1))
    if k = 0 then gclkPulses fine room t
    else (k, w * fine, max (w * fine / 2) 1) :: gclkPulses fine (room - n * (w * fine)) t

/-- The GCLK pulses of a run, grade 0 first: all of the profile's, or those that begin before the slot ends. -/
def State.runPulses (s : State) (c : Sched) : List (Nat × Nat × Nat) :=
  let g := s.tp.prev.grades.reverse.map fun e => (e.1, e.2.2.2)
  gclkPulses c.fine (if s.runFits c then s.tp.prev.uMax * c.fine else 32 * (c.slot - c.blank)) g

/-- Row ROW_SLOT_START: row slot `row` of window `k`: NEXT_ROW, the upload of the next row, and the run of this one. A slot that would end after
the frame is not started (R343). -/
def opRowSlotStart (k row : Nat) (rb : List (Nat × Nat × Nat)) (s : State) : State :=
  let c := s.sched
  if !s.drives || s.phases ≤ k || s.pressMux ≤ row || c.slot == 0 || s.frameTicks < (c.slotAt k (row + 1) : Nat) then s
  else
    let s := reachTick (c.slotAt k row) s
    let s := if row = 0 then s else s.each s.pressPorts fun q s => s.send (.pressCmd q 3 [])
    let s := if row + 1 < s.pressMux then s.each s.pressPorts (uploadRow k (row + 1) rb) else s
    let s := { s with press := { s.press with rowa := s.pressPorts.foldl (fun t q => Tab.set (fun _ => 0) q row t) s.press.rowa } }
    s.each (s.pressPorts.filter fun q => s.press.lit.testBit q && row < s.get (F.PR_PORT_GEOM_MUX q)) fun q s =>
      s.send (.pressRun q row (s.on (F.PR_PORT_GEOM_ROWEN_POL q)) (s.runPulses c) (!s.runFits c))

/-! ### Lamp diagnosis (R350 to R354) -/

/-- Is the frame a test frame, or a probe frame? 0 is taken as 1. -/
def State.testFrame (s : State) : Bool :=
  s.on F.PR_DIAG_CTRL_EN && s.raster.fnum % max (s.get F.PR_DIAG_CTRL_EVERY) 1 == 0
def State.probeFrame (s : State) : Bool :=
  s.on F.PR_DIAG_PROBE_PROBE_EN && s.raster.fnum % max (s.get F.PR_DIAG_PROBE_PROBE_EVERY) 1 == 0

/-- Does the test of a row on a port end before its slot (R350)? Picoseconds from the start of the slot; the test starts on the first DCLK edge
after the upload and the run. -/
def State.testFits (s : State) (c : Sched) (q row : Nat) : Bool :=
  let d := s.get (F.PR_PORT_GEOM_DRIVERS q)
  let td := 4000 * max c.div 1
  let upload := ((if row = 0 then 0 else 3) + (if row + 1 < s.pressMux then 272 * d else 0)) * td
  let run := c.blank * 2500 + ceilDiv (s.tp.prev.uMax * c.fine * 625) 8
  s.runFits c && ceilDiv (max upload run) td * td + (32 * d + 16) * td < c.slot * 2500

/-- The flag of a channel position in what came back on a port's lines, (port, line, words in the order of arrival): the farthest driver's word comes
first (R350). -/
def flagAt (d : Nat) (l : List (Nat × Nat × List Nat)) (q pos : Nat) : Bool :=
  l.any fun e => e.1 == q && e.2.1 == pos / 512 && (e.2.2.getD (d - 1 - pos % 512 / 16) 0).testBit (pos % 16)

/-- Outcome of a lamp's test: 0 pass, 1 open, 2 short (R351). -/
def State.testOutcome (s : State) (opens shorts : List (Nat × Nat × List Nat)) (q pos : Nat) : Nat :=
  let d := s.get (F.PR_PORT_GEOM_DRIVERS q)
  if flagAt d shorts q pos then 2 else if flagAt d opens q pos then 1 else 0

/-- CAP_OPEN and CAP_SHORT on a port, each with its shift (R350). -/
def capture (q : Nat) (s : State) : State :=
  s.each [.pressCmd q 7 [], .pressCmd q 0 (s.sameWord q 0), .pressCmd q 9 [], .pressCmd q 0 (s.sameWord q 0)] fun o s => s.send o

/-- The status a lamp will have at the next frame start by the diagnosis. -/
def State.diagStatus (s : State) (i : Nat) : Nat :=
  match s.tp.diag.reverse.find? (·.1 == i) with | some e => e.2 | none => s.lampStatus i

/-- A lamp is tested (R351): its status and its run of faults move. -/
def judgeLamp (i outcome : Nat) (s : State) : State :=
  let before := s.diagStatus i
  let now := s.tp.frames
  if 4 ≤ before then s
  else
    let r := s.lampRec i
    let (r, code) : LampRec × Nat :=
      if outcome = 0 then ({ mark := now }, 0)
      else
        let run := r.consec + 1
        let r : LampRec := { consec := min run 7, openSeen := r.openSeen || outcome == 1,
                             shortSeen := r.shortSeen || outcome == 2, mark := now }
        (r, if 8 ≤ run then (if !r.shortSeen then 4 else if !r.openSeen then 5 else 6) else if outcome = 1 then 2 else 3)
    let s := s.setRec i fun _ => r
    let s := if 4 ≤ code then s.inc F.PR_DIAG_COUNT2_NEW_PERM else s
    if code = before then s else { s with tp := { s.tp with diag := s.tp.diag ++ [(i, code)] } }

/-- Row LAMP_TEST: after the run of row `row` of window `k` in a test frame. `opens` and `shorts` are the words that the two shifts bring back on each
port and data line. -/
def opLampTest (k row : Nat) (opens shorts : List (Nat × Nat × List Nat)) (s : State) : State :=
  let c := s.sched
  if !s.drives || !s.testFrame || k != s.get F.PR_DIAG_CTRL_PHASE || s.phases ≤ k || s.pressMux ≤ row || c.slot == 0 then s
  else
    let mine := s.pressPorts.filter fun q => row < s.get (F.PR_PORT_GEOM_MUX q) && s.press.lit.testBit q
    let fit := mine.filter fun q => s.testFits c q row
    let s := if fit.length < mine.length then s.inc F.PR_DIAG_COUNT2_DIAG_SKIP else s
    let s := s.each fit capture
    let fit := fit.filter fun q => !s.press.discard.contains (32 * q + row)
    let s := s.each (s.lampsOn row) fun e s =>
      let q := lmPort e.2
      let cnt := Tab.get (fun _ => 0) (Tab.get (fun _ => []) s.press.sram (32 * q + row)) (lmPos e.2)
      if fit.contains q && 160000000 ≤ onTime s.tp.prev cnt * c.fine * 78125 then
        judgeLamp e.1 (s.testOutcome opens shorts q (lmPos e.2)) s
      else s
    if row + 1 = s.pressMux && !mine.isEmpty then s.inc F.PR_DIAG_COUNT_TESTS else s

/-- Is a lamp eligible for a probe (R354)? -/
def State.probeable (s : State) (e : Nat × Nat) : Bool :=
  s.diagStatus e.1 < 4 && s.lampStatus e.1 < 4 && s.get F.PR_DIAG_PROBE_PROBE_AGE ≤ s.lampAge e.1

/-- The next row to probe: rising from the last one probed, skipping rows without an eligible lamp. -/
def State.probeRow (s : State) : Option Nat :=
  let m := s.pressMux
  let first := match s.press.probed with | some r => r + 1 | none => 0
  ((List.range m).map fun i => (first + i) % m).find? fun r => (s.lampsOn r).any s.probeable

/-- Pulses of a probe (R354): T0 is 1250 FINE picoseconds. -/
def State.probePulses (s : State) (c : Sched) : Nat :=
  ceilDiv (max (s.get F.PR_DIAG_PROBE_PROBE_NS) 160 * 1000) (1250 * max c.fine 1)

/-- Ticks of a row probe. -/
def State.probeTicks (s : State) (c : Sched) : Nat :=
  ceilDiv ((336 * s.pressD + 48) * (4000 * c.div) + c.blank * 2500 + (s.probePulses c + 1) * (1250 * c.fine)) 2500

/-- Ticks of the dark gap after window `k`. -/
def State.gapAfter (s : State) (c : Sched) (k : Nat) : Int :=
  (if k + 1 < s.phases then ((c.win.getD (k + 1) 0 : Nat) : Int) else s.frameTicks) - (c.slotAt k s.pressMux : Nat)

/-- Row ROW_PROBE: one row probe in the gap after window `k`, if it fits and a row has an eligible lamp. -/
def opRowProbe (k : Nat) (opens shorts : List (Nat × Nat × List Nat)) (s : State) : State :=
  let c := s.sched
  let need := s.probeTicks c
  if !s.drives || !s.probeFrame || s.phases ≤ k || c.slot == 0 || s.press.lit == 0 || s.gapAfter c k < ((s.press.gapUsed + need : Nat) : Int)
  then s
  else match s.probeRow with
    | none => s
    | some row =>
      let lamps := (s.lampsOn row).filter fun e => s.probeable e && s.press.lit.testBit (lmPort e.2)
      let pc := s.probePulses c
      let s := reachTick (c.slotAt k s.pressMux + s.press.gapUsed) s
      let s := s.each (s.pressPorts.filter fun q => s.press.lit.testBit q) fun q s =>
        let mine := (lamps.filter fun e => lmPort e.2 == q).foldl (fun t e => Tab.set (fun _ => 0) (lmPos e.2) pc t) ([] : Tab Nat)
        let s := s.each (.pressCmd q 13 (s.sameWord q row) :: ((s.rowCmds q mine).take 16 ++ [.pressCmd q 11 (s.sameWord q 0)])) fun o s => s.send o
        let s := s.send (.pressRun q row (s.on (F.PR_PORT_GEOM_ROWEN_POL q)) [(pc, 16 * c.fine, max (8 * c.fine) 1)] false)
        let s := (capture q s).send (.pressCmd q 11 (s.sameWord q (s.get (F.PR_PORT_GAIN_GAIN q))))
        { s with press := { s.press with
            sram := Tab.set (fun _ => []) (32 * q + row) mine s.press.sram, rowa := Tab.set (fun _ => 0) q row s.press.rowa } }
      let s := s.each lamps fun e s => judgeLamp e.1 (s.testOutcome opens shorts (lmPort e.2) (lmPos e.2)) s
      { s.inc F.PR_DIAG_COUNT_PROBE_ROWS with press := { s.press with probed := some row, gapUsed := s.press.gapUsed + need } }

/-! ### Pads (R349), dark (R355) and the output CRC (R348, R362) -/

/-- Row PIN_READBACK_CHECK: `groups` are the signal groups of port `q` but GCLK of which a sample differed in this frame; `gclk` are the rising edges
counted at the GCLK pad in each of its row runs, which should be 65,536. -/
def opPinReadback (q groups : Nat) (gclk : List Nat) (s : State) : State :=
  let groups := if gclk.any (· != 65536) then setBit (groups % 64) 3 else clearBit (groups % 64) 3
  let s := s.put (F.PR_PORT_STATUS_PIN_ERR q) (s.get (F.PR_PORT_STATUS_PIN_ERR q) ||| groups)
  let n := fun (s : State) g => Tab.get (fun _ => 0) s.press.differ (8 * q + g)
  let s := s.each (List.range 6) fun g s =>
    let v := if groups.testBit g then n s g + 1 else 0
    { s with press := { s.press with differ := Tab.set (fun _ => 0) (8 * q + g) v s.press.differ } }
  if (List.range 6).any (fun g => 16 ≤ n s g) && !s.on (F.PR_PORT_STATUS_PIN_STUCK q) then
    pressDark ((s.raise (F.PR_PORT_STATUS_PIN_STUCK q) 33).logEv 2 7 0x0B02 q (s.get (F.PR_PORT_STATUS_PIN_ERR q)))
  else s

/-- Row PIN_STUCK_CLEAR: the port resumes at the next window start and is judged afresh. -/
def opPinStuckClear (q : Nat) (s : State) : State :=
  let s := s.put (F.PR_PORT_STATUS_PIN_STUCK q) 0
  s.each (List.range 6) fun g s => { s with press := { s.press with differ := Tab.set (fun _ => 0) (8 * q + g) 0 s.press.differ } }

/-- Row OUTPUT_CRC_COMPLETE: the output CRC of port `q` for the picture being emitted is held. -/
def opOutputCrcComplete (q : Nat) (s : State) : State :=
  match Tab.get (fun _ => none) s.press.crc q with
  | none => s
  | some r =>
    let s := { s with press := { s.press with crc := Tab.set (fun _ => none) q none s.press.crc } }
    let s := (s.put (F.PR_PORT_OCRC_CRC q) (r ^^^ 0xFFFFFFFF)).put (F.PR_PORT_OCRC_INFO_VALID q) 1
    (s.put (F.PR_PORT_OCRC_INFO_FNUM q) s.picFrame).bump (F.PR_PORT_OCRC_INFO_SEQ q)

/-- Row OCRC_INFO_READ (R362). -/
def opOcrcInfoRead (q : Nat) (s : State) : State :=
  s.captureRead (F.PR_PORT_OCRC_INFO_VALID q).addr [(F.PR_PORT_OCRC_CRC q).addr]

end Sys2Proof.Machine
end

