-- ==== Sys2Proof/Machine/Thermal.lean ====
section
/-!
DEFINITION. Temperature sensing, the die throttle, the lamp current ceiling and the hardware trip (chapter 17, with R311).
-/

namespace Sys2Proof.Machine

open Sys2Proof

/-! ### On-die sensors (R469 to R471, R474 to R476) -/

/-- Sensors of a die (R469). -/
def sensorCount (d : Nat) : Nat := if d = 0 then 4 else if d ≤ 4 then 8 else if d ≤ 6 then 14 else 6

def State.sensor (s : State) (d i : Nat) : Sensor := Tab.get (fun _ => {}) s.sensors (16 * d + i)
def State.setSensor (s : State) (d i : Nat) (f : Sensor → Sensor) : State :=
  { s with sensors := Tab.set (fun _ => {}) (16 * d + i) (f (s.sensor d i)) s.sensors }

/-- Puts a number into a rising list. -/
def insInt (v : Int) : List Int → List Int
  | [] => [v]
  | x :: t => if v ≤ x then v :: x :: t else x :: insInt v t

/-- The median; over an even number of readings the lower of the two middle ones (R311, R471). -/
def median (l : List Int) : Option Int :=
  let r := l.foldl (fun t v => insInt v t) []
  if r.isEmpty then none else r[(r.length - 1) / 2]?

/-- Readings of the non-faulty sensors of a die, but for `skip`. -/
def State.goodReadings (s : State) (d skip : Nat) : List Int :=
  ((List.range (sensorCount d)).filter fun i => i != skip && !(s.sensor d i).faulty).filterMap fun i => (s.sensor d i).temp

/-- Does a sample deviate (R474)? `lim` in 0.125 degrees. -/
def deviates (t : Int) (neigh : List Int) (lim : Int) : Bool :=
  t < -400 || 1200 < t ||
    (2 ≤ neigh.length && match median neigh with | some m => decide (lim < (t - m).natAbs) | none => false)

/-- A threshold of RD_TH_DIE_LIM, in 0.125 degrees: 1 to 3. -/
def State.dieThr (s : State) (k : Nat) : Int :=
  8 * ((if k = 1 then s.get F.RD_TH_DIE_LIM_THR1 else if k = 2 then s.get F.RD_TH_DIE_LIM_THR2 else s.get F.RD_TH_DIE_LIM_THR3 : Nat) : Int)

/-- The highest of a list. -/
def maxInt : List Int → Option Int
  | [] => none
  | x :: t => match maxInt t with | some m => some (max x m) | none => some x

/-- Does DRAM_HOT hold the die at stage 1 (R476)? -/
def State.dieHot (s : State) (d : Nat) : Bool :=
  1 ≤ d && d ≤ 4 && (s.on (F.VT_DRAM_STATE_DRAM_HOT (2 * (d - 1))) || s.on (F.VT_DRAM_STATE_DRAM_HOT (2 * (d - 1) + 1)))

/-- The part's figures: TJ_MAX and the highest stage (R470, R483). -/
def showPart (s : State) : State :=
  let ds := (List.range 8).filter fun d => s.get (F.RD_TH_DIE_MAX d) != 0x8000
  let s := match maxInt (ds.map fun d => s.getI (F.RD_TH_DIE_MAX d)) with
    | some m => s.putI F.RD_TH_STATUS_TJ_MAX m
    | none => s.put F.RD_TH_STATUS_TJ_MAX 0x8000
  s.put F.RD_TH_STATUS_STAGE ((List.range 8).foldl (fun m d => max m (s.get (F.RD_TH_DIE_STAGE d))) 0)

/-- A die is gated: its sensors are off, and it has no stage (R469, R476). -/
def thermalOff (d : Nat) (s : State) : State :=
  let s := s.each (List.range (sensorCount d)) fun i s => s.setSensor d i fun c => { c with temp := none }
  (((s.put (F.RD_TH_DIE_MAX d) 0x8000).put (F.RD_TH_DIE_STAGE d) 0).put (F.RD_TH_DIE_FAST d) 0).put (F.RD_TH_DIE_NONE_OK d) 0

/-- A die's stage changes (R476). -/
def setStage (d k : Nat) (s : State) : State :=
  showPart ((s.put (F.RD_TH_DIE_STAGE d) k).raise F.RD_TH_STATUS_STAGE_EV 9)

/-- The die's maximum, NONE_OK and its count of faulty sensors (R470, R484). -/
def dieMax (d : Nat) (s : State) : State :=
  let bad := ((List.range (sensorCount d)).filter fun i => (s.sensor d i).faulty).length
  let s := s.put (F.RD_TH_DIE_FAULTY d) bad
  let none_ := bad == sensorCount d
  let s := if none_ && !s.on (F.RD_TH_DIE_NONE_OK d) then s.logEv 2 d 0x1002 0 0 else s
  let s := s.putB (F.RD_TH_DIE_NONE_OK d) none_
  if none_ then s.putI (F.RD_TH_DIE_MAX d) 960
  else match maxInt (s.goodReadings d 16) with
    | some m => s.putI (F.RD_TH_DIE_MAX d) m
    | none => s.put (F.RD_TH_DIE_MAX d) 0x8000

/-- One stage up where the maximum has reached the next threshold, or DRAM_HOT asks for stage 1. -/
def stageUp (d : Nat) (s : State) : State :=
  let k := s.get (F.RD_TH_DIE_STAGE d)
  if k < 3 && s.get (F.RD_TH_DIE_MAX d) != 0x8000 && s.dieThr (k + 1) ≤ s.getI (F.RD_TH_DIE_MAX d) then setStage d (k + 1) s
  else if k = 0 && s.dieHot d then setStage d 1 s
  else s

/-- Evaluates a die after its sensors have changed. -/
def dieEval (d : Nat) (s : State) : State := showPart (stageUp d (dieMax d s))

/-- The temperature of the lane groups of a Hoop die (R471): the sensor beside the group, or the median of the other non-faulty ones. -/
def groupTemps (d : Nat) (s : State) : State :=
  s.each ((List.range 24).filter fun g => groupDie g == d) fun g s =>
    let c := s.sensor d (groupIndex g)
    let t := if c.faulty then median (s.goodReadings d (groupIndex g)) else c.temp
    match t with | some t => s.setCal g fun x => { x with temp := t } | none => s

/-- Row DIE_SENSOR_SAMPLE: sensor `i` of die `d` reads `t`, in 0.125 degrees. -/
def opDieSample (d i : Nat) (t : Int) (s : State) : State :=
  if !s.dieRuns d || sensorCount d ≤ i then s
  else
    let bad := deviates t (s.goodReadings d i) 200
    let level := s.dieThr 1 - 80
    let old := s.sensor d i
    let n := if bad then min (old.devcnt + 1) 63 else 0
    let s := s.setSensor d i fun c =>
      { c with temp := some t, seq := (c.seq + 1) % 256, devcnt := n, cold := if t < level then min (c.cold + 1) 1000 else 0 }
    let s := if n = 32 && !old.faulty then
        ((s.setSensor d i fun c => { c with faulty := true }).raise F.RD_TH_STATUS_SENSOR_FAULT 10).logEv 2 d 0x1001 i (ofInt 16 t) else s
    let hot := level ≤ t && !(s.sensor d i).faulty
    let cold := (List.range (sensorCount d)).all fun k => (s.sensor d k).cold == 1000
    let s := if hot then s.put (F.RD_TH_DIE_FAST d) 1 else if cold then s.put (F.RD_TH_DIE_FAST d) 0 else s
    let s := dieEval d s
    if d = 5 || d = 6 then groupTemps d s else s

/-- Row THROTTLE_STEP_DOWN: the die's maximum has stayed below its stage's threshold less DIE_HYST for 100 ms. -/
def opThrottleDown (d : Nat) (s : State) : State :=
  let k := s.get (F.RD_TH_DIE_STAGE d)
  let hyst : Int := 8 * (max 1 (s.get F.RD_TH_DIE_LIM_DIE_HYST) : Nat)
  if k = 0 || (k = 1 && s.dieHot d) || s.get (F.RD_TH_DIE_MAX d) == 0x8000 || s.dieThr k - hyst ≤ s.getI (F.RD_TH_DIE_MAX d) then s
  else setStage d (k - 1) s

/-- Row DRAM_TEMP_READ: DRAM_HOT holds the owning die at stage 1 or higher. -/
def opDramTemp (c band : Nat) (s : State) : State := stageUp (1 + c / 2) (dramTemp c band s)

/-! ### Module sensors (R311, R472 to R475) -/

/-- Is a module non-faulty with a reading? -/
def State.modReads (s : State) (j : Nat) : Bool := !s.on (F.RD_TH_MOD_FAULTY j) && s.get (F.RD_TH_MOD_TEMP j) != 0x8000

/-- Do two modules lie next to each other in the module grid? -/
def nextTo (a b : Region) : Bool :=
  (a.y == b.y && (a.x + a.w == b.x || b.x + b.w == a.x)) || (a.x == b.x && (a.y + a.h == b.y || b.y + b.h == a.y))

/-- Modules next to module `j`. -/
def State.modNext (s : State) (j : Nat) : List Nat :=
  match s.tile.mods.find? (·.port == j) with
  | some m => (s.tile.mods.filter fun n => n.port != j && nextTo m.area n.area).map (·.port)
  | none => []

/-- T_MEAS of a module and whether it is a substitute (R311). -/
def State.tMeas (s : State) (j : Nat) : Int × Bool :=
  if s.modReads j then (s.getI (F.RD_TH_MOD_TEMP j), false)
  else
    let read := fun l => (l.filter s.modReads).map fun k => s.getI (F.RD_TH_MOD_TEMP k)
    match median (read (s.modNext j)) with
    | some t => (t, true)
    | none => match median (read (s.tile.mods.map (·.port))) with
      | some t => (t, true)
      | none => (s.getI F.VT_TP_TFALL_TFALL, true)

/-- The band of a module's ceiling (R478). -/
def State.ceilBand (s : State) (t : Int) : Nat :=
  let hi : Int := s.get F.RD_TH_MOD_LIM_MOD_HI
  if 8 * (s.get F.RD_TH_MOD_LIM_MOD_CRIT : Int) ≤ t then 3
  else if 8 * hi ≤ t then 2
  else if t < 8 * (hi - s.get F.RD_TH_MOD_LIM_HYST) then 0
  else 1

def State.ceil (s : State) (j : Nat) : CeilBand := Tab.get (fun _ => {}) s.ceils j
def State.setCeil (s : State) (j : Nat) (c : CeilBand) : State := { s with ceils := Tab.set (fun _ => {}) j c s.ceils }

/-- Notes a module's entry into a band. -/
def noteBand (j : Nat) (s : State) : State :=
  let b := s.ceilBand (s.tMeas j).1
  if (s.ceil j).band = b then s else s.setCeil j { band := b, since := s.raster.ticks }

/-- Every module's band. -/
def noteBands (s : State) : State := s.each s.pressPorts noteBand

/-- A sample as the port converts the two bytes it reads, the most significant first (R472); none for a failed read. -/
def modSample (bytes : Option (Nat × Nat)) : Option Int :=
  match bytes with
  | some (hi, lo) =>
    let r := toInt 16 (hi % 256 * 256 + lo % 256)
    if r < -12800 || 38400 < r then none else some ((r + 16) / 32)
  | none => none

/-- Row MODULE_SENSOR_SAMPLE: Press port `j` runs a read cycle, which returns two bytes or fails. -/
def opModuleSample (j : Nat) (bytes : Option (Nat × Nat)) (s : State) : State :=
  if !s.drives || !s.pressPorts.contains j then s
  else
    let s := s.send (.i2c j (s.get F.RD_TH_I2C_ADDR) (s.get F.RD_TH_I2C_PTR) (s.on F.RD_TH_I2C_FAST))
    let t := modSample bytes
    let read := fun l => (l.filter fun k => k != j && s.modReads k).map fun k => s.getI (F.RD_TH_MOD_TEMP k)
    let near := read (s.modNext j)
    let neigh := if 2 ≤ near.length then near else read (s.tile.mods.map (·.port))
    let lim : Int := 8 * (max 1 (s.get F.RD_TH_MOD_LIM_DEV_LIM) : Nat)
    let bad := match t with | some t => deviates t neigh lim | none => true
    let s := match t with | some t => s.putI (F.RD_TH_MOD_TEMP j) t | none => s.inc (F.RD_TH_MOD_RDFAIL_N j)
    let s := if bad then s.inc (F.RD_TH_MOD_DEVCNT j) else s.put (F.RD_TH_MOD_DEVCNT j) 0
    let s := if s.get (F.RD_TH_MOD_DEVCNT j) == 32 && !s.on (F.RD_TH_MOD_FAULTY j) then
        ((s.put (F.RD_TH_MOD_FAULTY j) 1).raise F.RD_TH_STATUS_SENSOR_FAULT 10).logEv 2 7 0x1001 (256 + j) (s.get (F.RD_TH_MOD_TEMP j)) else s
    let fast := s.get (F.RD_TH_MOD_TEMP j) != 0x8000 && 8 * ((s.get F.RD_TH_MOD_LIM_MOD_HI : Int) - 5) ≤ s.getI (F.RD_TH_MOD_TEMP j)
    noteBands (s.putB (F.RD_TH_MOD_FAST j) fast)

/-- The temperature share of a frame start: T_MEAS and T_EFF of every module (R311, R312, R328). `take` when the tile has just become READY. -/
def tempFrame (take : Bool) (s : State) : State :=
  s.each s.pressPorts fun j s => tempStep j (s.tMeas j).1 (s.tMeas j).2 take s

/-- A module's ceiling at a frame start (R478). -/
def ceilStep (j : Nat) (s : State) : State :=
  let s := noteBand j s
  let old := s.get (F.VT_TP_MOD_CEIL_CEIL j)
  let low := s.get F.RD_TH_CEIL_CFG_CEIL_MIN
  let step := 256 * s.get F.RD_TH_CEIL_CFG_CSTEP
  let dwell := 4000000 * max 1 (s.get F.RD_TH_CEIL_CFG_CDWELL)
  let c := s.ceil j
  let waited := s.raster.ticks - c.since
  let new :=
    match c.band with
    | 3 => low
    | 2 => if step ≠ 0 && dwell ≤ waited then max (old - step) low else old
    | 0 =>
      if 2 * dwell ≤ waited then
        if step ≠ 0 then min (old + step) 0x10000 else if old = low then 0x10000 else old
      else old
    | _ => old
  if new = old then s
  else ((s.put (F.VT_TP_MOD_CEIL_CEIL j) new).raise F.RD_TH_STATUS_CEIL_EV 11).setCeil j { c with since := s.raster.ticks }

/-- A re-mould that changes the module grid restarts DEVCNT, the faulty flags and the ceilings (R481). -/
def modulesRestart (s : State) : State :=
  let s := s.each (List.range 16) fun j s =>
    ((s.put (F.RD_TH_MOD_DEVCNT j) 0).put (F.RD_TH_MOD_FAULTY j) 0).put (F.VT_TP_MOD_CEIL_CEIL j) 0x10000
  { s with ceils := [] }

/-- Every module's ceiling. -/
def ceilFrame (s : State) : State := if s.drives then s.each s.pressPorts ceilStep else s

/-! ### Limits, clearing and the trip (R480, R482, R487) -/

/-- Row TH_LIMIT_WRITE: register 0 is RD_TH_DIE_LIM, 1 RD_TH_MOD_LIM. -/
def opThLimit (r : Nat) (val : Word) (s : State) : State :=
  let ok :=
    if r = 0 then
      F.RD_TH_DIE_LIM_THR1.of val < F.RD_TH_DIE_LIM_THR2.of val && F.RD_TH_DIE_LIM_THR2.of val < F.RD_TH_DIE_LIM_THR3.of val &&
        F.RD_TH_DIE_LIM_THR3.of val ≤ 128
    else F.RD_TH_MOD_LIM_MOD_HI.of val < F.RD_TH_MOD_LIM_MOD_CRIT.of val && F.RD_TH_MOD_LIM_MOD_CRIT.of val ≤ 125
  if 1 < r then s
  else if !ok then s.flag F.RD_TH_STATUS_LIM_REFUSED
  else s.wr (if r = 0 then 0x400 else 0x404) val

/-- Row TH_CLR. The maxima are worked out again; a stage rises at a sample alone (R476). -/
def opThClr (val : Word) (s : State) : State :=
  let s := if F.RD_TH_CLR_DIE_ALL.of val = 0 then s
    else
      let s := s.each (List.range 8) fun d s =>
        s.each (List.range (sensorCount d)) fun i s => s.setSensor d i fun c => { c with faulty := false, devcnt := 0 }
      let s := showPart (s.each ((List.range 8).filter s.dieRuns) dieMax)
      groupTemps 6 (groupTemps 5 s)
  let s := s.each (bitsOf 16 (F.RD_TH_CLR_MOD.of val)) fun j s => (s.put (F.RD_TH_MOD_FAULTY j) 0).put (F.RD_TH_MOD_DEVCNT j) 0
  if s.drives then noteBands s else s

/-- What RD_TH_SENS_DATA reads: the selected sensor (R485). -/
def State.sensData (s : State) : Word :=
  let d := s.get F.RD_TH_SENS_SEL_DIE
  let i := s.get F.RD_TH_SENS_SEL_INDEX
  let c := s.sensor d i
  let w := F.RD_TH_SENS_DATA_TEMP.into 0 (match c.temp with | some t => ofInt 16 t | none => 0x8000)
  if sensorCount d ≤ i || c.temp.isNone then w
  else
    let w := F.RD_TH_SENS_DATA_SEQ.into (F.RD_TH_SENS_DATA_VALID.into w 1) c.seq
    F.RD_TH_SENS_DATA_DEVCNT.into (F.RD_TH_SENS_DATA_FAULTY.into w (if c.faulty then 1 else 0)) c.devcnt

/-- Row THERMAL_TRIP: sensor `i` of die `d` has held `t`, at least 130 degrees, for 10 us. The comparators need no firmware: a powered die's work. Every
die but the Rind die is gated, with what its registers hold pending, and the Press pins are at their dark levels (R334). -/
def opTrip (d i : Nat) (t : Int) (s : State) : State :=
  if s.sys.tripped || !(s.get F.RD_DIE_STATE_DIE_ON).testBit d || sensorCount d ≤ i || (s.sensor d i).faulty || t < 1040 then s
  else
    let s := { s with sys := { s.sys with tripped := true, thermtrip := true, txIdle := true }, press := { s.press with rowa := [] } }
    let s := pressDark (s.put F.RD_TH_STATUS_TRIPPED 1)
    let s := s.logEv 3 d 0x1003 i (ofInt 16 t)
    let s := (s.put F.RD_DIE_STATE_DIE_ON 1).put F.RD_DIE_STATE_DIE_RUN 1
    let s := { s with pend := s.pend.filter fun p => p.1 / 0x1000000 == 0, taken := s.taken.filter fun p => p.1 / 0x1000000 == 0 }
    showPart (s.each [1, 2, 3, 4, 5, 6, 7] thermalOff)

end Sys2Proof.Machine
end

