-- ==== Sys2Proof/Machine/Mould.lean ====
section
/-!
DEFINITION. The checks of a mould image (chapter 02, R43 to R48, R53, R605 to R607) and putting one in force (R41, R42, R62).
-/

namespace Sys2Proof.Machine

open Sys2Proof

/-! ### Container (R44, R45, R48, R605, R606) -/

/-- Bytes 0x00 to 0xFB of a header (R44). -/
def headerBytes (h : MouldHeader) : List Nat :=
  leBytes 4 h.magic ++ leBytes 2 h.format ++ leBytes 2 h.hdrLen ++ leBytes 4 h.totalLen ++ [h.role, h.senderEnd, h.phases, h.sections] ++
  leBytes 4 h.wallId ++ leBytes 2 h.mouldSeq ++ [0, 0] ++ leBytes 4 h.frateMax ++ leBytes 4 h.minFw ++ [h.dieUse, 0, 0, 0] ++
  leBytes 4 h.abaistubVer ++ leBytes 32 h.descHash ++ List.replicate 180 0

/-- Error 3: the header fields of R605; `avail` is the number of bytes the source holds. -/
def headerBad (h : MouldHeader) (avail : Nat) : Bool :=
  h.hdrLen != 256 || h.sections == 0 || 32 < h.sections || h.role == 0 || 3 < h.role ||
  (if h.role = 1 then h.senderEnd == 0 || 3 < h.senderEnd else h.senderEnd != 0) ||
  0x400000 < h.totalLen || avail < h.totalLen || h.totalLen < 256 + 16 * h.sections + 68

/-- A section that is misplaced (R606), the overlap with others apart. -/
def misplaced (h : MouldHeader) (c : MouldSection) : Bool :=
  c.offset % 64 != 0 || c.offset < 0x100 + 16 * h.sections || h.totalLen < c.offset + c.length + 68

/-- Do the bytes of two sections overlap? -/
def overlap (a b : MouldSection) : Bool := a.offset < b.offset + b.length && b.offset < a.offset + a.length

/-- Some pair of a list, earlier and later element, satisfies `f`. -/
def anyPair {α : Type} (f : α → α → Bool) : List α → Bool
  | [] => false
  | a :: t => t.any (f a) || anyPair f t

/-- The sections R46 requires of the role are there: (type, die) pairs, and a CHAINS section per chain port in use. -/
def sectionsThere (m : MouldImage) : Bool :=
  let has := fun ty die => m.secs.any fun c => c.type == ty && c.die == die
  let used := fun d => m.hdr.dieUse.testBit d
  if m.hdr.role = 1 then
    ([5, 6].all fun d => !used d || has 0x10 d) &&
    ([1, 2, 3, 4].all fun d => !used d || (has 0x20 d && has 0x21 d && has 0x22 d)) &&
    ((m.lanes.filter (·.port < 16)).all fun l => m.secs.any fun c => c.type == 0x11 && c.inst == l.port)
  else
    has 0x10 5 && has 0x22 1 && (m.secs.any fun c => c.type == 0x30) && (m.secs.any fun c => c.type == 0x31) &&
    (m.hdr.role != 3 || m.secs.any fun c => c.type == 0x40)

/-- Error 7. -/
def sectionsBad (m : MouldImage) : Bool :=
  m.secs.any (misplaced m.hdr) || anyPair overlap m.secs ||
  anyPair (fun a b => a.type == b.type && a.die == b.die && a.inst == b.inst) m.secs || !sectionsThere m

/-! ### Structural limits (R53) -/

/-- Sum over a list. -/
def sumOf {α : Type} (f : α → Nat) (l : List α) : Nat := l.foldl (fun n a => n + f a) 0

/-- Capacity of a chain port in Mbit/s (R35), by rate code and active lanes. -/
def portCapacity (rate lanes : Nat) : Nat := [0, 9400, 18800, 37600].getD rate 0 * lanes / 4

/-- Bits of pixel words a chain carries in 1,000 seconds (R36). -/
def chainLoad (m : MouldImage) (c : ChainCfg) : Nat := sumOf (fun r => r.w * r.h) c.tiles * m.hdr.phases * m.hdr.frateMax * 36

/-- Chain ports: count, owners, tiles, load. -/
def chainsBad (m : MouldImage) : Bool :=
  16 < m.chains.length || m.chains.any (fun c => 15 < c.port || 3 < c.owner || 32 < c.tiles.length) ||
  anyPair (fun a b => a.port == b.port) m.chains ||
  (List.range 4).any (fun v => 4 < (m.chains.filter (·.owner == v)).length) || 512 < sumOf (·.tiles.length) m.chains ||
  m.chains.any (fun c => match m.lanes.find? (·.port == c.port) with
    | some l => portCapacity l.rate l.lanes * 1000000000 < chainLoad m c
    | none => true)

/-- Lane groups: active lanes, spare, rate; a tile's IN and OUT agree. -/
def lanesBad (m : MouldImage) : Bool :=
  (m.lanes.any fun l => l.port < 16 && (!([1, 2, 4].contains l.lanes) || 4 < l.spare || l.rate == 0 || 3 < l.rate)) ||
  (m.hdr.role == 2 && anyPair (fun a b => a.port < 16 && b.port < 16 && (a.rate != b.rate || a.lanes != b.lanes)) m.lanes)

/-- Source ports. -/
def sourcesBad (m : MouldImage) : Bool :=
  (m.sources.any fun c => (c.bonded && c.port % 2 == 1) || (if c.bonded then 2080000000 else 1040000000) < c.rate) ||
  4000000000 < sumOf (·.rate) m.sources

/-- The ports a Vat die owns, lowest first: rank 0 is the lowest-numbered one (R30, R251). -/
def ownedPorts (m : MouldImage) (v : Nat) : List Nat := (List.range 16).filter fun p => m.chains.any fun c => c.port == p && c.owner == v

/-- The bounding rectangle of rectangles. -/
def boundsOf : List Region → Region
  | [] => ⟨0, 0, 0, 0⟩
  | r :: t => t.foldl (fun b r =>
      let x := min b.x r.x
      let y := min b.y r.y
      ⟨x, y, max (b.x + b.w) (r.x + r.w) - x, max (b.y + b.h) (r.y + r.h) - y⟩) r

/-- The port of target `t` of a Vat die, where the target exists: phase t mod 4 of the owned port of rank t / 4 (R251). -/
def targetPort (m : MouldImage) (v t : Nat) : Option Nat := if t % 4 < m.hdr.phases then (ownedPorts m v)[t / 4]? else none

/-- A target's region (R251). -/
def targetRegion (m : MouldImage) (v t : Nat) : Region :=
  match targetPort m v t with
  | none => ⟨0, 0, 0, 0⟩
  | some p => boundsOf (m.chains.flatMap fun c => if c.port = p then c.tiles else [])

/-- Pixels a Vat die composes in a frame, with those of the targets for which `wb` holds counted again for their write-back (R32). -/
def composedPixels (m : MouldImage) (wb : Nat → Nat → Bool) (v : Nat) : Nat :=
  sumOf (fun t => let r := targetRegion m v t; r.w * r.h * (if wb v t then 2 else 1)) (List.range 16)

/-- Layer engines, line-buffer granules, composed output of a die with its write-back. -/
def layersBad (wb : Nat → Nat → Bool) (m : MouldImage) : Bool :=
  (m.layers.any fun c => 15 < c.engine) || anyPair (fun a b => a.vat == b.vat && a.engine == b.engine) m.layers ||
  (m.layers.any fun c => 8 < (m.layers.filter fun d => d.owner == c.owner && d.target == c.target).length) ||
  (List.range 4).any (fun v =>
    384 < sumOf (·.granules) (m.layers.filter (·.vat == v)) || 1200000000 * 1000 < composedPixels m wb v * m.hdr.frateMax)

/-- Everything an image places in a die's DRAM: the buffers of its DRAM section, the three buffers of each frame store, the audio delay lines, and a tile's tables with the
two correction banks (R308), the lamp map, the lamp status and the test records (R352). -/
def placedBufs (m : MouldImage) : List DramBuf :=
  let px := m.tile.w * m.tile.h
  let t := m.tile
  m.bufs ++ m.audio.map (fun a => ⟨a.vat, a.base, 0x300000⟩) ++ (m.stores.flatMap fun c => [c.base0, c.base1, c.base2].map fun b => ⟨c.vat, b * 64, c.stride * c.maxRows * 64⟩) ++
    (if m.hdr.role = 1 then []
     else [⟨0, t.corr0, 72 * px⟩, ⟨0, t.corr1, 72 * px⟩, ⟨0, t.lampMap, 12 * px⟩, ⟨0, t.status, ceilDiv (3 * px) 2⟩, ⟨0, t.recs, 6 * px⟩])

/-- DRAM buffers within what is installed and apart from one another, planned traffic, class-0 requesters (R371). -/
def dramBad (m : MouldImage) : Bool :=
  ((placedBufs m).any fun b => match m.dram.find? (·.vat == b.vat) with | some d => d.installed < b.base + b.len | none => true) ||
  anyPair (fun a b => a.vat == b.vat && a.base < b.base + b.len && b.base < a.base + a.len) (placedBufs m) ||
  (m.dram.any fun d => 40960 < d.traffic || 16 < d.urgent) || (m.hdr.role != 1 && m.dram.any fun d => d.vat != 0 || d.channels &&& 3 != d.channels)

/-- The tile; its Cave tables must fit the flash fitted (R501). -/
def tileBad (flash : Nat) (m : MouldImage) : Bool :=
  524288 < m.tile.w * m.tile.h || 16 < m.tile.mods.length || (m.press.any fun q => q.mux == 0 || 32 < q.mux || 8 < q.lines) ||
  flash * 131072 < 0x1600000 + ceilDiv (m.tile.w * m.tile.h * 171) 131072 * 65536

/-- Is a K24 section not as R559 lays it out: its length, the bytes that are zero, and its limits? -/
def k24Bad (m : MouldImage) : Bool :=
  let k := m.k24
  m.k24Bytes.length != 32 || (m.k24Bytes.drop 0x0D).any (· != 0) || 1 < k.gamma || k.width == 0 || 512 < k.width || k.height == 0 || 256 < k.height || 65536 < k.width * k.height ||
  k.frate < 24000 || 120000 < k.frate || k.ltotal < 64 || 4096 < k.ltotal

/-- Error 8. -/
def limitsBad (flash : Nat) (wb : Nat → Nat → Bool) (m : MouldImage) : Bool :=
  m.hdr.phases == 0 || 4 < m.hdr.phases || 240000 < m.hdr.phases * m.hdr.frateMax || lanesBad m ||
  (if m.hdr.role = 1 then chainsBad m || sourcesBad m || layersBad wb m else tileBad flash m) || dramBad m ||
  (m.hdr.role == 3 && (k24Bad m || m.hdr.phases != 1))

/-! ### Putting an image in force -/

/-- The bits of a register that the image loads. -/
def mouldBitsAt (a : Nat) : Word := match regAt a with | some r => r.mouldBits | none => 0

/-- One register's M fields take the image's values; a pending write stays pending (R62). -/
def loadReg (e : Nat × Word) (s : State) : State :=
  let b := mouldBitsAt e.1
  if b = 0 then s else s.wr e.1 ((s.rd e.1 &&& ~~~ b) ||| (e.2 &&& b))

/-- M fields that an image does not give are zero: those of the registers in force at the offsets where `p` holds are cleared before the image's are
loaded (R42). -/
def clearMould (p : Nat → Bool) (s : State) : State :=
  s.each ((s.regs.filter fun e => p e.1 && mouldBitsAt e.1 != 0).map (·.1)) fun a s => s.wr a (s.rd a &&& ~~~ mouldBitsAt a)

/-- The BAR2 offset of a renderer's (kind 1) or write-back (kind 2) buffer, divided by 64 (R568). -/
def apertOffset (v kind index b : Nat) : Nat := v * 0x8000000 + ((if kind = 2 then 6 else 0) + 3 * index + b) * 0x800000

/-- A frame store's registers (R248), and the apertures of a store the host reaches (R249, R285, R568). -/
def loadStore (c : StoreCfg) (s : State) : State :=
  let k := storeKey c.vat c.kind c.index
  let s := if c.kind = 1 then s.each (List.range 3) fun b s => s.put (F.VT_RND_APERT_OFFSET c.vat c.index b) (apertOffset c.vat 1 c.index b)
    else if c.kind = 2 then s.each (List.range 3) fun b s => s.put (F.VT_WB_APERT_OFFSET c.vat c.index b) (apertOffset c.vat 2 c.index b)
    else s
  ((((s.put (fsStride k) c.stride).put (fsMaxRows k) c.maxRows).put (fsBase k 0) c.base0).put (fsBase k 1) c.base1).put (fsBase k 2) c.base2

/-- What the registers of a target say: whether it exists, its port, phase and region (R251). -/
def putTarget (v t assigned port phase : Nat) (r : Region) (s : State) : State :=
  let s := ((s.put (F.VT_TGT_CTRL_ASSIGNED v t) assigned).put (F.VT_TGT_CTRL_PORT v t) port).put (F.VT_TGT_CTRL_PHASE v t) phase
  let s := (s.put (F.VT_TGT_REGION_XY_X v t) r.x).put (F.VT_TGT_REGION_XY_Y v t) r.y
  (s.put (F.VT_TGT_REGION_WH_W v t) r.w).put (F.VT_TGT_REGION_WH_H v t) r.h

/-- The composition targets of the Vat dies in use. -/
def loadTargets (m : MouldImage) (s : State) : State :=
  s.each (((List.range 4).filter fun v => m.hdr.dieUse.testBit (1 + v)).flatMap fun v => (List.range 16).map fun t => (v, t)) fun e =>
    match targetPort m e.1 e.2 with
    | none => putTarget e.1 e.2 0 0 0 ⟨0, 0, 0, 0⟩
    | some p => putTarget e.1 e.2 1 p (e.2 % 4) (targetRegion m e.1 e.2)

/-- The layer engines' targets and granules (R277, R280), and how many engines each target has (R282). -/
def loadLayers (m : MouldImage) (s : State) : State :=
  let s := s.each m.layers fun c s =>
    ((s.put (F.VT_LE_CTRL_ASSIGNED c.vat c.engine) 1).put (F.VT_LE_CTRL_TARGET c.vat c.engine) c.target).put (F.VT_LE_LBCAP_GRANULES c.vat c.engine) c.granules
  s.each m.layers fun c s =>
    s.put (F.VT_TGT_STATUS_LAYERS c.owner c.target) (m.layers.filter fun d => d.owner == c.owner && d.target == c.target).length

/-- The ingest engines' source ports (R247). -/
def loadSources (m : MouldImage) (s : State) : State :=
  s.each m.sources fun c s => (s.put (F.VT_ING_STATUS_PORT c.vat c.engine) c.port).putB (F.VT_ING_STATUS_BONDED c.vat c.engine) c.bonded

/-- The Press die's share of an image: the M fields of its registers, and the geometry of its ports. A port out of use has its pins at the dark levels (R334). -/
def loadPress (m : MouldImage) (s : State) : State :=
  let s := { s with press := { s.press with rowa := s.press.rowa.filter fun e => m.press.any (·.port == e.1) } }
  let s := clearMould (fun a => 0x7000000 ≤ a) s
  let s := s.each (m.mregs.filter fun e => 0x7000000 ≤ e.1) loadReg
  let s := s.each (List.range 16) fun q s => s.putB (F.PR_PORT_GEOM_USED q) (m.press.any (·.port == q))
  s.each m.press fun q s =>
    ((s.put (F.PR_PORT_GEOM_LINES q.port) q.lines).put (F.PR_PORT_GEOM_DRIVERS q.port) q.drivers).put (F.PR_PORT_GEOM_MUX q.port) q.mux

/-- The other registers and records that follow an image: header fields, M fields, frame stores, lane groups. -/
def loadStructure (m : MouldImage) (s : State) : State :=
  let s := { s with mould := { s.mould with loaded := some m } }
  let s := clearMould (fun a => a < 0x7000000 && !(s.isK24 && 0x100000 ≤ a && a < 0x140000)) s
  let s := s.each (m.mregs.filter fun e => e.1 < 0x7000000) loadReg
  let s := loadSources m (loadLayers m (loadTargets m s))
  let s := s.put F.RD_DIE_STATE_DIE_ON (m.hdr.dieUse ||| 1)
  let s := (s.put F.RD_MOULD_ID_WALL_ID m.hdr.wallId).put F.RD_MOULD_INFO_MOULD_SEQ m.hdr.mouldSeq
  let s := (s.put F.RD_MOULD_INFO_PHASES m.hdr.phases).put F.RD_MOULD_INFO_SENDER_END m.hdr.senderEnd
  let s := (s.put F.RD_MOULD_INFO_FORMAT m.hdr.format).put F.RD_MOULD_FRATE_MAX_FRATE_MAX m.hdr.frateMax
  let s := s.each m.stores loadStore
  let s := s.each (List.range 24) fun g s => s.putB (F.HP_GROUP_STATE_IN_USE g) (m.lanes.any (·.port == g))
  s.each m.lanes fun l s => s.setPort l.port fun p => { p with rate := l.rate, lanes := l.lanes, spare := l.spare }

/-- All registers and records that follow an image. -/
def loadFields (m : MouldImage) (s : State) : State := loadPress m (loadStructure m s)

/-- The schedule of an image's PRESS section breaks a condition of R342, with the shortest frame at FRATE_MAX. -/
def State.mouldSchedBad (s : State) (m : MouldImage) : Bool :=
  let t := loadFields m s
  m.hdr.role != 1 && !slotFits t.mouldSched t.phases t.pressMux t.pressD (400000000 * 1000 / max m.hdr.frateMax 1)

/-! ### Steps 1 to 4 of R49 -/

/-- Is no link of a used die failed, whichever die is at its other end (R26)? -/
def State.linksSound (s : State) (dieUse : Nat) : Bool :=
  !s.links.failed.any fun k => dieUse.testBit (k / 8) || dieUse.testBit (k % 8)

/-- The first die an image uses that failed self-test. -/
def State.badDie (s : State) (m : MouldImage) : Option Nat := (bitsOf 8 m.hdr.dieUse).find? fun d => !s.sys.selfTest.testBit d

/-- Steps 1 to 4 of R49 on an image: 0, or the error code. `area`: it stands in a mould area or the staging area, whose 4 MiB bound TOTAL_LEN; a file ends
with its bytes (R605). Write-back that is enabled counts against the composed output (R32). -/
def State.mouldCheck (s : State) (area : Bool) (m : MouldImage) : Nat :=
  let h := m.hdr
  let k := m.keyIndex
  if h.magic ≠ 0x494D4748 then 1
  else if h.format ≠ 1 then 2
  else if headerBad h (if area then 0x400000 else m.raw.length) then 3
  else if crc32 (m.raw.take 0xFC) ≠ h.hdrCrc then 4
  else if k = 0 || 3 < k || !s.nv.enrolled.testBit k || s.nv.revoked.testBit k || !m.signedBy (s.nv.keyBytes k) then 5
  else if sectionsBad m then 7
  else if m.secs.any (fun c => c.crc != m.sectionCrc c) then 6
  else if s.runVersion < h.minFw then 9
  else if limitsBad s.nv.flash (fun v t => s.on (F.VT_TGT_CTRL_WB_EN v t)) m || s.mouldSchedBad m then 8
  else if (s.badDie m).isSome || !s.linksSound h.dieUse then 10
  else 0

/-- A finished load (R64). -/
def mouldStatus (st src : Nat) (s : State) : State :=
  (((s.put F.RD_MOULD_STATUS_STATE st).put F.RD_MOULD_STATUS_SOURCE src).put F.RD_MOULD_STATUS_VALID 1).bump F.RD_MOULD_STATUS_SEQ

end Sys2Proof.Machine
end

