-- ==== Sys2Proof/Machine/Update.lean ====
section
/-!
DEFINITION. Installing, distributing, arming and confirming firmware, the settings store and the security commands (chapter 19).
-/

namespace Sys2Proof.Machine

open Sys2Proof

/-! ### INSTALL (R509) -/

/-- Has a tile reported KIND `kind` STAGED with this ID and MOULD_SEQ (R512)? -/
def State.tileStaged (s : State) (kind id mseq p a : Nat) : Bool :=
  let b := Tab.get (fun _ => []) s.upd.tiles (64 * p + a)
  b.getD 0 0 == 4 && b.getD 2 0 == kind && ofLe ((b.drop 8).take 4) == id && ofLe ((b.drop 12).take 2) == mseq

/-- Length, ID and MOULD_SEQ of what a distribution of KIND `kind` sends: the package in the distribution area, or the image in the staging area. -/
def State.distWhat (s : State) (kind : Nat) : Option (Nat × Nat × Nat) :=
  if kind = 1 then s.nv.pkg.map fun k => (k.bytes.length, k.fw.version, 0)
  else if kind = 2 then s.nv.staging.map fun m => (m.raw.length, m.hdr.wallId, m.hdr.mouldSeq) else none

/-- KIND, ID and MOULD_SEQ that are current on a port: its distribution's, or those that CH_DIST_CTRL would send (R526). -/
def State.distId (s : State) (p : Nat) : Option (Nat × Nat × Nat) :=
  match Tab.get (fun _ => none) s.upd.dist p with
  | some h => some (h.kind, h.id, h.mseq)
  | none => (s.distWhat (s.get (F.CH_DIST_CTRL_KIND p))).map fun w => (s.get (F.CH_DIST_CTRL_KIND p), w.2)

/-- STAGED_N and CH_DIST_NRDY of a port follow what its tiles reported. -/
def distCount (p : Nat) (s : State) : State :=
  match s.distId p with
  | none => s
  | some (kind, id, mseq) =>
    let tiles := bitsOf 33 (s.port p).heard
    let ok := tiles.filter fun a => s.tileStaged kind id mseq p a
    let s := s.put (F.CH_DIST_STATUS_STAGED_N p) ok.length
    s.put (F.CH_DIST_NRDY_TILES p) (maskOfBits ((tiles.filter fun a => !ok.contains a).map (· - 1)))

/-- A new package or image in its area is current on every port where no distribution runs. -/
def distRenew (s : State) : State :=
  s.each (if s.isSender then s.portsInUse.filter fun p => s.get (F.CH_DIST_STATUS_STATE p) != 1 else []) fun p s =>
    distCount p (s.setUpd fun u => { u with dist := Tab.set (fun _ => none) p none u.dist })

/-- Starts an INSTALL after its checks: a refusal in the wrong state, a failed check, or INSTALLING. -/
def installStart (refuse : Bool) (err : Nat) (i : Option Install) (s : State) : State :=
  if refuse || s.upd.install.isSome then fwResult fwRefused 0x0A s
  else match i with
    | none => fwResult fwFailed 0x01 s
    | some i => if err ≠ 0 then fwResult fwFailed err s
      else fwResult fwInstalling 0 (s.setUpd fun u => { u with install := some i })

/-- The error of a mould image's check as RD_FW_RESULT codes it. -/
def mouldErr (e : Nat) : Nat := if e = 0 then 0 else 0x0B

/-- What is known of the SD card changes. -/
def State.setCard (s : State) (f : Card → Card) : State := { s with sys := { s.sys with card := f s.sys.card } }

/-- Row INSTALL_FW. -/
def opInstallFw (file : Option (FwImage × MouldImage)) (s : State) : State :=
  let s := s.setCard fun c => { c with fw := file }
  let err := match file with
    | some (f, m) =>
      let e := s.nv.fwCheck (rolesFor (some m)) f
      if e ≠ 0 then e else mouldErr (s.mouldCheck false m)
    | none => 0
  installStart (s.inTrial || s.upd.arm.isSome) err (file.map fun x => .fw x.1 x.2) s

/-- A distribution runs on some port. -/
def State.distRuns (s : State) : Bool := s.portsInUse.any fun p => s.get (F.CH_DIST_STATUS_STATE p) == 1

/-- Row INSTALL_TILE: the firmware must run the tile role. DESIGN CHOICE (log entry 114): a package above 8 MiB fails with the error of a header. -/
def opInstallTile (file : Option Package) (s : State) : State :=
  let s := s.setCard fun c => { c with tile := file }
  let err := match file with
    | some k =>
      let e := if 0x800000 < k.bytes.length then 2 else s.nv.fwCheck 4 k.fw
      if e ≠ 0 then e else mouldErr (s.mouldCheck false k.mould)
    | none => 0
  installStart (!s.isSender || s.distRuns) err (file.map .tile) s

/-- States of RD_REMOULD_RESULT (R67). -/
def rmIdle : Nat := 0
def rmVerifying : Nat := 1
def rmVerified : Nat := 2
def rmArmed : Nat := 3
def rmGoSent : Nat := 4
def rmDone : Nat := 5
def rmRefused : Nat := 6
def rmCancelled : Nat := 7
def State.rmState (s : State) : Nat := s.get F.RD_REMOULD_RESULT_STATE
/-- A re-mould is ARMED or GO_SENT. -/
def State.rmPending (s : State) : Bool := s.rmState == rmArmed || s.rmState == rmGoSent

/-- Row INSTALL_REMOULD. -/
def opInstallRemould (file : Option MouldImage) (s : State) : State :=
  let s := s.setCard fun c => { c with remould := file }
  let err := match file with | some m => mouldErr (s.mouldCheck false m) | none => 0
  installStart s.rmPending err (file.map .remould) s

/-- Row INSTALL_DONE: written and read back; only then the directory changes. -/
def opInstallDone (ok : Bool) (s : State) : State :=
  match s.upd.install with
  | none => s
  | some i =>
    let s := s.setUpd fun u => { u with install := none }
    if !ok then fwResult fwFailed 0x06 s
    else
      let alt := s.altSlot
      let s := match i with
        | .fw f m => s.setNv fun n => n.setSlot alt { state := slStaged, fw := some f, mould := some m }
        | .tile k => distRenew (s.setNv fun n => { n with pkg := some k })
        | .remould m => distRenew (s.setNv fun n => { n with staging := some m })
      showFw (fwResult fwInstalled 0 s)

/-! ### Arming (R514, R515) -/

/-- The least lead of R58 and R514: the larger of 8 frames and 100 ms. -/
def State.minLead (s : State) : Nat := max 8 (ceilDiv s.raster.num (10 * max s.raster.den 1))

/-- Enumerated tiles of the chains in use, as (port, address). -/
def State.chainAddrs (s : State) : List (Nat × Nat) :=
  s.portsInUse.flatMap fun p => (bitsOf 33 (s.port p).heard).map fun a => (p, a)

/-- The conditions of R514 other than the lead: 0, or the error. A revert asks nothing of the tiles. -/
def State.fwArmError (s : State) (revert : Bool) : Nat :=
  let tilesOk := match s.nv.pkg with
    | some k => s.chainAddrs.all fun t => s.tileStaged 1 k.fw.version 0 t.1 t.2
    | none => s.chainAddrs.isEmpty
  if !revert && !tilesOk then 0x08
  else if s.distRuns then 0x08
  else if revert && !s.inTrial then 0x0A
  else if !revert && (s.inTrial || (s.nv.slot s.altSlot).state ≠ slStaged) then 0x0A
  else if s.rmPending then 0x0C
  else 0

/-- Rows FW_ARM and ARM_REVERT. -/
def armFw (revert : Bool) (s : State) : State :=
  let sf := s.get F.RD_FW_SCHED_FNUM_S
  if !s.isSender || s.upd.arm.isSome || s.upd.install.isSome then fwResult fwRefused 0x0A s
  else if ahead sf s.raster.fnum < s.minLead then fwResult fwRefused 0x07 s
  else
    let e := s.fwArmError revert
    if e ≠ 0 then fwResult fwRefused e s
    else fwResult fwArmed 0 (s.setUpd fun u => { u with arm := some (revert, sf, false), partnerOk := false })
def opFwArm (s : State) : State := armFw false s
def opArmRevert (s : State) : State := armFw true s

/-- Row FW_ARM_PARTNER_TIMEOUT: in a hot-standby pair the partner did not report the same arm within 4 frames. -/
def opFwArmTimeout (s : State) : State :=
  match s.upd.arm with
  | some (_, _, false) =>
    if s.senderEnd == 3 || s.upd.partnerOk then s else fwResult fwRefused 0x09 (s.setUpd fun u => { u with arm := none })
  | _ => s

/-- Row FW_CANCEL: until GO is sent. -/
def opFwCancel (s : State) : State :=
  match s.upd.arm with
  | some (_, _, false) => fwResult fwCancelled 0 (s.setUpd fun u => { u with arm := none })
  | _ => s

/-- A broadcast on every chain port in use. -/
def broadcast (ty : Nat) (data : List Nat) (s : State) : State :=
  s.each s.portsInUse fun p s => submit p false ⟨ty, 0xFF, endCode s.senderEnd, 0, if ty = 0x20 then 4 else 0, data⟩ s

/-- VERSION that the sender's FW_ACTIVATE and FW_CONFIRM carry for the tiles (R515, R517). -/
def State.tileVersion (s : State) : Nat := match s.nv.pkg with | some k => k.fw.version | none => s.runVersion

/-- TRIES_INIT and CONFIRM_WIN, 0 taken as 1. -/
def State.triesInit (s : State) : Nat := max 1 (s.get F.RD_FW_CFG_TRIES_INIT)
def State.confirmWin (s : State) : Nat := max 1 (s.get F.RD_FW_CFG_CONFIRM_WIN)

/-- Sends FW_ACTIVATE with an operation. -/
def sendActivate (op sf : Nat) (s : State) : State :=
  broadcast 0x33 ([op, 0, 0, 0] ++ leBytes 4 sf ++ leBytes 4 s.tileVersion ++ leBytes 2 s.confirmWin ++ [s.triesInit, 0]) s

/-- The conditions of R514 but for the lead as they stand at the start of S - 2, the partner's arm among them: 0, or the error. -/
def State.fwGoError (s : State) (rev : Bool) : Nat :=
  if s.fwArmError rev ≠ 0 then s.fwArmError rev else if s.senderEnd ≠ 3 && !s.upd.partnerOk then 0x09 else 0

/-- Row FW_ACTIVATE_CHECK, at the start of S - 2. -/
def opFwCheck (s : State) : State :=
  match s.upd.arm with
  | some (rev, sf, false) =>
    if ahead sf s.raster.fnum ≠ 2 then s
    else if s.fwGoError rev ≠ 0 then
      fwResult fwCancelled (s.fwGoError rev) (sendActivate 3 sf (s.setUpd fun u => { u with arm := none }))
    else fwResult fwGoSent 0 (sendActivate (if rev then 2 else 1) sf (s.setUpd fun u => { u with arm := some (rev, sf, true) }))
  | _ => s

/-- At the start of S - 1 the activation is sent again. -/
def activateRepeat (s : State) : State :=
  match s.upd.arm with
  | some (rev, sf, true) => if ahead sf s.raster.fnum = 1 then sendActivate (if rev then 2 else 1) sf s else s
  | _ => s

/-- What an activation marks in the slot directory (R515): the new slot TRIAL, or the trial slot BAD and the other booted. -/
def activateSlots (rev : Bool) (tries win : Nat) (s : State) : State :=
  let alt := s.altSlot
  if rev then s.setNv fun n => { n.mark s.runSlot slBad with boot := alt, tries := 0 }
  else
    let s := { s with cave := { s.cave with trimTrial := none } }
    s.setNv fun n => { n.mark alt slTrial with boot := alt, tries := tries, window := win }

/-- Does the part act on an activation at this frame start? -/
def State.activationDue (s : State) : Option (Bool × Nat × Nat) :=
  match s.upd.arm with
  | some (rev, sf, true) => if s.raster.fnum = sf then some (rev, s.triesInit, s.confirmWin) else none
  | _ =>
    match s.upd.act with
    | some a =>
      if !s.isSender && s.raster.fnum = a.s then
        if a.op = 2 && s.inTrial then some (true, 0, 0)
        else if a.op = 1 && (s.nv.slot s.altSlot).state = slStaged && (s.nv.slot s.altSlot).fw.map (·.version) = some a.version then
          some (false, max 1 a.tries, max 1 a.win)
        else none
      else none
    | none => none

/-- Do fewer than 2 frames remain of the window of a trial, measured on the raster (R517, log entry 105)? -/
def State.windowEnds (s : State) : Bool :=
  match s.upd.winAt with
  | some t => s.inTrial && decide ((s.nv.window * tickSec - (s.raster.ticks - t)) * s.raster.num < 2 * tickSec * s.raster.den)
  | none => false

/-- Row CONFIRM (R517); `late` says that fewer than 2 frames of the trial's window remain. -/
def opConfirm (late : Bool) (s : State) : State :=
  if !s.isSender then fwResult fwRefused 0x0A s
  else if s.inTrial && (late || s.windowEnds) then fwResult fwRefused 0x0D s
  else
    let v := if s.on F.RD_FW_TILE_VER_VERSION then s.get F.RD_FW_TILE_VER_VERSION else s.tileVersion
    fwResult fwConfirmed 0 (broadcast 0x34 (leBytes 4 v) (confirmPart s))

/-! ### A hop's source (R510, R511) -/

/-- The bytes a hop sends: a sender's package or staging area, a tile's transfer buffer. -/
def State.hopBytes (s : State) (h : Hop) : List Nat :=
  if s.isSender then (if h.kind = 1 then (match s.nv.pkg with | some k => k.bytes | none => []) else (match s.nv.staging with | some m => m.raw | none => []))
  else s.upd.rx.buf

/-- SRC of a hop's packets. -/
def State.hopSrc (s : State) : Nat := if s.isSender then endCode s.senderEnd else s.addr

def State.hop (s : State) (p : Nat) : Option Hop := Tab.get (fun _ => none) s.upd.hops p
def setHop (p : Nat) (h : Option Hop) (s : State) : State := s.setUpd fun u => { u with hops := Tab.set (fun _ => none) p h u.hops }

/-- Sends the packet a hop has come to. -/
def hopSend (p : Nat) (h : Hop) (s : State) : State :=
  let k := fun ty data => submit p false ⟨ty, h.dst, s.hopSrc, 0, 1, data⟩ s
  if h.phase = 0 then
    k 0x30 ([h.kind, 0, 0, 0] ++ leBytes 4 h.total ++ leBytes 4 h.id ++ leBytes 2 h.mseq ++ [h.last, if h.dirB then 1 else 0])
  else if h.phase = 1 then k 0x31 (leBytes 4 h.off ++ ((s.hopBytes h).drop h.off).take 240)
  else k 0x32 (leBytes 4 h.total)

/-- Begins a hop. -/
def hopStart (p : Nat) (h : Hop) (s : State) : State := hopSend p h (setHop p (some h) s)

/-- The transfer a tile receives ends FAILED, and nothing further is forwarded (R511). -/
def rxFail (err : Nat) (s : State) : State :=
  let s := s.setRx fun r => { r with state := 5, err := err, buf := [], fw := none, mould := none }
  s.setUpd fun u => { u with due := true, hops := [] }

/-- Is a transfer running at the tile: received, verified, written or forwarded? -/
def State.transfers (s : State) : Bool := (1 ≤ s.upd.rx.state && s.upd.rx.state ≤ 3) || s.upd.hops.any (·.2.isSome)

/-- A final state of a port's distribution. -/
def distFinal (p st : Nat) (s : State) : State :=
  ((s.put (F.CH_DIST_STATUS_STATE p) st).put (F.CH_DIST_STATUS_VALID p) 1).bump (F.CH_DIST_STATUS_SEQ p)

/-- Addresses a distribution reaches, in its order. -/
def Hop.range (h : Hop) : List Nat :=
  if h.dirB then (List.range 33).reverse.filter fun a => h.last ≤ a && a ≤ h.dst && a != 0
  else (List.range 33).filter fun a => h.dst ≤ a && a ≤ h.last && a != 0

/-- CH_DIST_FAIL marks a tile and every address after it that is neither receiving nor STAGED with what the distribution sends (R521, R526). -/
def distFail (p a : Nat) (s : State) : State :=
  match Tab.get (fun _ => none) s.upd.dist p with
  | none => s
  | some h =>
    let after := (h.range.dropWhile (· ≠ a)).filter fun b =>
      b == a || !(s.tileStaged h.kind h.id h.mseq p b || (let st := (Tab.get (fun _ => []) s.upd.tiles (64 * p + b)).getD 0 0; 1 ≤ st && st ≤ 3))
    let m := maskOfBits (after.map (· - 1))
    let s := s.put (F.CH_DIST_FAIL_TILES p) (s.get (F.CH_DIST_FAIL_TILES p) ||| m)
    if s.get (F.CH_DIST_STATUS_STATE p) = 1 then distFinal p 3 s else s

/-- A hop ends without success at its source. -/
def hopFail (p : Nat) (h : Hop) (s : State) : State :=
  let s := setHop p none s
  if s.isSender then distFail p h.dst s else rxFail 0 s

/-- After an answer from the receiver of a hop: the next packet goes out, or the hop ends. -/
def hopAnswered (p src result : Nat) (s : State) : State :=
  match s.hop p with
  | none => s
  | some h =>
    if h.dst ≠ src then s
    else if result ≠ 0 then hopFail p h s
    else
      let off := if h.phase = 1 then h.off + 240 else 0
      let h' := { h with off := off, phase := if h.phase = 2 then 3 else if off < h.total then 1 else 2 }
      if h'.phase = 3 then setHop p none s else hopSend p h' (setHop p (some h') s)

/-- Row ACK with what an answer means to a hop (R511). -/
def opAckHop (p src seq result : Nat) (k : Pkt) (s : State) : State :=
  let mine := s.forMe k.dest && s.answers p src seq
  let s := opAck p src seq result k s
  if mine then hopAnswered p src result s else s

/-- Row CTRL_RETRY_TIMEOUT with what a NOACK means to a hop (R511, R521). -/
def opRetryHop (p dest : Nat) (s : State) : State :=
  let s := opCtrlRetry p dest s
  match s.hop p with
  | some h => if h.dst = dest && (Tab.get (fun _ => none) (s.port p).unacked dest).isNone then hopFail p h s else s
  | none => s

/-! ### A transfer's receiver (R511) -/

/-- The payload of FW_BEGIN (R510). -/
def fwBeginBytes (kind total id mseq last : Nat) (dirB : Bool) : List Nat :=
  [kind, 0, 0, 0] ++ leBytes 4 total ++ leBytes 4 id ++ leBytes 2 mseq ++ [last, if dirB then 1 else 0]

/-- Row FW_BEGIN. -/
def opFwBegin (p kind total id mseq last : Nat) (dirB : Bool) (k : Pkt) (s : State) : State :=
  let bad := s.inTrial || s.transfers || 0x800000 < total
  execOnce p k (if bad then 2 else 0) (fun s =>
    if s.inTrial then rxFail 0x0A s
    else if bad then s
    else
      let s := s.setRx fun r => { r with
        state := 1, err := 0, kind := kind, total := total, id := id, mseq := mseq, last := last, dirB := dirB, buf := [], fw := none,
        mould := none, stagedId := 0, stagedSeq := 0 }
      s.setUpd fun u => { u with due := true }) s

/-- A failure for which R523 has no code: the value is open. -/
def rxFailOpen (s : State) : State := let (v, s) := s.draw; rxFail (v.toNat % 256) s

/-- Row FW_DATA. -/
def opFwData (p off : Nat) (bytes : List Nat) (k : Pkt) (s : State) : State :=
  let r := s.upd.rx
  let ok := r.state == 1 && off == r.buf.length && !bytes.isEmpty && bytes.length ≤ 240 && off + bytes.length ≤ 0x800000
  execOnce p k (if ok then 0 else 2) (fun s =>
    if ok then s.setRx fun r => { r with buf := r.buf ++ bytes }
    else if r.state = 1 then rxFailOpen s else s) s

/-- Row FW_END. -/
def opFwEnd (p total : Nat) (k : Pkt) (s : State) : State :=
  let r := s.upd.rx
  let ok := r.state == 1 && total == r.total
  execOnce p k (if ok then 0 else 2) (fun s =>
    if ok then (s.setRx fun r => { r with state := 2 }).setUpd fun u => { u with due := true }
    else if r.state = 1 then rxFailOpen s else s) s

/-- The mould image that the transfer buffer holds: a package's, or the whole; `m` gives the decoded contents of its sections. -/
def Rx.image (r : Rx) (m : MouldImage) : MouldImage := if r.kind = 1 then mouldOf r.buf m else { m with raw := r.buf }

/-- The checks on a package's two images with personalities `roles`: 0, or the code of R523. -/
def State.packageError (s : State) (roles : Nat) (f : FwImage) (m : MouldImage) : Nat :=
  let e := s.nv.fwCheck roles f
  if e ≠ 0 then e else mouldErr (s.mouldCheck false m)

/-- The checks on received contents: 0, or the code of R523. -/
def State.rxError (s : State) (contents : MouldImage) : Nat :=
  let r := s.upd.rx
  let m := r.image contents
  if r.kind = 1 then s.packageError 4 (fwOf r.buf) m
  else if s.mouldCheck false m ≠ 0 || m.hdr.role ≠ s.role then 0x0B
  else 0

/-- Row FW_VERIFY_DONE: the tile forwards to the next address in DIR and writes its flash, or fails. -/
def opFwVerifyDone (contents : MouldImage) (s : State) : State :=
  let r := s.upd.rx
  if r.state ≠ 2 then s
  else
    let e := s.rxError contents
    if e ≠ 0 then rxFail e s
    else
      let s := s.setRx fun r => { r with fw := some (fwOf r.buf), mould := some (r.image contents) }
      if s.addr = r.last then s
      else
        let p := if r.dirB then 0 else 1
        let next := if r.dirB then s.addr - 1 else s.addr + 1
        let s := (s.setRx fun r => { r with state := 3 }).setUpd fun u => { u with due := true }
        hopStart p { dst := next, kind := r.kind, total := r.total, id := r.id, mseq := r.mseq, last := r.last, dirB := r.dirB } s

/-- Row FW_FLASH_WRITE_DONE: a package goes into the slot not booted, a re-mould image into the staging area. -/
def opFwFlashDone (ok : Bool) (s : State) : State :=
  let r := s.upd.rx
  if !(r.state = 2 || r.state = 3) || r.mould.isNone then s
  else if !ok then rxFail 0x06 s
  else
    let s := if r.kind = 1 then s.setNv fun n => n.setSlot s.altSlot { state := slStaged, fw := r.fw, mould := r.mould }
      else s.setNv fun n => { n with staging := r.mould }
    let s := s.setRx fun r => { r with
      state := 4, stagedId := (if r.kind = 1 then (match r.fw with | some f => f.version | none => 0) else r.id), stagedSeq := r.mseq }
    showFw (s.setUpd fun u => { u with due := true })

/-- The payload of FW_ACTIVATE (R515). -/
def fwActivateBytes (op sf version win tries : Nat) : List Nat :=
  [op, 0, 0, 0] ++ leBytes 4 sf ++ leBytes 4 version ++ leBytes 2 win ++ [tries, 0]

/-- Row FW_ACTIVATE at a tile: it counts when received by the end of S - 1. -/
def opFwActivate (p op sf version win tries : Nat) (k : Pkt) (s : State) : State :=
  execOnce p k 0 (fun s =>
    if op = 3 then s.setUpd fun u => { u with act := none }
    else if (op = 1 || op = 2) && 1 ≤ ahead sf s.raster.fnum then
      s.setUpd fun u => { u with act := some ⟨op, sf, version, win, tries⟩ }
    else s) s

/-- Row FW_CONFIRM at a tile. -/
def opFwConfirm (p version : Nat) (k : Pkt) (s : State) : State :=
  execOnce p k 0 (fun s => if s.inTrial && s.runVersion = version then confirmPart s else s) s

/-- Row FW_ABORT. -/
def opFwAbort (p : Nat) (k : Pkt) (s : State) : State :=
  execOnce p k 0 (fun s =>
    if s.transfers then rxFailOpen s else s) s

/-- FW_STATE's payload (R512). -/
def State.fwStateBytes (s : State) : List Nat :=
  let r := s.upd.rx
  [r.state, r.err, r.kind, 0] ++ leBytes 4 r.buf.length ++ leBytes 4 r.stagedId ++ leBytes 2 r.stagedSeq ++ [0, 0] ++
    leBytes 4 s.runVersion ++ [s.get F.RD_FW_STATUS_RUN_STATE, 0, 0, 0]

/-! ### The sender's distribution (R513, R526) -/

/-- What a port's tiles reported shows, and a distribution that has staged every address ends DONE. -/
def distShow (p : Nat) (s : State) : State :=
  let s := distCount p s
  match Tab.get (fun _ => none) s.upd.dist p with
  | none => s
  | some h =>
    if s.get (F.CH_DIST_STATUS_STATE p) = 1 && h.range.all (fun a => s.tileStaged h.kind h.id h.mseq p a) then distFinal p 2 s else s

/-- Row FW_STATE at a sender. A tile forwards whey as it forwards every packet. -/
def opFwState (p a : Nat) (b : List Nat) (k : Pkt) (s : State) : State :=
  if !s.isSender then passWhey p k s
  else if a = 0 || 32 < a then s
  else
    let s := s.setUpd fun u => { u with tiles := Tab.set (fun _ => []) (64 * p + a) b u.tiles }
    let s := if b.getD 0 0 = 1 && s.get (F.CH_DIST_STATUS_STATE p) = 1 then s.put (F.CH_DIST_STATUS_AT p) a else s
    let s := if b.getD 0 0 = 5 then distFail p a s else s
    distShow p s

/-- The RW fields of CH_DIST_CTRL. -/
def distFields (p : Nat) (val : Word) (s : State) : State := s.wr (atCHS p 0xE8) (val &&& 0x383F3F00)

/-- Row DIST_START: nothing to send, or a distribution that runs, stops it at once or leaves it. -/
def opDistStart (p : Nat) (val : Word) (s : State) : State :=
  let s := distFields p val s
  if !s.isSender || s.get (F.CH_DIST_STATUS_STATE p) = 1 then s
  else
    let kind := s.get (F.CH_DIST_CTRL_KIND p)
    let dirB := s.on (F.CH_DIST_CTRL_ORIGIN p)
    let last := s.get (F.CH_DIST_CTRL_LAST p)
    let last := if last ≠ 0 then last else if dirB then 1 else (s.chainTiles p).length
    let first := s.get (F.CH_DIST_CTRL_FIRST p)
    match s.distWhat kind with
    | none => distFinal p 3 s
    | some (total, id, mseq) =>
      let h : Hop := { dst := first, kind := kind, total := total, id := id, mseq := mseq, last := last, dirB := dirB }
      let s := ((s.put (F.CH_DIST_STATUS_STATE p) 1).put (F.CH_DIST_STATUS_VALID p) 0).put (F.CH_DIST_STATUS_AT p) first
      let s := s.setUpd fun u => { u with dist := Tab.set (fun _ => none) p (some h) u.dist }
      hopStart p h (distShow p s)

/-- Row DIST_ABORT: FW_ABORT goes to the receiver in progress. -/
def opDistAbort (p : Nat) (val : Word) (s : State) : State :=
  let s := distFields p val s
  if !s.isSender || s.get (F.CH_DIST_STATUS_STATE p) ≠ 1 then s
  else
    let a := s.get (F.CH_DIST_STATUS_AT p)
    distFinal p 3 (submit p false ⟨0x35, a, endCode s.senderEnd, 0, 1, []⟩ (setHop p none s))

/-! ### The settings store (R518, R524) -/

/-- The records in force: the newest copy. -/
def Nv.records (n : Nv) : List (Nat × Word) := match n.sets with | (_, l) :: _ => l | [] => []

/-- A state of RD_SET_RESULT; all but BUSY are final. -/
def setResult (st : Nat) (s : State) : State :=
  let s := s.put F.RD_SET_RESULT_STATE st
  let s := s.put F.RD_SET_RESULT_COUNT s.nv.records.length
  if st = 1 then s.put F.RD_SET_RESULT_VALID 0 else (s.put F.RD_SET_RESULT_VALID 1).bump F.RD_SET_RESULT_SEQ

/-- Rows SET_STORE, SET_DELETE and SET_CLEAR: OP 1, 2, 3. A command written while another runs is refused without disturbing it. -/
def setCommand (op : Nat) (s : State) : State :=
  let a := s.get F.RD_SET_ADDR_OFFSET
  let there := s.nv.records.any (·.1 == a)
  if s.upd.setCmd.isSome then s
  else if op ≠ 3 && 0x500 ≤ a && a < 0x600 then setResult 3 s
  else if op = 1 && !there && 512 ≤ s.nv.records.length then setResult 4 s
  else setResult 1 (s.setUpd fun u => { u with setCmd := some (op, a, s.rd F.RD_SET_DATA_VALUE.addr) })
def opSetStore (s : State) : State := setCommand 1 s
def opSetDelete (s : State) : State := setCommand 2 s
def opSetClear (s : State) : State := setCommand 3 s

/-- What a command makes of the records; a record replaced keeps its place. -/
def setApply (op a : Nat) (v : Word) (l : List (Nat × Word)) : List (Nat × Word) :=
  if op = 3 then []
  else if op = 2 then l.filter (·.1 ≠ a)
  else if l.any (·.1 == a) then l.map fun e => if e.1 = a then (a, v) else e
  else l ++ [(a, v)]

/-- Row SET_CMD_DONE: the older copy is rewritten and becomes the newest; during a trial both copies change, each in its own format. -/
def opSetDone (drop : Bool) (s : State) : State :=
  match s.upd.setCmd with
  | none => s
  | some (op, a, v) =>
    let s := s.setUpd fun u => { u with setCmd := none }
    let fmt := match s.upd.run with | some f => f.setFmt | none => 0
    let old := s.nv.sets
    let two := s.inTrial && old.any (·.1 ≠ fmt)
    let loses := two && drop && op == 1
    let sets :=
      if two then old.map fun c =>
        if c.1 ≠ fmt && loses then (c.1, setApply 2 a v c.2) else (c.1, setApply op a v c.2)
      else (fmt, setApply op a v s.nv.records) :: old.take 1
    let s := s.setNv fun n => { n with sets := sets }
    let s := if loses then s.flag F.RD_FW_STATUS_SET_DROPPED else s
    setResult 2 s

/-! ### Security (R505, R520, R525) -/

/-- A final state of RD_SEC_RESULT: 2 DONE, 3 REFUSED. -/
def secFinal (st err : Nat) (s : State) : State :=
  (((s.put F.RD_SEC_RESULT_STATE st).put F.RD_SEC_RESULT_ERR err).put F.RD_SEC_RESULT_VALID 1).bump F.RD_SEC_RESULT_SEQ

/-- BUF0 to BUF15. -/
def State.secBuf (s : State) : List Word := (List.range 16).map fun i => s.rd (0x580 + 4 * i)

/-- A security command begins; one written while another runs is refused without disturbing it. -/
def secStart (op slot signer : Nat) (s : State) : State :=
  if s.upd.secCmd.isSome then s
  else
    let s := (s.put F.RD_SEC_RESULT_STATE 1).put F.RD_SEC_RESULT_VALID 0
    s.setUpd fun u => { u with secCmd := some (op, slot, signer, s.secBuf) }
def opEnroll (slot : Nat) (s : State) : State := secStart 1 slot 0 s
def opRevoke (slot : Nat) (s : State) : State := secStart 2 slot 0 s
def opLockDebug (s : State) : State := secStart 3 0 0 s

/-- The slot of the enrolled, unrevoked key under which the token in the buffer verifies, 0 for none (R520): r and s over the digest of the identity
followed by the challenge, each of 8 bytes, most significant first (R579). -/
def State.tokenSigner (s : State) : Nat :=
  let b := s.secBuf.flatMap fun w => leBytes 4 w.toNat
  let d := sha256 ((leBytes 8 partUid).reverse ++ (leBytes 8 ((s.rd 0x550).toNat + 2 ^ 32 * (s.rd 0x554).toNat)).reverse)
  ([1, 2, 3].find? fun i => s.nv.enrolled.testBit i && !s.nv.revoked.testBit i &&
    (let k := s.nv.keyBytes i
     k.length == 64 && ecdsaVerify (ofBe (k.take 32)) (ofBe (k.drop 32)) d (ofBe (b.take 32)) (ofBe (b.drop 32)))).getD 0

/-- Row UNLOCK; `slot` is the SLOT of the word written, which only ENROLL and REVOKE use. -/
def opUnlock (slot : Nat) (s : State) : State := secStart 4 (slot % 4) s.tokenSigner s

/-- Row RELOCK. -/
def opRelock (s : State) : State :=
  if s.upd.secCmd.isSome then s else secFinal 2 0 (s.put F.RD_SEC_STATUS_UNLOCKED 0)

/-- Row SEC_CMD_DONE. -/
def opSecDone (s : State) : State :=
  match s.upd.secCmd with
  | none => s
  | some (op, slot, signer, buf) =>
    let s := s.setUpd fun u => { u with secCmd := none }
    let n := s.nv
    if op = 1 then
      if slot = 0 || 3 < slot || n.enrolled.testBit slot then secFinal 3 1 s
      else secFinal 2 0 (s.setNv fun n => { n with enrolled := setBit n.enrolled slot, keys := Tab.set (fun _ => []) slot buf n.keys })
    else if op = 2 then
      if slot = 0 || 3 < slot then secFinal 3 1 s
      else if ([1, 2, 3].filter fun i => !n.revoked.testBit i) = [slot] then secFinal 3 3 s
      else secFinal 2 0 (s.setNv fun n => { n with revoked := setBit n.revoked slot })
    else if op = 3 then secFinal 2 0 (s.setNv fun n => { n with debugLocked := true })
    else if 1 ≤ signer && signer ≤ 3 && n.enrolled.testBit signer && !n.revoked.testBit signer then
      secFinal 2 0 (s.put F.RD_SEC_STATUS_UNLOCKED 1)
    else secFinal 3 2 s

/-- Row SEC_CHAL_READ. -/
def opChalRead (s : State) : State := s.captureRead 0x550 [0x554]

end Sys2Proof.Machine
end

