-- ==== Sys2Proof/Machine/K24.lean ====
section
/-!
DEFINITION. K24 mode (chapter 21): the legacy link and its packets, the legacy registers, frame timing by VS, and the legacy update.
-/

namespace Sys2Proof.Machine

open Sys2Proof

def State.setK24 (s : State) (f : K24 → K24) : State := { s with k24 := f s.k24 }

/-! ### Packets (R544 to R546) -/

/-- The check of R546. -/
def x25 (l : List Nat) : Nat := crcResult 16 0xFFFF true (l.foldl (crcByte 16 0x1021 true) 0xFFFF)

/-- Bytes with their check. -/
def x25Seal (l : List Nat) : List Nat := l ++ leBytes 2 (x25 l)

/-- Is a packet's check right? `l` holds every byte between the start symbol and END. -/
def x25Ok (l : List Nat) : Bool := 2 ≤ l.length && x25 (l.take (l.length - 2)) == ofLe (l.drop (l.length - 2))

/-- A packet of the legacy chain arrives: a failed check counts, and what was sound is handed on; `viol` when it has a code violation or
does not end in END. -/
def k24Packet (l : List Nat) (viol : Bool) (f : List Nat → State → State) (s : State) : State :=
  if !x25Ok l then s.inc F.RD_K24_ERR_POP_ERR
  else if viol then s
  else f (l.take (l.length - 2)) s

/-! ### Lane lock (R543) -/

/-- The clock of both transmitters: the one recovered on lane 0, where the transmitter's side has valid input. -/
def k24Clock (s : State) : State :=
  let l := s.k24.lock
  (s.putB (F.HP_GROUP_STATE_REF 1) (l.testBit 0)).putB (F.HP_GROUP_STATE_REF 0) (l.testBit 0 && l.testBit 1)

/-- The group of a legacy lane: lane 0 in group 0, lane 5 in group 1. -/
def k24Group (lane : Nat) : Option Nat := if lane = 0 then some 0 else if lane = 5 then some 1 else none

/-- What a receiver reads of a packet's codes on a lane of the part, behind the lane's polarity (R182). -/
def State.legacyIn (s : State) (n k : Nat) (rd : Bool) (codes : List Nat) : List Nat × Bool := legacyRx k rd (codes.map (polar (s.rxInv n)))

/-- Row LEGACY_LANE_LOCK. R187 gives lanes 0 and 5 of the K24 chain no codes of their own: the model keeps both halves in TRAIN until the legacy lock, then
in ACTIVE, and a transmit half stays ACTIVE when the lock is lost (DESIGN CHOICE, log entry 133). -/
def opLaneLock (lane : Nat) (s : State) : State :=
  match k24Group lane with
  | none => s
  | some g =>
    if !s.isK24 then s
    else
      let s := s.setK24 fun k => { k with lock := setBit k.lock g }
      let s := ((s.put (F.HP_LANE_STATE_CDR_LOCK lane) 1).put (F.HP_LANE_STATE_RXS lane) lnActive).put (F.HP_LANE_STATE_TXS lane) lnActive
      (k24Clock s).retile

/-- Row LEGACY_LANE_LOCK_LOST. -/
def opLaneLockLost (lane : Nat) (s : State) : State :=
  match k24Group lane with
  | none => s
  | some g =>
    if !s.isK24 || !s.k24.lock.testBit g then s
    else
      let s := s.setK24 fun k => { k with lock := clearBit k.lock g }
      let s := (s.put (F.HP_LANE_STATE_CDR_LOCK lane) 0).put (F.HP_LANE_STATE_RXS lane) lnTrain
      (k24Clock s).retile

/-! ### VS and the raster (R547 to R549) -/

def State.k24W (s : State) : Nat := s.get F.RD_K24_WIDTH_WIDTH
def State.k24H (s : State) : Nat := s.get F.RD_K24_HEIGHT_HEIGHT

/-- The end of a frame's reception: rows not wholly covered since the last VS are taken from the last complete frame and counted. Without one
the frame is complete only where every row is covered, and shows nothing until then (R547, R88). A lamp of a repeated row whose stored value could not be read stores 0
(R323). -/
def k24End (ue : List (Nat × Nat)) (s : State) : State :=
  let miss := (List.range s.k24H).filter fun r => !spanFull s.k24W (Tab.get (fun _ => []) s.tileRx.coverA r)
  let s := s.put F.RD_K24_REPEAT_ROWS (min miss.length 0xFFFF)
  let have0 := s.tileRx.haveLast
  let s := s.each miss fun r s =>
    let bad := (ue.filter fun u => u.1 == r && u.2 < 3 * s.k24W).map (·.2)
    pathUe F.VT_TP_STATUS_UE_STORE F.VT_TP_UE_COUNT2_UE_STORE_N bad.length (repeatCorr 0 r bad s)
  let full := have0 || miss.isEmpty
  { s with tileRx := { s.tileRx with coverA := [], cur := [], haveLast := full, showing := s.tileRx.ready && full } }

/-- The raster's rate from the mean of the VS periods (R548). -/
def k24Rate (l : List Nat) (r : Raster) : Raster :=
  let sum := sumOf id l
  if sum = 0 then r
  else
    let g := Nat.gcd (1000000000000 * l.length) sum
    { r with num := 1000000000000 * l.length / g, den := sum / g }

/-- The raster states of R117, with VS in place of markers: 4 periods in a row within 2 ns of their mean lock it. -/
def k24Track (period : Option Nat) (s : State) : State :=
  let st := s.get (F.CH_RASTER_STATE_STATE 0)
  match period with
  | none => s.put (F.CH_RASTER_STATE_STATE 0) 1
  | some p =>
    let l := (p :: s.k24.periods).take 64
    let err := p * l.length - sumOf id l + (sumOf id l - p * l.length)
    let good := if err ≤ 2000 * l.length then s.k24.good + 1 else 0
    let s := s.setK24 fun k => { k with periods := l, good := good }
    let s := { s with raster := k24Rate l s.raster }
    if st == 2 || 4 ≤ good then s.put (F.CH_RASTER_STATE_STATE 0) 2 else s.put (F.CH_RASTER_STATE_STATE 0) 1

/-- A valid VS: address, forwarding, the end of the frame before, and the tile's frame start. `v` holds the time since the last VS, in ps. -/
def vsTake (v : VsTurn) (b : List Nat) (s : State) : State :=
  let fcnt := b.getD 0 0
  let hop := b.getD 1 0
  let again := s.k24.vs
  let s := (s.put F.RD_K24_FCNT_FCNT fcnt).put F.RD_K24_ADDR_ADDR (min (hop + 1) 63)
  let s := s.putB F.RD_K24_ADDR_EXCESS (decide (32 < hop + 1))
  let s := s.send (.legacy 5 0 (x25Seal [fcnt, (hop + 1) % 256, b.getD 2 0, b.getD 3 0]))
  let s := if again then k24End v.ue s else s
  let whole := again && s.k24.missed == 0
  let s := if !again || s.get (F.CH_RASTER_STATE_STATE 0) == 3 then s.setK24 fun k => { k with good := 0 } else s
  let s := k24Track (if whole then some v.period else none) s
  let r := s.raster
  let r := { r with running := true, fnum := if again then (r.fnum + 1) % 2 ^ 32 else 0, rpos := 0, acc := 0, boundary := true }
  let s := { s with raster := r }
  let s := s.setK24 fun k => { k with
    vs := true, missed := 0, turn := true, held := 0, expired := false, blankPrev := k.blank,
    -- V0 hears of BLANK over its link to H0 (R26)
    blank := if s.links.wheyStopped then k.blank else (b.getD 2 0).testBit 0 }
  s.retile

/-- Row VS, up to what an update does at it. -/
def opVs (bytes : List Nat) (viol : Bool) (v : VsTurn) (s : State) : State :=
  if !s.isK24 then s
  else k24Packet bytes viol (fun b s => if b.length = 4 then vsTake v b s else s) s

/-- Row VS_MISSING: the frame starts at P all the same, and the third in a row leaves the raster in HOLDOVER. -/
def opVsMissing (s : State) : State :=
  if !s.isK24 || !s.k24.vs || s.get (F.CH_RASTER_STATE_STATE 0) == 3 then s
  else
    let n := s.k24.missed + 1
    let r := s.raster
    let s := { s with raster := { r with fnum := (r.fnum + 1) % 2 ^ 32, rpos := 0, acc := 0, boundary := true } }
    let s := s.setK24 fun k => { k with missed := n, turn := false, good := 0 }
    if 3 ≤ n then (s.put (F.CH_RASTER_STATE_STATE 0) 3).retile else s

/-- A frame start that no VS gives counts toward the hold, and repeats the last frame (R549). -/
def k24Frame (s : State) : State :=
  if !s.isK24 then s
  else if s.k24.turn then s.setK24 fun k => { k with turn := false }
  else s.setK24 fun k => { k with held := k.held + 1 }

/-- Row VS_HOLD_EXPIRY: HOLD frames have been repeated; HOLD = 0 repeats without end. -/
def opHoldExpiry (s : State) : State :=
  let h := s.get F.RD_K24_CTRL_HOLD
  if s.isK24 && h != 0 && h ≤ s.k24.held then pressDark (s.setK24 fun k => { k with expired := true }) else s

/-! ### LS (R547) -/

/-- A row with `words` put in from place `at`. -/
def rowPut (old : List Nat) (n at_ : Nat) (words : List Nat) : List Nat :=
  (List.range n).map fun i => if at_ ≤ i && i < at_ + words.length then words.getD (i - at_) 0 else old.getD i 0

/-- An accepted line packet; a row that is wholly covered goes into the corrected store. -/
def lsTake (b : List Nat) (s : State) : State :=
  let row := ofLe ((b.drop 1).take 2)
  let col := ofLe ((b.drop 3).take 2)
  let n := ofLe ((b.drop 5).take 2)
  let px := b.drop 7
  let w := s.k24W
  let mine := s.k24.vs && !s.links.wheyStopped && !s.on F.RD_K24_ADDR_EXCESS && b.headD 0 == s.get F.RD_K24_ADDR_ADDR
  if mine && row < s.k24H && col + n ≤ w && px.length == 3 * n && 1 ≤ n && n ≤ 512 then
    let codes := rowPut (Tab.get (fun _ => []) s.tileRx.cur row) (3 * w) (3 * col) px
    let cover := spanIns col n (Tab.get (fun _ => []) s.tileRx.coverA row)
    let s := { s with tileRx := { s.tileRx with
      cur := Tab.set (fun _ => []) row codes s.tileRx.cur, coverA := Tab.set (fun _ => []) row cover s.tileRx.coverA } }
    if spanFull w cover then s.setCorrRow 0 0 row codes else s
  else s

/-- Row LS: forwarded unchanged, good or bad. -/
def opLs (bytes : List Nat) (viol : Bool) (s : State) : State :=
  if !s.isK24 then s else k24Packet bytes viol lsTake (s.send (.legacy 5 1 bytes))

/-- Row RSP: forwarded upstream unchanged. -/
def opRsp (bytes : List Nat) (s : State) : State := if s.isK24 then s.send (.legacy 0 3 bytes) else s

/-! ### The gamma and gain ports (R552, R556) -/

/-- The gamma index after an access. -/
def gamStep (s : State) : State :=
  let i := s.get F.RD_K24_GAM_IDX_INDEX
  let c := s.get F.RD_K24_GAM_IDX_COLOUR
  if i < 255 then s.put F.RD_K24_GAM_IDX_INDEX (i + 1)
  else (s.put F.RD_K24_GAM_IDX_INDEX 0).put F.RD_K24_GAM_IDX_COLOUR (if c < 2 then c + 1 else 0)

/-- The entry the index names, 0 for colour 3. -/
def State.gamNow (s : State) : Nat :=
  let c := s.get F.RD_K24_GAM_IDX_COLOUR
  if c = 3 then 0 else s.gam c (s.get F.RD_K24_GAM_IDX_INDEX)

/-- Sets an entry of the gamma tables. -/
def setGam (c k v : Nat) (s : State) : State :=
  s.setK24 fun x => { x with gam := Tab.set (fun j => gammaCurve (j % 256)) (256 * c + k) v x.gam }

/-- A write of RD_K24_GAM_DATA. -/
def gamWrite (v : Nat) (s : State) : State :=
  let c := s.get F.RD_K24_GAM_IDX_COLOUR
  gamStep (if c = 3 then s else setGam c (s.get F.RD_K24_GAM_IDX_INDEX) (v % 65536) s)

/-- The lamp index, and the lamps of the tile. -/
def State.gainIdx (s : State) : Nat := s.get F.RD_K24_GAIN_IDX_LO_IDX + 65536 * s.get F.RD_K24_GAIN_IDX_HI_IDX
def State.k24Lamps (s : State) : Nat := 3 * s.k24W * s.k24H

/-- The gain index after an access: 0 after the last lamp. -/
def gainStep (s : State) : State :=
  let i := if s.gainIdx + 1 < s.k24Lamps then s.gainIdx + 1 else 0
  (s.put F.RD_K24_GAIN_IDX_LO_IDX (i % 65536)).put F.RD_K24_GAIN_IDX_HI_IDX (i / 65536)

def State.gainNow (s : State) : Nat := if s.gainIdx < s.k24Lamps then s.k24Gain s.gainIdx else 0

/-- A write of RD_K24_GAIN_DATA: the diagonal coefficient of set 0 of bank 0. -/
def gainWrite (v : Nat) (s : State) : State :=
  let i := s.gainIdx
  gainStep (if i < s.k24Lamps then
    { s with tp := { s.tp with bank0 := s.tp.bank0.put (i / 3) 0 (4 * (i % 3)) ((v % 256 : Nat) * 128) } } else s)

/-- Row K24_GAM_DATA_ACCESS and row K24_GAIN_DATA_ACCESS, by the host: a write of a value, or a read. -/
def opGamAccess (val : Option Nat) (s : State) : State :=
  if !s.isK24 then (if val.isNone then s.reply [0] else s)
  else match val with
    | some v => gamWrite v s
    | none => gamStep (s.reply [s.gamNow])
def opGainAccess (val : Option Nat) (s : State) : State :=
  if !s.isK24 then (if val.isNone then s.reply [0] else s)
  else match val with
    | some v => gainWrite v s
    | none => gainStep (s.reply [s.gainNow])

/-- Row K24_ERR_POP: the count is returned and zeroed. -/
def opK24ErrPop (s : State) : State :=
  if !s.isK24 then s.reply [0] else (s.reply [s.get F.RD_K24_ERR_POP_ERR]).put F.RD_K24_ERR_POP_ERR 0

/-- Row K24_SAVE: key 0x5A5A; ignored while a SAVE runs. -/
def opK24Save (key : Nat) (s : State) : State :=
  if s.isK24 && key == 0x5A5A && !s.saving then opTableSave s else s

/-! ### The legacy update (R557) -/

def upIdle : Nat := 0
def upReceiving : Nat := 1
def upVerifying : Nat := 2
def upWriting : Nat := 3
def upStaged : Nat := 4
def upFailed : Nat := 5
def upTrial : Nat := 6

/-- STATE and ERR of RD_K24_UPD_STATUS. -/
def State.upd24 (s : State) : Nat := s.get F.RD_K24_UPD_STATUS_STATE
def upSet (st err : Nat) (s : State) : State := (s.put F.RD_K24_UPD_STATUS_STATE st).put F.RD_K24_UPD_STATUS_ERR err

/-- BEGIN. -/
def opUpdBegin (s : State) : State :=
  let st := s.upd24
  if s.isK24 && (st == upIdle || st == upStaged || st == upFailed) then upSet upReceiving 0 (s.setRx fun r => { r with buf := [] }) else s

/-- UPD_DATA: more than 8 MiB fail; the code of that failure is not stated. -/
def opUpdData (b : Nat) (s : State) : State :=
  if !s.isK24 || s.upd24 != upReceiving then s
  else if s.upd.rx.buf.length < 0x800000 then s.setRx fun r => { r with buf := r.buf ++ [b % 256] }
  else
    let (v, s) := s.draw
    upSet upFailed (v.toNat % 256) s

/-- END. -/
def opUpdEnd (s : State) : State := if s.isK24 && s.upd24 == upReceiving then upSet upVerifying 0 s else s

/-- UPD_VERIFY_DONE: the images in the buffer's bytes; R504 to R506, ROLES with the tile role or K24 mode, and steps 1 to 4 of R49. `contents` gives the
decoded contents of the mould image's sections. -/
def opUpdVerify (contents : MouldImage) (s : State) : State :=
  if !s.isK24 || s.upd24 != upVerifying then s
  else
    let b := s.upd.rx.buf
    let e := s.packageError 12 (fwOf b) (mouldOf b contents)
    if e ≠ 0 then upSet upFailed e s
    else upSet upWriting 0 (s.setRx fun r => { r with fw := some (fwOf b), mould := some (mouldOf b contents) })

/-- UPD_WRITE_DONE. -/
def opUpdWrite (ok : Bool) (s : State) : State :=
  if !s.isK24 || s.upd24 != upWriting then s
  else if !ok then upSet upFailed 0x06 s
  else
    let r := s.upd.rx
    showFw (upSet upStaged 0 (s.setNv fun n => n.setSlot s.altSlot { state := slStaged, fw := r.fw, mould := r.mould }))

/-- APPLY is noted. -/
def opUpdApply (s : State) : State :=
  if s.isK24 && s.upd24 == upStaged && !s.k24.apply then s.setK24 fun k => { k with apply := true, applyNow := false } else s

/-- UPD_APPLY_TIMEOUT: 100 ms have passed without a VS. -/
def opUpdTimeout (s : State) : State := if s.k24.apply then s.setK24 fun k => { k with applyNow := true } else s

/-- CONFIRM. -/
def opUpdConfirm (s : State) : State :=
  if s.isK24 && s.inTrial then confirmPart (upSet upIdle 0 s) else s

/-- ABORT. -/
def opUpdAbort (s : State) : State :=
  let st := s.upd24
  if s.isK24 && (st == upReceiving || st == upVerifying || st == upWriting) then upSet upIdle 0 s else s

/-- The slots at an APPLY: TRIAL with 3 tries and a window of MIN minutes. -/
def k24Slots (s : State) : State := activateSlots false 3 (60 * max 1 (s.get F.RD_K24_UPD_WIN_MIN)) s

/-- A write of RD_K24_UPD_CTRL. -/
def opUpdCmd (c : Nat) (s : State) : State :=
  match c with
  | 1 => opUpdBegin s
  | 2 => opUpdEnd s
  | 3 => opUpdApply s
  | 4 => opUpdConfirm s
  | 5 => opUpdAbort s
  | _ => s

/-! ### The legacy registers (R555, R556) -/

/-- Lamps OPEN_P, SHORT_P or RETIRED. -/
def State.lampFaults (s : State) : Nat := (s.tp.status.filter fun e => 4 ≤ e.2 && e.2 ≤ 6).length

/-- Highest T_MEAS of the modules, in whole degrees rounded down. -/
def State.k24Temp (s : State) : Nat :=
  match maxInt (s.pressPorts.map fun j => s.getI (F.VT_TP_MOD_TEMP_T_MEAS j)) with
  | some t => ofInt 16 (t / 8)
  | none => 0

def bit1 (b : Bool) (i : Nat) : Nat := if b then 2 ^ i else 0

/-- RD_K24_STATUS. -/
def State.k24Status (s : State) : Nat :=
  s.upd24 * 4096 + bit1 s.sys.safeDark 7 + bit1 (s.lampFaults != 0) 6 +
    bit1 (s.pressPorts.any fun j => s.get (F.VT_TP_MOD_CEIL_CEIL j) < 0x10000) 5 + bit1 s.saving 4 + bit1 s.k24.expired 3 +
    bit1 (s.k24.held != 0 && !s.k24.expired) 2 + bit1 (s.tileRx.showing && !s.on F.PR_SLOT_STATUS_DARK) 1 + bit1 (s.k24.lock.testBit 0) 0

/-- What a read of legacy address `a` returns, and the state after its side effect. Undefined addresses read 0. -/
def k24Read (a : Nat) (s : State) : Nat × State :=
  match a with
  | 0x03 => (s.k24Status, s)
  | 0x11 => (s.gamNow, gamStep s)
  | 0x1A => (s.gainNow, gainStep s)
  | 0x20 => (s.k24Temp, s)
  | 0x21 => (s.get F.RD_K24_ERR_POP_ERR, s.put F.RD_K24_ERR_POP_ERR 0)
  | 0x22 => (min s.lampFaults 0xFFFF, s)
  | _ =>
    match regAt (atK24 (4 * a)) with
    | some r => if r.woBits != 0 then (0, s) else ((s.rd (atK24 (4 * a))).toNat % 65536, s)
    | none => (0, s)

/-- A write of legacy address `a`. Non-zero reserved bits of a writable register are unpredictable (R9). -/
def k24Write (a v : Nat) (s : State) : Except Fault State :=
  match regAt (atK24 (4 * a)) with
  | none => .ok s
  | some r =>
    if r.rwBits ||| r.woBits = 0 then .ok s
    else if BitVec.ofNat 32 v &&& ~~~ r.named ≠ 0 then .error (.unpredictable 9)
    else .ok (match a with
      | 0x11 => gamWrite v s
      | 0x1A => gainWrite v s
      | 0x30 => opK24Save v s
      | 0x40 => opUpdCmd v s
      | 0x41 => opUpdData v s
      | _ => s.wr (atK24 (4 * a)) (BitVec.ofNat 32 v))

/-- Does the byte at `k` of a command name this tile, or all tiles? -/
def State.k24Mine (s : State) (b : List Nat) (all : Bool) : Bool :=
  (all && b.headD 0 == 0xFF) || (s.k24.vs && !s.on F.RD_K24_ADDR_EXCESS && b.headD 0 == s.get F.RD_K24_ADDR_ADDR)

/-- A command packet of OP `op`: forwarded, and handed on with A and its data where it is sound, for this tile, and of the length it gives. -/
def k24Cmd (op : Nat) (bytes : List Nat) (viol all : Bool) (f : Nat → List Nat → State → Except Fault State) (s : State) : Except Fault State :=
  if !s.isK24 then .ok s
  else
    let s := s.send (.legacy 5 2 bytes)
    if !x25Ok bytes then .ok (s.inc F.RD_K24_ERR_POP_ERR)
    else
      let b := bytes.take (bytes.length - 2)
      let data := b.drop 6
      if viol || !s.k24Mine b all || b.getD 1 0 != op || ofLe ((b.drop 4).take 2) != data.length then .ok s
      else f (ofLe ((b.drop 2).take 2)) data s

/-- Row K24_WRITE. -/
def opK24Write (bytes : List Nat) (viol : Bool) (s : State) : Except Fault State :=
  k24Cmd 1 bytes viol true (fun a d s => if d.length = 2 then k24Write a (ofLe d) s else .ok s) s

/-- Row K24_READ: a unicast one is answered upstream. -/
def opK24Read (bytes : List Nat) (viol : Bool) (s : State) : Except Fault State :=
  k24Cmd 2 bytes viol false (fun a d s =>
    if d.length = 0 then
      let (v, s) := k24Read a s
      .ok (s.send (.legacy 0 3 (x25Seal ([s.get F.RD_K24_ADDR_ADDR, 0x82] ++ leBytes 2 a ++ leBytes 2 v))))
    else .ok s) s

/-- Bytes in pairs, low byte first; an odd last one is dropped. -/
def pairs : List Nat → List Nat
  | a :: b :: t => (a % 256 + 256 * (b % 256)) :: pairs t
  | _ => []

/-- Row K24_BLOCK: bytes for one of the three data ports. -/
def opK24Block (bytes : List Nat) (viol : Bool) (s : State) : Except Fault State :=
  let take := fun (a : Nat) (d : List Nat) (s : State) =>
    if d.isEmpty || 256 < d.length then s
    else if a = 0x11 then s.each (pairs d) gamWrite
    else if a = 0x1A then s.each d gainWrite
    else if a = 0x41 then s.each d opUpdData
    else s
  k24Cmd 3 bytes viol true (fun a d s => .ok (take a d s)) s

/-! ### The section at a start (R551, R559), and the move to native (R561) -/

/-- The K24 section's reset values. -/
def k24Load (k : K24Cfg) (s : State) : State :=
  let s := ((s.put F.RD_K24_WIDTH_WIDTH k.width).put F.RD_K24_HEIGHT_HEIGHT k.height).put F.RD_K24_CTRL_HOLD k.hold
  let s := s.put F.RD_K24_BRT_BRT k.brt
  let s := { s with raster := { s.raster with ltotal := k.ltotal, num := k.frate, den := 1000 } }
  if k.gamma = 1 then
    match s.cave.gamma with
    | some l => s.each (List.range 768) fun j s => setGam (j / 256) (j % 256) (l.getD j 0) s
    | none => s
  else s

/-- A Cave that holds gamma tables, at the first start in the tile role: every pixel's four sets take set 0's diagonal, TSET its reset values, and
the tables go. -/
def caveConvert (s : State) : State :=
  if !s.isTile || s.cave.gamma.isNone then s
  else
    let c := s.cave.corr
    let diag := c.coef.filter fun e => e.1 % 36 < 9 && e.1 % 36 % 4 == 0
    let conv : CorrBank := (diag.flatMap fun e => [0, 1, 2, 3].map fun k => (e.1 / 36, k, e.1 % 36, e.2)).foldl
      (fun b e => b.put e.1 e.2.1 e.2.2.1 e.2.2.2) { unity := c.unity, coef := [] }
    { s with cave := { s.cave with corr := conv, tset := [160, 320, 480, 640], gamma := none } }

end Sys2Proof.Machine
end

