-- ==== Sys2Proof/Machine/PtpClock.lean ====
section
/-!
DEFINITION. The PTP clock, its triggers and captures (R433, R434, R437, R438, R446 to R448).
-/

namespace Sys2Proof.Machine

open Sys2Proof

/-- Nanoseconds of a PTP time. -/
def ptpNs (sec ns : Nat) : Nat := sec * 1000000000 + ns

/-- Brings nanoseconds into range; seconds wrap at 2^48 (R433). -/
def ptpNorm (sec : Nat) (ns : Int) : Nat × Nat :=
  let d := ns / 1000000000
  ((((sec : Int) + d) % 2 ^ 48).toNat, (ns % 1000000000).toNat)

/-- One tick of the clock (R433, R434): a SET takes the place of the increment, and of an ADJ due on the same tick. -/
def Ptp.tick (t : Ptp) : Ptp × Bool :=
  let t := match t.incNext with | some (n, f) => { t with incNs := n, incFrac := f, incNext := none } | none => t
  match t.set with
  | some (sec, ns) => ({ t with sec := sec, ns := ns, frac := 0, set := none, adj := none }, true)
  | none =>
    let f := t.frac + t.incFrac
    let (sec, ns) := ptpNorm t.sec ((t.ns + t.incNs + f / 2 ^ 32 : Nat) + t.adj.getD 0)
    ({ t with sec := sec, ns := ns, frac := f % 2 ^ 32, adj := none }, t.adj.isSome)

def State.trig (s : State) (t : Nat) : Trig := Tab.get (fun _ => {}) s.ptp.trigs t
def State.setTrig (s : State) (t : Nat) (x : Trig) : State :=
  { s with ptp := { s.ptp with trigs := Tab.set (fun _ => {}) t x s.ptp.trigs } }

/-- Drives a trigger pin. -/
def setPin (t : Nat) (level : Bool) (s : State) : State :=
  { s with sys := { s.sys with trigPins := if level then setBit s.sys.trigPins t else clearBit s.sys.trigPins t } }

/-- A pulse that has lasted WIDTH ends. -/
def pulseEnd (t : Nat) (s : State) : State :=
  match (s.trig t).pulse with
  | none => s
  | some (sec, ns) =>
    if ptpNs s.ptp.sec s.ptp.ns < ptpNs sec ns then s
    else setPin t (!s.on (F.RD_PTP_TRIG_CTRL_POL t)) (s.setTrig t { s.trig t with pulse := none })

/-- Row PTP_TICK. -/
def opPtpTick (s : State) : State :=
  let (p, stepped) := s.ptp.tick
  let s := { s with ptp := p }
  let s := if stepped then s.flag F.RD_PTP_STATUS_STEPPED else s
  pulseEnd 1 (pulseEnd 0 s)

/-- Row PTP_INC_WRITE: the pair takes effect on the next tick. -/
def opPtpInc (val : Word) (s : State) : State :=
  let n := F.RD_PTP_INC_INC_NS.of val
  let s := s.put F.RD_PTP_INC_INC_NS n
  { s with ptp := { s.ptp with incNext := some (n, s.get F.RD_PTP_INC_FRAC_INC_FRAC) } }

/-- Row PTP_SET: a write of SET to RD_PTP_CMD. -/
def opPtpSet (s : State) : State :=
  let ns := s.get F.RD_PTP_SET_NS_SET_NS
  if 1000000000 ≤ ns then s.flag F.RD_PTP_STATUS_SET_REFUSED
  else
    let sec := s.get F.RD_PTP_SET_SEC_HI_SET_SEC * 2 ^ 32 + s.get F.RD_PTP_SET_SEC_LO_SET_SEC
    { s with ptp := { s.ptp with set := some (sec, ns) } }

/-- Row PTP_ADJ: a second write before the tick replaces the first. -/
def opPtpAdj (val : Word) (s : State) : State := { s with ptp := { s.ptp with adj := some (toInt 32 val.toNat) } }

/-- Row TRIGGER_ARM: a write of RD_PTP_TRIG_CTRL. An arm less than 1 us ahead is refused; T, PERIOD and MODE are taken. -/
def opTriggerArm (t : Nat) (val : Word) (s : State) : State :=
  let a := (F.RD_PTP_TRIG_CTRL_ARM t).addr
  let s := s.wr a val
  if (F.RD_PTP_TRIG_CTRL_ARM t).of val = 0 then s
  else
    let sec := s.get (F.RD_PTP_TRIG_SEC_HI_SEC t) * 2 ^ 32 + s.get (F.RD_PTP_TRIG_SEC_LO_SEC t)
    let ns := s.get (F.RD_PTP_TRIG_NS_NS t)
    if 1000000000 ≤ ns || ptpNs sec ns < ptpNs s.ptp.sec s.ptp.ns + 1000 then
      (s.raiseBits F.RD_PTP_STATUS_TRIG_LATE (2 ^ t % 4) 4).put (F.RD_PTP_TRIG_CTRL_ARM t) 0
    else
      -- PRESUMED (log entry 112): a pulse output that is armed stands at the level opposite to POL
      let s := if (F.RD_PTP_TRIG_CTRL_MODE t).of val = 0 && (s.trig t).pulse.isNone then setPin t ((F.RD_PTP_TRIG_CTRL_POL t).of val == 0) s else s
      s.setTrig t { s.trig t with sec := sec, ns := ns, period := s.get (F.RD_PTP_TRIG_PERIOD_PERIOD t),
                                  toggle := (F.RD_PTP_TRIG_CTRL_MODE t).of val == 1 }

/-- Row TRIGGER_FIRE: the clock has reached T. The output changes; T moves to the first firing time after the clock, or ARM clears. -/
def opTriggerFire (t : Nat) (s : State) : State :=
  let x := s.trig t
  let now := ptpNs s.ptp.sec s.ptp.ns
  if !s.on (F.RD_PTP_TRIG_CTRL_ARM t) || now < ptpNs x.sec x.ns then s
  else
    let pol := s.on (F.RD_PTP_TRIG_CTRL_POL t)
    let s := if x.toggle then setPin t (!s.sys.trigPins.testBit t) s else setPin t pol s
    let w := s.get (F.RD_PTP_TRIG_CTRL_WIDTH t)
    let stop := now + (if w = 0 then 5 else w)
    let x := if x.toggle then x else { x with pulse := some (stop / 1000000000, stop % 1000000000) }
    if x.period = 0 then (s.setTrig t x).put (F.RD_PTP_TRIG_CTRL_ARM t) 0
    else
      let k := (now - ptpNs x.sec x.ns) / x.period + 1
      let n := ptpNs x.sec x.ns + k * x.period
      s.setTrig t { x with sec := n / 1000000000 % 2 ^ 48, ns := n % 1000000000 }

/-- The capture FIFO of an input. -/
def State.caps (s : State) (c : Nat) : List Capture := Tab.get (fun _ => []) s.ptp.caps c
def State.setCaps (s : State) (c : Nat) (l : List Capture) : State :=
  { s with ptp := { s.ptp with caps := Tab.set (fun _ => []) c l s.ptp.caps } }

/-- Row CAPTURE_EDGE: an edge on PTP_CAPc; `close` when it comes less than 10 ns after a captured edge. -/
def opCaptureEdge (c : Nat) (rising close : Bool) (s : State) : State :=
  let e := s.get (F.RD_PTP_CAP_CTRL_EDGE c)
  if !s.on (F.RD_PTP_CAP_CTRL_EN c) || !e.testBit (if rising then 0 else 1) || close then s
  else if 8 ≤ (s.caps c).length then (s.raiseBits F.RD_PTP_STATUS_CAP_OVF (2 ^ c % 4) 3).inc (F.RD_PTP_CAP_CNT_CAP_OVF_N c)
  else
    let v := s.rasterValid
    let x : Capture := ⟨s.ptp.sec, s.ptp.ns, rising, v, if v then s.raster.fnum else 0, if v then s.raster.rpos else 0⟩
    (s.setCaps c (s.caps c ++ [x])).inc (F.RD_PTP_CAP_CNT_CAP_N c)

/-- Sets captured partner words (R16) to values of the model's own records. -/
def State.captureWords (s : State) (first : Word) (l : List (Nat × Nat)) : State :=
  let cap := l.foldl (fun t e => Tab.set (fun _ => none) e.1 (some (BitVec.ofNat 32 e.2)) t) s.acc.captured
  { s with acc := { s.acc with captured := cap, rdata := [first.toNat] } }

/-- Row CAP_POP (R448). -/
def opCapPop (c : Nat) (s : State) : State :=
  let a := fun k => atCAP c k
  match s.caps c with
  | [] => s.captureWords 0 [(a 8, 0), (a 12, 0), (a 16, 0), (a 20, 0)]
  | x :: t =>
    let w := F.RD_PTP_CAP_POP_SEC_HI c |>.into ((F.RD_PTP_CAP_POP_VALID c).into 0 1) (x.sec / 2 ^ 32)
    let w := (F.RD_PTP_CAP_POP_RISING c).into ((F.RD_PTP_CAP_POP_RASTER_VALID c).into w (if x.valid then 1 else 0)) (if x.rising then 1 else 0)
    (s.setCaps c t).captureWords w [(a 8, x.sec % 2 ^ 32), (a 12, x.ns), (a 16, x.rpos), (a 20, x.fnum)]

/-- Row PTP_NS_READ (R446). -/
def opPtpNsRead (s : State) : State :=
  s.captureWords (BitVec.ofNat 32 s.ptp.ns) [(atPTP 4, s.ptp.sec % 2 ^ 32), (atPTP 8, s.ptp.sec / 2 ^ 32)]

end Sys2Proof.Machine
end

