-- ==== Sys2Proof/Machine/Network.lean ====
section
/-!
DEFINITION. The management network: packet RAM, descriptors, frames in and out, collisions, PAUSE, MDIO, and the wheel (R416 to R432,
R436, R439 to R445).
-/

namespace Sys2Proof.Machine

open Sys2Proof

/-! ### Packet RAM (R418 to R420) -/

/-- The packet RAM address of a port's buffer offset. -/
def pramAt (n off : Nat) : Nat := n * 2 ^ 20 + off % 0x40000

/-- A byte of packet RAM, and its write; an unlisted byte reads zero. -/
def State.pbyte (s : State) (a : Nat) : Byte := Tab.get blankByte s.pram a
def State.setPbyte (s : State) (a : Nat) (b : Byte) : State := { s with pram := Tab.set blankByte a b s.pram }

/-- A word of packet RAM, little-endian, and its write. -/
def State.pword (s : State) (n off : Nat) : Word :=
  BitVec.ofNat 32 (ofLe ((List.range 4).map fun i => (s.pbyte (pramAt n (off + i))).toNat))
def State.setPword (s : State) (n off : Nat) (w : Word) : State :=
  s.each (List.range 4) fun i s => s.setPbyte (pramAt n (off + i)) (BitVec.ofNat 8 (w.toNat / 2 ^ (8 * i)))

/-- Bytes of a buffer, and their write. -/
def State.pbytes (s : State) (n off len : Nat) : List Nat := (List.range len).map fun i => (s.pbyte (pramAt n (off + i))).toNat
def State.setPbytes (s : State) (n off : Nat) (l : List Nat) : State :=
  s.each (l.zip (List.range l.length)) fun e s => s.setPbyte (pramAt n (off + e.2)) (BitVec.ofNat 8 e.1)

/-- Sets bit 31, OWN, of a descriptor's first word to 0. -/
def clearOwn (n d : Nat) (s : State) : State := s.setPword n d (s.pword n d &&& 0x7FFFFFFF)

/-- OWN of a descriptor. -/
def State.own (s : State) (n d : Nat) : Bool := (s.pword n d).getLsbD 31

/-- The head of a transmit queue, and its descriptor. -/
def txHeadFld (n q : Nat) : Fld := ⟨atNET n 0xC, 6 * q + 5, 6 * q⟩
def State.txDesc (s : State) (n q : Nat) : Nat := 0x400 * q + 16 * s.get (txHeadFld n q)
/-- The head of the receive ring. -/
def State.rxDesc (s : State) (n : Nat) : Nat := 0x1000 + 32 * s.get (F.RD_NET_RXHEAD_HEAD n)

/-- A port's record. -/
def State.net (s : State) (n : Nat) : NetPort := Tab.get (fun _ => {}) s.nets n
def State.setNet (s : State) (n : Nat) (f : NetPort → NetPort) : State :=
  { s with nets := Tab.set (fun _ => {}) n (f (s.net n)) s.nets }

/-! ### The wheel (R428 to R432) -/

/-- The wheel runs: there is a raster and WHEEL_EN is in force. -/
def State.wheelOn (s : State) : Bool := s.rasterValid && s.on F.RD_WHEEL_CTRL_WHEEL_EN

/-- Entry `e` of bank `b`: duration and gates. -/
def State.wheelEntry (s : State) (b e : Nat) : Nat × Nat :=
  let w := (s.rd (atWHEEL (0x100 + 0x100 * b + 4 * e))).toNat
  (w % 2 ^ 24, w / 2 ^ 24)

/-- Gates in force. -/
def State.gates (s : State) : Nat := if s.wheelOn then s.wheel.mask else 0xFF

/-- CYCLE as used. -/
def cycleOf (w : Word) : Nat := max 1 (F.RD_WHEEL_CTRL_CYCLE.of w)

/-- STATE of RD_WHEEL_STATUS (R445). -/
def State.wheelState (s : State) : Nat := if !s.rasterValid then 0 else if s.on F.RD_WHEEL_CTRL_WHEEL_EN then 2 else 1

/-- STATE and BANK_ACT (R445). -/
def showWheel (s : State) : State :=
  (s.put F.RD_WHEEL_STATUS_STATE s.wheelState).put F.RD_WHEEL_STATUS_BANK_ACT (s.get F.RD_WHEEL_CTRL_BANK)

/-- A commit whose BASE is not below the shortest frame is refused (R428). -/
def State.wheelRefuse (s : State) (w : Word) : Bool := frameMin s.raster.num s.raster.den ≤ F.RD_WHEEL_CTRL_BASE.of w

/-- A committed wheel word waits for the first cycle start reckoned with it; with WHEEL_EN = 0, or without a raster, it applies at once (R432). -/
def wheelCommit (w : Word) (s : State) : State :=
  if s.rasterValid && F.RD_WHEEL_CTRL_WHEEL_EN.of w = 1 then { s with wheel := { s.wheel with next := some w } }
  else showWheel { s.wr (atWHEEL 0) w with wheel := { s.wheel with next := none, late := none } }

/-- Does a cycle under word `w` start within the current frame (R428)? -/
def State.cycleHere (s : State) (w : Word) : Bool :=
  s.raster.fnum % cycleOf w == 0 && (F.RD_WHEEL_CTRL_BASE.of w : Int) < s.frameTicks

/-- The cycle that starts next in the current frame: its word and the tick. A cycle left over from the last frame comes first, at tick 0; a committed
word's first cycle takes the place of one under the word in force that would start no earlier. -/
def State.nextCycle (s : State) : Option (Word × Nat) :=
  let now := s.rd (atWHEEL 0)
  let base := fun (w : Word) => F.RD_WHEEL_CTRL_BASE.of w
  let old := if s.wheelOn && !s.wheel.done && s.cycleHere now then some (now, base now) else none
  if !s.rasterValid then none
  else match s.wheel.late with
    | some w => some (w, 0)
    | none => match s.wheel.next with
      | none => old
      | some w =>
        if !s.cycleHere w then old
        else match old with
          | some o => if o.2 < base w then old else some (w, base w)
          | none => some (w, base w)

/-- A frame ends: a cycle that has not started in it is due at the start of the next (R428). -/
def wheelTurn (s : State) : State :=
  let now := s.rd (atWHEEL 0)
  let due := fun (w : Word) => s.raster.fnum % cycleOf w == 0
  let late := match s.wheel.next with
    | some w => if due w then some w else if s.wheelOn && !s.wheel.done && due now then some now else none
    | none => if s.wheelOn && !s.wheel.done && due now then some now else none
  { s with wheel := { s.wheel with late := late, done := false } }

/-- What a cycle start does to the heads that wait (R431): full cycles in which no pause was in force count. -/
def cycleWaits (n : Nat) (s : State) : State :=
  let p := s.net n
  let waits := (List.range 4).foldl (fun t q =>
    let k := Tab.get (fun _ => 0) t q
    let k := if !s.own n (s.txDesc n q) then 0 else if k = 0 then 1 else if p.pausedInCycle then k else k + 1
    Tab.set (fun _ => 0) q k t) p.waits
  s.setNet n fun p => { p with waits := waits, pausedInCycle := n == 1 && s.on (F.RD_NET_STATUS_PAUSED 1) }

/-- A cycle under word `w` starts at tick `n` of the frame: the word is in force, and the list starts at entry 0. DEDUCED (log entry 45): an empty
list leaves the gates at a free value. -/
def wheelStart (w : Word) (n : Nat) (s : State) : State :=
  let s := reachTick n s
  let s := { s.wr (atWHEEL 0) w with wheel := { s.wheel with
    next := if s.wheel.next = some w then none else s.wheel.next, entryAt := s.raster.ticks + n - s.raster.tickIn,
    late := none, done := s.wheel.done || s.wheel.late.isNone } }
  let (dur, gates) := s.wheelEntry (F.RD_WHEEL_CTRL_BANK.of w) 0
  let (x, s') := s.draw
  let s := if dur = 0 then { s' with wheel := { s'.wheel with mask := x.toNat % 256 } } else { s with wheel := { s.wheel with mask := gates } }
  cycleWaits 1 (cycleWaits 0 (showWheel (s.put F.RD_WHEEL_STATUS_ENTRY 0)))

/-- Row WHEEL_CYCLE_START: the next cycle of the current frame starts, at BASE (R428). -/
def opWheelCycle (s : State) : State :=
  match s.nextCycle with
  | none => s
  | some (w, n) => wheelStart w n s

/-- Row WHEEL_ENTRY_CHANGE: the wheel moves to the next entry of the list, at the end of the current one's DUR; after the last one its gates stay. An
entry that would start after the frame, or after the next cycle start, does not (R429). -/
def opWheelEntry (s : State) : State :=
  let b := s.get F.RD_WHEEL_CTRL_BANK
  let e := s.get F.RD_WHEEL_STATUS_ENTRY
  let (dur, gates) := s.wheelEntry b (e + 1)
  let start := s.wheel.entryAt + (s.wheelEntry b e).1
  let n := s.raster.tickIn + (start - s.raster.ticks)
  let cut := match s.nextCycle with | some (_, t) => t ≤ n | none => false
  if !s.wheelOn || (s.wheelEntry b e).1 = 0 || 63 ≤ e || dur = 0 || cut || s.frameTicks ≤ n then s
  else
    let s := reachTick n (s.put F.RD_WHEEL_STATUS_ENTRY (e + 1))
    { s with wheel := { s.wheel with mask := gates, entryAt := start } }

/-- Row WHEEL_BANK_WRITE: entry `e` of bank `b`; the bank in force is refused. -/
def opWheelBankWrite (b e : Nat) (val : Word) (s : State) : State :=
  if 1 < b || 63 < e then s
  else if s.get F.RD_WHEEL_CTRL_BANK == b then s.raise F.RD_WHEEL_STATUS_WHEEL_REFUSED 5
  else s.wr (atWHEEL (0x100 + 0x100 * b + 4 * e)) val

/-- Entries of a list from entry `e` on, from offset `t`: each entry's start and gates. -/
def State.wheelList (s : State) (b : Nat) : Nat → Nat → Nat → List (Nat × Nat)
  | 0, _, _ => []
  | k + 1, e, t =>
    let (dur, gates) := s.wheelEntry b e
    if dur = 0 then [] else (t, gates) :: s.wheelList b k (e + 1) (t + dur)

/-- Ticks from now to the cycle start of word `w` in frame `j` from the current one; `here`: it may still start in the current frame. -/
def State.cycleIn (s : State) (w : Word) (here : Bool) (j : Nat) : Option Nat :=
  let b := F.RD_WHEEL_CTRL_BASE.of w
  let t := s.raster.tickIn
  if (s.raster.fnum + j) % cycleOf w != 0 then none
  else if j = 0 then (if !here || b < t then none else some (if s.cycleHere w then b - t else s.raster.ticksLeft))
  else let len := frameMin s.raster.num s.raster.den; some (s.raster.ticksLeft + (j - 1) * len + min b len)

/-- The cycle starts ahead as the wheel stands, over two longest cycles: ticks from now, and the word. -/
def State.cycleStarts (s : State) : List (Nat × Word) :=
  let now := s.rd (atWHEEL 0)
  let starts := fun (w : Word) (here : Bool) => (List.range 17).filterMap (s.cycleIn w here)
  let old := starts now (!s.wheel.done)
  let ahead := match s.wheel.next with
    | none => old.map fun t => (t, now)
    | some w =>
      let l := starts w true
      (old.filter fun t => t < l.headD 0).map (fun t => (t, now)) ++ l.map fun t => (t, w)
  match s.wheel.late with | some w => (0, w) :: ahead | none => ahead

/-- The gate changes ahead, in ticks from now: the rest of this cycle's list, then each cycle's until the next. -/
def State.gateChanges (s : State) : List (Nat × Nat) :=
  let e := s.get F.RD_WHEEL_STATUS_ENTRY
  let b := s.get F.RD_WHEEL_CTRL_BANK
  let gone := s.raster.ticks - s.wheel.entryAt
  let rest := (s.wheelList b (64 - e) e 0).drop 1 |>.map fun x => (x.1 - gone, x.2)
  let starts := s.cycleStarts
  let ends := (starts.drop 1).map (·.1)
  (rest.filter fun x => match starts with | c :: _ => x.1 < c.1 | [] => true) ++
    starts.zipIdx.flatMap fun c =>
      ((s.wheelList (F.RD_WHEEL_CTRL_BANK.of c.1.2) 64 0 0).map fun x => (c.1.1 + x.1, x.2)).filter fun x =>
        match ends[c.2]? with | some u => x.1 < u | none => true

/-- Ticks until the gate of a queue closes next, none where no closing lies ahead. -/
def State.gateCloses (s : State) (g : Nat) : Option Nat :=
  if s.wheelOn then (s.gateChanges.find? fun x => !x.2.testBit g).map (·.1) else none

/-! ### Sending (R419, R422 to R424, R430, R431, R436) -/

/-- The FCS of a frame: the CRC-32, least significant byte first. -/
def fcsOf (l : List Nat) : List Nat := leBytes 4 (crc32 l)

/-- A queue's head frame as it goes on the wire (R422, R423). -/
def State.txFrame (s : State) (n q : Nat) : List Nat :=
  let d := s.txDesc n q
  let w0 := s.pword n d
  let raw := s.pbytes n (s.pword n (d + 4)).toNat (w0.toNat % 65536)
  if s.on (F.RD_NET_CTRL_TX_FCS n) then raw
  else
    let tci := (s.pword n (d + 8)).toNat % 65536
    let raw := if w0.getLsbD 29 then raw.take 12 ++ [0x81, 0x00, tci / 256, tci % 256] ++ raw.drop 12 else raw
    let raw := raw ++ List.replicate (60 - raw.length) 0
    raw ++ fcsOf raw

/-- Why a descriptor ends without being sent: 5 REFUSED, 1 TOO_LONG, 0 not at all (R423). -/
def State.txRefusal (s : State) (n q : Nat) : Nat :=
  let w0 := s.pword n (s.txDesc n q)
  let fcs := s.on (F.RD_NET_CTRL_TX_FCS n)
  if fcs && (w0.getLsbD 29 || w0.toNat % 65536 < 64) then 5
  else if s.get (F.RD_NET_CTRL_MAXLEN n) < (s.txFrame n q).length then 1
  else 0

/-- The head descriptor of a queue ends: word 3 is written, OWN cleared, and the next becomes head. -/
def txEnd (n q result : Nat) (tsLost : Bool) (attempts : Nat) (s : State) : State :=
  let d := s.txDesc n q
  let w3 : Nat := 2 ^ 31 + (if tsLost then 2 ^ 30 else 0) + result * 2 ^ 26 + (if n = 0 then attempts % 32 else 0)
  let s := clearOwn n d (s.setPword n (d + 12) (BitVec.ofNat 32 w3))
  let s := s.put (txHeadFld n q) (s.get (txHeadFld n q) + 1)
  s.setNet n fun p => { p with tx := none, tries := Tab.set (fun _ => 0) q 0 p.tries, waits := Tab.set (fun _ => 0) q 0 p.waits }

/-- Nanoseconds of a frame on the wire: (8 + L + 12) * 8 bit times. -/
def wireNs (n len : Nat) : Nat := (8 + len + 12) * 8 * (if n = 0 then 100 else 1)

/-- Can a queue's head frame start (R430)? -/
def State.canStart (s : State) (n q : Nat) : Bool :=
  s.gates.testBit (4 * n + q) &&
    match s.gateCloses (4 * n + q) with
    | some t => 2 * wireNs n (s.txFrame n q).length ≤ 5 * t
    | none => true

/-- Row NET_TX_FRAME: the highest-numbered queue whose head can start does; a head that is not valid ends at once. `busy`: port 0's medium. -/
def opNetTx (n : Nat) (busy : Bool) (s : State) : State :=
  let p := s.net n
  if 1 < n || !s.on (F.RD_NET_CTRL_EN n) || p.tx.isSome || (n == 1 && s.on (F.RD_NET_STATUS_PAUSED 1)) || (n == 0 && (busy || p.backoff.isSome))
  then s
  else match [3, 2, 1, 0].find? (fun q => s.own n (s.txDesc n q) && (s.txRefusal n q != 0 || s.canStart n q)) with
    | none => s
    | some q =>
      if s.txRefusal n q ≠ 0 then txEnd n q (s.txRefusal n q) false 0 s
      else
        let lat := if n = 1 then s.get (F.RD_NET_LAT_TX_LAT 1) else 0
        let (sec, ns) := ptpNorm s.ptp.sec ((s.ptp.ns + lat : Nat) : Int)
        let s' := s.setNet n fun p => { p with tx := some ⟨q, Tab.get (fun _ => 0) p.tries q + 1, sec, ns⟩ }
        s'.send (.net n (s.txFrame n q))

/-- A pause that waited for the end of the frame starts. -/
def pauseBegin (n : Nat) (s : State) : State :=
  if n = 1 && (s.net 1).pauseNext then
    (s.setNet 1 fun p => { p with pauseNext := false, pausedInCycle := true }).put (F.RD_NET_STATUS_PAUSED 1) 1
  else s

/-- Row NET_TX_DONE: the frame's last bit has been sent. -/
def opNetTxDone (n : Nat) (s : State) : State :=
  match (s.net n).tx with
  | none => s
  | some x =>
    let w0 := s.pword n (s.txDesc n x.queue)
    let tag := (s.pword n (s.txDesc n x.queue + 4)).toNat / 2 ^ 24
    let want := w0.getLsbD 30
    let full := 32 ≤ (s.net n).txts.length
    let s := if want && !full then s.setNet n fun p => { p with txts := p.txts ++ [(tag, x.sec, x.ns)] } else s
    let s := if want && full then (s.raise (F.RD_NET_STATUS_TS_OVF n) 2).inc (F.RD_NET_CNT3_TS_OVF_N n) else s
    pauseBegin n ((txEnd n x.queue 0 (want && full) x.attempts s).bump (F.RD_NET_CNT0_TX_N n))

/-- Row NET_COLLISION on port 0: `late` after the first 512 bits. The back-off is a free value within its range (R424). -/
def opNetCollision (late : Bool) (s : State) : State :=
  match (s.net 0).tx with
  | none => s
  | some x =>
    let s := s.inc (F.RD_NET_CNT3_COLL_N 0)
    if late then (txEnd 0 x.queue 3 false x.attempts s).inc (F.RD_NET_CNT3_LATECOL_N 0)
    else if 16 ≤ x.attempts then (txEnd 0 x.queue 2 false x.attempts s).inc (F.RD_NET_CNT3_EXCOL_N 0)
    else
      let (w, s) := s.draw
      s.setNet 0 fun p => { p with tx := none, tries := Tab.set (fun _ => 0) x.queue x.attempts p.tries,
                                   backoff := some (x.queue, w.toNat % 2 ^ min x.attempts 10) }

/-- Row BACKOFF_EXPIRY: the retry waits for its gate. -/
def opBackoffExpiry (s : State) : State := s.setNet 0 fun p => { p with backoff := none }

/-- Row NO_WINDOW: the head frame of queue `q` has not started within two full cycles. -/
def opNoWindow (n q : Nat) (s : State) : State :=
  let p := s.net n
  let flying := match p.tx with | some x => x.queue == q | none => false
  if 3 < q || 1 < n || flying || !s.own n (s.txDesc n q) || Tab.get (fun _ => 0) p.waits q < 3 then s
  else (txEnd n q 4 false (Tab.get (fun _ => 0) p.tries q) s).inc (F.RD_NET_CNT2_NOWIN_N n)

/-! ### PAUSE (R426, R427) -/

/-- Row PAUSE_RX on port 1 with time `q`. -/
def opPauseRx (q : Nat) (s : State) : State :=
  if !s.on (F.RD_NET_CTRL_EN 1) then s
  else if !s.on (F.RD_NET_CTRL_PAUSE_EN 1) then s.inc (F.RD_NET_CNT2_PAUSE_N 1)
  else if q = 0 then (s.setNet 1 fun p => { p with pauseNext := false }).put (F.RD_NET_STATUS_PAUSED 1) 0
  else
    let s := s.setNet 1 fun p => { p with pauseNext := true }
    if (s.net 1).tx.isSome then s else pauseBegin 1 s

/-- Row PAUSE_EXPIRY. -/
def opPauseExpiry (s : State) : State := s.put (F.RD_NET_STATUS_PAUSED 1) 0

/-- The port's address, first byte on the wire first. -/
def State.macBytes (s : State) (n : Nat) : List Nat :=
  let m := s.get (F.RD_NET_MAC_HI_MAC n) * 2 ^ 32 + s.get (F.RD_NET_MAC_LO_MAC n)
  (leBytes 6 m).reverse

/-- The address of PAUSE frames. -/
def pauseAddr : List Nat := [0x01, 0x80, 0xC2, 0x00, 0x00, 0x01]

/-- A PAUSE frame with time `t`. -/
def State.pauseFrame (s : State) (t : Nat) : List Nat :=
  let l := pauseAddr ++ s.macBytes 1 ++ [0x88, 0x08, 0x00, 0x01, t / 256, t % 256] ++ List.replicate 42 0
  l ++ fcsOf l

/-- Receive descriptors that the GN-8 owns. -/
def State.rxOwned (s : State) (n : Nat) : Nat := ((List.range 128).filter fun i => s.own n (0x1000 + 32 * i)).length

/-- Row FLOW_PAUSE_SEND on port 1. -/
def opFlowPause (s : State) : State :=
  let k := s.rxOwned 1
  let on := s.on (F.RD_NET_STATUS_XOFF_SENT 1)
  if !s.on (F.RD_NET_CTRL_EN 1) || !s.on (F.RD_NET_CTRL_FLOW_EN 1) then s
  else if k < s.get (F.RD_NET_FLOW_XOFF 1) || (on && k < s.get (F.RD_NET_FLOW_XON 1)) then
    (s.send (.net 1 (s.pauseFrame (s.get (F.RD_NET_FLOW_PAUSE_TIME 1))))).put (F.RD_NET_STATUS_XOFF_SENT 1) 1
  else if on then (s.send (.net 1 (s.pauseFrame 0))).put (F.RD_NET_STATUS_XOFF_SENT 1) 0
  else s

/-! ### Receiving (R420 to R423, R435) -/

/-- Does the port's filter accept a destination address (R421)? -/
def State.accepts (s : State) (n : Nat) (da : List Nat) : Bool :=
  da == s.macBytes n || da == List.replicate 6 0xFF || (da.headD 0 % 2 == 1 && s.on (F.RD_NET_CTRL_MCAST n)) || s.on (F.RD_NET_CTRL_PROMISC n)

/-- Is the frame's FCS right? -/
def fcsGood (l : List Nat) : Bool := fcsOf (l.take (l.length - 4)) == l.drop (l.length - 4)

/-- A MAC Control frame (R421, R424, R426). -/
def macControl (n : Nat) (l : List Nat) (s : State) : State :=
  let da := l.take 6
  let pause := (l.drop 14).take 2 == [0, 1] && fcsGood l && (da == pauseAddr || da == s.macBytes n)
  if !pause then s.inc (F.RD_NET_CNT2_MACCTL_N n)
  else if n = 0 then s.inc (F.RD_NET_CNT2_PAUSE_N 0)
  else opPauseRx (l.getD 16 0 * 256 + l.getD 17 0) s

/-- Delivers a frame into the head descriptor (R420). -/
def deliver (n : Nat) (data : List Nat) (tci : Option Nat) (bad : Bool) (s : State) : State :=
  let d := s.rxDesc n
  let lat := if n = 1 then s.get (F.RD_NET_LAT_RX_LAT 1) else 0
  let (sec, ns) := ptpNorm s.ptp.sec ((s.ptp.ns : Int) - lat)
  let s := s.setPbytes n (s.pword n d).toNat data
  let size := (s.pword n (d + 4)).toNat % 65536
  let w2 : Nat := 2 ^ 31 + (if bad then 2 ^ 30 else 0) + (if tci.isSome then 2 ^ 29 else 0) + tci.getD 0
  let s := (s.setPword n (d + 4) (BitVec.ofNat 32 (data.length * 65536 + size))).setPword n (d + 8) (BitVec.ofNat 32 w2)
  let s := (s.setPword n (d + 12) (BitVec.ofNat 32 sec)).setPword n (d + 16) (BitVec.ofNat 32 ns)
  let s := clearOwn n d (s.setPword n (d + 20) (BitVec.ofNat 32 (sec / 2 ^ 32)))
  (s.bump (F.RD_NET_RXHEAD_HEAD n)).bump (F.RD_NET_CNT0_RX_N n)

/-- Row NET_RX_FRAME: a frame from its destination address to its FCS arrives. -/
def opNetRx (n : Nat) (l : List Nat) (s : State) : State :=
  if 1 < n || !s.on (F.RD_NET_CTRL_EN n) || !s.accepts n (l.take 6) then s
  else if l.length < 64 then s.inc (F.RD_NET_CNT1_RUNT_N n)
  else if s.get (F.RD_NET_CTRL_MAXLEN n) < l.length then s.inc (F.RD_NET_CNT1_LONG_N n)
  else if (l.drop 12).take 2 == [0x88, 0x08] then macControl n l s
  else
    let good := fcsGood l
    let raw := s.on (F.RD_NET_CTRL_RX_FCS n)
    if !good && !raw then s.inc (F.RD_NET_CNT1_FCS_N n)
    else if !s.own n (s.rxDesc n) then s.inc (F.RD_NET_CNT1_NODESC_N n)
    else
      let strip := s.on (F.RD_NET_CTRL_VLAN_STRIP n) && (l.drop 12).take 2 == [0x81, 0x00]
      let data := if raw then l else l.take (l.length - 4)
      let tci := if strip then some (l.getD 14 0 * 256 + l.getD 15 0) else none
      let data := if strip then data.take 12 ++ data.drop 16 else data
      if (s.pword n (s.rxDesc n + 4)).toNat % 65536 < data.length then s.inc (F.RD_NET_CNT2_OVERSIZE_N n)
      else deliver n data tci (raw && !good) s

/-! ### Timestamps and MDIO (R443, R444) -/

/-- Row TXTS_POP. -/
def opTxtsPop (n : Nat) (s : State) : State :=
  let a := atNET n
  match (s.net n).txts with
  | [] => s.captureWords 0 [(a 0x34, 0), (a 0x38, 0)]
  | (tag, sec, ns) :: t =>
    let w := (F.RD_NET_TXTS_POP_SEC_HI n).into ((F.RD_NET_TXTS_POP_TS_TAG n).into ((F.RD_NET_TXTS_POP_VALID n).into 0 1) tag) (sec / 2 ^ 32)
    (s.setNet n fun p => { p with txts := t }).captureWords w [(a 0x34, sec % 2 ^ 32), (a 0x38, ns)]

/-- Row MDIO_CMD: the word written to RD_NET_MDIO_CMD; ignored during an operation. -/
def opMdioCmd (val : Word) (s : State) : State :=
  let op := (F.RD_NET_MDIO_CMD_OP 1).of val
  if (s.net 1).mdio.isSome || !(op == 1 || op == 2) then s
  else
    (s.setNet 1 fun p => { p with mdio := some val }).send
      (.mdio op ((F.RD_NET_MDIO_CMD_PHYAD 1).of val) ((F.RD_NET_MDIO_CMD_REGAD 1).of val) (if op = 1 then (F.RD_NET_MDIO_CMD_DATA 1).of val else 0))

/-- Row MDIO_DONE: a read returned `data`. -/
def opMdioDone (data : Nat) (s : State) : State :=
  match (s.net 1).mdio with
  | none => s
  | some w =>
    let s := s.setNet 1 fun p => { p with mdio := none }
    let s := if (F.RD_NET_MDIO_CMD_OP 1).of w = 2 then s.put (F.RD_NET_MDIO_RESULT_DATA 1) data else s
    (s.put (F.RD_NET_MDIO_RESULT_VALID 1) 1).bump (F.RD_NET_MDIO_RESULT_SEQ 1)

end Sys2Proof.Machine
end

