-- ==== Sys2Proof/Machine/Audio.lean ====
section
/-!
DEFINITION. The audio ports (chapter 16): monitors, rates, the delay line, ramps, alignment, groups and timestamps. Times are raster ticks.
-/

namespace Sys2Proof.Machine

open Sys2Proof

def State.aud (s : State) (n : Nat) : Aud := Tab.get (fun _ => {}) s.auds n
def State.setAud (s : State) (n : Nat) (f : Aud → Aud) : State := { s with auds := Tab.set (fun _ => {}) n (f (s.aud n)) s.auds }

/-- The rates of R451 in Hz, by FS code. -/
def fsHz (c : Nat) : Nat := [0, 32000, 44100, 48000, 88200, 96000, 176400, 192000].getD c 0

/-- R_F of R459. -/
def rampLen (fs : Nat) : Nat := (fsHz fs + 500) / 1000

/-- Word-select format: one monitor acts as both. -/
def State.wordSelect (s : State) (n : Nat) : Bool := s.on (F.RD_AUD_CTRL_FORMAT n)
def State.audOut (s : State) (n : Nat) : AudMon := if s.wordSelect n then (s.aud n).inp else (s.aud n).outp

/-- Both rates are adopted and equal (R455). -/
def State.audRates (s : State) (n : Nat) : Bool := (s.aud n).inp.rate != 0 && (s.aud n).inp.rate == (s.audOut n).rate

/-- The output plays: its monitor is good and the rates agree. -/
def State.audPlays (s : State) (n : Nat) : Bool := s.on (F.RD_AUD_CTRL_EN n) && s.audRates n && (s.audOut n).ok

/-- STATE and FS (R465). -/
def showAud (n : Nat) (s : State) : State :=
  let i := (s.aud n).inp
  let o := s.audOut n
  let st :=
    if !s.on (F.RD_AUD_CTRL_EN n) then 0
    else if i.unsupported || o.unsupported then 4
    else if i.rate = 0 || o.rate = 0 then 1
    else if i.rate ≠ o.rate || !i.ok || !o.ok then 3
    else 2
  (s.put (F.RD_AUD_STATUS_STATE n) st).put (F.RD_AUD_STATUS_FS n) (if i.rate = o.rate then i.rate else 0)

/-! ### The delay (R458, R461) -/

/-- D of a port in ns before the clamp. -/
def State.audD (s : State) (n : Nat) : Int :=
  (if s.on (F.RD_AUD_CTRL_AUTO_LAT n) then (s.get F.RD_PRES_LAT_PRES_LAT : Int) else 0) + s.getI (F.RD_AUD_ADJ_ADJ n)

/-- D_F from a D. -/
def framesOf (d : Int) (fs : Nat) : Nat := ((clampI 0 2000000000 d).toNat * fsHz fs + 500000000) / 1000000000

/-- The running members of a port's group, lowest first. -/
def State.audGroup (s : State) (n : Nat) : List Nat :=
  (List.range 4).filter fun m =>
    s.on (F.RD_AUD_CTRL_GROUP_EN m) && s.get (F.RD_AUD_CTRL_GROUP m) == s.get (F.RD_AUD_CTRL_GROUP n) && s.get (F.RD_AUD_STATUS_STATE m) == 2

/-- Puts a D_F in force. -/
def setDf (n v : Nat) (s : State) : State :=
  ((s.put (F.RD_AUD_DELAY_D_F n) v).put (F.RD_AUD_DELAY_VALID n) 1).bump (F.RD_AUD_DELAY_SEQ n)

/-- Row AUDIO_DELAY_RECOMPUTE: D and D_F. A member of an alignment group takes the lowest running member's, unless its rate differs. A port that plays
ramps down first. -/
def opAudioDelay (n : Nat) (s : State) : State :=
  let fs := (s.audOut n).rate
  let lead := if s.on (F.RD_AUD_CTRL_GROUP_EN n) then (s.audGroup n).headD n else n
  let differs := lead != n && fs != 0 && (s.audOut lead).rate != fs
  let m := if differs then n else lead
  let s := if differs then s.flag (F.RD_AUD_STATUS_GROUP_RATE n) else s
  let d := s.audD m
  let s := if d < 0 || 2000000000 < d then s.flag (F.RD_AUD_STATUS_DELAY_CLAMP n) else s
  let v := framesOf d fs
  if 3 < n || fs = 0 then s
  else if s.audPlays n && s.on (F.RD_AUD_DELAY_VALID n) && (s.aud n).next.isSome && s.get (F.RD_AUD_DELAY_D_F n) != v then
    (s.setAud n fun a => { a with dfNext := some v, realign := true }).inc (F.RD_AUD_COUNT_REALIGN n)
  else setDf n v s

/-- D_F after a commit of ADJ: the port's, and that of the others of its group, which follow its lowest running member. -/
def audGroupDelay (n : Nat) (s : State) : State :=
  let mates := if s.on (F.RD_AUD_CTRL_GROUP_EN n) then (s.audGroup n).filter (· != n) else []
  (opAudioDelay n s).each mates opAudioDelay

/-! ### A re-mould that moves a delay line (R462) -/

/-- The image a tile would switch to: the one it armed, or the one staged over the chain. -/
def State.tileImage (s : State) : Option MouldImage := if s.rmState = rmArmed then s.mould.staged else s.nv.staging

/-- The image for which GO stands. -/
def State.coming (s : State) : Option MouldImage :=
  if s.isSender then (if s.rmState = rmGoSent then s.mould.staged else none)
  else if s.mould.goFor.isSome then s.tileImage else none

/-- Where an image puts a port's delay line (R460). -/
def audPlace (m : MouldImage) (n : Nat) : Option AudioCfg := m.audio.find? (·.port == n)

/-- The port's delay line moves with the switch that is coming: it ramps down before. -/
def State.audMoves (s : State) (n : Nat) : Bool :=
  match s.mould.loaded, s.coming with
  | some old, some new => audPlace old n != audPlace new n
  | _, _ => false

/-- At the switch a line that moves restarts empty. -/
def audSwitch (old new : MouldImage) (s : State) : State :=
  s.each ((List.range 4).filter fun n => audPlace old n != audPlace new n) fun n s =>
    s.setAud n fun a => { a with line := [], next := none, gain := 0, realign := false, late := [] }

/-! ### Monitors (R454, R455) -/

/-- Applies a change to a monitor: the input's, or the output's. -/
def setMon (n : Nat) (out : Bool) (f : AudMon → AudMon) (s : State) : State :=
  s.setAud n fun a => if out then { a with outp := f a.outp } else { a with inp := f a.inp }

/-- A monitor's run of agreeing periods after one more. -/
def AudMon.more (m : AudMon) (p : Nat) : AudMon :=
  if 0 < m.run && (max m.most p - min m.least p) * 1000 ≤ max m.most p then
    { m with run := m.run + 1, least := min m.least p, most := max m.most p, sum := m.sum + p }
  else { m with run := 1, least := p, most := p, sum := p }

/-- The received frames before an interruption fade out: the last R_F received that have not been sent (R459). -/
def fadeIn (n : Nat) (s : State) : State :=
  let a := s.aud n
  let rf := rampLen a.inp.rate
  let base := a.got - a.line.length
  let line := (a.line.zip (List.range a.line.length)).map fun e =>
    let i := base + e.2
    if a.got ≤ i + rf && a.next.getD 0 ≤ i && e.1.fade.isNone then { e.1 with fade := some (a.got - i) } else e.1
  s.setAud n fun a => { a with line := line }

/-- Row AUDIO_MONITOR_EDGE: an edge of the input or output monitor, `period` raster ticks after the one before. -/
def opAudioEdge (n : Nat) (out : Bool) (period : Nat) (s : State) : State :=
  let out := out && !s.wordSelect n
  if 3 < n || !s.on (F.RD_AUD_CTRL_EN n) then s
  else
    let m := if out then (s.aud n).outp else (s.aud n).inp
    -- P and the period on one scale
    let p := 400000000
    let x := period * fsHz m.rate
    let dev := ((x : Int) - p).natAbs
    if m.rate = 0 || m.stopped then setMon n out (fun m => { m.more period with stopped := false, rate := 0, ok := false }) s
    else if p < dev * 8 then
      let m' := m.more period
      let was := m.ok
      let s := setMon n out (fun _ => { m' with ok := false, good := 0 }) s
      let s := if was && !out then fadeIn n s else s
      let s := (s.flag (F.RD_AUD_STATUS_GLITCH n)).inc (F.RD_AUD_COUNT_GLITCH_N n)
      let s := if m'.run = 64 then
          setMon n out (fun m => { m with rate := 0, run := 0 }) (s.raise (F.RD_AUD_STATUS_RATE_CHG n) 7) else s
      showAud n s
    else
      let near : Bool := decide (dev * 1000 ≤ p)
      let s := setMon n out (fun m =>
        let g := if m.ok then 0 else if near then m.good + 1 else 0
        { m with run := 0, good := if g = 64 then 0 else g, ok := m.ok || g == 64 }) s
      showAud n s

/-- Row AUDIO_MONITOR_STOP: no edge within 4 P. A monitor with no rate in force has no P, and nothing to stop. -/
def opAudioStop (n : Nat) (out : Bool) (s : State) : State :=
  let m := if out then s.audOut n else (s.aud n).inp
  if 3 < n || !s.on (F.RD_AUD_CTRL_EN n) || m.stopped || m.rate = 0 then s
  else
    let ws := s.wordSelect n
    let off := fun (m : AudMon) => { m with stopped := true, ok := false, run := 0, good := 0 }
    let s := if !out || ws then fadeIn n s else s
    let s := setMon n (out && !ws) off s
    let s := if out || ws then s.raise (F.RD_AUD_STATUS_OUT_STOP n) 6 else s
    showAud n (if !out || ws then s.raise (F.RD_AUD_STATUS_IN_STOP n) 6 else s)

/-- The rate code of R451 nearest to 64 periods that sum to `sum` ticks, if within 0.5 % of their mean. -/
def nearestRate (sum : Nat) : Option Nat :=
  let dist := fun c => ((fsHz c * sum : Nat) - (64 * 400000000 : Int)).natAbs
  let best := [2, 3, 4, 5, 6, 7].foldl (fun b c => if dist c < dist b then c else b) 1
  if dist best * 200 ≤ 64 * 400000000 then some best else none

/-- Row AUDIO_RATE_MEASURE: 64 agreeing periods have been measured. -/
def opAudioRate (n : Nat) (out : Bool) (s : State) : State :=
  let out := out && !s.wordSelect n
  let m := if out then (s.aud n).outp else (s.aud n).inp
  if 3 < n || !s.on (F.RD_AUD_CTRL_EN n) || m.rate ≠ 0 || m.run < 64 then s
  else match nearestRate (m.sum * 64 / m.run) with
    | none => showAud n (setMon n out (fun m => { m with unsupported := true, run := 0 }) s)
    | some c =>
      let s := setMon n out (fun m => { m with unsupported := false, rate := c, ok := true, run := 0, good := 0 }) s
      let i := (s.aud n).inp.rate
      let o := (s.audOut n).rate
      let s := if i ≠ 0 && o ≠ 0 && i ≠ o then (s.flag (F.RD_AUD_STATUS_RATE_DIFF n)).setAud n fun a => { a with differ := true } else s
      let s := if s.audRates n then
          (s.setAud n fun a => { a with next := none, gain := 0, realign := false, differ := false }).when (s.aud n).differ
            (·.inc (F.RD_AUD_COUNT_REALIGN n))
        else s
      opAudioDelay n (showAud n s)

/-! ### Timestamps (R463, R466) -/

/-- Writes a timestamp entry, or drops it where 16 are held. -/
def audStamp (n : Nat) (out : Bool) (block : Nat) (s : State) : State :=
  if 16 ≤ (s.aud n).ts.length then (s.raise (F.RD_AUD_STATUS_TS_OVF n) 8).inc (F.RD_AUD_COUNT2_TS_OVF_N n)
  else s.setAud n fun a => { a with ts := a.ts ++ [⟨out, block % 65536, s.ptp.sec, s.ptp.ns, s.raster.fnum, s.raster.rpos⟩] }

/-- Row AUDIO_TS_POP. -/
def opAudioTsPop (n : Nat) (s : State) : State :=
  let a := atAUD n
  match (s.aud n).ts with
  | [] => s.captureWords 0 [(a 0x64, 0), (a 0x68, 0), (a 0x6C, 0), (a 0x70, 0)]
  | x :: t =>
    let w := (F.RD_AUD_TS_POP_DIR n).into ((F.RD_AUD_TS_POP_VALID n).into 0 1) (if x.out then 1 else 0)
    let w := (F.RD_AUD_TS_POP_BLOCK n).into ((F.RD_AUD_TS_POP_SEC_HI n).into w (x.sec / 2 ^ 32)) x.block
    (s.setAud n fun a => { a with ts := t }).captureWords w
      [(a 0x64, x.sec % 2 ^ 32), (a 0x68, x.ns), (a 0x6C, x.fnum), (a 0x70, x.rpos)]

/-! ### Blocks in (R456, R457, R460) -/

/-- Subframes of a block in order. -/
def subframes (l : List (Nat × Nat × Nat)) : List Nat := l.flatMap fun e => [e.1, e.2.1]

/-- Is there a burst preamble: 0xF872 in bits [23:8] of a subframe and 0x4E1F in the next? -/
def burst : List Nat → Bool
  | x :: y :: t => (x / 256 % 65536 == 0xF872 && y / 256 % 65536 == 0x4E1F) || burst (y :: t)
  | _ => false

/-- Is a bit of a word set, as a number? -/
def bitAt (w i : Nat) : Nat := if w.testBit i then 1 else 0

/-- Bit `k` of RD_AUD_CS_OUT. -/
def State.csOut (s : State) (n k : Nat) : Nat := bitAt (s.get (F.RD_AUD_CS_OUT_CS n (k / 32))) (k % 32)

/-- Row AUDIO_BLOCK_RX: a block whose first frame arrives now; each frame gives both words and its flags. In word-select format the line carries no V, U or C. -/
def opAudioBlockRx (n : Nat) (frames : List (Nat × Nat × Nat)) (s : State) : State :=
  let a := s.aud n
  if 3 < n || !s.on (F.RD_AUD_CTRL_EN n) || a.inp.rate = 0 || !a.inp.ok then s
  else
    let ws := s.wordSelect n
    let frames := if ws then
        (frames.zip (List.range frames.length)).map fun e => (e.1.1, e.1.2.1, 36 * s.csOut n (e.2 % 192))
      else frames
    let non := bitAt ((frames.getD 1 (0, 0, 0)).2.2) 2 == 1 || burst (subframes frames)
    let gap := match a.line.getLast? with | some f => f.fade.isSome | none => true
    let add := (frames.zip (List.range frames.length)).map fun e =>
      ({ l := e.1.1 % 2 ^ 24, r := e.1.2.1 % 2 ^ 24, flags := e.1.2.2 % 64,
         tick := s.raster.ticks + e.2 * 400000000 / fsHz a.inp.rate, nonpcm := non, first := gap && e.2 == 0 } : AudFrame)
    let line := a.line ++ add
    let s := s.setAud n fun a =>
      { a with line := line.drop (line.length - 393216), got := a.got + add.length, blocksIn := a.blocksIn + 1 }
    let s := s.putB (F.RD_AUD_STATUS_NONPCM n) non
    let s := s.each (List.range 6) fun m s =>
      s.put (F.RD_AUD_CS_IN_CS n m)
        ((List.range 32).foldl (fun w i => w + bitAt ((frames.getD (32 * m + i) (0, 0, 0)).2.2) 2 * 2 ^ i) 0)
    audStamp n false a.blocksIn s

/-- Row AUDIO_CS_IN_READ (R465). -/
def opAudioCsRead (n : Nat) (s : State) : State :=
  s.captureRead (F.RD_AUD_CS_IN_CS n 0).addr ((List.range 5).map fun i => (F.RD_AUD_CS_IN_CS n (i + 1)).addr)

/-! ### Blocks out (R457 to R460) -/

/-- What the frames of an output block carry along. -/
structure AudPlay where
  next : Option Nat
  gain : Nat
  realign : Bool
  zeros : Nat := 0
  out : List (Nat × Nat × Nat) := []
  deriving DecidableEq, Repr

/-- A 24-bit sample scaled by g / rf, truncated toward zero. -/
def scaleSample (x g rf : Nat) : Nat := if g = rf || rf = 0 then x else ofInt 24 (Int.tdiv (toInt 24 x * (g : Int)) rf)

/-- The received frame a new alignment gives to the output frame at tick `t`: the one whose arrival lies nearest to `t` less the delay, if within half a
period; times and the period in units of 1 / (2 FS). -/
def nearestFrame (line : List AudFrame) (base : Nat) (want : Int) (half : Int) : Option Nat :=
  let step := fun (b : Option (Nat × Nat)) (e : AudFrame × Nat) =>
    let d := ((e.1.tick : Int) - want).natAbs
    match b with | some (_, m) => if d < m then some (base + e.2, d) else b | none => some (base + e.2, d)
  match (line.zip (List.range line.length)).foldl step none with
  | some (i, d) => if (d : Int) ≤ half then some i else none
  | none => none

/-- One output frame (R456 to R460): the frame carried, its ramp and its flags. -/
def playFrame (s : State) (n : Nat) (a : Aud) (fs df now free : Nat) (ue : List Nat) (k : Nat) (p : AudPlay) : AudPlay :=
  let rf := rampLen fs
  let period := 400000000 / max (fsHz fs) 1
  let t : Int := (now + k * 400000000 / max (fsHz fs) 1 : Nat)
  let want : Int := t - (df * 400000000 / max (fsHz fs) 1 : Nat)
  let base := a.got - a.line.length
  let p := if p.realign && p.gain = 0 then { p with next := none, realign := false } else p
  let pick := match p.next with | some i => some i | none => nearestFrame a.line base want ((period / 2 : Nat) + 1)
  let held := fun i => if i < base then none else a.line[i - base]?
  -- a frame after an interruption waits for its own delayed time
  let ready := match pick with
    | some i => (match held i with | some f => !f.first || f.tick ≤ (want + (period / 2 : Nat)).toNat | none => false)
    | none => false
  let fr := if ready then pick.bind held else none
  let bad := a.late.contains k || ue.contains k
  let on := s.audPlays n && !p.realign && !s.audMoves n
  let c := fun ch old => if s.on (F.RD_AUD_CTRL_CS_SRC n) then s.csOut n (k % 192) else old ch
  let loose := fun ch => if (Config.freeWord (free + (2 * k + ch) / 64)).getLsbD ((2 * k + ch) % 64) then 1 else 0
  let zero := (0, 0, 9 + 4 * c 0 loose + 32 * c 1 loose)
  let gain := if on then (if ready then min (p.gain + 1) rf else p.gain) else p.gain - 1
  let next := if ready then pick.map (· + 1) else p.next
  let p' := { p with next := next, gain := gain }
  match fr with
  | none => { p' with out := p.out ++ [zero] }
  | some f =>
    let first := f.first
    let g := if first && on then 0 else p.gain
    let p' := if first && on then { p' with gain := 1 } else p'
    let fade := f.fade.getD rf
    let ramped : Bool := g != rf || fade != rf
    let own := fun ch => bitAt f.flags (3 * ch + 2)
    let z := (0, 0, 9 + 4 * c 0 own + 32 * c 1 own)
    if bad then { p' with out := p.out ++ [z], zeros := p.zeros + (if ue.contains k then 1 else 0) }
    else if (f.nonpcm && (s.on (F.RD_AUD_CTRL_MUTE_NONPCM n) || ramped)) || (g = 0 && !on) then { p' with out := p.out ++ [z] }
    else
      let fl := f.flags % 4 + 4 * c 0 own + f.flags / 8 % 4 * 8 + 32 * c 1 own
      { p' with out := p.out ++ [(scaleSample (scaleSample f.l g rf) fade rf, scaleSample (scaleSample f.r g rf) fade rf, fl)] }

/-- ALIGN of R458: the block's first frame left at `now` and carries frame `f`. -/
def alignOf (now tick fs df : Nat) : Int := (16 * ((now : Int) - tick) * fsHz fs) / 400000000 - 16 * df

/-- Bits of a word that are set. -/
def onesIn (w n : Nat) : Nat := (List.range n).countP w.testBit

/-- A subframe of the biphase format (R451, R457): its preamble, 0 B, 1 M or 2 W, in the first four time slots, the 24-bit word, V, U, C, and P, which
makes the count of ones in slots 4 to 31 even. -/
def subframe (pre x f : Nat) : Nat :=
  let d := x % 2 ^ 24 + 2 ^ 24 * (f % 8)
  pre + 16 * (d + 2 ^ 27 * (onesIn d 27 % 2))

/-- The 32 bit periods of a word in word-select format, the first of them most significant (R452): the word follows by one BCLK, and zeros follow it. -/
def wsWord (x : Nat) : Nat := x % 2 ^ 24 * 2 ^ 7

/-- A block as it leaves on AUDn_TX. -/
def audLine (ws : Bool) (frames : List (Nat × Nat × Nat)) : List Nat :=
  frames.zipIdx.flatMap fun e =>
    if ws then [wsWord e.1.1, wsWord e.1.2.1]
    else [subframe (if e.2 = 0 then 0 else 1) e.1.1 (e.1.2.2 % 8), subframe 2 e.1.2.1 (e.1.2.2 / 8)]

/-- A block of substituted zeros while the output clock has a rate that is not supported (R455). -/
def zeroBlock (n : Nat) (s : State) : State :=
  let c := fun k ch => if s.on (F.RD_AUD_CTRL_CS_SRC n) then s.csOut n k
    else if (Config.freeWord (s.freeN + (2 * k + ch) / 64)).getLsbD ((2 * k + ch) % 64) then 1 else 0
  let out := (List.range 192).map fun k => (0, 0, 9 + 4 * c k 0 + 32 * c k 1)
  let s := ({ s with freeN := s.freeN + 6 } : State).send (.audio n (audLine (s.wordSelect n) out))
  audStamp n true (s.aud n).blocksOut (s.setAud n fun a => { a with next := none, gain := 0, late := [], blocksOut := a.blocksOut + 1 })

/-- Row AUDIO_OUTPUT_BLOCK: 192 output frames start now. `ue` lists frames read with an uncorrectable error. A realignment that has come about puts a new
D_F in force. -/
def opAudioOut (n : Nat) (ue : List Nat) (s : State) : State :=
  let a := s.aud n
  let fs := (s.audOut n).rate
  if 3 < n || !s.on (F.RD_AUD_CTRL_EN n) || (s.audOut n).stopped then s
  else if fs = 0 then (if (s.audOut n).unsupported then zeroBlock n s else s)
  else
    let now := s.raster.ticks
    let df := s.get (F.RD_AUD_DELAY_D_F n)
    let free := s.freeN
    let p := (List.range 192).foldl (fun p k => playFrame s n a fs df now free ue k p)
      { next := a.next, gain := a.gain, realign := a.realign }
    let s := { s with freeN := s.freeN + 6 }
    let done := a.realign && !p.realign
    let s := s.setAud n fun a => { a with next := p.next, gain := p.gain, realign := p.realign, late := [], blocksOut := a.blocksOut + 1,
                                          dfNext := if done then none else a.dfNext }
    let s := match a.dfNext with | some v => if done then setDf n v s else s | none => s
    let s := s.send (.audio n (audLine (s.wordSelect n) p.out))
    let s := s.addSat (F.RD_AUD_COUNT_ZERO_N n) p.zeros
    let s := audStamp n true a.blocksOut s
    match a.next with
    | none => s
    | some i =>
      match (if i < a.got - a.line.length then none else a.line[i - (a.got - a.line.length)]?) with
      | none => s
      | some f =>
        let al := alignOf now f.tick fs df
        let s := if s.wordSelect n then s else s.putI (F.RD_AUD_ALIGN_ALIGN n) al
        if !s.wordSelect n && 16 * max 1 (s.get (F.RD_AUD_CTRL_SLIP_LIM n)) < al.natAbs && s.audPlays n && !(s.aud n).realign && !f.first then
          (s.setAud n fun a => { a with realign := true }).inc (F.RD_AUD_COUNT_REALIGN n)
        else s

/-- Row AUDIO_UNDERRUN: frame `k` of the next output block has not been read when it is due. -/
def opAudioUnderrun (n k : Nat) (s : State) : State :=
  if 3 < n || !s.on (F.RD_AUD_CTRL_EN n) then s
  else (s.setAud n fun a => { a with late := a.late ++ [k] }).inc (F.RD_AUD_COUNT_UNDERRUN n)

/-- A write of RD_AUD_CTRL: a port switched off forgets its stream. -/
def audCtrl (n : Nat) (s : State) : State :=
  if s.on (F.RD_AUD_CTRL_EN n) then showAud n s
  else showAud n (s.setAud n fun a => { blocksIn := a.blocksIn, blocksOut := a.blocksOut, ts := a.ts })

end Sys2Proof.Machine
end

