-- ==== Sys2Proof/Machine/Failover.lean ====
section
/-!
DEFINITION. Hot standby and ring healing (chapter 14, R395 to R406, R411 to R414).
-/

namespace Sys2Proof.Machine

open Sys2Proof

/-- RD_FO_CFG as the tile reads it at a frame start (R411). -/
def foRead (s : State) : State := if s.isTile then { s with fo := { s.fo with cfg := s.rd F.RD_FO_CFG_REVERT.addr } } else s

/-! ### The picture direction of a tile -/

/-- ACTIVE and P of a tile: 1 for A, 2 for B (R413). -/
def State.foActive (s : State) : Nat := s.get (F.CH_FO_TILE_ACTIVE 0)
def State.foP (s : State) : Nat := s.get (F.CH_FO_TILE_PDIR 0)

/-- Is P direction B? -/
def State.pB (s : State) : Bool := s.foP == 2

/-- Changes ACTIVE (R405): the event, its count and its frame. -/
def setActive (x : Nat) (s : State) : State :=
  let s := { s with fo := { s.fo with adopted := true } }
  if s.foActive == x then s
  else
    let s := (s.put (F.CH_FO_TILE_ACTIVE 0) x).raise (F.CH_FO_TILE_EV_TAKEOVER_EV 0) 29
    (s.inc (F.CH_FO_TILE_EV_TAKEOVER_N 0)).put (F.CH_FO_LAST_TO_FNUM 0) s.raster.fnum

/-- Changes P: the frame, and the raster reference, whose next marker is judged afresh (R397, R118). -/
def setP (x : Nat) (s : State) : State :=
  if s.foP == x then s
  else
    let s := (s.put (F.CH_FO_TILE_PDIR 0) x).put (F.CH_FO_LAST_P_FNUM 0) s.raster.fnum
    let s := s.putB (F.CH_RASTER_STATE_DIR 0) (x == 2)
    { s with tileRas := { s.tileRas with fresh := true } }

/-- The re-evaluation of P at a frame start (R397). -/
def pictureDirection (s : State) : State :=
  if !s.isTile then s
  else if s.enum.origin == 3 then setP 1 s
  else
    let act := s.foActive
    let actUp := s.dirUp (act == 2)
    let otherUp := s.dirUp (act != 2)
    let healed := s.on (F.CH_FO_TILE_HEALED 0)
    let revert := F.RD_FO_CFG_REVERT.of s.fo.cfg
    if actUp && !healed then setP act s
    else if actUp then
      -- healed: back under Normal when P's direction is down, else by the revert rule
      if !otherUp || s.foP == act || (revert != 0 && revert ≤ s.fo.revertRun) then
        let s := setP act (s.put (F.CH_FO_TILE_HEALED 0) 0)
        { s with fo := { s.fo with revertRun := 0 } }
      else s
    else if otherUp then
      let s := if s.foP == act then
          (s.flag (F.CH_FO_TILE_EV_HEAL_EV 0)).inc (F.CH_FO_TILE_EV_HEAL_N 0) else s
      let s := setP (3 - act) (s.put (F.CH_FO_TILE_HEALED 0) 1)
      { s with fo := { s.fo with revertRun := 0 } }
    else s

/-! ### SEGDOWN (R396) -/

/-- The end of a tile's segment that a SEGDOWN names: the next tile on gave up the direction that this tile sends it, so that the tile's own transmitter
of that direction reaches no one (R154). Direction A leaves by port 1, B by port 0. -/
def segdownTx (arg : Nat) (s : State) : State :=
  let a := arg % 64
  if s.addr == 0 then s
  else if !arg.testBit 6 && a == s.addr + 1 then s.setPort 1 fun x => { x with txGivenUp := true }
  else if arg.testBit 6 && a + 1 == s.addr then s.setPort 0 fun x => { x with txGivenUp := true }
  else s

/-- Row SEGDOWN: a set that travels in the direction it names came from upstream and puts that direction down. -/
def opSegdown (p arg : Nat) (s : State) : State :=
  if !s.tileLike then s
  else
    let dirB := p == 1
    let s := segdownTx arg (urgentOnward dirB 0x11 arg s)
    if arg.testBit 6 != dirB then s
    else if dirB then showDown { s with tileRx := { s.tileRx with downB := true, upRunB := 0 } }
    else showDown { s with tileRx := { s.tileRx with downA := true, upRunA := 0 } }

/-- Row SEGDOWN_CLEAR: two consecutive valid markers, each with its RASTER packet. -/
def opSegdownClear (dirB : Bool) (s : State) : State :=
  if dirB then
    if 2 ≤ s.tileRx.upRunB then showDown { s with tileRx := { s.tileRx with downB := false } } else s
  else
    if 2 ≤ s.tileRx.upRunA then showDown { s with tileRx := { s.tileRx with downA := false } } else s

/-! ### Referee and deputy (R401 to R404) -/

/-- Referee's and deputy's address (R401); 0 where there is none. -/
def State.refereeAddr (s : State) : Nat :=
  let r := F.RD_FO_CFG_REFEREE.of s.fo.cfg
  if s.enum.origin == 3 then 0 else if r != 0 then r else ceilDiv s.enum.n 2
def State.deputyAddr (s : State) : Nat :=
  let d := F.RD_FO_CFG_DEPUTY.of s.fo.cfg
  if s.enum.origin == 3 || s.enum.n < 2 then 0 else if d != 0 then d else ceilDiv s.enum.n 2 + 1

def State.isReferee (s : State) : Bool := s.isTile && s.addr != 0 && s.addr == s.refereeAddr
def State.isDeputy (s : State) : Bool := s.isTile && s.addr != 0 && s.addr == s.deputyAddr && !s.isReferee

/-- The acting referee (R402, R404). -/
def State.actsReferee (s : State) : Bool := s.tileRx.ready && (s.isReferee || (s.isDeputy && s.fo.acting))

/-- The DECISION of the frame just ended that a tile follows (R406): the one from the referee's address, else another tile's with ROLE 1. The referee
follows none, and a deputy that acts only the referee's. -/
def State.followed (s : State) : Option Nat :=
  if s.isReferee && s.tileRx.ready then none
  else s.fo.decRef.or (if s.actsReferee then none else s.fo.decOther)

/-- A TAKEOVER whose frame has come (R405). A change of ACTIVE ends the healed state of a tile whose P is then ACTIVE's direction; under REVERT = 0 every
TAKEOVER does (R397). -/
def takeoverNow (x : Nat) (s : State) : State :=
  let changes := s.foActive != x
  let s := setActive x { s with fo := { s.fo with takeover := none, diffRun := 0 } }
  if (changes || F.RD_FO_CFG_REVERT.of s.fo.cfg == 0) && (s.foP == x || s.dirUp (x == 2)) then s.put (F.CH_FO_TILE_HEALED 0) 0 else s

/-- A DECISION that ACTIVE has differed from in 2 consecutive frames is adopted (R406). -/
def adoptDecision (s : State) : State :=
  match s.followed with
  | none => { s with fo := { s.fo with diffRun := 0 } }
  | some d =>
    if d == 0 || d == s.foActive then { s with fo := { s.fo with diffRun := 0 } }
    else if s.fo.diffRun == 0 then { s with fo := { s.fo with diffRun := 1 } }
    else setActive d { s with fo := { s.fo with diffRun := 0 } }

/-- The fifth action at a frame boundary (R102): a TAKEOVER whose frame has come (R405), and otherwise R406's adoption. DEDUCED (log entry 131): a TAKEOVER of
the same frame start is the newer decision and stands. -/
def takeoverApply (s : State) : State :=
  if !s.isTile then s
  else match s.fo.takeover with
    | some (x, f) => if ahead f s.raster.fnum ≤ 0 then takeoverNow x s else adoptDecision s
    | none => adoptDecision s

/-- ROLE of TILE_HB (R401). -/
def State.hbRole (s : State) : Nat :=
  if s.actsReferee then 1 else if s.isDeputy && s.tileRx.ready then 2 else 0

/-- ROLE of CH_FO_TILE (R413). -/
def showRole (s : State) : State :=
  s.put (F.CH_FO_TILE_ROLE 0)
    (if !s.tileRx.ready then 0 else if s.isReferee then 1 else if s.isDeputy then (if s.fo.acting then 3 else 2) else 0)

/-- Is a sender good in the current frame (R402)? -/
def hbGood (h : Option Hb) (got : Bool) (s : State) : Bool :=
  match h with
  | some h => got && (h.state == 1 || h.state == 2) && h.fnum == s.raster.fnum &&
      h.wallId == s.get F.RD_MOULD_ID_WALL_ID && h.mouldSeq == s.get F.RD_MOULD_INFO_MOULD_SEQ
  | none => false

/-- Is a sender YIELDING in the current frame? -/
def hbYields (h : Option Hb) (got : Bool) (s : State) : Bool :=
  match h with
  | some h => got && h.state == 3 && h.fnum == s.raster.fnum
  | none => false

/-- HB_MISS: 1 or 2, other codes taken as 2 (R411). -/
def State.hbMiss (s : State) : Nat := if F.RD_FO_CFG_HB_MISS.of s.fo.cfg = 1 then 1 else 2

/-- A decision of the acting referee: ACTIVE changes, and TAKEOVER for the next frame goes out in both directions. -/
def decide1 (x : Nat) (s : State) : State :=
  let f := (s.raster.fnum + 1) % 64
  let arg := 4 * f + x
  let s := setActive x s
  let s := if s.linked 0 then s.send (.urgent 0 0x10 arg) else s
  if s.linked 1 then s.send (.urgent 1 0x10 arg) else s

/-- The deadline of a frame (R402): the first wall line boundary at least HB_DL times 10 us after its start; 0 counts as 1. -/
def State.refDeadline (s : State) : Nat :=
  let r := s.raster
  ceilDiv (max 1 (F.RD_FO_CFG_HB_DL.of s.fo.cfg) * r.ltotal * r.num) (100000 * max r.den 1) * 65536

/-- The acting referee's judgement of a frame (R402), once in the frame. -/
def refereeJudge (s : State) : State :=
  if !s.actsReferee || s.raster.refDone then s
  else
    let s := { s with raster := { s.raster with refDone := true } }
    let gA := hbGood s.fo.hbA s.fo.gotA s
    let gB := hbGood s.fo.hbB s.fo.gotB s
    let s := { s with fo := { s.fo with
      badA := if gA then 0 else s.fo.badA + 1, badB := if gB then 0 else s.fo.badB + 1 } }
    if s.isReferee && s.fo.refInit then s
    else if s.foActive == 2 then
      if (s.hbMiss ≤ s.fo.badB || hbYields s.fo.hbB s.fo.gotB s) && gA then decide1 1 s else s
    else
      if (s.hbMiss ≤ s.fo.badA || hbYields s.fo.hbA s.fo.gotA s) && gB then decide1 2 s else s

/-- Row REFEREE_DEADLINE: the raster comes to the deadline of its frame (R402). -/
def opRefereeDeadline (s : State) : State := if s.raster.running then refereeJudge (reach s.refDeadline s) else refereeJudge s

/-- Row REFEREE_FIRST_DECISION (R403): A if A is good, else B if B is good, else none. -/
def opRefereeFirst (s : State) : State :=
  if !(s.isReferee && s.tileRx.ready && s.fo.refInit && 4 ≤ s.fo.refWait) then s
  else if hbGood s.fo.hbA s.fo.gotA s then decide1 1 { s with fo := { s.fo with refInit := false } }
  else if hbGood s.fo.hbB s.fo.gotB s then decide1 2 { s with fo := { s.fo with refInit := false } }
  else s

/-- Row DEPUTY_TIMEOUT (R404): four frames without the referee's TILE_HB. -/
def opDeputyTimeout (s : State) : State :=
  if s.isDeputy && s.tileRx.ready && !s.fo.acting && 4 ≤ s.fo.refSilent then
    showRole { s.flag (F.CH_FO_TILE_EV_DEPUTY_EV 0) with fo := { s.fo with acting := true, adopted := true, badA := 0, badB := 0 } }
  else s

/-! ### Decisions at a sender port (R400, R414) -/

/-- A decision reaches a sender port; a change sets its event. YIELDING ends at the next decision (R399), which is a TAKEOVER or a changed DECISION: a
repeat of the one in force, and DECISION 0, are no decision (DEDUCED, log entry 131). -/
def senderDecision (takeover : Bool) (p x f : Nat) (s : State) : State :=
  let same := s.get (F.CH_FO_STATUS_DECISION p) == x
  if x == 0 || (same && !takeover) then s
  else
    let s := s.setPort p fun c => { c with yielding := false }
    if same then s
    else
      let s := (s.put (F.CH_FO_STATUS_DECISION p) x).raise (F.CH_FO_STATUS_TAKEOVER_EV p) 29
      (s.inc (F.CH_FO_COUNT_TO_N p)).put (F.CH_FO_LAST_FNUM p) f

/-- The frame an ARG names, within -32 to +31 frames of the current one (R405). -/
def argFrame (arg now : Nat) : Nat :=
  let d := (arg / 4 % 64 + 64 - now % 64) % 64
  ((now : Int) + (if d < 32 then (d : Int) else (d : Int) - 64)) % 2 ^ 32 |>.toNat

/-- Row TAKEOVER: a tile holds it for its frame and forwards it; a sender port learns the decision. R142 gives ARG[1:0] only 0b01 and 0b10: the model takes a
set with 0b00 or 0b11 as no TAKEOVER, which is neither acted on nor forwarded nor counted (DESIGN CHOICE, log entry 132). -/
def opTakeover (p arg : Nat) (s : State) : State :=
  let x := arg % 4
  if x == 0 || x == 3 then s
  else if s.isSender then senderDecision true p x (argFrame arg s.raster.fnum) s
  else if !s.tileLike then s
  else
    let s := urgentOnward (p == 1) 0x10 arg s
    { s with fo := { s.fo with takeover := some (x, argFrame arg s.raster.fnum) } }

/-- A TILE_HB packet (R157). -/
def tileHbPkt (a role dec sinceA sinceB f : Nat) : Pkt :=
  ⟨0x84, 0xFE, a, 0, 0, [role, dec, sinceA, sinceB] ++ leBytes 4 f ++ [0, 0, 0, 0]⟩

/-- Row TILE_HB: a sender learns the acting referee's decision; a tile forwards it and keeps the frame's DECISION, which `adoptDecision` judges at the
next frame start; a referee that has just become READY takes it (R400, R403, R404, R406). -/
def opTileHb (p a role dec f : Nat) (k : Pkt) (s : State) : State :=
  if s.isSender then
    if role == 1 then senderDecision false p dec f (s.put (F.CH_FO_STATUS_REFEREE p) a) else s
  else if !s.tileLike then s
  else
    let s := passWhey p k s
    if role != 1 then s
    else
      let s := if a == s.refereeAddr then { s with fo := { s.fo with decRef := some dec } }
        else { s with fo := { s.fo with decOther := some dec } }
      if s.isReferee && s.tileRx.ready && s.fo.refInit && dec != 0 then setActive dec { s with fo := { s.fo with refInit := false } } else s

/-- A HEARTBEAT packet (R152). -/
def heartbeatPkt (e st health f arm t wid msq : Nat) : Pkt :=
  ⟨0x03, 0xFF, endCode e, 0, 4, [e, st] ++ leBytes 2 health ++ leBytes 4 f ++ [arm, 0] ++ leBytes 4 t ++ leBytes 4 wid ++ leBytes 2 msq⟩

/-- Row HEARTBEAT: a tile records it for the referee and forwards it; a sender sees whether its partner reports the same arm (R58). -/
def opHeartbeat (p e st f arm t wid msq : Nat) (k : Pkt) (s : State) : State :=
  if s.isSender then
    if e == s.senderEnd then s
    else
      -- the identity a heartbeat carries is that of the image its sender has loaded (R402)
      let same := wid == s.get F.RD_MOULD_ID_WALL_ID && msq == s.get F.RD_MOULD_INFO_MOULD_SEQ
      let ok := same && (arm == 1 || arm == 2) && t == s.get F.RD_REMOULD_FNUM_FNUM
      let s := { s with mould := { s.mould with partnerOk := ok, partnerGo := s.mould.partnerGo || (ok && arm == 2) } }
      { s with upd := { s.upd with partnerOk := same && (arm == 3 || arm == 4) && t == s.get F.RD_FW_SCHED_FNUM_S } }
  else if !s.tileLike then s
  else
    let s := forward p k s
    let h : Hb := ⟨st, f, wid, msq⟩
    if e == 2 then
      { s.put (F.CH_FO_TILE_SINCE_B 0) 0 with fo := { s.fo with hbB := some h, gotB := true } }
    else
      { s.put (F.CH_FO_TILE_SINCE_A 0) 0 with fo := { s.fo with hbA := some h, gotA := true } }

/-- The frame-start share of the tile's failover: the frames since each sender's last HEARTBEAT (R401), silences and the wait for a first decision. -/
def foFrame (s : State) : State :=
  if !s.isTile then s
  else
    let o := s.fo
    let s := (s.inc (F.CH_FO_TILE_SINCE_A 0)).inc (F.CH_FO_TILE_SINCE_B 0)
    let back := if o.decRef.isSome then o.refBack + 1 else 0
    let o := { o with
      gotA := false, gotB := false, decRef := none, decOther := none,
      refBack := back, refSilent := if o.decRef.isSome then 0 else o.refSilent + 1,
      acting := o.acting && back < 4,
      refWait := if s.isReferee && s.tileRx.ready && o.refInit then o.refWait + 1 else 0,
      mismatchRun := if s.on (F.CH_ENUM_MISMATCH 0) then o.mismatchRun + 1 else 0 }
    showRole { s with fo := o }

/-! ### HEALTH, UNFIT, YIELD and the host's kick (R399, R412, R414) -/

/-- HFRAMES, 0 taken as 1. -/
def State.hFrames (s : State) (p : Nat) : Nat := max 1 (s.get (F.CH_FO_CTRL_HFRAMES p))

/-- UNFIT follows the runs of frames with HEALTH short of HMASK, or not short of it. -/
def unfitJudge (p : Nat) (s : State) : State :=
  let c := s.port p
  if !c.unfit && s.hFrames p ≤ c.hBad then s.setPort p fun x => { x with unfit := true }
  else if c.unfit && s.hFrames p ≤ c.hGood then s.setPort p fun x => { x with unfit := false }
  else s

/-- STATE of a sender port's heartbeat, the first that applies of STARTING, UNFIT, YIELDING, ACTIVE or STANDBY. -/
def hbState (p : Nat) (s : State) : Nat :=
  let c := s.port p
  let d := s.get (F.CH_FO_STATUS_DECISION p)
  let active := s.senderEnd == 3 || d == s.senderEnd
  if !s.raster.running || popCount 33 c.heard < (s.chainTiles p).length then 0
  else if c.unfit then 4
  else if active && c.yielding then 3
  else if active then 1 else 2

/-- Shows the STATE a port sends; UNFIT_EV is set when it becomes UNFIT (R414). -/
def showHbState (p : Nat) (s : State) : State :=
  let s := if hbState p s = 4 ∧ s.get (F.CH_FO_STATUS_STATE p) ≠ 4 then s.flag (F.CH_FO_STATUS_UNFIT_EV p) else s
  s.put (F.CH_FO_STATUS_STATE p) (hbState p s)

/-- Row UNFIT_ENTRY. -/
def opUnfitEntry (p : Nat) (s : State) : State :=
  if s.isSender then showHbState p (unfitJudge p s) else s

/-- A write of YIELD: an active sender sends YIELDING until the next decision reaches the port. -/
def opYield (p : Nat) (s : State) : State :=
  if s.isSender && (s.senderEnd == 3 || s.get (F.CH_FO_STATUS_DECISION p) == s.senderEnd) then
    showHbState p (s.setPort p fun x => { x with yielding := true })
  else s

/-- Row HOST_KICK_TIMEOUT. -/
def opKickTimeout (s : State) : State :=
  if s.get F.RD_FO_KICK_TIMEOUT_MS == 0 then s else { s with fo := { s.fo with kickExpired := true } }

/-- A write of RD_FO_KICK (R412): TIMEOUT_MS is set; KICK = 1 restarts the timeout. -/
def opFoKick (v : Word) (s : State) : State :=
  let s := s.put F.RD_FO_KICK_TIMEOUT_MS (v.toNat / 65536)
  if v.toNat % 2 = 1 then { s with fo := { s.fo with kickExpired := false } } else s

end Sys2Proof.Machine
end

