-- ==== Sys2Proof/Machine/Remould.lean ====
section
/-!
DEFINITION. The re-mould at a scheduled frame (chapter 02, R57 to R63), the presentation latency (R40), and putting ports, engines and dies into use.
-/

namespace Sys2Proof.Machine

open Sys2Proof

def State.setMould (s : State) (f : Mould → Mould) : State := { s with mould := f s.mould }

/-! ### Presentation latency (R40, R548) -/

/-- Frame period plus WSTART[0], in ns, rounded to the nearest; 0 while ROLE is 0. DESIGN CHOICE (log entry 88): a sender, whose image has no PRESS
section, takes WSTART[0] as 0. -/
def State.presLat (s : State) : Nat :=
  if s.role = 0 then 0
  else roundDiv (2 * s.raster.den * 1000000000 + 5 * s.sched.win.getD 0 0 * s.raster.num) (2 * s.raster.num)

/-- RD_PRES_LAT, and the delays of the audio ports that follow it. -/
def showPresLat (s : State) : State :=
  if s.get F.RD_PRES_LAT_PRES_LAT = s.presLat then s
  else (s.put F.RD_PRES_LAT_PRES_LAT s.presLat).each (List.range 4) opAudioDelay

/-! ### Dies, engines and ports in use -/

/-- A die that gets or loses its power: its registers are back at their reset values. -/
def clearDie (d : Nat) (s : State) : State :=
  let keep := fun (a : Nat) => a % 0x8000000 / 0x1000000 != d
  { s with
    press := if d = 7 then { s.press with rowa := [] } else s.press,
    regs := s.regs.filter fun e => keep e.1, pend := s.pend.filter fun e => keep e.1, taken := s.taken.filter fun e => keep e.1 }

/-- Dies that come into use start from their reset values, a Hoop die with its trim blocks (R220); dies that go out of use are gated (R61, R62). -/
def powerDies (new : Nat) (s : State) : State :=
  let s := s.each ((List.range 8).filter fun d => d != 0 && (s.get F.RD_DIE_STATE_DIE_ON).testBit d != new.testBit d) fun d s =>
    loadTrims [] (if new.testBit d then [d] else []) (clearDie d (if new.testBit d then s else showPart (thermalOff d s)))
  (s.put F.RD_DIE_STATE_DIE_ON (new ||| 1)).put F.RD_DIE_STATE_DIE_RUN (new ||| 1)

/-- Ingest engines that an image puts into use wait for a signal; the others are unused. -/
def useEngines (m : MouldImage) (s : State) : State :=
  s.each ((List.range 4).flatMap fun v => [(v, 0), (v, 1)]) fun e s =>
    let used := m.sources.any fun c => c.vat == e.1 && c.engine == e.2
    if used && s.ingState e.1 e.2 == ingUnused then s.put (F.VT_ING_STATUS_STATE e.1 e.2) ingNoSignal
    else if !used then s.put (F.VT_ING_STATUS_STATE e.1 e.2) ingUnused
    else s

/-- A lane group comes into use, which ends its TEST, and trains or waits for its source's format; or it rests (R187, R189, R192). A source port's logical
lane k is its physical lane k (R229). -/
def usePort (g : Nat) (on : Bool) (s : State) : State :=
  let s := s.when on fun s => s.put (F.HP_GROUP_CTRL_TEST_EN g) 0
  let s := groupState g (if on then lnTrain else lnRest) s
  if g < 16 then enterTrain g (if on then trDetect else trRest) (groupRate g (if on then rate3125 else 0) (clearTrained g s))
  else showCalMap g calMapRx (if on then 15 else 0) 0 (groupRate g (if on then rate12500 else 0) s)

/-- What an image says of a port: its lane group, and the tile count of its chain. -/
def portShape (m : MouldImage) (g : Nat) : Option LaneGroupCfg × Nat :=
  (m.lanes.find? (·.port == g), (m.chains.filter (·.port == g)).foldl (fun n c => n + c.tiles.length) 0)

/-- Ports whose lanes or tile count change retrain (R61); a step in progress on one is abandoned (R217). -/
def retrainPorts (old new : MouldImage) (s : State) : State :=
  s.each ((List.range 24).filter fun g => portShape old g != portShape new g) fun g s =>
    let s := calAbandon g (if g < 16 then linkExit g s else s)
    usePort g (new.lanes.any (·.port == g)) s

/-! ### Verification and arming (R57, R58) -/

/-- A state of RD_REMOULD_RESULT; an error is the last failed attempt of RD_MOULD_STATUS too (R64, R67). -/
def setRm (st err : Nat) (s : State) : State :=
  let s := if err = 0 then s else s.put F.RD_MOULD_STATUS_ERR err
  (((s.put F.RD_REMOULD_RESULT_STATE st).put F.RD_REMOULD_RESULT_ERR err).put F.RD_REMOULD_RESULT_VALID (if st = rmVerifying then 0 else 1)).bump
    F.RD_REMOULD_RESULT_SEQ

/-- Row REMOULD_VERIFY: the staging area is copied and checked; an armed image stays as it is. -/
def opRmVerify (s : State) : State :=
  if s.rmPending || s.rmState == rmVerifying then s
  else
    let w := s.rd 0x118
    setRm rmVerifying 0 (s.setMould fun m => { m with staged := s.nv.staging, verified := false, shown := w })

/-- Byte ranges (first, length) of a store's buffers on its die. -/
def storeRanges (c : StoreCfg) : List (Nat × Nat) := [c.base0, c.base1, c.base2].map fun b => (b * 64, storeBytes c)

/-- A buffer of a new image lies over a frame store that is still being read (error 11): one of the loaded image whose buffers are held, or a place that
an earlier re-mould has moved a store from and not released yet (R63). A store that stays in its place is no other buffer. -/
def State.overRead (s : State) (m : MouldImage) : Bool :=
  let covers := fun (c : StoreCfg) =>
    (placedBufs { m with stores := m.stores.filter (· != c) }).any fun d =>
      d.vat == c.vat && (storeRanges c).any fun r => r.1 < d.base + d.len && d.base < r.1 + r.2
  (s.mould.loaded.any fun old => old.stores.any fun c => s.get (fsHeld (storeCfgKey c)) != 0 && covers c) ||
    s.mould.oldStores.any fun e => !e.2 && covers e.1

/-- The verdict of a verification: 0, or the error. -/
def State.verifyError (s : State) : Nat :=
  match s.mould.staged with
  | none => 1
  | some m =>
    let e := s.mouldCheck true m
    if e ≠ 0 then e
    else if s.overRead m then 11
    else if s.isSender && m.hdr.senderEnd != s.senderEnd then 12
    else 0

/-- Row REMOULD_VERIFY_DONE. -/
def opRmVerifyDone (s : State) : State :=
  if s.rmState ≠ rmVerifying then s
  else if s.verifyError = 0 then setRm rmVerified 0 (s.setMould fun m => { m with verified := true })
  else setRm rmRefused s.verifyError s

/-- Tiles of port `p` that block an arm of image `m`: bit a - 1 (R67). -/
def State.notReady (s : State) (m : MouldImage) (p : Nat) : Nat :=
  maskOfBits (((s.chainAddrs.filter fun t => t.1 == p && !s.tileStaged 2 m.hdr.wallId m.hdr.mouldSeq t.1 t.2)).map fun t => t.2 - 1)

/-- Shows RD_REMOULD_NRDY. -/
def showNotReady (m : MouldImage) (s : State) : State :=
  s.each (List.range 16) fun p s => s.put (F.RD_REMOULD_NRDY_TILES p) (s.notReady m p)

/-- The conditions of R58 other than the lead and the partner: 0, or the error. An armed firmware activation is error 16 (R514). -/
def State.armError (s : State) (m : MouldImage) : Nat :=
  if s.isSender && (List.range 16).any (fun p => s.notReady m p != 0) then 13
  else if s.upd.arm.isSome then 16
  else 0

/-- Do the dies that an image adds need power (R61)? -/
def State.addsDies (s : State) (m : MouldImage) : Bool :=
  (List.range 8).any fun d => d != 0 && m.hdr.dieUse.testBit d && !(s.get F.RD_DIE_STATE_DIE_ON).testBit d

/-- An armed re-mould ends without a switch: dies powered for it are gated again. -/
def rmEnd (st err : Nat) (s : State) : State :=
  let s := setRm st err s
  match s.mould.loaded with
  | some m => if s.get F.RD_DIE_STATE_DIE_ON = m.hdr.dieUse ||| 1 then s else powerDies m.hdr.dieUse s
  | none => s

/-- Row REMOULD_ARM. The dies that the image adds are powered and loaded from here on; whether that can be done within the lead, and the code of the
refusal where it cannot, R58 and R61 do not say: free values (log entry 89). -/
def opRmArm (s : State) : State :=
  match s.mould.staged with
  | none => s
  | some m =>
    if !s.mould.verified || s.rmPending || s.rmState == rmVerifying then s
    else
      let t := s.get F.RD_REMOULD_FNUM_FNUM
      if s.isSender && ahead t s.raster.fnum < (s.minLead : Int) then setRm rmRefused 15 s
      else
        let s := showNotReady m s
        if s.armError m ≠ 0 then setRm rmRefused (s.armError m) s
        else
          let arm := fun (s : State) => setRm rmArmed 0 (s.setMould fun x => { x with partnerOk := false, partnerGo := false })
          if !s.addsDies m then arm s
          else
            let d := s.draw
            if d.1.toNat.testBit 8 then setRm rmRefused (d.1.toNat % 256) d.2
            else arm (powerDies (s.get F.RD_DIE_STATE_DIE_ON ||| m.hdr.dieUse) d.2)

/-- Row REMOULD_PARTNER_TIMEOUT: 4 frames without the partner's arm. -/
def opRmPartnerTimeout (s : State) : State :=
  if s.rmState = rmArmed && s.isSender && s.senderEnd ≠ 3 && !s.mould.partnerOk then rmEnd rmRefused 14 s else s

/-- Row REMOULD_CANCEL: accepted until GO is sent. -/
def opRmCancel (s : State) : State :=
  let st := s.rmState
  if st = rmVerifying then setRm rmCancelled 0 (s.setMould fun m => { m with staged := none })
  else if st = rmVerified || st = rmArmed then rmEnd rmCancelled 0 s
  else s

/-! ### GO (R59) -/

/-- Is this the sender that leads: a single sender, or one that a chain's decision names? -/
def State.leads (s : State) : Bool :=
  s.isSender && (s.senderEnd == 3 || s.portsInUse.any fun p => s.get (F.CH_FO_STATUS_DECISION p) == s.senderEnd)

/-- The payload of REMOULD (R152). -/
def remouldBytes (go : Bool) (t wallId mouldSeq : Nat) : List Nat :=
  [if go then 1 else 2, 0, 0, 0] ++ leBytes 4 t ++ leBytes 4 wallId ++ leBytes 2 mouldSeq ++ [0, 0]

/-- Sends REMOULD with GO or CANCEL on every chain in use. -/
def sendRemould (go : Bool) (m : MouldImage) (s : State) : State :=
  broadcast 0x20 (remouldBytes go (s.get F.RD_REMOULD_FNUM_FNUM) m.hdr.wallId m.hdr.mouldSeq) s

/-- Row REMOULD_GO_CHECK, at the start of T - 2. -/
def opRmGoCheck (s : State) : State :=
  match s.mould.staged with
  | none => s
  | some m =>
    if s.rmState ≠ rmArmed || !s.leads || ahead (s.get F.RD_REMOULD_FNUM_FNUM) s.raster.fnum ≠ 2 then s
    else
      let s := showNotReady m s
      let e := if s.armError m ≠ 0 then s.armError m else if s.senderEnd ≠ 3 && !s.mould.partnerOk then 14 else 0
      if e ≠ 0 then rmEnd rmCancelled e (sendRemould false m s) else setRm rmGoSent 0 (sendRemould true m s)

/-- At the start of T - 1 the GO is sent again. -/
def remouldRepeat (s : State) : State :=
  match s.mould.staged with
  | none => s
  | some m =>
    if s.rmState = rmGoSent && ahead (s.get F.RD_REMOULD_FNUM_FNUM) s.raster.fnum = 1 then sendRemould true m s else s

/-- Row REMOULD at a tile: GO, with T and the identity, or CANCEL. -/
def opRemould (p : Nat) (go : Bool) (t wallId mouldSeq : Nat) (k : Pkt) (s : State) : State :=
  execOnce p k 0 (fun s =>
    let same := match s.tileImage with | some m => m.hdr.wallId == wallId && m.hdr.mouldSeq == mouldSeq | none => false
    if go then (if same && 1 ≤ ahead t s.raster.fnum then s.setMould fun m => { m with goFor := some t } else s)
    else
      let s := s.setMould fun m => { m with goFor := none }
      if s.rmState = rmArmed then rmEnd rmCancelled 0 s else s) s

/-- Row REMOULD_NO_GO: T has come and no GO with it; the part stays on its loaded image. -/
def opRmNoGo (s : State) : State :=
  if s.rmState = rmArmed && ahead (s.get F.RD_REMOULD_FNUM_FNUM) s.raster.fnum ≤ 0 && s.mould.goFor.isNone && !s.mould.partnerGo then
    rmEnd rmCancelled 0 s
  else s

/-! ### The switch (R60 to R63) -/

/-- The image that takes over in the frame that has started. -/
def State.switchDue (s : State) : Option MouldImage :=
  if s.isSender then
    if s.raster.fnum = s.get F.RD_REMOULD_FNUM_FNUM && (s.rmState = rmGoSent || (s.rmState = rmArmed && s.mould.partnerGo)) then s.mould.staged
    else none
  else if s.mould.goFor = some s.raster.fnum then s.tileImage
  else none

/-- The places that the stores of a new image are moved from, which their readers keep until a first frame is complete in a later one. -/
def movedStores (old new : MouldImage) (s : State) : List (StoreCfg × Bool) :=
  let stays := fun (c : StoreCfg) => new.stores.any fun d => storeCfgKey d == storeCfgKey c
  (s.mould.oldStores.filter fun e => !e.2 && stays e.1) ++
    (old.stores.filter fun c => !new.stores.contains c && stays c).map fun c => (c, false)

/-- What is noted of a store that an image no longer places goes with it (R248). -/
def dropStores (old new : MouldImage) (s : State) : State :=
  s.each ((old.stores.map storeCfgKey).filter fun k => !(new.stores.map storeCfgKey).contains k) fun k s =>
    ((s.put (fsNewest k) 3).put (fsWriting k) 3).put (fsHeld k) 0

/-- A bank ramp under way ends at the switch with its last step; where the image moves the tables the Cave load fills them again, both banks being kept where the
correction table's place is unchanged (R315). -/
def switchTables (old new : MouldImage) (s : State) : State :=
  let s := if s.on F.VT_TP_STATUS_RAMP then ((s.put F.VT_TP_STATUS_BETA 256).put F.VT_TP_STATUS_RAMP 0).inc F.VT_TP_RAMPS_RAMPS else s
  let corr := fun (t : TileCfg) => [t.w, t.h, t.corr0, t.corr1]
  let others := fun (t : TileCfg) => [t.lampMap, t.status, t.recs]
  let r := s.tileRx
  if corr old.tile ≠ corr new.tile then { s with tileRx := { r with caveDone := false, corrKept := false } }
  else if others old.tile ≠ others new.tile then { s with tileRx := { r with caveDone := false, corrKept := r.caveDone || r.corrKept } }
  else s

/-- The channels that an image takes into use train, those it leaves out stop (R368); where it changes a die's rate, from `before`, the change runs from this frame
on (R389). -/
def switchDram (new : MouldImage) (before : Nat → Nat) (s : State) : State :=
  let s := s.each (List.range 8) fun c s =>
    if usesChannel new c then (if s.dramRuns c then s else trainChannel c s)
    else if s.get (F.VT_DRAM_STATE_STATE c) = 0 then s
    else (s.setDramCh c fun _ => {}).put (F.VT_DRAM_STATE_STATE c) 0
  s.each ((List.range 4).filter fun v => s.dramRuns (2 * v) && before v != s.get (F.VT_DRAM_FC_RATE_RATE v)) fun v s =>
    s.setFc v { s.fc v with remould := some s.raster.fnum }

/-- Changed transmit settings take effect at once where they are not ramped (R181). -/
def restTx (s : State) : State :=
  s.each ((List.range 112).filter fun n => !s.txRamps n && s.txAct n != s.txTarget n) fun n s => setTxAct n (s.txTarget n) s

/-- A switch that needs no restart: structure at once, Press geometry a frame later, changed ports retrain, moved stores start empty. -/
def switchLive (m : MouldImage) (s : State) : State :=
  match s.mould.loaded with
  | none => s
  | some old =>
    let moved := movedStores old m s
    let s := powerDies m.hdr.dieUse s
    let rates := fun v => s.get (F.VT_DRAM_FC_RATE_RATE v)
    let s := dropStores old m (switchTables old m (switchDram m rates (restTx (loadStructure m s))))
    let s := if old.tile.mods = m.tile.mods then s else modulesRestart s
    let s := audSwitch old m (useEngines m (retrainPorts old m s))
    let s := s.setMould fun x =>
      { x with oldStores := moved, staged := none, verified := false, goFor := none, partnerOk := false, partnerGo := false, pressDue := some m }
    setRm rmDone 0 (mouldStatus 1 4 s)

/-- At the frame start after a switch the Press takes its geometry (R60). -/
def pressSwitch (s : State) : State :=
  match s.mould.pressDue with
  | none => s
  | some m => showPresLat (loadPress m (s.setMould fun x => { x with pressDue := none }))

end Sys2Proof.Machine
end

