-- ==== Sys2Proof/Machine/Scanout.lean ====
section
/-!
DEFINITION. Chain scan-out in the sender and the check of what the tiles used (chapter 10, R287 to R302; R36, R112, R113, R165).
-/

namespace Sys2Proof.Machine

open Sys2Proof

/-! ### Chain timing (R112, R113) -/

/-- Is a CTG setting committed: does the chain finish within the frame (R113)? Times as fractions of a second. DESIGN CHOICE (log entry 125): with LTOTAL_C = 0,
and so ACTIVE_C = 0, the term ACTIVE_C x period / LTOTAL_C has no value; no line is sent, and the setting is committed wherever OFF_LPOS < LTOTAL. -/
def ctgOk (r : Raster) (ltc act lpos lph : Nat) : Bool :=
  -- in units of 1 / (65536 * ltotal) of a frame period P = den / num
  let off := lpos * 65536 + lph
  act ≤ ltc && lpos < r.ltotal &&
  -- off/(65536*ltotal) * P + act/ltc * P + 60 us ≤ P
  (off * ltc + act * 65536 * r.ltotal) * r.den * 1000000 + 60 * r.num * 65536 * r.ltotal * ltc
    ≤ 65536 * r.ltotal * ltc * r.den * 1000000

/-! ### Segments (R144, R145, R288) -/

/-- A row as segments of at most 1,024 words. -/
def splitRow (a phase code row fnum : Nat) : Nat → Nat → List Nat → List Segment
  | 0, _, _ => []
  | _, _, [] => []
  | n + 1, col, l => ⟨a, phase, code, row, col, fnum, l.take 1024⟩ :: splitRow a phase code row fnum n (col + 1024) (l.drop 1024)

/-- Symbols of a segment of `n` words (R144), and with the spacing of R147. -/
def segLen (n : Nat) : Nat := 22 + ceilDiv (9 * n) 2
def segSpace (n : Nat) : Nat := segLen n + ceilDiv (segLen n) 17

/-! ### Scan-out (R287 to R293) -/

/-- The OUT_CODE and the background word in force of each phase's target (R264, R266). -/
def State.outCodes (s : State) (p : Nat) : List Nat :=
  (List.range 4).map fun k => match s.targetOf p k with | some (v, t) => codeUsed (s.get (F.VT_TGT_CTRL_OUT_CODE v t)) | none => 0
def State.outBgs (s : State) (p : Nat) : List Nat :=
  (List.range 4).map fun k => match s.targetOf p k with | some (v, t) => s.bgWord v t | none => 0

/-- A port's record of frame `f` at its start, where the chain composes it: the codes and background words in force for it, and OVL_K. The window holds the last
16 composed frames, sent or not (R165, R295). Of a frame that begins while the port is out of LINKED no line is compared (R294). -/
def soOpen (p f : Nat) (s : State) : State :=
  if f % s.spread p ≠ 0 then s
  else
    let n : SoFrame := { fnum := f, k := s.spread p, codes := s.outCodes p, bgs := s.outBgs p, left := !s.linked p }
    refill p (s.setPort p fun x => { x with so := (n :: x.so).take 16 })

/-- Changes the record of a composed frame. -/
def modFrame (p f : Nat) (g : SoFrame → SoFrame) (s : State) : State :=
  s.setPort p fun x => { x with so := x.so.map fun e => if e.fnum = f then g e else e }

/-- Adds a segment's payload to the tile's expected picture CRC (R295). -/
def soAdd (p : Nat) (seg : Segment) (s : State) : State :=
  let ready := 5 ≤ Tab.get (fun _ => 0) (s.port p).tileState seg.tile
  s.setPort p fun x => { x with so := x.so.map fun f =>
    if f.fnum = seg.fnum then
      let k := 4 * seg.tile + seg.phase
      let r := (Tab.get (fun _ => none) f.crcs k).getD 0xFFFFFFFF
      { f with crcs := Tab.set (fun _ => none) k (some (crc32Run r (packWords seg.words))) f.crcs,
               ready := if ready then setBit f.ready seg.tile else f.ready }
    else f }

/-- One tile's share of a chain line: its address, its row and first region column, its width. -/
structure LineShare where
  addr : Nat
  row : Nat
  x : Nat
  w : Nat
  deriving DecidableEq, Repr

/-- The tiles that take part in a region line, ascending in address. -/
def State.shares (s : State) (p v t y : Nat) : List LineShare :=
  let Y := s.get (F.VT_TGT_REGION_XY_Y v t) + y
  let x0 := s.get (F.VT_TGT_REGION_XY_X v t)
  (s.chainTiles p).zipIdx.filterMap fun e =>
    let r := e.1
    if (s.port p).agree.testBit (e.2 + 1) && 0 < r.w && r.y ≤ Y && Y < r.y + r.h
    then some ⟨e.2 + 1, Y - r.y, r.x - x0, r.w⟩ else none

/-- The words sent for the shares of a line: the composed ones until one is not there in time, BG from then on. Answers the words of
each share and how many were replaced. -/
def lineWords (words : List Nat) (bg : Nat) : List (LineShare × Nat) → Bool → List (LineShare × List Nat) × Nat
  | [], _ => ([], 0)
  | (sh, ready) :: t, under =>
    let got := if under then [] else ((words.drop sh.x).take sh.w).take ready
    let miss := sh.w - got.length
    let r := lineWords words bg t (under || 0 < miss)
    ((sh, got ++ List.replicate miss bg) :: r.1, miss + r.2)

/-- Does the picture of a sender's chain port cross a link? It goes from the source ports' Hoop dies to the ingest dies, or from PCIe through the Rind
die to the die of a renderer store, to the engines that are enabled, to the port's owner, and to the port's Hoop die. -/
def State.crosses (s : State) (a b p : Nat) : Bool :=
  match s.mould.loaded with
  | none => false
  | some m =>
    let is := fun (x y : Nat) => (x == a && y == b) || (x == b && y == a)
    m.chains.any fun c => c.port == p &&
      (is (1 + c.owner) (hoopOf p) ||
        m.layers.any fun l => l.owner == c.owner && s.get (F.VT_TGT_CTRL_PORT l.owner l.target) == p && s.on (F.VT_LE_CTRL_EN l.vat l.engine) &&
          (is (1 + l.vat) (1 + c.owner) ||
            (let d := s.get (F.VT_LE_SRC_DIE l.vat l.engine)
             is (1 + d) (1 + l.vat) || (s.get (F.VT_LE_SRC_KIND l.vat l.engine) == skRenderer && is 0 (1 + d)) ||
               (s.get (F.VT_LE_SRC_KIND l.vat l.engine) == skIngest && m.sources.any fun q =>
                 q.vat == d && q.engine == s.get (F.VT_LE_SRC_INDEX l.vat l.engine) && is (1 + d) (5 + q.port / 4)))))

/-- Which chain ports of a sender have a picture that crosses a failed link (R26), bit p. -/
def State.cutPorts (s : State) : Nat :=
  if s.isSender then maskOfBits ((List.range 16).filter fun p => s.links.failed.any fun k => s.crosses (k / 8) (k % 8) p) else 0

/-- The record of the frame that a chain line belongs to: one that was composed under the OVL_K in force. -/
def State.soRec (s : State) (p f : Nat) : Option SoFrame := (s.port p).so.find? fun r => r.fnum == f && r.k == s.spread p

/-- May a port send segments: it is LINKED and served, its first ENUM has gone, and the link its picture comes by has not failed (R26, R82, R165)? -/
def State.sends (s : State) (p : Nat) : Bool :=
  s.linked p && (s.port p).enumStarted && s.get (F.CH_LINK_STATUS_OVL_K p) != 0 && !s.cutPorts.testBit p

/-- The segments of a chain line of frame `fr` for region line `y` of a target, and what an underrun leaves (R288, R293). -/
def sendLine (p c v t y : Nat) (fr : SoFrame) (ready : List Nat) (s : State) : State :=
  let k := c % max s.phases 1
  let words := Tab.get (fun _ => []) s.comp (compKey v t y)
  let (rows, missed) := lineWords words (fr.bgs.getD k 0) ((s.shares p v t y).zipIdx.map fun e => (e.1, ready.getD e.2 e.1.w)) false
  let s := s.each rows fun r s => s.each (splitRow r.1.addr k (fr.codes.getD k 0) r.1.row fr.fnum (r.1.w / 1024 + 1) 0 r.2) fun seg s =>
    soAdd p seg (s.send (.segment p seg false))
  if missed = 0 then s
  else
    let s := (s.raise (F.CH_SO_STATUS_UNDERRUN p) 27).inc (F.CH_SO_UNDERRUN_UNDERRUN_N p)
    let s := (s.put (F.CH_SO_UNDERRUN_LAST_CLINE p) c).addSat (F.CH_SO_BGWORDS_BG_WORDS p) missed
    s.setPort p fun x => { x with underrun := true }

/-- Row CHAIN_LINE_START: the raster comes to the start of the line, which leaves the line buffer and is sent. A line starts once; one that would start after
the end of a shortened frame is not sent (R112, R113). -/
def opChainLine (p c : Nat) (ready : List Nat) (s : State) : State :=
  match s.lineAt p c with
  | none => s
  | some (f, pos) =>
    if !s.isSender || s.get (F.CH_CTG_GEOM_LTOTAL_C p) ≤ c || !s.raster.holds pos || (s.soRec p f).any (c < ·.next) then s
    else
      let s := (reach pos s).put (F.CH_CTG_STATUS_CLINE p) c
      let ph := max s.phases 1
      match s.targetOf p (c % ph) with
      | none => s
      | some (v, t) =>
        let h := s.get (F.VT_TGT_REGION_WH_H v t)
        let act := s.get (F.CH_CTG_GEOM_ACTIVE_C p)
        let s := s.when (act < ph * h) (·.flag (F.CH_SO_STATUS_SHORT_ACTIVE p))
        match s.soRec p f with
        | none => s
        | some fr =>
          let s := refill p (modFrame p f (fun r => { r with next := c + 1 }) s)
          if act ≤ c || h ≤ c / ph || !s.sends p then s else sendLine p c v t (c / ph) fr ready s

/-- Row FETCH_URGENCY_CHANGE (R292): within a line FILL comes to `fill` and crosses a limit. -/
def opFetchUrgency (p fill : Nat) (s : State) : State := if s.isSender then showFill p fill s else s

/-! ### Overload (R165) -/

/-- Numerator and denominator of (F_w + 60 us) over the frame period, F_w from the segments of one frame. Each segment's spacing is
rounded up to whole columns of `m` symbols; a symbol time is 80 ps times 1, 2 or 4 by the rate. -/
def State.chainTime (s : State) (p : Nat) : Nat × Nat :=
  let m := max (s.get (F.CH_LINK_STATUS_TX_LANES p)) 1
  let sym := if (s.port p).rate = 3 then 800 else if (s.port p).rate = 2 then 1600 else 3200   -- ps per symbol of one lane
  let cols := ((s.chainTiles p).map fun r =>
    let full := r.w / 1024
    let rest := r.w % 1024
    r.h * (full * ceilDiv (segSpace 1024) m + (if rest = 0 then 0 else ceilDiv (segSpace rest) m))).foldl (· + ·) 0
  let fw := cols * max s.phases 1 * sym      -- ps
  ((fw + 60000000) * s.raster.num, s.raster.den * 1000000000000)

/-- OVERLOAD and OVL_K of a LINKED port at a frame start; OVERLOAD ends with the overload. -/
def overloadEval (p : Nat) (s : State) : State :=
  if !s.linked p then s
  else
    let (n, d) := s.chainTime p
    let want := if n ≤ d then 1 else ceilDiv n d
    let old := s.get (F.CH_LINK_STATUS_OVL_K p)
    let s := if n ≤ d then s else s.flag (F.CH_LINK_STATUS_OVERLOAD p)
    let s := if 7 < want then s.put (F.CH_LINK_STATUS_OVL_K p) 0
      else if old ≤ 1 || s.raster.fnum % old == 0 then s.put (F.CH_LINK_STATUS_OVL_K p) want
      else s
    if n ≤ d && s.get (F.CH_LINK_STATUS_OVL_K p) == 1 then s.put (F.CH_LINK_STATUS_OVERLOAD p) 0 else s

/-! ### Picture CRCs (R295, R296, R301) -/

def pcMatch : Nat := 0
def pcRepeat : Nat := 1
def pcMismatch : Nat := 2
def pcMissing : Nat := 3

/-- An OUTCRC packet (R157). -/
def outcrcPkt (a f : Nat) (pics outs : List Nat) : Pkt :=
  ⟨0x82, 0xFE, a, 0, 0, leBytes 4 f ++ [pics.length, outs.length, 0, 0] ++ (pics ++ outs).flatMap (leBytes 4)⟩

/-- One outcome of a tile and phase of a frame. -/
def pcOutcome (p a k f out : Nat) (s : State) : State :=
  let s := if out = pcMatch then s.bump (F.CH_PCRC_MATCH_MATCH_N p)
    else if out = pcRepeat then s.inc (F.CH_PCRC_COUNT_REPEAT_N p)
    else if out = pcMismatch then
      let s := (s.inc (F.CH_PCRC_COUNT_MISMATCH_N p)).raise (F.CH_SO_STATUS_PCRC_MISMATCH p) 28
      s.put (F.CH_PCRC_TILES_TILES p) (setBit (s.get (F.CH_PCRC_TILES_TILES p)) (a - 1))
    else
      let s := (s.inc (F.CH_PCRC_COUNT_MISSING_N p)).flag (F.CH_SO_STATUS_PCRC_MISSING p)
      s.put (F.CH_PCRC_MISSED_TILES p) (setBit (s.get (F.CH_PCRC_MISSED_TILES p)) (a - 1))
  let s := (s.put (F.CH_PCRC_LAST_VALID p) 1).bump (F.CH_PCRC_LAST_SEQ p)
  let s := (s.put (F.CH_PCRC_LAST_OUTCOME p) out).put (F.CH_PCRC_LAST_PHASE p) k
  (s.put (F.CH_PCRC_LAST_ADDR p) a).put (F.CH_PCRC_LAST_FNUM p) (f % 4096)

/-- Judges the picture CRCs of a tile for a frame; `rep`: its STATUS shows a repeat. -/
def pcJudge (p a : Nat) (fr : SoFrame) (rep : Bool) (pics : List Nat) (s : State) : State :=
  s.each (List.range 4) fun k s =>
    match (if fr.given.contains (4 * a + k) then none else Tab.get (fun _ => none) fr.crcs (4 * a + k)) with
    | none => s
    | some r =>
      let out := if pics[k]? = some (r ^^^ 0xFFFFFFFF) then pcMatch else if rep then pcRepeat else pcMismatch
      pcOutcome p a k fr.fnum out (modFrame p fr.fnum (fun e => { e with given := (4 * a + k) :: e.given }) s)

/-- The comparison of an arriving OUTCRC; one that comes before its STATUS waits for it. Each tile and phase gets one outcome. -/
def pcArrive (p a f : Nat) (pics : List Nat) (s : State) : State :=
  match (s.port p).so.find? (·.fnum == f) with
  | none => s
  | some fr =>
    if !s.on (F.CH_SO_CTRL_PCRC_EN p) || fr.came.contains a then s
    else
      let s := modFrame p f (fun e => { e with came := a :: e.came }) s
      if fr.left then s
      else match Tab.get (fun _ => none) fr.status a with
        | some rep => pcJudge p a fr rep pics s
        | none => modFrame p f (fun e => { e with waiting := Tab.set (fun _ => none) a (some pics) e.waiting }) s

/-- A tile's STATUS for an emitted frame. -/
def pcStatus (p a f : Nat) (rep : Bool) (s : State) : State :=
  match (s.port p).so.find? (·.fnum == f) with
  | none => s
  | some fr =>
    let s := modFrame p f (fun e => { e with status := Tab.set (fun _ => none) a (some rep) e.status,
                                             waiting := Tab.set (fun _ => none) a none e.waiting }) s
    match Tab.get (fun _ => none) fr.waiting a with
    | some pics => if fr.left then s else pcJudge p a fr rep pics s
    | none => s

/-- Row PCRC_MISSING: the oldest frame of a full window leaves without the tile's OUTCRC. A tile that sent no STATUS for the frame is not compared. -/
def opPcrcMissing (p a k : Nat) (s : State) : State :=
  match (s.port p).so.getLast? with
  | none => s
  | some fr =>
    if (s.port p).so.length < 16 || fr.left || !fr.ready.testBit a || (Tab.get (fun _ => none) fr.status a).isNone || fr.came.contains a || fr.given.contains (4 * a + k) ||
        (Tab.get (fun _ => none) fr.crcs (4 * a + k)).isNone || !s.on (F.CH_SO_CTRL_PCRC_EN p) then s
    else pcOutcome p a k fr.fnum pcMissing (modFrame p fr.fnum (fun e => { e with given := (4 * a + k) :: e.given }) s)

/-! ### Output CRCs (R297, R302) -/

def ocIdle : Nat := 0
def ocWaiting : Nat := 1
def ocCaptured : Nat := 2
def ocCompared : Nat := 3
def ocTimeout : Nat := 4
def ocNoRef : Nat := 5
def ocRefused : Nat := 6

/-- A final state of the output CRC command. -/
def ocFinal (p st tiles diffs : Nat) (s : State) : State :=
  let s := (s.put (F.CH_OCRC_RESULT_VALID p) 1).bump (F.CH_OCRC_RESULT_SEQ p)
  let s := (s.put (F.CH_OCRC_RESULT_STATE p) st).put (F.CH_OCRC_RESULT_TILES p) tiles
  (s.put (F.CH_OCRC_RESULT_DIFF_N p) diffs).setPort p fun x => { x with ocrc := { x.ocrc with cmd := none } }

/-- Changes a port's output CRC record. -/
def modOcrc (p : Nat) (f : Ocrc → Ocrc) (s : State) : State := s.setPort p fun x => { x with ocrc := f x.ocrc }

/-- A command starts to wait. -/
def ocWait (p : Nat) (capture : Bool) (s : State) : State :=
  let s := ((s.put (F.CH_OCRC_RESULT_VALID p) 0).put (F.CH_OCRC_RESULT_STATE p) ocWaiting).put (F.CH_OCRC_RESULT_DIFF_N p) 0
  modOcrc p (fun o => { o with cmd := some (capture, s.get (F.CH_OCRC_FNUM_FNUM p)), got := [], diffs := [] }) s

/-- Row OCRC_CAPTURE. -/
def opOcrcCapture (p : Nat) (s : State) : State :=
  if !s.isSender || (s.port p).ocrc.cmd.isSome then s
  else if ahead (s.get (F.CH_OCRC_FNUM_FNUM p)) s.raster.fnum ≤ 0 then
    ocFinal p ocRefused 0 0 (modOcrc p (fun o => { o with diffs := [] }) s)
  else ocWait p true (modOcrc p (fun o => { o with ref := none }) s)

/-- Row OCRC_COMPARE. -/
def opOcrcCompare (p : Nat) (s : State) : State :=
  if !s.isSender || (s.port p).ocrc.cmd.isSome then s
  else if (s.port p).ocrc.ref.isNone then ocFinal p ocNoRef 0 0 (modOcrc p (fun o => { o with diffs := [] }) s)
  else ocWait p false s

/-- The differences between two sets of output CRCs of a tile, in the order of its Press ports (log entry 127): CH_OCRC_DIFF_POP words. -/
def ocDiffs (a : Nat) (x y : List Nat) : List Nat :=
  ((List.range (max x.length y.length)).filter fun m => x[m]? ≠ y[m]?).map fun m => 2 ^ 31 + a % 64 * 2 ^ 25 + m % 16 * 2 ^ 21

/-- The READY tiles of a port. -/
def State.readyTiles (s : State) (p : Nat) : List Nat :=
  (List.range' 1 32).filter fun a => 5 ≤ Tab.get (fun _ => 0) (s.port p).tileState a

/-- Ends the command with what has come. -/
def ocEnd (p : Nat) (timeout : Bool) (s : State) : State :=
  let o := (s.port p).ocrc
  match o.cmd with
  | none => s
  | some (true, _) =>
    ocFinal p (if timeout then ocTimeout else ocCaptured) o.got.length 0 (modOcrc p (fun o => { o with ref := some o.got }) s)
  | some (false, _) =>
    let ref := o.ref.getD []
    let at' := fun (t : Tab (Option (List Nat))) a => (Tab.get (fun _ => none) t a).getD []
    let ds := ((List.range' 1 32).flatMap fun a => ocDiffs a (at' ref a) (at' o.got a)).take 512
    ocFinal p ocCompared o.got.length ds.length (modOcrc p (fun o => { o with diffs := ds }) s)

/-- Output CRCs of a tile for an emitted frame: those of a READY tile are stored. -/
def ocArrive (p a f : Nat) (outs : List Nat) (s : State) : State :=
  match (s.port p).ocrc.cmd with
  | none => s
  | some (_, g) =>
    if g ≠ f || !(s.readyTiles p).contains a then s
    else
      let s := modOcrc p (fun o => { o with got := Tab.set (fun _ => none) a (some outs) o.got }) s
      if (s.readyTiles p).all fun a => (Tab.get (fun _ => none) (s.port p).ocrc.got a).isSome then ocEnd p false s else s

/-- Row OUTCRC. -/
def opOutcrc (p a f : Nat) (pics outs : List Nat) (k : Pkt) (s : State) : State :=
  if s.isSender then ocArrive p a f outs (pcArrive p a f pics s) else passWhey p k s

/-- Row OCRC_TIMEOUT: 16 frames after the command's frame. -/
def opOcrcTimeout (p : Nat) (s : State) : State :=
  match (s.port p).ocrc.cmd with
  | some (_, g) => if 16 ≤ ahead s.raster.fnum g then ocEnd p true s else s
  | none => s

/-- Row OCRC_DIFF_POP. -/
def opOcrcPop (p : Nat) (s : State) : State :=
  match (s.port p).ocrc.diffs with
  | [] => s.reply [0]
  | d :: t => (modOcrc p (fun o => { o with diffs := t }) s).reply [d]

/-- Row STATUS at a sender, with its share in the picture comparison. -/
def opStatusRx (p : Nat) (b : List Nat) (k : Pkt) (s : State) : State :=
  let s' := opStatus p b k s
  let a := b.getD 0 0 % 64
  if !s.isSender || a == 0 || 32 < a then s'
  else
    let rep := 0 < ofLe ((b.drop 20).take 2) || (b.getD 3 0).testBit 0
    pcStatus p a (ofLe ((b.drop 4).take 4)) rep s'

end Sys2Proof.Machine
end

