-- ==== Sys2Proof/Machine/HostWrite.lean ====
section
/-!
DEFINITION. Register access by BAR0 offset (R4 to R16, R73, R567): where a die answers, and what a write does. It serves the host, a
tile's REG_WR and REG_RD, the settings store and JTAG.
-/

namespace Sys2Proof.Machine

open Sys2Proof

/-! ### Which die answers (R6, R26, R73) -/

/-- The die of a BAR0 offset. -/
def dieOf (a : Nat) : Nat := a / 0x1000000

/-- Does the window of an offset answer? That of a die that does not run, or whose link to the Rind die has failed, does not. -/
def State.answersAt (s : State) (a : Nat) : Bool :=
  dieOf a == 0 || ((s.get F.RD_DIE_STATE_DIE_RUN).testBit (dieOf a) && !s.links.failed.contains (dieOf a))

/-- An access to a window that does not answer is counted and logged once the start load has finished. -/
def gatedAccess (write : Bool) (a : Nat) (s : State) : State :=
  if s.on F.RD_MOULD_STATUS_VALID then
    (s.inc F.RD_GATED_ACCESS_COUNT_N).logEv 0 (dieOf a) 0x0102 a (if write then 1 else 0)
  else s

/-- Row GATED_WINDOW_ACCESS. -/
def opGated (a : Nat) (write : Bool) (s : State) : State :=
  if a < 0x8000000 && !s.answersAt a then (if write then gatedAccess true a s else (gatedAccess false a s).reply [0xFFFFFFFF]) else s

/-- The key of an offset in the register store: a chain-port block's tile registers stand apart from the sender's. -/
def State.regKey (s : State) (a : Nat) : Nat :=
  let o := a % 0x1000000
  let off := o % 0x100
  let tileReg := (0x60 ≤ off && off < 0x74) || (0xD0 ≤ off && off < 0xE0)
  if (dieOf a == 5 || dieOf a == 6) && 0x100000 ≤ o && o < 0x100800 && tileReg && !s.isSender then a + 0x8000000 else a

/-! ### Plain writes (R10) -/

/-- A write by access type: RW bits are set, W1C bits cleared, RWS bits become pending. -/
def plainWrite (k : Nat) (r : RegDef) (v : Word) (s : State) : State :=
  let w := s.rd k
  let s := s.wr k (((w &&& ~~~ r.rwBits) ||| (v &&& r.rwBits)) &&& ~~~ (v &&& r.w1cBits))
  if r.rwsBits = 0 then s else s.setPend k ((s.pendWord k &&& ~~~ r.rwsBits) ||| (v &&& r.rwsBits))

/-! ### Pixel-word pairs (R7) -/

/-- The pixel-word pair of each target's background, by its low half's offset: (die, target). -/
def pairAt (a : Nat) : Option (Nat × Nat) :=
  let o := a % 0x1000000
  if 1 ≤ dieOf a && dieOf a ≤ 4 && 0x31000 ≤ o && o < 0x31800 && o % 0x80 == 0x0C then some (dieOf a - 1, o % 0x1000 / 0x80) else none

/-- Row PIXEL_PAIR_LOW_WRITE: the low half is held. -/
def opPairLow (a : Nat) (v : Word) (s : State) : State :=
  match pairAt a with
  | none => s
  | some _ => { s with acc := { s.acc with lowHeld := Tab.set (fun _ => none) a (some v) s.acc.lowHeld } }

/-- Row PIXEL_PAIR_HIGH_WRITE: both halves take effect as one value. DESIGN CHOICE (log entry 83): with no low half held, the low half stays as it
was, pending or in force. -/
def opPairHigh (a : Nat) (v : Word) (s : State) : State :=
  match pairAt (a - 4) with
  | none => s
  | some _ =>
    let lo := (Tab.get (fun _ => none) s.acc.lowHeld (a - 4)).getD (s.pendWord (a - 4))
    let s := { s with acc := { s.acc with lowHeld := Tab.set (fun _ => none) (a - 4) none s.acc.lowHeld } }
    (s.setPend (a - 4) lo).setPend a v

/-- Row PIXEL_PAIR_LOW_READ, of a background's pending or in-force pair: the high half is captured. -/
def opPairRead (a : Nat) (s : State) : State :=
  let act := a % 0x80 == 0x44
  match pairAt (if act then a - 0x38 else a) with
  | none => s
  | some _ =>
    let now := fun b => if act then s.rd (b - 0x38) else s.pendWord b
    let s := { s with acc := { s.acc with captured := Tab.set (fun _ => none) (a + 4) (some (now (a + 4))) s.acc.captured } }
    s.reply [(now a).toNat]

/-! ### Writes with an effect of their own -/

/-- Row RETRAIN: the port goes through the exit to COMMA (R164, R172). -/
def opRetrain (p : Nat) (s : State) : State := linkExit p s

/-- The Rind die's registers. -/
def writeRind (a : Nat) (r : RegDef) (v : Word) (s : State) : State :=
  let n := v.toNat
  let plain := plainWrite a r v
  -- the processor, which the thermal trip halts (R480), carries out these commands
  if s.sys.tripped && [0x110, 0x50C, 0x520, 0x544].contains a then s
  else match a with
  | 0x110 => match n % 4 with | 1 => opRmVerify s | 2 => opRmArm s | 3 => opRmCancel s | _ => s
  -- the GN-8 discards writes while ARMED (R58); in GO_SENT, DESIGN CHOICE (log entry 84): the same
  | 0x114 => if s.rmPending then s else plain s
  | 0x208 => refHoldWritten (plain s)
  | 0x20C => schedWritten false (plain s)
  | 0x210 => schedWritten false (plain s)
  | 0x214 => schedWritten true (plain s)
  | 0x218 => { plain s with commit := { s.commit with fnumLoad := true } }
  | 0x230 => opCommitHold (n.testBit 0) s
  | 0x234 => opCommitGo n s
  | 0x300 => showRole (plain s)
  | 0x304 => opFoKick v s
  | 0x400 => opThLimit 0 v s
  | 0x404 => opThLimit 1 v s
  | 0x480 => opThClr v s
  | 0x50C => match n % 16 with
    | 1 => opInstallFw s.sys.card.fw s
    | 2 => opInstallTile s.sys.card.tile s
    | 3 => opInstallRemould s.sys.card.remould s
    | 4 => opFwArm s | 5 => opArmRevert s | 6 => opFwCancel s | 7 => opConfirm false s | _ => s
  | 0x510 => if s.upd.arm.isSome then s else plain s
  | 0x520 => match n % 4 with | 1 => opSetStore s | 2 => opSetDelete s | 3 => opSetClear s | _ => s
  | 0x544 =>
    let slot := bits n 9 8
    match n % 16 with | 1 => opEnroll slot s | 2 => opRevoke slot s | 3 => opLockDebug s | 4 => opUnlock slot s | 5 => opRelock s | _ => s
  | 0x604 => opElogSelWrite v s
  | 0x608 => ((plain s).when (n.testBit 31) opClrRing).when (n.testBit 30) opClrFatal
  | 0x650 => opWdtCtrl v s
  | 0x710 => opIrqAck n s
  | _ => plain s

/-- The Rind die's network, wheel, PTP, audio and check-value blocks. -/
def writeRindBlock (a : Nat) (r : RegDef) (v : Word) (s : State) : State :=
  let plain := plainWrite a r v
  if a = 0x1103C then opMdioCmd v s
  else if 0x12100 ≤ a && a < 0x12300 then opWheelBankWrite ((a - 0x12100) / 0x100) ((a - 0x12100) % 0x100 / 4) v s
  else if a = 0x13010 then opPtpInc v s
  else if a = 0x13020 then opPtpAdj v s
  else if a = 0x13024 then s.when (v.toNat.testBit 0) opPtpSet
  else if 0x13040 ≤ a && a < 0x13080 && a % 0x20 = 0x10 then opTriggerArm ((a - 0x13040) / 0x20) v s
  else if 0x14000 ≤ a && a < 0x14400 && a % 0x100 = 0 then audCtrl ((a - 0x14000) / 0x100) (plain s)
  else if 0x15000 ≤ a && a < 0x15400 then
    let u := (a - 0x15000) / 0x100
    match a % 0x100 with
    | 0x04 => if v.toNat.testBit 0 then opCrcStart u s else crcEnqueue u ⟨4, 0⟩ s
    | 0x28 => opCrcData u 0 v s
    | 0x2C => opCrcData u 1 v s
    | 0x30 => opCrcData u 2 v s
    | o => opCrcConfig u o v s
  else plain s

/-- A Vat die's registers; `d` is 1 to 4. The chapter 11 registers of K24 mode answer as R554 says. -/
def writeVat (d o : Nat) (a : Nat) (r : RegDef) (v : Word) (s : State) : State :=
  let n := v.toNat
  let plain := plainWrite a r v
  if 0x21000 ≤ o && o < 0x21200 && o % 0x100 = 0 then opRndCmd (d - 1) ((o - 0x21000) / 0x100) (n % 16) s
  else if (pairAt a).isSome then opPairLow a v s
  else if (pairAt (a - 4)).isSome then opPairHigh a v s
  else if 0x50200 ≤ o && o < 0x50220 then s.wr a (s.rd a &&& 0xFFFF0000)
  else if o = 0x50220 || o = 0x50224 || o = 0x50228 then fcWritten (d - 1) false (plain s)
  else if o = 0x5022C then fcWritten (d - 1) true (plain s)
  else if 0x60020 ≤ o && o < 0x60030 then opTsetWrite ((o - 0x60020) / 4) v s
  else if o = 0x60198 then (match n % 4 with | 1 => opTableRead s | 2 => opTableWrite s | 3 => opTableSave s | _ => s)
  else if s.isK24 && (o = 0x60034 || o = 0x60038) then s.flag F.VT_TP_STATUS_WRITE_REFUSED
  else if s.isK24 && 0x60010 ≤ o && o < 0x60020 then s
  else plain s

/-- A Hoop die's registers; `d` is 5 or 6. -/
def writeHoop (d o : Nat) (a : Nat) (r : RegDef) (v : Word) (s : State) : State :=
  let n := v.toNat
  let plain := plainWrite a r v
  if 0x100000 ≤ o && o < 0x100800 then
    let p := 8 * (d - 5) + (o - 0x100000) / 0x100
    match o % 0x100 with
    | 0x74 => opCtrlTxCmd p (bits n 31 24) (bits n 23 16) (bits n 15 8) s
    | 0x84 => opChUrgTx p (bits n 15 8) (bits n 7 0) s
    | 0x88 => s.when (n.testBit 0) (opRetrain p)
    | 0x90 => wmarkWritten p (plain s)
    | 0xB8 => match n % 4 with | 1 => opOcrcCapture p s | 2 => opOcrcCompare p s | _ => s
    | 0xD0 => if s.isSender then (plain s).when (n.testBit 31) (opYield p) else plain s
    | 0xE8 => if n.testBit 31 then opDistStart p v s else if n.testBit 30 then opDistAbort p v s else plain s
    | _ => plain s
  else if 0x400000 ≤ o && o < 0x400E00 then
    let lane := 56 * (d - 5) + (o - 0x400000) / 0x40
    match o % 0x40 with
    | 0x08 => opLaneTxWrite lane v s
    | 0x14 => opLaneRxmanWrite lane v s
    | 0x18 => opPrbsCtrlWrite lane v s
    | 0x28 => opEyeScanStart lane v s
    | _ => plain s
  else if 0x410000 ≤ o && o < 0x410180 then
    let i := (o - 0x410000) / 0x20
    let g := if i < 8 then 8 * (d - 5) + i else 16 + 4 * (d - 5) + (i - 8)
    match o % 0x20 with
    | 0x04 => opTestEnWrite g v s
    | 0x08 => ((plain s).when (n.testBit 30) (opCalForce g)).when (n.testBit 29) (opClearTrim g)
    | _ => plain s
  else plain s

/-- The Press die's registers. -/
def writePress (o : Nat) (a : Nat) (r : RegDef) (v : Word) (s : State) : State :=
  let s := plainWrite a r v s
  if 0x20000 ≤ o && o < 0x21000 && o % 0x100 = 8 && v.toNat.testBit 31 then opPinStuckClear ((o - 0x20000) / 0x100) s else s

/-- A write to a register that answers. -/
def writeReg (a : Nat) (v : Word) (r : RegDef) (s : State) : State :=
  let d := dieOf a
  let o := a % 0x1000000
  if d = 0 then (if a < 0x800 then writeRind a r v s else writeRindBlock a r v s)
  else if d ≤ 4 then writeVat d o a r v s
  else if d ≤ 6 then (if s.regKey a = a then writeHoop d o a r v s else plainWrite (s.regKey a) r v s)
  else writePress o a r v s

/-- A 32-bit write at a BAR0 offset. One of another alignment (R5) and one that puts a 1 into a reserved bit (R9) are unpredictable (R542); one to an
offset that no register has, in BAR0 (R567) or above it (R4), is discarded. -/
def hostWrite (a : Nat) (v : Word) (s : State) : Except Fault State :=
  if a % 4 ≠ 0 then .error (.unpredictable 5)
  else if 0x8000000 ≤ a then .ok s
  else if !s.answersAt a then .ok (gatedAccess true a s)
  else if 0x80000 ≤ a && a < 0x100000 then .ok (s.setPword ((a - 0x80000) / 0x40000) ((a - 0x80000) % 0x40000) v)
  else if 0x100000 ≤ a && a < 0x140000 then
    (if !s.isK24 then .ok s
     else if v.toNat / 65536 ≠ 0 then .error (.unpredictable 9)
     else k24Write ((a - 0x100000) / 4) v.toNat s)
  else match regAt (s.regKey a) with
    | none => .ok s
    | some r => if v &&& ~~~ r.named ≠ 0 then .error (.unpredictable 9) else .ok (writeReg a v r s)

/-- A write by the host at a window that has to answer (R6, R73). -/
def atWindow (a : Nat) (f : State → State) (s : State) : State := if s.answersAt a then f s else gatedAccess true a s

/-- A read by the host at such a window. -/
def atRead (a : Nat) (f : State → State) (s : State) : State :=
  if s.answersAt a then f s else (gatedAccess false a s).reply [0xFFFFFFFF]

/-- The check of a register word that a command carries itself: a 1 in a reserved bit is unpredictable (R9). -/
def withWord (a : Nat) (v : Word) (f : State → State) (s : State) : Except Fault State :=
  if !s.answersAt a then .ok (gatedAccess true a s)
  else match regAt (s.regKey a) with
    | none => .ok (f s)
    | some r => if v &&& ~~~ r.named ≠ 0 then .error (.unpredictable 9) else .ok (f s)

end Sys2Proof.Machine
end

