-- ==== Sys2Proof/Machine/HostRead.lean ====
section
/-!
DEFINITION. What a read of a BAR0 offset returns, and the captures and pops that a read makes (R10, R12, R16).
-/

namespace Sys2Proof.Machine

open Sys2Proof

/-- A read by access type: WO bits read as zero, RWS bits return the pending value. -/
def plainRead (k : Nat) (r : RegDef) (s : State) : Word :=
  let w := s.rd k &&& ~~~ (r.woBits ||| r.rwsBits)
  w ||| (s.pendWord k &&& r.rwsBits)

/-- Registers of the Rind die whose value the state holds elsewhere. -/
def viewRind (a : Nat) (s : State) : Option Nat :=
  match a with
  | 0x118 => if s.rmState = rmVerifying then some s.mould.shown.toNat else none
  | 0x200 => some s.raster.fnum
  | 0x204 => some (s.raster.rpos % 2 ^ 32)
  | 0x434 => some s.sensData.toNat
  | 0x540 => some (((((F.RD_SEC_STATUS_DEBUG_LOCKED.into (s.rd a) (if s.nv.debugLocked then 1 else 0) |> fun w =>
      F.RD_SEC_STATUS_REVOKED.into w s.nv.revoked) |> fun w => F.RD_SEC_STATUS_ENROLLED.into w s.nv.enrolled) |> fun w =>
      F.RD_SEC_STATUS_ROLLBACK_CNT.into w s.nv.rollback)).toNat)
  | 0x714 => some s.pcie.active
  | 0x13004 => some (s.ptp.sec % 2 ^ 32)
  | 0x13008 => some (s.ptp.sec / 2 ^ 32 % 2 ^ 16)
  | 0x12004 => some (F.RD_WHEEL_STATUS_STATE.into (s.rd a) s.wheelState).toNat
  | 0x12000 => match s.wheel.next with
    | some w => some ((Tab.get (fun _ => none) s.pend a).getD w).toNat
    | none => none
  | _ => (idWord a).map (·.toNat)

/-- The chapter 11 registers that read as R554 says in K24 mode. -/
def viewK24 (a : Nat) (s : State) : Option Nat :=
  let o := a - 0x1060000
  if !s.isK24 || a < 0x1060000 || 0x1060200 ≤ a then none
  else if 0x10 ≤ o && o < 0x20 then some 0x10000
  else if o = 0x34 || o = 0x38 || o = 0x74 || o = 0x78 then some 0
  else if o = 0 then some (((s.rd a).toNat / 2) * 2)
  else none

/-- Time urgent of a chain port, as it stands at the read (R300). -/
def viewSo (a : Nat) (s : State) : Option Nat := ((List.range 16).find? fun p => a == (F.CH_SO_URG_TIME_URG_US p).addr).map s.urgUs

/-- Reads that pop or capture. -/
def actRead (a : Nat) : Option (State → State) :=
  let d := dieOf a
  let o := a % 0x1000000
  if d = 0 then
    match a with
    | 0x8 => some opUidRead
    | 0x550 => some opChalRead
    | 0x610 => some opElogDataRead
    | 0x10030 => some (opTxtsPop 0)
    | 0x11030 => some (opTxtsPop 1)
    | 0x13000 => some opPtpNsRead
    | 0x13084 => some (opCapPop 0)
    | 0x130A4 => some (opCapPop 1)
    | _ =>
      let n := a / 0x100 % 0x10
      if 0x14000 ≤ a && a < 0x14400 && a % 0x100 = 0x20 then some (opAudioCsRead n)
      else if 0x14000 ≤ a && a < 0x14400 && a % 0x100 = 0x60 then some (opAudioTsPop n)
      else if 0x15000 ≤ a && a < 0x15400 && a % 0x100 = 0x20 then some (opCrcStateRead n)
      else if 0x15000 ≤ a && a < 0x15400 && a % 0x100 = 0x34 then some (opCrcInfoRead n)
      else none
  else if d ≤ 4 then
    if 0x20000 ≤ o && o < 0x20200 && o % 0x100 = 8 then some (opIngFmtRead (d - 1) ((o - 0x20000) / 0x100))
    else if (pairAt a).isSome || (o % 0x80 == 0x44 && (pairAt (a - 0x38)).isSome) then some (opPairRead a)
    else if 0x50000 ≤ o && o < 0x50200 && o % 0x100 = 0x14 then some (opErrLastRead (2 * (d - 1) + (o - 0x50000) / 0x100))
    else none
  else if d ≤ 6 then
    let p := 8 * (d - 5) + (o - 0x100000) / 0x100
    if 0x100000 ≤ o && o < 0x100800 then
      match o % 0x100 with
      | 0x7C => some (opCtrlRxPop p)
      | 0x80 => some (opWheyPop p)
      | 0xC4 => some (opOcrcPop p)
      | _ => none
    else if 0x200000 ≤ o && o < 0x202000 && o % 0x20 = 0 then
      some (opStatusCopyRead (8 * (d - 5) + (o - 0x200000) / 0x400) ((o - 0x200000) % 0x400 / 0x20 + 1))
    else none
  else if 0x20000 ≤ o && o < 0x21000 && o % 0x100 = 0x14 then some (opOcrcInfoRead ((o - 0x20000) / 0x100))
  else none

/-- Registers that read 0 in a role that has no use for them: the modules' at a sender (R486), those of distribution anywhere else (chapter 19). -/
def State.readsZero (s : State) (a : Nat) : Bool :=
  if s.isSender then 0x440 ≤ a && a < 0x480
  else
    let o := a % 0x1000000
    (dieOf a == 5 || dieOf a == 6) && 0x100000 ≤ o && o < 0x100800 && 0xE8 ≤ o % 0x100 && o % 0x100 < 0xF8

/-- A register that answers, read without a side effect. -/
def State.look (s : State) (a : Nat) : Nat :=
  let k := s.regKey a
  if s.readsZero a then 0
  else match viewRind a s with
  | some v => v
  | none => match viewK24 a s with
    | some v => v
    | none => match viewSo k s, regAt k with
      | some v, _ => v
      | none, none => 0
      | none, some r => match r.act with
        | some b => (s.rd (k - r.off + b)).toNat
        | none => (plainRead k r s).toNat

/-- A 32-bit read at a BAR0 offset: what it returns, and the state after its pops and captures. One of another alignment is unpredictable (R5); what
an offset above the 128 MiB of BAR0 (R4) returns is a free value. -/
def readReg (a : Nat) (s : State) : Except Fault (Nat × State) :=
  if a % 4 ≠ 0 then .error (.unpredictable 5)
  else if 0x8000000 ≤ a then
    let d := s.draw
    .ok (d.1.toNat % 2 ^ 32, d.2)
  else if !s.answersAt a then .ok (0xFFFFFFFF, gatedAccess false a s)
  else match Tab.get (fun _ => none) s.acc.captured a with
    | some w => .ok (w.toNat, { s with acc := { s.acc with captured := Tab.set (fun _ => none) a none s.acc.captured } })
    | none =>
      if 0x80000 ≤ a && a < 0x100000 then .ok ((s.pword ((a - 0x80000) / 0x40000) ((a - 0x80000) % 0x40000)).toNat, s)
      else if 0x100000 ≤ a && a < 0x140000 then .ok (if s.isK24 then k24Read ((a - 0x100000) / 4) s else (0, s))
      else match actRead a with
        | some f =>
          let t := f s
          .ok (t.acc.rdata.headD 0, t)
        | none => .ok (s.look a, s)

/-- Row DBG_ACCESS: nothing is reached while debug is locked. -/
def opDbg (a : Nat) (val : Option Word) (s : State) : Except Fault State :=
  let s := s.setJtag fun j => { j with ir := 0x20, driving := false }
  if !s.debugOpen then .ok s
  else match val with
    | some v => hostWrite a v s
    | none => match readReg a s with
      | .ok (v, s) => .ok (s.send (.tdo v))
      | .error e => .error e

/-! ### REG_WR and REG_RD at a tile (R152) -/

/-- The writes of a REG_WR, in order. -/
def writeAll : List (Nat × Word) → State → Except Fault State
  | [], s => .ok s
  | (a, v) :: t, s => match hostWrite a v s with
    | .ok s => writeAll t s
    | .error e => .error e

/-- The reads of a REG_RD, in order. -/
def readAll : List Nat → State → Except Fault (List Nat × State)
  | [], s => .ok ([], s)
  | a :: t, s => match readReg a s with
    | .error e => .error e
    | .ok (v, s) => match readAll t s with
      | .ok (l, s) => .ok (v :: l, s)
      | .error e => .error e

/-- Words of a payload of whole words, at most 62. -/
def wordsIn (data : List Nat) : Option (List Nat) :=
  if data.length % 4 = 0 && data.length ≤ 248 then some (wordsOf (data.length / 4) data) else none

/-- Offsets and values of a REG_WR payload. -/
def pairUp : List Nat → List (Nat × Word)
  | a :: v :: t => (a, BitVec.ofNat 32 v) :: pairUp t
  | _ => []

/-- Row REG_WR at a tile: up to 31 pairs; a payload that is not whole pairs is bad. -/
def opRegWr (p : Nat) (k : Pkt) (s : State) : Except Fault State :=
  match wordsIn k.data with
  | some l => if l.length % 2 = 0 then execOnceE p k 0 (writeAll (pairUp l)) s else .ok (badPayload p k s)
  | none => .ok (badPayload p k s)

/-- Row REG_RD at a tile: it is unicast, and RD_RESP is its answer. -/
def opRegRd (p : Nat) (k : Pkt) (s : State) : Except Fault State :=
  match wordsIn k.data with
  | none => .ok (badPayload p k s)
  | some addrs =>
    if s.tileLike && k.dest = s.addr && k.dest ≠ 0 && !s.duplicate p k.src k.seq k.dest then
      match readAll addrs s with
      | .error e => .error e
      | .ok (l, s) =>
        let s := noteExec p k.src k.seq k.dest 0 s
        .ok (answerLast p k.src k.seq (s.setPort p fun x => { x with lastRead := Tab.set (fun _ => none) k.src (some l) x.lastRead }))
    else if k.dest = 0xFF then .ok (if s.tileLike then forward p k s else s)
    else execOnceE p k 0 .ok s

/-- Row COMMIT_GO_PACKET: the GO of R123 in the tile. -/
def opCommitGoPacket (p : Nat) (k : Pkt) (s : State) : State :=
  if k.data.length = 4 then execOnce p k 0 (opCommitGo (ofLe k.data)) s else badPayload p k s

end Sys2Proof.Machine
end

