-- ==== Sys2Proof/Machine/ExecDram.lean ====
section
/-!
DEFINITION. The commands' meanings, one for each: DRAM and temperatures (chapters 13, 17). Each cites its rule; what it does stands in the shared operations.
-/

namespace Sys2Proof.Machine

open Sys2Proof

/-- DRAM_REQUEST (R371). -/
def execDramRequest (c : Nat) (arrive : List DramReq) (wait err : Nat) (s : State) : Host.Outcome State Fault Refusal :=
  run (only (c < 8) (opDramRequest c arrive wait err)) s

/-- REFRESH_POINT (R374). -/
def execRefreshPoint (c : Nat) (s : State) : Host.Outcome State Fault Refusal :=
  runRaster (only (c < 8) (opRefreshPoint c)) s

/-- FORCED_REFRESH (R375). -/
def execForcedRefresh (c : Nat) (s : State) : Host.Outcome State Fault Refusal :=
  run (only (c < 8) (opForcedRefresh c)) s

/-- ZQCS (R376). -/
def execZqcs (c : Nat) (s : State) : Host.Outcome State Fault Refusal :=
  runRaster (only (c < 8) (opZqcs c)) s

/-- DRAM_TEMP_READ (R377). -/
def execDramTempRead (c band : Nat) (s : State) : Host.Outcome State Fault Refusal :=
  run (only (c < 8) (opDramTemp c band)) s

/-- PATROL_SCRUB (R382). -/
def execPatrolScrub (c : Nat) (r : ScrubRead) (s : State) : Host.Outcome State Fault Refusal :=
  run (only (c < 8) (opPatrolScrub c r)) s

/-- ROW_REPAIR (R383). -/
def execRowRepair (c : Nat) (x : RowReads) (s : State) : Host.Outcome State Fault Refusal :=
  run (only (c < 8) (opRowRepair c x)) s

/-- REPAIR_RECOPY_DONE (R384). -/
def execRepairRecopyDone (c : Nat) (s : State) : Host.Outcome State Fault Refusal :=
  run (only (c < 8) (opRecopyDone c)) s

/-- DRAM_FREQ_JUDGE (R387). -/
def execDramFreqJudge (v : Nat) (s : State) : Host.Outcome State Fault Refusal :=
  run (only (v < 4) (opFreqJudge v)) s

/-- DRAM_FREQ_CHANGE (R388). -/
def execDramFreqChange (v : Nat) (s : State) : Host.Outcome State Fault Refusal :=
  run (only (v < 4) (opFreqChange v)) s

/-- DIE_SENSOR_SAMPLE (R469). -/
def execDieSensorSample (d i : Nat) (t : Int) (s : State) : Host.Outcome State Fault Refusal :=
  runRind (only (d < 8) (opDieSample d i t)) s

/-- THROTTLE_STEP_DOWN (R476). -/
def execThrottleStepDown (d : Nat) (s : State) : Host.Outcome State Fault Refusal :=
  runRind (only (d < 8) (opThrottleDown d)) s

/-- MODULE_SENSOR_SAMPLE (R472). -/
def execModuleSensorSample (j : Nat) (bytes : Option (Nat × Nat)) (s : State) : Host.Outcome State Fault Refusal :=
  run (only (j < 16) (opModuleSample j bytes)) s

/-- THERMAL_TRIP (R480). -/
def execThermalTrip (d i : Nat) (t : Int) (s : State) : Host.Outcome State Fault Refusal :=
  runAlways (only (d < 8) (opTrip d i t)) s

/-- TH_CLR (R487). -/
def execThClr (val : Word) (s : State) : Host.Outcome State Fault Refusal :=
  runRindF (withWord F.RD_TH_CLR_DIE_ALL.addr val (opThClr val)) s

/-- TH_LIMIT_WRITE (R482). -/
def execThLimitWrite (reg : Nat) (val : Word) (s : State) : Host.Outcome State Fault Refusal :=
  runRindF (onlyE (reg < 2) (withWord (0x400 + 4 * reg) val (opThLimit reg val))) s

/-- IDLE_TIMER_EXPIRY (R369). -/
def execIdleTimerExpiry (c bank : Nat) (s : State) : Host.Outcome State Fault Refusal :=
  run (only (c < 8) (opIdleExpiry c bank)) s

/-- DRAM_CLASS_PROMOTION (R370). -/
def execDramClassPromotion (c i : Nat) (s : State) : Host.Outcome State Fault Refusal :=
  run (only (c < 8) (opClassPromotion c i)) s

/-- ERR_LAST_READ (R391). -/
def execErrLastRead (c : Nat) (s : State) : Host.Outcome State Fault Refusal :=
  runRind (only (c < 8) (atRead (atDCH c 0x14) (opErrLastRead c))) s

end Sys2Proof.Machine
end

