-- ==== Sys2Proof/Machine/SegmentRx.lean ====
section
/-!
DEFINITION. Line segments at a tile and the end of a frame's reception (R148, R149, R161 to R163, R395, R397, R398), and the tile's
own whey (R156, R157).
-/

namespace Sys2Proof.Machine

open Sys2Proof

/-! ### A segment arrives (R148, R161) -/

/-- Adds a charged error to a lane of the port: the newest 17 segment indexes are kept (R162). -/
def chargeLane (p ix i : Nat) (s : State) : State :=
  let n := chainLane p i
  let f : Fld := ⟨(F.CH_LANE_ERR_LANE0 p).addr, 6 * i + 5, 6 * i⟩
  let s := (s.inc f).setLn n fun l => { l with charged := true }
  s.setPort p fun x =>
    { x with laneErr := Tab.set (fun _ => []) i ((ix :: Tab.get (fun _ => []) x.laneErr i).take 17) x.laneErr }

/-- A local error: counted, and charged to the active lanes that showed a violation, or else to the port (R161). -/
def chargeLocal (p ix : Nat) (lanes : List Nat) (s : State) : State :=
  let s := s.inc (F.CH_SEG_ERR_LOCAL p)
  let s := if s.tileLike then { s with tileRx := { s.tileRx with segErrs := min (s.tileRx.segErrs + 1) 0xFFFF } } else s
  if lanes.isEmpty then s.setPort p fun x => { x with portErr := (ix :: x.portErr).take 17 }
  else s.each lanes (chargeLane p ix)

/-- The header tests of R148. -/
def State.headerGood (s : State) (g : Segment) : Bool :=
  g.fnum == s.tileRx.fnum && s.tileRx.rx && g.row < s.tile.h && g.col + g.words.length ≤ s.tile.w && g.code != 3

/-- An own segment that passed every test: its columns are covered on its direction, and the picture direction's words are taken (R149,
R395). Words stand with their code above bit 35. -/
def acceptSegment (dirB : Bool) (g : Segment) (s : State) : State :=
  let k := g.phase * 65536 + g.row
  let r := s.tileRx
  let cover := spanIns g.col g.words.length (Tab.get (fun _ => []) (if dirB then r.coverB else r.coverA) k)
  let r := if dirB then { r with coverB := Tab.set (fun _ => []) k cover r.coverB }
    else { r with coverA := Tab.set (fun _ => []) k cover r.coverA }
  let words := g.words.map fun w => g.code * 2 ^ 36 + w % 2 ^ 36
  let r := if dirB == r.dirB then
      { r with cur := Tab.set (fun _ => []) k (rowPut (Tab.get (fun _ => []) r.cur k) s.tile.w g.col words) r.cur }
    else r
  { s with tileRx := r }

/-- Symbols that pass on; one that came as a code violation leaves as an open value. -/
def onwardSyms : List Nat → State → List Nat × State
  | [], s => ([], s)
  | a :: t, s =>
    if a = symViolation then
      let (v, s) := s.draw
      let r := onwardSyms t s
      (v.toNat % 256 :: r.1, r.2)
    else
      let r := onwardSyms t s
      (a :: r.1, r.2)

/-- A segment for another tile passes on as it came, with EDB where it was bad (R148). -/
def passSegment (p : Nat) (r : SegmentIn) (bad : Bool) (s : State) : State :=
  if !s.tileLike || !s.linked (1 - p) then s
  else
    let (l, s) := onwardSyms r.syms.dropLast s
    s.send (.relay (1 - p) (l ++ [if bad || !r.eop then symEdb else symEop]))

/-- The SKP sets among received columns pass on as every SKP set does (R139), and bring a port's drop into effect (R216). -/
def passSkp (p n : Nat) (s : State) : State :=
  if n = 0 then s
  else
    let s := if s.tileLike && s.linked (1 - p) then skpSent (1 - p) (s.each (List.range n) fun _ s => s.send (.skp (1 - p))) else s
    skpReceived p s

/-- A segment that a port has read from its columns; DESIGN CHOICE (log entry 102): a content phase at or above PHASES is a header failure. -/
def takeSegment (p : Nat) (r : SegmentIn) (s : State) : State :=
  let s := s.bump (F.CH_SEG_COUNT_SEGS p)
  let lanes := r.viol.map fun k => s.get (calMapRx p k)
  let bad := !r.crcOk || !r.lenOk || !r.viol.isEmpty
  let s := if !r.eop then s.inc (F.CH_SEG_ERR_UPSTREAM p)
    else if bad then chargeLocal p (s.get (F.CH_SEG_COUNT_SEGS p)) lanes s else s
  if s.tileLike && s.addr != 0 && r.seg.tile == s.addr then
    if !r.eop || bad || !s.tileRx.ready || !s.tileRx.rxOk || s.links.wheyStopped then s
    else if s.headerGood r.seg && r.seg.phase < s.phases then acceptSegment (p == 1) r.seg s
    else s.inc (F.CH_SEG_ERR_BADHDR p)
  else passSegment p r bad s

/-- Received columns of a port's active lanes, in logical order, behind each lane's polarity (R182). -/
def State.rxCols (s : State) (p : Nat) (cols : List (List Nat)) : List (List Nat) :=
  cols.map fun c => c.zipIdx.map fun e => polar (s.rxInv (chainLane p (s.get (calMapRx p e.2)))) e.1

/-- The CDR of an active lane whose code groups were all right in a segment holds lock (DEDUCED, log entry 120). -/
def relock (p m : Nat) (viol : List Nat) (s : State) : State :=
  s.each ((List.range m).filter (!viol.contains ·)) fun k s => s.put (F.HP_LANE_STATE_CDR_LOCK (chainLane p (s.get (calMapRx p k)))) 1

/-- Row SEGMENT_RX: the columns that a segment brings, with what stands inserted among them; where they bring none, the SKP sets alone. -/
def opSegmentRx (p : Nat) (rd : List Bool) (cols : List (List Nat)) (s : State) : State :=
  let m := s.get (F.CH_LINK_STATUS_RX_LANES p)
  let cols := s.rxCols p cols
  if !s.linked p then s
  else passSkp p (skpSets m rd cols) (match readSegment m rd cols with
    | none => s
    | some r => takeSegment p r (relock p m r.viol s))

/-! ### The end of a reception (R149, R398) -/

/-- Rows of the frame being received that a direction did not cover whole. -/
def State.uncovered (s : State) (dirB : Bool) : List (Nat × Nat) :=
  let c := if dirB then s.tileRx.coverB else s.tileRx.coverA
  (List.range s.phases).flatMap fun k => ((List.range s.tile.h).filter fun r =>
    !spanFull s.tile.w (Tab.get (fun _ => []) c (k * 65536 + r))).map fun r => (k, r)

/-- The loss run (R398): `any` says that a row was accepted from the picture direction. -/
def lossRun (any : Bool) (s : State) : State :=
  if any then
    { (s.put (F.CH_FO_TILE_RUN 0) 0).put (F.CH_FO_TILE_LOSS 0) 0 with fo := { s.fo with lossDark := false } }
  else
    let s := s.inc (F.CH_FO_TILE_RUN 0)
    if s.get (F.CH_FO_TILE_RUN 0) < 3 || s.on (F.CH_FO_TILE_LOSS 0) then s
    else
      let s := (s.put (F.CH_FO_TILE_LOSS 0) 1).raise (F.CH_FO_TILE_EV_LOSS_EV 0) 30
      { s with fo := { s.fo with lossDark := F.RD_FO_CFG_LOSS_ACTION.of s.fo.cfg != 1 } }

/-- The rows of a phase as they stand, packed as they were sent. -/
def rowBytes (words : List Nat) : List Nat :=
  packWords (words.map (· % 2 ^ 36))

/-- The picture CRC of a phase (R157). -/
def State.phaseCrc (s : State) (k : Nat) : Nat :=
  ((List.range s.tile.h).foldl (fun r y => crc32Run r (rowBytes (Tab.get (fun _ => []) s.tileRx.cur (k * 65536 + y)))) 0xFFFFFFFF) ^^^ 0xFFFFFFFF

/-- Places of a row below `n` that a list of uncorrectable reads names. -/
def uesOf (ue : List (Nat × Nat × Nat)) (e : Nat × Nat) (n : Nat) : List Nat :=
  (ue.filter fun u => u.1 == e.1 && u.2.1 == e.2 && u.2.2 < n).map (·.2.2)

/-- One uncovered row: its words and its corrected values are those of the last frame; a word and a lamp whose value does not read are 0
(R323). -/
def repeatRow (ue ueWords : List (Nat × Nat × Nat)) (e : Nat × Nat) (s : State) : State :=
  let k := e.1 * 65536 + e.2
  let bad := uesOf ue e (3 * s.tile.w)
  let badW := uesOf ueWords e s.tile.w
  let s := pathUe F.VT_TP_STATUS_UE_STORE F.VT_TP_UE_COUNT2_UE_STORE_N (bad.length + badW.length) (repeatCorr e.1 e.2 bad s)
  let old := Tab.get (fun _ => []) s.tileRx.last k
  let words := (List.range old.length).map fun i => if badW.contains i then 0 else old.getD i 0
  { s with tileRx := { s.tileRx with cur := Tab.set (fun _ => []) k words s.tileRx.cur } }

/-- The revert rule's count: frames in a row with every own row accepted on ACTIVE's direction while healed (R397). -/
def revertCount (s : State) : State :=
  let n := if s.on (F.CH_FO_TILE_HEALED 0) && s.tileRx.rxOk && (s.uncovered (s.foActive == 2)).isEmpty then s.fo.revertRun + 1 else 0
  { s with fo := { s.fo with revertRun := n } }

/-- Ends the reception under way: rows not covered come from the last complete frame, and what results is the new last frame. Without a
last frame, only a frame received completely becomes one (R88, R149). -/
def receptionEnd (ue ueWords : List (Nat × Nat × Nat)) (s : State) : State :=
  if !s.isTile || !s.tileRx.rx then s
  else
    let all := s.phases * s.tile.h
    let miss := s.uncovered s.tileRx.dirB
    let s := lossRun (miss.length < all && s.tileRx.rxOk) (revertCount s)
    let close := fun (r : TileRx) => { r with rx := false, turn := true, coverA := [], coverB := [], cur := [] }
    if !s.tileRx.haveLast && !(miss.isEmpty && s.tileRx.rxOk) then { s with tileRx := close s.tileRx }
    else
      let s := s.each miss (repeatRow ue ueWords)
      let s := s.each [0, 1] fun p s =>
        (s.put (F.CH_LINE_REPEAT_LAST p) (min miss.length 0xFFFF)).addSat (F.CH_LINE_REPEAT_TOTAL p) miss.length
      let r := { s.tileRx with
        haveLast := true, last := s.tileRx.cur, lastF := s.tileRx.fnum, wholeRepeat := miss.length == all,
        pcrc := (List.range s.phases).map s.phaseCrc }
      { s with tileRx := close r }

/-- Row FRAME_RECEPTION_END. In K24 mode the next VS ends the reception (R547). -/
def opReceptionEnd (ue ueWords : List (Nat × Nat × Nat)) (s : State) : State :=
  if s.isTile && ahead (s.raster.fnum + 1) s.tileRx.fnum < max s.tileRx.ovlK 1 then s else receptionEnd ue ueWords s

/-- A frame start at a tile: a reception whose last wall frame is over ends (R165). -/
def receptionTurn (s : State) : State :=
  let f := s.raster.fnum
  if s.isTile && ((max s.tileRx.ovlK 1 : Nat) ≤ ahead f s.tileRx.fnum || ahead f s.tileRx.fnum < 0) then receptionEnd [] [] s else s

/-- A reception begins with every OVL_K-th frame, from the picture direction of its start (R165, R397). -/
def receptionOpen (s : State) : State :=
  let r := s.tileRx
  if !s.isTile || r.rx || s.raster.fnum % max r.ovlK 1 ≠ 0 then s
  else { s with tileRx := { r with rx := true, rxOk := r.ready, dirB := s.pB, fnum := s.raster.fnum, coverA := [], coverB := [], cur := [] } }

/-- The frame that is emitted from a frame start on (R37, R88). -/
def emitTurn (s : State) : State :=
  if !s.isTile then s
  else
    let r := s.tileRx
    let s := { s with tileRx := { r with
      emitF := if r.haveLast then some r.lastF else none, emitCrc := r.pcrc, showing := r.showing || r.haveLast } }
    s.retile

/-! ### The tile's own whey (R156, R157, R512) -/

/-- Inserts a whey packet on each direction that the tile has not given up: direction A leaves by port 1, B by port 0. On a single-sender chain on
direction A, and on B at the end tile and at one that has given up direction A (R156). -/
def insertWhey (k : Pkt) (s : State) : State :=
  let single := s.enum.origin == 3
  let endTile := s.on (F.CH_TRAIN_STATE_END 1)
  let gaveUpA := s.on (F.CH_LINK_STATUS_RX_GIVEN_UP 0)
  let a := !(single && endTile) && !gaveUpA
  let b := (!single || endTile || gaveUpA) && !s.on (F.CH_LINK_STATUS_RX_GIVEN_UP 1)
  let s := if a && s.linked 1 then s.send (.whey 1 k) else s
  if b && s.linked 0 then s.send (.whey 0 k) else s

/-- Lane counts of a port as STATUS carries them. -/
def State.lanesByte (s : State) (p : Nat) : Nat :=
  s.get (F.CH_LINK_STATUS_RX_LANES p) % 8 + (if s.get (F.CH_LANE_MAP_RX_SPARE p) = 0 then 0 else 8) +
    s.get (F.CH_LINK_STATUS_TX_LANES p) % 8 * 16 + (if s.get (F.CH_LANE_MAP_TX_SPARE p) = 0 then 0 else 128)

/-- The highest module temperature. -/
def State.modMax (s : State) : Int :=
  (maxInt (s.pressPorts.map fun j => s.getI (F.VT_TP_MOD_TEMP_T_MEAS j))).getD 0

/-- The flags of STATUS bytes 2 and 3. -/
def State.statusFlags (s : State) : Nat :=
  let r := s.tileRx
  maskOfBits (([s.on (F.CH_ENUM_MISMATCH 0), s.noMouldTile, r.wheyLate, s.on (F.CH_ENUM_CONFLICT 0), s.on (F.CH_ENUM_EXCESS 0),
    s.on (F.CH_ENUM_REVERSED 0), s.on (F.CH_TRAIN_STATE_END 1), s.darkFlag false || s.darkFlag true, r.wholeRepeat, 1 < r.ovlK,
    s.on (F.CH_LINK_STATUS_RX_GIVEN_UP 0), s.on (F.CH_LINK_STATUS_RX_GIVEN_UP 1), s.on (F.CH_RASTER_STATE_TRACK_LARGE 0)].zipIdx.filter
      (·.1)).map (·.2))

/-- The 32 payload bytes of STATUS. -/
def State.statusBytes (s : State) : List Nat :=
  [s.addr, s.tileStateNow % 16 + s.get (F.CH_RASTER_STATE_STATE 0) % 4 * 16 + (if s.pB then 64 else 0)] ++
  leBytes 2 s.statusFlags ++ leBytes 4 s.picFrame ++ leBytes 4 (s.get F.RD_MOULD_ID_WALL_ID) ++ leBytes 2 (s.get F.RD_MOULD_INFO_MOULD_SEQ) ++
  [s.lanesByte 0, s.lanesByte 1, s.tileRx.bcA, s.tileRx.bcB] ++ leBytes 2 (ofInt 16 s.modMax) ++
  leBytes 2 (s.get (F.CH_LINE_REPEAT_LAST 0)) ++ leBytes 2 s.tileRx.segErrs ++
  [s.get F.RD_REMOULD_RESULT_STATE, s.get F.RD_REMOULD_RESULT_ERR, 0, 0, 0, 0, 0, 0]

def sendStatus (s : State) : State :=
  let s := insertWhey ⟨0x81, 0xFE, s.addr, 0, 0, s.statusBytes⟩ s
  { s with tileRx := { s.tileRx with segErrs := 0, wheyLate := false } }

/-- OUTCRC for the frame whose emission has ended, with its modules' output CRCs: those of the Press ports up to the last in use, so that a CRC's place names
its port (DEDUCED, log entry 127). -/
def sendOutcrc (f : Nat) (pics : List Nat) (s : State) : State :=
  insertWhey (outcrcPkt s.addr f pics ((List.range (s.pressPorts.foldl (fun n q => max n (q + 1)) 0)).map fun q => s.get (F.PR_PORT_OCRC_CRC q))) s

def sendTileHb (s : State) : State :=
  insertWhey (tileHbPkt s.addr s.hbRole (if s.fo.adopted then s.foActive else 0) (s.get (F.CH_FO_TILE_SINCE_A 0))
    (s.get (F.CH_FO_TILE_SINCE_B 0)) s.raster.fnum) s

/-- At most `n` LAMPFAULT packets of at most 61 entries. -/
def sendLampfaults : Nat → State → State
  | 0, s => s
  | n + 1, s =>
    let r := s.tileRx
    if r.lampQ.isEmpty && !r.lampOverflow then s
    else
      let rest := r.lampQ.drop 61
      let k := lampfaultPkt s.addr s.raster.fnum (r.lampQ.take 61) (!rest.isEmpty) r.lampOverflow
      sendLampfaults n (insertWhey k { s with tileRx := { r with lampQ := rest, lampOverflow := false } })

/-- FW_STATE every 16 frames and after a change, once per frame. -/
def sendFwState (s : State) : State :=
  if s.upd.due || 15 ≤ s.upd.since then
    insertWhey ⟨0x85, 0xFE, s.addr, 0, 0, s.fwStateBytes⟩ (s.setUpd fun u => { u with due := false, since := 0 })
  else s.setUpd fun u => { u with since := u.since + 1 }

/-- The whey of a frame; `done` is the frame whose emission has just ended and its picture CRCs. It stops when the tile's link from V0 fails
(R26). -/
def wheySend (done : Option (Nat × List Nat)) (s : State) : State :=
  if !s.tileLike || s.links.wheyStopped then s
  else
    let s := sendStatus s
    let s := match done with | some (f, pics) => sendOutcrc f pics s | none => s
    sendFwState (sendLampfaults 4 (sendTileHb s))

end Sys2Proof.Machine
end

