-- ==== Sys2Proof/Machine/Start.lean ====
section
/-!
DEFINITION. Reset, restarts and the start up to LOADED and READY (chapters 02, 03, 19, 20, 22, 23: R49 to R52, R69 to R75, R79, R87, R507,
R516, R539, R566, R586, R587), and the die links (R25, R26).
-/

namespace Sys2Proof.Machine

open Sys2Proof

/-! ### What a start leaves as it is -/

/-- The interrupt controller's pending and enable words, which only RESET_N resets (R566). -/
def irqWords : List Nat := [0x700, 0x704, 0x708, 0x70C]

/-- The part at the beginning of a start: every register at its reset value; flash, fuses, Cave, retention RAM and pins as they were. -/
def startOver (s : State) : State :=
  { State.reset with
    nv := s.nv, cave := s.cave, log := s.log, jtag := s.jtag, dram := s.dram, pending := s.pending, freeN := s.freeN, out := s.out,
    sys := { resetLow := s.sys.resetLow, railsBad := s.sys.railsBad, recovery := s.sys.recovery, perstLow := s.sys.perstLow,
             safeDark := s.sys.safeDark, card := s.sys.card } }

/-- Everything that RESET_N low does (R71, R566). -/
def resetAll (s : State) : State := showLog (startOver s)

/-- A commanded or watchdog restart: PCIe keeps its link and configuration, pending and enabled causes stay, and so does an image that the start is
to load (R61, R539, R566). -/
def restart (s : State) : State :=
  let t := startOver s
  let t := t.each irqWords fun a t => t.wr a (s.rd a)
  showLog { t with pcie := s.pcie, mould := { carry := s.mould.carry }, sys := { t.sys with warm := true } }

/-- A commanded restart, before which changed trim blocks are written (R220). -/
def commandedRestart (s : State) : State := restart (trimSave s)

/-! ### Pins and rails -/

/-- Row RESET_ASSERT. -/
def opResetAssert (s : State) : State := resetAll { s with sys := { s.sys with resetLow := true } }

/-- Row RAIL_FAULT: as RESET_N; below 0.60 V the retention RAM is cleared (R587). -/
def opRailFault (dark : Bool) (s : State) : State :=
  let s := if dark then { s with log := {} } else s
  resetAll { s with sys := { s.sys with railsBad := true } }

/-- Row RAILS_GOOD: every rail has been within its range for 1 ms. -/
def opRailsGood (s : State) : State := { s with sys := { s.sys with railsBad := false } }

/-- The endpoint's link is up, unless PERST_N or a reset holds it. -/
def pcieUp (s : State) : State := s.setPcie fun p => { p with ready := !s.sys.perstLow && !s.sys.resetLow && !s.sys.railsBad }

/-- Configuration and MSI-X table at their reset values; a vector that waited for its acknowledgement waits no more and, if it is active still, has
a message due once MSI-X is enabled (R566, R582). -/
def pcieReset (s : State) : State :=
  s.setPcie fun p => { p with busMaster := false, msixEnable := false, funcMask := false, vecMask := 0xFFFFFFFF, table := [], pba := 0,
                              waitAck := 0, due := p.active }

/-- Row PERST_RELEASE. -/
def opPerstRelease (s : State) : State := pcieUp { s with sys := { s.sys with perstLow := false } }

/-- Row PERST_ASSERT. -/
def opPerstAssert (s : State) : State := pcieUp (pcieReset { s with sys := { s.sys with perstLow := true } })

/-- Row FLR. -/
def opFlr (s : State) : State := if s.pcie.ready then pcieReset s else s

/-! ### The choice of firmware (R507) -/

/-- A source is rejected: logged, with ERR of RD_BOOT_STATUS; that of a bad header or of ROLES, for which there is no code, is free. -/
def fwReject (src e : Nat) (s : State) : State :=
  let (v, s) := s.draw
  let code := if e = 3 || e = 4 then e else v.toNat % 256
  (s.put F.RD_BOOT_STATUS_ERR code).logEv 1 0 0x0302 src code

/-- Tries one image: the image, where it passes. -/
def fwTry (src roles : Nat) (img : Option FwImage) (s : State) : Option FwImage × State :=
  match img with
  | none => (none, fwReject src 2 s)
  | some f => if s.nv.fwCheck roles f = 0 then (some f, s) else (none, fwReject src (s.nv.fwCheck roles f) s)

/-- Tries a slot's image; a slot that fails is BAD, and a TRIAL slot is left. -/
def fwSlot (i : Nat) (s : State) : Option FwImage × State :=
  let sl := s.nv.slot i
  match fwTry (i + 1) (rolesFor sl.mould) sl.fw s with
  | (some f, s) => (some f, s)
  | (none, s) => (none, if sl.state = slTrial then leaveTrial i s else s.setNv fun n => n.mark i slBad)

/-- The slot the directory names: CONFIRMED or OLD, or TRIAL with starts left, of which this one is counted. -/
def fwBootSlot (s : State) : Option FwImage × State :=
  let b := s.nv.boot
  let st := (s.nv.slot b).state
  if st = slConfirmed || st = slOld then fwSlot b s
  else if st = slTrial then
    if 0 < s.nv.tries then fwSlot b (s.setNv fun n => { n with tries := n.tries - 1 }) else (none, leaveTrial b s)
  else (none, s)

/-- The other slot, if it is CONFIRMED or OLD. -/
def fwOtherSlot (s : State) : Option FwImage × State :=
  let o := 1 - s.nv.boot
  let st := (s.nv.slot o).state
  if st = slConfirmed || st = slOld then fwSlot o s else (none, s)

/-- RECOVER.BIN on the card; it may run every personality its ROLES allow. -/
def fwCard (card : Card) (s : State) : Option FwImage × State :=
  if card.present && card.recFw.isSome then fwTry 3 14 card.recFw s else (none, s)

/-- The source taken, as RD_BOOT_STATUS codes it, and its image. -/
def fwSelect (card : Card) (s : State) : Option (Nat × FwImage) × State :=
  if s.sys.recovery then
    match fwCard card s with
    | (some f, s) => (some (3, f), s)
    | (none, s) => (none, s)
  else
    match fwBootSlot s with
    | (some f, s) => (some (s.nv.boot + 1, f), s)
    | (none, s) =>
      match fwOtherSlot s with
      | (some f, s) => (some (2 - s.nv.boot, f), s)
      | (none, s) =>
        match fwCard card s with
        | (some f, s) => (some (3, f), s)
        | (none, s) => (none, s)

/-- The settings store that firmware of format `fmt` uses: its newest copy, one converted from the newest older copy, or an empty one (R518). -/
def settingsFor (fmt : Nat) (sets : List (Nat × List (Nat × Word))) : List (Nat × List (Nat × Word)) :=
  match sets.find? (·.1 == fmt) with
  | some c => c :: (sets.filter (· != c)).take 1
  | none =>
    match sets.find? (·.1 < fmt) with
    | some c => [(fmt, c.2), c]
    | none => if sets.isEmpty then [] else (fmt, []) :: sets.take 1

/-- The starter halts (R75). -/
def halt (err : Nat) (s : State) : State :=
  ((s.put F.RD_BOOT_STATUS_STAGE 0xF).put F.RD_BOOT_STATUS_ERR err).logEv 3 0 0x0304 err 0

/-- The firmware runs: its slot, its settings, its trial, the security challenge. -/
def runFirmware (src : Nat) (f : FwImage) (s : State) : State :=
  let s := s.setUpd fun u => { u with slot := if src = 3 then none else some (src - 1), run := some f }
  let s := showFw ((s.put F.RD_BOOT_STATUS_SOURCE src).put F.RD_BOOT_STATUS_STAGE 5)
  let s := if s.inTrial then fwResult fwTrial 0 s else s
  let s := s.setNv fun n => { n with sets := settingsFor f.setFmt n.sets }
  let s := s.put F.RD_SET_RESULT_COUNT s.nv.records.length
  let (v, s) := s.draw
  (s.wr 0x550 (v.extractLsb' 0 32)).wr 0x554 (v.extractLsb' 32 32)

/-- Step 3 of R74 puts the lanes of every powered Hoop die in STANDBY (R189). -/
def standbyLanes (dies : Nat) (s : State) : State :=
  s.each ((List.range 24).filter fun g => dies.testBit (groupDie g)) (groupState · lnStandby)

/-- The starter, from the end of its RAM test on (R74, R75). -/
def starter (selfFail : Nat) (card : Card) (s : State) : State :=
  let ok := maskOfBits ((List.range 8).filter fun d => d = 0 || !selfFail.testBit d)
  let s := { s with sys := { s.sys with selfTest := ok } }.put F.RD_DIE_STATE_DIE_ON ok
  let s := s.each ((List.range 8).filter fun d => !ok.testBit d) fun d s => (s.put F.RD_BOOT_STATUS_ERR 2).logEv 2 d 0x0301 0 0
  let s := (standbyLanes ok s).put F.RD_BOOT_STATUS_STAGE 4
  let s := match s.nv.fell with
    | some i => leaveTrial i (s.setNv fun n => { n with fell := none })
    | none => s
  match fwSelect card s with
  | (some (src, f), s) => runFirmware src f s
  | (none, s) => halt 5 s

/-- Row RESET_RELEASE: the rise of RESET_N, or the beginning of a restart: `badLog` are entries that the retention RAM no longer holds intact. -/
def opResetRelease (recoveryN ramOk : Bool) (selfFail : Nat) (badLog : List Nat) (card : Card) (s : State) : State :=
  let s := { s with sys := { s.sys with resetLow := false } }
  if s.sys.railsBad || !s.sys.starting then s
  else
    let rec' := if s.sys.warm then s.sys.recovery else !recoveryN
    let s := { s with sys := { s.sys with starting := false, warm := false, recovery := rec' } }
    let s := pcieUp (s.setLog fun l => { l with startN := (l.startN + 1) % 2 ^ 16 })
    let s := (logStartCheck (logDamage badLog s)).put F.RD_BOOT_STATUS_STAGE 2
    if ramOk then starter selfFail card s else halt 1 s

/-- Row WATCHDOG_RESTART: GRACE_MS have passed without a kick (R539). -/
def opWdtRestart (s : State) : State :=
  if s.on F.RD_WDT_CTRL_EN && s.sys.wdtGrace then
    let s := s.logEv 3 0 0x1202 0 0
    showLog ((restart (s.setLog fun l => { l with wdtRestarts := l.wdtRestarts + 1 })).flag F.RD_WDT_STATUS_FIRED)
  else s

/-- At a frame start of a trial the whole seconds that have passed since LOADED leave the window (R516, R522, log entry 105). -/
def trialWindow (s : State) : State :=
  match s.upd.winAt with
  | some t =>
    let k := (s.raster.ticks - t) / tickSec
    if !s.inTrial || k = 0 then s
    else
      let s := s.setNv fun n => { n with window := n.window - k }
      (s.setUpd fun u => { u with winAt := some (t + k * tickSec) }).put F.RD_FW_STATUS_WIN_LEFT s.nv.window
  | none => s

/-- Row CONFIRM_WINDOW_EXPIRY: the first frame start after the window's end (R516). -/
def opConfirmExpiry (s : State) : State :=
  match s.upd.slot with
  | some i =>
    if s.inTrial then commandedRestart (s.setNv fun n => { n.mark i slBad with fell := some i }) else s
  | none => s

/-! ### The mould load (R49 to R52, R74) -/

/-- Did a die, of those an image uses, receive one of its sections from source `src` with a bad CRC four times, at first and in three repeats (R50)?
`sectFail` lists source, die and how often in a row the section came bad. -/
def sectionLost (sectFail : List (Nat × Nat × Nat)) (src : Nat) (m : MouldImage) : Option Nat :=
  (sectFail.find? fun e => e.1 == src && m.hdr.dieUse.testBit e.2.1 && 3 < e.2.2).map (·.2.1)

/-- A source that holds no image gives no MAGIC: error 1. -/
def mouldSourceError (sectFail : List (Nat × Nat × Nat)) (chanFail : List Nat) (src : Nat) (img : Option MouldImage) (s : State) : Nat :=
  match img with
  | none => 1
  | some m =>
    let e := s.mouldCheck (src != 3) m
    if e ≠ 0 then e
    else if (sectionLost sectFail src m).isSome then 10
    else if chanFail.any (fun c => c < 8 && usesChannel m c) then 10
    else 0

/-- The die that error 10 names: one that failed self-test, one whose link failed, one that a section did not reach, or one whose channel did
not train. -/
def State.mouldDie (s : State) (sectFail : List (Nat × Nat × Nat)) (chanFail : List Nat) (src : Nat) (m : MouldImage) : Nat :=
  match s.badDie m with
  | some d => d
  | none =>
    match s.links.failed.find? fun k => m.hdr.dieUse.testBit (k / 8) || m.hdr.dieUse.testBit (k % 8) with
    | some k => if m.hdr.dieUse.testBit (k / 8) && k / 8 != 0 then k / 8 else k % 8
    | none =>
      match sectionLost sectFail src m with
      | some d => d
      | none => 1 + (chanFail.find? (· < 8)).getD 0 / 2

/-- A failed attempt: recorded and logged (R51, R533). -/
def mouldFailed (src e : Nat) (sectFail : List (Nat × Nat × Nat)) (chanFail : List Nat) (img : Option MouldImage) (s : State) : State :=
  let arg1 := match img with
    | none => 0
    | some m => if e = 10 then s.mouldDie sectFail chanFail src m else if e = 5 then m.keyIndex else 0
  let s := if e ≠ 10 then s else match img with
    | none => s
    | some m => s.each (chanFail.filter fun c => c < 8 && usesChannel m c) fun c s =>
        (s.put (F.VT_DRAM_STATE_STATE c) 15).logEv 2 (1 + c / 2) 0x0C05 c 0
  (s.put F.RD_MOULD_STATUS_ERR e).logEv 1 0 0x0201 (src * 4096 + e) arg1

/-- The sources in order, each with its code (R51). -/
def State.mouldSources (s : State) (card : Card) : List (Nat × Option MouldImage) :=
  let own := s.runSlot
  let first := match s.mould.carry with | some m => [(4, some m)] | none => []
  let other := (s.nv.slot (1 - own)).mould
  first ++ [(1, (s.nv.slot own).mould)] ++
    (if other.all fun m => m.hdr.minFw ≤ s.runVersion then [(2, other)] else []) ++
    (if card.present then [(3, card.recMould)] else [])

/-- Tries the sources in order. -/
def mouldTry (sectFail : List (Nat × Nat × Nat)) (chanFail : List Nat) : List (Nat × Option MouldImage) → State → Option (Nat × MouldImage) × State
  | [], s => (none, s)
  | (src, img) :: t, s =>
    let e := mouldSourceError sectFail chanFail src img s
    match img with
    | some m =>
      if e = 0 then (some (src, m), s) else mouldTry sectFail chanFail t (mouldFailed src e sectFail chanFail img s)
    | none => mouldTry sectFail chanFail t (mouldFailed src e sectFail chanFail img s)

/-- The transmit settings and the equaliser targets that a start gives the lanes of a group in use (R181, R219). -/
def startLanes (g : Nat) (s : State) : State :=
  s.each (groupLanes g) fun n s => setTxAct n (s.txTarget n) (retarget n (s.cal g).temp s)

/-- The channels an image uses train (R368). -/
def loadDram (m : MouldImage) (s : State) : State := s.each ((List.range 8).filter (usesChannel m)) trainChannel

/-- A sender's raster starts at the reset geometry, or at FRATE_MAX where that is lower (R610). -/
def startRaster (m : MouldImage) (s : State) : State :=
  let slow := m.hdr.frateMax < 60000
  let g := Nat.gcd m.hdr.frateMax 1000
  let (num, den) := if slow then (m.hdr.frateMax / max g 1, 1000 / max g 1) else (60, 1)
  let s := if slow then (s.put F.RD_WTG_FRATE_NUM num).put F.RD_WTG_FRATE_DEN den else s
  { s with raster := { s.raster with running := true, ltotal := 1125, num := num, den := den } }

/-- The lanes of groups that are in none of `used` go to REST (R189). -/
def restLanes (used : List Nat) (s : State) : State :=
  s.each ((List.range 24).filter fun g => !used.contains g && (groupLanes g).any fun n => s.rd (F.HP_LANE_STATE_TXS n).addr != 0) fun g s =>
    groupRate g 0 (groupState g lnRest s)

/-- The ports in use begin training, and every other lane goes to REST (R189); in K24 mode lanes 0 and 5 look for the legacy chain. -/
def startPorts (m : MouldImage) (s : State) : State :=
  let s := restLanes (if m.hdr.role = 3 then [] else m.lanes.map (·.port)) { s with sys := { s.sys with txIdle := false } }
  if m.hdr.role = 3 then
    let s := groupRate 1 rate3125 (groupRate 0 rate3125 s)
    let s := groupPll 1 (groupPll 0 (setLane 5 lnTrain lnTrain (setLane 0 lnTrain lnTrain s)))
    let s := k24Load m.k24 s
    { s with raster := { s.raster with running := true } }
  else s.each (m.lanes.map (·.port)) fun g s => usePort g true s

/-- Steps 5 to 7 of R49 on an image that has passed its checks. -/
def mouldLoaded (us src : Nat) (trimFail : List Nat) (m : MouldImage) (s : State) : State :=
  let s := loadFields m (s.setMould fun x => { x with carry := none })
  let s := (s.put F.RD_DIE_STATE_ROLE m.hdr.role).put F.RD_DIE_STATE_DIE_RUN (m.hdr.dieUse ||| 1)
  let s := mouldStatus 1 src s
  let s := (s.put F.RD_LOADED_TIME_LOADED_US us).put F.RD_BOOT_STATUS_STAGE 6
  let s := loadTrims trimFail (bitsOf 8 (m.hdr.dieUse ||| 1)) s
  let s := s.each ((List.range 24).filter fun g => s.on (F.HP_GROUP_STATE_IN_USE g) || (m.hdr.role == 3 && g < 2)) startLanes
  let s := useEngines m (loadDram m s)
  let s := if m.hdr.role = 1 then startRaster m s else s
  let s := startPorts m s
  let s := if m.hdr.role = 1 && s.sys.safeDark then s.each s.portsInUse portDarkOn else s
  let s := s.setNv fun n => { n with lastRole := m.hdr.role }
  let s := if m.hdr.role = 3 && s.inTrial then upSet upTrial 0 s else s
  let s := s.setUpd fun u => { u with winAt := if s.inTrial then some s.raster.ticks else none }
  pressDark (showUmax (showPresLat s)).retile

/-- No source loads (R52): V1 to V3, H1 and the Press die are gated, and of V0 and H0 only one that passed self-test is powered (R75). STAGE stays at
0x5 (log entry 87). -/
def noMould (s : State) : State :=
  let s := mouldStatus 2 0 s
  let on := 1 ||| (0x22 &&& s.sys.selfTest)
  let chain := s.nv.lastRole ≠ 1 && on.testBit 5
  let s := (s.put F.RD_DIE_STATE_DIE_ON on).put F.RD_DIE_STATE_DIE_RUN (if chain then 0x21 else 0x01)
  let s := restLanes (if chain then [0, 1] else []) (loadTrims [] (if on.testBit 5 then [5] else []) s)
  if chain then (usePort 1 true (usePort 0 true { s with sys := { s.sys with txIdle := false } })).retile else s

/-- The settings records as host writes, in stored order (R518). -/
def applySettings : List (Nat × Word) → State → Except Fault State
  | [], s => .ok s
  | (a, v) :: t, s => match hostWrite a v s with
    | .ok s => applySettings t s
    | .error e => .error e

/-- Row MOULD_LOAD: `us` since the rise of RESET_N; sections that came bad, channels that did not train, and trim blocks that failed their
check. -/
def opMouldLoad (us : Nat) (sectFail : List (Nat × Nat × Nat)) (chanFail trimFail : List Nat) (card : Card) (s : State) : Except Fault State :=
  if s.get F.RD_BOOT_STATUS_STAGE ≠ 5 || s.on F.RD_MOULD_STATUS_VALID then .ok s
  else
    let s := s.setCard fun c => { c with present := card.present, recMould := card.recMould }
    match mouldTry sectFail chanFail (s.mouldSources card) s with
    | (some (src, m), s) => applySettings s.nv.records (mouldLoaded us src trimFail m s)
    | (none, s) => .ok (noMould s)

/-! ### The Cave load (R79, R309, R501) -/

/-- The correction table with unity matrices in the failed blocks. -/
def cleanCorr (failed : List Nat) (px : Nat) (c : CorrBank) : CorrBank :=
  let bad := (List.range (4 * px)).filter fun j => inFailed failed (18 * j) 18
  bad.foldl (fun b j => (List.range 9).foldl (fun b k => b.put (j / 4) (j % 4) k (if k % 4 = 0 then 16384 else 0)) b) c

/-- TSET values in register order, where they rise strictly. -/
def tsetOk (l : List Int) : Bool :=
  match l with
  | [a, b, c, d] => a < b && b < c && c < d
  | _ => false

/-- Bank 0 as the Cave load leaves it: its coefficients, its TSET values, those of the Cave where `tset` or else the reset values, and that it is active (R309). -/
def corrLoad (tset : Bool) (failed : List Nat) (s : State) : State :=
  let c := s.cave
  let s := { s with tp := { s.tp with bank0 := cleanCorr failed (s.tile.w * s.tile.h) c.corr } }
  if s.isK24 then s
  else
    let l := if tset then c.tset else [160, 320, 480, 640]
    let w := fun (i : Nat) => BitVec.ofNat 32 (ofInt 16 (l.getD i 0) + 65536 * ofInt 16 (l.getD (i + 1) 0))
    ((s.wr (atTP 0x20) (w 0)).wr (atTP 0x24) (w 2)).put F.VT_TP_STATUS_BANK_ACT 0

/-- Row CAVE_LOAD_DONE: `failed` are blocks of the table area; `dirOk` says whether the table directory passed its check. A load that a re-mould brings leaves
a correction table whose place has not changed (R315). -/
def opCaveLoadDone (failed : List Nat) (dirOk : Bool) (s : State) : State :=
  if !s.drives || s.tileRx.caveDone then s
  else
    let s := caveConvert s
    let px := s.tile.w * s.tile.h
    let c := s.cave
    let tset := dirOk && tsetOk c.tset
    let kept := s.tileRx.corrKept
    let s := if kept then s else corrLoad tset failed s
    let lampMap := c.lampMap.filter fun e => !inFailed failed (72 * px + 4 * e.1) 4
    let s := { s with tp := { s.tp with
      lampMap := lampMap,
      status := c.status.filter fun e => !inFailed failed (84 * px + e.1 / 2) 1 && lmValid (Tab.get (fun _ => 0) lampMap e.1) } }
    -- one log entry for each section that failed; the first block of one that failed by its TSET values alone is free
    let (v, s) := s.draw
    let hit := fun (lo hi : Nat) => (failed.filter fun b => lo < hi && lo / 65536 ≤ b && b ≤ (hi - 1) / 65536).foldl
      (fun m b => some (match m with | some x => min x b | none => b)) (none : Option Nat)
    let s := if kept then s else match hit 0 (72 * px) with
      | some b => s.logEv 1 0 0x0A01 0 b
      | none => if tset || s.isK24 then s else s.logEv 1 0 0x0A01 0 (v.toNat % 2 ^ 32)
    let s := match hit (72 * px) (84 * px) with | some b => s.logEv 1 0 0x0A01 1 b | none => s
    let s := match hit (84 * px) (84 * px + ceilDiv (3 * px) 2) with | some b => s.logEv 1 0 0x0A01 2 b | none => s
    { s with tileRx := { s.tileRx with caveDone := true, caveFailed := failed, corrKept := false } }

/-- Row TILE_READY (R87): T_EFF takes T_MEAS (R312). -/
def opTileReady (s : State) : State :=
  if s.tileRx.ready || !s.mayBeReady || s.get (F.CH_RASTER_STATE_STATE 0) != 2 then s
  else
    let s := tempFrame true { s with tileRx := { s.tileRx with ready := true }, fo := { s.fo with refInit := true, refWait := 0 } }
    pressDark (showRole s).retile

/-! ### Die links (R24 to R26) -/

/-- Is there a link between two dies (R24)? Every pair has one but the Hoop dies with each other and with the Press. -/
def linkExists (a b : Nat) : Bool := a < b && b ≤ 7 && a < 5

/-- Row DIE_LINK_REPLAY. DESIGN CHOICE (log entry 86): the link's replay counter, for which R25 gives no width, counts without end. -/
def opLinkReplay (a b : Nat) (s : State) : State :=
  let k := 8 * min a b + max a b
  if linkExists (min a b) (max a b) && !s.links.failed.contains k then
    { s with links := { s.links with replays := Tab.set (fun _ => 0) k (Tab.get (fun _ => 0) s.links.replays k + 1) s.links.replays } }
  else s

/-- Row DIE_LINK_FAIL: logged and shown, and what it cuts off. -/
def opLinkFail (a b : Nat) (s : State) : State :=
  let (a, b) := (min a b, max a b)
  let k := 8 * a + b
  if !linkExists a b || s.links.failed.contains k then s
  else
    let s := s.logEv 2 a 0x0101 (2 ^ a + 2 ^ b) 0
    let s := s.put F.RD_DIE_STATE_LINK_FAIL (setBit (setBit (s.get F.RD_DIE_STATE_LINK_FAIL) a) b)
    let whey := s.drives && k = 13
    let s := { s with links := { s.links with failed := k :: s.links.failed, wheyStopped := s.links.wheyStopped || whey } }
    let s := { s with links := { s.links with hbStopped := s.cutPorts } }
    if s.drives then pressDark s else s

/-! ### K24 APPLY (R557) and the personality change of a re-mould (R61) -/

/-- An APPLY whose time has come: at a VS, or after its 100 ms, and not while a SAVE runs. -/
def k24Activate (vs : Bool) (s : State) : State :=
  if s.k24.apply && (vs || s.k24.applyNow) && !s.saving then commandedRestart (k24Slots s) else s

/-- Row VS with the APPLY that waits for it. -/
def opVsFull (bytes : List Nat) (viol : Bool) (v : VsTurn) (s : State) : State :=
  let t := opVs bytes viol v (s.setK24 fun k => { k with turn := false })
  if t.k24.turn then k24Activate true t else t.setK24 fun k => { k with turn := s.k24.turn }

/-- Rows UPD_APPLY_TIMEOUT and TABLE_SAVE_DONE with the APPLY that waits for them. -/
def opUpdTimeoutFull (s : State) : State := k24Activate false (opUpdTimeout s)
def opSaveDoneFull (s : State) : State := k24Activate false (opTableSaveDone s)

/-- The re-mould that is due (R61, third action of R102): the armed image replaces the loaded one; a change of personality goes through a restart that
loads it. -/
def switchFrame (s : State) : State :=
  match s.switchDue with
  | none => s
  | some m => if m.hdr.role == s.role then switchLive m s else commandedRestart (s.setMould fun x => { x with carry := some m })

/-- Row REMOULD_SWITCH: the switch by itself; FRAME_START makes it in its place among the actions of a frame boundary. -/
def opRmSwitch (s : State) : State :=
  if s.switchDue.isNone then s
  else
    let t := switchFrame s
    if t.sys.starting then t else latchAll t.raster.fnum t

end Sys2Proof.Machine
end

