-- ==== Sys2Proof/Machine/ExecFw.lean ====
section
/-!
DEFINITION. The commands' meanings, one for each: Firmware, settings, security, the log and the interrupts (chapters 19, 20, 22). Each cites its rule; what it does stands in the shared operations.
-/

namespace Sys2Proof.Machine

open Sys2Proof

/-- INSTALL_FW (R509). -/
def execInstallFw (fw : Option FwImage) (mould : Option MouldImage) (s : State) : Host.Outcome State Fault Refusal :=
  run (opInstallFw (fw.bind fun f => mould.map fun m => (f, m))) s

/-- INSTALL_TILE (R509). -/
def execInstallTile (file : Option Package) (s : State) : Host.Outcome State Fault Refusal :=
  run (opInstallTile file) s

/-- INSTALL_REMOULD (R509). -/
def execInstallRemould (bytes : Option (List Nat)) (contents : MouldImage) (s : State) : Host.Outcome State Fault Refusal :=
  run (opInstallRemould (bytes.map fun b => { contents with raw := b })) s

/-- FW_ARM (R514). -/
def execFwArm (s : State) : Host.Outcome State Fault Refusal :=
  run opFwArm s

/-- ARM_REVERT (R514). -/
def execArmRevert (s : State) : Host.Outcome State Fault Refusal :=
  run opArmRevert s

/-- FW_CANCEL (R522). -/
def execFwCancel (s : State) : Host.Outcome State Fault Refusal :=
  run opFwCancel s

/-- CONFIRM (R517). -/
def execConfirm (late : Bool) (s : State) : Host.Outcome State Fault Refusal :=
  run (opConfirm late) s

/-- FW_ACTIVATE_CHECK (R515). -/
def execFwActivateCheck (s : State) : Host.Outcome State Fault Refusal :=
  run opFwCheck s

/-- CONFIRM_WINDOW_EXPIRY (R516). -/
def execConfirmWindowExpiry (s : State) : Host.Outcome State Fault Refusal :=
  run opConfirmExpiry s

/-- FW_BEGIN (R511). -/
def execFwBegin (a : Arrival) (src seq dest kind total id mseq last : Nat) (dirB : Bool) (s : State) : Host.Outcome State Fault Refusal :=
  let k := rxFlags a.rest ⟨0x30, dest, src, seq, 0, fwBeginBytes kind total id mseq last dirB⟩
  run (onPort a.port (receive a.port k a.rest (opFwBegin a.port kind total id mseq last dirB k))) s

/-- FW_DATA (R511). -/
def execFwData (a : Arrival) (src seq dest off : Nat) (bytes : List Nat) (s : State) : Host.Outcome State Fault Refusal :=
  let k := rxFlags a.rest ⟨0x31, dest, src, seq, 0, leBytes 4 off ++ bytes⟩
  run (onPort a.port (receive a.port k a.rest (opFwData a.port off bytes k))) s

/-- FW_END (R511). -/
def execFwEnd (a : Arrival) (src seq dest total : Nat) (s : State) : Host.Outcome State Fault Refusal :=
  let k := rxFlags a.rest ⟨0x32, dest, src, seq, 0, leBytes 4 total⟩
  run (onPort a.port (receive a.port k a.rest (opFwEnd a.port total k))) s

/-- FW_VERIFY_DONE (R511). -/
def execFwVerifyDone (regs : List (Nat × Word)) (contents : MouldImage) (s : State) : Host.Outcome State Fault Refusal :=
  run (opFwVerifyDone { contents with mregs := regs }) s

/-- FW_FLASH_WRITE_DONE (R511). -/
def execFwFlashWriteDone (ok : Bool) (s : State) : Host.Outcome State Fault Refusal :=
  run (opFwFlashDone ok) s

/-- FW_ACTIVATE (R515). -/
def execFwActivate (a : Arrival) (src seq op sFrame version win tries : Nat) (s : State) : Host.Outcome State Fault Refusal :=
  let k := rxFlags a.rest ⟨0x33, 0xFF, src, seq, 0, fwActivateBytes op sFrame version win tries⟩
  run (onPort a.port (receive a.port k a.rest (opFwActivate a.port op sFrame version win tries k))) s

/-- FW_CONFIRM (R517). -/
def execFwConfirm (a : Arrival) (src seq version : Nat) (s : State) : Host.Outcome State Fault Refusal :=
  let k := rxFlags a.rest ⟨0x34, 0xFF, src, seq, 0, leBytes 4 version⟩
  run (onPort a.port (receive a.port k a.rest (opFwConfirm a.port version k))) s

/-- FW_ABORT (R511). -/
def execFwAbort (a : Arrival) (src seq dest : Nat) (s : State) : Host.Outcome State Fault Refusal :=
  let k := rxFlags a.rest ⟨0x35, dest, src, seq, 0, []⟩
  run (onPort a.port (receive a.port k a.rest (opFwAbort a.port k))) s

/-- FW_STATE (R512). -/
def execFwState (a : Arrival) (addr : Nat) (payload : List Nat) (s : State) : Host.Outcome State Fault Refusal :=
  let k := rxSeq a.rest ⟨0x85, 0xFE, addr, 0, 0, payload⟩
  run (onPort a.port (receive a.port k a.rest (opFwState a.port addr payload k))) s

/-- DIST_START (R513). -/
def execDistStart (p : Nat) (val : Word) (s : State) : Host.Outcome State Fault Refusal :=
  runRindF (onlyE (p < 16) (withWord (atCHS p 0xE8) val (opDistStart p val))) s

/-- DIST_ABORT (R526). -/
def execDistAbort (p : Nat) (val : Word) (s : State) : Host.Outcome State Fault Refusal :=
  runRindF (onlyE (p < 16) (withWord (atCHS p 0xE8) val (opDistAbort p val))) s

/-- SET_STORE (R524). -/
def execSetStore (s : State) : Host.Outcome State Fault Refusal :=
  run opSetStore s

/-- SET_DELETE (R524). -/
def execSetDelete (s : State) : Host.Outcome State Fault Refusal :=
  run opSetDelete s

/-- SET_CLEAR (R524). -/
def execSetClear (s : State) : Host.Outcome State Fault Refusal :=
  run opSetClear s

/-- ENROLL (R505). -/
def execEnroll (slot : Nat) (s : State) : Host.Outcome State Fault Refusal :=
  run (opEnroll slot) s

/-- REVOKE (R520). -/
def execRevoke (slot : Nat) (s : State) : Host.Outcome State Fault Refusal :=
  run (opRevoke slot) s

/-- LOCK_DEBUG (R520). -/
def execLockDebug (s : State) : Host.Outcome State Fault Refusal :=
  run opLockDebug s

/-- UNLOCK (R520). -/
def execUnlock (slot : Nat) (s : State) : Host.Outcome State Fault Refusal :=
  run (opUnlock slot) s

/-- RELOCK (R520). -/
def execRelock (s : State) : Host.Outcome State Fault Refusal :=
  run opRelock s

/-- LOG_EVENT (R530). -/
def execLogEvent (s : State) : Host.Outcome State Fault Refusal :=
  runAlways opLogEvent s

/-- ELOG_SEL_WRITE (R537). -/
def execElogSelWrite (val : Word) (s : State) : Host.Outcome State Fault Refusal :=
  runRindF (withWord 0x604 val (opElogSelWrite val)) s

/-- ELOG_DATA_READ (R537). -/
def execElogDataRead (s : State) : Host.Outcome State Fault Refusal :=
  runRind opElogDataRead s

/-- CLR_RING (R540). -/
def execClrRing (s : State) : Host.Outcome State Fault Refusal :=
  runRind opClrRing s

/-- CLR_FATAL (R540). -/
def execClrFatal (s : State) : Host.Outcome State Fault Refusal :=
  runRind opClrFatal s

/-- WATCHDOG_KICK (R539). -/
def execWatchdogKick (s : State) : Host.Outcome State Fault Refusal :=
  runAlways opWdtKick s

/-- WATCHDOG_WARN (R539). -/
def execWatchdogWarn (s : State) : Host.Outcome State Fault Refusal :=
  runAlways opWdtWarn s

/-- WATCHDOG_RESTART (R539). -/
def execWatchdogRestart (s : State) : Host.Outcome State Fault Refusal :=
  runAlways opWdtRestart s

/-- IRQ_CAUSE (R570). -/
def execIrqCause (c : Nat) (s : State) : Host.Outcome State Fault Refusal :=
  runRind (opIrqCause c) s

/-- MSIX_SEND (R572). -/
def execMsixSend (v : Nat) (s : State) : Host.Outcome State Fault Refusal :=
  runRind (only (v < 32) (opMsixSend v)) s

/-- IRQ_ACK (R572). -/
def execIrqAck (val : Word) (s : State) : Host.Outcome State Fault Refusal :=
  runRindF (withWord 0x710 val (opIrqAck val.toNat)) s

/-- IRQ_CONFIG_WRITE (R573). -/
def execIrqConfigWrite (addr : Nat) (val : Word) (s : State) : Host.Outcome State Fault Refusal :=
  runRindF (withWord addr val (opIrqConfig addr val)) s

/-- UID_READ (R580). -/
def execUidRead (s : State) : Host.Outcome State Fault Refusal :=
  runRind opUidRead s

/-- EXTEST (R576). -/
def execExtest (cells : List Bool) (seen : Nat) (s : State) : Host.Outcome State Fault Refusal :=
  runRind (opExtest cells seen) s

/-- IDCODE (R576). -/
def execIdcode (s : State) : Host.Outcome State Fault Refusal :=
  runRind opIdcode s

/-- SAMPLE_PRELOAD (R576). -/
def execSamplePreload (cells : List Bool) (seen : Nat) (s : State) : Host.Outcome State Fault Refusal :=
  runRind (opSample cells seen) s

/-- ELOG_SEL (R536). -/
def execElogSel (sel : Nat) (s : State) : Host.Outcome State Fault Refusal :=
  runAlways (opJtagSel sel) s

/-- ELOG_DATA (R536). -/
def execElogData (s : State) : Host.Outcome State Fault Refusal :=
  runAlways opJtagData s

/-- DBG_ACCESS (R576). -/
def execDbgAccess (addr : Nat) (val : Option Word) (s : State) : Host.Outcome State Fault Refusal :=
  runRindF (opDbg addr val) s

/-- BYPASS (R576). -/
def execBypass (code : Nat) (s : State) : Host.Outcome State Fault Refusal :=
  runRind (opBypass code) s

/-- FW_ARM_PARTNER_TIMEOUT (R514). -/
def execFwArmPartnerTimeout (s : State) : Host.Outcome State Fault Refusal :=
  run opFwArmTimeout s

/-- MSIX_UNMASK (R572). -/
def execMsixUnmask (busMaster enable funcMask : Bool) (vecMask : Nat) (entries : List (Nat × Nat × Nat)) (s : State) : Host.Outcome State Fault Refusal :=
  runRind (opMsixUnmask busMaster enable funcMask vecMask entries) s

/-- INSTALL_DONE (R509). -/
def execInstallDone (ok : Bool) (s : State) : Host.Outcome State Fault Refusal :=
  run (opInstallDone ok) s

/-- SEC_CMD_DONE (R525). -/
def execSecCmdDone (s : State) : Host.Outcome State Fault Refusal :=
  run opSecDone s

/-- SET_CMD_DONE (R524). -/
def execSetCmdDone (drop : Bool) (s : State) : Host.Outcome State Fault Refusal :=
  run (opSetDone drop) s

/-- SEC_CHAL_READ (R525). -/
def execSecChalRead (s : State) : Host.Outcome State Fault Refusal :=
  runRind opChalRead s

end Sys2Proof.Machine
end

