-- ==== Sys2Proof/Machine/FrameStart.lean ====
section
/-!
DEFINITION. The frame start (R102): scheduled geometry, committed values, what remains of a re-mould, firmware activation, switch-over and layer
flips in this order, and what a sender, a tile and a K24 part do once per frame around it.
-/

namespace Sys2Proof.Machine

open Sys2Proof

/-! ### Committed values (R121, R124, and the refusals of R113, R275, R314, R342, R428) -/

/-- The word a register holds once the taken word `w` applies. -/
def State.newWord (s : State) (a : Nat) (w : Word) : Word := (s.rd a &&& ~~~ commitBitsAt a) ||| (w &&& commitBitsAt a)

/-- The registers as they stand once every taken word applies. -/
def State.rdAfter (s : State) (l : Tab (Option Word)) (a : Nat) : Word :=
  match Tab.get (fun _ => none) l a with
  | some w => s.newWord a w
  | none => s.rd a

/-- Drops the taken words whose offset satisfies `p`. -/
def dropTaken (p : Nat → Bool) (l : Tab (Option Word)) : Tab (Option Word) := l.filter fun e => !p e.1

/-- Is the offset one of the host schedule's? -/
def slotReg (a : Nat) : Bool := atSLOT 0 ≤ a && a < atSLOT 0x20

/-- The schedule as a whole is committed or refused (R342). -/
def commitSlots (l : Tab (Option Word)) (s : State) : Tab (Option Word) × State :=
  if l.any (fun e => slotReg e.1) && s.slotRefuse (s.rdAfter l) then
    (dropTaken slotReg l, s.raise F.PR_SLOT_STATUS_SLOT_REFUSED 34)
  else (l, s)

/-- A port's chain timing is committed or refused (R113). -/
def commitCtg (p : Nat) (x : Tab (Option Word) × State) : Tab (Option Word) × State :=
  let (l, s) := x
  let g := (F.CH_CTG_GEOM_ACTIVE_C p).addr
  let o := (F.CH_CTG_OFFSET_OFF_LPOS p).addr
  let rd := s.rdAfter l
  if l.any (fun e => e.1 == g || e.1 == o) &&
      !ctgOk s.raster ((F.CH_CTG_GEOM_LTOTAL_C p).of (rd g)) ((F.CH_CTG_GEOM_ACTIVE_C p).of (rd g))
        ((F.CH_CTG_OFFSET_OFF_LPOS p).of (rd o)) ((F.CH_CTG_OFFSET_OFF_LPHASE p).of (rd o)) then
    (dropTaken (fun a => a == g || a == o) l, s.flag (F.CH_CTG_STATUS_REFUSED p))
  else (l, s)

/-- The die and index of the target whose VT_TGT_CTRL an offset is. -/
def tgtCtrl (a : Nat) : Option (Nat × Nat) :=
  let o := a % 0x1000000
  if 1 ≤ dieOf a && dieOf a ≤ 4 && 0x31000 ≤ o && o < 0x31800 && o % 0x80 = 0 then some (dieOf a - 1, (o - 0x31000) / 0x80) else none

/-- A committed VT_TGT_CTRL: where write-back would exceed the die's limit WB_EN stays, the other values apply (R275). -/
def commitTarget (v t a : Nat) (w : Word) (s : State) : State :=
  if (F.VT_TGT_CTRL_WB_EN v t).of w = 1 && s.wbRefuse v t then
    let keep := (F.VT_TGT_CTRL_WB_EN v t).into w (s.get (F.VT_TGT_CTRL_WB_EN v t))
    (s.wr a (s.newWord a keep)).flag (F.VT_TGT_STATUS_WB_REFUSED v t)
  else s.wr a (s.newWord a w)

/-- A committed BANK: a ramp starts, or the bank in force stays (R314, R554). -/
def commitBank (w : Word) (s : State) : State :=
  let b := F.VT_TP_CTRL_BANK.of w
  if s.bankRefuse b || s.isK24 then s.raise F.VT_TP_STATUS_BANK_REFUSED 25
  else bankStart b (s.put F.VT_TP_CTRL_BANK b)

/-- The chain port whose CH_CTG_GEOM an offset is. -/
def ctgPort (a : Nat) : Option Nat := (List.range 16).find? fun p => a == (F.CH_CTG_GEOM_LTOTAL_C p).addr

/-- One committed word. -/
def commitOne (e : Nat × Option Word) (s : State) : State :=
  match e.2 with
  | none => s
  | some w =>
    let a := e.1
    if a = F.RD_WTG_CTRL_REF_SEL.addr then refSelApplied s.refSel (s.wr a (s.newWord a w))
    else if a = atWHEEL 0 then
      if s.wheelRefuse w then s.raise F.RD_WHEEL_STATUS_WHEEL_REFUSED 5 else wheelCommit w s
    else if a = atTP 0 then commitBank w s
    else if a % 0x100 = 0x40 && (ctgPort a).isSome then
      let s := s.wr a (s.newWord a w)
      s.putB (F.CH_CTG_STATUS_RUNNING ((ctgPort a).getD 0)) (s.get (F.CH_CTG_GEOM_LTOTAL_C ((ctgPort a).getD 0)) != 0)
    else if a = atAUD 0 4 || a = atAUD 1 4 || a = atAUD 2 4 || a = atAUD 3 4 then
      audGroupDelay ((a - atAUD 0 4) / 0x100) (s.wr a (s.newWord a w))
    else match tgtCtrl a with
      | some (v, t) => commitTarget v t a w s
      | none => s.wr a (s.newWord a w)

/-- Does a committed word switch write-back on? Such words apply after the others. -/
def setsWriteBack (e : Nat × Option Word) : Bool :=
  (tgtCtrl e.1).isSome && (match e.2 with | some w => w.getLsbD 31 | none => false)

/-- The second action of R102: everything the last cut took. A schedule that fits ends SLOT_TRUNC (R343). -/
def commitFrame (s : State) : State :=
  let load := s.commit.fnumLoadTaken
  let l := s.taken
  let s := { s with taken := [], commit := { s.commit with takenAny := false, fnumLoadTaken := false } }
  let x := (List.range 16).foldl (fun x p => commitCtg p x) (commitSlots l s)
  let s := x.2.each (x.1.filter fun e => !setsWriteBack e) commitOne
  let s := s.each (x.1.filter setsWriteBack) commitOne
  let s := s.when load fnumLoadApply
  let s := if x.1.any (fun e => slotReg e.1) && !s.slotsPast then s.put F.PR_SLOT_STATUS_SLOT_TRUNC 0 else s
  showUmax s

/-! ### A sender's frame start (R114, R143, R152, R153, R165, R399) -/

/-- The RASTER packet of a port; the launch residual is what the launch gave. -/
def senderRaster (p : Nat) (s : State) : State :=
  let (v, s) := s.draw
  let r := s.raster
  let n := s.nextGeometry.getD (0, 0, 0, 0)
  let k : RasterPkt := {
    fnum := r.fnum, ltotal := r.ltotal, num := r.num, den := r.den, changedLen := r.adjNext != 0, nextValid := s.nextGeometry.isSome,
    ovlK := s.get (F.CH_LINK_STATUS_OVL_K p), residual := v.toNat % 160, cumAdj := 0, lenAdj := r.adjNext,
    s := n.1, ltotalS := n.2.1, numS := n.2.2.1, denS := n.2.2.2 }
  s.send (.ctrl p (rasterPkt (endCode s.senderEnd) k))

/-- Is an ingest engine that feeds a target of the port STOPPED or OVER_BUDGET? -/
def State.sourceBad (s : State) (p : Nat) : Bool :=
  (s.targets.filter fun t => s.get (F.VT_TGT_CTRL_PORT t.1 t.2) == p).any fun t =>
    (s.layersOf t.1 t.2).any fun c =>
      s.on (F.VT_LE_CTRL_EN c.vat c.engine) && s.get (F.VT_LE_SRC_KIND c.vat c.engine) == 0 &&
        (let st := s.ingState (s.get (F.VT_LE_SRC_DIE c.vat c.engine)) (s.get (F.VT_LE_SRC_INDEX c.vat c.engine))
         st == ingStopped || st == ingOver)

/-- HEALTH of a port (R399). -/
def State.health (s : State) (p : Nat) : Nat :=
  let st := s.get F.RD_WTG_STATUS_STATE
  maskOfBits (([st == wtgLocked || (st == wtgFree && s.refSel == 0), !s.sourceBad p, !(s.port p).underrunPrev,
    s.get (F.CH_LINK_STATUS_OVL_K p) == 1, s.get F.RD_FO_KICK_TIMEOUT_MS == 0 || !s.fo.kickExpired].zipIdx.filter (·.1)).map (·.2))

/-- The frame's HEALTH against HMASK, and the runs of R399. -/
def healthRun (p : Nat) (s : State) : State :=
  let m := s.get (F.CH_FO_CTRL_HMASK p)
  let good := s.health p &&& m == m
  showHbState p (unfitJudge p (s.setPort p fun c =>
    { c with hBad := if good then 0 else c.hBad + 1, hGood := if good then c.hGood + 1 else 0 }))

/-- ARM of R152 with its T: a re-mould armed or sent, or a firmware activation. -/
def State.armByte (s : State) : Nat × Nat :=
  match s.upd.arm with
  | some (_, sf, go) => (if go then 4 else 3, sf)
  | none =>
    if s.rmState = rmArmed then (1, s.get F.RD_REMOULD_FNUM_FNUM)
    else if s.rmState = rmGoSent then (2, s.get F.RD_REMOULD_FNUM_FNUM) else (0, 0)

/-- The HEARTBEAT of a port, once per frame after RASTER. -/
def sendHeartbeat (p : Nat) (s : State) : State :=
  if s.links.hbStopped.testBit p then s
  else
    let a := s.armByte
    let s := s.put (F.CH_FO_STATUS_HEALTH p) (s.health p)
    let s := if hbState p s = 4 then s.inc (F.CH_FO_COUNT_UNFIT_N p) else s
    s.send (.ctrl p (heartbeatPkt s.senderEnd (hbState p s) (s.health p) s.raster.fnum a.1 a.2
      (s.get F.RD_MOULD_ID_WALL_ID) (s.get F.RD_MOULD_INFO_MOULD_SEQ)))

/-- A sender port's launches: marker, repeats of SAFE_DARK, RASTER, HEARTBEAT. -/
def launchPort (p : Nat) (s : State) : State :=
  let s := healthRun p s
  let s := if s.linked p then sendHeartbeat p (senderRaster p (darkRepeat p (s.send (.marker p)))) else s
  s.setPort p fun c => { c with
    underrun := false, bcast := c.bcast.map fun f => { f with frames := f.frames + 1 } }

/-- A sender port before the launches: the underrun of the frame that ended is kept. -/
def portFrame (p : Nat) (s : State) : State := s.setPort p fun c => { c with underrunPrev := c.underrun }

/-- The sender's composition turns over: each port's overload is judged, the engines latch what a composed frame shows, and the frame's record begins (R102, R165,
R254, R295). -/
def composeTurn (s : State) : State :=
  let s := latchAll s.raster.fnum (s.each s.portsInUse overloadEval)
  s.each s.portsInUse fun p s => soOpen p s.raster.fnum s

/-- The sender's share of a frame start, after the actions of R102. -/
def senderFrame (s : State) : State :=
  if !s.isSender then s
  else
    let s := ptpReference (lengthStep (steerFrame s))
    let s := { s with links := { s.links with hbStopped := s.cutPorts } }
    let s := s.each s.portsInUse portFrame
    let s := activateRepeat (remouldRepeat s)
    let s := s.each s.portsInUse launchPort
    s.each ((List.range 4).flatMap fun v => [(v, 0), (v, 1)]) fun e s => stoppedFrame e.1 e.2 s

/-! ### A tile's frame start (R88, R117, R143, R149, R310, R312, R314) -/

/-- The raster's jump and slew: a jump changes the length of the frame that starts, which repeats the last frame; at most 5 ns a frame are slewed
out (R117, R118). -/
def tileRasterTurn (s : State) : State :=
  if !s.tileLike then s
  else
    let t := s.tileRas
    let adj := match t.jump with | some err => err / 2500 | none => 0
    let s := { s with
      raster := { s.raster with adj := s.raster.adjNext + adj, adjNext := 0 },
      tileRas := { t with jump := none, slew := toward t.slew 0 5000, seenA := false, seenB := false },
      tileRx := { s.tileRx with rxOk := s.tileRx.rxOk && t.jump.isNone, ageA := s.tileRx.ageA + 1, ageB := s.tileRx.ageB + 1 } }
    s

/-- The share of a part that drives lamps, before the commits: reception and picture path turn over; pending lamp changes apply. -/
def drivesBefore (s : State) : State :=
  let s := tileRasterTurn (receptionTurn (foRead s))
  let s := if s.drives then k24Frame (pathTurn s) else s
  emitTurn s

/-- After the commits: ramp, temperatures, ceilings, lamps, Press. -/
def drivesAfter (s : State) : State :=
  if !s.drives then s else pressFrame (lampApply (ceilFrame (tempFrame false (rampStep s))))

/-! ### The frame start -/

/-- The raster stands at the start of the next frame: where no tick has wrapped, the command itself starts it. The deadline (R402) and the cut of the
frame that ends take place now if their positions were not reached (R107). -/
def turnFrame (s : State) : State :=
  let r := s.raster.wrapped
  let s := { s with raster := { r with fnum := (r.fnum + 2 ^ 32 - 1) % 2 ^ 32 } }
  let s := if s.sys.tripped then s else refereeJudge s
  let s := wheelTurn (if s.raster.cutDone then s else cutNow s)
  { s with raster := { s.raster with fnum := r.fnum, boundary := false, cutDone := false, refDone := false } }

/-- The six actions of R102, in its order. -/
def frameActions (s : State) : State :=
  let s := showPresLat (commitReport (commitFrame (geometryChange s)))
  let s := switchFrame (showPresLat (pressSwitch s))
  if s.sys.starting then s
  else match s.activationDue with
  | some (rev, tries, win) => commandedRestart (activateSlots rev tries win (pressDark s))
  | none =>
    let s := receptionOpen (foFrame (pictureDirection (takeoverApply s)))
    if s.isSender then composeTurn s else s

/-- What the Rind die does of a frame start once the thermal trip has gated the other dies: raster, geometry and its own committed values (R439, R480). -/
def rindFrame (s : State) : State :=
  let s := commitReport (commitFrame (geometryChange (turnFrame (reach s.raster.total s))))
  if s.isSender then ptpReference (lengthStep (steerFrame s)) else s

/-- Row FRAME_START. In K24 mode before HOLDOVER only a VS, or its being missed, starts a frame (R548). -/
def opFrameStart (s : State) : State :=
  if !s.raster.running || (s.isK24 && !s.raster.boundary && s.get (F.CH_RASTER_STATE_STATE 0) != 3) then s
  else if s.sys.tripped then rindFrame s
  else
    let done := s.tileRx.emitF.map fun f => (f, s.tileRx.emitCrc)
    let s := dramFrame (turnFrame (calSwaps (reach s.raster.total s)))
    let s := frameActions (drivesBefore s)
    if s.sys.starting then s
    else
      let s := trialWindow (calAges (s.each ((List.range 24).filter fun g => !(s.rxIn g lnActive).isEmpty) trimRetarget))
      pressDark (wheySend done (drivesAfter (senderFrame s)))

end Sys2Proof.Machine
end

