-- ==== Sys2Proof/Machine/ExecHost.lean ====
section
/-!
DEFINITION. The commands' meanings, one for each: Host access, power, start and re-mould (chapters 00 to 03, 22, 23). Each cites its rule; what it does stands in the shared operations.
-/

namespace Sys2Proof.Machine

open Sys2Proof

/-- REGISTER_WRITE (R10). -/
def execRegisterWrite (addr : Nat) (val : Word) (s : State) : Host.Outcome State Fault Refusal :=
  runRindF (hostWrite addr val) s

/-- GATED_WINDOW_ACCESS (R6). -/
def execGatedWindowAccess (addr : Nat) (write : Bool) (s : State) : Host.Outcome State Fault Refusal :=
  runRind (opGated addr write) s

/-- PIXEL_PAIR_LOW_WRITE (R7). -/
def execPixelPairLowWrite (addr : Nat) (val : Word) (s : State) : Host.Outcome State Fault Refusal :=
  runRindF (withWord addr val (opPairLow addr val)) s

/-- PIXEL_PAIR_HIGH_WRITE (R7). -/
def execPixelPairHighWrite (addr : Nat) (val : Word) (s : State) : Host.Outcome State Fault Refusal :=
  runRindF (withWord addr val (opPairHigh addr val)) s

/-- PIXEL_PAIR_LOW_READ (R7). -/
def execPixelPairLowRead (addr : Nat) (s : State) : Host.Outcome State Fault Refusal :=
  runRind (atRead addr (opPairRead addr)) s

/-- DIE_LINK_REPLAY (R25). -/
def execDieLinkReplay (a b : Nat) (s : State) : Host.Outcome State Fault Refusal :=
  run (opLinkReplay a b) s

/-- DIE_LINK_FAIL (R26). -/
def execDieLinkFail (a b : Nat) (s : State) : Host.Outcome State Fault Refusal :=
  run (opLinkFail a b) s

/-- RESET_ASSERT (R71). -/
def execResetAssert (s : State) : Host.Outcome State Fault Refusal :=
  runHeld opResetAssert s

/-- RESET_RELEASE (R74). -/
def execResetRelease (recoveryN ramOk : Bool) (selfFail : Nat) (badLog : List Nat) (card : Card) (s : State) : Host.Outcome State Fault Refusal :=
  runHeld (opResetRelease recoveryN ramOk selfFail badLog card) s

/-- PERST_RELEASE (R73). -/
def execPerstRelease (s : State) : Host.Outcome State Fault Refusal :=
  runHeld opPerstRelease s

/-- PERST_ASSERT (R566). -/
def execPerstAssert (s : State) : Host.Outcome State Fault Refusal :=
  runHeld opPerstAssert s

/-- FLR (R566). -/
def execFlr (s : State) : Host.Outcome State Fault Refusal :=
  runRind opFlr s

/-- MOULD_LOAD (R49). -/
def execMouldLoad (us : Nat) (sectFail : List (Nat × Nat × Nat)) (chanFail trimFail : List Nat) (card : Card) (s : State) : Host.Outcome State Fault Refusal :=
  runF (opMouldLoad us sectFail chanFail trimFail card) s

/-- CAVE_LOAD_DONE (R79). -/
def execCaveLoadDone (failed : List Nat) (dirOk : Bool) (s : State) : Host.Outcome State Fault Refusal :=
  run (opCaveLoadDone failed dirOk) s

/-- REMOULD_VERIFY (R57). -/
def execRemouldVerify (s : State) : Host.Outcome State Fault Refusal :=
  run opRmVerify s

/-- REMOULD_ARM (R58). -/
def execRemouldArm (s : State) : Host.Outcome State Fault Refusal :=
  run opRmArm s

/-- REMOULD_CANCEL (R66). -/
def execRemouldCancel (s : State) : Host.Outcome State Fault Refusal :=
  run opRmCancel s

/-- REMOULD_PARTNER_TIMEOUT (R58). -/
def execRemouldPartnerTimeout (s : State) : Host.Outcome State Fault Refusal :=
  run opRmPartnerTimeout s

/-- REMOULD_GO_CHECK (R59). -/
def execRemouldGoCheck (s : State) : Host.Outcome State Fault Refusal :=
  run opRmGoCheck s

/-- REMOULD_SWITCH (R61). -/
def execRemouldSwitch (s : State) : Host.Outcome State Fault Refusal :=
  run opRmSwitch s

/-- REMOULD_NO_GO (R59). -/
def execRemouldNoGo (s : State) : Host.Outcome State Fault Refusal :=
  run opRmNoGo s

/-- RAIL_FAULT (R587). -/
def execRailFault (dark : Bool) (s : State) : Host.Outcome State Fault Refusal :=
  runHeld (opRailFault dark) s

/-- RAILS_GOOD (R586). -/
def execRailsGood (s : State) : Host.Outcome State Fault Refusal :=
  runHeld opRailsGood s

/-- REMOULD_VERIFY_DONE (R57). -/
def execRemouldVerifyDone (s : State) : Host.Outcome State Fault Refusal :=
  run opRmVerifyDone s

end Sys2Proof.Machine
end

