-- ==== Sys2Proof/Machine/ExecK24.lean ====
section
/-!
DEFINITION. The commands' meanings, one for each: K24 mode (chapter 21). Each cites its rule; what it does stands in the shared operations.
-/

namespace Sys2Proof.Machine

open Sys2Proof

/-- VS (R548). -/
def execVs (rd : Bool) (codes : List Nat) (v : VsTurn) (s : State) : Host.Outcome State Fault Refusal :=
  run (fun s => opVsFull (s.legacyIn 0 0 rd codes).1 (s.legacyIn 0 0 rd codes).2 v s) s

/-- LS (R547). -/
def execLs (rd : Bool) (codes : List Nat) (s : State) : Host.Outcome State Fault Refusal :=
  run (fun s => opLs (s.legacyIn 0 1 rd codes).1 (s.legacyIn 0 1 rd codes).2 s) s

/-- K24_WRITE (R545). -/
def execK24Write (rd : Bool) (codes : List Nat) (s : State) : Host.Outcome State Fault Refusal :=
  runF (fun s => opK24Write (s.legacyIn 0 2 rd codes).1 (s.legacyIn 0 2 rd codes).2 s) s

/-- K24_READ (R545). -/
def execK24Read (rd : Bool) (codes : List Nat) (s : State) : Host.Outcome State Fault Refusal :=
  runF (fun s => opK24Read (s.legacyIn 0 2 rd codes).1 (s.legacyIn 0 2 rd codes).2 s) s

/-- K24_BLOCK (R545). -/
def execK24Block (rd : Bool) (codes : List Nat) (s : State) : Host.Outcome State Fault Refusal :=
  runF (fun s => opK24Block (s.legacyIn 0 2 rd codes).1 (s.legacyIn 0 2 rd codes).2 s) s

/-- RSP (R547). -/
def execRsp (l : LegacyIn) (s : State) : Host.Outcome State Fault Refusal :=
  run (fun s => opRsp (s.legacyIn 5 3 l.rd l.codes).1 s) s

/-- VS_HOLD_EXPIRY (R549). -/
def execVsHoldExpiry (s : State) : Host.Outcome State Fault Refusal :=
  run opHoldExpiry s

/-- VS_MISSING (R548). -/
def execVsMissing (s : State) : Host.Outcome State Fault Refusal :=
  run opVsMissing s

/-- K24_GAM_DATA_ACCESS (R556). -/
def execK24GamDataAccess (val : Option Nat) (s : State) : Host.Outcome State Fault Refusal :=
  runRind (opGamAccess val) s

/-- K24_GAIN_DATA_ACCESS (R556). -/
def execK24GainDataAccess (val : Option Nat) (s : State) : Host.Outcome State Fault Refusal :=
  runRind (opGainAccess val) s

/-- K24_ERR_POP (R552). -/
def execK24ErrPop (s : State) : Host.Outcome State Fault Refusal :=
  runRind opK24ErrPop s

/-- K24_SAVE (R557). -/
def execK24Save (key : Nat) (s : State) : Host.Outcome State Fault Refusal :=
  run (opK24Save key) s

/-- UPD_BEGIN (R557). -/
def execUpdBegin (s : State) : Host.Outcome State Fault Refusal :=
  run opUpdBegin s

/-- UPD_DATA (R556). -/
def execUpdData (byte : Nat) (s : State) : Host.Outcome State Fault Refusal :=
  run (opUpdData byte) s

/-- UPD_END (R557). -/
def execUpdEnd (s : State) : Host.Outcome State Fault Refusal :=
  run opUpdEnd s

/-- UPD_APPLY (R557). -/
def execUpdApply (s : State) : Host.Outcome State Fault Refusal :=
  run opUpdApply s

/-- UPD_CONFIRM (R557). -/
def execUpdConfirm (s : State) : Host.Outcome State Fault Refusal :=
  run opUpdConfirm s

/-- UPD_ABORT (R557). -/
def execUpdAbort (s : State) : Host.Outcome State Fault Refusal :=
  run opUpdAbort s

/-- LEGACY_LANE_LOCK (R543). -/
def execLegacyLaneLock (lane : Nat) (s : State) : Host.Outcome State Fault Refusal :=
  run (only (lane < 112) (opLaneLock lane)) s

/-- LEGACY_LANE_LOCK_LOST (R543). -/
def execLegacyLaneLockLost (lane : Nat) (s : State) : Host.Outcome State Fault Refusal :=
  run (only (lane < 112) (opLaneLockLost lane)) s

/-- UPD_APPLY_TIMEOUT (R557). -/
def execUpdApplyTimeout (s : State) : Host.Outcome State Fault Refusal :=
  run opUpdTimeoutFull s

/-- UPD_VERIFY_DONE (R557). -/
def execUpdVerifyDone (regs : List (Nat × Word)) (contents : MouldImage) (s : State) : Host.Outcome State Fault Refusal :=
  run (opUpdVerify { contents with mregs := regs }) s

/-- UPD_WRITE_DONE (R557). -/
def execUpdWriteDone (ok : Bool) (s : State) : Host.Outcome State Fault Refusal :=
  run (opUpdWrite ok) s

end Sys2Proof.Machine
end

