-- ==== Sys2Proof/Machine/ExecLane.lean ====
section
/-!
DEFINITION. The commands' meanings, one for each: Serial lanes and live calibration (chapters 06, 07). Each cites its rule; what it does stands in the shared operations.
-/

namespace Sys2Proof.Machine

open Sys2Proof

/-- REF_SWITCH (R179). -/
def execRefSwitch (g : Nat) (s : State) : Host.Outcome State Fault Refusal :=
  run (only (g < 24) (opRefSwitch g)) s

/-- REF_SWITCH_BACK (R179). -/
def execRefSwitchBack (g : Nat) (s : State) : Host.Outcome State Fault Refusal :=
  run (only (g < 24) (opRefSwitchBack g)) s

/-- CDR_LOCK_LOSS (R196). -/
def execCdrLockLoss (lane : Nat) (s : State) : Host.Outcome State Fault Refusal :=
  run (only (lane < 112) (opCdrLockLoss lane)) s

/-- TX_RAMP_STEP (R181). -/
def execTxRampStep (lane : Nat) (s : State) : Host.Outcome State Fault Refusal :=
  run (only (lane < 112) (opTxRampStep lane)) s

/-- LANE_TX_WRITE (R181). -/
def execLaneTxWrite (lane : Nat) (val : Word) (s : State) : Host.Outcome State Fault Refusal :=
  runRindF (onlyE (lane < 112) (withWord (atLANE lane 0x08) val (opLaneTxWrite lane val))) s

/-- LANE_RXMAN_WRITE (R186). -/
def execLaneRxmanWrite (lane : Nat) (val : Word) (s : State) : Host.Outcome State Fault Refusal :=
  runRindF (onlyE (lane < 112) (withWord (atLANE lane 0x14) val (opLaneRxmanWrite lane val))) s

/-- PRBS_SYNC (R191). -/
def execPrbsSync (l : LaneLine) (s : State) : Host.Outcome State Fault Refusal :=
  run (only (l.lane < 112) (opPrbsSync l.lane l.line)) s

/-- PRBS_SYNC_LOSS (R191). -/
def execPrbsSyncLoss (lane : Nat) (before last : List Bool) (s : State) : Host.Outcome State Fault Refusal :=
  run (only (lane < 112) (opPrbsSyncLoss lane (before ++ last))) s

/-- PRBS_CLR (R191). -/
def execPrbsClr (lane : Nat) (s : State) : Host.Outcome State Fault Refusal :=
  runRind (only (lane < 112) (atWindow (atLANE lane 0x18) (opPrbsClr lane))) s

/-- PRBS_INJECT (R191). -/
def execPrbsInject (lane : Nat) (s : State) : Host.Outcome State Fault Refusal :=
  runRind (only (lane < 112) (atWindow (atLANE lane 0x18) (opPrbsInject lane))) s

/-- TEST_EN_WRITE (R192). -/
def execTestEnWrite (g : Nat) (val : Word) (s : State) : Host.Outcome State Fault Refusal :=
  runRindF (onlyE (g < 24) (withWord (atGROUP g 0x04) val (opTestEnWrite g val))) s

/-- TEST_RATE_CHANGE (R192). -/
def execTestRateChange (g rate : Nat) (s : State) : Host.Outcome State Fault Refusal :=
  runRind (only (g < 24) (atWindow (atGROUP g 0x04) (opTestRateChange g rate))) s

/-- EYE_SCAN_START (R195). -/
def execEyeScanStart (lane : Nat) (val : Word) (s : State) : Host.Outcome State Fault Refusal :=
  runRindF (onlyE (lane < 112) (withWord (atLANE lane 0x28) val (opEyeScanStart lane val))) s

/-- EYE_SCAN_DONE (R194). -/
def execEyeScanDone (lane : Nat) (width height point : List EyePoint) (s : State) : Host.Outcome State Fault Refusal :=
  run (only (lane < 112) (opEyeScanDone lane (width ++ height ++ point))) s

/-- EYE_SCAN_ABORT (R195). -/
def execEyeScanAbort (lane : Nat) (nolock : Bool) (s : State) : Host.Outcome State Fault Refusal :=
  run (only (lane < 112) (opEyeScanAbort lane nolock)) s

/-- CAL_STEP_START (R212). -/
def execCalStepStart (g : Nat) (s : State) : Host.Outcome State Fault Refusal :=
  run (only (g < 24) (opCalStepStart g)) s

/-- CAL_FORCE (R212). -/
def execCalForce (g : Nat) (s : State) : Host.Outcome State Fault Refusal :=
  runRind (only (g < 24) (atWindow (atGROUP g 0x08) (opCalForce g))) s

/-- CLEAR_TRIM (R221). -/
def execClearTrim (g : Nat) (s : State) : Host.Outcome State Fault Refusal :=
  runRind (only (g < 24) (atWindow (atGROUP g 0x08) (opClearTrim g))) s

/-- BRIDGE (R209). -/
def execBridge (a : Arrival) (step logical newPhys oldPhys : Nat) (s : State) : Host.Outcome State Fault Refusal :=
  run (onPort a.port (receive a.port (rxHead a.rest (laneCmd 0 cmdBridge step logical newPhys oldPhys 0)) a.rest (opBridge a.port step logical newPhys oldPhys))) s

/-- BRIDGED (R209). -/
def execBridged (a : Arrival) (step : Nat) (s : State) : Host.Outcome State Fault Refusal :=
  run (onPort a.port (receive a.port (rxHead a.rest (laneCmd 0 cmdBridged step 0 0 0xFF 0)) a.rest (opBridged a.port step))) s

/-- CAL_COMPARE_DONE (R209). -/
def execCalCompareDone (p : Nat) (pass : Bool) (s : State) : Host.Outcome State Fault Refusal :=
  runRaster (onPort p (opCalCompareDone p pass)) s

/-- SWITCHED (R206). -/
def execSwitched (a : Arrival) (step logical newPhys oldPhys : Nat) (s : State) : Host.Outcome State Fault Refusal :=
  run (onPort a.port (receive a.port (rxHead a.rest (laneCmd 0 cmdSwitched step logical newPhys oldPhys 0)) a.rest (opSwitched a.port step logical newPhys oldPhys))) s

/-- LANECMD_DONE (R209). -/
def execLanecmdDone (a : Arrival) (step : Nat) (s : State) : Host.Outcome State Fault Refusal :=
  run (onPort a.port (receive a.port (rxHead a.rest (laneCmd 0 cmdDone step 0 0 0xFF 0)) a.rest (opLanecmdDone a.port step))) s

/-- RETIRE (R206). -/
def execRetire (a : Arrival) (step oldPhys : Nat) (s : State) : Host.Outcome State Fault Refusal :=
  run (onPort a.port (receive a.port (rxHead a.rest (laneCmd 0 cmdRetire step 0 0 oldPhys 0)) a.rest (opRetire a.port step oldPhys))) s

/-- DROP (R216). -/
def execDrop (a : Arrival) (step oldPhys lanes : Nat) (s : State) : Host.Outcome State Fault Refusal :=
  run (onPort a.port (receive a.port (rxHead a.rest (laneCmd 0 cmdDrop step 0 0 oldPhys lanes)) a.rest (opDrop a.port step oldPhys lanes))) s

/-- DROPPED (R216). -/
def execDropped (a : Arrival) (step : Nat) (s : State) : Host.Outcome State Fault Refusal :=
  run (onPort a.port (receive a.port (rxHead a.rest (laneCmd 0 cmdDropped step 0 0 0xFF 0)) a.rest (opDropped a.port step))) s

/-- LANECMD_TIMEOUT (R207). -/
def execLanecmdTimeout (p : Nat) (s : State) : Host.Outcome State Fault Refusal :=
  run (onPort p (opLanecmdTimeout p)) s

/-- CAL_MEASURE_DONE (R210). -/
def execCalMeasureDone (g : Nat) (w0 h0 w1 h1 w2 h2 : List EyePoint) (s : State) : Host.Outcome State Fault Refusal :=
  run (only (g < 24) (opCalMeasureDone g w0 h0 w1 h1 w2 h2)) s

/-- CAL_SETTLE_TIMEOUT (R210). -/
def execCalSettleTimeout (g : Nat) (s : State) : Host.Outcome State Fault Refusal :=
  run (only (g < 24) (opCalSettleTimeout g)) s

/-- AFFINAGE_RAMP_STEP (R219). -/
def execAffinageRampStep (lane : Nat) (viol : Bool) (s : State) : Host.Outcome State Fault Refusal :=
  run (only (lane < 112) (opAffinage lane viol)) s

/-- TRIM_SAVE (R220). -/
def execTrimSave (s : State) : Host.Outcome State Fault Refusal :=
  run opTrimSave s

/-- CAL_ADAPTATION_SETTLED (R209). -/
def execCalAdaptationSettled (g : Nat) (eq : Word) (s : State) : Host.Outcome State Fault Refusal :=
  run (only (g < 24) (opCalSettled g eq)) s

end Sys2Proof.Machine
end

