-- ==== Sys2Proof/Machine/ExecLink.lean ====
section
/-!
DEFINITION. The commands' meanings, one for each: The Olirlis link and hot standby (chapters 05, 10, 14). Each cites its rule; what it does stands in the shared operations.
-/

namespace Sys2Proof.Machine

open Sys2Proof

/-- SAFE_DARK_ON (R143). -/
def execSafeDarkOn (dirB : Bool) (u : UrgentCols) (s : State) : Host.Outcome State Fault Refusal :=
  run (onUrgent (rxPort dirB) u.col u.copies 0x01 (opSafeDarkOn dirB)) s

/-- SAFE_DARK_OFF (R143). -/
def execSafeDarkOff (dirB : Bool) (u : UrgentCols) (s : State) : Host.Outcome State Fault Refusal :=
  run (onUrgent (rxPort dirB) u.col u.copies 0x02 (opSafeDarkOff dirB)) s

/-- TAKEOVER (R405). -/
def execTakeover (p col : Nat) (copies : List (List Nat)) (s : State) : Host.Outcome State Fault Refusal :=
  run (onPort p (onUrgent p col copies 0x10 (opTakeover p))) s

/-- SEGDOWN (R396). -/
def execSegdown (p col : Nat) (copies : List (List Nat)) (s : State) : Host.Outcome State Fault Refusal :=
  run (onPort p (onUrgent p col copies 0x11 (opSegdown p))) s

/-- URGENT_SET_BAD_CODE (R142). -/
def execUrgentSetBadCode (p : Nat) (copies : List (List Nat)) (s : State) : Host.Outcome State Fault Refusal :=
  run (onPort p (opUrgentBadCode p copies)) s

/-- DARK_FLAG_TIMEOUT (R143). -/
def execDarkFlagTimeout (dirB : Bool) (s : State) : Host.Outcome State Fault Refusal :=
  run (opDarkFlagTimeout dirB) s

/-- SAFE_DARK_PIN_SENDER (R143). -/
def execSafeDarkPinSender (s : State) : Host.Outcome State Fault Refusal :=
  runHeld (onPin true opSafeDarkPinSender) s

/-- SAFE_DARK_PIN_TILE (R355). -/
def execSafeDarkPinTile (s : State) : Host.Outcome State Fault Refusal :=
  runHeld (onPin true opSafeDarkPinTile) s

/-- SEGDOWN_CLEAR (R396). -/
def execSegdownClear (dirB : Bool) (s : State) : Host.Outcome State Fault Refusal :=
  run (opSegdownClear dirB) s

/-- CH_URG_TX (R172). -/
def execChUrgTx (p code arg : Nat) (s : State) : Host.Outcome State Fault Refusal :=
  runRind (only (p < 16) (atWindow (atCH p 0x84) (opChUrgTx p code arg))) s

/-- SEGMENT_RX (R148). -/
def execSegmentRx (p : Nat) (cols : List (List Nat)) (r0 r1 r2 r3 : Bool) (s : State) : Host.Outcome State Fault Refusal :=
  run (onPort p (opSegmentRx p [r0, r1, r2, r3] cols)) s

/-- FRAME_RECEPTION_END (R149). -/
def execFrameReceptionEnd (ue ueWords : List (Nat × Nat × Nat)) (s : State) : Host.Outcome State Fault Refusal :=
  run (opReceptionEnd ue ueWords) s

/-- RASTER (R153). -/
def execRaster (a : Arrival) (pkt : RasterPkt) (s : State) : Host.Outcome State Fault Refusal :=
  let k := rxHead a.rest (rasterPkt 0 pkt)
  run (onPort a.port (receive a.port k a.rest (opRaster a.port pkt k))) s

/-- HEARTBEAT (R399). -/
def execHeartbeat (a : Arrival) (endCode state health fnum arm t wallId mouldSeq : Nat) (s : State) : Host.Outcome State Fault Refusal :=
  let k := rxHead a.rest (heartbeatPkt endCode state health fnum arm t wallId mouldSeq)
  run (onPort a.port (receive a.port k a.rest (opHeartbeat a.port endCode state fnum arm t wallId mouldSeq k))) s

/-- DELAY_RSP (R152). -/
def execDelayRsp (a : Arrival) (num turn : Nat) (elapsed : Int) (s : State) : Host.Outcome State Fault Refusal :=
  run (onPort a.port (receive a.port (rxHead a.rest (delayRspPkt 0 num turn)) a.rest (opDelayRsp a.port num turn elapsed))) s

/-- ACK (R154). -/
def execAck (a : Arrival) (src seq dest result : Nat) (s : State) : Host.Outcome State Fault Refusal :=
  let k := rxSeq a.rest (ackPkt src dest seq result)
  run (onPort a.port (receive a.port k a.rest (opAckHop a.port src seq result k))) s

/-- REG_WR (R152). -/
def execRegWr (p src seq dest : Nat) (data : List Nat) (w : PktEnd) (s : State) : Host.Outcome State Fault Refusal :=
  let k := rxFlags w ⟨0x10, dest, src, seq, 0, data⟩
  runF (onPortE p (receiveE p k w (opRegWr p k))) s

/-- REG_RD (R152). -/
def execRegRd (p src seq dest : Nat) (data : List Nat) (w : PktEnd) (s : State) : Host.Outcome State Fault Refusal :=
  let k := rxFlags w ⟨0x11, dest, src, seq, 0, data⟩
  runF (onPortE p (receiveE p k w (opRegRd p k))) s

/-- RD_RESP (R152). -/
def execRdResp (a : Arrival) (src seq dest : Nat) (vals : List Nat) (s : State) : Host.Outcome State Fault Refusal :=
  let k := rxFlags a.rest (rdRespPkt src dest seq vals)
  run (onPort a.port (receive a.port k a.rest (opRdResp a.port k))) s

/-- COMMIT_GO_PACKET (R125). -/
def execCommitGoPacket (a : Arrival) (src seq dest : Nat) (data : List Nat) (s : State) : Host.Outcome State Fault Refusal :=
  let k := rxFlags a.rest ⟨0x13, dest, src, seq, 0, data⟩
  run (onPort a.port (receive a.port k a.rest (opCommitGoPacket a.port k))) s

/-- REMOULD (R59). -/
def execRemould (a : Arrival) (src seq : Nat) (go : Bool) (t wallId mouldSeq : Nat) (s : State) : Host.Outcome State Fault Refusal :=
  let k := rxFlags a.rest ⟨0x20, 0xFF, src, seq, 0, remouldBytes go t wallId mouldSeq⟩
  run (onPort a.port (receive a.port k a.rest (opRemould a.port go t wallId mouldSeq k))) s

/-- CTRL_BAD_TYPE (R152). -/
def execCtrlBadType (a : Arrival) (src seq : Nat) (u : UnknownPkt) (s : State) : Host.Outcome State Fault Refusal :=
  let k := rxFlags a.rest ⟨u.ty, u.dest, src, seq, 0, u.data⟩
  run (onPort a.port (receive a.port k a.rest (opCtrlBadType a.port k))) s

/-- CTRL_RETRY_TIMEOUT (R154). -/
def execCtrlRetryTimeout (p dest : Nat) (s : State) : Host.Outcome State Fault Refusal :=
  run (onPort p (opRetryHop p dest)) s

/-- BROADCAST_CONFIRM_TIMEOUT (R155). -/
def execBroadcastConfirmTimeout (p : Nat) (s : State) : Host.Outcome State Fault Refusal :=
  run (onPort p (opBcastTimeout p)) s

/-- STATUS (R157). -/
def execStatus (a : Arrival) (payload : List Nat) (s : State) : Host.Outcome State Fault Refusal :=
  let k := rxHead a.rest ⟨0x81, 0xFE, 0, 0, 0, payload⟩
  run (onPort a.port (receive a.port k a.rest (opStatusRx a.port payload k))) s

/-- OUTCRC (R296). -/
def execOutcrc (a : Arrival) (addr fnum : Nat) (pics outs : List Nat) (s : State) : Host.Outcome State Fault Refusal :=
  let k := rxSeq a.rest (outcrcPkt addr fnum pics outs)
  run (onPort a.port (receive a.port k a.rest (opOutcrc a.port addr fnum pics outs k))) s

/-- LAMPFAULT (R171). -/
def execLampfault (a : Arrival) (addr f : Nat) (entries : List (Nat × Nat)) (more overflow : Bool) (s : State) : Host.Outcome State Fault Refusal :=
  let k := rxSeq a.rest (lampfaultPkt addr f entries more overflow)
  run (onPort a.port (receive a.port k a.rest (opLampfault a.port addr entries k))) s

/-- TILE_HB (R400). -/
def execTileHb (a : Arrival) (addr role decision sinceA sinceB fnum : Nat) (s : State) : Host.Outcome State Fault Refusal :=
  let k := rxSeq a.rest (tileHbPkt addr role decision sinceA sinceB fnum)
  run (onPort a.port (receive a.port k a.rest (opTileHb a.port addr role decision fnum k))) s

/-- PCRC_MISSING (R296). -/
def execPcrcMissing (p addr phase : Nat) (s : State) : Host.Outcome State Fault Refusal :=
  run (onPort p (opPcrcMissing p addr phase)) s

/-- LANE_RETIRE (R162). -/
def execLaneRetire (p lane : Nat) (s : State) : Host.Outcome State Fault Refusal :=
  run (onPort p (only (lane < 5) (opLaneRetire p lane))) s

/-- PORT_CRC (R163). -/
def execPortCrc (p : Nat) (s : State) : Host.Outcome State Fault Refusal :=
  run (onPort p (opPortCrc p)) s

/-- LINK_LOSS (R164). -/
def execLinkLoss (p : Nat) (e : LossSigns) (s : State) : Host.Outcome State Fault Refusal :=
  run (onPort p (opLinkLoss p e)) s

/-- RETRAIN (R172). -/
def execRetrain (p : Nat) (s : State) : Host.Outcome State Fault Refusal :=
  runRind (only (p < 16) (atWindow (atCH p 0x88) (opRetrain p))) s

/-- CTRL_TX_CMD (R168). -/
def execCtrlTxCmd (p : Nat) (val : Word) (s : State) : Host.Outcome State Fault Refusal :=
  runRindF (onlyE (p < 16) (withWord (atCH p 0x74) val (opCtrlTxCmd p (bits val.toNat 31 24) (bits val.toNat 23 16) (bits val.toNat 15 8)))) s

/-- CTRL_RX_POP (R170). -/
def execCtrlRxPop (p : Nat) (s : State) : Host.Outcome State Fault Refusal :=
  runRind (only (p < 16) (atRead (atCH p 0x7C) (opCtrlRxPop p))) s

/-- WHEY_POP (R171). -/
def execWheyPop (p : Nat) (s : State) : Host.Outcome State Fault Refusal :=
  runRind (only (p < 16) (atRead (atCH p 0x80) (opWheyPop p))) s

/-- STATUS_COPY_READ (R173). -/
def execStatusCopyRead (p addr : Nat) (s : State) : Host.Outcome State Fault Refusal :=
  runRind (only (p < 16) (atRead (atCH p 0) (opStatusCopyRead p addr))) s

/-- REFEREE_DEADLINE (R402). -/
def execRefereeDeadline (s : State) : Host.Outcome State Fault Refusal :=
  runRaster opRefereeDeadline s

/-- REFEREE_FIRST_DECISION (R403). -/
def execRefereeFirstDecision (s : State) : Host.Outcome State Fault Refusal :=
  run opRefereeFirst s

/-- DEPUTY_TIMEOUT (R404). -/
def execDeputyTimeout (s : State) : Host.Outcome State Fault Refusal :=
  run opDeputyTimeout s

/-- HOST_KICK_TIMEOUT (R399). -/
def execHostKickTimeout (s : State) : Host.Outcome State Fault Refusal :=
  run opKickTimeout s

/-- UNFIT_ENTRY (R399). -/
def execUnfitEntry (p : Nat) (s : State) : Host.Outcome State Fault Refusal :=
  run (onPort p (opUnfitEntry p)) s

/-- FO_KICK (R412). -/
def execFoKick (val : Word) (s : State) : Host.Outcome State Fault Refusal :=
  runRindF (withWord 0x304 val (opFoKick val)) s

/-- YIELD (R414). -/
def execYield (p : Nat) (s : State) : Host.Outcome State Fault Refusal :=
  runRind (only (p < 16) (atWindow (atCH p 0xD0) (opYield p))) s

/-- SAFE_DARK_PIN_RELEASE (R143). -/
def execSafeDarkPinRelease (s : State) : Host.Outcome State Fault Refusal :=
  runHeld (onPin false opSafeDarkPinRelease) s

end Sys2Proof.Machine
end

