-- ==== Sys2Proof/Machine/ExecNet.lean ====
section
/-!
DEFINITION. The commands' meanings, one for each: Network, PTP, audio and check values (chapters 15, 16, 18). Each cites its rule; what it does stands in the shared operations.
-/

namespace Sys2Proof.Machine

open Sys2Proof

/-- NET_TX_FRAME (R430). -/
def execNetTxFrame (n : Nat) (busy : Bool) (s : State) : Host.Outcome State Fault Refusal :=
  runRind (only (n < 2) (opNetTx n busy)) s

/-- NET_TX_DONE (R419). -/
def execNetTxDone (n : Nat) (s : State) : Host.Outcome State Fault Refusal :=
  runRind (only (n < 2) (opNetTxDone n)) s

/-- NET_RX_FRAME (R421). -/
def execNetRxFrame (n : Nat) (bytes : List Nat) (s : State) : Host.Outcome State Fault Refusal :=
  runRind (only (n < 2) (opNetRx n bytes)) s

/-- NET_COLLISION (R424). -/
def execNetCollision (late : Bool) (s : State) : Host.Outcome State Fault Refusal :=
  runRind (opNetCollision late) s

/-- BACKOFF_EXPIRY (R424). -/
def execBackoffExpiry (s : State) : Host.Outcome State Fault Refusal :=
  runRind opBackoffExpiry s

/-- PAUSE_RX (R426). -/
def execPauseRx (q : Nat) (s : State) : Host.Outcome State Fault Refusal :=
  runRind (opPauseRx q) s

/-- PAUSE_EXPIRY (R426). -/
def execPauseExpiry (s : State) : Host.Outcome State Fault Refusal :=
  runRind opPauseExpiry s

/-- FLOW_PAUSE_SEND (R427). -/
def execFlowPauseSend (s : State) : Host.Outcome State Fault Refusal :=
  runRind opFlowPause s

/-- NO_WINDOW (R431). -/
def execNoWindow (n q : Nat) (s : State) : Host.Outcome State Fault Refusal :=
  runRind (only (n < 2 && q < 4) (opNoWindow n q)) s

/-- WHEEL_CYCLE_START (R428). -/
def execWheelCycleStart (s : State) : Host.Outcome State Fault Refusal :=
  runRindRaster opWheelCycle s

/-- WHEEL_ENTRY_CHANGE (R429). -/
def execWheelEntryChange (s : State) : Host.Outcome State Fault Refusal :=
  runRindRaster opWheelEntry s

/-- WHEEL_BANK_WRITE (R432). -/
def execWheelBankWrite (b e : Nat) (val : Word) (s : State) : Host.Outcome State Fault Refusal :=
  runRindF (onlyE (b < 2 && e < 64) (withWord (atWHEEL (0x100 + 0x100 * b + 4 * e)) val (opWheelBankWrite b e val))) s

/-- PTP_TICK (R433). -/
def execPtpTick (s : State) : Host.Outcome State Fault Refusal :=
  runAlways opPtpTick s

/-- PTP_INC_WRITE (R433). -/
def execPtpIncWrite (val : Word) (s : State) : Host.Outcome State Fault Refusal :=
  runRindF (withWord (atPTP 0x10) val (opPtpInc val)) s

/-- PTP_SET (R434). -/
def execPtpSet (s : State) : Host.Outcome State Fault Refusal :=
  runRind opPtpSet s

/-- PTP_ADJ (R434). -/
def execPtpAdj (val : Word) (s : State) : Host.Outcome State Fault Refusal :=
  runRindF (withWord (atPTP 0x20) val (opPtpAdj val)) s

/-- TRIGGER_ARM (R437). -/
def execTriggerArm (t : Nat) (val : Word) (s : State) : Host.Outcome State Fault Refusal :=
  runRindF (onlyE (t < 2) (withWord (atTRIG t 0x10) val (opTriggerArm t val))) s

/-- TRIGGER_FIRE (R437). -/
def execTriggerFire (t : Nat) (s : State) : Host.Outcome State Fault Refusal :=
  runRind (only (t < 2) (opTriggerFire t)) s

/-- CAPTURE_EDGE (R438). -/
def execCaptureEdge (c : Nat) (rising close : Bool) (s : State) : Host.Outcome State Fault Refusal :=
  runRind (only (c < 2) (opCaptureEdge c rising close)) s

/-- TXTS_POP (R443). -/
def execTxtsPop (n : Nat) (s : State) : Host.Outcome State Fault Refusal :=
  runRind (only (n < 2) (opTxtsPop n)) s

/-- CAP_POP (R448). -/
def execCapPop (c : Nat) (s : State) : Host.Outcome State Fault Refusal :=
  runRind (only (c < 2) (opCapPop c)) s

/-- PTP_NS_READ (R446). -/
def execPtpNsRead (s : State) : Host.Outcome State Fault Refusal :=
  runRind opPtpNsRead s

/-- MDIO_CMD (R444). -/
def execMdioCmd (val : Word) (s : State) : Host.Outcome State Fault Refusal :=
  runRindF (withWord (atNET 1 0x3C) val (opMdioCmd val)) s

/-- MDIO_DONE (R444). -/
def execMdioDone (data : Nat) (s : State) : Host.Outcome State Fault Refusal :=
  runRind (opMdioDone data) s

/-- AUDIO_MONITOR_EDGE (R454). -/
def execAudioMonitorEdge (n : Nat) (out : Bool) (period : Nat) (s : State) : Host.Outcome State Fault Refusal :=
  runRind (only (n < 4) (opAudioEdge n out period)) s

/-- AUDIO_MONITOR_STOP (R454). -/
def execAudioMonitorStop (n : Nat) (out : Bool) (s : State) : Host.Outcome State Fault Refusal :=
  runRind (only (n < 4) (opAudioStop n out)) s

/-- AUDIO_RATE_MEASURE (R455). -/
def execAudioRateMeasure (n : Nat) (out : Bool) (s : State) : Host.Outcome State Fault Refusal :=
  runRind (only (n < 4) (opAudioRate n out)) s

/-- AUDIO_BLOCK_RX (R456). -/
def execAudioBlockRx (n : Nat) (frames : List (Nat × Nat × Nat)) (s : State) : Host.Outcome State Fault Refusal :=
  runRind (only (n < 4) (opAudioBlockRx n frames)) s

/-- AUDIO_OUTPUT_BLOCK (R458). -/
def execAudioOutputBlock (n : Nat) (ue : List Nat) (s : State) : Host.Outcome State Fault Refusal :=
  runRind (only (n < 4) (opAudioOut n ue)) s

/-- AUDIO_DELAY_RECOMPUTE (R458). -/
def execAudioDelayRecompute (n : Nat) (s : State) : Host.Outcome State Fault Refusal :=
  runRind (only (n < 4) (opAudioDelay n)) s

/-- AUDIO_UNDERRUN (R460). -/
def execAudioUnderrun (n k : Nat) (s : State) : Host.Outcome State Fault Refusal :=
  runRind (only (n < 4) (opAudioUnderrun n k)) s

/-- AUDIO_TS_POP (R466). -/
def execAudioTsPop (n : Nat) (s : State) : Host.Outcome State Fault Refusal :=
  runRind (only (n < 4) (opAudioTsPop n)) s

/-- AUDIO_CS_IN_READ (R465). -/
def execAudioCsInRead (n : Nat) (s : State) : Host.Outcome State Fault Refusal :=
  runRind (only (n < 4) (opAudioCsRead n)) s

/-- CRC_START (R497). -/
def execCrcStart (u : Nat) (s : State) : Host.Outcome State Fault Refusal :=
  runRind (opCrcStart u) s

/-- CRC_DATA (R492). -/
def execCrcData (u size : Nat) (val : Word) (s : State) : Host.Outcome State Fault Refusal :=
  runRindF (onlyE (u < 4 && size < 3) (withWord (atCRC u (0x28 + 4 * size)) val (opCrcData u size val))) s

/-- CRC_CONFIG_WRITE (R491). -/
def execCrcConfigWrite (u off : Nat) (val : Word) (s : State) : Host.Outcome State Fault Refusal :=
  runRindF (onlyE (u < 4) (withWord (atCRC u off) val (opCrcConfig u off val))) s

/-- CRC_RESULT_COMPLETE (R493). -/
def execCrcResultComplete (u : Nat) (s : State) : Host.Outcome State Fault Refusal :=
  runRind (opCrcComplete u) s

/-- CRC_STATE_READ (R494). -/
def execCrcStateRead (u : Nat) (s : State) : Host.Outcome State Fault Refusal :=
  runRind (opCrcStateRead u) s

/-- CRC_RESULT_INFO_READ (R493). -/
def execCrcResultInfoRead (u : Nat) (s : State) : Host.Outcome State Fault Refusal :=
  runRind (opCrcInfoRead u) s

end Sys2Proof.Machine
end

