-- ==== Sys2Proof/Machine/ExecPicture.lean ====
section
/-!
DEFINITION. The commands' meanings, one for each: Ingest, composition, scan-out, the tile's pixel path and the Press (chapters 08 to 12). Each cites its rule; what it does stands in the shared operations.
-/

namespace Sys2Proof.Machine

open Sys2Proof

/-- CHAIN_LINE_START (R288). -/
def execChainLineStart (p c : Nat) (ready : List Nat) (s : State) : Host.Outcome State Fault Refusal :=
  runRaster (onPort p (opChainLine p c ready)) s

/-- FETCH_URGENCY_CHANGE (R292). -/
def execFetchUrgencyChange (p fill : Nat) (s : State) : Host.Outcome State Fault Refusal :=
  run (onPort p (opFetchUrgency p fill)) s

/-- SOURCE_PORT_LOCK (R230). -/
def execSourcePortLock (l : SourceLock) (s : State) : Host.Outcome State Fault Refusal :=
  run (only (l.port < 8) (opSourceLock l.port l.eq)) s

/-- FORMAT (R231). -/
def execFormat (q sframe : Nat) (fmt : SrcFormat) (period : Option Nat) (w : PktEnd) (s : State) : Host.Outcome State Fault Refusal :=
  run (only (q < 8) (opFormat q sframe fmt (!w.edb && w.check == pktCheck (rxHead w (formatPkt sframe fmt))) period)) s

/-- LINE_PACKET (R233). -/
def execLinePacket (q row col sf : Nat) (last : Bool) (words : List Nat) (e : LineEnd) (s : State) : Host.Outcome State Fault Refusal :=
  run (only (q < 8) (opLinePacket q row col sf last words
    (lineClean e && e.count == words.length && e.check == crc32 (lineBytes row col e.count (if last then 1 else 0) sf words)))) s

/-- INGEST_FRAME_COMPLETE (R241). -/
def execIngestFrameComplete (v e : Nat) (s : State) : Host.Outcome State Fault Refusal :=
  run (only (v < 4 && e < 2) (opIngestComplete v e)) s

/-- INGEST_STOP (R242). -/
def execIngestStop (v e lost : Nat) (s : State) : Host.Outcome State Fault Refusal :=
  run (only (v < 4 && e < 2) (opIngestStop v e lost)) s

/-- INGEST_OVERFLOW (R242). -/
def execIngestOverflow (v e : Nat) (rows : List Nat) (s : State) : Host.Outcome State Fault Refusal :=
  run (only (v < 4 && e < 2) (opIngestOverflow v e rows)) s

/-- STOP_HOLD_EXPIRY (R243). -/
def execStopHoldExpiry (v e : Nat) (s : State) : Host.Outcome State Fault Refusal :=
  run (only (v < 4 && e < 2) (opStopHold v e)) s

/-- OPEN (R246). -/
def execOpenBuf (v r : Nat) (s : State) : Host.Outcome State Fault Refusal :=
  runRind (only (v < 4 && r < 2) (atWindow (atRND v r 0) (opOpen v r))) s

/-- FENCE (R246). -/
def execFence (v r : Nat) (s : State) : Host.Outcome State Fault Refusal :=
  runRind (only (v < 4 && r < 2) (atWindow (atRND v r 0) (opFence v r))) s

/-- FENCE_FLUSH_DONE (R246). -/
def execFenceFlushDone (v r : Nat) (s : State) : Host.Outcome State Fault Refusal :=
  run (only (v < 4 && r < 2) (opFlushDone v r)) s

/-- ABORT (R246). -/
def execAbortBuf (v r : Nat) (s : State) : Host.Outcome State Fault Refusal :=
  runRind (only (v < 4 && r < 2) (atWindow (atRND v r 0) (opAbort v r))) s

/-- BAR2_WRITE (R245). -/
def execBar2Write (off : Nat) (d : Bar2Data) (s : State) : Host.Outcome State Fault Refusal :=
  run (opBar2Write off d.bytes d.ue) s

/-- BAR2_READ (R569). -/
def execBar2Read (off : Nat) (r : Bar2Span) (s : State) : Host.Outcome State Fault Refusal :=
  run (opBar2Read off r.len r.ue) s

/-- COMPOSE_LINE (R264). -/
def execComposeLine (v t y : Nat) (late : List (Nat × Nat)) (ue : List (Nat × Nat × Nat)) (s : State) : Host.Outcome State Fault Refusal :=
  run (only (v < 4 && t < 16) (opComposeLine v t y late ue)) s

/-- WRITE_BACK_PUBLISH (R273). -/
def execWriteBackPublish (v t : Nat) (s : State) : Host.Outcome State Fault Refusal :=
  run (only (v < 4 && t < 16) (opWriteBackPublish v t)) s

/-- WRITE_BACK_DROP (R274). -/
def execWriteBackDrop (v t : Nat) (s : State) : Host.Outcome State Fault Refusal :=
  run (only (v < 4 && t < 16) (opWriteBackDrop v t)) s

/-- OCRC_CAPTURE (R297). -/
def execOcrcCapture (p : Nat) (s : State) : Host.Outcome State Fault Refusal :=
  runRind (only (p < 16) (atWindow (atCH p 0xB8) (opOcrcCapture p))) s

/-- OCRC_COMPARE (R297). -/
def execOcrcCompare (p : Nat) (s : State) : Host.Outcome State Fault Refusal :=
  runRind (only (p < 16) (atWindow (atCH p 0xB8) (opOcrcCompare p))) s

/-- OCRC_TIMEOUT (R297). -/
def execOcrcTimeout (p : Nat) (s : State) : Host.Outcome State Fault Refusal :=
  run (onPort p (opOcrcTimeout p)) s

/-- OCRC_DIFF_POP (R302). -/
def execOcrcDiffPop (p : Nat) (s : State) : Host.Outcome State Fault Refusal :=
  runRind (only (p < 16) (atRead (atCH p 0xC4) (opOcrcPop p))) s

/-- ROW_CORRECT (R305). -/
def execRowCorrect (phase row : Nat) (ue : List Nat) (s : State) : Host.Outcome State Fault Refusal :=
  run (opRowCorrect phase row ue) s

/-- ROW_ENCODE (R320). -/
def execRowEncode (phase row : Nat) (ueMap ueStatus ueStore : List Nat) (s : State) : Host.Outcome State Fault Refusal :=
  run (opRowEncode phase row ueMap ueStatus ueStore) s

/-- TABLE_READ (R332). -/
def execTableRead (s : State) : Host.Outcome State Fault Refusal :=
  runRind (atWindow (atTP 0x198) opTableRead) s

/-- TABLE_WRITE (R310). -/
def execTableWrite (s : State) : Host.Outcome State Fault Refusal :=
  runRind (atWindow (atTP 0x198) opTableWrite) s

/-- TABLE_SAVE (R502). -/
def execTableSave (s : State) : Host.Outcome State Fault Refusal :=
  runRind (atWindow (atTP 0x198) opTableSave) s

/-- TABLE_SAVE_DONE (R332). -/
def execTableSaveDone (s : State) : Host.Outcome State Fault Refusal :=
  run opSaveDoneFull s

/-- TSET_WRITE (R310). -/
def execTsetWrite (reg : Nat) (val : Word) (s : State) : Host.Outcome State Fault Refusal :=
  runRindF (onlyE (reg < 4) (withWord (atTP (0x20 + 4 * reg)) val (opTsetWrite reg val))) s

/-- WINDOW_LEAD (R338). -/
def execWindowLead (k : Nat) (rb : List (Nat × Nat × Nat)) (s : State) : Host.Outcome State Fault Refusal :=
  runRaster (opWindowLead k rb) s

/-- ROW_SLOT_START (R341). -/
def execRowSlotStart (k row : Nat) (rb : List (Nat × Nat × Nat)) (s : State) : Host.Outcome State Fault Refusal :=
  runRaster (opRowSlotStart k row rb) s

/-- LAMP_TEST (R350). -/
def execLampTest (k row : Nat) (opens shorts : List (Nat × Nat × List Nat)) (s : State) : Host.Outcome State Fault Refusal :=
  run (opLampTest k row opens shorts) s

/-- ROW_PROBE (R354). -/
def execRowProbe (k : Nat) (opens shorts : List (Nat × Nat × List Nat)) (s : State) : Host.Outcome State Fault Refusal :=
  runRaster (opRowProbe k opens shorts) s

/-- PIN_READBACK_CHECK (R349). -/
def execPinReadbackCheck (q : Nat) (r : PadReadBack) (s : State) : Host.Outcome State Fault Refusal :=
  run (only (q < 16) (opPinReadback q r.groups r.gclk)) s

/-- PIN_STUCK_CLEAR (R349). -/
def execPinStuckClear (q : Nat) (s : State) : Host.Outcome State Fault Refusal :=
  runRind (only (q < 16) (atWindow (atPORT q 8) (opPinStuckClear q))) s

/-- PRESS_DARK (R355). -/
def execPressDarkEval (s : State) : Host.Outcome State Fault Refusal :=
  run pressDark s

/-- OUTPUT_CRC_COMPLETE (R348). -/
def execOutputCrcComplete (q : Nat) (s : State) : Host.Outcome State Fault Refusal :=
  run (only (q < 16) (opOutputCrcComplete q)) s

/-- TABLE_CMD_DONE (R332). -/
def execTableCmdDone (ue : Bool) (s : State) : Host.Outcome State Fault Refusal :=
  run (opTableCmdDone ue) s

/-- ING_FMT_READ (R247). -/
def execIngFmtRead (v e : Nat) (s : State) : Host.Outcome State Fault Refusal :=
  runRind (only (v < 4 && e < 2) (atRead (atING v e 8) (opIngFmtRead v e))) s

/-- OCRC_INFO_READ (R362). -/
def execOcrcInfoRead (q : Nat) (s : State) : Host.Outcome State Fault Refusal :=
  runRind (only (q < 16) (atRead (atPORT q 0x14) (opOcrcInfoRead q))) s

end Sys2Proof.Machine
end

