-- ==== Sys2Proof/Machine/ExecTime.lean ====
section
/-!
DEFINITION. The commands' meanings, one for each: Training, enumeration, wall time, commits, markers and the frame start (chapters 03, 04). Each cites its rule; what it does stands in the shared operations.
-/

namespace Sys2Proof.Machine

open Sys2Proof

/-- SIGNAL_DETECT_CHANGE (R184). -/
def execSignalDetectChange (lane : Nat) (on : Bool) (s : State) : Host.Outcome State Fault Refusal :=
  run (only (lane < 112) (opSignalDetect lane on)) s

/-- TRAIN_DETECT_EXIT (R77). -/
def execTrainDetectExit (p : Nat) (s : State) : Host.Outcome State Fault Refusal :=
  run (onPort p (opDetectExit p)) s

/-- TRAIN_COMMA_DONE (R77). -/
def execTrainCommaDone (p : Nat) (sets : List (List (List Nat))) (s : State) : Host.Outcome State Fault Refusal :=
  run (onPort p (opCommaDone p sets)) s

/-- TRAIN_ANNOUNCE_DONE (R77). -/
def execTrainAnnounceDone (p held : Nat) (sets : List (List (List Nat))) (s : State) : Host.Outcome State Fault Refusal :=
  run (onPort p (opAnnounceDone p held sets)) s

/-- TRAIN_CONFIRM_DONE (R77). -/
def execTrainConfirmDone (p : Nat) (sets : List (List (List Nat))) (s : State) : Host.Outcome State Fault Refusal :=
  run (onPort p (opConfirmDone p sets)) s

/-- TRAIN_RATE_DONE (R77). -/
def execTrainRateDone (p : Nat) (r : RateEnd) (s : State) : Host.Outcome State Fault Refusal :=
  run (onPort p (opRateDone p r.eq r.sets)) s

/-- TRAIN_DESKEW_DONE (R77). -/
def execTrainDeskewDone (p : Nat) (l : LaneLock) (sets : List (List (List Nat))) (s : State) : Host.Outcome State Fault Refusal :=
  run (onPort p (opDeskewDone p l.locked l.skew sets)) s

/-- TRAIN_HOPMEAS_DONE (R80). -/
def execTrainHopmeasDone (p : Nat) (h : HopTimes) (s : State) : Host.Outcome State Fault Refusal :=
  run (onPort p (opHopmeasDone p h.d h.fwd)) s

/-- TRAIN_LIMIT_EXPIRY (R77). -/
def execTrainLimitExpiry (p : Nat) (s : State) : Host.Outcome State Fault Refusal :=
  run (onPort p (opLimitExpiry p)) s

/-- TRAIN_ENERGY_LOST (R608). -/
def execTrainEnergyLost (p : Nat) (s : State) : Host.Outcome State Fault Refusal :=
  run (onPort p (opEnergyLost p)) s

/-- TRAIN_WAIT_EXPIRY (R77). -/
def execTrainWaitExpiry (p : Nat) (s : State) : Host.Outcome State Fault Refusal :=
  run (onPort p (opWaitExpiry p)) s

/-- ENUM_SEND (R82). -/
def execEnumSend (p : Nat) (s : State) : Host.Outcome State Fault Refusal :=
  run (onPort p (opEnumSend p)) s

/-- ENUM_REPEAT (R82). -/
def execEnumRepeat (p : Nat) (s : State) : Host.Outcome State Fault Refusal :=
  run (onPort p (opEnumRepeat p)) s

/-- ENUM (R83). -/
def execEnum (a : Arrival) (origin hop n wallId mouldSeq cum : Nat) (aOld : Bool) (s : State) : Host.Outcome State Fault Refusal :=
  let k := rxHead a.rest (enumPkt 0 origin hop n wallId mouldSeq cum)
  run (onPort a.port (receive a.port k a.rest (opEnum a.port origin hop n wallId mouldSeq cum aOld k))) s

/-- END_DETECT (R85). -/
def execEndDetect (s : State) : Host.Outcome State Fault Refusal :=
  run opEndDetect s

/-- TILE_READY (R87). -/
def execTileReady (s : State) : Host.Outcome State Fault Refusal :=
  run opTileReady s

/-- RASTER_TICK (R100). -/
def execRasterTick (s : State) : Host.Outcome State Fault Refusal :=
  runRindRaster (fun s => if s.sys.tripped then opRasterTick s else refTicks (opRasterTick s)) s

/-- FRAME_START (R102). -/
def execFrameStart (s : State) : Host.Outcome State Fault Refusal :=
  runRind opFrameStart s

/-- GENLOCK_EDGE (R105). -/
def execGenlockEdge (e : GenlockIn) (n : NearestFrame) (s : State) : Host.Outcome State Fault Refusal :=
  runRind (opGenlockEdge e.rising e.period n.frame n.phase) s

/-- GENLOCK_STOP (R105). -/
def execGenlockStop (s : State) : Host.Outcome State Fault Refusal :=
  runRind opGenlockStop s

/-- CHAIN_REF_MARKER_LOSS (R110). -/
def execChainRefMarkerLoss (s : State) : Host.Outcome State Fault Refusal :=
  run opChainRefMarkerLoss s

/-- SCHED_JUDGE (R111). -/
def execSchedJudge (s : State) : Host.Outcome State Fault Refusal :=
  runRind opSchedJudge s

/-- COMMIT_CUT (R121). -/
def execCommitCut (s : State) : Host.Outcome State Fault Refusal :=
  runRindRaster opCommitCut s

/-- COMMIT_HOLD_WRITE (R123). -/
def execCommitHoldWrite (val : Word) (s : State) : Host.Outcome State Fault Refusal :=
  runRindF (withWord 0x230 val (opCommitHold (val.getLsbD 0))) s

/-- COMMIT_GO (R123). -/
def execCommitGo (t : Word) (s : State) : Host.Outcome State Fault Refusal :=
  runRind (opCommitGo t.toNat) s

/-- COMMIT_GO_ACCEPT (R124). -/
def execCommitGoAccept (s : State) : Host.Outcome State Fault Refusal :=
  runRind opCommitGoAccept s

/-- TILE_MARKER_RX (R115). -/
def execTileMarkerRx (dirB : Bool) (lag : Int) (pkt : RasterPkt) (s : State) : Host.Outcome State Fault Refusal :=
  run (opTileMarkerRx dirB lag pkt) s

/-- TILE_MARKER_MISSING (R117). -/
def execTileMarkerMissing (m : MarkerGap) (s : State) : Host.Outcome State Fault Refusal :=
  run (opTileMarkerMissing m.dirB m.came) s

/-- TRACK_UPDATE (R116). -/
def execTrackUpdate (p : Nat) (m : TrackMeans) (s : State) : Host.Outcome State Fault Refusal :=
  run (onPort p (opTrackUpdate p m.mean m.fwdMeas)) s

/-- DELAY_MARKER_ROUND_TRIP (R80). -/
def execDelayMarkerRoundTrip (p : Nat) (own : Bool) (num turn : Nat) (s : State) : Host.Outcome State Fault Refusal :=
  run (onPort p (opDelayMarker p own num turn)) s

/-- SKP_SEND (R139). -/
def execSkpSend (p : Nat) (s : State) : Host.Outcome State Fault Refusal :=
  run (onPort p (opSkpSend p)) s

/-- CHAIN_REF_MARKER_RX (R110). -/
def execChainRefMarkerRx (p : Nat) (lag : Int) (pkt : RasterPkt) (s : State) : Host.Outcome State Fault Refusal :=
  run (onPort p (opChainRefMarkerRx p lag pkt)) s

end Sys2Proof.Machine
end

