-- ==== Sys2Proof/Machine/Dispatch.lean ====
section
/-!
DEFINITION. One arm per command, each a direct call of the command's meaning.
-/

namespace Sys2Proof.Machine

open Sys2Proof

def exec (i : Instr) (s : State) : Host.Outcome State Fault Refusal :=
  match i with
  | .registerWrite addr val => Sys2Proof.Machine.execRegisterWrite addr val s
  | .gatedWindowAccess addr write => Sys2Proof.Machine.execGatedWindowAccess addr write s
  | .pixelPairLowWrite addr val => Sys2Proof.Machine.execPixelPairLowWrite addr val s
  | .pixelPairHighWrite addr val => Sys2Proof.Machine.execPixelPairHighWrite addr val s
  | .pixelPairLowRead addr => Sys2Proof.Machine.execPixelPairLowRead addr s
  | .dieLinkReplay a b => Sys2Proof.Machine.execDieLinkReplay a b s
  | .dieLinkFail a b => Sys2Proof.Machine.execDieLinkFail a b s
  | .resetRelease recoveryN ramOk selfFail badLog card => Sys2Proof.Machine.execResetRelease recoveryN ramOk selfFail badLog card s
  | .mouldLoad us sectFail chanFail trimFail card => Sys2Proof.Machine.execMouldLoad us sectFail chanFail trimFail card s
  | .caveLoadDone failed dirOk => Sys2Proof.Machine.execCaveLoadDone failed dirOk s
  | .signalDetectChange lane on => Sys2Proof.Machine.execSignalDetectChange lane on s
  | .trainDetectExit p => Sys2Proof.Machine.execTrainDetectExit p s
  | .trainCommaDone p sets => Sys2Proof.Machine.execTrainCommaDone p sets s
  | .trainAnnounceDone p held sets => Sys2Proof.Machine.execTrainAnnounceDone p held sets s
  | .trainConfirmDone p sets => Sys2Proof.Machine.execTrainConfirmDone p sets s
  | .trainRateDone p r => Sys2Proof.Machine.execTrainRateDone p r s
  | .trainDeskewDone p l sets => Sys2Proof.Machine.execTrainDeskewDone p l sets s
  | .trainHopmeasDone p h => Sys2Proof.Machine.execTrainHopmeasDone p h s
  | .trainLimitExpiry p => Sys2Proof.Machine.execTrainLimitExpiry p s
  | .trainEnergyLost p => Sys2Proof.Machine.execTrainEnergyLost p s
  | .trainWaitExpiry p => Sys2Proof.Machine.execTrainWaitExpiry p s
  | .enumSend p => Sys2Proof.Machine.execEnumSend p s
  | .enumRepeat p => Sys2Proof.Machine.execEnumRepeat p s
  | .enum a origin hop n wallId mouldSeq cum aOld => Sys2Proof.Machine.execEnum a origin hop n wallId mouldSeq cum aOld s
  | .genlockEdge e n => Sys2Proof.Machine.execGenlockEdge e n s
  | .commitHoldWrite val => Sys2Proof.Machine.execCommitHoldWrite val s
  | .commitGo t => Sys2Proof.Machine.execCommitGo t s
  | .chainLineStart p c ready => Sys2Proof.Machine.execChainLineStart p c ready s
  | .fetchUrgencyChange p fill => Sys2Proof.Machine.execFetchUrgencyChange p fill s
  | .tileMarkerRx dirB lag pkt => Sys2Proof.Machine.execTileMarkerRx dirB lag pkt s
  | .tileMarkerMissing m => Sys2Proof.Machine.execTileMarkerMissing m s
  | .trackUpdate p m => Sys2Proof.Machine.execTrackUpdate p m s
  | .delayMarkerRoundTrip p own num turn => Sys2Proof.Machine.execDelayMarkerRoundTrip p own num turn s
  | .skpSend p => Sys2Proof.Machine.execSkpSend p s
  | .safeDarkOn dirB u => Sys2Proof.Machine.execSafeDarkOn dirB u s
  | .safeDarkOff dirB u => Sys2Proof.Machine.execSafeDarkOff dirB u s
  | .takeover p col copies => Sys2Proof.Machine.execTakeover p col copies s
  | .segdown p col copies => Sys2Proof.Machine.execSegdown p col copies s
  | .urgentSetBadCode p copies => Sys2Proof.Machine.execUrgentSetBadCode p copies s
  | .darkFlagTimeout dirB => Sys2Proof.Machine.execDarkFlagTimeout dirB s
  | .segdownClear dirB => Sys2Proof.Machine.execSegdownClear dirB s
  | .chUrgTx p code arg => Sys2Proof.Machine.execChUrgTx p code arg s
  | .segmentRx p cols r0 r1 r2 r3 => Sys2Proof.Machine.execSegmentRx p cols r0 r1 r2 r3 s
  | .frameReceptionEnd ue ueWords => Sys2Proof.Machine.execFrameReceptionEnd ue ueWords s
  | .raster a pkt => Sys2Proof.Machine.execRaster a pkt s
  | .heartbeat a endCode state health fnum arm t wallId mouldSeq => Sys2Proof.Machine.execHeartbeat a endCode state health fnum arm t wallId mouldSeq s
  | .delayRsp a num turn elapsed => Sys2Proof.Machine.execDelayRsp a num turn elapsed s
  | .ack a src seq dest result => Sys2Proof.Machine.execAck a src seq dest result s
  | .regWr p src seq dest data w => Sys2Proof.Machine.execRegWr p src seq dest data w s
  | .regRd p src seq dest data w => Sys2Proof.Machine.execRegRd p src seq dest data w s
  | .rdResp a src seq dest vals => Sys2Proof.Machine.execRdResp a src seq dest vals s
  | .commitGoPacket a src seq dest data => Sys2Proof.Machine.execCommitGoPacket a src seq dest data s
  | .remould a src seq go t wallId mouldSeq => Sys2Proof.Machine.execRemould a src seq go t wallId mouldSeq s
  | .ctrlBadType a src seq u => Sys2Proof.Machine.execCtrlBadType a src seq u s
  | .ctrlRetryTimeout p dest => Sys2Proof.Machine.execCtrlRetryTimeout p dest s
  | .broadcastConfirmTimeout p => Sys2Proof.Machine.execBroadcastConfirmTimeout p s
  | .status a payload => Sys2Proof.Machine.execStatus a payload s
  | .outcrc a addr fnum pics outs => Sys2Proof.Machine.execOutcrc a addr fnum pics outs s
  | .lampfault a addr f entries more overflow => Sys2Proof.Machine.execLampfault a addr f entries more overflow s
  | .tileHb a addr role decision sinceA sinceB fnum => Sys2Proof.Machine.execTileHb a addr role decision sinceA sinceB fnum s
  | .pcrcMissing p addr phase => Sys2Proof.Machine.execPcrcMissing p addr phase s
  | .laneRetire p lane => Sys2Proof.Machine.execLaneRetire p lane s
  | .portCrc p => Sys2Proof.Machine.execPortCrc p s
  | .linkLoss p e => Sys2Proof.Machine.execLinkLoss p e s
  | .retrain p => Sys2Proof.Machine.execRetrain p s
  | .ctrlTxCmd p val => Sys2Proof.Machine.execCtrlTxCmd p val s
  | .ctrlRxPop p => Sys2Proof.Machine.execCtrlRxPop p s
  | .wheyPop p => Sys2Proof.Machine.execWheyPop p s
  | .statusCopyRead p addr => Sys2Proof.Machine.execStatusCopyRead p addr s
  | .refSwitch g => Sys2Proof.Machine.execRefSwitch g s
  | .refSwitchBack g => Sys2Proof.Machine.execRefSwitchBack g s
  | .cdrLockLoss lane => Sys2Proof.Machine.execCdrLockLoss lane s
  | .txRampStep lane => Sys2Proof.Machine.execTxRampStep lane s
  | .laneTxWrite lane val => Sys2Proof.Machine.execLaneTxWrite lane val s
  | .laneRxmanWrite lane val => Sys2Proof.Machine.execLaneRxmanWrite lane val s
  | .prbsSync l => Sys2Proof.Machine.execPrbsSync l s
  | .prbsSyncLoss lane before last => Sys2Proof.Machine.execPrbsSyncLoss lane before last s
  | .prbsClr lane => Sys2Proof.Machine.execPrbsClr lane s
  | .prbsInject lane => Sys2Proof.Machine.execPrbsInject lane s
  | .testEnWrite g val => Sys2Proof.Machine.execTestEnWrite g val s
  | .testRateChange g rate => Sys2Proof.Machine.execTestRateChange g rate s
  | .eyeScanStart lane val => Sys2Proof.Machine.execEyeScanStart lane val s
  | .eyeScanDone lane width height point => Sys2Proof.Machine.execEyeScanDone lane width height point s
  | .eyeScanAbort lane nolock => Sys2Proof.Machine.execEyeScanAbort lane nolock s
  | .calStepStart g => Sys2Proof.Machine.execCalStepStart g s
  | .calForce g => Sys2Proof.Machine.execCalForce g s
  | .clearTrim g => Sys2Proof.Machine.execClearTrim g s
  | .bridge a step logical newPhys oldPhys => Sys2Proof.Machine.execBridge a step logical newPhys oldPhys s
  | .bridged a step => Sys2Proof.Machine.execBridged a step s
  | .calCompareDone p pass => Sys2Proof.Machine.execCalCompareDone p pass s
  | .switched a step logical newPhys oldPhys => Sys2Proof.Machine.execSwitched a step logical newPhys oldPhys s
  | .lanecmdDone a step => Sys2Proof.Machine.execLanecmdDone a step s
  | .retire a step oldPhys => Sys2Proof.Machine.execRetire a step oldPhys s
  | .drop a step oldPhys lanes => Sys2Proof.Machine.execDrop a step oldPhys lanes s
  | .dropped a step => Sys2Proof.Machine.execDropped a step s
  | .lanecmdTimeout p => Sys2Proof.Machine.execLanecmdTimeout p s
  | .calMeasureDone g w0 h0 w1 h1 w2 h2 => Sys2Proof.Machine.execCalMeasureDone g w0 h0 w1 h1 w2 h2 s
  | .calSettleTimeout g => Sys2Proof.Machine.execCalSettleTimeout g s
  | .affinageRampStep lane viol => Sys2Proof.Machine.execAffinageRampStep lane viol s
  | .sourcePortLock q => Sys2Proof.Machine.execSourcePortLock q s
  | .format q sframe fmt period w => Sys2Proof.Machine.execFormat q sframe fmt period w s
  | .linePacket q row col sf last words e => Sys2Proof.Machine.execLinePacket q row col sf last words e s
  | .ingestFrameComplete v e => Sys2Proof.Machine.execIngestFrameComplete v e s
  | .ingestStop v e lost => Sys2Proof.Machine.execIngestStop v e lost s
  | .ingestOverflow v e rows => Sys2Proof.Machine.execIngestOverflow v e rows s
  | .stopHoldExpiry v e => Sys2Proof.Machine.execStopHoldExpiry v e s
  | .openBuf v r => Sys2Proof.Machine.execOpenBuf v r s
  | .fence v r => Sys2Proof.Machine.execFence v r s
  | .fenceFlushDone v r => Sys2Proof.Machine.execFenceFlushDone v r s
  | .abortBuf v r => Sys2Proof.Machine.execAbortBuf v r s
  | .bar2Write off d => Sys2Proof.Machine.execBar2Write off d s
  | .bar2Read off r => Sys2Proof.Machine.execBar2Read off r s
  | .composeLine v t y late ue => Sys2Proof.Machine.execComposeLine v t y late ue s
  | .writeBackPublish v t => Sys2Proof.Machine.execWriteBackPublish v t s
  | .writeBackDrop v t => Sys2Proof.Machine.execWriteBackDrop v t s
  | .ocrcCapture p => Sys2Proof.Machine.execOcrcCapture p s
  | .ocrcCompare p => Sys2Proof.Machine.execOcrcCompare p s
  | .ocrcTimeout p => Sys2Proof.Machine.execOcrcTimeout p s
  | .ocrcDiffPop p => Sys2Proof.Machine.execOcrcDiffPop p s
  | .rowCorrect phase row ue => Sys2Proof.Machine.execRowCorrect phase row ue s
  | .rowEncode phase row ueMap ueStatus ueStore => Sys2Proof.Machine.execRowEncode phase row ueMap ueStatus ueStore s
  | .tsetWrite reg val => Sys2Proof.Machine.execTsetWrite reg val s
  | .windowLead k rb => Sys2Proof.Machine.execWindowLead k rb s
  | .rowSlotStart k row rb => Sys2Proof.Machine.execRowSlotStart k row rb s
  | .lampTest k row opens shorts => Sys2Proof.Machine.execLampTest k row opens shorts s
  | .rowProbe k opens shorts => Sys2Proof.Machine.execRowProbe k opens shorts s
  | .pinReadbackCheck q r => Sys2Proof.Machine.execPinReadbackCheck q r s
  | .pinStuckClear q => Sys2Proof.Machine.execPinStuckClear q s
  | .outputCrcComplete q => Sys2Proof.Machine.execOutputCrcComplete q s
  | .dramRequest c arrive wait err => Sys2Proof.Machine.execDramRequest c arrive wait err s
  | .refreshPoint c => Sys2Proof.Machine.execRefreshPoint c s
  | .forcedRefresh c => Sys2Proof.Machine.execForcedRefresh c s
  | .zqcs c => Sys2Proof.Machine.execZqcs c s
  | .dramTempRead c band => Sys2Proof.Machine.execDramTempRead c band s
  | .patrolScrub c err => Sys2Proof.Machine.execPatrolScrub c err s
  | .rowRepair c zeroed => Sys2Proof.Machine.execRowRepair c zeroed s
  | .repairRecopyDone c => Sys2Proof.Machine.execRepairRecopyDone c s
  | .dramFreqJudge v => Sys2Proof.Machine.execDramFreqJudge v s
  | .dramFreqChange v => Sys2Proof.Machine.execDramFreqChange v s
  | .unfitEntry p => Sys2Proof.Machine.execUnfitEntry p s
  | .foKick val => Sys2Proof.Machine.execFoKick val s
  | .yield p => Sys2Proof.Machine.execYield p s
  | .netTxFrame n busy => Sys2Proof.Machine.execNetTxFrame n busy s
  | .netTxDone n => Sys2Proof.Machine.execNetTxDone n s
  | .netRxFrame n bytes => Sys2Proof.Machine.execNetRxFrame n bytes s
  | .netCollision late => Sys2Proof.Machine.execNetCollision late s
  | .pauseRx q => Sys2Proof.Machine.execPauseRx q s
  | .noWindow n q => Sys2Proof.Machine.execNoWindow n q s
  | .wheelBankWrite b e val => Sys2Proof.Machine.execWheelBankWrite b e val s
  | .ptpIncWrite val => Sys2Proof.Machine.execPtpIncWrite val s
  | .ptpAdj val => Sys2Proof.Machine.execPtpAdj val s
  | .triggerArm t val => Sys2Proof.Machine.execTriggerArm t val s
  | .triggerFire t => Sys2Proof.Machine.execTriggerFire t s
  | .captureEdge c rising close => Sys2Proof.Machine.execCaptureEdge c rising close s
  | .txtsPop n => Sys2Proof.Machine.execTxtsPop n s
  | .capPop c => Sys2Proof.Machine.execCapPop c s
  | .mdioCmd val => Sys2Proof.Machine.execMdioCmd val s
  | .mdioDone data => Sys2Proof.Machine.execMdioDone data s
  | .audioMonitorEdge n out period => Sys2Proof.Machine.execAudioMonitorEdge n out period s
  | .audioMonitorStop n out => Sys2Proof.Machine.execAudioMonitorStop n out s
  | .audioRateMeasure n out => Sys2Proof.Machine.execAudioRateMeasure n out s
  | .audioBlockRx n frames => Sys2Proof.Machine.execAudioBlockRx n frames s
  | .audioOutputBlock n ue => Sys2Proof.Machine.execAudioOutputBlock n ue s
  | .audioDelayRecompute n => Sys2Proof.Machine.execAudioDelayRecompute n s
  | .audioUnderrun n k => Sys2Proof.Machine.execAudioUnderrun n k s
  | .audioTsPop n => Sys2Proof.Machine.execAudioTsPop n s
  | .audioCsInRead n => Sys2Proof.Machine.execAudioCsInRead n s
  | .dieSensorSample d x t => Sys2Proof.Machine.execDieSensorSample d x t s
  | .throttleStepDown d => Sys2Proof.Machine.execThrottleStepDown d s
  | .moduleSensorSample j bytes => Sys2Proof.Machine.execModuleSensorSample j bytes s
  | .thermalTrip d x t => Sys2Proof.Machine.execThermalTrip d x t s
  | .thClr val => Sys2Proof.Machine.execThClr val s
  | .thLimitWrite reg val => Sys2Proof.Machine.execThLimitWrite reg val s
  | .crcStart u => Sys2Proof.Machine.execCrcStart u s
  | .crcData u size val => Sys2Proof.Machine.execCrcData u size val s
  | .crcConfigWrite u off val => Sys2Proof.Machine.execCrcConfigWrite u off val s
  | .crcResultComplete u => Sys2Proof.Machine.execCrcResultComplete u s
  | .crcStateRead u => Sys2Proof.Machine.execCrcStateRead u s
  | .crcResultInfoRead u => Sys2Proof.Machine.execCrcResultInfoRead u s
  | .installFw fw mould => Sys2Proof.Machine.execInstallFw fw mould s
  | .installTile file => Sys2Proof.Machine.execInstallTile file s
  | .installRemould bytes contents => Sys2Proof.Machine.execInstallRemould bytes contents s
  | .confirm late => Sys2Proof.Machine.execConfirm late s
  | .fwBegin a src seq dest kind total id mseq last dirB => Sys2Proof.Machine.execFwBegin a src seq dest kind total id mseq last dirB s
  | .fwData a src seq dest off bytes => Sys2Proof.Machine.execFwData a src seq dest off bytes s
  | .fwEnd a src seq dest total => Sys2Proof.Machine.execFwEnd a src seq dest total s
  | .fwVerifyDone regs contents => Sys2Proof.Machine.execFwVerifyDone regs contents s
  | .fwFlashWriteDone ok => Sys2Proof.Machine.execFwFlashWriteDone ok s
  | .fwActivate a src seq op sFrame version win tries => Sys2Proof.Machine.execFwActivate a src seq op sFrame version win tries s
  | .fwConfirm a src seq version => Sys2Proof.Machine.execFwConfirm a src seq version s
  | .fwAbort a src seq dest => Sys2Proof.Machine.execFwAbort a src seq dest s
  | .fwState a addr payload => Sys2Proof.Machine.execFwState a addr payload s
  | .distStart p val => Sys2Proof.Machine.execDistStart p val s
  | .distAbort p val => Sys2Proof.Machine.execDistAbort p val s
  | .enroll slot => Sys2Proof.Machine.execEnroll slot s
  | .revoke slot => Sys2Proof.Machine.execRevoke slot s
  | .unlock slot => Sys2Proof.Machine.execUnlock slot s
  | .elogSelWrite val => Sys2Proof.Machine.execElogSelWrite val s
  | .vs rd codes period => Sys2Proof.Machine.execVs rd codes period s
  | .ls rd codes => Sys2Proof.Machine.execLs rd codes s
  | .k24Write rd codes => Sys2Proof.Machine.execK24Write rd codes s
  | .k24Read rd codes => Sys2Proof.Machine.execK24Read rd codes s
  | .k24Block rd codes => Sys2Proof.Machine.execK24Block rd codes s
  | .rsp l => Sys2Proof.Machine.execRsp l s
  | .k24GamDataAccess val => Sys2Proof.Machine.execK24GamDataAccess val s
  | .k24GainDataAccess val => Sys2Proof.Machine.execK24GainDataAccess val s
  | .k24Save key => Sys2Proof.Machine.execK24Save key s
  | .updData byte => Sys2Proof.Machine.execUpdData byte s
  | .irqCause c => Sys2Proof.Machine.execIrqCause c s
  | .msixSend v => Sys2Proof.Machine.execMsixSend v s
  | .irqAck val => Sys2Proof.Machine.execIrqAck val s
  | .irqConfigWrite addr val => Sys2Proof.Machine.execIrqConfigWrite addr val s
  | .extest cells seen => Sys2Proof.Machine.execExtest cells seen s
  | .samplePreload cells seen => Sys2Proof.Machine.execSamplePreload cells seen s
  | .elogSel sel => Sys2Proof.Machine.execElogSel sel s
  | .dbgAccess addr val => Sys2Proof.Machine.execDbgAccess addr val s
  | .bypass code => Sys2Proof.Machine.execBypass code s
  | .railFault dark => Sys2Proof.Machine.execRailFault dark s
  | .legacyLaneLock lane => Sys2Proof.Machine.execLegacyLaneLock lane s
  | .legacyLaneLockLost lane => Sys2Proof.Machine.execLegacyLaneLockLost lane s
  | .chainRefMarkerRx p lag pkt => Sys2Proof.Machine.execChainRefMarkerRx p lag pkt s
  | .msixUnmask busMaster enable funcMask vecMask entries => Sys2Proof.Machine.execMsixUnmask busMaster enable funcMask vecMask entries s
  | .idleTimerExpiry c bank => Sys2Proof.Machine.execIdleTimerExpiry c bank s
  | .dramClassPromotion c x => Sys2Proof.Machine.execDramClassPromotion c x s
  | .calAdaptationSettled g eq => Sys2Proof.Machine.execCalAdaptationSettled g eq s
  | .installDone ok => Sys2Proof.Machine.execInstallDone ok s
  | .setCmdDone drop => Sys2Proof.Machine.execSetCmdDone drop s
  | .tableCmdDone ue => Sys2Proof.Machine.execTableCmdDone ue s
  | .ingFmtRead v e => Sys2Proof.Machine.execIngFmtRead v e s
  | .errLastRead c => Sys2Proof.Machine.execErrLastRead c s
  | .ocrcInfoRead q => Sys2Proof.Machine.execOcrcInfoRead q s
  | .updVerifyDone regs contents => Sys2Proof.Machine.execUpdVerifyDone regs contents s
  | .updWriteDone ok => Sys2Proof.Machine.execUpdWriteDone ok s
  | .resetAssert => Sys2Proof.Machine.execResetAssert s
  | .perstRelease => Sys2Proof.Machine.execPerstRelease s
  | .perstAssert => Sys2Proof.Machine.execPerstAssert s
  | .flr => Sys2Proof.Machine.execFlr s
  | .remouldVerify => Sys2Proof.Machine.execRemouldVerify s
  | .remouldArm => Sys2Proof.Machine.execRemouldArm s
  | .remouldCancel => Sys2Proof.Machine.execRemouldCancel s
  | .remouldPartnerTimeout => Sys2Proof.Machine.execRemouldPartnerTimeout s
  | .remouldGoCheck => Sys2Proof.Machine.execRemouldGoCheck s
  | .remouldSwitch => Sys2Proof.Machine.execRemouldSwitch s
  | .remouldNoGo => Sys2Proof.Machine.execRemouldNoGo s
  | .endDetect => Sys2Proof.Machine.execEndDetect s
  | .tileReady => Sys2Proof.Machine.execTileReady s
  | .rasterTick => Sys2Proof.Machine.execRasterTick s
  | .frameStart => Sys2Proof.Machine.execFrameStart s
  | .genlockStop => Sys2Proof.Machine.execGenlockStop s
  | .chainRefMarkerLoss => Sys2Proof.Machine.execChainRefMarkerLoss s
  | .schedJudge => Sys2Proof.Machine.execSchedJudge s
  | .commitCut => Sys2Proof.Machine.execCommitCut s
  | .commitGoAccept => Sys2Proof.Machine.execCommitGoAccept s
  | .safeDarkPinSender => Sys2Proof.Machine.execSafeDarkPinSender s
  | .safeDarkPinTile => Sys2Proof.Machine.execSafeDarkPinTile s
  | .trimSave => Sys2Proof.Machine.execTrimSave s
  | .tableRead => Sys2Proof.Machine.execTableRead s
  | .tableWrite => Sys2Proof.Machine.execTableWrite s
  | .tableSave => Sys2Proof.Machine.execTableSave s
  | .tableSaveDone => Sys2Proof.Machine.execTableSaveDone s
  | .pressDarkEval => Sys2Proof.Machine.execPressDarkEval s
  | .refereeDeadline => Sys2Proof.Machine.execRefereeDeadline s
  | .refereeFirstDecision => Sys2Proof.Machine.execRefereeFirstDecision s
  | .deputyTimeout => Sys2Proof.Machine.execDeputyTimeout s
  | .hostKickTimeout => Sys2Proof.Machine.execHostKickTimeout s
  | .backoffExpiry => Sys2Proof.Machine.execBackoffExpiry s
  | .pauseExpiry => Sys2Proof.Machine.execPauseExpiry s
  | .flowPauseSend => Sys2Proof.Machine.execFlowPauseSend s
  | .wheelCycleStart => Sys2Proof.Machine.execWheelCycleStart s
  | .wheelEntryChange => Sys2Proof.Machine.execWheelEntryChange s
  | .ptpTick => Sys2Proof.Machine.execPtpTick s
  | .ptpSet => Sys2Proof.Machine.execPtpSet s
  | .ptpNsRead => Sys2Proof.Machine.execPtpNsRead s
  | .fwArm => Sys2Proof.Machine.execFwArm s
  | .armRevert => Sys2Proof.Machine.execArmRevert s
  | .fwCancel => Sys2Proof.Machine.execFwCancel s
  | .fwActivateCheck => Sys2Proof.Machine.execFwActivateCheck s
  | .confirmWindowExpiry => Sys2Proof.Machine.execConfirmWindowExpiry s
  | .setStore => Sys2Proof.Machine.execSetStore s
  | .setDelete => Sys2Proof.Machine.execSetDelete s
  | .setClear => Sys2Proof.Machine.execSetClear s
  | .lockDebug => Sys2Proof.Machine.execLockDebug s
  | .relock => Sys2Proof.Machine.execRelock s
  | .logEvent => Sys2Proof.Machine.execLogEvent s
  | .elogDataRead => Sys2Proof.Machine.execElogDataRead s
  | .clrRing => Sys2Proof.Machine.execClrRing s
  | .clrFatal => Sys2Proof.Machine.execClrFatal s
  | .watchdogKick => Sys2Proof.Machine.execWatchdogKick s
  | .watchdogWarn => Sys2Proof.Machine.execWatchdogWarn s
  | .watchdogRestart => Sys2Proof.Machine.execWatchdogRestart s
  | .vsHoldExpiry => Sys2Proof.Machine.execVsHoldExpiry s
  | .vsMissing => Sys2Proof.Machine.execVsMissing s
  | .k24ErrPop => Sys2Proof.Machine.execK24ErrPop s
  | .updBegin => Sys2Proof.Machine.execUpdBegin s
  | .updEnd => Sys2Proof.Machine.execUpdEnd s
  | .updApply => Sys2Proof.Machine.execUpdApply s
  | .updConfirm => Sys2Proof.Machine.execUpdConfirm s
  | .updAbort => Sys2Proof.Machine.execUpdAbort s
  | .uidRead => Sys2Proof.Machine.execUidRead s
  | .idcode => Sys2Proof.Machine.execIdcode s
  | .elogData => Sys2Proof.Machine.execElogData s
  | .railsGood => Sys2Proof.Machine.execRailsGood s
  | .safeDarkPinRelease => Sys2Proof.Machine.execSafeDarkPinRelease s
  | .fwArmPartnerTimeout => Sys2Proof.Machine.execFwArmPartnerTimeout s
  | .remouldVerifyDone => Sys2Proof.Machine.execRemouldVerifyDone s
  | .secCmdDone => Sys2Proof.Machine.execSecCmdDone s
  | .secChalRead => Sys2Proof.Machine.execSecChalRead s
  | .updApplyTimeout => Sys2Proof.Machine.execUpdApplyTimeout s

end Sys2Proof.Machine
end

