-- ==== Sys2Proof/Safety.lean ====
section
/-!
DEFINITION. The terms in which statements about the block are made: when it acts, what a command leaves alone, and the invariants a
step keeps.
-/

namespace Sys2Proof

/-- A packet came whole: it does not end in EDB, and its check value is right (R146, R151). -/
abbrev PktEnd.good (w : PktEnd) (k : Pkt) : Prop := w.edb = false ∧ w.check = Machine.pktCheck k

/-- The commands that carry out an access of the host, the link or the legacy chain to an address and word of its own, or write tables that such an access
names: a use that the manual calls unpredictable stops them (R5, R9, R542). -/
def Instr.checked : Instr → Bool
  | .thClr .. | .thLimitWrite .. | .distStart .. | .distAbort .. | .elogSelWrite .. | .irqAck .. | .irqConfigWrite ..
  | .dbgAccess .. | .registerWrite .. | .pixelPairLowWrite .. | .pixelPairHighWrite .. | .mouldLoad .. | .k24Write .. | .k24Read ..
  | .k24Block .. | .laneTxWrite .. | .laneRxmanWrite .. | .testEnWrite .. | .eyeScanStart .. | .regWr .. | .regRd ..
  | .ctrlTxCmd .. | .foKick .. | .wheelBankWrite .. | .ptpIncWrite .. | .ptpAdj .. | .triggerArm .. | .mdioCmd ..
  | .crcData .. | .crcConfigWrite .. | .tsetWrite .. | .commitHoldWrite .. => true
  | _ => false

namespace Machine

open Sys2Proof

/-- The Rind die acts: neither reset, a rail fault nor a halted starter holds it. The host's accesses need no more, for they work on after the thermal
trip (R71, R75, R480, R587). -/
abbrev State.rindActs (s : State) : Prop := s.rindHeld = false

/-- The Rind die has power and clock: no reset and no rail fault holds the part. The watchdog, the logger and the boundary scan need no more, for they
work on in a halted part (R71, R75, R534, R587). -/
abbrev State.powered (s : State) : Prop := s.sys.resetLow = false ∧ s.sys.railsBad = false

/-- The part acts: neither reset, a rail fault, the thermal trip nor a halted starter holds it (R71, R75, R480, R587). -/
abbrev State.acts (s : State) : Prop := s.held = false

/-- Everything of the state but the registers in force and what every step renews: the record of what was sent, on the lines too, and
read, and the interrupt outputs, which follow the registers (`IrqFollow`). -/
def State.kept (s : State) : State :=
  { s with regs := [], out := [], line := [], disp := [], acc := { s.acc with rdata := [], poisoned := false }, pcie := { s.pcie with active := 0, due := 0, irqN := false } }

/-- Do two fields share no bit: of different registers, or apart in one? -/
def Fld.sep (f g : Fld) : Bool := f.addr != g.addr || decide (g.hi < f.lo) || decide (f.hi < g.lo)

/-- A whole register. -/
def whole (a : Nat) : Fld := ⟨a, 31, 0⟩

/-- Every field that shares no bit with a field of `l` holds in `t` what it held in `s`. -/
def Keeps (l : List Fld) (s t : State) : Prop := ∀ f : Fld, (∀ g ∈ l, g.sep f = true) → t.get f = s.get f

/-- The frame of a command that leads to `t`: every register field apart from those of `l` holds what it held in `s`, and all other state is
that of `u`: `s` itself, or `s` with the records changed that the command changes. -/
def Frame (l : List Fld) (s u t : State) : Prop := Keeps l s t ∧ t.kept = u.kept

/-- What the command sent is `l`. -/
abbrev Sent (l : List Out) (t : State) : Prop := t.out = l

/-- The interrupt outputs follow the causes (R21, R572): IRQ_N is asserted exactly while a cause is both pending and enabled, and
RD_IRQ_ACTIVE is the vectors of those causes. -/
def IrqFollow (s : State) : Prop := (s.pcie.irqN = (s.irqLive != 0)) ∧ s.pcie.active = s.irqVectors

/-- The two pending words of RD_IRQ_PEND (R570), for the frames of commands that may set a cause. -/
abbrev pendFlds : List Fld := [F.RD_IRQ_PEND0_PEND, F.RD_IRQ_PEND1_PEND]

/-- A saturating counter one step on. -/
def State.more (s : State) (f : Fld) : Nat := min (s.get f + 1) (2 ^ f.width - 1)

/-- A wrapping counter, such as a SEQ, one step on (R15). -/
def State.wrap (s : State) (f : Fld) : Nat := (s.get f + 1) % 2 ^ f.width

/-- The registers that follow the firmware slots (R522), and RD_FW_RESULT (R523). -/
abbrev fwFlds : List Fld :=
  [F.RD_FW_STATUS_RUN_SLOT, F.RD_FW_STATUS_RUN_STATE, F.RD_FW_STATUS_ALT_STATE, F.RD_FW_STATUS_TRIES, F.RD_FW_STATUS_WIN_LEFT,
   F.RD_FW_VER_RUN_VERSION, F.RD_FW_VER_ALT_VERSION]
abbrev fwResFlds : List Fld := [F.RD_FW_RESULT_STATE, F.RD_FW_RESULT_ERR, F.RD_FW_RESULT_VALID, F.RD_FW_RESULT_SEQ]

/-- RD_FW_RESULT reads state `st` with code `e`; a final state has VALID and steps SEQ. -/
abbrev State.fwShows (s t : State) (st e : Nat) : Prop :=
  t.get F.RD_FW_RESULT_STATE = st ∧ t.get F.RD_FW_RESULT_ERR = e ∧
    (if st = 2 ∨ 6 ≤ st then t.get F.RD_FW_RESULT_VALID = 1 ∧ t.get F.RD_FW_RESULT_SEQ = s.wrap F.RD_FW_RESULT_SEQ
     else t.get F.RD_FW_RESULT_VALID = 0 ∧ t.get F.RD_FW_RESULT_SEQ = s.get F.RD_FW_RESULT_SEQ)

/-- A write of `v` at offset `a` is one the manual gives a meaning to: the window answers (R6, R73) and no reserved bit of the register is set (R9). -/
def State.wordOk (s : State) (a : Nat) (v : Word) : Bool :=
  s.answersAt a && (match regAt (s.regKey a) with | some r => v &&& ~~~ r.named == 0 | none => true)

/-- No port's calibration step has a lane swap that waits for a later frame (R101). -/
abbrev State.noSwapWaits (s : State) : Prop := ∀ p, p < 16 → ((s.cal p).step.all fun c => c.passed.isNone) = true

/-- A cause's pending bit (R570). -/
def State.pendingCause (s : State) (c : Nat) : Bool :=
  if c < 32 then (s.get F.RD_IRQ_PEND0_PEND).testBit c else (s.get F.RD_IRQ_PEND1_PEND).testBit (c - 32)

/-- The canonical form of the register store and of the memories. -/
def State.canonical (s : State) : Bool := Tab.wf resetWord s.regs && Memory.wf s.dram && Memory.wf s.pram

end Machine

end Sys2Proof
end

