-- ==== Sys2Proof/WellFormed.lean ====
section
/-!
DEFINITION. Which commands name something the part has: ports, lanes, dies and units by their counts (R4, R27, R29, R137), fields of packets by
their widths (R144, R150 to R157). A command outside these bounds is none the outside world can give.
-/

namespace Sys2Proof

/-- One of the 16 chain ports. -/
def isPort (p : Nat) : Bool := p < 16
/-- One of the 112 lane pairs. -/
def isLane (l : Nat) : Bool := l < 112
/-- One of the 24 lane groups. -/
def isGroup (g : Nat) : Bool := g < 24
/-- One of the eight dies. -/
def isDie (d : Nat) : Bool := d < 8
/-- One of the eight DRAM channels. -/
def isChannel (c : Nat) : Bool := c < 8
/-- A content phase. -/
def isPhase (k : Nat) : Bool := k < 4
/-- A tile address. -/
def isTile (a : Nat) : Bool := 1 ≤ a && a ≤ 32
/-- An aligned offset within BAR0. -/
def isOffset (a : Nat) : Bool := a % 4 == 0 && a < 0x8000000
/-- A value of one byte. -/
def byteSized (n : Nat) : Bool := n < 256
def allBytes (l : List Nat) : Bool := l.all byteSized
/-- A segment's header fields fit (R144). -/
def segmentForm (g : Segment) : Bool :=
  g.tile < 256 && g.phase < 4 && g.code < 4 && g.row < 65536 && g.col < 65536 && 1 ≤ g.words.length && g.words.length ≤ 1024 && g.fnum < 2 ^ 32

/-- Header fields of a byte and a check value of four (R146, R150). -/
def endOk (w : PktEnd) : Bool := byteSized w.src && byteSized w.seq && byteSized w.flags && w.check < 2 ^ 32

/-- Copies of an urgent set: four symbols on each of at most four lanes (R142). -/
def setCopies (l : List (List Nat)) : Bool := l.length ≤ 4 && l.all fun c => c.length == 4 && c.all (· ≤ 512)

/-- The check of a command's operands. -/
def Instr.wf (i : Instr) : Bool :=
  match i with
  | .registerWrite addr _ => isOffset addr
  | .gatedWindowAccess addr _ => isOffset addr
  | .pixelPairLowWrite addr _ => isOffset addr
  | .pixelPairHighWrite addr _ => isOffset addr
  | .pixelPairLowRead addr => isOffset addr
  | .dieLinkReplay a b => isDie a && isDie b
  | .dieLinkFail a b => isDie a && isDie b
  | .resetAssert => true
  | .resetRelease _ _ _ _ _ => true
  | .perstRelease => true
  | .perstAssert => true
  | .flr => true
  | .mouldLoad _ _ _ _ _ => true
  | .caveLoadDone _ _ => true
  | .remouldVerify => true
  | .remouldArm => true
  | .remouldCancel => true
  | .remouldPartnerTimeout => true
  | .remouldGoCheck => true
  | .remouldSwitch => true
  | .remouldNoGo => true
  | .signalDetectChange lane _ => isLane lane
  | .trainDetectExit p => isPort p
  | .trainCommaDone p _ => isPort p
  | .trainAnnounceDone p _ _ => isPort p
  | .trainConfirmDone p _ => isPort p
  | .trainRateDone p _ => isPort p
  | .trainDeskewDone p _ _ => isPort p
  | .trainHopmeasDone p _ => isPort p
  | .trainLimitExpiry p => isPort p
  | .trainEnergyLost p => isPort p
  | .trainWaitExpiry p => isPort p
  | .enumSend p => isPort p
  | .enumRepeat p => isPort p
  | .enum ⟨p, w⟩ origin _ _ wallId mouldSeq cum _ => isPort p && (1 ≤ origin && origin ≤ 3) && wallId < 2 ^ 32 && mouldSeq < 2 ^ 16 && cum < 2 ^ 32 && endOk w
  | .endDetect => true
  | .tileReady => true
  | .rasterTick => true
  | .frameStart => true
  | .genlockEdge _ _ => true
  | .genlockStop => true
  | .chainRefMarkerLoss => true
  | .schedJudge => true
  | .commitCut => true
  | .commitHoldWrite _ => true
  | .commitGo _ => true
  | .commitGoAccept => true
  | .chainLineStart p _ _ => isPort p
  | .fetchUrgencyChange p _ => isPort p
  | .tileMarkerRx _ _ _ => true
  | .tileMarkerMissing _ => true
  | .trackUpdate p _ => isPort p
  | .delayMarkerRoundTrip p _ _ _ => isPort p
  | .skpSend p => isPort p
  | .safeDarkOn _ ⟨_, copies⟩ => setCopies copies
  | .safeDarkOff _ ⟨_, copies⟩ => setCopies copies
  | .takeover p _ copies => isPort p && setCopies copies
  | .segdown p _ copies => isPort p && setCopies copies
  | .urgentSetBadCode p copies => isPort p && setCopies copies
  | .darkFlagTimeout _ => true
  | .safeDarkPinSender => true
  | .safeDarkPinTile => true
  | .segdownClear _ => true
  | .chUrgTx p code arg => isPort p && byteSized code && byteSized arg
  | .segmentRx p cols _ _ _ _ => isPort p && cols.all fun c => c.length ≤ 4 && c.all (· < 1024)
  | .frameReceptionEnd _ _ => true
  | .raster ⟨p, w⟩ _ => isPort p && endOk w
  | .heartbeat ⟨p, w⟩ _ _ _ _ _ _ _ _ => isPort p && endOk w
  | .delayRsp ⟨p, w⟩ _ _ _ => isPort p && endOk w
  | .ack ⟨p, w⟩ src seq dest _ => isPort p && byteSized src && byteSized seq && byteSized dest && endOk w
  | .regWr p src seq dest data w => isPort p && byteSized src && byteSized seq && byteSized dest && data.length ≤ 248 && endOk w
  | .regRd p src seq dest data w => isPort p && byteSized src && byteSized seq && byteSized dest && data.length ≤ 248 && endOk w
  | .rdResp ⟨p, w⟩ src seq dest vals => isPort p && byteSized src && byteSized seq && byteSized dest && vals.length ≤ 62 && endOk w
  | .commitGoPacket ⟨p, w⟩ src seq dest data => isPort p && byteSized src && byteSized seq && byteSized dest && data.length ≤ 248 && endOk w
  | .remould ⟨p, w⟩ src seq _ _ _ _ => isPort p && byteSized src && byteSized seq && endOk w
  | .ctrlBadType ⟨p, w⟩ src seq ⟨ty, dest, data⟩ => isPort p && byteSized ty && byteSized src && byteSized seq && byteSized dest && data.length ≤ 248 && endOk w
  | .ctrlRetryTimeout p dest => isPort p && byteSized dest
  | .broadcastConfirmTimeout p => isPort p
  | .status ⟨p, w⟩ payload => isPort p && (payload.length == 32 && allBytes payload) && endOk w
  | .outcrc ⟨p, w⟩ addr _ _ _ => isPort p && addr ≤ 32 && endOk w
  | .lampfault ⟨p, w⟩ addr _ entries _ _ => isPort p && addr ≤ 32 && entries.length ≤ 61 && endOk w
  | .tileHb ⟨p, w⟩ addr _ _ _ _ _ => isPort p && addr ≤ 32 && endOk w
  | .pcrcMissing p addr phase => isPort p && isTile addr && isPhase phase
  | .laneRetire p lane => isPort p && lane < 5
  | .portCrc p => isPort p
  | .linkLoss p _ => isPort p
  | .retrain p => isPort p
  | .ctrlTxCmd p _ => isPort p
  | .ctrlRxPop p => isPort p
  | .wheyPop p => isPort p
  | .statusCopyRead p addr => isPort p && isTile addr
  | .refSwitch g => isGroup g
  | .refSwitchBack g => isGroup g
  | .cdrLockLoss lane => isLane lane
  | .txRampStep lane => isLane lane
  | .laneTxWrite lane _ => isLane lane
  | .laneRxmanWrite lane _ => isLane lane
  | .prbsSync ⟨lane, _⟩ => isLane lane
  | .prbsSyncLoss lane _ _ => isLane lane
  | .prbsClr lane => isLane lane
  | .prbsInject lane => isLane lane
  | .testEnWrite g _ => isGroup g
  | .testRateChange g rate => isGroup g && rate < 4
  | .eyeScanStart lane _ => isLane lane
  | .eyeScanDone lane _ _ _ => isLane lane
  | .eyeScanAbort lane _ => isLane lane
  | .calStepStart g => isGroup g
  | .calForce g => isGroup g
  | .clearTrim g => isGroup g
  | .bridge ⟨p, w⟩ _ logical newPhys oldPhys => isPort p && logical < 4 && newPhys < 5 && oldPhys < 5 && endOk w
  | .bridged ⟨p, w⟩ _ => isPort p && endOk w
  | .calCompareDone p _ => isPort p
  | .switched ⟨p, w⟩ _ logical newPhys oldPhys => isPort p && logical < 4 && newPhys < 5 && oldPhys < 5 && endOk w
  | .lanecmdDone ⟨p, w⟩ _ => isPort p && endOk w
  | .retire ⟨p, w⟩ _ oldPhys => isPort p && oldPhys < 5 && endOk w
  | .drop ⟨p, w⟩ _ oldPhys _ => isPort p && oldPhys < 5 && endOk w
  | .dropped ⟨p, w⟩ _ => isPort p && endOk w
  | .lanecmdTimeout p => isPort p
  | .calMeasureDone g _ _ _ _ _ _ => isGroup g
  | .calSettleTimeout g => isGroup g
  | .affinageRampStep lane _ => isLane lane
  | .trimSave => true
  | .sourcePortLock ⟨q, _⟩ => q < 8
  | .format q _ _ _ _ => q < 8
  | .linePacket q _ _ _ _ _ _ => q < 8
  | .ingestFrameComplete v e => v < 4 && e < 2
  | .ingestStop v e lost => v < 4 && e < 2 && lost < 4
  | .ingestOverflow v e _ => v < 4 && e < 2
  | .stopHoldExpiry v e => v < 4 && e < 2
  | .openBuf v r => v < 4 && r < 2
  | .fence v r => v < 4 && r < 2
  | .fenceFlushDone v r => v < 4 && r < 2
  | .abortBuf v r => v < 4 && r < 2
  | .bar2Write _ ⟨bytes, _⟩ => allBytes bytes
  | .bar2Read _ _ => true
  | .composeLine v t _ _ _ => v < 4 && t < 16
  | .writeBackPublish v t => v < 4 && t < 16
  | .writeBackDrop v t => v < 4 && t < 16
  | .ocrcCapture p => isPort p
  | .ocrcCompare p => isPort p
  | .ocrcTimeout p => isPort p
  | .ocrcDiffPop p => isPort p
  | .rowCorrect phase _ _ => isPhase phase
  | .rowEncode phase _ _ _ _ => isPhase phase
  | .tableRead => true
  | .tableWrite => true
  | .tableSave => true
  | .tableSaveDone => true
  | .tsetWrite reg _ => reg < 4
  | .windowLead k _ => isPhase k
  | .rowSlotStart k _ _ => isPhase k
  | .lampTest k _ _ _ => isPhase k
  | .rowProbe k _ _ => isPhase k
  | .pinReadbackCheck q _ => q < 16
  | .pinStuckClear q => q < 16
  | .pressDarkEval => true
  | .outputCrcComplete q => q < 16
  | .dramRequest c _ _ err => isChannel c && err < 3
  | .refreshPoint c => isChannel c
  | .forcedRefresh c => isChannel c
  | .zqcs c => isChannel c
  | .dramTempRead c band => isChannel c && band < 3
  | .patrolScrub c ⟨_, err⟩ => isChannel c && err < 3
  | .rowRepair c _ => isChannel c
  | .repairRecopyDone c => isChannel c
  | .dramFreqJudge v => v < 4
  | .dramFreqChange v => v < 4
  | .refereeDeadline => true
  | .refereeFirstDecision => true
  | .deputyTimeout => true
  | .hostKickTimeout => true
  | .unfitEntry p => isPort p
  | .foKick _ => true
  | .yield p => isPort p
  | .netTxFrame n _ => n < 2
  | .netTxDone n => n < 2
  | .netRxFrame n bytes => n < 2 && allBytes bytes
  | .netCollision _ => true
  | .backoffExpiry => true
  | .pauseRx q => q < 65536
  | .pauseExpiry => true
  | .flowPauseSend => true
  | .noWindow n q => n < 2 && q < 4
  | .wheelCycleStart => true
  | .wheelEntryChange => true
  | .wheelBankWrite b e _ => b < 2 && e < 64
  | .ptpTick => true
  | .ptpIncWrite _ => true
  | .ptpSet => true
  | .ptpAdj _ => true
  | .triggerArm t _ => t < 2
  | .triggerFire t => t < 2
  | .captureEdge c _ _ => c < 2
  | .txtsPop n => n < 2
  | .capPop c => c < 2
  | .ptpNsRead => true
  | .mdioCmd _ => true
  | .mdioDone _ => true
  | .audioMonitorEdge n _ _ => n < 4
  | .audioMonitorStop n _ => n < 4
  | .audioRateMeasure n _ => n < 4
  | .audioBlockRx n _ => n < 4
  | .audioOutputBlock n _ => n < 4
  | .audioDelayRecompute n => n < 4
  | .audioUnderrun n _ => n < 4
  | .audioTsPop n => n < 4
  | .audioCsInRead n => n < 4
  | .dieSensorSample d _ _ => isDie d
  | .throttleStepDown d => isDie d
  | .moduleSensorSample j _ => j < 16
  | .thermalTrip d _ _ => isDie d
  | .thClr _ => true
  | .thLimitWrite reg _ => reg < 2
  | .crcStart u => u < 4
  | .crcData u size _ => u < 4 && size < 3
  | .crcConfigWrite u off _ => u < 4 && (off % 4 == 0 && off < 0x100)
  | .crcResultComplete u => u < 4
  | .crcStateRead u => u < 4
  | .crcResultInfoRead u => u < 4
  | .installFw _ _ => true
  | .installTile _ => true
  | .installRemould _ _ => true
  | .fwArm => true
  | .armRevert => true
  | .fwCancel => true
  | .confirm _ => true
  | .fwActivateCheck => true
  | .confirmWindowExpiry => true
  | .fwBegin ⟨p, w⟩ src seq dest _ _ _ _ _ _ => isPort p && byteSized src && byteSized seq && byteSized dest && endOk w
  | .fwData ⟨p, w⟩ src seq dest _ bytes => isPort p && byteSized src && byteSized seq && byteSized dest && (bytes.length ≤ 240 && allBytes bytes) && endOk w
  | .fwEnd ⟨p, w⟩ src seq dest _ => isPort p && byteSized src && byteSized seq && byteSized dest && endOk w
  | .fwVerifyDone _ _ => true
  | .fwFlashWriteDone _ => true
  | .fwActivate ⟨p, w⟩ src seq _ _ _ _ _ => isPort p && byteSized src && byteSized seq && endOk w
  | .fwConfirm ⟨p, w⟩ src seq _ => isPort p && byteSized src && byteSized seq && endOk w
  | .fwAbort ⟨p, w⟩ src seq dest => isPort p && byteSized src && byteSized seq && byteSized dest && endOk w
  | .fwState ⟨p, w⟩ addr payload => isPort p && addr ≤ 32 && (payload.length == 24 && allBytes payload) && endOk w
  | .distStart p _ => isPort p
  | .distAbort p _ => isPort p
  | .setStore => true
  | .setDelete => true
  | .setClear => true
  | .enroll slot => slot < 4
  | .revoke slot => slot < 4
  | .lockDebug => true
  | .unlock slot => slot < 4
  | .relock => true
  | .logEvent => true
  | .elogSelWrite _ => true
  | .elogDataRead => true
  | .clrRing => true
  | .clrFatal => true
  | .watchdogKick => true
  | .watchdogWarn => true
  | .watchdogRestart => true
  | .vs _ codes _ => codes.all (· < 1024)
  | .ls _ codes => codes.all (· < 1024)
  | .k24Write _ codes => codes.all (· < 1024)
  | .k24Read _ codes => codes.all (· < 1024)
  | .k24Block _ codes => codes.all (· < 1024)
  | .rsp ⟨_, codes⟩ => codes.all (· < 1024)
  | .vsHoldExpiry => true
  | .vsMissing => true
  | .k24GamDataAccess _ => true
  | .k24GainDataAccess _ => true
  | .k24ErrPop => true
  | .k24Save _ => true
  | .updBegin => true
  | .updData byte => byteSized byte
  | .updEnd => true
  | .updApply => true
  | .updConfirm => true
  | .updAbort => true
  | .irqCause c => c < 37
  | .msixSend v => v < 32
  | .irqAck _ => true
  | .irqConfigWrite addr _ => isOffset addr
  | .uidRead => true
  | .extest _ _ => true
  | .idcode => true
  | .samplePreload _ _ => true
  | .elogSel _ => true
  | .elogData => true
  | .dbgAccess addr _ => isOffset addr
  | .bypass _ => true
  | .railFault _ => true
  | .railsGood => true
  | .safeDarkPinRelease => true
  | .legacyLaneLock lane => isLane lane
  | .legacyLaneLockLost lane => isLane lane
  | .fwArmPartnerTimeout => true
  | .chainRefMarkerRx p _ _ => isPort p
  | .msixUnmask _ _ _ _ _ => true
  | .idleTimerExpiry c _ => isChannel c
  | .dramClassPromotion c _ => isChannel c
  | .calAdaptationSettled g _ => isGroup g
  | .installDone _ => true
  | .remouldVerifyDone => true
  | .secCmdDone => true
  | .setCmdDone _ => true
  | .tableCmdDone _ => true
  | .ingFmtRead v e => v < 4 && e < 2
  | .errLastRead c => isChannel c
  | .ocrcInfoRead q => q < 16
  | .secChalRead => true
  | .updApplyTimeout => true
  | .updVerifyDone _ _ => true
  | .updWriteDone _ => true

end Sys2Proof
end

