-- ==== Sys2Proof/Certificates/Slice0/Obligations.lean ====
section
/-!
DEFINITION. The statements for the provers. Those over commands hold for every state and every operand that meet the clauses' hypotheses;
each clause says that the command answers a next state and what that state holds, with the frame of all it leaves alone.
-/

open Sys2Proof Sys2Proof.Machine

/-- The training states. `trainSet` is the set of R76, symbol by symbol; an event's `sets` are those received on each lane, newest first. Which lane's LOCKED field a receiver takes is the model's choice (log entry 90). -/
def Obligations.TrainingStates : Prop :=
  (∀ (s : State) (lane : Nat) (on : Bool),
     s.acts →
     lane < 112 →
     ∃ t, exec (.signalDetectChange lane on) s = .next t ∧ (t.on (F.HP_LANE_STATE_SIGDET lane) = (if s.get (F.HP_LANE_STATE_RXS lane) = lnRest ∨ s.get (F.HP_LANE_STATE_RXS lane) = lnRetired then s.on (F.HP_LANE_STATE_SIGDET lane) else on)) ∧ Sent [] t ∧ Frame ([(F.HP_LANE_STATE_SIGDET lane)]) s (s) t) ∧
  (∀ (s : State) (p : Nat),
     s.acts →
     s.hasPort p = true →
     s.train p = trDetect →
     s.energy p = true →
     s.waitsOut p = false →
     ∃ t, exec (.trainDetectExit p) s = .next t ∧ t.train p = trComma ∧ t.get (F.CH_TRAIN_COUNT_ATTEMPTS p) = s.more (F.CH_TRAIN_COUNT_ATTEMPTS p) ∧ (Sent ((List.range 5).map fun i => .training p i (s.trainSet p tsA i) (s.txInv (chainLane p i))) t) ∧ Frame ([(F.CH_TRAIN_STATE_STATE p), (F.CH_TRAIN_COUNT_ATTEMPTS p)]) s (s.setPort p fun x => { x with txIdle := false }) t) ∧
  (∀ (s : State) (p : Nat) (sets : List (List (List Nat))),
     let locked := lanesWith (s.readSets p sets) (setRun 8 tsA)
     s.acts →
     s.hasPort p = true →
     s.train p = trComma →
     locked ≠ 0 →
     ∃ t, exec (.trainCommaDone p sets) s = .next t ∧ t.train p = trAnnounce ∧ (Sent ((List.range 5).map fun i => .training p i ((s.setPort p fun x => { x with locked := locked }).trainSet p tsA i) (s.txInv (chainLane p i))) t) ∧ (∀ i ∈ List.range 5, t.on (F.HP_LANE_STATE_CDR_LOCK (chainLane p i)) = locked.testBit i) ∧ Frame (F.CH_TRAIN_STATE_STATE p :: (List.range 5).map (fun i => F.HP_LANE_STATE_CDR_LOCK (chainLane p i))) s (s.setPort p fun x => { x with locked := locked, txIdle := false }) t) ∧
  (∀ (s : State) (p held : Nat) (sets : List (List (List Nat))),
     let rx := s.readSets p sets
     let locked := ((s.port p).locked ||| lanesWith rx (setRun 8 tsA)) &&& held
     let v := decodeSet ((rx.getD ((bitsOf 5 locked).headD 0) []).headD [])
     s.acts →
     s.hasPort p = true →
     s.train p = trAnnounce →
     locked ≠ 0 →
     ((bitsOf 5 locked).all (fun i => setRunSame 16 tsA (rx.getD i [])) = true) →
     s.noMouldTile = false →
     v.rate = (s.port p).rate ∧ v.lanes = (s.port p).lanes →
     ∃ t, exec (.trainAnnounceDone p held sets) s = .next t ∧ t.train p = trConfirm ∧ (t.get (F.CH_TRAIN_STATE_ID_DIFF p) = (if v.wallId ≠ s.get F.RD_MOULD_ID_WALL_ID ∨ v.mouldSeq ≠ s.get F.RD_MOULD_INFO_MOULD_SEQ then 1 else 0)) ∧ (Sent ((List.range 5).map fun i => .training p i ((s.setPort p fun x => { x with locked := locked }).trainSet p tsB i) (s.txInv (chainLane p i))) t) ∧ Frame ([F.CH_TRAIN_STATE_STATE p, F.CH_TRAIN_STATE_ID_DIFF p] ++ (List.range 5).map (fun i => F.HP_LANE_STATE_CDR_LOCK (chainLane p i))) s (s.setPort p fun x => { x with locked := locked, partner := some v, txIdle := false }) t) ∧
  (∀ (s : State) (p l : Nat) (sets : List (List (List Nat))),
     s.acts →
     s.hasPort p = true →
     s.train p = trConfirm →
     s.heardLocked p 8 (s.readSets p sets) = some l →
     ∃ t, exec (.trainConfirmDone p sets) s = .next t ∧ t.train p = trRate ∧ t.get (F.HP_GROUP_STATE_RATE p) = (s.port p).rate % 2 ^ (F.HP_GROUP_STATE_RATE p).width ∧ (Sent ((List.range 5).map fun i => .training p i (s.trainSet p tsB i) (s.txInv (chainLane p i))) t) ∧ (∀ i ∈ bitsOf 5 (s.port p).locked, (t.lane (chainLane p i)).before = none ∧ (t.lane (chainLane p i)).aim = none) ∧ Frame ([F.CH_TRAIN_STATE_STATE p, F.HP_GROUP_STATE_RATE p] ++ (List.range 5).map (fun i => whole (F.HP_LANE_RXEQ_CTLE (chainLane p i)).addr)) s ({ s.setPort p (fun x => { x with partnerLocked := l, txIdle := false }) with lanes := t.lanes }) t) ∧
  (∀ (s : State) (p l : Nat) (eq : List Word) (sets : List (List (List Nat))),
     s.acts →
     s.hasPort p = true →
     s.train p = trRate →
     s.heardLocked p 8 (s.readSets p sets) = some l →
     ∃ t, exec (.trainRateDone p ⟨eq, sets⟩) s = .next t ∧ t.train p = trDeskew ∧ t.get (F.CH_TRAIN_STATE_RATE p) = (s.port p).rate % 2 ^ (F.CH_TRAIN_STATE_RATE p).width ∧ (Sent (.deskew p :: (List.range 5).map fun i => .training p i (s.trainSet p tsB i) (s.txInv (chainLane p i))) t) ∧ (∀ i ∈ bitsOf 5 (s.port p).locked, (t.lane (chainLane p i)).before = none ∧ (t.lane (chainLane p i)).aim = none) ∧ Frame ([F.CH_TRAIN_STATE_STATE p, F.CH_TRAIN_STATE_RATE p] ++ (List.range 5).map (fun i => whole (F.HP_LANE_RXEQ_CTLE (chainLane p i)).addr)) s ({ s.setPort p (fun x => { x with txIdle := false }) with lanes := t.lanes }) t) ∧
  (∀ (s : State) (p skew : Nat) (sets : List (List (List Nat))),
     s.acts →
     s.hasPort p = true →
     s.train p = trDeskew →
     skew ≤ 32 →
     (setLocked p 31 s).heardLocked p 8 (s.readSets p sets) = some 31 →
     ∃ t, exec (.trainDeskewDone p ⟨31, skew⟩ sets) s = .next t ∧ t.train p = trHopmeas ∧ (t.get (F.CH_LANE_MAP_RX_ACTIVE p), t.get (F.CH_LANE_MAP_RX_SPARE p)) = (laneAssign 31 (s.port p).lanes (s.port p).spare).map (· % 32) (· % 32) ∧ (t.get (F.CH_LANE_MAP_TX_ACTIVE p), t.get (F.CH_LANE_MAP_TX_SPARE p)) = (laneAssign 31 (s.port p).lanes (s.port p).spare).map (· % 32) (· % 32) ∧ (t.port p).locked = 31 ∧ (t.port p).partnerLocked = 31 ∧ (Sent ((List.range 5).map fun i => .training p i ((s.setPort p fun x => { x with locked := 31 }).trainSet p tsB i) (s.txInv (chainLane p i))) t) ∧ t.dram = s.dram ∧ t.pram = s.pram ∧ t.nv = s.nv ∧ t.raster = s.raster) ∧
  (∀ (s : State) (p fwd : Nat) (d : Int),
     s.acts →
     p < 16 →
     s.isSender = true →
     s.train p = trHopmeas →
     ((s.port p).rtCount = 256 ∨ s.senderEnd = 2) →
     ∃ t, exec (.trainHopmeasDone p ⟨d, fwd⟩) s = .next t ∧ t.train p = trLinked ∧ t.get (F.CH_SEG_DELAY_VALID p) = 1 ∧ t.get (F.CH_SEG_DELAY_SEQ p) = s.wrap (F.CH_SEG_DELAY_SEQ p) ∧ (t.get (F.CH_SEG_DELAY_DELAY p) = ofInt 22 (if s.senderEnd = 2 then d else segDelay (s.port p).rtSum)) ∧ (Sent (if s.senderEnd = 2 then [] else [.segDelay p (segDelay (s.port p).rtSum)]) t) ∧ (t.port p).rtSum = 0 ∧ (t.port p).rtCount = 0 ∧ t.dram = s.dram ∧ t.pram = s.pram ∧ t.nv = s.nv ∧ t.raster = s.raster ∧ t.mould = s.mould)

/-- A state's limit, loss of energy and the end of WAIT: CAUSE takes the value R77 gives, FAILS counts, the port goes to WAIT, where it sends nothing, or to DETECT, where it sends TSA, and shows neither rate, map nor lock. A mismatch of rate or lane count in ANNOUNCE ends in WAIT with cause 3. -/
def Obligations.TrainingFails : Prop :=
  (∀ (s : State) (p : Nat),
     s.acts →
     s.hasPort p = true →
     trComma ≤ s.train p →
     s.train p ≤ trHopmeas →
     ∃ t, exec (.trainLimitExpiry p) s = .next t ∧ t.train p = trWait ∧ (t.get (F.CH_TRAIN_STATE_CAUSE p) = (if s.train p = trComma then 6 else if s.train p = trAnnounce ∨ s.train p = trConfirm then 2 else if s.train p = trDeskew then 5 else 4)) ∧ t.get (F.CH_TRAIN_COUNT_FAILS p) = s.more (F.CH_TRAIN_COUNT_FAILS p) ∧ t.get (F.CH_TRAIN_STATE_RATE p) = 0 ∧ t.get (F.CH_LANE_MAP_RX_ACTIVE p) = 0 ∧ t.get (F.CH_LANE_MAP_TX_ACTIVE p) = 0 ∧ (t.port p).txIdle = true ∧ Sent [] t ∧ t.dram = s.dram ∧ t.pram = s.pram ∧ t.nv = s.nv ∧ t.raster = s.raster ∧ t.mould = s.mould) ∧
  (∀ (s : State) (p : Nat),
     s.acts →
     s.hasPort p = true →
     trComma ≤ s.train p →
     s.train p ≤ trHopmeas →
     s.energy p = false →
     s.waitsOut p = false →
     ∃ t, exec (.trainEnergyLost p) s = .next t ∧ t.train p = trDetect ∧ t.get (F.CH_TRAIN_STATE_CAUSE p) = 2 ∧ t.get (F.CH_TRAIN_COUNT_FAILS p) = s.more (F.CH_TRAIN_COUNT_FAILS p) ∧ t.get (F.CH_TRAIN_STATE_RATE p) = 0 ∧ t.get (F.CH_LANE_MAP_RX_ACTIVE p) = 0 ∧ t.get (F.CH_LANE_MAP_TX_ACTIVE p) = 0 ∧ (Sent ((List.range 5).map fun i => .training p i (s.trainSet p tsA i) (s.txInv (chainLane p i))) t) ∧ t.dram = s.dram ∧ t.pram = s.pram ∧ t.nv = s.nv ∧ t.raster = s.raster ∧ t.mould = s.mould) ∧
  (∀ (s : State) (p : Nat),
     s.acts →
     s.hasPort p = true →
     s.train p = trWait →
     s.waitsOut p = false →
     ∃ t, exec (.trainWaitExpiry p) s = .next t ∧ t.train p = trDetect ∧ (Sent ((List.range 5).map fun i => .training p i (s.trainSet p tsA i) (s.txInv (chainLane p i))) t) ∧ Frame ([(F.CH_TRAIN_STATE_STATE p)]) s (s.setPort p fun x => { x with txIdle := false }) t) ∧
  (∀ (s : State) (p held : Nat) (sets : List (List (List Nat))),
     let rx := s.readSets p sets
     let locked := ((s.port p).locked ||| lanesWith rx (setRun 8 tsA)) &&& held
     let v := decodeSet ((rx.getD ((bitsOf 5 locked).headD 0) []).headD [])
     s.acts →
     s.hasPort p = true →
     s.train p = trAnnounce →
     locked ≠ 0 →
     ((bitsOf 5 locked).all (fun i => setRunSame 16 tsA (rx.getD i [])) = true) →
     s.noMouldTile = false →
     (v.rate ≠ (s.port p).rate ∨ v.lanes ≠ (s.port p).lanes) →
     ∃ t, exec (.trainAnnounceDone p held sets) s = .next t ∧ t.train p = trWait ∧ t.get (F.CH_TRAIN_STATE_CAUSE p) = 3 ∧ (t.get (F.CH_TRAIN_STATE_ID_DIFF p) = (if v.wallId ≠ s.get F.RD_MOULD_ID_WALL_ID ∨ v.mouldSeq ≠ s.get F.RD_MOULD_INFO_MOULD_SEQ then 1 else 0)) ∧ t.get (F.CH_TRAIN_COUNT_FAILS p) = s.more (F.CH_TRAIN_COUNT_FAILS p) ∧ (t.port p).partner = some v ∧ (t.port p).txIdle = true ∧ Sent [] t ∧ t.dram = s.dram ∧ t.pram = s.pram ∧ t.nv = s.nv ∧ t.raster = s.raster ∧ t.mould = s.mould)

/-- A sender port sends ENUM with hop 0 and delay 0 when one is due and repeats it; a sender port that receives one of origin A shows its delay in CH_REF_DELAY; a tile's first ENUM in the ring's direction gives its address, the delay of the direction and an ENUM one hop on; a silent OUT port of a single-sender chain is the end. A tile that meets R87 becomes READY. -/
def Obligations.Enumeration : Prop :=
  (∀ (s : State) (p : Nat),
     s.acts →
     s.hasPort p = true →
     s.isSender = true →
     s.linked p = true →
     ∃ t, exec (.enumSend p) s = .next t ∧ Sent [.ctrl p (enumPkt (endCode s.senderEnd) s.senderEnd 0 (s.chainTiles p).length (s.get F.RD_MOULD_ID_WALL_ID) (s.get F.RD_MOULD_INFO_MOULD_SEQ) 0)] t ∧ Frame ([]) s (s.setPort p fun x => { x with enumStarted := true }) t) ∧
  (∀ (s : State) (p : Nat),
     s.acts →
     s.hasPort p = true →
     s.isSender = true →
     s.linked p = true →
     (s.port p).enumStarted = true →
     ∃ t, exec (.enumRepeat p) s = .next t ∧ Sent [.ctrl p (enumPkt (endCode s.senderEnd) s.senderEnd 0 (s.chainTiles p).length (s.get F.RD_MOULD_ID_WALL_ID) (s.get F.RD_MOULD_INFO_MOULD_SEQ) 0)] t ∧ Frame ([]) s (s.setPort p fun x => { x with enumStarted := true }) t) ∧
  (∀ (s : State) (p hop n wallId mouldSeq cum : Nat) (aOld : Bool) (w : PktEnd),
     s.acts →
     s.hasPort p = true →
     s.isSender = true →
     w.good (rxHead w (enumPkt 0 1 hop n wallId mouldSeq cum)) →
     ∃ t, exec (.enum ⟨p, w⟩ 1 hop n wallId mouldSeq cum aOld) s = .next t ∧ t.get (F.CH_REF_DELAY_DELAY p) = cum % 2 ^ (F.CH_REF_DELAY_DELAY p).width ∧ Sent [] t ∧ Frame ([(F.CH_REF_DELAY_DELAY p)]) s (s) t) ∧
  (∀ (s : State) (hop n wallId mouldSeq cum : Nat) (aOld : Bool) (w : PktEnd),
     s.acts →
     s.isTile = true →
     s.enum.newestA = none →
     s.enum.newestB = none →
     n ≤ 32 →
     hop < n →
     w.good (rxHead w (enumPkt 0 1 hop n wallId mouldSeq cum)) →
     ∃ t, exec (.enum ⟨0, w⟩ 1 hop n wallId mouldSeq cum aOld) s = .next t ∧ t.addr = hop + 1 ∧ t.get (F.CH_ENUM_EXCESS 0) = 0 ∧ t.get (F.CH_ENUM_REVERSED 0) = 0 ∧ t.get (F.CH_ENUM_FROM_A 0) = 1 ∧ t.get (F.CH_ENUM_VALID 0) = 1 ∧ (t.get (F.CH_ENUM_MISMATCH 0) = (if wallId ≠ s.get F.RD_MOULD_ID_WALL_ID ∨ mouldSeq ≠ s.get F.RD_MOULD_INFO_MOULD_SEQ then 1 else 0)) ∧ t.get (F.CH_CUM_DELAY_A_DELAY 0) = (cum + s.get (F.CH_SEG_DELAY_DELAY 0)) % 2 ^ (F.CH_CUM_DELAY_A_DELAY 0).width ∧ (Sent (if s.linked 1 then [.ctrl 1 (rxHead w (enumPkt 0 1 (hop + 1) n wallId mouldSeq (cum + s.get (F.CH_SEG_DELAY_DELAY 0) + s.enum.fwd)))] else []) t) ∧ t.dram = s.dram ∧ t.nv = s.nv ∧ t.raster = s.raster ∧ t.ports = s.ports) ∧
  (∀ (s : State),
     s.acts →
     s.tileLike = true →
     s.linked 0 = true →
     s.train 1 = trDetect →
     s.enum.origin = 3 →
     ∃ t, exec (.endDetect) s = .next t ∧ t.get (F.CH_TRAIN_STATE_END 1) = 1 ∧ t.get (F.HP_GROUP_STATE_REF 0) = 1 ∧ Sent [] t ∧ Frame ([F.CH_TRAIN_STATE_END 1, F.HP_GROUP_STATE_REF 0]) s ({ s with enum := { s.enum with outSilent := true } }) t) ∧
  (∀ (s : State),
     s.acts →
     s.tileRx.ready = false →
     s.mayBeReady = true →
     s.get (F.CH_RASTER_STATE_STATE 0) = 2 →
     ∃ t, exec (.tileReady) s = .next t ∧ (t.get F.RD_BOOT_STATUS_TILE_STATE = (if s.isSender then 0 else if s.tileRx.showing then 6 else 5)) ∧ t.tileRx.ready = true ∧ t.dram = s.dram ∧ t.nv = s.nv ∧ t.raster = s.raster ∧ t.ports = s.ports) ∧
  (∀ (s : State),
     s.acts →
     s.isTile = true →
     s.tileRx.caveDone = false →
     ∃ t, exec (.caveLoadDone [] true) s = .next t ∧ t.tileRx.caveDone = true ∧ t.tp.lampMap = s.cave.lampMap ∧ t.tp.status = s.cave.status ∧ t.dram = s.dram ∧ t.nv = s.nv ∧ t.raster = s.raster ∧ t.ports = s.ports)

/-- A tick that does not reach the end of the frame adds STEP_N to acc and the whole STEP_D in it to rpos; a tick that reaches it wraps, numbers the next frame modulo 2^32 and marks the boundary. A frame start takes the boundary: outside any geometry change, FNUM load or restart a free-running sender then stands in the next frame with its cut still to come. Nothing but the raster record changes at a tick. -/
def Obligations.RasterClock : Prop :=
  (∀ (s : State),
     s.acts →
     s.raster.running = true →
     s.isK24 = false →
     s.noSwapWaits →
     (∀ c, c < 8 → (s.dramCh c).owed = 0) →
     0 ≤ s.raster.adj →
     s.raster.rpos + (s.raster.acc + s.raster.stepN) / s.raster.stepD < s.raster.total →
     ∃ t, exec (.rasterTick) s = .next t ∧ t.raster.rpos = s.raster.rpos + (s.raster.acc + s.raster.stepN) / s.raster.stepD ∧ t.raster.acc = (s.raster.acc + s.raster.stepN) % s.raster.stepD ∧ t.raster.fnum = s.raster.fnum ∧ t.raster.boundary = s.raster.boundary ∧ t.raster.ticks = s.raster.ticks + 1 ∧ Sent [] t ∧ Frame ([]) s ({ s with raster := t.raster }) t) ∧
  (∀ (s : State),
     s.acts →
     s.raster.running = true →
     s.isK24 = false →
     s.noSwapWaits →
     (∀ c, c < 8 → (s.dramCh c).owed = 0) →
     s.raster.adj = 0 →
     s.raster.total ≤ s.raster.rpos + (s.raster.acc + s.raster.stepN) / s.raster.stepD →
     ∃ t, exec (.rasterTick) s = .next t ∧ t.raster.rpos = s.raster.rpos + (s.raster.acc + s.raster.stepN) / s.raster.stepD - s.raster.total ∧ t.raster.acc = (s.raster.acc + s.raster.stepN) % s.raster.stepD ∧ t.raster.fnum = (s.raster.fnum + 1) % 2 ^ 32 ∧ t.raster.boundary = true ∧ Sent [] t ∧ Frame ([]) s ({ s with raster := t.raster }) t) ∧
  (∀ (s : State),
     s.acts →
     s.raster.running = true →
     s.isSender = true →
     s.refSel = 0 →
     s.wtg.sched = none →
     s.activationDue = none →
     s.switchDue = none →
     s.commit.fnumLoad = false ∧ s.commit.fnumLoadTaken = false →
     s.sys.starting = false →
     ∃ t, exec (.frameStart) s = .next t ∧ (t.raster.fnum = (if s.raster.boundary then s.raster.fnum else (s.raster.fnum + 1) % 2 ^ 32)) ∧ t.raster.boundary = false ∧ t.raster.cutDone = false ∧ t.raster.ltotal = s.raster.ltotal ∧ t.raster.num = s.raster.num ∧ t.raster.den = s.raster.den ∧ (t.dram = s.dram ∧ t.pram = s.pram ∧ t.nv = { s.nv with window := t.nv.window } ∧ (s.inTrial = false → t.nv = s.nv)))

/-- An edge that GL_EDGE does not select does nothing; the edge it selects shows its period, and one of an agreeing period reports the error of the nearest marked frame with the offset added to the reference. A stopped genlock, or a lost chain reference, sets REF_LOST with cause 0 and enters HOLDOVER. A chain-reference marker gives the sender the marker's frame number and geometry. At the start of frame S - 8 a pending geometry in range is accepted, one out of the ranges of R99 is refused. -/
def Obligations.WallTimingGenerator : Prop :=
  (∀ (s : State) (rising : Bool) (period frame : Nat) (phase : Int),
     s.acts →
     s.isSender = true →
     s.refSel = 1 →
     rising = !s.on F.RD_WTG_CTRL_GL_EDGE →
     s.wtg.restart = true →
     ∃ t, exec (.genlockEdge ⟨rising, period⟩ ⟨frame, phase⟩) s = .next t ∧ t.get F.RD_WTG_REF_PERIOD_PERIOD = period % 2 ^ F.RD_WTG_REF_PERIOD_PERIOD.width ∧ t.wtg.restart = false ∧ t.raster = s.raster ∧ t.dram = s.dram ∧ t.nv = s.nv ∧ t.ports = s.ports) ∧
  (∀ (s : State) (rising : Bool) (period frame : Nat) (phase : Int),
     s.acts →
     rising = s.on F.RD_WTG_CTRL_GL_EDGE →
     ∃ t, exec (.genlockEdge ⟨rising, period⟩ ⟨frame, phase⟩) s = .next t ∧ Sent [] t ∧ Frame ([]) s (s) t) ∧
  (∀ (s : State) (rising : Bool) (period frame : Nat) (phase : Int),
     let w := { s.wtg with marked := if s.get F.RD_WTG_STATUS_STATE = wtgHoldover ∧ s.on F.RD_WTG_CTRL_REF_HOLD = false ∧ 15 ≤ s.wtg.restored ∧ s.wtg.rateWait = false then none else s.wtg.marked }
     s.acts →
     s.isSender = true →
     s.refSel = 1 →
     rising = !s.on F.RD_WTG_CTRL_GL_EDGE →
     s.wtg.restart = false →
     (((period * s.raster.num : Nat) : Int) - ((s.get F.RD_WTG_CTRL_GL_DIV + 1) * s.raster.periodQ : Nat)).natAbs * 8 ≤ (s.get F.RD_WTG_CTRL_GL_DIV + 1) * s.raster.periodQ →
     ∃ t, exec (.genlockEdge ⟨rising, period⟩ ⟨frame, phase⟩) s = .next t ∧ t.get F.RD_WTG_PHASE_ERR_VALID = 1 ∧ t.get F.RD_WTG_PHASE_ERR_SEQ = s.wrap F.RD_WTG_PHASE_ERR_SEQ ∧ t.get F.RD_WTG_PHASE_ERR_ERR = ofInt F.RD_WTG_PHASE_ERR_ERR.width (satInt F.RD_WTG_PHASE_ERR_ERR.width (({ s with wtg := w }).edgeError frame phase - s.refOffsetQ)) ∧ t.raster = s.raster ∧ t.dram = s.dram ∧ t.nv = s.nv ∧ t.ports = s.ports) ∧
  (∀ (s : State),
     s.acts →
     s.isSender = true →
     s.refSel = 1 →
     ∃ t, exec (.genlockStop) s = .next t ∧ t.get F.RD_WTG_STATUS_STATE = wtgHoldover ∧ t.on F.RD_WTG_STATUS_REF_LOST = true ∧ (s.on F.RD_WTG_STATUS_REF_LOST = true ∨ t.pendingCause 0 = true) ∧ t.wtg.restart = true ∧ Sent [] t ∧ Frame ([F.RD_WTG_STATUS_STATE, F.RD_WTG_STATUS_REF_LOST, F.RD_WTG_STEER_STEER] ++ pendFlds) s ({ s with wtg := t.wtg }) t) ∧
  (∀ (s : State),
     s.acts →
     s.isSender = true →
     s.refSel = 3 →
     ∃ t, exec (.chainRefMarkerLoss) s = .next t ∧ t.get F.RD_WTG_STATUS_STATE = wtgHoldover ∧ t.on F.RD_WTG_STATUS_REF_LOST = true ∧ (s.on F.RD_WTG_STATUS_REF_LOST = true ∨ t.pendingCause 0 = true) ∧ Sent [] t ∧ Frame ([F.RD_WTG_STATUS_STATE, F.RD_WTG_STATUS_REF_LOST, F.RD_WTG_STEER_STEER] ++ pendFlds) s ({ s with wtg := t.wtg }) t) ∧
  (∀ (s : State) (p : Nat) (lag : Int) (pkt : RasterPkt),
     s.acts →
     s.hasPort p = true →
     s.isSender = true →
     s.refSel = 3 →
     p = s.get F.RD_WTG_CTRL_CHAIN_REF_PORT →
     ∃ t, exec (.chainRefMarkerRx p lag pkt) s = .next t ∧ t.raster.fnum = pkt.fnum % 2 ^ 32 ∧ t.raster.ltotal = pkt.ltotal ∧ t.raster.num = pkt.num ∧ t.raster.den = pkt.den ∧ t.wtg.seen = true ∧ t.wtg.missed = 0 ∧ t.dram = s.dram ∧ t.nv = s.nv ∧ t.ports = s.ports) ∧
  (∀ (s : State),
     s.acts →
     s.isSender = true →
     s.geometryPending = true →
     s.wtg.schedRefused = false →
     s.wtg.sched = none →
     ahead (s.get F.RD_WTG_SCHED_FNUM_S) s.raster.fnum = 8 →
     geometryOk s.pendGeometry.1 s.pendGeometry.2.1 s.pendGeometry.2.2 = true →
     rateAbove s.pendGeometry.2.1 s.pendGeometry.2.2 (s.get F.RD_MOULD_FRATE_MAX_FRATE_MAX) = false →
     ∃ t, exec (.schedJudge) s = .next t ∧ t.wtg.sched = some (s.get F.RD_WTG_SCHED_FNUM_S, s.pendGeometry) ∧ Sent [] t ∧ Frame ([]) s ({ s with wtg := t.wtg }) t) ∧
  (∀ (s : State),
     let fast : Bool := s.pendGeometry.2.2 != 0 && rateAbove s.pendGeometry.2.1 s.pendGeometry.2.2 (s.get F.RD_MOULD_FRATE_MAX_FRATE_MAX)
     s.acts →
     s.isSender = true →
     s.geometryPending = true →
     s.wtg.schedRefused = false →
     s.wtg.sched = none →
     ahead (s.get F.RD_WTG_SCHED_FNUM_S) s.raster.fnum = 8 →
     (geometryOk s.pendGeometry.1 s.pendGeometry.2.1 s.pendGeometry.2.2 = false ∨ fast = true) →
     ∃ t, exec (.schedJudge) s = .next t ∧ (t.get F.RD_WTG_STATUS_SCHED_REFUSED = 1 ∧ t.get F.RD_MOULD_STATUS_MOULD_LIMIT = (if fast then 1 else s.get F.RD_MOULD_STATUS_MOULD_LIMIT)) ∧ t.wtg.sched = none ∧ t.wtg.schedRefused = true ∧ t.pend = s.pend ∧ Sent [] t ∧ Frame ([F.RD_WTG_STATUS_SCHED_REFUSED, F.RD_MOULD_STATUS_MOULD_LIMIT]) s ({ s with wtg := t.wtg }) t)

/-- A cut without HOLD and without a group takes every pending COMMIT value and leaves the SCHED ones pending; with HOLD set and no group it takes nothing. HOLD is written in RD_COMMIT_CTRL. A GO under HOLD waits with its arrival, one while a group waits sets GO_IGN, and its acceptance clears HOLD and forms the group with the late and stale judgement of its arrival, or answers FAR beyond 256 frames. The cut comes where the frame is CUT_LINES, or 20 us, from its end. -/
def Obligations.CommitGroups : Prop :=
  (∀ (s : State),
     s.acts →
     s.noSwapWaits →
     s.raster.running = true →
     s.raster.cutDone = false →
     s.commit.group = none →
     s.on F.RD_COMMIT_CTRL_HOLD = false →
     ∃ t, exec (.commitCut) s = .next t ∧ t.raster = { s.raster.reach (cutPos s) with cutDone := true } ∧ (t.taken = (takePending s).taken ∧ t.pend = s.pend.filter (fun e => commitBitsAt e.1 == 0)) ∧ Sent [] t ∧ Frame ([]) s ({ s with raster := t.raster, taken := t.taken, pend := t.pend, commit := t.commit }) t) ∧
  (∀ (s : State),
     s.acts →
     s.noSwapWaits →
     s.raster.running = true →
     s.raster.cutDone = false →
     s.commit.group = none →
     s.on F.RD_COMMIT_CTRL_HOLD = true →
     ∃ t, exec (.commitCut) s = .next t ∧ Sent [] t ∧ Frame ([]) s ({ s with raster := { s.raster.reach (cutPos s) with cutDone := true } }) t) ∧
  (∀ (s : State) (val : Word),
     s.rindActs →
     s.wordOk 0x230 val = true →
     ∃ t, exec (.commitHoldWrite val) s = .next t ∧ (t.get F.RD_COMMIT_CTRL_HOLD = (if val.getLsbD 0 then 1 else 0)) ∧ Sent [] t ∧ Frame ([F.RD_COMMIT_CTRL_HOLD]) s (s) t) ∧
  (∀ (s : State) (T : Word),
     s.rindActs →
     s.commit.group = none →
     s.commit.go = none →
     s.on F.RD_COMMIT_CTRL_HOLD = true →
     ∃ t, exec (.commitGo T) s = .next t ∧ t.commit.go = some (T.toNat, s.raster.fnum, s.raster.cutDone) ∧ Sent [] t ∧ Frame ([]) s ({ s with commit := t.commit }) t) ∧
  (∀ (s : State) (T : Word),
     s.rindActs →
     s.commit.group.isSome = true →
     ∃ t, exec (.commitGo T) s = .next t ∧ t.get F.RD_COMMIT_STATUS_GO_IGN = 1 ∧ Sent [] t ∧ Frame ([F.RD_COMMIT_STATUS_GO_IGN]) s (s) t) ∧
  (∀ (s : State) (T now : Nat) (cut : Bool),
     s.acts →
     s.commit.go = some (T, now, cut) →
     ahead T now ≤ 256 →
     s.raster.cutDone = cut →
     ∃ t, exec (.commitGoAccept) s = .next t ∧ t.get F.RD_COMMIT_CTRL_HOLD = 0 ∧ t.commit.group = some (T, cutPassed (T + 2 ^ 32 - 1) now cut, cutPassed T now cut) ∧ t.commit.go = none ∧ Sent [] t ∧ Frame ([F.RD_COMMIT_CTRL_HOLD]) s ({ s with commit := t.commit }) t) ∧
  (∀ (s : State) (T now : Nat) (cut : Bool),
     s.acts →
     s.commit.go = some (T, now, cut) →
     256 < ahead T now →
     ∃ t, exec (.commitGoAccept) s = .next t ∧ t.get F.RD_COMMIT_RESULT_FAR = 1 ∧ t.get F.RD_COMMIT_RESULT_VALID = 1 ∧ t.get F.RD_COMMIT_RESULT_LATE = 0 ∧ t.get F.RD_COMMIT_RESULT_STALE = 0 ∧ t.get F.RD_COMMIT_RESULT_SEQ = s.wrap F.RD_COMMIT_RESULT_SEQ ∧ t.commit.group = s.commit.group ∧ t.commit.go = none ∧ Sent [] t ∧ Frame ([F.RD_COMMIT_RESULT_FAR, F.RD_COMMIT_RESULT_LATE, F.RD_COMMIT_RESULT_STALE, F.RD_COMMIT_RESULT_VALID, F.RD_COMMIT_RESULT_SEQ]) s ({ s with commit := t.commit }) t)

/-- The first marker of a raster that is not running puts the tile's raster in ACQUIRE in the marker's direction with the marker's frame and geometry and relays it; a missing one of the active direction sets MISSED, and the third in a row puts a locked raster in HOLDOVER. The drift term moves by at most 20 ps toward the mean of the round trips. Delay markers, their answers and SKP sets go out, and a RASTER packet is kept for its marker and sent on with CUM_ADJ in use. -/
def Obligations.TileRaster : Prop :=
  (∀ (s : State) (dirB : Bool) (lag : Int) (pkt : RasterPkt),
     s.acts →
     s.tileLike = true →
     s.dirUsable dirB = true →
     s.get (F.CH_RASTER_STATE_STATE 0) = 0 →
     ∃ t, exec (.tileMarkerRx dirB lag pkt) s = .next t ∧ t.get (F.CH_RASTER_STATE_STATE 0) = 1 ∧ (t.get (F.CH_RASTER_STATE_DIR 0) = (if dirB then 1 else 0)) ∧ t.raster.running = true ∧ t.raster.fnum = pkt.fnum % 2 ^ 32 ∧ t.raster.ltotal = pkt.ltotal ∧ t.raster.num = pkt.num ∧ t.raster.den = pkt.den ∧ (Sent (if s.linked (txPort dirB) then [.marker (txPort dirB)] else []) t) ∧ t.dram = s.dram ∧ t.nv = s.nv ∧ t.ports = s.ports ∧ t.tp = s.tp) ∧
  (∀ (s : State) (dirB came : Bool),
     s.acts →
     s.tileLike = true →
     s.dirUsable dirB = true →
     dirB = s.activeB →
     s.tileRas.missed = 2 →
     s.get (F.CH_RASTER_STATE_STATE 0) = 2 →
     ∃ t, exec (.tileMarkerMissing ⟨dirB, came⟩) s = .next t ∧ t.get (F.CH_RASTER_STATE_STATE 0) = 3 ∧ t.get (F.CH_RASTER_STATE_MISSED 0) = 1 ∧ t.tileRas.missed = 3 ∧ (Sent (if came ∧ s.linked (txPort dirB) then [.marker (txPort dirB)] else []) t) ∧ t.raster = s.raster ∧ t.dram = s.dram ∧ t.nv = s.nv ∧ t.ports = s.ports) ∧
  (∀ (s : State) (p : Nat) (mean : Option Int) (fwdMeas : Int),
     s.acts →
     s.hasPort p = true →
     s.isSender = true →
     s.measures p = true →
     (s.port p).rtCount ≠ 0 →
     ∃ t, exec (.trackUpdate p ⟨mean, fwdMeas⟩) s = .next t ∧ (t.port p).drift = toward (s.port p).drift ((s.port p).rtSum / (2 * ((s.port p).rtCount : Int)) - (s.get (F.CH_SEG_DELAY_DELAY p) : Int)) 20 ∧ (t.port p).rtSum = 0 ∧ (t.port p).rtCount = 0 ∧ Sent [.segDelay p ((s.port p).rtSum / (2 * ((s.port p).rtCount : Int)))] t ∧ Frame ([]) s ({ s with ports := t.ports }) t) ∧
  (∀ (s : State) (p : Nat) (mean fwdMeas : Int),
     s.acts →
     s.hasPort p = true →
     s.measures p = false →
     ∃ t, exec (.trackUpdate p ⟨some mean, fwdMeas⟩) s = .next t ∧ (t.port p).drift = toward (s.port p).drift (mean - (s.get (F.CH_SEG_DELAY_DELAY p) : Int)) 20 ∧ (t.tileRas = (if s.tileLike then { s.tileRas with fwdDrift := fwdMeas } else s.tileRas)) ∧ Sent [] t ∧ Frame ([]) s ({ s with ports := t.ports, tileRas := t.tileRas }) t) ∧
  (∀ (s : State) (p : Nat) (own : Bool) (num turn : Nat),
     s.acts →
     s.hasPort p = true →
     s.linked p = true →
     own = s.measures p →
     ∃ t, exec (.delayMarkerRoundTrip p own num turn) s = .next t ∧ (Sent (if own then [.dmk p] else [.dmk p, .ctrl p (delayRspPkt s.ownCode num turn)]) t) ∧ Frame ([]) s (s) t) ∧
  (∀ (s : State) (p : Nat),
     s.acts →
     s.hasPort p = true →
     s.linked p = true →
     s.isSender = true →
     (s.cal p).txDrop = none →
     ∃ t, exec (.skpSend p) s = .next t ∧ Sent [.skp p] t ∧ Frame ([]) s (s) t) ∧
  (∀ (s : State) (p num turn : Nat) (elapsed : Int) (w : PktEnd),
     s.acts →
     s.hasPort p = true →
     s.linked p = true →
     s.measures p = true →
     w.good (rxHead w (delayRspPkt 0 num turn)) →
     ∃ t, exec (.delayRsp ⟨p, w⟩ num turn elapsed) s = .next t ∧ (t.port p).rtSum = (s.port p).rtSum + (elapsed - turn) ∧ (t.port p).rtCount = (s.port p).rtCount + 1 ∧ Sent [] t ∧ Frame ([]) s ({ s with ports := t.ports }) t) ∧
  (∀ (s : State) (p : Nat) (pkt : RasterPkt) (w : PktEnd),
     s.acts →
     p < 2 →
     s.tileLike = true →
     s.linked (txPort (p == 1)) = true →
     w.good (rxHead w (rasterPkt 0 pkt)) →
     ∃ t, exec (.raster ⟨p, w⟩ pkt) s = .next t ∧ ((if p = 1 then t.tileRas.rasterB else t.tileRas.rasterA) = some pkt) ∧ Sent [.ctrl (txPort (p == 1)) { rxHead w (rasterPkt 0 pkt) with data := rasterBytes { pkt with cumAdj := cumAdjUsed (p == 1) pkt s + s.tileRas.fwdDrift } }] t ∧ Frame ([]) s ({ s with tileRas := t.tileRas, tileRx := t.tileRx, wtg := t.wtg, raster := t.raster }) t)

/-- A tile group that loses its recovered clock goes to LREFCLK0 and shows REF_SWITCHED, and goes back; loss of CDR lock clears CDR_LOCK, shows CDR_LOST and ends a host eye scan with NOLOCK; a ramp step moves the transmit settings in force one code toward their target, PRE first; a write of HP_LANE_TX is in force at once in a half that is not ramped; manual receiver settings are refused while the lane trains or carries traffic and take effect in TEST and STANDBY. -/
def Obligations.LaneControl : Prop :=
  (∀ (s : State) (g : Nat),
     s.acts →
     g < 2 →
     s.tileLike = true →
     s.on (F.HP_GROUP_STATE_REF g) = true →
     ∃ t, exec (.refSwitch g) s = .next t ∧ t.get (F.HP_GROUP_STATE_REF g) = 0 ∧ t.get (F.HP_GROUP_STATE_REF_SWITCHED g) = 1 ∧ Sent [] t ∧ Frame ([F.HP_GROUP_STATE_REF g, F.HP_GROUP_STATE_REF_SWITCHED g]) s (s) t) ∧
  (∀ (s : State) (g : Nat),
     s.acts →
     g < 2 →
     s.tileLike = true →
     ∃ t, exec (.refSwitchBack g) s = .next t ∧ t.get (F.HP_GROUP_STATE_REF g) = 1 ∧ Sent [] t ∧ Frame ([F.HP_GROUP_STATE_REF g]) s (s) t) ∧
  (∀ (s : State) (lane : Nat),
     s.acts →
     lane < 112 →
     (s.cal (laneGroup lane).1).step = none →
     ∃ t, exec (.cdrLockLoss lane) s = .next t ∧ t.get (F.HP_LANE_STATE_CDR_LOCK lane) = 0 ∧ t.get (F.HP_LANE_STATE_CDR_LOST lane) = 1 ∧ (t.lane lane).scanning = false ∧ (t.get (F.HP_EYE_RESULT_RES lane) = (if (s.lane lane).scanning then 3 else s.get (F.HP_EYE_RESULT_RES lane))) ∧ Sent [] t ∧ Frame ([F.HP_LANE_STATE_CDR_LOCK lane, F.HP_LANE_STATE_CDR_LOST lane, F.HP_EYE_RESULT_RES lane, F.HP_EYE_RESULT_VALID lane, F.HP_EYE_RESULT_SEQ lane]) s ({ s with lanes := t.lanes }) t) ∧
  (∀ (s : State) (lane : Nat),
     let a : TxVals := s.txAct lane
     let b : TxVals := s.txTarget lane
     s.acts →
     lane < 112 →
     b.pre + b.post ≤ 16 ∧ a.pre + a.post ≤ 16 →
     ∃ t, exec (.txRampStep lane) s = .next t ∧ (t.txAct lane).pre = oneCode a.pre b.pre ∧ (a.pre = b.pre → (t.txAct lane).post = oneCode a.post b.post ∧ (a.post = b.post → (t.txAct lane).swing = oneCode a.swing b.swing)) ∧ Sent [] t ∧ Frame ([F.HP_LANE_TX_ACT_As_HP_LANE_TX lane]) s (s) t) ∧
  (∀ (s : State) (lane : Nat) (val : Word),
     s.acts →
     lane < 112 →
     s.wordOk (atLANE lane 0x08) val = true →
     s.txRamps lane = false →
     ∃ t, exec (.laneTxWrite lane val) s = .next t ∧ (∀ f ∈ [F.HP_LANE_TX_OVERRIDE lane, F.HP_LANE_TX_SWING lane, F.HP_LANE_TX_PRE lane, F.HP_LANE_TX_POST lane], t.get f = f.of val) ∧ t.txAct lane = t.txTarget lane ∧ Sent [] t ∧ Frame ([whole (atLANE lane 0x08), F.HP_LANE_TX_ACT_As_HP_LANE_TX lane]) s (s) t) ∧
  (∀ (s : State) (lane : Nat) (val : Word),
     s.acts →
     lane < 112 →
     s.wordOk (atLANE lane 0x08) val = true →
     s.txRamps lane = true →
     ∃ t, exec (.laneTxWrite lane val) s = .next t ∧ (∀ f ∈ [F.HP_LANE_TX_OVERRIDE lane, F.HP_LANE_TX_SWING lane, F.HP_LANE_TX_PRE lane, F.HP_LANE_TX_POST lane], t.get f = f.of val) ∧ Sent [] t ∧ Frame ([whole (atLANE lane 0x08)]) s (s) t) ∧
  (∀ (s : State) (lane : Nat) (val : Word),
     s.acts →
     lane < 112 →
     s.wordOk (atLANE lane 0x14) val = true →
     (s.get (F.HP_LANE_STATE_RXS lane) = lnTrain ∨ s.get (F.HP_LANE_STATE_RXS lane) = lnActive ∨ s.get (F.HP_LANE_STATE_RXS lane) = lnSpare) →
     ∃ t, exec (.laneRxmanWrite lane val) s = .next t ∧ t.get (F.HP_LANE_STATE_RXMAN_REFUSED lane) = 1 ∧ Sent [] t ∧ Frame ([F.HP_LANE_STATE_RXMAN_REFUSED lane]) s (s) t) ∧
  (∀ (s : State) (lane : Nat) (val : Word),
     s.acts →
     lane < 112 →
     s.wordOk (atLANE lane 0x14) val = true →
     (s.get (F.HP_LANE_STATE_RXS lane) = lnTest ∨ s.get (F.HP_LANE_STATE_RXS lane) = lnStandby) →
     ∃ t, exec (.laneRxmanWrite lane val) s = .next t ∧ t.rd (atLANE lane 0x14) = val ∧ (t.rd (atLANE lane 0x10) = (if val.getLsbD 31 then val &&& 0x7FFFFFFF else s.rd (atLANE lane 0x10))) ∧ Sent [] t ∧ Frame ([whole (atLANE lane 0x14), whole (atLANE lane 0x10)]) s (s) t)

/-- A checker with a pattern comes into SYNC on 128 bits that each equal the bit the polynomial gives from those before; in SYNC each bit counts, a differing one is an error, and loss of SYNC keeps the counts, shows SYNC_LOST and counts; CLR clears the three counts; INJECT sends one error only where the generator runs. TEST is refused to a group in use and otherwise puts the group's lanes in TEST or STANDBY at the test rate. A host scan starts unless calibration holds the unit, ends with the widths and heights its open points give, or with 2 or 3 and WIDTH, HEIGHT and the point as they were. -/
def Obligations.LaneTests : Prop :=
  (∀ (s : State) (lane : Nat) (line : List Bool),
     let pat : Nat := s.get (F.HP_PRBS_CTRL_RX_PAT lane)
     let l : List Bool := line.map fun b => b != s.on (F.HP_LANE_TXM_RX_POL lane)
     let n : Nat := if pat = 1 then 7 else 31
     s.acts →
     lane < 112 →
     s.loops lane = false →
     s.checks lane = true →
     s.on (F.HP_PRBS_STAT_SYNC lane) = false →
     l.length = n + 128 →
     (∀ i ∈ List.range 128, l.getD (n + i) false = (l.getD (n + i - (prbsTaps pat).1) false != l.getD (n + i - (prbsTaps pat).2) false)) →
     ∃ t, exec (.prbsSync ⟨lane, line⟩) s = .next t ∧ t.get (F.HP_PRBS_STAT_SYNC lane) = 1 ∧ (t.get (F.HP_LANE_STATE_CDR_LOCK lane) = (if s.get (F.HP_LANE_STATE_RXS lane) = lnTest then 1 else s.get (F.HP_LANE_STATE_CDR_LOCK lane))) ∧ Sent [] t ∧ Frame ([F.HP_PRBS_STAT_SYNC lane, F.HP_LANE_STATE_CDR_LOCK lane]) s (s.setLn lane fun x => { x with prbs := l.reverse.take n, prbsBits := 0, prbsMiss := [] }) t) ∧
  (∀ (s : State) (lane : Nat) (b : Bool),
     let x : Lane := s.lane lane
     let taps : Nat × Nat := prbsTaps (s.get (F.HP_PRBS_CTRL_RX_PAT lane))
     let want : Bool := x.prbs.getD (taps.1 - 1) false != x.prbs.getD (taps.2 - 1) false
     let miss : Bool := (b != s.on (F.HP_LANE_TXM_RX_POL lane)) != want
     let lost : Bool := decide (32 ≤ (miss :: x.prbsMiss).countP (· == true))
     s.acts →
     lane < 112 →
     s.loops lane = false →
     s.on (F.HP_PRBS_STAT_SYNC lane) = true →
     ∃ t, exec (.prbsSyncLoss lane [] [b]) s = .next t ∧ (t.get (F.HP_PRBS_ERR_ERR lane) = (if miss then s.more (F.HP_PRBS_ERR_ERR lane) else s.get (F.HP_PRBS_ERR_ERR lane))) ∧ (t.get (F.HP_PRBS_BITS_BITS lane) = (if x.prbsBits = 1023 then s.more (F.HP_PRBS_BITS_BITS lane) else s.get (F.HP_PRBS_BITS_BITS lane))) ∧ (t.on (F.HP_PRBS_STAT_SYNC lane) = !lost ∧ t.get (F.HP_PRBS_STAT_SYNC_LOST lane) = (if lost then 1 else s.get (F.HP_PRBS_STAT_SYNC_LOST lane))) ∧ (t.get (F.HP_PRBS_STAT_SYNC_LOSS_COUNT lane) = (if lost then s.more (F.HP_PRBS_STAT_SYNC_LOSS_COUNT lane) else s.get (F.HP_PRBS_STAT_SYNC_LOSS_COUNT lane))) ∧ (lost = false → t.lane lane = { x with prbs := (want :: x.prbs).take taps.1, prbsBits := (x.prbsBits + 1) % 1024, prbsMiss := (miss :: x.prbsMiss).take 127 } ∨ 1023 < x.prbsBits) ∧ Sent [] t ∧ Frame ([F.HP_PRBS_STAT_SYNC lane, F.HP_PRBS_STAT_SYNC_LOST lane, F.HP_PRBS_STAT_SYNC_LOSS_COUNT lane, F.HP_PRBS_ERR_ERR lane, F.HP_PRBS_BITS_BITS lane]) s ({ s with lanes := t.lanes }) t) ∧
  (∀ (s : State) (lane : Nat),
     s.acts →
     lane < 112 →
     s.answersAt (atLANE lane 0x18) = true →
     ∃ t, exec (.prbsClr lane) s = .next t ∧ t.get (F.HP_PRBS_ERR_ERR lane) = 0 ∧ t.get (F.HP_PRBS_BITS_BITS lane) = 0 ∧ t.get (F.HP_PRBS_STAT_SYNC_LOSS_COUNT lane) = 0 ∧ Sent [] t ∧ Frame ([F.HP_PRBS_STAT_SYNC_LOSS_COUNT lane, F.HP_PRBS_ERR_ERR lane, F.HP_PRBS_BITS_BITS lane]) s (s) t) ∧
  (∀ (s : State) (lane : Nat),
     s.acts →
     lane < 112 →
     s.answersAt (atLANE lane 0x18) = true →
     ∃ t, exec (.prbsInject lane) s = .next t ∧ (Sent (if s.get (F.HP_LANE_STATE_TXS lane) = lnTest ∧ (s.get (F.HP_PRBS_CTRL_TX_PAT lane) = 1 ∨ s.get (F.HP_PRBS_CTRL_TX_PAT lane) = 2) then [.inject lane] else []) t) ∧ (s.get (F.HP_LANE_STATE_TXS lane) = lnTest ∧ (s.get (F.HP_PRBS_CTRL_TX_PAT lane) = 1 ∨ s.get (F.HP_PRBS_CTRL_TX_PAT lane) = 2) → (t.lane lane).inject = true) ∧ Frame ([]) s (if s.get (F.HP_LANE_STATE_TXS lane) = lnTest ∧ (s.get (F.HP_PRBS_CTRL_TX_PAT lane) = 1 ∨ s.get (F.HP_PRBS_CTRL_TX_PAT lane) = 2) then s.setLn lane fun x => { x with inject := true } else s) t) ∧
  (∀ (s : State) (g : Nat) (val : Word),
     s.acts →
     g < 24 →
     s.wordOk (atGROUP g 0x04) val = true →
     val.getLsbD 31 = true →
     s.on (F.HP_GROUP_STATE_IN_USE g) = true →
     ∃ t, exec (.testEnWrite g val) s = .next t ∧ t.get (F.HP_GROUP_STATE_TEST_REFUSED g) = 1 ∧ Sent [] t ∧ Frame ([F.HP_GROUP_STATE_TEST_REFUSED g]) s (s) t) ∧
  (∀ (s : State) (g : Nat) (val : Word),
     s.acts →
     g < 24 →
     s.wordOk (atGROUP g 0x04) val = true →
     s.on (F.HP_GROUP_STATE_IN_USE g) = false →
     ∃ t, exec (.testEnWrite g val) s = .next t ∧ (t.get (F.HP_GROUP_CTRL_TEST_EN g) = (if val.getLsbD 31 then 1 else 0) ∧ t.get (F.HP_GROUP_CTRL_LOOP g) = (if val.getLsbD 28 then 1 else 0)) ∧ t.get (F.HP_GROUP_CTRL_TEST_RATE g) = bits val.toNat 30 29 ∧ (∀ n ∈ groupLanes g, s.on (F.HP_GROUP_CTRL_TEST_EN g) ≠ val.getLsbD 31 → t.get (F.HP_LANE_STATE_RXS n) = (if val.getLsbD 31 then lnTest else lnStandby)) ∧ (t.get (F.HP_GROUP_STATE_RATE g) = (if val.getLsbD 31 then bits val.toNat 30 29 else if s.on (F.HP_GROUP_CTRL_TEST_EN g) then 0 else s.get (F.HP_GROUP_STATE_RATE g))) ∧ (∀ n ∈ groupLanes g, s.on (F.HP_GROUP_CTRL_TEST_EN g) ≠ val.getLsbD 31 → t.get (F.HP_LANE_STATE_TXS n) = (if 16 ≤ g then lnRest else if val.getLsbD 31 then lnTest else lnStandby)) ∧ ((∀ n ∈ groupLanes g, patOn (s.get (F.HP_PRBS_CTRL_TX_PAT n)) = false) ∨ val.getLsbD 31 = s.on (F.HP_GROUP_CTRL_TEST_EN g) → Sent [] t) ∧ Frame ([F.HP_GROUP_CTRL_TEST_EN g, F.HP_GROUP_CTRL_LOOP g, F.HP_GROUP_CTRL_TEST_RATE g, F.HP_GROUP_STATE_PLL_LOCK g, F.HP_GROUP_STATE_RATE g] ++ (groupLanes g).flatMap (fun n => [F.HP_LANE_STATE_TXS n, F.HP_LANE_STATE_RXS n, F.HP_LANE_STATE_CDR_LOCK n])) s ({ s with lanes := t.lanes, freeN := t.freeN }) t) ∧
  (∀ (s : State) (g rate : Nat),
     s.acts →
     g < 24 →
     s.answersAt (atGROUP g 0x04) = true →
     ∃ t, exec (.testRateChange g rate) s = .next t ∧ t.get (F.HP_GROUP_CTRL_TEST_RATE g) = rate % 4 ∧ (t.get (F.HP_GROUP_STATE_RATE g) = (if s.on (F.HP_GROUP_CTRL_TEST_EN g) then rate % 4 else s.get (F.HP_GROUP_STATE_RATE g))) ∧ Sent [] t ∧ Frame ([F.HP_GROUP_CTRL_TEST_RATE g, F.HP_GROUP_STATE_PLL_LOCK g, F.HP_GROUP_STATE_RATE g]) s (s) t) ∧
  (∀ (s : State) (lane : Nat) (val : Word),
     s.acts →
     lane < 112 →
     s.wordOk (atLANE lane 0x28) val = true →
     val.getLsbD 31 = true →
     (s.lane lane).scanning = false →
     ∃ t, exec (.eyeScanStart lane val) s = .next t ∧ t.rd (atLANE lane 0x28) = val &&& 0x7FFFFFFF ∧ (t.lane lane).scanning = !s.calHolds lane ∧ (t.get (F.HP_EYE_RESULT_RES lane) = (if s.calHolds lane then 1 else s.get (F.HP_EYE_RESULT_RES lane))) ∧ Sent [] t ∧ Frame ([whole (atLANE lane 0x28), F.HP_EYE_RESULT_RES lane]) s ({ s with lanes := t.lanes }) t) ∧
  (∀ (s : State) (lane : Nat) (width height point : List EyePoint),
     let m : Nat := s.get (F.HP_EYE_CTRL_MODE lane)
     let errs : Int → Int → Option Nat := eyeErrors (width ++ height ++ point) (s.get (F.HP_EYE_CTRL_DWELL lane))
     let op : Int → Int → Bool := fun h v => (errs h v).any (· ≤ s.get (F.HP_EYE_CTRL_ERR_LIM lane))
     s.acts →
     lane < 112 →
     (s.lane lane).scanning = true →
     ∃ t, exec (.eyeScanDone lane width height point) s = .next t ∧ t.get (F.HP_EYE_RESULT_RES lane) = 0 ∧ t.get (F.HP_EYE_RESULT_VALID lane) = 1 ∧ t.get (F.HP_EYE_RESULT_SEQ lane) = s.wrap (F.HP_EYE_RESULT_SEQ lane) ∧ (t.get (F.HP_EYE_RESULT_WIDTH lane) = (if m = 1 ∨ m = 3 then sweep (fun h => op h 0) 32 31 else s.get (F.HP_EYE_RESULT_WIDTH lane))) ∧ (t.get (F.HP_EYE_RESULT_HEIGHT lane) = (if m = 2 ∨ m = 3 then 5 * sweep (op 0) 31 31 else s.get (F.HP_EYE_RESULT_HEIGHT lane))) ∧ (t.get (F.HP_EYE_POINT_ERRORS lane) = (if m = 0 then min ((errs (s.getI (F.HP_EYE_CTRL_HOFF lane)) (max (-31) (s.getI (F.HP_EYE_CTRL_VOFF lane)))).getD 0) (2 ^ 32 - 1) else s.get (F.HP_EYE_POINT_ERRORS lane))) ∧ (t.lane lane).scanning = false ∧ Sent [] t ∧ Frame ([F.HP_EYE_RESULT_RES lane, F.HP_EYE_RESULT_VALID lane, F.HP_EYE_RESULT_SEQ lane, F.HP_EYE_RESULT_WIDTH lane, F.HP_EYE_RESULT_HEIGHT lane, F.HP_EYE_POINT_ERRORS lane]) s ({ s with lanes := t.lanes }) t) ∧
  (∀ (s : State) (lane : Nat) (nolock : Bool),
     s.acts →
     lane < 112 →
     (s.lane lane).scanning = true →
     ∃ t, exec (.eyeScanAbort lane nolock) s = .next t ∧ (t.get (F.HP_EYE_RESULT_RES lane) = (if nolock then 3 else 2)) ∧ t.get (F.HP_EYE_RESULT_VALID lane) = 1 ∧ t.get (F.HP_EYE_RESULT_SEQ lane) = s.wrap (F.HP_EYE_RESULT_SEQ lane) ∧ (t.lane lane).scanning = false ∧ Sent [] t ∧ Frame ([F.HP_EYE_RESULT_RES lane, F.HP_EYE_RESULT_VALID lane, F.HP_EYE_RESULT_SEQ lane]) s ({ s with lanes := t.lanes }) t)

/-- A due step of a group, at a frame start, picks its lane; without a spare it measures in place, with one it asks the transmitter to BRIDGE. BRIDGED begins the comparison; a matching comparison exchanges the lane and the spare at the next swap line boundary of the frame and sends SWITCHED, or, past the frame's last boundary, waits for the next frame; DONE lets the lane adapt; settled settings start the measurement; measurements that agree and reach the limits are accepted, give the lane its trim set and target and end the step; low ones, a comparison that does not match, or adaptation that does not settle, end it with their outcome and count one more failure of the lane. FORCE asks for a rotation of its own. -/
def Obligations.CalibrationSteps : Prop :=
  (∀ (s : State) (g q : Nat),
     let u : State := if (s.cal g).rotDue then s.setCal g (fun x => { x with rotDue := false, measured := 0, spare0 := (s.rxIn g lnSpare).head? }) else s
     s.acts →
     g < 24 →
     s.on (F.HP_CAL_CTRL_EN g) = true →
     s.on (F.RD_TH_DIE_STAGE (groupDie g)) = false →
     (s.cal g).step = none →
     (16 ≤ g ∨ s.linked g = true) →
     s.calDue g = true →
     s.atFrameStart = true →
     calChoose u g = some q →
     q < 5 →
     s.rxIn g lnSpare = [] →
     ∃ t, exec (.calStepStart g) s = .next t ∧ t.calState g = csMeasure ∧ t.get (F.HP_CAL_STATUS_LANE g) = q ∧ t.get (F.HP_CAL_STATUS_VALID g) = 0 ∧ t.get (F.HP_CAL_STATUS_IN_PLACE g) = 1 ∧ (t.cal g).step = some { id := ((s.cal g).lastId + 1) % 256, lane := q, inPlace := true, former := s.rd (atLANE (groupLane g q) 0x10) } ∧ (t.cal g).spare0 = (u.cal g).spare0 ∧ (t.cal g).measured = (u.cal g).measured ∧ (t.lane (groupLane g q)).scanning = false ∧ Sent [] t ∧ Frame ([F.HP_CAL_STATUS_STEP g, F.HP_CAL_STATUS_LANE g, F.HP_CAL_STATUS_VALID g, F.HP_CAL_STATUS_IN_PLACE g, F.HP_EYE_RESULT_RES (groupLane g q), F.HP_EYE_RESULT_VALID (groupLane g q), F.HP_EYE_RESULT_SEQ (groupLane g q)]) s ({ s with lanes := t.lanes, cals := t.cals }) t) ∧
  (∀ (s : State) (g q sp : Nat),
     let u : State := if (s.cal g).rotDue then s.setCal g (fun x => { x with rotDue := false, measured := 0, spare0 := (s.rxIn g lnSpare).head? }) else s
     s.acts →
     g < 16 →
     s.on (F.HP_CAL_CTRL_EN g) = true →
     s.on (F.RD_TH_DIE_STAGE (groupDie g)) = false →
     (s.cal g).step = none →
     s.linked g = true →
     s.calDue g = true →
     s.atFrameStart = true →
     calChoose u g = some q →
     q < 5 →
     s.rxIn g lnSpare = [sp] →
     sp ≠ q →
     ∃ t, exec (.calStepStart g) s = .next t ∧ t.calState g = csBridge ∧ t.get (F.HP_CAL_STATUS_LANE g) = q ∧ t.get (F.HP_CAL_STATUS_VALID g) = 0 ∧ t.get (F.HP_CAL_STATUS_IN_PLACE g) = 0 ∧ (t.cal g).spare0 = (u.cal g).spare0 ∧ (t.cal g).measured = (u.cal g).measured ∧ Sent [.ctrl g (laneCmd s.ownCode cmdBridge (((s.cal g).lastId + 1) % 256) (s.logicalOf calMapRx g q) sp q 0)] t ∧ Frame ([F.HP_CAL_STATUS_STEP g, F.HP_CAL_STATUS_LANE g, F.HP_CAL_STATUS_VALID g, F.HP_CAL_STATUS_IN_PLACE g]) s ({ s with cals := t.cals }) t) ∧
  (∀ (s : State) (g : Nat),
     s.acts →
     g < 24 →
     s.answersAt (atGROUP g 0x08) = true →
     ∃ t, exec (.calForce g) s = .next t ∧ t.get (F.HP_CAL_STATUS_REQUESTED g) = 1 ∧ (t.cal g).requested = true ∧ (t.cal g).rotDue = true ∧ (t.cal g).spare0 = none ∧ Sent [] t ∧ Frame ([F.HP_CAL_STATUS_REQUESTED g]) s ({ s with cals := t.cals }) t) ∧
  (∀ (s : State) (p id : Nat) (c : CalStep) (w : PktEnd),
     s.acts →
     s.hasPort p = true →
     (s.cal p).step = some c →
     c.id = id →
     s.calState p = csBridge →
     c.lane < 8 →
     w.good (rxHead w (laneCmd 0 cmdBridged id 0 0 0xFF 0)) →
     ∃ t, exec (.bridged ⟨p, w⟩ id) s = .next t ∧ t.calState p = csCompare ∧ t.get (F.HP_CAL_STATUS_LANE p) = c.lane ∧ (t.cal p).step = some { c with cmd := [] } ∧ Sent [] t ∧ Frame ([F.HP_CAL_STATUS_STEP p, F.HP_CAL_STATUS_LANE p, F.HP_CAL_STATUS_VALID p]) s ({ s with cals := t.cals }) t) ∧
  (∀ (s : State) (p x : Nat) (c : CalStep),
     s.acts →
     s.noSwapWaits →
     s.hasPort p = true →
     (s.cal p).step = some c →
     c.cmd = [] →
     s.calState p = csCompare →
     c.lane < 5 ∧ c.spare < 5 ∧ c.lane ≠ c.spare ∧ c.logical < 4 →
     s.raster.running = true →
     (s.swapLines p).find? (s.raster.rpos < ·) = some x →
     ∃ t, exec (.calCompareDone p true) s = .next t ∧ t.get (F.HP_LANE_STATE_RXS (chainLane p c.spare)) = lnActive ∧ t.get (F.HP_LANE_STATE_RXS (chainLane p c.lane)) = lnSpare ∧ t.get (F.CH_LANE_MAP_RX_SPARE p) = 2 ^ c.lane ∧ t.get (calMapRx p c.logical) = c.spare ∧ t.get (F.HP_CAL_MAP_RX_SPARE p) = c.lane ∧ t.get (F.CH_LANE_MAP_RX_ACTIVE p) = setBit (clearBit (s.get (F.CH_LANE_MAP_RX_ACTIVE p)) c.lane) c.spare ∧ Sent [.ctrl p (laneCmd s.ownCode cmdSwitched c.id c.logical c.spare c.lane 0)] t ∧ t.get (F.HP_LANE_STATE_CDR_LOCK (chainLane p c.spare)) = 1 ∧ Frame ([F.HP_LANE_STATE_CDR_LOCK (chainLane p c.spare), F.HP_LANE_STATE_RXS (chainLane p c.spare), F.HP_LANE_STATE_RXS (chainLane p c.lane), F.CH_LANE_MAP_RX_SPARE p, F.CH_LANE_MAP_RX_ACTIVE p, calMapRx p c.logical, F.HP_CAL_MAP_RX_SPARE p]) s ({ reach x s with cals := t.cals }) t) ∧
  (∀ (s : State) (p : Nat) (c : CalStep),
     s.acts →
     s.noSwapWaits →
     s.hasPort p = true →
     (s.cal p).step = some c →
     c.cmd = [] →
     s.calState p = csCompare →
     (s.raster.running = false ∨ ∀ x ∈ s.swapLines p, x ≤ s.raster.rpos) →
     ∃ t, exec (.calCompareDone p true) s = .next t ∧ (t.cal p).step = some { c with passed := some s.raster.fnum } ∧ t.get (F.HP_LANE_STATE_CDR_LOCK (chainLane p c.spare)) = 1 ∧ Sent [] t ∧ Frame ([F.HP_LANE_STATE_CDR_LOCK (chainLane p c.spare)]) s ({ s with cals := t.cals }) t) ∧
  (∀ (s : State) (p : Nat) (c : CalStep),
     let n : Nat := groupLane p c.spare
     s.acts →
     s.noSwapWaits →
     s.hasPort p = true →
     (s.cal p).step = some c →
     c.cmd = [] ∧ c.retiring = false →
     s.calState p = csCompare →
     c.lane < 5 ∧ c.spare < 5 →
     s.get (F.HP_LANE_CAL_CONSEC_FAIL n) = 0 →
     ∃ t, exec (.calCompareDone p false) s = .next t ∧ t.calState p = 0 ∧ t.get (F.HP_CAL_STATUS_OUTCOME p) = calBridgeFail ∧ t.get (F.HP_CAL_COUNT_FAILS p) = s.more (F.HP_CAL_COUNT_FAILS p) ∧ t.get (F.HP_LANE_CAL_CONSEC_FAIL n) = 1 ∧ t.get (F.HP_LANE_CAL_CAL_FAIL n) = 1 ∧ (t.cal p).step = none ∧ Sent [] t ∧ Frame ([whole (atGROUP p 0x10), F.HP_CAL_COUNT_STEPS p, F.HP_CAL_COUNT_FAILS p, F.HP_LANE_CAL_CONSEC_FAIL n, F.HP_LANE_CAL_CAL_FAIL n, F.HP_LANE_CAL_RAMP_FROZEN n, whole (atLANE (groupLane p c.lane) 0x38)]) s ({ s with lanes := t.lanes, cals := t.cals }) t) ∧
  (∀ (s : State) (p id : Nat) (c : CalStep) (w : PktEnd),
     s.acts →
     s.hasPort p = true →
     (s.cal p).step = some c →
     c.id = id →
     c.cmd.headD 0 = cmdSwitched →
     c.retiring = false →
     c.lane < 8 →
     w.good (rxHead w (laneCmd 0 cmdDone id 0 0 0xFF 0)) →
     ∃ t, exec (.lanecmdDone ⟨p, w⟩ id) s = .next t ∧ t.calState p = csAdapt ∧ t.get (F.HP_CAL_STATUS_LANE p) = c.lane ∧ (t.cal p).step = some { c with cmd := [] } ∧ Sent [] t ∧ Frame ([F.HP_CAL_STATUS_STEP p, F.HP_CAL_STATUS_LANE p, F.HP_CAL_STATUS_VALID p]) s ({ s with cals := t.cals }) t) ∧
  (∀ (s : State) (g : Nat) (eq : Word) (c : CalStep),
     s.acts →
     g < 24 →
     (s.cal g).step = some c →
     c.settled = false ∧ c.retiring = false ∧ c.inPlace = false →
     s.calState g = csAdapt →
     c.lane < 5 →
     ∃ t, exec (.calAdaptationSettled g eq) s = .next t ∧ t.calState g = csMeasure ∧ t.rd (atLANE (groupLane g c.lane) 0x10) = eq &&& 0x7FFFFFFF ∧ t.get (F.HP_LANE_STATE_CDR_LOCK (groupLane g c.lane)) = 1 ∧ (t.cal g).step = some { c with settled := true, temp := (s.cal g).temp } ∧ (t.lane (groupLane g c.lane)).scanning = false ∧ Sent [] t ∧ Frame ([whole (atLANE (groupLane g c.lane) 0x10), F.HP_LANE_STATE_CDR_LOCK (groupLane g c.lane), F.HP_CAL_STATUS_STEP g, F.HP_CAL_STATUS_LANE g, F.HP_CAL_STATUS_VALID g, F.HP_EYE_RESULT_RES (groupLane g c.lane), F.HP_EYE_RESULT_VALID (groupLane g c.lane), F.HP_EYE_RESULT_SEQ (groupLane g c.lane)]) s ({ s with lanes := t.lanes, cals := t.cals }) t) ∧
  (∀ (s : State) (g : Nat) (p0 q0 p1 q1 p2 q2 : List EyePoint) (c : CalStep),
     let w : Nat := min (s.calEye g p1 q1).1 (s.calEye g p2 q2).1
     let h : Nat := min (s.calEye g p1 q1).2 (s.calEye g p2 q2).2
     let m0 : Nat × Nat := c.m0.getD (0, 0)
     let n : Nat := groupLane g c.lane
     s.acts →
     g < 24 →
     (s.cal g).step = some c →
     c.settled = true ∧ c.retiring = false →
     s.calState g = csMeasure →
     c.lane < 5 →
     max (s.calEye g p1 q1).1 (s.calEye g p2 q2).1 - w ≤ s.get (F.HP_CAL_LIMITS_TOL_W g) ∧ max (s.calEye g p1 q1).2 (s.calEye g p2 q2).2 - h ≤ 5 * s.get (F.HP_CAL_LIMITS_TOL_H g) →
     s.get (F.HP_CAL_LIMITS_MIN_W g) ≤ w ∧ s.get (F.HP_CAL_LIMITS_MIN_H g) ≤ h →
     (c.inPlace = false ∨ (m0.1 ≤ w + s.get (F.HP_CAL_LIMITS_TOL_W g) ∧ m0.2 ≤ h + 5 * s.get (F.HP_CAL_LIMITS_TOL_H g))) →
     ∃ t, exec (.calMeasureDone g p0 q0 p1 q1 p2 q2) s = .next t ∧ t.calState g = 0 ∧ t.get (F.HP_CAL_STATUS_OUTCOME g) = calAccepted ∧ t.get (F.HP_CAL_STATUS_VALID g) = 1 ∧ t.get (F.HP_CAL_STATUS_SEQ g) = s.wrap (F.HP_CAL_STATUS_SEQ g) ∧ t.get (F.HP_LANE_CAL_VALID n) = 1 ∧ t.get (F.HP_LANE_CAL_WIDTH n) = w % 2 ^ 7 ∧ t.get (F.HP_LANE_CAL_HEIGHT n) = h % 2 ^ 9 ∧ t.get (F.HP_LANE_CAL_CONSEC_FAIL n) = 0 ∧ t.get (F.HP_LANE_CAL_RAMP_FROZEN n) = 0 ∧ t.get (F.HP_CAL_COUNT_STEPS g) = s.more (F.HP_CAL_COUNT_STEPS g) ∧ (t.cal g).step = none ∧ t.getI (F.HP_CAL_TEMP_TEMP g) = toInt 16 (ofInt 16 (s.cal g).temp) ∧ t.get (F.HP_LANE_CAL_AGE_SECS n) = 0 ∧ (t.lane n).calAt = some s.raster.ticks ∧ Sent [] t ∧ Frame ([whole (atGROUP g 0x10), F.HP_CAL_COUNT_STEPS g, F.HP_LANE_CAL_VALID n, F.HP_LANE_CAL_SEQ n, F.HP_LANE_CAL_WIDTH n, F.HP_LANE_CAL_HEIGHT n, F.HP_LANE_CAL_CONSEC_FAIL n, F.HP_LANE_CAL_RAMP_FROZEN n, F.HP_CAL_TEMP_TEMP g, whole (atLANE n 0x3c)] ++ (groupLanes g).map (fun k => whole (atLANE k 0x38)) ++ (List.range 5).flatMap (fun j => [whole (atTRIM n j), whole (atTRIM n j + 4)])) s ({ s with lanes := t.lanes, cals := t.cals }) t) ∧
  (∀ (s : State) (g : Nat) (p0 q0 p1 q1 p2 q2 : List EyePoint) (c : CalStep),
     let w : Nat := min (s.calEye g p1 q1).1 (s.calEye g p2 q2).1
     let h : Nat := min (s.calEye g p1 q1).2 (s.calEye g p2 q2).2
     let n : Nat := groupLane g c.lane
     s.acts →
     g < 24 →
     (s.cal g).step = some c →
     c.settled = true ∧ c.retiring = false →
     s.calState g = csMeasure →
     c.lane < 5 →
     max (s.calEye g p1 q1).1 (s.calEye g p2 q2).1 - w ≤ s.get (F.HP_CAL_LIMITS_TOL_W g) ∧ max (s.calEye g p1 q1).2 (s.calEye g p2 q2).2 - h ≤ 5 * s.get (F.HP_CAL_LIMITS_TOL_H g) →
     w < s.get (F.HP_CAL_LIMITS_MIN_W g) →
     s.get (F.HP_LANE_CAL_CONSEC_FAIL n) = 0 →
     ∃ t, exec (.calMeasureDone g p0 q0 p1 q1 p2 q2) s = .next t ∧ t.calState g = 0 ∧ t.get (F.HP_CAL_STATUS_OUTCOME g) = calBelowMin ∧ t.get (F.HP_CAL_COUNT_FAILS g) = s.more (F.HP_CAL_COUNT_FAILS g) ∧ t.get (F.HP_LANE_CAL_CONSEC_FAIL n) = 1 ∧ t.get (F.HP_LANE_CAL_CAL_FAIL n) = 1 ∧ (t.cal g).step = none ∧ Sent [] t ∧ Frame ([whole (atGROUP g 0x10), F.HP_CAL_COUNT_STEPS g, F.HP_CAL_COUNT_FAILS g, F.HP_LANE_CAL_CONSEC_FAIL n, F.HP_LANE_CAL_CAL_FAIL n, F.HP_LANE_CAL_RAMP_FROZEN n, whole (atLANE n 0x38)]) s ({ s with lanes := t.lanes, cals := t.cals }) t) ∧
  (∀ (s : State) (g : Nat) (c : CalStep),
     let n : Nat := groupLane g c.lane
     s.acts →
     g < 24 →
     (s.cal g).step = some c →
     c.settled = false ∧ c.retiring = false →
     s.calState g = csAdapt →
     c.lane < 5 →
     s.get (F.HP_LANE_CAL_CONSEC_FAIL n) = 0 →
     ∃ t, exec (.calSettleTimeout g) s = .next t ∧ t.calState g = 0 ∧ t.get (F.HP_CAL_STATUS_OUTCOME g) = calNoSettle ∧ t.get (F.HP_CAL_COUNT_FAILS g) = s.more (F.HP_CAL_COUNT_FAILS g) ∧ t.get (F.HP_LANE_CAL_CONSEC_FAIL n) = 1 ∧ t.get (F.HP_LANE_CAL_CAL_FAIL n) = 1 ∧ (t.cal g).step = none ∧ Sent [] t ∧ Frame ([whole (atGROUP g 0x10), F.HP_CAL_COUNT_STEPS g, F.HP_CAL_COUNT_FAILS g, F.HP_LANE_CAL_CONSEC_FAIL n, F.HP_LANE_CAL_CAL_FAIL n, F.HP_LANE_CAL_RAMP_FROZEN n, whole (atLANE n 0x38)]) s ({ s with lanes := t.lanes, cals := t.cals }) t) ∧
  (∀ (s : State) (p : Nat) (c : CalStep),
     s.acts →
     s.hasPort p = true →
     (s.cal p).step = some c →
     c.cmd ≠ [] →
     c.resends < 3 →
     ∃ t, exec (.lanecmdTimeout p) s = .next t ∧ (t.cal p).step = some { c with resends := c.resends + 1 } ∧ Sent [.ctrl p ⟨0x05, 0, s.ownCode, 0, 4, c.cmd⟩] t ∧ Frame ([]) s ({ s with cals := t.cals }) t)

/-- A transmitter carries out BRIDGE, SWITCHED and RETIRE once and answers each with BRIDGED or DONE; a repeated one is only answered again. DROP is answered and takes effect at the next SKP set the transmitter sends; DROPPED lets the receiver take the map of the lanes that are left at the next SKP set it receives. A ramp step moves the equaliser one code toward its target and is undone, and the ramp frozen, where the lane shows a violation. CLEAR_TRIM makes every set of the group invalid; a save, at most one an hour, puts the sets of a changed group into the Cave with the image's identity. -/
def Obligations.LaneCommands : Prop :=
  (∀ (s : State) (p id logical new old : Nat) (w : PktEnd),
     s.acts →
     s.hasPort p = true →
     s.linked p = true →
     (s.cal p).done ≠ some (id, cmdBridge) →
     w.good (rxHead w (laneCmd 0 cmdBridge id logical new old 0)) →
     (s.get (F.CH_LANE_MAP_TX_ACTIVE p)).testBit new = false →
     old < 5 ∧ logical < 4 →
     ∃ t, exec (.bridge ⟨p, w⟩ id logical new old) s = .next t ∧ (t.cal p).copies = some (new, logical) ∧ (t.cal p).done = some (id, cmdBridge) ∧ t.get (calMapTx p logical) = old ∧ Sent [.ctrl p (laneCmd s.ownCode cmdBridged id 0 0 0xFF 0)] t ∧ Frame ([calMapTx p logical]) s ({ s with cals := t.cals }) t) ∧
  (∀ (s : State) (p id logical new old : Nat) (w : PktEnd),
     s.acts →
     s.hasPort p = true →
     s.linked p = true →
     (s.cal p).done ≠ some (id, cmdSwitched) →
     new < 5 ∧ old < 5 ∧ new ≠ old ∧ logical < 4 →
     w.good (rxHead w (laneCmd 0 cmdSwitched id logical new old 0)) →
     ∃ t, exec (.switched ⟨p, w⟩ id logical new old) s = .next t ∧ t.get (F.CH_LANE_MAP_TX_ACTIVE p) = setBit (clearBit (s.get (F.CH_LANE_MAP_TX_ACTIVE p)) old) new ∧ t.get (F.CH_LANE_MAP_TX_SPARE p) = 2 ^ old ∧ t.get (calMapTx p logical) = new ∧ t.get (F.HP_CAL_MAP_TX_SPARE p) = old ∧ t.get (F.HP_LANE_STATE_TXS (chainLane p new)) = lnActive ∧ t.get (F.HP_LANE_STATE_TXS (chainLane p old)) = lnSpare ∧ (t.cal p).copies = some (old, logical) ∧ Sent [.ctrl p (laneCmd s.ownCode cmdDone id 0 0 0xFF 0)] t ∧ Frame ([F.CH_LANE_MAP_TX_ACTIVE p, F.CH_LANE_MAP_TX_SPARE p, calMapTx p logical, F.HP_CAL_MAP_TX_SPARE p, F.HP_LANE_STATE_TXS (chainLane p new), F.HP_LANE_STATE_TXS (chainLane p old)]) s ({ s with cals := t.cals }) t) ∧
  (∀ (s : State) (p id logical new old : Nat) (w : PktEnd),
     s.acts →
     s.hasPort p = true →
     s.linked p = true →
     (s.cal p).done = some (id, cmdSwitched) →
     w.good (rxHead w (laneCmd 0 cmdSwitched id logical new old 0)) →
     ∃ t, exec (.switched ⟨p, w⟩ id logical new old) s = .next t ∧ Sent [.ctrl p (laneCmd s.ownCode cmdDone id 0 0 0xFF 0)] t ∧ Frame ([]) s (s) t) ∧
  (∀ (s : State) (p id old : Nat) (w : PktEnd),
     s.acts →
     s.hasPort p = true →
     s.linked p = true →
     (s.cal p).done ≠ some (id, cmdRetire) →
     old < 5 →
     w.good (rxHead w (laneCmd 0 cmdRetire id 0 0 old 0)) →
     ∃ t, exec (.retire ⟨p, w⟩ id old) s = .next t ∧ t.get (F.HP_LANE_STATE_TXS (chainLane p old)) = lnRetired ∧ ((s.get (F.CH_LANE_MAP_TX_SPARE p)).testBit old = true → t.get (F.CH_LANE_MAP_TX_SPARE p) = 0 ∧ t.get (F.HP_CAL_MAP_TX_SPARE p) = 7) ∧ Sent [.ctrl p (laneCmd s.ownCode cmdDone id 0 0 0xFF 0)] t ∧ Frame ((if (s.get (F.CH_LANE_MAP_TX_SPARE p)).testBit old then [F.CH_LANE_MAP_TX_SPARE p, F.HP_CAL_MAP_TX_SPARE p] else []) ++ [F.HP_LANE_STATE_TXS (chainLane p old)]) s ({ s with cals := t.cals }) t) ∧
  (∀ (s : State) (p id old lanes : Nat) (w : PktEnd),
     s.acts →
     s.hasPort p = true →
     s.linked p = true →
     (s.cal p).done ≠ some (id, cmdDrop) →
     w.good (rxHead w (laneCmd 0 cmdDrop id 0 0 old lanes)) →
     ∃ t, exec (.drop ⟨p, w⟩ id old lanes) s = .next t ∧ (t.cal p).txDrop = some (lanes, old) ∧ (t.cal p).done = some (id, cmdDrop) ∧ Sent [.ctrl p (laneCmd s.ownCode cmdDropped id 0 0 0xFF 0)] t ∧ Frame ([]) s ({ s with cals := t.cals }) t) ∧
  (∀ (s : State) (p lanes old : Nat),
     let m : Nat × Nat := dropMap ((List.range 5).filter fun i => s.get (F.HP_LANE_STATE_TXS (chainLane p i)) ≠ lnRetired && i != old) lanes
     s.acts →
     s.hasPort p = true →
     s.linked p = true →
     s.isSender = true →
     (s.cal p).txDrop = some (lanes, old) →
     old < 5 →
     ∃ t, exec (.skpSend p) s = .next t ∧ t.get (F.CH_LANE_MAP_TX_ACTIVE p) = m.1 ∧ t.get (F.CH_LANE_MAP_TX_SPARE p) = m.2 ∧ (∀ i ∈ List.range 5, t.get (F.HP_LANE_STATE_TXS (chainLane p i)) = dropState m old (s.get (F.HP_LANE_STATE_TXS (chainLane p i))) i) ∧ (t.get (F.CH_LINK_STATUS_TX_LANES p) = popCount 5 m.1 ∧ (t.cal p).txDrop = none ∧ (t.cal p).copies = (bitsOf 5 m.2).head?.map fun i => (i, 0)) ∧ Sent [.skp p] t ∧ Frame ([F.CH_LANE_MAP_TX_ACTIVE p, F.CH_LANE_MAP_TX_SPARE p, F.CH_LINK_STATUS_TX_LANES p, whole (atGROUP p 0x1C)] ++ (List.range 5).map (fun i => F.HP_LANE_STATE_TXS (chainLane p i))) s ({ s.setPort p (fun x => { x with txGivenUp := x.txGivenUp || lanes == 0 }) with cals := t.cals }) t) ∧
  (∀ (s : State) (p id : Nat) (c : CalStep) (w : PktEnd),
     s.acts →
     s.hasPort p = true →
     (s.cal p).step = some c →
     c.id = id →
     c.dropTo ≠ 0 →
     w.good (rxHead w (laneCmd 0 cmdDropped id 0 0 0xFF 0)) →
     ∃ t, exec (.dropped ⟨p, w⟩ id) s = .next t ∧ (t.cal p).step = some { c with cmd := [], dropAck := true } ∧ Sent [] t ∧ Frame ([]) s ({ s with cals := t.cals }) t) ∧
  (∀ (s : State) (p : Nat) (cols : List (List Nat)) (r0 r1 r2 r3 : Bool) (c : CalStep),
     let m : Nat × Nat := dropMap ((List.range 5).filter fun i => s.get (F.HP_LANE_STATE_RXS (chainLane p i)) ≠ lnRetired && i != c.lane) c.dropTo
     s.acts →
     s.hasPort p = true →
     s.isSender = true →
     s.linked p = true →
     readSegment (s.get (F.CH_LINK_STATUS_RX_LANES p)) [r0, r1, r2, r3] (s.rxCols p cols) = none →
     skpSets (s.get (F.CH_LINK_STATUS_RX_LANES p)) [r0, r1, r2, r3] (s.rxCols p cols) ≠ 0 →
     (s.cal p).step = some c →
     c.dropAck = true →
     c.dropTo ≠ 0 →
     c.retiring = true →
     c.stale = false →
     c.lane < 5 →
     ∃ t, exec (.segmentRx p cols r0 r1 r2 r3) s = .next t ∧ t.get (F.CH_LANE_MAP_RX_ACTIVE p) = m.1 ∧ t.get (F.CH_LANE_MAP_RX_SPARE p) = m.2 ∧ (∀ i ∈ List.range 5, t.get (F.HP_LANE_STATE_RXS (chainLane p i)) = dropState m c.lane (s.get (F.HP_LANE_STATE_RXS (chainLane p i))) i) ∧ (t.get (F.HP_LANE_STATE_SIGDET (chainLane p c.lane)) = 0 ∧ ∀ i ∈ List.range 5, t.get (F.HP_LANE_STATE_RXS (chainLane p i)) = lnStandby ∨ t.get (F.HP_LANE_STATE_RXS (chainLane p i)) = lnRetired → t.get (F.HP_LANE_STATE_CDR_LOCK (chainLane p i)) = 0) ∧ t.get (F.CH_LINK_STATUS_RX_LANES p) = popCount 5 m.1 ∧ (t.cal p).step = none ∧ Sent [] t ∧ Frame ([F.CH_LANE_MAP_RX_ACTIVE p, F.CH_LANE_MAP_RX_SPARE p, F.CH_LINK_STATUS_RX_LANES p, whole (atGROUP p 0x1C), F.HP_CAL_STATUS_STEP p, F.HP_CAL_STATUS_VALID p, F.HP_CAL_STATUS_IN_PLACE p] ++ (List.range 5).flatMap (fun i => [F.HP_LANE_STATE_RXS (chainLane p i), F.HP_LANE_STATE_SIGDET (chainLane p i), F.HP_LANE_STATE_CDR_LOCK (chainLane p i)])) s ({ s with lanes := t.lanes, cals := t.cals }) t) ∧
  (∀ (s : State) (lane : Nat),
     let v : Word := (eqOneCode (EqVals.ofWord (s.rd (atLANE lane 0x10))) (EqVals.ofWord ((s.lane lane).aim.getD (s.rd (atLANE lane 0x38))))).word
     s.acts →
     lane < 112 →
     s.rampMay (laneGroup lane).1 (laneGroup lane).2 = true →
     s.calState (laneGroup lane).1 ≠ csRamp →
     ∃ t, exec (.affinageRampStep lane false) s = .next t ∧ t.rd (atLANE lane 0x10) = v ∧ ((t.lane lane).before = if v = s.rd (atLANE lane 0x10) then none else some (s.rd (atLANE lane 0x10))) ∧ Sent [] t ∧ Frame ([whole (atLANE lane 0x10)]) s ({ s with lanes := t.lanes }) t) ∧
  (∀ (s : State) (lane : Nat) (w : Word),
     s.acts →
     lane < 112 →
     s.rampMay (laneGroup lane).1 (laneGroup lane).2 = true →
     (s.lane lane).before = some w →
     ∃ t, exec (.affinageRampStep lane true) s = .next t ∧ t.rd (atLANE lane 0x10) = w ∧ t.get (F.HP_LANE_CAL_RAMP_FROZEN lane) = 1 ∧ (t.lane lane).before = none ∧ Sent [] t ∧ Frame ([whole (atLANE lane 0x10), F.HP_LANE_CAL_RAMP_FROZEN lane]) s ({ s with lanes := t.lanes }) t) ∧
  (∀ (s : State) (g : Nat),
     s.acts →
     g < 24 →
     s.answersAt (atGROUP g 0x08) = true →
     ∃ t, exec (.clearTrim g) s = .next t ∧ (∀ n ∈ groupLanes g, ∀ j ∈ List.range 5, (t.trimSet n j).valid = false) ∧ (t.cal g).changed = true ∧ Sent [] t ∧ Frame ((groupLanes g).flatMap (fun n => (List.range 5).flatMap fun j => [whole (atTRIM n j), whole (atTRIM n j + 4)])) s ({ s with cals := t.cals }) t) ∧
  (∀ (s : State),
     s.acts →
     s.inTrial = false →
     (∀ g ∈ List.range 24, g ≠ 0 → (s.cal g).changed = false) →
     (s.cal 0).changed = true →
     s.isSender = true →
     s.sys.trimSaved + 3600 * 400000000 ≤ s.raster.ticks →
     ∃ t, exec (.trimSave) s = .next t ∧ (t.cal 0).changed = false ∧ (∀ n ∈ groupLanes 0, ∀ k ∈ List.range 10, Tab.get (fun _ => 0) t.cave.trim (atTRIM n 0 + 4 * k) = s.rd (atTRIM n 0 + 4 * k)) ∧ (Tab.get (fun _ => (0, 0)) t.cave.trimId 0 = (s.get F.RD_MOULD_ID_WALL_ID, 0)) ∧ Sent [] t ∧ Frame ([]) s ({ s with cals := t.cals, cave := t.cave, sys := { s.sys with trimSaved := s.raster.ticks } }) t)

/-- SAFE_DARK_ON sets the tile's dark flag of its origin, passes on and holds the Press dark; SAFE_DARK_OFF, or 16 frames without an ON, clears the flag; the pin darkens a tile's Press, and at a sender puts every port in use dark and sends SAFE_DARK_ON on those that are LINKED; its release lets go the ports that the host has not darkened. CH_URG_TX darkens one port. A set with a code that is none of the four is counted. A SEGDOWN from upstream puts its direction down and passes on, and two good markers put it up again. -/
def Obligations.SafeDark : Prop :=
  (∀ (s : State) (dirB : Bool) (col arg : Nat) (copies : List (List Nat)),
     s.acts →
     s.tileLike = true →
     urgentVote (s.get (F.CH_LINK_STATUS_RX_LANES (rxPort dirB))) copies = some (1, arg) →
     ((Tab.get (fun _ => none) (s.port (rxPort dirB)).urg (256 * 1 + arg)).all (fun last => decide (last + 64 ≤ col)) = true) →
     ∃ t, exec (.safeDarkOn dirB ⟨col, copies⟩) s = .next t ∧ t.darkFlag dirB = true ∧ t.on F.PR_SLOT_STATUS_DARK = true ∧ (t.get F.PR_SLOT_STATUS_DARK_SRC).testBit 1 = true ∧ t.press.lit = 0 ∧ (Sent (if s.linked (txPort dirB) then [.urgent (txPort dirB) 1 arg] else []) t) ∧ Frame ([if dirB then F.CH_LINK_STATUS_DARK_B 0 else F.CH_LINK_STATUS_DARK_A 0, if dirB then F.CH_LINK_STATUS_DARK_B 1 else F.CH_LINK_STATUS_DARK_A 1, F.PR_SLOT_STATUS_DARK_SRC, F.PR_SLOT_STATUS_DARK]) s ({ (s.setPort (rxPort dirB) fun x => { x with urg := Tab.set (fun _ => none) (256 * 1 + arg) (some col) x.urg }) with tileRx := t.tileRx, press := t.press }) t) ∧
  (∀ (s : State) (dirB : Bool) (col arg : Nat) (copies : List (List Nat)),
     s.acts →
     s.tileLike = true →
     urgentVote (s.get (F.CH_LINK_STATUS_RX_LANES (rxPort dirB))) copies = some (2, arg) →
     ((Tab.get (fun _ => none) (s.port (rxPort dirB)).urg (256 * 2 + arg)).all (fun last => decide (last + 64 ≤ col)) = true) →
     ∃ t, exec (.safeDarkOff dirB ⟨col, copies⟩) s = .next t ∧ t.darkFlag dirB = false ∧ t.darkFlag (!dirB) = s.darkFlag (!dirB) ∧ t.get F.PR_SLOT_STATUS_DARK_SRC = t.darkSrc ∧ (Sent (if s.linked (txPort dirB) then [.urgent (txPort dirB) 2 arg] else []) t) ∧ Frame ([if dirB then F.CH_LINK_STATUS_DARK_B 0 else F.CH_LINK_STATUS_DARK_A 0, if dirB then F.CH_LINK_STATUS_DARK_B 1 else F.CH_LINK_STATUS_DARK_A 1, F.PR_SLOT_STATUS_DARK_SRC, F.PR_SLOT_STATUS_DARK]) s ({ (s.setPort (rxPort dirB) fun x => { x with urg := Tab.set (fun _ => none) (256 * 2 + arg) (some col) x.urg }) with press := t.press }) t) ∧
  (∀ (s : State) (dirB : Bool) (col arg last : Nat) (copies : List (List Nat)),
     s.acts →
     s.tileLike = true →
     urgentVote (s.get (F.CH_LINK_STATUS_RX_LANES (rxPort dirB))) copies = some (1, arg) →
     (Tab.get (fun _ => none) (s.port (rxPort dirB)).urg (256 + arg) = some last) →
     col < last + 64 →
     ∃ t, exec (.safeDarkOn dirB ⟨col, copies⟩) s = .next t ∧ Sent [] t ∧ Frame ([]) s (s) t) ∧
  (∀ (s : State) (dirB : Bool) (col : Nat) (copies : List (List Nat)),
     s.acts →
     urgentVote (s.get (F.CH_LINK_STATUS_RX_LANES (rxPort dirB))) copies = none →
     ∃ t, exec (.safeDarkOn dirB ⟨col, copies⟩) s = .next t ∧ Sent [] t ∧ Frame ([]) s (s) t) ∧
  (∀ (s : State) (dirB : Bool),
     s.acts →
     s.tileLike = true →
     (16 ≤ (if dirB then s.tileRx.ageB else s.tileRx.ageA)) →
     ∃ t, exec (.darkFlagTimeout dirB) s = .next t ∧ t.darkFlag dirB = false ∧ t.darkFlag (!dirB) = s.darkFlag (!dirB) ∧ Sent [] t ∧ Frame ([if dirB then F.CH_LINK_STATUS_DARK_B 0 else F.CH_LINK_STATUS_DARK_A 0, if dirB then F.CH_LINK_STATUS_DARK_B 1 else F.CH_LINK_STATUS_DARK_A 1, F.PR_SLOT_STATUS_DARK_SRC, F.PR_SLOT_STATUS_DARK]) s ({ s with press := t.press }) t) ∧
  (∀ (s : State) (p code arg : Nat) (copies : List (List Nat)),
     s.acts →
     s.hasPort p = true →
     urgentVote (s.get (F.CH_LINK_STATUS_RX_LANES p)) copies = some (code, arg) →
     code ≠ 1 ∧ code ≠ 2 ∧ code ≠ 0x10 ∧ code ≠ 0x11 →
     ∃ t, exec (.urgentSetBadCode p copies) s = .next t ∧ t.get (F.CH_CTRL_STAT_BAD p) = s.more (F.CH_CTRL_STAT_BAD p) ∧ Sent [] t ∧ Frame ([F.CH_CTRL_STAT_BAD p]) s (s) t) ∧
  (∀ (s : State),
     s.acts →
     s.isSender = false →
     ∃ t, exec (.safeDarkPinTile) s = .next t ∧ t.on F.PR_SLOT_STATUS_DARK = true ∧ (t.get F.PR_SLOT_STATUS_DARK_SRC).testBit 0 = true ∧ t.sys.safeDark = true ∧ t.press.lit = 0 ∧ Sent [] t ∧ Frame ([F.PR_SLOT_STATUS_DARK_SRC, F.PR_SLOT_STATUS_DARK]) s ({ s with sys := { s.sys with safeDark := true }, press := { s.press with lit := 0 } }) t) ∧
  (∀ (s : State),
     s.acts →
     s.isSender = true →
     ∃ t, exec (.safeDarkPinSender) s = .next t ∧ t.sys.safeDark = true ∧ (∀ p ∈ s.portsInUse, (t.port p).dark = true ∧ (t.port p).offLeft = 0) ∧ (Sent ((s.portsInUse.filter s.linked).map fun p => .urgent p 1 0) t) ∧ Frame ([]) s ({ s with sys := { s.sys with safeDark := true }, ports := t.ports }) t) ∧
  (∀ (s : State),
     s.acts →
     s.isSender = true →
     s.portsInUse.Nodup →
     ∃ t, exec (.safeDarkPinRelease) s = .next t ∧ t.sys.safeDark = false ∧ (∀ p ∈ s.portsInUse, (t.port p).dark = ((s.port p).dark && (s.port p).darkWritten)) ∧ (Sent ((s.portsInUse.filter fun p => s.linked p && (s.port p).dark && !(s.port p).darkWritten).map fun p => .urgent p 2 0) t) ∧ Frame ([]) s ({ s with sys := { s.sys with safeDark := false }, ports := t.ports }) t) ∧
  (∀ (s : State),
     s.acts →
     s.isSender = false →
     ∃ t, exec (.safeDarkPinRelease) s = .next t ∧ t.sys.safeDark = false ∧ (t.get F.PR_SLOT_STATUS_DARK_SRC).testBit 0 = false ∧ Sent [] t ∧ Frame ([F.PR_SLOT_STATUS_DARK_SRC, F.PR_SLOT_STATUS_DARK]) s ({ s with sys := { s.sys with safeDark := false }, press := t.press }) t) ∧
  (∀ (s : State) (p arg : Nat),
     s.acts →
     s.hasPort p = true →
     s.isSender = true →
     s.answersAt (atCH p 0x84) = true →
     ∃ t, exec (.chUrgTx p 1 arg) s = .next t ∧ (t.port p).dark = true ∧ (t.port p).darkWritten = true ∧ (Sent (if s.linked p then [.urgent p 1 0] else []) t) ∧ Frame ([]) s ({ s with ports := t.ports }) t) ∧
  (∀ (s : State) (p arg : Nat),
     s.acts →
     s.hasPort p = true →
     s.isSender = true →
     s.answersAt (atCH p 0x84) = true →
     s.sys.safeDark = false →
     (s.port p).dark = true →
     ∃ t, exec (.chUrgTx p 2 arg) s = .next t ∧ (t.port p).dark = false ∧ (t.port p).darkWritten = false ∧ (t.port p).offLeft = 4 ∧ (Sent (if s.linked p then [.urgent p 2 0] else []) t) ∧ Frame ([]) s ({ s with ports := t.ports }) t) ∧
  (∀ (s : State) (p col arg : Nat) (copies : List (List Nat)),
     s.acts →
     s.hasPort p = true →
     s.tileLike = true →
     urgentVote (s.get (F.CH_LINK_STATUS_RX_LANES p)) copies = some (17, arg) →
     ((Tab.get (fun _ => none) (s.port p).urg (256 * 17 + arg)).all (fun last => decide (last + 64 ≤ col)) = true) →
     arg.testBit 6 = (p == 1) →
     ∃ t, exec (.segdown p col copies) s = .next t ∧ ((if p = 1 then t.tileRx.downB else t.tileRx.downA) = true) ∧ t.dirUp (p == 1) = false ∧ (t.get (if p = 1 then F.CH_FO_TILE_DOWN_B 0 else F.CH_FO_TILE_DOWN_A 0) = 1) ∧ (Sent (if s.linked (txPort (p == 1)) then [.urgent (txPort (p == 1)) 0x11 arg] else []) t) ∧ Frame ([F.CH_FO_TILE_DOWN_A 0, F.CH_FO_TILE_DOWN_B 0, F.RD_BOOT_STATUS_TILE_STATE]) s ({ (s.setPort p fun x => { x with urg := Tab.set (fun _ => none) (256 * 17 + arg) (some col) x.urg }) with tileRx := t.tileRx }) t) ∧
  (∀ (s : State) (dirB : Bool),
     s.acts →
     (2 ≤ (if dirB then s.tileRx.upRunB else s.tileRx.upRunA)) →
     ∃ t, exec (.segdownClear dirB) s = .next t ∧ ((if dirB then t.tileRx.downB else t.tileRx.downA) = false) ∧ (t.get (if dirB then F.CH_FO_TILE_DOWN_B 0 else F.CH_FO_TILE_DOWN_A 0) = (if t.dirUp dirB then 0 else 1)) ∧ Sent [] t ∧ Frame ([F.CH_FO_TILE_DOWN_A 0, F.CH_FO_TILE_DOWN_B 0, F.RD_BOOT_STATUS_TILE_STATE]) s ({ s with tileRx := t.tileRx }) t)

/-- A TAKEOVER is kept by a tile for its frame and passed on, and tells a sender port the decision; a heartbeat is recorded for the referee and passed on; the acting referee changes ACTIVE where the active sender has been bad for HB_MISS frames and the other is good, and sends TAKEOVER for the next frame both ways; its first decision is the good sender, A first; a deputy that hears no referee for four frames acts. A port that is short of HMASK for HFRAMES frames is UNFIT; YIELD and the host's kick do as written. -/
def Obligations.Failover : Prop :=
  (∀ (s : State) (p col arg : Nat) (copies : List (List Nat)),
     s.acts →
     s.hasPort p = true →
     s.tileLike = true →
     s.isSender = false →
     urgentVote (s.get (F.CH_LINK_STATUS_RX_LANES p)) copies = some (16, arg) →
     ((Tab.get (fun _ => none) (s.port p).urg (256 * 16 + arg)).all (fun last => decide (last + 64 ≤ col)) = true) →
     (arg % 4 = 1 ∨ arg % 4 = 2) →
     ∃ t, exec (.takeover p col copies) s = .next t ∧ t.fo = { s.fo with takeover := some (arg % 4, argFrame arg s.raster.fnum) } ∧ (Sent (if s.linked (txPort (p == 1)) then [.urgent (txPort (p == 1)) 0x10 arg] else []) t) ∧ Frame ([]) s ({ (s.setPort p fun x => { x with urg := Tab.set (fun _ => none) (256 * 16 + arg) (some col) x.urg }) with fo := t.fo }) t) ∧
  (∀ (s : State) (p col arg : Nat) (copies : List (List Nat)),
     s.acts →
     p < 16 →
     s.isSender = true →
     urgentVote (s.get (F.CH_LINK_STATUS_RX_LANES p)) copies = some (16, arg) →
     (arg % 4 = 1 ∨ arg % 4 = 2) →
     s.get (F.CH_FO_STATUS_DECISION p) ≠ arg % 4 →
     ∃ t, exec (.takeover p col copies) s = .next t ∧ t.get (F.CH_FO_STATUS_DECISION p) = arg % 4 ∧ t.on (F.CH_FO_STATUS_TAKEOVER_EV p) = true ∧ t.get (F.CH_FO_COUNT_TO_N p) = s.more (F.CH_FO_COUNT_TO_N p) ∧ t.get (F.CH_FO_LAST_FNUM p) = argFrame arg s.raster.fnum ∧ (s.on (F.CH_FO_STATUS_TAKEOVER_EV p) = true ∨ t.pendingCause 29 = true) ∧ (t.port p).yielding = false ∧ Sent [] t ∧ Frame ([F.CH_FO_STATUS_DECISION p, F.CH_FO_STATUS_TAKEOVER_EV p, F.CH_FO_COUNT_TO_N p, F.CH_FO_LAST_FNUM p] ++ pendFlds) s ({ s with ports := t.ports }) t) ∧
  (∀ (s : State) (p e st health fnum arm T wallId mouldSeq : Nat) (w : PktEnd),
     s.acts →
     s.hasPort p = true →
     s.isSender = false →
     s.tileLike = true →
     w.good (rxHead w (heartbeatPkt e st health fnum arm T wallId mouldSeq)) →
     ∃ t, exec (.heartbeat ⟨p, w⟩ e st health fnum arm T wallId mouldSeq) s = .next t ∧ ((if e = 2 then t.fo.hbB else t.fo.hbA) = some ⟨st, fnum, wallId, mouldSeq⟩ ∧ (if e = 2 then t.fo.gotB else t.fo.gotA) = true) ∧ (t.get (if e = 2 then F.CH_FO_TILE_SINCE_B 0 else F.CH_FO_TILE_SINCE_A 0) = 0) ∧ (Sent (if s.linked (1 - p) then [.ctrl (1 - p) (rxHead w ⟨0x03, 0xFF, endCode e, 0, 4, [e, st] ++ leBytes 2 health ++ leBytes 4 fnum ++ [arm, 0] ++ leBytes 4 T ++ leBytes 4 wallId ++ leBytes 2 mouldSeq⟩)] else []) t) ∧ Frame ([if e = 2 then F.CH_FO_TILE_SINCE_B 0 else F.CH_FO_TILE_SINCE_A 0]) s ({ s with fo := t.fo }) t) ∧
  (∀ (s : State) (p e st health fnum arm T wallId mouldSeq : Nat) (w : PktEnd),
     s.acts →
     p < 16 →
     s.isSender = true →
     e ≠ s.senderEnd →
     wallId = s.get F.RD_MOULD_ID_WALL_ID ∧ mouldSeq = s.get F.RD_MOULD_INFO_MOULD_SEQ →
     (arm = 1 ∨ arm = 2) →
     T = s.get F.RD_REMOULD_FNUM_FNUM →
     w.good (rxHead w (heartbeatPkt e st health fnum arm T wallId mouldSeq)) →
     ∃ t, exec (.heartbeat ⟨p, w⟩ e st health fnum arm T wallId mouldSeq) s = .next t ∧ t.mould = { s.mould with partnerOk := true, partnerGo := s.mould.partnerGo || arm == 2 } ∧ t.upd = { s.upd with partnerOk := false } ∧ Sent [] t ∧ Frame ([]) s ({ s with mould := t.mould, upd := t.upd }) t) ∧
  (∀ (s : State) (p e st health fnum arm T wallId mouldSeq : Nat) (w : PktEnd),
     s.acts →
     p < 16 →
     s.isSender = true →
     e ≠ s.senderEnd →
     wallId = s.get F.RD_MOULD_ID_WALL_ID ∧ mouldSeq = s.get F.RD_MOULD_INFO_MOULD_SEQ →
     arm ≠ 1 ∧ arm ≠ 2 →
     w.good (rxHead w (heartbeatPkt e st health fnum arm T wallId mouldSeq)) →
     ∃ t, exec (.heartbeat ⟨p, w⟩ e st health fnum arm T wallId mouldSeq) s = .next t ∧ t.mould = { s.mould with partnerOk := false } ∧ (t.upd = { s.upd with partnerOk := decide ((arm = 3 ∨ arm = 4) ∧ T = s.get F.RD_FW_SCHED_FNUM_S) }) ∧ Sent [] t ∧ Frame ([]) s ({ s with mould := t.mould, upd := t.upd }) t) ∧
  (∀ (s : State) (p e st health fnum arm T wallId mouldSeq : Nat) (w : PktEnd),
     s.acts →
     s.hasPort p = true →
     s.isSender = true →
     (w.edb = true ∨ w.check ≠ pktCheck (rxHead w (heartbeatPkt e st health fnum arm T wallId mouldSeq))) →
     ∃ t, exec (.heartbeat ⟨p, w⟩ e st health fnum arm T wallId mouldSeq) s = .next t ∧ (t.get (F.CH_CTRL_STAT_BAD p) = (if w.edb then s.get (F.CH_CTRL_STAT_BAD p) else s.more (F.CH_CTRL_STAT_BAD p))) ∧ Sent [] t ∧ Frame ([F.CH_CTRL_STAT_BAD p]) s (s) t) ∧
  (∀ (s : State) (p a dec sinceA sinceB f : Nat) (w : PktEnd),
     s.acts →
     p < 16 →
     s.isSender = true →
     (dec = 0 ∨ dec = s.get (F.CH_FO_STATUS_DECISION p)) →
     w.good (rxSeq w (tileHbPkt a 1 dec sinceA sinceB f)) →
     ∃ t, exec (.tileHb ⟨p, w⟩ a 1 dec sinceA sinceB f) s = .next t ∧ t.get (F.CH_FO_STATUS_REFEREE p) = a % 2 ^ (F.CH_FO_STATUS_REFEREE p).width ∧ Sent [] t ∧ Frame ([F.CH_FO_STATUS_REFEREE p]) s (s) t) ∧
  (∀ (s : State) (p a dec sinceA sinceB f : Nat) (w : PktEnd),
     s.acts →
     p < 16 →
     s.isSender = true →
     (dec = 1 ∨ dec = 2) →
     dec ≠ s.get (F.CH_FO_STATUS_DECISION p) →
     w.good (rxSeq w (tileHbPkt a 1 dec sinceA sinceB f)) →
     ∃ t, exec (.tileHb ⟨p, w⟩ a 1 dec sinceA sinceB f) s = .next t ∧ t.get (F.CH_FO_STATUS_REFEREE p) = a % 2 ^ (F.CH_FO_STATUS_REFEREE p).width ∧ (t.port p).yielding = false ∧ t.get (F.CH_FO_STATUS_DECISION p) = dec ∧ t.on (F.CH_FO_STATUS_TAKEOVER_EV p) = true ∧ t.get (F.CH_FO_COUNT_TO_N p) = s.more (F.CH_FO_COUNT_TO_N p) ∧ t.get (F.CH_FO_LAST_FNUM p) = f % 2 ^ 32 ∧ Sent [] t ∧ Frame ([F.CH_FO_STATUS_REFEREE p, F.CH_FO_STATUS_DECISION p, F.CH_FO_STATUS_TAKEOVER_EV p, F.CH_FO_COUNT_TO_N p, F.CH_FO_LAST_FNUM p] ++ pendFlds) s ({ s with ports := t.ports }) t) ∧
  (∀ (s : State) (p a dec sinceA sinceB f : Nat) (w : PktEnd),
     s.acts →
     s.hasPort p = true →
     s.isSender = false →
     s.tileLike = true →
     s.on (F.CH_TRAIN_STATE_END 1) = false →
     w.good (rxSeq w (tileHbPkt a 0 dec sinceA sinceB f)) →
     ∃ t, exec (.tileHb ⟨p, w⟩ a 0 dec sinceA sinceB f) s = .next t ∧ (Sent (if s.linked (1 - p) then [.whey (1 - p) (rxSeq w ⟨0x84, 0xFE, a, 0, 0, [0, dec, sinceA, sinceB] ++ leBytes 4 f ++ [0, 0, 0, 0]⟩)] else []) t) ∧ Frame ([]) s (s) t) ∧
  (∀ (s : State),
     let r0 : Raster := if s.raster.running then s.raster.reach s.refDeadline else s.raster
     s.acts →
     s.noSwapWaits →
     s.actsReferee = true →
     s.raster.refDone = false →
     (s.isReferee = false ∨ s.fo.refInit = false) →
     s.foActive = 1 →
     hbGood s.fo.hbA s.fo.gotA s = false →
     hbGood s.fo.hbB s.fo.gotB s = true →
     s.hbMiss ≤ s.fo.badA + 1 →
     ∃ t, exec (.refereeDeadline) s = .next t ∧ t.foActive = 2 ∧ t.get (F.CH_FO_TILE_EV_TAKEOVER_N 0) = s.more (F.CH_FO_TILE_EV_TAKEOVER_N 0) ∧ t.on (F.CH_FO_TILE_EV_TAKEOVER_EV 0) = true ∧ t.get (F.CH_FO_LAST_TO_FNUM 0) = s.raster.fnum % 2 ^ 32 ∧ t.fo = { s.fo with badA := s.fo.badA + 1, badB := 0, adopted := true } ∧ (Sent ((if s.linked 0 then [.urgent 0 0x10 (4 * ((s.raster.fnum + 1) % 64) + 2)] else []) ++ (if s.linked 1 then [.urgent 1 0x10 (4 * ((s.raster.fnum + 1) % 64) + 2)] else [])) t) ∧ Frame ([F.CH_FO_TILE_ACTIVE 0, F.CH_FO_TILE_EV_TAKEOVER_EV 0, F.CH_FO_TILE_EV_TAKEOVER_N 0, F.CH_FO_LAST_TO_FNUM 0] ++ pendFlds) s ({ s with fo := t.fo, raster := { r0 with refDone := true } }) t) ∧
  (∀ (s : State),
     let r0 : Raster := if s.raster.running then s.raster.reach s.refDeadline else s.raster
     s.acts →
     s.noSwapWaits →
     s.actsReferee = true →
     s.raster.refDone = false →
     (s.isReferee = false ∨ s.fo.refInit = false) →
     s.foActive = 1 →
     hbGood s.fo.hbA s.fo.gotA s = true →
     hbGood s.fo.hbB s.fo.gotB s = true →
     hbYields s.fo.hbA s.fo.gotA s = false →
     ∃ t, exec (.refereeDeadline) s = .next t ∧ t.fo = { s.fo with badA := 0, badB := 0 } ∧ Sent [] t ∧ Frame ([]) s ({ s with fo := t.fo, raster := { r0 with refDone := true } }) t) ∧
  (∀ (s : State),
     s.acts →
     s.noSwapWaits →
     (s.actsReferee = false ∨ s.raster.refDone = true) →
     ∃ t, exec (.refereeDeadline) s = .next t ∧ Sent [] t ∧ Frame ([]) s ({ s with raster := if s.raster.running then s.raster.reach s.refDeadline else s.raster }) t) ∧
  (∀ (s : State),
     let x : Nat := if hbGood s.fo.hbA s.fo.gotA s = true then 1 else 2
     s.acts →
     s.isReferee = true →
     s.tileRx.ready = true →
     s.fo.refInit = true →
     4 ≤ s.fo.refWait →
     (hbGood s.fo.hbA s.fo.gotA s = true ∨ hbGood s.fo.hbB s.fo.gotB s = true) →
     ∃ t, exec (.refereeFirstDecision) s = .next t ∧ t.foActive = x ∧ t.fo.adopted = true ∧ t.fo.refInit = false ∧ (Sent ((if s.linked 0 then [.urgent 0 0x10 (4 * ((s.raster.fnum + 1) % 64) + x)] else []) ++ (if s.linked 1 then [.urgent 1 0x10 (4 * ((s.raster.fnum + 1) % 64) + x)] else [])) t) ∧ Frame ([F.CH_FO_TILE_ACTIVE 0, F.CH_FO_TILE_EV_TAKEOVER_EV 0, F.CH_FO_TILE_EV_TAKEOVER_N 0, F.CH_FO_LAST_TO_FNUM 0] ++ pendFlds) s ({ s with fo := { s.fo with adopted := true, refInit := false } }) t) ∧
  (∀ (s : State),
     s.acts →
     s.isDeputy = true →
     s.tileRx.ready = true →
     s.fo.acting = false →
     4 ≤ s.fo.refSilent →
     ∃ t, exec (.deputyTimeout) s = .next t ∧ t.get (F.CH_FO_TILE_EV_DEPUTY_EV 0) = 1 ∧ t.get (F.CH_FO_TILE_ROLE 0) = 3 ∧ t.actsReferee = true ∧ Sent [] t ∧ Frame ([F.CH_FO_TILE_EV_DEPUTY_EV 0, F.CH_FO_TILE_ROLE 0]) s ({ s with fo := { s.fo with acting := true, adopted := true, badA := 0, badB := 0 } }) t) ∧
  (∀ (s : State),
     s.acts →
     s.on F.RD_FO_KICK_TIMEOUT_MS = true →
     ∃ t, exec (.hostKickTimeout) s = .next t ∧ t.fo.kickExpired = true ∧ Sent [] t ∧ Frame ([]) s ({ s with fo := t.fo }) t) ∧
  (∀ (s : State) (val : Word),
     s.rindActs →
     s.wordOk 0x304 val = true →
     ∃ t, exec (.foKick val) s = .next t ∧ t.get F.RD_FO_KICK_TIMEOUT_MS = val.toNat / 65536 ∧ t.fo.kickExpired = (s.fo.kickExpired && !val.getLsbD 0) ∧ Sent [] t ∧ Frame ([F.RD_FO_KICK_TIMEOUT_MS]) s ({ s with fo := t.fo }) t) ∧
  (∀ (s : State) (p : Nat),
     s.acts →
     p < 16 →
     s.isSender = true →
     (s.port p).unfit = false →
     s.hFrames p ≤ (s.port p).hBad →
     ∃ t, exec (.unfitEntry p) s = .next t ∧ ((t.port p).unfit = true ∧ t.get (F.CH_FO_STATUS_UNFIT_EV p) = (if hbState p t = 4 ∧ s.get (F.CH_FO_STATUS_STATE p) ≠ 4 then 1 else s.get (F.CH_FO_STATUS_UNFIT_EV p)) ∧ t.get (F.CH_FO_STATUS_STATE p) = hbState p t) ∧ Sent [] t ∧ Frame ([F.CH_FO_STATUS_UNFIT_EV p, F.CH_FO_STATUS_STATE p]) s ({ s with ports := t.ports }) t) ∧
  (∀ (s : State) (p : Nat),
     s.acts →
     p < 16 →
     s.isSender = true →
     s.answersAt (atCH p 0xD0) = true →
     (s.senderEnd = 3 ∨ s.get (F.CH_FO_STATUS_DECISION p) = s.senderEnd) →
     ∃ t, exec (.yield p) s = .next t ∧ (t.port p).yielding = true ∧ t.get (F.CH_FO_STATUS_STATE p) = hbState p t ∧ (t.get (F.CH_FO_STATUS_UNFIT_EV p) = (if hbState p t = 4 ∧ s.get (F.CH_FO_STATUS_STATE p) ≠ 4 then 1 else s.get (F.CH_FO_STATUS_UNFIT_EV p))) ∧ Sent [] t ∧ Frame ([F.CH_FO_STATUS_UNFIT_EV p, F.CH_FO_STATUS_STATE p]) s ({ s with ports := t.ports }) t)

/-- A segment is read from the ten-bit columns received: every one is counted; an own one that passes every test is taken into the row of its phase on the picture direction, one with a failed check is a local error of the port, one for another tile goes on symbol for symbol, ended in EDB where it was bad. A reception that covered every row becomes the last frame with no repeats. A spare lane with too many errors is retired and the transmitter told; too many port errors set PORT_CRC and ask for a rotation. A port leaves LINKED on one of the conditions of R164, and on none else by LINK_LOSS: it goes to COMMA or DETECT with LOCK_LOST, its lanes to training and its maps empty. -/
def Obligations.SegmentsAndLinks : Prop :=
  (∀ (s : State) (p : Nat) (cols : List (List Nat)) (r0 r1 r2 r3 : Bool) (r : SegmentIn),
     let g : Segment := r.seg
     let k : Nat := g.phase * 65536 + g.row
     s.acts →
     s.hasPort p = true →
     s.isTile = true →
     s.linked p = true →
     readSegment (s.get (F.CH_LINK_STATUS_RX_LANES p)) [r0, r1, r2, r3] (s.rxCols p cols) = some r →
     skpSets (s.get (F.CH_LINK_STATUS_RX_LANES p)) [r0, r1, r2, r3] (s.rxCols p cols) = 0 →
     r.eop = true ∧ r.crcOk = true ∧ r.lenOk = true ∧ r.viol = [] →
     s.addr ≠ 0 ∧ r.seg.tile = s.addr →
     s.tileRx.ready = true ∧ s.tileRx.rxOk = true ∧ s.links.wheyStopped = false →
     s.headerGood r.seg = true ∧ r.seg.phase < s.phases →
     ∃ t, exec (.segmentRx p cols r0 r1 r2 r3) s = .next t ∧ t.get (F.CH_SEG_COUNT_SEGS p) = s.wrap (F.CH_SEG_COUNT_SEGS p) ∧ ((p == 1) = s.tileRx.dirB → Tab.get (fun _ => []) t.tileRx.cur k = rowPut (Tab.get (fun _ => []) s.tileRx.cur k) s.tile.w g.col (g.words.map fun w => g.code * 2 ^ 36 + w % 2 ^ 36)) ∧ (Tab.get (fun _ => []) (if p = 1 then t.tileRx.coverB else t.tileRx.coverA) k = spanIns g.col g.words.length (Tab.get (fun _ => []) (if p = 1 then s.tileRx.coverB else s.tileRx.coverA) k)) ∧ Sent [] t ∧ (∀ k ∈ List.range (s.get (F.CH_LINK_STATUS_RX_LANES p)), k ∉ r.viol → t.get (F.HP_LANE_STATE_CDR_LOCK (chainLane p (s.get (calMapRx p k)))) = 1) ∧ Frame (F.CH_SEG_COUNT_SEGS p :: (List.range (s.get (F.CH_LINK_STATUS_RX_LANES p))).map (fun k => F.HP_LANE_STATE_CDR_LOCK (chainLane p (s.get (calMapRx p k))))) s ({ s with tileRx := t.tileRx }) t) ∧
  (∀ (s : State) (p : Nat) (cols : List (List Nat)) (r0 r1 r2 r3 : Bool) (r : SegmentIn),
     s.acts →
     s.hasPort p = true →
     s.isTile = true →
     s.linked p = true →
     readSegment (s.get (F.CH_LINK_STATUS_RX_LANES p)) [r0, r1, r2, r3] (s.rxCols p cols) = some r →
     skpSets (s.get (F.CH_LINK_STATUS_RX_LANES p)) [r0, r1, r2, r3] (s.rxCols p cols) = 0 →
     (s.addr = 0 ∨ r.seg.tile ≠ s.addr) →
     (r.eop = false ∨ (r.crcOk = true ∧ r.lenOk = true ∧ r.viol = [])) →
     symViolation ∉ r.syms →
     ∃ t, exec (.segmentRx p cols r0 r1 r2 r3) s = .next t ∧ t.get (F.CH_SEG_COUNT_SEGS p) = s.wrap (F.CH_SEG_COUNT_SEGS p) ∧ (t.get (F.CH_SEG_ERR_UPSTREAM p) = (if r.eop then s.get (F.CH_SEG_ERR_UPSTREAM p) else s.more (F.CH_SEG_ERR_UPSTREAM p))) ∧ (Sent (if s.linked (1 - p) then [.relay (1 - p) (r.syms.dropLast ++ [if r.eop then symEop else symEdb])] else []) t) ∧ (∀ k ∈ List.range (s.get (F.CH_LINK_STATUS_RX_LANES p)), k ∉ r.viol → t.get (F.HP_LANE_STATE_CDR_LOCK (chainLane p (s.get (calMapRx p k)))) = 1) ∧ Frame ([F.CH_SEG_COUNT_SEGS p, F.CH_SEG_ERR_UPSTREAM p] ++ (List.range (s.get (F.CH_LINK_STATUS_RX_LANES p))).map (fun k => F.HP_LANE_STATE_CDR_LOCK (chainLane p (s.get (calMapRx p k))))) s (s) t) ∧
  (∀ (s : State) (p : Nat) (cols : List (List Nat)) (r0 r1 r2 r3 : Bool) (r : SegmentIn),
     s.acts →
     s.hasPort p = true →
     s.isTile = true →
     s.linked p = true →
     readSegment (s.get (F.CH_LINK_STATUS_RX_LANES p)) [r0, r1, r2, r3] (s.rxCols p cols) = some r →
     skpSets (s.get (F.CH_LINK_STATUS_RX_LANES p)) [r0, r1, r2, r3] (s.rxCols p cols) = 0 →
     s.addr ≠ 0 ∧ r.seg.tile = s.addr →
     (r.eop = true ∧ r.viol = [] ∧ (r.crcOk = false ∨ r.lenOk = false)) →
     ∃ t, exec (.segmentRx p cols r0 r1 r2 r3) s = .next t ∧ t.get (F.CH_SEG_ERR_LOCAL p) = s.more (F.CH_SEG_ERR_LOCAL p) ∧ (t.port p).portErr = (s.wrap (F.CH_SEG_COUNT_SEGS p) :: (s.port p).portErr).take 17 ∧ Sent [] t ∧ (∀ k ∈ List.range (s.get (F.CH_LINK_STATUS_RX_LANES p)), k ∉ r.viol → t.get (F.HP_LANE_STATE_CDR_LOCK (chainLane p (s.get (calMapRx p k)))) = 1) ∧ Frame ([F.CH_SEG_COUNT_SEGS p, F.CH_SEG_ERR_LOCAL p] ++ (List.range (s.get (F.CH_LINK_STATUS_RX_LANES p))).map (fun k => F.HP_LANE_STATE_CDR_LOCK (chainLane p (s.get (calMapRx p k))))) s ({ s with tileRx := { s.tileRx with segErrs := min (s.tileRx.segErrs + 1) 0xFFFF }, ports := t.ports }) t) ∧
  (∀ (s : State),
     s.acts →
     s.isTile = true →
     s.tileRx.rx = true ∧ s.tileRx.rxOk = true →
     max s.tileRx.ovlK 1 ≤ ahead (s.raster.fnum + 1) s.tileRx.fnum →
     s.uncovered s.tileRx.dirB = [] →
     0 < s.phases * s.tile.h →
     ∃ t, exec (.frameReceptionEnd [] []) s = .next t ∧ t.tileRx.haveLast = true ∧ t.tileRx.lastF = s.tileRx.fnum ∧ t.tileRx.last = s.tileRx.cur ∧ t.tileRx.rx = false ∧ t.tileRx.wholeRepeat = false ∧ t.get (F.CH_LINE_REPEAT_LAST 0) = 0 ∧ t.get (F.CH_LINE_REPEAT_LAST 1) = 0 ∧ t.get (F.CH_FO_TILE_RUN 0) = 0 ∧ t.get (F.CH_FO_TILE_LOSS 0) = 0 ∧ Sent [] t ∧ Frame ([F.CH_LINE_REPEAT_LAST 0, F.CH_LINE_REPEAT_LAST 1, F.CH_FO_TILE_RUN 0, F.CH_FO_TILE_LOSS 0]) s ({ s with tileRx := t.tileRx, fo := t.fo }) t) ∧
  (∀ (s : State),
     let m : List (Nat × Nat) := s.uncovered s.tileRx.dirB
     s.acts →
     s.isTile = true →
     s.tileRx.rx = true ∧ s.tileRx.haveLast = true →
     max s.tileRx.ovlK 1 ≤ ahead (s.raster.fnum + 1) s.tileRx.fnum →
     ∃ t, exec (.frameReceptionEnd [] []) s = .next t ∧ t.get (F.CH_LINE_REPEAT_LAST 0) = min m.length 0xFFFF ∧ t.get (F.CH_LINE_REPEAT_TOTAL 0) = min (s.get (F.CH_LINE_REPEAT_TOTAL 0) + m.length) (2 ^ (F.CH_LINE_REPEAT_TOTAL 0).width - 1) ∧ (∀ e ∈ m, Tab.get (fun _ => []) t.tileRx.last (e.1 * 65536 + e.2) = Tab.get (fun _ => []) s.tileRx.last (e.1 * 65536 + e.2)) ∧ t.tileRx.rx = false ∧ t.tileRx.lastF = s.tileRx.fnum ∧ Sent [] t) ∧
  (∀ (s : State) (p i : Nat),
     s.acts →
     s.hasPort p = true →
     i < 5 →
     s.linked p = true →
     s.rxIn p lnSpare = [i] →
     (overRate (Tab.get (fun _ => []) (s.port p).laneErr i) = true) →
     (s.cal p).step = none →
     s.log.queue.length < 64 →
     ∃ t, exec (.laneRetire p i) s = .next t ∧ t.get (F.HP_LANE_STATE_RXS (chainLane p i)) = lnRetired ∧ t.get (F.CH_LANE_MAP_RX_SPARE p) = 0 ∧ t.get (F.HP_CAL_MAP_RX_SPARE p) = 7 ∧ (t.get (F.CH_LINK_STATUS_RETIRED p)).testBit i = true ∧ t.log.queue.length = s.log.queue.length + 1 ∧ Sent [.ctrl p (laneCmd s.ownCode cmdRetire (((s.cal p).lastId + 1) % 256) 0 0 i 0)] t ∧ t.get (F.HP_LANE_STATE_SIGDET (chainLane p i)) = 0 ∧ t.get (F.HP_LANE_STATE_CDR_LOCK (chainLane p i)) = 0 ∧ Frame ([F.HP_LANE_STATE_RXS (chainLane p i), F.HP_LANE_STATE_SIGDET (chainLane p i), F.HP_LANE_STATE_CDR_LOCK (chainLane p i), F.CH_LANE_MAP_RX_SPARE p, F.HP_CAL_MAP_RX_SPARE p, F.CH_LINK_STATUS_RETIRED p, F.HP_CAL_STATUS_IN_PLACE p]) s ({ s with log := t.log, cals := t.cals, ports := t.ports }) t) ∧
  (∀ (s : State) (p : Nat),
     s.acts →
     s.hasPort p = true →
     overRate (s.port p).portErr = true →
     s.on (F.CH_LINK_STATUS_PORT_CRC p) = false →
     ∃ t, exec (.portCrc p) s = .next t ∧ t.get (F.CH_LINK_STATUS_PORT_CRC p) = 1 ∧ t.get (F.HP_CAL_STATUS_REQUESTED p) = 1 ∧ (t.cal p).requested = true ∧ Sent [] t ∧ Frame ([F.CH_LINK_STATUS_PORT_CRC p, F.HP_CAL_STATUS_REQUESTED p]) s ({ s with cals := t.cals }) t) ∧
  (∀ (s : State) (p : Nat) (e : LossSigns),
     s.acts →
     ((e.viols ≠ [] ∧ e.viols.length = s.get (F.CH_LINK_STATUS_RX_LANES p) ∧ ∀ v ∈ e.viols, 32 < v) ∨ 2 ≤ e.unaligned ∨ 9352 ≤ e.sinceSkp ∨ (e.silent = true ∧ ∀ i ∈ s.rxIn p lnActive, s.on (F.HP_LANE_STATE_SIGDET (chainLane p i)) = false)) →
     p < 16 →
     s.isSender = true →
     s.linked p = true →
     (s.cal p).step = none →
     ∃ t, exec (.linkLoss p e) s = .next t ∧ (t.train p = (if s.energy p then trComma else trDetect)) ∧ (t.on (F.CH_LINK_STATUS_LOCK_LOST p) = true ∧ (s.on (F.CH_LINK_STATUS_LOCK_LOST p) = true ∨ t.pendingCause 35 = true)) ∧ t.get (F.CH_LANE_MAP_RX_ACTIVE p) = 0 ∧ t.get (F.CH_LANE_MAP_TX_ACTIVE p) = 0 ∧ t.get (F.CH_LINK_STATUS_RX_LANES p) = 0 ∧ (∀ i ∈ List.range 5, t.get (F.HP_LANE_STATE_RXS (chainLane p i)) = lnTrain ∧ t.get (F.HP_LANE_STATE_TXS (chainLane p i)) = lnTrain) ∧ (t.get (F.CH_TRAIN_COUNT_ATTEMPTS p) = (if s.energy p then s.more (F.CH_TRAIN_COUNT_ATTEMPTS p) else s.get (F.CH_TRAIN_COUNT_ATTEMPTS p))) ∧ (∀ n ∈ groupLanes p, t.get (F.HP_LANE_STATE_CDR_LOCK n) = 0 ∧ (t.lane n).before = none ∧ (t.lane n).aim = none) ∧ t.get (F.HP_GROUP_STATE_RATE p) = 1 ∧ t.get (F.CH_TRAIN_STATE_RATE p) = 0 ∧ (t.port p).urg = [] ∧ (t.port p).txIdle = false ∧ (t.cal p).txDrop = none ∧ (Sent ((List.range 5).map fun i => .training p i (s.trainSet p tsA i) (s.txInv (chainLane p i))) t) ∧ Frame ([F.CH_LINK_STATUS_LOCK_LOST p, F.CH_TRAIN_STATE_STATE p, F.CH_TRAIN_STATE_RATE p, F.CH_TRAIN_COUNT_ATTEMPTS p, F.CH_LANE_MAP_RX_ACTIVE p, F.CH_LANE_MAP_RX_SPARE p, F.CH_LANE_MAP_TX_ACTIVE p, F.CH_LANE_MAP_TX_SPARE p, F.CH_LINK_STATUS_RX_LANES p, F.CH_LINK_STATUS_TX_LANES p, whole (atGROUP p 0x1C), F.RD_BOOT_STATUS_TILE_STATE] ++ pendFlds ++ (groupLanes p).flatMap (fun n => [F.HP_LANE_STATE_RXS n, F.HP_LANE_STATE_TXS n, F.HP_LANE_STATE_CDR_LOCK n]) ++ [F.HP_GROUP_STATE_RATE p]) s ({ s with ports := t.ports, cals := t.cals, lanes := t.lanes, tileRx := { s.tileRx with ready := t.tileRx.ready } }) t) ∧
  (∀ (s : State) (p : Nat) (e : LossSigns),
     s.acts →
     p < 16 →
     (e.viols = [] ∨ e.viols.length ≠ s.get (F.CH_LINK_STATUS_RX_LANES p) ∨ ∃ v ∈ e.viols, v ≤ 32) →
     e.unaligned < 2 ∧ e.sinceSkp < 9352 →
     (e.silent = false ∨ ∃ i ∈ s.rxIn p lnActive, s.on (F.HP_LANE_STATE_SIGDET (chainLane p i)) = true) →
     ∃ t, exec (.linkLoss p e) s = .next t ∧ Sent [] t ∧ Frame ([]) s (s) t) ∧
  (∀ (s : State) (p : Nat),
     s.acts →
     p < 16 →
     s.isSender = true →
     s.answersAt (atCH p 0x88) = true →
     s.linked p = true →
     (s.cal p).step = none →
     ∃ t, exec (.retrain p) s = .next t ∧ (t.train p = (if s.energy p then trComma else trDetect)) ∧ t.on (F.CH_LINK_STATUS_LOCK_LOST p) = true ∧ t.get (F.CH_LANE_MAP_RX_ACTIVE p) = 0 ∧ t.get (F.CH_LANE_MAP_TX_ACTIVE p) = 0 ∧ (t.get (F.CH_TRAIN_COUNT_ATTEMPTS p) = (if s.energy p then s.more (F.CH_TRAIN_COUNT_ATTEMPTS p) else s.get (F.CH_TRAIN_COUNT_ATTEMPTS p))) ∧ (∀ n ∈ groupLanes p, t.get (F.HP_LANE_STATE_CDR_LOCK n) = 0 ∧ (t.lane n).before = none ∧ (t.lane n).aim = none) ∧ t.get (F.HP_GROUP_STATE_RATE p) = 1 ∧ t.get (F.CH_TRAIN_STATE_RATE p) = 0 ∧ (t.port p).urg = [] ∧ (t.port p).txIdle = false ∧ (t.cal p).txDrop = none ∧ (Sent ((List.range 5).map fun i => .training p i (s.trainSet p tsA i) (s.txInv (chainLane p i))) t) ∧ Frame ([F.CH_LINK_STATUS_LOCK_LOST p, F.CH_TRAIN_STATE_STATE p, F.CH_TRAIN_STATE_RATE p, F.CH_TRAIN_COUNT_ATTEMPTS p, F.CH_LANE_MAP_RX_ACTIVE p, F.CH_LANE_MAP_RX_SPARE p, F.CH_LANE_MAP_TX_ACTIVE p, F.CH_LANE_MAP_TX_SPARE p, F.CH_LINK_STATUS_RX_LANES p, F.CH_LINK_STATUS_TX_LANES p, whole (atGROUP p 0x1C), F.RD_BOOT_STATUS_TILE_STATE] ++ pendFlds ++ (groupLanes p).flatMap (fun n => [F.HP_LANE_STATE_RXS n, F.HP_LANE_STATE_TXS n, F.HP_LANE_STATE_CDR_LOCK n]) ++ [F.HP_GROUP_STATE_RATE p]) s ({ s with ports := t.ports, cals := t.cals, lanes := t.lanes, tileRx := { s.tileRx with ready := t.tileRx.ready } }) t)

/-- A sender's unicast is answered by its ACK or RD_RESP, which ends it and reports DONE; without an answer it is sent again with RETRY, as is a broadcast that not every READY tile reported. A tile executes a REG_WR, a REG_RD, a GO and a REMOULD that came whole once, answers a unicast, passes on a broadcast and what is for another tile with its header as it came, answers a repeated SEQ without executing it, and answers a payload of another form with result 2. A packet with a wrong check value, or ended in EDB, is not executed and goes on ended in EDB. A packet of an unknown type is counted and acknowledged with result 1. CH_CTRL_TX_CMD sends a packet of a known type or ends in state 5, and CH_CTRL_RX_POP gives the oldest packet received. -/
def Obligations.ControlPackets : Prop :=
  (∀ (s : State) (p src seq dest result : Nat) (f : InFlight) (w : PktEnd),
     s.acts →
     p < 16 →
     s.isSender = true →
     (Tab.get (fun _ => none) (s.port p).unacked src = some f) →
     f.pkt.seq = seq ∧ f.host = true →
     s.hop p = none →
     (s.port p).uniWait = [] →
     w.good (rxSeq w (ackPkt src dest seq result)) →
     ∃ t, exec (.ack ⟨p, w⟩ src seq dest result) s = .next t ∧ t.get (F.CH_CTRL_TX_RESULT_STATE p) = 3 ∧ t.get (F.CH_CTRL_TX_RESULT_RESULT p) = result % 2 ^ (F.CH_CTRL_TX_RESULT_RESULT p).width ∧ t.get (F.CH_CTRL_TX_RESULT_VALID p) = 1 ∧ t.get (F.CH_CTRL_TX_RESULT_SEQ p) = s.wrap (F.CH_CTRL_TX_RESULT_SEQ p) ∧ (Tab.get (fun _ => none) (t.port p).unacked src = none) ∧ Sent [] t ∧ Frame ([F.CH_CTRL_TX_RESULT_STATE p, F.CH_CTRL_TX_RESULT_RESULT p, F.CH_CTRL_TX_RESULT_VALID p, F.CH_CTRL_TX_RESULT_SEQ p]) s ({ s with ports := t.ports }) t) ∧
  (∀ (s : State) (p src seq dest result : Nat) (w : PktEnd),
     s.acts →
     s.hasPort p = true →
     s.isSender = false →
     s.tileLike = true →
     ((s.addr = 0 ∨ dest ≠ s.addr) ∧ dest ≠ 0) →
     w.good (rxSeq w (ackPkt src dest seq result)) →
     ∃ t, exec (.ack ⟨p, w⟩ src seq dest result) s = .next t ∧ (Sent (if s.linked (1 - p) then [.ctrl (1 - p) (rxSeq w (ackPkt src dest seq result))] else []) t) ∧ Frame ([]) s (s) t) ∧
  (∀ (s : State) (p src seq dest : Nat) (vals : List Nat) (f : InFlight) (w : PktEnd),
     s.acts →
     p < 16 →
     s.isSender = true →
     (Tab.get (fun _ => none) (s.port p).unacked src = some f) →
     f.pkt.seq = seq ∧ f.host = true →
     (s.port p).uniWait = [] →
     w.good (rxFlags w (rdRespPkt src dest seq vals)) →
     ∃ t, exec (.rdResp ⟨p, w⟩ src seq dest vals) s = .next t ∧ t.get (F.CH_CTRL_TX_RESULT_STATE p) = 3 ∧ t.get (F.CH_CTRL_TX_RESULT_RESULT p) = 0 ∧ t.get (F.CH_CTRL_TX_RESULT_VALID p) = 1 ∧ ((t.port p).rxq = (s.port p).rxq ++ [rxFlags w (rdRespPkt src dest seq vals)] ∧ Tab.get (fun _ => none) (t.port p).unacked src = none) ∧ Sent [] t ∧ Frame ([F.CH_CTRL_TX_RESULT_STATE p, F.CH_CTRL_TX_RESULT_RESULT p, F.CH_CTRL_TX_RESULT_VALID p, F.CH_CTRL_TX_RESULT_SEQ p]) s ({ s with ports := t.ports }) t) ∧
  (∀ (s : State) (p dest : Nat) (f : InFlight),
     s.acts →
     s.hasPort p = true →
     (Tab.get (fun _ => none) (s.port p).unacked dest = some f) →
     f.resends < 3 →
     s.hop p = none →
     ∃ t, exec (.ctrlRetryTimeout p dest) s = .next t ∧ t.get (F.CH_CTRL_STAT_RETRIES p) = s.more (F.CH_CTRL_STAT_RETRIES p) ∧ (Tab.get (fun _ => none) (t.port p).unacked dest = some { f with pkt := { f.pkt with flags := f.pkt.flags ||| 2 }, resends := f.resends + 1 }) ∧ Sent [.ctrl p { f.pkt with flags := f.pkt.flags ||| 2 }] t ∧ Frame ([F.CH_CTRL_STAT_RETRIES p]) s ({ s with ports := t.ports }) t) ∧
  (∀ (s : State) (p dest : Nat) (f : InFlight),
     s.acts →
     s.hasPort p = true →
     (Tab.get (fun _ => none) (s.port p).unacked dest = some f) →
     3 ≤ f.resends ∧ f.host = true →
     s.hop p = none →
     (s.port p).uniWait = [] →
     ∃ t, exec (.ctrlRetryTimeout p dest) s = .next t ∧ t.get (F.CH_CTRL_STAT_NOACK p) = s.more (F.CH_CTRL_STAT_NOACK p) ∧ t.get (F.CH_CTRL_TX_RESULT_STATE p) = 4 ∧ t.get (F.CH_CTRL_TX_RESULT_VALID p) = 1 ∧ (Tab.get (fun _ => none) (t.port p).unacked dest = none) ∧ Sent [] t ∧ Frame ([F.CH_CTRL_STAT_NOACK p, F.CH_CTRL_TX_RESULT_STATE p, F.CH_CTRL_TX_RESULT_RESULT p, F.CH_CTRL_TX_RESULT_VALID p, F.CH_CTRL_TX_RESULT_SEQ p]) s ({ s with ports := t.ports }) t) ∧
  (∀ (s : State) (p : Nat) (f : InFlight),
     s.acts →
     s.hasPort p = true →
     (s.port p).bcast = some f →
     3 ≤ f.frames →
     f.resends < 3 →
     ∃ t, exec (.broadcastConfirmTimeout p) s = .next t ∧ t.get (F.CH_CTRL_STAT_RETRIES p) = s.more (F.CH_CTRL_STAT_RETRIES p) ∧ (t.port p).bcast = some { f with pkt := { f.pkt with flags := f.pkt.flags ||| 2 }, resends := f.resends + 1, frames := 0 } ∧ Sent [.ctrl p { f.pkt with flags := f.pkt.flags ||| 2 }] t ∧ Frame ([F.CH_CTRL_STAT_RETRIES p]) s ({ s with ports := t.ports }) t) ∧
  (∀ (s : State) (p src seq dest : Nat) (v : Word) (w : PktEnd),
     s.acts →
     s.hasPort p = true →
     s.isTile = true →
     dest ≠ 0xFF ∧ dest = s.addr ∧ dest ≠ 0 →
     s.duplicate p src seq dest = false →
     w.good (rxFlags w ⟨0x10, dest, src, seq, 0, leBytes 4 F.RD_IRQ_EN0_EN.addr ++ leBytes 4 v.toNat⟩) →
     ∃ t, exec (.regWr p src seq dest (leBytes 4 F.RD_IRQ_EN0_EN.addr ++ leBytes 4 v.toNat) w) s = .next t ∧ t.get F.RD_IRQ_EN0_EN = v.toNat ∧ (Tab.get (fun _ => none) (t.port p).lastExec src = some seq) ∧ (Sent (if s.linked p && !(s.port p).txGivenUp then [.ctrl p (ackPkt s.addr src seq 0)] else []) t) ∧ Frame ([F.RD_IRQ_EN0_EN]) s ({ s with ports := t.ports }) t) ∧
  (∀ (s : State) (p src seq dest : Nat) (data l : List Nat) (w : PktEnd),
     s.acts →
     s.hasPort p = true →
     s.isTile = true →
     dest ≠ 0xFF ∧ dest = s.addr ∧ dest ≠ 0 →
     wordsIn data = some l →
     l.length % 2 = 0 →
     s.duplicate p src seq dest = true →
     (Tab.get (fun _ => none) (s.port p).lastRead src = none) →
     w.good (rxFlags w ⟨0x10, dest, src, seq, 0, data⟩) →
     ∃ t, exec (.regWr p src seq dest data w) s = .next t ∧ t.get (F.CH_CTRL_STAT_DUP p) = s.more (F.CH_CTRL_STAT_DUP p) ∧ (Sent (if s.linked p && !(s.port p).txGivenUp then [.ctrl p (ackPkt s.addr src seq (Tab.get (fun _ => 0) (s.port p).lastResult src))] else []) t) ∧ Frame ([F.CH_CTRL_STAT_DUP p]) s (s) t) ∧
  (∀ (s : State) (p src seq dest : Nat) (data : List Nat) (w : PktEnd),
     s.acts →
     s.hasPort p = true →
     s.isTile = true →
     dest ≠ 0xFF ∧ dest = s.addr ∧ dest ≠ 0 →
     (data.length % 8 ≠ 0 ∨ 248 < data.length) →
     w.good (rxFlags w ⟨0x10, dest, src, seq, 0, data⟩) →
     ∃ t, exec (.regWr p src seq dest data w) s = .next t ∧ (Sent (if s.linked p && !(s.port p).txGivenUp then [.ctrl p (ackPkt s.addr src seq 2)] else []) t) ∧ Frame ([]) s (s) t) ∧
  (∀ (s : State) (p src seq dest : Nat) (data : List Nat) (w : PktEnd),
     s.acts →
     s.hasPort p = true →
     s.isTile = true →
     dest ≠ 0 ∧ dest ≠ s.addr →
     (w.edb = true ∨ w.check ≠ pktCheck (rxFlags w ⟨0x10, dest, src, seq, 0, data⟩)) →
     ∃ t, exec (.regWr p src seq dest data w) s = .next t ∧ (t.get (F.CH_CTRL_STAT_BAD p) = (if w.edb then s.get (F.CH_CTRL_STAT_BAD p) else s.more (F.CH_CTRL_STAT_BAD p))) ∧ (Sent (if s.linked (1 - p) then [.relay (1 - p) (pktSyms (rxFlags w ⟨0x10, dest, src, seq, 0, data⟩) w.check true)] else []) t) ∧ Frame ([F.CH_CTRL_STAT_BAD p]) s (s) t) ∧
  (∀ (s : State) (p src seq dest : Nat) (w : PktEnd),
     s.acts →
     s.hasPort p = true →
     s.isTile = true →
     dest ≠ 0xFF ∧ dest = s.addr ∧ dest ≠ 0 →
     s.duplicate p src seq dest = false →
     (Tab.get (fun _ => none) s.acc.captured F.RD_IRQ_EN0_EN.addr = none) →
     w.good (rxFlags w ⟨0x11, dest, src, seq, 0, leBytes 4 F.RD_IRQ_EN0_EN.addr⟩) →
     ∃ t, exec (.regRd p src seq dest (leBytes 4 F.RD_IRQ_EN0_EN.addr) w) s = .next t ∧ (Tab.get (fun _ => none) (t.port p).lastExec src = some seq) ∧ (Sent (if s.linked p && !(s.port p).txGivenUp then [.ctrl p (rdRespPkt s.addr src seq [s.get F.RD_IRQ_EN0_EN])] else []) t) ∧ Frame ([]) s ({ s with ports := t.ports }) t) ∧
  (∀ (s : State) (p src seq dest : Nat) (data : List Nat) (w : PktEnd),
     s.acts →
     s.hasPort p = true →
     s.isTile = true →
     dest ≠ 0 ∧ dest ≠ s.addr →
     w.good (rxFlags w ⟨0x11, dest, src, seq, 0, data⟩) →
     ∃ t, exec (.regRd p src seq dest data w) s = .next t ∧ (Sent (if s.linked (1 - p) then [.ctrl (1 - p) (rxFlags w ⟨0x11, dest, src, seq, 0, data⟩)] else []) t) ∧ Frame ([]) s (s) t) ∧
  (∀ (s : State) (p src seq : Nat) (T : Word) (w : PktEnd),
     s.acts →
     s.hasPort p = true →
     s.isTile = true →
     s.duplicate p src seq 0xFF = false →
     s.commit.group = none →
     s.commit.go = none →
     s.on F.RD_COMMIT_CTRL_HOLD = true →
     w.good (rxFlags w ⟨0x13, 0xFF, src, seq, 0, leBytes 4 T.toNat⟩) →
     ∃ t, exec (.commitGoPacket ⟨p, w⟩ src seq 0xFF (leBytes 4 T.toNat)) s = .next t ∧ t.commit.go = some (T.toNat, s.raster.fnum, s.raster.cutDone) ∧ ((if src = 0xF2 then t.tileRx.bcB else t.tileRx.bcA) = seq) ∧ (Sent (if s.linked (1 - p) then [.ctrl (1 - p) (rxFlags w ⟨0x13, 0xFF, src, seq, 0, leBytes 4 T.toNat⟩)] else []) t) ∧ Frame ([]) s ({ s with commit := t.commit, ports := t.ports, tileRx := t.tileRx }) t) ∧
  (∀ (s : State) (p src seq T wallId mouldSeq : Nat) (m : MouldImage) (w : PktEnd),
     s.acts →
     s.hasPort p = true →
     s.isTile = true →
     s.duplicate p src seq 0xFF = false →
     s.tileImage = some m →
     m.hdr.wallId = wallId ∧ m.hdr.mouldSeq = mouldSeq →
     1 ≤ ahead T s.raster.fnum →
     w.good (rxFlags w ⟨0x20, 0xFF, src, seq, 0, remouldBytes true T wallId mouldSeq⟩) →
     ∃ t, exec (.remould ⟨p, w⟩ src seq true T wallId mouldSeq) s = .next t ∧ t.mould = { s.mould with goFor := some T } ∧ (Sent (if s.linked (1 - p) then [.ctrl (1 - p) (rxFlags w ⟨0x20, 0xFF, src, seq, 0, [1, 0, 0, 0] ++ leBytes 4 T ++ leBytes 4 wallId ++ leBytes 2 mouldSeq ++ [0, 0]⟩)] else []) t) ∧ Frame ([]) s ({ s with mould := t.mould, ports := t.ports, tileRx := t.tileRx }) t) ∧
  (∀ (s : State) (p ty src seq dest : Nat) (data : List Nat) (w : PktEnd),
     let mine : Bool := decide (dest = 0xFF ∨ dest = 0 ∨ dest = s.addr)
     let k : Pkt := rxFlags w ⟨ty, dest, src, seq, 0, data⟩
     s.acts →
     s.hasPort p = true →
     s.isTile = true →
     ctrlType ty = false ∧ ty < 0x80 →
     w.good (rxFlags w ⟨ty, dest, src, seq, 0, data⟩) →
     ∃ t, exec (.ctrlBadType ⟨p, w⟩ src seq ⟨ty, dest, data⟩) s = .next t ∧ (t.get (F.CH_CTRL_STAT_BAD p) = (if mine then s.more (F.CH_CTRL_STAT_BAD p) else s.get (F.CH_CTRL_STAT_BAD p))) ∧ (Sent ((if (dest = 0xFF ∨ !mine) ∧ s.linked (1 - p) then [.ctrl (1 - p) k] else []) ++ (if mine && w.flags.testBit 0 && s.linked p && !(s.port p).txGivenUp then [.ctrl p (ackPkt s.addr src seq 1)] else [])) t) ∧ Frame ([F.CH_CTRL_STAT_BAD p]) s (s) t) ∧
  (∀ (s : State) (p : Nat) (val : Word),
     let ty : Nat := bits val.toNat 31 24
     let dest : Nat := bits val.toNat 23 16
     let len : Nat := bits val.toNat 15 8
     s.acts →
     p < 16 →
     s.isSender = true →
     s.wordOk (atCH p 0x74) val = true →
     (ty = 0x10 ∨ ty = 0x11 ∨ ty = 0x13 ∨ (0x30 ≤ ty ∧ ty ≤ 0x3F)) →
     1 ≤ dest ∧ dest ≤ 32 →
     len ≤ 248 →
     (Tab.get (fun _ => none) (s.port p).unacked dest = none) →
     ∃ t, exec (.ctrlTxCmd p val) s = .next t ∧ t.get (F.CH_CTRL_TX_RESULT_STATE p) = 2 ∧ t.get (F.CH_CTRL_TX_RESULT_VALID p) = 0 ∧ t.get (F.CH_CTRL_TX_RESULT_PKT_SEQ p) = s.nextSeq p dest ∧ ((Tab.get (fun _ => none) (t.port p).unacked dest).map (·.pkt) = some ⟨ty, dest, endCode s.senderEnd, s.nextSeq p dest, 1, s.txBytes p len⟩) ∧ Sent [.ctrl p ⟨ty, dest, endCode s.senderEnd, s.nextSeq p dest, 1, s.txBytes p len⟩] t ∧ Frame ([F.CH_CTRL_TX_RESULT_STATE p, F.CH_CTRL_TX_RESULT_RESULT p, F.CH_CTRL_TX_RESULT_VALID p, F.CH_CTRL_TX_RESULT_PKT_SEQ p]) s ({ s with ports := t.ports }) t) ∧
  (∀ (s : State) (p : Nat) (val : Word),
     let ty : Nat := bits val.toNat 31 24
     s.acts →
     p < 16 →
     s.isSender = true →
     s.wordOk (atCH p 0x74) val = true →
     (¬ (ty = 0x10 ∨ ty = 0x11 ∨ ty = 0x13 ∨ (0x30 ≤ ty ∧ ty ≤ 0x3F)) ∨ 248 < bits val.toNat 15 8) →
     ∃ t, exec (.ctrlTxCmd p val) s = .next t ∧ t.get (F.CH_CTRL_TX_RESULT_STATE p) = 5 ∧ t.get (F.CH_CTRL_TX_RESULT_VALID p) = 1 ∧ Sent [] t ∧ Frame ([F.CH_CTRL_TX_RESULT_STATE p, F.CH_CTRL_TX_RESULT_RESULT p, F.CH_CTRL_TX_RESULT_VALID p, F.CH_CTRL_TX_RESULT_SEQ p]) s (s) t) ∧
  (∀ (s : State) (p : Nat) (k : Pkt) (rest : List Pkt),
     s.acts →
     s.hasPort p = true →
     s.answersAt (atCH p 0x7C) = true →
     (s.port p).rxq = k :: rest →
     ∃ t, exec (.ctrlRxPop p) s = .next t ∧ t.acc.rdata = [2 ^ 31 + (k.ty % 256) * 2 ^ 16 + (k.src % 256) * 2 ^ 8 + k.data.length % 256] ∧ (t.port p).rxq = rest ∧ (∀ i ∈ List.range 64, t.rd (bufAddr p true + 4 * i) = BitVec.ofNat 32 ((wordsOf 64 k.data).getD i 0)) ∧ Sent [] t ∧ Frame ((List.range 64).map (fun i => whole (bufAddr p true + 4 * i))) s ({ s with ports := t.ports }) t)

/-- A STATUS packet becomes the tile's copy and marks its address heard; a read of the copy's first word captures the rest. LAMPFAULT entries queue and pop one at a time. A picture CRC that equals the expected one is a match; one that never comes is missing. The output CRC commands capture, compare and end as their states say, and differences pop. -/
def Obligations.WheyAndComparison : Prop :=
  (∀ (s : State) (p : Nat) (b : List Nat) (w : PktEnd),
     s.acts →
     p < 16 →
     s.isSender = true →
     1 ≤ b.getD 0 0 % 64 ∧ b.getD 0 0 % 64 ≤ 32 →
     (s.port p).so = [] →
     (s.port p).bcast = none →
     w.good (rxHead w ⟨0x81, 0xFE, 0, 0, 0, b⟩) →
     ∃ t, exec (.status ⟨p, w⟩ b) s = .next t ∧ (∀ i ∈ List.range 8, t.rd (copyAddr p (b.getD 0 0 % 64) + 4 * i) = BitVec.ofNat 32 ((wordsOf 8 b).getD i 0)) ∧ ((t.port p).heard = setBit (s.port p).heard (b.getD 0 0 % 64) ∧ Tab.get (fun _ => 0) (t.port p).tileState (b.getD 0 0 % 64) = b.getD 1 0 % 16) ∧ t.get (F.CH_ENUM_ADDR_COUNT p) = popCount 33 (t.port p).heard % 2 ^ (F.CH_ENUM_ADDR_COUNT p).width ∧ Sent [] t ∧ Frame ((List.range 8).map (fun i => whole (copyAddr p (b.getD 0 0 % 64) + 4 * i)) ++ [F.CH_ENUM_ADDR_COUNT p, F.CH_ENUM_VALID p, F.CH_ENUM_SEQ p]) s ({ s with ports := t.ports }) t) ∧
  (∀ (s : State) (p a : Nat),
     s.acts →
     s.hasPort p = true →
     s.answersAt (atCH p 0) = true →
     1 ≤ a ∧ a ≤ 32 →
     ∃ t, exec (.statusCopyRead p a) s = .next t ∧ t.acc.rdata = [(s.rd (copyAddr p a)).toNat] ∧ (∀ i ∈ List.range 7, Tab.get (fun _ => none) t.acc.captured (copyAddr p a + 4 * (i + 1)) = some (s.rd (copyAddr p a + 4 * (i + 1)))) ∧ Sent [] t ∧ Frame ([]) s ({ s with acc := t.acc }) t) ∧
  (∀ (s : State) (p a f : Nat) (entries : List (Nat × Nat)) (more overflow : Bool) (w : PktEnd),
     s.acts →
     p < 16 →
     s.isSender = true →
     (s.port p).whey.length + entries.length ≤ 8192 →
     w.good (rxSeq w (lampfaultPkt a f entries more overflow)) →
     ∃ t, exec (.lampfault ⟨p, w⟩ a f entries more overflow) s = .next t ∧ ((t.port p).whey = (s.port p).whey ++ entries.map fun e => 2 ^ 31 + (a % 64) * 2 ^ 25 + (e.2 % 16) * 2 ^ 21 + e.1 % 2 ^ 21) ∧ Sent [] t ∧ Frame ([]) s ({ s with ports := t.ports }) t) ∧
  (∀ (s : State) (p w : Nat) (rest : List Nat),
     s.acts →
     s.hasPort p = true →
     s.answersAt (atCH p 0x80) = true →
     (s.port p).whey = w :: rest →
     ∃ t, exec (.wheyPop p) s = .next t ∧ t.acc.rdata = [w] ∧ (t.port p).whey = rest ∧ Sent [] t ∧ Frame ([]) s ({ s with ports := t.ports }) t) ∧
  (∀ (s : State) (p : Nat),
     s.acts →
     s.hasPort p = true →
     s.answersAt (atCH p 0x80) = true →
     (s.port p).whey = [] →
     ∃ t, exec (.wheyPop p) s = .next t ∧ t.acc.rdata = [0] ∧ Sent [] t ∧ Frame ([]) s (s) t) ∧
  (∀ (s : State) (p a f c r : Nat) (outs : List Nat) (fr : SoFrame) (rep : Bool) (w : PktEnd),
     s.acts →
     p < 16 →
     s.isSender = true →
     1 ≤ a ∧ a ≤ 32 →
     (s.port p).so = [fr] →
     fr.fnum = f ∧ fr.left = false ∧ fr.came = [] →
     (Tab.get (fun _ => none) fr.status a = some rep) →
     (Tab.get (fun _ => none) fr.crcs (4 * a) = some r) →
     (∀ k ∈ List.range 4, k ≠ 0 → (Tab.get (fun _ => none) fr.crcs (4 * a + k)).isSome = false) →
     s.on (F.CH_SO_CTRL_PCRC_EN p) = true →
     (s.port p).ocrc.cmd = none →
     c = r ^^^ 0xFFFFFFFF →
     w.good (rxSeq w (outcrcPkt a f [c] outs)) →
     ∃ t, exec (.outcrc ⟨p, w⟩ a f [c] outs) s = .next t ∧ t.get (F.CH_PCRC_MATCH_MATCH_N p) = s.wrap (F.CH_PCRC_MATCH_MATCH_N p) ∧ t.get (F.CH_PCRC_LAST_OUTCOME p) = pcMatch ∧ t.get (F.CH_PCRC_LAST_ADDR p) = a ∧ t.get (F.CH_PCRC_LAST_PHASE p) = 0 ∧ t.get (F.CH_PCRC_LAST_FNUM p) = f % 4096 ∧ t.get (F.CH_PCRC_LAST_VALID p) = 1 ∧ t.get (F.CH_PCRC_LAST_SEQ p) = s.wrap (F.CH_PCRC_LAST_SEQ p) ∧ Sent [] t ∧ Frame ([F.CH_PCRC_MATCH_MATCH_N p, F.CH_PCRC_LAST_VALID p, F.CH_PCRC_LAST_SEQ p, F.CH_PCRC_LAST_OUTCOME p, F.CH_PCRC_LAST_PHASE p, F.CH_PCRC_LAST_ADDR p, F.CH_PCRC_LAST_FNUM p]) s ({ s with ports := t.ports }) t) ∧
  (∀ (s : State) (p a k : Nat) (fr : SoFrame),
     s.acts →
     s.hasPort p = true →
     1 ≤ a ∧ a ≤ 32 ∧ k < 4 →
     (s.port p).so.length = 16 ∧ (s.port p).so.getLast? = some fr →
     (fr.left = false ∧ fr.came = [] ∧ fr.given = [] ∧ (Tab.get (fun _ => none) fr.status a).isSome = true) →
     fr.ready.testBit a = true →
     ((Tab.get (fun _ => none) fr.crcs (4 * a + k)).isSome = true) →
     s.on (F.CH_SO_CTRL_PCRC_EN p) = true →
     ∃ t, exec (.pcrcMissing p a k) s = .next t ∧ t.get (F.CH_PCRC_COUNT_MISSING_N p) = s.more (F.CH_PCRC_COUNT_MISSING_N p) ∧ t.get (F.CH_SO_STATUS_PCRC_MISSING p) = 1 ∧ (t.get (F.CH_PCRC_MISSED_TILES p)).testBit (a - 1) = true ∧ t.get (F.CH_PCRC_LAST_OUTCOME p) = pcMissing ∧ t.get (F.CH_PCRC_LAST_ADDR p) = a ∧ t.get (F.CH_PCRC_LAST_PHASE p) = k ∧ t.get (F.CH_PCRC_LAST_FNUM p) = fr.fnum % 4096 ∧ Sent [] t ∧ Frame ([F.CH_PCRC_COUNT_MISSING_N p, F.CH_SO_STATUS_PCRC_MISSING p, F.CH_PCRC_MISSED_TILES p, F.CH_PCRC_LAST_VALID p, F.CH_PCRC_LAST_SEQ p, F.CH_PCRC_LAST_OUTCOME p, F.CH_PCRC_LAST_PHASE p, F.CH_PCRC_LAST_ADDR p, F.CH_PCRC_LAST_FNUM p]) s ({ s with ports := t.ports }) t) ∧
  (∀ (s : State) (p : Nat),
     s.acts →
     p < 16 →
     s.isSender = true →
     s.answersAt (atCH p 0xB8) = true →
     (s.port p).ocrc.cmd = none →
     1 ≤ ahead (s.get (F.CH_OCRC_FNUM_FNUM p)) s.raster.fnum →
     ∃ t, exec (.ocrcCapture p) s = .next t ∧ (t.port p).ocrc = { cmd := some (true, s.get (F.CH_OCRC_FNUM_FNUM p)), ref := none, got := [], diffs := [] } ∧ t.get (F.CH_OCRC_RESULT_STATE p) = ocWaiting ∧ t.get (F.CH_OCRC_RESULT_VALID p) = 0 ∧ t.get (F.CH_OCRC_RESULT_DIFF_N p) = 0 ∧ Sent [] t ∧ Frame ([F.CH_OCRC_RESULT_STATE p, F.CH_OCRC_RESULT_VALID p, F.CH_OCRC_RESULT_DIFF_N p]) s ({ s with ports := t.ports }) t) ∧
  (∀ (s : State) (p : Nat),
     s.acts →
     p < 16 →
     s.isSender = true →
     s.answersAt (atCH p 0xB8) = true →
     (s.port p).ocrc.cmd = none →
     ahead (s.get (F.CH_OCRC_FNUM_FNUM p)) s.raster.fnum ≤ 0 →
     ∃ t, exec (.ocrcCapture p) s = .next t ∧ t.get (F.CH_OCRC_RESULT_STATE p) = ocRefused ∧ t.get (F.CH_OCRC_RESULT_VALID p) = 1 ∧ t.get (F.CH_OCRC_RESULT_SEQ p) = s.wrap (F.CH_OCRC_RESULT_SEQ p) ∧ (t.port p).ocrc.ref = (s.port p).ocrc.ref ∧ Sent [] t ∧ Frame ([F.CH_OCRC_RESULT_STATE p, F.CH_OCRC_RESULT_VALID p, F.CH_OCRC_RESULT_SEQ p, F.CH_OCRC_RESULT_TILES p, F.CH_OCRC_RESULT_DIFF_N p]) s ({ s with ports := t.ports }) t) ∧
  (∀ (s : State) (p : Nat),
     s.acts →
     p < 16 →
     s.isSender = true →
     s.answersAt (atCH p 0xB8) = true →
     (s.port p).ocrc.cmd = none →
     ∃ t, exec (.ocrcCompare p) s = .next t ∧ (t.get (F.CH_OCRC_RESULT_STATE p) = (if (s.port p).ocrc.ref.isNone then ocNoRef else ocWaiting)) ∧ ((t.port p).ocrc.cmd = if (s.port p).ocrc.ref.isNone then none else some (false, s.get (F.CH_OCRC_FNUM_FNUM p))) ∧ (t.port p).ocrc.ref = (s.port p).ocrc.ref ∧ (t.port p).ocrc.diffs = [] ∧ Sent [] t ∧ Frame ([F.CH_OCRC_RESULT_STATE p, F.CH_OCRC_RESULT_VALID p, F.CH_OCRC_RESULT_SEQ p, F.CH_OCRC_RESULT_TILES p, F.CH_OCRC_RESULT_DIFF_N p]) s ({ s with ports := t.ports }) t) ∧
  (∀ (s : State) (p g : Nat),
     s.acts →
     s.hasPort p = true →
     (s.port p).ocrc.cmd = some (true, g) →
     16 ≤ ahead s.raster.fnum g →
     ∃ t, exec (.ocrcTimeout p) s = .next t ∧ t.get (F.CH_OCRC_RESULT_STATE p) = ocTimeout ∧ t.get (F.CH_OCRC_RESULT_VALID p) = 1 ∧ t.get (F.CH_OCRC_RESULT_TILES p) = (s.port p).ocrc.got.length % 2 ^ (F.CH_OCRC_RESULT_TILES p).width ∧ (t.port p).ocrc.cmd = none ∧ (t.port p).ocrc.ref = some (s.port p).ocrc.got ∧ Sent [] t ∧ Frame ([F.CH_OCRC_RESULT_STATE p, F.CH_OCRC_RESULT_VALID p, F.CH_OCRC_RESULT_SEQ p, F.CH_OCRC_RESULT_TILES p, F.CH_OCRC_RESULT_DIFF_N p]) s ({ s with ports := t.ports }) t) ∧
  (∀ (s : State) (p d : Nat) (rest : List Nat),
     s.acts →
     s.hasPort p = true →
     s.answersAt (atCH p 0xC4) = true →
     (s.port p).ocrc.diffs = d :: rest →
     ∃ t, exec (.ocrcDiffPop p) s = .next t ∧ t.acc.rdata = [d] ∧ (t.port p).ocrc.diffs = rest ∧ Sent [] t ∧ Frame ([]) s ({ s with ports := t.ports }) t) ∧
  (∀ (s : State) (p c v tg f pos : Nat) (fr : SoFrame),
     s.acts →
     s.noSwapWaits →
     p < 16 →
     s.isSender = true →
     s.targetOf p (c % max s.phases 1) = some (v, tg) →
     c < s.get (F.CH_CTG_GEOM_LTOTAL_C p) →
     c < s.get (F.CH_CTG_GEOM_ACTIVE_C p) →
     c / max s.phases 1 < s.get (F.VT_TGT_REGION_WH_H v tg) →
     s.linked p = true ∧ (s.port p).enumStarted = true ∧ s.get (F.CH_LINK_STATUS_OVL_K p) ≠ 0 →
     s.cutPorts.testBit p = false →
     s.lineAt p c = some (f, pos) ∧ s.raster.holds pos = true →
     s.soRec p f = some fr →
     fr.next ≤ c →
     v < 4 ∧ tg < 16 →
     ∃ t, exec (.chainLineStart p c []) s = .next t ∧ t.get (F.CH_CTG_STATUS_CLINE p) = c % 2 ^ (F.CH_CTG_STATUS_CLINE p).width ∧ ((t.out.all fun o => match o with | .segment q g e => q == p && g.phase == c % max s.phases 1 && g.fnum == f && g.code == fr.codes.getD (c % max s.phases 1) 0 && g.words.length ≤ 1024 && !e | _ => false) = true) ∧ ((t.out.map fun o => match o with | .segment _ g _ => g.words.length | _ => 0).sum = ((s.shares p v tg (c / max s.phases 1)).map (·.w)).sum) ∧ (t.soRec p f).map (·.next) = some (c + 1) ∧ t.dram = s.dram ∧ t.nv = s.nv ∧ t.raster = (reach pos s).raster ∧ t.comp = s.comp) ∧
  (∀ (s : State) (p fill : Nat),
     let w : Nat := s.get (F.CH_SO_CTRL_WMARK p)
     let n : Nat := min fill 16384
     let u : Bool := if w + 1024 ≤ n ∨ s.lastComposed p = true then false else if n < w then true else (s.port p).urgAt.isSome
     let spent : Nat := (s.port p).urgTicks + (match (s.port p).urgAt with | some x => s.raster.ticks - x | none => 0)
     s.acts →
     p < 16 →
     s.isSender = true →
     ∃ t, exec (.fetchUrgencyChange p fill) s = .next t ∧ t.get (F.CH_SO_STATUS_FILL p) = n ∧ (s.on (F.CH_SO_STATUS_URGENT p) = (s.port p).urgAt.isSome → t.on (F.CH_SO_STATUS_URGENT p) = u) ∧ (t.port p).urgAt.isSome = u ∧ t.urgUs p = min (spent / 400) 0xFFFFFFFF ∧ Sent [] t ∧ Frame ([F.CH_SO_STATUS_FILL p, F.CH_SO_STATUS_URGENT p]) s ({ s with ports := t.ports }) t)

/-- A locked port's engine waits for a format; the first FORMAT of a format makes it the candidate, the second in a row adopts it where the budget allows; a line packet of the frame in progress is written into the target buffer with the frame's tag; a frame whose rows are all covered is published as the newest, counted and shown in SFRAME; loss of the source stops the engine and discards the frame in progress; an overflow is counted and its rows are lost; STOP_HOLD frames later the store is emptied. Reading FMT0 captures the other two. -/
def Obligations.SourceIngest : Prop :=
  (∀ (s : State) (q bit : Nat) (eq : List Word) (c : SourceCfg),
     s.acts →
     q < 8 →
     s.engineOf q = some (c, bit) →
     c.vat < 4 ∧ c.engine < 2 ∧ bit < 2 →
     s.ingState c.vat c.engine = ingNoSignal →
     setBit (s.ing c.vat c.engine).lock bit = portBits c →
     ∃ t, exec (.sourcePortLock ⟨q, eq⟩) s = .next t ∧ (s.ingState c.vat c.engine = ingNoSignal → t.ingState c.vat c.engine = ingWait) ∧ (∀ n ∈ groupLanes (16 + q), (t.get (F.HP_LANE_STATE_RXS n), t.get (F.HP_LANE_STATE_CDR_LOCK n)) = (lnActive, 1)) ∧ t.get (F.HP_CAL_STATUS_IN_PLACE (16 + q)) = 1 ∧ (∀ e ∈ (groupLanes (16 + q)).zipIdx, t.rd (atLANE e.1 0x10) = (if s.on (F.HP_LANE_RXMAN_MANUAL e.1) then s.rd (atLANE e.1 0x14) else eq.getD e.2 0) &&& 0x7FFFFFFF) ∧ Sent [] t ∧ Frame ([F.VT_ING_STATUS_STATE c.vat c.engine, F.HP_CAL_STATUS_VALID (16 + q), F.HP_CAL_STATUS_IN_PLACE (16 + q), F.HP_CAL_TEMP_TEMP (16 + q)] ++ (groupLanes (16 + q)).flatMap (fun n => [F.HP_LANE_STATE_RXS n, F.HP_LANE_STATE_CDR_LOCK n, whole (atLANE n 0x38), whole (atLANE n 0x10)])) s ({ s with ings := t.ings, lanes := t.lanes }) t) ∧
  (∀ (s : State) (q sframe bit : Nat) (f : SrcFormat) (c : SourceCfg) (w : PktEnd),
     s.acts →
     q < 8 →
     s.engineOf q = some (c, bit) →
     c.vat < 4 ∧ c.engine < 2 ∧ c.bonded = false →
     (s.ing c.vat c.engine).lock.testBit bit = true →
     formatOk f = true →
     w.good (rxHead w (formatPkt sframe f)) →
     (s.ing c.vat c.engine).frame = none ∧ (s.ing c.vat c.engine).older = none →
     s.ingState c.vat c.engine = ingWait →
     (s.ing c.vat c.engine).cand ≠ some (fmtSeen bit f) →
     (s.ing c.vat c.engine).lastSframe = none →
     ∃ t, exec (.format q sframe f none w) s = .next t ∧ (t.ing c.vat c.engine).cand = some (fmtSeen bit f) ∧ (t.on (F.VT_ING_STATUS_FMT_CHG c.vat c.engine) = true ∧ (s.on (F.VT_ING_STATUS_FMT_CHG c.vat c.engine) = true ∨ t.pendingCause 17 = true)) ∧ t.ingState c.vat c.engine = ingWait ∧ Sent [] t ∧ Frame ([F.VT_ING_STATUS_FMT_CHG c.vat c.engine, fsWriting (storeKey c.vat skIngest c.engine)] ++ pendFlds) s ({ s with ings := t.ings }) t) ∧
  (∀ (s : State) (q sframe bit : Nat) (f : SrcFormat) (c : SourceCfg) (w : PktEnd),
     s.acts →
     q < 8 →
     s.engineOf q = some (c, bit) →
     c.vat < 4 ∧ c.engine < 2 ∧ c.bonded = false →
     (s.ing c.vat c.engine).lock.testBit bit = true →
     formatOk f = true →
     w.good (rxHead w (formatPkt sframe f)) →
     (s.ing c.vat c.engine).frame = none ∧ (s.ing c.vat c.engine).older = none →
     s.ingState c.vat c.engine = ingWait →
     (s.ing c.vat c.engine).cand = some (fmtSeen bit f) →
     (s.ing c.vat c.engine).lastSframe = none →
     s.budgetOk c (fmtSeen bit f) = true →
     ∃ t, exec (.format q sframe f none w) s = .next t ∧ t.ingState c.vat c.engine = ingRunning ∧ (t.ing c.vat c.engine).inForce = some (fmtSeen bit f) ∧ t.get (F.VT_ING_FMT1_WIDTH c.vat c.engine) = f.w ∧ t.get (F.VT_ING_FMT1_HEIGHT c.vat c.engine) = f.h ∧ t.get (F.VT_ING_FMT0_CODE c.vat c.engine) = f.code ∧ t.get (F.VT_ING_FMT2_NUM c.vat c.engine) = f.num ∧ t.get (F.VT_ING_FMT2_DEN c.vat c.engine) = f.den ∧ t.get (F.VT_ING_FMT0_DEPTH c.vat c.engine) = f.depth ∧ t.get (F.VT_ING_FMT0_RANGE c.vat c.engine) = f.range ∧ (t.ing c.vat c.engine).frame.map (·.target) = some (s.freeBuf (storeKey c.vat skIngest c.engine) ((s.ing c.vat c.engine).done.toList.filterMap (·.target))) ∧ Sent [] t ∧ Frame ([F.VT_ING_STATUS_STATE c.vat c.engine, F.VT_ING_STATUS_TRUNC c.vat c.engine, F.VT_ING_COUNT_DROPPED c.vat c.engine, F.VT_ING_FMT0_VALID c.vat c.engine, F.VT_ING_FMT0_SEQ c.vat c.engine, F.VT_ING_FMT0_CODE c.vat c.engine, F.VT_ING_FMT0_DEPTH c.vat c.engine, F.VT_ING_FMT0_RANGE c.vat c.engine, F.VT_ING_FMT1_WIDTH c.vat c.engine, F.VT_ING_FMT1_HEIGHT c.vat c.engine, F.VT_ING_FMT2_NUM c.vat c.engine, F.VT_ING_FMT2_DEN c.vat c.engine, fsWriting (storeKey c.vat skIngest c.engine)]) s ({ s with ings := t.ings }) t) ∧
  (∀ (s : State) (q row col sf chk bit b : Nat) (words ctrl : List Nat) (c : SourceCfg) (fr : IngFrame),
     s.acts →
     q < 8 →
     s.engineOf q = some (c, bit) →
     c.vat < 4 ∧ c.engine < 2 ∧ c.bonded = false ∧ bit = 0 →
     (s.ing c.vat c.engine).frame = some fr ∧ (s.ing c.vat c.engine).older = none →
     chk = crc32 (lineBytes row col words.length 0 sf words) →
     ((∀ k ∈ ctrl, k ∈ sourceKs) ∧ ctrl.getLast? = some symEop) →
     fr.target = some b →
     fr.begun = 1 ∧ fr.ended = 0 ∧ fr.shut = 0 →
     sf % 256 = fr.sframe % 256 →
     row < fr.fmt.h ∧ col + words.length ≤ fr.fmt.w →
     1 ≤ words.length ∧ words.length ≤ 1024 →
     ∃ t, exec (.linePacket q row col sf false words ⟨words.length, chk, false, ctrl⟩) s = .next t ∧ t.dram = (s.putRow fr.lay b fr.tag col row fr.fmt.w (words.map (pixelWord fr.fmt))).dram ∧ ((t.ing c.vat c.engine).frame = some { fr with cover := Tab.set (fun _ => []) row (spanIns col words.length (Tab.get (fun _ => []) fr.cover row)) fr.cover }) ∧ Sent [] t ∧ (∀ a, (∀ x ∈ List.range (col + words.length + 14), ¬ (storeBurst fr.lay b x row ≤ a ∧ a < storeBurst fr.lay b x row + 64)) → t.byte a = s.byte a) ∧ Frame ([]) s ({ s with ings := t.ings, dram := t.dram }) t) ∧
  (∀ (s : State) (q row col sf count chk bit : Nat) (last viol : Bool) (words ctrl : List Nat) (c : SourceCfg),
     s.acts →
     q < 8 →
     s.engineOf q = some (c, bit) →
     (viol = true ∨ ctrl.all sourceKs.contains = false ∨ ctrl.getLast? ≠ some symEop ∨ count ≠ words.length ∨ chk ≠ crc32 (lineBytes row col count (if last then 1 else 0) sf words)) →
     ∃ t, exec (.linePacket q row col sf last words ⟨count, chk, viol, ctrl⟩) s = .next t ∧ t.get (F.VT_ING_COUNT2_PKT_ERR c.vat c.engine) = s.more (F.VT_ING_COUNT2_PKT_ERR c.vat c.engine) ∧ Sent [] t ∧ Frame ([F.VT_ING_COUNT2_PKT_ERR c.vat c.engine]) s (s) t) ∧
  (∀ (s : State) (v e b : Nat) (fr : IngFrame),
     s.acts →
     v < 4 ∧ e < 2 →
     (s.ing v e).done = some fr →
     fr.target = some b →
     b < 3 →
     fr.badRows = [] →
     s.mould.oldStores = [] ∧ storeCfgKey fr.lay = storeKey v skIngest e →
     s.get (fsNewest (storeKey v skIngest e)) = 3 →
     ∃ t, exec (.ingestFrameComplete v e) s = .next t ∧ t.get (fsNewest (storeKey v skIngest e)) = b ∧ t.get (F.VT_ING_SFRAME_SFRAME v e) = fr.sframe % 2 ^ 32 ∧ t.get (F.VT_ING_COUNT_FRAMES v e) = s.more (F.VT_ING_COUNT_FRAMES v e) ∧ (t.buf (storeKey v skIngest e) b = { w := min fr.fmt.w (14 * fr.lay.stride), h := min fr.fmt.h (fr.lay.maxRows), code := fr.fmt.code, tag := fr.tag, fence := fr.sframe, invalid := [], trunc := decide (14 * fr.lay.stride < fr.fmt.w ∨ fr.lay.maxRows < fr.fmt.h) }) ∧ (t.ing v e).done = none ∧ Sent [] t ∧ Frame ([fsNewest (storeKey v skIngest e), fsWriting (storeKey v skIngest e), F.VT_ING_SFRAME_SFRAME v e, F.VT_ING_COUNT_FRAMES v e]) s ({ s with ings := t.ings, stores := t.stores }) t) ∧
  (∀ (s : State) (v e b : Nat) (fr : IngFrame),
     s.acts →
     v < 4 ∧ e < 2 →
     (s.ing v e).done = some fr →
     fr.target = some b →
     b < 3 →
     fr.badRows ≠ [] →
     s.on (F.VT_ING_CTRL_DROP_DAMAGED v e) = true →
     ∃ t, exec (.ingestFrameComplete v e) s = .next t ∧ t.get (fsNewest (storeKey v skIngest e)) = s.get (fsNewest (storeKey v skIngest e)) ∧ t.get (F.VT_ING_STATUS_DAMAGED v e) = 1 ∧ t.get (F.VT_ING_COUNT_DAMAGED_N v e) = s.more (F.VT_ING_COUNT_DAMAGED_N v e) ∧ (t.ing v e).done = none ∧ Sent [] t ∧ Frame ([fsWriting (storeKey v skIngest e), F.VT_ING_STATUS_DAMAGED v e, F.VT_ING_COUNT_DAMAGED_N v e]) s ({ s with ings := t.ings }) t) ∧
  (∀ (s : State) (v e lost : Nat),
     s.acts →
     v < 4 ∧ e < 2 →
     (s.ingState v e = ingWait ∨ s.ingState v e = ingRunning ∨ s.ingState v e = ingOver) →
     ∃ t, exec (.ingestStop v e lost) s = .next t ∧ t.ingState v e = ingStopped ∧ t.on (F.VT_ING_STATUS_STOPPED_EV v e) = true ∧ (s.on (F.VT_ING_STATUS_STOPPED_EV v e) = true ∨ t.pendingCause 16 = true) ∧ (t.ing v e).frame = none ∧ (t.ing v e).older = none ∧ (t.ing v e).lastSframe = (s.ing v e).lastSframe ∧ (t.ing v e).cand = none ∧ (t.ing v e).lock = (s.ing v e).lock - ((s.ing v e).lock &&& lost) ∧ t.get (fsNewest (storeKey v skIngest e)) = s.get (fsNewest (storeKey v skIngest e)) ∧ t.dram = s.dram ∧ t.stores = s.stores ∧ Sent [] t) ∧
  (∀ (s : State) (v e : Nat) (rows : List Nat) (fr : IngFrame),
     s.acts →
     v < 4 ∧ e < 2 →
     (s.ing v e).frame = some fr ∧ (s.ing v e).older = none →
     ∃ t, exec (.ingestOverflow v e rows) s = .next t ∧ t.get (F.VT_ING_COUNT2_OVERFLOW v e) = s.more (F.VT_ING_COUNT2_OVERFLOW v e) ∧ (t.ing v e).frame = some { fr with lost := rows ++ fr.lost } ∧ Sent [] t ∧ Frame ([F.VT_ING_COUNT2_OVERFLOW v e]) s ({ s with ings := t.ings }) t) ∧
  (∀ (s : State) (v e : Nat),
     s.acts →
     v < 4 ∧ e < 2 →
     (s.ingState v e = ingStopped ∨ s.ingState v e = ingOver) →
     s.on (F.VT_ING_CTRL_STOP_HOLD v e) = true →
     s.get (F.VT_ING_CTRL_STOP_HOLD v e) ≤ (s.ing v e).stopped →
     ∃ t, exec (.stopHoldExpiry v e) s = .next t ∧ t.get (fsNewest (storeKey v skIngest e)) = 3 ∧ Sent [] t ∧ Frame ([fsNewest (storeKey v skIngest e)]) s (s) t) ∧
  (∀ (s : State) (v e : Nat),
     s.acts →
     v < 4 ∧ e < 2 →
     s.answersAt (atING v e 8) = true →
     ∃ t, exec (.ingFmtRead v e) s = .next t ∧ t.acc.rdata = [(s.rd (F.VT_ING_FMT0_VALID v e).addr).toNat] ∧ (Tab.get (fun _ => none) t.acc.captured ((F.VT_ING_FMT0_VALID v e).addr + 4) = some (s.rd ((F.VT_ING_FMT0_VALID v e).addr + 4))) ∧ (Tab.get (fun _ => none) t.acc.captured ((F.VT_ING_FMT0_VALID v e).addr + 8) = some (s.rd ((F.VT_ING_FMT0_VALID v e).addr + 8))) ∧ Sent [] t ∧ Frame ([]) s ({ s with acc := t.acc }) t)

/-- OPEN gives the lowest free buffer or the answer NO_FREE; FENCE closes it and, when its writes have landed, publishes it with DONE_VAL and cause 18; ABORT gives it back, once. A BAR2 write to the open buffer stores its bytes, with the frame's tag at the end of each burst, and zeroes the rest of a burst it writes in part over an error; one to another buffer, or beyond a placed buffer, changes the memory of stores alone, and one to no placed slot changes nothing. A read gives the bytes of a placed buffer, poisoned where they do not read, and all ones elsewhere. -/
def Obligations.RendererPath : Prop :=
  (∀ (s : State) (v r b : Nat),
     s.acts →
     v < 4 ∧ r < 2 →
     s.answersAt (atRND v r 0) = true →
     s.placed (storeKey v skRenderer r) = true →
     (s.rnd v r).buf = none →
     s.get (F.VT_RND_FMT_WIDTH v r) ≤ 14 * s.get (fsStride (storeKey v skRenderer r)) ∧ s.get (F.VT_RND_FMT_HEIGHT v r) ≤ s.get (fsMaxRows (storeKey v skRenderer r)) →
     s.freeBuf (storeKey v skRenderer r) (s.rnd v r).ended = some b →
     ∃ t, exec (.openBuf v r) s = .next t ∧ t.get (F.VT_RND_RESULT_STATE v r) = rndOpen ∧ t.get (F.VT_RND_RESULT_BUF v r) = b ∧ t.get (F.VT_RND_RESULT_VALID v r) = 1 ∧ t.get (F.VT_RND_RESULT_SEQ v r) = s.wrap (F.VT_RND_RESULT_SEQ v r) ∧ t.get (fsWriting (storeKey v skRenderer r)) = b ∧ t.rnd v r = { buf := some b, lay := s.storeCfg (storeKey v skRenderer r), ended := (s.rnd v r).ended, tag := s.raster.fnum % 256, w := s.get (F.VT_RND_FMT_WIDTH v r), h := s.get (F.VT_RND_FMT_HEIGHT v r), code := s.get (F.VT_RND_CODE_CODE v r) } ∧ Sent [] t ∧ Frame ([F.VT_RND_RESULT_STATE v r, F.VT_RND_RESULT_BUF v r, F.VT_RND_RESULT_VALID v r, F.VT_RND_RESULT_SEQ v r, fsWriting (storeKey v skRenderer r)]) s ({ s with rnds := t.rnds }) t) ∧
  (∀ (s : State) (v r : Nat),
     s.acts →
     v < 4 ∧ r < 2 →
     s.answersAt (atRND v r 0) = true →
     (s.rnd v r).buf.isSome = true ∧ (s.rnd v r).flush = none →
     ∃ t, exec (.fence v r) s = .next t ∧ t.rnd v r = { s.rnd v r with flush := some (s.get (F.VT_RND_FENCE_VAL_VAL v r)) } ∧ t.get (F.VT_RND_RESULT_STATE v r) = rndFlushing ∧ t.get (F.VT_RND_RESULT_VALID v r) = 0 ∧ Sent [] t ∧ Frame ([F.VT_RND_RESULT_STATE v r, F.VT_RND_RESULT_VALID v r]) s ({ s with rnds := t.rnds }) t) ∧
  (∀ (s : State) (v r b fv : Nat),
     s.acts →
     v < 4 ∧ r < 2 →
     (s.rnd v r).buf = some b ∧ (s.rnd v r).flush = some fv ∧ (s.rnd v r).ended = [] →
     b < 3 →
     s.mould.oldStores = [] ∧ storeCfgKey (s.rnd v r).lay = storeKey v skRenderer r →
     ∃ t, exec (.fenceFlushDone v r) s = .next t ∧ t.get (fsNewest (storeKey v skRenderer r)) = b ∧ t.get (fsWriting (storeKey v skRenderer r)) = 3 ∧ t.buf (storeKey v skRenderer r) b = { w := (s.rnd v r).w, h := (s.rnd v r).h, code := (s.rnd v r).code, tag := (s.rnd v r).tag, fence := fv } ∧ t.get (F.VT_RND_DONE_VAL v r) = fv % 2 ^ 32 ∧ t.get (F.VT_RND_RESULT_STATE v r) = rndDone ∧ t.get (F.VT_RND_RESULT_BUF v r) = b ∧ t.get (F.VT_RND_RESULT_VALID v r) = 1 ∧ t.rnd v r = {} ∧ t.pendingCause 18 = true ∧ Sent [] t ∧ Frame ([F.VT_RND_RESULT_STATE v r, F.VT_RND_RESULT_BUF v r, F.VT_RND_RESULT_VALID v r, F.VT_RND_RESULT_SEQ v r, F.VT_RND_DONE_VAL v r, fsNewest (storeKey v skRenderer r), fsWriting (storeKey v skRenderer r)] ++ pendFlds) s ({ s with rnds := t.rnds, stores := t.stores }) t) ∧
  (∀ (s : State) (v r b : Nat) (l : List Nat),
     s.acts →
     v < 4 ∧ r < 2 →
     (s.rnd v r).ended = b :: l →
     ∃ t, exec (.fenceFlushDone v r) s = .next t ∧ t.rnd v r = { s.rnd v r with ended := l } ∧ Sent [] t ∧ Frame ([]) s ({ s with rnds := t.rnds }) t) ∧
  (∀ (s : State) (v r b : Nat),
     s.acts →
     v < 4 ∧ r < 2 →
     s.answersAt (atRND v r 0) = true →
     (s.rnd v r).buf = some b →
     b < 3 →
     ∃ t, exec (.abortBuf v r) s = .next t ∧ (t.rnd v r = { ended := if (s.rnd v r).flush.isSome then (s.rnd v r).ended ++ [b] else (s.rnd v r).ended } ∧ t.get (fsWriting (storeKey v skRenderer r)) = 3) ∧ t.get (F.VT_RND_RESULT_STATE v r) = rndIdle ∧ t.get (F.VT_RND_RESULT_BUF v r) = b ∧ t.get (F.VT_RND_RESULT_VALID v r) = 1 ∧ Sent [] t ∧ Frame ([F.VT_RND_RESULT_STATE v r, F.VT_RND_RESULT_BUF v r, F.VT_RND_RESULT_VALID v r, F.VT_RND_RESULT_SEQ v r, fsWriting (storeKey v skRenderer r)]) s ({ s with rnds := t.rnds }) t) ∧
  (∀ (s : State) (v r : Nat),
     s.acts →
     v < 4 ∧ r < 2 →
     s.answersAt (atRND v r 0) = true →
     (s.rnd v r).buf = none →
     ∃ t, exec (.abortBuf v r) s = .next t ∧ t.get (F.VT_RND_RESULT_STATE v r) = rndRefused ∧ t.get (F.VT_RND_RESULT_VALID v r) = 1 ∧ t.get (F.VT_RND_RESULT_SEQ v r) = s.wrap (F.VT_RND_RESULT_SEQ v r) ∧ Sent [] t ∧ Frame ([F.VT_RND_RESULT_STATE v r, F.VT_RND_RESULT_VALID v r, F.VT_RND_RESULT_SEQ v r]) s (s) t) ∧
  (∀ (s : State) (off k b at0 : Nat) (bytes ue : List Nat),
     let base : Nat := storeBurst (s.bar2Cfg k b) b 0 0
     s.acts →
     s.bar2Target off bytes.length = some (k, b, at0) →
     k / 4 % 4 = skRenderer →
     (s.rnd (k / 16) (k % 4)).buf = some b ∧ (s.rnd (k / 16) (k % 4)).flush = none →
     partBursts at0 bytes.length ue = [] →
     ∃ t, exec (.bar2Write off ⟨bytes, ue⟩) s = .next t ∧ (∀ i ∈ List.range bytes.length, t.byte (base + at0 + i) = BitVec.ofNat 8 (if (at0 + i) % 64 = 63 then (s.rnd (k / 16) (k % 4)).tag else bytes.getD i 0)) ∧ Sent [] t ∧ (∀ a, a < base + at0 ∨ base + at0 + bytes.length ≤ a → (∀ i ∈ List.range bytes.length, a ≠ base + (at0 + i) / 64 * 64 + 63) → t.byte a = s.byte a) ∧ Frame ([]) s ({ s with dram := t.dram }) t) ∧
  (∀ (s : State) (off k b at0 : Nat) (bytes ue : List Nat),
     let base : Nat := storeBurst (s.bar2Cfg k b) b 0 0
     s.acts →
     s.bar2Target off bytes.length = some (k, b, at0) →
     (k / 4 % 4 ≠ skRenderer ∨ (s.rnd (k / 16) (k % 4)).buf ≠ some b ∨ (s.rnd (k / 16) (k % 4)).flush.isSome = true) →
     ∃ t, exec (.bar2Write off ⟨bytes, ue⟩) s = .next t ∧ Sent [] t ∧ (∀ a, a < base + at0 ∨ base + at0 + bytes.length ≤ a → (∀ i ∈ List.range bytes.length, a ≠ base + (at0 + i) / 64 * 64 + 63) → t.byte a = s.byte a) ∧ Frame ([]) s ({ s with dram := t.dram, freeN := t.freeN }) t) ∧
  (∀ (s : State) (off k b at0 i j : Nat) (bytes ue : List Nat),
     s.acts →
     s.bar2Target off bytes.length = some (k, b, at0) →
     k / 4 % 4 = skRenderer →
     (s.rnd (k / 16) (k % 4)).buf = some b ∧ (s.rnd (k / 16) (k % 4)).flush = none →
     i ∈ partBursts at0 bytes.length ue →
     (j < 63 ∧ (64 * i + j < at0 ∨ at0 + bytes.length ≤ 64 * i + j)) →
     ∃ t, exec (.bar2Write off ⟨bytes, ue⟩) s = .next t ∧ t.byte (storeBurst (s.bar2Cfg k b) b 0 0 + 64 * i + j) = 0 ∧ Sent [] t ∧ Frame ([]) s ({ s with dram := t.dram }) t) ∧
  (∀ (s : State) (off : Nat) (bytes ue : List Nat),
     s.acts →
     s.bar2Target off bytes.length = none →
     (((bar2Slot off).any fun e => s.bar2Reaches e.1 e.2.1) = false) →
     ∃ t, exec (.bar2Write off ⟨bytes, ue⟩) s = .next t ∧ Sent [] t ∧ Frame ([]) s (s) t) ∧
  (∀ (s : State) (off v k b : Nat) (bytes ue : List Nat),
     let base : Nat := storeBurst (s.bar2Cfg k b) b 0 0
     s.acts →
     bar2Slot off = some (v, k, b) →
     s.bar2Reaches v k = true →
     storeBytes (s.bar2Cfg k b) < off % 2 ^ 29 + bytes.length →
     ∃ t, exec (.bar2Write off ⟨bytes, ue⟩) s = .next t ∧ Sent [] t ∧ (∀ a, a < base ∨ base + max (storeBytes (s.bar2Cfg k b)) 1 ≤ a → t.byte a = s.byte a) ∧ Frame ([]) s ({ s with dram := t.dram, freeN := t.freeN }) t) ∧
  (∀ (s : State) (off len k b at0 : Nat) (ue : Bool),
     s.acts →
     s.bar2Target off len = some (k, b, at0) →
     ∃ t, exec (.bar2Read off ⟨len, ue⟩) s = .next t ∧ (t.acc.rdata = (List.range len).map fun i => (s.byte (storeBurst (s.bar2Cfg k b) b 0 0 + at0 + i)).toNat) ∧ t.acc.poisoned = ue ∧ Sent [] t ∧ Frame ([]) s (s) t) ∧
  (∀ (s : State) (off len : Nat) (ue : Bool),
     s.acts →
     s.bar2Target off len = none →
     ∃ t, exec (.bar2Read off ⟨len, ue⟩) s = .next t ∧ t.acc.rdata = List.replicate len 0xFF ∧ t.acc.poisoned = false ∧ Sent [] t ∧ Frame ([]) s (s) t)

/-- A region line of a target is what its contributing layers give over the background, the background word alone where there is none or where every layer's fetch is late for the whole line; it waits for scan-out and goes to the write-back store. The last line of a write-back frame leaves a record of the frame. A whole undamaged write-back frame is published with its frame number, also where the next frame has begun; one dropped is damaged, shown and counted; without such a frame nothing changes. -/
def Obligations.Composition : Prop :=
  (∀ (s : State) (v tg y : Nat),
     let p : Nat := s.get (F.VT_TGT_CTRL_PORT v tg)
     let W : Nat := s.get (F.VT_TGT_REGION_WH_W v tg)
     let x0 : Nat := s.get (F.VT_TGT_REGION_XY_X v tg)
     let Y : Nat := s.get (F.VT_TGT_REGION_XY_Y v tg) + y
     let lay : Nat → List (LayerCfg × List Nat) := fun x => (s.contributing v tg).filterMap fun c => (s.layerAt c (s.layer c.vat c.engine) ((s.bases c.vat c.engine (s.layer c.vat c.engine) x0 W).headD 0) x0 x Y none).map fun h => (c, h)
     let line : List Nat := (List.range W).map fun x => if (lay x).isEmpty then s.bgWord v tg else wordOf fun i => encode20 (codeUsed (s.get (F.VT_TGT_CTRL_OUT_CODE v tg))) ((lay x).foldl (fun out l => blend s l.1.vat l.1.engine out (l.2.getD i 0)) (lin (codeUsed (s.get (F.VT_TGT_CTRL_OUT_CODE v tg))) (compOf (s.bgWord v tg) i)))
     s.acts →
     v < 4 ∧ tg < 16 →
     s.on (F.VT_TGT_CTRL_ASSIGNED v tg) = true →
     y < s.get (F.VT_TGT_REGION_WH_H v tg) →
     s.lineHeld v tg y = false →
     Tab.find (16 * v + tg) s.wbs = none →
     ∃ t, exec (.composeLine v tg y [] []) s = .next t ∧ (Tab.get (fun _ => []) t.comp (compKey v tg y) = line) ∧ (s.contributing v tg = [] → Tab.get (fun _ => []) t.comp (compKey v tg y) = List.replicate W (s.bgWord v tg)) ∧ (t.get (F.VT_TGT_STATUS_CODE_RSVD v tg) = (if s.get (F.VT_TGT_CTRL_OUT_CODE v tg) = 3 then 1 else s.get (F.VT_TGT_STATUS_CODE_RSVD v tg))) ∧ Sent [] t ∧ Frame ([F.CH_SO_STATUS_FILL p, F.CH_SO_STATUS_URGENT p, F.VT_TGT_STATUS_CODE_RSVD v tg] ++ (s.contributing v tg).flatMap (fun c => ((s.layer c.vat c.engine).hold.map fun h => fsTagErr h.1).toList)) s ({ s with comp := t.comp, layers := t.layers, ports := t.ports }) t) ∧
  (∀ (s : State) (v tg y b : Nat) (x : WriteBack),
     let p : Nat := s.get (F.VT_TGT_CTRL_PORT v tg)
     let W : Nat := s.get (F.VT_TGT_REGION_WH_W v tg)
     let x0 : Nat := s.get (F.VT_TGT_REGION_XY_X v tg)
     let Y : Nat := s.get (F.VT_TGT_REGION_XY_Y v tg) + y
     let lay : Nat → List (LayerCfg × List Nat) := fun x => (s.contributing v tg).filterMap fun c => (s.layerAt c (s.layer c.vat c.engine) ((s.bases c.vat c.engine (s.layer c.vat c.engine) x0 W).headD 0) x0 x Y none).map fun h => (c, h)
     let line : List Nat := (List.range W).map fun x => if (lay x).isEmpty then s.bgWord v tg else wordOf fun i => encode20 (codeUsed (s.get (F.VT_TGT_CTRL_OUT_CODE v tg))) ((lay x).foldl (fun out l => blend s l.1.vat l.1.engine out (l.2.getD i 0)) (lin (codeUsed (s.get (F.VT_TGT_CTRL_OUT_CODE v tg))) (compOf (s.bgWord v tg) i)))
     s.acts →
     v < 4 ∧ tg < 16 →
     s.on (F.VT_TGT_CTRL_ASSIGNED v tg) = true →
     y < s.get (F.VT_TGT_REGION_WH_H v tg) →
     s.lineHeld v tg y = false →
     Tab.find (16 * v + tg) s.wbs = some x →
     x.buf = some b ∧ x.damaged = false →
     ∃ t, exec (.composeLine v tg y [] []) s = .next t ∧ (Tab.get (fun _ => []) t.comp (compKey v tg y) = line) ∧ t.dram = (s.putRow x.lay b (x.fnum % 256) 0 y W line).dram ∧ ((Tab.get (fun _ => {}) t.wbs (16 * v + tg)).last = if y + 1 = s.get (F.VT_TGT_REGION_WH_H v tg) then some { w := min W (14 * x.lay.stride), h := min (y + 1) x.lay.maxRows, code := codeUsed (s.get (F.VT_TGT_CTRL_OUT_CODE v tg)), tag := x.fnum % 256, fence := x.fnum, invalid := [], trunc := decide (14 * x.lay.stride < W ∨ x.lay.maxRows < y + 1) } else x.last) ∧ Sent [] t ∧ Frame ([F.CH_SO_STATUS_FILL p, F.CH_SO_STATUS_URGENT p, F.VT_TGT_STATUS_CODE_RSVD v tg] ++ (s.contributing v tg).flatMap (fun c => ((s.layer c.vat c.engine).hold.map fun h => fsTagErr h.1).toList)) s ({ s with comp := t.comp, layers := t.layers, ports := t.ports, wbs := t.wbs, dram := t.dram }) t) ∧
  (∀ (s : State) (v tg y : Nat) (late : List (Nat × Nat)) (ue : List (Nat × Nat × Nat)),
     s.acts →
     v < 4 ∧ tg < 16 →
     s.on (F.VT_TGT_CTRL_ASSIGNED v tg) = true →
     y < s.get (F.VT_TGT_REGION_WH_H v tg) →
     s.lineHeld v tg y = false →
     ∃ t, exec (.composeLine v tg y late ue) s = .next t ∧ ((Tab.get (fun _ => []) t.comp (compKey v tg y)).length = s.get (F.VT_TGT_REGION_WH_W v tg)) ∧ ((s.contributing v tg).all (fun c => (late.find? (·.1 == 16 * c.vat + c.engine)).any (·.2 == 0)) = true → Tab.get (fun _ => []) t.comp (compKey v tg y) = List.replicate (s.get (F.VT_TGT_REGION_WH_W v tg)) (s.bgWord v tg)) ∧ (∀ e ∈ late, t.get (F.VT_LE_STATUS_FETCH_LATE (e.1 / 16) (e.1 % 16)) = 1) ∧ Sent [] t) ∧
  (∀ (s : State) (v tg y : Nat) (late : List (Nat × Nat)) (ue : List (Nat × Nat × Nat)),
     s.acts →
     (s.on (F.VT_TGT_CTRL_ASSIGNED v tg) = false ∨ s.get (F.VT_TGT_REGION_WH_H v tg) ≤ y ∨ s.lineHeld v tg y = true) →
     ∃ t, exec (.composeLine v tg y late ue) s = .next t ∧ Sent [] t ∧ Frame ([]) s (s) t) ∧
  (∀ (s : State) (v tg b : Nat) (x : WriteBack) (i : BufInfo),
     let k : Nat := storeCfgKey x.lay
     s.acts →
     v < 4 ∧ tg < 16 →
     Tab.find (16 * v + tg) s.wbs = some x →
     x.done = none ∧ x.buf = some b ∧ x.last = some i ∧ x.damaged = false →
     b < 3 ∧ storeCfgKey x.lay / 16 < 4 ∧ storeCfgKey x.lay / 4 % 4 < 3 ∧ storeCfgKey x.lay % 4 < 2 →
     s.mould.oldStores = [] →
     ∃ t, exec (.writeBackPublish v tg) s = .next t ∧ (t.get (fsNewest k) = b ∧ t.get (fsWriting k) = (if s.get (fsWriting k) = b then 3 else s.get (fsWriting k))) ∧ (t.buf k b = i ∧ Tab.get (fun _ => {}) t.wbs (16 * v + tg) = { x with buf := none }) ∧ Sent [] t ∧ Frame ([fsNewest k, fsWriting k]) s ({ s with stores := t.stores, wbs := t.wbs }) t) ∧
  (∀ (s : State) (v tg b : Nat) (st : StoreCfg) (x : WriteBack) (i : BufInfo),
     let k : Nat := storeCfgKey st
     s.acts →
     v < 4 ∧ tg < 16 →
     Tab.find (16 * v + tg) s.wbs = some x →
     x.done = some (st, b, i) →
     b < 3 ∧ storeCfgKey st / 16 < 4 ∧ storeCfgKey st / 4 % 4 < 3 ∧ storeCfgKey st % 4 < 2 →
     s.mould.oldStores = [] →
     ∃ t, exec (.writeBackPublish v tg) s = .next t ∧ t.get (fsNewest k) = b ∧ (t.buf k b = i ∧ Tab.get (fun _ => {}) t.wbs (16 * v + tg) = { x with done := none }) ∧ Sent [] t ∧ Frame ([fsNewest k, fsWriting k]) s ({ s with stores := t.stores, wbs := t.wbs }) t) ∧
  (∀ (s : State) (v tg : Nat),
     s.acts →
     ((match Tab.find (16 * v + tg) s.wbs with | some x => x.done.isNone && (x.last.isNone || x.buf.isNone || x.damaged) | none => true) = true) →
     ∃ t, exec (.writeBackPublish v tg) s = .next t ∧ Sent [] t ∧ Frame ([]) s (s) t) ∧
  (∀ (s : State) (v tg : Nat) (x : WriteBack),
     s.acts →
     v < 4 ∧ tg < 16 →
     Tab.find (16 * v + tg) s.wbs = some x →
     ∃ t, exec (.writeBackDrop v tg) s = .next t ∧ t.get (F.VT_TGT_STATUS_WB_DAMAGED_N v tg) = s.more (F.VT_TGT_STATUS_WB_DAMAGED_N v tg) ∧ t.on (F.VT_TGT_STATUS_WB_DAMAGED v tg) = true ∧ (s.on (F.VT_TGT_STATUS_WB_DAMAGED v tg) = true ∨ t.pendingCause 21 = true) ∧ ((Tab.get (fun _ => {}) t.wbs (16 * v + tg)).damaged = true) ∧ Sent [] t ∧ Frame ([F.VT_TGT_STATUS_WB_DAMAGED_N v tg, F.VT_TGT_STATUS_WB_DAMAGED v tg] ++ pendFlds) s ({ s with wbs := t.wbs }) t)

/-- A received row becomes its lamps' corrected values; a Press row's counts follow from its lamps' values, 0 for a permanent fault or an entry that does not read; READ gives the entry named, a correction WRITE changes the nine coefficients named and no others, a lamp-map or status WRITE waits for the frame start, SAVE puts the tables into the Cave; each ends DONE. A TSET write takes effect on the bank that is not active and is refused for the active one. -/
def Obligations.TilePixelPath : Prop :=
  (∀ (s : State) (phase row : Nat),
     let words : List Nat := Tab.get (fun _ => []) s.tileRx.cur (phase * 65536 + row)
     s.acts →
     s.isTile = true →
     phase < 4 →
     words ≠ [] →
     ∃ t, exec (.rowCorrect phase row []) s = .next t ∧ t.corrRow 0 phase row = correctRow s row [] 0 unityMatrix words ∧ Sent [] t ∧ Frame ([]) s ({ s with tp := t.tp }) t) ∧
  (∀ (s : State) (phase row : Nat),
     s.acts →
     s.drives = true →
     ∃ t, exec (.rowEncode phase row [] [] []) s = .next t ∧ (∀ q ∈ s.pressPorts, (Tab.get (fun _ => none) t.tp.counts (countKey phase row q)).isSome = true) ∧ (∀ q ∈ s.pressPorts, ∀ e ∈ s.lampsOn row, lmPort e.2 = q → (∀ d ∈ s.lampsOn row, lmPort d.2 = q → lmPos d.2 = lmPos e.2 → d = e) → Tab.get (fun _ => 0) ((Tab.get (fun _ => none) t.tp.counts (countKey phase row q)).getD []) (lmPos e.2) = s.lampCount phase e.1 e.2) ∧ Sent [] t ∧ Frame ([]) s ({ s with tp := { s.tp with counts := t.tp.counts } }) t) ∧
  (∀ (s : State),
     s.acts →
     s.answersAt (atTP 0x198) = true →
     s.get F.VT_TP_TAB_RESULT_STATE ≠ 1 ∧ s.get F.VT_TP_TAB_RESULT_STATE ≠ 5 →
     s.tabInRange = true →
     ∃ t, exec (.tableRead) s = .next t ∧ t.get F.VT_TP_TAB_RESULT_STATE = 1 ∧ t.get F.VT_TP_TAB_RESULT_VALID = 0 ∧ t.tp = { s.tp with cmd := some (s.rd F.VT_TP_TAB_ADDR_INDEX.addr, none) } ∧ Sent [] t ∧ Frame ([F.VT_TP_TAB_RESULT_STATE, F.VT_TP_TAB_RESULT_VALID]) s ({ s with tp := t.tp }) t) ∧
  (∀ (s : State),
     s.acts →
     s.answersAt (atTP 0x198) = true →
     s.get F.VT_TP_TAB_RESULT_STATE ≠ 1 ∧ s.get F.VT_TP_TAB_RESULT_STATE ≠ 5 →
     s.tabInRange = true →
     s.get F.VT_TP_TAB_ADDR_TABLE = 0 →
     s.on F.VT_TP_STATUS_RAMP = false →
     s.get F.VT_TP_TAB_ADDR_BANK ≠ s.get F.VT_TP_STATUS_BANK_ACT →
     ∃ t, exec (.tableWrite) s = .next t ∧ t.get F.VT_TP_TAB_RESULT_STATE = 1 ∧ t.get F.VT_TP_TAB_RESULT_VALID = 0 ∧ t.tp = { s.tp with cmd := some (s.rd F.VT_TP_TAB_ADDR_INDEX.addr, some ((List.range 9).map s.tabCoef)) } ∧ Sent [] t ∧ Frame ([F.VT_TP_TAB_RESULT_STATE, F.VT_TP_TAB_RESULT_VALID]) s ({ s with tp := t.tp }) t) ∧
  (∀ (s : State),
     s.acts →
     s.answersAt (atTP 0x198) = true →
     s.get F.VT_TP_TAB_RESULT_STATE ≠ 1 ∧ s.get F.VT_TP_TAB_RESULT_STATE ≠ 5 →
     s.tabInRange = true →
     s.get F.VT_TP_TAB_ADDR_TABLE = 1 →
     s.tp.queue.length < 256 →
     ∃ t, exec (.tableWrite) s = .next t ∧ t.get F.VT_TP_TAB_RESULT_STATE = 6 ∧ t.get F.VT_TP_TAB_RESULT_VALID = 0 ∧ t.tp = { s.tp with queue := s.tp.queue ++ [(true, s.get F.VT_TP_TAB_ADDR_INDEX, s.get (F.VT_TP_TAB_DATA_DATA 0))] } ∧ Sent [] t ∧ Frame ([F.VT_TP_TAB_RESULT_STATE, F.VT_TP_TAB_RESULT_VALID]) s ({ s with tp := t.tp }) t) ∧
  (∀ (s : State),
     s.acts →
     s.answersAt (atTP 0x198) = true →
     s.get F.VT_TP_TAB_RESULT_STATE ≠ 1 ∧ s.get F.VT_TP_TAB_RESULT_STATE ≠ 5 →
     s.tabInRange = false →
     ∃ t, exec (.tableWrite) s = .next t ∧ t.get F.VT_TP_TAB_RESULT_STATE = 3 ∧ t.get F.VT_TP_TAB_RESULT_VALID = 1 ∧ t.get F.VT_TP_STATUS_WRITE_REFUSED = 1 ∧ Sent [] t ∧ Frame ([F.VT_TP_TAB_RESULT_STATE, F.VT_TP_TAB_RESULT_VALID, F.VT_TP_TAB_RESULT_SEQ, F.VT_TP_STATUS_WRITE_REFUSED]) s (s) t) ∧
  (∀ (s : State) (a : Word) (l : List Int),
     let i : Nat := F.VT_TP_TAB_ADDR_INDEX.of a
     let j : Nat := F.VT_TP_TAB_ADDR_SET.of a
     let b : Nat := F.VT_TP_TAB_ADDR_BANK.of a
     s.acts →
     s.tp.cmd = some (a, some l) →
     ∃ t, exec (.tableCmdDone false) s = .next t ∧ t.get F.VT_TP_TAB_RESULT_STATE = 2 ∧ t.get F.VT_TP_TAB_RESULT_VALID = 1 ∧ t.get F.VT_TP_TAB_RESULT_SEQ = s.wrap F.VT_TP_TAB_RESULT_SEQ ∧ (∀ k ∈ List.range 9, (t.bank b).at i j k = l.getD k 0) ∧ (t.bank (if b = 0 then 1 else 0) = s.bank (if b = 0 then 1 else 0) ∧ t.tp.cmd = none) ∧ Sent [] t ∧ (∀ p m k, m < 4 → k < 9 → ¬ (p = i ∧ m = j) → (t.bank b).at p m k = (s.bank b).at p m k) ∧ Frame ([F.VT_TP_TAB_RESULT_STATE, F.VT_TP_TAB_RESULT_VALID, F.VT_TP_TAB_RESULT_SEQ]) s ({ s with tp := t.tp }) t) ∧
  (∀ (s : State) (a : Word),
     s.acts →
     s.tp.cmd = some (a, none) →
     F.VT_TP_TAB_ADDR_TABLE.of a = 1 →
     ∃ t, exec (.tableCmdDone false) s = .next t ∧ t.get F.VT_TP_TAB_RESULT_STATE = 2 ∧ t.get F.VT_TP_TAB_RESULT_VALID = 1 ∧ t.get (F.VT_TP_TAB_DATA_DATA 0) = s.lampEntry (F.VT_TP_TAB_ADDR_INDEX.of a) % 2 ^ 32 ∧ Sent [] t ∧ Frame ([F.VT_TP_TAB_RESULT_STATE, F.VT_TP_TAB_RESULT_VALID, F.VT_TP_TAB_RESULT_SEQ] ++ (List.range 5).map F.VT_TP_TAB_DATA_DATA) s ({ s with tp := { s.tp with cmd := none } }) t) ∧
  (∀ (s : State),
     s.acts →
     s.answersAt (atTP 0x198) = true →
     s.get F.VT_TP_TAB_RESULT_STATE ≠ 1 ∧ s.get F.VT_TP_TAB_RESULT_STATE ≠ 5 →
     ∃ t, exec (.tableSave) s = .next t ∧ t.get F.VT_TP_TAB_RESULT_STATE = 5 ∧ t.get F.VT_TP_TAB_RESULT_VALID = 0 ∧ Sent [] t ∧ Frame ([F.VT_TP_TAB_RESULT_STATE, F.VT_TP_TAB_RESULT_VALID]) s (s) t) ∧
  (∀ (s : State),
     s.acts →
     s.isTile = true →
     s.get F.VT_TP_TAB_RESULT_STATE = 5 →
     ∃ t, exec (.tableSaveDone) s = .next t ∧ t.get F.VT_TP_TAB_RESULT_STATE = 2 ∧ t.get F.VT_TP_TAB_RESULT_VALID = 1 ∧ t.cave.lampMap = s.tp.lampMap ∧ t.cave.status = s.tp.status ∧ t.cave.corr = s.bank (s.get F.VT_TP_STATUS_BANK_ACT) ∧ t.cave.tset = (List.range 4).map (s.tset (s.get F.VT_TP_STATUS_BANK_ACT)) ∧ Sent [] t ∧ Frame ([F.VT_TP_TAB_RESULT_STATE, F.VT_TP_TAB_RESULT_VALID, F.VT_TP_TAB_RESULT_SEQ]) s ({ s with cave := t.cave }) t) ∧
  (∀ (s : State) (r : Nat) (val : Word),
     s.acts →
     r < 4 →
     s.wordOk (atTP (0x20 + 4 * r)) val = true →
     s.on F.VT_TP_STATUS_RAMP = false →
     s.get F.VT_TP_STATUS_BANK_ACT ≠ r / 2 →
     ∃ t, exec (.tsetWrite r val) s = .next t ∧ t.rd (atTP (0x20 + 4 * r)) = val ∧ Sent [] t ∧ Frame ([whole (atTP (0x20 + 4 * r))]) s (s) t) ∧
  (∀ (s : State) (r : Nat) (val : Word),
     s.acts →
     r < 4 →
     s.wordOk (atTP (0x20 + 4 * r)) val = true →
     (s.on F.VT_TP_STATUS_RAMP = true ∨ s.get F.VT_TP_STATUS_BANK_ACT = r / 2) →
     ∃ t, exec (.tsetWrite r val) s = .next t ∧ t.get F.VT_TP_STATUS_WRITE_REFUSED = 1 ∧ Sent [] t ∧ Frame ([F.VT_TP_STATUS_WRITE_REFUSED]) s (s) t)

/-- At a window's lead every port used is configured with its GAIN and gets the window's first row; a row slot uploads the next row and runs this one on the ports that are lit and on no other; tests and probes judge their lamps and count; a signal group that differs in 16 frames in a row stops its port, until the host clears it; the dark causes are shown and stop every port; a complete output CRC is held with its frame, and reading its INFO word captures the CRC. -/
def Obligations.PressRows : Prop :=
  (∀ (s : State) (k : Nat),
     s.acts →
     s.noSwapWaits →
     s.drives = true →
     k < s.phases →
     ∃ t, exec (.windowLead k []) s = .next t ∧ (∀ q ∈ s.pressPorts, .pressCmd q 11 (s.sameWord q (s.get (F.PR_PORT_GAIN_GAIN q))) ∈ t.out ∧ .pressCmd q 5 [] ∈ t.out ∧ (s.get (F.PR_PORT_GEOM_MUX q) ≠ 0 → ∀ o ∈ s.rowCmds q ((if s.links.failed.contains 15 then none else Tab.get (fun _ => none) s.tp.counts (countKey k 0 q)).getD []), o ∈ t.out)) ∧ (t.get F.PR_SLOT_STATUS_DARK_SRC = s.darkSrc ∧ t.get F.PR_SLOT_STATUS_DARK = (if s.darkSrc % 32 = 0 then 0 else 1)) ∧ (s.darkSrc ≠ 0 → t.press.lit = 0) ∧ Frame ([F.PR_SLOT_STATUS_DARK_SRC, F.PR_SLOT_STATUS_DARK, F.PR_SLOT_STATUS_ROW_LATE] ++ pendFlds ++ s.pressPorts.flatMap (fun q => [F.PR_PORT_STATUS_ROW_LATE q, F.PR_PORT_COUNT_ROW_LATE_N q])) s ({ s with press := t.press, raster := s.raster.reachTick (s.sched.win.getD k 0) }) t) ∧
  (∀ (s : State) (k row : Nat),
     s.acts →
     s.noSwapWaits →
     s.drives = true →
     k < s.phases ∧ row < s.pressMux →
     s.sched.slot ≠ 0 ∧ (s.sched.slotAt k (row + 1) : Int) ≤ s.frameTicks →
     ∃ t, exec (.rowSlotStart k row []) s = .next t ∧ (∀ q ∈ s.pressPorts, s.press.lit.testBit q = true → row < s.get (F.PR_PORT_GEOM_MUX q) → .pressRun q row (s.on (F.PR_PORT_GEOM_ROWEN_POL q)) (s.runPulses s.sched) (!s.runFits s.sched) ∈ t.out) ∧ ((t.out.all fun o => match o with | .pressRun q r _ _ _ => s.press.lit.testBit q && r == row | _ => true) = true) ∧ (row ≠ 0 → ∀ q ∈ s.pressPorts, .pressCmd q 3 [] ∈ t.out) ∧ (row + 1 < s.pressMux → ∀ q ∈ s.pressPorts, row + 1 < s.get (F.PR_PORT_GEOM_MUX q) → ∀ o ∈ s.rowCmds q ((if s.links.failed.contains 15 then none else Tab.get (fun _ => none) s.tp.counts (countKey k (row + 1) q)).getD []), o ∈ t.out) ∧ (∀ q ∈ s.pressPorts, Tab.get (fun _ => 0) t.press.rowa q = row) ∧ t.press.lit = s.press.lit ∧ t.dram = s.dram ∧ Frame ([F.PR_SLOT_STATUS_ROW_LATE] ++ pendFlds ++ s.pressPorts.flatMap (fun q => [F.PR_PORT_STATUS_ROW_LATE q, F.PR_PORT_COUNT_ROW_LATE_N q])) s ({ s with press := t.press, raster := s.raster.reachTick (s.sched.slotAt k row) }) t) ∧
  (∀ (s : State) (k row : Nat) (opens shorts : List (Nat × Nat × List Nat)) (i w : Nat),
     s.acts →
     s.drives = true →
     s.testFrame = true →
     k = s.get F.PR_DIAG_CTRL_PHASE ∧ k < s.phases ∧ row + 1 < s.pressMux ∧ s.sched.slot ≠ 0 →
     s.lampsOn row = [(i, w)] →
     lmPort w ∈ s.pressPorts ∧ row < s.get (F.PR_PORT_GEOM_MUX (lmPort w)) ∧ s.press.lit.testBit (lmPort w) = true →
     (∀ q ∈ s.pressPorts, q = lmPort w) →
     s.testFits s.sched (lmPort w) row = true →
     s.press.discard = [] →
     (160000000 ≤ onTime s.tp.prev (Tab.get (fun _ => 0) (Tab.get (fun _ => []) s.press.sram (32 * lmPort w + row)) (lmPos w)) * s.sched.fine * 78125) →
     s.testOutcome opens shorts (lmPort w) (lmPos w) = 0 →
     s.diagStatus i < 4 →
     ∃ t, exec (.lampTest k row opens shorts) s = .next t ∧ t.diagStatus i = 0 ∧ t.lampRec i = { mark := s.tp.frames } ∧ t.tp.status = s.tp.status ∧ Sent [.pressCmd (lmPort w) 7 [], .pressCmd (lmPort w) 0 (s.sameWord (lmPort w) 0), .pressCmd (lmPort w) 9 [], .pressCmd (lmPort w) 0 (s.sameWord (lmPort w) 0)] t ∧ Frame ([]) s ({ s with tp := t.tp }) t) ∧
  (∀ (s : State) (k row : Nat) (opens shorts : List (Nat × Nat × List Nat)),
     s.acts →
     s.noSwapWaits →
     s.drives = true →
     s.probeFrame = true →
     k < s.phases ∧ s.sched.slot ≠ 0 ∧ s.press.lit ≠ 0 →
     ((s.press.gapUsed + s.probeTicks s.sched : Nat) : Int) ≤ s.gapAfter s.sched k →
     s.probeRow = some row →
     ∃ t, exec (.rowProbe k opens shorts) s = .next t ∧ t.get F.PR_DIAG_COUNT_PROBE_ROWS = s.more F.PR_DIAG_COUNT_PROBE_ROWS ∧ t.press.probed = some row ∧ t.press.gapUsed = s.press.gapUsed + s.probeTicks s.sched ∧ (∀ q ∈ s.pressPorts, s.press.lit.testBit q = true → .pressCmd q 13 (s.sameWord q row) ∈ t.out ∧ .pressRun q row (s.on (F.PR_PORT_GEOM_ROWEN_POL q)) [(s.probePulses s.sched, 16 * s.sched.fine, max (8 * s.sched.fine) 1)] false ∈ t.out ∧ .pressCmd q 11 (s.sameWord q (s.get (F.PR_PORT_GAIN_GAIN q))) ∈ t.out ∧ (∀ o ∈ [Out.pressCmd q 7 [], .pressCmd q 9 []], o ∈ t.out)) ∧ Frame ([F.PR_DIAG_COUNT_PROBE_ROWS, F.PR_DIAG_COUNT2_NEW_PERM]) s ({ s with press := t.press, tp := t.tp, raster := s.raster.reachTick (s.sched.slotAt k s.pressMux + s.press.gapUsed) }) t) ∧
  (∀ (s : State) (q groups : Nat) (gclk : List Nat),
     let bad : Nat := if gclk.any (· != 65536) then setBit (groups % 64) 3 else clearBit (groups % 64) 3
     s.acts →
     q < 16 →
     (∀ g ∈ List.range 6, Tab.get (fun _ => 0) s.press.differ (8 * q + g) < 15) →
     ∃ t, exec (.pinReadbackCheck q ⟨groups, gclk⟩) s = .next t ∧ t.get (F.PR_PORT_STATUS_PIN_ERR q) = s.get (F.PR_PORT_STATUS_PIN_ERR q) ||| bad ∧ (∀ g ∈ List.range 6, Tab.get (fun _ => 0) t.press.differ (8 * q + g) = (if bad.testBit g then Tab.get (fun _ => 0) s.press.differ (8 * q + g) + 1 else 0)) ∧ t.press.lit = s.press.lit ∧ Sent [] t ∧ Frame ([F.PR_PORT_STATUS_PIN_ERR q]) s ({ s with press := t.press }) t) ∧
  (∀ (s : State) (q groups g : Nat) (gclk : List Nat),
     let bad : Nat := if gclk.any (· != 65536) then setBit (groups % 64) 3 else clearBit (groups % 64) 3
     s.acts →
     q < 16 →
     g < 6 ∧ bad.testBit g = true →
     (15 ≤ Tab.get (fun _ => 0) s.press.differ (8 * q + g)) →
     s.on (F.PR_PORT_STATUS_PIN_STUCK q) = false →
     s.log.queue.length < 64 →
     ∃ t, exec (.pinReadbackCheck q ⟨groups, gclk⟩) s = .next t ∧ t.on (F.PR_PORT_STATUS_PIN_STUCK q) = true ∧ t.pendingCause 33 = true ∧ t.press.lit.testBit q = false ∧ t.log.queue.length = s.log.queue.length + 1 ∧ Sent [] t ∧ Frame ([F.PR_PORT_STATUS_PIN_ERR q, F.PR_PORT_STATUS_PIN_STUCK q, F.PR_SLOT_STATUS_DARK, F.PR_SLOT_STATUS_DARK_SRC] ++ pendFlds) s ({ s with press := t.press, log := t.log }) t) ∧
  (∀ (s : State) (q : Nat),
     s.acts →
     q < 16 →
     s.answersAt (atPORT q 8) = true →
     ∃ t, exec (.pinStuckClear q) s = .next t ∧ t.get (F.PR_PORT_STATUS_PIN_STUCK q) = 0 ∧ (∀ g ∈ List.range 6, Tab.get (fun _ => 0) t.press.differ (8 * q + g) = 0) ∧ t.press.lit = s.press.lit ∧ Sent [] t ∧ Frame ([F.PR_PORT_STATUS_PIN_STUCK q]) s ({ s with press := t.press }) t) ∧
  (∀ (s : State),
     s.acts →
     ∃ t, exec (.pressDarkEval) s = .next t ∧ (t.get F.PR_SLOT_STATUS_DARK_SRC = s.darkSrc ∧ t.get F.PR_SLOT_STATUS_DARK = (if s.darkSrc % 32 = 0 then 0 else 1)) ∧ (s.darkSrc ≠ 0 → t.press.lit = 0) ∧ Sent [] t ∧ Frame ([F.PR_SLOT_STATUS_DARK, F.PR_SLOT_STATUS_DARK_SRC]) s ({ s with press := t.press }) t) ∧
  (∀ (s : State) (q r : Nat),
     s.acts →
     q < 16 →
     (Tab.get (fun _ => none) s.press.crc q = some r) →
     ∃ t, exec (.outputCrcComplete q) s = .next t ∧ t.get (F.PR_PORT_OCRC_CRC q) = (r ^^^ 0xFFFFFFFF) % 2 ^ 32 ∧ t.get (F.PR_PORT_OCRC_INFO_VALID q) = 1 ∧ t.get (F.PR_PORT_OCRC_INFO_FNUM q) = s.picFrame % 2 ^ (F.PR_PORT_OCRC_INFO_FNUM q).width ∧ t.get (F.PR_PORT_OCRC_INFO_SEQ q) = s.wrap (F.PR_PORT_OCRC_INFO_SEQ q) ∧ (Tab.get (fun _ => none) t.press.crc q = none) ∧ Sent [] t ∧ Frame ([F.PR_PORT_OCRC_CRC q, F.PR_PORT_OCRC_INFO_VALID q, F.PR_PORT_OCRC_INFO_FNUM q, F.PR_PORT_OCRC_INFO_SEQ q]) s ({ s with press := t.press }) t) ∧
  (∀ (s : State) (q : Nat),
     s.acts →
     q < 16 →
     s.answersAt (atPORT q 0x14) = true →
     ∃ t, exec (.ocrcInfoRead q) s = .next t ∧ t.acc.rdata = [(s.rd (F.PR_PORT_OCRC_INFO_VALID q).addr).toNat] ∧ (Tab.get (fun _ => none) t.acc.captured (F.PR_PORT_OCRC_CRC q).addr = some (s.rd (F.PR_PORT_OCRC_CRC q).addr)) ∧ Sent [] t ∧ Frame ([]) s ({ s with acc := t.acc }) t)

/-- The request the arbitration picks is served: its row stands open and its wait shows in the maximum of the class its traffic has, a layer's fetch in class 0 or 2 by its urgency; a row hit passes an older miss of its class while MAX_HITS allows. A refresh point owes one refresh and pays one unless a class-0 request waits, and there is none past the frame's end; with 32 owed one is forced and counted. ZQCS comes once, at its midpoint, and it and an expired idle timer close rows; a promotion moves a request one class up. A temperature read shows TEMP_HI and DRAM_HOT with its cause and steps the die's throttle. The patrol scrub opens its row, shows its wait in class 5, goes on through the installed memory and reports what it cannot read. Reading ERR_LAST0 captures ERR_LAST1. -/
def Obligations.DramController : Prop :=
  (∀ (s : State) (c wait : Nat) (r : DramReq),
     let k : Nat := s.clsOf r.kind
     s.acts →
     c < 8 →
     s.dramRuns c = true →
     (s.dramCh c).reqs = [] ∧ (s.dramCh c).owed = 0 →
     s.on (F.VT_DRAM_NRR_NRR_SHIFT c) = false →
     ∃ t, exec (.dramRequest c [r] wait 0) s = .next t ∧ ((r.kind = .encode true → k = 0) ∧ (r.kind = .input true → k = 1) ∧ (r.kind = .correct ∨ r.kind = .rewrite → k = 2) ∧ (r.kind = .input false ∨ r.kind = .store → k = 3) ∧ (r.kind = .host → k = 4) ∧ (r.kind = .patrol → k = 5)) ∧ (t.dramCh c).reqs = [] ∧ t.rowHit c r = true ∧ t.get (F.VT_DRAM_WAIT_MAX_NS (c / 2) k) = max (s.get (F.VT_DRAM_WAIT_MAX_NS (c / 2) k)) (min wait 65535) ∧ (t.get (F.VT_DRAM_WAIT_EXCEED_N (c / 2) k) = (if s.classFigure c k < wait then s.more (F.VT_DRAM_WAIT_EXCEED_N (c / 2) k) else s.get (F.VT_DRAM_WAIT_EXCEED_N (c / 2) k))) ∧ Sent [] t ∧ (∀ v e, r.kind = .layer v e → k = if s.urgentLayer v e then 0 else 2) ∧ Frame ([F.VT_DRAM_WAIT_MAX_NS (c / 2) k, F.VT_DRAM_WAIT_EXCEED_N (c / 2) k]) s ({ s with drams := t.drams, freeN := t.freeN }) t) ∧
  (∀ (s : State) (c wait : Nat) (q r : DramReq),
     let k : Nat := s.clsOf r.kind
     s.acts →
     c < 8 →
     s.dramRuns c = true →
     (s.dramCh c).reqs = [(q, k)] ∧ (s.dramCh c).owed = 0 →
     s.clsOf q.kind = k ∧ k ≠ 0 ∧ r.kind ≠ .rewrite ∧ q.kind ≠ .rewrite →
     rowFirst q.addr ≠ rowFirst r.addr →
     s.rowHit c q = false ∧ s.rowHit c r = true →
     (s.dramCh c).hits < max 1 (s.get (F.VT_DRAM_PAGE_MAX_HITS c)) →
     ∃ t, exec (.dramRequest c [r] wait 0) s = .next t ∧ (t.dramCh c).reqs = [(q, k)] ∧ (t.dramCh c).hits = (s.dramCh c).hits + 1 ∧ (t.dramCh c).rows = (s.dramCh c).rows ∧ Sent [] t ∧ Frame ([F.VT_DRAM_WAIT_MAX_NS (c / 2) k, F.VT_DRAM_WAIT_EXCEED_N (c / 2) k]) s ({ s with drams := t.drams }) t) ∧
  (∀ (s : State) (c : Nat),
     let k : Nat := s.nextPoint c
     let r : Raster := if s.rasterValid then s.raster.reachTick (refTick c k (s.dramCh c).fast) else s.raster
     s.acts →
     s.noSwapWaits →
     c < 8 →
     s.dramRuns c = true →
     (s.rasterValid = true → ((refTick c k (s.dramCh c).fast : Nat) : Int) < s.frameTicks) →
     ∃ t, exec (.refreshPoint c) s = .next t ∧ (t.dramCh c).point = some (s.raster.fnum, k) ∧ (t.dramCh c).pointAt = r.ticks ∧ (t.dramCh c).fast = (s.dramCh c).fast ∧ ((t.dramCh c).owed = (if (s.waiting c).any (·.2 == 0) then (s.dramCh c).owed + 1 else (s.dramCh c).owed)) ∧ ((s.waiting c).any (·.2 == 0) = false → (t.dramCh c).rows = []) ∧ (t.dramCh c).reqs = (s.dramCh c).reqs ∧ Sent [] t ∧ Frame ([]) s ({ s with drams := t.drams, raster := r }) t) ∧
  (∀ (s : State) (c : Nat),
     s.acts →
     s.noSwapWaits →
     c < 8 →
     s.rasterValid = true ∧ s.frameTicks ≤ ((refTick c (s.nextPoint c) (s.dramCh c).fast : Nat) : Int) →
     ∃ t, exec (.refreshPoint c) s = .next t ∧ Sent [] t ∧ Frame ([]) s (s) t) ∧
  (∀ (s : State) (c : Nat),
     s.acts →
     c < 8 →
     s.dramRuns c = true →
     32 ≤ (s.dramCh c).owed →
     ∃ t, exec (.forcedRefresh c) s = .next t ∧ (t.dramCh c).owed = (s.dramCh c).owed - 1 ∧ (t.dramCh c).rows = [] ∧ t.get (F.VT_DRAM_STATE_REF_FORCED_N c) = s.more (F.VT_DRAM_STATE_REF_FORCED_N c) ∧ Sent [] t ∧ Frame ([F.VT_DRAM_STATE_REF_FORCED_N c]) s ({ s with drams := t.drams }) t) ∧
  (∀ (s : State) (c f k : Nat),
     let tick : Nat := refTick c k (s.dramCh c).fast + (if (s.dramCh c).fast then 195 else 390)
     s.acts →
     s.noSwapWaits →
     c < 8 →
     s.dramRuns c = true →
     (s.dramCh c).point = some (f, k) →
     k % 64 = 63 →
     (s.dramCh c).zqcs ≠ some (f, k) →
     (s.rasterValid = true → f = s.raster.fnum ∧ ((tick : Nat) : Int) < s.frameTicks) →
     ∃ t, exec (.zqcs c) s = .next t ∧ (t.dramCh c) = { s.dramCh c with rows := [], zqcs := some (f, k) } ∧ Sent [] t ∧ Frame ([]) s ({ s with drams := t.drams, raster := if s.rasterValid then s.raster.reachTick tick else s.raster }) t) ∧
  (∀ (s : State) (c : Nat),
     s.acts →
     s.noSwapWaits →
     c < 8 →
     (s.dramCh c).zqcs = (s.dramCh c).point →
     ∃ t, exec (.zqcs c) s = .next t ∧ Sent [] t ∧ Frame ([]) s (s) t) ∧
  (∀ (s : State) (c band : Nat),
     s.acts →
     c < 8 →
     s.dramRuns c = true →
     2 ≤ band →
     s.get (F.RD_TH_DIE_MAX (1 + c / 2)) = 0x8000 →
     ∃ t, exec (.dramTempRead c band) s = .next t ∧ t.get (F.VT_DRAM_STATE_TEMP_HI c) = 1 ∧ t.on (F.VT_DRAM_STATE_DRAM_HOT c) = true ∧ (s.on (F.VT_DRAM_STATE_DRAM_HOT c) = true ∨ t.pendingCause 22 = true) ∧ 1 ≤ t.get (F.RD_TH_DIE_STAGE (1 + c / 2)) ∧ Sent [] t ∧ Frame ([F.VT_DRAM_STATE_TEMP_HI c, F.VT_DRAM_STATE_DRAM_HOT c, F.RD_TH_DIE_STAGE (1 + c / 2), F.RD_TH_STATUS_STAGE_EV, F.RD_TH_STATUS_TJ_MAX, F.RD_TH_STATUS_STAGE] ++ pendFlds) s ({ s with drams := t.drams }) t) ∧
  (∀ (s : State) (c wait : Nat),
     let a : Nat := 64 * s.get (F.VT_DRAM_SCRUB_POS_POS c)
     s.acts →
     c < 8 →
     s.dramRuns c = true →
     s.on (F.VT_DRAM_SCRUB_SCRUB_EN c) = true →
     s.on (F.RD_TH_DIE_STAGE (1 + c / 2)) = false →
     s.on (F.VT_DRAM_NRR_NRR_SHIFT c) = false →
     ∃ t, exec (.patrolScrub c ⟨wait, 0⟩) s = .next t ∧ (t.get (F.VT_DRAM_SCRUB_POS_POS c) = (if s.get (F.VT_DRAM_CFG_SIZE c) * 2 ^ 24 ≤ s.get (F.VT_DRAM_SCRUB_POS_POS c) + 1 then 0 else s.get (F.VT_DRAM_SCRUB_POS_POS c) + 1)) ∧ t.rowHit c ⟨a, .patrol, false⟩ = true ∧ (t.dramCh c).reqs = (s.dramCh c).reqs ∧ t.get (F.VT_DRAM_WAIT_MAX_NS (c / 2) 5) = max (s.get (F.VT_DRAM_WAIT_MAX_NS (c / 2) 5)) (min wait 65535) ∧ (t.get (F.VT_DRAM_WAIT_EXCEED_N (c / 2) 5) = (if 1000000 < wait then s.more (F.VT_DRAM_WAIT_EXCEED_N (c / 2) 5) else s.get (F.VT_DRAM_WAIT_EXCEED_N (c / 2) 5))) ∧ Sent [] t ∧ Frame ([F.VT_DRAM_SCRUB_POS_POS c, F.VT_DRAM_WAIT_MAX_NS (c / 2) 5, F.VT_DRAM_WAIT_EXCEED_N (c / 2) 5]) s ({ s with drams := t.drams, freeN := t.freeN }) t) ∧
  (∀ (s : State) (c wait : Nat),
     let a : Nat := 64 * s.get (F.VT_DRAM_SCRUB_POS_POS c)
     s.acts →
     c < 8 →
     s.dramRuns c = true →
     s.on (F.VT_DRAM_SCRUB_SCRUB_EN c) = true →
     s.on (F.RD_TH_DIE_STAGE (1 + c / 2)) = false →
     s.on (F.VT_DRAM_NRR_NRR_SHIFT c) = false →
     (Tab.get (fun _ => 0) (s.dramCh c).ues (rowFirst a) = 0) →
     s.log.queue.length < 64 →
     ∃ t, exec (.patrolScrub c ⟨wait, 2⟩) s = .next t ∧ t.get (F.VT_DRAM_ERRCNT_UE_N c) = s.more (F.VT_DRAM_ERRCNT_UE_N c) ∧ t.pendingCause 24 = true ∧ t.get (F.VT_DRAM_ERR_LAST0_VALID c) = 1 ∧ t.get (F.VT_DRAM_ERR_LAST0_UE c) = 1 ∧ t.get (F.VT_DRAM_ERR_LAST0_CLASS c) = 5 ∧ t.get (F.VT_DRAM_ERR_LAST1_ROW c) = (s.locate c a).row ∧ t.get (F.VT_DRAM_ERR_LAST1_COL c) = (s.locate c a).col ∧ (Tab.get (fun _ => 0) (t.dramCh c).ues (rowFirst a) = 1 ∧ (t.dramCh c).due = (s.dramCh c).due) ∧ t.log.queue.length = s.log.queue.length + 1 ∧ Sent [] t ∧ Frame ([F.VT_DRAM_SCRUB_POS_POS c, F.VT_DRAM_WAIT_MAX_NS (c / 2) 5, F.VT_DRAM_WAIT_EXCEED_N (c / 2) 5, F.VT_DRAM_ERRCNT_UE_N c, F.VT_DRAM_ERR_LAST0_VALID c, F.VT_DRAM_ERR_LAST0_UE c, F.VT_DRAM_ERR_LAST0_SEQ c, F.VT_DRAM_ERR_LAST0_RANK c, F.VT_DRAM_ERR_LAST0_BG c, F.VT_DRAM_ERR_LAST0_BA c, F.VT_DRAM_ERR_LAST0_CLASS c, F.VT_DRAM_ERR_LAST1_ROW c, F.VT_DRAM_ERR_LAST1_COL c] ++ pendFlds) s ({ s with drams := t.drams, log := t.log, freeN := t.freeN }) t) ∧
  (∀ (s : State) (c bank : Nat),
     s.acts →
     c < 8 →
     ∃ t, exec (.idleTimerExpiry c bank) s = .next t ∧ (Tab.get (fun _ => none) (t.dramCh c).rows bank = none ∧ (t.dramCh c).reqs = (s.dramCh c).reqs) ∧ Sent [] t ∧ (∀ b, b ≠ bank → Tab.get (fun _ => none) (t.dramCh c).rows b = Tab.get (fun _ => none) (s.dramCh c).rows b) ∧ Frame ([]) s ({ s with drams := t.drams }) t) ∧
  (∀ (s : State) (c i cls : Nat) (r : DramReq),
     s.acts →
     c < 8 →
     (s.dramCh c).reqs[i]? = some (r, cls) →
     ∃ t, exec (.dramClassPromotion c i) s = .next t ∧ ((t.dramCh c).reqs[i]? = some (r, if 2 ≤ cls then cls - 1 else cls)) ∧ Sent [] t ∧ (∀ j, j ≠ i → (t.dramCh c).reqs[j]? = (s.dramCh c).reqs[j]?) ∧ Frame ([]) s ({ s with drams := t.drams }) t) ∧
  (∀ (s : State) (c : Nat),
     s.acts →
     c < 8 →
     s.answersAt (atDCH c 0x14) = true →
     ∃ t, exec (.errLastRead c) s = .next t ∧ t.acc.rdata = [(s.rd (F.VT_DRAM_ERR_LAST0_VALID c).addr).toNat] ∧ (Tab.get (fun _ => none) t.acc.captured (F.VT_DRAM_ERR_LAST1_ROW c).addr = some (s.rd (F.VT_DRAM_ERR_LAST1_ROW c).addr)) ∧ Sent [] t ∧ Frame ([]) s ({ s with acc := t.acc }) t)

/-- At a REF point a due repair uses the spare of its rank and bank group, counts the row's CEs, zeroes its UEs, is counted, shown, listed in the Cave and logged, or without a spare sets EXHAUSTED; what the Cave load had filled is copied afresh. A pending change is accepted at the start of S - 8 if it passes its checks, refused with their code otherwise; at the even channel's first REF point from S on both channels take the values and close their rows, and from T on after a re-mould of the rate. With nothing due, pending or accepted, nothing changes. -/
def Obligations.DramRepair : Prop :=
  (∀ (s : State) (c row f : Nat) (rest : List (Nat × Nat)) (x : RowReads),
     let l : DramLoc := s.locate c row
     let bursts : List Nat := (x.ue.filter (· < 128)).map fun i => row + 256 * i
     s.acts →
     c < 8 →
     s.dramRuns c = true →
     (s.dramCh c).due = (row, f) :: rest →
     s.atPoint c = true →
     0 ≤ ahead s.raster.fnum f →
     s.spareOf c l = true →
     s.log.queue.length + x.ce.length < 64 →
     ∃ t, exec (.rowRepair c x) s = .next t ∧ t.get (F.VT_DRAM_PPR_SPARE c) = clearBit (s.get (F.VT_DRAM_PPR_SPARE c)) (4 * l.rank + l.bg) ∧ t.get (F.VT_DRAM_ERRCNT_REPAIR_N c) = s.more (F.VT_DRAM_ERRCNT_REPAIR_N c) ∧ t.get (F.VT_DRAM_PPR_REPAIRED c) = 1 ∧ t.get (F.VT_DRAM_PPR_LISTED c) = s.more (F.VT_DRAM_PPR_LISTED c) ∧ t.get (F.VT_DRAM_ERRCNT_CE_N c) = min (s.get (F.VT_DRAM_ERRCNT_CE_N c) + (x.ce.filter (· < 128)).length) (2 ^ (F.VT_DRAM_ERRCNT_CE_N c).width - 1) ∧ (t.dramCh c = { s.dramCh c with due := rest, rows := [], ces := (t.dramCh c).ces, ues := Tab.set (fun _ => 0) row 0 (s.dramCh c).ues, recopy := (s.dramCh c).recopy ++ bursts }) ∧ (bursts = [] → t.dram = s.dram ∧ t.tp.bank0 = s.tp.bank0 ∧ t.tp.bank1 = s.tp.bank1 ∧ t.tp.lampMap = s.tp.lampMap ∧ t.tp.status = s.tp.status ∧ t.tp.recs = s.tp.recs) ∧ (x.items = [] → t.tileRx = s.tileRx ∧ t.auds = s.auds ∧ t.tp.store = s.tp.store ∧ (s.drives = false ∨ 2 ≤ c → t.tp = s.tp)) ∧ t.cave.repairs = s.cave.repairs ++ [(c, row)] ∧ s.log.queue.length < t.log.queue.length ∧ (x.ce = [] → t.log.queue.length = s.log.queue.length + 1) ∧ Sent [] t ∧ (∀ b ∈ bursts, t.bytesN (dramAt (c / 2) (dieAddr c (b / 64 * 64))) 64 = 0) ∧ (∀ a, (∀ b ∈ bursts, a < dramAt (c / 2) (dieAddr c (b / 64 * 64)) ∨ dramAt (c / 2) (dieAddr c (b / 64 * 64)) + 64 ≤ a) → t.byte a = s.byte a) ∧ (∀ b ph r w, .stored b ph r w ∈ x.items → (Tab.get (fun _ => []) t.tp.store ((b % 3 * 4 + ph) * 65536 + r)).getD w 0 = 0) ∧ (∀ last ph r w, .word last ph r w ∈ x.items → (Tab.get (fun _ => []) (if last then t.tileRx.last else t.tileRx.cur) (ph * 65536 + r)).getD w 0 = 0) ∧ Frame ([F.VT_DRAM_PPR_SPARE c, F.VT_DRAM_ERRCNT_REPAIR_N c, F.VT_DRAM_PPR_REPAIRED c, F.VT_DRAM_PPR_LISTED c] ++ (if x.ce = [] then [] else [F.VT_DRAM_ERRCNT_CE_N c, F.VT_DRAM_ERR_LAST0_VALID c, F.VT_DRAM_ERR_LAST0_UE c, F.VT_DRAM_ERR_LAST0_SEQ c, F.VT_DRAM_ERR_LAST0_RANK c, F.VT_DRAM_ERR_LAST0_BG c, F.VT_DRAM_ERR_LAST0_BA c, F.VT_DRAM_ERR_LAST0_CLASS c, F.VT_DRAM_ERR_LAST1_ROW c, F.VT_DRAM_ERR_LAST1_COL c])) s ({ s with drams := t.drams, log := t.log, cave := { s.cave with repairs := t.cave.repairs }, dram := t.dram, tileRx := { s.tileRx with last := t.tileRx.last, cur := t.tileRx.cur }, auds := t.auds, tp := { s.tp with bank0 := t.tp.bank0, bank1 := t.tp.bank1, lampMap := t.tp.lampMap, status := t.tp.status, recs := t.tp.recs, store := t.tp.store } }) t) ∧
  (∀ (s : State) (c row f : Nat) (rest : List (Nat × Nat)) (x : RowReads),
     s.acts →
     c < 8 →
     s.dramRuns c = true →
     (s.dramCh c).due = (row, f) :: rest →
     s.atPoint c = true →
     0 ≤ ahead s.raster.fnum f →
     s.spareOf c (s.locate c row) = false →
     s.log.queue.length < 64 →
     ∃ t, exec (.rowRepair c x) s = .next t ∧ (t.on (F.VT_DRAM_PPR_EXHAUSTED c) = true ∧ (s.on (F.VT_DRAM_PPR_EXHAUSTED c) = true ∨ t.pendingCause 23 = true)) ∧ (t.dramCh c).due = rest ∧ t.log.queue.length = s.log.queue.length + 1 ∧ Sent [] t ∧ Frame ([F.VT_DRAM_PPR_EXHAUSTED c] ++ pendFlds) s ({ s with drams := t.drams, log := t.log }) t) ∧
  (∀ (s : State) (c : Nat) (x : RowReads),
     s.acts →
     c < 8 →
     ((s.dramCh c).due = [] ∨ s.dramRuns c = false ∨ s.atPoint c = false) →
     ∃ t, exec (.rowRepair c x) s = .next t ∧ Sent [] t ∧ Frame ([]) s (s) t) ∧
  (∀ (s : State) (c : Nat),
     s.acts →
     c < 8 →
     ∃ t, exec (.repairRecopyDone c) s = .next t ∧ t.dramCh c = { s.dramCh c with recopy := [] } ∧ (s.drives = false ∨ 2 ≤ c ∨ (s.dramCh c).recopy = [] → t.tp = s.tp) ∧ Sent [] t ∧ Frame ([]) s ({ s with drams := t.drams, tp := { s.tp with bank0 := t.tp.bank0, lampMap := t.tp.lampMap, status := t.tp.status } }) t) ∧
  (∀ (s : State) (c a k : Nat),
     let d : Nat := dieAddr c (a / 64 * 64)
     s.acts →
     c < 2 →
     s.drives = true →
     (s.dramCh c).recopy = [a] →
     s.tile.lampMap ≤ d ∧ d < s.tile.lampMap + 12 * (s.tile.w * s.tile.h) →
     k ∈ entriesOf s.tile.lampMap 16 d →
     ∃ t, exec (.repairRecopyDone c) s = .next t ∧ (Tab.get (fun _ => 0) t.tp.lampMap k = (if inFailed s.tileRx.caveFailed (72 * (s.tile.w * s.tile.h) + 4 * k) 4 then 0 else Tab.get (fun _ => 0) s.cave.lampMap k)) ∧ Sent [] t ∧ (∀ j, j ∉ entriesOf s.tile.lampMap 16 d → Tab.get (fun _ => 0) t.tp.lampMap j = Tab.get (fun _ => 0) s.tp.lampMap j) ∧ Frame ([]) s ({ s with drams := t.drams, tp := { s.tp with bank0 := t.tp.bank0, lampMap := t.tp.lampMap, status := t.tp.status } }) t) ∧
  (∀ (s : State) (v : Nat),
     let d : Int := ahead (s.get (F.VT_DRAM_SCHED_FNUM_S v)) s.raster.fnum
     s.acts →
     v < 4 →
     s.fcPending v = true →
     s.fc v = {} →
     1 ≤ d ∧ d ≤ 8 →
     s.fcError v = 0 →
     ∃ t, exec (.dramFreqJudge v) s = .next t ∧ t.fc v = { accepted := some (s.get (F.VT_DRAM_SCHED_FNUM_S v)) } ∧ Sent [] t ∧ Frame ([]) s ({ s with dramFc := t.dramFc }) t) ∧
  (∀ (s : State) (v : Nat),
     let d : Int := ahead (s.get (F.VT_DRAM_SCHED_FNUM_S v)) s.raster.fnum
     s.acts →
     v < 4 →
     s.fcPending v = true →
     s.fc v = {} →
     1 ≤ d ∧ d ≤ 8 →
     s.fcError v ≠ 0 →
     s.fcError v < 8 →
     ∃ t, exec (.dramFreqJudge v) s = .next t ∧ t.get (F.VT_DRAM_FC_STATUS_STATE v) = 3 ∧ t.get (F.VT_DRAM_FC_STATUS_ERR v) = s.fcError v ∧ t.get (F.VT_DRAM_FC_STATUS_FC_REFUSED v) = 1 ∧ t.get (F.VT_DRAM_FC_STATUS_VALID v) = 1 ∧ t.fc v = { refused := true } ∧ Sent [] t ∧ Frame ([F.VT_DRAM_FC_STATUS_STATE v, F.VT_DRAM_FC_STATUS_ERR v, F.VT_DRAM_FC_STATUS_FC_REFUSED v, F.VT_DRAM_FC_STATUS_VALID v, F.VT_DRAM_FC_STATUS_SEQ v]) s ({ s with dramFc := t.dramFc }) t) ∧
  (∀ (s : State) (v : Nat),
     let d : Int := ahead (s.get (F.VT_DRAM_SCHED_FNUM_S v)) s.raster.fnum
     s.acts →
     v < 4 →
     (s.fcPending v = false ∨ (s.fc v).refused = true ∨ (s.fc v).accepted.isSome = true ∨ d < 1 ∨ 8 < d) →
     ∃ t, exec (.dramFreqJudge v) s = .next t ∧ Sent [] t ∧ Frame ([]) s (s) t) ∧
  (∀ (s : State) (v S : Nat),
     s.acts →
     v < 4 →
     (s.fc v).accepted = some S →
     s.atPoint (2 * v) = true →
     0 ≤ ahead s.raster.fnum S →
     (∀ e ∈ (s.dramCh (2 * v)).due, ahead s.raster.fnum e.2 < 0) →
     ∃ t, exec (.dramFreqChange v) s = .next t ∧ (∀ a ∈ fcAddrs v, t.rd a = s.pendWord a ∧ t.pendWord a = s.pendWord a) ∧ t.get (F.VT_DRAM_FC_STATUS_STATE v) = 2 ∧ t.get (F.VT_DRAM_FC_STATUS_ERR v) = 0 ∧ t.get (F.VT_DRAM_FC_STATUS_VALID v) = 1 ∧ t.fc v = {} ∧ (t.dramCh (2 * v)).rows = [] ∧ (t.dramCh (2 * v + 1)).rows = [] ∧ Sent [] t ∧ Frame ((fcAddrs v).map whole ++ [F.VT_DRAM_FC_STATUS_STATE v, F.VT_DRAM_FC_STATUS_ERR v, F.VT_DRAM_FC_STATUS_VALID v, F.VT_DRAM_FC_STATUS_SEQ v]) s ({ s with drams := t.drams, dramFc := t.dramFc, pend := t.pend }) t) ∧
  (∀ (s : State) (v S : Nat),
     s.acts →
     v < 4 →
     (s.fc v).accepted = none ∧ (s.fc v).remould = some S →
     s.atPoint (2 * v) = true →
     0 ≤ ahead s.raster.fnum S →
     (∀ e ∈ (s.dramCh (2 * v)).due, ahead s.raster.fnum e.2 < 0) →
     ∃ t, exec (.dramFreqChange v) s = .next t ∧ (t.dramCh (2 * v)).rows = [] ∧ (t.dramCh (2 * v + 1)).rows = [] ∧ t.fc v = { s.fc v with remould := none } ∧ Sent [] t ∧ Frame ([]) s ({ s with drams := t.drams, dramFc := t.dramFc }) t) ∧
  (∀ (s : State) (v : Nat),
     s.acts →
     v < 4 →
     (s.atPoint (2 * v) = false ∨ (∀ S ∈ (s.fc v).dueAt.toList, ahead s.raster.fnum S < 0) ∨ (∃ e ∈ (s.dramCh (2 * v)).due, 0 ≤ ahead s.raster.fnum e.2)) →
     ∃ t, exec (.dramFreqChange v) s = .next t ∧ Sent [] t ∧ Frame ([]) s (s) t)

/-- A sample of a running die's sensor is recorded with its SEQ and deviation count; a module's two bytes are rounded to 0.125 degrees, and a failed read counted, each after the read cycle on the port's bus; a die whose maximum has stayed below its stage less the hysteresis goes down one stage; a limit write in order is taken, one out of order refused; TH_CLR lets faulty sensors be judged afresh. At 130 degrees the part trips: every die but the Rind die is gated and the Press is dark. -/
def Obligations.Thermal : Prop :=
  (∀ (s : State) (d i : Nat) (T : Int),
     s.acts →
     d < 8 →
     s.dieRuns d = true →
     i < sensorCount d →
     deviates T (s.goodReadings d i) 200 = false →
     ∃ t, exec (.dieSensorSample d i T) s = .next t ∧ (t.sensor d i).temp = some T ∧ (t.sensor d i).seq = ((s.sensor d i).seq + 1) % 256 ∧ (t.sensor d i).devcnt = 0 ∧ (t.sensor d i).faulty = (s.sensor d i).faulty ∧ (s.dieThr 1 - 80 ≤ T → (s.sensor d i).faulty = false → t.get (F.RD_TH_DIE_FAST d) = 1) ∧ Sent [] t ∧ (∀ e j, ¬ (e = d ∧ j = i) → e < 8 → j < 16 → i < 16 → t.sensor e j = s.sensor e j) ∧ Frame ([F.RD_TH_DIE_STAGE d, F.RD_TH_DIE_FAST d, F.RD_TH_DIE_NONE_OK d, F.RD_TH_DIE_FAULTY d, F.RD_TH_DIE_MAX d, F.RD_TH_STATUS_STAGE_EV, F.RD_TH_STATUS_TJ_MAX, F.RD_TH_STATUS_STAGE] ++ pendFlds ++ (if s.log.queue.length < 64 then [] else [F.RD_ELOG_LOST_DROPPED_N, F.RD_ELOG_STATUS_DROP_EV])) s ({ s with sensors := t.sensors, cals := t.cals, log := t.log }) t) ∧
  (∀ (s : State) (d : Nat),
     s.acts →
     d < 8 →
     2 ≤ s.get (F.RD_TH_DIE_STAGE d) ∧ s.get (F.RD_TH_DIE_STAGE d) ≤ 3 →
     s.get (F.RD_TH_DIE_MAX d) ≠ 0x8000 →
     s.getI (F.RD_TH_DIE_MAX d) < s.dieThr (s.get (F.RD_TH_DIE_STAGE d)) - 8 * (max 1 (s.get F.RD_TH_DIE_LIM_DIE_HYST) : Nat) →
     ∃ t, exec (.throttleStepDown d) s = .next t ∧ t.get (F.RD_TH_DIE_STAGE d) = s.get (F.RD_TH_DIE_STAGE d) - 1 ∧ t.on F.RD_TH_STATUS_STAGE_EV = true ∧ (s.on F.RD_TH_STATUS_STAGE_EV = true ∨ t.pendingCause 9 = true) ∧ Sent [] t ∧ Frame ([F.RD_TH_DIE_STAGE d, F.RD_TH_STATUS_STAGE_EV, F.RD_TH_STATUS_TJ_MAX, F.RD_TH_STATUS_STAGE] ++ pendFlds) s (s) t) ∧
  (∀ (s : State) (j hi lo : Nat) (T : Int),
     s.acts →
     j < 16 →
     s.drives = true →
     s.pressPorts.contains j = true →
     modSample (some (hi, lo)) = some T →
     (deviates T (let near := ((s.modNext j).filter fun k => k != j && s.modReads k).map fun k => s.getI (F.RD_TH_MOD_TEMP k); if 2 ≤ near.length then near else ((s.tile.mods.map (·.port)).filter fun k => k != j && s.modReads k).map fun k => s.getI (F.RD_TH_MOD_TEMP k)) (8 * (max 1 (s.get F.RD_TH_MOD_LIM_DEV_LIM) : Nat)) = false) →
     ∃ t, exec (.moduleSensorSample j (some (hi, lo))) s = .next t ∧ t.getI (F.RD_TH_MOD_TEMP j) = T ∧ t.get (F.RD_TH_MOD_DEVCNT j) = 0 ∧ t.get (F.RD_TH_MOD_RDFAIL_N j) = s.get (F.RD_TH_MOD_RDFAIL_N j) ∧ (t.get (F.RD_TH_MOD_FAST j) = (if 8 * ((s.get F.RD_TH_MOD_LIM_MOD_HI : Int) - 5) ≤ T then 1 else 0)) ∧ Sent [.i2c j (s.get F.RD_TH_I2C_ADDR) (s.get F.RD_TH_I2C_PTR) (s.on F.RD_TH_I2C_FAST)] t ∧ Frame ([F.RD_TH_MOD_TEMP j, F.RD_TH_MOD_DEVCNT j, F.RD_TH_MOD_FAST j]) s ({ s with ceils := t.ceils }) t) ∧
  (∀ (s : State) (j : Nat),
     s.acts →
     j < 16 →
     s.drives = true →
     s.pressPorts.contains j = true →
     s.get (F.RD_TH_MOD_DEVCNT j) < 31 →
     ∃ t, exec (.moduleSensorSample j none) s = .next t ∧ t.get (F.RD_TH_MOD_RDFAIL_N j) = s.more (F.RD_TH_MOD_RDFAIL_N j) ∧ t.get (F.RD_TH_MOD_DEVCNT j) = s.get (F.RD_TH_MOD_DEVCNT j) + 1 ∧ t.get (F.RD_TH_MOD_TEMP j) = s.get (F.RD_TH_MOD_TEMP j) ∧ Sent [.i2c j (s.get F.RD_TH_I2C_ADDR) (s.get F.RD_TH_I2C_PTR) (s.on F.RD_TH_I2C_FAST)] t ∧ Frame ([F.RD_TH_MOD_RDFAIL_N j, F.RD_TH_MOD_DEVCNT j, F.RD_TH_MOD_FAST j]) s ({ s with ceils := t.ceils }) t) ∧
  (∀ (s : State) (d i : Nat) (T : Int),
     s.acts →
     d < 8 →
     s.dieRuns d = true →
     i < sensorCount d →
     (s.sensor d i).faulty = false →
     1040 ≤ T →
     s.log.queue.length < 64 →
     ∃ t, exec (.thermalTrip d i T) s = .next t ∧ t.get F.RD_TH_STATUS_TRIPPED = 1 ∧ t.get F.RD_DIE_STATE_DIE_ON = 1 ∧ t.get F.RD_DIE_STATE_DIE_RUN = 1 ∧ t.sys.tripped = true ∧ t.sys.thermtrip = true ∧ t.press.lit = 0 ∧ (t.get F.PR_SLOT_STATUS_DARK_SRC).testBit 4 = true ∧ t.held = true ∧ t.log.queue.length = s.log.queue.length + 1 ∧ t.dram = s.dram ∧ t.nv = s.nv ∧ Sent [] t) ∧
  (∀ (s : State) (val : Word),
     s.rindActs →
     s.wordOk F.RD_TH_CLR_DIE_ALL.addr val = true →
     val.getLsbD 31 = false →
     ∃ t, exec (.thClr val) s = .next t ∧ (∀ j ∈ List.range 16, val.getLsbD j = true → (t.get (F.RD_TH_MOD_FAULTY j), t.get (F.RD_TH_MOD_DEVCNT j)) = (0, 0)) ∧ t.sensors = s.sensors ∧ Sent [] t ∧ Frame ((List.range 16).flatMap (fun j => if val.getLsbD j then [F.RD_TH_MOD_FAULTY j, F.RD_TH_MOD_DEVCNT j] else [])) s ({ s with ceils := t.ceils }) t) ∧
  (∀ (s : State) (val : Word),
     s.rindActs →
     s.wordOk F.RD_TH_CLR_DIE_ALL.addr val = true →
     val.getLsbD 31 = true →
     ∃ t, exec (.thClr val) s = .next t ∧ (∀ d ∈ List.range 8, ∀ i ∈ List.range 16, i < sensorCount d → (t.sensor d i).faulty = false ∧ (t.sensor d i).devcnt = 0 ∧ (t.sensor d i).temp = (s.sensor d i).temp) ∧ t.dram = s.dram ∧ t.nv = s.nv ∧ t.raster = s.raster ∧ Sent [] t) ∧
  (∀ (s : State) (reg : Nat) (val : Word),
     let ok : Bool := if reg = 0 then F.RD_TH_DIE_LIM_THR1.of val < F.RD_TH_DIE_LIM_THR2.of val && F.RD_TH_DIE_LIM_THR2.of val < F.RD_TH_DIE_LIM_THR3.of val && F.RD_TH_DIE_LIM_THR3.of val ≤ 128 else F.RD_TH_MOD_LIM_MOD_HI.of val < F.RD_TH_MOD_LIM_MOD_CRIT.of val && F.RD_TH_MOD_LIM_MOD_CRIT.of val ≤ 125
     s.rindActs →
     reg < 2 →
     s.wordOk (0x400 + 4 * reg) val = true →
     ∃ t, exec (.thLimitWrite reg val) s = .next t ∧ (t.rd (0x400 + 4 * reg) = (if ok then val else s.rd (0x400 + 4 * reg))) ∧ (t.get F.RD_TH_STATUS_LIM_REFUSED = (if ok then s.get F.RD_TH_STATUS_LIM_REFUSED else 1)) ∧ Sent [] t ∧ Frame ([whole (0x400 + 4 * reg), F.RD_TH_STATUS_LIM_REFUSED]) s (s) t)

/-- Frames sent and received. The descriptor words and buffer bytes stand in the packet RAM that the frame computes; the back-off after a collision is a free value within its range (log entry 43). -/
def Obligations.NetworkFrames : Prop :=
  (∀ (s : State) (n q : Nat) (busy : Bool),
     s.acts →
     n < 2 ∧ q < 4 →
     s.on (F.RD_NET_CTRL_EN n) = true →
     (s.net n).tx = none →
     (n = 1 → s.on (F.RD_NET_STATUS_PAUSED 1) = false) →
     (n = 0 → busy = false ∧ (s.net 0).backoff = none) →
     s.own n (s.txDesc n q) = true ∧ s.txRefusal n q = 0 ∧ s.canStart n q = true →
     (∀ k ∈ [1, 2, 3], q < k → s.own n (s.txDesc n k) = false) →
     ∃ t, exec (.netTxFrame n busy) s = .next t ∧ ((t.net n).tx = some ⟨q, Tab.get (fun _ => 0) (s.net n).tries q + 1, (ptpNorm s.ptp.sec ((s.ptp.ns + (if n = 1 then s.get (F.RD_NET_LAT_TX_LAT 1) else 0) : Nat) : Int)).1, (ptpNorm s.ptp.sec ((s.ptp.ns + (if n = 1 then s.get (F.RD_NET_LAT_TX_LAT 1) else 0) : Nat) : Int)).2⟩) ∧ Sent [.net n (s.txFrame n q)] t ∧ Frame ([]) s (s.setNet n fun p => { p with tx := (t.net n).tx }) t) ∧
  (∀ (s : State) (n q : Nat) (busy : Bool),
     let d : Nat := s.txDesc n q
     s.acts →
     n < 2 ∧ q < 4 →
     s.on (F.RD_NET_CTRL_EN n) = true →
     (s.net n).tx = none →
     (n = 1 → s.on (F.RD_NET_STATUS_PAUSED 1) = false) →
     (n = 0 → busy = false ∧ (s.net 0).backoff = none) →
     s.own n d = true ∧ s.txRefusal n q ≠ 0 →
     (∀ k ∈ [1, 2, 3], q < k → s.own n (s.txDesc n k) = false) →
     ∃ t, exec (.netTxFrame n busy) s = .next t ∧ t.get (txHeadFld n q) = s.wrap (txHeadFld n q) ∧ (t.net n).tx = none ∧ Sent [] t ∧ Frame ([txHeadFld n q]) s ({ clearOwn n d (s.setPword n (d + 12) (BitVec.ofNat 32 (2 ^ 31 + s.txRefusal n q * 2 ^ 26))) with nets := t.nets }) t) ∧
  (∀ (s : State) (n : Nat) (x : NetTx),
     let d : Nat := s.txDesc n x.queue
     let want : Bool := (s.pword n d).getLsbD 30
     let full : Bool := decide (32 ≤ (s.net n).txts.length)
     s.acts →
     n < 2 ∧ x.queue < 4 →
     (s.net n).tx = some x →
     ∃ t, exec (.netTxDone n) s = .next t ∧ t.get (txHeadFld n x.queue) = s.wrap (txHeadFld n x.queue) ∧ t.get (F.RD_NET_CNT0_TX_N n) = s.wrap (F.RD_NET_CNT0_TX_N n) ∧ ((t.net n).tx = none ∧ (t.net n).txts = (s.net n).txts ++ (if want && !full then [((s.pword n (d + 4)).toNat / 2 ^ 24, x.sec, x.ns)] else [])) ∧ (want = true ∧ full = true → t.on (F.RD_NET_STATUS_TS_OVF n) = true ∧ t.get (F.RD_NET_CNT3_TS_OVF_N n) = s.more (F.RD_NET_CNT3_TS_OVF_N n) ∧ (s.on (F.RD_NET_STATUS_TS_OVF n) = true ∨ t.pendingCause 2 = true)) ∧ (n = 1 ∧ (s.net 1).pauseNext = true → t.on (F.RD_NET_STATUS_PAUSED 1) = true) ∧ Sent [] t ∧ Frame ([txHeadFld n x.queue, F.RD_NET_CNT0_TX_N n] ++ (if want && full then [F.RD_NET_STATUS_TS_OVF n, F.RD_NET_CNT3_TS_OVF_N n] ++ pendFlds else []) ++ (if n = 1 ∧ (s.net 1).pauseNext = true then [F.RD_NET_STATUS_PAUSED 1] else [])) s ({ clearOwn n d (s.setPword n (d + 12) (BitVec.ofNat 32 (2 ^ 31 + (if want && full then 2 ^ 30 else 0) + (if n = 0 then x.attempts % 32 else 0)))) with nets := t.nets }) t) ∧
  (∀ (s : State) (n : Nat) (l : List Nat),
     let d : Nat := s.rxDesc n
     let raw : Bool := s.on (F.RD_NET_CTRL_RX_FCS n)
     let strip : Bool := s.on (F.RD_NET_CTRL_VLAN_STRIP n) && (l.drop 12).take 2 == [0x81, 0x00]
     let body : List Nat := if raw then l else l.take (l.length - 4)
     let data : List Nat := if strip then body.take 12 ++ body.drop 16 else body
     let at_ : Nat × Nat := ptpNorm s.ptp.sec ((s.ptp.ns : Int) - (if n = 1 then s.get (F.RD_NET_LAT_RX_LAT 1) else 0 : Nat))
     s.acts →
     n < 2 →
     s.on (F.RD_NET_CTRL_EN n) = true ∧ s.accepts n (l.take 6) = true →
     64 ≤ l.length ∧ l.length ≤ s.get (F.RD_NET_CTRL_MAXLEN n) ∧ (l.drop 12).take 2 ≠ [0x88, 0x08] →
     (fcsGood l = true ∨ raw = true) →
     s.own n d = true ∧ data.length ≤ (s.pword n (d + 4)).toNat % 65536 →
     ∃ t, exec (.netRxFrame n l) s = .next t ∧ t.get (F.RD_NET_RXHEAD_HEAD n) = s.wrap (F.RD_NET_RXHEAD_HEAD n) ∧ t.get (F.RD_NET_CNT0_RX_N n) = s.wrap (F.RD_NET_CNT0_RX_N n) ∧ (t.pram = (clearOwn n d ((((((s.setPbytes n (s.pword n d).toNat data).setPword n (d + 4) (BitVec.ofNat 32 (data.length * 65536 + ((s.setPbytes n (s.pword n d).toNat data).pword n (d + 4)).toNat % 65536))).setPword n (d + 8) (BitVec.ofNat 32 (2 ^ 31 + (if raw && !fcsGood l then 2 ^ 30 else 0) + (if strip then 2 ^ 29 + (l.getD 14 0 * 256 + l.getD 15 0) else 0)))).setPword n (d + 12) (BitVec.ofNat 32 at_.1)).setPword n (d + 16) (BitVec.ofNat 32 at_.2)).setPword n (d + 20) (BitVec.ofNat 32 (at_.1 / 2 ^ 32)))).pram) ∧ Sent [] t ∧ Frame ([F.RD_NET_RXHEAD_HEAD n, F.RD_NET_CNT0_RX_N n]) s ({ s with pram := t.pram }) t) ∧
  (∀ (s : State) (n : Nat) (l : List Nat),
     s.acts →
     n < 2 →
     s.on (F.RD_NET_CTRL_EN n) = true ∧ s.accepts n (l.take 6) = true →
     l.length < 64 →
     ∃ t, exec (.netRxFrame n l) s = .next t ∧ t.get (F.RD_NET_CNT1_RUNT_N n) = s.more (F.RD_NET_CNT1_RUNT_N n) ∧ Sent [] t ∧ Frame ([F.RD_NET_CNT1_RUNT_N n]) s (s) t) ∧
  (∀ (s : State) (n : Nat) (l : List Nat),
     s.acts →
     n < 2 →
     s.on (F.RD_NET_CTRL_EN n) = true ∧ s.accepts n (l.take 6) = true →
     64 ≤ l.length ∧ s.get (F.RD_NET_CTRL_MAXLEN n) < l.length →
     ∃ t, exec (.netRxFrame n l) s = .next t ∧ t.get (F.RD_NET_CNT1_LONG_N n) = s.more (F.RD_NET_CNT1_LONG_N n) ∧ Sent [] t ∧ Frame ([F.RD_NET_CNT1_LONG_N n]) s (s) t) ∧
  (∀ (s : State) (n : Nat) (l : List Nat),
     s.acts →
     n < 2 →
     s.on (F.RD_NET_CTRL_EN n) = true ∧ s.accepts n (l.take 6) = true →
     64 ≤ l.length ∧ l.length ≤ s.get (F.RD_NET_CTRL_MAXLEN n) ∧ (l.drop 12).take 2 ≠ [0x88, 0x08] →
     fcsGood l = false ∧ s.on (F.RD_NET_CTRL_RX_FCS n) = false →
     ∃ t, exec (.netRxFrame n l) s = .next t ∧ t.get (F.RD_NET_CNT1_FCS_N n) = s.more (F.RD_NET_CNT1_FCS_N n) ∧ Sent [] t ∧ Frame ([F.RD_NET_CNT1_FCS_N n]) s (s) t) ∧
  (∀ (s : State) (n : Nat) (l : List Nat),
     s.acts →
     n < 2 →
     s.on (F.RD_NET_CTRL_EN n) = true ∧ s.accepts n (l.take 6) = true →
     64 ≤ l.length ∧ l.length ≤ s.get (F.RD_NET_CTRL_MAXLEN n) ∧ (l.drop 12).take 2 ≠ [0x88, 0x08] →
     (fcsGood l = true ∨ s.on (F.RD_NET_CTRL_RX_FCS n) = true) →
     s.own n (s.rxDesc n) = false →
     ∃ t, exec (.netRxFrame n l) s = .next t ∧ t.get (F.RD_NET_CNT1_NODESC_N n) = s.more (F.RD_NET_CNT1_NODESC_N n) ∧ Sent [] t ∧ Frame ([F.RD_NET_CNT1_NODESC_N n]) s (s) t) ∧
  (∀ (s : State) (n : Nat) (l : List Nat),
     let raw : Bool := s.on (F.RD_NET_CTRL_RX_FCS n)
     let strip : Bool := s.on (F.RD_NET_CTRL_VLAN_STRIP n) && (l.drop 12).take 2 == [0x81, 0x00]
     s.acts →
     n < 2 →
     s.on (F.RD_NET_CTRL_EN n) = true ∧ s.accepts n (l.take 6) = true →
     64 ≤ l.length ∧ l.length ≤ s.get (F.RD_NET_CTRL_MAXLEN n) ∧ (l.drop 12).take 2 ≠ [0x88, 0x08] →
     (fcsGood l = true ∨ raw = true) →
     (s.own n (s.rxDesc n) = true ∧ (s.pword n (s.rxDesc n + 4)).toNat % 65536 + (if raw then 0 else 4) + (if strip then 4 else 0) < l.length) →
     ∃ t, exec (.netRxFrame n l) s = .next t ∧ t.get (F.RD_NET_CNT2_OVERSIZE_N n) = s.more (F.RD_NET_CNT2_OVERSIZE_N n) ∧ Sent [] t ∧ Frame ([F.RD_NET_CNT2_OVERSIZE_N n]) s (s) t) ∧
  (∀ (s : State) (n : Nat) (l : List Nat),
     let pause : Bool := (l.drop 14).take 2 == [0, 1] && fcsGood l && (l.take 6 == pauseAddr || l.take 6 == s.macBytes n)
     s.acts →
     n < 2 →
     s.on (F.RD_NET_CTRL_EN n) = true ∧ s.accepts n (l.take 6) = true →
     64 ≤ l.length ∧ l.length ≤ s.get (F.RD_NET_CTRL_MAXLEN n) ∧ (l.drop 12).take 2 = [0x88, 0x08] →
     (n = 0 ∨ pause = false) →
     ∃ t, exec (.netRxFrame n l) s = .next t ∧ (t.get (if pause then F.RD_NET_CNT2_PAUSE_N n else F.RD_NET_CNT2_MACCTL_N n) = s.more (if pause then F.RD_NET_CNT2_PAUSE_N n else F.RD_NET_CNT2_MACCTL_N n)) ∧ Sent [] t ∧ Frame ([if pause then F.RD_NET_CNT2_PAUSE_N n else F.RD_NET_CNT2_MACCTL_N n]) s (s) t) ∧
  (∀ (s : State) (l : List Nat),
     let q : Nat := l.getD 16 0 * 256 + l.getD 17 0
     s.acts →
     s.on (F.RD_NET_CTRL_EN 1) = true ∧ s.accepts 1 (l.take 6) = true →
     64 ≤ l.length ∧ l.length ≤ s.get (F.RD_NET_CTRL_MAXLEN 1) ∧ (l.drop 12).take 4 = [0x88, 0x08, 0, 1] ∧ fcsGood l = true →
     (l.take 6 = pauseAddr ∨ l.take 6 = s.macBytes 1) →
     s.on (F.RD_NET_CTRL_PAUSE_EN 1) = true ∧ (s.net 1).tx = none →
     ∃ t, exec (.netRxFrame 1 l) s = .next t ∧ t.on (F.RD_NET_STATUS_PAUSED 1) = decide (q ≠ 0) ∧ (t.net 1).pauseNext = false ∧ Sent [] t ∧ Frame ([F.RD_NET_STATUS_PAUSED 1]) s ({ s with nets := t.nets }) t) ∧
  (∀ (s : State) (x : NetTx),
     let d : Nat := s.txDesc 0 x.queue
     s.acts →
     x.queue < 4 →
     (s.net 0).tx = some x →
     ∃ t, exec (.netCollision true) s = .next t ∧ t.get (F.RD_NET_CNT3_COLL_N 0) = s.more (F.RD_NET_CNT3_COLL_N 0) ∧ t.get (F.RD_NET_CNT3_LATECOL_N 0) = s.more (F.RD_NET_CNT3_LATECOL_N 0) ∧ t.get (txHeadFld 0 x.queue) = s.wrap (txHeadFld 0 x.queue) ∧ (t.net 0).tx = none ∧ Sent [] t ∧ Frame ([F.RD_NET_CNT3_COLL_N 0, F.RD_NET_CNT3_LATECOL_N 0, txHeadFld 0 x.queue]) s ({ clearOwn 0 d (s.setPword 0 (d + 12) (BitVec.ofNat 32 (2 ^ 31 + 3 * 2 ^ 26 + x.attempts % 32))) with nets := t.nets }) t) ∧
  (∀ (s : State) (x : NetTx),
     let d : Nat := s.txDesc 0 x.queue
     s.acts →
     x.queue < 4 →
     (s.net 0).tx = some x ∧ 16 ≤ x.attempts →
     ∃ t, exec (.netCollision false) s = .next t ∧ t.get (F.RD_NET_CNT3_COLL_N 0) = s.more (F.RD_NET_CNT3_COLL_N 0) ∧ t.get (F.RD_NET_CNT3_EXCOL_N 0) = s.more (F.RD_NET_CNT3_EXCOL_N 0) ∧ t.get (txHeadFld 0 x.queue) = s.wrap (txHeadFld 0 x.queue) ∧ (t.net 0).tx = none ∧ Sent [] t ∧ Frame ([F.RD_NET_CNT3_COLL_N 0, F.RD_NET_CNT3_EXCOL_N 0, txHeadFld 0 x.queue]) s ({ clearOwn 0 d (s.setPword 0 (d + 12) (BitVec.ofNat 32 (2 ^ 31 + 2 * 2 ^ 26 + x.attempts % 32))) with nets := t.nets }) t) ∧
  (∀ (s : State) (x : NetTx),
     s.acts →
     x.queue < 4 →
     (s.net 0).tx = some x ∧ x.attempts < 16 →
     ∃ t, exec (.netCollision false) s = .next t ∧ t.get (F.RD_NET_CNT3_COLL_N 0) = s.more (F.RD_NET_CNT3_COLL_N 0) ∧ ((t.net 0).tx = none ∧ Tab.get (fun _ => 0) (t.net 0).tries x.queue = x.attempts) ∧ (t.net 0).backoff = some (x.queue, s.draw.1.toNat % 2 ^ min x.attempts 10) ∧ Sent [] t ∧ Frame ([F.RD_NET_CNT3_COLL_N 0]) s ({ s with nets := t.nets, freeN := s.freeN + 1 }) t) ∧
  (∀ (s : State),
     s.acts →
     ∃ t, exec (.backoffExpiry) s = .next t ∧ Sent [] t ∧ Frame ([]) s (s.setNet 0 fun p => { p with backoff := none }) t) ∧
  (∀ (s : State) (n q : Nat),
     let d : Nat := s.txDesc n q
     s.acts →
     n < 2 ∧ q < 4 →
     (s.net n).tx = none →
     (s.own n d = true ∧ 3 ≤ Tab.get (fun _ => 0) (s.net n).waits q) →
     ∃ t, exec (.noWindow n q) s = .next t ∧ t.get (F.RD_NET_CNT2_NOWIN_N n) = s.more (F.RD_NET_CNT2_NOWIN_N n) ∧ t.get (txHeadFld n q) = s.wrap (txHeadFld n q) ∧ Sent [] t ∧ Frame ([F.RD_NET_CNT2_NOWIN_N n, txHeadFld n q]) s ({ clearOwn n d (s.setPword n (d + 12) (BitVec.ofNat 32 (2 ^ 31 + 4 * 2 ^ 26 + (if n = 0 then Tab.get (fun _ => 0) (s.net n).tries q % 32 else 0)))) with nets := t.nets }) t)

/-- A PAUSE stops port 1 at once or at the end of the frame being sent, time 0 ends it, and with PAUSE_EN = 0 it is counted. PAUSE frames go out while receive descriptors are few. A cycle start brings the raster to its place in the frame, applies a committed change and opens the first entry's gates; the wheel goes on from entry to entry while the cycle and the frame last; where none is due nothing changes; the bank in force cannot be written. A pop of the timestamp FIFO removes the oldest entry and captures its time, or reads 0. An MDIO command runs, and its end sets VALID and steps SEQ. -/
def Obligations.PauseWheelMdio : Prop :=
  (∀ (s : State) (q : Nat),
     s.acts →
     s.on (F.RD_NET_CTRL_EN 1) = true ∧ s.on (F.RD_NET_CTRL_PAUSE_EN 1) = true →
     q ≠ 0 →
     ∃ t, exec (.pauseRx q) s = .next t ∧ t.on (F.RD_NET_STATUS_PAUSED 1) = ((s.net 1).tx.isNone || s.on (F.RD_NET_STATUS_PAUSED 1)) ∧ (t.net 1).pauseNext = (s.net 1).tx.isSome ∧ Sent [] t ∧ Frame ([F.RD_NET_STATUS_PAUSED 1]) s (s.setNet 1 fun p => { p with pauseNext := p.tx.isSome, pausedInCycle := p.tx.isNone || p.pausedInCycle }) t) ∧
  (∀ (s : State),
     s.acts →
     s.on (F.RD_NET_CTRL_EN 1) = true ∧ s.on (F.RD_NET_CTRL_PAUSE_EN 1) = true →
     ∃ t, exec (.pauseRx 0) s = .next t ∧ t.on (F.RD_NET_STATUS_PAUSED 1) = false ∧ Sent [] t ∧ Frame ([F.RD_NET_STATUS_PAUSED 1]) s (s.setNet 1 fun p => { p with pauseNext := false }) t) ∧
  (∀ (s : State) (q : Nat),
     s.acts →
     s.on (F.RD_NET_CTRL_EN 1) = true ∧ s.on (F.RD_NET_CTRL_PAUSE_EN 1) = false →
     ∃ t, exec (.pauseRx q) s = .next t ∧ t.get (F.RD_NET_CNT2_PAUSE_N 1) = s.more (F.RD_NET_CNT2_PAUSE_N 1) ∧ Sent [] t ∧ Frame ([F.RD_NET_CNT2_PAUSE_N 1]) s (s) t) ∧
  (∀ (s : State),
     s.acts →
     ∃ t, exec (.pauseExpiry) s = .next t ∧ t.on (F.RD_NET_STATUS_PAUSED 1) = false ∧ Sent [] t ∧ Frame ([F.RD_NET_STATUS_PAUSED 1]) s (s) t) ∧
  (∀ (s : State),
     let low : Bool := decide (s.rxOwned 1 < s.get (F.RD_NET_FLOW_XOFF 1)) || (s.on (F.RD_NET_STATUS_XOFF_SENT 1) && decide (s.rxOwned 1 < s.get (F.RD_NET_FLOW_XON 1)))
     s.acts →
     s.on (F.RD_NET_CTRL_EN 1) = true ∧ s.on (F.RD_NET_CTRL_FLOW_EN 1) = true →
     (low = true ∨ s.on (F.RD_NET_STATUS_XOFF_SENT 1) = true) →
     ∃ t, exec (.flowPauseSend) s = .next t ∧ t.on (F.RD_NET_STATUS_XOFF_SENT 1) = low ∧ (Sent [.net 1 (s.pauseFrame (if low then s.get (F.RD_NET_FLOW_PAUSE_TIME 1) else 0))] t) ∧ Frame ([F.RD_NET_STATUS_XOFF_SENT 1]) s (s) t) ∧
  (∀ (s : State),
     let w : Word := s.rd (atWHEEL 0)
     let r : Raster := s.raster.reachTick (F.RD_WHEEL_CTRL_BASE.of w)
     s.acts →
     s.noSwapWaits →
     s.wheelOn = true ∧ s.wheel.next = none ∧ s.wheel.late = none ∧ s.wheel.done = false →
     s.raster.fnum % cycleOf w = 0 ∧ (F.RD_WHEEL_CTRL_BASE.of w : Int) < s.frameTicks →
     (s.wheelEntry (F.RD_WHEEL_CTRL_BANK.of w) 0).1 ≠ 0 →
     ∃ t, exec (.wheelCycleStart) s = .next t ∧ t.wheel = { s.wheel with mask := (s.wheelEntry (F.RD_WHEEL_CTRL_BANK.of w) 0).2, entryAt := r.ticks + F.RD_WHEEL_CTRL_BASE.of w - r.tickIn, done := true } ∧ t.get F.RD_WHEEL_STATUS_ENTRY = 0 ∧ t.get F.RD_WHEEL_STATUS_BANK_ACT = F.RD_WHEEL_CTRL_BANK.of w ∧ t.get F.RD_WHEEL_STATUS_STATE = 2 ∧ Sent [] t ∧ Frame ([F.RD_WHEEL_STATUS_ENTRY, F.RD_WHEEL_STATUS_BANK_ACT, F.RD_WHEEL_STATUS_STATE]) s ({ s with wheel := t.wheel, nets := t.nets, raster := r }) t) ∧
  (∀ (s : State) (w : Word) (n : Nat),
     let r : Raster := s.raster.reachTick n
     s.acts →
     s.noSwapWaits →
     s.nextCycle = some (w, n) →
     (s.wheelEntry (F.RD_WHEEL_CTRL_BANK.of w) 0).1 ≠ 0 →
     ∃ t, exec (.wheelCycleStart) s = .next t ∧ t.rd (atWHEEL 0) = w ∧ (t.wheel = { next := if s.wheel.next = some w then none else s.wheel.next, mask := (s.wheelEntry (F.RD_WHEEL_CTRL_BANK.of w) 0).2, entryAt := r.ticks + n - r.tickIn, late := none, done := s.wheel.done || s.wheel.late.isNone }) ∧ (t.get F.RD_WHEEL_STATUS_ENTRY = 0 ∧ t.get F.RD_WHEEL_STATUS_BANK_ACT = F.RD_WHEEL_CTRL_BANK.of w ∧ t.get F.RD_WHEEL_STATUS_STATE = (if F.RD_WHEEL_CTRL_WHEEL_EN.of w = 1 then 2 else 1)) ∧ Sent [] t ∧ Frame ([whole (atWHEEL 0), F.RD_WHEEL_STATUS_ENTRY, F.RD_WHEEL_STATUS_BANK_ACT, F.RD_WHEEL_STATUS_STATE]) s ({ s with wheel := t.wheel, nets := t.nets, raster := r }) t) ∧
  (∀ (s : State),
     s.acts →
     s.noSwapWaits →
     s.nextCycle = none →
     ∃ t, exec (.wheelCycleStart) s = .next t ∧ Sent [] t ∧ Frame ([]) s (s) t) ∧
  (∀ (s : State),
     let b : Nat := s.get F.RD_WHEEL_CTRL_BANK
     let e : Nat := s.get F.RD_WHEEL_STATUS_ENTRY
     let start : Nat := s.wheel.entryAt + (s.wheelEntry b e).1
     let n : Nat := s.raster.tickIn + (start - s.raster.ticks)
     s.acts →
     s.noSwapWaits →
     s.wheelOn = true →
     (s.wheelEntry b e).1 ≠ 0 ∧ (s.wheelEntry b (e + 1)).1 ≠ 0 ∧ e < 63 →
     ((n : Int) < s.frameTicks ∧ ∀ c ∈ s.nextCycle.toList, n < c.2) →
     ∃ t, exec (.wheelEntryChange) s = .next t ∧ t.get F.RD_WHEEL_STATUS_ENTRY = e + 1 ∧ Sent [] t ∧ Frame ([F.RD_WHEEL_STATUS_ENTRY]) s ({ s with wheel := { s.wheel with mask := (s.wheelEntry b (e + 1)).2, entryAt := start }, raster := s.raster.reachTick n }) t) ∧
  (∀ (s : State),
     let b : Nat := s.get F.RD_WHEEL_CTRL_BANK
     let e : Nat := s.get F.RD_WHEEL_STATUS_ENTRY
     let n : Nat := s.raster.tickIn + (s.wheel.entryAt + (s.wheelEntry b e).1 - s.raster.ticks)
     s.acts →
     s.noSwapWaits →
     (s.wheelOn = false ∨ (s.wheelEntry b e).1 = 0 ∨ (s.wheelEntry b (e + 1)).1 = 0 ∨ 63 ≤ e ∨ s.frameTicks ≤ (n : Int) ∨ ∃ c ∈ s.nextCycle.toList, c.2 ≤ n) →
     ∃ t, exec (.wheelEntryChange) s = .next t ∧ Sent [] t ∧ Frame ([]) s (s) t) ∧
  (∀ (s : State) (b e : Nat) (val : Word),
     s.rindActs →
     b < 2 ∧ e < 64 →
     s.wordOk (atWHEEL (0x100 + 0x100 * b + 4 * e)) val = true →
     s.get F.RD_WHEEL_CTRL_BANK ≠ b →
     ∃ t, exec (.wheelBankWrite b e val) s = .next t ∧ t.rd (atWHEEL (0x100 + 0x100 * b + 4 * e)) = val ∧ Sent [] t ∧ Frame ([whole (atWHEEL (0x100 + 0x100 * b + 4 * e))]) s (s) t) ∧
  (∀ (s : State) (b e : Nat) (val : Word),
     s.rindActs →
     b < 2 ∧ e < 64 →
     s.wordOk (atWHEEL (0x100 + 0x100 * b + 4 * e)) val = true →
     s.get F.RD_WHEEL_CTRL_BANK = b →
     ∃ t, exec (.wheelBankWrite b e val) s = .next t ∧ t.on F.RD_WHEEL_STATUS_WHEEL_REFUSED = true ∧ (s.on F.RD_WHEEL_STATUS_WHEEL_REFUSED = true ∨ t.pendingCause 5 = true) ∧ Sent [] t ∧ Frame ([F.RD_WHEEL_STATUS_WHEEL_REFUSED] ++ pendFlds) s (s) t) ∧
  (∀ (s : State) (n tag sec ns : Nat) (l : List (Nat × Nat × Nat)),
     s.rindActs →
     n < 2 →
     (s.net n).txts = (tag, sec, ns) :: l →
     tag < 256 ∧ sec < 2 ^ 48 →
     ∃ t, exec (.txtsPop n) s = .next t ∧ t.acc.rdata = [2 ^ 31 + tag * 2 ^ 16 + sec / 2 ^ 32] ∧ (Tab.get (fun _ => none) t.acc.captured (atNET n 0x34) = some (BitVec.ofNat 32 (sec % 2 ^ 32)) ∧ Tab.get (fun _ => none) t.acc.captured (atNET n 0x38) = some (BitVec.ofNat 32 ns)) ∧ Sent [] t ∧ Frame ([]) s ({ s.setNet n (fun p => { p with txts := l }) with acc := t.acc }) t) ∧
  (∀ (s : State) (n : Nat),
     s.rindActs →
     n < 2 →
     (s.net n).txts = [] →
     ∃ t, exec (.txtsPop n) s = .next t ∧ t.acc.rdata = [0] ∧ (Tab.get (fun _ => none) t.acc.captured (atNET n 0x34) = some 0 ∧ Tab.get (fun _ => none) t.acc.captured (atNET n 0x38) = some 0) ∧ Sent [] t ∧ Frame ([]) s ({ s with acc := t.acc }) t) ∧
  (∀ (s : State) (val : Word),
     let op : Nat := (F.RD_NET_MDIO_CMD_OP 1).of val
     s.rindActs →
     s.wordOk (atNET 1 0x3C) val = true →
     ∃ t, exec (.mdioCmd val) s = .next t ∧ (Sent (if (s.net 1).mdio.isNone && (op == 1 || op == 2) then [.mdio op ((F.RD_NET_MDIO_CMD_PHYAD 1).of val) ((F.RD_NET_MDIO_CMD_REGAD 1).of val) (if op = 1 then (F.RD_NET_MDIO_CMD_DATA 1).of val else 0)] else []) t) ∧ Frame ([]) s (if (s.net 1).mdio.isNone && (op == 1 || op == 2) then s.setNet 1 fun p => { p with mdio := some val } else s) t) ∧
  (∀ (s : State) (data : Nat) (w : Word),
     s.acts →
     (s.net 1).mdio = some w →
     data < 65536 →
     ∃ t, exec (.mdioDone data) s = .next t ∧ (t.get (F.RD_NET_MDIO_RESULT_DATA 1) = (if (F.RD_NET_MDIO_CMD_OP 1).of w = 2 then data else s.get (F.RD_NET_MDIO_RESULT_DATA 1))) ∧ t.on (F.RD_NET_MDIO_RESULT_VALID 1) = true ∧ t.get (F.RD_NET_MDIO_RESULT_SEQ 1) = s.wrap (F.RD_NET_MDIO_RESULT_SEQ 1) ∧ Sent [] t ∧ Frame ([F.RD_NET_MDIO_RESULT_DATA 1, F.RD_NET_MDIO_RESULT_VALID 1, F.RD_NET_MDIO_RESULT_SEQ 1]) s (s.setNet 1 fun p => { p with mdio := none }) t)

/-- The PTP clock. The level of a trigger's pin while no pulse is driven is the model's choice (log entry 43). -/
def Obligations.PtpClock : Prop :=
  (∀ (s : State),
     let inc : Nat × Nat := s.ptp.incNext.getD (s.ptp.incNs, s.ptp.incFrac)
     let z : Nat × Nat := ptpNorm s.ptp.sec ((s.ptp.ns + inc.1 + (s.ptp.frac + inc.2) / 2 ^ 32 : Nat) + s.ptp.adj.getD 0)
     s.acts →
     s.ptp.set = none →
     (s.trig 0).pulse = none ∧ (s.trig 1).pulse = none →
     ∃ t, exec (.ptpTick) s = .next t ∧ t.on F.RD_PTP_STATUS_STEPPED = (s.on F.RD_PTP_STATUS_STEPPED || s.ptp.adj.isSome) ∧ Sent [] t ∧ Frame ([F.RD_PTP_STATUS_STEPPED]) s ({ s with ptp := { s.ptp with sec := z.1, ns := z.2, frac := (s.ptp.frac + inc.2) % 2 ^ 32, incNs := inc.1, incFrac := inc.2, incNext := none, adj := none } }) t) ∧
  (∀ (s : State),
     s.acts →
     s.ptp.set.isSome = true →
     (s.trig 0).pulse = none ∧ (s.trig 1).pulse = none →
     ∃ t, exec (.ptpTick) s = .next t ∧ (some (t.ptp.sec, t.ptp.ns), t.ptp.frac) = (s.ptp.set, 0) ∧ t.on F.RD_PTP_STATUS_STEPPED = true ∧ (t.ptp.set, t.ptp.adj, t.ptp.incNext) = (none, none, none) ∧ (t.ptp.incNs, t.ptp.incFrac) = s.ptp.incNext.getD (s.ptp.incNs, s.ptp.incFrac) ∧ (t.ptp.trigs, t.ptp.caps) = (s.ptp.trigs, s.ptp.caps) ∧ Sent [] t ∧ Frame ([F.RD_PTP_STATUS_STEPPED]) s ({ s with ptp := t.ptp }) t) ∧
  (∀ (s : State),
     let z : Ptp := s.ptp.tick.1
     let e : Nat × Nat := (s.trig 0).pulse.getD (0, 0)
     s.acts →
     (s.trig 0).pulse.isSome = true ∧ (s.trig 1).pulse = none →
     ∃ t, exec (.ptpTick) s = .next t ∧ (ptpNs e.1 e.2 ≤ ptpNs z.sec z.ns → (t.trig 0).pulse = none ∧ t.sys.trigPins.testBit 0 = !s.on (F.RD_PTP_TRIG_CTRL_POL 0)) ∧ (ptpNs z.sec z.ns < ptpNs e.1 e.2 → (t.trig 0).pulse = some e ∧ t.sys.trigPins = s.sys.trigPins) ∧ (t.ptp.sec, t.ptp.ns, t.ptp.frac) = (z.sec, z.ns, z.frac) ∧ Sent [] t ∧ Frame ([F.RD_PTP_STATUS_STEPPED]) s ({ s with ptp := t.ptp, sys := { s.sys with trigPins := t.sys.trigPins } }) t) ∧
  (∀ (s : State) (val : Word),
     s.rindActs →
     s.wordOk (atPTP 0x10) val = true →
     ∃ t, exec (.ptpIncWrite val) s = .next t ∧ t.get F.RD_PTP_INC_INC_NS = F.RD_PTP_INC_INC_NS.of val ∧ Sent [] t ∧ Frame ([F.RD_PTP_INC_INC_NS]) s ({ s with ptp := { s.ptp with incNext := some (F.RD_PTP_INC_INC_NS.of val, s.get F.RD_PTP_INC_FRAC_INC_FRAC) } }) t) ∧
  (∀ (s : State),
     s.rindActs →
     s.get F.RD_PTP_SET_NS_SET_NS < 1000000000 →
     ∃ t, exec (.ptpSet) s = .next t ∧ Sent [] t ∧ Frame ([]) s ({ s with ptp := { s.ptp with set := some (s.get F.RD_PTP_SET_SEC_HI_SET_SEC * 2 ^ 32 + s.get F.RD_PTP_SET_SEC_LO_SET_SEC, s.get F.RD_PTP_SET_NS_SET_NS) } }) t) ∧
  (∀ (s : State),
     s.rindActs →
     1000000000 ≤ s.get F.RD_PTP_SET_NS_SET_NS →
     ∃ t, exec (.ptpSet) s = .next t ∧ t.on F.RD_PTP_STATUS_SET_REFUSED = true ∧ Sent [] t ∧ Frame ([F.RD_PTP_STATUS_SET_REFUSED]) s (s) t) ∧
  (∀ (s : State) (val : Word),
     s.rindActs →
     s.wordOk (atPTP 0x20) val = true →
     ∃ t, exec (.ptpAdj val) s = .next t ∧ Sent [] t ∧ Frame ([]) s ({ s with ptp := { s.ptp with adj := some (toInt 32 val.toNat) } }) t) ∧
  (∀ (s : State) (t' : Nat) (val : Word),
     let sec : Nat := s.get (F.RD_PTP_TRIG_SEC_HI_SEC t') * 2 ^ 32 + s.get (F.RD_PTP_TRIG_SEC_LO_SEC t')
     let ns : Nat := s.get (F.RD_PTP_TRIG_NS_NS t')
     s.rindActs →
     t' < 2 →
     s.wordOk (atTRIG t' 0x10) val = true →
     (F.RD_PTP_TRIG_CTRL_ARM t').of val = 1 →
     ns < 1000000000 ∧ ptpNs s.ptp.sec s.ptp.ns + 1000 ≤ ptpNs sec ns →
     ∃ t, exec (.triggerArm t' val) s = .next t ∧ t.rd (atTRIG t' 0x10) = val ∧ t.trig t' = { s.trig t' with sec := sec, ns := ns, period := s.get (F.RD_PTP_TRIG_PERIOD_PERIOD t'), toggle := (F.RD_PTP_TRIG_CTRL_MODE t').of val == 1 } ∧ (t.sys.trigPins = (if (F.RD_PTP_TRIG_CTRL_MODE t').of val = 0 && (s.trig t').pulse.isNone then (if (F.RD_PTP_TRIG_CTRL_POL t').of val = 0 then setBit s.sys.trigPins t' else clearBit s.sys.trigPins t') else s.sys.trigPins)) ∧ Sent [] t ∧ Frame ([whole (atTRIG t' 0x10)]) s ({ s.setTrig t' (t.trig t') with sys := { s.sys with trigPins := t.sys.trigPins } }) t) ∧
  (∀ (s : State) (t' : Nat) (val : Word),
     let sec : Nat := s.get (F.RD_PTP_TRIG_SEC_HI_SEC t') * 2 ^ 32 + s.get (F.RD_PTP_TRIG_SEC_LO_SEC t')
     let ns : Nat := s.get (F.RD_PTP_TRIG_NS_NS t')
     s.rindActs →
     t' < 2 →
     s.wordOk (atTRIG t' 0x10) val = true →
     (F.RD_PTP_TRIG_CTRL_ARM t').of val = 1 →
     ns < 1000000000 ∧ ptpNs sec ns < ptpNs s.ptp.sec s.ptp.ns + 1000 →
     ∃ t, exec (.triggerArm t' val) s = .next t ∧ (t.get F.RD_PTP_STATUS_TRIG_LATE).testBit t' = true ∧ t.on (F.RD_PTP_TRIG_CTRL_ARM t') = false ∧ ((s.get F.RD_PTP_STATUS_TRIG_LATE).testBit t' = true ∨ t.pendingCause 4 = true) ∧ Sent [] t ∧ Frame ([whole (atTRIG t' 0x10), F.RD_PTP_STATUS_TRIG_LATE] ++ pendFlds) s (s) t) ∧
  (∀ (s : State) (t' : Nat) (val : Word),
     s.rindActs →
     t' < 2 →
     s.wordOk (atTRIG t' 0x10) val = true →
     (F.RD_PTP_TRIG_CTRL_ARM t').of val = 0 →
     ∃ t, exec (.triggerArm t' val) s = .next t ∧ t.rd (atTRIG t' 0x10) = val ∧ Sent [] t ∧ Frame ([whole (atTRIG t' 0x10)]) s (s) t) ∧
  (∀ (s : State) (t' : Nat),
     let now : Nat := ptpNs s.ptp.sec s.ptp.ns
     let at_ : Nat := ptpNs (s.trig t').sec (s.trig t').ns
     let next : Nat := at_ + ((now - at_) / (s.trig t').period + 1) * (s.trig t').period
     let stop : Nat := now + (if s.get (F.RD_PTP_TRIG_CTRL_WIDTH t') = 0 then 5 else s.get (F.RD_PTP_TRIG_CTRL_WIDTH t'))
     s.acts →
     t' < 2 →
     s.on (F.RD_PTP_TRIG_CTRL_ARM t') = true ∧ at_ ≤ now →
     ∃ t, exec (.triggerFire t') s = .next t ∧ (t.sys.trigPins.testBit t' = (if (s.trig t').toggle then !s.sys.trigPins.testBit t' else s.on (F.RD_PTP_TRIG_CTRL_POL t'))) ∧ ((t.trig t').pulse = (if (s.trig t').toggle then (s.trig t').pulse else some (stop / 1000000000, stop % 1000000000))) ∧ ((s.trig t').period = 0 → t.on (F.RD_PTP_TRIG_CTRL_ARM t') = false ∧ ((t.trig t').sec, (t.trig t').ns) = ((s.trig t').sec, (s.trig t').ns)) ∧ ((s.trig t').period ≠ 0 → t.on (F.RD_PTP_TRIG_CTRL_ARM t') = true ∧ ((t.trig t').sec, (t.trig t').ns) = (next / 1000000000 % 2 ^ 48, next % 1000000000)) ∧ Sent [] t ∧ Frame (if (s.trig t').period = 0 then [F.RD_PTP_TRIG_CTRL_ARM t'] else []) s ({ s.setTrig t' (t.trig t') with sys := { s.sys with trigPins := t.sys.trigPins } }) t) ∧
  (∀ (s : State) (c : Nat) (rising : Bool),
     s.acts →
     c < 2 →
     (s.on (F.RD_PTP_CAP_CTRL_EN c) = true ∧ (s.get (F.RD_PTP_CAP_CTRL_EDGE c)).testBit (if rising then 0 else 1) = true) →
     (s.caps c).length < 8 →
     ∃ t, exec (.captureEdge c rising false) s = .next t ∧ t.get (F.RD_PTP_CAP_CNT_CAP_N c) = s.more (F.RD_PTP_CAP_CNT_CAP_N c) ∧ Sent [] t ∧ Frame ([F.RD_PTP_CAP_CNT_CAP_N c]) s (s.setCaps c (s.caps c ++ [⟨s.ptp.sec, s.ptp.ns, rising, s.rasterValid, if s.rasterValid then s.raster.fnum else 0, if s.rasterValid then s.raster.rpos else 0⟩])) t) ∧
  (∀ (s : State) (c : Nat) (rising : Bool),
     s.acts →
     c < 2 →
     (s.on (F.RD_PTP_CAP_CTRL_EN c) = true ∧ (s.get (F.RD_PTP_CAP_CTRL_EDGE c)).testBit (if rising then 0 else 1) = true) →
     8 ≤ (s.caps c).length →
     ∃ t, exec (.captureEdge c rising false) s = .next t ∧ t.get (F.RD_PTP_CAP_CNT_CAP_OVF_N c) = s.more (F.RD_PTP_CAP_CNT_CAP_OVF_N c) ∧ (t.get F.RD_PTP_STATUS_CAP_OVF).testBit c = true ∧ ((s.get F.RD_PTP_STATUS_CAP_OVF).testBit c = true ∨ t.pendingCause 3 = true) ∧ Sent [] t ∧ Frame ([F.RD_PTP_CAP_CNT_CAP_OVF_N c, F.RD_PTP_STATUS_CAP_OVF] ++ pendFlds) s (s) t) ∧
  (∀ (s : State) (c : Nat) (x : Capture) (l : List Capture),
     s.rindActs →
     c < 2 →
     s.caps c = x :: l →
     x.sec < 2 ^ 48 →
     ∃ t, exec (.capPop c) s = .next t ∧ (t.acc.rdata = [2 ^ 31 + (if x.valid then (F.RD_PTP_CAP_POP_RASTER_VALID c).into 0 1 else 0).toNat + (if x.rising then (F.RD_PTP_CAP_POP_RISING c).into 0 1 else 0).toNat + x.sec / 2 ^ 32]) ∧ (∀ e ∈ [(8, x.sec % 2 ^ 32), (12, x.ns), (16, x.rpos), (20, x.fnum)], Tab.get (fun _ => none) t.acc.captured (atCAP c e.1) = some (BitVec.ofNat 32 e.2)) ∧ Sent [] t ∧ Frame ([]) s ({ s.setCaps c l with acc := t.acc }) t) ∧
  (∀ (s : State) (c : Nat),
     s.rindActs →
     c < 2 →
     s.caps c = [] →
     ∃ t, exec (.capPop c) s = .next t ∧ t.acc.rdata = [0] ∧ (∀ o ∈ [8, 12, 16, 20], Tab.get (fun _ => none) t.acc.captured (atCAP c o) = some 0) ∧ Sent [] t ∧ Frame ([]) s ({ s with acc := t.acc }) t) ∧
  (∀ (s : State),
     s.rindActs →
     ∃ t, exec (.ptpNsRead) s = .next t ∧ t.acc.rdata = [s.ptp.ns % 2 ^ 32] ∧ (Tab.get (fun _ => none) t.acc.captured (atPTP 4) = some (BitVec.ofNat 32 (s.ptp.sec % 2 ^ 32)) ∧ Tab.get (fun _ => none) t.acc.captured (atPTP 8) = some (BitVec.ofNat 32 (s.ptp.sec / 2 ^ 32))) ∧ Sent [] t ∧ Frame ([]) s ({ s with acc := t.acc }) t)

/-- The audio ports. Channel status bits of substituted zeros are free values (log entry 44); the frames of an output block are those of the model's playFrame. -/
def Obligations.AudioPorts : Prop :=
  (∀ (s : State) (n period : Nat) (out : Bool),
     let o : Bool := out && !s.wordSelect n
     let m : AudMon := if o then (s.aud n).outp else (s.aud n).inp
     s.acts →
     n < 4 →
     s.on (F.RD_AUD_CTRL_EN n) = true →
     m.rate ≠ 0 ∧ m.stopped = false →
     ((period * fsHz m.rate : Nat) - (400000000 : Int)).natAbs * 8 ≤ 400000000 →
     ∃ t, exec (.audioMonitorEdge n out period) s = .next t ∧ ((if o then (t.aud n).inp else (t.aud n).outp) = (if o then (s.aud n).inp else (s.aud n).outp)) ∧ (((if o then (t.aud n).outp else (t.aud n).inp).rate, (if o then (t.aud n).outp else (t.aud n).inp).run) = (m.rate, 0)) ∧ (m.ok = true → (if o then (t.aud n).outp else (t.aud n).inp).ok = true) ∧ (m.ok = false → (if o then (t.aud n).outp else (t.aud n).inp).ok = (decide (((period * fsHz m.rate : Nat) - (400000000 : Int)).natAbs * 1000 ≤ 400000000) && m.good + 1 == 64)) ∧ Sent [] t ∧ Frame ([F.RD_AUD_STATUS_STATE n, F.RD_AUD_STATUS_FS n]) s (s.setAud n fun a => { a with inp := (t.aud n).inp, outp := (t.aud n).outp }) t) ∧
  (∀ (s : State) (n period : Nat) (out : Bool),
     let o : Bool := out && !s.wordSelect n
     let m : AudMon := if o then (s.aud n).outp else (s.aud n).inp
     s.acts →
     n < 4 →
     s.on (F.RD_AUD_CTRL_EN n) = true →
     m.rate ≠ 0 ∧ m.stopped = false →
     400000000 < ((period * fsHz m.rate : Nat) - (400000000 : Int)).natAbs * 8 →
     ∃ t, exec (.audioMonitorEdge n out period) s = .next t ∧ ((if o then (t.aud n).inp else (t.aud n).outp) = (if o then (s.aud n).inp else (s.aud n).outp)) ∧ ((if o then (t.aud n).outp else (t.aud n).inp) = { m.more period with ok := false, good := 0, rate := if (m.more period).run = 64 then 0 else m.rate, run := if (m.more period).run = 64 then 0 else (m.more period).run }) ∧ t.on (F.RD_AUD_STATUS_GLITCH n) = true ∧ t.get (F.RD_AUD_COUNT_GLITCH_N n) = s.more (F.RD_AUD_COUNT_GLITCH_N n) ∧ ((m.more period).run = 64 → t.on (F.RD_AUD_STATUS_RATE_CHG n) = true ∧ (s.on (F.RD_AUD_STATUS_RATE_CHG n) = true ∨ t.pendingCause 7 = true)) ∧ Sent [] t ∧ Frame ([F.RD_AUD_STATUS_STATE n, F.RD_AUD_STATUS_FS n, F.RD_AUD_STATUS_GLITCH n, F.RD_AUD_COUNT_GLITCH_N n] ++ (if (m.more period).run = 64 then F.RD_AUD_STATUS_RATE_CHG n :: pendFlds else [])) s (s.setAud n fun a => { a with inp := (t.aud n).inp, outp := (t.aud n).outp, line := (t.aud n).line }) t) ∧
  (∀ (s : State) (n : Nat) (out : Bool),
     let ws : Bool := s.wordSelect n
     s.acts →
     n < 4 →
     s.on (F.RD_AUD_CTRL_EN n) = true →
     ((if out then s.audOut n else (s.aud n).inp).stopped = false ∧ (if out then s.audOut n else (s.aud n).inp).rate ≠ 0) →
     ∃ t, exec (.audioMonitorStop n out) s = .next t ∧ ((if out && !ws then (t.aud n).outp else (t.aud n).inp) = { (if out && !ws then (s.aud n).outp else (s.aud n).inp) with stopped := true, ok := false, run := 0, good := 0 }) ∧ ((out || ws) = true → t.on (F.RD_AUD_STATUS_OUT_STOP n) = true ∧ (s.on (F.RD_AUD_STATUS_OUT_STOP n) = true ∨ t.pendingCause 6 = true)) ∧ ((!out || ws) = true → t.on (F.RD_AUD_STATUS_IN_STOP n) = true ∧ (s.on (F.RD_AUD_STATUS_IN_STOP n) = true ∨ t.pendingCause 6 = true)) ∧ t.get (F.RD_AUD_STATUS_STATE n) ≠ 2 ∧ Sent [] t ∧ Frame ((if out || ws then [F.RD_AUD_STATUS_OUT_STOP n] else []) ++ (if !out || ws then [F.RD_AUD_STATUS_IN_STOP n] else []) ++ [F.RD_AUD_STATUS_STATE n, F.RD_AUD_STATUS_FS n] ++ pendFlds) s (s.setAud n fun a => { a with inp := (t.aud n).inp, outp := (t.aud n).outp, line := (t.aud n).line }) t) ∧
  (∀ (s : State) (n : Nat) (out : Bool),
     let o : Bool := out && !s.wordSelect n
     let m : AudMon := if o then (s.aud n).outp else (s.aud n).inp
     s.acts →
     n < 4 →
     s.on (F.RD_AUD_CTRL_EN n) = true →
     m.rate = 0 ∧ 64 ≤ m.run →
     nearestRate (m.sum * 64 / m.run) = none →
     ∃ t, exec (.audioRateMeasure n out) s = .next t ∧ ((if o then (t.aud n).outp else (t.aud n).inp) = { m with unsupported := true, run := 0 }) ∧ t.get (F.RD_AUD_STATUS_STATE n) = 4 ∧ Sent [] t ∧ Frame ([F.RD_AUD_STATUS_STATE n, F.RD_AUD_STATUS_FS n]) s (s.setAud n fun a => { a with inp := (t.aud n).inp, outp := (t.aud n).outp }) t) ∧
  (∀ (s : State) (n r : Nat) (out : Bool),
     let o : Bool := out && !s.wordSelect n
     let m : AudMon := if o then (s.aud n).outp else (s.aud n).inp
     let other : Nat := if s.wordSelect n then r else if o then (s.aud n).inp.rate else (s.aud n).outp.rate
     s.acts →
     n < 4 →
     s.on (F.RD_AUD_CTRL_EN n) = true →
     m.rate = 0 ∧ 64 ≤ m.run →
     nearestRate (m.sum * 64 / m.run) = some r →
     ∃ t, exec (.audioRateMeasure n out) s = .next t ∧ ((if o then (t.aud n).outp else (t.aud n).inp) = { m with unsupported := false, rate := r, ok := true, run := 0, good := 0 }) ∧ ((if o then (t.aud n).inp else (t.aud n).outp) = (if o then (s.aud n).inp else (s.aud n).outp)) ∧ (other ≠ 0 ∧ other ≠ r → t.on (F.RD_AUD_STATUS_RATE_DIFF n) = true ∧ (t.aud n).differ = true ∧ t.get (F.RD_AUD_COUNT_REALIGN n) = s.get (F.RD_AUD_COUNT_REALIGN n)) ∧ (other = r → (t.aud n).differ = false ∧ (t.aud n).next = none ∧ t.get (F.RD_AUD_COUNT_REALIGN n) = (if (s.aud n).differ then s.more (F.RD_AUD_COUNT_REALIGN n) else s.get (F.RD_AUD_COUNT_REALIGN n))) ∧ Sent [] t ∧ Frame ([F.RD_AUD_STATUS_STATE n, F.RD_AUD_STATUS_FS n, F.RD_AUD_STATUS_RATE_DIFF n, F.RD_AUD_COUNT_REALIGN n, F.RD_AUD_DELAY_D_F n, F.RD_AUD_DELAY_VALID n, F.RD_AUD_DELAY_SEQ n, F.RD_AUD_STATUS_GROUP_RATE n, F.RD_AUD_STATUS_DELAY_CLAMP n]) s (s.setAud n fun a => { a with inp := (t.aud n).inp, outp := (t.aud n).outp, next := (t.aud n).next, gain := (t.aud n).gain, realign := (t.aud n).realign, dfNext := (t.aud n).dfNext, differ := (t.aud n).differ }) t) ∧
  (∀ (s : State) (n : Nat) (frames : List (Nat × Nat × Nat)),
     let non : Bool := bitAt ((frames.getD 1 (0, 0, 0)).2.2) 2 == 1 || burst (subframes frames)
     let gap : Bool := match (s.aud n).line.getLast? with | some f => f.fade.isSome | none => true
     let line : List AudFrame := (s.aud n).line ++ (frames.zip (List.range frames.length)).map fun e => ⟨e.1.1 % 2 ^ 24, e.1.2.1 % 2 ^ 24, e.1.2.2 % 64, s.raster.ticks + e.2 * 400000000 / fsHz (s.aud n).inp.rate, non, gap && e.2 == 0, none⟩
     s.acts →
     n < 4 →
     s.on (F.RD_AUD_CTRL_EN n) = true →
     s.wordSelect n = false →
     (s.aud n).inp.rate ≠ 0 ∧ (s.aud n).inp.ok = true →
     (s.aud n).ts.length < 16 →
     ∃ t, exec (.audioBlockRx n frames) s = .next t ∧ t.on (F.RD_AUD_STATUS_NONPCM n) = non ∧ (∀ m ∈ List.range 6, ∀ i ∈ List.range 32, (t.get (F.RD_AUD_CS_IN_CS n m)).testBit i = (frames.getD (32 * m + i) (0, 0, 0)).2.2.testBit 2) ∧ Sent [] t ∧ Frame (F.RD_AUD_STATUS_NONPCM n :: (List.range 6).map (F.RD_AUD_CS_IN_CS n)) s (s.setAud n fun a => { a with line := line.drop (line.length - 393216), got := a.got + frames.length, blocksIn := a.blocksIn + 1, ts := a.ts ++ [⟨false, a.blocksIn % 65536, s.ptp.sec, s.ptp.ns, s.raster.fnum, s.raster.rpos⟩] }) t) ∧
  (∀ (s : State) (n : Nat) (frames : List (Nat × Nat × Nat)),
     s.acts →
     n < 4 →
     s.on (F.RD_AUD_CTRL_EN n) = true →
     (s.aud n).inp.rate ≠ 0 ∧ (s.aud n).inp.ok = true →
     16 ≤ (s.aud n).ts.length →
     ∃ t, exec (.audioBlockRx n frames) s = .next t ∧ (t.aud n).got = (s.aud n).got + frames.length ∧ (t.aud n).blocksIn = (s.aud n).blocksIn + 1 ∧ (t.on (F.RD_AUD_STATUS_TS_OVF n) = true ∧ t.get (F.RD_AUD_COUNT2_TS_OVF_N n) = s.more (F.RD_AUD_COUNT2_TS_OVF_N n) ∧ (s.on (F.RD_AUD_STATUS_TS_OVF n) = true ∨ t.pendingCause 8 = true)) ∧ Sent [] t ∧ Frame (F.RD_AUD_STATUS_NONPCM n :: F.RD_AUD_STATUS_TS_OVF n :: F.RD_AUD_COUNT2_TS_OVF_N n :: pendFlds ++ (List.range 6).map (F.RD_AUD_CS_IN_CS n)) s (s.setAud n fun a => { a with line := (t.aud n).line, got := (t.aud n).got, blocksIn := (t.aud n).blocksIn }) t) ∧
  (∀ (s : State) (n : Nat) (ue : List Nat),
     let p : AudPlay := (List.range 192).foldl (fun p k => playFrame s n (s.aud n) (s.audOut n).rate (s.get (F.RD_AUD_DELAY_D_F n)) s.raster.ticks s.freeN ue k p) { next := (s.aud n).next, gain := (s.aud n).gain, realign := (s.aud n).realign }
     s.acts →
     n < 4 →
     s.on (F.RD_AUD_CTRL_EN n) = true →
     (s.audOut n).rate ≠ 0 ∧ (s.audOut n).stopped = false →
     (s.aud n).ts.length < 16 →
     ∃ t, exec (.audioOutputBlock n ue) s = .next t ∧ t.get (F.RD_AUD_COUNT_ZERO_N n) = min (s.get (F.RD_AUD_COUNT_ZERO_N n) + p.zeros) (2 ^ (F.RD_AUD_COUNT_ZERO_N n).width - 1) ∧ (t.aud n).ts = (s.aud n).ts ++ [⟨true, (s.aud n).blocksOut % 65536, s.ptp.sec, s.ptp.ns, s.raster.fnum, s.raster.rpos⟩] ∧ ((t.aud n).next, (t.aud n).gain, (t.aud n).late, (t.aud n).blocksOut, (t.aud n).line, (t.aud n).got) = (p.next, p.gain, [], (s.aud n).blocksOut + 1, (s.aud n).line, (s.aud n).got) ∧ Sent [.audio n (audLine (s.wordSelect n) p.out)] t ∧ Frame ([F.RD_AUD_COUNT_ZERO_N n, F.RD_AUD_ALIGN_ALIGN n, F.RD_AUD_COUNT_REALIGN n, F.RD_AUD_DELAY_D_F n, F.RD_AUD_DELAY_VALID n, F.RD_AUD_DELAY_SEQ n]) s ({ s with auds := t.auds, freeN := s.freeN + 6 }) t) ∧
  (∀ (s : State) (n : Nat) (ue : List Nat),
     let zeros : List (Nat × Nat × Nat) := (List.range 192).map fun k => (0, 0, 9 + 36 * s.csOut n k)
     s.acts →
     n < 4 →
     s.on (F.RD_AUD_CTRL_EN n) = true →
     (s.audOut n).rate = 0 ∧ (s.audOut n).stopped = false ∧ (s.audOut n).unsupported = true →
     s.on (F.RD_AUD_CTRL_CS_SRC n) = true →
     (s.aud n).ts.length < 16 →
     ∃ t, exec (.audioOutputBlock n ue) s = .next t ∧ Sent [.audio n (audLine (s.wordSelect n) zeros)] t ∧ Frame ([]) s ({ (s.setAud n fun a => { a with next := none, gain := 0, late := [], blocksOut := a.blocksOut + 1, ts := a.ts ++ [⟨true, a.blocksOut % 65536, s.ptp.sec, s.ptp.ns, s.raster.fnum, s.raster.rpos⟩] }) with freeN := s.freeN + 6 }) t) ∧
  (∀ (s : State) (n : Nat),
     let d : Int := s.audD n
     s.acts →
     n < 4 →
     s.on (F.RD_AUD_CTRL_GROUP_EN n) = false →
     (s.audOut n).rate ≠ 0 →
     s.audPlays n = false →
     ∃ t, exec (.audioDelayRecompute n) s = .next t ∧ t.get (F.RD_AUD_DELAY_D_F n) = framesOf d (s.audOut n).rate % 2 ^ (F.RD_AUD_DELAY_D_F n).width ∧ t.get (F.RD_AUD_DELAY_VALID n) = 1 ∧ t.get (F.RD_AUD_DELAY_SEQ n) = s.wrap (F.RD_AUD_DELAY_SEQ n) ∧ t.on (F.RD_AUD_STATUS_DELAY_CLAMP n) = (s.on (F.RD_AUD_STATUS_DELAY_CLAMP n) || decide (d < 0) || decide (2000000000 < d)) ∧ Sent [] t ∧ Frame ([F.RD_AUD_DELAY_D_F n, F.RD_AUD_DELAY_VALID n, F.RD_AUD_DELAY_SEQ n, F.RD_AUD_STATUS_DELAY_CLAMP n]) s (s) t) ∧
  (∀ (s : State) (n : Nat),
     let v : Nat := framesOf (s.audD n) (s.audOut n).rate
     s.acts →
     n < 4 →
     s.on (F.RD_AUD_CTRL_GROUP_EN n) = false →
     s.audPlays n = true →
     s.on (F.RD_AUD_DELAY_VALID n) = true ∧ (s.aud n).next.isSome = true ∧ s.get (F.RD_AUD_DELAY_D_F n) ≠ v →
     ∃ t, exec (.audioDelayRecompute n) s = .next t ∧ t.get (F.RD_AUD_COUNT_REALIGN n) = s.more (F.RD_AUD_COUNT_REALIGN n) ∧ Sent [] t ∧ Frame ([F.RD_AUD_COUNT_REALIGN n, F.RD_AUD_STATUS_DELAY_CLAMP n]) s (s.setAud n fun a => { a with dfNext := some v, realign := true }) t) ∧
  (∀ (s : State) (n k : Nat),
     s.acts →
     n < 4 →
     s.on (F.RD_AUD_CTRL_EN n) = true →
     ∃ t, exec (.audioUnderrun n k) s = .next t ∧ t.get (F.RD_AUD_COUNT_UNDERRUN n) = s.more (F.RD_AUD_COUNT_UNDERRUN n) ∧ Sent [] t ∧ Frame ([F.RD_AUD_COUNT_UNDERRUN n]) s (s.setAud n fun a => { a with late := a.late ++ [k] }) t) ∧
  (∀ (s : State) (n : Nat) (x : AudTs) (l : List AudTs),
     s.rindActs →
     n < 4 →
     (s.aud n).ts = x :: l →
     x.sec < 2 ^ 48 ∧ x.block < 2 ^ 16 →
     ∃ t, exec (.audioTsPop n) s = .next t ∧ ((t.acc.rdata.map fun w => ((F.RD_AUD_TS_POP_VALID n).of (BitVec.ofNat 32 w), (F.RD_AUD_TS_POP_DIR n).of (BitVec.ofNat 32 w), (F.RD_AUD_TS_POP_BLOCK n).of (BitVec.ofNat 32 w))) = [(1, if x.out then 1 else 0, x.block % 2 ^ (F.RD_AUD_TS_POP_BLOCK n).width)]) ∧ ((t.acc.rdata.map fun w => (F.RD_AUD_TS_POP_SEC_HI n).of (BitVec.ofNat 32 w)) = [x.sec / 2 ^ 32 % 2 ^ (F.RD_AUD_TS_POP_SEC_HI n).width]) ∧ (∀ e ∈ [(0x64, x.sec % 2 ^ 32), (0x68, x.ns), (0x6C, x.fnum), (0x70, x.rpos)], Tab.get (fun _ => none) t.acc.captured (atAUD n e.1) = some (BitVec.ofNat 32 e.2)) ∧ Sent [] t ∧ Frame ([]) s ({ s.setAud n (fun a => { a with ts := l }) with acc := t.acc }) t) ∧
  (∀ (s : State) (n : Nat),
     s.rindActs →
     n < 4 →
     (s.aud n).ts = [] →
     ∃ t, exec (.audioTsPop n) s = .next t ∧ t.acc.rdata = [0] ∧ (∀ o ∈ [0x64, 0x68, 0x6C, 0x70], Tab.get (fun _ => none) t.acc.captured (atAUD n o) = some 0) ∧ Sent [] t ∧ Frame ([]) s ({ s with acc := t.acc }) t) ∧
  (∀ (s : State) (n : Nat),
     s.rindActs →
     n < 4 →
     ∃ t, exec (.audioCsInRead n) s = .next t ∧ t.acc.rdata = [s.get (F.RD_AUD_CS_IN_CS n 0)] ∧ (∀ i ∈ List.range 5, Tab.get (fun _ => none) t.acc.captured (F.RD_AUD_CS_IN_CS n (i + 1)).addr = some (s.rd (F.RD_AUD_CS_IN_CS n (i + 1)).addr)) ∧ Sent [] t ∧ Frame ([]) s ({ s with acc := t.acc }) t)

/-- START, data and configuration writes join the unit's queue, which makes VALID 0 and shows in PENDING; the _LO half of a pair waits for its _HI half. When the queue runs empty every write has been processed in order, the result registers hold R, VALID is 1 and SEQ has stepped. A read of the state processes what waits first and captures the other half; a read of RESULT_INFO captures the result. -/
def Obligations.CheckValueUnits : Prop :=
  (∀ (s : State) (u : Nat),
     s.rindActs →
     u < 4 →
     ∃ t, exec (.crcStart u) s = .next t ∧ t.on (F.RD_CRC_RESULT_INFO_VALID u) = false ∧ t.get (F.RD_CRC_RESULT_INFO_PENDING u) = min 16 ((s.crcq u).length + 1) ∧ Sent [] t ∧ Frame ([F.RD_CRC_RESULT_INFO_VALID u, F.RD_CRC_RESULT_INFO_PENDING u]) s ({ s with crcs := Tab.set (fun _ => []) u (s.crcq u ++ [⟨4, 1⟩]) s.crcs }) t) ∧
  (∀ (s : State) (u size : Nat) (val : Word),
     s.rindActs →
     u < 4 ∧ size < 3 →
     s.wordOk (atCRC u (0x28 + 4 * size)) val = true →
     ∃ t, exec (.crcData u size val) s = .next t ∧ t.on (F.RD_CRC_RESULT_INFO_VALID u) = false ∧ t.get (F.RD_CRC_RESULT_INFO_PENDING u) = min 16 ((s.crcq u).length + 1) ∧ Sent [] t ∧ Frame ([F.RD_CRC_RESULT_INFO_VALID u, F.RD_CRC_RESULT_INFO_PENDING u]) s ({ s with crcs := Tab.set (fun _ => []) u (s.crcq u ++ [⟨0x28 + 4 * size, val.toNat⟩]) s.crcs }) t) ∧
  (∀ (s : State) (u : Nat) (val : Word),
     s.rindActs →
     u < 4 →
     s.wordOk (atCRC u 0) val = true →
     ∃ t, exec (.crcConfigWrite u 0 val) s = .next t ∧ t.on (F.RD_CRC_RESULT_INFO_VALID u) = false ∧ t.get (F.RD_CRC_RESULT_INFO_PENDING u) = min 16 ((s.crcq u).length + 1) ∧ Sent [] t ∧ Frame ([F.RD_CRC_RESULT_INFO_VALID u, F.RD_CRC_RESULT_INFO_PENDING u]) s ({ s with crcs := Tab.set (fun _ => []) u (s.crcq u ++ [⟨0, val.toNat⟩]) s.crcs }) t) ∧
  (∀ (s : State) (u off : Nat) (val : Word),
     s.rindActs →
     u < 4 →
     (off = 0x8 ∨ off = 0x10 ∨ off = 0x18 ∨ off = 0x20) →
     s.wordOk (atCRC u off) val = true →
     ∃ t, exec (.crcConfigWrite u off val) s = .next t ∧ (Tab.get (fun _ => none) t.acc.lowHeld (atCRC u off) = some val) ∧ Sent [] t ∧ Frame ([]) s ({ s with acc := { s.acc with lowHeld := t.acc.lowHeld } }) t) ∧
  (∀ (s : State) (u off : Nat) (val : Word),
     let lo : Word := (Tab.get (fun _ => none) s.acc.lowHeld (atCRC u (off - 4))).getD (s.rd (atCRC u (off - 4)))
     s.rindActs →
     u < 4 →
     (off = 0xC ∨ off = 0x14 ∨ off = 0x1C ∨ off = 0x24) →
     s.wordOk (atCRC u off) val = true →
     ∃ t, exec (.crcConfigWrite u off val) s = .next t ∧ (Tab.get (fun _ => none) t.acc.lowHeld (atCRC u (off - 4)) = none) ∧ t.on (F.RD_CRC_RESULT_INFO_VALID u) = false ∧ t.get (F.RD_CRC_RESULT_INFO_PENDING u) = min 16 ((s.crcq u).length + 1) ∧ Sent [] t ∧ Frame ([F.RD_CRC_RESULT_INFO_VALID u, F.RD_CRC_RESULT_INFO_PENDING u]) s ({ s with acc := { s.acc with lowHeld := t.acc.lowHeld }, crcs := Tab.set (fun _ => []) u (s.crcq u ++ [⟨off - 4, lo.toNat + val.toNat * 2 ^ 32⟩]) s.crcs }) t) ∧
  (∀ (s : State) (u : Nat),
     let z : State := s.each (s.crcq u) (crcProcess u)
     s.rindActs →
     u < 4 →
     s.crcq u ≠ [] →
     ∃ t, exec (.crcResultComplete u) s = .next t ∧ t.crcPair u 0x38 = crcResult (z.crcW u) (z.crcPair u 0x18) (z.on (F.RD_CRC_CFG_REFOUT u)) (z.crcPair u 0x20) ∧ t.on (F.RD_CRC_RESULT_INFO_VALID u) = true ∧ t.get (F.RD_CRC_RESULT_INFO_PENDING u) = 0 ∧ t.get (F.RD_CRC_RESULT_INFO_SEQ u) = s.wrap (F.RD_CRC_RESULT_INFO_SEQ u) ∧ (t.crcW u, t.crcPair u 0x8, t.crcPair u 0x10, t.crcPair u 0x18, t.crcPair u 0x20, t.get (F.RD_CRC_BYTES_BYTES u)) = (z.crcW u, z.crcPair u 0x8, z.crcPair u 0x10, z.crcPair u 0x18, z.crcPair u 0x20, z.get (F.RD_CRC_BYTES_BYTES u)) ∧ Sent [] t ∧ Frame ([F.RD_CRC_RESULT_INFO_VALID u, F.RD_CRC_RESULT_INFO_PENDING u, F.RD_CRC_RESULT_INFO_SEQ u, F.RD_CRC_BYTES_BYTES u, whole (atCRC u 0)] ++ ([8, 0xC, 0x10, 0x14, 0x18, 0x1C, 0x20, 0x24, 0x38, 0x3C].map fun o => whole (atCRC u o))) s ({ s with crcs := Tab.set (fun _ => []) u [] s.crcs }) t) ∧
  (∀ (s : State) (u : Nat),
     let z : State := s.each (s.crcq u) (crcProcess u)
     s.rindActs →
     u < 4 →
     ∃ t, exec (.crcStateRead u) s = .next t ∧ t.acc.rdata = [z.crcPair u 0x20 % 2 ^ 32] ∧ (Tab.get (fun _ => none) t.acc.captured (atCRC u 0x24) = some (z.rd (atCRC u 0x24))) ∧ (t.crcq u = [] ∧ (s.crcq u ≠ [] → t.on (F.RD_CRC_RESULT_INFO_VALID u) = true)) ∧ Sent [] t ∧ Frame (if s.crcq u = [] then [] else [F.RD_CRC_RESULT_INFO_VALID u, F.RD_CRC_RESULT_INFO_PENDING u, F.RD_CRC_RESULT_INFO_SEQ u, F.RD_CRC_BYTES_BYTES u, whole (atCRC u 0)] ++ ([8, 0xC, 0x10, 0x14, 0x18, 0x1C, 0x20, 0x24, 0x38, 0x3C].map fun o => whole (atCRC u o))) s ({ s with crcs := t.crcs, acc := t.acc }) t) ∧
  (∀ (s : State) (u : Nat),
     s.rindActs →
     u < 4 →
     ∃ t, exec (.crcResultInfoRead u) s = .next t ∧ t.acc.rdata = [(s.rd (atCRC u 0x34)).toNat] ∧ (Tab.get (fun _ => none) t.acc.captured (atCRC u 0x38) = some (s.rd (atCRC u 0x38)) ∧ Tab.get (fun _ => none) t.acc.captured (atCRC u 0x3C) = some (s.rd (atCRC u 0x3C))) ∧ Sent [] t ∧ Frame ([]) s ({ s with acc := t.acc }) t)

/-- The legacy chain. That a VS which is not valid is not forwarded, that 4 periods lock the raster, and which frame BLANK_ALL darkens are the model's readings (log entry 63). -/
def Obligations.LegacyChain : Prop :=
  (∀ (s : State) (lane g : Nat),
     s.acts →
     s.isK24 = true →
     ((lane = 0 ∧ g = 0) ∨ (lane = 5 ∧ g = 1)) →
     ∃ t, exec (.legacyLaneLock lane) s = .next t ∧ t.k24.lock = setBit s.k24.lock g ∧ t.get (F.HP_LANE_STATE_CDR_LOCK lane) = 1 ∧ t.get (F.HP_LANE_STATE_RXS lane) = lnActive ∧ t.get (F.HP_LANE_STATE_TXS lane) = lnActive ∧ t.on (F.HP_GROUP_STATE_REF 1) = t.k24.lock.testBit 0 ∧ t.on (F.HP_GROUP_STATE_REF 0) = (t.k24.lock.testBit 0 && t.k24.lock.testBit 1) ∧ Sent [] t ∧ Frame ([F.HP_LANE_STATE_CDR_LOCK lane, F.HP_LANE_STATE_RXS lane, F.HP_LANE_STATE_TXS lane, F.HP_GROUP_STATE_REF 0, F.HP_GROUP_STATE_REF 1, F.RD_BOOT_STATUS_TILE_STATE]) s ({ s with k24 := { s.k24 with lock := setBit s.k24.lock g }, tileRx := { s.tileRx with ready := t.tileRx.ready } }) t) ∧
  (∀ (s : State) (lane g : Nat),
     s.acts →
     s.isK24 = true →
     ((lane = 0 ∧ g = 0) ∨ (lane = 5 ∧ g = 1)) →
     s.k24.lock.testBit g = true →
     ∃ t, exec (.legacyLaneLockLost lane) s = .next t ∧ t.k24.lock = clearBit s.k24.lock g ∧ t.get (F.HP_LANE_STATE_CDR_LOCK lane) = 0 ∧ t.get (F.HP_LANE_STATE_RXS lane) = lnTrain ∧ t.on (F.HP_GROUP_STATE_REF 1) = t.k24.lock.testBit 0 ∧ t.on (F.HP_GROUP_STATE_REF 0) = (t.k24.lock.testBit 0 && t.k24.lock.testBit 1) ∧ (lane = 0 → t.tileRx.ready = false) ∧ Sent [] t ∧ Frame ([F.HP_LANE_STATE_CDR_LOCK lane, F.HP_LANE_STATE_RXS lane, F.HP_GROUP_STATE_REF 0, F.HP_GROUP_STATE_REF 1, F.RD_BOOT_STATUS_TILE_STATE]) s ({ s with k24 := { s.k24 with lock := clearBit s.k24.lock g }, tileRx := { s.tileRx with ready := t.tileRx.ready } }) t) ∧
  (∀ (s : State) (rd : Bool) (codes : List Nat) (bytes : List Nat) (v : VsTurn) (f h fl x : Nat),
     s.acts →
     s.legacyIn 0 0 rd codes = (bytes, false) →
     s.isK24 = true ∧ s.k24.apply = false →
     f < 256 ∧ h < 256 ∧ fl < 256 ∧ x < 256 →
     bytes = x25Seal [f, h, fl, x] ∧ x25Ok bytes = true →
     ∃ t, exec (.vs rd codes v) s = .next t ∧ t.get F.RD_K24_FCNT_FCNT = f ∧ t.get F.RD_K24_ADDR_ADDR = min (h + 1) 63 ∧ t.on F.RD_K24_ADDR_EXCESS = decide (32 < h + 1) ∧ (t.raster.running = true ∧ t.raster.rpos = 0 ∧ t.raster.fnum = (if s.k24.vs then (s.raster.fnum + 1) % 2 ^ 32 else 0)) ∧ (t.k24.vs = true ∧ t.k24.missed = 0 ∧ t.k24.held = 0 ∧ t.k24.expired = false ∧ t.k24.blank = (if s.links.wheyStopped then s.k24.blank else fl.testBit 0) ∧ t.k24.blankPrev = s.k24.blank) ∧ Sent [.legacy 5 0 (x25Seal [f, (h + 1) % 256, fl, x])] t ∧ Frame ([F.RD_K24_FCNT_FCNT, F.RD_K24_ADDR_ADDR, F.RD_K24_ADDR_EXCESS, F.RD_K24_REPEAT_ROWS, F.CH_RASTER_STATE_STATE 0, F.RD_BOOT_STATUS_TILE_STATE] ++ (if v.ue = [] then [] else [F.VT_TP_STATUS_UE_STORE, F.VT_TP_UE_COUNT2_UE_STORE_N] ++ pendFlds)) s ({ s with k24 := t.k24, raster := t.raster, tileRx := t.tileRx, tp := { s.tp with store := t.tp.store } }) t) ∧
  (∀ (s : State) (rd : Bool) (codes : List Nat) (bytes : List Nat) (viol : Bool) (v : VsTurn),
     s.acts →
     s.legacyIn 0 0 rd codes = (bytes, viol) →
     s.isK24 = true →
     x25Ok bytes = false →
     ∃ t, exec (.vs rd codes v) s = .next t ∧ t.get F.RD_K24_ERR_POP_ERR = s.more F.RD_K24_ERR_POP_ERR ∧ Sent [] t ∧ Frame ([F.RD_K24_ERR_POP_ERR]) s (s) t) ∧
  (∀ (s : State) (rd : Bool) (codes : List Nat) (bytes : List Nat) (v : VsTurn),
     s.acts →
     s.isK24 = true ∧ s.k24.apply = false →
     s.legacyIn 0 0 rd codes = (bytes, true) ∧ x25Ok bytes = true →
     ∃ t, exec (.vs rd codes v) s = .next t ∧ Sent [] t ∧ Frame ([]) s (s) t) ∧
  (∀ (s : State),
     s.acts →
     s.isK24 = true ∧ s.k24.vs = true →
     s.get (F.CH_RASTER_STATE_STATE 0) ≠ 3 →
     ∃ t, exec (.vsMissing) s = .next t ∧ t.k24 = { s.k24 with missed := s.k24.missed + 1, turn := false, good := 0 } ∧ t.raster.fnum = (s.raster.fnum + 1) % 2 ^ 32 ∧ t.raster.rpos = 0 ∧ (t.get (F.CH_RASTER_STATE_STATE 0) = (if 2 ≤ s.k24.missed then 3 else s.get (F.CH_RASTER_STATE_STATE 0))) ∧ Sent [] t ∧ Frame ([F.CH_RASTER_STATE_STATE 0, F.RD_BOOT_STATUS_TILE_STATE]) s ({ s with k24 := t.k24, raster := { s.raster with fnum := (s.raster.fnum + 1) % 2 ^ 32, rpos := 0, acc := 0, boundary := true }, tileRx := { s.tileRx with ready := t.tileRx.ready } }) t) ∧
  (∀ (s : State),
     s.acts →
     s.isK24 = true →
     s.get F.RD_K24_CTRL_HOLD ≠ 0 ∧ s.get F.RD_K24_CTRL_HOLD ≤ s.k24.held →
     ∃ t, exec (.vsHoldExpiry) s = .next t ∧ t.k24 = { s.k24 with expired := true } ∧ t.on F.PR_SLOT_STATUS_DARK = true ∧ t.get F.PR_SLOT_STATUS_DARK_SRC = t.darkSrc ∧ t.press.lit = 0 ∧ Sent [] t ∧ Frame ([F.PR_SLOT_STATUS_DARK, F.PR_SLOT_STATUS_DARK_SRC]) s ({ s with k24 := t.k24, press := { s.press with lit := 0 } }) t) ∧
  (∀ (s : State) (rd : Bool) (codes : List Nat) (bytes : List Nat) (viol : Bool),
     let b : List Nat := bytes.take (bytes.length - 2)
     let row : Nat := ofLe ((b.drop 1).take 2)
     let col : Nat := ofLe ((b.drop 3).take 2)
     let n : Nat := ofLe ((b.drop 5).take 2)
     let ok : Bool := x25Ok bytes && !viol && s.k24.vs && !s.links.wheyStopped && !s.on F.RD_K24_ADDR_EXCESS && b.headD 0 == s.get F.RD_K24_ADDR_ADDR && decide (row < s.k24H) && decide (col + n ≤ s.k24W) && (b.drop 7).length == 3 * n && decide (1 ≤ n) && decide (n ≤ 512)
     let row8 : List Nat := rowPut (Tab.get (fun _ => []) s.tileRx.cur row) (3 * s.k24W) (3 * col) (b.drop 7)
     let cover : List (Nat × Nat) := spanIns col n (Tab.get (fun _ => []) s.tileRx.coverA row)
     s.acts →
     s.legacyIn 0 1 rd codes = (bytes, viol) →
     s.isK24 = true →
     ∃ t, exec (.ls rd codes) s = .next t ∧ (t.get F.RD_K24_ERR_POP_ERR = (if x25Ok bytes then s.get F.RD_K24_ERR_POP_ERR else s.more F.RD_K24_ERR_POP_ERR)) ∧ (ok = true → Tab.get (fun _ => []) t.tileRx.cur row = row8 ∧ Tab.get (fun _ => []) t.tileRx.coverA row = cover ∧ (spanFull s.k24W cover = true → t.corrRow 0 0 row = row8)) ∧ (ok = false → t.tileRx = s.tileRx) ∧ (ok = false ∨ spanFull s.k24W cover = false → t.tp.store = s.tp.store) ∧ Sent [.legacy 5 1 bytes] t ∧ Frame ([F.RD_K24_ERR_POP_ERR]) s ({ s with tileRx := { s.tileRx with cur := t.tileRx.cur, coverA := t.tileRx.coverA }, tp := { s.tp with store := t.tp.store } }) t) ∧
  (∀ (s : State) (rd : Bool) (codes : List Nat) (bytes : List Nat) (viol : Bool),
     s.acts →
     s.legacyIn 0 2 rd codes = (bytes, viol) →
     s.isK24 = true →
     x25Ok bytes = false →
     ∃ t, exec (.k24Write rd codes) s = .next t ∧ t.get F.RD_K24_ERR_POP_ERR = s.more F.RD_K24_ERR_POP_ERR ∧ Sent [.legacy 5 2 bytes] t ∧ Frame ([F.RD_K24_ERR_POP_ERR]) s (s) t) ∧
  (∀ (s : State) (rd : Bool) (codes : List Nat) (bytes : List Nat) (a v : Nat),
     let b : List Nat := bytes.take (bytes.length - 2)
     s.acts →
     s.legacyIn 0 2 rd codes = (bytes, false) →
     s.isK24 = true →
     x25Ok bytes = true →
     s.k24Mine b true = true ∧ b.drop 1 = 1 :: leBytes 2 a ++ leBytes 2 2 ++ leBytes 2 v ∧ v < 65536 →
     a ∈ [0x04, 0x05, 0x10, 0x18, 0x19, 0x43] →
     (∀ r ∈ regAt (atK24 (4 * a)), BitVec.ofNat 32 v &&& ~~~ r.named = 0) →
     ∃ t, exec (.k24Write rd codes) s = .next t ∧ t.rd (atK24 (4 * a)) = BitVec.ofNat 32 v ∧ Sent [.legacy 5 2 bytes] t ∧ Frame ([whole (atK24 (4 * a))]) s (s) t) ∧
  (∀ (s : State) (rd : Bool) (codes : List Nat) (bytes : List Nat) (viol : Bool),
     s.acts →
     s.legacyIn 0 2 rd codes = (bytes, viol) →
     s.isK24 = true →
     x25Ok bytes = false →
     ∃ t, exec (.k24Read rd codes) s = .next t ∧ t.get F.RD_K24_ERR_POP_ERR = s.more F.RD_K24_ERR_POP_ERR ∧ Sent [.legacy 5 2 bytes] t ∧ Frame ([F.RD_K24_ERR_POP_ERR]) s (s) t) ∧
  (∀ (s : State) (rd : Bool) (codes : List Nat) (bytes : List Nat) (a : Nat),
     let b : List Nat := bytes.take (bytes.length - 2)
     s.acts →
     s.legacyIn 0 2 rd codes = (bytes, false) →
     s.isK24 = true →
     x25Ok bytes = true →
     s.k24Mine b false = true ∧ b.drop 1 = 2 :: leBytes 2 a ++ [0, 0] →
     a ∈ [0x00, 0x01, 0x02, 0x04, 0x05, 0x06, 0x07, 0x08, 0x10, 0x18, 0x19, 0x23, 0x42, 0x43, 0xF0] →
     ∃ t, exec (.k24Read rd codes) s = .next t ∧ Sent [.legacy 5 2 bytes, .legacy 0 3 (x25Seal ([s.get F.RD_K24_ADDR_ADDR, 0x82] ++ leBytes 2 a ++ leBytes 2 ((s.rd (atK24 (4 * a))).toNat % 65536)))] t ∧ Frame ([]) s (s) t) ∧
  (∀ (s : State) (rd : Bool) (codes : List Nat) (bytes : List Nat) (viol : Bool),
     s.acts →
     s.legacyIn 0 2 rd codes = (bytes, viol) →
     s.isK24 = true →
     x25Ok bytes = false →
     ∃ t, exec (.k24Block rd codes) s = .next t ∧ t.get F.RD_K24_ERR_POP_ERR = s.more F.RD_K24_ERR_POP_ERR ∧ Sent [.legacy 5 2 bytes] t ∧ Frame ([F.RD_K24_ERR_POP_ERR]) s (s) t) ∧
  (∀ (s : State) (rd : Bool) (codes : List Nat) (bytes d : List Nat) (a : Nat),
     let b : List Nat := bytes.take (bytes.length - 2)
     let u : State := if a = 0x11 then s.each (pairs d) gamWrite else s.each d gainWrite
     s.acts →
     s.legacyIn 0 2 rd codes = (bytes, false) →
     s.isK24 = true →
     x25Ok bytes = true →
     s.k24Mine b true = true ∧ b.drop 1 = 3 :: leBytes 2 a ++ leBytes 2 d.length ++ d →
     (d ≠ [] ∧ d.length ≤ 256 ∧ (a = 0x11 ∨ a = 0x1A)) →
     ∃ t, exec (.k24Block rd codes) s = .next t ∧ (t.get F.RD_K24_GAM_IDX_COLOUR, t.get F.RD_K24_GAM_IDX_INDEX, t.gainIdx) = (u.get F.RD_K24_GAM_IDX_COLOUR, u.get F.RD_K24_GAM_IDX_INDEX, u.gainIdx) ∧ Sent [.legacy 5 2 bytes] t ∧ Frame (if a = 0x11 then [F.RD_K24_GAM_IDX_COLOUR, F.RD_K24_GAM_IDX_INDEX] else [F.RD_K24_GAIN_IDX_LO_IDX, F.RD_K24_GAIN_IDX_HI_IDX]) s ({ s with k24 := { s.k24 with gam := u.k24.gam }, tp := { s.tp with bank0 := u.tp.bank0 } }) t) ∧
  (∀ (s : State) (rd : Bool) (codes : List Nat) (bytes : List Nat) (viol : Bool),
     s.acts →
     s.legacyIn 5 3 rd codes = (bytes, viol) →
     s.isK24 = true →
     ∃ t, exec (.rsp ⟨rd, codes⟩) s = .next t ∧ Sent [.legacy 0 3 bytes] t ∧ Frame ([]) s (s) t) ∧
  (∀ (s : State) (v : Option Nat),
     let c : Nat := s.get F.RD_K24_GAM_IDX_COLOUR
     let i : Nat := s.get F.RD_K24_GAM_IDX_INDEX
     s.acts →
     s.isK24 = true →
     c < 3 →
     ∃ t, exec (.k24GamDataAccess v) s = .next t ∧ (t.acc.rdata = (if v.isSome then [] else [s.gam c i])) ∧ (t.get F.RD_K24_GAM_IDX_INDEX = (i + 1) % 256 ∧ t.get F.RD_K24_GAM_IDX_COLOUR = (if i < 255 then c else if c < 2 then c + 1 else 0)) ∧ (∀ x ∈ v, t.gam c i = x % 65536) ∧ (v = none → t.k24.gam = s.k24.gam) ∧ Sent [] t ∧ Frame ([F.RD_K24_GAM_IDX_COLOUR, F.RD_K24_GAM_IDX_INDEX]) s ({ s with k24 := { s.k24 with gam := t.k24.gam }, acc := t.acc }) t) ∧
  (∀ (s : State) (v : Option Nat),
     let i : Nat := s.gainIdx
     s.acts →
     s.isK24 = true →
     i < s.k24Lamps →
     ∃ t, exec (.k24GainDataAccess v) s = .next t ∧ (t.acc.rdata = (if v.isSome then [] else [s.k24Gain i])) ∧ (t.gainIdx = (if i + 1 < s.k24Lamps then i + 1 else 0)) ∧ (t.tp.bank0 = (match v with | some x => s.tp.bank0.put (i / 3) 0 (4 * (i % 3)) ((x % 256 : Nat) * 128) | none => s.tp.bank0)) ∧ Sent [] t ∧ Frame ([F.RD_K24_GAIN_IDX_LO_IDX, F.RD_K24_GAIN_IDX_HI_IDX]) s ({ s with tp := { s.tp with bank0 := t.tp.bank0 }, acc := t.acc }) t) ∧
  (∀ (s : State),
     s.acts →
     s.isK24 = true →
     ∃ t, exec (.k24ErrPop) s = .next t ∧ t.acc.rdata = [s.get F.RD_K24_ERR_POP_ERR] ∧ t.get F.RD_K24_ERR_POP_ERR = 0 ∧ Sent [] t ∧ Frame ([F.RD_K24_ERR_POP_ERR]) s ({ s with acc := t.acc }) t) ∧
  (∀ (s : State) (key : Nat),
     s.acts →
     s.isK24 = true ∧ key = 0x5A5A →
     s.get F.VT_TP_TAB_RESULT_STATE ≠ 1 ∧ s.get F.VT_TP_TAB_RESULT_STATE ≠ 5 →
     ∃ t, exec (.k24Save key) s = .next t ∧ t.get F.VT_TP_TAB_RESULT_STATE = 5 ∧ Sent [] t ∧ Frame ([F.VT_TP_TAB_RESULT_STATE, F.VT_TP_TAB_RESULT_VALID, F.VT_TP_TAB_RESULT_SEQ]) s (s) t)

/-- The legacy update. The code of a transfer of more than 8 MiB is not stated (log entry 63). -/
def Obligations.LegacyUpdate : Prop :=
  (∀ (s : State),
     s.acts →
     s.isK24 = true →
     (s.upd24 = 0 ∨ s.upd24 = 4 ∨ s.upd24 = 5) →
     ∃ t, exec (.updBegin) s = .next t ∧ t.upd24 = 1 ∧ t.get F.RD_K24_UPD_STATUS_ERR = 0 ∧ Sent [] t ∧ Frame ([F.RD_K24_UPD_STATUS_STATE, F.RD_K24_UPD_STATUS_ERR]) s (s.setRx fun r => { r with buf := [] }) t) ∧
  (∀ (s : State) (b : Nat),
     s.acts →
     s.isK24 = true →
     s.upd24 = 1 →
     s.upd.rx.buf.length < 0x800000 →
     ∃ t, exec (.updData b) s = .next t ∧ Sent [] t ∧ Frame ([]) s (s.setRx fun r => { r with buf := r.buf ++ [b % 256] }) t) ∧
  (∀ (s : State),
     s.acts →
     s.isK24 = true →
     s.upd24 = 1 →
     ∃ t, exec (.updEnd) s = .next t ∧ t.upd24 = 2 ∧ t.get F.RD_K24_UPD_STATUS_ERR = 0 ∧ Sent [] t ∧ Frame ([F.RD_K24_UPD_STATUS_STATE, F.RD_K24_UPD_STATUS_ERR]) s (s) t) ∧
  (∀ (s : State) (regs : List (Nat × Word)) (all : MouldImage),
     let contents : MouldImage := { all with mregs := regs }
     let b : List Nat := s.upd.rx.buf
     let e : Nat := s.packageError 12 (fwOf b) (mouldOf b contents)
     s.acts →
     s.isK24 = true →
     s.upd24 = 2 →
     ∃ t, exec (.updVerifyDone regs all) s = .next t ∧ (s.nv.fwCheck 12 (fwOf b) ≠ 0 → e = s.nv.fwCheck 12 (fwOf b)) ∧ (s.nv.fwCheck 12 (fwOf b) = 0 → e = (if s.mouldCheck false (mouldOf b contents) = 0 then 0 else 0x0B)) ∧ (t.upd24 = (if e = 0 then 3 else 5) ∧ t.get F.RD_K24_UPD_STATUS_ERR = e) ∧ Sent [] t ∧ Frame ([F.RD_K24_UPD_STATUS_STATE, F.RD_K24_UPD_STATUS_ERR]) s (if e = 0 then s.setRx fun r => { r with fw := some (fwOf b), mould := some (mouldOf b contents) } else s) t) ∧
  (∀ (s : State),
     s.acts →
     s.isK24 = true →
     s.upd24 = 3 →
     ∃ t, exec (.updWriteDone false) s = .next t ∧ t.upd24 = 5 ∧ t.get F.RD_K24_UPD_STATUS_ERR = 6 ∧ Sent [] t ∧ Frame ([F.RD_K24_UPD_STATUS_STATE, F.RD_K24_UPD_STATUS_ERR]) s (s) t) ∧
  (∀ (s : State),
     s.acts →
     s.isK24 = true →
     s.upd24 = 3 →
     ∃ t, exec (.updWriteDone true) s = .next t ∧ t.upd24 = 4 ∧ t.get F.RD_K24_UPD_STATUS_ERR = 0 ∧ t.nv.slot s.altSlot = { state := slStaged, fw := s.upd.rx.fw, mould := s.upd.rx.mould } ∧ t.nv.slot (1 - s.altSlot) = s.nv.slot (1 - s.altSlot) ∧ Sent [] t ∧ Frame ([F.RD_K24_UPD_STATUS_STATE, F.RD_K24_UPD_STATUS_ERR] ++ fwFlds) s ({ s with nv := s.nv.setSlot s.altSlot { state := slStaged, fw := s.upd.rx.fw, mould := s.upd.rx.mould } }) t) ∧
  (∀ (s : State),
     s.acts →
     s.isK24 = true →
     s.upd24 = 4 →
     s.k24.apply = false →
     ∃ t, exec (.updApply) s = .next t ∧ Sent [] t ∧ Frame ([]) s ({ s with k24 := { s.k24 with apply := true, applyNow := false } }) t) ∧
  (∀ (s : State),
     s.acts →
     s.k24.apply = true →
     s.saving = true →
     ∃ t, exec (.updApplyTimeout) s = .next t ∧ Sent [] t ∧ Frame ([]) s ({ s with k24 := { s.k24 with applyNow := true } }) t) ∧
  (∀ (s : State),
     let u : State := commandedRestart (k24Slots { s.fresh with k24 := { s.k24 with applyNow := true } })
     s.acts →
     s.k24.apply = true →
     s.saving = false →
     ∃ t, exec (.updApplyTimeout) s = .next t ∧ t.sys = u.sys ∧ t.nv = u.nv ∧ t.mould = u.mould ∧ (t.nv.slot s.altSlot).state = slTrial ∧ t.nv.boot = s.altSlot ∧ t.nv.tries = 3 ∧ t.nv.window = 60 * max 1 (s.get F.RD_K24_UPD_WIN_MIN) ∧ t.out = u.out) ∧
  (∀ (s : State),
     let i : Nat := s.upd.slot.getD 0
     s.acts →
     s.isK24 = true →
     s.upd.slot.isSome = true ∧ (s.nv.slot i).state = slTrial →
     i < 2 →
     ∃ t, exec (.updConfirm) s = .next t ∧ t.upd24 = 0 ∧ t.get F.RD_K24_UPD_STATUS_ERR = 0 ∧ (t.nv.slot i).state = slConfirmed ∧ ((s.nv.slot (1 - i)).state = slConfirmed → (t.nv.slot (1 - i)).state = slOld) ∧ (t.nv.rollback = max s.nv.rollback (match s.upd.run with | some f => f.rollback | none => 0)) ∧ t.inTrial = false ∧ Sent [] t) ∧
  (∀ (s : State),
     s.acts →
     s.isK24 = true →
     (s.upd24 = 1 ∨ s.upd24 = 2 ∨ s.upd24 = 3) →
     ∃ t, exec (.updAbort) s = .next t ∧ t.upd24 = 0 ∧ t.get F.RD_K24_UPD_STATUS_ERR = 0 ∧ Sent [] t ∧ Frame ([F.RD_K24_UPD_STATUS_STATE, F.RD_K24_UPD_STATUS_ERR]) s (s) t)

/-- Firmware. What CONFIRM and ARM do in states the manual does not spell out are the model's choices (log entry 51). -/
def Obligations.FirmwareActivation : Prop :=
  (∀ (s : State) (fw : Option FwImage) (mould : Option MouldImage) (e : Nat),
     let file : Option (FwImage × MouldImage) := fw.bind fun f => mould.map fun m => (f, m)
     let u : State := s.setCard fun c => { c with fw := file }
     s.acts →
     s.inTrial = false ∧ s.upd.arm = none ∧ s.upd.install = none →
     (e = (match file with | some (f, m) => if s.nv.fwCheck (rolesFor (some m)) f ≠ 0 then s.nv.fwCheck (rolesFor (some m)) f else mouldErr (s.mouldCheck false m) | none => 1)) →
     ∃ t, exec (.installFw fw mould) s = .next t ∧ (s.fwShows t (if e = 0 then 1 else 9) e) ∧ (t.upd.install = (if e = 0 then file.map fun x => .fw x.1 x.2 else none)) ∧ (e ≠ 0 → s.get F.RD_FW_RESULT_STATE ≠ 9 → t.pendingCause 13 = true) ∧ Sent [] t ∧ Frame (fwResFlds ++ (if e = 0 then [] else pendFlds)) s (u.setUpd fun u => { u with install := t.upd.install }) t) ∧
  (∀ (s : State) (fw : Option FwImage) (mould : Option MouldImage),
     let file : Option (FwImage × MouldImage) := fw.bind fun f => mould.map fun m => (f, m)
     s.acts →
     (s.inTrial = true ∨ s.upd.arm.isSome = true ∨ s.upd.install.isSome = true) →
     ∃ t, exec (.installFw fw mould) s = .next t ∧ s.fwShows t 7 0x0A ∧ Sent [] t ∧ Frame (fwResFlds) s (s.setCard fun c => { c with fw := file }) t) ∧
  (∀ (s : State) (file : Option Package) (e : Nat),
     let u : State := s.setCard fun c => { c with tile := file }
     s.acts →
     s.isSender = true ∧ s.distRuns = false ∧ s.upd.install = none →
     (e = (match file with | some k => if s.nv.fwCheck 4 k.fw ≠ 0 then s.nv.fwCheck 4 k.fw else mouldErr (s.mouldCheck false k.mould) | none => 1)) →
     (∀ k ∈ file.toList, k.bytes.length ≤ 0x800000) →
     ∃ t, exec (.installTile file) s = .next t ∧ (s.fwShows t (if e = 0 then 1 else 9) e) ∧ (t.upd.install = (if e = 0 then file.map .tile else none)) ∧ (e ≠ 0 → s.get F.RD_FW_RESULT_STATE ≠ 9 → t.pendingCause 13 = true) ∧ Sent [] t ∧ Frame (fwResFlds ++ (if e = 0 then [] else pendFlds)) s (u.setUpd fun u => { u with install := t.upd.install }) t) ∧
  (∀ (s : State) (file : Option Package),
     s.acts →
     (s.isSender = false ∨ s.distRuns = true ∨ s.upd.install.isSome = true) →
     ∃ t, exec (.installTile file) s = .next t ∧ s.fwShows t 7 0x0A ∧ Sent [] t ∧ Frame (fwResFlds) s (s.setCard fun c => { c with tile := file }) t) ∧
  (∀ (s : State) (bytes : Option (List Nat)) (contents : MouldImage) (e : Nat),
     let file : Option MouldImage := bytes.map fun b => { contents with raw := b }
     let u : State := s.setCard fun c => { c with remould := file }
     s.acts →
     s.rmPending = false ∧ s.upd.install = none →
     (e = (match file with | some m => mouldErr (s.mouldCheck false m) | none => 1)) →
     ∃ t, exec (.installRemould bytes contents) s = .next t ∧ (s.fwShows t (if e = 0 then 1 else 9) e) ∧ (t.upd.install = (if e = 0 then file.map fun m => .remould m else none)) ∧ (e ≠ 0 → s.get F.RD_FW_RESULT_STATE ≠ 9 → t.pendingCause 13 = true) ∧ Sent [] t ∧ Frame (fwResFlds ++ (if e = 0 then [] else pendFlds)) s (u.setUpd fun u => { u with install := t.upd.install }) t) ∧
  (∀ (s : State) (bytes : Option (List Nat)) (contents : MouldImage),
     let file : Option MouldImage := bytes.map fun b => { contents with raw := b }
     s.acts →
     (s.rmPending = true ∨ s.upd.install.isSome = true) →
     ∃ t, exec (.installRemould bytes contents) s = .next t ∧ s.fwShows t 7 0x0A ∧ Sent [] t ∧ Frame (fwResFlds) s (s.setCard fun c => { c with remould := file }) t) ∧
  (∀ (s : State) (i : Install),
     s.acts →
     s.upd.install = some i →
     s.get F.RD_FW_RESULT_STATE ≠ 9 →
     ∃ t, exec (.installDone false) s = .next t ∧ s.fwShows t 9 6 ∧ t.pendingCause 13 = true ∧ Sent [] t ∧ Frame (fwResFlds ++ pendFlds) s (s.setUpd fun u => { u with install := none }) t) ∧
  (∀ (s : State) (i : Install),
     s.acts →
     s.upd.install = some i →
     ∃ t, exec (.installDone true) s = .next t ∧ s.fwShows t 2 0 ∧ (t.nv = (match i with | .fw f m => s.nv.setSlot s.altSlot { state := slStaged, fw := some f, mould := some m } | .tile k => { s.nv with pkg := some k } | .remould m => { s.nv with staging := some m })) ∧ t.get F.RD_FW_STATUS_ALT_STATE = (t.nv.slot s.altSlot).state % 2 ^ F.RD_FW_STATUS_ALT_STATE.width ∧ Sent [] t ∧ Frame (fwResFlds ++ fwFlds ++ (List.range 16).flatMap (fun p => [F.CH_DIST_STATUS_STAGED_N p, F.CH_DIST_NRDY_TILES p])) s ({ s.setUpd (fun u => { u with install := none, dist := t.upd.dist }) with nv := t.nv }) t) ∧
  (∀ (s : State),
     let sf : Nat := s.get F.RD_FW_SCHED_FNUM_S
     let e : Nat := if ahead sf s.raster.fnum < s.minLead then 7 else s.fwArmError false
     s.acts →
     s.isSender = true ∧ s.upd.arm = none ∧ s.upd.install = none →
     ∃ t, exec (.fwArm) s = .next t ∧ (s.fwShows t (if e = 0 then 3 else 7) e) ∧ Sent [] t ∧ Frame (fwResFlds) s (s.setUpd fun u => if e = 0 then { u with arm := some (false, sf, false), partnerOk := false } else u) t) ∧
  (∀ (s : State),
     s.acts →
     (s.isSender = false ∨ s.upd.arm.isSome = true ∨ s.upd.install.isSome = true) →
     ∃ t, exec (.fwArm) s = .next t ∧ s.fwShows t 7 0x0A ∧ Sent [] t ∧ Frame (fwResFlds) s (s) t) ∧
  (∀ (s : State),
     let sf : Nat := s.get F.RD_FW_SCHED_FNUM_S
     let e : Nat := if ahead sf s.raster.fnum < s.minLead then 7 else if s.distRuns then 8 else if s.inTrial = false then 0x0A else if s.rmPending then 0x0C else 0
     s.acts →
     s.isSender = true ∧ s.upd.arm = none ∧ s.upd.install = none →
     ∃ t, exec (.armRevert) s = .next t ∧ (s.fwShows t (if e = 0 then 3 else 7) e) ∧ Sent [] t ∧ Frame (fwResFlds) s (s.setUpd fun u => if e = 0 then { u with arm := some (true, sf, false), partnerOk := false } else u) t) ∧
  (∀ (s : State) (r : Bool) (sf : Nat),
     s.acts →
     s.upd.arm = some (r, sf, false) →
     s.senderEnd ≠ 3 ∧ s.upd.partnerOk = false →
     ∃ t, exec (.fwArmPartnerTimeout) s = .next t ∧ s.fwShows t 7 9 ∧ Sent [] t ∧ Frame (fwResFlds) s (s.setUpd fun u => { u with arm := none }) t) ∧
  (∀ (s : State) (r : Bool) (sf : Nat),
     s.acts →
     s.upd.arm = some (r, sf, false) →
     ∃ t, exec (.fwCancel) s = .next t ∧ s.fwShows t 8 0 ∧ Sent [] t ∧ Frame (fwResFlds) s (s.setUpd fun u => { u with arm := none }) t) ∧
  (∀ (s : State) (r : Bool) (sf : Nat),
     let e : Nat := if s.fwArmError r ≠ 0 then s.fwArmError r else if s.senderEnd ≠ 3 ∧ s.upd.partnerOk = false then 9 else 0
     s.acts →
     s.upd.arm = some (r, sf, false) →
     ahead sf s.raster.fnum = 2 →
     s.portsInUse.Nodup →
     (∀ p ∈ s.portsInUse, (s.port p).bcast = none) →
     ∃ t, exec (.fwActivateCheck) s = .next t ∧ (s.fwShows t (if e = 0 then 4 else 8) e) ∧ (t.upd = { s.upd with arm := if e = 0 then some (r, sf, true) else none }) ∧ (∀ p ∈ s.portsInUse, (t.port p).bcast.isSome = true) ∧ (Sent (s.portsInUse.map fun p => .ctrl p ⟨0x33, 0xFF, endCode s.senderEnd, s.nextSeq p 0xFF, 0, [if e ≠ 0 then 3 else if r then 2 else 1, 0, 0, 0] ++ leBytes 4 sf ++ leBytes 4 s.tileVersion ++ leBytes 2 s.confirmWin ++ [s.triesInit, 0]⟩) t) ∧ Frame (fwResFlds) s ({ s with upd := t.upd, ports := t.ports }) t) ∧
  (∀ (s : State) (late : Bool),
     let u : State := confirmPart s
     let v : Nat := if s.on F.RD_FW_TILE_VER_VERSION then s.get F.RD_FW_TILE_VER_VERSION else s.tileVersion
     s.acts →
     s.isSender = true →
     (s.inTrial = false ∨ (late = false ∧ s.windowEnds = false)) →
     s.portsInUse.Nodup →
     (∀ p ∈ s.portsInUse, (s.port p).bcast = none) →
     ∃ t, exec (.confirm late) s = .next t ∧ s.fwShows t 6 0 ∧ (t.nv = u.nv ∧ (s.inTrial = true → (t.nv.slot s.runSlot).state = slConfirmed ∧ t.nv.tries = 0)) ∧ (Sent (s.portsInUse.map fun p => .ctrl p ⟨0x34, 0xFF, endCode s.senderEnd, s.nextSeq p 0xFF, 0, leBytes 4 v⟩) t) ∧ Frame (fwResFlds ++ fwFlds) s ({ s with nv := u.nv, cave := u.cave, ports := t.ports }) t) ∧
  (∀ (s : State) (late : Bool),
     s.acts →
     s.isSender = true →
     s.inTrial = true →
     (late = true ∨ s.windowEnds = true) →
     ∃ t, exec (.confirm late) s = .next t ∧ s.fwShows t 7 0x0D ∧ Sent [] t ∧ Frame (fwResFlds) s (s) t) ∧
  (∀ (s : State) (late : Bool),
     s.acts →
     s.isSender = false →
     ∃ t, exec (.confirm late) s = .next t ∧ s.fwShows t 7 0x0A ∧ Sent [] t ∧ Frame (fwResFlds) s (s) t) ∧
  (∀ (s : State) (i : Nat),
     s.acts →
     s.upd.slot = some i ∧ i < 2 →
     s.inTrial = true →
     ∃ t, exec (.confirmWindowExpiry) s = .next t ∧ (t.nv.slot i).state = slBad ∧ t.nv.fell = some i ∧ t.sys.warm = true ∧ t.nv.slot (1 - i) = s.nv.slot (1 - i) ∧ t.nv.boot = s.nv.boot ∧ (∀ a ∈ irqWords, t.rd a = s.rd a))

/-- The transfer. The error codes of failures that R523 does not list are free values (log entry 51). -/
def Obligations.FirmwareTransfer : Prop :=
  (∀ (s : State) (p src seq dest kind total id mseq last : Nat) (dirB : Bool) (w : PktEnd),
     s.acts →
     s.hasPort p = true →
     s.tileLike = true →
     dest ≠ 0xFF ∧ dest = s.addr →
     s.duplicate p src seq dest = false →
     s.inTrial = false ∧ s.transfers = false ∧ total ≤ 0x800000 →
     w.good (rxFlags w ⟨0x30, dest, src, seq, 0, fwBeginBytes kind total id mseq last dirB⟩) →
     ∃ t, exec (.fwBegin ⟨p, w⟩ src seq dest kind total id mseq last dirB) s = .next t ∧ t.upd.rx = { state := 1, kind := kind, total := total, id := id, mseq := mseq, last := last, dirB := dirB } ∧ t.upd.due = true ∧ (Sent (if s.linked p && !(s.port p).txGivenUp then [.ctrl p (ackPkt s.addr src seq 0)] else []) t) ∧ Frame ([]) s (noteExec p src seq dest 0 { s with upd := t.upd }) t) ∧
  (∀ (s : State) (p src seq dest kind total id mseq last : Nat) (dirB : Bool) (w : PktEnd),
     s.acts →
     s.hasPort p = true →
     s.tileLike = true →
     dest ≠ 0xFF ∧ dest = s.addr →
     s.duplicate p src seq dest = false →
     (s.inTrial = false ∧ (s.transfers = true ∨ 0x800000 < total)) →
     w.good (rxFlags w ⟨0x30, dest, src, seq, 0, fwBeginBytes kind total id mseq last dirB⟩) →
     ∃ t, exec (.fwBegin ⟨p, w⟩ src seq dest kind total id mseq last dirB) s = .next t ∧ (Sent (if s.linked p && !(s.port p).txGivenUp then [.ctrl p (ackPkt s.addr src seq 2)] else []) t) ∧ Frame ([]) s (noteExec p src seq dest 2 s) t) ∧
  (∀ (s : State) (p src seq dest off : Nat) (bytes : List Nat) (w : PktEnd),
     s.acts →
     s.hasPort p = true →
     s.tileLike = true →
     dest ≠ 0xFF ∧ dest = s.addr →
     s.duplicate p src seq dest = false →
     s.upd.rx.state = 1 ∧ off = s.upd.rx.buf.length ∧ bytes ≠ [] ∧ bytes.length ≤ 240 ∧ off + bytes.length ≤ 0x800000 →
     w.good (rxFlags w ⟨0x31, dest, src, seq, 0, leBytes 4 off ++ bytes⟩) →
     ∃ t, exec (.fwData ⟨p, w⟩ src seq dest off bytes) s = .next t ∧ (Sent (if s.linked p && !(s.port p).txGivenUp then [.ctrl p (ackPkt s.addr src seq 0)] else []) t) ∧ Frame ([]) s (noteExec p src seq dest 0 (s.setRx fun r => { r with buf := r.buf ++ bytes })) t) ∧
  (∀ (s : State) (p src seq dest off : Nat) (bytes : List Nat) (w : PktEnd),
     s.acts →
     s.hasPort p = true →
     s.tileLike = true →
     dest ≠ 0xFF ∧ dest = s.addr →
     s.duplicate p src seq dest = false →
     s.upd.rx.state = 1 ∧ off ≠ s.upd.rx.buf.length →
     w.good (rxFlags w ⟨0x31, dest, src, seq, 0, leBytes 4 off ++ bytes⟩) →
     ∃ t, exec (.fwData ⟨p, w⟩ src seq dest off bytes) s = .next t ∧ t.upd.rx.state = 5 ∧ t.upd.rx.buf = [] ∧ t.upd.due = true ∧ t.upd.hops = [] ∧ (Sent (if s.linked p && !(s.port p).txGivenUp then [.ctrl p (ackPkt s.addr src seq 2)] else []) t) ∧ Frame ([]) s (noteExec p src seq dest 2 { s with upd := { s.upd with rx := t.upd.rx, due := true, hops := [] }, freeN := s.freeN + 1 }) t) ∧
  (∀ (s : State) (p src seq dest total : Nat) (w : PktEnd),
     s.acts →
     s.hasPort p = true →
     s.tileLike = true →
     dest ≠ 0xFF ∧ dest = s.addr →
     s.duplicate p src seq dest = false →
     s.upd.rx.state = 1 ∧ total = s.upd.rx.total →
     w.good (rxFlags w ⟨0x32, dest, src, seq, 0, leBytes 4 total⟩) →
     ∃ t, exec (.fwEnd ⟨p, w⟩ src seq dest total) s = .next t ∧ (Sent (if s.linked p && !(s.port p).txGivenUp then [.ctrl p (ackPkt s.addr src seq 0)] else []) t) ∧ Frame ([]) s (noteExec p src seq dest 0 { s with upd := { s.upd with rx := { s.upd.rx with state := 2 }, due := true } }) t) ∧
  (∀ (s : State) (p src seq dest total : Nat) (w : PktEnd),
     s.acts →
     s.hasPort p = true →
     s.tileLike = true →
     dest ≠ 0xFF ∧ dest = s.addr →
     s.duplicate p src seq dest = false →
     s.upd.rx.state = 1 ∧ total ≠ s.upd.rx.total →
     w.good (rxFlags w ⟨0x32, dest, src, seq, 0, leBytes 4 total⟩) →
     ∃ t, exec (.fwEnd ⟨p, w⟩ src seq dest total) s = .next t ∧ t.upd.rx.state = 5 ∧ t.upd.rx.buf = [] ∧ t.upd.due = true ∧ t.upd.hops = [] ∧ (Sent (if s.linked p && !(s.port p).txGivenUp then [.ctrl p (ackPkt s.addr src seq 2)] else []) t) ∧ Frame ([]) s (noteExec p src seq dest 2 { s with upd := { s.upd with rx := t.upd.rx, due := true, hops := [] }, freeN := s.freeN + 1 }) t) ∧
  (∀ (s : State) (regs : List (Nat × Word)) (all : MouldImage),
     let contents : MouldImage := { all with mregs := regs }
     let e : Nat := s.rxError contents
     s.acts →
     s.upd.rx.state = 2 →
     e ≠ 0 →
     ∃ t, exec (.fwVerifyDone regs all) s = .next t ∧ t.upd.rx = { s.upd.rx with state := 5, err := e, buf := [], fw := none, mould := none } ∧ t.upd.due = true ∧ t.upd.hops = [] ∧ (s.upd.rx.kind = 1 ∧ s.nv.fwCheck 4 (fwOf s.upd.rx.buf) ≠ 0 → e = s.nv.fwCheck 4 (fwOf s.upd.rx.buf)) ∧ (s.upd.rx.kind ≠ 1 ∨ s.nv.fwCheck 4 (fwOf s.upd.rx.buf) = 0 → e = 0x0B) ∧ Sent [] t ∧ Frame ([]) s ({ s with upd := { s.upd with rx := t.upd.rx, due := true, hops := [] } }) t) ∧
  (∀ (s : State) (regs : List (Nat × Word)) (all : MouldImage),
     let contents : MouldImage := { all with mregs := regs }
     s.acts →
     s.upd.rx.state = 2 →
     s.rxError contents = 0 →
     s.addr = s.upd.rx.last →
     ∃ t, exec (.fwVerifyDone regs all) s = .next t ∧ Sent [] t ∧ Frame ([]) s (s.setRx fun r => { r with fw := some (fwOf r.buf), mould := some (r.image contents) }) t) ∧
  (∀ (s : State) (regs : List (Nat × Word)) (all : MouldImage),
     let contents : MouldImage := { all with mregs := regs }
     let r : Rx := s.upd.rx
     let p : Nat := if r.dirB then 0 else 1
     let nx : Nat := if r.dirB then s.addr - 1 else s.addr + 1
     s.acts →
     r.state = 2 →
     s.rxError contents = 0 →
     s.addr ≠ r.last →
     (nx ≠ 0xFF ∧ Tab.get (fun _ => none) (s.port p).unacked nx = none) →
     ∃ t, exec (.fwVerifyDone regs all) s = .next t ∧ t.upd.rx = { r with state := 3, fw := some (fwOf r.buf), mould := some (r.image contents) } ∧ t.upd.due = true ∧ t.hop p = some { dst := nx, kind := r.kind, total := r.total, id := r.id, mseq := r.mseq, last := r.last, dirB := r.dirB } ∧ (Sent [.ctrl p ⟨0x30, nx, s.hopSrc, s.nextSeq p nx, 1, [r.kind, 0, 0, 0] ++ leBytes 4 r.total ++ leBytes 4 r.id ++ leBytes 2 r.mseq ++ [r.last, if r.dirB then 1 else 0]⟩] t) ∧ Frame ([]) s ({ s with upd := { s.upd with rx := t.upd.rx, due := true, hops := t.upd.hops }, ports := t.ports }) t) ∧
  (∀ (s : State),
     s.acts →
     ((s.upd.rx.state = 2 ∨ s.upd.rx.state = 3) ∧ s.upd.rx.mould.isSome = true) →
     ∃ t, exec (.fwFlashWriteDone false) s = .next t ∧ t.upd.rx = { s.upd.rx with state := 5, err := 6, buf := [], fw := none, mould := none } ∧ t.upd.due = true ∧ t.upd.hops = [] ∧ Sent [] t ∧ Frame ([]) s ({ s with upd := { s.upd with rx := t.upd.rx, due := true, hops := [] } }) t) ∧
  (∀ (s : State),
     let r : Rx := s.upd.rx
     s.acts →
     ((r.state = 2 ∨ r.state = 3) ∧ r.mould.isSome = true) →
     ∃ t, exec (.fwFlashWriteDone true) s = .next t ∧ (t.nv = (if r.kind = 1 then s.nv.setSlot s.altSlot { state := slStaged, fw := r.fw, mould := r.mould } else { s.nv with staging := r.mould })) ∧ (t.upd.rx = { r with state := 4, stagedId := (if r.kind = 1 then (match r.fw with | some f => f.version | none => 0) else r.id), stagedSeq := r.mseq } ∧ t.upd.due = true) ∧ Sent [] t ∧ Frame (fwFlds) s ({ s with nv := t.nv, upd := { s.upd with rx := t.upd.rx, due := true } }) t) ∧
  (∀ (s : State) (p src seq op sf version win tries : Nat) (w : PktEnd),
     s.acts →
     s.hasPort p = true →
     s.tileLike = true →
     s.duplicate p src seq 0xFF = false →
     w.good (rxFlags w ⟨0x33, 0xFF, src, seq, 0, fwActivateBytes op sf version win tries⟩) →
     ∃ t, exec (.fwActivate ⟨p, w⟩ src seq op sf version win tries) s = .next t ∧ (t.upd.act = (if op = 3 then none else if (op = 1 ∨ op = 2) ∧ 1 ≤ ahead sf s.raster.fnum then some ⟨op, sf, version, win, tries⟩ else s.upd.act)) ∧ (Sent (if s.linked (1 - p) then [.ctrl (1 - p) (rxFlags w ⟨0x33, 0xFF, src, seq, 0, [op, 0, 0, 0] ++ leBytes 4 sf ++ leBytes 4 version ++ leBytes 2 win ++ [tries, 0]⟩)] else []) t) ∧ Frame ([]) s (noteExec p src seq 0xFF 0 (s.setUpd fun u => { u with act := t.upd.act })) t) ∧
  (∀ (s : State) (p src seq version : Nat) (w : PktEnd),
     let u : State := if s.inTrial && s.runVersion = version then confirmPart s else s
     s.acts →
     s.hasPort p = true →
     s.tileLike = true →
     s.duplicate p src seq 0xFF = false →
     w.good (rxFlags w ⟨0x34, 0xFF, src, seq, 0, leBytes 4 version⟩) →
     ∃ t, exec (.fwConfirm ⟨p, w⟩ src seq version) s = .next t ∧ (s.inTrial = true ∧ s.runVersion = version → (t.nv.slot s.runSlot).state = slConfirmed) ∧ (Sent (if s.linked (1 - p) then [.ctrl (1 - p) (rxFlags w ⟨0x34, 0xFF, src, seq, 0, leBytes 4 version⟩)] else []) t) ∧ Frame (if s.inTrial && s.runVersion = version then fwFlds else []) s (noteExec p src seq 0xFF 0 { s with nv := u.nv, cave := u.cave }) t) ∧
  (∀ (s : State) (p src seq dest : Nat) (w : PktEnd),
     s.acts →
     s.hasPort p = true →
     s.tileLike = true →
     dest ≠ 0xFF ∧ dest = s.addr →
     s.duplicate p src seq dest = false →
     s.transfers = true →
     w.good (rxFlags w ⟨0x35, dest, src, seq, 0, []⟩) →
     ∃ t, exec (.fwAbort ⟨p, w⟩ src seq dest) s = .next t ∧ t.upd.rx.state = 5 ∧ t.upd.rx.buf = [] ∧ t.upd.due = true ∧ t.upd.hops = [] ∧ (Sent (if s.linked p && !(s.port p).txGivenUp then [.ctrl p (ackPkt s.addr src seq 0)] else []) t) ∧ Frame ([]) s (noteExec p src seq dest 0 { s with upd := { s.upd with rx := t.upd.rx, due := true, hops := [] }, freeN := s.freeN + 1 }) t) ∧
  (∀ (s : State) (p a : Nat) (b : List Nat) (w : PktEnd),
     s.acts →
     s.hasPort p = true →
     s.isSender = true →
     1 ≤ a ∧ a ≤ 32 →
     w.good (rxSeq w ⟨0x85, 0xFE, a, 0, 0, b⟩) →
     ∃ t, exec (.fwState ⟨p, w⟩ a b) s = .next t ∧ (t.upd.tiles = Tab.set (fun _ => []) (64 * p + a) b s.upd.tiles) ∧ (s.get (F.CH_DIST_STATUS_STATE p) = 1 ∧ b.getD 0 0 = 1 → t.get (F.CH_DIST_STATUS_AT p) = a) ∧ (s.get (F.CH_DIST_STATUS_STATE p) ≠ 1 → t.get (F.CH_DIST_STATUS_AT p) = s.get (F.CH_DIST_STATUS_AT p) ∧ t.get (F.CH_DIST_STATUS_STATE p) = s.get (F.CH_DIST_STATUS_STATE p)) ∧ (b.getD 0 0 = 5 ∧ (Tab.get (fun _ => none) s.upd.dist p).any (fun h => h.range.contains a) = true → (t.get (F.CH_DIST_FAIL_TILES p)).testBit (a - 1) = true) ∧ (∀ h ∈ s.distId p, t.get (F.CH_DIST_NRDY_TILES p) = maskOfBits (((bitsOf 33 (s.port p).heard).filter fun x => !t.tileStaged h.1 h.2.1 h.2.2 p x).map (· - 1)) % 2 ^ 32) ∧ Sent [] t ∧ Frame ([F.CH_DIST_STATUS_AT p, F.CH_DIST_STATUS_STATE p, F.CH_DIST_STATUS_VALID p, F.CH_DIST_STATUS_SEQ p, F.CH_DIST_STATUS_STAGED_N p, F.CH_DIST_NRDY_TILES p, F.CH_DIST_FAIL_TILES p]) s (s.setUpd fun u => { u with tiles := t.upd.tiles }) t) ∧
  (∀ (s : State) (p a : Nat) (b : List Nat) (w : PktEnd),
     let q : Nat := if s.on (F.CH_TRAIN_STATE_END 1) then 0 else 1 - p
     s.acts →
     s.hasPort p = true →
     s.tileLike = true →
     w.good (rxSeq w ⟨0x85, 0xFE, a, 0, 0, b⟩) →
     ∃ t, exec (.fwState ⟨p, w⟩ a b) s = .next t ∧ (Sent (if s.linked q then [.whey q (rxSeq w ⟨0x85, 0xFE, a, 0, 0, b⟩)] else []) t) ∧ Frame ([]) s (s) t) ∧
  (∀ (s : State) (p first last total id mseq : Nat) (val : Word),
     let kind : Nat := (F.CH_DIST_CTRL_KIND p).of val
     let dirB : Bool := (F.CH_DIST_CTRL_ORIGIN p).of val == 1
     s.acts →
     s.hasPort p = true →
     s.isSender = true →
     s.wordOk (atCHS p 0xE8) val = true →
     s.get (F.CH_DIST_STATUS_STATE p) ≠ 1 →
     (first = (F.CH_DIST_CTRL_FIRST p).of val ∧ last = (if (F.CH_DIST_CTRL_LAST p).of val ≠ 0 then (F.CH_DIST_CTRL_LAST p).of val else if dirB then 1 else (s.chainTiles p).length)) →
     (some (total, id, mseq) = (if kind = 1 then s.nv.pkg.map fun k => (k.bytes.length, k.fw.version, 0) else if kind = 2 then s.nv.staging.map fun m => (m.raw.length, m.hdr.wallId, m.hdr.mouldSeq) else none)) →
     (first ≠ 0xFF ∧ Tab.get (fun _ => none) (s.port p).unacked first = none) →
     (((List.range 33).any fun a => a != 0 && (if dirB then decide (last ≤ a ∧ a ≤ first) else decide (first ≤ a ∧ a ≤ last)) && !s.tileStaged kind id mseq p a) = true) →
     ∃ t, exec (.distStart p val) s = .next t ∧ t.get (F.CH_DIST_STATUS_STATE p) = 1 ∧ t.get (F.CH_DIST_STATUS_VALID p) = 0 ∧ t.get (F.CH_DIST_STATUS_AT p) = first ∧ t.hop p = some { dst := first, kind := kind, total := total, id := id, mseq := mseq, last := last, dirB := dirB } ∧ (Sent [.ctrl p ⟨0x30, first, endCode s.senderEnd, s.nextSeq p first, 1, [kind, 0, 0, 0] ++ leBytes 4 total ++ leBytes 4 id ++ leBytes 2 mseq ++ [last, if dirB then 1 else 0]⟩] t) ∧ Frame ([whole (atCHS p 0xE8), F.CH_DIST_STATUS_AT p, F.CH_DIST_STATUS_STATE p, F.CH_DIST_STATUS_VALID p, F.CH_DIST_STATUS_STAGED_N p, F.CH_DIST_NRDY_TILES p]) s ({ s with upd := { s.upd with dist := t.upd.dist, hops := t.upd.hops }, ports := t.ports }) t) ∧
  (∀ (s : State) (p : Nat) (val : Word),
     let kind : Nat := (F.CH_DIST_CTRL_KIND p).of val
     s.acts →
     s.hasPort p = true →
     s.isSender = true →
     s.wordOk (atCHS p 0xE8) val = true →
     s.get (F.CH_DIST_STATUS_STATE p) ≠ 1 →
     ((kind ≠ 1 ∨ s.nv.pkg = none) ∧ (kind ≠ 2 ∨ s.nv.staging = none)) →
     ∃ t, exec (.distStart p val) s = .next t ∧ t.get (F.CH_DIST_STATUS_STATE p) = 3 ∧ t.get (F.CH_DIST_STATUS_VALID p) = 1 ∧ t.get (F.CH_DIST_STATUS_SEQ p) = s.wrap (F.CH_DIST_STATUS_SEQ p) ∧ Sent [] t ∧ Frame ([whole (atCHS p 0xE8), F.CH_DIST_STATUS_STATE p, F.CH_DIST_STATUS_VALID p, F.CH_DIST_STATUS_SEQ p]) s (s) t) ∧
  (∀ (s : State) (p : Nat) (val : Word),
     let a : Nat := s.get (F.CH_DIST_STATUS_AT p)
     s.acts →
     s.hasPort p = true →
     s.isSender = true →
     s.wordOk (atCHS p 0xE8) val = true →
     s.get (F.CH_DIST_STATUS_STATE p) = 1 →
     (a ≠ 0xFF ∧ Tab.get (fun _ => none) (s.port p).unacked a = none) →
     ∃ t, exec (.distAbort p val) s = .next t ∧ t.get (F.CH_DIST_STATUS_STATE p) = 3 ∧ t.get (F.CH_DIST_STATUS_VALID p) = 1 ∧ t.get (F.CH_DIST_STATUS_SEQ p) = s.wrap (F.CH_DIST_STATUS_SEQ p) ∧ t.hop p = none ∧ Sent [.ctrl p ⟨0x35, a, endCode s.senderEnd, s.nextSeq p a, 1, []⟩] t ∧ Frame ([whole (atCHS p 0xE8), F.CH_DIST_STATUS_STATE p, F.CH_DIST_STATUS_VALID p, F.CH_DIST_STATUS_SEQ p]) s ({ s with upd := { s.upd with hops := t.upd.hops }, ports := t.ports }) t)

/-- Settings and security. A command written while one runs leaves it undisturbed; RELOCK reports DONE and REVOKE counts the unrevoked slots 1 to 3 (log entry 51). -/
def Obligations.SettingsAndSecurity : Prop :=
  (∀ (s : State),
     let a : Nat := s.get F.RD_SET_ADDR_OFFSET
     let l : List (Nat × Word) := s.nv.records
     let st : Nat := if 0x500 ≤ a ∧ a < 0x600 then 3 else if l.any (·.1 == a) = false ∧ 512 ≤ l.length then 4 else 1
     s.acts →
     s.upd.setCmd = none →
     ∃ t, exec (.setStore) s = .next t ∧ t.get F.RD_SET_RESULT_STATE = st ∧ t.get F.RD_SET_RESULT_COUNT = l.length % 2 ^ F.RD_SET_RESULT_COUNT.width ∧ (t.get F.RD_SET_RESULT_VALID = (if st = 1 then 0 else 1) ∧ t.get F.RD_SET_RESULT_SEQ = (if st = 1 then s.get F.RD_SET_RESULT_SEQ else s.wrap F.RD_SET_RESULT_SEQ)) ∧ Sent [] t ∧ Frame ([F.RD_SET_RESULT_STATE, F.RD_SET_RESULT_COUNT, F.RD_SET_RESULT_VALID, F.RD_SET_RESULT_SEQ]) s (s.setUpd fun u => { u with setCmd := if st = 1 then some (1, a, s.rd F.RD_SET_DATA_VALUE.addr) else none }) t) ∧
  (∀ (s : State),
     let a : Nat := s.get F.RD_SET_ADDR_OFFSET
     let l : List (Nat × Word) := s.nv.records
     let st : Nat := if 0x500 ≤ a ∧ a < 0x600 then 3 else 1
     s.acts →
     s.upd.setCmd = none →
     ∃ t, exec (.setDelete) s = .next t ∧ t.get F.RD_SET_RESULT_STATE = st ∧ t.get F.RD_SET_RESULT_COUNT = l.length % 2 ^ F.RD_SET_RESULT_COUNT.width ∧ (t.get F.RD_SET_RESULT_VALID = (if st = 1 then 0 else 1) ∧ t.get F.RD_SET_RESULT_SEQ = (if st = 1 then s.get F.RD_SET_RESULT_SEQ else s.wrap F.RD_SET_RESULT_SEQ)) ∧ Sent [] t ∧ Frame ([F.RD_SET_RESULT_STATE, F.RD_SET_RESULT_COUNT, F.RD_SET_RESULT_VALID, F.RD_SET_RESULT_SEQ]) s (s.setUpd fun u => { u with setCmd := if st = 1 then some (2, a, s.rd F.RD_SET_DATA_VALUE.addr) else none }) t) ∧
  (∀ (s : State),
     s.acts →
     s.upd.setCmd = none →
     ∃ t, exec (.setClear) s = .next t ∧ t.get F.RD_SET_RESULT_STATE = 1 ∧ t.get F.RD_SET_RESULT_COUNT = s.nv.records.length % 2 ^ F.RD_SET_RESULT_COUNT.width ∧ t.get F.RD_SET_RESULT_VALID = 0 ∧ Sent [] t ∧ Frame ([F.RD_SET_RESULT_STATE, F.RD_SET_RESULT_COUNT, F.RD_SET_RESULT_VALID]) s (s.setUpd fun u => { u with setCmd := some (3, s.get F.RD_SET_ADDR_OFFSET, s.rd F.RD_SET_DATA_VALUE.addr) }) t) ∧
  (∀ (s : State) (op a : Nat) (v : Word) (drop : Bool),
     s.acts →
     s.upd.setCmd = some (op, a, v) →
     s.inTrial = false →
     ∃ t, exec (.setCmdDone drop) s = .next t ∧ (t.nv.records = (if op = 3 then [] else if op = 2 then s.nv.records.filter (·.1 ≠ a) else if s.nv.records.any (·.1 == a) then s.nv.records.map (fun e => if e.1 = a then (a, v) else e) else s.nv.records ++ [(a, v)])) ∧ t.nv.sets.drop 1 = s.nv.sets.take 1 ∧ t.get F.RD_SET_RESULT_STATE = 2 ∧ t.get F.RD_SET_RESULT_COUNT = t.nv.records.length % 2 ^ F.RD_SET_RESULT_COUNT.width ∧ t.get F.RD_SET_RESULT_VALID = 1 ∧ t.get F.RD_SET_RESULT_SEQ = s.wrap F.RD_SET_RESULT_SEQ ∧ Sent [] t ∧ Frame ([F.RD_SET_RESULT_STATE, F.RD_SET_RESULT_COUNT, F.RD_SET_RESULT_VALID, F.RD_SET_RESULT_SEQ]) s ({ s with upd := { s.upd with setCmd := none }, nv := { s.nv with sets := t.nv.sets } }) t) ∧
  (∀ (s : State) (a fmt : Nat) (v : Word) (l : List (Nat × Word)),
     s.acts →
     s.upd.setCmd = some (1, a, v) →
     s.inTrial = true →
     s.nv.sets = [(fmt, l)] ∧ some fmt ≠ s.upd.run.map (·.setFmt) ∧ s.upd.run.isSome = true →
     ∃ t, exec (.setCmdDone true) s = .next t ∧ t.nv.sets = [(fmt, l.filter (·.1 ≠ a))] ∧ t.on F.RD_FW_STATUS_SET_DROPPED = true ∧ t.get F.RD_SET_RESULT_STATE = 2 ∧ t.get F.RD_SET_RESULT_VALID = 1 ∧ Sent [] t ∧ Frame ([F.RD_FW_STATUS_SET_DROPPED, F.RD_SET_RESULT_STATE, F.RD_SET_RESULT_COUNT, F.RD_SET_RESULT_VALID, F.RD_SET_RESULT_SEQ]) s ({ s with upd := { s.upd with setCmd := none }, nv := { s.nv with sets := t.nv.sets } }) t) ∧
  (∀ (s : State) (slot : Nat),
     s.acts →
     s.upd.secCmd = none →
     ∃ t, exec (.enroll slot) s = .next t ∧ t.get F.RD_SEC_RESULT_STATE = 1 ∧ t.get F.RD_SEC_RESULT_VALID = 0 ∧ Sent [] t ∧ Frame ([F.RD_SEC_RESULT_STATE, F.RD_SEC_RESULT_VALID]) s (s.setUpd fun u => { u with secCmd := some (1, slot, 0, s.secBuf) }) t) ∧
  (∀ (s : State) (slot : Nat),
     s.acts →
     s.upd.secCmd = none →
     ∃ t, exec (.revoke slot) s = .next t ∧ t.get F.RD_SEC_RESULT_STATE = 1 ∧ t.get F.RD_SEC_RESULT_VALID = 0 ∧ Sent [] t ∧ Frame ([F.RD_SEC_RESULT_STATE, F.RD_SEC_RESULT_VALID]) s (s.setUpd fun u => { u with secCmd := some (2, slot, 0, s.secBuf) }) t) ∧
  (∀ (s : State),
     s.acts →
     s.upd.secCmd = none →
     ∃ t, exec (.lockDebug) s = .next t ∧ t.get F.RD_SEC_RESULT_STATE = 1 ∧ t.get F.RD_SEC_RESULT_VALID = 0 ∧ Sent [] t ∧ Frame ([F.RD_SEC_RESULT_STATE, F.RD_SEC_RESULT_VALID]) s (s.setUpd fun u => { u with secCmd := some (3, 0, 0, s.secBuf) }) t) ∧
  (∀ (s : State) (slot : Nat),
     s.acts →
     s.upd.secCmd = none →
     ∃ t, exec (.unlock slot) s = .next t ∧ t.get F.RD_SEC_RESULT_STATE = 1 ∧ t.get F.RD_SEC_RESULT_VALID = 0 ∧ Sent [] t ∧ Frame ([F.RD_SEC_RESULT_STATE, F.RD_SEC_RESULT_VALID]) s (s.setUpd fun u => { u with secCmd := some (4, slot % 4, s.tokenSigner, s.secBuf) }) t) ∧
  (∀ (s : State),
     s.acts →
     s.upd.secCmd = none →
     ∃ t, exec (.relock) s = .next t ∧ t.get F.RD_SEC_STATUS_UNLOCKED = 0 ∧ t.get F.RD_SEC_RESULT_STATE = 2 ∧ t.get F.RD_SEC_RESULT_ERR = 0 ∧ t.get F.RD_SEC_RESULT_VALID = 1 ∧ t.get F.RD_SEC_RESULT_SEQ = s.wrap F.RD_SEC_RESULT_SEQ ∧ Sent [] t ∧ Frame ([F.RD_SEC_STATUS_UNLOCKED, F.RD_SEC_RESULT_STATE, F.RD_SEC_RESULT_ERR, F.RD_SEC_RESULT_VALID, F.RD_SEC_RESULT_SEQ]) s (s) t) ∧
  (∀ (s : State) (op slot signer : Nat) (buf : List Word),
     let e : Nat := if op = 1 then (if slot = 0 ∨ 3 < slot ∨ s.nv.enrolled.testBit slot = true then 1 else 0) else if op = 2 then (if slot = 0 ∨ 3 < slot then 1 else if ([1, 2, 3].filter fun i => !s.nv.revoked.testBit i) = [slot] then 3 else 0) else if op = 3 then 0 else if 1 ≤ signer ∧ signer ≤ 3 ∧ s.nv.enrolled.testBit signer = true ∧ s.nv.revoked.testBit signer = false then 0 else 2
     s.acts →
     s.upd.secCmd = some (op, slot, signer, buf) →
     1 ≤ op ∧ op ≤ 4 →
     ∃ t, exec (.secCmdDone) s = .next t ∧ (t.get F.RD_SEC_RESULT_STATE = (if e = 0 then 2 else 3) ∧ t.get F.RD_SEC_RESULT_ERR = e) ∧ t.get F.RD_SEC_RESULT_VALID = 1 ∧ t.get F.RD_SEC_RESULT_SEQ = s.wrap F.RD_SEC_RESULT_SEQ ∧ (t.get F.RD_SEC_STATUS_UNLOCKED = (if op = 4 ∧ e = 0 then 1 else s.get F.RD_SEC_STATUS_UNLOCKED)) ∧ Sent [] t ∧ Frame ([F.RD_SEC_RESULT_STATE, F.RD_SEC_RESULT_ERR, F.RD_SEC_RESULT_VALID, F.RD_SEC_RESULT_SEQ] ++ (if op = 4 then [F.RD_SEC_STATUS_UNLOCKED] else [])) s ({ s with upd := { s.upd with secCmd := none }, nv := if e ≠ 0 then s.nv else if op = 1 then { s.nv with enrolled := setBit s.nv.enrolled slot, keys := Tab.set (fun _ => []) slot buf s.nv.keys } else if op = 2 then { s.nv with revoked := setBit s.nv.revoked slot } else if op = 3 then { s.nv with debugLocked := true } else s.nv }) t) ∧
  (∀ (s : State),
     s.rindActs →
     ∃ t, exec (.secChalRead) s = .next t ∧ (t.acc.rdata = [(s.rd 0x550).toNat] ∧ Tab.get (fun _ => none) t.acc.captured 0x554 = some (s.rd 0x554)) ∧ Sent [] t ∧ Frame ([]) s ({ s with acc := t.acc }) t)

/-- The log and the watchdog. That the merge compares PTP stamps, and that a kick clears the grace period, are the model's readings (log entry 57). -/
def Obligations.LoggerAndWatchdog : Prop :=
  (∀ (s : State) (r : LogReq) (l : List LogReq),
     let e : LogEntry := LogEntry.sealed { seq := seqNext s.log.seq, startN := s.log.startN % 2 ^ 16, rep := 0, lastFnum := r.fnum, req := r, crc := 0 }
     let room : Bool := decide (s.log.fatal.length < 32)
     s.rindActs →
     s.log.queue = r :: l →
     ((s.log.ring.getLast?.any fun x => merges x r) = false) →
     ∃ t, exec (.logEvent) s = .next t ∧ t.log.ring = ringPush s.log.ring e ∧ t.log.queue = l ∧ t.log.seq = e.seq ∧ (t.log.fatal = s.log.fatal ++ (if r.sev = 3 ∧ room = true then [e] else [])) ∧ t.get F.RD_ELOG_HEAD_SEQ = e.seq % 2 ^ 32 ∧ t.get F.RD_ELOG_STATUS_COUNT = t.log.ring.length % 2 ^ F.RD_ELOG_STATUS_COUNT.width ∧ (t.get F.RD_ELOG_LOST_FATAL_LOST = (if r.sev = 3 ∧ room = false then s.more F.RD_ELOG_LOST_FATAL_LOST else s.get F.RD_ELOG_LOST_FATAL_LOST)) ∧ (s.get F.RD_ELOG_CTRL_IRQ_SEV ≤ r.sev → t.on F.RD_ELOG_STATUS_NEW = true ∧ (s.on F.RD_ELOG_STATUS_NEW = true ∨ t.pendingCause 14 = true)) ∧ Sent [] t ∧ Frame ([F.RD_ELOG_STATUS_FATAL_N, F.RD_ELOG_STATUS_COUNT, F.RD_ELOG_HEAD_SEQ, F.RD_WDT_STATUS_RESTART_N, F.RD_ELOG_LOST_FATAL_LOST] ++ (if s.get F.RD_ELOG_CTRL_IRQ_SEV ≤ r.sev then F.RD_ELOG_STATUS_NEW :: pendFlds else [])) s ({ s with log := { s.log with ring := t.log.ring, fatal := t.log.fatal, queue := l, seq := e.seq } }) t) ∧
  (∀ (s : State) (r : LogReq) (l : List LogReq) (e : LogEntry) (old : List LogEntry),
     s.rindActs →
     s.log.queue = r :: l →
     s.log.ring = old ++ [e] ∧ merges e r = true →
     ∃ t, exec (.logEvent) s = .next t ∧ t.log.ring = old ++ [LogEntry.sealed { e with rep := min (e.rep + 1) 0xFFFF, lastFnum := r.fnum }] ∧ (s.get F.RD_ELOG_CTRL_IRQ_SEV ≤ r.sev → t.on F.RD_ELOG_STATUS_NEW = true ∧ (s.on F.RD_ELOG_STATUS_NEW = true ∨ t.pendingCause 14 = true)) ∧ Sent [] t ∧ Frame ([F.RD_ELOG_STATUS_FATAL_N, F.RD_ELOG_STATUS_COUNT, F.RD_ELOG_HEAD_SEQ, F.RD_WDT_STATUS_RESTART_N] ++ (if s.get F.RD_ELOG_CTRL_IRQ_SEV ≤ r.sev then F.RD_ELOG_STATUS_NEW :: pendFlds else [])) s ({ s with log := { s.log with ring := t.log.ring, queue := l } }) t) ∧
  (∀ (s : State) (val : Word),
     s.rindActs →
     s.wordOk 0x604 val = true →
     ∃ t, exec (.elogSelWrite val) s = .next t ∧ t.get F.RD_ELOG_SEL_SEL = val.toNat ∧ Sent [] t ∧ Frame ([F.RD_ELOG_SEL_SEL]) s (s) t) ∧
  (∀ (s : State),
     let ws : List Nat := match s.logSelected (s.on F.RD_ELOG_CTRL_AREA) (s.get F.RD_ELOG_SEL_SEL) with | some e => e.words | none => List.replicate 12 0
     s.rindActs →
     ∃ t, exec (.elogDataRead) s = .next t ∧ t.acc.rdata = [ws.headD 0] ∧ (∀ i ∈ List.range 12, t.get (F.RD_ELOG_DATA_WORD i) = ws.getD i 0 % 2 ^ 32) ∧ Sent [] t ∧ Frame ((List.range 12).map F.RD_ELOG_DATA_WORD) s ({ s with acc := { s.acc with rdata := t.acc.rdata } }) t) ∧
  (∀ (s : State),
     s.rindActs →
     ∃ t, exec (.clrRing) s = .next t ∧ t.get F.RD_ELOG_STATUS_COUNT = 0 ∧ Sent [] t ∧ Frame ([F.RD_ELOG_STATUS_FATAL_N, F.RD_ELOG_STATUS_COUNT, F.RD_ELOG_HEAD_SEQ, F.RD_WDT_STATUS_RESTART_N]) s ({ s with log := { s.log with ring := [] } }) t) ∧
  (∀ (s : State),
     s.rindActs →
     ∃ t, exec (.clrFatal) s = .next t ∧ t.get F.RD_ELOG_STATUS_FATAL_N = 0 ∧ Sent [] t ∧ Frame ([F.RD_ELOG_STATUS_FATAL_N, F.RD_ELOG_STATUS_COUNT, F.RD_ELOG_HEAD_SEQ, F.RD_WDT_STATUS_RESTART_N]) s ({ s with log := { s.log with fatal := [] } }) t) ∧
  (∀ (s : State),
     s.rindActs →
     ∃ t, exec (.watchdogKick) s = .next t ∧ t.get F.RD_WDT_STATUS_LEFT_MS = max 100 (s.get F.RD_WDT_CTRL_TIMEOUT_MS) % 2 ^ F.RD_WDT_STATUS_LEFT_MS.width ∧ Sent [] t ∧ Frame ([F.RD_WDT_STATUS_LEFT_MS]) s ({ s with sys := { s.sys with wdtGrace := false } }) t) ∧
  (∀ (s : State),
     s.acts →
     s.on F.RD_WDT_CTRL_EN = true ∧ s.sys.wdtGrace = false →
     s.log.queue.length < 64 →
     ∃ t, exec (.watchdogWarn) s = .next t ∧ (t.on F.RD_WDT_STATUS_WARN = true ∧ (s.on F.RD_WDT_STATUS_WARN = true ∨ t.pendingCause 15 = true)) ∧ Sent [] t ∧ Frame ([F.RD_WDT_STATUS_WARN, F.RD_WDT_STATUS_LEFT_MS] ++ pendFlds) s ({ s with sys := { s.sys with wdtGrace := true }, log := (s.logEv 1 0 0x1201 0 0).log }) t) ∧
  (∀ (s : State),
     s.acts →
     s.on F.RD_WDT_CTRL_EN = true ∧ s.sys.wdtGrace = true →
     s.log.queue.length < 64 →
     ∃ t, exec (.watchdogRestart) s = .next t ∧ t.on F.RD_WDT_STATUS_FIRED = true ∧ t.get F.RD_WDT_STATUS_RESTART_N = min (s.log.wdtRestarts + 1) 255 ∧ (∀ a ∈ irqWords, t.rd a = s.rd a) ∧ Sent [] t ∧ Frame ([F.RD_WDT_STATUS_FIRED, F.RD_ELOG_STATUS_FATAL_N, F.RD_ELOG_STATUS_COUNT, F.RD_ELOG_HEAD_SEQ, F.RD_WDT_STATUS_RESTART_N] ++ irqWords.map whole) State.reset ({ State.reset with nv := s.nv, cave := s.cave, log := { (s.logEv 3 0 0x1202 0 0).log with wdtRestarts := s.log.wdtRestarts + 1 }, jtag := s.jtag, dram := s.dram, pending := s.pending, freeN := s.freeN, pcie := s.pcie, mould := { carry := s.mould.carry }, sys := { recovery := s.sys.recovery, perstLow := s.sys.perstLow, safeDark := s.sys.safeDark, warm := true } }) t)

/-- Interrupts and JTAG. A message that is due while MSI-X is disabled stays due, and the bypass bit captures 0 (log entry 58). -/
def Obligations.InterruptsAndJtag : Prop :=
  (∀ (s : State) (c : Nat),
     s.rindActs →
     c < 37 →
     ∃ t, exec (.irqCause c) s = .next t ∧ t.pendingCause c = true ∧ (∀ d ∈ List.range 64, d ≠ c → t.pendingCause d = s.pendingCause d) ∧ Sent [] t ∧ Frame (pendFlds) s (s) t) ∧
  (∀ (s : State) (v : Nat),
     let e : Nat × Nat := Tab.get (fun _ => (0, 0)) s.pcie.table v
     s.rindActs →
     v < 32 →
     s.pcie.active = s.irqVectors →
     s.pcie.msixEnable = true ∧ s.pcie.due.testBit v = true →
     ∃ t, exec (.msixSend v) s = .next t ∧ t.pcie.due = clearBit s.pcie.due v ∧ (Sent (if s.msgHeld v then [] else [.msix v e.1 e.2]) t) ∧ Frame ([]) s ({ s with pcie := { s.pcie with pba := if s.msgHeld v then setBit s.pcie.pba v else clearBit s.pcie.pba v, waitAck := if s.msgHeld v then s.pcie.waitAck else setBit s.pcie.waitAck v } }) t) ∧
  (∀ (s : State) (val : Word),
     let v : Nat := val.toNat
     let e : Nat × Nat := Tab.get (fun _ => (0, 0)) s.pcie.table v
     s.rindActs →
     s.wordOk 0x710 val = true →
     s.pcie.waitAck.testBit v = true →
     s.pcie.active = s.irqVectors →
     ∃ t, exec (.irqAck val) s = .next t ∧ (s.irqVectors.testBit v = true ∧ s.pcie.msixEnable = true ∧ s.msgHeld v = false → t.pcie.waitAck = setBit (clearBit s.pcie.waitAck v) v) ∧ (s.irqVectors.testBit v = false → t.pcie.waitAck = clearBit s.pcie.waitAck v) ∧ (s.irqVectors.testBit v = true ∧ s.pcie.msixEnable = true ∧ s.msgHeld v = true → t.pcie.pba.testBit v = true) ∧ (s.irqVectors.testBit v = true ∧ s.pcie.msixEnable = false → t.pcie.due.testBit v = true) ∧ (Sent (if s.irqVectors.testBit v && s.pcie.msixEnable && !s.msgHeld v then [.msix v e.1 e.2] else []) t) ∧ Frame ([]) s ({ s with pcie := { s.pcie with pba := t.pcie.pba, waitAck := t.pcie.waitAck } }) t) ∧
  (∀ (s : State) (a : Nat) (val : Word),
     s.rindActs →
     s.wordOk a val = true →
     irqConfig a = true →
     ∃ t, exec (.irqConfigWrite a val) s = .next t ∧ t.rd a = val ∧ Sent [] t ∧ Frame ([whole a]) s (s) t) ∧
  (∀ (s : State) (bm en fmask : Bool) (vecMask : Nat) (entries : List (Nat × Nat × Nat)),
     let table : Tab (Nat × Nat) := entries.foldl (fun t e => Tab.set (fun _ => (0, 0)) e.1 e.2 t) s.pcie.table
     let go : List Nat := if en && bm && !fmask then (bitsOf 32 s.pcie.pba).filter fun v => !vecMask.testBit v else []
     s.rindActs →
     s.pcie.ready = true →
     ∃ t, exec (.msixUnmask bm en fmask vecMask entries) s = .next t ∧ t.pcie.busMaster = bm ∧ t.pcie.msixEnable = en ∧ t.pcie.funcMask = fmask ∧ t.pcie.vecMask = vecMask % 2 ^ 32 ∧ t.pcie.table = table ∧ (∀ v ∈ List.range 32, t.pcie.pba.testBit v = (s.pcie.pba.testBit v && !go.contains v) ∧ t.pcie.waitAck.testBit v = (s.pcie.waitAck.testBit v || go.contains v)) ∧ (Sent (go.map fun v => .msix v (Tab.get (fun _ => (0, 0)) table v).1 (Tab.get (fun _ => (0, 0)) table v).2) t) ∧ Frame ([]) s ({ s with pcie := { t.pcie with ready := s.pcie.ready } }) t) ∧
  (∀ (s : State),
     s.rindActs →
     ∃ t, exec (.uidRead) s = .next t ∧ (t.acc.rdata = [partUid % 2 ^ 32] ∧ Tab.get (fun _ => none) t.acc.captured 0xC = some (BitVec.ofNat 32 (partUid / 2 ^ 32))) ∧ Sent [] t ∧ Frame ([]) s ({ s with acc := t.acc }) t) ∧
  (∀ (s : State) (cells : List Bool) (seen : Nat),
     s.rindActs →
     ∃ t, exec (.extest cells seen) s = .next t ∧ Sent [.tdo seen] t ∧ Frame ([]) s ({ s with jtag := { s.jtag with ir := 0, cells := cells, driving := true } }) t) ∧
  (∀ (s : State) (cells : List Bool) (seen : Nat),
     s.rindActs →
     ∃ t, exec (.samplePreload cells seen) s = .next t ∧ Sent [.tdo seen] t ∧ Frame ([]) s ({ s with jtag := { s.jtag with ir := 2, cells := cells, driving := false } }) t) ∧
  (∀ (s : State),
     s.rindActs →
     ∃ t, exec (.idcode) s = .next t ∧ Sent [.tdo (Config.step.toNat % 16 * 2 ^ 28 + 0x4738 * 2 ^ 12 + 0x2D3 * 2 + 1)] t ∧ Frame ([]) s ({ s with jtag := { s.jtag with ir := 1, driving := false } }) t) ∧
  (∀ (s : State) (sel : Nat),
     s.rindActs →
     ∃ t, exec (.elogSel sel) s = .next t ∧ Sent [] t ∧ Frame ([]) s ({ s with jtag := { s.jtag with ir := 0x10, elogSel := sel % 2 ^ 33, driving := false } }) t) ∧
  (∀ (s : State),
     s.rindActs →
     ∃ t, exec (.elogData) s = .next t ∧ (Sent [.tdo (match s.logSelected (s.jtag.elogSel.testBit 32) (s.jtag.elogSel % 2 ^ 32) with | some e => ofWords e.words + 2 ^ 384 | none => 0)] t) ∧ Frame ([]) s ({ s with jtag := { s.jtag with ir := 0x11, driving := false } }) t) ∧
  (∀ (s : State) (code : Nat),
     s.rindActs →
     bypassCode code = true →
     ∃ t, exec (.bypass code) s = .next t ∧ Sent [.tdo 0] t ∧ Frame ([]) s ({ s with jtag := { s.jtag with ir := code % 256, driving := false } }) t) ∧
  (∀ (s : State) (a : Nat) (v : Option Word),
     s.rindActs →
     s.debugOpen = false →
     ∃ t, exec (.dbgAccess a v) s = .next t ∧ Sent [] t ∧ Frame ([]) s ({ s with jtag := { s.jtag with ir := 0x20, driving := false } }) t) ∧
  (∀ (s : State) (v : Word),
     s.rindActs →
     s.debugOpen = true →
     ∃ t, exec (.dbgAccess 0x708 (some v)) s = .next t ∧ t.get F.RD_IRQ_EN0_EN = v.toNat ∧ Sent [] t ∧ Frame ([F.RD_IRQ_EN0_EN]) s ({ s with jtag := { s.jtag with ir := 0x20, driving := false } }) t) ∧
  (∀ (s : State),
     s.rindActs →
     s.debugOpen = true →
     (Tab.get (fun _ => none) s.acc.captured 0x708 = none) →
     ∃ t, exec (.dbgAccess 0x708 none) s = .next t ∧ Sent [.tdo (s.get F.RD_IRQ_EN0_EN)] t ∧ Frame ([]) s ({ s with jtag := { s.jtag with ir := 0x20, driving := false } }) t)

/-- A write of another alignment or outside BAR0, and one with a 1 in a reserved bit, is unpredictable. A write to a window that does not answer is counted and logged once the start load has finished, a read of one returns all ones; a write to no register is discarded; one into packet RAM writes its word; a register with no effect of its own takes its RW bits, clears its W1C bits and holds its RWS bits; every other write that is well formed completes. Pixel-word pairs take effect as one value. -/
def Obligations.HostAccess : Prop :=
  (∀ (s : State) (a : Nat) (v : Word),
     s.rindActs →
     (a % 4 ≠ 0 ∨ 0x8000000 ≤ a) →
     exec (.registerWrite a v) s = .fault (.unpredictable 5)) ∧
  (∀ (s : State) (a : Nat) (v : Word),
     s.rindActs →
     a % 4 = 0 ∧ a < 0x8000000 ∧ s.answersAt a = true →
     (a < 0x80000 ∨ 0x140000 ≤ a) →
     ((regAt (s.regKey a)).any (fun r => v &&& ~~~ r.named != 0) = true) →
     exec (.registerWrite a v) s = .fault (.unpredictable 9)) ∧
  (∀ (s : State) (a : Nat) (v : Word),
     s.rindActs →
     a % 4 = 0 ∧ a < 0x8000000 ∧ s.answersAt a = false →
     s.log.queue.length < 64 →
     ∃ t, exec (.registerWrite a v) s = .next t ∧ (t.get F.RD_GATED_ACCESS_COUNT_N = (if s.on F.RD_MOULD_STATUS_VALID then s.more F.RD_GATED_ACCESS_COUNT_N else s.get F.RD_GATED_ACCESS_COUNT_N)) ∧ Sent [] t ∧ Frame (if s.on F.RD_MOULD_STATUS_VALID then [F.RD_GATED_ACCESS_COUNT_N] else []) s (if s.on F.RD_MOULD_STATUS_VALID then { s with log := (s.logEv 0 (dieOf a) 0x0102 a 1).log } else s) t) ∧
  (∀ (s : State) (a : Nat) (v : Word),
     s.rindActs →
     a % 4 = 0 ∧ a < 0x8000000 ∧ s.answersAt a = true →
     (a < 0x80000 ∨ 0x140000 ≤ a) →
     regAt (s.regKey a) = none →
     ∃ t, exec (.registerWrite a v) s = .next t ∧ Sent [] t ∧ Frame ([]) s (s) t) ∧
  (∀ (s : State) (a : Nat) (v : Word),
     s.rindActs →
     a % 4 = 0 ∧ 0x100000 ≤ a ∧ a < 0x140000 →
     s.isK24 = false →
     ∃ t, exec (.registerWrite a v) s = .next t ∧ Sent [] t ∧ Frame ([]) s (s) t) ∧
  (∀ (s : State) (a : Nat) (v : Word),
     s.rindActs →
     a % 4 = 0 ∧ 0x80000 ≤ a ∧ a < 0x100000 →
     ∃ t, exec (.registerWrite a v) s = .next t ∧ Sent [] t ∧ Frame ([]) s (s.setPword ((a - 0x80000) / 0x40000) ((a - 0x80000) % 0x40000) v) t) ∧
  (∀ (s : State) (a : Nat) (v : Word) (r : RegDef),
     s.rindActs →
     a % 4 = 0 ∧ s.answersAt a = true →
     (dieOf a = 7 ∧ (a < 0x7020000 ∨ a % 0x100 ≠ 8)) →
     regAt (s.regKey a) = some r ∧ v &&& ~~~ r.named = 0 →
     ∃ t, exec (.registerWrite a v) s = .next t ∧ t.rd a = ((s.rd a &&& ~~~ r.rwBits) ||| (v &&& r.rwBits)) &&& ~~~ (v &&& r.w1cBits) ∧ t.pendWord a &&& r.rwsBits = v &&& r.rwsBits ∧ Sent [] t ∧ Frame ([whole a]) s ({ s with pend := t.pend }) t) ∧
  (∀ (s : State) (a : Nat) (v : Word),
     s.rindActs →
     a % 4 = 0 ∧ a < 0x8000000 ∧ s.answersAt a = true →
     (a < 0x80000 ∨ 0x140000 ≤ a) →
     ((regAt (s.regKey a)).any (fun r => v &&& ~~~ r.named == 0) = true) →
     ∃ t, exec (.registerWrite a v) s = .next t) ∧
  (∀ (s : State) (a : Nat),
     s.rindActs →
     a < 0x8000000 ∧ s.answersAt a = false →
     s.log.queue.length < 64 →
     ∃ t, exec (.gatedWindowAccess a false) s = .next t ∧ t.acc.rdata = [0xFFFFFFFF] ∧ (t.get F.RD_GATED_ACCESS_COUNT_N = (if s.on F.RD_MOULD_STATUS_VALID then s.more F.RD_GATED_ACCESS_COUNT_N else s.get F.RD_GATED_ACCESS_COUNT_N)) ∧ Sent [] t ∧ Frame (if s.on F.RD_MOULD_STATUS_VALID then [F.RD_GATED_ACCESS_COUNT_N] else []) s (if s.on F.RD_MOULD_STATUS_VALID then { s with log := (s.logEv 0 (dieOf a) 0x0102 a 0).log } else s) t) ∧
  (∀ (s : State) (a : Nat),
     s.rindActs →
     a < 0x8000000 ∧ s.answersAt a = false →
     s.log.queue.length < 64 →
     ∃ t, exec (.gatedWindowAccess a true) s = .next t ∧ (t.get F.RD_GATED_ACCESS_COUNT_N = (if s.on F.RD_MOULD_STATUS_VALID then s.more F.RD_GATED_ACCESS_COUNT_N else s.get F.RD_GATED_ACCESS_COUNT_N)) ∧ Sent [] t ∧ Frame (if s.on F.RD_MOULD_STATUS_VALID then [F.RD_GATED_ACCESS_COUNT_N] else []) s (if s.on F.RD_MOULD_STATUS_VALID then { s with log := (s.logEv 0 (dieOf a) 0x0102 a 1).log } else s) t) ∧
  (∀ (s : State) (a : Nat) (v : Word),
     s.acts →
     (pairAt a).isSome = true →
     s.wordOk a v = true →
     ∃ t, exec (.pixelPairLowWrite a v) s = .next t ∧ (Tab.get (fun _ => none) t.acc.lowHeld a = some v) ∧ Sent [] t ∧ Frame ([]) s ({ s with acc := { s.acc with lowHeld := t.acc.lowHeld } }) t) ∧
  (∀ (s : State) (a : Nat) (v : Word),
     let lo : Word := (Tab.get (fun _ => none) s.acc.lowHeld (a - 4)).getD (s.pendWord (a - 4))
     s.acts →
     (pairAt (a - 4)).isSome = true ∧ 4 ≤ a →
     s.wordOk a v = true →
     ∃ t, exec (.pixelPairHighWrite a v) s = .next t ∧ (t.pendWord (a - 4) = lo ∧ t.pendWord a = v ∧ Tab.get (fun _ => none) t.acc.lowHeld (a - 4) = none) ∧ Sent [] t ∧ Frame ([]) s ({ s with acc := { s.acc with lowHeld := t.acc.lowHeld }, pend := t.pend }) t) ∧
  (∀ (s : State) (a : Nat),
     let act : Bool := a % 0x80 == 0x44
     let b : Nat := if act then a - 0x38 else a
     s.acts →
     (pairAt b).isSome = true ∧ 0x38 ≤ a →
     s.answersAt a = true →
     ∃ t, exec (.pixelPairLowRead a) s = .next t ∧ (t.acc.rdata = [(if act then s.rd b else s.pendWord b).toNat]) ∧ (Tab.get (fun _ => none) t.acc.captured (a + 4) = some (if act then s.rd (b + 4) else s.pendWord (b + 4))) ∧ Sent [] t ∧ Frame ([]) s ({ s with acc := t.acc }) t)

/-- Links and resets. That DRAM contents survive a restart and that JTAG is untouched by RESET_N are the model's choices (log entry 69). -/
def Obligations.DieLinksAndReset : Prop :=
  (∀ (s : State) (a b : Nat),
     let k : Nat := 8 * min a b + max a b
     s.acts →
     linkExists (min a b) (max a b) = true ∧ s.links.failed.contains k = false →
     ∃ t, exec (.dieLinkReplay a b) s = .next t ∧ Sent [] t ∧ Frame ([]) s ({ s with links := { s.links with replays := Tab.set (fun _ => 0) k (Tab.get (fun _ => 0) s.links.replays k + 1) s.links.replays } }) t) ∧
  (∀ (s : State) (a b : Nat),
     let lo : Nat := min a b
     let hi : Nat := max a b
     s.acts →
     linkExists lo hi = true ∧ s.links.failed.contains (8 * lo + hi) = false →
     s.isSender = true →
     s.log.queue.length < 64 →
     ∃ t, exec (.dieLinkFail a b) s = .next t ∧ (t.get F.RD_DIE_STATE_LINK_FAIL).testBit lo = true ∧ (t.get F.RD_DIE_STATE_LINK_FAIL).testBit hi = true ∧ t.links.failed = (8 * lo + hi) :: s.links.failed ∧ (∀ p ∈ List.range 16, t.links.hbStopped.testBit p = t.links.failed.any fun k => s.crosses (k / 8) (k % 8) p) ∧ Sent [] t ∧ Frame ([F.RD_DIE_STATE_LINK_FAIL]) s ({ s with links := { s.links with failed := t.links.failed, hbStopped := t.links.hbStopped }, log := (s.logEv 2 lo 0x0101 (2 ^ lo + 2 ^ hi) 0).log }) t) ∧
  (∀ (s : State),
     ∃ t, exec (.resetAssert) s = .next t ∧ Sent [] t ∧ Frame ([F.RD_ELOG_STATUS_FATAL_N, F.RD_ELOG_STATUS_COUNT, F.RD_ELOG_HEAD_SEQ, F.RD_WDT_STATUS_RESTART_N]) State.reset ({ State.reset with nv := s.nv, cave := s.cave, log := s.log, jtag := s.jtag, dram := s.dram, pending := s.pending, freeN := s.freeN, sys := { resetLow := true, railsBad := s.sys.railsBad, recovery := s.sys.recovery, perstLow := s.sys.perstLow, safeDark := s.sys.safeDark, card := s.sys.card } }) t) ∧
  (∀ (s : State) (dark : Bool),
     ∃ t, exec (.railFault dark) s = .next t ∧ Sent [] t ∧ Frame ([F.RD_ELOG_STATUS_FATAL_N, F.RD_ELOG_STATUS_COUNT, F.RD_ELOG_HEAD_SEQ, F.RD_WDT_STATUS_RESTART_N]) State.reset ({ State.reset with nv := s.nv, cave := s.cave, log := if dark then {} else s.log, jtag := s.jtag, dram := s.dram, pending := s.pending, freeN := s.freeN, sys := { resetLow := s.sys.resetLow, railsBad := true, recovery := s.sys.recovery, perstLow := s.sys.perstLow, safeDark := s.sys.safeDark, card := s.sys.card } }) t) ∧
  (∀ (s : State),
     ∃ t, exec (.railsGood) s = .next t ∧ Sent [] t ∧ Frame ([]) s ({ s with sys := { s.sys with railsBad := false } }) t) ∧
  (∀ (s : State),
     ∃ t, exec (.perstRelease) s = .next t ∧ Sent [] t ∧ Frame ([]) s ({ s with sys := { s.sys with perstLow := false }, pcie := { s.pcie with ready := !s.sys.resetLow && !s.sys.railsBad } }) t) ∧
  (∀ (s : State),
     ∃ t, exec (.perstAssert) s = .next t ∧ Sent [] t ∧ Frame ([]) s ({ s with sys := { s.sys with perstLow := true }, pcie := { s.pcie with ready := false, busMaster := false, msixEnable := false, funcMask := false, vecMask := 0xFFFFFFFF, table := [], pba := 0, waitAck := 0, due := s.pcie.active } }) t) ∧
  (∀ (s : State),
     s.rindActs →
     s.pcie.ready = true →
     ∃ t, exec (.flr) s = .next t ∧ Sent [] t ∧ Frame ([]) s ({ s with pcie := { s.pcie with busMaster := false, msixEnable := false, funcMask := false, vecMask := 0xFFFFFFFF, table := [], pba := 0, waitAck := 0, due := s.pcie.active } }) t) ∧
  (∀ (s : State) (recoveryN ramOk : Bool) (selfFail : Nat) (badLog : List Nat) (card : Card),
     (s.sys.railsBad = true ∨ s.sys.starting = false) →
     ∃ t, exec (.resetRelease recoveryN ramOk selfFail badLog card) s = .next t ∧ Sent [] t ∧ Frame ([]) s ({ s with sys := { s.sys with resetLow := false } }) t) ∧
  (∀ (s : State) (recoveryN : Bool) (selfFail : Nat) (badLog : List Nat) (card : Card),
     s.sys.railsBad = false ∧ s.sys.starting = true →
     ∃ t, exec (.resetRelease recoveryN false selfFail badLog card) s = .next t ∧ t.get F.RD_BOOT_STATUS_STAGE = 0xF ∧ t.get F.RD_BOOT_STATUS_ERR = 1 ∧ t.sys.starting = false ∧ t.sys.resetLow = false ∧ t.log.startN = (s.log.startN + 1) % 2 ^ 16 ∧ t.pcie.ready = !s.sys.perstLow ∧ Sent [] t) ∧
  (∀ (s : State) (badLog : List Nat) (card : Card) (f : FwImage),
     let b : Nat := s.nv.boot
     s.sys.railsBad = false ∧ s.sys.starting = true ∧ s.sys.warm = false →
     s.nv.fell = none ∧ b < 2 →
     ((s.nv.slot b).state = slConfirmed ∨ (s.nv.slot b).state = slOld) →
     (s.nv.slot b).fw = some f ∧ s.nv.fwCheck (rolesFor (s.nv.slot b).mould) f = 0 →
     ∃ t, exec (.resetRelease true true 0 badLog card) s = .next t ∧ t.get F.RD_BOOT_STATUS_STAGE = 5 ∧ t.get F.RD_BOOT_STATUS_SOURCE = b + 1 ∧ t.get F.RD_DIE_STATE_DIE_ON = 0xFF ∧ t.upd.slot = some b ∧ t.upd.run = some f ∧ t.get F.RD_FW_STATUS_RUN_SLOT = b ∧ t.sys = { s.sys with resetLow := false, starting := false, recovery := false, selfTest := 0xFF } ∧ t.log.startN = (s.log.startN + 1) % 2 ^ 16 ∧ t.pcie.ready = !s.sys.perstLow ∧ t.nv = { s.nv with sets := settingsFor f.setFmt s.nv.sets } ∧ t.cave = s.cave ∧ Sent [] t ∧ (∀ g ∈ List.range 24, ∀ n ∈ groupLanes g, t.get (F.HP_LANE_STATE_RXS n) = 1 ∧ t.get (F.HP_LANE_STATE_TXS n) = (if g < 16 then 1 else 0)) ∧ (∀ g ∈ List.range 24, t.get (F.HP_GROUP_STATE_PLL_LOCK g) = 1) ∧ Frame ((List.range 112).flatMap (fun n => [F.HP_LANE_STATE_RXS n, F.HP_LANE_STATE_TXS n, F.HP_LANE_STATE_CDR_LOCK n]) ++ (List.range 24).map F.HP_GROUP_STATE_PLL_LOCK ++ [F.RD_BOOT_STATUS_STAGE, F.RD_BOOT_STATUS_SOURCE, F.RD_DIE_STATE_DIE_ON, F.RD_SET_RESULT_COUNT, whole 0x550, whole 0x554, F.RD_ELOG_STATUS_FATAL_N, F.RD_ELOG_STATUS_COUNT, F.RD_ELOG_HEAD_SEQ, F.RD_WDT_STATUS_RESTART_N, F.RD_ELOG_LOST_CRC_N] ++ fwFlds) s ({ s with sys := t.sys, log := t.log, pcie := { s.pcie with ready := t.pcie.ready }, nv := t.nv, upd := { s.upd with slot := some b, run := some f }, freeN := s.freeN + 1 }) t)

/-- The mould image. What VERIFY, CANCEL and ARM do in states the manual does not spell out are the model's choices (log entry 65). -/
def Obligations.MouldLoading : Prop :=
  (∀ (s : State) (us : Nat) (sectFail : List (Nat × Nat × Nat)) (chanFail trimFail : List Nat) (card : Card) (m : MouldImage),
     s.acts →
     s.get F.RD_BOOT_STATUS_STAGE = 5 ∧ s.on F.RD_MOULD_STATUS_VALID = false →
     s.mould.carry = none ∧ (s.nv.slot s.runSlot).mould = some m →
     mouldSourceError sectFail chanFail 1 (some m) s.fresh = 0 →
     s.nv.records = [] →
     ∃ t, exec (.mouldLoad us sectFail chanFail trimFail card) s = .next t ∧ t.mould.loaded = some m ∧ t.nv = { s.nv with lastRole := m.hdr.role } ∧ t.cave = s.cave ∧ t.get F.RD_MOULD_STATUS_STATE = 1 ∧ t.get F.RD_MOULD_STATUS_SOURCE = 1 ∧ t.get F.RD_MOULD_STATUS_VALID = 1 ∧ t.get F.RD_DIE_STATE_ROLE = m.hdr.role % 2 ^ F.RD_DIE_STATE_ROLE.width ∧ t.get F.RD_DIE_STATE_DIE_RUN = (m.hdr.dieUse ||| 1) % 256 ∧ t.get F.RD_BOOT_STATUS_STAGE = 6 ∧ t.get F.RD_LOADED_TIME_LOADED_US = us % 2 ^ F.RD_LOADED_TIME_LOADED_US.width ∧ t.get F.RD_MOULD_ID_WALL_ID = m.hdr.wallId % 2 ^ 32 ∧ t.get F.RD_MOULD_INFO_MOULD_SEQ = m.hdr.mouldSeq % 2 ^ F.RD_MOULD_INFO_MOULD_SEQ.width ∧ t.sys.txIdle = false) ∧
  (∀ (s : State) (us : Nat) (sectFail : List (Nat × Nat × Nat)) (chanFail trimFail : List Nat) (card : Card),
     s.acts →
     s.get F.RD_BOOT_STATUS_STAGE = 5 ∧ s.on F.RD_MOULD_STATUS_VALID = false →
     s.mould.carry = none ∧ s.nv.slotA.mould = none ∧ s.nv.slotB.mould = none ∧ card.present = false →
     ∃ t, exec (.mouldLoad us sectFail chanFail trimFail card) s = .next t ∧ t.get F.RD_MOULD_STATUS_STATE = 2 ∧ t.get F.RD_MOULD_STATUS_VALID = 1 ∧ t.get F.RD_MOULD_STATUS_ERR = 1 ∧ t.get F.RD_DIE_STATE_DIE_ON = (1 ||| (0x22 &&& s.sys.selfTest)) ∧ (t.get F.RD_DIE_STATE_DIE_RUN = (if s.nv.lastRole ≠ 1 ∧ s.sys.selfTest.testBit 5 = true then 0x21 else 1)) ∧ t.mould = s.mould ∧ t.nv = s.nv ∧ t.cave = s.cave) ∧
  (∀ (s : State),
     s.acts →
     s.rmState ≠ 1 ∧ s.rmState ≠ 3 ∧ s.rmState ≠ 4 →
     ∃ t, exec (.remouldVerify) s = .next t ∧ s.rd 0x118 = t.mould.shown ∧ t.rmState = 1 ∧ t.get F.RD_REMOULD_RESULT_ERR = 0 ∧ t.get F.RD_REMOULD_RESULT_VALID = 0 ∧ t.get F.RD_REMOULD_RESULT_SEQ = s.wrap F.RD_REMOULD_RESULT_SEQ ∧ Sent [] t ∧ Frame ([F.RD_REMOULD_RESULT_STATE, F.RD_REMOULD_RESULT_ERR, F.RD_REMOULD_RESULT_VALID, F.RD_REMOULD_RESULT_SEQ]) s ({ s with mould := { s.mould with staged := s.nv.staging, verified := false, shown := s.rd 0x118 } }) t) ∧
  (∀ (s : State),
     let e : Nat := s.verifyError
     s.acts →
     s.rmState = 1 →
     ∃ t, exec (.remouldVerifyDone) s = .next t ∧ (t.rmState = (if e = 0 then 2 else 6) ∧ t.get F.RD_REMOULD_RESULT_ERR = e % 2 ^ F.RD_REMOULD_RESULT_ERR.width ∧ t.get F.RD_REMOULD_RESULT_VALID = 1 ∧ t.get F.RD_REMOULD_RESULT_SEQ = s.wrap F.RD_REMOULD_RESULT_SEQ) ∧ (t.get F.RD_MOULD_STATUS_ERR = (if e = 0 then s.get F.RD_MOULD_STATUS_ERR else e % 2 ^ F.RD_MOULD_STATUS_ERR.width)) ∧ Sent [] t ∧ Frame ([F.RD_MOULD_STATUS_ERR, F.RD_REMOULD_RESULT_STATE, F.RD_REMOULD_RESULT_ERR, F.RD_REMOULD_RESULT_VALID, F.RD_REMOULD_RESULT_SEQ]) s ({ s with mould := { s.mould with verified := s.mould.verified || e == 0 } }) t) ∧
  (∀ (s : State) (m : MouldImage),
     let e : Nat := if s.isSender ∧ ahead (s.get F.RD_REMOULD_FNUM_FNUM) s.raster.fnum < (s.minLead : Int) then 15 else s.armError m
     s.acts →
     s.mould.staged = some m ∧ s.mould.verified = true →
     s.addsDies m = false →
     s.rmState ≠ 1 ∧ s.rmState ≠ 3 ∧ s.rmState ≠ 4 →
     ∃ t, exec (.remouldArm) s = .next t ∧ (t.rmState = (if e = 0 then 3 else 6) ∧ t.get F.RD_REMOULD_RESULT_ERR = e % 2 ^ F.RD_REMOULD_RESULT_ERR.width ∧ t.get F.RD_REMOULD_RESULT_VALID = 1 ∧ t.get F.RD_REMOULD_RESULT_SEQ = s.wrap F.RD_REMOULD_RESULT_SEQ) ∧ (e ≠ 15 → ∀ p ∈ List.range 16, t.get (F.RD_REMOULD_NRDY_TILES p) = s.notReady m p % 2 ^ 32) ∧ (t.get F.RD_MOULD_STATUS_ERR = (if e = 0 then s.get F.RD_MOULD_STATUS_ERR else e % 2 ^ F.RD_MOULD_STATUS_ERR.width)) ∧ Sent [] t ∧ Frame ([F.RD_MOULD_STATUS_ERR, F.RD_REMOULD_RESULT_STATE, F.RD_REMOULD_RESULT_ERR, F.RD_REMOULD_RESULT_VALID, F.RD_REMOULD_RESULT_SEQ] ++ (if e = 15 then [] else (List.range 16).map F.RD_REMOULD_NRDY_TILES)) s (if e = 0 then { s with mould := { s.mould with partnerOk := false, partnerGo := false } } else s) t) ∧
  (∀ (s : State) (m : MouldImage),
     s.acts →
     s.mould.staged = some m ∧ s.mould.verified = true →
     s.addsDies m = true →
     s.rmState ≠ 1 ∧ s.rmState ≠ 3 ∧ s.rmState ≠ 4 →
     (s.isSender = false ∨ (s.minLead : Int) ≤ ahead (s.get F.RD_REMOULD_FNUM_FNUM) s.raster.fnum) →
     s.armError m = 0 →
     ∃ t, exec (.remouldArm) s = .next t ∧ (t.rmState = (if s.draw.1.toNat.testBit 8 then 6 else 3)) ∧ (t.get F.RD_DIE_STATE_DIE_ON = (if s.draw.1.toNat.testBit 8 then s.get F.RD_DIE_STATE_DIE_ON else (s.get F.RD_DIE_STATE_DIE_ON ||| m.hdr.dieUse ||| 1))) ∧ t.freeN = s.freeN + 1 ∧ t.nv = s.nv ∧ t.cave = s.cave ∧ t.raster = s.raster ∧ Sent [] t) ∧
  (∀ (s : State),
     s.acts →
     s.rmState = 3 ∧ s.isSender = true ∧ s.senderEnd ≠ 3 ∧ s.mould.partnerOk = false →
     (∀ o ∈ s.mould.loaded.toList, s.get F.RD_DIE_STATE_DIE_ON = (o.hdr.dieUse ||| 1)) →
     ∃ t, exec (.remouldPartnerTimeout) s = .next t ∧ t.get F.RD_MOULD_STATUS_ERR = 14 % 2 ^ F.RD_MOULD_STATUS_ERR.width ∧ t.rmState = 6 ∧ t.get F.RD_REMOULD_RESULT_ERR = 14 ∧ t.get F.RD_REMOULD_RESULT_VALID = 1 ∧ t.get F.RD_REMOULD_RESULT_SEQ = s.wrap F.RD_REMOULD_RESULT_SEQ ∧ Sent [] t ∧ Frame ([F.RD_MOULD_STATUS_ERR, F.RD_REMOULD_RESULT_STATE, F.RD_REMOULD_RESULT_ERR, F.RD_REMOULD_RESULT_VALID, F.RD_REMOULD_RESULT_SEQ]) s (s) t) ∧
  (∀ (s : State),
     s.acts →
     (s.rmState = 1 ∨ s.rmState = 2 ∨ s.rmState = 3) →
     (∀ o ∈ s.mould.loaded.toList, s.get F.RD_DIE_STATE_DIE_ON = (o.hdr.dieUse ||| 1)) →
     ∃ t, exec (.remouldCancel) s = .next t ∧ t.rmState = 7 ∧ t.get F.RD_REMOULD_RESULT_ERR = 0 ∧ t.get F.RD_REMOULD_RESULT_VALID = 1 ∧ t.get F.RD_REMOULD_RESULT_SEQ = s.wrap F.RD_REMOULD_RESULT_SEQ ∧ Sent [] t ∧ Frame ([F.RD_REMOULD_RESULT_STATE, F.RD_REMOULD_RESULT_ERR, F.RD_REMOULD_RESULT_VALID, F.RD_REMOULD_RESULT_SEQ]) s (if s.rmState = 1 then { s with mould := { s.mould with staged := none } } else s) t) ∧
  (∀ (s : State) (o : MouldImage),
     s.acts →
     (s.rmState = 2 ∨ s.rmState = 3) →
     s.mould.loaded = some o ∧ s.get F.RD_DIE_STATE_DIE_ON ≠ (o.hdr.dieUse ||| 1) →
     ∃ t, exec (.remouldCancel) s = .next t ∧ t.rmState = 7 ∧ t.get F.RD_REMOULD_RESULT_ERR = 0 ∧ t.get F.RD_REMOULD_RESULT_VALID = 1 ∧ t.get F.RD_DIE_STATE_DIE_ON = (o.hdr.dieUse ||| 1) % 256 ∧ t.get F.RD_DIE_STATE_DIE_RUN = (o.hdr.dieUse ||| 1) % 256 ∧ t.mould = s.mould ∧ t.nv = s.nv ∧ t.cave = s.cave ∧ t.raster = s.raster ∧ Sent [] t) ∧
  (∀ (s : State) (m : MouldImage),
     let e : Nat := if s.armError m ≠ 0 then s.armError m else if s.senderEnd ≠ 3 ∧ s.mould.partnerOk = false then 14 else 0
     s.acts →
     s.mould.staged = some m ∧ s.rmState = 3 ∧ s.leads = true →
     ahead (s.get F.RD_REMOULD_FNUM_FNUM) s.raster.fnum = 2 →
     s.portsInUse.Nodup →
     (∀ p ∈ s.portsInUse, (s.port p).bcast = none) →
     (e = 0 ∨ ∀ o ∈ s.mould.loaded.toList, s.get F.RD_DIE_STATE_DIE_ON = (o.hdr.dieUse ||| 1)) →
     ∃ t, exec (.remouldGoCheck) s = .next t ∧ (t.get F.RD_MOULD_STATUS_ERR = (if e = 0 then s.get F.RD_MOULD_STATUS_ERR else e % 2 ^ F.RD_MOULD_STATUS_ERR.width)) ∧ (t.rmState = (if e = 0 then 4 else 7) ∧ t.get F.RD_REMOULD_RESULT_ERR = e % 2 ^ F.RD_REMOULD_RESULT_ERR.width ∧ t.get F.RD_REMOULD_RESULT_VALID = 1 ∧ t.get F.RD_REMOULD_RESULT_SEQ = s.wrap F.RD_REMOULD_RESULT_SEQ) ∧ (∀ p ∈ List.range 16, t.get (F.RD_REMOULD_NRDY_TILES p) = s.notReady m p % 2 ^ 32) ∧ (Sent (s.portsInUse.map fun p => .ctrl p ⟨0x20, 0xFF, endCode s.senderEnd, s.nextSeq p 0xFF, 4, [if e = 0 then 1 else 2, 0, 0, 0] ++ leBytes 4 (s.get F.RD_REMOULD_FNUM_FNUM) ++ leBytes 4 m.hdr.wallId ++ leBytes 2 m.hdr.mouldSeq ++ [0, 0]⟩) t) ∧ Frame ([F.RD_MOULD_STATUS_ERR, F.RD_REMOULD_RESULT_STATE, F.RD_REMOULD_RESULT_ERR, F.RD_REMOULD_RESULT_VALID, F.RD_REMOULD_RESULT_SEQ] ++ (List.range 16).map F.RD_REMOULD_NRDY_TILES) s ({ s with ports := t.ports }) t) ∧
  (∀ (s : State),
     s.acts →
     s.rmState = 3 ∧ ahead (s.get F.RD_REMOULD_FNUM_FNUM) s.raster.fnum ≤ 0 →
     s.mould.goFor = none ∧ s.mould.partnerGo = false →
     (∀ o ∈ s.mould.loaded.toList, s.get F.RD_DIE_STATE_DIE_ON = (o.hdr.dieUse ||| 1)) →
     ∃ t, exec (.remouldNoGo) s = .next t ∧ t.rmState = 7 ∧ t.get F.RD_REMOULD_RESULT_ERR = 0 ∧ t.get F.RD_REMOULD_RESULT_VALID = 1 ∧ t.get F.RD_REMOULD_RESULT_SEQ = s.wrap F.RD_REMOULD_RESULT_SEQ ∧ Sent [] t ∧ Frame ([F.RD_REMOULD_RESULT_STATE, F.RD_REMOULD_RESULT_ERR, F.RD_REMOULD_RESULT_VALID, F.RD_REMOULD_RESULT_SEQ]) s (s) t) ∧
  (∀ (s : State) (m old : MouldImage),
     s.acts →
     s.switchDue = some m ∧ s.mould.loaded = some old →
     m.hdr.role = s.role →
     ∃ t, exec (.remouldSwitch) s = .next t ∧ t.mould.loaded = some m ∧ t.mould.staged = none ∧ t.mould.verified = false ∧ t.mould.pressDue = some m ∧ t.mould.goFor = none ∧ t.mould.oldStores = movedStores old m s ∧ t.rmState = 5 ∧ t.get F.RD_REMOULD_RESULT_ERR = 0 ∧ t.get F.RD_REMOULD_RESULT_VALID = 1 ∧ t.get F.RD_MOULD_STATUS_STATE = 1 ∧ t.get F.RD_MOULD_STATUS_SOURCE = 4 ∧ t.get F.RD_DIE_STATE_DIE_ON = (m.hdr.dieUse ||| 1) % 256 ∧ t.get F.RD_DIE_STATE_DIE_RUN = (m.hdr.dieUse ||| 1) % 256 ∧ t.nv = s.nv ∧ t.cave = s.cave ∧ t.raster.fnum = s.raster.fnum) ∧
  (∀ (s : State) (m : MouldImage),
     s.acts →
     s.switchDue = some m →
     m.hdr.role ≠ s.role →
     ∃ t, exec (.remouldSwitch) s = .next t ∧ t.mould.carry = some m ∧ t.mould.loaded = none ∧ t.sys.warm = true ∧ t.nv = s.nv ∧ t.get F.RD_BOOT_STATUS_STAGE = State.reset.get F.RD_BOOT_STATUS_STAGE ∧ t.get F.RD_MOULD_STATUS_VALID = 0 ∧ (∀ a ∈ irqWords, t.rd a = s.rd a) ∧ Sent [] t)

/-- For every command c and state s whose queue begins with c, step s is exec c on s with the queue's rest. On an empty queue the block idles: step answers s itself (the model's choice, log entry 8). -/
def Obligations.StepRunsFrontCommand : Prop :=
  (∀ (c : Instr) (rest : List Instr) (s : State), s.pending = c :: rest → step s = exec c { s with pending := rest }) ∧ ∀ s : State, s.pending = [] → step s = .next s

/-- For every state in which IRQ_N is asserted exactly while a cause is both pending and enabled and RD_IRQ_ACTIVE names exactly the vectors of those causes, every step that answers a next state answers one in which that holds again, whatever the command. -/
def Obligations.InterruptOutputsFollow : Prop :=
  ∀ s t : State, IrqFollow s → step s = .next t → IrqFollow t

/-- The state after reset meets the invariant of InterruptOutputsFollow. -/
def Obligations.InterruptOutputsAtReset : Prop :=
  IrqFollow State.reset

/-- While RESET_N is low or a rail is out of its range, every command but the changes of RESET_N, PERST_N, SAFE_DARK and the rails answers a next state that holds every register and every other record as before and in which nothing has been sent. A change of SAFE_DARK on a held part, the thermal trip and a halted starter among what holds it, changes the level of the pin and nothing else. -/
def Obligations.HeldPartRests : Prop :=
  (∀ (c : Instr) (s : State), s.sys.resetLow = true ∨ s.sys.railsBad = true → c ≠ .resetAssert → (∀ r ram f b card, c ≠ .resetRelease r ram f b card) → c ≠ .perstAssert → c ≠ .perstRelease → (∀ d, c ≠ .railFault d) → c ≠ .railsGood → c ≠ .safeDarkPinSender → c ≠ .safeDarkPinTile → c ≠ .safeDarkPinRelease → ∃ t, exec c s = .next t ∧ t.regs = s.regs ∧ t.kept = s.kept ∧ t.out = []) ∧ ∀ s : State, s.held = true → (∀ c ∈ [Instr.safeDarkPinSender, .safeDarkPinTile], ∃ t, exec c s = .next t ∧ t.regs = s.regs ∧ t.kept = { s.kept with sys := { s.sys with safeDark := true } } ∧ t.out = []) ∧ ∃ t, exec .safeDarkPinRelease s = .next t ∧ t.regs = s.regs ∧ t.kept = { s.kept with sys := { s.sys with safeDark := false } } ∧ t.out = []

/-- In no state does any command of the table end in a refusal. Every command but the 32 that carry out a checked access (those that FaultsKnown speaks of) answers a next state in every state and for all operands; in particular do the die links' replay and failure, the resets, rails and PCIe pins, the rows of STATUS, whey and output comparison, chain lines and fetch urgency, and the source's rows. What these do where they act is stated in DieLinksAndReset, WheyAndComparison and SourceIngest. -/
def Obligations.NoCommandRefused : Prop :=
  (∀ (c : Instr) (s : State) (r : Refusal), exec c s ≠ .refused r) ∧ (∀ (c : Instr) (s : State), c.checked = false → ∃ t, exec c s = .next t) ∧ (∀ (s : State) (a b n selfFail : Nat) (x y : Bool) (l : List Nat) (card : Card), ∀ c ∈ [Instr.dieLinkReplay a b, .dieLinkFail a b, .resetAssert, .railFault x, .railsGood, .perstRelease, .perstAssert, .flr, .resetRelease x y selfFail l card, .statusCopyRead a b, .wheyPop a, .pcrcMissing a b n, .ocrcCapture a, .ocrcCompare a, .ocrcTimeout a, .ocrcDiffPop a, .chainLineStart a b l, .fetchUrgencyChange a b, .ingestFrameComplete a b, .ingestStop a b n, .ingestOverflow a b l, .stopHoldExpiry a b, .ingFmtRead a b], ∃ t, exec c s = .next t) ∧ ∀ (s : State) (r : Arrival) (a b q row col sf : Nat) (x y : Bool) (l m : List Nat) (es : List (Nat × Nat)) (k : SourceLock) (fmt : SrcFormat) (period : Option Nat) (w : PktEnd) (e : LineEnd), ∀ c ∈ [Instr.status r l, .lampfault r a b es x y, .outcrc r a b l m, .sourcePortLock k, .format q sf fmt period w, .linePacket q row col sf x l e], ∃ t, exec c s = .next t

/-- Whatever the command and the state, a fault is one of two, each named by its rule and listed in R542: an access of another width or alignment or outside BAR0 (R5), and a 1 written to a reserved bit (R9). -/
def Obligations.FaultsKnown : Prop :=
  ∀ (c : Instr) (s : State) (e : Fault), exec c s = .fault e → e = .unpredictable 5 ∨ e = .unpredictable 9

/-- The records of what the last step sent, as packets and as symbols on the lanes, and of what it returned to the host are the model's own: every command answers the same whatever they hold (log entry 9). -/
def Obligations.LastOutputsAreNoInput : Prop :=
  ∀ (c : Instr) (s : State) (o : List Out) (d : List Nat) (l : Tab (List (List Nat))) (p : Bool), exec c { s with out := o, line := l, acc := { s.acc with rdata := d, poisoned := p } } = exec c s

/-- For every list of bytes, the reflected CRC-32 that checks mould images, segments and packets equals what the arithmetic of R489 gives with the parameters of R48: 32 bits, polynomial 0x04C1_1DB7, initial value and final XOR all ones, input and output reflected. -/
def Obligations.CrcFormsAgree : Prop :=
  ∀ l : List Nat, crc32 l = crcResult 32 0xFFFFFFFF true (l.foldl (crcByte 32 0x04C11DB7 true) 0xFFFFFFFF)

/-- Over the nine bytes 0x31 to 0x39 the arithmetic of R489 gives the check values that the catalogue of chapter 18 lists for its six entries, and so do the check of a mould image, of a training set and of a legacy packet. Every data byte and every control symbol of the link, at either running disparity, has a ten-bit code that reads back as that symbol. The code itself is that of IEEE 802.3 (log entry 100). -/
def Obligations.CheckCatalogue : Prop :=
  (let m := [0x31, 0x32, 0x33, 0x34, 0x35, 0x36, 0x37, 0x38, 0x39]; let run := fun (w poly : Nat) (refl : Bool) (init xo : Nat) => crcResult w xo refl (m.foldl (crcByte w poly refl) init); run 32 0x04C11DB7 true 0xFFFFFFFF 0xFFFFFFFF = 0xCBF43926 ∧ run 32 0x1EDC6F41 true 0xFFFFFFFF 0xFFFFFFFF = 0xE3069283 ∧ run 8 0x07 false 0 0 = 0xF4 ∧ run 8 0x1D true 0xFF 0 = 0x97 ∧ run 16 0x1021 true 0xFFFF 0xFFFF = 0x906E ∧ run 64 0x42F0E1EBA9EA3693 false 0 0 = 0x6C40DF5F0B497347 ∧ crc32 m = 0xCBF43926 ∧ crc8 m = 0xF4 ∧ x25 m = 0x906E) ∧ ∀ rd ∈ [false, true], ∀ k ∈ List.range 256 ++ linkSyms, encSym rd k < 1024 ∧ decSym rd (encSym rd k) = k

/-- For every list of 36-bit words, bytes 9k to 9k + 8 of the payload are the 9 bytes, least significant first, of w(2k) + w(2k + 1) × 2^36 for every whole pair k; when the number of words is odd, the last word follows as 5 bytes whose bits [39:36] are zero; and nothing else follows. -/
def Obligations.WordsPackInPairs : Prop :=
  ∀ l : List Nat, (∀ w ∈ l, w < 2 ^ 36) → (packWords l).length = 9 * (l.length / 2) + 5 * (l.length % 2) ∧ (∀ k, k < l.length / 2 → ((packWords l).drop (9 * k)).take 9 = leBytes 9 (l.getD (2 * k) 0 + l.getD (2 * k + 1) 0 * 2 ^ 36)) ∧ (l.length % 2 = 1 → (packWords l).drop (9 * (l.length / 2)) = leBytes 5 (l.getD (l.length - 1) 0) ∧ ofLe ((packWords l).drop (9 * (l.length / 2))) < 2 ^ 36)

/-- For every state, burst address and words j and k of the 14: after word k is written, word k reads as the 36 bits written, every other word of the burst reads as before, and so does every byte outside the burst's first 63, the tag byte 63 among them. -/
def Obligations.BurstWords : Prop :=
  ∀ (s : State) (a j k w : Nat), j < 14 → k < 14 → (s.setP14 a k w).p14 a j = (if j = k then w % 2 ^ 36 else s.p14 a j) ∧ ∀ b, (b < a ∨ a + 63 ≤ b) → (s.setP14 a k w).byte b = s.byte b

/-- For every store layout and buffer, pixels (x, y) and (u, v) of columns below 14 times STRIDE that lie at the same word of the same burst are the same pixel. -/
def Obligations.PixelsApart : Prop :=
  ∀ (c : StoreCfg) (b x y u v : Nat), x < 14 * c.stride → u < 14 * c.stride → storeBurst c b x y = storeBurst c b u v → x % 14 = u % 14 → x = u ∧ y = v

/-- For a raster within the geometry limits of R99 whose frame is not being changed in length (R107), n ticks from position rpos with remainder acc lead to the position, frame number and remainder that one exact division of acc + n × STEP_N gives: nothing is lost between ticks or frames. -/
def Obligations.RasterDoesNotDrift : Prop :=
  ∀ (n : Nat) (r : Raster), r.adj = 0 → geometryOk r.ltotal r.num r.den = true → r.rpos < r.total → r.acc < r.stepD → r.fnum < 2 ^ 32 → (Raster.tick^[n] r).acc = (r.acc + n * r.stepN) % r.stepD ∧ (Raster.tick^[n] r).rpos = (r.rpos + (r.acc + n * r.stepN) / r.stepD) % r.total ∧ (Raster.tick^[n] r).fnum = (r.fnum + (r.rpos + (r.acc + n * r.stepN) / r.stepD) / r.total) % 2 ^ 32

/-- For every frame number f and every d up to 2^31 - 1, the frame d frames after f, modulo 2^32, is d ahead of f, and f is d behind it. -/
def Obligations.FrameNumbersCompare : Prop :=
  ∀ f d : Nat, f < 2 ^ 32 → d < 2 ^ 31 → ahead ((f + d) % 2 ^ 32) f = (d : Int) ∧ ahead f ((f + d) % 2 ^ 32) = -(d : Int)

/-- For each of the three codes and every W20 value v, the encode is a code of 0 to 4,095 whose LIN is no further from v than that of any code, and nearer than that of every lower code. -/
def Obligations.NearestCode : Prop :=
  ∀ k v : Nat, k < 3 → v < 2 ^ 20 → encode20 k v < 4096 ∧ ∀ c, c < 4096 → ((lin k (encode20 k v) : Int) - v).natAbs ≤ ((lin k c : Int) - v).natAbs ∧ (c < encode20 k v → ((lin k (encode20 k v) : Int) - v).natAbs < ((lin k c : Int) - v).natAbs)

/-- For one to four lanes at any running disparities, the columns of codes that carry a segment, ended in EOP or EDB, read back as that segment, with a right check value, its length right and no violation. For every list of column spans accepted for a tile row, in any order and with any overlaps, the record the tile keeps of them says that the row of width w is complete exactly when every column below w lies in one of them. -/
def Obligations.RowCoverage : Prop :=
  (∀ (m : Nat) (g : Segment) (rd : List Bool) (edb : Bool), 1 ≤ m → m ≤ 4 → rd.length = m → segmentForm g = true → (∀ w ∈ g.words, w < 2 ^ 36) → readSegment m rd (encodeColumns rd (outColumns m false (segmentSyms g edb))).1 = some { seg := g, syms := segmentSyms g edb, crcOk := true, lenOk := true, eop := !edb, viol := [] }) ∧ ∀ (w : Nat) (l : List (Nat × Nat)), (∀ e ∈ l, 0 < e.2) → (spanFull w (l.foldl (fun t e => spanIns e.1 e.2 t) []) = true ↔ ∀ x, x < w → ∃ e ∈ l, e.1 ≤ x ∧ x < e.1 + e.2)

/-- A write of v to a register sets its RW bits to v's, clears its W1C bits where v holds a 1, and leaves every other bit in force; its RWS bits become v's in the pending value, and a register without RWS bits gets no pending value; no other register and no other pending value changes. -/
def Obligations.AccessTypes : Prop :=
  ∀ (k : Nat) (r : RegDef) (v : Word) (s : State), r.rwBits &&& r.w1cBits = 0 → (∀ i, ((plainWrite k r v s).rd k).getLsbD i = (if r.rwBits.getLsbD i then v.getLsbD i else ((s.rd k).getLsbD i && !(r.w1cBits.getLsbD i && v.getLsbD i)))) ∧ (plainWrite k r v s).pendWord k &&& r.rwsBits = v &&& r.rwsBits ∧ (r.rwsBits = 0 → (plainWrite k r v s).pend = s.pend) ∧ (∀ a, a ≠ k → (plainWrite k r v s).rd a = s.rd a ∧ (plainWrite k r v s).pendWord a = s.pendWord a)

/-- In every register of every block, each field lies within bits 31 to 0 and no two fields share a bit. -/
def Obligations.FieldsApart : Prop :=
  ∀ b ∈ [regsRD, regsCH, regsCHT, regsCHS, regsLANE, regsGROUP, regsING, regsRND, regsWB, regsLE, regsTGT, regsVTC, regsDCH, regsDDIE, regsTP, regsSLOT, regsDIAG, regsPAT, regsPORT, regsNET, regsWHEEL, regsPTP, regsTRIG, regsCAP, regsAUD, regsCRC, regsK24, regsWHEELENT, regsSTCOPY, regsTXRX, regsTRIM, regsCOEF], b.all (fun r => r.fields.all (fun f => f.lo ≤ f.hi && f.hi < 32) && decide (r.fields.Pairwise fun f g => f.hi < g.lo ∨ g.hi < f.lo)) = true

/-- Where RESET_ASSERT leads to u, a rail fault leads to the same state but that the rail and not RESET_N holds the part; where the supply fell below 0.60 V the error log is cleared first. Once the rails are good the part is held only by RESET_N, by the thermal trip or by a halted starter. -/
def Obligations.RailFaultActsAsReset : Prop :=
  ∀ (dark : Bool) (s : State), (∃ u, exec .resetAssert (if dark then { s with log := {} } else s) = .next u ∧ exec (.railFault dark) s = .next { u with sys := { u.sys with resetLow := s.sys.resetLow, railsBad := true } } ∧ u.held = true) ∧ ∃ t, exec .railsGood s = .next t ∧ t.held = (s.sys.resetLow || s.sys.tripped || s.halted)

/-- Handing an event to the logger keeps its queue at 64 at most, and LOG_EVENT keeps the queue, the ring of 2,048 entries and the fatal area of 32 within their sizes in every state that has them so. -/
def Obligations.LoggerBounds : Prop :=
  (∀ (s : State) (sev die code a0 a1 : Nat), s.log.queue.length ≤ 64 → (s.logEv sev die code a0 a1).log.queue.length ≤ 64 ∧ (s.logEv sev die code a0 a1).log.ring = s.log.ring ∧ (s.logEv sev die code a0 a1).log.fatal = s.log.fatal) ∧ ∀ s t : State, s.log.queue.length ≤ 64 → s.log.ring.length ≤ 2048 → s.log.fatal.length ≤ 32 → exec .logEvent s = .next t → t.log.queue.length ≤ 64 ∧ t.log.ring.length ≤ 2048 ∧ t.log.fatal.length ≤ 32

/-- After reset the vector of cause 4k + j is (4k + j) mod 32, the raster geometry of the wall timing generator is 1,125 lines at 60/1 Hz, the PTP increment is 5, every cause is pending nowhere and enabled nowhere, memory lists nothing and the queue is empty. That unlisted memory reads as zero is the model's choice (log entry 4). -/
def Obligations.ResetValues : Prop :=
  (∀ k, k < 37 → State.reset.irqVector k = k % 32) ∧ State.reset.get F.RD_WTG_LTOTAL_LTOTAL = 1125 ∧ State.reset.get F.RD_WTG_FRATE_NUM = 60 ∧ State.reset.get F.RD_WTG_FRATE_DEN = 1 ∧ State.reset.get F.RD_PTP_INC_INC_NS = 5 ∧ State.reset.irqLive = 0 ∧ State.reset.get F.RD_IRQ_EN0_EN = 0 ∧ State.reset.pending = [] ∧ State.reset.canonical = true
end

