-- ==== Sys2Proof/Laws/Exec.lean ====
section
/-!
SUPPORT. What exec calls for each command: the 308 arms, by name.
-/

namespace Sys2Proof.Machine

open Sys2Proof

theorem exec_registerWrite (addr : Nat) (val : Word) (s : State) : exec (.registerWrite addr val) s = execRegisterWrite addr val s := (rfl)
theorem exec_gatedWindowAccess (addr : Nat) (write : Bool) (s : State) : exec (.gatedWindowAccess addr write) s = execGatedWindowAccess addr write s := (rfl)
theorem exec_pixelPairLowWrite (addr : Nat) (val : Word) (s : State) : exec (.pixelPairLowWrite addr val) s = execPixelPairLowWrite addr val s := (rfl)
theorem exec_pixelPairHighWrite (addr : Nat) (val : Word) (s : State) : exec (.pixelPairHighWrite addr val) s = execPixelPairHighWrite addr val s := (rfl)
theorem exec_pixelPairLowRead (addr : Nat) (s : State) : exec (.pixelPairLowRead addr) s = execPixelPairLowRead addr s := (rfl)
theorem exec_dieLinkReplay (a b : Nat) (s : State) : exec (.dieLinkReplay a b) s = execDieLinkReplay a b s := (rfl)
theorem exec_dieLinkFail (a b : Nat) (s : State) : exec (.dieLinkFail a b) s = execDieLinkFail a b s := (rfl)
theorem exec_resetRelease (recoveryN ramOk : Bool) (selfFail : Nat) (badLog : List Nat) (card : Card) (s : State) : exec (.resetRelease recoveryN ramOk selfFail badLog card) s = execResetRelease recoveryN ramOk selfFail badLog card s := (rfl)
theorem exec_mouldLoad (us : Nat) (sectFail : List (Nat × Nat × Nat)) (chanFail trimFail : List Nat) (card : Card) (s : State) : exec (.mouldLoad us sectFail chanFail trimFail card) s = execMouldLoad us sectFail chanFail trimFail card s := (rfl)
theorem exec_caveLoadDone (failed : List Nat) (dirOk : Bool) (s : State) : exec (.caveLoadDone failed dirOk) s = execCaveLoadDone failed dirOk s := (rfl)
theorem exec_signalDetectChange (lane : Nat) (on : Bool) (s : State) : exec (.signalDetectChange lane on) s = execSignalDetectChange lane on s := (rfl)
theorem exec_trainDetectExit (p : Nat) (s : State) : exec (.trainDetectExit p) s = execTrainDetectExit p s := (rfl)
theorem exec_trainCommaDone (p : Nat) (sets : List (List (List Nat))) (s : State) : exec (.trainCommaDone p sets) s = execTrainCommaDone p sets s := (rfl)
theorem exec_trainAnnounceDone (p held : Nat) (sets : List (List (List Nat))) (s : State) : exec (.trainAnnounceDone p held sets) s = execTrainAnnounceDone p held sets s := (rfl)
theorem exec_trainConfirmDone (p : Nat) (sets : List (List (List Nat))) (s : State) : exec (.trainConfirmDone p sets) s = execTrainConfirmDone p sets s := (rfl)
theorem exec_trainRateDone (p : Nat) (r : RateEnd) (s : State) : exec (.trainRateDone p r) s = execTrainRateDone p r s := (rfl)
theorem exec_trainDeskewDone (p : Nat) (l : LaneLock) (sets : List (List (List Nat))) (s : State) : exec (.trainDeskewDone p l sets) s = execTrainDeskewDone p l sets s := (rfl)
theorem exec_trainHopmeasDone (p : Nat) (h : HopTimes) (s : State) : exec (.trainHopmeasDone p h) s = execTrainHopmeasDone p h s := (rfl)
theorem exec_trainLimitExpiry (p : Nat) (s : State) : exec (.trainLimitExpiry p) s = execTrainLimitExpiry p s := (rfl)
theorem exec_trainEnergyLost (p : Nat) (s : State) : exec (.trainEnergyLost p) s = execTrainEnergyLost p s := (rfl)
theorem exec_trainWaitExpiry (p : Nat) (s : State) : exec (.trainWaitExpiry p) s = execTrainWaitExpiry p s := (rfl)
theorem exec_enumSend (p : Nat) (s : State) : exec (.enumSend p) s = execEnumSend p s := (rfl)
theorem exec_enumRepeat (p : Nat) (s : State) : exec (.enumRepeat p) s = execEnumRepeat p s := (rfl)
theorem exec_enum (a : Arrival) (origin hop n wallId mouldSeq cum : Nat) (aOld : Bool) (s : State) : exec (.enum a origin hop n wallId mouldSeq cum aOld) s = execEnum a origin hop n wallId mouldSeq cum aOld s := (rfl)
theorem exec_genlockEdge (e : GenlockIn) (n : NearestFrame) (s : State) : exec (.genlockEdge e n) s = execGenlockEdge e n s := (rfl)
theorem exec_commitHoldWrite (val : Word) (s : State) : exec (.commitHoldWrite val) s = execCommitHoldWrite val s := (rfl)
theorem exec_commitGo (t : Word) (s : State) : exec (.commitGo t) s = execCommitGo t s := (rfl)
theorem exec_chainLineStart (p c : Nat) (ready : List Nat) (s : State) : exec (.chainLineStart p c ready) s = execChainLineStart p c ready s := (rfl)
theorem exec_fetchUrgencyChange (p fill : Nat) (s : State) : exec (.fetchUrgencyChange p fill) s = execFetchUrgencyChange p fill s := (rfl)
theorem exec_tileMarkerRx (dirB : Bool) (lag : Int) (pkt : RasterPkt) (s : State) : exec (.tileMarkerRx dirB lag pkt) s = execTileMarkerRx dirB lag pkt s := (rfl)
theorem exec_tileMarkerMissing (m : MarkerGap) (s : State) : exec (.tileMarkerMissing m) s = execTileMarkerMissing m s := (rfl)
theorem exec_trackUpdate (p : Nat) (m : TrackMeans) (s : State) : exec (.trackUpdate p m) s = execTrackUpdate p m s := (rfl)
theorem exec_delayMarkerRoundTrip (p : Nat) (own : Bool) (num turn : Nat) (s : State) : exec (.delayMarkerRoundTrip p own num turn) s = execDelayMarkerRoundTrip p own num turn s := (rfl)
theorem exec_skpSend (p : Nat) (s : State) : exec (.skpSend p) s = execSkpSend p s := (rfl)
theorem exec_safeDarkOn (dirB : Bool) (u : UrgentCols) (s : State) : exec (.safeDarkOn dirB u) s = execSafeDarkOn dirB u s := (rfl)
theorem exec_safeDarkOff (dirB : Bool) (u : UrgentCols) (s : State) : exec (.safeDarkOff dirB u) s = execSafeDarkOff dirB u s := (rfl)
theorem exec_takeover (p col : Nat) (copies : List (List Nat)) (s : State) : exec (.takeover p col copies) s = execTakeover p col copies s := (rfl)
theorem exec_segdown (p col : Nat) (copies : List (List Nat)) (s : State) : exec (.segdown p col copies) s = execSegdown p col copies s := (rfl)
theorem exec_urgentSetBadCode (p : Nat) (copies : List (List Nat)) (s : State) : exec (.urgentSetBadCode p copies) s = execUrgentSetBadCode p copies s := (rfl)
theorem exec_darkFlagTimeout (dirB : Bool) (s : State) : exec (.darkFlagTimeout dirB) s = execDarkFlagTimeout dirB s := (rfl)
theorem exec_segdownClear (dirB : Bool) (s : State) : exec (.segdownClear dirB) s = execSegdownClear dirB s := (rfl)
theorem exec_chUrgTx (p code arg : Nat) (s : State) : exec (.chUrgTx p code arg) s = execChUrgTx p code arg s := (rfl)
theorem exec_segmentRx (p : Nat) (cols : List (List Nat)) (r0 r1 r2 r3 : Bool) (s : State) : exec (.segmentRx p cols r0 r1 r2 r3) s = execSegmentRx p cols r0 r1 r2 r3 s := (rfl)
theorem exec_frameReceptionEnd (ue ueWords : List (Nat × Nat × Nat)) (s : State) : exec (.frameReceptionEnd ue ueWords) s = execFrameReceptionEnd ue ueWords s := (rfl)
theorem exec_raster (a : Arrival) (pkt : RasterPkt) (s : State) : exec (.raster a pkt) s = execRaster a pkt s := (rfl)
theorem exec_heartbeat (a : Arrival) (endCode state health fnum arm t wallId mouldSeq : Nat) (s : State) : exec (.heartbeat a endCode state health fnum arm t wallId mouldSeq) s = execHeartbeat a endCode state health fnum arm t wallId mouldSeq s := (rfl)
theorem exec_delayRsp (a : Arrival) (num turn : Nat) (elapsed : Int) (s : State) : exec (.delayRsp a num turn elapsed) s = execDelayRsp a num turn elapsed s := (rfl)
theorem exec_ack (a : Arrival) (src seq dest result : Nat) (s : State) : exec (.ack a src seq dest result) s = execAck a src seq dest result s := (rfl)
theorem exec_regWr (p src seq dest : Nat) (data : List Nat) (w : PktEnd) (s : State) : exec (.regWr p src seq dest data w) s = execRegWr p src seq dest data w s := (rfl)
theorem exec_regRd (p src seq dest : Nat) (data : List Nat) (w : PktEnd) (s : State) : exec (.regRd p src seq dest data w) s = execRegRd p src seq dest data w s := (rfl)
theorem exec_rdResp (a : Arrival) (src seq dest : Nat) (vals : List Nat) (s : State) : exec (.rdResp a src seq dest vals) s = execRdResp a src seq dest vals s := (rfl)
theorem exec_commitGoPacket (a : Arrival) (src seq dest : Nat) (data : List Nat) (s : State) : exec (.commitGoPacket a src seq dest data) s = execCommitGoPacket a src seq dest data s := (rfl)
theorem exec_remould (a : Arrival) (src seq : Nat) (go : Bool) (t wallId mouldSeq : Nat) (s : State) : exec (.remould a src seq go t wallId mouldSeq) s = execRemould a src seq go t wallId mouldSeq s := (rfl)
theorem exec_ctrlBadType (a : Arrival) (src seq : Nat) (u : UnknownPkt) (s : State) : exec (.ctrlBadType a src seq u) s = execCtrlBadType a src seq u s := (rfl)
theorem exec_ctrlRetryTimeout (p dest : Nat) (s : State) : exec (.ctrlRetryTimeout p dest) s = execCtrlRetryTimeout p dest s := (rfl)
theorem exec_broadcastConfirmTimeout (p : Nat) (s : State) : exec (.broadcastConfirmTimeout p) s = execBroadcastConfirmTimeout p s := (rfl)
theorem exec_status (a : Arrival) (payload : List Nat) (s : State) : exec (.status a payload) s = execStatus a payload s := (rfl)
theorem exec_outcrc (a : Arrival) (addr fnum : Nat) (pics outs : List Nat) (s : State) : exec (.outcrc a addr fnum pics outs) s = execOutcrc a addr fnum pics outs s := (rfl)
theorem exec_lampfault (a : Arrival) (addr f : Nat) (entries : List (Nat × Nat)) (more overflow : Bool) (s : State) : exec (.lampfault a addr f entries more overflow) s = execLampfault a addr f entries more overflow s := (rfl)
theorem exec_tileHb (a : Arrival) (addr role decision sinceA sinceB fnum : Nat) (s : State) : exec (.tileHb a addr role decision sinceA sinceB fnum) s = execTileHb a addr role decision sinceA sinceB fnum s := (rfl)
theorem exec_pcrcMissing (p addr phase : Nat) (s : State) : exec (.pcrcMissing p addr phase) s = execPcrcMissing p addr phase s := (rfl)
theorem exec_laneRetire (p lane : Nat) (s : State) : exec (.laneRetire p lane) s = execLaneRetire p lane s := (rfl)
theorem exec_portCrc (p : Nat) (s : State) : exec (.portCrc p) s = execPortCrc p s := (rfl)
theorem exec_linkLoss (p : Nat) (e : LossSigns) (s : State) : exec (.linkLoss p e) s = execLinkLoss p e s := (rfl)
theorem exec_retrain (p : Nat) (s : State) : exec (.retrain p) s = execRetrain p s := (rfl)
theorem exec_ctrlTxCmd (p : Nat) (val : Word) (s : State) : exec (.ctrlTxCmd p val) s = execCtrlTxCmd p val s := (rfl)
theorem exec_ctrlRxPop (p : Nat) (s : State) : exec (.ctrlRxPop p) s = execCtrlRxPop p s := (rfl)
theorem exec_wheyPop (p : Nat) (s : State) : exec (.wheyPop p) s = execWheyPop p s := (rfl)
theorem exec_statusCopyRead (p addr : Nat) (s : State) : exec (.statusCopyRead p addr) s = execStatusCopyRead p addr s := (rfl)
theorem exec_refSwitch (g : Nat) (s : State) : exec (.refSwitch g) s = execRefSwitch g s := (rfl)
theorem exec_refSwitchBack (g : Nat) (s : State) : exec (.refSwitchBack g) s = execRefSwitchBack g s := (rfl)
theorem exec_cdrLockLoss (lane : Nat) (s : State) : exec (.cdrLockLoss lane) s = execCdrLockLoss lane s := (rfl)
theorem exec_txRampStep (lane : Nat) (s : State) : exec (.txRampStep lane) s = execTxRampStep lane s := (rfl)
theorem exec_laneTxWrite (lane : Nat) (val : Word) (s : State) : exec (.laneTxWrite lane val) s = execLaneTxWrite lane val s := (rfl)
theorem exec_laneRxmanWrite (lane : Nat) (val : Word) (s : State) : exec (.laneRxmanWrite lane val) s = execLaneRxmanWrite lane val s := (rfl)
theorem exec_prbsSync (l : LaneLine) (s : State) : exec (.prbsSync l) s = execPrbsSync l s := (rfl)
theorem exec_prbsSyncLoss (lane : Nat) (before last : List Bool) (s : State) : exec (.prbsSyncLoss lane before last) s = execPrbsSyncLoss lane before last s := (rfl)
theorem exec_prbsClr (lane : Nat) (s : State) : exec (.prbsClr lane) s = execPrbsClr lane s := (rfl)
theorem exec_prbsInject (lane : Nat) (s : State) : exec (.prbsInject lane) s = execPrbsInject lane s := (rfl)
theorem exec_testEnWrite (g : Nat) (val : Word) (s : State) : exec (.testEnWrite g val) s = execTestEnWrite g val s := (rfl)
theorem exec_testRateChange (g rate : Nat) (s : State) : exec (.testRateChange g rate) s = execTestRateChange g rate s := (rfl)
theorem exec_eyeScanStart (lane : Nat) (val : Word) (s : State) : exec (.eyeScanStart lane val) s = execEyeScanStart lane val s := (rfl)
theorem exec_eyeScanDone (lane : Nat) (width height point : List EyePoint) (s : State) : exec (.eyeScanDone lane width height point) s = execEyeScanDone lane width height point s := (rfl)
theorem exec_eyeScanAbort (lane : Nat) (nolock : Bool) (s : State) : exec (.eyeScanAbort lane nolock) s = execEyeScanAbort lane nolock s := (rfl)
theorem exec_calStepStart (g : Nat) (s : State) : exec (.calStepStart g) s = execCalStepStart g s := (rfl)
theorem exec_calForce (g : Nat) (s : State) : exec (.calForce g) s = execCalForce g s := (rfl)
theorem exec_clearTrim (g : Nat) (s : State) : exec (.clearTrim g) s = execClearTrim g s := (rfl)
theorem exec_bridge (a : Arrival) (step logical newPhys oldPhys : Nat) (s : State) : exec (.bridge a step logical newPhys oldPhys) s = execBridge a step logical newPhys oldPhys s := (rfl)
theorem exec_bridged (a : Arrival) (step : Nat) (s : State) : exec (.bridged a step) s = execBridged a step s := (rfl)
theorem exec_calCompareDone (p : Nat) (pass : Bool) (s : State) : exec (.calCompareDone p pass) s = execCalCompareDone p pass s := (rfl)
theorem exec_switched (a : Arrival) (step logical newPhys oldPhys : Nat) (s : State) : exec (.switched a step logical newPhys oldPhys) s = execSwitched a step logical newPhys oldPhys s := (rfl)
theorem exec_lanecmdDone (a : Arrival) (step : Nat) (s : State) : exec (.lanecmdDone a step) s = execLanecmdDone a step s := (rfl)
theorem exec_retire (a : Arrival) (step oldPhys : Nat) (s : State) : exec (.retire a step oldPhys) s = execRetire a step oldPhys s := (rfl)
theorem exec_drop (a : Arrival) (step oldPhys lanes : Nat) (s : State) : exec (.drop a step oldPhys lanes) s = execDrop a step oldPhys lanes s := (rfl)
theorem exec_dropped (a : Arrival) (step : Nat) (s : State) : exec (.dropped a step) s = execDropped a step s := (rfl)
theorem exec_lanecmdTimeout (p : Nat) (s : State) : exec (.lanecmdTimeout p) s = execLanecmdTimeout p s := (rfl)
theorem exec_calMeasureDone (g : Nat) (w0 h0 w1 h1 w2 h2 : List EyePoint) (s : State) : exec (.calMeasureDone g w0 h0 w1 h1 w2 h2) s = execCalMeasureDone g w0 h0 w1 h1 w2 h2 s := (rfl)
theorem exec_calSettleTimeout (g : Nat) (s : State) : exec (.calSettleTimeout g) s = execCalSettleTimeout g s := (rfl)
theorem exec_affinageRampStep (lane : Nat) (viol : Bool) (s : State) : exec (.affinageRampStep lane viol) s = execAffinageRampStep lane viol s := (rfl)
theorem exec_sourcePortLock (l : SourceLock) (s : State) : exec (.sourcePortLock q) s = execSourcePortLock q s := (rfl)
theorem exec_format (q sframe : Nat) (fmt : SrcFormat) (period : Option Nat) (w : PktEnd) (s : State) : exec (.format q sframe fmt period w) s = execFormat q sframe fmt period w s := (rfl)
theorem exec_linePacket (q row col sf : Nat) (last : Bool) (words : List Nat) (e : LineEnd) (s : State) : exec (.linePacket q row col sf last words e) s = execLinePacket q row col sf last words e s := (rfl)
theorem exec_ingestFrameComplete (v e : Nat) (s : State) : exec (.ingestFrameComplete v e) s = execIngestFrameComplete v e s := (rfl)
theorem exec_ingestStop (v e lost : Nat) (s : State) : exec (.ingestStop v e lost) s = execIngestStop v e lost s := (rfl)
theorem exec_ingestOverflow (v e : Nat) (rows : List Nat) (s : State) : exec (.ingestOverflow v e rows) s = execIngestOverflow v e rows s := (rfl)
theorem exec_stopHoldExpiry (v e : Nat) (s : State) : exec (.stopHoldExpiry v e) s = execStopHoldExpiry v e s := (rfl)
theorem exec_openBuf (v r : Nat) (s : State) : exec (.openBuf v r) s = execOpenBuf v r s := (rfl)
theorem exec_fence (v r : Nat) (s : State) : exec (.fence v r) s = execFence v r s := (rfl)
theorem exec_fenceFlushDone (v r : Nat) (s : State) : exec (.fenceFlushDone v r) s = execFenceFlushDone v r s := (rfl)
theorem exec_abortBuf (v r : Nat) (s : State) : exec (.abortBuf v r) s = execAbortBuf v r s := (rfl)
theorem exec_bar2Write (off : Nat) (d : Bar2Data) (s : State) : exec (.bar2Write off d) s = execBar2Write off d s := (rfl)
theorem exec_bar2Read (off : Nat) (r : Bar2Span) (s : State) : exec (.bar2Read off r) s = execBar2Read off r s := (rfl)
theorem exec_composeLine (v t y : Nat) (late : List (Nat × Nat)) (ue : List (Nat × Nat × Nat)) (s : State) : exec (.composeLine v t y late ue) s = execComposeLine v t y late ue s := (rfl)
theorem exec_writeBackPublish (v t : Nat) (s : State) : exec (.writeBackPublish v t) s = execWriteBackPublish v t s := (rfl)
theorem exec_writeBackDrop (v t : Nat) (s : State) : exec (.writeBackDrop v t) s = execWriteBackDrop v t s := (rfl)
theorem exec_ocrcCapture (p : Nat) (s : State) : exec (.ocrcCapture p) s = execOcrcCapture p s := (rfl)
theorem exec_ocrcCompare (p : Nat) (s : State) : exec (.ocrcCompare p) s = execOcrcCompare p s := (rfl)
theorem exec_ocrcTimeout (p : Nat) (s : State) : exec (.ocrcTimeout p) s = execOcrcTimeout p s := (rfl)
theorem exec_ocrcDiffPop (p : Nat) (s : State) : exec (.ocrcDiffPop p) s = execOcrcDiffPop p s := (rfl)
theorem exec_rowCorrect (phase row : Nat) (ue : List Nat) (s : State) : exec (.rowCorrect phase row ue) s = execRowCorrect phase row ue s := (rfl)
theorem exec_rowEncode (phase row : Nat) (ueMap ueStatus ueStore : List Nat) (s : State) : exec (.rowEncode phase row ueMap ueStatus ueStore) s = execRowEncode phase row ueMap ueStatus ueStore s := (rfl)
theorem exec_tsetWrite (reg : Nat) (val : Word) (s : State) : exec (.tsetWrite reg val) s = execTsetWrite reg val s := (rfl)
theorem exec_windowLead (k : Nat) (rb : List (Nat × Nat × Nat)) (s : State) : exec (.windowLead k rb) s = execWindowLead k rb s := (rfl)
theorem exec_rowSlotStart (k row : Nat) (rb : List (Nat × Nat × Nat)) (s : State) : exec (.rowSlotStart k row rb) s = execRowSlotStart k row rb s := (rfl)
theorem exec_lampTest (k row : Nat) (opens shorts : List (Nat × Nat × List Nat)) (s : State) : exec (.lampTest k row opens shorts) s = execLampTest k row opens shorts s := (rfl)
theorem exec_rowProbe (k : Nat) (opens shorts : List (Nat × Nat × List Nat)) (s : State) : exec (.rowProbe k opens shorts) s = execRowProbe k opens shorts s := (rfl)
theorem exec_pinReadbackCheck (q : Nat) (r : PadReadBack) (s : State) : exec (.pinReadbackCheck q r) s = execPinReadbackCheck q r s := (rfl)
theorem exec_pinStuckClear (q : Nat) (s : State) : exec (.pinStuckClear q) s = execPinStuckClear q s := (rfl)
theorem exec_outputCrcComplete (q : Nat) (s : State) : exec (.outputCrcComplete q) s = execOutputCrcComplete q s := (rfl)
theorem exec_dramRequest (c : Nat) (arrive : List DramReq) (wait err : Nat) (s : State) : exec (.dramRequest c arrive wait err) s = execDramRequest c arrive wait err s := (rfl)
theorem exec_refreshPoint (c : Nat) (s : State) : exec (.refreshPoint c) s = execRefreshPoint c s := (rfl)
theorem exec_forcedRefresh (c : Nat) (s : State) : exec (.forcedRefresh c) s = execForcedRefresh c s := (rfl)
theorem exec_zqcs (c : Nat) (s : State) : exec (.zqcs c) s = execZqcs c s := (rfl)
theorem exec_dramTempRead (c band : Nat) (s : State) : exec (.dramTempRead c band) s = execDramTempRead c band s := (rfl)
theorem exec_patrolScrub (c : Nat) (r : ScrubRead) (s : State) : exec (.patrolScrub c err) s = execPatrolScrub c err s := (rfl)
theorem exec_rowRepair (c : Nat) (x : RowReads) (s : State) : exec (.rowRepair c zeroed) s = execRowRepair c zeroed s := (rfl)
theorem exec_repairRecopyDone (c : Nat) (s : State) : exec (.repairRecopyDone c) s = execRepairRecopyDone c s := (rfl)
theorem exec_dramFreqJudge (v : Nat) (s : State) : exec (.dramFreqJudge v) s = execDramFreqJudge v s := (rfl)
theorem exec_dramFreqChange (v : Nat) (s : State) : exec (.dramFreqChange v) s = execDramFreqChange v s := (rfl)
theorem exec_unfitEntry (p : Nat) (s : State) : exec (.unfitEntry p) s = execUnfitEntry p s := (rfl)
theorem exec_foKick (val : Word) (s : State) : exec (.foKick val) s = execFoKick val s := (rfl)
theorem exec_yield (p : Nat) (s : State) : exec (.yield p) s = execYield p s := (rfl)
theorem exec_netTxFrame (n : Nat) (busy : Bool) (s : State) : exec (.netTxFrame n busy) s = execNetTxFrame n busy s := (rfl)
theorem exec_netTxDone (n : Nat) (s : State) : exec (.netTxDone n) s = execNetTxDone n s := (rfl)
theorem exec_netRxFrame (n : Nat) (bytes : List Nat) (s : State) : exec (.netRxFrame n bytes) s = execNetRxFrame n bytes s := (rfl)
theorem exec_netCollision (late : Bool) (s : State) : exec (.netCollision late) s = execNetCollision late s := (rfl)
theorem exec_pauseRx (q : Nat) (s : State) : exec (.pauseRx q) s = execPauseRx q s := (rfl)
theorem exec_noWindow (n q : Nat) (s : State) : exec (.noWindow n q) s = execNoWindow n q s := (rfl)
theorem exec_wheelBankWrite (b e : Nat) (val : Word) (s : State) : exec (.wheelBankWrite b e val) s = execWheelBankWrite b e val s := (rfl)
theorem exec_ptpIncWrite (val : Word) (s : State) : exec (.ptpIncWrite val) s = execPtpIncWrite val s := (rfl)
theorem exec_ptpAdj (val : Word) (s : State) : exec (.ptpAdj val) s = execPtpAdj val s := (rfl)
theorem exec_triggerArm (t : Nat) (val : Word) (s : State) : exec (.triggerArm t val) s = execTriggerArm t val s := (rfl)
theorem exec_triggerFire (t : Nat) (s : State) : exec (.triggerFire t) s = execTriggerFire t s := (rfl)
theorem exec_captureEdge (c : Nat) (rising close : Bool) (s : State) : exec (.captureEdge c rising close) s = execCaptureEdge c rising close s := (rfl)
theorem exec_txtsPop (n : Nat) (s : State) : exec (.txtsPop n) s = execTxtsPop n s := (rfl)
theorem exec_capPop (c : Nat) (s : State) : exec (.capPop c) s = execCapPop c s := (rfl)
theorem exec_mdioCmd (val : Word) (s : State) : exec (.mdioCmd val) s = execMdioCmd val s := (rfl)
theorem exec_mdioDone (data : Nat) (s : State) : exec (.mdioDone data) s = execMdioDone data s := (rfl)
theorem exec_audioMonitorEdge (n : Nat) (out : Bool) (period : Nat) (s : State) : exec (.audioMonitorEdge n out period) s = execAudioMonitorEdge n out period s := (rfl)
theorem exec_audioMonitorStop (n : Nat) (out : Bool) (s : State) : exec (.audioMonitorStop n out) s = execAudioMonitorStop n out s := (rfl)
theorem exec_audioRateMeasure (n : Nat) (out : Bool) (s : State) : exec (.audioRateMeasure n out) s = execAudioRateMeasure n out s := (rfl)
theorem exec_audioBlockRx (n : Nat) (frames : List (Nat × Nat × Nat)) (s : State) : exec (.audioBlockRx n frames) s = execAudioBlockRx n frames s := (rfl)
theorem exec_audioOutputBlock (n : Nat) (ue : List Nat) (s : State) : exec (.audioOutputBlock n ue) s = execAudioOutputBlock n ue s := (rfl)
theorem exec_audioDelayRecompute (n : Nat) (s : State) : exec (.audioDelayRecompute n) s = execAudioDelayRecompute n s := (rfl)
theorem exec_audioUnderrun (n k : Nat) (s : State) : exec (.audioUnderrun n k) s = execAudioUnderrun n k s := (rfl)
theorem exec_audioTsPop (n : Nat) (s : State) : exec (.audioTsPop n) s = execAudioTsPop n s := (rfl)
theorem exec_audioCsInRead (n : Nat) (s : State) : exec (.audioCsInRead n) s = execAudioCsInRead n s := (rfl)
theorem exec_dieSensorSample (d i : Nat) (t : Int) (s : State) : exec (.dieSensorSample d x t) s = execDieSensorSample d x t s := (rfl)
theorem exec_throttleStepDown (d : Nat) (s : State) : exec (.throttleStepDown d) s = execThrottleStepDown d s := (rfl)
theorem exec_moduleSensorSample (j : Nat) (bytes : Option (Nat × Nat)) (s : State) : exec (.moduleSensorSample j bytes) s = execModuleSensorSample j bytes s := (rfl)
theorem exec_thermalTrip (d i : Nat) (t : Int) (s : State) : exec (.thermalTrip d x t) s = execThermalTrip d x t s := (rfl)
theorem exec_thClr (val : Word) (s : State) : exec (.thClr val) s = execThClr val s := (rfl)
theorem exec_thLimitWrite (reg : Nat) (val : Word) (s : State) : exec (.thLimitWrite reg val) s = execThLimitWrite reg val s := (rfl)
theorem exec_crcStart (u : Nat) (s : State) : exec (.crcStart u) s = execCrcStart u s := (rfl)
theorem exec_crcData (u size : Nat) (val : Word) (s : State) : exec (.crcData u size val) s = execCrcData u size val s := (rfl)
theorem exec_crcConfigWrite (u off : Nat) (val : Word) (s : State) : exec (.crcConfigWrite u off val) s = execCrcConfigWrite u off val s := (rfl)
theorem exec_crcResultComplete (u : Nat) (s : State) : exec (.crcResultComplete u) s = execCrcResultComplete u s := (rfl)
theorem exec_crcStateRead (u : Nat) (s : State) : exec (.crcStateRead u) s = execCrcStateRead u s := (rfl)
theorem exec_crcResultInfoRead (u : Nat) (s : State) : exec (.crcResultInfoRead u) s = execCrcResultInfoRead u s := (rfl)
theorem exec_installFw (fw : Option FwImage) (mould : Option MouldImage) (s : State) : exec (.installFw fw mould) s = execInstallFw fw mould s := (rfl)
theorem exec_installTile (file : Option Package) (s : State) : exec (.installTile file) s = execInstallTile file s := (rfl)
theorem exec_installRemould (bytes : Option (List Nat)) (contents : MouldImage) (s : State) : exec (.installRemould bytes contents) s = execInstallRemould bytes contents s := (rfl)
theorem exec_confirm (late : Bool) (s : State) : exec (.confirm late) s = execConfirm late s := (rfl)
theorem exec_fwBegin (a : Arrival) (src seq dest kind total id mseq last : Nat) (dirB : Bool) (s : State) : exec (.fwBegin a src seq dest kind total id mseq last dirB) s = execFwBegin a src seq dest kind total id mseq last dirB s := (rfl)
theorem exec_fwData (a : Arrival) (src seq dest off : Nat) (bytes : List Nat) (s : State) : exec (.fwData a src seq dest off bytes) s = execFwData a src seq dest off bytes s := (rfl)
theorem exec_fwEnd (a : Arrival) (src seq dest total : Nat) (s : State) : exec (.fwEnd a src seq dest total) s = execFwEnd a src seq dest total s := (rfl)
theorem exec_fwVerifyDone (regs : List (Nat × Word)) (contents : MouldImage) (s : State) : exec (.fwVerifyDone regs contents) s = execFwVerifyDone regs contents s := (rfl)
theorem exec_fwFlashWriteDone (ok : Bool) (s : State) : exec (.fwFlashWriteDone ok) s = execFwFlashWriteDone ok s := (rfl)
theorem exec_fwActivate (a : Arrival) (src seq op sFrame version win tries : Nat) (s : State) : exec (.fwActivate a src seq op sFrame version win tries) s = execFwActivate a src seq op sFrame version win tries s := (rfl)
theorem exec_fwConfirm (a : Arrival) (src seq version : Nat) (s : State) : exec (.fwConfirm a src seq version) s = execFwConfirm a src seq version s := (rfl)
theorem exec_fwAbort (a : Arrival) (src seq dest : Nat) (s : State) : exec (.fwAbort a src seq dest) s = execFwAbort a src seq dest s := (rfl)
theorem exec_fwState (a : Arrival) (addr : Nat) (payload : List Nat) (s : State) : exec (.fwState a addr payload) s = execFwState a addr payload s := (rfl)
theorem exec_distStart (p : Nat) (val : Word) (s : State) : exec (.distStart p val) s = execDistStart p val s := (rfl)
theorem exec_distAbort (p : Nat) (val : Word) (s : State) : exec (.distAbort p val) s = execDistAbort p val s := (rfl)
theorem exec_enroll (slot : Nat) (s : State) : exec (.enroll slot) s = execEnroll slot s := (rfl)
theorem exec_revoke (slot : Nat) (s : State) : exec (.revoke slot) s = execRevoke slot s := (rfl)
theorem exec_unlock (slot : Nat) (s : State) : exec (.unlock slot) s = execUnlock slot s := (rfl)
theorem exec_elogSelWrite (val : Word) (s : State) : exec (.elogSelWrite val) s = execElogSelWrite val s := (rfl)
theorem exec_vs (rd : Bool) (codes : List Nat) (v : VsTurn) (s : State) : exec (.vs rd codes period) s = execVs rd codes period s := (rfl)
theorem exec_ls (rd : Bool) (codes : List Nat) (s : State) : exec (.ls rd codes) s = execLs rd codes s := (rfl)
theorem exec_k24Write (rd : Bool) (codes : List Nat) (s : State) : exec (.k24Write rd codes) s = execK24Write rd codes s := (rfl)
theorem exec_k24Read (rd : Bool) (codes : List Nat) (s : State) : exec (.k24Read rd codes) s = execK24Read rd codes s := (rfl)
theorem exec_k24Block (rd : Bool) (codes : List Nat) (s : State) : exec (.k24Block rd codes) s = execK24Block rd codes s := (rfl)
theorem exec_rsp (l : LegacyIn) (s : State) : exec (.rsp l) s = execRsp l s := (rfl)
theorem exec_k24GamDataAccess (val : Option Nat) (s : State) : exec (.k24GamDataAccess val) s = execK24GamDataAccess val s := (rfl)
theorem exec_k24GainDataAccess (val : Option Nat) (s : State) : exec (.k24GainDataAccess val) s = execK24GainDataAccess val s := (rfl)
theorem exec_k24Save (key : Nat) (s : State) : exec (.k24Save key) s = execK24Save key s := (rfl)
theorem exec_updData (byte : Nat) (s : State) : exec (.updData byte) s = execUpdData byte s := (rfl)
theorem exec_irqCause (c : Nat) (s : State) : exec (.irqCause c) s = execIrqCause c s := (rfl)
theorem exec_msixSend (v : Nat) (s : State) : exec (.msixSend v) s = execMsixSend v s := (rfl)
theorem exec_irqAck (val : Word) (s : State) : exec (.irqAck val) s = execIrqAck val s := (rfl)
theorem exec_irqConfigWrite (addr : Nat) (val : Word) (s : State) : exec (.irqConfigWrite addr val) s = execIrqConfigWrite addr val s := (rfl)
theorem exec_extest (cells : List Bool) (seen : Nat) (s : State) : exec (.extest cells seen) s = execExtest cells seen s := (rfl)
theorem exec_samplePreload (cells : List Bool) (seen : Nat) (s : State) : exec (.samplePreload cells seen) s = execSamplePreload cells seen s := (rfl)
theorem exec_elogSel (sel : Nat) (s : State) : exec (.elogSel sel) s = execElogSel sel s := (rfl)
theorem exec_dbgAccess (addr : Nat) (val : Option Word) (s : State) : exec (.dbgAccess addr val) s = execDbgAccess addr val s := (rfl)
theorem exec_bypass (code : Nat) (s : State) : exec (.bypass code) s = execBypass code s := (rfl)
theorem exec_railFault (dark : Bool) (s : State) : exec (.railFault dark) s = execRailFault dark s := (rfl)
theorem exec_legacyLaneLock (lane : Nat) (s : State) : exec (.legacyLaneLock lane) s = execLegacyLaneLock lane s := (rfl)
theorem exec_legacyLaneLockLost (lane : Nat) (s : State) : exec (.legacyLaneLockLost lane) s = execLegacyLaneLockLost lane s := (rfl)
theorem exec_chainRefMarkerRx (p : Nat) (lag : Int) (pkt : RasterPkt) (s : State) : exec (.chainRefMarkerRx p lag pkt) s = execChainRefMarkerRx p lag pkt s := (rfl)
theorem exec_msixUnmask (busMaster enable funcMask : Bool) (vecMask : Nat) (entries : List (Nat × Nat × Nat)) (s : State) : exec (.msixUnmask busMaster enable funcMask vecMask entries) s = execMsixUnmask busMaster enable funcMask vecMask entries s := (rfl)
theorem exec_idleTimerExpiry (c bank : Nat) (s : State) : exec (.idleTimerExpiry c bank) s = execIdleTimerExpiry c bank s := (rfl)
theorem exec_dramClassPromotion (c i : Nat) (s : State) : exec (.dramClassPromotion c x) s = execDramClassPromotion c x s := (rfl)
theorem exec_calAdaptationSettled (g : Nat) (eq : Word) (s : State) : exec (.calAdaptationSettled g eq) s = execCalAdaptationSettled g eq s := (rfl)
theorem exec_installDone (ok : Bool) (s : State) : exec (.installDone ok) s = execInstallDone ok s := (rfl)
theorem exec_setCmdDone (drop : Bool) (s : State) : exec (.setCmdDone drop) s = execSetCmdDone drop s := (rfl)
theorem exec_tableCmdDone (ue : Bool) (s : State) : exec (.tableCmdDone ue) s = execTableCmdDone ue s := (rfl)
theorem exec_ingFmtRead (v e : Nat) (s : State) : exec (.ingFmtRead v e) s = execIngFmtRead v e s := (rfl)
theorem exec_errLastRead (c : Nat) (s : State) : exec (.errLastRead c) s = execErrLastRead c s := (rfl)
theorem exec_ocrcInfoRead (q : Nat) (s : State) : exec (.ocrcInfoRead q) s = execOcrcInfoRead q s := (rfl)
theorem exec_updVerifyDone (regs : List (Nat × Word)) (contents : MouldImage) (s : State) : exec (.updVerifyDone regs contents) s = execUpdVerifyDone regs contents s := (rfl)
theorem exec_updWriteDone (ok : Bool) (s : State) : exec (.updWriteDone ok) s = execUpdWriteDone ok s := (rfl)
theorem exec_resetAssert (s : State) : exec (.resetAssert) s = execResetAssert s := (rfl)
theorem exec_perstRelease (s : State) : exec (.perstRelease) s = execPerstRelease s := (rfl)
theorem exec_perstAssert (s : State) : exec (.perstAssert) s = execPerstAssert s := (rfl)
theorem exec_flr (s : State) : exec (.flr) s = execFlr s := (rfl)
theorem exec_remouldVerify (s : State) : exec (.remouldVerify) s = execRemouldVerify s := (rfl)
theorem exec_remouldArm (s : State) : exec (.remouldArm) s = execRemouldArm s := (rfl)
theorem exec_remouldCancel (s : State) : exec (.remouldCancel) s = execRemouldCancel s := (rfl)
theorem exec_remouldPartnerTimeout (s : State) : exec (.remouldPartnerTimeout) s = execRemouldPartnerTimeout s := (rfl)
theorem exec_remouldGoCheck (s : State) : exec (.remouldGoCheck) s = execRemouldGoCheck s := (rfl)
theorem exec_remouldSwitch (s : State) : exec (.remouldSwitch) s = execRemouldSwitch s := (rfl)
theorem exec_remouldNoGo (s : State) : exec (.remouldNoGo) s = execRemouldNoGo s := (rfl)
theorem exec_endDetect (s : State) : exec (.endDetect) s = execEndDetect s := (rfl)
theorem exec_tileReady (s : State) : exec (.tileReady) s = execTileReady s := (rfl)
theorem exec_rasterTick (s : State) : exec (.rasterTick) s = execRasterTick s := (rfl)
theorem exec_frameStart (s : State) : exec (.frameStart) s = execFrameStart s := (rfl)
theorem exec_genlockStop (s : State) : exec (.genlockStop) s = execGenlockStop s := (rfl)
theorem exec_chainRefMarkerLoss (s : State) : exec (.chainRefMarkerLoss) s = execChainRefMarkerLoss s := (rfl)
theorem exec_schedJudge (s : State) : exec (.schedJudge) s = execSchedJudge s := (rfl)
theorem exec_commitCut (s : State) : exec (.commitCut) s = execCommitCut s := (rfl)
theorem exec_commitGoAccept (s : State) : exec (.commitGoAccept) s = execCommitGoAccept s := (rfl)
theorem exec_safeDarkPinSender (s : State) : exec (.safeDarkPinSender) s = execSafeDarkPinSender s := (rfl)
theorem exec_safeDarkPinTile (s : State) : exec (.safeDarkPinTile) s = execSafeDarkPinTile s := (rfl)
theorem exec_trimSave (s : State) : exec (.trimSave) s = execTrimSave s := (rfl)
theorem exec_tableRead (s : State) : exec (.tableRead) s = execTableRead s := (rfl)
theorem exec_tableWrite (s : State) : exec (.tableWrite) s = execTableWrite s := (rfl)
theorem exec_tableSave (s : State) : exec (.tableSave) s = execTableSave s := (rfl)
theorem exec_tableSaveDone (s : State) : exec (.tableSaveDone) s = execTableSaveDone s := (rfl)
theorem exec_pressDarkEval (s : State) : exec (.pressDarkEval) s = execPressDarkEval s := (rfl)
theorem exec_refereeDeadline (s : State) : exec (.refereeDeadline) s = execRefereeDeadline s := (rfl)
theorem exec_refereeFirstDecision (s : State) : exec (.refereeFirstDecision) s = execRefereeFirstDecision s := (rfl)
theorem exec_deputyTimeout (s : State) : exec (.deputyTimeout) s = execDeputyTimeout s := (rfl)
theorem exec_hostKickTimeout (s : State) : exec (.hostKickTimeout) s = execHostKickTimeout s := (rfl)
theorem exec_backoffExpiry (s : State) : exec (.backoffExpiry) s = execBackoffExpiry s := (rfl)
theorem exec_pauseExpiry (s : State) : exec (.pauseExpiry) s = execPauseExpiry s := (rfl)
theorem exec_flowPauseSend (s : State) : exec (.flowPauseSend) s = execFlowPauseSend s := (rfl)
theorem exec_wheelCycleStart (s : State) : exec (.wheelCycleStart) s = execWheelCycleStart s := (rfl)
theorem exec_wheelEntryChange (s : State) : exec (.wheelEntryChange) s = execWheelEntryChange s := (rfl)
theorem exec_ptpTick (s : State) : exec (.ptpTick) s = execPtpTick s := (rfl)
theorem exec_ptpSet (s : State) : exec (.ptpSet) s = execPtpSet s := (rfl)
theorem exec_ptpNsRead (s : State) : exec (.ptpNsRead) s = execPtpNsRead s := (rfl)
theorem exec_fwArm (s : State) : exec (.fwArm) s = execFwArm s := (rfl)
theorem exec_armRevert (s : State) : exec (.armRevert) s = execArmRevert s := (rfl)
theorem exec_fwCancel (s : State) : exec (.fwCancel) s = execFwCancel s := (rfl)
theorem exec_fwActivateCheck (s : State) : exec (.fwActivateCheck) s = execFwActivateCheck s := (rfl)
theorem exec_confirmWindowExpiry (s : State) : exec (.confirmWindowExpiry) s = execConfirmWindowExpiry s := (rfl)
theorem exec_setStore (s : State) : exec (.setStore) s = execSetStore s := (rfl)
theorem exec_setDelete (s : State) : exec (.setDelete) s = execSetDelete s := (rfl)
theorem exec_setClear (s : State) : exec (.setClear) s = execSetClear s := (rfl)
theorem exec_lockDebug (s : State) : exec (.lockDebug) s = execLockDebug s := (rfl)
theorem exec_relock (s : State) : exec (.relock) s = execRelock s := (rfl)
theorem exec_logEvent (s : State) : exec (.logEvent) s = execLogEvent s := (rfl)
theorem exec_elogDataRead (s : State) : exec (.elogDataRead) s = execElogDataRead s := (rfl)
theorem exec_clrRing (s : State) : exec (.clrRing) s = execClrRing s := (rfl)
theorem exec_clrFatal (s : State) : exec (.clrFatal) s = execClrFatal s := (rfl)
theorem exec_watchdogKick (s : State) : exec (.watchdogKick) s = execWatchdogKick s := (rfl)
theorem exec_watchdogWarn (s : State) : exec (.watchdogWarn) s = execWatchdogWarn s := (rfl)
theorem exec_watchdogRestart (s : State) : exec (.watchdogRestart) s = execWatchdogRestart s := (rfl)
theorem exec_vsHoldExpiry (s : State) : exec (.vsHoldExpiry) s = execVsHoldExpiry s := (rfl)
theorem exec_vsMissing (s : State) : exec (.vsMissing) s = execVsMissing s := (rfl)
theorem exec_k24ErrPop (s : State) : exec (.k24ErrPop) s = execK24ErrPop s := (rfl)
theorem exec_updBegin (s : State) : exec (.updBegin) s = execUpdBegin s := (rfl)
theorem exec_updEnd (s : State) : exec (.updEnd) s = execUpdEnd s := (rfl)
theorem exec_updApply (s : State) : exec (.updApply) s = execUpdApply s := (rfl)
theorem exec_updConfirm (s : State) : exec (.updConfirm) s = execUpdConfirm s := (rfl)
theorem exec_updAbort (s : State) : exec (.updAbort) s = execUpdAbort s := (rfl)
theorem exec_uidRead (s : State) : exec (.uidRead) s = execUidRead s := (rfl)
theorem exec_idcode (s : State) : exec (.idcode) s = execIdcode s := (rfl)
theorem exec_elogData (s : State) : exec (.elogData) s = execElogData s := (rfl)
theorem exec_railsGood (s : State) : exec (.railsGood) s = execRailsGood s := (rfl)
theorem exec_safeDarkPinRelease (s : State) : exec (.safeDarkPinRelease) s = execSafeDarkPinRelease s := (rfl)
theorem exec_fwArmPartnerTimeout (s : State) : exec (.fwArmPartnerTimeout) s = execFwArmPartnerTimeout s := (rfl)
theorem exec_remouldVerifyDone (s : State) : exec (.remouldVerifyDone) s = execRemouldVerifyDone s := (rfl)
theorem exec_secCmdDone (s : State) : exec (.secCmdDone) s = execSecCmdDone s := (rfl)
theorem exec_secChalRead (s : State) : exec (.secChalRead) s = execSecChalRead s := (rfl)
theorem exec_updApplyTimeout (s : State) : exec (.updApplyTimeout) s = execUpdApplyTimeout s := (rfl)

end Sys2Proof.Machine
end

