-- ==== Sys2Proof/Laws/Tab.lean ====
section
/-!
SUPPORT. Tables: a read after a write, and that every table operation keeps the canonical form; the same for memory (DRAM bytes and
packet RAM bytes are such tables).
-/

namespace Sys2Proof.Machine

variable {α : Type}

/-! ### Reading after writing -/

theorem Tab.find_ins (k : Nat) (v : α) (t : Tab α) (j : Nat) :
    Tab.find j (Tab.ins k v t) = if j = k then some v else Tab.find j t := by
  induction t with
  | nil =>
    by_cases h : j = k
    · simp [Tab.ins, Tab.find, h]
    · simp [Tab.ins, Tab.find, h, Ne.symm h]
  | cons e t ih =>
    obtain ⟨i, w⟩ := e
    rcases lt_trichotomy k i with h | h | h
    · simp only [Tab.ins, h, if_true, Tab.find]
      by_cases hj : j = k
      · simp [hj]
      · simp [hj, Ne.symm hj]
    · subst h
      simp only [Tab.ins, lt_irrefl, if_false, if_true, Tab.find]
      by_cases hj : j = k
      · simp [hj]
      · simp [hj, Ne.symm hj]
    · simp only [Tab.ins, Nat.not_lt.mpr h.le, (Nat.ne_of_gt h), if_false, Tab.find, ih]
      by_cases hi : i = j
      · subst hi; simp [Nat.ne_of_lt h]
      · simp [hi]

theorem Tab.find_del (k : Nat) (t : Tab α) (j : Nat) :
    Tab.find j (Tab.del k t) = if j = k then none else Tab.find j t := by
  induction t with
  | nil => simp [Tab.del, Tab.find]
  | cons e t ih =>
    obtain ⟨i, w⟩ := e
    by_cases hi : i = k
    · subst hi
      simp only [Tab.del, if_true, ih, Tab.find]
      by_cases hj : j = i
      · simp [hj]
      · simp [hj, Ne.symm hj]
    · simp only [Tab.del, hi, if_false, Tab.find, ih]
      by_cases hij : i = j
      · subst hij; simp [hi]
      · simp [hij]

/-- A read after a write: the written key gives the written value and every other key what it gave. -/
theorem Tab.get_set [DecidableEq α] (d : Nat → α) (k : Nat) (v : α) (t : Tab α) (j : Nat) :
    Tab.get d (Tab.set d k v t) j = if j = k then v else Tab.get d t j := by
  unfold Tab.get Tab.set
  by_cases hv : v = d k
  · simp only [hv, if_true, Tab.find_del]
    by_cases hj : j = k <;> simp [hj]
  · simp only [hv, if_false, Tab.find_ins]
    by_cases hj : j = k <;> simp [hj]

@[simp] theorem Tab.get_set_same [DecidableEq α] (d : Nat → α) (k : Nat) (v : α) (t : Tab α) :
    Tab.get d (Tab.set d k v t) k = v := by rw [Tab.get_set]; simp

theorem Tab.get_set_ne [DecidableEq α] (d : Nat → α) {k j : Nat} (v : α) (t : Tab α) (h : j ≠ k) :
    Tab.get d (Tab.set d k v t) j = Tab.get d t j := by rw [Tab.get_set]; simp [h]

/-! ### The canonical form -/

theorem Tab.above_mono {b c : Nat} (h : b ≤ c) : ∀ t : Tab α, Tab.above c t = true → Tab.above b t = true
  | [], _ => rfl
  | (j, w) :: t, ha => by
    simp only [Tab.above, Bool.and_eq_true, decide_eq_true_eq] at ha ⊢
    exact ⟨lt_of_le_of_lt h ha.1, Tab.above_mono h t ha.2⟩

theorem Tab.above_ins {b k : Nat} (v : α) (hb : b < k) : ∀ t : Tab α, Tab.above b t = true → Tab.above b (Tab.ins k v t) = true
  | [], _ => by simp [Tab.ins, Tab.above, hb]
  | (j, w) :: t, ha => by
    simp only [Tab.above, Bool.and_eq_true, decide_eq_true_eq] at ha
    unfold Tab.ins
    split
    · simp [Tab.above, hb, ha]
    · split
      · simp [Tab.above, hb, ha]
      · simp [Tab.above, ha.1, Tab.above_ins v hb t ha.2]

theorem Tab.above_del {b : Nat} (k : Nat) : ∀ t : Tab α, Tab.above b t = true → Tab.above b (Tab.del k t) = true
  | [], _ => rfl
  | (j, w) :: t, ha => by
    simp only [Tab.above, Bool.and_eq_true, decide_eq_true_eq] at ha
    unfold Tab.del
    split
    · exact Tab.above_del k t ha.2
    · simp [Tab.above, ha.1, Tab.above_del k t ha.2]

theorem Tab.rising_ins (k : Nat) (v : α) : ∀ t : Tab α, Tab.rising t = true → Tab.rising (Tab.ins k v t) = true
  | [], _ => rfl
  | (j, w) :: t, hr => by
    simp only [Tab.rising, Bool.and_eq_true] at hr
    unfold Tab.ins
    split
    · rename_i h
      simp [Tab.rising, Tab.above, h, hr, Tab.above_mono h.le t hr.1]
    · split
      · rename_i h; subst h
        simp [Tab.rising, hr]
      · rename_i h1 h2
        have : j < k := by omega
        simp [Tab.rising, Tab.above_ins v this t hr.1, Tab.rising_ins k v t hr.2]

theorem Tab.rising_del (k : Nat) : ∀ t : Tab α, Tab.rising t = true → Tab.rising (Tab.del k t) = true
  | [], _ => rfl
  | (j, w) :: t, hr => by
    simp only [Tab.rising, Bool.and_eq_true] at hr
    unfold Tab.del
    split
    · exact Tab.rising_del k t hr.2
    · simp [Tab.rising, Tab.above_del k t hr.1, Tab.rising_del k t hr.2]

theorem Tab.lean_cons [DecidableEq α] (d : Nat → α) (e : Nat × α) (t : Tab α) :
    Tab.lean d (e :: t) = (decide (e.2 ≠ d e.1) && Tab.lean d t) := rfl

theorem Tab.lean_ins [DecidableEq α] (d : Nat → α) (k : Nat) (v : α) (hv : v ≠ d k) :
    ∀ t : Tab α, Tab.lean d t = true → Tab.lean d (Tab.ins k v t) = true
  | [], _ => by simp [Tab.ins, Tab.lean, hv]
  | (j, w) :: t, hl => by
    unfold Tab.ins
    rw [Tab.lean_cons, Bool.and_eq_true] at hl
    split
    · simp [Tab.lean_cons, hv, hl]
    · split
      · rename_i h; subst h
        simp [Tab.lean_cons, hv, hl]
      · rw [Tab.lean_cons, hl.1, Tab.lean_ins d k v hv t hl.2]; rfl

theorem Tab.lean_del [DecidableEq α] (d : Nat → α) (k : Nat) :
    ∀ t : Tab α, Tab.lean d t = true → Tab.lean d (Tab.del k t) = true
  | [], _ => rfl
  | (j, w) :: t, hl => by
    unfold Tab.del
    rw [Tab.lean_cons, Bool.and_eq_true] at hl
    split
    · exact Tab.lean_del d k t hl.2
    · rw [Tab.lean_cons, hl.1, Tab.lean_del d k t hl.2]; rfl

/-- A write keeps the canonical form. -/
theorem Tab.wf_set [DecidableEq α] (d : Nat → α) (k : Nat) (v : α) (t : Tab α) (h : Tab.wf d t = true) :
    Tab.wf d (Tab.set d k v t) = true := by
  unfold Tab.wf at h ⊢
  rw [Bool.and_eq_true] at h ⊢
  unfold Tab.set
  split
  · exact ⟨Tab.rising_del k t h.1, Tab.lean_del d k t h.2⟩
  · rename_i hv
    exact ⟨Tab.rising_ins k v t h.1, Tab.lean_ins d k v hv t h.2⟩

theorem Tab.wf_nil [DecidableEq α] (d : Nat → α) : Tab.wf d ([] : Tab α) = true := rfl

/-! ### Memory (R418 packet RAM, R235 DRAM) -/

@[simp] theorem State.byte_setByte (s : State) (a : Nat) (b : Byte) (c : Nat) :
    (s.setByte a b).byte c = if c = a then b else s.byte c := Tab.get_set blankByte a b s.dram c

/-- Every DRAM write keeps the memory's canonical form. -/
theorem State.setByte_wf (s : State) (a : Nat) (b : Byte) (h : Memory.wf s.dram = true) :
    Memory.wf (s.setByte a b).dram = true := Tab.wf_set blankByte a b s.dram h

theorem State.setBytesN_wf : ∀ (n : Nat) (s : State) (a v : Nat), Memory.wf s.dram = true → Memory.wf (s.setBytesN a n v).dram = true
  | 0, _, _, _, h => h
  | n + 1, s, a, v, h => State.setBytesN_wf n (s.setByte a (BitVec.ofNat 8 v)) (a + 1) (v / 256) (s.setByte_wf a _ h)

/-- A write of `n` bytes leaves every byte outside them. -/
theorem State.byte_setBytesN : ∀ (n : Nat) (s : State) (a v c : Nat), (c < a ∨ a + n ≤ c) → (s.setBytesN a n v).byte c = s.byte c
  | 0, _, _, _, _, _ => rfl
  | n + 1, s, a, v, c, h => by
    unfold State.setBytesN
    rw [State.byte_setBytesN n _ _ _ _ (by omega), State.byte_setByte, if_neg (by omega)]

theorem State.setP14_wf (s : State) (burst k w : Nat) (h : Memory.wf s.dram = true) : Memory.wf (s.setP14 burst k w).dram = true :=
  by
  unfold State.setP14; exact State.setBytesN_wf 5 s _ _ h

theorem State.putPixel_wf (s : State) (c : StoreCfg) (b tag x y w : Nat) (h : Memory.wf s.dram = true) :
    Memory.wf (s.putPixel c b tag x y w).dram = true := by
  unfold State.putPixel
  simp only
  split
  · exact State.setByte_wf _ _ _ (State.setP14_wf s _ _ _ h)
  · exact h

/-- A property that every step of `each` keeps holds at its end. -/
theorem State.each_keeps {β : Type} (P : State → Prop) (f : β → State → State) (hf : ∀ b s, P s → P (f b s)) :
    ∀ (l : List β) (s : State), P s → P (s.each l f)
  | [], _, h => h
  | b :: l, s, h => State.each_keeps P f hf l (f b s) (hf b s h)

theorem State.putRow_wf (s : State) (c : StoreCfg) (b tag x y wid : Nat) (words : List Nat) (h : Memory.wf s.dram = true) :
    Memory.wf (s.putRow c b tag x y wid words).dram = true := by
  unfold State.putRow
  exact State.each_keeps (fun s => Memory.wf s.dram = true) _ (fun _ s h => State.putPixel_wf s _ _ _ _ _ _ h) _ _
    (State.each_keeps (fun s => Memory.wf s.dram = true) _ (fun _ s h => State.putPixel_wf s _ _ _ _ _ _ h) _ _ h)

@[simp] theorem State.pbyte_setPbyte (s : State) (a : Nat) (b : Byte) (c : Nat) :
    (s.setPbyte a b).pbyte c = if c = a then b else s.pbyte c := Tab.get_set blankByte a b s.pram c

/-- Every packet RAM write keeps the memory's canonical form. -/
theorem State.setPbyte_wf (s : State) (a : Nat) (b : Byte) (h : Memory.wf s.pram = true) :
    Memory.wf (s.setPbyte a b).pram = true := Tab.wf_set blankByte a b s.pram h

theorem State.setPword_wf (s : State) (n off : Nat) (w : Word) (h : Memory.wf s.pram = true) :
    Memory.wf (s.setPword n off w).pram = true :=
  State.each_keeps (fun s => Memory.wf s.pram = true) _ (fun _ s h => State.setPbyte_wf s _ _ h) _ _ h

theorem reset_memory_wf : Memory.wf State.reset.dram = true ∧ Memory.wf State.reset.pram = true := ⟨rfl, rfl⟩

end Sys2Proof.Machine
end

