-- ==== Sys2Proof/Laws/State.lean ====
section
/-!
SUPPORT. One lemma for each field of the state and each named update: what the update leaves alone, true by unfolding. A register read
passes through every update of another record.
-/

namespace Sys2Proof.Machine

/-! ### wr -/

@[simp] theorem State.wr_pend (s : State) (a : Nat) (w : Word) : (s.wr a w).pend = s.pend := (rfl)
@[simp] theorem State.wr_taken (s : State) (a : Nat) (w : Word) : (s.wr a w).taken = s.taken := (rfl)
@[simp] theorem State.wr_acc (s : State) (a : Nat) (w : Word) : (s.wr a w).acc = s.acc := (rfl)
@[simp] theorem State.wr_sys (s : State) (a : Nat) (w : Word) : (s.wr a w).sys = s.sys := (rfl)
@[simp] theorem State.wr_links (s : State) (a : Nat) (w : Word) : (s.wr a w).links = s.links := (rfl)
@[simp] theorem State.wr_pcie (s : State) (a : Nat) (w : Word) : (s.wr a w).pcie = s.pcie := (rfl)
@[simp] theorem State.wr_jtag (s : State) (a : Nat) (w : Word) : (s.wr a w).jtag = s.jtag := (rfl)
@[simp] theorem State.wr_log (s : State) (a : Nat) (w : Word) : (s.wr a w).log = s.log := (rfl)
@[simp] theorem State.wr_mould (s : State) (a : Nat) (w : Word) : (s.wr a w).mould = s.mould := (rfl)
@[simp] theorem State.wr_ports (s : State) (a : Nat) (w : Word) : (s.wr a w).ports = s.ports := (rfl)
@[simp] theorem State.wr_enum (s : State) (a : Nat) (w : Word) : (s.wr a w).enum = s.enum := (rfl)
@[simp] theorem State.wr_raster (s : State) (a : Nat) (w : Word) : (s.wr a w).raster = s.raster := (rfl)
@[simp] theorem State.wr_wtg (s : State) (a : Nat) (w : Word) : (s.wr a w).wtg = s.wtg := (rfl)
@[simp] theorem State.wr_commit (s : State) (a : Nat) (w : Word) : (s.wr a w).commit = s.commit := (rfl)
@[simp] theorem State.wr_tileRas (s : State) (a : Nat) (w : Word) : (s.wr a w).tileRas = s.tileRas := (rfl)
@[simp] theorem State.wr_tileRx (s : State) (a : Nat) (w : Word) : (s.wr a w).tileRx = s.tileRx := (rfl)
@[simp] theorem State.wr_fo (s : State) (a : Nat) (w : Word) : (s.wr a w).fo = s.fo := (rfl)
@[simp] theorem State.wr_stores (s : State) (a : Nat) (w : Word) : (s.wr a w).stores = s.stores := (rfl)
@[simp] theorem State.wr_ings (s : State) (a : Nat) (w : Word) : (s.wr a w).ings = s.ings := (rfl)
@[simp] theorem State.wr_rnds (s : State) (a : Nat) (w : Word) : (s.wr a w).rnds = s.rnds := (rfl)
@[simp] theorem State.wr_layers (s : State) (a : Nat) (w : Word) : (s.wr a w).layers = s.layers := (rfl)
@[simp] theorem State.wr_wbs (s : State) (a : Nat) (w : Word) : (s.wr a w).wbs = s.wbs := (rfl)
@[simp] theorem State.wr_comp (s : State) (a : Nat) (w : Word) : (s.wr a w).comp = s.comp := (rfl)
@[simp] theorem State.wr_dram (s : State) (a : Nat) (w : Word) : (s.wr a w).dram = s.dram := (rfl)
@[simp] theorem State.wr_line (s : State) (a : Nat) (w : Word) : (s.wr a w).line = s.line := (rfl)
@[simp] theorem State.wr_disp (s : State) (a : Nat) (w : Word) : (s.wr a w).disp = s.disp := (rfl)
@[simp] theorem State.wr_lanes (s : State) (a : Nat) (w : Word) : (s.wr a w).lanes = s.lanes := (rfl)
@[simp] theorem State.wr_cals (s : State) (a : Nat) (w : Word) : (s.wr a w).cals = s.cals := (rfl)
@[simp] theorem State.wr_cave (s : State) (a : Nat) (w : Word) : (s.wr a w).cave = s.cave := (rfl)
@[simp] theorem State.wr_tp (s : State) (a : Nat) (w : Word) : (s.wr a w).tp = s.tp := (rfl)
@[simp] theorem State.wr_press (s : State) (a : Nat) (w : Word) : (s.wr a w).press = s.press := (rfl)
@[simp] theorem State.wr_drams (s : State) (a : Nat) (w : Word) : (s.wr a w).drams = s.drams := (rfl)
@[simp] theorem State.wr_dramFc (s : State) (a : Nat) (w : Word) : (s.wr a w).dramFc = s.dramFc := (rfl)
@[simp] theorem State.wr_sensors (s : State) (a : Nat) (w : Word) : (s.wr a w).sensors = s.sensors := (rfl)
@[simp] theorem State.wr_ceils (s : State) (a : Nat) (w : Word) : (s.wr a w).ceils = s.ceils := (rfl)
@[simp] theorem State.wr_ptp (s : State) (a : Nat) (w : Word) : (s.wr a w).ptp = s.ptp := (rfl)
@[simp] theorem State.wr_nets (s : State) (a : Nat) (w : Word) : (s.wr a w).nets = s.nets := (rfl)
@[simp] theorem State.wr_wheel (s : State) (a : Nat) (w : Word) : (s.wr a w).wheel = s.wheel := (rfl)
@[simp] theorem State.wr_auds (s : State) (a : Nat) (w : Word) : (s.wr a w).auds = s.auds := (rfl)
@[simp] theorem State.wr_crcs (s : State) (a : Nat) (w : Word) : (s.wr a w).crcs = s.crcs := (rfl)
@[simp] theorem State.wr_nv (s : State) (a : Nat) (w : Word) : (s.wr a w).nv = s.nv := (rfl)
@[simp] theorem State.wr_upd (s : State) (a : Nat) (w : Word) : (s.wr a w).upd = s.upd := (rfl)
@[simp] theorem State.wr_k24 (s : State) (a : Nat) (w : Word) : (s.wr a w).k24 = s.k24 := (rfl)
@[simp] theorem State.wr_pram (s : State) (a : Nat) (w : Word) : (s.wr a w).pram = s.pram := (rfl)
@[simp] theorem State.wr_out (s : State) (a : Nat) (w : Word) : (s.wr a w).out = s.out := (rfl)
@[simp] theorem State.wr_freeN (s : State) (a : Nat) (w : Word) : (s.wr a w).freeN = s.freeN := (rfl)
@[simp] theorem State.wr_pending (s : State) (a : Nat) (w : Word) : (s.wr a w).pending = s.pending := (rfl)

/-! ### put -/

@[simp] theorem State.put_pend (s : State) (f : Fld) (v : Nat) : (s.put f v).pend = s.pend := (rfl)
@[simp] theorem State.put_taken (s : State) (f : Fld) (v : Nat) : (s.put f v).taken = s.taken := (rfl)
@[simp] theorem State.put_acc (s : State) (f : Fld) (v : Nat) : (s.put f v).acc = s.acc := (rfl)
@[simp] theorem State.put_sys (s : State) (f : Fld) (v : Nat) : (s.put f v).sys = s.sys := (rfl)
@[simp] theorem State.put_links (s : State) (f : Fld) (v : Nat) : (s.put f v).links = s.links := (rfl)
@[simp] theorem State.put_pcie (s : State) (f : Fld) (v : Nat) : (s.put f v).pcie = s.pcie := (rfl)
@[simp] theorem State.put_jtag (s : State) (f : Fld) (v : Nat) : (s.put f v).jtag = s.jtag := (rfl)
@[simp] theorem State.put_log (s : State) (f : Fld) (v : Nat) : (s.put f v).log = s.log := (rfl)
@[simp] theorem State.put_mould (s : State) (f : Fld) (v : Nat) : (s.put f v).mould = s.mould := (rfl)
@[simp] theorem State.put_ports (s : State) (f : Fld) (v : Nat) : (s.put f v).ports = s.ports := (rfl)
@[simp] theorem State.put_enum (s : State) (f : Fld) (v : Nat) : (s.put f v).enum = s.enum := (rfl)
@[simp] theorem State.put_raster (s : State) (f : Fld) (v : Nat) : (s.put f v).raster = s.raster := (rfl)
@[simp] theorem State.put_wtg (s : State) (f : Fld) (v : Nat) : (s.put f v).wtg = s.wtg := (rfl)
@[simp] theorem State.put_commit (s : State) (f : Fld) (v : Nat) : (s.put f v).commit = s.commit := (rfl)
@[simp] theorem State.put_tileRas (s : State) (f : Fld) (v : Nat) : (s.put f v).tileRas = s.tileRas := (rfl)
@[simp] theorem State.put_tileRx (s : State) (f : Fld) (v : Nat) : (s.put f v).tileRx = s.tileRx := (rfl)
@[simp] theorem State.put_fo (s : State) (f : Fld) (v : Nat) : (s.put f v).fo = s.fo := (rfl)
@[simp] theorem State.put_stores (s : State) (f : Fld) (v : Nat) : (s.put f v).stores = s.stores := (rfl)
@[simp] theorem State.put_ings (s : State) (f : Fld) (v : Nat) : (s.put f v).ings = s.ings := (rfl)
@[simp] theorem State.put_rnds (s : State) (f : Fld) (v : Nat) : (s.put f v).rnds = s.rnds := (rfl)
@[simp] theorem State.put_layers (s : State) (f : Fld) (v : Nat) : (s.put f v).layers = s.layers := (rfl)
@[simp] theorem State.put_wbs (s : State) (f : Fld) (v : Nat) : (s.put f v).wbs = s.wbs := (rfl)
@[simp] theorem State.put_comp (s : State) (f : Fld) (v : Nat) : (s.put f v).comp = s.comp := (rfl)
@[simp] theorem State.put_dram (s : State) (f : Fld) (v : Nat) : (s.put f v).dram = s.dram := (rfl)
@[simp] theorem State.put_line (s : State) (f : Fld) (v : Nat) : (s.put f v).line = s.line := (rfl)
@[simp] theorem State.put_disp (s : State) (f : Fld) (v : Nat) : (s.put f v).disp = s.disp := (rfl)
@[simp] theorem State.put_lanes (s : State) (f : Fld) (v : Nat) : (s.put f v).lanes = s.lanes := (rfl)
@[simp] theorem State.put_cals (s : State) (f : Fld) (v : Nat) : (s.put f v).cals = s.cals := (rfl)
@[simp] theorem State.put_cave (s : State) (f : Fld) (v : Nat) : (s.put f v).cave = s.cave := (rfl)
@[simp] theorem State.put_tp (s : State) (f : Fld) (v : Nat) : (s.put f v).tp = s.tp := (rfl)
@[simp] theorem State.put_press (s : State) (f : Fld) (v : Nat) : (s.put f v).press = s.press := (rfl)
@[simp] theorem State.put_drams (s : State) (f : Fld) (v : Nat) : (s.put f v).drams = s.drams := (rfl)
@[simp] theorem State.put_dramFc (s : State) (f : Fld) (v : Nat) : (s.put f v).dramFc = s.dramFc := (rfl)
@[simp] theorem State.put_sensors (s : State) (f : Fld) (v : Nat) : (s.put f v).sensors = s.sensors := (rfl)
@[simp] theorem State.put_ceils (s : State) (f : Fld) (v : Nat) : (s.put f v).ceils = s.ceils := (rfl)
@[simp] theorem State.put_ptp (s : State) (f : Fld) (v : Nat) : (s.put f v).ptp = s.ptp := (rfl)
@[simp] theorem State.put_nets (s : State) (f : Fld) (v : Nat) : (s.put f v).nets = s.nets := (rfl)
@[simp] theorem State.put_wheel (s : State) (f : Fld) (v : Nat) : (s.put f v).wheel = s.wheel := (rfl)
@[simp] theorem State.put_auds (s : State) (f : Fld) (v : Nat) : (s.put f v).auds = s.auds := (rfl)
@[simp] theorem State.put_crcs (s : State) (f : Fld) (v : Nat) : (s.put f v).crcs = s.crcs := (rfl)
@[simp] theorem State.put_nv (s : State) (f : Fld) (v : Nat) : (s.put f v).nv = s.nv := (rfl)
@[simp] theorem State.put_upd (s : State) (f : Fld) (v : Nat) : (s.put f v).upd = s.upd := (rfl)
@[simp] theorem State.put_k24 (s : State) (f : Fld) (v : Nat) : (s.put f v).k24 = s.k24 := (rfl)
@[simp] theorem State.put_pram (s : State) (f : Fld) (v : Nat) : (s.put f v).pram = s.pram := (rfl)
@[simp] theorem State.put_out (s : State) (f : Fld) (v : Nat) : (s.put f v).out = s.out := (rfl)
@[simp] theorem State.put_freeN (s : State) (f : Fld) (v : Nat) : (s.put f v).freeN = s.freeN := (rfl)
@[simp] theorem State.put_pending (s : State) (f : Fld) (v : Nat) : (s.put f v).pending = s.pending := (rfl)

/-! ### putB -/

@[simp] theorem State.putB_pend (s : State) (f : Fld) (b : Bool) : (s.putB f b).pend = s.pend := (rfl)
@[simp] theorem State.putB_taken (s : State) (f : Fld) (b : Bool) : (s.putB f b).taken = s.taken := (rfl)
@[simp] theorem State.putB_acc (s : State) (f : Fld) (b : Bool) : (s.putB f b).acc = s.acc := (rfl)
@[simp] theorem State.putB_sys (s : State) (f : Fld) (b : Bool) : (s.putB f b).sys = s.sys := (rfl)
@[simp] theorem State.putB_links (s : State) (f : Fld) (b : Bool) : (s.putB f b).links = s.links := (rfl)
@[simp] theorem State.putB_pcie (s : State) (f : Fld) (b : Bool) : (s.putB f b).pcie = s.pcie := (rfl)
@[simp] theorem State.putB_jtag (s : State) (f : Fld) (b : Bool) : (s.putB f b).jtag = s.jtag := (rfl)
@[simp] theorem State.putB_log (s : State) (f : Fld) (b : Bool) : (s.putB f b).log = s.log := (rfl)
@[simp] theorem State.putB_mould (s : State) (f : Fld) (b : Bool) : (s.putB f b).mould = s.mould := (rfl)
@[simp] theorem State.putB_ports (s : State) (f : Fld) (b : Bool) : (s.putB f b).ports = s.ports := (rfl)
@[simp] theorem State.putB_enum (s : State) (f : Fld) (b : Bool) : (s.putB f b).enum = s.enum := (rfl)
@[simp] theorem State.putB_raster (s : State) (f : Fld) (b : Bool) : (s.putB f b).raster = s.raster := (rfl)
@[simp] theorem State.putB_wtg (s : State) (f : Fld) (b : Bool) : (s.putB f b).wtg = s.wtg := (rfl)
@[simp] theorem State.putB_commit (s : State) (f : Fld) (b : Bool) : (s.putB f b).commit = s.commit := (rfl)
@[simp] theorem State.putB_tileRas (s : State) (f : Fld) (b : Bool) : (s.putB f b).tileRas = s.tileRas := (rfl)
@[simp] theorem State.putB_tileRx (s : State) (f : Fld) (b : Bool) : (s.putB f b).tileRx = s.tileRx := (rfl)
@[simp] theorem State.putB_fo (s : State) (f : Fld) (b : Bool) : (s.putB f b).fo = s.fo := (rfl)
@[simp] theorem State.putB_stores (s : State) (f : Fld) (b : Bool) : (s.putB f b).stores = s.stores := (rfl)
@[simp] theorem State.putB_ings (s : State) (f : Fld) (b : Bool) : (s.putB f b).ings = s.ings := (rfl)
@[simp] theorem State.putB_rnds (s : State) (f : Fld) (b : Bool) : (s.putB f b).rnds = s.rnds := (rfl)
@[simp] theorem State.putB_layers (s : State) (f : Fld) (b : Bool) : (s.putB f b).layers = s.layers := (rfl)
@[simp] theorem State.putB_wbs (s : State) (f : Fld) (b : Bool) : (s.putB f b).wbs = s.wbs := (rfl)
@[simp] theorem State.putB_comp (s : State) (f : Fld) (b : Bool) : (s.putB f b).comp = s.comp := (rfl)
@[simp] theorem State.putB_dram (s : State) (f : Fld) (b : Bool) : (s.putB f b).dram = s.dram := (rfl)
@[simp] theorem State.putB_line (s : State) (f : Fld) (b : Bool) : (s.putB f b).line = s.line := (rfl)
@[simp] theorem State.putB_disp (s : State) (f : Fld) (b : Bool) : (s.putB f b).disp = s.disp := (rfl)
@[simp] theorem State.putB_lanes (s : State) (f : Fld) (b : Bool) : (s.putB f b).lanes = s.lanes := (rfl)
@[simp] theorem State.putB_cals (s : State) (f : Fld) (b : Bool) : (s.putB f b).cals = s.cals := (rfl)
@[simp] theorem State.putB_cave (s : State) (f : Fld) (b : Bool) : (s.putB f b).cave = s.cave := (rfl)
@[simp] theorem State.putB_tp (s : State) (f : Fld) (b : Bool) : (s.putB f b).tp = s.tp := (rfl)
@[simp] theorem State.putB_press (s : State) (f : Fld) (b : Bool) : (s.putB f b).press = s.press := (rfl)
@[simp] theorem State.putB_drams (s : State) (f : Fld) (b : Bool) : (s.putB f b).drams = s.drams := (rfl)
@[simp] theorem State.putB_dramFc (s : State) (f : Fld) (b : Bool) : (s.putB f b).dramFc = s.dramFc := (rfl)
@[simp] theorem State.putB_sensors (s : State) (f : Fld) (b : Bool) : (s.putB f b).sensors = s.sensors := (rfl)
@[simp] theorem State.putB_ceils (s : State) (f : Fld) (b : Bool) : (s.putB f b).ceils = s.ceils := (rfl)
@[simp] theorem State.putB_ptp (s : State) (f : Fld) (b : Bool) : (s.putB f b).ptp = s.ptp := (rfl)
@[simp] theorem State.putB_nets (s : State) (f : Fld) (b : Bool) : (s.putB f b).nets = s.nets := (rfl)
@[simp] theorem State.putB_wheel (s : State) (f : Fld) (b : Bool) : (s.putB f b).wheel = s.wheel := (rfl)
@[simp] theorem State.putB_auds (s : State) (f : Fld) (b : Bool) : (s.putB f b).auds = s.auds := (rfl)
@[simp] theorem State.putB_crcs (s : State) (f : Fld) (b : Bool) : (s.putB f b).crcs = s.crcs := (rfl)
@[simp] theorem State.putB_nv (s : State) (f : Fld) (b : Bool) : (s.putB f b).nv = s.nv := (rfl)
@[simp] theorem State.putB_upd (s : State) (f : Fld) (b : Bool) : (s.putB f b).upd = s.upd := (rfl)
@[simp] theorem State.putB_k24 (s : State) (f : Fld) (b : Bool) : (s.putB f b).k24 = s.k24 := (rfl)
@[simp] theorem State.putB_pram (s : State) (f : Fld) (b : Bool) : (s.putB f b).pram = s.pram := (rfl)
@[simp] theorem State.putB_out (s : State) (f : Fld) (b : Bool) : (s.putB f b).out = s.out := (rfl)
@[simp] theorem State.putB_freeN (s : State) (f : Fld) (b : Bool) : (s.putB f b).freeN = s.freeN := (rfl)
@[simp] theorem State.putB_pending (s : State) (f : Fld) (b : Bool) : (s.putB f b).pending = s.pending := (rfl)

/-! ### putI -/

@[simp] theorem State.putI_pend (s : State) (f : Fld) (v : Int) : (s.putI f v).pend = s.pend := (rfl)
@[simp] theorem State.putI_taken (s : State) (f : Fld) (v : Int) : (s.putI f v).taken = s.taken := (rfl)
@[simp] theorem State.putI_acc (s : State) (f : Fld) (v : Int) : (s.putI f v).acc = s.acc := (rfl)
@[simp] theorem State.putI_sys (s : State) (f : Fld) (v : Int) : (s.putI f v).sys = s.sys := (rfl)
@[simp] theorem State.putI_links (s : State) (f : Fld) (v : Int) : (s.putI f v).links = s.links := (rfl)
@[simp] theorem State.putI_pcie (s : State) (f : Fld) (v : Int) : (s.putI f v).pcie = s.pcie := (rfl)
@[simp] theorem State.putI_jtag (s : State) (f : Fld) (v : Int) : (s.putI f v).jtag = s.jtag := (rfl)
@[simp] theorem State.putI_log (s : State) (f : Fld) (v : Int) : (s.putI f v).log = s.log := (rfl)
@[simp] theorem State.putI_mould (s : State) (f : Fld) (v : Int) : (s.putI f v).mould = s.mould := (rfl)
@[simp] theorem State.putI_ports (s : State) (f : Fld) (v : Int) : (s.putI f v).ports = s.ports := (rfl)
@[simp] theorem State.putI_enum (s : State) (f : Fld) (v : Int) : (s.putI f v).enum = s.enum := (rfl)
@[simp] theorem State.putI_raster (s : State) (f : Fld) (v : Int) : (s.putI f v).raster = s.raster := (rfl)
@[simp] theorem State.putI_wtg (s : State) (f : Fld) (v : Int) : (s.putI f v).wtg = s.wtg := (rfl)
@[simp] theorem State.putI_commit (s : State) (f : Fld) (v : Int) : (s.putI f v).commit = s.commit := (rfl)
@[simp] theorem State.putI_tileRas (s : State) (f : Fld) (v : Int) : (s.putI f v).tileRas = s.tileRas := (rfl)
@[simp] theorem State.putI_tileRx (s : State) (f : Fld) (v : Int) : (s.putI f v).tileRx = s.tileRx := (rfl)
@[simp] theorem State.putI_fo (s : State) (f : Fld) (v : Int) : (s.putI f v).fo = s.fo := (rfl)
@[simp] theorem State.putI_stores (s : State) (f : Fld) (v : Int) : (s.putI f v).stores = s.stores := (rfl)
@[simp] theorem State.putI_ings (s : State) (f : Fld) (v : Int) : (s.putI f v).ings = s.ings := (rfl)
@[simp] theorem State.putI_rnds (s : State) (f : Fld) (v : Int) : (s.putI f v).rnds = s.rnds := (rfl)
@[simp] theorem State.putI_layers (s : State) (f : Fld) (v : Int) : (s.putI f v).layers = s.layers := (rfl)
@[simp] theorem State.putI_wbs (s : State) (f : Fld) (v : Int) : (s.putI f v).wbs = s.wbs := (rfl)
@[simp] theorem State.putI_comp (s : State) (f : Fld) (v : Int) : (s.putI f v).comp = s.comp := (rfl)
@[simp] theorem State.putI_dram (s : State) (f : Fld) (v : Int) : (s.putI f v).dram = s.dram := (rfl)
@[simp] theorem State.putI_line (s : State) (f : Fld) (v : Int) : (s.putI f v).line = s.line := (rfl)
@[simp] theorem State.putI_disp (s : State) (f : Fld) (v : Int) : (s.putI f v).disp = s.disp := (rfl)
@[simp] theorem State.putI_lanes (s : State) (f : Fld) (v : Int) : (s.putI f v).lanes = s.lanes := (rfl)
@[simp] theorem State.putI_cals (s : State) (f : Fld) (v : Int) : (s.putI f v).cals = s.cals := (rfl)
@[simp] theorem State.putI_cave (s : State) (f : Fld) (v : Int) : (s.putI f v).cave = s.cave := (rfl)
@[simp] theorem State.putI_tp (s : State) (f : Fld) (v : Int) : (s.putI f v).tp = s.tp := (rfl)
@[simp] theorem State.putI_press (s : State) (f : Fld) (v : Int) : (s.putI f v).press = s.press := (rfl)
@[simp] theorem State.putI_drams (s : State) (f : Fld) (v : Int) : (s.putI f v).drams = s.drams := (rfl)
@[simp] theorem State.putI_dramFc (s : State) (f : Fld) (v : Int) : (s.putI f v).dramFc = s.dramFc := (rfl)
@[simp] theorem State.putI_sensors (s : State) (f : Fld) (v : Int) : (s.putI f v).sensors = s.sensors := (rfl)
@[simp] theorem State.putI_ceils (s : State) (f : Fld) (v : Int) : (s.putI f v).ceils = s.ceils := (rfl)
@[simp] theorem State.putI_ptp (s : State) (f : Fld) (v : Int) : (s.putI f v).ptp = s.ptp := (rfl)
@[simp] theorem State.putI_nets (s : State) (f : Fld) (v : Int) : (s.putI f v).nets = s.nets := (rfl)
@[simp] theorem State.putI_wheel (s : State) (f : Fld) (v : Int) : (s.putI f v).wheel = s.wheel := (rfl)
@[simp] theorem State.putI_auds (s : State) (f : Fld) (v : Int) : (s.putI f v).auds = s.auds := (rfl)
@[simp] theorem State.putI_crcs (s : State) (f : Fld) (v : Int) : (s.putI f v).crcs = s.crcs := (rfl)
@[simp] theorem State.putI_nv (s : State) (f : Fld) (v : Int) : (s.putI f v).nv = s.nv := (rfl)
@[simp] theorem State.putI_upd (s : State) (f : Fld) (v : Int) : (s.putI f v).upd = s.upd := (rfl)
@[simp] theorem State.putI_k24 (s : State) (f : Fld) (v : Int) : (s.putI f v).k24 = s.k24 := (rfl)
@[simp] theorem State.putI_pram (s : State) (f : Fld) (v : Int) : (s.putI f v).pram = s.pram := (rfl)
@[simp] theorem State.putI_out (s : State) (f : Fld) (v : Int) : (s.putI f v).out = s.out := (rfl)
@[simp] theorem State.putI_freeN (s : State) (f : Fld) (v : Int) : (s.putI f v).freeN = s.freeN := (rfl)
@[simp] theorem State.putI_pending (s : State) (f : Fld) (v : Int) : (s.putI f v).pending = s.pending := (rfl)

/-! ### addSat -/

@[simp] theorem State.addSat_pend (s : State) (f : Fld) (n : Nat) : (s.addSat f n).pend = s.pend := (rfl)
@[simp] theorem State.addSat_taken (s : State) (f : Fld) (n : Nat) : (s.addSat f n).taken = s.taken := (rfl)
@[simp] theorem State.addSat_acc (s : State) (f : Fld) (n : Nat) : (s.addSat f n).acc = s.acc := (rfl)
@[simp] theorem State.addSat_sys (s : State) (f : Fld) (n : Nat) : (s.addSat f n).sys = s.sys := (rfl)
@[simp] theorem State.addSat_links (s : State) (f : Fld) (n : Nat) : (s.addSat f n).links = s.links := (rfl)
@[simp] theorem State.addSat_pcie (s : State) (f : Fld) (n : Nat) : (s.addSat f n).pcie = s.pcie := (rfl)
@[simp] theorem State.addSat_jtag (s : State) (f : Fld) (n : Nat) : (s.addSat f n).jtag = s.jtag := (rfl)
@[simp] theorem State.addSat_log (s : State) (f : Fld) (n : Nat) : (s.addSat f n).log = s.log := (rfl)
@[simp] theorem State.addSat_mould (s : State) (f : Fld) (n : Nat) : (s.addSat f n).mould = s.mould := (rfl)
@[simp] theorem State.addSat_ports (s : State) (f : Fld) (n : Nat) : (s.addSat f n).ports = s.ports := (rfl)
@[simp] theorem State.addSat_enum (s : State) (f : Fld) (n : Nat) : (s.addSat f n).enum = s.enum := (rfl)
@[simp] theorem State.addSat_raster (s : State) (f : Fld) (n : Nat) : (s.addSat f n).raster = s.raster := (rfl)
@[simp] theorem State.addSat_wtg (s : State) (f : Fld) (n : Nat) : (s.addSat f n).wtg = s.wtg := (rfl)
@[simp] theorem State.addSat_commit (s : State) (f : Fld) (n : Nat) : (s.addSat f n).commit = s.commit := (rfl)
@[simp] theorem State.addSat_tileRas (s : State) (f : Fld) (n : Nat) : (s.addSat f n).tileRas = s.tileRas := (rfl)
@[simp] theorem State.addSat_tileRx (s : State) (f : Fld) (n : Nat) : (s.addSat f n).tileRx = s.tileRx := (rfl)
@[simp] theorem State.addSat_fo (s : State) (f : Fld) (n : Nat) : (s.addSat f n).fo = s.fo := (rfl)
@[simp] theorem State.addSat_stores (s : State) (f : Fld) (n : Nat) : (s.addSat f n).stores = s.stores := (rfl)
@[simp] theorem State.addSat_ings (s : State) (f : Fld) (n : Nat) : (s.addSat f n).ings = s.ings := (rfl)
@[simp] theorem State.addSat_rnds (s : State) (f : Fld) (n : Nat) : (s.addSat f n).rnds = s.rnds := (rfl)
@[simp] theorem State.addSat_layers (s : State) (f : Fld) (n : Nat) : (s.addSat f n).layers = s.layers := (rfl)
@[simp] theorem State.addSat_wbs (s : State) (f : Fld) (n : Nat) : (s.addSat f n).wbs = s.wbs := (rfl)
@[simp] theorem State.addSat_comp (s : State) (f : Fld) (n : Nat) : (s.addSat f n).comp = s.comp := (rfl)
@[simp] theorem State.addSat_dram (s : State) (f : Fld) (n : Nat) : (s.addSat f n).dram = s.dram := (rfl)
@[simp] theorem State.addSat_line (s : State) (f : Fld) (n : Nat) : (s.addSat f n).line = s.line := (rfl)
@[simp] theorem State.addSat_disp (s : State) (f : Fld) (n : Nat) : (s.addSat f n).disp = s.disp := (rfl)
@[simp] theorem State.addSat_lanes (s : State) (f : Fld) (n : Nat) : (s.addSat f n).lanes = s.lanes := (rfl)
@[simp] theorem State.addSat_cals (s : State) (f : Fld) (n : Nat) : (s.addSat f n).cals = s.cals := (rfl)
@[simp] theorem State.addSat_cave (s : State) (f : Fld) (n : Nat) : (s.addSat f n).cave = s.cave := (rfl)
@[simp] theorem State.addSat_tp (s : State) (f : Fld) (n : Nat) : (s.addSat f n).tp = s.tp := (rfl)
@[simp] theorem State.addSat_press (s : State) (f : Fld) (n : Nat) : (s.addSat f n).press = s.press := (rfl)
@[simp] theorem State.addSat_drams (s : State) (f : Fld) (n : Nat) : (s.addSat f n).drams = s.drams := (rfl)
@[simp] theorem State.addSat_dramFc (s : State) (f : Fld) (n : Nat) : (s.addSat f n).dramFc = s.dramFc := (rfl)
@[simp] theorem State.addSat_sensors (s : State) (f : Fld) (n : Nat) : (s.addSat f n).sensors = s.sensors := (rfl)
@[simp] theorem State.addSat_ceils (s : State) (f : Fld) (n : Nat) : (s.addSat f n).ceils = s.ceils := (rfl)
@[simp] theorem State.addSat_ptp (s : State) (f : Fld) (n : Nat) : (s.addSat f n).ptp = s.ptp := (rfl)
@[simp] theorem State.addSat_nets (s : State) (f : Fld) (n : Nat) : (s.addSat f n).nets = s.nets := (rfl)
@[simp] theorem State.addSat_wheel (s : State) (f : Fld) (n : Nat) : (s.addSat f n).wheel = s.wheel := (rfl)
@[simp] theorem State.addSat_auds (s : State) (f : Fld) (n : Nat) : (s.addSat f n).auds = s.auds := (rfl)
@[simp] theorem State.addSat_crcs (s : State) (f : Fld) (n : Nat) : (s.addSat f n).crcs = s.crcs := (rfl)
@[simp] theorem State.addSat_nv (s : State) (f : Fld) (n : Nat) : (s.addSat f n).nv = s.nv := (rfl)
@[simp] theorem State.addSat_upd (s : State) (f : Fld) (n : Nat) : (s.addSat f n).upd = s.upd := (rfl)
@[simp] theorem State.addSat_k24 (s : State) (f : Fld) (n : Nat) : (s.addSat f n).k24 = s.k24 := (rfl)
@[simp] theorem State.addSat_pram (s : State) (f : Fld) (n : Nat) : (s.addSat f n).pram = s.pram := (rfl)
@[simp] theorem State.addSat_out (s : State) (f : Fld) (n : Nat) : (s.addSat f n).out = s.out := (rfl)
@[simp] theorem State.addSat_freeN (s : State) (f : Fld) (n : Nat) : (s.addSat f n).freeN = s.freeN := (rfl)
@[simp] theorem State.addSat_pending (s : State) (f : Fld) (n : Nat) : (s.addSat f n).pending = s.pending := (rfl)

/-! ### inc -/

@[simp] theorem State.inc_pend (s : State) (f : Fld) : (s.inc f).pend = s.pend := (rfl)
@[simp] theorem State.inc_taken (s : State) (f : Fld) : (s.inc f).taken = s.taken := (rfl)
@[simp] theorem State.inc_acc (s : State) (f : Fld) : (s.inc f).acc = s.acc := (rfl)
@[simp] theorem State.inc_sys (s : State) (f : Fld) : (s.inc f).sys = s.sys := (rfl)
@[simp] theorem State.inc_links (s : State) (f : Fld) : (s.inc f).links = s.links := (rfl)
@[simp] theorem State.inc_pcie (s : State) (f : Fld) : (s.inc f).pcie = s.pcie := (rfl)
@[simp] theorem State.inc_jtag (s : State) (f : Fld) : (s.inc f).jtag = s.jtag := (rfl)
@[simp] theorem State.inc_log (s : State) (f : Fld) : (s.inc f).log = s.log := (rfl)
@[simp] theorem State.inc_mould (s : State) (f : Fld) : (s.inc f).mould = s.mould := (rfl)
@[simp] theorem State.inc_ports (s : State) (f : Fld) : (s.inc f).ports = s.ports := (rfl)
@[simp] theorem State.inc_enum (s : State) (f : Fld) : (s.inc f).enum = s.enum := (rfl)
@[simp] theorem State.inc_raster (s : State) (f : Fld) : (s.inc f).raster = s.raster := (rfl)
@[simp] theorem State.inc_wtg (s : State) (f : Fld) : (s.inc f).wtg = s.wtg := (rfl)
@[simp] theorem State.inc_commit (s : State) (f : Fld) : (s.inc f).commit = s.commit := (rfl)
@[simp] theorem State.inc_tileRas (s : State) (f : Fld) : (s.inc f).tileRas = s.tileRas := (rfl)
@[simp] theorem State.inc_tileRx (s : State) (f : Fld) : (s.inc f).tileRx = s.tileRx := (rfl)
@[simp] theorem State.inc_fo (s : State) (f : Fld) : (s.inc f).fo = s.fo := (rfl)
@[simp] theorem State.inc_stores (s : State) (f : Fld) : (s.inc f).stores = s.stores := (rfl)
@[simp] theorem State.inc_ings (s : State) (f : Fld) : (s.inc f).ings = s.ings := (rfl)
@[simp] theorem State.inc_rnds (s : State) (f : Fld) : (s.inc f).rnds = s.rnds := (rfl)
@[simp] theorem State.inc_layers (s : State) (f : Fld) : (s.inc f).layers = s.layers := (rfl)
@[simp] theorem State.inc_wbs (s : State) (f : Fld) : (s.inc f).wbs = s.wbs := (rfl)
@[simp] theorem State.inc_comp (s : State) (f : Fld) : (s.inc f).comp = s.comp := (rfl)
@[simp] theorem State.inc_dram (s : State) (f : Fld) : (s.inc f).dram = s.dram := (rfl)
@[simp] theorem State.inc_line (s : State) (f : Fld) : (s.inc f).line = s.line := (rfl)
@[simp] theorem State.inc_disp (s : State) (f : Fld) : (s.inc f).disp = s.disp := (rfl)
@[simp] theorem State.inc_lanes (s : State) (f : Fld) : (s.inc f).lanes = s.lanes := (rfl)
@[simp] theorem State.inc_cals (s : State) (f : Fld) : (s.inc f).cals = s.cals := (rfl)
@[simp] theorem State.inc_cave (s : State) (f : Fld) : (s.inc f).cave = s.cave := (rfl)
@[simp] theorem State.inc_tp (s : State) (f : Fld) : (s.inc f).tp = s.tp := (rfl)
@[simp] theorem State.inc_press (s : State) (f : Fld) : (s.inc f).press = s.press := (rfl)
@[simp] theorem State.inc_drams (s : State) (f : Fld) : (s.inc f).drams = s.drams := (rfl)
@[simp] theorem State.inc_dramFc (s : State) (f : Fld) : (s.inc f).dramFc = s.dramFc := (rfl)
@[simp] theorem State.inc_sensors (s : State) (f : Fld) : (s.inc f).sensors = s.sensors := (rfl)
@[simp] theorem State.inc_ceils (s : State) (f : Fld) : (s.inc f).ceils = s.ceils := (rfl)
@[simp] theorem State.inc_ptp (s : State) (f : Fld) : (s.inc f).ptp = s.ptp := (rfl)
@[simp] theorem State.inc_nets (s : State) (f : Fld) : (s.inc f).nets = s.nets := (rfl)
@[simp] theorem State.inc_wheel (s : State) (f : Fld) : (s.inc f).wheel = s.wheel := (rfl)
@[simp] theorem State.inc_auds (s : State) (f : Fld) : (s.inc f).auds = s.auds := (rfl)
@[simp] theorem State.inc_crcs (s : State) (f : Fld) : (s.inc f).crcs = s.crcs := (rfl)
@[simp] theorem State.inc_nv (s : State) (f : Fld) : (s.inc f).nv = s.nv := (rfl)
@[simp] theorem State.inc_upd (s : State) (f : Fld) : (s.inc f).upd = s.upd := (rfl)
@[simp] theorem State.inc_k24 (s : State) (f : Fld) : (s.inc f).k24 = s.k24 := (rfl)
@[simp] theorem State.inc_pram (s : State) (f : Fld) : (s.inc f).pram = s.pram := (rfl)
@[simp] theorem State.inc_out (s : State) (f : Fld) : (s.inc f).out = s.out := (rfl)
@[simp] theorem State.inc_freeN (s : State) (f : Fld) : (s.inc f).freeN = s.freeN := (rfl)
@[simp] theorem State.inc_pending (s : State) (f : Fld) : (s.inc f).pending = s.pending := (rfl)

/-! ### bump -/

@[simp] theorem State.bump_pend (s : State) (f : Fld) : (s.bump f).pend = s.pend := (rfl)
@[simp] theorem State.bump_taken (s : State) (f : Fld) : (s.bump f).taken = s.taken := (rfl)
@[simp] theorem State.bump_acc (s : State) (f : Fld) : (s.bump f).acc = s.acc := (rfl)
@[simp] theorem State.bump_sys (s : State) (f : Fld) : (s.bump f).sys = s.sys := (rfl)
@[simp] theorem State.bump_links (s : State) (f : Fld) : (s.bump f).links = s.links := (rfl)
@[simp] theorem State.bump_pcie (s : State) (f : Fld) : (s.bump f).pcie = s.pcie := (rfl)
@[simp] theorem State.bump_jtag (s : State) (f : Fld) : (s.bump f).jtag = s.jtag := (rfl)
@[simp] theorem State.bump_log (s : State) (f : Fld) : (s.bump f).log = s.log := (rfl)
@[simp] theorem State.bump_mould (s : State) (f : Fld) : (s.bump f).mould = s.mould := (rfl)
@[simp] theorem State.bump_ports (s : State) (f : Fld) : (s.bump f).ports = s.ports := (rfl)
@[simp] theorem State.bump_enum (s : State) (f : Fld) : (s.bump f).enum = s.enum := (rfl)
@[simp] theorem State.bump_raster (s : State) (f : Fld) : (s.bump f).raster = s.raster := (rfl)
@[simp] theorem State.bump_wtg (s : State) (f : Fld) : (s.bump f).wtg = s.wtg := (rfl)
@[simp] theorem State.bump_commit (s : State) (f : Fld) : (s.bump f).commit = s.commit := (rfl)
@[simp] theorem State.bump_tileRas (s : State) (f : Fld) : (s.bump f).tileRas = s.tileRas := (rfl)
@[simp] theorem State.bump_tileRx (s : State) (f : Fld) : (s.bump f).tileRx = s.tileRx := (rfl)
@[simp] theorem State.bump_fo (s : State) (f : Fld) : (s.bump f).fo = s.fo := (rfl)
@[simp] theorem State.bump_stores (s : State) (f : Fld) : (s.bump f).stores = s.stores := (rfl)
@[simp] theorem State.bump_ings (s : State) (f : Fld) : (s.bump f).ings = s.ings := (rfl)
@[simp] theorem State.bump_rnds (s : State) (f : Fld) : (s.bump f).rnds = s.rnds := (rfl)
@[simp] theorem State.bump_layers (s : State) (f : Fld) : (s.bump f).layers = s.layers := (rfl)
@[simp] theorem State.bump_wbs (s : State) (f : Fld) : (s.bump f).wbs = s.wbs := (rfl)
@[simp] theorem State.bump_comp (s : State) (f : Fld) : (s.bump f).comp = s.comp := (rfl)
@[simp] theorem State.bump_dram (s : State) (f : Fld) : (s.bump f).dram = s.dram := (rfl)
@[simp] theorem State.bump_line (s : State) (f : Fld) : (s.bump f).line = s.line := (rfl)
@[simp] theorem State.bump_disp (s : State) (f : Fld) : (s.bump f).disp = s.disp := (rfl)
@[simp] theorem State.bump_lanes (s : State) (f : Fld) : (s.bump f).lanes = s.lanes := (rfl)
@[simp] theorem State.bump_cals (s : State) (f : Fld) : (s.bump f).cals = s.cals := (rfl)
@[simp] theorem State.bump_cave (s : State) (f : Fld) : (s.bump f).cave = s.cave := (rfl)
@[simp] theorem State.bump_tp (s : State) (f : Fld) : (s.bump f).tp = s.tp := (rfl)
@[simp] theorem State.bump_press (s : State) (f : Fld) : (s.bump f).press = s.press := (rfl)
@[simp] theorem State.bump_drams (s : State) (f : Fld) : (s.bump f).drams = s.drams := (rfl)
@[simp] theorem State.bump_dramFc (s : State) (f : Fld) : (s.bump f).dramFc = s.dramFc := (rfl)
@[simp] theorem State.bump_sensors (s : State) (f : Fld) : (s.bump f).sensors = s.sensors := (rfl)
@[simp] theorem State.bump_ceils (s : State) (f : Fld) : (s.bump f).ceils = s.ceils := (rfl)
@[simp] theorem State.bump_ptp (s : State) (f : Fld) : (s.bump f).ptp = s.ptp := (rfl)
@[simp] theorem State.bump_nets (s : State) (f : Fld) : (s.bump f).nets = s.nets := (rfl)
@[simp] theorem State.bump_wheel (s : State) (f : Fld) : (s.bump f).wheel = s.wheel := (rfl)
@[simp] theorem State.bump_auds (s : State) (f : Fld) : (s.bump f).auds = s.auds := (rfl)
@[simp] theorem State.bump_crcs (s : State) (f : Fld) : (s.bump f).crcs = s.crcs := (rfl)
@[simp] theorem State.bump_nv (s : State) (f : Fld) : (s.bump f).nv = s.nv := (rfl)
@[simp] theorem State.bump_upd (s : State) (f : Fld) : (s.bump f).upd = s.upd := (rfl)
@[simp] theorem State.bump_k24 (s : State) (f : Fld) : (s.bump f).k24 = s.k24 := (rfl)
@[simp] theorem State.bump_pram (s : State) (f : Fld) : (s.bump f).pram = s.pram := (rfl)
@[simp] theorem State.bump_out (s : State) (f : Fld) : (s.bump f).out = s.out := (rfl)
@[simp] theorem State.bump_freeN (s : State) (f : Fld) : (s.bump f).freeN = s.freeN := (rfl)
@[simp] theorem State.bump_pending (s : State) (f : Fld) : (s.bump f).pending = s.pending := (rfl)

/-! ### flag -/

@[simp] theorem State.flag_pend (s : State) (f : Fld) : (s.flag f).pend = s.pend := (rfl)
@[simp] theorem State.flag_taken (s : State) (f : Fld) : (s.flag f).taken = s.taken := (rfl)
@[simp] theorem State.flag_acc (s : State) (f : Fld) : (s.flag f).acc = s.acc := (rfl)
@[simp] theorem State.flag_sys (s : State) (f : Fld) : (s.flag f).sys = s.sys := (rfl)
@[simp] theorem State.flag_links (s : State) (f : Fld) : (s.flag f).links = s.links := (rfl)
@[simp] theorem State.flag_pcie (s : State) (f : Fld) : (s.flag f).pcie = s.pcie := (rfl)
@[simp] theorem State.flag_jtag (s : State) (f : Fld) : (s.flag f).jtag = s.jtag := (rfl)
@[simp] theorem State.flag_log (s : State) (f : Fld) : (s.flag f).log = s.log := (rfl)
@[simp] theorem State.flag_mould (s : State) (f : Fld) : (s.flag f).mould = s.mould := (rfl)
@[simp] theorem State.flag_ports (s : State) (f : Fld) : (s.flag f).ports = s.ports := (rfl)
@[simp] theorem State.flag_enum (s : State) (f : Fld) : (s.flag f).enum = s.enum := (rfl)
@[simp] theorem State.flag_raster (s : State) (f : Fld) : (s.flag f).raster = s.raster := (rfl)
@[simp] theorem State.flag_wtg (s : State) (f : Fld) : (s.flag f).wtg = s.wtg := (rfl)
@[simp] theorem State.flag_commit (s : State) (f : Fld) : (s.flag f).commit = s.commit := (rfl)
@[simp] theorem State.flag_tileRas (s : State) (f : Fld) : (s.flag f).tileRas = s.tileRas := (rfl)
@[simp] theorem State.flag_tileRx (s : State) (f : Fld) : (s.flag f).tileRx = s.tileRx := (rfl)
@[simp] theorem State.flag_fo (s : State) (f : Fld) : (s.flag f).fo = s.fo := (rfl)
@[simp] theorem State.flag_stores (s : State) (f : Fld) : (s.flag f).stores = s.stores := (rfl)
@[simp] theorem State.flag_ings (s : State) (f : Fld) : (s.flag f).ings = s.ings := (rfl)
@[simp] theorem State.flag_rnds (s : State) (f : Fld) : (s.flag f).rnds = s.rnds := (rfl)
@[simp] theorem State.flag_layers (s : State) (f : Fld) : (s.flag f).layers = s.layers := (rfl)
@[simp] theorem State.flag_wbs (s : State) (f : Fld) : (s.flag f).wbs = s.wbs := (rfl)
@[simp] theorem State.flag_comp (s : State) (f : Fld) : (s.flag f).comp = s.comp := (rfl)
@[simp] theorem State.flag_dram (s : State) (f : Fld) : (s.flag f).dram = s.dram := (rfl)
@[simp] theorem State.flag_line (s : State) (f : Fld) : (s.flag f).line = s.line := (rfl)
@[simp] theorem State.flag_disp (s : State) (f : Fld) : (s.flag f).disp = s.disp := (rfl)
@[simp] theorem State.flag_lanes (s : State) (f : Fld) : (s.flag f).lanes = s.lanes := (rfl)
@[simp] theorem State.flag_cals (s : State) (f : Fld) : (s.flag f).cals = s.cals := (rfl)
@[simp] theorem State.flag_cave (s : State) (f : Fld) : (s.flag f).cave = s.cave := (rfl)
@[simp] theorem State.flag_tp (s : State) (f : Fld) : (s.flag f).tp = s.tp := (rfl)
@[simp] theorem State.flag_press (s : State) (f : Fld) : (s.flag f).press = s.press := (rfl)
@[simp] theorem State.flag_drams (s : State) (f : Fld) : (s.flag f).drams = s.drams := (rfl)
@[simp] theorem State.flag_dramFc (s : State) (f : Fld) : (s.flag f).dramFc = s.dramFc := (rfl)
@[simp] theorem State.flag_sensors (s : State) (f : Fld) : (s.flag f).sensors = s.sensors := (rfl)
@[simp] theorem State.flag_ceils (s : State) (f : Fld) : (s.flag f).ceils = s.ceils := (rfl)
@[simp] theorem State.flag_ptp (s : State) (f : Fld) : (s.flag f).ptp = s.ptp := (rfl)
@[simp] theorem State.flag_nets (s : State) (f : Fld) : (s.flag f).nets = s.nets := (rfl)
@[simp] theorem State.flag_wheel (s : State) (f : Fld) : (s.flag f).wheel = s.wheel := (rfl)
@[simp] theorem State.flag_auds (s : State) (f : Fld) : (s.flag f).auds = s.auds := (rfl)
@[simp] theorem State.flag_crcs (s : State) (f : Fld) : (s.flag f).crcs = s.crcs := (rfl)
@[simp] theorem State.flag_nv (s : State) (f : Fld) : (s.flag f).nv = s.nv := (rfl)
@[simp] theorem State.flag_upd (s : State) (f : Fld) : (s.flag f).upd = s.upd := (rfl)
@[simp] theorem State.flag_k24 (s : State) (f : Fld) : (s.flag f).k24 = s.k24 := (rfl)
@[simp] theorem State.flag_pram (s : State) (f : Fld) : (s.flag f).pram = s.pram := (rfl)
@[simp] theorem State.flag_out (s : State) (f : Fld) : (s.flag f).out = s.out := (rfl)
@[simp] theorem State.flag_freeN (s : State) (f : Fld) : (s.flag f).freeN = s.freeN := (rfl)
@[simp] theorem State.flag_pending (s : State) (f : Fld) : (s.flag f).pending = s.pending := (rfl)

/-! ### cause -/

@[simp] theorem State.cause_pend (s : State) (c : Nat) : (s.cause c).pend = s.pend := by unfold State.cause; split <;> rfl
@[simp] theorem State.cause_taken (s : State) (c : Nat) : (s.cause c).taken = s.taken := by unfold State.cause; split <;> rfl
@[simp] theorem State.cause_acc (s : State) (c : Nat) : (s.cause c).acc = s.acc := by unfold State.cause; split <;> rfl
@[simp] theorem State.cause_sys (s : State) (c : Nat) : (s.cause c).sys = s.sys := by unfold State.cause; split <;> rfl
@[simp] theorem State.cause_links (s : State) (c : Nat) : (s.cause c).links = s.links := by unfold State.cause; split <;> rfl
@[simp] theorem State.cause_pcie (s : State) (c : Nat) : (s.cause c).pcie = s.pcie := by unfold State.cause; split <;> rfl
@[simp] theorem State.cause_jtag (s : State) (c : Nat) : (s.cause c).jtag = s.jtag := by unfold State.cause; split <;> rfl
@[simp] theorem State.cause_log (s : State) (c : Nat) : (s.cause c).log = s.log := by unfold State.cause; split <;> rfl
@[simp] theorem State.cause_mould (s : State) (c : Nat) : (s.cause c).mould = s.mould := by unfold State.cause; split <;> rfl
@[simp] theorem State.cause_ports (s : State) (c : Nat) : (s.cause c).ports = s.ports := by unfold State.cause; split <;> rfl
@[simp] theorem State.cause_enum (s : State) (c : Nat) : (s.cause c).enum = s.enum := by unfold State.cause; split <;> rfl
@[simp] theorem State.cause_raster (s : State) (c : Nat) : (s.cause c).raster = s.raster := by unfold State.cause; split <;> rfl
@[simp] theorem State.cause_wtg (s : State) (c : Nat) : (s.cause c).wtg = s.wtg := by unfold State.cause; split <;> rfl
@[simp] theorem State.cause_commit (s : State) (c : Nat) : (s.cause c).commit = s.commit := by unfold State.cause; split <;> rfl
@[simp] theorem State.cause_tileRas (s : State) (c : Nat) : (s.cause c).tileRas = s.tileRas := by unfold State.cause; split <;> rfl
@[simp] theorem State.cause_tileRx (s : State) (c : Nat) : (s.cause c).tileRx = s.tileRx := by unfold State.cause; split <;> rfl
@[simp] theorem State.cause_fo (s : State) (c : Nat) : (s.cause c).fo = s.fo := by unfold State.cause; split <;> rfl
@[simp] theorem State.cause_stores (s : State) (c : Nat) : (s.cause c).stores = s.stores := by unfold State.cause; split <;> rfl
@[simp] theorem State.cause_ings (s : State) (c : Nat) : (s.cause c).ings = s.ings := by unfold State.cause; split <;> rfl
@[simp] theorem State.cause_rnds (s : State) (c : Nat) : (s.cause c).rnds = s.rnds := by unfold State.cause; split <;> rfl
@[simp] theorem State.cause_layers (s : State) (c : Nat) : (s.cause c).layers = s.layers := by unfold State.cause; split <;> rfl
@[simp] theorem State.cause_wbs (s : State) (c : Nat) : (s.cause c).wbs = s.wbs := by unfold State.cause; split <;> rfl
@[simp] theorem State.cause_comp (s : State) (c : Nat) : (s.cause c).comp = s.comp := by unfold State.cause; split <;> rfl
@[simp] theorem State.cause_dram (s : State) (c : Nat) : (s.cause c).dram = s.dram := by unfold State.cause; split <;> rfl
@[simp] theorem State.cause_line (s : State) (c : Nat) : (s.cause c).line = s.line := by unfold State.cause; split <;> rfl
@[simp] theorem State.cause_disp (s : State) (c : Nat) : (s.cause c).disp = s.disp := by unfold State.cause; split <;> rfl
@[simp] theorem State.cause_lanes (s : State) (c : Nat) : (s.cause c).lanes = s.lanes := by unfold State.cause; split <;> rfl
@[simp] theorem State.cause_cals (s : State) (c : Nat) : (s.cause c).cals = s.cals := by unfold State.cause; split <;> rfl
@[simp] theorem State.cause_cave (s : State) (c : Nat) : (s.cause c).cave = s.cave := by unfold State.cause; split <;> rfl
@[simp] theorem State.cause_tp (s : State) (c : Nat) : (s.cause c).tp = s.tp := by unfold State.cause; split <;> rfl
@[simp] theorem State.cause_press (s : State) (c : Nat) : (s.cause c).press = s.press := by unfold State.cause; split <;> rfl
@[simp] theorem State.cause_drams (s : State) (c : Nat) : (s.cause c).drams = s.drams := by unfold State.cause; split <;> rfl
@[simp] theorem State.cause_dramFc (s : State) (c : Nat) : (s.cause c).dramFc = s.dramFc := by unfold State.cause; split <;> rfl
@[simp] theorem State.cause_sensors (s : State) (c : Nat) : (s.cause c).sensors = s.sensors := by unfold State.cause; split <;> rfl
@[simp] theorem State.cause_ceils (s : State) (c : Nat) : (s.cause c).ceils = s.ceils := by unfold State.cause; split <;> rfl
@[simp] theorem State.cause_ptp (s : State) (c : Nat) : (s.cause c).ptp = s.ptp := by unfold State.cause; split <;> rfl
@[simp] theorem State.cause_nets (s : State) (c : Nat) : (s.cause c).nets = s.nets := by unfold State.cause; split <;> rfl
@[simp] theorem State.cause_wheel (s : State) (c : Nat) : (s.cause c).wheel = s.wheel := by unfold State.cause; split <;> rfl
@[simp] theorem State.cause_auds (s : State) (c : Nat) : (s.cause c).auds = s.auds := by unfold State.cause; split <;> rfl
@[simp] theorem State.cause_crcs (s : State) (c : Nat) : (s.cause c).crcs = s.crcs := by unfold State.cause; split <;> rfl
@[simp] theorem State.cause_nv (s : State) (c : Nat) : (s.cause c).nv = s.nv := by unfold State.cause; split <;> rfl
@[simp] theorem State.cause_upd (s : State) (c : Nat) : (s.cause c).upd = s.upd := by unfold State.cause; split <;> rfl
@[simp] theorem State.cause_k24 (s : State) (c : Nat) : (s.cause c).k24 = s.k24 := by unfold State.cause; split <;> rfl
@[simp] theorem State.cause_pram (s : State) (c : Nat) : (s.cause c).pram = s.pram := by unfold State.cause; split <;> rfl
@[simp] theorem State.cause_out (s : State) (c : Nat) : (s.cause c).out = s.out := by unfold State.cause; split <;> rfl
@[simp] theorem State.cause_freeN (s : State) (c : Nat) : (s.cause c).freeN = s.freeN := by unfold State.cause; split <;> rfl
@[simp] theorem State.cause_pending (s : State) (c : Nat) : (s.cause c).pending = s.pending := by unfold State.cause; split <;> rfl

/-! ### raise -/

@[simp] theorem State.raise_pend (s : State) (f : Fld) (c : Nat) : (s.raise f c).pend = s.pend := by unfold State.raise State.cause; split <;> [rfl; (split <;> rfl)]
@[simp] theorem State.raise_taken (s : State) (f : Fld) (c : Nat) : (s.raise f c).taken = s.taken := by unfold State.raise State.cause; split <;> [rfl; (split <;> rfl)]
@[simp] theorem State.raise_acc (s : State) (f : Fld) (c : Nat) : (s.raise f c).acc = s.acc := by unfold State.raise State.cause; split <;> [rfl; (split <;> rfl)]
@[simp] theorem State.raise_sys (s : State) (f : Fld) (c : Nat) : (s.raise f c).sys = s.sys := by unfold State.raise State.cause; split <;> [rfl; (split <;> rfl)]
@[simp] theorem State.raise_links (s : State) (f : Fld) (c : Nat) : (s.raise f c).links = s.links := by unfold State.raise State.cause; split <;> [rfl; (split <;> rfl)]
@[simp] theorem State.raise_pcie (s : State) (f : Fld) (c : Nat) : (s.raise f c).pcie = s.pcie := by unfold State.raise State.cause; split <;> [rfl; (split <;> rfl)]
@[simp] theorem State.raise_jtag (s : State) (f : Fld) (c : Nat) : (s.raise f c).jtag = s.jtag := by unfold State.raise State.cause; split <;> [rfl; (split <;> rfl)]
@[simp] theorem State.raise_log (s : State) (f : Fld) (c : Nat) : (s.raise f c).log = s.log := by unfold State.raise State.cause; split <;> [rfl; (split <;> rfl)]
@[simp] theorem State.raise_mould (s : State) (f : Fld) (c : Nat) : (s.raise f c).mould = s.mould := by unfold State.raise State.cause; split <;> [rfl; (split <;> rfl)]
@[simp] theorem State.raise_ports (s : State) (f : Fld) (c : Nat) : (s.raise f c).ports = s.ports := by unfold State.raise State.cause; split <;> [rfl; (split <;> rfl)]
@[simp] theorem State.raise_enum (s : State) (f : Fld) (c : Nat) : (s.raise f c).enum = s.enum := by unfold State.raise State.cause; split <;> [rfl; (split <;> rfl)]
@[simp] theorem State.raise_raster (s : State) (f : Fld) (c : Nat) : (s.raise f c).raster = s.raster := by unfold State.raise State.cause; split <;> [rfl; (split <;> rfl)]
@[simp] theorem State.raise_wtg (s : State) (f : Fld) (c : Nat) : (s.raise f c).wtg = s.wtg := by unfold State.raise State.cause; split <;> [rfl; (split <;> rfl)]
@[simp] theorem State.raise_commit (s : State) (f : Fld) (c : Nat) : (s.raise f c).commit = s.commit := by unfold State.raise State.cause; split <;> [rfl; (split <;> rfl)]
@[simp] theorem State.raise_tileRas (s : State) (f : Fld) (c : Nat) : (s.raise f c).tileRas = s.tileRas := by unfold State.raise State.cause; split <;> [rfl; (split <;> rfl)]
@[simp] theorem State.raise_tileRx (s : State) (f : Fld) (c : Nat) : (s.raise f c).tileRx = s.tileRx := by unfold State.raise State.cause; split <;> [rfl; (split <;> rfl)]
@[simp] theorem State.raise_fo (s : State) (f : Fld) (c : Nat) : (s.raise f c).fo = s.fo := by unfold State.raise State.cause; split <;> [rfl; (split <;> rfl)]
@[simp] theorem State.raise_stores (s : State) (f : Fld) (c : Nat) : (s.raise f c).stores = s.stores := by unfold State.raise State.cause; split <;> [rfl; (split <;> rfl)]
@[simp] theorem State.raise_ings (s : State) (f : Fld) (c : Nat) : (s.raise f c).ings = s.ings := by unfold State.raise State.cause; split <;> [rfl; (split <;> rfl)]
@[simp] theorem State.raise_rnds (s : State) (f : Fld) (c : Nat) : (s.raise f c).rnds = s.rnds := by unfold State.raise State.cause; split <;> [rfl; (split <;> rfl)]
@[simp] theorem State.raise_layers (s : State) (f : Fld) (c : Nat) : (s.raise f c).layers = s.layers := by unfold State.raise State.cause; split <;> [rfl; (split <;> rfl)]
@[simp] theorem State.raise_wbs (s : State) (f : Fld) (c : Nat) : (s.raise f c).wbs = s.wbs := by unfold State.raise State.cause; split <;> [rfl; (split <;> rfl)]
@[simp] theorem State.raise_comp (s : State) (f : Fld) (c : Nat) : (s.raise f c).comp = s.comp := by unfold State.raise State.cause; split <;> [rfl; (split <;> rfl)]
@[simp] theorem State.raise_dram (s : State) (f : Fld) (c : Nat) : (s.raise f c).dram = s.dram := by unfold State.raise State.cause; split <;> [rfl; (split <;> rfl)]
@[simp] theorem State.raise_line (s : State) (f : Fld) (c : Nat) : (s.raise f c).line = s.line := by unfold State.raise State.cause; split <;> [rfl; (split <;> rfl)]
@[simp] theorem State.raise_disp (s : State) (f : Fld) (c : Nat) : (s.raise f c).disp = s.disp := by unfold State.raise State.cause; split <;> [rfl; (split <;> rfl)]
@[simp] theorem State.raise_lanes (s : State) (f : Fld) (c : Nat) : (s.raise f c).lanes = s.lanes := by unfold State.raise State.cause; split <;> [rfl; (split <;> rfl)]
@[simp] theorem State.raise_cals (s : State) (f : Fld) (c : Nat) : (s.raise f c).cals = s.cals := by unfold State.raise State.cause; split <;> [rfl; (split <;> rfl)]
@[simp] theorem State.raise_cave (s : State) (f : Fld) (c : Nat) : (s.raise f c).cave = s.cave := by unfold State.raise State.cause; split <;> [rfl; (split <;> rfl)]
@[simp] theorem State.raise_tp (s : State) (f : Fld) (c : Nat) : (s.raise f c).tp = s.tp := by unfold State.raise State.cause; split <;> [rfl; (split <;> rfl)]
@[simp] theorem State.raise_press (s : State) (f : Fld) (c : Nat) : (s.raise f c).press = s.press := by unfold State.raise State.cause; split <;> [rfl; (split <;> rfl)]
@[simp] theorem State.raise_drams (s : State) (f : Fld) (c : Nat) : (s.raise f c).drams = s.drams := by unfold State.raise State.cause; split <;> [rfl; (split <;> rfl)]
@[simp] theorem State.raise_dramFc (s : State) (f : Fld) (c : Nat) : (s.raise f c).dramFc = s.dramFc := by unfold State.raise State.cause; split <;> [rfl; (split <;> rfl)]
@[simp] theorem State.raise_sensors (s : State) (f : Fld) (c : Nat) : (s.raise f c).sensors = s.sensors := by unfold State.raise State.cause; split <;> [rfl; (split <;> rfl)]
@[simp] theorem State.raise_ceils (s : State) (f : Fld) (c : Nat) : (s.raise f c).ceils = s.ceils := by unfold State.raise State.cause; split <;> [rfl; (split <;> rfl)]
@[simp] theorem State.raise_ptp (s : State) (f : Fld) (c : Nat) : (s.raise f c).ptp = s.ptp := by unfold State.raise State.cause; split <;> [rfl; (split <;> rfl)]
@[simp] theorem State.raise_nets (s : State) (f : Fld) (c : Nat) : (s.raise f c).nets = s.nets := by unfold State.raise State.cause; split <;> [rfl; (split <;> rfl)]
@[simp] theorem State.raise_wheel (s : State) (f : Fld) (c : Nat) : (s.raise f c).wheel = s.wheel := by unfold State.raise State.cause; split <;> [rfl; (split <;> rfl)]
@[simp] theorem State.raise_auds (s : State) (f : Fld) (c : Nat) : (s.raise f c).auds = s.auds := by unfold State.raise State.cause; split <;> [rfl; (split <;> rfl)]
@[simp] theorem State.raise_crcs (s : State) (f : Fld) (c : Nat) : (s.raise f c).crcs = s.crcs := by unfold State.raise State.cause; split <;> [rfl; (split <;> rfl)]
@[simp] theorem State.raise_nv (s : State) (f : Fld) (c : Nat) : (s.raise f c).nv = s.nv := by unfold State.raise State.cause; split <;> [rfl; (split <;> rfl)]
@[simp] theorem State.raise_upd (s : State) (f : Fld) (c : Nat) : (s.raise f c).upd = s.upd := by unfold State.raise State.cause; split <;> [rfl; (split <;> rfl)]
@[simp] theorem State.raise_k24 (s : State) (f : Fld) (c : Nat) : (s.raise f c).k24 = s.k24 := by unfold State.raise State.cause; split <;> [rfl; (split <;> rfl)]
@[simp] theorem State.raise_pram (s : State) (f : Fld) (c : Nat) : (s.raise f c).pram = s.pram := by unfold State.raise State.cause; split <;> [rfl; (split <;> rfl)]
@[simp] theorem State.raise_out (s : State) (f : Fld) (c : Nat) : (s.raise f c).out = s.out := by unfold State.raise State.cause; split <;> [rfl; (split <;> rfl)]
@[simp] theorem State.raise_freeN (s : State) (f : Fld) (c : Nat) : (s.raise f c).freeN = s.freeN := by unfold State.raise State.cause; split <;> [rfl; (split <;> rfl)]
@[simp] theorem State.raise_pending (s : State) (f : Fld) (c : Nat) : (s.raise f c).pending = s.pending := by unfold State.raise State.cause; split <;> [rfl; (split <;> rfl)]

/-! ### setPend -/

@[simp] theorem State.setPend_regs (s : State) (a : Nat) (w : Word) : (s.setPend a w).regs = s.regs := (rfl)
@[simp] theorem State.setPend_taken (s : State) (a : Nat) (w : Word) : (s.setPend a w).taken = s.taken := (rfl)
@[simp] theorem State.setPend_acc (s : State) (a : Nat) (w : Word) : (s.setPend a w).acc = s.acc := (rfl)
@[simp] theorem State.setPend_sys (s : State) (a : Nat) (w : Word) : (s.setPend a w).sys = s.sys := (rfl)
@[simp] theorem State.setPend_links (s : State) (a : Nat) (w : Word) : (s.setPend a w).links = s.links := (rfl)
@[simp] theorem State.setPend_pcie (s : State) (a : Nat) (w : Word) : (s.setPend a w).pcie = s.pcie := (rfl)
@[simp] theorem State.setPend_jtag (s : State) (a : Nat) (w : Word) : (s.setPend a w).jtag = s.jtag := (rfl)
@[simp] theorem State.setPend_log (s : State) (a : Nat) (w : Word) : (s.setPend a w).log = s.log := (rfl)
@[simp] theorem State.setPend_mould (s : State) (a : Nat) (w : Word) : (s.setPend a w).mould = s.mould := (rfl)
@[simp] theorem State.setPend_ports (s : State) (a : Nat) (w : Word) : (s.setPend a w).ports = s.ports := (rfl)
@[simp] theorem State.setPend_enum (s : State) (a : Nat) (w : Word) : (s.setPend a w).enum = s.enum := (rfl)
@[simp] theorem State.setPend_raster (s : State) (a : Nat) (w : Word) : (s.setPend a w).raster = s.raster := (rfl)
@[simp] theorem State.setPend_wtg (s : State) (a : Nat) (w : Word) : (s.setPend a w).wtg = s.wtg := (rfl)
@[simp] theorem State.setPend_commit (s : State) (a : Nat) (w : Word) : (s.setPend a w).commit = s.commit := (rfl)
@[simp] theorem State.setPend_tileRas (s : State) (a : Nat) (w : Word) : (s.setPend a w).tileRas = s.tileRas := (rfl)
@[simp] theorem State.setPend_tileRx (s : State) (a : Nat) (w : Word) : (s.setPend a w).tileRx = s.tileRx := (rfl)
@[simp] theorem State.setPend_fo (s : State) (a : Nat) (w : Word) : (s.setPend a w).fo = s.fo := (rfl)
@[simp] theorem State.setPend_stores (s : State) (a : Nat) (w : Word) : (s.setPend a w).stores = s.stores := (rfl)
@[simp] theorem State.setPend_ings (s : State) (a : Nat) (w : Word) : (s.setPend a w).ings = s.ings := (rfl)
@[simp] theorem State.setPend_rnds (s : State) (a : Nat) (w : Word) : (s.setPend a w).rnds = s.rnds := (rfl)
@[simp] theorem State.setPend_layers (s : State) (a : Nat) (w : Word) : (s.setPend a w).layers = s.layers := (rfl)
@[simp] theorem State.setPend_wbs (s : State) (a : Nat) (w : Word) : (s.setPend a w).wbs = s.wbs := (rfl)
@[simp] theorem State.setPend_comp (s : State) (a : Nat) (w : Word) : (s.setPend a w).comp = s.comp := (rfl)
@[simp] theorem State.setPend_dram (s : State) (a : Nat) (w : Word) : (s.setPend a w).dram = s.dram := (rfl)
@[simp] theorem State.setPend_line (s : State) (a : Nat) (w : Word) : (s.setPend a w).line = s.line := (rfl)
@[simp] theorem State.setPend_disp (s : State) (a : Nat) (w : Word) : (s.setPend a w).disp = s.disp := (rfl)
@[simp] theorem State.setPend_lanes (s : State) (a : Nat) (w : Word) : (s.setPend a w).lanes = s.lanes := (rfl)
@[simp] theorem State.setPend_cals (s : State) (a : Nat) (w : Word) : (s.setPend a w).cals = s.cals := (rfl)
@[simp] theorem State.setPend_cave (s : State) (a : Nat) (w : Word) : (s.setPend a w).cave = s.cave := (rfl)
@[simp] theorem State.setPend_tp (s : State) (a : Nat) (w : Word) : (s.setPend a w).tp = s.tp := (rfl)
@[simp] theorem State.setPend_press (s : State) (a : Nat) (w : Word) : (s.setPend a w).press = s.press := (rfl)
@[simp] theorem State.setPend_drams (s : State) (a : Nat) (w : Word) : (s.setPend a w).drams = s.drams := (rfl)
@[simp] theorem State.setPend_dramFc (s : State) (a : Nat) (w : Word) : (s.setPend a w).dramFc = s.dramFc := (rfl)
@[simp] theorem State.setPend_sensors (s : State) (a : Nat) (w : Word) : (s.setPend a w).sensors = s.sensors := (rfl)
@[simp] theorem State.setPend_ceils (s : State) (a : Nat) (w : Word) : (s.setPend a w).ceils = s.ceils := (rfl)
@[simp] theorem State.setPend_ptp (s : State) (a : Nat) (w : Word) : (s.setPend a w).ptp = s.ptp := (rfl)
@[simp] theorem State.setPend_nets (s : State) (a : Nat) (w : Word) : (s.setPend a w).nets = s.nets := (rfl)
@[simp] theorem State.setPend_wheel (s : State) (a : Nat) (w : Word) : (s.setPend a w).wheel = s.wheel := (rfl)
@[simp] theorem State.setPend_auds (s : State) (a : Nat) (w : Word) : (s.setPend a w).auds = s.auds := (rfl)
@[simp] theorem State.setPend_crcs (s : State) (a : Nat) (w : Word) : (s.setPend a w).crcs = s.crcs := (rfl)
@[simp] theorem State.setPend_nv (s : State) (a : Nat) (w : Word) : (s.setPend a w).nv = s.nv := (rfl)
@[simp] theorem State.setPend_upd (s : State) (a : Nat) (w : Word) : (s.setPend a w).upd = s.upd := (rfl)
@[simp] theorem State.setPend_k24 (s : State) (a : Nat) (w : Word) : (s.setPend a w).k24 = s.k24 := (rfl)
@[simp] theorem State.setPend_pram (s : State) (a : Nat) (w : Word) : (s.setPend a w).pram = s.pram := (rfl)
@[simp] theorem State.setPend_out (s : State) (a : Nat) (w : Word) : (s.setPend a w).out = s.out := (rfl)
@[simp] theorem State.setPend_freeN (s : State) (a : Nat) (w : Word) : (s.setPend a w).freeN = s.freeN := (rfl)
@[simp] theorem State.setPend_pending (s : State) (a : Nat) (w : Word) : (s.setPend a w).pending = s.pending := (rfl)
@[simp] theorem State.setPend_rd (s : State) (a : Nat) (w : Word) (x : Nat) : (s.setPend a w).rd x = s.rd x := (rfl)
@[simp] theorem State.setPend_get (s : State) (a : Nat) (w : Word) (x : Fld) : (s.setPend a w).get x = s.get x := (rfl)
@[simp] theorem State.setPend_on (s : State) (a : Nat) (w : Word) (x : Fld) : (s.setPend a w).on x = s.on x := (rfl)
@[simp] theorem State.setPend_getI (s : State) (a : Nat) (w : Word) (x : Fld) : (s.setPend a w).getI x = s.getI x := (rfl)

/-! ### setPort -/

@[simp] theorem State.setPort_regs (s : State) (p : Nat) (f : Port → Port) : (s.setPort p f).regs = s.regs := (rfl)
@[simp] theorem State.setPort_pend (s : State) (p : Nat) (f : Port → Port) : (s.setPort p f).pend = s.pend := (rfl)
@[simp] theorem State.setPort_taken (s : State) (p : Nat) (f : Port → Port) : (s.setPort p f).taken = s.taken := (rfl)
@[simp] theorem State.setPort_acc (s : State) (p : Nat) (f : Port → Port) : (s.setPort p f).acc = s.acc := (rfl)
@[simp] theorem State.setPort_sys (s : State) (p : Nat) (f : Port → Port) : (s.setPort p f).sys = s.sys := (rfl)
@[simp] theorem State.setPort_links (s : State) (p : Nat) (f : Port → Port) : (s.setPort p f).links = s.links := (rfl)
@[simp] theorem State.setPort_pcie (s : State) (p : Nat) (f : Port → Port) : (s.setPort p f).pcie = s.pcie := (rfl)
@[simp] theorem State.setPort_jtag (s : State) (p : Nat) (f : Port → Port) : (s.setPort p f).jtag = s.jtag := (rfl)
@[simp] theorem State.setPort_log (s : State) (p : Nat) (f : Port → Port) : (s.setPort p f).log = s.log := (rfl)
@[simp] theorem State.setPort_mould (s : State) (p : Nat) (f : Port → Port) : (s.setPort p f).mould = s.mould := (rfl)
@[simp] theorem State.setPort_enum (s : State) (p : Nat) (f : Port → Port) : (s.setPort p f).enum = s.enum := (rfl)
@[simp] theorem State.setPort_raster (s : State) (p : Nat) (f : Port → Port) : (s.setPort p f).raster = s.raster := (rfl)
@[simp] theorem State.setPort_wtg (s : State) (p : Nat) (f : Port → Port) : (s.setPort p f).wtg = s.wtg := (rfl)
@[simp] theorem State.setPort_commit (s : State) (p : Nat) (f : Port → Port) : (s.setPort p f).commit = s.commit := (rfl)
@[simp] theorem State.setPort_tileRas (s : State) (p : Nat) (f : Port → Port) : (s.setPort p f).tileRas = s.tileRas := (rfl)
@[simp] theorem State.setPort_tileRx (s : State) (p : Nat) (f : Port → Port) : (s.setPort p f).tileRx = s.tileRx := (rfl)
@[simp] theorem State.setPort_fo (s : State) (p : Nat) (f : Port → Port) : (s.setPort p f).fo = s.fo := (rfl)
@[simp] theorem State.setPort_stores (s : State) (p : Nat) (f : Port → Port) : (s.setPort p f).stores = s.stores := (rfl)
@[simp] theorem State.setPort_ings (s : State) (p : Nat) (f : Port → Port) : (s.setPort p f).ings = s.ings := (rfl)
@[simp] theorem State.setPort_rnds (s : State) (p : Nat) (f : Port → Port) : (s.setPort p f).rnds = s.rnds := (rfl)
@[simp] theorem State.setPort_layers (s : State) (p : Nat) (f : Port → Port) : (s.setPort p f).layers = s.layers := (rfl)
@[simp] theorem State.setPort_wbs (s : State) (p : Nat) (f : Port → Port) : (s.setPort p f).wbs = s.wbs := (rfl)
@[simp] theorem State.setPort_comp (s : State) (p : Nat) (f : Port → Port) : (s.setPort p f).comp = s.comp := (rfl)
@[simp] theorem State.setPort_dram (s : State) (p : Nat) (f : Port → Port) : (s.setPort p f).dram = s.dram := (rfl)
@[simp] theorem State.setPort_line (s : State) (p : Nat) (f : Port → Port) : (s.setPort p f).line = s.line := (rfl)
@[simp] theorem State.setPort_disp (s : State) (p : Nat) (f : Port → Port) : (s.setPort p f).disp = s.disp := (rfl)
@[simp] theorem State.setPort_lanes (s : State) (p : Nat) (f : Port → Port) : (s.setPort p f).lanes = s.lanes := (rfl)
@[simp] theorem State.setPort_cals (s : State) (p : Nat) (f : Port → Port) : (s.setPort p f).cals = s.cals := (rfl)
@[simp] theorem State.setPort_cave (s : State) (p : Nat) (f : Port → Port) : (s.setPort p f).cave = s.cave := (rfl)
@[simp] theorem State.setPort_tp (s : State) (p : Nat) (f : Port → Port) : (s.setPort p f).tp = s.tp := (rfl)
@[simp] theorem State.setPort_press (s : State) (p : Nat) (f : Port → Port) : (s.setPort p f).press = s.press := (rfl)
@[simp] theorem State.setPort_drams (s : State) (p : Nat) (f : Port → Port) : (s.setPort p f).drams = s.drams := (rfl)
@[simp] theorem State.setPort_dramFc (s : State) (p : Nat) (f : Port → Port) : (s.setPort p f).dramFc = s.dramFc := (rfl)
@[simp] theorem State.setPort_sensors (s : State) (p : Nat) (f : Port → Port) : (s.setPort p f).sensors = s.sensors := (rfl)
@[simp] theorem State.setPort_ceils (s : State) (p : Nat) (f : Port → Port) : (s.setPort p f).ceils = s.ceils := (rfl)
@[simp] theorem State.setPort_ptp (s : State) (p : Nat) (f : Port → Port) : (s.setPort p f).ptp = s.ptp := (rfl)
@[simp] theorem State.setPort_nets (s : State) (p : Nat) (f : Port → Port) : (s.setPort p f).nets = s.nets := (rfl)
@[simp] theorem State.setPort_wheel (s : State) (p : Nat) (f : Port → Port) : (s.setPort p f).wheel = s.wheel := (rfl)
@[simp] theorem State.setPort_auds (s : State) (p : Nat) (f : Port → Port) : (s.setPort p f).auds = s.auds := (rfl)
@[simp] theorem State.setPort_crcs (s : State) (p : Nat) (f : Port → Port) : (s.setPort p f).crcs = s.crcs := (rfl)
@[simp] theorem State.setPort_nv (s : State) (p : Nat) (f : Port → Port) : (s.setPort p f).nv = s.nv := (rfl)
@[simp] theorem State.setPort_upd (s : State) (p : Nat) (f : Port → Port) : (s.setPort p f).upd = s.upd := (rfl)
@[simp] theorem State.setPort_k24 (s : State) (p : Nat) (f : Port → Port) : (s.setPort p f).k24 = s.k24 := (rfl)
@[simp] theorem State.setPort_pram (s : State) (p : Nat) (f : Port → Port) : (s.setPort p f).pram = s.pram := (rfl)
@[simp] theorem State.setPort_out (s : State) (p : Nat) (f : Port → Port) : (s.setPort p f).out = s.out := (rfl)
@[simp] theorem State.setPort_freeN (s : State) (p : Nat) (f : Port → Port) : (s.setPort p f).freeN = s.freeN := (rfl)
@[simp] theorem State.setPort_pending (s : State) (p : Nat) (f : Port → Port) : (s.setPort p f).pending = s.pending := (rfl)
@[simp] theorem State.setPort_rd (s : State) (p : Nat) (f : Port → Port) (x : Nat) : (s.setPort p f).rd x = s.rd x := (rfl)
@[simp] theorem State.setPort_get (s : State) (p : Nat) (f : Port → Port) (x : Fld) : (s.setPort p f).get x = s.get x := (rfl)
@[simp] theorem State.setPort_on (s : State) (p : Nat) (f : Port → Port) (x : Fld) : (s.setPort p f).on x = s.on x := (rfl)
@[simp] theorem State.setPort_getI (s : State) (p : Nat) (f : Port → Port) (x : Fld) : (s.setPort p f).getI x = s.getI x := (rfl)

/-! ### send -/

@[simp] theorem State.send_regs (s : State) (o : Out) : (s.send o).regs = s.regs := (rfl)
@[simp] theorem State.send_pend (s : State) (o : Out) : (s.send o).pend = s.pend := (rfl)
@[simp] theorem State.send_taken (s : State) (o : Out) : (s.send o).taken = s.taken := (rfl)
@[simp] theorem State.send_acc (s : State) (o : Out) : (s.send o).acc = s.acc := (rfl)
@[simp] theorem State.send_sys (s : State) (o : Out) : (s.send o).sys = s.sys := (rfl)
@[simp] theorem State.send_links (s : State) (o : Out) : (s.send o).links = s.links := (rfl)
@[simp] theorem State.send_pcie (s : State) (o : Out) : (s.send o).pcie = s.pcie := (rfl)
@[simp] theorem State.send_jtag (s : State) (o : Out) : (s.send o).jtag = s.jtag := (rfl)
@[simp] theorem State.send_log (s : State) (o : Out) : (s.send o).log = s.log := (rfl)
@[simp] theorem State.send_mould (s : State) (o : Out) : (s.send o).mould = s.mould := (rfl)
@[simp] theorem State.send_ports (s : State) (o : Out) : (s.send o).ports = s.ports := (rfl)
@[simp] theorem State.send_enum (s : State) (o : Out) : (s.send o).enum = s.enum := (rfl)
@[simp] theorem State.send_raster (s : State) (o : Out) : (s.send o).raster = s.raster := (rfl)
@[simp] theorem State.send_wtg (s : State) (o : Out) : (s.send o).wtg = s.wtg := (rfl)
@[simp] theorem State.send_commit (s : State) (o : Out) : (s.send o).commit = s.commit := (rfl)
@[simp] theorem State.send_tileRas (s : State) (o : Out) : (s.send o).tileRas = s.tileRas := (rfl)
@[simp] theorem State.send_tileRx (s : State) (o : Out) : (s.send o).tileRx = s.tileRx := (rfl)
@[simp] theorem State.send_fo (s : State) (o : Out) : (s.send o).fo = s.fo := (rfl)
@[simp] theorem State.send_stores (s : State) (o : Out) : (s.send o).stores = s.stores := (rfl)
@[simp] theorem State.send_ings (s : State) (o : Out) : (s.send o).ings = s.ings := (rfl)
@[simp] theorem State.send_rnds (s : State) (o : Out) : (s.send o).rnds = s.rnds := (rfl)
@[simp] theorem State.send_layers (s : State) (o : Out) : (s.send o).layers = s.layers := (rfl)
@[simp] theorem State.send_wbs (s : State) (o : Out) : (s.send o).wbs = s.wbs := (rfl)
@[simp] theorem State.send_comp (s : State) (o : Out) : (s.send o).comp = s.comp := (rfl)
@[simp] theorem State.send_dram (s : State) (o : Out) : (s.send o).dram = s.dram := (rfl)
@[simp] theorem State.send_line (s : State) (o : Out) : (s.send o).line = s.line := (rfl)
@[simp] theorem State.send_disp (s : State) (o : Out) : (s.send o).disp = s.disp := (rfl)
@[simp] theorem State.send_lanes (s : State) (o : Out) : (s.send o).lanes = s.lanes := (rfl)
@[simp] theorem State.send_cals (s : State) (o : Out) : (s.send o).cals = s.cals := (rfl)
@[simp] theorem State.send_cave (s : State) (o : Out) : (s.send o).cave = s.cave := (rfl)
@[simp] theorem State.send_tp (s : State) (o : Out) : (s.send o).tp = s.tp := (rfl)
@[simp] theorem State.send_press (s : State) (o : Out) : (s.send o).press = s.press := (rfl)
@[simp] theorem State.send_drams (s : State) (o : Out) : (s.send o).drams = s.drams := (rfl)
@[simp] theorem State.send_dramFc (s : State) (o : Out) : (s.send o).dramFc = s.dramFc := (rfl)
@[simp] theorem State.send_sensors (s : State) (o : Out) : (s.send o).sensors = s.sensors := (rfl)
@[simp] theorem State.send_ceils (s : State) (o : Out) : (s.send o).ceils = s.ceils := (rfl)
@[simp] theorem State.send_ptp (s : State) (o : Out) : (s.send o).ptp = s.ptp := (rfl)
@[simp] theorem State.send_nets (s : State) (o : Out) : (s.send o).nets = s.nets := (rfl)
@[simp] theorem State.send_wheel (s : State) (o : Out) : (s.send o).wheel = s.wheel := (rfl)
@[simp] theorem State.send_auds (s : State) (o : Out) : (s.send o).auds = s.auds := (rfl)
@[simp] theorem State.send_crcs (s : State) (o : Out) : (s.send o).crcs = s.crcs := (rfl)
@[simp] theorem State.send_nv (s : State) (o : Out) : (s.send o).nv = s.nv := (rfl)
@[simp] theorem State.send_upd (s : State) (o : Out) : (s.send o).upd = s.upd := (rfl)
@[simp] theorem State.send_k24 (s : State) (o : Out) : (s.send o).k24 = s.k24 := (rfl)
@[simp] theorem State.send_pram (s : State) (o : Out) : (s.send o).pram = s.pram := (rfl)
@[simp] theorem State.send_freeN (s : State) (o : Out) : (s.send o).freeN = s.freeN := (rfl)
@[simp] theorem State.send_pending (s : State) (o : Out) : (s.send o).pending = s.pending := (rfl)
@[simp] theorem State.send_rd (s : State) (o : Out) (x : Nat) : (s.send o).rd x = s.rd x := (rfl)
@[simp] theorem State.send_get (s : State) (o : Out) (x : Fld) : (s.send o).get x = s.get x := (rfl)
@[simp] theorem State.send_on (s : State) (o : Out) (x : Fld) : (s.send o).on x = s.on x := (rfl)
@[simp] theorem State.send_getI (s : State) (o : Out) (x : Fld) : (s.send o).getI x = s.getI x := (rfl)

/-! ### reply -/

@[simp] theorem State.reply_regs (s : State) (l : List Nat) : (s.reply l).regs = s.regs := (rfl)
@[simp] theorem State.reply_pend (s : State) (l : List Nat) : (s.reply l).pend = s.pend := (rfl)
@[simp] theorem State.reply_taken (s : State) (l : List Nat) : (s.reply l).taken = s.taken := (rfl)
@[simp] theorem State.reply_sys (s : State) (l : List Nat) : (s.reply l).sys = s.sys := (rfl)
@[simp] theorem State.reply_links (s : State) (l : List Nat) : (s.reply l).links = s.links := (rfl)
@[simp] theorem State.reply_pcie (s : State) (l : List Nat) : (s.reply l).pcie = s.pcie := (rfl)
@[simp] theorem State.reply_jtag (s : State) (l : List Nat) : (s.reply l).jtag = s.jtag := (rfl)
@[simp] theorem State.reply_log (s : State) (l : List Nat) : (s.reply l).log = s.log := (rfl)
@[simp] theorem State.reply_mould (s : State) (l : List Nat) : (s.reply l).mould = s.mould := (rfl)
@[simp] theorem State.reply_ports (s : State) (l : List Nat) : (s.reply l).ports = s.ports := (rfl)
@[simp] theorem State.reply_enum (s : State) (l : List Nat) : (s.reply l).enum = s.enum := (rfl)
@[simp] theorem State.reply_raster (s : State) (l : List Nat) : (s.reply l).raster = s.raster := (rfl)
@[simp] theorem State.reply_wtg (s : State) (l : List Nat) : (s.reply l).wtg = s.wtg := (rfl)
@[simp] theorem State.reply_commit (s : State) (l : List Nat) : (s.reply l).commit = s.commit := (rfl)
@[simp] theorem State.reply_tileRas (s : State) (l : List Nat) : (s.reply l).tileRas = s.tileRas := (rfl)
@[simp] theorem State.reply_tileRx (s : State) (l : List Nat) : (s.reply l).tileRx = s.tileRx := (rfl)
@[simp] theorem State.reply_fo (s : State) (l : List Nat) : (s.reply l).fo = s.fo := (rfl)
@[simp] theorem State.reply_stores (s : State) (l : List Nat) : (s.reply l).stores = s.stores := (rfl)
@[simp] theorem State.reply_ings (s : State) (l : List Nat) : (s.reply l).ings = s.ings := (rfl)
@[simp] theorem State.reply_rnds (s : State) (l : List Nat) : (s.reply l).rnds = s.rnds := (rfl)
@[simp] theorem State.reply_layers (s : State) (l : List Nat) : (s.reply l).layers = s.layers := (rfl)
@[simp] theorem State.reply_wbs (s : State) (l : List Nat) : (s.reply l).wbs = s.wbs := (rfl)
@[simp] theorem State.reply_comp (s : State) (l : List Nat) : (s.reply l).comp = s.comp := (rfl)
@[simp] theorem State.reply_dram (s : State) (l : List Nat) : (s.reply l).dram = s.dram := (rfl)
@[simp] theorem State.reply_line (s : State) (l : List Nat) : (s.reply l).line = s.line := (rfl)
@[simp] theorem State.reply_disp (s : State) (l : List Nat) : (s.reply l).disp = s.disp := (rfl)
@[simp] theorem State.reply_lanes (s : State) (l : List Nat) : (s.reply l).lanes = s.lanes := (rfl)
@[simp] theorem State.reply_cals (s : State) (l : List Nat) : (s.reply l).cals = s.cals := (rfl)
@[simp] theorem State.reply_cave (s : State) (l : List Nat) : (s.reply l).cave = s.cave := (rfl)
@[simp] theorem State.reply_tp (s : State) (l : List Nat) : (s.reply l).tp = s.tp := (rfl)
@[simp] theorem State.reply_press (s : State) (l : List Nat) : (s.reply l).press = s.press := (rfl)
@[simp] theorem State.reply_drams (s : State) (l : List Nat) : (s.reply l).drams = s.drams := (rfl)
@[simp] theorem State.reply_dramFc (s : State) (l : List Nat) : (s.reply l).dramFc = s.dramFc := (rfl)
@[simp] theorem State.reply_sensors (s : State) (l : List Nat) : (s.reply l).sensors = s.sensors := (rfl)
@[simp] theorem State.reply_ceils (s : State) (l : List Nat) : (s.reply l).ceils = s.ceils := (rfl)
@[simp] theorem State.reply_ptp (s : State) (l : List Nat) : (s.reply l).ptp = s.ptp := (rfl)
@[simp] theorem State.reply_nets (s : State) (l : List Nat) : (s.reply l).nets = s.nets := (rfl)
@[simp] theorem State.reply_wheel (s : State) (l : List Nat) : (s.reply l).wheel = s.wheel := (rfl)
@[simp] theorem State.reply_auds (s : State) (l : List Nat) : (s.reply l).auds = s.auds := (rfl)
@[simp] theorem State.reply_crcs (s : State) (l : List Nat) : (s.reply l).crcs = s.crcs := (rfl)
@[simp] theorem State.reply_nv (s : State) (l : List Nat) : (s.reply l).nv = s.nv := (rfl)
@[simp] theorem State.reply_upd (s : State) (l : List Nat) : (s.reply l).upd = s.upd := (rfl)
@[simp] theorem State.reply_k24 (s : State) (l : List Nat) : (s.reply l).k24 = s.k24 := (rfl)
@[simp] theorem State.reply_pram (s : State) (l : List Nat) : (s.reply l).pram = s.pram := (rfl)
@[simp] theorem State.reply_out (s : State) (l : List Nat) : (s.reply l).out = s.out := (rfl)
@[simp] theorem State.reply_freeN (s : State) (l : List Nat) : (s.reply l).freeN = s.freeN := (rfl)
@[simp] theorem State.reply_pending (s : State) (l : List Nat) : (s.reply l).pending = s.pending := (rfl)
@[simp] theorem State.reply_rd (s : State) (l : List Nat) (x : Nat) : (s.reply l).rd x = s.rd x := (rfl)
@[simp] theorem State.reply_get (s : State) (l : List Nat) (x : Fld) : (s.reply l).get x = s.get x := (rfl)
@[simp] theorem State.reply_on (s : State) (l : List Nat) (x : Fld) : (s.reply l).on x = s.on x := (rfl)
@[simp] theorem State.reply_getI (s : State) (l : List Nat) (x : Fld) : (s.reply l).getI x = s.getI x := (rfl)

/-! ### setPcie -/

@[simp] theorem State.setPcie_regs (s : State) (f : Pcie → Pcie) : (s.setPcie f).regs = s.regs := (rfl)
@[simp] theorem State.setPcie_pend (s : State) (f : Pcie → Pcie) : (s.setPcie f).pend = s.pend := (rfl)
@[simp] theorem State.setPcie_taken (s : State) (f : Pcie → Pcie) : (s.setPcie f).taken = s.taken := (rfl)
@[simp] theorem State.setPcie_acc (s : State) (f : Pcie → Pcie) : (s.setPcie f).acc = s.acc := (rfl)
@[simp] theorem State.setPcie_sys (s : State) (f : Pcie → Pcie) : (s.setPcie f).sys = s.sys := (rfl)
@[simp] theorem State.setPcie_links (s : State) (f : Pcie → Pcie) : (s.setPcie f).links = s.links := (rfl)
@[simp] theorem State.setPcie_jtag (s : State) (f : Pcie → Pcie) : (s.setPcie f).jtag = s.jtag := (rfl)
@[simp] theorem State.setPcie_log (s : State) (f : Pcie → Pcie) : (s.setPcie f).log = s.log := (rfl)
@[simp] theorem State.setPcie_mould (s : State) (f : Pcie → Pcie) : (s.setPcie f).mould = s.mould := (rfl)
@[simp] theorem State.setPcie_ports (s : State) (f : Pcie → Pcie) : (s.setPcie f).ports = s.ports := (rfl)
@[simp] theorem State.setPcie_enum (s : State) (f : Pcie → Pcie) : (s.setPcie f).enum = s.enum := (rfl)
@[simp] theorem State.setPcie_raster (s : State) (f : Pcie → Pcie) : (s.setPcie f).raster = s.raster := (rfl)
@[simp] theorem State.setPcie_wtg (s : State) (f : Pcie → Pcie) : (s.setPcie f).wtg = s.wtg := (rfl)
@[simp] theorem State.setPcie_commit (s : State) (f : Pcie → Pcie) : (s.setPcie f).commit = s.commit := (rfl)
@[simp] theorem State.setPcie_tileRas (s : State) (f : Pcie → Pcie) : (s.setPcie f).tileRas = s.tileRas := (rfl)
@[simp] theorem State.setPcie_tileRx (s : State) (f : Pcie → Pcie) : (s.setPcie f).tileRx = s.tileRx := (rfl)
@[simp] theorem State.setPcie_fo (s : State) (f : Pcie → Pcie) : (s.setPcie f).fo = s.fo := (rfl)
@[simp] theorem State.setPcie_stores (s : State) (f : Pcie → Pcie) : (s.setPcie f).stores = s.stores := (rfl)
@[simp] theorem State.setPcie_ings (s : State) (f : Pcie → Pcie) : (s.setPcie f).ings = s.ings := (rfl)
@[simp] theorem State.setPcie_rnds (s : State) (f : Pcie → Pcie) : (s.setPcie f).rnds = s.rnds := (rfl)
@[simp] theorem State.setPcie_layers (s : State) (f : Pcie → Pcie) : (s.setPcie f).layers = s.layers := (rfl)
@[simp] theorem State.setPcie_wbs (s : State) (f : Pcie → Pcie) : (s.setPcie f).wbs = s.wbs := (rfl)
@[simp] theorem State.setPcie_comp (s : State) (f : Pcie → Pcie) : (s.setPcie f).comp = s.comp := (rfl)
@[simp] theorem State.setPcie_dram (s : State) (f : Pcie → Pcie) : (s.setPcie f).dram = s.dram := (rfl)
@[simp] theorem State.setPcie_line (s : State) (f : Pcie → Pcie) : (s.setPcie f).line = s.line := (rfl)
@[simp] theorem State.setPcie_disp (s : State) (f : Pcie → Pcie) : (s.setPcie f).disp = s.disp := (rfl)
@[simp] theorem State.setPcie_lanes (s : State) (f : Pcie → Pcie) : (s.setPcie f).lanes = s.lanes := (rfl)
@[simp] theorem State.setPcie_cals (s : State) (f : Pcie → Pcie) : (s.setPcie f).cals = s.cals := (rfl)
@[simp] theorem State.setPcie_cave (s : State) (f : Pcie → Pcie) : (s.setPcie f).cave = s.cave := (rfl)
@[simp] theorem State.setPcie_tp (s : State) (f : Pcie → Pcie) : (s.setPcie f).tp = s.tp := (rfl)
@[simp] theorem State.setPcie_press (s : State) (f : Pcie → Pcie) : (s.setPcie f).press = s.press := (rfl)
@[simp] theorem State.setPcie_drams (s : State) (f : Pcie → Pcie) : (s.setPcie f).drams = s.drams := (rfl)
@[simp] theorem State.setPcie_dramFc (s : State) (f : Pcie → Pcie) : (s.setPcie f).dramFc = s.dramFc := (rfl)
@[simp] theorem State.setPcie_sensors (s : State) (f : Pcie → Pcie) : (s.setPcie f).sensors = s.sensors := (rfl)
@[simp] theorem State.setPcie_ceils (s : State) (f : Pcie → Pcie) : (s.setPcie f).ceils = s.ceils := (rfl)
@[simp] theorem State.setPcie_ptp (s : State) (f : Pcie → Pcie) : (s.setPcie f).ptp = s.ptp := (rfl)
@[simp] theorem State.setPcie_nets (s : State) (f : Pcie → Pcie) : (s.setPcie f).nets = s.nets := (rfl)
@[simp] theorem State.setPcie_wheel (s : State) (f : Pcie → Pcie) : (s.setPcie f).wheel = s.wheel := (rfl)
@[simp] theorem State.setPcie_auds (s : State) (f : Pcie → Pcie) : (s.setPcie f).auds = s.auds := (rfl)
@[simp] theorem State.setPcie_crcs (s : State) (f : Pcie → Pcie) : (s.setPcie f).crcs = s.crcs := (rfl)
@[simp] theorem State.setPcie_nv (s : State) (f : Pcie → Pcie) : (s.setPcie f).nv = s.nv := (rfl)
@[simp] theorem State.setPcie_upd (s : State) (f : Pcie → Pcie) : (s.setPcie f).upd = s.upd := (rfl)
@[simp] theorem State.setPcie_k24 (s : State) (f : Pcie → Pcie) : (s.setPcie f).k24 = s.k24 := (rfl)
@[simp] theorem State.setPcie_pram (s : State) (f : Pcie → Pcie) : (s.setPcie f).pram = s.pram := (rfl)
@[simp] theorem State.setPcie_out (s : State) (f : Pcie → Pcie) : (s.setPcie f).out = s.out := (rfl)
@[simp] theorem State.setPcie_freeN (s : State) (f : Pcie → Pcie) : (s.setPcie f).freeN = s.freeN := (rfl)
@[simp] theorem State.setPcie_pending (s : State) (f : Pcie → Pcie) : (s.setPcie f).pending = s.pending := (rfl)
@[simp] theorem State.setPcie_rd (s : State) (f : Pcie → Pcie) (x : Nat) : (s.setPcie f).rd x = s.rd x := (rfl)
@[simp] theorem State.setPcie_get (s : State) (f : Pcie → Pcie) (x : Fld) : (s.setPcie f).get x = s.get x := (rfl)
@[simp] theorem State.setPcie_on (s : State) (f : Pcie → Pcie) (x : Fld) : (s.setPcie f).on x = s.on x := (rfl)
@[simp] theorem State.setPcie_getI (s : State) (f : Pcie → Pcie) (x : Fld) : (s.setPcie f).getI x = s.getI x := (rfl)

/-! ### setJtag -/

@[simp] theorem State.setJtag_regs (s : State) (f : Jtag → Jtag) : (s.setJtag f).regs = s.regs := (rfl)
@[simp] theorem State.setJtag_pend (s : State) (f : Jtag → Jtag) : (s.setJtag f).pend = s.pend := (rfl)
@[simp] theorem State.setJtag_taken (s : State) (f : Jtag → Jtag) : (s.setJtag f).taken = s.taken := (rfl)
@[simp] theorem State.setJtag_acc (s : State) (f : Jtag → Jtag) : (s.setJtag f).acc = s.acc := (rfl)
@[simp] theorem State.setJtag_sys (s : State) (f : Jtag → Jtag) : (s.setJtag f).sys = s.sys := (rfl)
@[simp] theorem State.setJtag_links (s : State) (f : Jtag → Jtag) : (s.setJtag f).links = s.links := (rfl)
@[simp] theorem State.setJtag_pcie (s : State) (f : Jtag → Jtag) : (s.setJtag f).pcie = s.pcie := (rfl)
@[simp] theorem State.setJtag_log (s : State) (f : Jtag → Jtag) : (s.setJtag f).log = s.log := (rfl)
@[simp] theorem State.setJtag_mould (s : State) (f : Jtag → Jtag) : (s.setJtag f).mould = s.mould := (rfl)
@[simp] theorem State.setJtag_ports (s : State) (f : Jtag → Jtag) : (s.setJtag f).ports = s.ports := (rfl)
@[simp] theorem State.setJtag_enum (s : State) (f : Jtag → Jtag) : (s.setJtag f).enum = s.enum := (rfl)
@[simp] theorem State.setJtag_raster (s : State) (f : Jtag → Jtag) : (s.setJtag f).raster = s.raster := (rfl)
@[simp] theorem State.setJtag_wtg (s : State) (f : Jtag → Jtag) : (s.setJtag f).wtg = s.wtg := (rfl)
@[simp] theorem State.setJtag_commit (s : State) (f : Jtag → Jtag) : (s.setJtag f).commit = s.commit := (rfl)
@[simp] theorem State.setJtag_tileRas (s : State) (f : Jtag → Jtag) : (s.setJtag f).tileRas = s.tileRas := (rfl)
@[simp] theorem State.setJtag_tileRx (s : State) (f : Jtag → Jtag) : (s.setJtag f).tileRx = s.tileRx := (rfl)
@[simp] theorem State.setJtag_fo (s : State) (f : Jtag → Jtag) : (s.setJtag f).fo = s.fo := (rfl)
@[simp] theorem State.setJtag_stores (s : State) (f : Jtag → Jtag) : (s.setJtag f).stores = s.stores := (rfl)
@[simp] theorem State.setJtag_ings (s : State) (f : Jtag → Jtag) : (s.setJtag f).ings = s.ings := (rfl)
@[simp] theorem State.setJtag_rnds (s : State) (f : Jtag → Jtag) : (s.setJtag f).rnds = s.rnds := (rfl)
@[simp] theorem State.setJtag_layers (s : State) (f : Jtag → Jtag) : (s.setJtag f).layers = s.layers := (rfl)
@[simp] theorem State.setJtag_wbs (s : State) (f : Jtag → Jtag) : (s.setJtag f).wbs = s.wbs := (rfl)
@[simp] theorem State.setJtag_comp (s : State) (f : Jtag → Jtag) : (s.setJtag f).comp = s.comp := (rfl)
@[simp] theorem State.setJtag_dram (s : State) (f : Jtag → Jtag) : (s.setJtag f).dram = s.dram := (rfl)
@[simp] theorem State.setJtag_line (s : State) (f : Jtag → Jtag) : (s.setJtag f).line = s.line := (rfl)
@[simp] theorem State.setJtag_disp (s : State) (f : Jtag → Jtag) : (s.setJtag f).disp = s.disp := (rfl)
@[simp] theorem State.setJtag_lanes (s : State) (f : Jtag → Jtag) : (s.setJtag f).lanes = s.lanes := (rfl)
@[simp] theorem State.setJtag_cals (s : State) (f : Jtag → Jtag) : (s.setJtag f).cals = s.cals := (rfl)
@[simp] theorem State.setJtag_cave (s : State) (f : Jtag → Jtag) : (s.setJtag f).cave = s.cave := (rfl)
@[simp] theorem State.setJtag_tp (s : State) (f : Jtag → Jtag) : (s.setJtag f).tp = s.tp := (rfl)
@[simp] theorem State.setJtag_press (s : State) (f : Jtag → Jtag) : (s.setJtag f).press = s.press := (rfl)
@[simp] theorem State.setJtag_drams (s : State) (f : Jtag → Jtag) : (s.setJtag f).drams = s.drams := (rfl)
@[simp] theorem State.setJtag_dramFc (s : State) (f : Jtag → Jtag) : (s.setJtag f).dramFc = s.dramFc := (rfl)
@[simp] theorem State.setJtag_sensors (s : State) (f : Jtag → Jtag) : (s.setJtag f).sensors = s.sensors := (rfl)
@[simp] theorem State.setJtag_ceils (s : State) (f : Jtag → Jtag) : (s.setJtag f).ceils = s.ceils := (rfl)
@[simp] theorem State.setJtag_ptp (s : State) (f : Jtag → Jtag) : (s.setJtag f).ptp = s.ptp := (rfl)
@[simp] theorem State.setJtag_nets (s : State) (f : Jtag → Jtag) : (s.setJtag f).nets = s.nets := (rfl)
@[simp] theorem State.setJtag_wheel (s : State) (f : Jtag → Jtag) : (s.setJtag f).wheel = s.wheel := (rfl)
@[simp] theorem State.setJtag_auds (s : State) (f : Jtag → Jtag) : (s.setJtag f).auds = s.auds := (rfl)
@[simp] theorem State.setJtag_crcs (s : State) (f : Jtag → Jtag) : (s.setJtag f).crcs = s.crcs := (rfl)
@[simp] theorem State.setJtag_nv (s : State) (f : Jtag → Jtag) : (s.setJtag f).nv = s.nv := (rfl)
@[simp] theorem State.setJtag_upd (s : State) (f : Jtag → Jtag) : (s.setJtag f).upd = s.upd := (rfl)
@[simp] theorem State.setJtag_k24 (s : State) (f : Jtag → Jtag) : (s.setJtag f).k24 = s.k24 := (rfl)
@[simp] theorem State.setJtag_pram (s : State) (f : Jtag → Jtag) : (s.setJtag f).pram = s.pram := (rfl)
@[simp] theorem State.setJtag_out (s : State) (f : Jtag → Jtag) : (s.setJtag f).out = s.out := (rfl)
@[simp] theorem State.setJtag_freeN (s : State) (f : Jtag → Jtag) : (s.setJtag f).freeN = s.freeN := (rfl)
@[simp] theorem State.setJtag_pending (s : State) (f : Jtag → Jtag) : (s.setJtag f).pending = s.pending := (rfl)
@[simp] theorem State.setJtag_rd (s : State) (f : Jtag → Jtag) (x : Nat) : (s.setJtag f).rd x = s.rd x := (rfl)
@[simp] theorem State.setJtag_get (s : State) (f : Jtag → Jtag) (x : Fld) : (s.setJtag f).get x = s.get x := (rfl)
@[simp] theorem State.setJtag_on (s : State) (f : Jtag → Jtag) (x : Fld) : (s.setJtag f).on x = s.on x := (rfl)
@[simp] theorem State.setJtag_getI (s : State) (f : Jtag → Jtag) (x : Fld) : (s.setJtag f).getI x = s.getI x := (rfl)

/-! ### setLog -/

@[simp] theorem State.setLog_regs (s : State) (f : Elog → Elog) : (s.setLog f).regs = s.regs := (rfl)
@[simp] theorem State.setLog_pend (s : State) (f : Elog → Elog) : (s.setLog f).pend = s.pend := (rfl)
@[simp] theorem State.setLog_taken (s : State) (f : Elog → Elog) : (s.setLog f).taken = s.taken := (rfl)
@[simp] theorem State.setLog_acc (s : State) (f : Elog → Elog) : (s.setLog f).acc = s.acc := (rfl)
@[simp] theorem State.setLog_sys (s : State) (f : Elog → Elog) : (s.setLog f).sys = s.sys := (rfl)
@[simp] theorem State.setLog_links (s : State) (f : Elog → Elog) : (s.setLog f).links = s.links := (rfl)
@[simp] theorem State.setLog_pcie (s : State) (f : Elog → Elog) : (s.setLog f).pcie = s.pcie := (rfl)
@[simp] theorem State.setLog_jtag (s : State) (f : Elog → Elog) : (s.setLog f).jtag = s.jtag := (rfl)
@[simp] theorem State.setLog_mould (s : State) (f : Elog → Elog) : (s.setLog f).mould = s.mould := (rfl)
@[simp] theorem State.setLog_ports (s : State) (f : Elog → Elog) : (s.setLog f).ports = s.ports := (rfl)
@[simp] theorem State.setLog_enum (s : State) (f : Elog → Elog) : (s.setLog f).enum = s.enum := (rfl)
@[simp] theorem State.setLog_raster (s : State) (f : Elog → Elog) : (s.setLog f).raster = s.raster := (rfl)
@[simp] theorem State.setLog_wtg (s : State) (f : Elog → Elog) : (s.setLog f).wtg = s.wtg := (rfl)
@[simp] theorem State.setLog_commit (s : State) (f : Elog → Elog) : (s.setLog f).commit = s.commit := (rfl)
@[simp] theorem State.setLog_tileRas (s : State) (f : Elog → Elog) : (s.setLog f).tileRas = s.tileRas := (rfl)
@[simp] theorem State.setLog_tileRx (s : State) (f : Elog → Elog) : (s.setLog f).tileRx = s.tileRx := (rfl)
@[simp] theorem State.setLog_fo (s : State) (f : Elog → Elog) : (s.setLog f).fo = s.fo := (rfl)
@[simp] theorem State.setLog_stores (s : State) (f : Elog → Elog) : (s.setLog f).stores = s.stores := (rfl)
@[simp] theorem State.setLog_ings (s : State) (f : Elog → Elog) : (s.setLog f).ings = s.ings := (rfl)
@[simp] theorem State.setLog_rnds (s : State) (f : Elog → Elog) : (s.setLog f).rnds = s.rnds := (rfl)
@[simp] theorem State.setLog_layers (s : State) (f : Elog → Elog) : (s.setLog f).layers = s.layers := (rfl)
@[simp] theorem State.setLog_wbs (s : State) (f : Elog → Elog) : (s.setLog f).wbs = s.wbs := (rfl)
@[simp] theorem State.setLog_comp (s : State) (f : Elog → Elog) : (s.setLog f).comp = s.comp := (rfl)
@[simp] theorem State.setLog_dram (s : State) (f : Elog → Elog) : (s.setLog f).dram = s.dram := (rfl)
@[simp] theorem State.setLog_line (s : State) (f : Elog → Elog) : (s.setLog f).line = s.line := (rfl)
@[simp] theorem State.setLog_disp (s : State) (f : Elog → Elog) : (s.setLog f).disp = s.disp := (rfl)
@[simp] theorem State.setLog_lanes (s : State) (f : Elog → Elog) : (s.setLog f).lanes = s.lanes := (rfl)
@[simp] theorem State.setLog_cals (s : State) (f : Elog → Elog) : (s.setLog f).cals = s.cals := (rfl)
@[simp] theorem State.setLog_cave (s : State) (f : Elog → Elog) : (s.setLog f).cave = s.cave := (rfl)
@[simp] theorem State.setLog_tp (s : State) (f : Elog → Elog) : (s.setLog f).tp = s.tp := (rfl)
@[simp] theorem State.setLog_press (s : State) (f : Elog → Elog) : (s.setLog f).press = s.press := (rfl)
@[simp] theorem State.setLog_drams (s : State) (f : Elog → Elog) : (s.setLog f).drams = s.drams := (rfl)
@[simp] theorem State.setLog_dramFc (s : State) (f : Elog → Elog) : (s.setLog f).dramFc = s.dramFc := (rfl)
@[simp] theorem State.setLog_sensors (s : State) (f : Elog → Elog) : (s.setLog f).sensors = s.sensors := (rfl)
@[simp] theorem State.setLog_ceils (s : State) (f : Elog → Elog) : (s.setLog f).ceils = s.ceils := (rfl)
@[simp] theorem State.setLog_ptp (s : State) (f : Elog → Elog) : (s.setLog f).ptp = s.ptp := (rfl)
@[simp] theorem State.setLog_nets (s : State) (f : Elog → Elog) : (s.setLog f).nets = s.nets := (rfl)
@[simp] theorem State.setLog_wheel (s : State) (f : Elog → Elog) : (s.setLog f).wheel = s.wheel := (rfl)
@[simp] theorem State.setLog_auds (s : State) (f : Elog → Elog) : (s.setLog f).auds = s.auds := (rfl)
@[simp] theorem State.setLog_crcs (s : State) (f : Elog → Elog) : (s.setLog f).crcs = s.crcs := (rfl)
@[simp] theorem State.setLog_nv (s : State) (f : Elog → Elog) : (s.setLog f).nv = s.nv := (rfl)
@[simp] theorem State.setLog_upd (s : State) (f : Elog → Elog) : (s.setLog f).upd = s.upd := (rfl)
@[simp] theorem State.setLog_k24 (s : State) (f : Elog → Elog) : (s.setLog f).k24 = s.k24 := (rfl)
@[simp] theorem State.setLog_pram (s : State) (f : Elog → Elog) : (s.setLog f).pram = s.pram := (rfl)
@[simp] theorem State.setLog_out (s : State) (f : Elog → Elog) : (s.setLog f).out = s.out := (rfl)
@[simp] theorem State.setLog_freeN (s : State) (f : Elog → Elog) : (s.setLog f).freeN = s.freeN := (rfl)
@[simp] theorem State.setLog_pending (s : State) (f : Elog → Elog) : (s.setLog f).pending = s.pending := (rfl)
@[simp] theorem State.setLog_rd (s : State) (f : Elog → Elog) (x : Nat) : (s.setLog f).rd x = s.rd x := (rfl)
@[simp] theorem State.setLog_get (s : State) (f : Elog → Elog) (x : Fld) : (s.setLog f).get x = s.get x := (rfl)
@[simp] theorem State.setLog_on (s : State) (f : Elog → Elog) (x : Fld) : (s.setLog f).on x = s.on x := (rfl)
@[simp] theorem State.setLog_getI (s : State) (f : Elog → Elog) (x : Fld) : (s.setLog f).getI x = s.getI x := (rfl)

/-! ### setMould -/

@[simp] theorem State.setMould_regs (s : State) (f : Mould → Mould) : (s.setMould f).regs = s.regs := (rfl)
@[simp] theorem State.setMould_pend (s : State) (f : Mould → Mould) : (s.setMould f).pend = s.pend := (rfl)
@[simp] theorem State.setMould_taken (s : State) (f : Mould → Mould) : (s.setMould f).taken = s.taken := (rfl)
@[simp] theorem State.setMould_acc (s : State) (f : Mould → Mould) : (s.setMould f).acc = s.acc := (rfl)
@[simp] theorem State.setMould_sys (s : State) (f : Mould → Mould) : (s.setMould f).sys = s.sys := (rfl)
@[simp] theorem State.setMould_links (s : State) (f : Mould → Mould) : (s.setMould f).links = s.links := (rfl)
@[simp] theorem State.setMould_pcie (s : State) (f : Mould → Mould) : (s.setMould f).pcie = s.pcie := (rfl)
@[simp] theorem State.setMould_jtag (s : State) (f : Mould → Mould) : (s.setMould f).jtag = s.jtag := (rfl)
@[simp] theorem State.setMould_log (s : State) (f : Mould → Mould) : (s.setMould f).log = s.log := (rfl)
@[simp] theorem State.setMould_ports (s : State) (f : Mould → Mould) : (s.setMould f).ports = s.ports := (rfl)
@[simp] theorem State.setMould_enum (s : State) (f : Mould → Mould) : (s.setMould f).enum = s.enum := (rfl)
@[simp] theorem State.setMould_raster (s : State) (f : Mould → Mould) : (s.setMould f).raster = s.raster := (rfl)
@[simp] theorem State.setMould_wtg (s : State) (f : Mould → Mould) : (s.setMould f).wtg = s.wtg := (rfl)
@[simp] theorem State.setMould_commit (s : State) (f : Mould → Mould) : (s.setMould f).commit = s.commit := (rfl)
@[simp] theorem State.setMould_tileRas (s : State) (f : Mould → Mould) : (s.setMould f).tileRas = s.tileRas := (rfl)
@[simp] theorem State.setMould_tileRx (s : State) (f : Mould → Mould) : (s.setMould f).tileRx = s.tileRx := (rfl)
@[simp] theorem State.setMould_fo (s : State) (f : Mould → Mould) : (s.setMould f).fo = s.fo := (rfl)
@[simp] theorem State.setMould_stores (s : State) (f : Mould → Mould) : (s.setMould f).stores = s.stores := (rfl)
@[simp] theorem State.setMould_ings (s : State) (f : Mould → Mould) : (s.setMould f).ings = s.ings := (rfl)
@[simp] theorem State.setMould_rnds (s : State) (f : Mould → Mould) : (s.setMould f).rnds = s.rnds := (rfl)
@[simp] theorem State.setMould_layers (s : State) (f : Mould → Mould) : (s.setMould f).layers = s.layers := (rfl)
@[simp] theorem State.setMould_wbs (s : State) (f : Mould → Mould) : (s.setMould f).wbs = s.wbs := (rfl)
@[simp] theorem State.setMould_comp (s : State) (f : Mould → Mould) : (s.setMould f).comp = s.comp := (rfl)
@[simp] theorem State.setMould_dram (s : State) (f : Mould → Mould) : (s.setMould f).dram = s.dram := (rfl)
@[simp] theorem State.setMould_line (s : State) (f : Mould → Mould) : (s.setMould f).line = s.line := (rfl)
@[simp] theorem State.setMould_disp (s : State) (f : Mould → Mould) : (s.setMould f).disp = s.disp := (rfl)
@[simp] theorem State.setMould_lanes (s : State) (f : Mould → Mould) : (s.setMould f).lanes = s.lanes := (rfl)
@[simp] theorem State.setMould_cals (s : State) (f : Mould → Mould) : (s.setMould f).cals = s.cals := (rfl)
@[simp] theorem State.setMould_cave (s : State) (f : Mould → Mould) : (s.setMould f).cave = s.cave := (rfl)
@[simp] theorem State.setMould_tp (s : State) (f : Mould → Mould) : (s.setMould f).tp = s.tp := (rfl)
@[simp] theorem State.setMould_press (s : State) (f : Mould → Mould) : (s.setMould f).press = s.press := (rfl)
@[simp] theorem State.setMould_drams (s : State) (f : Mould → Mould) : (s.setMould f).drams = s.drams := (rfl)
@[simp] theorem State.setMould_dramFc (s : State) (f : Mould → Mould) : (s.setMould f).dramFc = s.dramFc := (rfl)
@[simp] theorem State.setMould_sensors (s : State) (f : Mould → Mould) : (s.setMould f).sensors = s.sensors := (rfl)
@[simp] theorem State.setMould_ceils (s : State) (f : Mould → Mould) : (s.setMould f).ceils = s.ceils := (rfl)
@[simp] theorem State.setMould_ptp (s : State) (f : Mould → Mould) : (s.setMould f).ptp = s.ptp := (rfl)
@[simp] theorem State.setMould_nets (s : State) (f : Mould → Mould) : (s.setMould f).nets = s.nets := (rfl)
@[simp] theorem State.setMould_wheel (s : State) (f : Mould → Mould) : (s.setMould f).wheel = s.wheel := (rfl)
@[simp] theorem State.setMould_auds (s : State) (f : Mould → Mould) : (s.setMould f).auds = s.auds := (rfl)
@[simp] theorem State.setMould_crcs (s : State) (f : Mould → Mould) : (s.setMould f).crcs = s.crcs := (rfl)
@[simp] theorem State.setMould_nv (s : State) (f : Mould → Mould) : (s.setMould f).nv = s.nv := (rfl)
@[simp] theorem State.setMould_upd (s : State) (f : Mould → Mould) : (s.setMould f).upd = s.upd := (rfl)
@[simp] theorem State.setMould_k24 (s : State) (f : Mould → Mould) : (s.setMould f).k24 = s.k24 := (rfl)
@[simp] theorem State.setMould_pram (s : State) (f : Mould → Mould) : (s.setMould f).pram = s.pram := (rfl)
@[simp] theorem State.setMould_out (s : State) (f : Mould → Mould) : (s.setMould f).out = s.out := (rfl)
@[simp] theorem State.setMould_freeN (s : State) (f : Mould → Mould) : (s.setMould f).freeN = s.freeN := (rfl)
@[simp] theorem State.setMould_pending (s : State) (f : Mould → Mould) : (s.setMould f).pending = s.pending := (rfl)
@[simp] theorem State.setMould_rd (s : State) (f : Mould → Mould) (x : Nat) : (s.setMould f).rd x = s.rd x := (rfl)
@[simp] theorem State.setMould_get (s : State) (f : Mould → Mould) (x : Fld) : (s.setMould f).get x = s.get x := (rfl)
@[simp] theorem State.setMould_on (s : State) (f : Mould → Mould) (x : Fld) : (s.setMould f).on x = s.on x := (rfl)
@[simp] theorem State.setMould_getI (s : State) (f : Mould → Mould) (x : Fld) : (s.setMould f).getI x = s.getI x := (rfl)

/-! ### setBuf -/

@[simp] theorem State.setBuf_regs (s : State) (k b : Nat) (f : BufInfo → BufInfo) : (s.setBuf k b f).regs = s.regs := (rfl)
@[simp] theorem State.setBuf_pend (s : State) (k b : Nat) (f : BufInfo → BufInfo) : (s.setBuf k b f).pend = s.pend := (rfl)
@[simp] theorem State.setBuf_taken (s : State) (k b : Nat) (f : BufInfo → BufInfo) : (s.setBuf k b f).taken = s.taken := (rfl)
@[simp] theorem State.setBuf_acc (s : State) (k b : Nat) (f : BufInfo → BufInfo) : (s.setBuf k b f).acc = s.acc := (rfl)
@[simp] theorem State.setBuf_sys (s : State) (k b : Nat) (f : BufInfo → BufInfo) : (s.setBuf k b f).sys = s.sys := (rfl)
@[simp] theorem State.setBuf_links (s : State) (k b : Nat) (f : BufInfo → BufInfo) : (s.setBuf k b f).links = s.links := (rfl)
@[simp] theorem State.setBuf_pcie (s : State) (k b : Nat) (f : BufInfo → BufInfo) : (s.setBuf k b f).pcie = s.pcie := (rfl)
@[simp] theorem State.setBuf_jtag (s : State) (k b : Nat) (f : BufInfo → BufInfo) : (s.setBuf k b f).jtag = s.jtag := (rfl)
@[simp] theorem State.setBuf_log (s : State) (k b : Nat) (f : BufInfo → BufInfo) : (s.setBuf k b f).log = s.log := (rfl)
@[simp] theorem State.setBuf_mould (s : State) (k b : Nat) (f : BufInfo → BufInfo) : (s.setBuf k b f).mould = s.mould := (rfl)
@[simp] theorem State.setBuf_ports (s : State) (k b : Nat) (f : BufInfo → BufInfo) : (s.setBuf k b f).ports = s.ports := (rfl)
@[simp] theorem State.setBuf_enum (s : State) (k b : Nat) (f : BufInfo → BufInfo) : (s.setBuf k b f).enum = s.enum := (rfl)
@[simp] theorem State.setBuf_raster (s : State) (k b : Nat) (f : BufInfo → BufInfo) : (s.setBuf k b f).raster = s.raster := (rfl)
@[simp] theorem State.setBuf_wtg (s : State) (k b : Nat) (f : BufInfo → BufInfo) : (s.setBuf k b f).wtg = s.wtg := (rfl)
@[simp] theorem State.setBuf_commit (s : State) (k b : Nat) (f : BufInfo → BufInfo) : (s.setBuf k b f).commit = s.commit := (rfl)
@[simp] theorem State.setBuf_tileRas (s : State) (k b : Nat) (f : BufInfo → BufInfo) : (s.setBuf k b f).tileRas = s.tileRas := (rfl)
@[simp] theorem State.setBuf_tileRx (s : State) (k b : Nat) (f : BufInfo → BufInfo) : (s.setBuf k b f).tileRx = s.tileRx := (rfl)
@[simp] theorem State.setBuf_fo (s : State) (k b : Nat) (f : BufInfo → BufInfo) : (s.setBuf k b f).fo = s.fo := (rfl)
@[simp] theorem State.setBuf_ings (s : State) (k b : Nat) (f : BufInfo → BufInfo) : (s.setBuf k b f).ings = s.ings := (rfl)
@[simp] theorem State.setBuf_rnds (s : State) (k b : Nat) (f : BufInfo → BufInfo) : (s.setBuf k b f).rnds = s.rnds := (rfl)
@[simp] theorem State.setBuf_layers (s : State) (k b : Nat) (f : BufInfo → BufInfo) : (s.setBuf k b f).layers = s.layers := (rfl)
@[simp] theorem State.setBuf_wbs (s : State) (k b : Nat) (f : BufInfo → BufInfo) : (s.setBuf k b f).wbs = s.wbs := (rfl)
@[simp] theorem State.setBuf_comp (s : State) (k b : Nat) (f : BufInfo → BufInfo) : (s.setBuf k b f).comp = s.comp := (rfl)
@[simp] theorem State.setBuf_dram (s : State) (k b : Nat) (f : BufInfo → BufInfo) : (s.setBuf k b f).dram = s.dram := (rfl)
@[simp] theorem State.setBuf_line (s : State) (k b : Nat) (f : BufInfo → BufInfo) : (s.setBuf k b f).line = s.line := (rfl)
@[simp] theorem State.setBuf_disp (s : State) (k b : Nat) (f : BufInfo → BufInfo) : (s.setBuf k b f).disp = s.disp := (rfl)
@[simp] theorem State.setBuf_lanes (s : State) (k b : Nat) (f : BufInfo → BufInfo) : (s.setBuf k b f).lanes = s.lanes := (rfl)
@[simp] theorem State.setBuf_cals (s : State) (k b : Nat) (f : BufInfo → BufInfo) : (s.setBuf k b f).cals = s.cals := (rfl)
@[simp] theorem State.setBuf_cave (s : State) (k b : Nat) (f : BufInfo → BufInfo) : (s.setBuf k b f).cave = s.cave := (rfl)
@[simp] theorem State.setBuf_tp (s : State) (k b : Nat) (f : BufInfo → BufInfo) : (s.setBuf k b f).tp = s.tp := (rfl)
@[simp] theorem State.setBuf_press (s : State) (k b : Nat) (f : BufInfo → BufInfo) : (s.setBuf k b f).press = s.press := (rfl)
@[simp] theorem State.setBuf_drams (s : State) (k b : Nat) (f : BufInfo → BufInfo) : (s.setBuf k b f).drams = s.drams := (rfl)
@[simp] theorem State.setBuf_dramFc (s : State) (k b : Nat) (f : BufInfo → BufInfo) : (s.setBuf k b f).dramFc = s.dramFc := (rfl)
@[simp] theorem State.setBuf_sensors (s : State) (k b : Nat) (f : BufInfo → BufInfo) : (s.setBuf k b f).sensors = s.sensors := (rfl)
@[simp] theorem State.setBuf_ceils (s : State) (k b : Nat) (f : BufInfo → BufInfo) : (s.setBuf k b f).ceils = s.ceils := (rfl)
@[simp] theorem State.setBuf_ptp (s : State) (k b : Nat) (f : BufInfo → BufInfo) : (s.setBuf k b f).ptp = s.ptp := (rfl)
@[simp] theorem State.setBuf_nets (s : State) (k b : Nat) (f : BufInfo → BufInfo) : (s.setBuf k b f).nets = s.nets := (rfl)
@[simp] theorem State.setBuf_wheel (s : State) (k b : Nat) (f : BufInfo → BufInfo) : (s.setBuf k b f).wheel = s.wheel := (rfl)
@[simp] theorem State.setBuf_auds (s : State) (k b : Nat) (f : BufInfo → BufInfo) : (s.setBuf k b f).auds = s.auds := (rfl)
@[simp] theorem State.setBuf_crcs (s : State) (k b : Nat) (f : BufInfo → BufInfo) : (s.setBuf k b f).crcs = s.crcs := (rfl)
@[simp] theorem State.setBuf_nv (s : State) (k b : Nat) (f : BufInfo → BufInfo) : (s.setBuf k b f).nv = s.nv := (rfl)
@[simp] theorem State.setBuf_upd (s : State) (k b : Nat) (f : BufInfo → BufInfo) : (s.setBuf k b f).upd = s.upd := (rfl)
@[simp] theorem State.setBuf_k24 (s : State) (k b : Nat) (f : BufInfo → BufInfo) : (s.setBuf k b f).k24 = s.k24 := (rfl)
@[simp] theorem State.setBuf_pram (s : State) (k b : Nat) (f : BufInfo → BufInfo) : (s.setBuf k b f).pram = s.pram := (rfl)
@[simp] theorem State.setBuf_out (s : State) (k b : Nat) (f : BufInfo → BufInfo) : (s.setBuf k b f).out = s.out := (rfl)
@[simp] theorem State.setBuf_freeN (s : State) (k b : Nat) (f : BufInfo → BufInfo) : (s.setBuf k b f).freeN = s.freeN := (rfl)
@[simp] theorem State.setBuf_pending (s : State) (k b : Nat) (f : BufInfo → BufInfo) : (s.setBuf k b f).pending = s.pending := (rfl)
@[simp] theorem State.setBuf_rd (s : State) (k b : Nat) (f : BufInfo → BufInfo) (x : Nat) : (s.setBuf k b f).rd x = s.rd x := (rfl)
@[simp] theorem State.setBuf_get (s : State) (k b : Nat) (f : BufInfo → BufInfo) (x : Fld) : (s.setBuf k b f).get x = s.get x := (rfl)
@[simp] theorem State.setBuf_on (s : State) (k b : Nat) (f : BufInfo → BufInfo) (x : Fld) : (s.setBuf k b f).on x = s.on x := (rfl)
@[simp] theorem State.setBuf_getI (s : State) (k b : Nat) (f : BufInfo → BufInfo) (x : Fld) : (s.setBuf k b f).getI x = s.getI x := (rfl)

/-! ### setIng -/

@[simp] theorem State.setIng_regs (s : State) (v e : Nat) (f : Ingest → Ingest) : (s.setIng v e f).regs = s.regs := (rfl)
@[simp] theorem State.setIng_pend (s : State) (v e : Nat) (f : Ingest → Ingest) : (s.setIng v e f).pend = s.pend := (rfl)
@[simp] theorem State.setIng_taken (s : State) (v e : Nat) (f : Ingest → Ingest) : (s.setIng v e f).taken = s.taken := (rfl)
@[simp] theorem State.setIng_acc (s : State) (v e : Nat) (f : Ingest → Ingest) : (s.setIng v e f).acc = s.acc := (rfl)
@[simp] theorem State.setIng_sys (s : State) (v e : Nat) (f : Ingest → Ingest) : (s.setIng v e f).sys = s.sys := (rfl)
@[simp] theorem State.setIng_links (s : State) (v e : Nat) (f : Ingest → Ingest) : (s.setIng v e f).links = s.links := (rfl)
@[simp] theorem State.setIng_pcie (s : State) (v e : Nat) (f : Ingest → Ingest) : (s.setIng v e f).pcie = s.pcie := (rfl)
@[simp] theorem State.setIng_jtag (s : State) (v e : Nat) (f : Ingest → Ingest) : (s.setIng v e f).jtag = s.jtag := (rfl)
@[simp] theorem State.setIng_log (s : State) (v e : Nat) (f : Ingest → Ingest) : (s.setIng v e f).log = s.log := (rfl)
@[simp] theorem State.setIng_mould (s : State) (v e : Nat) (f : Ingest → Ingest) : (s.setIng v e f).mould = s.mould := (rfl)
@[simp] theorem State.setIng_ports (s : State) (v e : Nat) (f : Ingest → Ingest) : (s.setIng v e f).ports = s.ports := (rfl)
@[simp] theorem State.setIng_enum (s : State) (v e : Nat) (f : Ingest → Ingest) : (s.setIng v e f).enum = s.enum := (rfl)
@[simp] theorem State.setIng_raster (s : State) (v e : Nat) (f : Ingest → Ingest) : (s.setIng v e f).raster = s.raster := (rfl)
@[simp] theorem State.setIng_wtg (s : State) (v e : Nat) (f : Ingest → Ingest) : (s.setIng v e f).wtg = s.wtg := (rfl)
@[simp] theorem State.setIng_commit (s : State) (v e : Nat) (f : Ingest → Ingest) : (s.setIng v e f).commit = s.commit := (rfl)
@[simp] theorem State.setIng_tileRas (s : State) (v e : Nat) (f : Ingest → Ingest) : (s.setIng v e f).tileRas = s.tileRas := (rfl)
@[simp] theorem State.setIng_tileRx (s : State) (v e : Nat) (f : Ingest → Ingest) : (s.setIng v e f).tileRx = s.tileRx := (rfl)
@[simp] theorem State.setIng_fo (s : State) (v e : Nat) (f : Ingest → Ingest) : (s.setIng v e f).fo = s.fo := (rfl)
@[simp] theorem State.setIng_stores (s : State) (v e : Nat) (f : Ingest → Ingest) : (s.setIng v e f).stores = s.stores := (rfl)
@[simp] theorem State.setIng_rnds (s : State) (v e : Nat) (f : Ingest → Ingest) : (s.setIng v e f).rnds = s.rnds := (rfl)
@[simp] theorem State.setIng_layers (s : State) (v e : Nat) (f : Ingest → Ingest) : (s.setIng v e f).layers = s.layers := (rfl)
@[simp] theorem State.setIng_wbs (s : State) (v e : Nat) (f : Ingest → Ingest) : (s.setIng v e f).wbs = s.wbs := (rfl)
@[simp] theorem State.setIng_comp (s : State) (v e : Nat) (f : Ingest → Ingest) : (s.setIng v e f).comp = s.comp := (rfl)
@[simp] theorem State.setIng_dram (s : State) (v e : Nat) (f : Ingest → Ingest) : (s.setIng v e f).dram = s.dram := (rfl)
@[simp] theorem State.setIng_line (s : State) (v e : Nat) (f : Ingest → Ingest) : (s.setIng v e f).line = s.line := (rfl)
@[simp] theorem State.setIng_disp (s : State) (v e : Nat) (f : Ingest → Ingest) : (s.setIng v e f).disp = s.disp := (rfl)
@[simp] theorem State.setIng_lanes (s : State) (v e : Nat) (f : Ingest → Ingest) : (s.setIng v e f).lanes = s.lanes := (rfl)
@[simp] theorem State.setIng_cals (s : State) (v e : Nat) (f : Ingest → Ingest) : (s.setIng v e f).cals = s.cals := (rfl)
@[simp] theorem State.setIng_cave (s : State) (v e : Nat) (f : Ingest → Ingest) : (s.setIng v e f).cave = s.cave := (rfl)
@[simp] theorem State.setIng_tp (s : State) (v e : Nat) (f : Ingest → Ingest) : (s.setIng v e f).tp = s.tp := (rfl)
@[simp] theorem State.setIng_press (s : State) (v e : Nat) (f : Ingest → Ingest) : (s.setIng v e f).press = s.press := (rfl)
@[simp] theorem State.setIng_drams (s : State) (v e : Nat) (f : Ingest → Ingest) : (s.setIng v e f).drams = s.drams := (rfl)
@[simp] theorem State.setIng_dramFc (s : State) (v e : Nat) (f : Ingest → Ingest) : (s.setIng v e f).dramFc = s.dramFc := (rfl)
@[simp] theorem State.setIng_sensors (s : State) (v e : Nat) (f : Ingest → Ingest) : (s.setIng v e f).sensors = s.sensors := (rfl)
@[simp] theorem State.setIng_ceils (s : State) (v e : Nat) (f : Ingest → Ingest) : (s.setIng v e f).ceils = s.ceils := (rfl)
@[simp] theorem State.setIng_ptp (s : State) (v e : Nat) (f : Ingest → Ingest) : (s.setIng v e f).ptp = s.ptp := (rfl)
@[simp] theorem State.setIng_nets (s : State) (v e : Nat) (f : Ingest → Ingest) : (s.setIng v e f).nets = s.nets := (rfl)
@[simp] theorem State.setIng_wheel (s : State) (v e : Nat) (f : Ingest → Ingest) : (s.setIng v e f).wheel = s.wheel := (rfl)
@[simp] theorem State.setIng_auds (s : State) (v e : Nat) (f : Ingest → Ingest) : (s.setIng v e f).auds = s.auds := (rfl)
@[simp] theorem State.setIng_crcs (s : State) (v e : Nat) (f : Ingest → Ingest) : (s.setIng v e f).crcs = s.crcs := (rfl)
@[simp] theorem State.setIng_nv (s : State) (v e : Nat) (f : Ingest → Ingest) : (s.setIng v e f).nv = s.nv := (rfl)
@[simp] theorem State.setIng_upd (s : State) (v e : Nat) (f : Ingest → Ingest) : (s.setIng v e f).upd = s.upd := (rfl)
@[simp] theorem State.setIng_k24 (s : State) (v e : Nat) (f : Ingest → Ingest) : (s.setIng v e f).k24 = s.k24 := (rfl)
@[simp] theorem State.setIng_pram (s : State) (v e : Nat) (f : Ingest → Ingest) : (s.setIng v e f).pram = s.pram := (rfl)
@[simp] theorem State.setIng_out (s : State) (v e : Nat) (f : Ingest → Ingest) : (s.setIng v e f).out = s.out := (rfl)
@[simp] theorem State.setIng_freeN (s : State) (v e : Nat) (f : Ingest → Ingest) : (s.setIng v e f).freeN = s.freeN := (rfl)
@[simp] theorem State.setIng_pending (s : State) (v e : Nat) (f : Ingest → Ingest) : (s.setIng v e f).pending = s.pending := (rfl)
@[simp] theorem State.setIng_rd (s : State) (v e : Nat) (f : Ingest → Ingest) (x : Nat) : (s.setIng v e f).rd x = s.rd x := (rfl)
@[simp] theorem State.setIng_get (s : State) (v e : Nat) (f : Ingest → Ingest) (x : Fld) : (s.setIng v e f).get x = s.get x := (rfl)
@[simp] theorem State.setIng_on (s : State) (v e : Nat) (f : Ingest → Ingest) (x : Fld) : (s.setIng v e f).on x = s.on x := (rfl)
@[simp] theorem State.setIng_getI (s : State) (v e : Nat) (f : Ingest → Ingest) (x : Fld) : (s.setIng v e f).getI x = s.getI x := (rfl)

/-! ### setRnd -/

@[simp] theorem State.setRnd_regs (s : State) (v r : Nat) (f : Rnd → Rnd) : (s.setRnd v r f).regs = s.regs := (rfl)
@[simp] theorem State.setRnd_pend (s : State) (v r : Nat) (f : Rnd → Rnd) : (s.setRnd v r f).pend = s.pend := (rfl)
@[simp] theorem State.setRnd_taken (s : State) (v r : Nat) (f : Rnd → Rnd) : (s.setRnd v r f).taken = s.taken := (rfl)
@[simp] theorem State.setRnd_acc (s : State) (v r : Nat) (f : Rnd → Rnd) : (s.setRnd v r f).acc = s.acc := (rfl)
@[simp] theorem State.setRnd_sys (s : State) (v r : Nat) (f : Rnd → Rnd) : (s.setRnd v r f).sys = s.sys := (rfl)
@[simp] theorem State.setRnd_links (s : State) (v r : Nat) (f : Rnd → Rnd) : (s.setRnd v r f).links = s.links := (rfl)
@[simp] theorem State.setRnd_pcie (s : State) (v r : Nat) (f : Rnd → Rnd) : (s.setRnd v r f).pcie = s.pcie := (rfl)
@[simp] theorem State.setRnd_jtag (s : State) (v r : Nat) (f : Rnd → Rnd) : (s.setRnd v r f).jtag = s.jtag := (rfl)
@[simp] theorem State.setRnd_log (s : State) (v r : Nat) (f : Rnd → Rnd) : (s.setRnd v r f).log = s.log := (rfl)
@[simp] theorem State.setRnd_mould (s : State) (v r : Nat) (f : Rnd → Rnd) : (s.setRnd v r f).mould = s.mould := (rfl)
@[simp] theorem State.setRnd_ports (s : State) (v r : Nat) (f : Rnd → Rnd) : (s.setRnd v r f).ports = s.ports := (rfl)
@[simp] theorem State.setRnd_enum (s : State) (v r : Nat) (f : Rnd → Rnd) : (s.setRnd v r f).enum = s.enum := (rfl)
@[simp] theorem State.setRnd_raster (s : State) (v r : Nat) (f : Rnd → Rnd) : (s.setRnd v r f).raster = s.raster := (rfl)
@[simp] theorem State.setRnd_wtg (s : State) (v r : Nat) (f : Rnd → Rnd) : (s.setRnd v r f).wtg = s.wtg := (rfl)
@[simp] theorem State.setRnd_commit (s : State) (v r : Nat) (f : Rnd → Rnd) : (s.setRnd v r f).commit = s.commit := (rfl)
@[simp] theorem State.setRnd_tileRas (s : State) (v r : Nat) (f : Rnd → Rnd) : (s.setRnd v r f).tileRas = s.tileRas := (rfl)
@[simp] theorem State.setRnd_tileRx (s : State) (v r : Nat) (f : Rnd → Rnd) : (s.setRnd v r f).tileRx = s.tileRx := (rfl)
@[simp] theorem State.setRnd_fo (s : State) (v r : Nat) (f : Rnd → Rnd) : (s.setRnd v r f).fo = s.fo := (rfl)
@[simp] theorem State.setRnd_stores (s : State) (v r : Nat) (f : Rnd → Rnd) : (s.setRnd v r f).stores = s.stores := (rfl)
@[simp] theorem State.setRnd_ings (s : State) (v r : Nat) (f : Rnd → Rnd) : (s.setRnd v r f).ings = s.ings := (rfl)
@[simp] theorem State.setRnd_layers (s : State) (v r : Nat) (f : Rnd → Rnd) : (s.setRnd v r f).layers = s.layers := (rfl)
@[simp] theorem State.setRnd_wbs (s : State) (v r : Nat) (f : Rnd → Rnd) : (s.setRnd v r f).wbs = s.wbs := (rfl)
@[simp] theorem State.setRnd_comp (s : State) (v r : Nat) (f : Rnd → Rnd) : (s.setRnd v r f).comp = s.comp := (rfl)
@[simp] theorem State.setRnd_dram (s : State) (v r : Nat) (f : Rnd → Rnd) : (s.setRnd v r f).dram = s.dram := (rfl)
@[simp] theorem State.setRnd_line (s : State) (v r : Nat) (f : Rnd → Rnd) : (s.setRnd v r f).line = s.line := (rfl)
@[simp] theorem State.setRnd_disp (s : State) (v r : Nat) (f : Rnd → Rnd) : (s.setRnd v r f).disp = s.disp := (rfl)
@[simp] theorem State.setRnd_lanes (s : State) (v r : Nat) (f : Rnd → Rnd) : (s.setRnd v r f).lanes = s.lanes := (rfl)
@[simp] theorem State.setRnd_cals (s : State) (v r : Nat) (f : Rnd → Rnd) : (s.setRnd v r f).cals = s.cals := (rfl)
@[simp] theorem State.setRnd_cave (s : State) (v r : Nat) (f : Rnd → Rnd) : (s.setRnd v r f).cave = s.cave := (rfl)
@[simp] theorem State.setRnd_tp (s : State) (v r : Nat) (f : Rnd → Rnd) : (s.setRnd v r f).tp = s.tp := (rfl)
@[simp] theorem State.setRnd_press (s : State) (v r : Nat) (f : Rnd → Rnd) : (s.setRnd v r f).press = s.press := (rfl)
@[simp] theorem State.setRnd_drams (s : State) (v r : Nat) (f : Rnd → Rnd) : (s.setRnd v r f).drams = s.drams := (rfl)
@[simp] theorem State.setRnd_dramFc (s : State) (v r : Nat) (f : Rnd → Rnd) : (s.setRnd v r f).dramFc = s.dramFc := (rfl)
@[simp] theorem State.setRnd_sensors (s : State) (v r : Nat) (f : Rnd → Rnd) : (s.setRnd v r f).sensors = s.sensors := (rfl)
@[simp] theorem State.setRnd_ceils (s : State) (v r : Nat) (f : Rnd → Rnd) : (s.setRnd v r f).ceils = s.ceils := (rfl)
@[simp] theorem State.setRnd_ptp (s : State) (v r : Nat) (f : Rnd → Rnd) : (s.setRnd v r f).ptp = s.ptp := (rfl)
@[simp] theorem State.setRnd_nets (s : State) (v r : Nat) (f : Rnd → Rnd) : (s.setRnd v r f).nets = s.nets := (rfl)
@[simp] theorem State.setRnd_wheel (s : State) (v r : Nat) (f : Rnd → Rnd) : (s.setRnd v r f).wheel = s.wheel := (rfl)
@[simp] theorem State.setRnd_auds (s : State) (v r : Nat) (f : Rnd → Rnd) : (s.setRnd v r f).auds = s.auds := (rfl)
@[simp] theorem State.setRnd_crcs (s : State) (v r : Nat) (f : Rnd → Rnd) : (s.setRnd v r f).crcs = s.crcs := (rfl)
@[simp] theorem State.setRnd_nv (s : State) (v r : Nat) (f : Rnd → Rnd) : (s.setRnd v r f).nv = s.nv := (rfl)
@[simp] theorem State.setRnd_upd (s : State) (v r : Nat) (f : Rnd → Rnd) : (s.setRnd v r f).upd = s.upd := (rfl)
@[simp] theorem State.setRnd_k24 (s : State) (v r : Nat) (f : Rnd → Rnd) : (s.setRnd v r f).k24 = s.k24 := (rfl)
@[simp] theorem State.setRnd_pram (s : State) (v r : Nat) (f : Rnd → Rnd) : (s.setRnd v r f).pram = s.pram := (rfl)
@[simp] theorem State.setRnd_out (s : State) (v r : Nat) (f : Rnd → Rnd) : (s.setRnd v r f).out = s.out := (rfl)
@[simp] theorem State.setRnd_freeN (s : State) (v r : Nat) (f : Rnd → Rnd) : (s.setRnd v r f).freeN = s.freeN := (rfl)
@[simp] theorem State.setRnd_pending (s : State) (v r : Nat) (f : Rnd → Rnd) : (s.setRnd v r f).pending = s.pending := (rfl)
@[simp] theorem State.setRnd_rd (s : State) (v r : Nat) (f : Rnd → Rnd) (x : Nat) : (s.setRnd v r f).rd x = s.rd x := (rfl)
@[simp] theorem State.setRnd_get (s : State) (v r : Nat) (f : Rnd → Rnd) (x : Fld) : (s.setRnd v r f).get x = s.get x := (rfl)
@[simp] theorem State.setRnd_on (s : State) (v r : Nat) (f : Rnd → Rnd) (x : Fld) : (s.setRnd v r f).on x = s.on x := (rfl)
@[simp] theorem State.setRnd_getI (s : State) (v r : Nat) (f : Rnd → Rnd) (x : Fld) : (s.setRnd v r f).getI x = s.getI x := (rfl)

/-! ### setLayer -/

@[simp] theorem State.setLayer_regs (s : State) (v e : Nat) (f : Layer → Layer) : (s.setLayer v e f).regs = s.regs := (rfl)
@[simp] theorem State.setLayer_pend (s : State) (v e : Nat) (f : Layer → Layer) : (s.setLayer v e f).pend = s.pend := (rfl)
@[simp] theorem State.setLayer_taken (s : State) (v e : Nat) (f : Layer → Layer) : (s.setLayer v e f).taken = s.taken := (rfl)
@[simp] theorem State.setLayer_acc (s : State) (v e : Nat) (f : Layer → Layer) : (s.setLayer v e f).acc = s.acc := (rfl)
@[simp] theorem State.setLayer_sys (s : State) (v e : Nat) (f : Layer → Layer) : (s.setLayer v e f).sys = s.sys := (rfl)
@[simp] theorem State.setLayer_links (s : State) (v e : Nat) (f : Layer → Layer) : (s.setLayer v e f).links = s.links := (rfl)
@[simp] theorem State.setLayer_pcie (s : State) (v e : Nat) (f : Layer → Layer) : (s.setLayer v e f).pcie = s.pcie := (rfl)
@[simp] theorem State.setLayer_jtag (s : State) (v e : Nat) (f : Layer → Layer) : (s.setLayer v e f).jtag = s.jtag := (rfl)
@[simp] theorem State.setLayer_log (s : State) (v e : Nat) (f : Layer → Layer) : (s.setLayer v e f).log = s.log := (rfl)
@[simp] theorem State.setLayer_mould (s : State) (v e : Nat) (f : Layer → Layer) : (s.setLayer v e f).mould = s.mould := (rfl)
@[simp] theorem State.setLayer_ports (s : State) (v e : Nat) (f : Layer → Layer) : (s.setLayer v e f).ports = s.ports := (rfl)
@[simp] theorem State.setLayer_enum (s : State) (v e : Nat) (f : Layer → Layer) : (s.setLayer v e f).enum = s.enum := (rfl)
@[simp] theorem State.setLayer_raster (s : State) (v e : Nat) (f : Layer → Layer) : (s.setLayer v e f).raster = s.raster := (rfl)
@[simp] theorem State.setLayer_wtg (s : State) (v e : Nat) (f : Layer → Layer) : (s.setLayer v e f).wtg = s.wtg := (rfl)
@[simp] theorem State.setLayer_commit (s : State) (v e : Nat) (f : Layer → Layer) : (s.setLayer v e f).commit = s.commit := (rfl)
@[simp] theorem State.setLayer_tileRas (s : State) (v e : Nat) (f : Layer → Layer) : (s.setLayer v e f).tileRas = s.tileRas := (rfl)
@[simp] theorem State.setLayer_tileRx (s : State) (v e : Nat) (f : Layer → Layer) : (s.setLayer v e f).tileRx = s.tileRx := (rfl)
@[simp] theorem State.setLayer_fo (s : State) (v e : Nat) (f : Layer → Layer) : (s.setLayer v e f).fo = s.fo := (rfl)
@[simp] theorem State.setLayer_stores (s : State) (v e : Nat) (f : Layer → Layer) : (s.setLayer v e f).stores = s.stores := (rfl)
@[simp] theorem State.setLayer_ings (s : State) (v e : Nat) (f : Layer → Layer) : (s.setLayer v e f).ings = s.ings := (rfl)
@[simp] theorem State.setLayer_rnds (s : State) (v e : Nat) (f : Layer → Layer) : (s.setLayer v e f).rnds = s.rnds := (rfl)
@[simp] theorem State.setLayer_wbs (s : State) (v e : Nat) (f : Layer → Layer) : (s.setLayer v e f).wbs = s.wbs := (rfl)
@[simp] theorem State.setLayer_comp (s : State) (v e : Nat) (f : Layer → Layer) : (s.setLayer v e f).comp = s.comp := (rfl)
@[simp] theorem State.setLayer_dram (s : State) (v e : Nat) (f : Layer → Layer) : (s.setLayer v e f).dram = s.dram := (rfl)
@[simp] theorem State.setLayer_line (s : State) (v e : Nat) (f : Layer → Layer) : (s.setLayer v e f).line = s.line := (rfl)
@[simp] theorem State.setLayer_disp (s : State) (v e : Nat) (f : Layer → Layer) : (s.setLayer v e f).disp = s.disp := (rfl)
@[simp] theorem State.setLayer_lanes (s : State) (v e : Nat) (f : Layer → Layer) : (s.setLayer v e f).lanes = s.lanes := (rfl)
@[simp] theorem State.setLayer_cals (s : State) (v e : Nat) (f : Layer → Layer) : (s.setLayer v e f).cals = s.cals := (rfl)
@[simp] theorem State.setLayer_cave (s : State) (v e : Nat) (f : Layer → Layer) : (s.setLayer v e f).cave = s.cave := (rfl)
@[simp] theorem State.setLayer_tp (s : State) (v e : Nat) (f : Layer → Layer) : (s.setLayer v e f).tp = s.tp := (rfl)
@[simp] theorem State.setLayer_press (s : State) (v e : Nat) (f : Layer → Layer) : (s.setLayer v e f).press = s.press := (rfl)
@[simp] theorem State.setLayer_drams (s : State) (v e : Nat) (f : Layer → Layer) : (s.setLayer v e f).drams = s.drams := (rfl)
@[simp] theorem State.setLayer_dramFc (s : State) (v e : Nat) (f : Layer → Layer) : (s.setLayer v e f).dramFc = s.dramFc := (rfl)
@[simp] theorem State.setLayer_sensors (s : State) (v e : Nat) (f : Layer → Layer) : (s.setLayer v e f).sensors = s.sensors := (rfl)
@[simp] theorem State.setLayer_ceils (s : State) (v e : Nat) (f : Layer → Layer) : (s.setLayer v e f).ceils = s.ceils := (rfl)
@[simp] theorem State.setLayer_ptp (s : State) (v e : Nat) (f : Layer → Layer) : (s.setLayer v e f).ptp = s.ptp := (rfl)
@[simp] theorem State.setLayer_nets (s : State) (v e : Nat) (f : Layer → Layer) : (s.setLayer v e f).nets = s.nets := (rfl)
@[simp] theorem State.setLayer_wheel (s : State) (v e : Nat) (f : Layer → Layer) : (s.setLayer v e f).wheel = s.wheel := (rfl)
@[simp] theorem State.setLayer_auds (s : State) (v e : Nat) (f : Layer → Layer) : (s.setLayer v e f).auds = s.auds := (rfl)
@[simp] theorem State.setLayer_crcs (s : State) (v e : Nat) (f : Layer → Layer) : (s.setLayer v e f).crcs = s.crcs := (rfl)
@[simp] theorem State.setLayer_nv (s : State) (v e : Nat) (f : Layer → Layer) : (s.setLayer v e f).nv = s.nv := (rfl)
@[simp] theorem State.setLayer_upd (s : State) (v e : Nat) (f : Layer → Layer) : (s.setLayer v e f).upd = s.upd := (rfl)
@[simp] theorem State.setLayer_k24 (s : State) (v e : Nat) (f : Layer → Layer) : (s.setLayer v e f).k24 = s.k24 := (rfl)
@[simp] theorem State.setLayer_pram (s : State) (v e : Nat) (f : Layer → Layer) : (s.setLayer v e f).pram = s.pram := (rfl)
@[simp] theorem State.setLayer_out (s : State) (v e : Nat) (f : Layer → Layer) : (s.setLayer v e f).out = s.out := (rfl)
@[simp] theorem State.setLayer_freeN (s : State) (v e : Nat) (f : Layer → Layer) : (s.setLayer v e f).freeN = s.freeN := (rfl)
@[simp] theorem State.setLayer_pending (s : State) (v e : Nat) (f : Layer → Layer) : (s.setLayer v e f).pending = s.pending := (rfl)
@[simp] theorem State.setLayer_rd (s : State) (v e : Nat) (f : Layer → Layer) (x : Nat) : (s.setLayer v e f).rd x = s.rd x := (rfl)
@[simp] theorem State.setLayer_get (s : State) (v e : Nat) (f : Layer → Layer) (x : Fld) : (s.setLayer v e f).get x = s.get x := (rfl)
@[simp] theorem State.setLayer_on (s : State) (v e : Nat) (f : Layer → Layer) (x : Fld) : (s.setLayer v e f).on x = s.on x := (rfl)
@[simp] theorem State.setLayer_getI (s : State) (v e : Nat) (f : Layer → Layer) (x : Fld) : (s.setLayer v e f).getI x = s.getI x := (rfl)

/-! ### setByte -/

@[simp] theorem State.setByte_regs (s : State) (a : Nat) (b : Byte) : (s.setByte a b).regs = s.regs := (rfl)
@[simp] theorem State.setByte_pend (s : State) (a : Nat) (b : Byte) : (s.setByte a b).pend = s.pend := (rfl)
@[simp] theorem State.setByte_taken (s : State) (a : Nat) (b : Byte) : (s.setByte a b).taken = s.taken := (rfl)
@[simp] theorem State.setByte_acc (s : State) (a : Nat) (b : Byte) : (s.setByte a b).acc = s.acc := (rfl)
@[simp] theorem State.setByte_sys (s : State) (a : Nat) (b : Byte) : (s.setByte a b).sys = s.sys := (rfl)
@[simp] theorem State.setByte_links (s : State) (a : Nat) (b : Byte) : (s.setByte a b).links = s.links := (rfl)
@[simp] theorem State.setByte_pcie (s : State) (a : Nat) (b : Byte) : (s.setByte a b).pcie = s.pcie := (rfl)
@[simp] theorem State.setByte_jtag (s : State) (a : Nat) (b : Byte) : (s.setByte a b).jtag = s.jtag := (rfl)
@[simp] theorem State.setByte_log (s : State) (a : Nat) (b : Byte) : (s.setByte a b).log = s.log := (rfl)
@[simp] theorem State.setByte_mould (s : State) (a : Nat) (b : Byte) : (s.setByte a b).mould = s.mould := (rfl)
@[simp] theorem State.setByte_ports (s : State) (a : Nat) (b : Byte) : (s.setByte a b).ports = s.ports := (rfl)
@[simp] theorem State.setByte_enum (s : State) (a : Nat) (b : Byte) : (s.setByte a b).enum = s.enum := (rfl)
@[simp] theorem State.setByte_raster (s : State) (a : Nat) (b : Byte) : (s.setByte a b).raster = s.raster := (rfl)
@[simp] theorem State.setByte_wtg (s : State) (a : Nat) (b : Byte) : (s.setByte a b).wtg = s.wtg := (rfl)
@[simp] theorem State.setByte_commit (s : State) (a : Nat) (b : Byte) : (s.setByte a b).commit = s.commit := (rfl)
@[simp] theorem State.setByte_tileRas (s : State) (a : Nat) (b : Byte) : (s.setByte a b).tileRas = s.tileRas := (rfl)
@[simp] theorem State.setByte_tileRx (s : State) (a : Nat) (b : Byte) : (s.setByte a b).tileRx = s.tileRx := (rfl)
@[simp] theorem State.setByte_fo (s : State) (a : Nat) (b : Byte) : (s.setByte a b).fo = s.fo := (rfl)
@[simp] theorem State.setByte_stores (s : State) (a : Nat) (b : Byte) : (s.setByte a b).stores = s.stores := (rfl)
@[simp] theorem State.setByte_ings (s : State) (a : Nat) (b : Byte) : (s.setByte a b).ings = s.ings := (rfl)
@[simp] theorem State.setByte_rnds (s : State) (a : Nat) (b : Byte) : (s.setByte a b).rnds = s.rnds := (rfl)
@[simp] theorem State.setByte_layers (s : State) (a : Nat) (b : Byte) : (s.setByte a b).layers = s.layers := (rfl)
@[simp] theorem State.setByte_wbs (s : State) (a : Nat) (b : Byte) : (s.setByte a b).wbs = s.wbs := (rfl)
@[simp] theorem State.setByte_comp (s : State) (a : Nat) (b : Byte) : (s.setByte a b).comp = s.comp := (rfl)
@[simp] theorem State.setByte_line (s : State) (a : Nat) (b : Byte) : (s.setByte a b).line = s.line := (rfl)
@[simp] theorem State.setByte_disp (s : State) (a : Nat) (b : Byte) : (s.setByte a b).disp = s.disp := (rfl)
@[simp] theorem State.setByte_lanes (s : State) (a : Nat) (b : Byte) : (s.setByte a b).lanes = s.lanes := (rfl)
@[simp] theorem State.setByte_cals (s : State) (a : Nat) (b : Byte) : (s.setByte a b).cals = s.cals := (rfl)
@[simp] theorem State.setByte_cave (s : State) (a : Nat) (b : Byte) : (s.setByte a b).cave = s.cave := (rfl)
@[simp] theorem State.setByte_tp (s : State) (a : Nat) (b : Byte) : (s.setByte a b).tp = s.tp := (rfl)
@[simp] theorem State.setByte_press (s : State) (a : Nat) (b : Byte) : (s.setByte a b).press = s.press := (rfl)
@[simp] theorem State.setByte_drams (s : State) (a : Nat) (b : Byte) : (s.setByte a b).drams = s.drams := (rfl)
@[simp] theorem State.setByte_dramFc (s : State) (a : Nat) (b : Byte) : (s.setByte a b).dramFc = s.dramFc := (rfl)
@[simp] theorem State.setByte_sensors (s : State) (a : Nat) (b : Byte) : (s.setByte a b).sensors = s.sensors := (rfl)
@[simp] theorem State.setByte_ceils (s : State) (a : Nat) (b : Byte) : (s.setByte a b).ceils = s.ceils := (rfl)
@[simp] theorem State.setByte_ptp (s : State) (a : Nat) (b : Byte) : (s.setByte a b).ptp = s.ptp := (rfl)
@[simp] theorem State.setByte_nets (s : State) (a : Nat) (b : Byte) : (s.setByte a b).nets = s.nets := (rfl)
@[simp] theorem State.setByte_wheel (s : State) (a : Nat) (b : Byte) : (s.setByte a b).wheel = s.wheel := (rfl)
@[simp] theorem State.setByte_auds (s : State) (a : Nat) (b : Byte) : (s.setByte a b).auds = s.auds := (rfl)
@[simp] theorem State.setByte_crcs (s : State) (a : Nat) (b : Byte) : (s.setByte a b).crcs = s.crcs := (rfl)
@[simp] theorem State.setByte_nv (s : State) (a : Nat) (b : Byte) : (s.setByte a b).nv = s.nv := (rfl)
@[simp] theorem State.setByte_upd (s : State) (a : Nat) (b : Byte) : (s.setByte a b).upd = s.upd := (rfl)
@[simp] theorem State.setByte_k24 (s : State) (a : Nat) (b : Byte) : (s.setByte a b).k24 = s.k24 := (rfl)
@[simp] theorem State.setByte_pram (s : State) (a : Nat) (b : Byte) : (s.setByte a b).pram = s.pram := (rfl)
@[simp] theorem State.setByte_out (s : State) (a : Nat) (b : Byte) : (s.setByte a b).out = s.out := (rfl)
@[simp] theorem State.setByte_freeN (s : State) (a : Nat) (b : Byte) : (s.setByte a b).freeN = s.freeN := (rfl)
@[simp] theorem State.setByte_pending (s : State) (a : Nat) (b : Byte) : (s.setByte a b).pending = s.pending := (rfl)
@[simp] theorem State.setByte_rd (s : State) (a : Nat) (b : Byte) (x : Nat) : (s.setByte a b).rd x = s.rd x := (rfl)
@[simp] theorem State.setByte_get (s : State) (a : Nat) (b : Byte) (x : Fld) : (s.setByte a b).get x = s.get x := (rfl)
@[simp] theorem State.setByte_on (s : State) (a : Nat) (b : Byte) (x : Fld) : (s.setByte a b).on x = s.on x := (rfl)
@[simp] theorem State.setByte_getI (s : State) (a : Nat) (b : Byte) (x : Fld) : (s.setByte a b).getI x = s.getI x := (rfl)

/-! ### setLn -/

@[simp] theorem State.setLn_regs (s : State) (n : Nat) (f : Lane → Lane) : (s.setLn n f).regs = s.regs := (rfl)
@[simp] theorem State.setLn_pend (s : State) (n : Nat) (f : Lane → Lane) : (s.setLn n f).pend = s.pend := (rfl)
@[simp] theorem State.setLn_taken (s : State) (n : Nat) (f : Lane → Lane) : (s.setLn n f).taken = s.taken := (rfl)
@[simp] theorem State.setLn_acc (s : State) (n : Nat) (f : Lane → Lane) : (s.setLn n f).acc = s.acc := (rfl)
@[simp] theorem State.setLn_sys (s : State) (n : Nat) (f : Lane → Lane) : (s.setLn n f).sys = s.sys := (rfl)
@[simp] theorem State.setLn_links (s : State) (n : Nat) (f : Lane → Lane) : (s.setLn n f).links = s.links := (rfl)
@[simp] theorem State.setLn_pcie (s : State) (n : Nat) (f : Lane → Lane) : (s.setLn n f).pcie = s.pcie := (rfl)
@[simp] theorem State.setLn_jtag (s : State) (n : Nat) (f : Lane → Lane) : (s.setLn n f).jtag = s.jtag := (rfl)
@[simp] theorem State.setLn_log (s : State) (n : Nat) (f : Lane → Lane) : (s.setLn n f).log = s.log := (rfl)
@[simp] theorem State.setLn_mould (s : State) (n : Nat) (f : Lane → Lane) : (s.setLn n f).mould = s.mould := (rfl)
@[simp] theorem State.setLn_ports (s : State) (n : Nat) (f : Lane → Lane) : (s.setLn n f).ports = s.ports := (rfl)
@[simp] theorem State.setLn_enum (s : State) (n : Nat) (f : Lane → Lane) : (s.setLn n f).enum = s.enum := (rfl)
@[simp] theorem State.setLn_raster (s : State) (n : Nat) (f : Lane → Lane) : (s.setLn n f).raster = s.raster := (rfl)
@[simp] theorem State.setLn_wtg (s : State) (n : Nat) (f : Lane → Lane) : (s.setLn n f).wtg = s.wtg := (rfl)
@[simp] theorem State.setLn_commit (s : State) (n : Nat) (f : Lane → Lane) : (s.setLn n f).commit = s.commit := (rfl)
@[simp] theorem State.setLn_tileRas (s : State) (n : Nat) (f : Lane → Lane) : (s.setLn n f).tileRas = s.tileRas := (rfl)
@[simp] theorem State.setLn_tileRx (s : State) (n : Nat) (f : Lane → Lane) : (s.setLn n f).tileRx = s.tileRx := (rfl)
@[simp] theorem State.setLn_fo (s : State) (n : Nat) (f : Lane → Lane) : (s.setLn n f).fo = s.fo := (rfl)
@[simp] theorem State.setLn_stores (s : State) (n : Nat) (f : Lane → Lane) : (s.setLn n f).stores = s.stores := (rfl)
@[simp] theorem State.setLn_ings (s : State) (n : Nat) (f : Lane → Lane) : (s.setLn n f).ings = s.ings := (rfl)
@[simp] theorem State.setLn_rnds (s : State) (n : Nat) (f : Lane → Lane) : (s.setLn n f).rnds = s.rnds := (rfl)
@[simp] theorem State.setLn_layers (s : State) (n : Nat) (f : Lane → Lane) : (s.setLn n f).layers = s.layers := (rfl)
@[simp] theorem State.setLn_wbs (s : State) (n : Nat) (f : Lane → Lane) : (s.setLn n f).wbs = s.wbs := (rfl)
@[simp] theorem State.setLn_comp (s : State) (n : Nat) (f : Lane → Lane) : (s.setLn n f).comp = s.comp := (rfl)
@[simp] theorem State.setLn_dram (s : State) (n : Nat) (f : Lane → Lane) : (s.setLn n f).dram = s.dram := (rfl)
@[simp] theorem State.setLn_line (s : State) (n : Nat) (f : Lane → Lane) : (s.setLn n f).line = s.line := (rfl)
@[simp] theorem State.setLn_disp (s : State) (n : Nat) (f : Lane → Lane) : (s.setLn n f).disp = s.disp := (rfl)
@[simp] theorem State.setLn_cals (s : State) (n : Nat) (f : Lane → Lane) : (s.setLn n f).cals = s.cals := (rfl)
@[simp] theorem State.setLn_cave (s : State) (n : Nat) (f : Lane → Lane) : (s.setLn n f).cave = s.cave := (rfl)
@[simp] theorem State.setLn_tp (s : State) (n : Nat) (f : Lane → Lane) : (s.setLn n f).tp = s.tp := (rfl)
@[simp] theorem State.setLn_press (s : State) (n : Nat) (f : Lane → Lane) : (s.setLn n f).press = s.press := (rfl)
@[simp] theorem State.setLn_drams (s : State) (n : Nat) (f : Lane → Lane) : (s.setLn n f).drams = s.drams := (rfl)
@[simp] theorem State.setLn_dramFc (s : State) (n : Nat) (f : Lane → Lane) : (s.setLn n f).dramFc = s.dramFc := (rfl)
@[simp] theorem State.setLn_sensors (s : State) (n : Nat) (f : Lane → Lane) : (s.setLn n f).sensors = s.sensors := (rfl)
@[simp] theorem State.setLn_ceils (s : State) (n : Nat) (f : Lane → Lane) : (s.setLn n f).ceils = s.ceils := (rfl)
@[simp] theorem State.setLn_ptp (s : State) (n : Nat) (f : Lane → Lane) : (s.setLn n f).ptp = s.ptp := (rfl)
@[simp] theorem State.setLn_nets (s : State) (n : Nat) (f : Lane → Lane) : (s.setLn n f).nets = s.nets := (rfl)
@[simp] theorem State.setLn_wheel (s : State) (n : Nat) (f : Lane → Lane) : (s.setLn n f).wheel = s.wheel := (rfl)
@[simp] theorem State.setLn_auds (s : State) (n : Nat) (f : Lane → Lane) : (s.setLn n f).auds = s.auds := (rfl)
@[simp] theorem State.setLn_crcs (s : State) (n : Nat) (f : Lane → Lane) : (s.setLn n f).crcs = s.crcs := (rfl)
@[simp] theorem State.setLn_nv (s : State) (n : Nat) (f : Lane → Lane) : (s.setLn n f).nv = s.nv := (rfl)
@[simp] theorem State.setLn_upd (s : State) (n : Nat) (f : Lane → Lane) : (s.setLn n f).upd = s.upd := (rfl)
@[simp] theorem State.setLn_k24 (s : State) (n : Nat) (f : Lane → Lane) : (s.setLn n f).k24 = s.k24 := (rfl)
@[simp] theorem State.setLn_pram (s : State) (n : Nat) (f : Lane → Lane) : (s.setLn n f).pram = s.pram := (rfl)
@[simp] theorem State.setLn_out (s : State) (n : Nat) (f : Lane → Lane) : (s.setLn n f).out = s.out := (rfl)
@[simp] theorem State.setLn_freeN (s : State) (n : Nat) (f : Lane → Lane) : (s.setLn n f).freeN = s.freeN := (rfl)
@[simp] theorem State.setLn_pending (s : State) (n : Nat) (f : Lane → Lane) : (s.setLn n f).pending = s.pending := (rfl)
@[simp] theorem State.setLn_rd (s : State) (n : Nat) (f : Lane → Lane) (x : Nat) : (s.setLn n f).rd x = s.rd x := (rfl)
@[simp] theorem State.setLn_get (s : State) (n : Nat) (f : Lane → Lane) (x : Fld) : (s.setLn n f).get x = s.get x := (rfl)
@[simp] theorem State.setLn_on (s : State) (n : Nat) (f : Lane → Lane) (x : Fld) : (s.setLn n f).on x = s.on x := (rfl)
@[simp] theorem State.setLn_getI (s : State) (n : Nat) (f : Lane → Lane) (x : Fld) : (s.setLn n f).getI x = s.getI x := (rfl)

/-! ### setCal -/

@[simp] theorem State.setCal_regs (s : State) (g : Nat) (f : Cal → Cal) : (s.setCal g f).regs = s.regs := (rfl)
@[simp] theorem State.setCal_pend (s : State) (g : Nat) (f : Cal → Cal) : (s.setCal g f).pend = s.pend := (rfl)
@[simp] theorem State.setCal_taken (s : State) (g : Nat) (f : Cal → Cal) : (s.setCal g f).taken = s.taken := (rfl)
@[simp] theorem State.setCal_acc (s : State) (g : Nat) (f : Cal → Cal) : (s.setCal g f).acc = s.acc := (rfl)
@[simp] theorem State.setCal_sys (s : State) (g : Nat) (f : Cal → Cal) : (s.setCal g f).sys = s.sys := (rfl)
@[simp] theorem State.setCal_links (s : State) (g : Nat) (f : Cal → Cal) : (s.setCal g f).links = s.links := (rfl)
@[simp] theorem State.setCal_pcie (s : State) (g : Nat) (f : Cal → Cal) : (s.setCal g f).pcie = s.pcie := (rfl)
@[simp] theorem State.setCal_jtag (s : State) (g : Nat) (f : Cal → Cal) : (s.setCal g f).jtag = s.jtag := (rfl)
@[simp] theorem State.setCal_log (s : State) (g : Nat) (f : Cal → Cal) : (s.setCal g f).log = s.log := (rfl)
@[simp] theorem State.setCal_mould (s : State) (g : Nat) (f : Cal → Cal) : (s.setCal g f).mould = s.mould := (rfl)
@[simp] theorem State.setCal_ports (s : State) (g : Nat) (f : Cal → Cal) : (s.setCal g f).ports = s.ports := (rfl)
@[simp] theorem State.setCal_enum (s : State) (g : Nat) (f : Cal → Cal) : (s.setCal g f).enum = s.enum := (rfl)
@[simp] theorem State.setCal_raster (s : State) (g : Nat) (f : Cal → Cal) : (s.setCal g f).raster = s.raster := (rfl)
@[simp] theorem State.setCal_wtg (s : State) (g : Nat) (f : Cal → Cal) : (s.setCal g f).wtg = s.wtg := (rfl)
@[simp] theorem State.setCal_commit (s : State) (g : Nat) (f : Cal → Cal) : (s.setCal g f).commit = s.commit := (rfl)
@[simp] theorem State.setCal_tileRas (s : State) (g : Nat) (f : Cal → Cal) : (s.setCal g f).tileRas = s.tileRas := (rfl)
@[simp] theorem State.setCal_tileRx (s : State) (g : Nat) (f : Cal → Cal) : (s.setCal g f).tileRx = s.tileRx := (rfl)
@[simp] theorem State.setCal_fo (s : State) (g : Nat) (f : Cal → Cal) : (s.setCal g f).fo = s.fo := (rfl)
@[simp] theorem State.setCal_stores (s : State) (g : Nat) (f : Cal → Cal) : (s.setCal g f).stores = s.stores := (rfl)
@[simp] theorem State.setCal_ings (s : State) (g : Nat) (f : Cal → Cal) : (s.setCal g f).ings = s.ings := (rfl)
@[simp] theorem State.setCal_rnds (s : State) (g : Nat) (f : Cal → Cal) : (s.setCal g f).rnds = s.rnds := (rfl)
@[simp] theorem State.setCal_layers (s : State) (g : Nat) (f : Cal → Cal) : (s.setCal g f).layers = s.layers := (rfl)
@[simp] theorem State.setCal_wbs (s : State) (g : Nat) (f : Cal → Cal) : (s.setCal g f).wbs = s.wbs := (rfl)
@[simp] theorem State.setCal_comp (s : State) (g : Nat) (f : Cal → Cal) : (s.setCal g f).comp = s.comp := (rfl)
@[simp] theorem State.setCal_dram (s : State) (g : Nat) (f : Cal → Cal) : (s.setCal g f).dram = s.dram := (rfl)
@[simp] theorem State.setCal_line (s : State) (g : Nat) (f : Cal → Cal) : (s.setCal g f).line = s.line := (rfl)
@[simp] theorem State.setCal_disp (s : State) (g : Nat) (f : Cal → Cal) : (s.setCal g f).disp = s.disp := (rfl)
@[simp] theorem State.setCal_lanes (s : State) (g : Nat) (f : Cal → Cal) : (s.setCal g f).lanes = s.lanes := (rfl)
@[simp] theorem State.setCal_cave (s : State) (g : Nat) (f : Cal → Cal) : (s.setCal g f).cave = s.cave := (rfl)
@[simp] theorem State.setCal_tp (s : State) (g : Nat) (f : Cal → Cal) : (s.setCal g f).tp = s.tp := (rfl)
@[simp] theorem State.setCal_press (s : State) (g : Nat) (f : Cal → Cal) : (s.setCal g f).press = s.press := (rfl)
@[simp] theorem State.setCal_drams (s : State) (g : Nat) (f : Cal → Cal) : (s.setCal g f).drams = s.drams := (rfl)
@[simp] theorem State.setCal_dramFc (s : State) (g : Nat) (f : Cal → Cal) : (s.setCal g f).dramFc = s.dramFc := (rfl)
@[simp] theorem State.setCal_sensors (s : State) (g : Nat) (f : Cal → Cal) : (s.setCal g f).sensors = s.sensors := (rfl)
@[simp] theorem State.setCal_ceils (s : State) (g : Nat) (f : Cal → Cal) : (s.setCal g f).ceils = s.ceils := (rfl)
@[simp] theorem State.setCal_ptp (s : State) (g : Nat) (f : Cal → Cal) : (s.setCal g f).ptp = s.ptp := (rfl)
@[simp] theorem State.setCal_nets (s : State) (g : Nat) (f : Cal → Cal) : (s.setCal g f).nets = s.nets := (rfl)
@[simp] theorem State.setCal_wheel (s : State) (g : Nat) (f : Cal → Cal) : (s.setCal g f).wheel = s.wheel := (rfl)
@[simp] theorem State.setCal_auds (s : State) (g : Nat) (f : Cal → Cal) : (s.setCal g f).auds = s.auds := (rfl)
@[simp] theorem State.setCal_crcs (s : State) (g : Nat) (f : Cal → Cal) : (s.setCal g f).crcs = s.crcs := (rfl)
@[simp] theorem State.setCal_nv (s : State) (g : Nat) (f : Cal → Cal) : (s.setCal g f).nv = s.nv := (rfl)
@[simp] theorem State.setCal_upd (s : State) (g : Nat) (f : Cal → Cal) : (s.setCal g f).upd = s.upd := (rfl)
@[simp] theorem State.setCal_k24 (s : State) (g : Nat) (f : Cal → Cal) : (s.setCal g f).k24 = s.k24 := (rfl)
@[simp] theorem State.setCal_pram (s : State) (g : Nat) (f : Cal → Cal) : (s.setCal g f).pram = s.pram := (rfl)
@[simp] theorem State.setCal_out (s : State) (g : Nat) (f : Cal → Cal) : (s.setCal g f).out = s.out := (rfl)
@[simp] theorem State.setCal_freeN (s : State) (g : Nat) (f : Cal → Cal) : (s.setCal g f).freeN = s.freeN := (rfl)
@[simp] theorem State.setCal_pending (s : State) (g : Nat) (f : Cal → Cal) : (s.setCal g f).pending = s.pending := (rfl)
@[simp] theorem State.setCal_rd (s : State) (g : Nat) (f : Cal → Cal) (x : Nat) : (s.setCal g f).rd x = s.rd x := (rfl)
@[simp] theorem State.setCal_get (s : State) (g : Nat) (f : Cal → Cal) (x : Fld) : (s.setCal g f).get x = s.get x := (rfl)
@[simp] theorem State.setCal_on (s : State) (g : Nat) (f : Cal → Cal) (x : Fld) : (s.setCal g f).on x = s.on x := (rfl)
@[simp] theorem State.setCal_getI (s : State) (g : Nat) (f : Cal → Cal) (x : Fld) : (s.setCal g f).getI x = s.getI x := (rfl)

/-! ### setCorrRow -/

@[simp] theorem State.setCorrRow_regs (s : State) (b ph row : Nat) (l : List Nat) : (s.setCorrRow b ph row l).regs = s.regs := (rfl)
@[simp] theorem State.setCorrRow_pend (s : State) (b ph row : Nat) (l : List Nat) : (s.setCorrRow b ph row l).pend = s.pend := (rfl)
@[simp] theorem State.setCorrRow_taken (s : State) (b ph row : Nat) (l : List Nat) : (s.setCorrRow b ph row l).taken = s.taken := (rfl)
@[simp] theorem State.setCorrRow_acc (s : State) (b ph row : Nat) (l : List Nat) : (s.setCorrRow b ph row l).acc = s.acc := (rfl)
@[simp] theorem State.setCorrRow_sys (s : State) (b ph row : Nat) (l : List Nat) : (s.setCorrRow b ph row l).sys = s.sys := (rfl)
@[simp] theorem State.setCorrRow_links (s : State) (b ph row : Nat) (l : List Nat) : (s.setCorrRow b ph row l).links = s.links := (rfl)
@[simp] theorem State.setCorrRow_pcie (s : State) (b ph row : Nat) (l : List Nat) : (s.setCorrRow b ph row l).pcie = s.pcie := (rfl)
@[simp] theorem State.setCorrRow_jtag (s : State) (b ph row : Nat) (l : List Nat) : (s.setCorrRow b ph row l).jtag = s.jtag := (rfl)
@[simp] theorem State.setCorrRow_log (s : State) (b ph row : Nat) (l : List Nat) : (s.setCorrRow b ph row l).log = s.log := (rfl)
@[simp] theorem State.setCorrRow_mould (s : State) (b ph row : Nat) (l : List Nat) : (s.setCorrRow b ph row l).mould = s.mould := (rfl)
@[simp] theorem State.setCorrRow_ports (s : State) (b ph row : Nat) (l : List Nat) : (s.setCorrRow b ph row l).ports = s.ports := (rfl)
@[simp] theorem State.setCorrRow_enum (s : State) (b ph row : Nat) (l : List Nat) : (s.setCorrRow b ph row l).enum = s.enum := (rfl)
@[simp] theorem State.setCorrRow_raster (s : State) (b ph row : Nat) (l : List Nat) : (s.setCorrRow b ph row l).raster = s.raster := (rfl)
@[simp] theorem State.setCorrRow_wtg (s : State) (b ph row : Nat) (l : List Nat) : (s.setCorrRow b ph row l).wtg = s.wtg := (rfl)
@[simp] theorem State.setCorrRow_commit (s : State) (b ph row : Nat) (l : List Nat) : (s.setCorrRow b ph row l).commit = s.commit := (rfl)
@[simp] theorem State.setCorrRow_tileRas (s : State) (b ph row : Nat) (l : List Nat) : (s.setCorrRow b ph row l).tileRas = s.tileRas := (rfl)
@[simp] theorem State.setCorrRow_tileRx (s : State) (b ph row : Nat) (l : List Nat) : (s.setCorrRow b ph row l).tileRx = s.tileRx := (rfl)
@[simp] theorem State.setCorrRow_fo (s : State) (b ph row : Nat) (l : List Nat) : (s.setCorrRow b ph row l).fo = s.fo := (rfl)
@[simp] theorem State.setCorrRow_stores (s : State) (b ph row : Nat) (l : List Nat) : (s.setCorrRow b ph row l).stores = s.stores := (rfl)
@[simp] theorem State.setCorrRow_ings (s : State) (b ph row : Nat) (l : List Nat) : (s.setCorrRow b ph row l).ings = s.ings := (rfl)
@[simp] theorem State.setCorrRow_rnds (s : State) (b ph row : Nat) (l : List Nat) : (s.setCorrRow b ph row l).rnds = s.rnds := (rfl)
@[simp] theorem State.setCorrRow_layers (s : State) (b ph row : Nat) (l : List Nat) : (s.setCorrRow b ph row l).layers = s.layers := (rfl)
@[simp] theorem State.setCorrRow_wbs (s : State) (b ph row : Nat) (l : List Nat) : (s.setCorrRow b ph row l).wbs = s.wbs := (rfl)
@[simp] theorem State.setCorrRow_comp (s : State) (b ph row : Nat) (l : List Nat) : (s.setCorrRow b ph row l).comp = s.comp := (rfl)
@[simp] theorem State.setCorrRow_dram (s : State) (b ph row : Nat) (l : List Nat) : (s.setCorrRow b ph row l).dram = s.dram := (rfl)
@[simp] theorem State.setCorrRow_line (s : State) (b ph row : Nat) (l : List Nat) : (s.setCorrRow b ph row l).line = s.line := (rfl)
@[simp] theorem State.setCorrRow_disp (s : State) (b ph row : Nat) (l : List Nat) : (s.setCorrRow b ph row l).disp = s.disp := (rfl)
@[simp] theorem State.setCorrRow_lanes (s : State) (b ph row : Nat) (l : List Nat) : (s.setCorrRow b ph row l).lanes = s.lanes := (rfl)
@[simp] theorem State.setCorrRow_cals (s : State) (b ph row : Nat) (l : List Nat) : (s.setCorrRow b ph row l).cals = s.cals := (rfl)
@[simp] theorem State.setCorrRow_cave (s : State) (b ph row : Nat) (l : List Nat) : (s.setCorrRow b ph row l).cave = s.cave := (rfl)
@[simp] theorem State.setCorrRow_press (s : State) (b ph row : Nat) (l : List Nat) : (s.setCorrRow b ph row l).press = s.press := (rfl)
@[simp] theorem State.setCorrRow_drams (s : State) (b ph row : Nat) (l : List Nat) : (s.setCorrRow b ph row l).drams = s.drams := (rfl)
@[simp] theorem State.setCorrRow_dramFc (s : State) (b ph row : Nat) (l : List Nat) : (s.setCorrRow b ph row l).dramFc = s.dramFc := (rfl)
@[simp] theorem State.setCorrRow_sensors (s : State) (b ph row : Nat) (l : List Nat) : (s.setCorrRow b ph row l).sensors = s.sensors := (rfl)
@[simp] theorem State.setCorrRow_ceils (s : State) (b ph row : Nat) (l : List Nat) : (s.setCorrRow b ph row l).ceils = s.ceils := (rfl)
@[simp] theorem State.setCorrRow_ptp (s : State) (b ph row : Nat) (l : List Nat) : (s.setCorrRow b ph row l).ptp = s.ptp := (rfl)
@[simp] theorem State.setCorrRow_nets (s : State) (b ph row : Nat) (l : List Nat) : (s.setCorrRow b ph row l).nets = s.nets := (rfl)
@[simp] theorem State.setCorrRow_wheel (s : State) (b ph row : Nat) (l : List Nat) : (s.setCorrRow b ph row l).wheel = s.wheel := (rfl)
@[simp] theorem State.setCorrRow_auds (s : State) (b ph row : Nat) (l : List Nat) : (s.setCorrRow b ph row l).auds = s.auds := (rfl)
@[simp] theorem State.setCorrRow_crcs (s : State) (b ph row : Nat) (l : List Nat) : (s.setCorrRow b ph row l).crcs = s.crcs := (rfl)
@[simp] theorem State.setCorrRow_nv (s : State) (b ph row : Nat) (l : List Nat) : (s.setCorrRow b ph row l).nv = s.nv := (rfl)
@[simp] theorem State.setCorrRow_upd (s : State) (b ph row : Nat) (l : List Nat) : (s.setCorrRow b ph row l).upd = s.upd := (rfl)
@[simp] theorem State.setCorrRow_k24 (s : State) (b ph row : Nat) (l : List Nat) : (s.setCorrRow b ph row l).k24 = s.k24 := (rfl)
@[simp] theorem State.setCorrRow_pram (s : State) (b ph row : Nat) (l : List Nat) : (s.setCorrRow b ph row l).pram = s.pram := (rfl)
@[simp] theorem State.setCorrRow_out (s : State) (b ph row : Nat) (l : List Nat) : (s.setCorrRow b ph row l).out = s.out := (rfl)
@[simp] theorem State.setCorrRow_freeN (s : State) (b ph row : Nat) (l : List Nat) : (s.setCorrRow b ph row l).freeN = s.freeN := (rfl)
@[simp] theorem State.setCorrRow_pending (s : State) (b ph row : Nat) (l : List Nat) : (s.setCorrRow b ph row l).pending = s.pending := (rfl)
@[simp] theorem State.setCorrRow_rd (s : State) (b ph row : Nat) (l : List Nat) (x : Nat) : (s.setCorrRow b ph row l).rd x = s.rd x := (rfl)
@[simp] theorem State.setCorrRow_get (s : State) (b ph row : Nat) (l : List Nat) (x : Fld) : (s.setCorrRow b ph row l).get x = s.get x := (rfl)
@[simp] theorem State.setCorrRow_on (s : State) (b ph row : Nat) (l : List Nat) (x : Fld) : (s.setCorrRow b ph row l).on x = s.on x := (rfl)
@[simp] theorem State.setCorrRow_getI (s : State) (b ph row : Nat) (l : List Nat) (x : Fld) : (s.setCorrRow b ph row l).getI x = s.getI x := (rfl)

/-! ### setRec -/

@[simp] theorem State.setRec_regs (s : State) (i : Nat) (f : LampRec → LampRec) : (s.setRec i f).regs = s.regs := (rfl)
@[simp] theorem State.setRec_pend (s : State) (i : Nat) (f : LampRec → LampRec) : (s.setRec i f).pend = s.pend := (rfl)
@[simp] theorem State.setRec_taken (s : State) (i : Nat) (f : LampRec → LampRec) : (s.setRec i f).taken = s.taken := (rfl)
@[simp] theorem State.setRec_acc (s : State) (i : Nat) (f : LampRec → LampRec) : (s.setRec i f).acc = s.acc := (rfl)
@[simp] theorem State.setRec_sys (s : State) (i : Nat) (f : LampRec → LampRec) : (s.setRec i f).sys = s.sys := (rfl)
@[simp] theorem State.setRec_links (s : State) (i : Nat) (f : LampRec → LampRec) : (s.setRec i f).links = s.links := (rfl)
@[simp] theorem State.setRec_pcie (s : State) (i : Nat) (f : LampRec → LampRec) : (s.setRec i f).pcie = s.pcie := (rfl)
@[simp] theorem State.setRec_jtag (s : State) (i : Nat) (f : LampRec → LampRec) : (s.setRec i f).jtag = s.jtag := (rfl)
@[simp] theorem State.setRec_log (s : State) (i : Nat) (f : LampRec → LampRec) : (s.setRec i f).log = s.log := (rfl)
@[simp] theorem State.setRec_mould (s : State) (i : Nat) (f : LampRec → LampRec) : (s.setRec i f).mould = s.mould := (rfl)
@[simp] theorem State.setRec_ports (s : State) (i : Nat) (f : LampRec → LampRec) : (s.setRec i f).ports = s.ports := (rfl)
@[simp] theorem State.setRec_enum (s : State) (i : Nat) (f : LampRec → LampRec) : (s.setRec i f).enum = s.enum := (rfl)
@[simp] theorem State.setRec_raster (s : State) (i : Nat) (f : LampRec → LampRec) : (s.setRec i f).raster = s.raster := (rfl)
@[simp] theorem State.setRec_wtg (s : State) (i : Nat) (f : LampRec → LampRec) : (s.setRec i f).wtg = s.wtg := (rfl)
@[simp] theorem State.setRec_commit (s : State) (i : Nat) (f : LampRec → LampRec) : (s.setRec i f).commit = s.commit := (rfl)
@[simp] theorem State.setRec_tileRas (s : State) (i : Nat) (f : LampRec → LampRec) : (s.setRec i f).tileRas = s.tileRas := (rfl)
@[simp] theorem State.setRec_tileRx (s : State) (i : Nat) (f : LampRec → LampRec) : (s.setRec i f).tileRx = s.tileRx := (rfl)
@[simp] theorem State.setRec_fo (s : State) (i : Nat) (f : LampRec → LampRec) : (s.setRec i f).fo = s.fo := (rfl)
@[simp] theorem State.setRec_stores (s : State) (i : Nat) (f : LampRec → LampRec) : (s.setRec i f).stores = s.stores := (rfl)
@[simp] theorem State.setRec_ings (s : State) (i : Nat) (f : LampRec → LampRec) : (s.setRec i f).ings = s.ings := (rfl)
@[simp] theorem State.setRec_rnds (s : State) (i : Nat) (f : LampRec → LampRec) : (s.setRec i f).rnds = s.rnds := (rfl)
@[simp] theorem State.setRec_layers (s : State) (i : Nat) (f : LampRec → LampRec) : (s.setRec i f).layers = s.layers := (rfl)
@[simp] theorem State.setRec_wbs (s : State) (i : Nat) (f : LampRec → LampRec) : (s.setRec i f).wbs = s.wbs := (rfl)
@[simp] theorem State.setRec_comp (s : State) (i : Nat) (f : LampRec → LampRec) : (s.setRec i f).comp = s.comp := (rfl)
@[simp] theorem State.setRec_dram (s : State) (i : Nat) (f : LampRec → LampRec) : (s.setRec i f).dram = s.dram := (rfl)
@[simp] theorem State.setRec_line (s : State) (i : Nat) (f : LampRec → LampRec) : (s.setRec i f).line = s.line := (rfl)
@[simp] theorem State.setRec_disp (s : State) (i : Nat) (f : LampRec → LampRec) : (s.setRec i f).disp = s.disp := (rfl)
@[simp] theorem State.setRec_lanes (s : State) (i : Nat) (f : LampRec → LampRec) : (s.setRec i f).lanes = s.lanes := (rfl)
@[simp] theorem State.setRec_cals (s : State) (i : Nat) (f : LampRec → LampRec) : (s.setRec i f).cals = s.cals := (rfl)
@[simp] theorem State.setRec_cave (s : State) (i : Nat) (f : LampRec → LampRec) : (s.setRec i f).cave = s.cave := (rfl)
@[simp] theorem State.setRec_press (s : State) (i : Nat) (f : LampRec → LampRec) : (s.setRec i f).press = s.press := (rfl)
@[simp] theorem State.setRec_drams (s : State) (i : Nat) (f : LampRec → LampRec) : (s.setRec i f).drams = s.drams := (rfl)
@[simp] theorem State.setRec_dramFc (s : State) (i : Nat) (f : LampRec → LampRec) : (s.setRec i f).dramFc = s.dramFc := (rfl)
@[simp] theorem State.setRec_sensors (s : State) (i : Nat) (f : LampRec → LampRec) : (s.setRec i f).sensors = s.sensors := (rfl)
@[simp] theorem State.setRec_ceils (s : State) (i : Nat) (f : LampRec → LampRec) : (s.setRec i f).ceils = s.ceils := (rfl)
@[simp] theorem State.setRec_ptp (s : State) (i : Nat) (f : LampRec → LampRec) : (s.setRec i f).ptp = s.ptp := (rfl)
@[simp] theorem State.setRec_nets (s : State) (i : Nat) (f : LampRec → LampRec) : (s.setRec i f).nets = s.nets := (rfl)
@[simp] theorem State.setRec_wheel (s : State) (i : Nat) (f : LampRec → LampRec) : (s.setRec i f).wheel = s.wheel := (rfl)
@[simp] theorem State.setRec_auds (s : State) (i : Nat) (f : LampRec → LampRec) : (s.setRec i f).auds = s.auds := (rfl)
@[simp] theorem State.setRec_crcs (s : State) (i : Nat) (f : LampRec → LampRec) : (s.setRec i f).crcs = s.crcs := (rfl)
@[simp] theorem State.setRec_nv (s : State) (i : Nat) (f : LampRec → LampRec) : (s.setRec i f).nv = s.nv := (rfl)
@[simp] theorem State.setRec_upd (s : State) (i : Nat) (f : LampRec → LampRec) : (s.setRec i f).upd = s.upd := (rfl)
@[simp] theorem State.setRec_k24 (s : State) (i : Nat) (f : LampRec → LampRec) : (s.setRec i f).k24 = s.k24 := (rfl)
@[simp] theorem State.setRec_pram (s : State) (i : Nat) (f : LampRec → LampRec) : (s.setRec i f).pram = s.pram := (rfl)
@[simp] theorem State.setRec_out (s : State) (i : Nat) (f : LampRec → LampRec) : (s.setRec i f).out = s.out := (rfl)
@[simp] theorem State.setRec_freeN (s : State) (i : Nat) (f : LampRec → LampRec) : (s.setRec i f).freeN = s.freeN := (rfl)
@[simp] theorem State.setRec_pending (s : State) (i : Nat) (f : LampRec → LampRec) : (s.setRec i f).pending = s.pending := (rfl)
@[simp] theorem State.setRec_rd (s : State) (i : Nat) (f : LampRec → LampRec) (x : Nat) : (s.setRec i f).rd x = s.rd x := (rfl)
@[simp] theorem State.setRec_get (s : State) (i : Nat) (f : LampRec → LampRec) (x : Fld) : (s.setRec i f).get x = s.get x := (rfl)
@[simp] theorem State.setRec_on (s : State) (i : Nat) (f : LampRec → LampRec) (x : Fld) : (s.setRec i f).on x = s.on x := (rfl)
@[simp] theorem State.setRec_getI (s : State) (i : Nat) (f : LampRec → LampRec) (x : Fld) : (s.setRec i f).getI x = s.getI x := (rfl)

/-! ### setDramCh -/

@[simp] theorem State.setDramCh_regs (s : State) (c : Nat) (f : DramCh → DramCh) : (s.setDramCh c f).regs = s.regs := (rfl)
@[simp] theorem State.setDramCh_pend (s : State) (c : Nat) (f : DramCh → DramCh) : (s.setDramCh c f).pend = s.pend := (rfl)
@[simp] theorem State.setDramCh_taken (s : State) (c : Nat) (f : DramCh → DramCh) : (s.setDramCh c f).taken = s.taken := (rfl)
@[simp] theorem State.setDramCh_acc (s : State) (c : Nat) (f : DramCh → DramCh) : (s.setDramCh c f).acc = s.acc := (rfl)
@[simp] theorem State.setDramCh_sys (s : State) (c : Nat) (f : DramCh → DramCh) : (s.setDramCh c f).sys = s.sys := (rfl)
@[simp] theorem State.setDramCh_links (s : State) (c : Nat) (f : DramCh → DramCh) : (s.setDramCh c f).links = s.links := (rfl)
@[simp] theorem State.setDramCh_pcie (s : State) (c : Nat) (f : DramCh → DramCh) : (s.setDramCh c f).pcie = s.pcie := (rfl)
@[simp] theorem State.setDramCh_jtag (s : State) (c : Nat) (f : DramCh → DramCh) : (s.setDramCh c f).jtag = s.jtag := (rfl)
@[simp] theorem State.setDramCh_log (s : State) (c : Nat) (f : DramCh → DramCh) : (s.setDramCh c f).log = s.log := (rfl)
@[simp] theorem State.setDramCh_mould (s : State) (c : Nat) (f : DramCh → DramCh) : (s.setDramCh c f).mould = s.mould := (rfl)
@[simp] theorem State.setDramCh_ports (s : State) (c : Nat) (f : DramCh → DramCh) : (s.setDramCh c f).ports = s.ports := (rfl)
@[simp] theorem State.setDramCh_enum (s : State) (c : Nat) (f : DramCh → DramCh) : (s.setDramCh c f).enum = s.enum := (rfl)
@[simp] theorem State.setDramCh_raster (s : State) (c : Nat) (f : DramCh → DramCh) : (s.setDramCh c f).raster = s.raster := (rfl)
@[simp] theorem State.setDramCh_wtg (s : State) (c : Nat) (f : DramCh → DramCh) : (s.setDramCh c f).wtg = s.wtg := (rfl)
@[simp] theorem State.setDramCh_commit (s : State) (c : Nat) (f : DramCh → DramCh) : (s.setDramCh c f).commit = s.commit := (rfl)
@[simp] theorem State.setDramCh_tileRas (s : State) (c : Nat) (f : DramCh → DramCh) : (s.setDramCh c f).tileRas = s.tileRas := (rfl)
@[simp] theorem State.setDramCh_tileRx (s : State) (c : Nat) (f : DramCh → DramCh) : (s.setDramCh c f).tileRx = s.tileRx := (rfl)
@[simp] theorem State.setDramCh_fo (s : State) (c : Nat) (f : DramCh → DramCh) : (s.setDramCh c f).fo = s.fo := (rfl)
@[simp] theorem State.setDramCh_stores (s : State) (c : Nat) (f : DramCh → DramCh) : (s.setDramCh c f).stores = s.stores := (rfl)
@[simp] theorem State.setDramCh_ings (s : State) (c : Nat) (f : DramCh → DramCh) : (s.setDramCh c f).ings = s.ings := (rfl)
@[simp] theorem State.setDramCh_rnds (s : State) (c : Nat) (f : DramCh → DramCh) : (s.setDramCh c f).rnds = s.rnds := (rfl)
@[simp] theorem State.setDramCh_layers (s : State) (c : Nat) (f : DramCh → DramCh) : (s.setDramCh c f).layers = s.layers := (rfl)
@[simp] theorem State.setDramCh_wbs (s : State) (c : Nat) (f : DramCh → DramCh) : (s.setDramCh c f).wbs = s.wbs := (rfl)
@[simp] theorem State.setDramCh_comp (s : State) (c : Nat) (f : DramCh → DramCh) : (s.setDramCh c f).comp = s.comp := (rfl)
@[simp] theorem State.setDramCh_dram (s : State) (c : Nat) (f : DramCh → DramCh) : (s.setDramCh c f).dram = s.dram := (rfl)
@[simp] theorem State.setDramCh_line (s : State) (c : Nat) (f : DramCh → DramCh) : (s.setDramCh c f).line = s.line := (rfl)
@[simp] theorem State.setDramCh_disp (s : State) (c : Nat) (f : DramCh → DramCh) : (s.setDramCh c f).disp = s.disp := (rfl)
@[simp] theorem State.setDramCh_lanes (s : State) (c : Nat) (f : DramCh → DramCh) : (s.setDramCh c f).lanes = s.lanes := (rfl)
@[simp] theorem State.setDramCh_cals (s : State) (c : Nat) (f : DramCh → DramCh) : (s.setDramCh c f).cals = s.cals := (rfl)
@[simp] theorem State.setDramCh_cave (s : State) (c : Nat) (f : DramCh → DramCh) : (s.setDramCh c f).cave = s.cave := (rfl)
@[simp] theorem State.setDramCh_tp (s : State) (c : Nat) (f : DramCh → DramCh) : (s.setDramCh c f).tp = s.tp := (rfl)
@[simp] theorem State.setDramCh_press (s : State) (c : Nat) (f : DramCh → DramCh) : (s.setDramCh c f).press = s.press := (rfl)
@[simp] theorem State.setDramCh_dramFc (s : State) (c : Nat) (f : DramCh → DramCh) : (s.setDramCh c f).dramFc = s.dramFc := (rfl)
@[simp] theorem State.setDramCh_sensors (s : State) (c : Nat) (f : DramCh → DramCh) : (s.setDramCh c f).sensors = s.sensors := (rfl)
@[simp] theorem State.setDramCh_ceils (s : State) (c : Nat) (f : DramCh → DramCh) : (s.setDramCh c f).ceils = s.ceils := (rfl)
@[simp] theorem State.setDramCh_ptp (s : State) (c : Nat) (f : DramCh → DramCh) : (s.setDramCh c f).ptp = s.ptp := (rfl)
@[simp] theorem State.setDramCh_nets (s : State) (c : Nat) (f : DramCh → DramCh) : (s.setDramCh c f).nets = s.nets := (rfl)
@[simp] theorem State.setDramCh_wheel (s : State) (c : Nat) (f : DramCh → DramCh) : (s.setDramCh c f).wheel = s.wheel := (rfl)
@[simp] theorem State.setDramCh_auds (s : State) (c : Nat) (f : DramCh → DramCh) : (s.setDramCh c f).auds = s.auds := (rfl)
@[simp] theorem State.setDramCh_crcs (s : State) (c : Nat) (f : DramCh → DramCh) : (s.setDramCh c f).crcs = s.crcs := (rfl)
@[simp] theorem State.setDramCh_nv (s : State) (c : Nat) (f : DramCh → DramCh) : (s.setDramCh c f).nv = s.nv := (rfl)
@[simp] theorem State.setDramCh_upd (s : State) (c : Nat) (f : DramCh → DramCh) : (s.setDramCh c f).upd = s.upd := (rfl)
@[simp] theorem State.setDramCh_k24 (s : State) (c : Nat) (f : DramCh → DramCh) : (s.setDramCh c f).k24 = s.k24 := (rfl)
@[simp] theorem State.setDramCh_pram (s : State) (c : Nat) (f : DramCh → DramCh) : (s.setDramCh c f).pram = s.pram := (rfl)
@[simp] theorem State.setDramCh_out (s : State) (c : Nat) (f : DramCh → DramCh) : (s.setDramCh c f).out = s.out := (rfl)
@[simp] theorem State.setDramCh_freeN (s : State) (c : Nat) (f : DramCh → DramCh) : (s.setDramCh c f).freeN = s.freeN := (rfl)
@[simp] theorem State.setDramCh_pending (s : State) (c : Nat) (f : DramCh → DramCh) : (s.setDramCh c f).pending = s.pending := (rfl)
@[simp] theorem State.setDramCh_rd (s : State) (c : Nat) (f : DramCh → DramCh) (x : Nat) : (s.setDramCh c f).rd x = s.rd x := (rfl)
@[simp] theorem State.setDramCh_get (s : State) (c : Nat) (f : DramCh → DramCh) (x : Fld) : (s.setDramCh c f).get x = s.get x := (rfl)
@[simp] theorem State.setDramCh_on (s : State) (c : Nat) (f : DramCh → DramCh) (x : Fld) : (s.setDramCh c f).on x = s.on x := (rfl)
@[simp] theorem State.setDramCh_getI (s : State) (c : Nat) (f : DramCh → DramCh) (x : Fld) : (s.setDramCh c f).getI x = s.getI x := (rfl)

/-! ### setFc -/

@[simp] theorem State.setFc_regs (s : State) (v : Nat) (f : DramFc) : (s.setFc v f).regs = s.regs := (rfl)
@[simp] theorem State.setFc_pend (s : State) (v : Nat) (f : DramFc) : (s.setFc v f).pend = s.pend := (rfl)
@[simp] theorem State.setFc_taken (s : State) (v : Nat) (f : DramFc) : (s.setFc v f).taken = s.taken := (rfl)
@[simp] theorem State.setFc_acc (s : State) (v : Nat) (f : DramFc) : (s.setFc v f).acc = s.acc := (rfl)
@[simp] theorem State.setFc_sys (s : State) (v : Nat) (f : DramFc) : (s.setFc v f).sys = s.sys := (rfl)
@[simp] theorem State.setFc_links (s : State) (v : Nat) (f : DramFc) : (s.setFc v f).links = s.links := (rfl)
@[simp] theorem State.setFc_pcie (s : State) (v : Nat) (f : DramFc) : (s.setFc v f).pcie = s.pcie := (rfl)
@[simp] theorem State.setFc_jtag (s : State) (v : Nat) (f : DramFc) : (s.setFc v f).jtag = s.jtag := (rfl)
@[simp] theorem State.setFc_log (s : State) (v : Nat) (f : DramFc) : (s.setFc v f).log = s.log := (rfl)
@[simp] theorem State.setFc_mould (s : State) (v : Nat) (f : DramFc) : (s.setFc v f).mould = s.mould := (rfl)
@[simp] theorem State.setFc_ports (s : State) (v : Nat) (f : DramFc) : (s.setFc v f).ports = s.ports := (rfl)
@[simp] theorem State.setFc_enum (s : State) (v : Nat) (f : DramFc) : (s.setFc v f).enum = s.enum := (rfl)
@[simp] theorem State.setFc_raster (s : State) (v : Nat) (f : DramFc) : (s.setFc v f).raster = s.raster := (rfl)
@[simp] theorem State.setFc_wtg (s : State) (v : Nat) (f : DramFc) : (s.setFc v f).wtg = s.wtg := (rfl)
@[simp] theorem State.setFc_commit (s : State) (v : Nat) (f : DramFc) : (s.setFc v f).commit = s.commit := (rfl)
@[simp] theorem State.setFc_tileRas (s : State) (v : Nat) (f : DramFc) : (s.setFc v f).tileRas = s.tileRas := (rfl)
@[simp] theorem State.setFc_tileRx (s : State) (v : Nat) (f : DramFc) : (s.setFc v f).tileRx = s.tileRx := (rfl)
@[simp] theorem State.setFc_fo (s : State) (v : Nat) (f : DramFc) : (s.setFc v f).fo = s.fo := (rfl)
@[simp] theorem State.setFc_stores (s : State) (v : Nat) (f : DramFc) : (s.setFc v f).stores = s.stores := (rfl)
@[simp] theorem State.setFc_ings (s : State) (v : Nat) (f : DramFc) : (s.setFc v f).ings = s.ings := (rfl)
@[simp] theorem State.setFc_rnds (s : State) (v : Nat) (f : DramFc) : (s.setFc v f).rnds = s.rnds := (rfl)
@[simp] theorem State.setFc_layers (s : State) (v : Nat) (f : DramFc) : (s.setFc v f).layers = s.layers := (rfl)
@[simp] theorem State.setFc_wbs (s : State) (v : Nat) (f : DramFc) : (s.setFc v f).wbs = s.wbs := (rfl)
@[simp] theorem State.setFc_comp (s : State) (v : Nat) (f : DramFc) : (s.setFc v f).comp = s.comp := (rfl)
@[simp] theorem State.setFc_dram (s : State) (v : Nat) (f : DramFc) : (s.setFc v f).dram = s.dram := (rfl)
@[simp] theorem State.setFc_line (s : State) (v : Nat) (f : DramFc) : (s.setFc v f).line = s.line := (rfl)
@[simp] theorem State.setFc_disp (s : State) (v : Nat) (f : DramFc) : (s.setFc v f).disp = s.disp := (rfl)
@[simp] theorem State.setFc_lanes (s : State) (v : Nat) (f : DramFc) : (s.setFc v f).lanes = s.lanes := (rfl)
@[simp] theorem State.setFc_cals (s : State) (v : Nat) (f : DramFc) : (s.setFc v f).cals = s.cals := (rfl)
@[simp] theorem State.setFc_cave (s : State) (v : Nat) (f : DramFc) : (s.setFc v f).cave = s.cave := (rfl)
@[simp] theorem State.setFc_tp (s : State) (v : Nat) (f : DramFc) : (s.setFc v f).tp = s.tp := (rfl)
@[simp] theorem State.setFc_press (s : State) (v : Nat) (f : DramFc) : (s.setFc v f).press = s.press := (rfl)
@[simp] theorem State.setFc_drams (s : State) (v : Nat) (f : DramFc) : (s.setFc v f).drams = s.drams := (rfl)
@[simp] theorem State.setFc_sensors (s : State) (v : Nat) (f : DramFc) : (s.setFc v f).sensors = s.sensors := (rfl)
@[simp] theorem State.setFc_ceils (s : State) (v : Nat) (f : DramFc) : (s.setFc v f).ceils = s.ceils := (rfl)
@[simp] theorem State.setFc_ptp (s : State) (v : Nat) (f : DramFc) : (s.setFc v f).ptp = s.ptp := (rfl)
@[simp] theorem State.setFc_nets (s : State) (v : Nat) (f : DramFc) : (s.setFc v f).nets = s.nets := (rfl)
@[simp] theorem State.setFc_wheel (s : State) (v : Nat) (f : DramFc) : (s.setFc v f).wheel = s.wheel := (rfl)
@[simp] theorem State.setFc_auds (s : State) (v : Nat) (f : DramFc) : (s.setFc v f).auds = s.auds := (rfl)
@[simp] theorem State.setFc_crcs (s : State) (v : Nat) (f : DramFc) : (s.setFc v f).crcs = s.crcs := (rfl)
@[simp] theorem State.setFc_nv (s : State) (v : Nat) (f : DramFc) : (s.setFc v f).nv = s.nv := (rfl)
@[simp] theorem State.setFc_upd (s : State) (v : Nat) (f : DramFc) : (s.setFc v f).upd = s.upd := (rfl)
@[simp] theorem State.setFc_k24 (s : State) (v : Nat) (f : DramFc) : (s.setFc v f).k24 = s.k24 := (rfl)
@[simp] theorem State.setFc_pram (s : State) (v : Nat) (f : DramFc) : (s.setFc v f).pram = s.pram := (rfl)
@[simp] theorem State.setFc_out (s : State) (v : Nat) (f : DramFc) : (s.setFc v f).out = s.out := (rfl)
@[simp] theorem State.setFc_freeN (s : State) (v : Nat) (f : DramFc) : (s.setFc v f).freeN = s.freeN := (rfl)
@[simp] theorem State.setFc_pending (s : State) (v : Nat) (f : DramFc) : (s.setFc v f).pending = s.pending := (rfl)
@[simp] theorem State.setFc_rd (s : State) (v : Nat) (f : DramFc) (x : Nat) : (s.setFc v f).rd x = s.rd x := (rfl)
@[simp] theorem State.setFc_get (s : State) (v : Nat) (f : DramFc) (x : Fld) : (s.setFc v f).get x = s.get x := (rfl)
@[simp] theorem State.setFc_on (s : State) (v : Nat) (f : DramFc) (x : Fld) : (s.setFc v f).on x = s.on x := (rfl)
@[simp] theorem State.setFc_getI (s : State) (v : Nat) (f : DramFc) (x : Fld) : (s.setFc v f).getI x = s.getI x := (rfl)

/-! ### setSensor -/

@[simp] theorem State.setSensor_regs (s : State) (d i : Nat) (f : Sensor → Sensor) : (s.setSensor d i f).regs = s.regs := (rfl)
@[simp] theorem State.setSensor_pend (s : State) (d i : Nat) (f : Sensor → Sensor) : (s.setSensor d i f).pend = s.pend := (rfl)
@[simp] theorem State.setSensor_taken (s : State) (d i : Nat) (f : Sensor → Sensor) : (s.setSensor d i f).taken = s.taken := (rfl)
@[simp] theorem State.setSensor_acc (s : State) (d i : Nat) (f : Sensor → Sensor) : (s.setSensor d i f).acc = s.acc := (rfl)
@[simp] theorem State.setSensor_sys (s : State) (d i : Nat) (f : Sensor → Sensor) : (s.setSensor d i f).sys = s.sys := (rfl)
@[simp] theorem State.setSensor_links (s : State) (d i : Nat) (f : Sensor → Sensor) : (s.setSensor d i f).links = s.links := (rfl)
@[simp] theorem State.setSensor_pcie (s : State) (d i : Nat) (f : Sensor → Sensor) : (s.setSensor d i f).pcie = s.pcie := (rfl)
@[simp] theorem State.setSensor_jtag (s : State) (d i : Nat) (f : Sensor → Sensor) : (s.setSensor d i f).jtag = s.jtag := (rfl)
@[simp] theorem State.setSensor_log (s : State) (d i : Nat) (f : Sensor → Sensor) : (s.setSensor d i f).log = s.log := (rfl)
@[simp] theorem State.setSensor_mould (s : State) (d i : Nat) (f : Sensor → Sensor) : (s.setSensor d i f).mould = s.mould := (rfl)
@[simp] theorem State.setSensor_ports (s : State) (d i : Nat) (f : Sensor → Sensor) : (s.setSensor d i f).ports = s.ports := (rfl)
@[simp] theorem State.setSensor_enum (s : State) (d i : Nat) (f : Sensor → Sensor) : (s.setSensor d i f).enum = s.enum := (rfl)
@[simp] theorem State.setSensor_raster (s : State) (d i : Nat) (f : Sensor → Sensor) : (s.setSensor d i f).raster = s.raster := (rfl)
@[simp] theorem State.setSensor_wtg (s : State) (d i : Nat) (f : Sensor → Sensor) : (s.setSensor d i f).wtg = s.wtg := (rfl)
@[simp] theorem State.setSensor_commit (s : State) (d i : Nat) (f : Sensor → Sensor) : (s.setSensor d i f).commit = s.commit := (rfl)
@[simp] theorem State.setSensor_tileRas (s : State) (d i : Nat) (f : Sensor → Sensor) : (s.setSensor d i f).tileRas = s.tileRas := (rfl)
@[simp] theorem State.setSensor_tileRx (s : State) (d i : Nat) (f : Sensor → Sensor) : (s.setSensor d i f).tileRx = s.tileRx := (rfl)
@[simp] theorem State.setSensor_fo (s : State) (d i : Nat) (f : Sensor → Sensor) : (s.setSensor d i f).fo = s.fo := (rfl)
@[simp] theorem State.setSensor_stores (s : State) (d i : Nat) (f : Sensor → Sensor) : (s.setSensor d i f).stores = s.stores := (rfl)
@[simp] theorem State.setSensor_ings (s : State) (d i : Nat) (f : Sensor → Sensor) : (s.setSensor d i f).ings = s.ings := (rfl)
@[simp] theorem State.setSensor_rnds (s : State) (d i : Nat) (f : Sensor → Sensor) : (s.setSensor d i f).rnds = s.rnds := (rfl)
@[simp] theorem State.setSensor_layers (s : State) (d i : Nat) (f : Sensor → Sensor) : (s.setSensor d i f).layers = s.layers := (rfl)
@[simp] theorem State.setSensor_wbs (s : State) (d i : Nat) (f : Sensor → Sensor) : (s.setSensor d i f).wbs = s.wbs := (rfl)
@[simp] theorem State.setSensor_comp (s : State) (d i : Nat) (f : Sensor → Sensor) : (s.setSensor d i f).comp = s.comp := (rfl)
@[simp] theorem State.setSensor_dram (s : State) (d i : Nat) (f : Sensor → Sensor) : (s.setSensor d i f).dram = s.dram := (rfl)
@[simp] theorem State.setSensor_line (s : State) (d i : Nat) (f : Sensor → Sensor) : (s.setSensor d i f).line = s.line := (rfl)
@[simp] theorem State.setSensor_disp (s : State) (d i : Nat) (f : Sensor → Sensor) : (s.setSensor d i f).disp = s.disp := (rfl)
@[simp] theorem State.setSensor_lanes (s : State) (d i : Nat) (f : Sensor → Sensor) : (s.setSensor d i f).lanes = s.lanes := (rfl)
@[simp] theorem State.setSensor_cals (s : State) (d i : Nat) (f : Sensor → Sensor) : (s.setSensor d i f).cals = s.cals := (rfl)
@[simp] theorem State.setSensor_cave (s : State) (d i : Nat) (f : Sensor → Sensor) : (s.setSensor d i f).cave = s.cave := (rfl)
@[simp] theorem State.setSensor_tp (s : State) (d i : Nat) (f : Sensor → Sensor) : (s.setSensor d i f).tp = s.tp := (rfl)
@[simp] theorem State.setSensor_press (s : State) (d i : Nat) (f : Sensor → Sensor) : (s.setSensor d i f).press = s.press := (rfl)
@[simp] theorem State.setSensor_drams (s : State) (d i : Nat) (f : Sensor → Sensor) : (s.setSensor d i f).drams = s.drams := (rfl)
@[simp] theorem State.setSensor_dramFc (s : State) (d i : Nat) (f : Sensor → Sensor) : (s.setSensor d i f).dramFc = s.dramFc := (rfl)
@[simp] theorem State.setSensor_ceils (s : State) (d i : Nat) (f : Sensor → Sensor) : (s.setSensor d i f).ceils = s.ceils := (rfl)
@[simp] theorem State.setSensor_ptp (s : State) (d i : Nat) (f : Sensor → Sensor) : (s.setSensor d i f).ptp = s.ptp := (rfl)
@[simp] theorem State.setSensor_nets (s : State) (d i : Nat) (f : Sensor → Sensor) : (s.setSensor d i f).nets = s.nets := (rfl)
@[simp] theorem State.setSensor_wheel (s : State) (d i : Nat) (f : Sensor → Sensor) : (s.setSensor d i f).wheel = s.wheel := (rfl)
@[simp] theorem State.setSensor_auds (s : State) (d i : Nat) (f : Sensor → Sensor) : (s.setSensor d i f).auds = s.auds := (rfl)
@[simp] theorem State.setSensor_crcs (s : State) (d i : Nat) (f : Sensor → Sensor) : (s.setSensor d i f).crcs = s.crcs := (rfl)
@[simp] theorem State.setSensor_nv (s : State) (d i : Nat) (f : Sensor → Sensor) : (s.setSensor d i f).nv = s.nv := (rfl)
@[simp] theorem State.setSensor_upd (s : State) (d i : Nat) (f : Sensor → Sensor) : (s.setSensor d i f).upd = s.upd := (rfl)
@[simp] theorem State.setSensor_k24 (s : State) (d i : Nat) (f : Sensor → Sensor) : (s.setSensor d i f).k24 = s.k24 := (rfl)
@[simp] theorem State.setSensor_pram (s : State) (d i : Nat) (f : Sensor → Sensor) : (s.setSensor d i f).pram = s.pram := (rfl)
@[simp] theorem State.setSensor_out (s : State) (d i : Nat) (f : Sensor → Sensor) : (s.setSensor d i f).out = s.out := (rfl)
@[simp] theorem State.setSensor_freeN (s : State) (d i : Nat) (f : Sensor → Sensor) : (s.setSensor d i f).freeN = s.freeN := (rfl)
@[simp] theorem State.setSensor_pending (s : State) (d i : Nat) (f : Sensor → Sensor) : (s.setSensor d i f).pending = s.pending := (rfl)
@[simp] theorem State.setSensor_rd (s : State) (d i : Nat) (f : Sensor → Sensor) (x : Nat) : (s.setSensor d i f).rd x = s.rd x := (rfl)
@[simp] theorem State.setSensor_get (s : State) (d i : Nat) (f : Sensor → Sensor) (x : Fld) : (s.setSensor d i f).get x = s.get x := (rfl)
@[simp] theorem State.setSensor_on (s : State) (d i : Nat) (f : Sensor → Sensor) (x : Fld) : (s.setSensor d i f).on x = s.on x := (rfl)
@[simp] theorem State.setSensor_getI (s : State) (d i : Nat) (f : Sensor → Sensor) (x : Fld) : (s.setSensor d i f).getI x = s.getI x := (rfl)

/-! ### setCeil -/

@[simp] theorem State.setCeil_regs (s : State) (j : Nat) (c : CeilBand) : (s.setCeil j c).regs = s.regs := (rfl)
@[simp] theorem State.setCeil_pend (s : State) (j : Nat) (c : CeilBand) : (s.setCeil j c).pend = s.pend := (rfl)
@[simp] theorem State.setCeil_taken (s : State) (j : Nat) (c : CeilBand) : (s.setCeil j c).taken = s.taken := (rfl)
@[simp] theorem State.setCeil_acc (s : State) (j : Nat) (c : CeilBand) : (s.setCeil j c).acc = s.acc := (rfl)
@[simp] theorem State.setCeil_sys (s : State) (j : Nat) (c : CeilBand) : (s.setCeil j c).sys = s.sys := (rfl)
@[simp] theorem State.setCeil_links (s : State) (j : Nat) (c : CeilBand) : (s.setCeil j c).links = s.links := (rfl)
@[simp] theorem State.setCeil_pcie (s : State) (j : Nat) (c : CeilBand) : (s.setCeil j c).pcie = s.pcie := (rfl)
@[simp] theorem State.setCeil_jtag (s : State) (j : Nat) (c : CeilBand) : (s.setCeil j c).jtag = s.jtag := (rfl)
@[simp] theorem State.setCeil_log (s : State) (j : Nat) (c : CeilBand) : (s.setCeil j c).log = s.log := (rfl)
@[simp] theorem State.setCeil_mould (s : State) (j : Nat) (c : CeilBand) : (s.setCeil j c).mould = s.mould := (rfl)
@[simp] theorem State.setCeil_ports (s : State) (j : Nat) (c : CeilBand) : (s.setCeil j c).ports = s.ports := (rfl)
@[simp] theorem State.setCeil_enum (s : State) (j : Nat) (c : CeilBand) : (s.setCeil j c).enum = s.enum := (rfl)
@[simp] theorem State.setCeil_raster (s : State) (j : Nat) (c : CeilBand) : (s.setCeil j c).raster = s.raster := (rfl)
@[simp] theorem State.setCeil_wtg (s : State) (j : Nat) (c : CeilBand) : (s.setCeil j c).wtg = s.wtg := (rfl)
@[simp] theorem State.setCeil_commit (s : State) (j : Nat) (c : CeilBand) : (s.setCeil j c).commit = s.commit := (rfl)
@[simp] theorem State.setCeil_tileRas (s : State) (j : Nat) (c : CeilBand) : (s.setCeil j c).tileRas = s.tileRas := (rfl)
@[simp] theorem State.setCeil_tileRx (s : State) (j : Nat) (c : CeilBand) : (s.setCeil j c).tileRx = s.tileRx := (rfl)
@[simp] theorem State.setCeil_fo (s : State) (j : Nat) (c : CeilBand) : (s.setCeil j c).fo = s.fo := (rfl)
@[simp] theorem State.setCeil_stores (s : State) (j : Nat) (c : CeilBand) : (s.setCeil j c).stores = s.stores := (rfl)
@[simp] theorem State.setCeil_ings (s : State) (j : Nat) (c : CeilBand) : (s.setCeil j c).ings = s.ings := (rfl)
@[simp] theorem State.setCeil_rnds (s : State) (j : Nat) (c : CeilBand) : (s.setCeil j c).rnds = s.rnds := (rfl)
@[simp] theorem State.setCeil_layers (s : State) (j : Nat) (c : CeilBand) : (s.setCeil j c).layers = s.layers := (rfl)
@[simp] theorem State.setCeil_wbs (s : State) (j : Nat) (c : CeilBand) : (s.setCeil j c).wbs = s.wbs := (rfl)
@[simp] theorem State.setCeil_comp (s : State) (j : Nat) (c : CeilBand) : (s.setCeil j c).comp = s.comp := (rfl)
@[simp] theorem State.setCeil_dram (s : State) (j : Nat) (c : CeilBand) : (s.setCeil j c).dram = s.dram := (rfl)
@[simp] theorem State.setCeil_line (s : State) (j : Nat) (c : CeilBand) : (s.setCeil j c).line = s.line := (rfl)
@[simp] theorem State.setCeil_disp (s : State) (j : Nat) (c : CeilBand) : (s.setCeil j c).disp = s.disp := (rfl)
@[simp] theorem State.setCeil_lanes (s : State) (j : Nat) (c : CeilBand) : (s.setCeil j c).lanes = s.lanes := (rfl)
@[simp] theorem State.setCeil_cals (s : State) (j : Nat) (c : CeilBand) : (s.setCeil j c).cals = s.cals := (rfl)
@[simp] theorem State.setCeil_cave (s : State) (j : Nat) (c : CeilBand) : (s.setCeil j c).cave = s.cave := (rfl)
@[simp] theorem State.setCeil_tp (s : State) (j : Nat) (c : CeilBand) : (s.setCeil j c).tp = s.tp := (rfl)
@[simp] theorem State.setCeil_press (s : State) (j : Nat) (c : CeilBand) : (s.setCeil j c).press = s.press := (rfl)
@[simp] theorem State.setCeil_drams (s : State) (j : Nat) (c : CeilBand) : (s.setCeil j c).drams = s.drams := (rfl)
@[simp] theorem State.setCeil_dramFc (s : State) (j : Nat) (c : CeilBand) : (s.setCeil j c).dramFc = s.dramFc := (rfl)
@[simp] theorem State.setCeil_sensors (s : State) (j : Nat) (c : CeilBand) : (s.setCeil j c).sensors = s.sensors := (rfl)
@[simp] theorem State.setCeil_ptp (s : State) (j : Nat) (c : CeilBand) : (s.setCeil j c).ptp = s.ptp := (rfl)
@[simp] theorem State.setCeil_nets (s : State) (j : Nat) (c : CeilBand) : (s.setCeil j c).nets = s.nets := (rfl)
@[simp] theorem State.setCeil_wheel (s : State) (j : Nat) (c : CeilBand) : (s.setCeil j c).wheel = s.wheel := (rfl)
@[simp] theorem State.setCeil_auds (s : State) (j : Nat) (c : CeilBand) : (s.setCeil j c).auds = s.auds := (rfl)
@[simp] theorem State.setCeil_crcs (s : State) (j : Nat) (c : CeilBand) : (s.setCeil j c).crcs = s.crcs := (rfl)
@[simp] theorem State.setCeil_nv (s : State) (j : Nat) (c : CeilBand) : (s.setCeil j c).nv = s.nv := (rfl)
@[simp] theorem State.setCeil_upd (s : State) (j : Nat) (c : CeilBand) : (s.setCeil j c).upd = s.upd := (rfl)
@[simp] theorem State.setCeil_k24 (s : State) (j : Nat) (c : CeilBand) : (s.setCeil j c).k24 = s.k24 := (rfl)
@[simp] theorem State.setCeil_pram (s : State) (j : Nat) (c : CeilBand) : (s.setCeil j c).pram = s.pram := (rfl)
@[simp] theorem State.setCeil_out (s : State) (j : Nat) (c : CeilBand) : (s.setCeil j c).out = s.out := (rfl)
@[simp] theorem State.setCeil_freeN (s : State) (j : Nat) (c : CeilBand) : (s.setCeil j c).freeN = s.freeN := (rfl)
@[simp] theorem State.setCeil_pending (s : State) (j : Nat) (c : CeilBand) : (s.setCeil j c).pending = s.pending := (rfl)
@[simp] theorem State.setCeil_rd (s : State) (j : Nat) (c : CeilBand) (x : Nat) : (s.setCeil j c).rd x = s.rd x := (rfl)
@[simp] theorem State.setCeil_get (s : State) (j : Nat) (c : CeilBand) (x : Fld) : (s.setCeil j c).get x = s.get x := (rfl)
@[simp] theorem State.setCeil_on (s : State) (j : Nat) (c : CeilBand) (x : Fld) : (s.setCeil j c).on x = s.on x := (rfl)
@[simp] theorem State.setCeil_getI (s : State) (j : Nat) (c : CeilBand) (x : Fld) : (s.setCeil j c).getI x = s.getI x := (rfl)

/-! ### setTrig -/

@[simp] theorem State.setTrig_regs (s : State) (t : Nat) (tr : Trig) : (s.setTrig t tr).regs = s.regs := (rfl)
@[simp] theorem State.setTrig_pend (s : State) (t : Nat) (tr : Trig) : (s.setTrig t tr).pend = s.pend := (rfl)
@[simp] theorem State.setTrig_taken (s : State) (t : Nat) (tr : Trig) : (s.setTrig t tr).taken = s.taken := (rfl)
@[simp] theorem State.setTrig_acc (s : State) (t : Nat) (tr : Trig) : (s.setTrig t tr).acc = s.acc := (rfl)
@[simp] theorem State.setTrig_sys (s : State) (t : Nat) (tr : Trig) : (s.setTrig t tr).sys = s.sys := (rfl)
@[simp] theorem State.setTrig_links (s : State) (t : Nat) (tr : Trig) : (s.setTrig t tr).links = s.links := (rfl)
@[simp] theorem State.setTrig_pcie (s : State) (t : Nat) (tr : Trig) : (s.setTrig t tr).pcie = s.pcie := (rfl)
@[simp] theorem State.setTrig_jtag (s : State) (t : Nat) (tr : Trig) : (s.setTrig t tr).jtag = s.jtag := (rfl)
@[simp] theorem State.setTrig_log (s : State) (t : Nat) (tr : Trig) : (s.setTrig t tr).log = s.log := (rfl)
@[simp] theorem State.setTrig_mould (s : State) (t : Nat) (tr : Trig) : (s.setTrig t tr).mould = s.mould := (rfl)
@[simp] theorem State.setTrig_ports (s : State) (t : Nat) (tr : Trig) : (s.setTrig t tr).ports = s.ports := (rfl)
@[simp] theorem State.setTrig_enum (s : State) (t : Nat) (tr : Trig) : (s.setTrig t tr).enum = s.enum := (rfl)
@[simp] theorem State.setTrig_raster (s : State) (t : Nat) (tr : Trig) : (s.setTrig t tr).raster = s.raster := (rfl)
@[simp] theorem State.setTrig_wtg (s : State) (t : Nat) (tr : Trig) : (s.setTrig t tr).wtg = s.wtg := (rfl)
@[simp] theorem State.setTrig_commit (s : State) (t : Nat) (tr : Trig) : (s.setTrig t tr).commit = s.commit := (rfl)
@[simp] theorem State.setTrig_tileRas (s : State) (t : Nat) (tr : Trig) : (s.setTrig t tr).tileRas = s.tileRas := (rfl)
@[simp] theorem State.setTrig_tileRx (s : State) (t : Nat) (tr : Trig) : (s.setTrig t tr).tileRx = s.tileRx := (rfl)
@[simp] theorem State.setTrig_fo (s : State) (t : Nat) (tr : Trig) : (s.setTrig t tr).fo = s.fo := (rfl)
@[simp] theorem State.setTrig_stores (s : State) (t : Nat) (tr : Trig) : (s.setTrig t tr).stores = s.stores := (rfl)
@[simp] theorem State.setTrig_ings (s : State) (t : Nat) (tr : Trig) : (s.setTrig t tr).ings = s.ings := (rfl)
@[simp] theorem State.setTrig_rnds (s : State) (t : Nat) (tr : Trig) : (s.setTrig t tr).rnds = s.rnds := (rfl)
@[simp] theorem State.setTrig_layers (s : State) (t : Nat) (tr : Trig) : (s.setTrig t tr).layers = s.layers := (rfl)
@[simp] theorem State.setTrig_wbs (s : State) (t : Nat) (tr : Trig) : (s.setTrig t tr).wbs = s.wbs := (rfl)
@[simp] theorem State.setTrig_comp (s : State) (t : Nat) (tr : Trig) : (s.setTrig t tr).comp = s.comp := (rfl)
@[simp] theorem State.setTrig_dram (s : State) (t : Nat) (tr : Trig) : (s.setTrig t tr).dram = s.dram := (rfl)
@[simp] theorem State.setTrig_line (s : State) (t : Nat) (tr : Trig) : (s.setTrig t tr).line = s.line := (rfl)
@[simp] theorem State.setTrig_disp (s : State) (t : Nat) (tr : Trig) : (s.setTrig t tr).disp = s.disp := (rfl)
@[simp] theorem State.setTrig_lanes (s : State) (t : Nat) (tr : Trig) : (s.setTrig t tr).lanes = s.lanes := (rfl)
@[simp] theorem State.setTrig_cals (s : State) (t : Nat) (tr : Trig) : (s.setTrig t tr).cals = s.cals := (rfl)
@[simp] theorem State.setTrig_cave (s : State) (t : Nat) (tr : Trig) : (s.setTrig t tr).cave = s.cave := (rfl)
@[simp] theorem State.setTrig_tp (s : State) (t : Nat) (tr : Trig) : (s.setTrig t tr).tp = s.tp := (rfl)
@[simp] theorem State.setTrig_press (s : State) (t : Nat) (tr : Trig) : (s.setTrig t tr).press = s.press := (rfl)
@[simp] theorem State.setTrig_drams (s : State) (t : Nat) (tr : Trig) : (s.setTrig t tr).drams = s.drams := (rfl)
@[simp] theorem State.setTrig_dramFc (s : State) (t : Nat) (tr : Trig) : (s.setTrig t tr).dramFc = s.dramFc := (rfl)
@[simp] theorem State.setTrig_sensors (s : State) (t : Nat) (tr : Trig) : (s.setTrig t tr).sensors = s.sensors := (rfl)
@[simp] theorem State.setTrig_ceils (s : State) (t : Nat) (tr : Trig) : (s.setTrig t tr).ceils = s.ceils := (rfl)
@[simp] theorem State.setTrig_nets (s : State) (t : Nat) (tr : Trig) : (s.setTrig t tr).nets = s.nets := (rfl)
@[simp] theorem State.setTrig_wheel (s : State) (t : Nat) (tr : Trig) : (s.setTrig t tr).wheel = s.wheel := (rfl)
@[simp] theorem State.setTrig_auds (s : State) (t : Nat) (tr : Trig) : (s.setTrig t tr).auds = s.auds := (rfl)
@[simp] theorem State.setTrig_crcs (s : State) (t : Nat) (tr : Trig) : (s.setTrig t tr).crcs = s.crcs := (rfl)
@[simp] theorem State.setTrig_nv (s : State) (t : Nat) (tr : Trig) : (s.setTrig t tr).nv = s.nv := (rfl)
@[simp] theorem State.setTrig_upd (s : State) (t : Nat) (tr : Trig) : (s.setTrig t tr).upd = s.upd := (rfl)
@[simp] theorem State.setTrig_k24 (s : State) (t : Nat) (tr : Trig) : (s.setTrig t tr).k24 = s.k24 := (rfl)
@[simp] theorem State.setTrig_pram (s : State) (t : Nat) (tr : Trig) : (s.setTrig t tr).pram = s.pram := (rfl)
@[simp] theorem State.setTrig_out (s : State) (t : Nat) (tr : Trig) : (s.setTrig t tr).out = s.out := (rfl)
@[simp] theorem State.setTrig_freeN (s : State) (t : Nat) (tr : Trig) : (s.setTrig t tr).freeN = s.freeN := (rfl)
@[simp] theorem State.setTrig_pending (s : State) (t : Nat) (tr : Trig) : (s.setTrig t tr).pending = s.pending := (rfl)
@[simp] theorem State.setTrig_rd (s : State) (t : Nat) (tr : Trig) (x : Nat) : (s.setTrig t tr).rd x = s.rd x := (rfl)
@[simp] theorem State.setTrig_get (s : State) (t : Nat) (tr : Trig) (x : Fld) : (s.setTrig t tr).get x = s.get x := (rfl)
@[simp] theorem State.setTrig_on (s : State) (t : Nat) (tr : Trig) (x : Fld) : (s.setTrig t tr).on x = s.on x := (rfl)
@[simp] theorem State.setTrig_getI (s : State) (t : Nat) (tr : Trig) (x : Fld) : (s.setTrig t tr).getI x = s.getI x := (rfl)

/-! ### setCaps -/

@[simp] theorem State.setCaps_regs (s : State) (c : Nat) (l : List Capture) : (s.setCaps c l).regs = s.regs := (rfl)
@[simp] theorem State.setCaps_pend (s : State) (c : Nat) (l : List Capture) : (s.setCaps c l).pend = s.pend := (rfl)
@[simp] theorem State.setCaps_taken (s : State) (c : Nat) (l : List Capture) : (s.setCaps c l).taken = s.taken := (rfl)
@[simp] theorem State.setCaps_acc (s : State) (c : Nat) (l : List Capture) : (s.setCaps c l).acc = s.acc := (rfl)
@[simp] theorem State.setCaps_sys (s : State) (c : Nat) (l : List Capture) : (s.setCaps c l).sys = s.sys := (rfl)
@[simp] theorem State.setCaps_links (s : State) (c : Nat) (l : List Capture) : (s.setCaps c l).links = s.links := (rfl)
@[simp] theorem State.setCaps_pcie (s : State) (c : Nat) (l : List Capture) : (s.setCaps c l).pcie = s.pcie := (rfl)
@[simp] theorem State.setCaps_jtag (s : State) (c : Nat) (l : List Capture) : (s.setCaps c l).jtag = s.jtag := (rfl)
@[simp] theorem State.setCaps_log (s : State) (c : Nat) (l : List Capture) : (s.setCaps c l).log = s.log := (rfl)
@[simp] theorem State.setCaps_mould (s : State) (c : Nat) (l : List Capture) : (s.setCaps c l).mould = s.mould := (rfl)
@[simp] theorem State.setCaps_ports (s : State) (c : Nat) (l : List Capture) : (s.setCaps c l).ports = s.ports := (rfl)
@[simp] theorem State.setCaps_enum (s : State) (c : Nat) (l : List Capture) : (s.setCaps c l).enum = s.enum := (rfl)
@[simp] theorem State.setCaps_raster (s : State) (c : Nat) (l : List Capture) : (s.setCaps c l).raster = s.raster := (rfl)
@[simp] theorem State.setCaps_wtg (s : State) (c : Nat) (l : List Capture) : (s.setCaps c l).wtg = s.wtg := (rfl)
@[simp] theorem State.setCaps_commit (s : State) (c : Nat) (l : List Capture) : (s.setCaps c l).commit = s.commit := (rfl)
@[simp] theorem State.setCaps_tileRas (s : State) (c : Nat) (l : List Capture) : (s.setCaps c l).tileRas = s.tileRas := (rfl)
@[simp] theorem State.setCaps_tileRx (s : State) (c : Nat) (l : List Capture) : (s.setCaps c l).tileRx = s.tileRx := (rfl)
@[simp] theorem State.setCaps_fo (s : State) (c : Nat) (l : List Capture) : (s.setCaps c l).fo = s.fo := (rfl)
@[simp] theorem State.setCaps_stores (s : State) (c : Nat) (l : List Capture) : (s.setCaps c l).stores = s.stores := (rfl)
@[simp] theorem State.setCaps_ings (s : State) (c : Nat) (l : List Capture) : (s.setCaps c l).ings = s.ings := (rfl)
@[simp] theorem State.setCaps_rnds (s : State) (c : Nat) (l : List Capture) : (s.setCaps c l).rnds = s.rnds := (rfl)
@[simp] theorem State.setCaps_layers (s : State) (c : Nat) (l : List Capture) : (s.setCaps c l).layers = s.layers := (rfl)
@[simp] theorem State.setCaps_wbs (s : State) (c : Nat) (l : List Capture) : (s.setCaps c l).wbs = s.wbs := (rfl)
@[simp] theorem State.setCaps_comp (s : State) (c : Nat) (l : List Capture) : (s.setCaps c l).comp = s.comp := (rfl)
@[simp] theorem State.setCaps_dram (s : State) (c : Nat) (l : List Capture) : (s.setCaps c l).dram = s.dram := (rfl)
@[simp] theorem State.setCaps_line (s : State) (c : Nat) (l : List Capture) : (s.setCaps c l).line = s.line := (rfl)
@[simp] theorem State.setCaps_disp (s : State) (c : Nat) (l : List Capture) : (s.setCaps c l).disp = s.disp := (rfl)
@[simp] theorem State.setCaps_lanes (s : State) (c : Nat) (l : List Capture) : (s.setCaps c l).lanes = s.lanes := (rfl)
@[simp] theorem State.setCaps_cals (s : State) (c : Nat) (l : List Capture) : (s.setCaps c l).cals = s.cals := (rfl)
@[simp] theorem State.setCaps_cave (s : State) (c : Nat) (l : List Capture) : (s.setCaps c l).cave = s.cave := (rfl)
@[simp] theorem State.setCaps_tp (s : State) (c : Nat) (l : List Capture) : (s.setCaps c l).tp = s.tp := (rfl)
@[simp] theorem State.setCaps_press (s : State) (c : Nat) (l : List Capture) : (s.setCaps c l).press = s.press := (rfl)
@[simp] theorem State.setCaps_drams (s : State) (c : Nat) (l : List Capture) : (s.setCaps c l).drams = s.drams := (rfl)
@[simp] theorem State.setCaps_dramFc (s : State) (c : Nat) (l : List Capture) : (s.setCaps c l).dramFc = s.dramFc := (rfl)
@[simp] theorem State.setCaps_sensors (s : State) (c : Nat) (l : List Capture) : (s.setCaps c l).sensors = s.sensors := (rfl)
@[simp] theorem State.setCaps_ceils (s : State) (c : Nat) (l : List Capture) : (s.setCaps c l).ceils = s.ceils := (rfl)
@[simp] theorem State.setCaps_nets (s : State) (c : Nat) (l : List Capture) : (s.setCaps c l).nets = s.nets := (rfl)
@[simp] theorem State.setCaps_wheel (s : State) (c : Nat) (l : List Capture) : (s.setCaps c l).wheel = s.wheel := (rfl)
@[simp] theorem State.setCaps_auds (s : State) (c : Nat) (l : List Capture) : (s.setCaps c l).auds = s.auds := (rfl)
@[simp] theorem State.setCaps_crcs (s : State) (c : Nat) (l : List Capture) : (s.setCaps c l).crcs = s.crcs := (rfl)
@[simp] theorem State.setCaps_nv (s : State) (c : Nat) (l : List Capture) : (s.setCaps c l).nv = s.nv := (rfl)
@[simp] theorem State.setCaps_upd (s : State) (c : Nat) (l : List Capture) : (s.setCaps c l).upd = s.upd := (rfl)
@[simp] theorem State.setCaps_k24 (s : State) (c : Nat) (l : List Capture) : (s.setCaps c l).k24 = s.k24 := (rfl)
@[simp] theorem State.setCaps_pram (s : State) (c : Nat) (l : List Capture) : (s.setCaps c l).pram = s.pram := (rfl)
@[simp] theorem State.setCaps_out (s : State) (c : Nat) (l : List Capture) : (s.setCaps c l).out = s.out := (rfl)
@[simp] theorem State.setCaps_freeN (s : State) (c : Nat) (l : List Capture) : (s.setCaps c l).freeN = s.freeN := (rfl)
@[simp] theorem State.setCaps_pending (s : State) (c : Nat) (l : List Capture) : (s.setCaps c l).pending = s.pending := (rfl)
@[simp] theorem State.setCaps_rd (s : State) (c : Nat) (l : List Capture) (x : Nat) : (s.setCaps c l).rd x = s.rd x := (rfl)
@[simp] theorem State.setCaps_get (s : State) (c : Nat) (l : List Capture) (x : Fld) : (s.setCaps c l).get x = s.get x := (rfl)
@[simp] theorem State.setCaps_on (s : State) (c : Nat) (l : List Capture) (x : Fld) : (s.setCaps c l).on x = s.on x := (rfl)
@[simp] theorem State.setCaps_getI (s : State) (c : Nat) (l : List Capture) (x : Fld) : (s.setCaps c l).getI x = s.getI x := (rfl)

/-! ### setNet -/

@[simp] theorem State.setNet_regs (s : State) (n : Nat) (f : NetPort → NetPort) : (s.setNet n f).regs = s.regs := (rfl)
@[simp] theorem State.setNet_pend (s : State) (n : Nat) (f : NetPort → NetPort) : (s.setNet n f).pend = s.pend := (rfl)
@[simp] theorem State.setNet_taken (s : State) (n : Nat) (f : NetPort → NetPort) : (s.setNet n f).taken = s.taken := (rfl)
@[simp] theorem State.setNet_acc (s : State) (n : Nat) (f : NetPort → NetPort) : (s.setNet n f).acc = s.acc := (rfl)
@[simp] theorem State.setNet_sys (s : State) (n : Nat) (f : NetPort → NetPort) : (s.setNet n f).sys = s.sys := (rfl)
@[simp] theorem State.setNet_links (s : State) (n : Nat) (f : NetPort → NetPort) : (s.setNet n f).links = s.links := (rfl)
@[simp] theorem State.setNet_pcie (s : State) (n : Nat) (f : NetPort → NetPort) : (s.setNet n f).pcie = s.pcie := (rfl)
@[simp] theorem State.setNet_jtag (s : State) (n : Nat) (f : NetPort → NetPort) : (s.setNet n f).jtag = s.jtag := (rfl)
@[simp] theorem State.setNet_log (s : State) (n : Nat) (f : NetPort → NetPort) : (s.setNet n f).log = s.log := (rfl)
@[simp] theorem State.setNet_mould (s : State) (n : Nat) (f : NetPort → NetPort) : (s.setNet n f).mould = s.mould := (rfl)
@[simp] theorem State.setNet_ports (s : State) (n : Nat) (f : NetPort → NetPort) : (s.setNet n f).ports = s.ports := (rfl)
@[simp] theorem State.setNet_enum (s : State) (n : Nat) (f : NetPort → NetPort) : (s.setNet n f).enum = s.enum := (rfl)
@[simp] theorem State.setNet_raster (s : State) (n : Nat) (f : NetPort → NetPort) : (s.setNet n f).raster = s.raster := (rfl)
@[simp] theorem State.setNet_wtg (s : State) (n : Nat) (f : NetPort → NetPort) : (s.setNet n f).wtg = s.wtg := (rfl)
@[simp] theorem State.setNet_commit (s : State) (n : Nat) (f : NetPort → NetPort) : (s.setNet n f).commit = s.commit := (rfl)
@[simp] theorem State.setNet_tileRas (s : State) (n : Nat) (f : NetPort → NetPort) : (s.setNet n f).tileRas = s.tileRas := (rfl)
@[simp] theorem State.setNet_tileRx (s : State) (n : Nat) (f : NetPort → NetPort) : (s.setNet n f).tileRx = s.tileRx := (rfl)
@[simp] theorem State.setNet_fo (s : State) (n : Nat) (f : NetPort → NetPort) : (s.setNet n f).fo = s.fo := (rfl)
@[simp] theorem State.setNet_stores (s : State) (n : Nat) (f : NetPort → NetPort) : (s.setNet n f).stores = s.stores := (rfl)
@[simp] theorem State.setNet_ings (s : State) (n : Nat) (f : NetPort → NetPort) : (s.setNet n f).ings = s.ings := (rfl)
@[simp] theorem State.setNet_rnds (s : State) (n : Nat) (f : NetPort → NetPort) : (s.setNet n f).rnds = s.rnds := (rfl)
@[simp] theorem State.setNet_layers (s : State) (n : Nat) (f : NetPort → NetPort) : (s.setNet n f).layers = s.layers := (rfl)
@[simp] theorem State.setNet_wbs (s : State) (n : Nat) (f : NetPort → NetPort) : (s.setNet n f).wbs = s.wbs := (rfl)
@[simp] theorem State.setNet_comp (s : State) (n : Nat) (f : NetPort → NetPort) : (s.setNet n f).comp = s.comp := (rfl)
@[simp] theorem State.setNet_dram (s : State) (n : Nat) (f : NetPort → NetPort) : (s.setNet n f).dram = s.dram := (rfl)
@[simp] theorem State.setNet_line (s : State) (n : Nat) (f : NetPort → NetPort) : (s.setNet n f).line = s.line := (rfl)
@[simp] theorem State.setNet_disp (s : State) (n : Nat) (f : NetPort → NetPort) : (s.setNet n f).disp = s.disp := (rfl)
@[simp] theorem State.setNet_lanes (s : State) (n : Nat) (f : NetPort → NetPort) : (s.setNet n f).lanes = s.lanes := (rfl)
@[simp] theorem State.setNet_cals (s : State) (n : Nat) (f : NetPort → NetPort) : (s.setNet n f).cals = s.cals := (rfl)
@[simp] theorem State.setNet_cave (s : State) (n : Nat) (f : NetPort → NetPort) : (s.setNet n f).cave = s.cave := (rfl)
@[simp] theorem State.setNet_tp (s : State) (n : Nat) (f : NetPort → NetPort) : (s.setNet n f).tp = s.tp := (rfl)
@[simp] theorem State.setNet_press (s : State) (n : Nat) (f : NetPort → NetPort) : (s.setNet n f).press = s.press := (rfl)
@[simp] theorem State.setNet_drams (s : State) (n : Nat) (f : NetPort → NetPort) : (s.setNet n f).drams = s.drams := (rfl)
@[simp] theorem State.setNet_dramFc (s : State) (n : Nat) (f : NetPort → NetPort) : (s.setNet n f).dramFc = s.dramFc := (rfl)
@[simp] theorem State.setNet_sensors (s : State) (n : Nat) (f : NetPort → NetPort) : (s.setNet n f).sensors = s.sensors := (rfl)
@[simp] theorem State.setNet_ceils (s : State) (n : Nat) (f : NetPort → NetPort) : (s.setNet n f).ceils = s.ceils := (rfl)
@[simp] theorem State.setNet_ptp (s : State) (n : Nat) (f : NetPort → NetPort) : (s.setNet n f).ptp = s.ptp := (rfl)
@[simp] theorem State.setNet_wheel (s : State) (n : Nat) (f : NetPort → NetPort) : (s.setNet n f).wheel = s.wheel := (rfl)
@[simp] theorem State.setNet_auds (s : State) (n : Nat) (f : NetPort → NetPort) : (s.setNet n f).auds = s.auds := (rfl)
@[simp] theorem State.setNet_crcs (s : State) (n : Nat) (f : NetPort → NetPort) : (s.setNet n f).crcs = s.crcs := (rfl)
@[simp] theorem State.setNet_nv (s : State) (n : Nat) (f : NetPort → NetPort) : (s.setNet n f).nv = s.nv := (rfl)
@[simp] theorem State.setNet_upd (s : State) (n : Nat) (f : NetPort → NetPort) : (s.setNet n f).upd = s.upd := (rfl)
@[simp] theorem State.setNet_k24 (s : State) (n : Nat) (f : NetPort → NetPort) : (s.setNet n f).k24 = s.k24 := (rfl)
@[simp] theorem State.setNet_pram (s : State) (n : Nat) (f : NetPort → NetPort) : (s.setNet n f).pram = s.pram := (rfl)
@[simp] theorem State.setNet_out (s : State) (n : Nat) (f : NetPort → NetPort) : (s.setNet n f).out = s.out := (rfl)
@[simp] theorem State.setNet_freeN (s : State) (n : Nat) (f : NetPort → NetPort) : (s.setNet n f).freeN = s.freeN := (rfl)
@[simp] theorem State.setNet_pending (s : State) (n : Nat) (f : NetPort → NetPort) : (s.setNet n f).pending = s.pending := (rfl)
@[simp] theorem State.setNet_rd (s : State) (n : Nat) (f : NetPort → NetPort) (x : Nat) : (s.setNet n f).rd x = s.rd x := (rfl)
@[simp] theorem State.setNet_get (s : State) (n : Nat) (f : NetPort → NetPort) (x : Fld) : (s.setNet n f).get x = s.get x := (rfl)
@[simp] theorem State.setNet_on (s : State) (n : Nat) (f : NetPort → NetPort) (x : Fld) : (s.setNet n f).on x = s.on x := (rfl)
@[simp] theorem State.setNet_getI (s : State) (n : Nat) (f : NetPort → NetPort) (x : Fld) : (s.setNet n f).getI x = s.getI x := (rfl)

/-! ### setAud -/

@[simp] theorem State.setAud_regs (s : State) (n : Nat) (f : Aud → Aud) : (s.setAud n f).regs = s.regs := (rfl)
@[simp] theorem State.setAud_pend (s : State) (n : Nat) (f : Aud → Aud) : (s.setAud n f).pend = s.pend := (rfl)
@[simp] theorem State.setAud_taken (s : State) (n : Nat) (f : Aud → Aud) : (s.setAud n f).taken = s.taken := (rfl)
@[simp] theorem State.setAud_acc (s : State) (n : Nat) (f : Aud → Aud) : (s.setAud n f).acc = s.acc := (rfl)
@[simp] theorem State.setAud_sys (s : State) (n : Nat) (f : Aud → Aud) : (s.setAud n f).sys = s.sys := (rfl)
@[simp] theorem State.setAud_links (s : State) (n : Nat) (f : Aud → Aud) : (s.setAud n f).links = s.links := (rfl)
@[simp] theorem State.setAud_pcie (s : State) (n : Nat) (f : Aud → Aud) : (s.setAud n f).pcie = s.pcie := (rfl)
@[simp] theorem State.setAud_jtag (s : State) (n : Nat) (f : Aud → Aud) : (s.setAud n f).jtag = s.jtag := (rfl)
@[simp] theorem State.setAud_log (s : State) (n : Nat) (f : Aud → Aud) : (s.setAud n f).log = s.log := (rfl)
@[simp] theorem State.setAud_mould (s : State) (n : Nat) (f : Aud → Aud) : (s.setAud n f).mould = s.mould := (rfl)
@[simp] theorem State.setAud_ports (s : State) (n : Nat) (f : Aud → Aud) : (s.setAud n f).ports = s.ports := (rfl)
@[simp] theorem State.setAud_enum (s : State) (n : Nat) (f : Aud → Aud) : (s.setAud n f).enum = s.enum := (rfl)
@[simp] theorem State.setAud_raster (s : State) (n : Nat) (f : Aud → Aud) : (s.setAud n f).raster = s.raster := (rfl)
@[simp] theorem State.setAud_wtg (s : State) (n : Nat) (f : Aud → Aud) : (s.setAud n f).wtg = s.wtg := (rfl)
@[simp] theorem State.setAud_commit (s : State) (n : Nat) (f : Aud → Aud) : (s.setAud n f).commit = s.commit := (rfl)
@[simp] theorem State.setAud_tileRas (s : State) (n : Nat) (f : Aud → Aud) : (s.setAud n f).tileRas = s.tileRas := (rfl)
@[simp] theorem State.setAud_tileRx (s : State) (n : Nat) (f : Aud → Aud) : (s.setAud n f).tileRx = s.tileRx := (rfl)
@[simp] theorem State.setAud_fo (s : State) (n : Nat) (f : Aud → Aud) : (s.setAud n f).fo = s.fo := (rfl)
@[simp] theorem State.setAud_stores (s : State) (n : Nat) (f : Aud → Aud) : (s.setAud n f).stores = s.stores := (rfl)
@[simp] theorem State.setAud_ings (s : State) (n : Nat) (f : Aud → Aud) : (s.setAud n f).ings = s.ings := (rfl)
@[simp] theorem State.setAud_rnds (s : State) (n : Nat) (f : Aud → Aud) : (s.setAud n f).rnds = s.rnds := (rfl)
@[simp] theorem State.setAud_layers (s : State) (n : Nat) (f : Aud → Aud) : (s.setAud n f).layers = s.layers := (rfl)
@[simp] theorem State.setAud_wbs (s : State) (n : Nat) (f : Aud → Aud) : (s.setAud n f).wbs = s.wbs := (rfl)
@[simp] theorem State.setAud_comp (s : State) (n : Nat) (f : Aud → Aud) : (s.setAud n f).comp = s.comp := (rfl)
@[simp] theorem State.setAud_dram (s : State) (n : Nat) (f : Aud → Aud) : (s.setAud n f).dram = s.dram := (rfl)
@[simp] theorem State.setAud_line (s : State) (n : Nat) (f : Aud → Aud) : (s.setAud n f).line = s.line := (rfl)
@[simp] theorem State.setAud_disp (s : State) (n : Nat) (f : Aud → Aud) : (s.setAud n f).disp = s.disp := (rfl)
@[simp] theorem State.setAud_lanes (s : State) (n : Nat) (f : Aud → Aud) : (s.setAud n f).lanes = s.lanes := (rfl)
@[simp] theorem State.setAud_cals (s : State) (n : Nat) (f : Aud → Aud) : (s.setAud n f).cals = s.cals := (rfl)
@[simp] theorem State.setAud_cave (s : State) (n : Nat) (f : Aud → Aud) : (s.setAud n f).cave = s.cave := (rfl)
@[simp] theorem State.setAud_tp (s : State) (n : Nat) (f : Aud → Aud) : (s.setAud n f).tp = s.tp := (rfl)
@[simp] theorem State.setAud_press (s : State) (n : Nat) (f : Aud → Aud) : (s.setAud n f).press = s.press := (rfl)
@[simp] theorem State.setAud_drams (s : State) (n : Nat) (f : Aud → Aud) : (s.setAud n f).drams = s.drams := (rfl)
@[simp] theorem State.setAud_dramFc (s : State) (n : Nat) (f : Aud → Aud) : (s.setAud n f).dramFc = s.dramFc := (rfl)
@[simp] theorem State.setAud_sensors (s : State) (n : Nat) (f : Aud → Aud) : (s.setAud n f).sensors = s.sensors := (rfl)
@[simp] theorem State.setAud_ceils (s : State) (n : Nat) (f : Aud → Aud) : (s.setAud n f).ceils = s.ceils := (rfl)
@[simp] theorem State.setAud_ptp (s : State) (n : Nat) (f : Aud → Aud) : (s.setAud n f).ptp = s.ptp := (rfl)
@[simp] theorem State.setAud_nets (s : State) (n : Nat) (f : Aud → Aud) : (s.setAud n f).nets = s.nets := (rfl)
@[simp] theorem State.setAud_wheel (s : State) (n : Nat) (f : Aud → Aud) : (s.setAud n f).wheel = s.wheel := (rfl)
@[simp] theorem State.setAud_crcs (s : State) (n : Nat) (f : Aud → Aud) : (s.setAud n f).crcs = s.crcs := (rfl)
@[simp] theorem State.setAud_nv (s : State) (n : Nat) (f : Aud → Aud) : (s.setAud n f).nv = s.nv := (rfl)
@[simp] theorem State.setAud_upd (s : State) (n : Nat) (f : Aud → Aud) : (s.setAud n f).upd = s.upd := (rfl)
@[simp] theorem State.setAud_k24 (s : State) (n : Nat) (f : Aud → Aud) : (s.setAud n f).k24 = s.k24 := (rfl)
@[simp] theorem State.setAud_pram (s : State) (n : Nat) (f : Aud → Aud) : (s.setAud n f).pram = s.pram := (rfl)
@[simp] theorem State.setAud_out (s : State) (n : Nat) (f : Aud → Aud) : (s.setAud n f).out = s.out := (rfl)
@[simp] theorem State.setAud_freeN (s : State) (n : Nat) (f : Aud → Aud) : (s.setAud n f).freeN = s.freeN := (rfl)
@[simp] theorem State.setAud_pending (s : State) (n : Nat) (f : Aud → Aud) : (s.setAud n f).pending = s.pending := (rfl)
@[simp] theorem State.setAud_rd (s : State) (n : Nat) (f : Aud → Aud) (x : Nat) : (s.setAud n f).rd x = s.rd x := (rfl)
@[simp] theorem State.setAud_get (s : State) (n : Nat) (f : Aud → Aud) (x : Fld) : (s.setAud n f).get x = s.get x := (rfl)
@[simp] theorem State.setAud_on (s : State) (n : Nat) (f : Aud → Aud) (x : Fld) : (s.setAud n f).on x = s.on x := (rfl)
@[simp] theorem State.setAud_getI (s : State) (n : Nat) (f : Aud → Aud) (x : Fld) : (s.setAud n f).getI x = s.getI x := (rfl)

/-! ### setNv -/

@[simp] theorem State.setNv_regs (s : State) (f : Nv → Nv) : (s.setNv f).regs = s.regs := (rfl)
@[simp] theorem State.setNv_pend (s : State) (f : Nv → Nv) : (s.setNv f).pend = s.pend := (rfl)
@[simp] theorem State.setNv_taken (s : State) (f : Nv → Nv) : (s.setNv f).taken = s.taken := (rfl)
@[simp] theorem State.setNv_acc (s : State) (f : Nv → Nv) : (s.setNv f).acc = s.acc := (rfl)
@[simp] theorem State.setNv_sys (s : State) (f : Nv → Nv) : (s.setNv f).sys = s.sys := (rfl)
@[simp] theorem State.setNv_links (s : State) (f : Nv → Nv) : (s.setNv f).links = s.links := (rfl)
@[simp] theorem State.setNv_pcie (s : State) (f : Nv → Nv) : (s.setNv f).pcie = s.pcie := (rfl)
@[simp] theorem State.setNv_jtag (s : State) (f : Nv → Nv) : (s.setNv f).jtag = s.jtag := (rfl)
@[simp] theorem State.setNv_log (s : State) (f : Nv → Nv) : (s.setNv f).log = s.log := (rfl)
@[simp] theorem State.setNv_mould (s : State) (f : Nv → Nv) : (s.setNv f).mould = s.mould := (rfl)
@[simp] theorem State.setNv_ports (s : State) (f : Nv → Nv) : (s.setNv f).ports = s.ports := (rfl)
@[simp] theorem State.setNv_enum (s : State) (f : Nv → Nv) : (s.setNv f).enum = s.enum := (rfl)
@[simp] theorem State.setNv_raster (s : State) (f : Nv → Nv) : (s.setNv f).raster = s.raster := (rfl)
@[simp] theorem State.setNv_wtg (s : State) (f : Nv → Nv) : (s.setNv f).wtg = s.wtg := (rfl)
@[simp] theorem State.setNv_commit (s : State) (f : Nv → Nv) : (s.setNv f).commit = s.commit := (rfl)
@[simp] theorem State.setNv_tileRas (s : State) (f : Nv → Nv) : (s.setNv f).tileRas = s.tileRas := (rfl)
@[simp] theorem State.setNv_tileRx (s : State) (f : Nv → Nv) : (s.setNv f).tileRx = s.tileRx := (rfl)
@[simp] theorem State.setNv_fo (s : State) (f : Nv → Nv) : (s.setNv f).fo = s.fo := (rfl)
@[simp] theorem State.setNv_stores (s : State) (f : Nv → Nv) : (s.setNv f).stores = s.stores := (rfl)
@[simp] theorem State.setNv_ings (s : State) (f : Nv → Nv) : (s.setNv f).ings = s.ings := (rfl)
@[simp] theorem State.setNv_rnds (s : State) (f : Nv → Nv) : (s.setNv f).rnds = s.rnds := (rfl)
@[simp] theorem State.setNv_layers (s : State) (f : Nv → Nv) : (s.setNv f).layers = s.layers := (rfl)
@[simp] theorem State.setNv_wbs (s : State) (f : Nv → Nv) : (s.setNv f).wbs = s.wbs := (rfl)
@[simp] theorem State.setNv_comp (s : State) (f : Nv → Nv) : (s.setNv f).comp = s.comp := (rfl)
@[simp] theorem State.setNv_dram (s : State) (f : Nv → Nv) : (s.setNv f).dram = s.dram := (rfl)
@[simp] theorem State.setNv_line (s : State) (f : Nv → Nv) : (s.setNv f).line = s.line := (rfl)
@[simp] theorem State.setNv_disp (s : State) (f : Nv → Nv) : (s.setNv f).disp = s.disp := (rfl)
@[simp] theorem State.setNv_lanes (s : State) (f : Nv → Nv) : (s.setNv f).lanes = s.lanes := (rfl)
@[simp] theorem State.setNv_cals (s : State) (f : Nv → Nv) : (s.setNv f).cals = s.cals := (rfl)
@[simp] theorem State.setNv_cave (s : State) (f : Nv → Nv) : (s.setNv f).cave = s.cave := (rfl)
@[simp] theorem State.setNv_tp (s : State) (f : Nv → Nv) : (s.setNv f).tp = s.tp := (rfl)
@[simp] theorem State.setNv_press (s : State) (f : Nv → Nv) : (s.setNv f).press = s.press := (rfl)
@[simp] theorem State.setNv_drams (s : State) (f : Nv → Nv) : (s.setNv f).drams = s.drams := (rfl)
@[simp] theorem State.setNv_dramFc (s : State) (f : Nv → Nv) : (s.setNv f).dramFc = s.dramFc := (rfl)
@[simp] theorem State.setNv_sensors (s : State) (f : Nv → Nv) : (s.setNv f).sensors = s.sensors := (rfl)
@[simp] theorem State.setNv_ceils (s : State) (f : Nv → Nv) : (s.setNv f).ceils = s.ceils := (rfl)
@[simp] theorem State.setNv_ptp (s : State) (f : Nv → Nv) : (s.setNv f).ptp = s.ptp := (rfl)
@[simp] theorem State.setNv_nets (s : State) (f : Nv → Nv) : (s.setNv f).nets = s.nets := (rfl)
@[simp] theorem State.setNv_wheel (s : State) (f : Nv → Nv) : (s.setNv f).wheel = s.wheel := (rfl)
@[simp] theorem State.setNv_auds (s : State) (f : Nv → Nv) : (s.setNv f).auds = s.auds := (rfl)
@[simp] theorem State.setNv_crcs (s : State) (f : Nv → Nv) : (s.setNv f).crcs = s.crcs := (rfl)
@[simp] theorem State.setNv_upd (s : State) (f : Nv → Nv) : (s.setNv f).upd = s.upd := (rfl)
@[simp] theorem State.setNv_k24 (s : State) (f : Nv → Nv) : (s.setNv f).k24 = s.k24 := (rfl)
@[simp] theorem State.setNv_pram (s : State) (f : Nv → Nv) : (s.setNv f).pram = s.pram := (rfl)
@[simp] theorem State.setNv_out (s : State) (f : Nv → Nv) : (s.setNv f).out = s.out := (rfl)
@[simp] theorem State.setNv_freeN (s : State) (f : Nv → Nv) : (s.setNv f).freeN = s.freeN := (rfl)
@[simp] theorem State.setNv_pending (s : State) (f : Nv → Nv) : (s.setNv f).pending = s.pending := (rfl)
@[simp] theorem State.setNv_rd (s : State) (f : Nv → Nv) (x : Nat) : (s.setNv f).rd x = s.rd x := (rfl)
@[simp] theorem State.setNv_get (s : State) (f : Nv → Nv) (x : Fld) : (s.setNv f).get x = s.get x := (rfl)
@[simp] theorem State.setNv_on (s : State) (f : Nv → Nv) (x : Fld) : (s.setNv f).on x = s.on x := (rfl)
@[simp] theorem State.setNv_getI (s : State) (f : Nv → Nv) (x : Fld) : (s.setNv f).getI x = s.getI x := (rfl)

/-! ### setUpd -/

@[simp] theorem State.setUpd_regs (s : State) (f : Upd → Upd) : (s.setUpd f).regs = s.regs := (rfl)
@[simp] theorem State.setUpd_pend (s : State) (f : Upd → Upd) : (s.setUpd f).pend = s.pend := (rfl)
@[simp] theorem State.setUpd_taken (s : State) (f : Upd → Upd) : (s.setUpd f).taken = s.taken := (rfl)
@[simp] theorem State.setUpd_acc (s : State) (f : Upd → Upd) : (s.setUpd f).acc = s.acc := (rfl)
@[simp] theorem State.setUpd_sys (s : State) (f : Upd → Upd) : (s.setUpd f).sys = s.sys := (rfl)
@[simp] theorem State.setUpd_links (s : State) (f : Upd → Upd) : (s.setUpd f).links = s.links := (rfl)
@[simp] theorem State.setUpd_pcie (s : State) (f : Upd → Upd) : (s.setUpd f).pcie = s.pcie := (rfl)
@[simp] theorem State.setUpd_jtag (s : State) (f : Upd → Upd) : (s.setUpd f).jtag = s.jtag := (rfl)
@[simp] theorem State.setUpd_log (s : State) (f : Upd → Upd) : (s.setUpd f).log = s.log := (rfl)
@[simp] theorem State.setUpd_mould (s : State) (f : Upd → Upd) : (s.setUpd f).mould = s.mould := (rfl)
@[simp] theorem State.setUpd_ports (s : State) (f : Upd → Upd) : (s.setUpd f).ports = s.ports := (rfl)
@[simp] theorem State.setUpd_enum (s : State) (f : Upd → Upd) : (s.setUpd f).enum = s.enum := (rfl)
@[simp] theorem State.setUpd_raster (s : State) (f : Upd → Upd) : (s.setUpd f).raster = s.raster := (rfl)
@[simp] theorem State.setUpd_wtg (s : State) (f : Upd → Upd) : (s.setUpd f).wtg = s.wtg := (rfl)
@[simp] theorem State.setUpd_commit (s : State) (f : Upd → Upd) : (s.setUpd f).commit = s.commit := (rfl)
@[simp] theorem State.setUpd_tileRas (s : State) (f : Upd → Upd) : (s.setUpd f).tileRas = s.tileRas := (rfl)
@[simp] theorem State.setUpd_tileRx (s : State) (f : Upd → Upd) : (s.setUpd f).tileRx = s.tileRx := (rfl)
@[simp] theorem State.setUpd_fo (s : State) (f : Upd → Upd) : (s.setUpd f).fo = s.fo := (rfl)
@[simp] theorem State.setUpd_stores (s : State) (f : Upd → Upd) : (s.setUpd f).stores = s.stores := (rfl)
@[simp] theorem State.setUpd_ings (s : State) (f : Upd → Upd) : (s.setUpd f).ings = s.ings := (rfl)
@[simp] theorem State.setUpd_rnds (s : State) (f : Upd → Upd) : (s.setUpd f).rnds = s.rnds := (rfl)
@[simp] theorem State.setUpd_layers (s : State) (f : Upd → Upd) : (s.setUpd f).layers = s.layers := (rfl)
@[simp] theorem State.setUpd_wbs (s : State) (f : Upd → Upd) : (s.setUpd f).wbs = s.wbs := (rfl)
@[simp] theorem State.setUpd_comp (s : State) (f : Upd → Upd) : (s.setUpd f).comp = s.comp := (rfl)
@[simp] theorem State.setUpd_dram (s : State) (f : Upd → Upd) : (s.setUpd f).dram = s.dram := (rfl)
@[simp] theorem State.setUpd_line (s : State) (f : Upd → Upd) : (s.setUpd f).line = s.line := (rfl)
@[simp] theorem State.setUpd_disp (s : State) (f : Upd → Upd) : (s.setUpd f).disp = s.disp := (rfl)
@[simp] theorem State.setUpd_lanes (s : State) (f : Upd → Upd) : (s.setUpd f).lanes = s.lanes := (rfl)
@[simp] theorem State.setUpd_cals (s : State) (f : Upd → Upd) : (s.setUpd f).cals = s.cals := (rfl)
@[simp] theorem State.setUpd_cave (s : State) (f : Upd → Upd) : (s.setUpd f).cave = s.cave := (rfl)
@[simp] theorem State.setUpd_tp (s : State) (f : Upd → Upd) : (s.setUpd f).tp = s.tp := (rfl)
@[simp] theorem State.setUpd_press (s : State) (f : Upd → Upd) : (s.setUpd f).press = s.press := (rfl)
@[simp] theorem State.setUpd_drams (s : State) (f : Upd → Upd) : (s.setUpd f).drams = s.drams := (rfl)
@[simp] theorem State.setUpd_dramFc (s : State) (f : Upd → Upd) : (s.setUpd f).dramFc = s.dramFc := (rfl)
@[simp] theorem State.setUpd_sensors (s : State) (f : Upd → Upd) : (s.setUpd f).sensors = s.sensors := (rfl)
@[simp] theorem State.setUpd_ceils (s : State) (f : Upd → Upd) : (s.setUpd f).ceils = s.ceils := (rfl)
@[simp] theorem State.setUpd_ptp (s : State) (f : Upd → Upd) : (s.setUpd f).ptp = s.ptp := (rfl)
@[simp] theorem State.setUpd_nets (s : State) (f : Upd → Upd) : (s.setUpd f).nets = s.nets := (rfl)
@[simp] theorem State.setUpd_wheel (s : State) (f : Upd → Upd) : (s.setUpd f).wheel = s.wheel := (rfl)
@[simp] theorem State.setUpd_auds (s : State) (f : Upd → Upd) : (s.setUpd f).auds = s.auds := (rfl)
@[simp] theorem State.setUpd_crcs (s : State) (f : Upd → Upd) : (s.setUpd f).crcs = s.crcs := (rfl)
@[simp] theorem State.setUpd_nv (s : State) (f : Upd → Upd) : (s.setUpd f).nv = s.nv := (rfl)
@[simp] theorem State.setUpd_k24 (s : State) (f : Upd → Upd) : (s.setUpd f).k24 = s.k24 := (rfl)
@[simp] theorem State.setUpd_pram (s : State) (f : Upd → Upd) : (s.setUpd f).pram = s.pram := (rfl)
@[simp] theorem State.setUpd_out (s : State) (f : Upd → Upd) : (s.setUpd f).out = s.out := (rfl)
@[simp] theorem State.setUpd_freeN (s : State) (f : Upd → Upd) : (s.setUpd f).freeN = s.freeN := (rfl)
@[simp] theorem State.setUpd_pending (s : State) (f : Upd → Upd) : (s.setUpd f).pending = s.pending := (rfl)
@[simp] theorem State.setUpd_rd (s : State) (f : Upd → Upd) (x : Nat) : (s.setUpd f).rd x = s.rd x := (rfl)
@[simp] theorem State.setUpd_get (s : State) (f : Upd → Upd) (x : Fld) : (s.setUpd f).get x = s.get x := (rfl)
@[simp] theorem State.setUpd_on (s : State) (f : Upd → Upd) (x : Fld) : (s.setUpd f).on x = s.on x := (rfl)
@[simp] theorem State.setUpd_getI (s : State) (f : Upd → Upd) (x : Fld) : (s.setUpd f).getI x = s.getI x := (rfl)

/-! ### setK24 -/

@[simp] theorem State.setK24_regs (s : State) (f : K24 → K24) : (s.setK24 f).regs = s.regs := (rfl)
@[simp] theorem State.setK24_pend (s : State) (f : K24 → K24) : (s.setK24 f).pend = s.pend := (rfl)
@[simp] theorem State.setK24_taken (s : State) (f : K24 → K24) : (s.setK24 f).taken = s.taken := (rfl)
@[simp] theorem State.setK24_acc (s : State) (f : K24 → K24) : (s.setK24 f).acc = s.acc := (rfl)
@[simp] theorem State.setK24_sys (s : State) (f : K24 → K24) : (s.setK24 f).sys = s.sys := (rfl)
@[simp] theorem State.setK24_links (s : State) (f : K24 → K24) : (s.setK24 f).links = s.links := (rfl)
@[simp] theorem State.setK24_pcie (s : State) (f : K24 → K24) : (s.setK24 f).pcie = s.pcie := (rfl)
@[simp] theorem State.setK24_jtag (s : State) (f : K24 → K24) : (s.setK24 f).jtag = s.jtag := (rfl)
@[simp] theorem State.setK24_log (s : State) (f : K24 → K24) : (s.setK24 f).log = s.log := (rfl)
@[simp] theorem State.setK24_mould (s : State) (f : K24 → K24) : (s.setK24 f).mould = s.mould := (rfl)
@[simp] theorem State.setK24_ports (s : State) (f : K24 → K24) : (s.setK24 f).ports = s.ports := (rfl)
@[simp] theorem State.setK24_enum (s : State) (f : K24 → K24) : (s.setK24 f).enum = s.enum := (rfl)
@[simp] theorem State.setK24_raster (s : State) (f : K24 → K24) : (s.setK24 f).raster = s.raster := (rfl)
@[simp] theorem State.setK24_wtg (s : State) (f : K24 → K24) : (s.setK24 f).wtg = s.wtg := (rfl)
@[simp] theorem State.setK24_commit (s : State) (f : K24 → K24) : (s.setK24 f).commit = s.commit := (rfl)
@[simp] theorem State.setK24_tileRas (s : State) (f : K24 → K24) : (s.setK24 f).tileRas = s.tileRas := (rfl)
@[simp] theorem State.setK24_tileRx (s : State) (f : K24 → K24) : (s.setK24 f).tileRx = s.tileRx := (rfl)
@[simp] theorem State.setK24_fo (s : State) (f : K24 → K24) : (s.setK24 f).fo = s.fo := (rfl)
@[simp] theorem State.setK24_stores (s : State) (f : K24 → K24) : (s.setK24 f).stores = s.stores := (rfl)
@[simp] theorem State.setK24_ings (s : State) (f : K24 → K24) : (s.setK24 f).ings = s.ings := (rfl)
@[simp] theorem State.setK24_rnds (s : State) (f : K24 → K24) : (s.setK24 f).rnds = s.rnds := (rfl)
@[simp] theorem State.setK24_layers (s : State) (f : K24 → K24) : (s.setK24 f).layers = s.layers := (rfl)
@[simp] theorem State.setK24_wbs (s : State) (f : K24 → K24) : (s.setK24 f).wbs = s.wbs := (rfl)
@[simp] theorem State.setK24_comp (s : State) (f : K24 → K24) : (s.setK24 f).comp = s.comp := (rfl)
@[simp] theorem State.setK24_dram (s : State) (f : K24 → K24) : (s.setK24 f).dram = s.dram := (rfl)
@[simp] theorem State.setK24_line (s : State) (f : K24 → K24) : (s.setK24 f).line = s.line := (rfl)
@[simp] theorem State.setK24_disp (s : State) (f : K24 → K24) : (s.setK24 f).disp = s.disp := (rfl)
@[simp] theorem State.setK24_lanes (s : State) (f : K24 → K24) : (s.setK24 f).lanes = s.lanes := (rfl)
@[simp] theorem State.setK24_cals (s : State) (f : K24 → K24) : (s.setK24 f).cals = s.cals := (rfl)
@[simp] theorem State.setK24_cave (s : State) (f : K24 → K24) : (s.setK24 f).cave = s.cave := (rfl)
@[simp] theorem State.setK24_tp (s : State) (f : K24 → K24) : (s.setK24 f).tp = s.tp := (rfl)
@[simp] theorem State.setK24_press (s : State) (f : K24 → K24) : (s.setK24 f).press = s.press := (rfl)
@[simp] theorem State.setK24_drams (s : State) (f : K24 → K24) : (s.setK24 f).drams = s.drams := (rfl)
@[simp] theorem State.setK24_dramFc (s : State) (f : K24 → K24) : (s.setK24 f).dramFc = s.dramFc := (rfl)
@[simp] theorem State.setK24_sensors (s : State) (f : K24 → K24) : (s.setK24 f).sensors = s.sensors := (rfl)
@[simp] theorem State.setK24_ceils (s : State) (f : K24 → K24) : (s.setK24 f).ceils = s.ceils := (rfl)
@[simp] theorem State.setK24_ptp (s : State) (f : K24 → K24) : (s.setK24 f).ptp = s.ptp := (rfl)
@[simp] theorem State.setK24_nets (s : State) (f : K24 → K24) : (s.setK24 f).nets = s.nets := (rfl)
@[simp] theorem State.setK24_wheel (s : State) (f : K24 → K24) : (s.setK24 f).wheel = s.wheel := (rfl)
@[simp] theorem State.setK24_auds (s : State) (f : K24 → K24) : (s.setK24 f).auds = s.auds := (rfl)
@[simp] theorem State.setK24_crcs (s : State) (f : K24 → K24) : (s.setK24 f).crcs = s.crcs := (rfl)
@[simp] theorem State.setK24_nv (s : State) (f : K24 → K24) : (s.setK24 f).nv = s.nv := (rfl)
@[simp] theorem State.setK24_upd (s : State) (f : K24 → K24) : (s.setK24 f).upd = s.upd := (rfl)
@[simp] theorem State.setK24_pram (s : State) (f : K24 → K24) : (s.setK24 f).pram = s.pram := (rfl)
@[simp] theorem State.setK24_out (s : State) (f : K24 → K24) : (s.setK24 f).out = s.out := (rfl)
@[simp] theorem State.setK24_freeN (s : State) (f : K24 → K24) : (s.setK24 f).freeN = s.freeN := (rfl)
@[simp] theorem State.setK24_pending (s : State) (f : K24 → K24) : (s.setK24 f).pending = s.pending := (rfl)
@[simp] theorem State.setK24_rd (s : State) (f : K24 → K24) (x : Nat) : (s.setK24 f).rd x = s.rd x := (rfl)
@[simp] theorem State.setK24_get (s : State) (f : K24 → K24) (x : Fld) : (s.setK24 f).get x = s.get x := (rfl)
@[simp] theorem State.setK24_on (s : State) (f : K24 → K24) (x : Fld) : (s.setK24 f).on x = s.on x := (rfl)
@[simp] theorem State.setK24_getI (s : State) (f : K24 → K24) (x : Fld) : (s.setK24 f).getI x = s.getI x := (rfl)

/-! ### setPbyte -/

@[simp] theorem State.setPbyte_regs (s : State) (a : Nat) (b : Byte) : (s.setPbyte a b).regs = s.regs := (rfl)
@[simp] theorem State.setPbyte_pend (s : State) (a : Nat) (b : Byte) : (s.setPbyte a b).pend = s.pend := (rfl)
@[simp] theorem State.setPbyte_taken (s : State) (a : Nat) (b : Byte) : (s.setPbyte a b).taken = s.taken := (rfl)
@[simp] theorem State.setPbyte_acc (s : State) (a : Nat) (b : Byte) : (s.setPbyte a b).acc = s.acc := (rfl)
@[simp] theorem State.setPbyte_sys (s : State) (a : Nat) (b : Byte) : (s.setPbyte a b).sys = s.sys := (rfl)
@[simp] theorem State.setPbyte_links (s : State) (a : Nat) (b : Byte) : (s.setPbyte a b).links = s.links := (rfl)
@[simp] theorem State.setPbyte_pcie (s : State) (a : Nat) (b : Byte) : (s.setPbyte a b).pcie = s.pcie := (rfl)
@[simp] theorem State.setPbyte_jtag (s : State) (a : Nat) (b : Byte) : (s.setPbyte a b).jtag = s.jtag := (rfl)
@[simp] theorem State.setPbyte_log (s : State) (a : Nat) (b : Byte) : (s.setPbyte a b).log = s.log := (rfl)
@[simp] theorem State.setPbyte_mould (s : State) (a : Nat) (b : Byte) : (s.setPbyte a b).mould = s.mould := (rfl)
@[simp] theorem State.setPbyte_ports (s : State) (a : Nat) (b : Byte) : (s.setPbyte a b).ports = s.ports := (rfl)
@[simp] theorem State.setPbyte_enum (s : State) (a : Nat) (b : Byte) : (s.setPbyte a b).enum = s.enum := (rfl)
@[simp] theorem State.setPbyte_raster (s : State) (a : Nat) (b : Byte) : (s.setPbyte a b).raster = s.raster := (rfl)
@[simp] theorem State.setPbyte_wtg (s : State) (a : Nat) (b : Byte) : (s.setPbyte a b).wtg = s.wtg := (rfl)
@[simp] theorem State.setPbyte_commit (s : State) (a : Nat) (b : Byte) : (s.setPbyte a b).commit = s.commit := (rfl)
@[simp] theorem State.setPbyte_tileRas (s : State) (a : Nat) (b : Byte) : (s.setPbyte a b).tileRas = s.tileRas := (rfl)
@[simp] theorem State.setPbyte_tileRx (s : State) (a : Nat) (b : Byte) : (s.setPbyte a b).tileRx = s.tileRx := (rfl)
@[simp] theorem State.setPbyte_fo (s : State) (a : Nat) (b : Byte) : (s.setPbyte a b).fo = s.fo := (rfl)
@[simp] theorem State.setPbyte_stores (s : State) (a : Nat) (b : Byte) : (s.setPbyte a b).stores = s.stores := (rfl)
@[simp] theorem State.setPbyte_ings (s : State) (a : Nat) (b : Byte) : (s.setPbyte a b).ings = s.ings := (rfl)
@[simp] theorem State.setPbyte_rnds (s : State) (a : Nat) (b : Byte) : (s.setPbyte a b).rnds = s.rnds := (rfl)
@[simp] theorem State.setPbyte_layers (s : State) (a : Nat) (b : Byte) : (s.setPbyte a b).layers = s.layers := (rfl)
@[simp] theorem State.setPbyte_wbs (s : State) (a : Nat) (b : Byte) : (s.setPbyte a b).wbs = s.wbs := (rfl)
@[simp] theorem State.setPbyte_comp (s : State) (a : Nat) (b : Byte) : (s.setPbyte a b).comp = s.comp := (rfl)
@[simp] theorem State.setPbyte_dram (s : State) (a : Nat) (b : Byte) : (s.setPbyte a b).dram = s.dram := (rfl)
@[simp] theorem State.setPbyte_line (s : State) (a : Nat) (b : Byte) : (s.setPbyte a b).line = s.line := (rfl)
@[simp] theorem State.setPbyte_disp (s : State) (a : Nat) (b : Byte) : (s.setPbyte a b).disp = s.disp := (rfl)
@[simp] theorem State.setPbyte_lanes (s : State) (a : Nat) (b : Byte) : (s.setPbyte a b).lanes = s.lanes := (rfl)
@[simp] theorem State.setPbyte_cals (s : State) (a : Nat) (b : Byte) : (s.setPbyte a b).cals = s.cals := (rfl)
@[simp] theorem State.setPbyte_cave (s : State) (a : Nat) (b : Byte) : (s.setPbyte a b).cave = s.cave := (rfl)
@[simp] theorem State.setPbyte_tp (s : State) (a : Nat) (b : Byte) : (s.setPbyte a b).tp = s.tp := (rfl)
@[simp] theorem State.setPbyte_press (s : State) (a : Nat) (b : Byte) : (s.setPbyte a b).press = s.press := (rfl)
@[simp] theorem State.setPbyte_drams (s : State) (a : Nat) (b : Byte) : (s.setPbyte a b).drams = s.drams := (rfl)
@[simp] theorem State.setPbyte_dramFc (s : State) (a : Nat) (b : Byte) : (s.setPbyte a b).dramFc = s.dramFc := (rfl)
@[simp] theorem State.setPbyte_sensors (s : State) (a : Nat) (b : Byte) : (s.setPbyte a b).sensors = s.sensors := (rfl)
@[simp] theorem State.setPbyte_ceils (s : State) (a : Nat) (b : Byte) : (s.setPbyte a b).ceils = s.ceils := (rfl)
@[simp] theorem State.setPbyte_ptp (s : State) (a : Nat) (b : Byte) : (s.setPbyte a b).ptp = s.ptp := (rfl)
@[simp] theorem State.setPbyte_nets (s : State) (a : Nat) (b : Byte) : (s.setPbyte a b).nets = s.nets := (rfl)
@[simp] theorem State.setPbyte_wheel (s : State) (a : Nat) (b : Byte) : (s.setPbyte a b).wheel = s.wheel := (rfl)
@[simp] theorem State.setPbyte_auds (s : State) (a : Nat) (b : Byte) : (s.setPbyte a b).auds = s.auds := (rfl)
@[simp] theorem State.setPbyte_crcs (s : State) (a : Nat) (b : Byte) : (s.setPbyte a b).crcs = s.crcs := (rfl)
@[simp] theorem State.setPbyte_nv (s : State) (a : Nat) (b : Byte) : (s.setPbyte a b).nv = s.nv := (rfl)
@[simp] theorem State.setPbyte_upd (s : State) (a : Nat) (b : Byte) : (s.setPbyte a b).upd = s.upd := (rfl)
@[simp] theorem State.setPbyte_k24 (s : State) (a : Nat) (b : Byte) : (s.setPbyte a b).k24 = s.k24 := (rfl)
@[simp] theorem State.setPbyte_out (s : State) (a : Nat) (b : Byte) : (s.setPbyte a b).out = s.out := (rfl)
@[simp] theorem State.setPbyte_freeN (s : State) (a : Nat) (b : Byte) : (s.setPbyte a b).freeN = s.freeN := (rfl)
@[simp] theorem State.setPbyte_pending (s : State) (a : Nat) (b : Byte) : (s.setPbyte a b).pending = s.pending := (rfl)
@[simp] theorem State.setPbyte_rd (s : State) (a : Nat) (b : Byte) (x : Nat) : (s.setPbyte a b).rd x = s.rd x := (rfl)
@[simp] theorem State.setPbyte_get (s : State) (a : Nat) (b : Byte) (x : Fld) : (s.setPbyte a b).get x = s.get x := (rfl)
@[simp] theorem State.setPbyte_on (s : State) (a : Nat) (b : Byte) (x : Fld) : (s.setPbyte a b).on x = s.on x := (rfl)
@[simp] theorem State.setPbyte_getI (s : State) (a : Nat) (b : Byte) (x : Fld) : (s.setPbyte a b).getI x = s.getI x := (rfl)

/-! ### fresh -/

@[simp] theorem State.fresh_regs (s : State) : (s.fresh).regs = s.regs := (rfl)
@[simp] theorem State.fresh_pend (s : State) : (s.fresh).pend = s.pend := (rfl)
@[simp] theorem State.fresh_taken (s : State) : (s.fresh).taken = s.taken := (rfl)
@[simp] theorem State.fresh_sys (s : State) : (s.fresh).sys = s.sys := (rfl)
@[simp] theorem State.fresh_links (s : State) : (s.fresh).links = s.links := (rfl)
@[simp] theorem State.fresh_pcie (s : State) : (s.fresh).pcie = s.pcie := (rfl)
@[simp] theorem State.fresh_jtag (s : State) : (s.fresh).jtag = s.jtag := (rfl)
@[simp] theorem State.fresh_log (s : State) : (s.fresh).log = s.log := (rfl)
@[simp] theorem State.fresh_mould (s : State) : (s.fresh).mould = s.mould := (rfl)
@[simp] theorem State.fresh_ports (s : State) : (s.fresh).ports = s.ports := (rfl)
@[simp] theorem State.fresh_enum (s : State) : (s.fresh).enum = s.enum := (rfl)
@[simp] theorem State.fresh_raster (s : State) : (s.fresh).raster = s.raster := (rfl)
@[simp] theorem State.fresh_wtg (s : State) : (s.fresh).wtg = s.wtg := (rfl)
@[simp] theorem State.fresh_commit (s : State) : (s.fresh).commit = s.commit := (rfl)
@[simp] theorem State.fresh_tileRas (s : State) : (s.fresh).tileRas = s.tileRas := (rfl)
@[simp] theorem State.fresh_tileRx (s : State) : (s.fresh).tileRx = s.tileRx := (rfl)
@[simp] theorem State.fresh_fo (s : State) : (s.fresh).fo = s.fo := (rfl)
@[simp] theorem State.fresh_stores (s : State) : (s.fresh).stores = s.stores := (rfl)
@[simp] theorem State.fresh_ings (s : State) : (s.fresh).ings = s.ings := (rfl)
@[simp] theorem State.fresh_rnds (s : State) : (s.fresh).rnds = s.rnds := (rfl)
@[simp] theorem State.fresh_layers (s : State) : (s.fresh).layers = s.layers := (rfl)
@[simp] theorem State.fresh_wbs (s : State) : (s.fresh).wbs = s.wbs := (rfl)
@[simp] theorem State.fresh_comp (s : State) : (s.fresh).comp = s.comp := (rfl)
@[simp] theorem State.fresh_dram (s : State) : (s.fresh).dram = s.dram := (rfl)
@[simp] theorem State.fresh_disp (s : State) : (s.fresh).disp = s.disp := (rfl)
@[simp] theorem State.fresh_lanes (s : State) : (s.fresh).lanes = s.lanes := (rfl)
@[simp] theorem State.fresh_cals (s : State) : (s.fresh).cals = s.cals := (rfl)
@[simp] theorem State.fresh_cave (s : State) : (s.fresh).cave = s.cave := (rfl)
@[simp] theorem State.fresh_tp (s : State) : (s.fresh).tp = s.tp := (rfl)
@[simp] theorem State.fresh_press (s : State) : (s.fresh).press = s.press := (rfl)
@[simp] theorem State.fresh_drams (s : State) : (s.fresh).drams = s.drams := (rfl)
@[simp] theorem State.fresh_dramFc (s : State) : (s.fresh).dramFc = s.dramFc := (rfl)
@[simp] theorem State.fresh_sensors (s : State) : (s.fresh).sensors = s.sensors := (rfl)
@[simp] theorem State.fresh_ceils (s : State) : (s.fresh).ceils = s.ceils := (rfl)
@[simp] theorem State.fresh_ptp (s : State) : (s.fresh).ptp = s.ptp := (rfl)
@[simp] theorem State.fresh_nets (s : State) : (s.fresh).nets = s.nets := (rfl)
@[simp] theorem State.fresh_wheel (s : State) : (s.fresh).wheel = s.wheel := (rfl)
@[simp] theorem State.fresh_auds (s : State) : (s.fresh).auds = s.auds := (rfl)
@[simp] theorem State.fresh_crcs (s : State) : (s.fresh).crcs = s.crcs := (rfl)
@[simp] theorem State.fresh_nv (s : State) : (s.fresh).nv = s.nv := (rfl)
@[simp] theorem State.fresh_upd (s : State) : (s.fresh).upd = s.upd := (rfl)
@[simp] theorem State.fresh_k24 (s : State) : (s.fresh).k24 = s.k24 := (rfl)
@[simp] theorem State.fresh_pram (s : State) : (s.fresh).pram = s.pram := (rfl)
@[simp] theorem State.fresh_freeN (s : State) : (s.fresh).freeN = s.freeN := (rfl)
@[simp] theorem State.fresh_pending (s : State) : (s.fresh).pending = s.pending := (rfl)
@[simp] theorem State.fresh_rd (s : State) (x : Nat) : (s.fresh).rd x = s.rd x := (rfl)
@[simp] theorem State.fresh_get (s : State) (x : Fld) : (s.fresh).get x = s.get x := (rfl)
@[simp] theorem State.fresh_on (s : State) (x : Fld) : (s.fresh).on x = s.on x := (rfl)
@[simp] theorem State.fresh_getI (s : State) (x : Fld) : (s.fresh).getI x = s.getI x := (rfl)

/-! ### settle -/

@[simp] theorem settle_regs (s : State) : (settle s).regs = s.regs := (rfl)
@[simp] theorem settle_pend (s : State) : (settle s).pend = s.pend := (rfl)
@[simp] theorem settle_taken (s : State) : (settle s).taken = s.taken := (rfl)
@[simp] theorem settle_acc (s : State) : (settle s).acc = s.acc := (rfl)
@[simp] theorem settle_sys (s : State) : (settle s).sys = s.sys := (rfl)
@[simp] theorem settle_links (s : State) : (settle s).links = s.links := (rfl)
@[simp] theorem settle_jtag (s : State) : (settle s).jtag = s.jtag := (rfl)
@[simp] theorem settle_log (s : State) : (settle s).log = s.log := (rfl)
@[simp] theorem settle_mould (s : State) : (settle s).mould = s.mould := (rfl)
@[simp] theorem settle_ports (s : State) : (settle s).ports = s.ports := (rfl)
@[simp] theorem settle_enum (s : State) : (settle s).enum = s.enum := (rfl)
@[simp] theorem settle_raster (s : State) : (settle s).raster = s.raster := (rfl)
@[simp] theorem settle_wtg (s : State) : (settle s).wtg = s.wtg := (rfl)
@[simp] theorem settle_commit (s : State) : (settle s).commit = s.commit := (rfl)
@[simp] theorem settle_tileRas (s : State) : (settle s).tileRas = s.tileRas := (rfl)
@[simp] theorem settle_tileRx (s : State) : (settle s).tileRx = s.tileRx := (rfl)
@[simp] theorem settle_fo (s : State) : (settle s).fo = s.fo := (rfl)
@[simp] theorem settle_stores (s : State) : (settle s).stores = s.stores := (rfl)
@[simp] theorem settle_ings (s : State) : (settle s).ings = s.ings := (rfl)
@[simp] theorem settle_rnds (s : State) : (settle s).rnds = s.rnds := (rfl)
@[simp] theorem settle_layers (s : State) : (settle s).layers = s.layers := (rfl)
@[simp] theorem settle_wbs (s : State) : (settle s).wbs = s.wbs := (rfl)
@[simp] theorem settle_comp (s : State) : (settle s).comp = s.comp := (rfl)
@[simp] theorem settle_dram (s : State) : (settle s).dram = s.dram := (rfl)
@[simp] theorem settle_lanes (s : State) : (settle s).lanes = s.lanes := (rfl)
@[simp] theorem settle_cals (s : State) : (settle s).cals = s.cals := (rfl)
@[simp] theorem settle_cave (s : State) : (settle s).cave = s.cave := (rfl)
@[simp] theorem settle_tp (s : State) : (settle s).tp = s.tp := (rfl)
@[simp] theorem settle_press (s : State) : (settle s).press = s.press := (rfl)
@[simp] theorem settle_drams (s : State) : (settle s).drams = s.drams := (rfl)
@[simp] theorem settle_dramFc (s : State) : (settle s).dramFc = s.dramFc := (rfl)
@[simp] theorem settle_sensors (s : State) : (settle s).sensors = s.sensors := (rfl)
@[simp] theorem settle_ceils (s : State) : (settle s).ceils = s.ceils := (rfl)
@[simp] theorem settle_ptp (s : State) : (settle s).ptp = s.ptp := (rfl)
@[simp] theorem settle_nets (s : State) : (settle s).nets = s.nets := (rfl)
@[simp] theorem settle_wheel (s : State) : (settle s).wheel = s.wheel := (rfl)
@[simp] theorem settle_auds (s : State) : (settle s).auds = s.auds := (rfl)
@[simp] theorem settle_crcs (s : State) : (settle s).crcs = s.crcs := (rfl)
@[simp] theorem settle_nv (s : State) : (settle s).nv = s.nv := (rfl)
@[simp] theorem settle_upd (s : State) : (settle s).upd = s.upd := (rfl)
@[simp] theorem settle_k24 (s : State) : (settle s).k24 = s.k24 := (rfl)
@[simp] theorem settle_pram (s : State) : (settle s).pram = s.pram := (rfl)
@[simp] theorem settle_out (s : State) : (settle s).out = s.out := (rfl)
@[simp] theorem settle_freeN (s : State) : (settle s).freeN = s.freeN := (rfl)
@[simp] theorem settle_pending (s : State) : (settle s).pending = s.pending := (rfl)
@[simp] theorem settle_rd (s : State) (x : Nat) : (settle s).rd x = s.rd x := (rfl)
@[simp] theorem settle_get (s : State) (x : Fld) : (settle s).get x = s.get x := (rfl)
@[simp] theorem settle_on (s : State) (x : Fld) : (settle s).on x = s.on x := (rfl)
@[simp] theorem settle_getI (s : State) (x : Fld) : (settle s).getI x = s.getI x := (rfl)

/-! ### The records that are tables -/

theorem State.port_setPort (s : State) (p q : Nat) (f : Port → Port) :
    (s.setPort p f).port q = if q = p then f (s.port p) else s.port q := Tab.get_set (fun _ => ({} : Port)) p (f (s.port p)) s.ports q
theorem State.ln_setLn (s : State) (n m : Nat) (f : Lane → Lane) :
    (s.setLn n f).lane m = if m = n then f (s.lane n) else s.lane m := Tab.get_set (fun _ => ({} : Lane)) n (f (s.lane n)) s.lanes m
theorem State.cal_setCal (s : State) (g h : Nat) (f : Cal → Cal) :
    (s.setCal g f).cal h = if h = g then f (s.cal g) else s.cal h := Tab.get_set (fun _ => ({} : Cal)) g (f (s.cal g)) s.cals h
theorem State.net_setNet (s : State) (n m : Nat) (f : NetPort → NetPort) :
    (s.setNet n f).net m = if m = n then f (s.net n) else s.net m := Tab.get_set (fun _ => ({} : NetPort)) n (f (s.net n)) s.nets m
theorem State.aud_setAud (s : State) (n m : Nat) (f : Aud → Aud) :
    (s.setAud n f).aud m = if m = n then f (s.aud n) else s.aud m := Tab.get_set (fun _ => ({} : Aud)) n (f (s.aud n)) s.auds m
theorem State.dramCh_setDramCh (s : State) (c d : Nat) (f : DramCh → DramCh) :
    (s.setDramCh c f).dramCh d = if d = c then f (s.dramCh c) else s.dramCh d := Tab.get_set (fun _ => ({} : DramCh)) c (f (s.dramCh c)) s.drams d

end Sys2Proof.Machine
end

