-- ==== Sys2Proof/Laws/Fresh.lean ====
section
/-!
SUPPORT. Every view of the state reads the same before and after the start of a step (`State.fresh`), which clears only what the step before it
sent and read.
-/

namespace Sys2Proof.Machine

@[simp] theorem State.fresh_v_aud (s : State) (n : Nat) : s.fresh.aud n = s.aud n := (rfl)
@[simp] theorem State.fresh_v_wordSelect (s : State) (n : Nat) : s.fresh.wordSelect n = s.wordSelect n := (rfl)
@[simp] theorem State.fresh_v_audOut (s : State) (n : Nat) : s.fresh.audOut n = s.audOut n := (rfl)
@[simp] theorem State.fresh_v_audRates (s : State) (n : Nat) : s.fresh.audRates n = s.audRates n := (rfl)
@[simp] theorem State.fresh_v_audPlays (s : State) (n : Nat) : s.fresh.audPlays n = s.audPlays n := (rfl)
@[simp] theorem State.fresh_v_audD (s : State) (n : Nat) : s.fresh.audD n = s.audD n := (rfl)
@[simp] theorem State.fresh_v_audGroup (s : State) (n : Nat) : s.fresh.audGroup n = s.audGroup n := (rfl)
@[simp] theorem State.fresh_v_tileImage (s : State) : s.fresh.tileImage = s.tileImage := (rfl)
@[simp] theorem State.fresh_v_coming (s : State) : s.fresh.coming = s.coming := (rfl)
@[simp] theorem State.fresh_v_audMoves (s : State) (n : Nat) : s.fresh.audMoves n = s.audMoves n := (rfl)
@[simp] theorem State.fresh_v_csOut (s : State) (n k : Nat) : s.fresh.csOut n k = s.csOut n k := (rfl)
@[simp] theorem State.fresh_v_calState (s : State) (g : Nat) : s.fresh.calState g = s.calState g := (rfl)
@[simp] theorem State.fresh_v_logicalOf (s : State) (fld : Nat → Nat → Fld) (g i : Nat) : s.fresh.logicalOf fld g i = s.logicalOf fld g i := (rfl)
@[simp] theorem State.fresh_v_rxDirB (s : State) (p : Nat) : s.fresh.rxDirB p = s.rxDirB p := (rfl)
@[simp] theorem State.fresh_v_retires (s : State) (p : Nat) : s.fresh.retires p = s.retires p := (rfl)
@[simp] theorem State.fresh_v_groupEngine (s : State) (g : Nat) : s.fresh.groupEngine g = s.groupEngine g := (rfl)
@[simp] theorem State.fresh_v_calMay (s : State) (g i : Nat) : s.fresh.calMay g i = s.calMay g i := (rfl)
@[simp] theorem State.fresh_v_calDue (s : State) (g : Nat) : s.fresh.calDue g = s.calDue g := (rfl)
@[simp] theorem State.fresh_v_atFrameStart (s : State) : s.fresh.atFrameStart = s.atFrameStart := (rfl)
@[simp] theorem State.fresh_v_swapLines (s : State) (p : Nat) : s.fresh.swapLines p = s.swapLines p := (rfl)
@[simp] theorem State.fresh_v_swapsDue (s : State) : s.fresh.swapsDue = s.swapsDue := (rfl)
@[simp] theorem State.fresh_v_calEye (s : State) (g : Nat) (w h : List EyePoint) : s.fresh.calEye g w h = s.calEye g w h := (rfl)
@[simp] theorem State.fresh_v_rampMay (s : State) (g i : Nat) : s.fresh.rampMay g i = s.rampMay g i := (rfl)
@[simp] theorem State.fresh_v_darkFlag (s : State) (dirB : Bool) : s.fresh.darkFlag dirB = s.darkFlag dirB := (rfl)
@[simp] theorem State.fresh_v_lossSeen (s : State) (p : Nat) (e : LossSigns) : s.fresh.lossSeen p e = s.lossSeen p e := (rfl)
@[simp] theorem State.fresh_v_duplicate (s : State) (p src seq dest : Nat) : s.fresh.duplicate p src seq dest = s.duplicate p src seq dest := (rfl)
@[simp] theorem State.fresh_v_nextSeq (s : State) (p dest : Nat) : s.fresh.nextSeq p dest = s.nextSeq p dest := (rfl)
@[simp] theorem State.fresh_v_txBytes (s : State) (p n : Nat) : s.fresh.txBytes p n = s.txBytes p n := (rfl)
@[simp] theorem State.fresh_v_answers (s : State) (p src seq : Nat) : s.fresh.answers p src seq = s.answers p src seq := (rfl)
@[simp] theorem State.fresh_v_forMe (s : State) (dest : Nat) : s.fresh.forMe dest = s.forMe dest := (rfl)
@[simp] theorem State.fresh_v_layersOf (s : State) (v t : Nat) : s.fresh.layersOf v t = s.layersOf v t := (rfl)
@[simp] theorem State.fresh_v_layer (s : State) (v e : Nat) : s.fresh.layer v e = s.layer v e := (rfl)
@[simp] theorem State.fresh_v_composes (s : State) (v t f : Nat) : s.fresh.composes v t f = s.composes v t f := (rfl)
@[simp] theorem State.fresh_v_hPos (s : State) (v e : Nat) (l : Layer) (X : Nat) : s.fresh.hPos v e l X = s.hPos v e l X := (rfl)
@[simp] theorem State.fresh_v_vPos (s : State) (v e : Nat) (l : Layer) (Y : Nat) : s.fresh.vPos v e l Y = s.vPos v e l Y := (rfl)
@[simp] theorem State.fresh_v_bases (s : State) (v e : Nat) (l : Layer) (x0 w : Nat) : s.fresh.bases v e l x0 w = s.bases v e l x0 w := (rfl)
@[simp] theorem State.fresh_v_srcStore (s : State) (v e : Nat) : s.fresh.srcStore v e = s.srcStore v e := (rfl)
@[simp] theorem State.fresh_v_eligible (s : State) (v e k b f : Nat) : s.fresh.eligible v e k b f = s.eligible v e k b f := (rfl)
@[simp] theorem State.fresh_v_targets (s : State) : s.fresh.targets = s.targets := (rfl)
@[simp] theorem State.fresh_v_targetOf (s : State) (p k : Nat) : s.fresh.targetOf p k = s.targetOf p k := (rfl)
@[simp] theorem State.fresh_v_lineWidth (s : State) (p v t y : Nat) : s.fresh.lineWidth p v t y = s.lineWidth p v t y := (rfl)
@[simp] theorem State.fresh_v_chainLine (s : State) (v t y : Nat) : s.fresh.chainLine v t y = s.chainLine v t y := (rfl)
@[simp] theorem State.fresh_v_lineWaits (s : State) (p c : Nat) : s.fresh.lineWaits p c = s.lineWaits p c := (rfl)
@[simp] theorem State.fresh_v_fillWords (s : State) (p : Nat) : s.fresh.fillWords p = s.fillWords p := (rfl)
@[simp] theorem State.fresh_v_lastComposed (s : State) (p : Nat) : s.fresh.lastComposed p = s.lastComposed p := (rfl)
@[simp] theorem State.fresh_v_urgUs (s : State) (p : Nat) : s.fresh.urgUs p = s.urgUs p := (rfl)
@[simp] theorem State.fresh_v_coef (s : State) (v k off tap : Nat) : s.fresh.coef v k off tap = s.coef v k off tap := (rfl)
@[simp] theorem State.fresh_v_kh (s : State) (v k p t : Nat) : s.fresh.kh v k p t = s.kh v k p t := (rfl)
@[simp] theorem State.fresh_v_kf (s : State) (v k p t : Nat) : s.fresh.kf v k p t = s.kf v k p t := (rfl)
@[simp] theorem State.fresh_v_kv (s : State) (v k p vt : Nat) : s.fresh.kv v k p vt = s.kv v k p vt := (rfl)
@[simp] theorem State.fresh_v_sample (s : State) (l : Layer) (c r i : Nat) : s.fresh.sample l c r i = s.sample l c r i := (rfl)
@[simp] theorem State.fresh_v_scale (s : State) (l : Layer) (kv : List Int) (kh : List Int) (hp vp : Pos) (i : Nat) : s.fresh.scale l kv kh hp vp i = s.scale l kv kh hp vp i := (rfl)
@[simp] theorem State.fresh_v_layerAt (s : State) (c : LayerCfg) (l : Layer) (first : Int) (x0 x Y : Nat) (late : Option Nat) : s.fresh.layerAt c l first x0 x Y late = s.layerAt c l first x0 x Y late := (rfl)
@[simp] theorem State.fresh_v_bgWord (s : State) (v t : Nat) : s.fresh.bgWord v t = s.bgWord v t := (rfl)
@[simp] theorem State.fresh_v_contributing (s : State) (v t : Nat) : s.fresh.contributing v t = s.contributing v t := (rfl)
@[simp] theorem State.fresh_v_composeLine (s : State) (v t y : Nat) (late : List (Nat × Nat)) : s.fresh.composeLine v t y late = s.composeLine v t y late := (rfl)
@[simp] theorem State.fresh_v_rowsUsed (s : State) (c : LayerCfg) (Y : Nat) : s.fresh.rowsUsed c Y = s.rowsUsed c Y := (rfl)
@[simp] theorem State.fresh_v_colsUsed (s : State) (c : LayerCfg) (x0 w : Nat) : s.fresh.colsUsed c x0 w = s.colsUsed c x0 w := (rfl)
@[simp] theorem State.fresh_v_fetched (s : State) (c : LayerCfg) (x0 y0 w y : Nat) : s.fresh.fetched c x0 y0 w y = s.fetched c x0 y0 w y := (rfl)
@[simp] theorem State.fresh_v_tagErrs (s : State) (c : LayerCfg) (x0 y0 w y : Nat) : s.fresh.tagErrs c x0 y0 w y = s.tagErrs c x0 y0 w y := (rfl)
@[simp] theorem State.fresh_v_lineHeld (s : State) (v t y : Nat) : s.fresh.lineHeld v t y = s.lineHeld v t y := (rfl)
@[simp] theorem State.fresh_v_wbRefuse (s : State) (v t : Nat) : s.fresh.wbRefuse v t = s.wbRefuse v t := (rfl)
@[simp] theorem State.fresh_v_crcq (s : State) (u : Nat) : s.fresh.crcq u = s.crcq u := (rfl)
@[simp] theorem State.fresh_v_crcPair (s : State) (u off : Nat) : s.fresh.crcPair u off = s.crcPair u off := (rfl)
@[simp] theorem State.fresh_v_crcW (s : State) (u : Nat) : s.fresh.crcW u = s.crcW u := (rfl)
@[simp] theorem State.fresh_v_patternShown (s : State) : s.fresh.patternShown = s.patternShown := (rfl)
@[simp] theorem State.fresh_v_noPicture (s : State) : s.fresh.noPicture = s.noPicture := (rfl)
@[simp] theorem State.fresh_v_noEmission (s : State) : s.fresh.noEmission = s.noEmission := (rfl)
@[simp] theorem State.fresh_v_darkSrc (s : State) : s.fresh.darkSrc = s.darkSrc := (rfl)
@[simp] theorem State.fresh_v_dramCh (s : State) (c : Nat) : s.fresh.dramCh c = s.dramCh c := (rfl)
@[simp] theorem State.fresh_v_dramRuns (s : State) (c : Nat) : s.fresh.dramRuns c = s.dramRuns c := (rfl)
@[simp] theorem State.fresh_v_ddrResetN (s : State) (c : Nat) : s.fresh.ddrResetN c = s.ddrResetN c := (rfl)
@[simp] theorem State.fresh_v_rowBits (s : State) (c : Nat) : s.fresh.rowBits c = s.rowBits c := (rfl)
@[simp] theorem State.fresh_v_locate (s : State) (c a : Nat) : s.fresh.locate c a = s.locate c a := (rfl)
@[simp] theorem State.fresh_v_spareOf (s : State) (c : Nat) (l : DramLoc) : s.fresh.spareOf c l = s.spareOf c l := (rfl)
@[simp] theorem State.fresh_v_urgentLayer (s : State) (v e : Nat) : s.fresh.urgentLayer v e = s.urgentLayer v e := (rfl)
@[simp] theorem State.fresh_v_waiting (s : State) (c : Nat) : s.fresh.waiting c = s.waiting c := (rfl)
@[simp] theorem State.fresh_v_rowHit (s : State) (c : Nat) (r : DramReq) : s.fresh.rowHit c r = s.rowHit c r := (rfl)
@[simp] theorem State.fresh_v_contenders (s : State) (c : Nat) : s.fresh.contenders c = s.contenders c := (rfl)
@[simp] theorem State.fresh_v_pickReq (s : State) (c : Nat) : s.fresh.pickReq c = s.pickReq c := (rfl)
@[simp] theorem State.fresh_v_classFigure (s : State) (c cls : Nat) : s.fresh.classFigure c cls = s.classFigure c cls := (rfl)
@[simp] theorem State.fresh_v_neighbours (s : State) (c row : Nat) : s.fresh.neighbours c row = s.neighbours c row := (rfl)
@[simp] theorem State.fresh_v_nextPoint (s : State) (c : Nat) : s.fresh.nextPoint c = s.nextPoint c := (rfl)
@[simp] theorem State.fresh_v_atPoint (s : State) (c : Nat) : s.fresh.atPoint c = s.atPoint c := (rfl)
@[simp] theorem State.fresh_v_fc (s : State) (v : Nat) : s.fresh.fc v = s.fc v := (rfl)
@[simp] theorem State.fresh_v_fcPending (s : State) (v : Nat) : s.fresh.fcPending v = s.fcPending v := (rfl)
@[simp] theorem State.fresh_v_dramCfg (s : State) (v : Nat) : s.fresh.dramCfg v = s.dramCfg v := (rfl)
@[simp] theorem State.fresh_v_fcError (s : State) (v : Nat) : s.fresh.fcError v = s.fcError v := (rfl)
@[simp] theorem State.fresh_v_foActive (s : State) : s.fresh.foActive = s.foActive := (rfl)
@[simp] theorem State.fresh_v_foP (s : State) : s.fresh.foP = s.foP := (rfl)
@[simp] theorem State.fresh_v_pB (s : State) : s.fresh.pB = s.pB := (rfl)
@[simp] theorem State.fresh_v_refereeAddr (s : State) : s.fresh.refereeAddr = s.refereeAddr := (rfl)
@[simp] theorem State.fresh_v_deputyAddr (s : State) : s.fresh.deputyAddr = s.deputyAddr := (rfl)
@[simp] theorem State.fresh_v_isReferee (s : State) : s.fresh.isReferee = s.isReferee := (rfl)
@[simp] theorem State.fresh_v_isDeputy (s : State) : s.fresh.isDeputy = s.isDeputy := (rfl)
@[simp] theorem State.fresh_v_actsReferee (s : State) : s.fresh.actsReferee = s.actsReferee := (rfl)
@[simp] theorem State.fresh_v_followed (s : State) : s.fresh.followed = s.followed := (rfl)
@[simp] theorem State.fresh_v_hbRole (s : State) : s.fresh.hbRole = s.hbRole := (rfl)
@[simp] theorem State.fresh_v_hbMiss (s : State) : s.fresh.hbMiss = s.hbMiss := (rfl)
@[simp] theorem State.fresh_v_refDeadline (s : State) : s.fresh.refDeadline = s.refDeadline := (rfl)
@[simp] theorem State.fresh_v_hFrames (s : State) (p : Nat) : s.fresh.hFrames p = s.hFrames p := (rfl)
@[simp] theorem State.fresh_v_runSlot (s : State) : s.fresh.runSlot = s.runSlot := (rfl)
@[simp] theorem State.fresh_v_altSlot (s : State) : s.fresh.altSlot = s.altSlot := (rfl)
@[simp] theorem State.fresh_v_inTrial (s : State) : s.fresh.inTrial = s.inTrial := (rfl)
@[simp] theorem State.fresh_v_runVersion (s : State) : s.fresh.runVersion = s.runVersion := (rfl)
@[simp] theorem State.fresh_v_newWord (s : State) (a : Nat) (w : Word) : s.fresh.newWord a w = s.newWord a w := (rfl)
@[simp] theorem State.fresh_v_rdAfter (s : State) (l : Tab (Option Word)) (a : Nat) : s.fresh.rdAfter l a = s.rdAfter l a := (rfl)
@[simp] theorem State.fresh_v_sourceBad (s : State) (p : Nat) : s.fresh.sourceBad p = s.sourceBad p := (rfl)
@[simp] theorem State.fresh_v_health (s : State) (p : Nat) : s.fresh.health p = s.health p := (rfl)
@[simp] theorem State.fresh_v_armByte (s : State) : s.fresh.armByte = s.armByte := (rfl)
@[simp] theorem State.fresh_v_readsZero (s : State) (a : Nat) : s.fresh.readsZero a = s.readsZero a := (rfl)
@[simp] theorem State.fresh_v_look (s : State) (a : Nat) : s.fresh.look a = s.look a := (rfl)
@[simp] theorem State.fresh_v_answersAt (s : State) (a : Nat) : s.fresh.answersAt a = s.answersAt a := (rfl)
@[simp] theorem State.fresh_v_regKey (s : State) (a : Nat) : s.fresh.regKey a = s.regKey a := (rfl)
@[simp] theorem State.fresh_v_ing (s : State) (v e : Nat) : s.fresh.ing v e = s.ing v e := (rfl)
@[simp] theorem State.fresh_v_engineOf (s : State) (q : Nat) : s.fresh.engineOf q = s.engineOf q := (rfl)
@[simp] theorem State.fresh_v_ingState (s : State) (v e : Nat) : s.fresh.ingState v e = s.ingState v e := (rfl)
@[simp] theorem State.fresh_v_budgetOk (s : State) (c : SourceCfg) (f : SrcFormat) : s.fresh.budgetOk c f = s.budgetOk c f := (rfl)
@[simp] theorem State.fresh_v_rnd (s : State) (v r : Nat) : s.fresh.rnd v r = s.rnd v r := (rfl)
@[simp] theorem State.fresh_v_bar2Cfg (s : State) (k b : Nat) : s.fresh.bar2Cfg k b = s.bar2Cfg k b := (rfl)
@[simp] theorem State.fresh_v_bar2Reaches (s : State) (v k : Nat) : s.fresh.bar2Reaches v k = s.bar2Reaches v k := (rfl)
@[simp] theorem State.fresh_v_bar2Target (s : State) (off len : Nat) : s.fresh.bar2Target off len = s.bar2Target off len := (rfl)
@[simp] theorem State.fresh_v_msgHeld (s : State) (v : Nat) : s.fresh.msgHeld v = s.msgHeld v := (rfl)
@[simp] theorem State.fresh_v_cellsDrive (s : State) : s.fresh.cellsDrive = s.cellsDrive := (rfl)
@[simp] theorem State.fresh_v_pressCellsDark (s : State) : s.fresh.pressCellsDark = s.pressCellsDark := (rfl)
@[simp] theorem State.fresh_v_debugOpen (s : State) : s.fresh.debugOpen = s.debugOpen := (rfl)
@[simp] theorem State.fresh_v_legacyIn (s : State) (n k : Nat) (rd : Bool) (codes : List Nat) : s.fresh.legacyIn n k rd codes = s.legacyIn n k rd codes := (rfl)
@[simp] theorem State.fresh_v_k24W (s : State) : s.fresh.k24W = s.k24W := (rfl)
@[simp] theorem State.fresh_v_k24H (s : State) : s.fresh.k24H = s.k24H := (rfl)
@[simp] theorem State.fresh_v_gamNow (s : State) : s.fresh.gamNow = s.gamNow := (rfl)
@[simp] theorem State.fresh_v_gainIdx (s : State) : s.fresh.gainIdx = s.gainIdx := (rfl)
@[simp] theorem State.fresh_v_k24Lamps (s : State) : s.fresh.k24Lamps = s.k24Lamps := (rfl)
@[simp] theorem State.fresh_v_gainNow (s : State) : s.fresh.gainNow = s.gainNow := (rfl)
@[simp] theorem State.fresh_v_upd24 (s : State) : s.fresh.upd24 = s.upd24 := (rfl)
@[simp] theorem State.fresh_v_lampFaults (s : State) : s.fresh.lampFaults = s.lampFaults := (rfl)
@[simp] theorem State.fresh_v_k24Temp (s : State) : s.fresh.k24Temp = s.k24Temp := (rfl)
@[simp] theorem State.fresh_v_k24Status (s : State) : s.fresh.k24Status = s.k24Status := (rfl)
@[simp] theorem State.fresh_v_k24Mine (s : State) (b : List Nat) (all : Bool) : s.fresh.k24Mine b all = s.k24Mine b all := (rfl)
@[simp] theorem State.fresh_v_lane (s : State) (n : Nat) : s.fresh.lane n = s.lane n := (rfl)
@[simp] theorem State.fresh_v_cal (s : State) (g : Nat) : s.fresh.cal g = s.cal g := (rfl)
@[simp] theorem State.fresh_v_energy (s : State) (p : Nat) : s.fresh.energy p = s.energy p := (rfl)
@[simp] theorem State.fresh_v_trimSet (s : State) (n j : Nat) : s.fresh.trimSet n j = s.trimSet n j := (rfl)
@[simp] theorem State.fresh_v_trimBlocks (s : State) : s.fresh.trimBlocks = s.trimBlocks := (rfl)
@[simp] theorem State.fresh_v_rxIn (s : State) (g st : Nat) : s.fresh.rxIn g st = s.rxIn g st := (rfl)
@[simp] theorem State.fresh_v_txTarget (s : State) (n : Nat) : s.fresh.txTarget n = s.txTarget n := (rfl)
@[simp] theorem State.fresh_v_txAct (s : State) (n : Nat) : s.fresh.txAct n = s.txAct n := (rfl)
@[simp] theorem State.fresh_v_txRamps (s : State) (n : Nat) : s.fresh.txRamps n = s.txRamps n := (rfl)
@[simp] theorem State.fresh_v_rxBits (s : State) (n : Nat) (l : List Bool) : s.fresh.rxBits n l = s.rxBits n l := (rfl)
@[simp] theorem State.fresh_v_checks (s : State) (n : Nat) : s.fresh.checks n = s.checks n := (rfl)
@[simp] theorem State.fresh_v_txBits (s : State) (n : Nat) (l : List Bool) : s.fresh.txBits n l = s.txBits n l := (rfl)
@[simp] theorem State.fresh_v_loops (s : State) (n : Nat) : s.fresh.loops n = s.loops n := (rfl)
@[simp] theorem State.fresh_v_calHolds (s : State) (lane : Nat) : s.fresh.calHolds lane = s.calHolds lane := (rfl)
@[simp] theorem State.fresh_v_logSelected (s : State) (fatal : Bool) (sel : Nat) : s.fresh.logSelected fatal sel = s.logSelected fatal sel := (rfl)
@[simp] theorem State.fresh_v_wdtTimeout (s : State) : s.fresh.wdtTimeout = s.wdtTimeout := (rfl)
@[simp] theorem State.fresh_v_wdtGraceMs (s : State) : s.fresh.wdtGraceMs = s.wdtGraceMs := (rfl)
@[simp] theorem State.fresh_v_byte (s : State) (a : Nat) : s.fresh.byte a = s.byte a := (rfl)
@[simp] theorem State.fresh_v_p14 (s : State) (burst k : Nat) : s.fresh.p14 burst k = s.p14 burst k := (rfl)
@[simp] theorem State.fresh_v_tagOf (s : State) (burst : Nat) : s.fresh.tagOf burst = s.tagOf burst := (rfl)
@[simp] theorem State.fresh_v_placed (s : State) (k : Nat) : s.fresh.placed k = s.placed k := (rfl)
@[simp] theorem State.fresh_v_store (s : State) (k : Nat) : s.fresh.store k = s.store k := (rfl)
@[simp] theorem State.fresh_v_buf (s : State) (k b : Nat) : s.fresh.buf k b = s.buf k b := (rfl)
@[simp] theorem State.fresh_v_storeCfg (s : State) (k : Nat) : s.fresh.storeCfg k = s.storeCfg k := (rfl)
@[simp] theorem State.fresh_v_readCfg (s : State) (k : Nat) : s.fresh.readCfg k = s.readCfg k := (rfl)
@[simp] theorem State.fresh_v_pixel (s : State) (c : StoreCfg) (b x y : Nat) : s.fresh.pixel c b x y = s.pixel c b x y := (rfl)
@[simp] theorem State.fresh_v_freeBuf (s : State) (k : Nat) (busy : List Nat) : s.fresh.freeBuf k busy = s.freeBuf k busy := (rfl)
@[simp] theorem State.fresh_v_linksSound (s : State) (dieUse : Nat) : s.fresh.linksSound dieUse = s.linksSound dieUse := (rfl)
@[simp] theorem State.fresh_v_badDie (s : State) (m : MouldImage) : s.fresh.badDie m = s.badDie m := (rfl)
@[simp] theorem State.fresh_v_pbyte (s : State) (a : Nat) : s.fresh.pbyte a = s.pbyte a := (rfl)
@[simp] theorem State.fresh_v_pword (s : State) (n off : Nat) : s.fresh.pword n off = s.pword n off := (rfl)
@[simp] theorem State.fresh_v_pbytes (s : State) (n off len : Nat) : s.fresh.pbytes n off len = s.pbytes n off len := (rfl)
@[simp] theorem State.fresh_v_own (s : State) (n d : Nat) : s.fresh.own n d = s.own n d := (rfl)
@[simp] theorem State.fresh_v_txDesc (s : State) (n q : Nat) : s.fresh.txDesc n q = s.txDesc n q := (rfl)
@[simp] theorem State.fresh_v_rxDesc (s : State) (n : Nat) : s.fresh.rxDesc n = s.rxDesc n := (rfl)
@[simp] theorem State.fresh_v_net (s : State) (n : Nat) : s.fresh.net n = s.net n := (rfl)
@[simp] theorem State.fresh_v_wheelOn (s : State) : s.fresh.wheelOn = s.wheelOn := (rfl)
@[simp] theorem State.fresh_v_wheelEntry (s : State) (b e : Nat) : s.fresh.wheelEntry b e = s.wheelEntry b e := (rfl)
@[simp] theorem State.fresh_v_gates (s : State) : s.fresh.gates = s.gates := (rfl)
@[simp] theorem State.fresh_v_wheelState (s : State) : s.fresh.wheelState = s.wheelState := (rfl)
@[simp] theorem State.fresh_v_wheelRefuse (s : State) (w : Word) : s.fresh.wheelRefuse w = s.wheelRefuse w := (rfl)
@[simp] theorem State.fresh_v_cycleHere (s : State) (w : Word) : s.fresh.cycleHere w = s.cycleHere w := (rfl)
@[simp] theorem State.fresh_v_nextCycle (s : State) : s.fresh.nextCycle = s.nextCycle := (rfl)
@[simp] theorem State.fresh_v_cycleIn (s : State) (w : Word) (here : Bool) (j : Nat) : s.fresh.cycleIn w here j = s.cycleIn w here j := (rfl)
@[simp] theorem State.fresh_v_cycleStarts (s : State) : s.fresh.cycleStarts = s.cycleStarts := (rfl)
@[simp] theorem State.fresh_v_txFrame (s : State) (n q : Nat) : s.fresh.txFrame n q = s.txFrame n q := (rfl)
@[simp] theorem State.fresh_v_txRefusal (s : State) (n q : Nat) : s.fresh.txRefusal n q = s.txRefusal n q := (rfl)
@[simp] theorem State.fresh_v_macBytes (s : State) (n : Nat) : s.fresh.macBytes n = s.macBytes n := (rfl)
@[simp] theorem State.fresh_v_pauseFrame (s : State) (t : Nat) : s.fresh.pauseFrame t = s.pauseFrame t := (rfl)
@[simp] theorem State.fresh_v_rxOwned (s : State) (n : Nat) : s.fresh.rxOwned n = s.rxOwned n := (rfl)
@[simp] theorem State.fresh_v_accepts (s : State) (n : Nat) (da : List Nat) : s.fresh.accepts n da = s.accepts n da := (rfl)
@[simp] theorem State.fresh_v_rd (s : State) (a : Nat) : s.fresh.rd a = s.rd a := (rfl)
@[simp] theorem State.fresh_v_get (s : State) (f : Fld) : s.fresh.get f = s.get f := (rfl)
@[simp] theorem State.fresh_v_on (s : State) (f : Fld) : s.fresh.on f = s.on f := (rfl)
@[simp] theorem State.fresh_v_getI (s : State) (f : Fld) : s.fresh.getI f = s.getI f := (rfl)
@[simp] theorem State.fresh_v_pendWord (s : State) (a : Nat) : s.fresh.pendWord a = s.pendWord a := (rfl)
@[simp] theorem State.fresh_v_getPend (s : State) (f : Fld) : s.fresh.getPend f = s.getPend f := (rfl)
@[simp] theorem State.fresh_v_role (s : State) : s.fresh.role = s.role := (rfl)
@[simp] theorem State.fresh_v_isSender (s : State) : s.fresh.isSender = s.isSender := (rfl)
@[simp] theorem State.fresh_v_isTile (s : State) : s.fresh.isTile = s.isTile := (rfl)
@[simp] theorem State.fresh_v_isK24 (s : State) : s.fresh.isK24 = s.isK24 := (rfl)
@[simp] theorem State.fresh_v_drives (s : State) : s.fresh.drives = s.drives := (rfl)
@[simp] theorem State.fresh_v_noMouldTile (s : State) : s.fresh.noMouldTile = s.noMouldTile := (rfl)
@[simp] theorem State.fresh_v_tileLike (s : State) : s.fresh.tileLike = s.tileLike := (rfl)
@[simp] theorem State.fresh_v_phases (s : State) : s.fresh.phases = s.phases := (rfl)
@[simp] theorem State.fresh_v_senderEnd (s : State) : s.fresh.senderEnd = s.senderEnd := (rfl)
@[simp] theorem State.fresh_v_dieRuns (s : State) (d : Nat) : s.fresh.dieRuns d = s.dieRuns d := (rfl)
@[simp] theorem State.fresh_v_port (s : State) (p : Nat) : s.fresh.port p = s.port p := (rfl)
@[simp] theorem State.fresh_v_linked (s : State) (p : Nat) : s.fresh.linked p = s.linked p := (rfl)
@[simp] theorem State.fresh_v_k24Locked (s : State) (g : Nat) : s.fresh.k24Locked g = s.k24Locked g := (rfl)
@[simp] theorem State.fresh_v_portsInUse (s : State) : s.fresh.portsInUse = s.portsInUse := (rfl)
@[simp] theorem State.fresh_v_rasterValid (s : State) : s.fresh.rasterValid = s.rasterValid := (rfl)
@[simp] theorem State.fresh_v_lpos (s : State) : s.fresh.lpos = s.lpos := (rfl)
@[simp] theorem State.fresh_v_irqLive (s : State) : s.fresh.irqLive = s.irqLive := (rfl)
@[simp] theorem State.fresh_v_irqVector (s : State) (c : Nat) : s.fresh.irqVector c = s.irqVector c := (rfl)
@[simp] theorem State.fresh_v_irqVectors (s : State) : s.fresh.irqVectors = s.irqVectors := (rfl)
@[simp] theorem State.fresh_v_txOrder (s : State) (p : Nat) : s.fresh.txOrder p = s.txOrder p := (rfl)
@[simp] theorem State.fresh_v_copyLane (s : State) (p : Nat) : s.fresh.copyLane p = s.copyLane p := (rfl)
@[simp] theorem State.fresh_v_txInv (s : State) (n : Nat) : s.fresh.txInv n = s.txInv n := (rfl)
@[simp] theorem State.fresh_v_rxInv (s : State) (n : Nat) : s.fresh.rxInv n = s.rxInv n := (rfl)
@[simp] theorem State.fresh_v_halted (s : State) : s.fresh.halted = s.halted := (rfl)
@[simp] theorem State.fresh_v_held (s : State) : s.fresh.held = s.held := (rfl)
@[simp] theorem State.fresh_v_rindHeld (s : State) : s.fresh.rindHeld = s.rindHeld := (rfl)
@[simp] theorem State.fresh_v_hasPort (s : State) (p : Nat) : s.fresh.hasPort p = s.hasPort p := (rfl)
@[simp] theorem State.fresh_v_mouldSched (s : State) : s.fresh.mouldSched = s.mouldSched := (rfl)
@[simp] theorem State.fresh_v_sched (s : State) : s.fresh.sched = s.sched := (rfl)
@[simp] theorem State.fresh_v_pressMux (s : State) : s.fresh.pressMux = s.pressMux := (rfl)
@[simp] theorem State.fresh_v_pressD (s : State) : s.fresh.pressD = s.pressD := (rfl)
@[simp] theorem State.fresh_v_slotRefuse (s : State) (rd : Nat → Word) : s.fresh.slotRefuse rd = s.slotRefuse rd := (rfl)
@[simp] theorem State.fresh_v_lastWindowEnd (s : State) : s.fresh.lastWindowEnd = s.lastWindowEnd := (rfl)
@[simp] theorem State.fresh_v_slotsPast (s : State) : s.fresh.slotsPast = s.slotsPast := (rfl)
@[simp] theorem State.fresh_v_sameWord (s : State) (q w : Nat) : s.fresh.sameWord q w = s.sameWord q w := (rfl)
@[simp] theorem State.fresh_v_rowCmds (s : State) (q : Nat) (counts : Tab Nat) : s.fresh.rowCmds q counts = s.rowCmds q counts := (rfl)
@[simp] theorem State.fresh_v_rowWords (s : State) (q : Nat) (counts : Tab Nat) : s.fresh.rowWords q counts = s.rowWords q counts := (rfl)
@[simp] theorem State.fresh_v_runFits (s : State) (c : Sched) : s.fresh.runFits c = s.runFits c := (rfl)
@[simp] theorem State.fresh_v_runPulses (s : State) (c : Sched) : s.fresh.runPulses c = s.runPulses c := (rfl)
@[simp] theorem State.fresh_v_testFrame (s : State) : s.fresh.testFrame = s.testFrame := (rfl)
@[simp] theorem State.fresh_v_probeFrame (s : State) : s.fresh.probeFrame = s.probeFrame := (rfl)
@[simp] theorem State.fresh_v_testFits (s : State) (c : Sched) (q row : Nat) : s.fresh.testFits c q row = s.testFits c q row := (rfl)
@[simp] theorem State.fresh_v_testOutcome (s : State) (opens shorts : List (Nat × Nat × List Nat)) (q pos : Nat) : s.fresh.testOutcome opens shorts q pos = s.testOutcome opens shorts q pos := (rfl)
@[simp] theorem State.fresh_v_diagStatus (s : State) (i : Nat) : s.fresh.diagStatus i = s.diagStatus i := (rfl)
@[simp] theorem State.fresh_v_probeable (s : State) (e : Nat × Nat) : s.fresh.probeable e = s.probeable e := (rfl)
@[simp] theorem State.fresh_v_probeRow (s : State) : s.fresh.probeRow = s.probeRow := (rfl)
@[simp] theorem State.fresh_v_probePulses (s : State) (c : Sched) : s.fresh.probePulses c = s.probePulses c := (rfl)
@[simp] theorem State.fresh_v_probeTicks (s : State) (c : Sched) : s.fresh.probeTicks c = s.probeTicks c := (rfl)
@[simp] theorem State.fresh_v_gapAfter (s : State) (c : Sched) (k : Nat) : s.fresh.gapAfter c k = s.gapAfter c k := (rfl)
@[simp] theorem State.fresh_v_trig (s : State) (t : Nat) : s.fresh.trig t = s.trig t := (rfl)
@[simp] theorem State.fresh_v_caps (s : State) (c : Nat) : s.fresh.caps c = s.caps c := (rfl)
@[simp] theorem State.fresh_v_presLat (s : State) : s.fresh.presLat = s.presLat := (rfl)
@[simp] theorem State.fresh_v_overRead (s : State) (m : MouldImage) : s.fresh.overRead m = s.overRead m := (rfl)
@[simp] theorem State.fresh_v_notReady (s : State) (m : MouldImage) (p : Nat) : s.fresh.notReady m p = s.notReady m p := (rfl)
@[simp] theorem State.fresh_v_armError (s : State) (m : MouldImage) : s.fresh.armError m = s.armError m := (rfl)
@[simp] theorem State.fresh_v_addsDies (s : State) (m : MouldImage) : s.fresh.addsDies m = s.addsDies m := (rfl)
@[simp] theorem State.fresh_v_leads (s : State) : s.fresh.leads = s.leads := (rfl)
@[simp] theorem State.fresh_v_switchDue (s : State) : s.fresh.switchDue = s.switchDue := (rfl)
@[simp] theorem State.fresh_v_outCodes (s : State) (p : Nat) : s.fresh.outCodes p = s.outCodes p := (rfl)
@[simp] theorem State.fresh_v_outBgs (s : State) (p : Nat) : s.fresh.outBgs p = s.outBgs p := (rfl)
@[simp] theorem State.fresh_v_shares (s : State) (p v t y : Nat) : s.fresh.shares p v t y = s.shares p v t y := (rfl)
@[simp] theorem State.fresh_v_crosses (s : State) (a b p : Nat) : s.fresh.crosses a b p = s.crosses a b p := (rfl)
@[simp] theorem State.fresh_v_cutPorts (s : State) : s.fresh.cutPorts = s.cutPorts := (rfl)
@[simp] theorem State.fresh_v_soRec (s : State) (p f : Nat) : s.fresh.soRec p f = s.soRec p f := (rfl)
@[simp] theorem State.fresh_v_sends (s : State) (p : Nat) : s.fresh.sends p = s.sends p := (rfl)
@[simp] theorem State.fresh_v_chainTime (s : State) (p : Nat) : s.fresh.chainTime p = s.chainTime p := (rfl)
@[simp] theorem State.fresh_v_readyTiles (s : State) (p : Nat) : s.fresh.readyTiles p = s.readyTiles p := (rfl)
@[simp] theorem State.fresh_v_headerGood (s : State) (g : Segment) : s.fresh.headerGood g = s.headerGood g := (rfl)
@[simp] theorem State.fresh_v_rxCols (s : State) (p : Nat) (cols : List (List Nat)) : s.fresh.rxCols p cols = s.rxCols p cols := (rfl)
@[simp] theorem State.fresh_v_uncovered (s : State) (dirB : Bool) : s.fresh.uncovered dirB = s.uncovered dirB := (rfl)
@[simp] theorem State.fresh_v_phaseCrc (s : State) (k : Nat) : s.fresh.phaseCrc k = s.phaseCrc k := (rfl)
@[simp] theorem State.fresh_v_lanesByte (s : State) (p : Nat) : s.fresh.lanesByte p = s.lanesByte p := (rfl)
@[simp] theorem State.fresh_v_modMax (s : State) : s.fresh.modMax = s.modMax := (rfl)
@[simp] theorem State.fresh_v_statusFlags (s : State) : s.fresh.statusFlags = s.statusFlags := (rfl)
@[simp] theorem State.fresh_v_statusBytes (s : State) : s.fresh.statusBytes = s.statusBytes := (rfl)
@[simp] theorem State.fresh_v_mouldDie (s : State) (sectFail : List (Nat × Nat × Nat)) (chanFail : List Nat) (src : Nat) (m : MouldImage) : s.fresh.mouldDie sectFail chanFail src m = s.mouldDie sectFail chanFail src m := (rfl)
@[simp] theorem State.fresh_v_mouldSources (s : State) (card : Card) : s.fresh.mouldSources card = s.mouldSources card := (rfl)
@[simp] theorem State.fresh_v_sensor (s : State) (d i : Nat) : s.fresh.sensor d i = s.sensor d i := (rfl)
@[simp] theorem State.fresh_v_goodReadings (s : State) (d skip : Nat) : s.fresh.goodReadings d skip = s.goodReadings d skip := (rfl)
@[simp] theorem State.fresh_v_dieThr (s : State) (k : Nat) : s.fresh.dieThr k = s.dieThr k := (rfl)
@[simp] theorem State.fresh_v_dieHot (s : State) (d : Nat) : s.fresh.dieHot d = s.dieHot d := (rfl)
@[simp] theorem State.fresh_v_modReads (s : State) (j : Nat) : s.fresh.modReads j = s.modReads j := (rfl)
@[simp] theorem State.fresh_v_modNext (s : State) (j : Nat) : s.fresh.modNext j = s.modNext j := (rfl)
@[simp] theorem State.fresh_v_tMeas (s : State) (j : Nat) : s.fresh.tMeas j = s.tMeas j := (rfl)
@[simp] theorem State.fresh_v_ceilBand (s : State) (t : Int) : s.fresh.ceilBand t = s.ceilBand t := (rfl)
@[simp] theorem State.fresh_v_ceil (s : State) (j : Nat) : s.fresh.ceil j = s.ceil j := (rfl)
@[simp] theorem State.fresh_v_sensData (s : State) : s.fresh.sensData = s.sensData := (rfl)
@[simp] theorem State.fresh_v_bank (s : State) (b : Nat) : s.fresh.bank b = s.bank b := (rfl)
@[simp] theorem State.fresh_v_tset (s : State) (b k : Nat) : s.fresh.tset b k = s.tset b k := (rfl)
@[simp] theorem State.fresh_v_tsetRises (s : State) (b : Nat) : s.fresh.tsetRises b = s.tsetRises b := (rfl)
@[simp] theorem State.fresh_v_lampEntry (s : State) (i : Nat) : s.fresh.lampEntry i = s.lampEntry i := (rfl)
@[simp] theorem State.fresh_v_lampStatus (s : State) (i : Nat) : s.fresh.lampStatus i = s.lampStatus i := (rfl)
@[simp] theorem State.fresh_v_tile (s : State) : s.fresh.tile = s.tile := (rfl)
@[simp] theorem State.fresh_v_moduleAt (s : State) (x y : Nat) : s.fresh.moduleAt x y = s.moduleAt x y := (rfl)
@[simp] theorem State.fresh_v_saving (s : State) : s.fresh.saving = s.saving := (rfl)
@[simp] theorem State.fresh_v_bankRefuse (s : State) (b : Nat) : s.fresh.bankRefuse b = s.bankRefuse b := (rfl)
@[simp] theorem State.fresh_v_corrAt (s : State) (b j : Nat) : s.fresh.corrAt b j = s.corrAt b j := (rfl)
@[simp] theorem State.fresh_v_matrix (s : State) (p j : Nat) : s.fresh.matrix p j = s.matrix p j := (rfl)
@[simp] theorem State.fresh_v_corrKey (s : State) (back phase row : Nat) : s.fresh.corrKey back phase row = s.corrKey back phase row := (rfl)
@[simp] theorem State.fresh_v_corrRow (s : State) (back phase row : Nat) : s.fresh.corrRow back phase row = s.corrRow back phase row := (rfl)
@[simp] theorem State.fresh_v_encSet (s : State) : s.fresh.encSet = s.encSet := (rfl)
@[simp] theorem State.fresh_v_picFrame (s : State) : s.fresh.picFrame = s.picFrame := (rfl)
@[simp] theorem State.fresh_v_lampValue (s : State) (phase i : Nat) : s.fresh.lampValue phase i = s.lampValue phase i := (rfl)
@[simp] theorem State.fresh_v_gam (s : State) (c k : Nat) : s.fresh.gam c k = s.gam c k := (rfl)
@[simp] theorem State.fresh_v_k24Gain (s : State) (i : Nat) : s.fresh.k24Gain i = s.k24Gain i := (rfl)
@[simp] theorem State.fresh_v_k24Code (s : State) (i : Nat) : s.fresh.k24Code i = s.k24Code i := (rfl)
@[simp] theorem State.fresh_v_k24Count (s : State) (i e : Nat) : s.fresh.k24Count i e = s.k24Count i e := (rfl)
@[simp] theorem State.fresh_v_lampCount (s : State) (phase i e : Nat) : s.fresh.lampCount phase i e = s.lampCount phase i e := (rfl)
@[simp] theorem State.fresh_v_lampsOn (s : State) (row : Nat) : s.fresh.lampsOn row = s.lampsOn row := (rfl)
@[simp] theorem State.fresh_v_pressPorts (s : State) : s.fresh.pressPorts = s.pressPorts := (rfl)
@[simp] theorem State.fresh_v_lampRec (s : State) (i : Nat) : s.fresh.lampRec i = s.lampRec i := (rfl)
@[simp] theorem State.fresh_v_lampAge (s : State) (i : Nat) : s.fresh.lampAge i = s.lampAge i := (rfl)
@[simp] theorem State.fresh_v_recWord (s : State) (i : Nat) : s.fresh.recWord i = s.recWord i := (rfl)
@[simp] theorem State.fresh_v_tabInRange (s : State) : s.fresh.tabInRange = s.tabInRange := (rfl)
@[simp] theorem State.fresh_v_tabCoef (s : State) (k : Nat) : s.fresh.tabCoef k = s.tabCoef k := (rfl)
@[simp] theorem State.fresh_v_queuedStatus (s : State) (i : Nat) : s.fresh.queuedStatus i = s.queuedStatus i := (rfl)
@[simp] theorem State.fresh_v_cumDelay (s : State) (dirB : Bool) : s.fresh.cumDelay dirB = s.cumDelay dirB := (rfl)
@[simp] theorem State.fresh_v_dirUsable (s : State) (dirB : Bool) : s.fresh.dirUsable dirB = s.dirUsable dirB := (rfl)
@[simp] theorem State.fresh_v_activeB (s : State) : s.fresh.activeB = s.activeB := (rfl)
@[simp] theorem State.fresh_v_train (s : State) (p : Nat) : s.fresh.train p = s.train p := (rfl)
@[simp] theorem State.fresh_v_endType (s : State) : s.fresh.endType = s.endType := (rfl)
@[simp] theorem State.fresh_v_trainSet (s : State) (p ty lane : Nat) : s.fresh.trainSet p ty lane = s.trainSet p ty lane := (rfl)
@[simp] theorem State.fresh_v_readSet (s : State) (n : Nat) (codes : List Nat) : s.fresh.readSet n codes = s.readSet n codes := (rfl)
@[simp] theorem State.fresh_v_waitsOut (s : State) (p : Nat) : s.fresh.waitsOut p = s.waitsOut p := (rfl)
@[simp] theorem State.fresh_v_dirUp (s : State) (dirB : Bool) : s.fresh.dirUp dirB = s.dirUp dirB := (rfl)
@[simp] theorem State.fresh_v_addr (s : State) : s.fresh.addr = s.addr := (rfl)
@[simp] theorem State.fresh_v_modulesRead (s : State) : s.fresh.modulesRead = s.modulesRead := (rfl)
@[simp] theorem State.fresh_v_mayBeReady (s : State) : s.fresh.mayBeReady = s.mayBeReady := (rfl)
@[simp] theorem State.fresh_v_tileStateNow (s : State) : s.fresh.tileStateNow = s.tileStateNow := (rfl)
@[simp] theorem State.fresh_v_measures (s : State) (p : Nat) : s.fresh.measures p = s.measures p := (rfl)
@[simp] theorem State.fresh_v_ownCode (s : State) : s.fresh.ownCode = s.ownCode := (rfl)
@[simp] theorem State.fresh_v_chainTiles (s : State) (p : Nat) : s.fresh.chainTiles p = s.chainTiles p := (rfl)
@[simp] theorem State.fresh_v_tileStaged (s : State) (kind id mseq p a : Nat) : s.fresh.tileStaged kind id mseq p a = s.tileStaged kind id mseq p a := (rfl)
@[simp] theorem State.fresh_v_distWhat (s : State) (kind : Nat) : s.fresh.distWhat kind = s.distWhat kind := (rfl)
@[simp] theorem State.fresh_v_distId (s : State) (p : Nat) : s.fresh.distId p = s.distId p := (rfl)
@[simp] theorem State.fresh_v_distRuns (s : State) : s.fresh.distRuns = s.distRuns := (rfl)
@[simp] theorem State.fresh_v_rmState (s : State) : s.fresh.rmState = s.rmState := (rfl)
@[simp] theorem State.fresh_v_rmPending (s : State) : s.fresh.rmPending = s.rmPending := (rfl)
@[simp] theorem State.fresh_v_minLead (s : State) : s.fresh.minLead = s.minLead := (rfl)
@[simp] theorem State.fresh_v_chainAddrs (s : State) : s.fresh.chainAddrs = s.chainAddrs := (rfl)
@[simp] theorem State.fresh_v_fwArmError (s : State) (revert : Bool) : s.fresh.fwArmError revert = s.fwArmError revert := (rfl)
@[simp] theorem State.fresh_v_tileVersion (s : State) : s.fresh.tileVersion = s.tileVersion := (rfl)
@[simp] theorem State.fresh_v_triesInit (s : State) : s.fresh.triesInit = s.triesInit := (rfl)
@[simp] theorem State.fresh_v_confirmWin (s : State) : s.fresh.confirmWin = s.confirmWin := (rfl)
@[simp] theorem State.fresh_v_fwGoError (s : State) (rev : Bool) : s.fresh.fwGoError rev = s.fwGoError rev := (rfl)
@[simp] theorem State.fresh_v_activationDue (s : State) : s.fresh.activationDue = s.activationDue := (rfl)
@[simp] theorem State.fresh_v_windowEnds (s : State) : s.fresh.windowEnds = s.windowEnds := (rfl)
@[simp] theorem State.fresh_v_hopBytes (s : State) (h : Hop) : s.fresh.hopBytes h = s.hopBytes h := (rfl)
@[simp] theorem State.fresh_v_hopSrc (s : State) : s.fresh.hopSrc = s.hopSrc := (rfl)
@[simp] theorem State.fresh_v_hop (s : State) (p : Nat) : s.fresh.hop p = s.hop p := (rfl)
@[simp] theorem State.fresh_v_transfers (s : State) : s.fresh.transfers = s.transfers := (rfl)
@[simp] theorem State.fresh_v_fwStateBytes (s : State) : s.fresh.fwStateBytes = s.fwStateBytes := (rfl)
@[simp] theorem State.fresh_v_secBuf (s : State) : s.fresh.secBuf = s.secBuf := (rfl)
@[simp] theorem State.fresh_v_tokenSigner (s : State) : s.fresh.tokenSigner = s.tokenSigner := (rfl)
@[simp] theorem State.fresh_v_spread (s : State) (p : Nat) : s.fresh.spread p = s.spread p := (rfl)
@[simp] theorem State.fresh_v_linePos (s : State) (p c : Nat) : s.fresh.linePos p c = s.linePos p c := (rfl)
@[simp] theorem State.fresh_v_lineAt (s : State) (p c : Nat) : s.fresh.lineAt p c = s.lineAt p c := (rfl)
@[simp] theorem State.fresh_v_frameTicks (s : State) : s.fresh.frameTicks = s.frameTicks := (rfl)
@[simp] theorem State.fresh_v_pendGeometry (s : State) : s.fresh.pendGeometry = s.pendGeometry := (rfl)
@[simp] theorem State.fresh_v_geometryPending (s : State) : s.fresh.geometryPending = s.geometryPending := (rfl)
@[simp] theorem State.fresh_v_refSel (s : State) : s.fresh.refSel = s.refSel := (rfl)
@[simp] theorem State.fresh_v_refOffsetQ (s : State) : s.fresh.refOffsetQ = s.refOffsetQ := (rfl)
@[simp] theorem State.fresh_v_edgeError (s : State) (frame : Nat) (phase : Int) : s.fresh.edgeError frame phase = s.edgeError frame phase := (rfl)
@[simp] theorem State.fresh_v_nextGeometry (s : State) : s.fresh.nextGeometry = s.nextGeometry := (rfl)
@[simp] theorem State.fresh_v_geometryDue (s : State) : s.fresh.geometryDue = s.geometryDue := (rfl)

end Sys2Proof.Machine
end

