-- ==== Sys2Proof/Laws/Regs.lean ====
section
/-!
SUPPORT. The register store: a field read after a write of the same field, of another field of the register, and of another register.
-/

namespace Sys2Proof.Machine

/-! ### Fields of a word -/

/-- Does the field lie within a word? -/
def Fld.ok (f : Fld) : Bool := decide (f.lo ≤ f.hi) && decide (f.hi < 32)

theorem maskOf_bit (hi lo i : Nat) : (maskOf hi lo).getLsbD i = (decide (i < 32) && decide (lo ≤ i) && decide (i < hi + 1)) := by
  unfold maskOf
  rw [BitVec.getLsbD_ofNat, Nat.testBit_shiftLeft, Nat.testBit_two_pow_sub_one]
  by_cases h : lo ≤ i
  · have : (i - lo < hi + 1 - lo) ↔ (i < hi + 1) := by omega
    simp [h, this]
  · simp [h]

theorem Fld.of_bit (f : Fld) (w : Word) (i : Nat) :
    (f.of w).testBit i = (decide (i < f.width) && w.getLsbD (f.lo + i)) := by
  unfold Fld.of
  rw [Nat.testBit_mod_two_pow, Nat.testBit_shiftRight]
  rfl

theorem Fld.into_bit (f : Fld) (w : Word) (v i : Nat) : (f.into w v).getLsbD i =
    if f.lo ≤ i ∧ i < f.hi + 1 ∧ i < 32 then v.testBit (i - f.lo) else w.getLsbD i := by
  unfold Fld.into
  simp only [BitVec.getLsbD_or, BitVec.getLsbD_and, BitVec.getLsbD_not, maskOf_bit, BitVec.getLsbD_ofNat, Nat.testBit_shiftLeft]
  by_cases h1 : f.lo ≤ i <;> by_cases h2 : i < f.hi + 1 <;> by_cases h3 : i < 32 <;> simp [h1, h2, h3]
  all_goals exact BitVec.getLsbD_of_ge w i (by omega)

theorem Fld.of_lt (f : Fld) (w : Word) : f.of w < 2 ^ f.width := Nat.mod_lt _ (Nat.two_pow_pos _)

/-- A field read back is what was put in, cut to its width. -/
theorem Fld.of_into (f : Fld) (w : Word) (v : Nat) (h : f.ok = true) : f.of (f.into w v) = v % 2 ^ f.width := by
  simp only [Fld.ok, Bool.and_eq_true, decide_eq_true_eq] at h
  apply Nat.eq_of_testBit_eq
  intro i
  rw [Fld.of_bit, Fld.into_bit, Nat.testBit_mod_two_pow]
  by_cases hi : i < f.width
  · have : f.lo ≤ f.lo + i ∧ f.lo + i < f.hi + 1 ∧ f.lo + i < 32 := by unfold Fld.width at hi; omega
    simp [hi, this]
  · simp [hi]

/-- A field apart from the one put in is unchanged. -/
theorem Fld.of_into_sep (f g : Fld) (w : Word) (v : Nat) (h : g.hi < f.lo ∨ f.hi < g.lo) : g.of (f.into w v) = g.of w := by
  apply Nat.eq_of_testBit_eq
  intro i
  rw [Fld.of_bit, Fld.of_bit, Fld.into_bit]
  by_cases hi : i < g.width
  · rw [if_neg]
    unfold Fld.width at hi
    omega
  · simp [hi]

/-! ### The register store -/

theorem State.rd_wr (s : State) (a b : Nat) (w : Word) : (s.wr a w).rd b = if b = a then w else s.rd b :=
  Tab.get_set resetWord a w s.regs b

@[simp] theorem State.rd_wr_same (s : State) (a : Nat) (w : Word) : (s.wr a w).rd a = w := by rw [State.rd_wr]; simp

theorem State.rd_wr_ne (s : State) {a b : Nat} (w : Word) (h : b ≠ a) : (s.wr a w).rd b = s.rd b := by rw [State.rd_wr]; simp [h]

/-- Every register write keeps the store's canonical form. -/
theorem State.wr_wf (s : State) (a : Nat) (w : Word) (h : Tab.wf resetWord s.regs = true) : Tab.wf resetWord (s.wr a w).regs = true :=
  Tab.wf_set resetWord a w s.regs h

theorem State.rd_put (s : State) (f : Fld) (v : Nat) (b : Nat) :
    (s.put f v).rd b = if b = f.addr then f.into (s.rd f.addr) v else s.rd b := State.rd_wr s f.addr b _

theorem State.rd_put_ne (s : State) (f : Fld) (v : Nat) {b : Nat} (h : b ≠ f.addr) : (s.put f v).rd b = s.rd b := State.rd_wr_ne s _ h

/-- The field just set. -/
theorem State.get_put_same (s : State) (f : Fld) (v : Nat) (h : f.ok = true) : (s.put f v).get f = v % 2 ^ f.width := by
  unfold State.get State.put
  rw [State.rd_wr_same, Fld.of_into f _ v h]

/-- Any field apart from the one set. -/
theorem State.get_put_sep (s : State) (f g : Fld) (v : Nat) (h : f.sep g = true) : (s.put f v).get g = s.get g := by
  simp only [Fld.sep, Bool.or_eq_true, bne_iff_ne, decide_eq_true_eq] at h
  unfold State.get State.put
  rw [State.rd_wr]
  by_cases ha : g.addr = f.addr
  · have : g.hi < f.lo ∨ f.hi < g.lo := by
      rcases h with (h | h) | h
      · exact absurd ha.symm h
      · exact Or.inl h
      · exact Or.inr h
    rw [if_pos ha, Fld.of_into_sep f g _ v this, ha]
  · rw [if_neg ha]

theorem State.get_wr_ne (s : State) (g : Fld) {a : Nat} (w : Word) (h : g.addr ≠ a) : (s.wr a w).get g = s.get g := by
  unfold State.get; rw [State.rd_wr_ne s w h]

/-- A field's bits above the word read 0. -/
theorem Fld.of_high (f : Fld) (w : Word) (h : 31 < f.lo) : f.of w = 0 := by
  apply Nat.eq_of_testBit_eq
  intro i
  rw [Fld.of_bit, BitVec.getLsbD_of_ge w _ (by omega)]
  simp

/-- A field of another register than the one written whole. -/
theorem State.get_wr_sep (s : State) (g : Fld) {a : Nat} (w : Word) (h : (whole a).sep g = true) : (s.wr a w).get g = s.get g := by
  simp only [Fld.sep, Bool.or_eq_true, bne_iff_ne, decide_eq_true_eq] at h
  change (a ≠ g.addr ∨ g.hi < 0) ∨ 31 < g.lo at h
  rcases h with (h | h) | h
  · exact State.get_wr_ne s g w (Ne.symm h)
  · unfold State.get
    rw [State.rd_wr]
    by_cases ha : g.addr = a
    · omega
    · rw [if_neg ha]
  · unfold State.get
    rw [Fld.of_high g _ h, Fld.of_high g _ h]

/-! ### Frames: what a step keeps of the registers -/

theorem Keeps.refl (l : List Fld) (s : State) : Keeps l s s := fun _ _ => rfl

/-- The same registers in force are the same for every frame. -/
theorem Keeps.of_regs {l : List Fld} {s t u : State} (h : Keeps l s t) (e : u.regs = t.regs) : Keeps l s u := by
  intro f hf
  rw [← h f hf]
  unfold State.get State.rd
  rw [e]

theorem Keeps.mono {l m : List Fld} {s t : State} (h : Keeps l s t) (hm : ∀ g ∈ l, g ∈ m) : Keeps m s t :=
  fun f hf => h f fun g hg => hf g (hm g hg)

theorem Keeps.trans {l : List Fld} {s t u : State} (h : Keeps l s t) (k : Keeps l t u) : Keeps l s u :=
  fun f hf => (k f hf).trans (h f hf)

/-- Setting a listed field keeps the rest. -/
theorem Keeps.put {l : List Fld} {s t : State} (h : Keeps l s t) (g : Fld) (v : Nat) (hg : g ∈ l) : Keeps l s (t.put g v) := by
  intro f hf
  rw [State.get_put_sep t g f v (hf g hg), h f hf]

/-- Writing a listed register whole keeps the rest. -/
theorem Keeps.wr {l : List Fld} {s t : State} (h : Keeps l s t) (a : Nat) (w : Word) (ha : whole a ∈ l) : Keeps l s (t.wr a w) := by
  intro f hf
  rw [State.get_wr_sep t f w (hf _ ha), h f hf]

theorem Keeps.cause {l : List Fld} {s t : State} (h : Keeps l s t) (c : Nat) (h0 : F.RD_IRQ_PEND0_PEND ∈ l) (h1 : F.RD_IRQ_PEND1_PEND ∈ l) :
    Keeps l s (t.cause c) := by
  unfold State.cause
  split
  · exact h.put _ _ h0
  · exact h.put _ _ h1

theorem Keeps.raise {l : List Fld} {s t : State} (h : Keeps l s t) (f : Fld) (c : Nat) (hf : f ∈ l) (h0 : F.RD_IRQ_PEND0_PEND ∈ l)
    (h1 : F.RD_IRQ_PEND1_PEND ∈ l) : Keeps l s (t.raise f c) := by
  unfold State.raise
  split
  · exact h
  · exact (h.put f 1 hf).cause c h0 h1

theorem State.get_wr_same (s : State) (g : Fld) (w : Word) : (s.wr g.addr w).get g = g.of w := by
  unfold State.get; rw [State.rd_wr_same]

theorem State.get_lt (s : State) (f : Fld) : s.get f < 2 ^ f.width := Fld.of_lt f _

theorem State.on_iff (s : State) (f : Fld) : s.on f = true ↔ s.get f ≠ 0 := by simp [State.on]

theorem State.on_put_sep (s : State) (f g : Fld) (v : Nat) (h : f.sep g = true) : (s.put f v).on g = s.on g := by
  unfold State.on; rw [State.get_put_sep s f g v h]

theorem State.getI_put_sep (s : State) (f g : Fld) (v : Nat) (h : f.sep g = true) : (s.put f v).getI g = s.getI g := by
  unfold State.getI; rw [State.get_put_sep s f g v h]

/-! ### Pending values (R10) -/

/-- A pending value is what a read then returns. -/
@[simp] theorem State.pendWord_setPend_same (s : State) (a : Nat) (w : Word) : (s.setPend a w).pendWord a = w := by
  simp [State.pendWord, State.setPend]

theorem State.pendWord_setPend_ne (s : State) {a b : Nat} (w : Word) (h : b ≠ a) : (s.setPend a w).pendWord b = s.pendWord b := by
  have : Tab.get (fun _ => (none : Option Word)) (s.setPend a w).pend b = Tab.get (fun _ => none) s.pend b :=
    Tab.get_set_ne (fun _ => none) (some w) s.pend h
  unfold State.pendWord; rw [this]; rfl

/-! ### Status flags and causes (R570) -/

theorem State.cause_of_lt (s : State) {c : Nat} (h : c < 32) :
    s.cause c = s.put F.RD_IRQ_PEND0_PEND (setBit (s.get F.RD_IRQ_PEND0_PEND) c) := by simp [State.cause, h]

theorem State.cause_of_ge (s : State) {c : Nat} (h : 32 ≤ c) :
    s.cause c = s.put F.RD_IRQ_PEND1_PEND (setBit (s.get F.RD_IRQ_PEND1_PEND) (c - 32)) := by simp [State.cause, Nat.not_lt.mpr h]

/-- A status bit already set raises nothing. -/
theorem State.raise_set (s : State) (f : Fld) (c : Nat) (h : s.on f = true) : s.raise f c = s := by simp [State.raise, h]

/-- A status bit that goes from 0 to 1 sets its cause pending. -/
theorem State.raise_clear (s : State) (f : Fld) (c : Nat) (h : s.on f = false) : s.raise f c = (s.put f 1).cause c := by
  simp [State.raise, h]

/-- What a write of one cause leaves alone: every register but the two pending words. -/
theorem State.rd_cause_ne (s : State) (c : Nat) {b : Nat} (h0 : b ≠ F.RD_IRQ_PEND0_PEND.addr) (h1 : b ≠ F.RD_IRQ_PEND1_PEND.addr) :
    (s.cause c).rd b = s.rd b := by
  unfold State.cause; split
  · exact State.rd_put_ne _ _ _ h0
  · exact State.rd_put_ne _ _ _ h1

theorem State.rd_raise_ne (s : State) (f : Fld) (c : Nat) {b : Nat} (hf : b ≠ f.addr)
    (h0 : b ≠ F.RD_IRQ_PEND0_PEND.addr) (h1 : b ≠ F.RD_IRQ_PEND1_PEND.addr) : (s.raise f c).rd b = s.rd b := by
  unfold State.raise; split
  · rfl
  · rw [State.rd_cause_ne _ _ h0 h1, State.rd_put_ne _ _ _ hf]

end Sys2Proof.Machine
end

