-- ==== Sys2Proof/Laws/Ops.lean ====
section
/-!
SUPPORT. The shared ways a command runs: what each answers, and that the interrupt outputs follow the causes after it.
-/

namespace Sys2Proof.Machine

open Sys2Proof

variable {s t : State}

/-! ### What a run answers -/

theorem run_acts (f : State → State) (h : s.acts) : run f s = .next (settle (f s.fresh)) := by
  unfold run; unfold State.acts at h; simp [h]

theorem run_held (f : State → State) (h : s.held = true) : run f s = .next (settle s.fresh) := by
  unfold run; simp [h]

theorem runHeld_eq (f : State → State) : runHeld f s = .next (settle (f s.fresh)) := (rfl)

theorem runRind_acts (f : State → State) (h : s.rindActs) : runRind f s = .next (settle (f s.fresh)) := by
  unfold runRind; unfold State.rindActs at h; simp [h]

theorem runAlways_powered (f : State → State) (h : s.powered) : runAlways f s = .next (settle (f s.fresh)) := by
  unfold runAlways; simp [h.1, h.2]

theorem runF_ok (f : State → Except Fault State) (h : s.acts) (hf : f s.fresh = .ok t) : runF f s = .next (settle t) := by
  unfold runF; unfold State.acts at h; simp [h, hf]

theorem runF_error (f : State → Except Fault State) {e : Fault} (h : s.acts) (hf : f s.fresh = .error e) : runF f s = .fault e := by
  unfold runF; unfold State.acts at h; simp [h, hf]

theorem runRindF_ok (f : State → Except Fault State) (h : s.rindActs) (hf : f s.fresh = .ok t) : runRindF f s = .next (settle t) := by
  unfold runRindF; unfold State.rindActs at h; simp [h, hf]

theorem runRindF_error (f : State → Except Fault State) {e : Fault} (h : s.rindActs) (hf : f s.fresh = .error e) :
    runRindF f s = .fault e := by
  unfold runRindF; unfold State.rindActs at h; simp [h, hf]

theorem acts_rind (h : s.acts) : s.rindActs := by
  unfold State.acts State.held at h
  simp only [Bool.or_eq_false_iff] at h
  unfold State.rindActs State.rindHeld
  simp [h.1.1.1, h.1.1.2, h.2]

theorem rind_powered (h : s.rindActs) : s.powered := by
  unfold State.rindActs State.rindHeld at h
  simp only [Bool.or_eq_false_iff] at h
  exact ⟨h.1.1, h.1.2⟩

@[simp] theorem only_true (f : State → State) : only true f s = f s := (rfl)
@[simp] theorem onlyE_true (f : State → Except Fault State) : onlyE true f s = f s := (rfl)

theorem only_pos {b : Bool} (f : State → State) (h : b = true) : only b f s = f s := by subst h; rfl

theorem onPort_pos (p : Nat) (f : State → State) (h : s.hasPort p = true) : onPort p f s = f s := by simp [onPort, h]
theorem onPortE_pos (p : Nat) (f : State → Except Fault State) (h : s.hasPort p = true) : onPortE p f s = f s := by simp [onPortE, h]

@[simp] theorem State.fresh_out : s.fresh.out = [] := (rfl)
@[simp] theorem State.send_out (o : Out) : (s.send o).out = s.out ++ [o] := (rfl)
@[simp] theorem State.fresh_kept : s.fresh.kept = s.kept := (rfl)
@[simp] theorem settle_kept : (settle s).kept = s.kept := (rfl)
@[simp] theorem State.wr_kept (a : Nat) (w : Word) : (s.wr a w).kept = s.kept := (rfl)
@[simp] theorem State.put_kept (f : Fld) (v : Nat) : (s.put f v).kept = s.kept := (rfl)
@[simp] theorem State.putB_kept (f : Fld) (v : Bool) : (s.putB f v).kept = s.kept := (rfl)
@[simp] theorem State.putI_kept (f : Fld) (v : Int) : (s.putI f v).kept = s.kept := (rfl)
@[simp] theorem State.inc_kept (f : Fld) : (s.inc f).kept = s.kept := (rfl)
@[simp] theorem State.addSat_kept (f : Fld) (n : Nat) : (s.addSat f n).kept = s.kept := (rfl)
@[simp] theorem State.bump_kept (f : Fld) : (s.bump f).kept = s.kept := (rfl)
@[simp] theorem State.flag_kept (f : Fld) : (s.flag f).kept = s.kept := (rfl)
@[simp] theorem State.cause_kept (c : Nat) : (s.cause c).kept = s.kept := by unfold State.cause; split <;> rfl
@[simp] theorem State.raise_kept (f : Fld) (c : Nat) : (s.raise f c).kept = s.kept := by
  unfold State.raise; split
  · rfl
  · simp
@[simp] theorem State.send_kept (o : Out) : (s.send o).kept = s.kept := (rfl)
@[simp] theorem State.reply_kept (l : List Nat) : (s.reply l).kept = s.kept := (rfl)

/-! ### Fields after the named updates -/

theorem State.get_inc_same (f : Fld) (h : f.ok = true) : (s.inc f).get f = s.more f := by
  have h2 : (2 : Nat) ^ f.width - 1 < 2 ^ f.width := Nat.sub_lt (Nat.two_pow_pos _) Nat.one_pos
  unfold State.inc State.addSat State.more
  rw [State.get_put_same s f _ h, Nat.mod_eq_of_lt (lt_of_le_of_lt (min_le_right _ _) h2)]

theorem State.get_inc_sep (f g : Fld) (h : f.sep g = true) : (s.inc f).get g = s.get g := State.get_put_sep s f g _ h
theorem State.get_addSat_sep (f g : Fld) (n : Nat) (h : f.sep g = true) : (s.addSat f n).get g = s.get g := State.get_put_sep s f g _ h
theorem State.get_bump_same (f : Fld) (h : f.ok = true) : (s.bump f).get f = s.wrap f := State.get_put_same s f _ h
theorem State.get_bump_sep (f g : Fld) (h : f.sep g = true) : (s.bump f).get g = s.get g := State.get_put_sep s f g _ h
theorem State.get_flag_sep (f g : Fld) (h : f.sep g = true) : (s.flag f).get g = s.get g := State.get_put_sep s f g _ h
theorem State.get_putB_sep (f g : Fld) (b : Bool) (h : f.sep g = true) : (s.putB f b).get g = s.get g := State.get_put_sep s f g _ h
theorem State.get_putI_sep (f g : Fld) (v : Int) (h : f.sep g = true) : (s.putI f v).get g = s.get g := State.get_put_sep s f g _ h

/-- A field wide enough holds the value put in. -/
theorem State.get_put_fit (f : Fld) (v : Nat) (h : f.ok = true) (hv : v < 2 ^ f.width) : (s.put f v).get f = v := by
  rw [State.get_put_same s f v h, Nat.mod_eq_of_lt hv]

theorem Fld.width_pos (f : Fld) (h : f.ok = true) : 1 < 2 ^ f.width := by
  simp only [Fld.ok, Bool.and_eq_true, decide_eq_true_eq] at h
  exact Nat.one_lt_two_pow (by unfold Fld.width; omega)

theorem State.on_flag_same (f : Fld) (h : f.ok = true) : (s.flag f).on f = true := by
  unfold State.flag State.on
  rw [State.get_put_fit f 1 h (Fld.width_pos f h)]; rfl

theorem State.get_putB_same (f : Fld) (b : Bool) (h : f.ok = true) : (s.putB f b).get f = if b then 1 else 0 := by
  unfold State.putB
  rw [State.get_put_fit f _ h]
  have := Fld.width_pos f h
  cases b
  · exact lt_trans Nat.one_pos this
  · exact this

theorem State.get_cause_ne (c : Nat) (g : Fld) (h0 : g.addr ≠ F.RD_IRQ_PEND0_PEND.addr) (h1 : g.addr ≠ F.RD_IRQ_PEND1_PEND.addr) :
    (s.cause c).get g = s.get g := by unfold State.get; rw [State.rd_cause_ne s c h0 h1]

theorem State.get_raise_sep (f : Fld) (c : Nat) (g : Fld) (h : f.sep g = true) (h0 : g.addr ≠ F.RD_IRQ_PEND0_PEND.addr)
    (h1 : g.addr ≠ F.RD_IRQ_PEND1_PEND.addr) : (s.raise f c).get g = s.get g := by
  unfold State.raise; split
  · rfl
  · rw [State.get_cause_ne c g h0 h1, State.get_put_sep s f g 1 h]

theorem State.on_raise_same (f : Fld) (c : Nat) (h : f.ok = true) (h0 : f.addr ≠ F.RD_IRQ_PEND0_PEND.addr)
    (h1 : f.addr ≠ F.RD_IRQ_PEND1_PEND.addr) : (s.raise f c).on f = true := by
  unfold State.raise; split
  · assumption
  · unfold State.on; rw [State.get_cause_ne c f h0 h1, State.get_put_fit f 1 h (Fld.width_pos f h)]; rfl

theorem setBit_self (m i : Nat) : (setBit m i).testBit i = true := by
  unfold setBit; rw [Nat.testBit_or, Nat.testBit_two_pow_self]; simp

/-- A cause raised is pending (R570). -/
theorem State.pending_cause {c : Nat} (h : c < 37) : (s.cause c).pendingCause c = true := by
  unfold State.pendingCause
  by_cases hc : c < 32
  · rw [if_pos hc, State.cause_of_lt s hc, State.get_put_same s _ _ (by decide), Nat.testBit_mod_two_pow, setBit_self]
    simp [show F.RD_IRQ_PEND0_PEND.width = 32 from rfl, hc]
  · rw [if_neg hc, State.cause_of_ge s (by omega), State.get_put_same s _ _ (by decide), Nat.testBit_mod_two_pow, setBit_self]
    have : F.RD_IRQ_PEND1_PEND.width = 5 := rfl
    simp [this]; omega

/-- A status bit that rises makes its cause pending. -/
theorem State.pending_raise (f : Fld) {c : Nat} (h : c < 37) (hf : s.on f = false) : (s.raise f c).pendingCause c = true := by
  rw [State.raise_clear s f c hf, State.pending_cause h]

/-! ### The interrupt outputs follow the causes -/

/-- After any step's end the outputs follow (R572). -/
theorem settle_follow (s : State) : IrqFollow (settle s) := ⟨rfl, rfl⟩

theorem run_follow (f : State → State) (h : run f s = .next t) : IrqFollow t := by
  unfold run at h; cases h; exact settle_follow _

theorem runHeld_follow (f : State → State) (h : runHeld f s = .next t) : IrqFollow t := by
  unfold runHeld at h; cases h; exact settle_follow _

theorem runRind_follow (f : State → State) (h : runRind f s = .next t) : IrqFollow t := by
  unfold runRind at h; cases h; exact settle_follow _

theorem runAlways_follow (f : State → State) (h : runAlways f s = .next t) : IrqFollow t := by
  unfold runAlways at h; cases h; exact settle_follow _

theorem runF_follow (f : State → Except Fault State) (h : runF f s = .next t) : IrqFollow t := by
  unfold runF at h; split at h
  · cases h; exact settle_follow _
  · split at h
    · cases h; exact settle_follow _
    · cases h

theorem runRindF_follow (f : State → Except Fault State) (h : runRindF f s = .next t) : IrqFollow t := by
  unfold runRindF at h; split at h
  · cases h; exact settle_follow _
  · split at h
    · cases h; exact settle_follow _
    · cases h

end Sys2Proof.Machine
end

