-- ==== Sys2Proof/Tests/Slice0.lean ====
section
/-!
SUPPORT. The package's own tests: the check of operands refuses what it must, the manual's worked examples, single steps, and for every
statement with hypotheses a state and operands that meet them.
-/

namespace Sys2Proof.Tests

open Sys2Proof Sys2Proof.Machine

set_option Elab.async false
set_option linter.unusedVariables false

/-! ### Small states -/

/-- A helper of the tests. -/
def secBytes (e : Nat × Nat × Nat) (n : Nat) (body : List Nat) : List Nat :=
  [e.1, e.2.1] ++ leBytes 2 e.2.2 ++ leBytes 4 (0x200 + 64 * n) ++ leBytes 4 body.length ++ leBytes 4 (crc32 body)
/-- the bytes of an image: header, table, sections of 8 bytes from 0x200 on, and the signature block with KEY_INDEX 1 -/
def image (h : MouldHeader) (secs : List (Nat × Nat × Nat)) (r s : Nat) : List Nat :=
  let body := List.replicate 8 0xA5
  let head := headerBytes { h with totalLen := 0x200 + 64 * secs.length + 68, sections := secs.length }
  let table := (secs.zipIdx.map fun e => secBytes e.1 e.2 body).flatten
  head ++ leBytes 4 (crc32 head) ++ table ++ List.replicate (256 - table.length) 0 ++
    (secs.map fun _ => body ++ List.replicate 56 0).flatten ++ [1, 0, 0, 0] ++ (leBytes 32 r).reverse ++ (leBytes 32 s).reverse
/-- A helper of the tests. -/
def hdr (role se ph du : Nat) : MouldHeader := { totalLen := 0, role := role, senderEnd := se, phases := ph, sections := 0, wallId := 0x12345678, mouldSeq := 9, frateMax := 60000, minFw := 0, dieUse := du, hdrCrc := 0 }
/-- A small image of a sender. -/
def mS : MouldImage := {
  raw := image (hdr 1 3 1 0x23) [(0x10, 5, 0), (0x20, 1, 0), (0x21, 1, 0), (0x22, 1, 0), (0x11, 5, 0), (0x11, 5, 1)] 0xb49f202880a27aa3bd1b8b3d066f992dfef3a5ae9c44431b7eb606320d36089e 0xaa4f88c51c6dfdb0b537d84af14351f03f7a3b94f794ad3d877c214040a82b1b
  lanes := [⟨0,3,4,4⟩]
  chains := [⟨0,0,[⟨0,0,8,4⟩,⟨8,0,8,4⟩]⟩]
  dram := [{ vat := 0, channels := 3, installed := 0x10000000, traffic := 100 }] }
/-- A small image of a tile. -/
def mT : MouldImage := {
  raw := image (hdr 2 0 1 0xA3) [(0x10, 5, 0), (0x22, 1, 0), (0x30, 1, 0), (0x31, 7, 0)] 0x7e5bd01e962a3e5bf60d1d30fb70af535620a329919092c7d622d51c220f8c73 0x5d3ba41191fad7c6ed062760b399b7fabe83fd278a51a3d025d0fb2a1e9153b9
  lanes := [⟨0,3,4,4⟩,⟨1,3,4,4⟩]
  dram := [{ vat := 0, channels := 3, installed := 0x10000000, traffic := 100 }]
  press := [⟨0,1,1,4⟩]
  mregs := [(F.PR_SLOT_MOULD_ROW_FINE.addr, BitVec.ofNat 32 (0x1000000+2000)), (F.PR_SLOT_MOULD_LEAD_LEAD.addr, 2000), (F.PR_SLOT_MOULD_BLANK_BLANK.addr, BitVec.ofNat 32 (100*65536+500)), (F.PR_SLOT_MOULD_CTRL_DIV.addr, 4)]
  tile := { w := 8, h := 4, corr0 := 0, corr1 := 0x10000, lampMap := 0x20000, status := 0x30000, recs := 0x40000, mods := [⟨0,⟨0,0,8,4⟩⟩] } }
/-- the public key the images are signed under, as the key slot's 16 words hold it -/
def testKey : List Word := [0xAE84AD9F, 0xEFBB08AE, 0x1400017F, 0x6AEF2CD8, 0x0C2BDE09, 0xCEB571F8, 0x131D4F0C, 0x34599AA5, 0x7645CB07, 0xE270109F, 0xE50F47C2, 0x31E6BFB1, 0xCDB0C033, 0xBFA44EC6, 0xECA89137, 0x4FFD072A]
/-- the bytes of a firmware image: header, 60 bytes, and the signature block with KEY_INDEX 0 -/
def fwImage (version rollback roles r s : Nat) : FwImage :=
  let head := leBytes 4 0x57464748 ++ leBytes 2 1 ++ leBytes 2 256 ++ leBytes 4 384 ++ leBytes 4 version ++ [rollback, roles] ++ leBytes 2 1 ++ leBytes 2 1 ++ List.replicate 230 0
  ⟨head ++ leBytes 4 (crc32 head) ++ List.replicate 60 0xA5 ++ [0, 0, 0, 0] ++ (leBytes 32 r).reverse ++ (leBytes 32 s).reverse⟩
/-- A helper of the tests. -/
def fw1 : FwImage := fwImage 1 0 14 0x99c83c1b07d3b6aa715c20b2df33caf3f459631fc91a0942ba8e40aaa65a65e2 0xc0dc8c37fa11c8643f5ec48d91c9fe09cf73c7d7bdd54564690a935ca4d75606
/-- A helper of the tests. -/
def fw2 : FwImage := fwImage 2 0 14 0xf33fcb7630e0b7c94c8e52805620fea6e410924906f18a310a3b73cc49091187 0x7db9242b958272e59abf4e9c043bd6f6d338aa4c5904d00b40b664530f1cbd24
/-- A helper of the tests. -/
def fw3 : FwImage := fwImage 2 3 14 0xba389f69aaa5285c835ceb47755af8eb4216af34435a3cf2d05172e96ed37f2e 0xecfbc5aea225144fccc5ce29b8901c8d2461204cea7268752d7e3a4379acbe34
/-- A helper of the tests. -/
def base (m : MouldImage) : State := { State.reset with nv := { ({} : Nv) with enrolled := 3, keys := [(0, holtucKey), (1, testKey)], slotA := { state := 3, fw := some fw1, mould := some m } } }

/-- the first bytes of an image: ROLE, WALL_ID, MOULD_SEQ -/
def mN (role : Nat) : MouldImage := { raw := List.replicate 12 0 ++ [role, 0, 0, 0] ++ leBytes 4 0x12345678 ++ leBytes 2 9 }
/-- the state after reset with some fields set -/
def withF (l : List (Fld × Nat)) (s : State) : State := l.foldl (fun s e => s.put e.1 e.2) s
/-- A state the tests use. -/
def wReset : State := State.reset
/-- a running part of a role -/
def wRole (r : Nat) : State := withF [(F.RD_DIE_STATE_ROLE, r), (F.RD_DIE_STATE_DIE_ON, 255), (F.RD_DIE_STATE_DIE_RUN, 255), (F.RD_MOULD_STATUS_STATE, 1), (F.RD_MOULD_STATUS_VALID, 1)] State.reset
/-- A state the tests use. -/
def wSender : State := wRole 1
/-- A state the tests use. -/
def wTile : State := wRole 2
/-- A state the tests use. -/
def wK24 : State := wRole 3
/-- A state the tests use. -/
def wTrain (n : Nat) : State := withF [((F.CH_TRAIN_STATE_STATE 0), n)] wSender
/-- A state the tests use. -/
def wTileTrain (n : Nat) : State := withF [((F.CH_TRAIN_STATE_STATE 0), n)] wTile
/-- A state the tests use. -/
def wRun (s : State) : State := { s with raster := { s.raster with running := true } }
/-- training sets received on each of five lanes, as a fresh sender's port sends them with every lane locked -/
def wSets (ty n : Nat) : List (List (List Nat)) := List.replicate 5 (List.replicate n ((wSender.setPort 0 fun x => { x with locked := 31 }).trainSet 0 ty 0))
/-- the same as the ten-bit codes of the line -/
def wCodes (ty n : Nat) : List (List (List Nat)) := (wSets ty n).map fun l => l.map (encodeLane true)
/-- a tile that locks, with directions valid -/
def wTileA (n : Nat) : State := withF [((F.CH_RASTER_STATE_STATE 0), n)] { wRun wTile with enum := { wTile.enum with validA := true, validB := true } }
/-- A state the tests use. -/
def wReady : State := withF [((F.CH_RASTER_STATE_STATE 0), 2), ((F.CH_TRAIN_STATE_STATE 0), 8), ((F.CH_ENUM_ADDR_COUNT 0), 1)]
  { wTile with mould := { wTile.mould with loaded := some default }, tileRx := { wTile.tileRx with caveDone := true } }
/-- port 0 of a sender LINKED with lanes 0 to 3 active, lane 4 spare -/
def wLanes : State := (List.range 4).foldl (fun s i => withF [(F.HP_LANE_STATE_RXS i, 3), (F.HP_LANE_STATE_TXS i, 3), (F.HP_LANE_STATE_CDR_LOCK i, 1)] s)
  (withF [(F.HP_LANE_STATE_RXS 4, 4), (F.HP_LANE_STATE_TXS 4, 4), (F.HP_LANE_STATE_CDR_LOCK 4, 1), (F.CH_LANE_MAP_RX_ACTIVE 0, 15), (F.CH_LANE_MAP_RX_SPARE 0, 16), (F.CH_LANE_MAP_TX_ACTIVE 0, 15), (F.CH_LANE_MAP_TX_SPARE 0, 16), (F.HP_CAL_MAP_RX_L0 0, 0), (F.HP_CAL_MAP_RX_L1 0, 1), (F.HP_CAL_MAP_RX_L2 0, 2), (F.HP_CAL_MAP_RX_L3 0, 3), (F.HP_CAL_MAP_RX_SPARE 0, 4), (F.HP_CAL_MAP_TX_SPARE 0, 4)] (wTrain 8))
/-- the same with a calibration step in progress -/
def wCal (c : CalStep) (st : Nat) : State := withF [(F.HP_CAL_STATUS_STEP 0, st)] (wLanes.setCal 0 fun x => { x with step := some c })
/-- a tile with address 4 of 8 whose ports are LINKED -/
def wLinked : State := { (wTile.setRxMap 0 15 16 |>.setRxMap 1 15 16 |>.setTxMap 0 15 16 |>.setTxMap 1 15 16 |> withF [((F.CH_TRAIN_STATE_STATE 0), 8), ((F.CH_TRAIN_STATE_STATE 1), 8), ((F.CH_ENUM_ADDR_COUNT 0), 4)]) with enum := { n := 8, origin := 1, validA := true, validB := true } }
/-- received copies of an urgent set on four lanes, and the columns that four lanes receive -/
def urg4 (code arg : Nat) : List (List Nat) := List.replicate 4 (urgentSyms code arg)
/-- A state the tests use. -/
def cols4 (l : List Nat) : List (List Nat) := (encodeColumns (List.replicate 4 false) (outColumns 4 false l)).1
/-- A state the tests use. -/
def seg4 (g : Segment) : List (List Nat) := cols4 (segmentSyms g false)
/-- A state the tests use. -/
def rd4 : List Bool := List.replicate 4 false
/-- that tile as the acting referee, ACTIVE A -/
def wRef : State := { withF [((F.CH_FO_TILE_ACTIVE 0), 1), ((F.CH_FO_TILE_PDIR 0), 1)] wLinked with tileRx := { wLinked.tileRx with ready := true }, fo := { adopted := true, refInit := false } }
/-- a sender with an image loaded, its port 0 LINKED -/
def wImg : State := { wTrain 8 with mould := { wSender.mould with loaded := some mS } }
/-- a tile of 8 by 4 that receives frame 9 -/
def wRx : State := let s := withF [(F.RD_MOULD_INFO_PHASES, 1)] wRef
  { s with mould := { s.mould with loaded := some mT }, tileRx := { s.tileRx with rx := true, rxOk := true, fnum := 9 }, raster := { s.raster with fnum := 9 } }
/-- the same with every row covered -/
def wRxAll : State := { wRx with tileRx := { wRx.tileRx with coverA := (List.range 4).foldl (fun t r => Tab.set (fun _ => []) r (spanIns 0 8 []) t) [], cur := (List.range 4).foldl (fun t r => Tab.set (fun _ => []) r (List.replicate 8 7) t) [] } }
/-- an image with one source engine and the stores of its die -/
def mSrc : MouldImage := { mS with sources := [⟨0, 0, 0, false, 3⟩], stores := [⟨0, 0, 0, 2, 4, 0, 16, 32⟩, ⟨0, 1, 0, 2, 4, 48, 64, 80⟩, ⟨0, 2, 0, 2, 4, 96, 112, 128⟩] }
/-- a sender with that image, its engine 0 of V0 waiting, its stores laid out -/
def wSrc : State := ({ withF [(F.VT_ING_STATUS_STATE 0 0, 2), (fsStride 0, 2), (fsMaxRows 0, 4), (fsBase 0 1, 16), (fsBase 0 2, 32), (fsNewest 0, 3), (fsWriting 0, 3), (fsStride 4, 2), (fsMaxRows 4, 4), (fsBase 4 0, 48), (fsBase 4 1, 64), (fsBase 4 2, 80), (fsNewest 4, 3), (fsWriting 4, 3), (fsStride 8, 2), (fsMaxRows 8, 4), (fsNewest 8, 3), (fsWriting 8, 3), (F.VT_TGT_CTRL_ASSIGNED 0 0, 1), (F.VT_TGT_REGION_WH_W 0 0, 8), (F.VT_TGT_REGION_WH_H 0 0, 4)] wSender with mould := { wSender.mould with loaded := some mSrc } }).setIng 0 0 fun x => { x with lock := 1 }
/-- the places of that image's stores -/
def lay00 : StoreCfg := ⟨0, 0, 0, 2, 4, 0, 16, 32⟩
/-- A state the tests use. -/
def lay04 : StoreCfg := ⟨0, 1, 0, 2, 4, 48, 64, 80⟩
/-- A state the tests use. -/
def lay08 : StoreCfg := ⟨0, 2, 0, 2, 4, 96, 112, 128⟩
/-- A state the tests use. -/
def fmt0 : SrcFormat := { w := 16, h := 2, num := 60, den := 1, code := 0, depth := 12, range := 0, bond := 0 }
/-- the engine in a frame -/
def wIngFrame : State := (withF [(F.VT_ING_STATUS_STATE 0 0, 3), (fsWriting 0, 1)] wSrc).setIng 0 0 fun x => { x with inForce := some fmt0, frame := some { fmt := fmt0, sframe := 7, lay := lay00, target := some 1, tag := 9, begun := 1 } }
/-- a READY tile of 8 by 4 with one Press port and a schedule -/
def wPress : State := let s := withF [(F.PR_PORT_GEOM_USED 0, 1), (F.PR_PORT_GEOM_MUX 0, 4), (F.PR_PORT_GEOM_DRIVERS 0, 1), (F.PR_PORT_GEOM_LINES 0, 1), (F.PR_SLOT_MOULD_ROW_FINE, 1), (F.PR_SLOT_MOULD_ROW_ROW_SLOT, 200000), (F.PR_SLOT_MOULD_LEAD_LEAD, 20000), (F.PR_SLOT_MOULD_BLANK_BLANK, 500), (F.PR_SLOT_MOULD_BLANK_ROWA_DLY, 100), (F.PR_SLOT_MOULD_CTRL_DIV, 4)] wRxAll
  { s with tileRx := { s.tileRx with showing := true }, press := { lit := 1 }, tp := { s.tp with lampMap := [(0, 0x80000000), (1, 0x80011000)], counts := [(countKey 0 0 0, some [(0, 5)]), (countKey 0 1 0, some [(1, 6)])] } }
/-- a sender whose DRAM channel 0 runs -/
def wDram : State := withF [(F.VT_DRAM_STATE_STATE 0, 2), (F.VT_DRAM_CFG_SIZE 0, 4), (F.VT_DRAM_CFG_DENSITY 0, 1)] wSender
/-- a sender whose network ports are enabled, with a frame of 60 bytes at offset 0x8000 in queue 2 of each, and a receive descriptor -/
def wNet : State := (List.range 2).foldl (fun s n => ((((withF [((F.RD_NET_CTRL_EN n), 1), ((F.RD_NET_CTRL_MAXLEN n), 1522)] s).setPword n 0x800 0xC000003C).setPword n 0x804 0x12008000).setPword n 0x1000 0x80009000).setPword n 0x1004 1600) wSender
/-- the same with that frame being sent, its number of attempts a parameter -/
def wNetTx (n k : Nat) : State := wNet.setNet n fun p => { p with tx := some ⟨2, k, 5, 6⟩ }
/-- a broadcast frame of 64 bytes with a right FCS -/
def bcast (ty : Nat) : List Nat := let l := List.replicate 12 255 ++ [ty / 256, ty % 256] ++ List.replicate 46 7; l ++ fcsOf l
/-- a sender with the wheel on, an empty bank 1 and one entry in bank 0 -/
def wWheel : State := (withF [(F.RD_WHEEL_CTRL_WHEEL_EN, 1)] (wRun wSender)).wr (atWHEEL 0x100) 0xA5000100
/-- a sender whose audio port 1 runs at 48 kHz -/
def wAud : State := withF [((F.RD_AUD_CTRL_EN 1), 1), ((F.RD_AUD_DELAY_VALID 1), 1), ((F.RD_AUD_STATUS_STATE 1), 2), ((F.RD_AUD_STATUS_FS 1), 3)] ((wRun wSender).setAud 1 fun _ => { inp := { ok := true, rate := 3 }, outp := { ok := true, rate := 3 }, line := [{ l := 5, r := 6, flags := 0, tick := 0, nonpcm := false }], got := 1, next := some 0, gain := 48 })
/-- a K24 tile of 8 by 4 with address 3, both legacy lanes locked, its picture coming -/
def wVs : State := { withF [(F.RD_K24_WIDTH_WIDTH, 8), (F.RD_K24_HEIGHT_HEIGHT, 4), (F.RD_K24_ADDR_ADDR, 3), ((F.CH_RASTER_STATE_STATE 0), 2)] (wRun wK24) with k24 := { vs := true, lock := 3, periods := [16666666], good := 9 } }
/-- a sender that runs slot A, slot B staged, at frame 100, an activation due at frame 200 -/
def wFw : State := { withF [(F.RD_FW_SCHED_FNUM_S, 200), (F.RD_FW_CFG_TRIES_INIT, 3), (F.RD_FW_CFG_CONFIRM_WIN, 60)] { wImg with ports := [] } with
  upd := { slot := some 0, run := some fw1 }, nv := ({ wImg.nv with enrolled := 2 }).setSlot 1 { state := 1, fw := some fw2, mould := some mS }, raster := { wImg.raster with num := 60, fnum := 100 } }
/-- the same on trial in slot B -/
def wTrial : State := { wFw with upd := { slot := some 1, run := some fw2 }, nv := wFw.nv.mark 1 2 }
/-- a tile with address 4 that receives a package -/
def wFwRx : State := { wLinked with upd := { wLinked.upd with slot := some 0, run := some fw1, rx := { state := 1, kind := 1, total := 3, id := 2, last := 4, buf := [1, 2] } }, nv := { wLinked.nv with enrolled := 3 } }
/-- a sender distributing a package on port 0 -/
def wDist : State := withF [((F.CH_DIST_STATUS_STATE 0), 1), ((F.CH_DIST_STATUS_AT 0), 2)] { wFw with nv := { wFw.nv with pkg := some ⟨fw2, mT⟩ }, upd := { wFw.upd with dist := [(0, some { dst := 1, kind := 1, total := 3, id := 2, mseq := 0, last := 2, dirB := false })] }, ports := [(0, { heard := 6 })] }
/-- points of two sweeps, open 20 and 40 around the centre, and at the centre alone, at a dwell of 2^20 bits -/
def eye20 : List EyePoint := (List.range 21).flatMap fun (k : Nat) => [⟨(k : Int), 0, 2 ^ 19, 2 ^ 19, 0, 0⟩, ⟨-(k : Int), 0, 2 ^ 19, 2 ^ 19, 0, 0⟩, ⟨0, (k : Int), 2 ^ 20, 2 ^ 20, 0, 0⟩, ⟨0, -(k : Int), 2 ^ 20, 2 ^ 20, 0, 0⟩]
/-- A state the tests use. -/
def eye1 : List EyePoint := [⟨0, 0, 2 ^ 19, 2 ^ 19, 0, 0⟩]
/-- A state the tests use. -/
def rq (sev : Nat) (ns : Nat) : LogReq := ⟨sev, 1, 0x0C02, 9, true, 113, 5, ns, 1, 2, 0⟩
/-- A state the tests use. -/
def ent (n : Nat) : LogEntry := LogEntry.sealed { seq := n, startN := 3, rep := 0, lastFnum := 9, req := rq 1 100, crc := 0 }
/-- a sender whose ring holds an entry and whose logger has an event -/
def wLog : State := { wSender with log := { ring := [ent 7], seq := 7, startN := 3, queue := [rq 1 200] } }
/-- a sender with MSI-X on, cause 5 pending and enabled on vector 0 -/
def wMsix : State := settle { withF [(F.RD_IRQ_PEND0_PEND, 32), (F.RD_IRQ_EN0_EN, 32)] wSender with pcie := { ready := true, busMaster := true, msixEnable := true, vecMask := 0, table := [(0, (0xFEE00000, 7))] } }
/-- a part whose firmware runs and whose slot A holds an image -/
def wBoot (m : MouldImage) : State := { withF [(F.RD_BOOT_STATUS_STAGE, 5), (F.RD_DIE_STATE_DIE_ON, 255)] (base m) with upd := { slot := some 0, run := some fw1 }, sys := { State.reset.sys with starting := false } }
/-- a single sender whose re-mould is in a state, with an image staged, at frame 100 -/
def wRm (st : Nat) : State := { withF [(F.RD_REMOULD_RESULT_STATE, st), (F.RD_MOULD_INFO_SENDER_END, 3), (F.RD_REMOULD_FNUM_FNUM, 200)] wFw with mould := { wFw.mould with staged := some mS, verified := true }, nv := { wFw.nv with staging := some mS } }


/-- Does the outcome go on, to a state that satisfies `f`? -/
def goesTo (o : Host.Outcome State Fault Refusal) (f : State → Bool) : Bool := match o with | .next t => f t | _ => false

/-! ### The manual's worked examples -/

/-- Chapter 04: STEP_N of 2,700 lines at 60 Hz. -/
theorem test_step_n : ({ ltotal := 2700, num := 60, den := 1 } : Raster).stepN = 10616832000 := by decide +kernel

/-- R145. -/
theorem test_pack_words : packWords [0x8004000C0, 0x123456789] = [0xC0, 0x00, 0x40, 0x00, 0x98, 0x78, 0x56, 0x34, 0x12] := by decide +kernel

/-- R137: K28.5 is 0011111010 or 1100000101; D21.5, IDL, is 1010101010 at either disparity (IEEE 802.3 clause 36). -/
theorem test_line_code : [encSym false symCom, encSym true symCom, encSym false symIdl, encSym true symIdl] = [0xFA, 0x305, 0x2AA, 0x2AA] := by decide +kernel

/-- R142: CHK of SAFE_DARK_ON is CODE xor ARG xor 0x5A. -/
theorem test_urgent_chk : urgentSyms 0x01 0x00 = [symUrg, 0x01, 0x00, 0x5B] := by decide +kernel

/-- R147 and R149: lengths and periods of segments of 512 and 1,024 words. -/
theorem test_segment_lengths : (segLen 512, segSpace 512, segLen 1024, segSpace 1024) = (2326, 2463, 4630, 4903) := by decide +kernel

/-- R234: 10-bit narrow and full range. -/
theorem test_comp12 : [comp12 10 1 502, comp12 10 1 940, comp12 10 0 1023, comp12 10 0 512] = [2048, 4095, 4095, 2050] := by decide +kernel

/-- Chapter 09: LIN of the two codes between which the scaler's example falls. -/
theorem test_lin : [lin 2 1145, lin 2 1146] = [293191, 293447] := by decide +kernel

/-- R256: the ends of the three tables. -/
theorem test_lin_ends : [lin 0 0, lin 1 0, lin 2 0, lin 0 4095, lin 1 4095, lin 2 4095] = [0, 0, 0, 0xFFFFF, 0xFFFFF, 0xFFFFF] := by decide +kernel

/-- R313: m[0][0] of chapter 11's lamp. -/
theorem test_interp : interp { coef := [(0, 14746), (9, 15073)] } (0, 124) 0 0 = 14904 := by decide +kernel

/-- R316, R317, R320: the same lamp's W20, scaled value and count. -/
theorem test_matrix : (applyMatrix [14904, 740, -164, 0, 0, 0, 0, 0, 0] [293191, 213044, 49164]).head? = some 275837 := by decide +kernel
theorem test_scale : (scaleLamp 0xC000 0x10000 275837, scaleLamp 0xC000 0xF000 275837) = (206878, 193948) := by decide +kernel
theorem test_encode_count : encodeCount {} 206878 = 13559 := by decide +kernel
theorem test_on_time : onTime {} 13559 = 204400 := by decide +kernel

/-- R550: the legacy correction of Ledmore tile 7. -/
theorem test_k24_arith : (gammaCurve 128, k24Arith 14386 150 200 0x10000) = (14386, 13237) := by decide +kernel

/-- R472: the module sensor's bytes 0x46, 0x40. -/
theorem test_mod_sample : modSample (some (0x46, 0x40)) = some 562 := by decide +kernel

/-- R370: die address 0x0400_6060 of an 8 Gb channel. -/
theorem test_locate : (withF [(F.VT_DRAM_CFG_DENSITY 1, 1)] wTile).locate 1 0x02003020 = { rank := 0, bg := 0, ba := 0, row := 256, col := 48 } ∧
    dieAddr 1 0x02003020 = 0x04006060 := by decide +kernel

/-- FIPS 180-4's example: the digest of "abc". -/
theorem test_sha256 : sha256 [0x61, 0x62, 0x63] = 0xba7816bf8f01cfea414140de5dae2223b00361a396177a9cb410ff61f20015ad := by decide +kernel

/-- R47: an image verifies under the key it was signed with and not under another, nor with a byte changed. -/
theorem test_signature : ([mS.signedBy ((base mS).nv.keyBytes 1), mS.signedBy ((base mS).nv.keyBytes 0),
    { mS with raw := mS.raw.set 0x200 0 }.signedBy ((base mS).nv.keyBytes 1)]) = [true, false, false] := by decide +kernel

/-- R569: renderer store 0 of V1, buffer 2. -/
theorem test_bar2_slot : bar2Slot 0x2408658C0 = some (1, storeKey 1 skRenderer 0, 2) ∧ 0x2408658C0 % 2 ^ 29 = 8804544 := by decide +kernel

/-! ### Single steps -/

/-- An empty queue idles. -/
theorem test_idle : step State.reset = .next State.reset := rfl

/-- R570, R21: clearing the pending bit of the only live cause releases IRQ_N. -/
theorem test_pend_clear : goesTo (exec (.registerWrite 0x700 32) wMsix) (fun t => t.get F.RD_IRQ_PEND0_PEND == 0 && !t.pcie.irqN) = true := by
  decide +kernel

/-- R9: the reserved bits of RD_IRQ_MAP. -/
theorem test_reserved_bits : (match exec (.registerWrite 0x744 0xFF) wSender with | .fault (.unpredictable 9) => true | _ => false) = true := by
  decide +kernel

/-- R100: one tick of 1,125 lines at 60 Hz adds 11 units and carries 23,680,000 of 400,000,000. -/
theorem test_raster_tick : goesTo (exec .rasterTick (wRun wSender)) (fun t => t.raster.rpos == 11 && t.raster.acc == 1125 * 65536 * 60 - 11 * 400000000) = true := by
  decide +kernel

/-- R71: a part held by RESET_N takes no step. -/
theorem test_held : goesTo (exec .rasterTick { wRun wSender with sys := { wSender.sys with resetLow := true } }) (fun t => t.raster.rpos == 0) = true := by
  decide +kernel

/-- R246: OPEN gives the lowest free buffer. -/
theorem test_open : goesTo (exec (.openBuf 0 0) (withF [(F.VT_RND_FMT_WIDTH 0 0, 16), (F.VT_RND_FMT_HEIGHT 0 0, 2)] wSrc))
    (fun t => (t.rnd 0 0).buf == some 0 && t.get (F.VT_RND_RESULT_STATE 0 0) == 1) = true := by decide +kernel


/-! ### The check of operands refuses what it must -/

/-- The end of a packet that names nothing beyond its form. -/
def e0 : PktEnd := {}

/-- A RASTER packet of zeros. -/
def r0 : RasterPkt := ⟨0, 0, 0, 0, false, false, 0, 0, 0, 0, 0, 0, 0, 0⟩

/-- Commands each of which breaks one bound, the others kept. -/
theorem test_ill_formed_1 : ([
  .registerWrite 1 0, .gatedWindowAccess 1 false, .pixelPairLowWrite 1 0, .pixelPairHighWrite 1 0,
  .pixelPairLowRead 1, .dieLinkReplay 8 0, .dieLinkReplay 0 8, .dieLinkFail 8 0,
  .dieLinkFail 0 8, .signalDetectChange 112 false, .trainDetectExit 16, .trainCommaDone 16 [],
  .trainAnnounceDone 16 0 [], .trainConfirmDone 16 [], .trainRateDone 16 default, .trainDeskewDone 16 default [],
  .trainHopmeasDone 16 default, .trainLimitExpiry 16, .trainEnergyLost 16, .trainWaitExpiry 16,
  .enumSend 16, .enumRepeat 16, .enum ⟨16, e0⟩ 1 0 0 0 0 0 false, .enum ⟨0, e0⟩ 0 0 0 0 0 0 false,
  .enum ⟨0, e0⟩ 4 0 0 0 0 0 false, .enum ⟨0, e0⟩ 1 0 0 4294967296 0 0 false, .enum ⟨0, e0⟩ 1 0 0 0 65536 0 false, .enum ⟨0, e0⟩ 1 0 0 0 0 4294967296 false,
  .enum ⟨0, { e0 with src := 256 }⟩ 1 0 0 0 0 0 false, .enum ⟨0, { e0 with check := 2 ^ 32 }⟩ 1 0 0 0 0 0 false, .chainLineStart 16 0 [], .fetchUrgencyChange 16 0,
  .trackUpdate 16 default, .delayMarkerRoundTrip 16 false 0 0, .skpSend 16, .safeDarkOn false ⟨0, [[0]]⟩,
  .safeDarkOn false ⟨0, [[0, 0, 0, 513]]⟩, .safeDarkOff false ⟨0, [[0]]⟩, .safeDarkOff false ⟨0, [[0, 0, 0, 513]]⟩, .takeover 16 0 [],
  .takeover 0 0 ([[0]]), .takeover 0 0 ([[0, 0, 0, 513]]), .segdown 16 0 [], .segdown 0 0 ([[0]]),
  .segdown 0 0 ([[0, 0, 0, 513]]), .urgentSetBadCode 16 [], .urgentSetBadCode 0 ([[0]]), .urgentSetBadCode 0 ([[0, 0, 0, 513]]),
  .chUrgTx 16 0 0, .chUrgTx 0 256 0] : List Instr).all (fun i => !i.wf) = true := by decide +kernel

/-- Commands each of which breaks one bound, the others kept. -/
theorem test_ill_formed_2 : ([
  .chUrgTx 0 0 256, .segmentRx 16 [] false false false false, .segmentRx 0 ([[1024]]) false false false false, .segmentRx 0 ([[0, 0, 0, 0, 0]]) false false false false,
  .raster ⟨16, e0⟩ r0, .raster ⟨0, { e0 with src := 256 }⟩ r0, .raster ⟨0, { e0 with check := 2 ^ 32 }⟩ r0, .heartbeat ⟨16, e0⟩ 0 0 0 0 0 0 0 0,
  .heartbeat ⟨0, { e0 with src := 256 }⟩ 0 0 0 0 0 0 0 0, .heartbeat ⟨0, { e0 with check := 2 ^ 32 }⟩ 0 0 0 0 0 0 0 0, .delayRsp ⟨16, e0⟩ 0 0 0, .delayRsp ⟨0, { e0 with src := 256 }⟩ 0 0 0,
  .delayRsp ⟨0, { e0 with check := 2 ^ 32 }⟩ 0 0 0, .ack ⟨16, e0⟩ 0 0 0 0, .ack ⟨0, e0⟩ 256 0 0 0, .ack ⟨0, e0⟩ 0 256 0 0,
  .ack ⟨0, e0⟩ 0 0 256 0, .ack ⟨0, { e0 with src := 256 }⟩ 0 0 0 0, .ack ⟨0, { e0 with check := 2 ^ 32 }⟩ 0 0 0 0, .regWr 16 0 0 0 [] e0,
  .regWr 0 256 0 0 [] e0, .regWr 0 0 256 0 [] e0, .regWr 0 0 0 256 [] e0, .regWr 0 0 0 0 (List.replicate 249 0) e0,
  .regWr 0 0 0 0 [] { e0 with src := 256 }, .regWr 0 0 0 0 [] { e0 with check := 2 ^ 32 }, .regRd 16 0 0 0 [] e0, .regRd 0 256 0 0 [] e0,
  .regRd 0 0 256 0 [] e0, .regRd 0 0 0 256 [] e0, .regRd 0 0 0 0 (List.replicate 249 0) e0, .regRd 0 0 0 0 [] { e0 with src := 256 },
  .regRd 0 0 0 0 [] { e0 with check := 2 ^ 32 }, .rdResp ⟨16, e0⟩ 0 0 0 [], .rdResp ⟨0, e0⟩ 256 0 0 [], .rdResp ⟨0, e0⟩ 0 256 0 [],
  .rdResp ⟨0, e0⟩ 0 0 256 [], .rdResp ⟨0, e0⟩ 0 0 0 (List.replicate 63 0), .rdResp ⟨0, { e0 with src := 256 }⟩ 0 0 0 [], .rdResp ⟨0, { e0 with check := 2 ^ 32 }⟩ 0 0 0 [],
  .commitGoPacket ⟨16, e0⟩ 0 0 0 [], .commitGoPacket ⟨0, e0⟩ 256 0 0 [], .commitGoPacket ⟨0, e0⟩ 0 256 0 [], .commitGoPacket ⟨0, e0⟩ 0 0 256 [],
  .commitGoPacket ⟨0, e0⟩ 0 0 0 (List.replicate 249 0), .commitGoPacket ⟨0, { e0 with src := 256 }⟩ 0 0 0 [], .commitGoPacket ⟨0, { e0 with check := 2 ^ 32 }⟩ 0 0 0 [], .remould ⟨16, e0⟩ 0 0 false 0 0 0,
  .remould ⟨0, e0⟩ 256 0 false 0 0 0, .remould ⟨0, e0⟩ 0 256 false 0 0 0] : List Instr).all (fun i => !i.wf) = true := by decide +kernel

/-- Commands each of which breaks one bound, the others kept. -/
theorem test_ill_formed_3 : ([
  .remould ⟨0, { e0 with src := 256 }⟩ 0 0 false 0 0 0, .remould ⟨0, { e0 with check := 2 ^ 32 }⟩ 0 0 false 0 0 0, .ctrlBadType ⟨16, e0⟩ 0 0 ⟨0, 0, []⟩, .ctrlBadType ⟨0, e0⟩ 0 0 ⟨256, 0, []⟩,
  .ctrlBadType ⟨0, e0⟩ 256 0 ⟨0, 0, []⟩, .ctrlBadType ⟨0, e0⟩ 0 256 ⟨0, 0, []⟩, .ctrlBadType ⟨0, e0⟩ 0 0 ⟨0, 256, []⟩, .ctrlBadType ⟨0, e0⟩ 0 0 ⟨0, 0, List.replicate 249 0⟩,
  .ctrlBadType ⟨0, { e0 with src := 256 }⟩ 0 0 ⟨0, 0, []⟩, .ctrlBadType ⟨0, { e0 with check := 2 ^ 32 }⟩ 0 0 ⟨0, 0, []⟩, .ctrlRetryTimeout 16 0, .ctrlRetryTimeout 0 256,
  .broadcastConfirmTimeout 16, .status ⟨16, e0⟩ (List.replicate 32 0), .status ⟨0, e0⟩ (List.replicate 33 0), .status ⟨0, e0⟩ (256 :: List.replicate 31 0),
  .status ⟨0, { e0 with src := 256 }⟩ (List.replicate 32 0), .status ⟨0, { e0 with check := 2 ^ 32 }⟩ (List.replicate 32 0), .outcrc ⟨16, e0⟩ 0 0 [] [], .outcrc ⟨0, e0⟩ 33 0 [] [],
  .outcrc ⟨0, { e0 with src := 256 }⟩ 0 0 [] [], .outcrc ⟨0, { e0 with check := 2 ^ 32 }⟩ 0 0 [] [], .lampfault ⟨16, e0⟩ 0 0 [] false false, .lampfault ⟨0, e0⟩ 33 0 [] false false,
  .lampfault ⟨0, e0⟩ 0 0 (List.replicate 62 (0, 0)) false false, .lampfault ⟨0, { e0 with src := 256 }⟩ 0 0 [] false false, .lampfault ⟨0, { e0 with check := 2 ^ 32 }⟩ 0 0 [] false false, .tileHb ⟨16, e0⟩ 0 0 0 0 0 0,
  .tileHb ⟨0, e0⟩ 33 0 0 0 0 0, .tileHb ⟨0, { e0 with src := 256 }⟩ 0 0 0 0 0 0, .tileHb ⟨0, { e0 with check := 2 ^ 32 }⟩ 0 0 0 0 0 0, .pcrcMissing 16 1 0,
  .pcrcMissing 0 33 0, .pcrcMissing 0 1 4, .laneRetire 16 0, .laneRetire 0 5,
  .portCrc 16, .linkLoss 16 default, .retrain 16, .ctrlTxCmd 16 0,
  .ctrlRxPop 16, .wheyPop 16, .statusCopyRead 16 1, .statusCopyRead 0 33,
  .refSwitch 24, .refSwitchBack 24, .cdrLockLoss 112, .txRampStep 112,
  .laneTxWrite 112 0, .laneRxmanWrite 112 0] : List Instr).all (fun i => !i.wf) = true := by decide +kernel

/-- Commands each of which breaks one bound, the others kept. -/
theorem test_ill_formed_4 : ([
  .prbsSync ⟨112, []⟩, .prbsSyncLoss 112 [] [], .prbsClr 112, .prbsInject 112,
  .testEnWrite 24 0, .testRateChange 24 0, .testRateChange 0 4, .eyeScanStart 112 0,
  .eyeScanDone 112 [] [] [], .eyeScanAbort 112 false, .calStepStart 24, .calForce 24,
  .clearTrim 24, .bridge ⟨16, e0⟩ 0 0 0 0, .bridge ⟨0, e0⟩ 0 4 0 0, .bridge ⟨0, e0⟩ 0 0 5 0,
  .bridge ⟨0, e0⟩ 0 0 0 5, .bridge ⟨0, { e0 with src := 256 }⟩ 0 0 0 0, .bridge ⟨0, { e0 with check := 2 ^ 32 }⟩ 0 0 0 0, .bridged ⟨16, e0⟩ 0,
  .bridged ⟨0, { e0 with src := 256 }⟩ 0, .bridged ⟨0, { e0 with check := 2 ^ 32 }⟩ 0, .calCompareDone 16 false, .switched ⟨16, e0⟩ 0 0 0 0,
  .switched ⟨0, e0⟩ 0 4 0 0, .switched ⟨0, e0⟩ 0 0 5 0, .switched ⟨0, e0⟩ 0 0 0 5, .switched ⟨0, { e0 with src := 256 }⟩ 0 0 0 0,
  .switched ⟨0, { e0 with check := 2 ^ 32 }⟩ 0 0 0 0, .lanecmdDone ⟨16, e0⟩ 0, .lanecmdDone ⟨0, { e0 with src := 256 }⟩ 0, .lanecmdDone ⟨0, { e0 with check := 2 ^ 32 }⟩ 0,
  .retire ⟨16, e0⟩ 0 0, .retire ⟨0, e0⟩ 0 5, .retire ⟨0, { e0 with src := 256 }⟩ 0 0, .retire ⟨0, { e0 with check := 2 ^ 32 }⟩ 0 0,
  .drop ⟨16, e0⟩ 0 0 0, .drop ⟨0, e0⟩ 0 5 0, .drop ⟨0, { e0 with src := 256 }⟩ 0 0 0, .drop ⟨0, { e0 with check := 2 ^ 32 }⟩ 0 0 0,
  .dropped ⟨16, e0⟩ 0, .dropped ⟨0, { e0 with src := 256 }⟩ 0, .dropped ⟨0, { e0 with check := 2 ^ 32 }⟩ 0, .lanecmdTimeout 16,
  .calMeasureDone 24 [] [] [] [] [] [], .calSettleTimeout 24, .affinageRampStep 112 false, .sourcePortLock ⟨8, []⟩,
  .format 8 0 default none e0, .linePacket 8 0 0 0 false [] default] : List Instr).all (fun i => !i.wf) = true := by decide +kernel

/-- Commands each of which breaks one bound, the others kept. -/
theorem test_ill_formed_5 : ([
  .ingestFrameComplete 4 0, .ingestFrameComplete 0 2, .ingestStop 4 0 0, .ingestStop 0 2 0,
  .ingestStop 0 0 4, .ingestOverflow 4 0 [], .ingestOverflow 0 2 [], .stopHoldExpiry 4 0,
  .stopHoldExpiry 0 2, .openBuf 4 0, .openBuf 0 2, .fence 4 0,
  .fence 0 2, .fenceFlushDone 4 0, .fenceFlushDone 0 2, .abortBuf 4 0,
  .abortBuf 0 2, .bar2Write 0 ⟨[256], []⟩, .composeLine 4 0 0 [] [], .composeLine 0 16 0 [] [],
  .writeBackPublish 4 0, .writeBackPublish 0 16, .writeBackDrop 4 0, .writeBackDrop 0 16,
  .ocrcCapture 16, .ocrcCompare 16, .ocrcTimeout 16, .ocrcDiffPop 16,
  .rowCorrect 4 0 [], .rowEncode 4 0 [] [] [], .tsetWrite 4 0, .windowLead 4 [],
  .rowSlotStart 4 0 [], .lampTest 4 0 [] [], .rowProbe 4 [] [], .pinReadbackCheck 16 default,
  .pinStuckClear 16, .outputCrcComplete 16, .dramRequest 8 [] 0 0, .dramRequest 0 [] 0 3,
  .refreshPoint 8, .forcedRefresh 8, .zqcs 8, .dramTempRead 8 0,
  .dramTempRead 0 3, .patrolScrub 8 ⟨0, 0⟩, .patrolScrub 0 ⟨0, 3⟩, .rowRepair 8 default,
  .repairRecopyDone 8, .dramFreqJudge 4] : List Instr).all (fun i => !i.wf) = true := by decide +kernel

/-- Commands each of which breaks one bound, the others kept. -/
theorem test_ill_formed_6 : ([
  .dramFreqChange 4, .unfitEntry 16, .yield 16, .netTxFrame 2 false,
  .netTxDone 2, .netRxFrame 2 [], .netRxFrame 0 [256], .pauseRx 65536,
  .noWindow 2 0, .noWindow 0 4, .wheelBankWrite 2 0 0, .wheelBankWrite 0 64 0,
  .triggerArm 2 0, .triggerFire 2, .captureEdge 2 false false, .txtsPop 2,
  .capPop 2, .audioMonitorEdge 4 false 0, .audioMonitorStop 4 false, .audioRateMeasure 4 false,
  .audioBlockRx 4 [], .audioOutputBlock 4 [], .audioDelayRecompute 4, .audioUnderrun 4 0,
  .audioTsPop 4, .audioCsInRead 4, .dieSensorSample 8 0 0, .throttleStepDown 8,
  .moduleSensorSample 16 none, .thermalTrip 8 0 0, .thLimitWrite 2 0, .crcStart 4,
  .crcData 4 0 0, .crcData 0 3 0, .crcConfigWrite 4 0 0, .crcConfigWrite 0 1 0,
  .crcConfigWrite 0 256 0, .crcResultComplete 4, .crcStateRead 4, .crcResultInfoRead 4,
  .fwBegin ⟨16, e0⟩ 0 0 0 0 0 0 0 0 false, .fwBegin ⟨0, e0⟩ 256 0 0 0 0 0 0 0 false, .fwBegin ⟨0, e0⟩ 0 256 0 0 0 0 0 0 false, .fwBegin ⟨0, e0⟩ 0 0 256 0 0 0 0 0 false,
  .fwBegin ⟨0, { e0 with src := 256 }⟩ 0 0 0 0 0 0 0 0 false, .fwBegin ⟨0, { e0 with check := 2 ^ 32 }⟩ 0 0 0 0 0 0 0 0 false, .fwData ⟨16, e0⟩ 0 0 0 0 [], .fwData ⟨0, e0⟩ 256 0 0 0 [],
  .fwData ⟨0, e0⟩ 0 256 0 0 [], .fwData ⟨0, e0⟩ 0 0 256 0 []] : List Instr).all (fun i => !i.wf) = true := by decide +kernel

/-- Commands each of which breaks one bound, the others kept. -/
theorem test_ill_formed_7 : ([
  .fwData ⟨0, e0⟩ 0 0 0 0 (List.replicate 241 0), .fwData ⟨0, e0⟩ 0 0 0 0 [256], .fwData ⟨0, { e0 with src := 256 }⟩ 0 0 0 0 [], .fwData ⟨0, { e0 with check := 2 ^ 32 }⟩ 0 0 0 0 [],
  .fwEnd ⟨16, e0⟩ 0 0 0 0, .fwEnd ⟨0, e0⟩ 256 0 0 0, .fwEnd ⟨0, e0⟩ 0 256 0 0, .fwEnd ⟨0, e0⟩ 0 0 256 0,
  .fwEnd ⟨0, { e0 with src := 256 }⟩ 0 0 0 0, .fwEnd ⟨0, { e0 with check := 2 ^ 32 }⟩ 0 0 0 0, .fwActivate ⟨16, e0⟩ 0 0 0 0 0 0 0, .fwActivate ⟨0, e0⟩ 256 0 0 0 0 0 0,
  .fwActivate ⟨0, e0⟩ 0 256 0 0 0 0 0, .fwActivate ⟨0, { e0 with src := 256 }⟩ 0 0 0 0 0 0 0, .fwActivate ⟨0, { e0 with check := 2 ^ 32 }⟩ 0 0 0 0 0 0 0, .fwConfirm ⟨16, e0⟩ 0 0 0,
  .fwConfirm ⟨0, e0⟩ 256 0 0, .fwConfirm ⟨0, e0⟩ 0 256 0, .fwConfirm ⟨0, { e0 with src := 256 }⟩ 0 0 0, .fwConfirm ⟨0, { e0 with check := 2 ^ 32 }⟩ 0 0 0,
  .fwAbort ⟨16, e0⟩ 0 0 0, .fwAbort ⟨0, e0⟩ 256 0 0, .fwAbort ⟨0, e0⟩ 0 256 0, .fwAbort ⟨0, e0⟩ 0 0 256,
  .fwAbort ⟨0, { e0 with src := 256 }⟩ 0 0 0, .fwAbort ⟨0, { e0 with check := 2 ^ 32 }⟩ 0 0 0, .fwState ⟨16, e0⟩ 0 (List.replicate 24 0), .fwState ⟨0, e0⟩ 33 (List.replicate 24 0),
  .fwState ⟨0, e0⟩ 0 (List.replicate 25 0), .fwState ⟨0, e0⟩ 0 (256 :: List.replicate 23 0), .fwState ⟨0, { e0 with src := 256 }⟩ 0 (List.replicate 24 0), .fwState ⟨0, { e0 with check := 2 ^ 32 }⟩ 0 (List.replicate 24 0),
  .distStart 16 0, .distAbort 16 0, .enroll 4, .revoke 4,
  .unlock 4, .vs false [1024] default, .ls false [1024], .k24Write false [1024],
  .k24Read false [1024], .k24Block false [1024], .rsp ⟨false, [1024]⟩, .updData 256,
  .irqCause 37, .msixSend 32, .irqConfigWrite 1 0, .dbgAccess 1 none,
  .legacyLaneLock 112, .legacyLaneLockLost 112] : List Instr).all (fun i => !i.wf) = true := by decide +kernel

/-- Commands each of which breaks one bound, the others kept. -/
theorem test_ill_formed_8 : ([
  .chainRefMarkerRx 16 0 r0, .idleTimerExpiry 8 0, .dramClassPromotion 8 0, .calAdaptationSettled 24 0,
  .ingFmtRead 4 0, .ingFmtRead 0 2, .errLastRead 8, .ocrcInfoRead 16] : List Instr).all (fun i => !i.wf) = true := by decide +kernel

/-- The same commands with every bound kept. -/
theorem test_well_formed_1 : ([
  .registerWrite 0 0, .gatedWindowAccess 0 false, .pixelPairLowWrite 0 0, .pixelPairHighWrite 0 0,
  .pixelPairLowRead 0, .dieLinkReplay 0 0, .dieLinkFail 0 0, .signalDetectChange 0 false,
  .trainDetectExit 0, .trainCommaDone 0 [], .trainAnnounceDone 0 0 [], .trainConfirmDone 0 [],
  .trainRateDone 0 default, .trainDeskewDone 0 default [], .trainHopmeasDone 0 default, .trainLimitExpiry 0,
  .trainEnergyLost 0, .trainWaitExpiry 0, .enumSend 0, .enumRepeat 0,
  .enum ⟨0, e0⟩ 1 0 0 0 0 0 false, .chainLineStart 0 0 [], .fetchUrgencyChange 0 0, .trackUpdate 0 default,
  .delayMarkerRoundTrip 0 false 0 0, .skpSend 0, .safeDarkOn false ⟨0, []⟩, .safeDarkOff false ⟨0, []⟩,
  .takeover 0 0 [], .segdown 0 0 [], .urgentSetBadCode 0 [], .chUrgTx 0 0 0,
  .segmentRx 0 [] false false false false, .raster ⟨0, e0⟩ r0, .heartbeat ⟨0, e0⟩ 0 0 0 0 0 0 0 0, .delayRsp ⟨0, e0⟩ 0 0 0,
  .ack ⟨0, e0⟩ 0 0 0 0, .regWr 0 0 0 0 [] e0, .regRd 0 0 0 0 [] e0, .rdResp ⟨0, e0⟩ 0 0 0 [],
  .commitGoPacket ⟨0, e0⟩ 0 0 0 [], .remould ⟨0, e0⟩ 0 0 false 0 0 0, .ctrlBadType ⟨0, e0⟩ 0 0 ⟨0, 0, []⟩, .ctrlRetryTimeout 0 0,
  .broadcastConfirmTimeout 0, .status ⟨0, e0⟩ (List.replicate 32 0), .outcrc ⟨0, e0⟩ 0 0 [] [], .lampfault ⟨0, e0⟩ 0 0 [] false false,
  .tileHb ⟨0, e0⟩ 0 0 0 0 0 0, .pcrcMissing 0 1 0, .laneRetire 0 0, .portCrc 0,
  .linkLoss 0 default, .retrain 0, .ctrlTxCmd 0 0, .ctrlRxPop 0,
  .wheyPop 0, .statusCopyRead 0 1, .refSwitch 0, .refSwitchBack 0] : List Instr).all Instr.wf = true := by decide +kernel

/-- The same commands with every bound kept. -/
theorem test_well_formed_2 : ([
  .cdrLockLoss 0, .txRampStep 0, .laneTxWrite 0 0, .laneRxmanWrite 0 0,
  .prbsSync ⟨0, []⟩, .prbsSyncLoss 0 [] [], .prbsClr 0, .prbsInject 0,
  .testEnWrite 0 0, .testRateChange 0 0, .eyeScanStart 0 0, .eyeScanDone 0 [] [] [],
  .eyeScanAbort 0 false, .calStepStart 0, .calForce 0, .clearTrim 0,
  .bridge ⟨0, e0⟩ 0 0 0 0, .bridged ⟨0, e0⟩ 0, .calCompareDone 0 false, .switched ⟨0, e0⟩ 0 0 0 0,
  .lanecmdDone ⟨0, e0⟩ 0, .retire ⟨0, e0⟩ 0 0, .drop ⟨0, e0⟩ 0 0 0, .dropped ⟨0, e0⟩ 0,
  .lanecmdTimeout 0, .calMeasureDone 0 [] [] [] [] [] [], .calSettleTimeout 0, .affinageRampStep 0 false,
  .sourcePortLock ⟨0, []⟩, .format 0 0 default none e0, .linePacket 0 0 0 0 false [] default, .ingestFrameComplete 0 0,
  .ingestStop 0 0 0, .ingestOverflow 0 0 [], .stopHoldExpiry 0 0, .openBuf 0 0,
  .fence 0 0, .fenceFlushDone 0 0, .abortBuf 0 0, .bar2Write 0 ⟨[], []⟩,
  .composeLine 0 0 0 [] [], .writeBackPublish 0 0, .writeBackDrop 0 0, .ocrcCapture 0,
  .ocrcCompare 0, .ocrcTimeout 0, .ocrcDiffPop 0, .rowCorrect 0 0 [],
  .rowEncode 0 0 [] [] [], .tsetWrite 0 0, .windowLead 0 [], .rowSlotStart 0 0 [],
  .lampTest 0 0 [] [], .rowProbe 0 [] [], .pinReadbackCheck 0 default, .pinStuckClear 0,
  .outputCrcComplete 0, .dramRequest 0 [] 0 0, .refreshPoint 0, .forcedRefresh 0] : List Instr).all Instr.wf = true := by decide +kernel

/-- The same commands with every bound kept. -/
theorem test_well_formed_3 : ([
  .zqcs 0, .dramTempRead 0 0, .patrolScrub 0 ⟨0, 0⟩, .rowRepair 0 default,
  .repairRecopyDone 0, .dramFreqJudge 0, .dramFreqChange 0, .unfitEntry 0,
  .yield 0, .netTxFrame 0 false, .netTxDone 0, .netRxFrame 0 [],
  .pauseRx 0, .noWindow 0 0, .wheelBankWrite 0 0 0, .triggerArm 0 0,
  .triggerFire 0, .captureEdge 0 false false, .txtsPop 0, .capPop 0,
  .audioMonitorEdge 0 false 0, .audioMonitorStop 0 false, .audioRateMeasure 0 false, .audioBlockRx 0 [],
  .audioOutputBlock 0 [], .audioDelayRecompute 0, .audioUnderrun 0 0, .audioTsPop 0,
  .audioCsInRead 0, .dieSensorSample 0 0 0, .throttleStepDown 0, .moduleSensorSample 0 none,
  .thermalTrip 0 0 0, .thLimitWrite 0 0, .crcStart 0, .crcData 0 0 0,
  .crcConfigWrite 0 0 0, .crcResultComplete 0, .crcStateRead 0, .crcResultInfoRead 0,
  .fwBegin ⟨0, e0⟩ 0 0 0 0 0 0 0 0 false, .fwData ⟨0, e0⟩ 0 0 0 0 [], .fwEnd ⟨0, e0⟩ 0 0 0 0, .fwActivate ⟨0, e0⟩ 0 0 0 0 0 0 0,
  .fwConfirm ⟨0, e0⟩ 0 0 0, .fwAbort ⟨0, e0⟩ 0 0 0, .fwState ⟨0, e0⟩ 0 (List.replicate 24 0), .distStart 0 0,
  .distAbort 0 0, .enroll 0, .revoke 0, .unlock 0,
  .vs false [] default, .ls false [], .k24Write false [], .k24Read false [],
  .k24Block false [], .rsp ⟨false, []⟩, .updData 0, .irqCause 0] : List Instr).all Instr.wf = true := by decide +kernel

/-- The same commands with every bound kept. -/
theorem test_well_formed_4 : ([
  .msixSend 0, .irqConfigWrite 0 0, .dbgAccess 0 none, .legacyLaneLock 0,
  .legacyLaneLockLost 0, .chainRefMarkerRx 0 0 r0, .idleTimerExpiry 0 0, .dramClassPromotion 0 0,
  .calAdaptationSettled 0 0, .ingFmtRead 0 0, .errLastRead 0, .ocrcInfoRead 0] : List Instr).all Instr.wf = true := by decide +kernel

/-- The parts of a segment's form, and an offset outside BAR0. -/
theorem test_ill_formed_segments : ([
  ⟨256, 0, 0, 0, 0, 0, [0]⟩, ⟨1, 4, 0, 0, 0, 0, [0]⟩, ⟨1, 0, 4, 0, 0, 0, [0]⟩, ⟨1, 0, 0, 65536, 0, 0, [0]⟩, ⟨1, 0, 0, 0, 65536, 0, [0]⟩,
  ⟨1, 0, 0, 0, 0, 2 ^ 32, [0]⟩, ⟨1, 0, 0, 0, 0, 0, []⟩, ⟨1, 0, 0, 0, 0, 0, List.replicate 1025 0⟩] : List Segment).all (fun g => !segmentForm g) = true ∧
    (Instr.registerWrite 0x8000000 0).wf = false := by
  decide +kernel

/-! ### Every statement says something: states that meet its hypotheses -/

theorem witness_StepRunsFrontCommand : ∃ (c : Instr) (rest : List Instr) (s : State), s.pending = c :: rest :=
  ⟨.resetAssert, [.rasterTick], { State.reset with pending := [.resetAssert, .rasterTick] }, rfl⟩
theorem witness_StepRunsFrontCommand_empty : ∃ s : State, s.pending = [] := ⟨State.reset, rfl⟩
theorem witness_InterruptOutputsFollow : ∃ s t : State, IrqFollow s ∧ step s = .next t :=
  ⟨State.reset, State.reset, by unfold IrqFollow; decide +kernel, rfl⟩
theorem witness_HeldPartRests : ∃ (c : Instr) (s : State), (s.sys.resetLow = true ∨ s.sys.railsBad = true) ∧ c ≠ .resetAssert ∧
    (∀ r ram f b card, c ≠ .resetRelease r ram f b card) ∧ c ≠ .perstAssert ∧ c ≠ .perstRelease ∧ (∀ d, c ≠ .railFault d) ∧ c ≠ .railsGood :=
  ⟨.rasterTick, { wSender with sys := { wSender.sys with resetLow := true } }, by simp⟩
theorem witness_NoCommandRefused : ∃ c : Instr, c.checked = false := ⟨.perstAssert, rfl⟩
theorem witness_FaultsKnown : ∃ (c : Instr) (s : State) (e : Fault), exec c s = .fault e :=
  ⟨.registerWrite 6 0, State.reset, .unpredictable 5, rfl⟩
theorem witness_WordsPackInPairs : ∃ l : List Nat, (∀ w ∈ l, w < 2 ^ 36) ∧ 1 < l.length / 2 ∧ l.length % 2 = 1 :=
  ⟨[1, 2, 3, 4, 2 ^ 36 - 1], by decide +kernel⟩
theorem witness_BurstWords : ∃ j k : Nat, j < 14 ∧ k < 14 ∧ j ≠ k := ⟨13, 0, by decide⟩
theorem witness_PixelsApart : ∃ (c : StoreCfg) (b x y u v : Nat), x < 14 * c.stride ∧ u < 14 * c.stride ∧
    storeBurst c b x y = storeBurst c b u v ∧ x % 14 = u % 14 := ⟨⟨0, 0, 0, 2, 4, 0, 16, 32⟩, 1, 27, 3, 27, 3, by decide +kernel⟩
theorem witness_RasterDoesNotDrift : ∃ r : Raster, r.adj = 0 ∧ geometryOk r.ltotal r.num r.den = true ∧ r.rpos < r.total ∧ r.acc < r.stepD ∧
    r.fnum < 2 ^ 32 := ⟨{}, by decide +kernel⟩
theorem witness_FrameNumbersCompare : ∃ f d : Nat, f < 2 ^ 32 ∧ d < 2 ^ 31 ∧ 2 ^ 32 ≤ f + d := ⟨2 ^ 32 - 1, 2 ^ 31 - 1, by decide +kernel⟩
theorem witness_NearestCode : ∃ k v c : Nat, k < 3 ∧ v < 2 ^ 20 ∧ c < 4096 := ⟨2, 293192, 4095, by decide⟩
theorem witness_RowCoverage : ∃ l : List (Nat × Nat), (∀ e ∈ l, 0 < e.2) ∧ spanFull 8 (l.foldl (fun t e => spanIns e.1 e.2 t) []) = true :=
  ⟨[(6, 2), (0, 3), (2, 4)], by decide +kernel⟩
/-- The whole of a segment, sent on four lanes, reads back: SOS, 16 header bytes, payload, check value, EDB. -/
theorem witness_RowCoverage_segment : ∃ (m : Nat) (g : Segment) (rd : List Bool), 1 ≤ m ∧ m ≤ 4 ∧ rd.length = m ∧ segmentForm g = true ∧
    (∀ w ∈ g.words, w < 2 ^ 36) ∧ (segmentSyms g true).length = 22 + 14 + 0 ∧
    (readSegment m rd (encodeColumns rd (outColumns m false (segmentSyms g true))).1).map (·.seg) = some g :=
  ⟨4, ⟨32, 3, 2, 77, 65535, 2 ^ 32 - 1, [0xFFFFFFFFF, 0, 0x123456789]⟩, [false, true, false, true], by decide +kernel⟩
theorem witness_HeldPartRests_pin : ∃ s : State, s.held = true :=
  ⟨{ wSender with sys := { wSender.sys with tripped := true } }, by decide +kernel⟩
theorem witness_AccessTypes : ∃ r : RegDef, r.rwBits &&& r.w1cBits = 0 ∧ r.rwBits ≠ 0 := ⟨(regAt 0x708).getD ⟨"", 0, 0, 0, none, []⟩, by decide +kernel⟩
theorem witness_LoggerBounds : ∃ s t : State, s.log.queue.length ≤ 64 ∧ s.log.ring.length ≤ 2048 ∧ s.log.fatal.length ≤ 32 ∧ exec .logEvent s = .next t :=
  ⟨wLog, settle (opLogEvent wLog.fresh), by decide +kernel, by decide +kernel, by decide +kernel, rfl⟩


theorem witness_TrainingStates :
    (∃ (s : State) (lane : Nat) (on : Bool), (s.acts) ∧ (lane < 112)) ∧
    (∃ (s : State) (p : Nat), (s.acts) ∧ (s.hasPort p = true) ∧ (s.train p = trDetect) ∧ (s.energy p = true) ∧ (s.waitsOut p = false)) ∧
    (∃ (s : State) (p : Nat) (sets : List (List (List Nat))), let locked := lanesWith (s.readSets p sets) (setRun 8 tsA); (s.acts) ∧ (s.hasPort p = true) ∧ (s.train p = trComma) ∧ (locked ≠ 0)) ∧
    (∃ (s : State) (p held : Nat) (sets : List (List (List Nat))), let rx := s.readSets p sets; let locked := ((s.port p).locked ||| lanesWith rx (setRun 8 tsA)) &&& held; let v := decodeSet ((rx.getD ((bitsOf 5 locked).headD 0) []).headD []); (s.acts) ∧ (s.hasPort p = true) ∧ (s.train p = trAnnounce) ∧ (locked ≠ 0) ∧ ((bitsOf 5 locked).all (fun i => setRunSame 16 tsA (rx.getD i [])) = true) ∧ (s.noMouldTile = false) ∧ (v.rate = (s.port p).rate ∧ v.lanes = (s.port p).lanes)) ∧
    (∃ (s : State) (p l : Nat) (sets : List (List (List Nat))), (s.acts) ∧ (s.hasPort p = true) ∧ (s.train p = trConfirm) ∧ (s.heardLocked p 8 (s.readSets p sets) = some l)) ∧
    (∃ (s : State) (p l : Nat) (eq : List Word) (sets : List (List (List Nat))), (s.acts) ∧ (s.hasPort p = true) ∧ (s.train p = trRate) ∧ (s.heardLocked p 8 (s.readSets p sets) = some l)) ∧
    (∃ (s : State) (p skew : Nat) (sets : List (List (List Nat))), (s.acts) ∧ (s.hasPort p = true) ∧ (s.train p = trDeskew) ∧ (skew ≤ 32) ∧ ((setLocked p 31 s).heardLocked p 8 (s.readSets p sets) = some 31)) ∧
    (∃ (s : State) (p fwd : Nat) (d : Int), (s.acts) ∧ (p < 16) ∧ (s.isSender = true) ∧ (s.train p = trHopmeas) ∧ ((s.port p).rtCount = 256 ∨ s.senderEnd = 2)) :=
  ⟨⟨withF [(F.HP_LANE_STATE_RXS 3, 1)] wReset, 3, true, by decide +kernel⟩,
   ⟨withF [(F.HP_LANE_STATE_SIGDET 2, 1)] (wTrain trDetect), 0, by decide +kernel⟩,
   ⟨wTrain trComma, 0, wCodes tsA 8, by decide +kernel⟩,
   ⟨wTrain trAnnounce, 0, 31, wCodes tsA 16, by decide +kernel⟩,
   ⟨(wTrain trConfirm).setPort 0 fun x => { x with locked := 31 }, 0, 31, wCodes tsB 8, by decide +kernel⟩,
   ⟨(wTrain trRate).setPort 0 fun x => { x with locked := 31 }, 0, 31, [], wCodes tsB 8, by decide +kernel⟩,
   ⟨wTrain trDeskew, 0, 3, wCodes tsB 8, by decide +kernel⟩,
   ⟨(wTrain trHopmeas).setPort 0 fun x => { x with rtSum := 25600000, rtCount := 256 }, 0, 0, 0, by decide +kernel⟩⟩

theorem witness_TrainingFails :
    (∃ (s : State) (p : Nat), (s.acts) ∧ (s.hasPort p = true) ∧ (trComma ≤ s.train p) ∧ (s.train p ≤ trHopmeas)) ∧
    (∃ (s : State) (p : Nat), (s.acts) ∧ (s.hasPort p = true) ∧ (trComma ≤ s.train p) ∧ (s.train p ≤ trHopmeas) ∧ (s.energy p = false) ∧ (s.waitsOut p = false)) ∧
    (∃ (s : State) (p : Nat), (s.acts) ∧ (s.hasPort p = true) ∧ (s.train p = trWait) ∧ (s.waitsOut p = false)) ∧
    (∃ (s : State) (p held : Nat) (sets : List (List (List Nat))), let rx := s.readSets p sets; let locked := ((s.port p).locked ||| lanesWith rx (setRun 8 tsA)) &&& held; let v := decodeSet ((rx.getD ((bitsOf 5 locked).headD 0) []).headD []); (s.acts) ∧ (s.hasPort p = true) ∧ (s.train p = trAnnounce) ∧ (locked ≠ 0) ∧ ((bitsOf 5 locked).all (fun i => setRunSame 16 tsA (rx.getD i [])) = true) ∧ (s.noMouldTile = false) ∧ (v.rate ≠ (s.port p).rate ∨ v.lanes ≠ (s.port p).lanes)) :=
  ⟨⟨wTrain trDeskew, 0, by decide +kernel⟩,
   ⟨wTrain trRate, 0, by decide +kernel⟩,
   ⟨wTrain trWait, 0, by decide +kernel⟩,
   ⟨(wTrain trAnnounce).setPort 0 fun x => { x with rate := 3, lanes := 4 }, 0, 31, wCodes tsA 16, by decide +kernel⟩⟩

theorem witness_Enumeration :
    (∃ (s : State) (p : Nat), (s.acts) ∧ (s.hasPort p = true) ∧ (s.isSender = true) ∧ (s.linked p = true)) ∧
    (∃ (s : State) (p : Nat), (s.acts) ∧ (s.hasPort p = true) ∧ (s.isSender = true) ∧ (s.linked p = true) ∧ ((s.port p).enumStarted = true)) ∧
    (∃ (s : State) (p hop n wallId mouldSeq cum : Nat) (aOld : Bool) (w : PktEnd), (s.acts) ∧ (s.hasPort p = true) ∧ (s.isSender = true) ∧ (w.good (rxHead w (enumPkt 0 1 hop n wallId mouldSeq cum)))) ∧
    (∃ (s : State) (hop n wallId mouldSeq cum : Nat) (aOld : Bool) (w : PktEnd), (s.acts) ∧ (s.isTile = true) ∧ (s.enum.newestA = none) ∧ (s.enum.newestB = none) ∧ (n ≤ 32) ∧ (hop < n) ∧ (w.good (rxHead w (enumPkt 0 1 hop n wallId mouldSeq cum)))) ∧
    (∃ (s : State) , (s.acts) ∧ (s.tileLike = true) ∧ (s.linked 0 = true) ∧ (s.train 1 = trDetect) ∧ (s.enum.origin = 3)) ∧
    (∃ (s : State) , (s.acts) ∧ (s.tileRx.ready = false) ∧ (s.mayBeReady = true) ∧ (s.get (F.CH_RASTER_STATE_STATE 0) = 2)) ∧
    (∃ (s : State) , (s.acts) ∧ (s.isTile = true) ∧ (s.tileRx.caveDone = false)) :=
  ⟨⟨wTrain trLinked, 0, by decide +kernel⟩,
   ⟨(wTrain trLinked).setPort 0 fun x => { x with enumStarted := true }, 0, by decide +kernel⟩,
   ⟨wSender, 3, 12, 12, 1, 1, 5000, false, goodEnd (enumPkt 0 1 12 12 1 1 5000), by decide +kernel⟩,
   ⟨wTile, 4, 12, 1, 1, 5000, false, goodEnd (enumPkt 0 1 4 12 1 1 5000), by decide +kernel⟩,
   ⟨withF [((F.CH_TRAIN_STATE_STATE 1), 1)] { wTileTrain 8 with enum := { origin := 3 } }, by decide +kernel⟩,
   ⟨wReady, by decide +kernel⟩,
   ⟨wTile, by decide +kernel⟩⟩

theorem witness_RasterClock :
    (∃ (s : State) , (s.acts) ∧ (s.raster.running = true) ∧ (s.isK24 = false) ∧ (s.noSwapWaits) ∧ (∀ c, c < 8 → (s.dramCh c).owed = 0) ∧ (0 ≤ s.raster.adj) ∧ (s.raster.rpos + (s.raster.acc + s.raster.stepN) / s.raster.stepD < s.raster.total)) ∧
    (∃ (s : State) , (s.acts) ∧ (s.raster.running = true) ∧ (s.isK24 = false) ∧ (s.noSwapWaits) ∧ (∀ c, c < 8 → (s.dramCh c).owed = 0) ∧ (s.raster.adj = 0) ∧ (s.raster.total ≤ s.raster.rpos + (s.raster.acc + s.raster.stepN) / s.raster.stepD)) ∧
    (∃ (s : State) , (s.acts) ∧ (s.raster.running = true) ∧ (s.isSender = true) ∧ (s.refSel = 0) ∧ (s.wtg.sched = none) ∧ (s.activationDue = none) ∧ (s.switchDue = none) ∧ (s.commit.fnumLoad = false ∧ s.commit.fnumLoadTaken = false) ∧ (s.sys.starting = false)) :=
  ⟨⟨wRun wSender, by decide +kernel⟩,
   ⟨{ wRun wSender with raster := { running := true, rpos := 1125 * 65536 - 1, fnum := 4294967295 } }, by decide +kernel⟩,
   ⟨{ wRun wSender with sys := { wSender.sys with starting := false } }, by decide +kernel⟩⟩

theorem witness_WallTimingGenerator :
    (∃ (s : State) (rising : Bool) (period frame : Nat) (phase : Int), (s.acts) ∧ (s.isSender = true) ∧ (s.refSel = 1) ∧ (rising = !s.on F.RD_WTG_CTRL_GL_EDGE) ∧ (s.wtg.restart = true)) ∧
    (∃ (s : State) (rising : Bool) (period frame : Nat) (phase : Int), (s.acts) ∧ (rising = s.on F.RD_WTG_CTRL_GL_EDGE)) ∧
    (∃ (s : State) (rising : Bool) (period frame : Nat) (phase : Int), let w := { s.wtg with marked := if s.get F.RD_WTG_STATUS_STATE = wtgHoldover ∧ s.on F.RD_WTG_CTRL_REF_HOLD = false ∧ 15 ≤ s.wtg.restored ∧ s.wtg.rateWait = false then none else s.wtg.marked }; (s.acts) ∧ (s.isSender = true) ∧ (s.refSel = 1) ∧ (rising = !s.on F.RD_WTG_CTRL_GL_EDGE) ∧ (s.wtg.restart = false) ∧ ((((period * s.raster.num : Nat) : Int) - ((s.get F.RD_WTG_CTRL_GL_DIV + 1) * s.raster.periodQ : Nat)).natAbs * 8 ≤ (s.get F.RD_WTG_CTRL_GL_DIV + 1) * s.raster.periodQ)) ∧
    (∃ (s : State) , (s.acts) ∧ (s.isSender = true) ∧ (s.refSel = 1)) ∧
    (∃ (s : State) , (s.acts) ∧ (s.isSender = true) ∧ (s.refSel = 3)) ∧
    (∃ (s : State) (p : Nat) (lag : Int) (pkt : RasterPkt), (s.acts) ∧ (s.hasPort p = true) ∧ (s.isSender = true) ∧ (s.refSel = 3) ∧ (p = s.get F.RD_WTG_CTRL_CHAIN_REF_PORT)) ∧
    (∃ (s : State) , (s.acts) ∧ (s.isSender = true) ∧ (s.geometryPending = true) ∧ (s.wtg.schedRefused = false) ∧ (s.wtg.sched = none) ∧ (ahead (s.get F.RD_WTG_SCHED_FNUM_S) s.raster.fnum = 8) ∧ (geometryOk s.pendGeometry.1 s.pendGeometry.2.1 s.pendGeometry.2.2 = true) ∧ (rateAbove s.pendGeometry.2.1 s.pendGeometry.2.2 (s.get F.RD_MOULD_FRATE_MAX_FRATE_MAX) = false)) ∧
    (∃ (s : State) , let fast : Bool := s.pendGeometry.2.2 != 0 && rateAbove s.pendGeometry.2.1 s.pendGeometry.2.2 (s.get F.RD_MOULD_FRATE_MAX_FRATE_MAX); (s.acts) ∧ (s.isSender = true) ∧ (s.geometryPending = true) ∧ (s.wtg.schedRefused = false) ∧ (s.wtg.sched = none) ∧ (ahead (s.get F.RD_WTG_SCHED_FNUM_S) s.raster.fnum = 8) ∧ (geometryOk s.pendGeometry.1 s.pendGeometry.2.1 s.pendGeometry.2.2 = false ∨ fast = true)) :=
  ⟨⟨withF [(F.RD_WTG_CTRL_REF_SEL, 1)] wSender, true, 66666667, 0, 0, by decide +kernel⟩,
   ⟨withF [(F.RD_WTG_CTRL_REF_SEL, 1)] wSender, false, 66666667, 0, 0, by decide +kernel⟩,
   ⟨{ withF [(F.RD_WTG_CTRL_REF_SEL, 1)] wSender with wtg := { restart := false } }, true, 66666667, 7, 5, by decide +kernel⟩,
   ⟨withF [(F.RD_WTG_CTRL_REF_SEL, 1)] wSender, by decide +kernel⟩,
   ⟨withF [(F.RD_WTG_CTRL_REF_SEL, 3)] wSender, by decide +kernel⟩,
   ⟨withF [(F.RD_WTG_CTRL_REF_SEL, 3)] wSender, 0, 0, default, by decide +kernel⟩,
   ⟨(withF [(F.RD_WTG_SCHED_FNUM_S, 8), (F.RD_MOULD_FRATE_MAX_FRATE_MAX, 60000)] wSender).setPend F.RD_WTG_LTOTAL_LTOTAL.addr 900, by decide +kernel⟩,
   ⟨(withF [(F.RD_WTG_SCHED_FNUM_S, 8), (F.RD_MOULD_FRATE_MAX_FRATE_MAX, 60000)] wSender).setPend F.RD_WTG_LTOTAL_LTOTAL.addr 9, by decide +kernel⟩⟩

theorem witness_CommitGroups :
    (∃ (s : State) , (s.acts) ∧ (s.noSwapWaits) ∧ (s.raster.running = true) ∧ (s.raster.cutDone = false) ∧ (s.commit.group = none) ∧ (s.on F.RD_COMMIT_CTRL_HOLD = false)) ∧
    (∃ (s : State) , (s.acts) ∧ (s.noSwapWaits) ∧ (s.raster.running = true) ∧ (s.raster.cutDone = false) ∧ (s.commit.group = none) ∧ (s.on F.RD_COMMIT_CTRL_HOLD = true)) ∧
    (∃ (s : State) (val : Word), (s.rindActs) ∧ (s.wordOk 0x230 val = true)) ∧
    (∃ (s : State) (T : Word), (s.rindActs) ∧ (s.commit.group = none) ∧ (s.commit.go = none) ∧ (s.on F.RD_COMMIT_CTRL_HOLD = true)) ∧
    (∃ (s : State) (T : Word), (s.rindActs) ∧ (s.commit.group.isSome = true)) ∧
    (∃ (s : State) (T now : Nat) (cut : Bool), (s.acts) ∧ (s.commit.go = some (T, now, cut)) ∧ (ahead T now ≤ 256) ∧ (s.raster.cutDone = cut)) ∧
    (∃ (s : State) (T now : Nat) (cut : Bool), (s.acts) ∧ (s.commit.go = some (T, now, cut)) ∧ (256 < ahead T now)) :=
  ⟨⟨wRun wSender, by decide +kernel⟩,
   ⟨withF [(F.RD_COMMIT_CTRL_HOLD, 1)] (wRun wSender), by decide +kernel⟩,
   ⟨wSender, 1, by decide +kernel⟩,
   ⟨withF [(F.RD_COMMIT_CTRL_HOLD, 1)] wSender, 77, by decide +kernel⟩,
   ⟨{ wSender with commit := { wSender.commit with group := some (5, false, false) } }, 77, by decide +kernel⟩,
   ⟨{ wSender with commit := { wSender.commit with go := some (9, 4, false) } }, 9, 4, false, by decide +kernel⟩,
   ⟨{ wSender with commit := { wSender.commit with go := some (900, 4, false) } }, 900, 4, false, by decide +kernel⟩⟩

theorem witness_TileRaster :
    (∃ (s : State) (dirB : Bool) (lag : Int) (pkt : RasterPkt), (s.acts) ∧ (s.tileLike = true) ∧ (s.dirUsable dirB = true) ∧ (s.get (F.CH_RASTER_STATE_STATE 0) = 0)) ∧
    (∃ (s : State) (dirB came : Bool), (s.acts) ∧ (s.tileLike = true) ∧ (s.dirUsable dirB = true) ∧ (dirB = s.activeB) ∧ (s.tileRas.missed = 2) ∧ (s.get (F.CH_RASTER_STATE_STATE 0) = 2)) ∧
    (∃ (s : State) (p : Nat) (mean : Option Int) (fwdMeas : Int), (s.acts) ∧ (s.hasPort p = true) ∧ (s.isSender = true) ∧ (s.measures p = true) ∧ ((s.port p).rtCount ≠ 0)) ∧
    (∃ (s : State) (p : Nat) (mean fwdMeas : Int), (s.acts) ∧ (s.hasPort p = true) ∧ (s.measures p = false)) ∧
    (∃ (s : State) (p : Nat) (own : Bool) (num turn : Nat), (s.acts) ∧ (s.hasPort p = true) ∧ (s.linked p = true) ∧ (own = s.measures p)) ∧
    (∃ (s : State) (p : Nat), (s.acts) ∧ (s.hasPort p = true) ∧ (s.linked p = true) ∧ (s.isSender = true) ∧ ((s.cal p).txDrop = none)) ∧
    (∃ (s : State) (p num turn : Nat) (elapsed : Int) (w : PktEnd), (s.acts) ∧ (s.hasPort p = true) ∧ (s.linked p = true) ∧ (s.measures p = true) ∧ (w.good (rxHead w (delayRspPkt 0 num turn)))) ∧
    (∃ (s : State) (p : Nat) (pkt : RasterPkt) (w : PktEnd), (s.acts) ∧ (p < 2) ∧ (s.tileLike = true) ∧ (s.linked (txPort (p == 1)) = true) ∧ (w.good (rxHead w (rasterPkt 0 pkt)))) :=
  ⟨⟨{ wTile with enum := { wTile.enum with validA := true } }, false, 0, default, by decide +kernel⟩,
   ⟨{ withF [(F.CH_TRAIN_STATE_STATE 1, 8)] (wTileA 2) with tileRas := { missed := 2 } }, false, true, by decide +kernel⟩,
   ⟨wSender.setPort 0 fun x => { x with rtCount := 3, rtSum := 900 }, 0, none, 0, by decide +kernel⟩,
   ⟨wTile, 0, 60, 0, by decide +kernel⟩,
   ⟨wTrain 8, 0, true, 3, 200000, by decide +kernel⟩,
   ⟨wTrain 8, 0, by decide +kernel⟩,
   ⟨wTrain 8, 0, 3, 200000, 356000, goodEnd (delayRspPkt 0 3 200000), by decide +kernel⟩,
   ⟨withF [((F.CH_TRAIN_STATE_STATE 1), 8)] wTile, 0, default, goodEnd (rasterPkt 0 default), by decide +kernel⟩⟩

theorem witness_LaneControl :
    (∃ (s : State) (g : Nat), (s.acts) ∧ (g < 2) ∧ (s.tileLike = true) ∧ (s.on (F.HP_GROUP_STATE_REF g) = true)) ∧
    (∃ (s : State) (g : Nat), (s.acts) ∧ (g < 2) ∧ (s.tileLike = true)) ∧
    (∃ (s : State) (lane : Nat), (s.acts) ∧ (lane < 112) ∧ ((s.cal (laneGroup lane).1).step = none)) ∧
    (∃ (s : State) (lane : Nat), let a : TxVals := s.txAct lane; let b : TxVals := s.txTarget lane; (s.acts) ∧ (lane < 112) ∧ (b.pre + b.post ≤ 16 ∧ a.pre + a.post ≤ 16)) ∧
    (∃ (s : State) (lane : Nat) (val : Word), (s.acts) ∧ (lane < 112) ∧ (s.wordOk (atLANE lane 0x08) val = true) ∧ (s.txRamps lane = false)) ∧
    (∃ (s : State) (lane : Nat) (val : Word), (s.acts) ∧ (lane < 112) ∧ (s.wordOk (atLANE lane 0x08) val = true) ∧ (s.txRamps lane = true)) ∧
    (∃ (s : State) (lane : Nat) (val : Word), (s.acts) ∧ (lane < 112) ∧ (s.wordOk (atLANE lane 0x14) val = true) ∧ (s.get (F.HP_LANE_STATE_RXS lane) = lnTrain ∨ s.get (F.HP_LANE_STATE_RXS lane) = lnActive ∨ s.get (F.HP_LANE_STATE_RXS lane) = lnSpare)) ∧
    (∃ (s : State) (lane : Nat) (val : Word), (s.acts) ∧ (lane < 112) ∧ (s.wordOk (atLANE lane 0x14) val = true) ∧ (s.get (F.HP_LANE_STATE_RXS lane) = lnTest ∨ s.get (F.HP_LANE_STATE_RXS lane) = lnStandby)) :=
  ⟨⟨withF [(F.HP_GROUP_STATE_REF 1, 1)] wTile, 1, by decide +kernel⟩,
   ⟨wTile, 0, by decide +kernel⟩,
   ⟨(withF [(F.HP_LANE_STATE_CDR_LOCK 7, 1)] wSender).setLn 7 fun l => { l with scanning := true }, 7, by decide +kernel⟩,
   ⟨withF [(F.HP_LANE_TXM_SWING 7, 9), (F.HP_LANE_TXM_PRE 7, 3), (F.HP_LANE_TXM_POST 7, 4)] wSender, 7, by decide +kernel⟩,
   ⟨withF [(F.HP_LANE_TXM_SWING 7, 9), (F.HP_LANE_TXM_PRE 7, 3), (F.HP_LANE_TXM_POST 7, 4)] wSender, 7, 0x80009340, by decide +kernel⟩,
   ⟨wLanes, 0, 0x80009340, by decide +kernel⟩,
   ⟨wLanes, 0, 0x80000003, by decide +kernel⟩,
   ⟨withF [(F.HP_LANE_STATE_RXS 0, 6)] wSender, 0, 0x80000003, by decide +kernel⟩⟩

theorem witness_LaneTests :
    (∃ (s : State) (lane : Nat) (line : List Bool), let pat : Nat := s.get (F.HP_PRBS_CTRL_RX_PAT lane); let l : List Bool := line.map fun b => b != s.on (F.HP_LANE_TXM_RX_POL lane); let n : Nat := if pat = 1 then 7 else 31; (s.acts) ∧ (lane < 112) ∧ (s.loops lane = false) ∧ (s.checks lane = true) ∧ (s.on (F.HP_PRBS_STAT_SYNC lane) = false) ∧ (l.length = n + 128) ∧ (∀ i ∈ List.range 128, l.getD (n + i) false = (l.getD (n + i - (prbsTaps pat).1) false != l.getD (n + i - (prbsTaps pat).2) false))) ∧
    (∃ (s : State) (lane : Nat) (b : Bool), let x : Lane := s.lane lane; let taps : Nat × Nat := prbsTaps (s.get (F.HP_PRBS_CTRL_RX_PAT lane)); let want : Bool := x.prbs.getD (taps.1 - 1) false != x.prbs.getD (taps.2 - 1) false; let miss : Bool := (b != s.on (F.HP_LANE_TXM_RX_POL lane)) != want; let lost : Bool := decide (32 ≤ (miss :: x.prbsMiss).countP (· == true)); (s.acts) ∧ (lane < 112) ∧ (s.loops lane = false) ∧ (s.on (F.HP_PRBS_STAT_SYNC lane) = true)) ∧
    (∃ (s : State) (lane : Nat), (s.acts) ∧ (lane < 112) ∧ (s.answersAt (atLANE lane 0x18) = true)) ∧
    (∃ (s : State) (lane : Nat), (s.acts) ∧ (lane < 112) ∧ (s.answersAt (atLANE lane 0x18) = true)) ∧
    (∃ (s : State) (g : Nat) (val : Word), (s.acts) ∧ (g < 24) ∧ (s.wordOk (atGROUP g 0x04) val = true) ∧ (val.getLsbD 31 = true) ∧ (s.on (F.HP_GROUP_STATE_IN_USE g) = true)) ∧
    (∃ (s : State) (g : Nat) (val : Word), (s.acts) ∧ (g < 24) ∧ (s.wordOk (atGROUP g 0x04) val = true) ∧ (s.on (F.HP_GROUP_STATE_IN_USE g) = false)) ∧
    (∃ (s : State) (g rate : Nat), (s.acts) ∧ (g < 24) ∧ (s.answersAt (atGROUP g 0x04) = true)) ∧
    (∃ (s : State) (lane : Nat) (val : Word), (s.acts) ∧ (lane < 112) ∧ (s.wordOk (atLANE lane 0x28) val = true) ∧ (val.getLsbD 31 = true) ∧ ((s.lane lane).scanning = false)) ∧
    (∃ (s : State) (lane : Nat) (width height point : List EyePoint), let m : Nat := s.get (F.HP_EYE_CTRL_MODE lane); let errs : Int → Int → Option Nat := eyeErrors (width ++ height ++ point) (s.get (F.HP_EYE_CTRL_DWELL lane)); let op : Int → Int → Bool := fun h v => (errs h v).any (· ≤ s.get (F.HP_EYE_CTRL_ERR_LIM lane)); (s.acts) ∧ (lane < 112) ∧ ((s.lane lane).scanning = true)) ∧
    (∃ (s : State) (lane : Nat) (nolock : Bool), (s.acts) ∧ (lane < 112) ∧ ((s.lane lane).scanning = true)) :=
  ⟨⟨withF [(F.HP_PRBS_CTRL_RX_PAT 9, 2), (F.HP_LANE_STATE_RXS 9, 6)] wSender, 9, (List.replicate 31 true ++ prbsRun 2 128 (List.replicate 31 true)), by decide +kernel⟩,
   ⟨(withF [(F.HP_PRBS_STAT_SYNC 9, 1)] wSender).setLn 9 fun x => { x with prbsMiss := List.replicate 31 true, prbsBits := 1023 }, 9, true, by decide +kernel⟩,
   ⟨withF [(F.HP_PRBS_ERR_ERR 9, 7)] wSender, 9, by decide +kernel⟩,
   ⟨withF [(F.HP_PRBS_CTRL_TX_PAT 9, 1), (F.HP_LANE_STATE_TXS 9, 6)] wSender, 9, by decide +kernel⟩,
   ⟨withF [(F.HP_GROUP_STATE_IN_USE 3, 1)] wSender, 3, 0x80000000, by decide +kernel⟩,
   ⟨wSender, 3, 0x80000000, by decide +kernel⟩,
   ⟨withF [(F.HP_GROUP_CTRL_TEST_EN 3, 1)] wSender, 3, 2, by decide +kernel⟩,
   ⟨wSender, 3, 0xE0000000, by decide +kernel⟩,
   ⟨withF [(F.HP_EYE_CTRL_MODE 3, 3)] (wSender.setLn 3 fun l => { l with scanning := true }), 3, ([⟨0, 0, 2 ^ 19, 2 ^ 19, 0, 0⟩, ⟨1, 0, 2 ^ 19, 2 ^ 19, 0, 0⟩, ⟨0, 1, 2 ^ 20, 5, 0, 9⟩, ⟨0, -1, 2 ^ 20, 5, 0, 9⟩]), [], [], by decide +kernel⟩,
   ⟨wSender.setLn 3 fun l => { l with scanning := true }, 3, true, by decide +kernel⟩⟩

theorem witness_CalibrationSteps :
    (∃ (s : State) (g q : Nat), let u : State := if (s.cal g).rotDue then s.setCal g (fun x => { x with rotDue := false, measured := 0, spare0 := (s.rxIn g lnSpare).head? }) else s; (s.acts) ∧ (g < 24) ∧ (s.on (F.HP_CAL_CTRL_EN g) = true) ∧ (s.on (F.RD_TH_DIE_STAGE (groupDie g)) = false) ∧ ((s.cal g).step = none) ∧ (16 ≤ g ∨ s.linked g = true) ∧ (s.calDue g = true) ∧ (s.atFrameStart = true) ∧ (calChoose u g = some q) ∧ (q < 5) ∧ (s.rxIn g lnSpare = [])) ∧
    (∃ (s : State) (g q sp : Nat), let u : State := if (s.cal g).rotDue then s.setCal g (fun x => { x with rotDue := false, measured := 0, spare0 := (s.rxIn g lnSpare).head? }) else s; (s.acts) ∧ (g < 16) ∧ (s.on (F.HP_CAL_CTRL_EN g) = true) ∧ (s.on (F.RD_TH_DIE_STAGE (groupDie g)) = false) ∧ ((s.cal g).step = none) ∧ (s.linked g = true) ∧ (s.calDue g = true) ∧ (s.atFrameStart = true) ∧ (calChoose u g = some q) ∧ (q < 5) ∧ (s.rxIn g lnSpare = [sp]) ∧ (sp ≠ q)) ∧
    (∃ (s : State) (g : Nat), (s.acts) ∧ (g < 24) ∧ (s.answersAt (atGROUP g 0x08) = true)) ∧
    (∃ (s : State) (p id : Nat) (c : CalStep) (w : PktEnd), (s.acts) ∧ (s.hasPort p = true) ∧ ((s.cal p).step = some c) ∧ (c.id = id) ∧ (s.calState p = csBridge) ∧ (c.lane < 8) ∧ (w.good (rxHead w (laneCmd 0 cmdBridged id 0 0 0xFF 0)))) ∧
    (∃ (s : State) (p x : Nat) (c : CalStep), (s.acts) ∧ (s.noSwapWaits) ∧ (s.hasPort p = true) ∧ ((s.cal p).step = some c) ∧ (c.cmd = []) ∧ (s.calState p = csCompare) ∧ (c.lane < 5 ∧ c.spare < 5 ∧ c.lane ≠ c.spare ∧ c.logical < 4) ∧ (s.raster.running = true) ∧ ((s.swapLines p).find? (s.raster.rpos < ·) = some x)) ∧
    (∃ (s : State) (p : Nat) (c : CalStep), (s.acts) ∧ (s.noSwapWaits) ∧ (s.hasPort p = true) ∧ ((s.cal p).step = some c) ∧ (c.cmd = []) ∧ (s.calState p = csCompare) ∧ (s.raster.running = false ∨ ∀ x ∈ s.swapLines p, x ≤ s.raster.rpos)) ∧
    (∃ (s : State) (p : Nat) (c : CalStep), let n : Nat := groupLane p c.spare; (s.acts) ∧ (s.noSwapWaits) ∧ (s.hasPort p = true) ∧ ((s.cal p).step = some c) ∧ (c.cmd = [] ∧ c.retiring = false) ∧ (s.calState p = csCompare) ∧ (c.lane < 5 ∧ c.spare < 5) ∧ (s.get (F.HP_LANE_CAL_CONSEC_FAIL n) = 0)) ∧
    (∃ (s : State) (p id : Nat) (c : CalStep) (w : PktEnd), (s.acts) ∧ (s.hasPort p = true) ∧ ((s.cal p).step = some c) ∧ (c.id = id) ∧ (c.cmd.headD 0 = cmdSwitched) ∧ (c.retiring = false) ∧ (c.lane < 8) ∧ (w.good (rxHead w (laneCmd 0 cmdDone id 0 0 0xFF 0)))) ∧
    (∃ (s : State) (g : Nat) (eq : Word) (c : CalStep), (s.acts) ∧ (g < 24) ∧ ((s.cal g).step = some c) ∧ (c.settled = false ∧ c.retiring = false ∧ c.inPlace = false) ∧ (s.calState g = csAdapt) ∧ (c.lane < 5)) ∧
    (∃ (s : State) (g : Nat) (p0 q0 p1 q1 p2 q2 : List EyePoint) (c : CalStep), let w : Nat := min (s.calEye g p1 q1).1 (s.calEye g p2 q2).1; let h : Nat := min (s.calEye g p1 q1).2 (s.calEye g p2 q2).2; let m0 : Nat × Nat := c.m0.getD (0, 0); let n : Nat := groupLane g c.lane; (s.acts) ∧ (g < 24) ∧ ((s.cal g).step = some c) ∧ (c.settled = true ∧ c.retiring = false) ∧ (s.calState g = csMeasure) ∧ (c.lane < 5) ∧ (max (s.calEye g p1 q1).1 (s.calEye g p2 q2).1 - w ≤ s.get (F.HP_CAL_LIMITS_TOL_W g) ∧ max (s.calEye g p1 q1).2 (s.calEye g p2 q2).2 - h ≤ 5 * s.get (F.HP_CAL_LIMITS_TOL_H g)) ∧ (s.get (F.HP_CAL_LIMITS_MIN_W g) ≤ w ∧ s.get (F.HP_CAL_LIMITS_MIN_H g) ≤ h) ∧ (c.inPlace = false ∨ (m0.1 ≤ w + s.get (F.HP_CAL_LIMITS_TOL_W g) ∧ m0.2 ≤ h + 5 * s.get (F.HP_CAL_LIMITS_TOL_H g)))) ∧
    (∃ (s : State) (g : Nat) (p0 q0 p1 q1 p2 q2 : List EyePoint) (c : CalStep), let w : Nat := min (s.calEye g p1 q1).1 (s.calEye g p2 q2).1; let h : Nat := min (s.calEye g p1 q1).2 (s.calEye g p2 q2).2; let n : Nat := groupLane g c.lane; (s.acts) ∧ (g < 24) ∧ ((s.cal g).step = some c) ∧ (c.settled = true ∧ c.retiring = false) ∧ (s.calState g = csMeasure) ∧ (c.lane < 5) ∧ (max (s.calEye g p1 q1).1 (s.calEye g p2 q2).1 - w ≤ s.get (F.HP_CAL_LIMITS_TOL_W g) ∧ max (s.calEye g p1 q1).2 (s.calEye g p2 q2).2 - h ≤ 5 * s.get (F.HP_CAL_LIMITS_TOL_H g)) ∧ (w < s.get (F.HP_CAL_LIMITS_MIN_W g)) ∧ (s.get (F.HP_LANE_CAL_CONSEC_FAIL n) = 0)) ∧
    (∃ (s : State) (g : Nat) (c : CalStep), let n : Nat := groupLane g c.lane; (s.acts) ∧ (g < 24) ∧ ((s.cal g).step = some c) ∧ (c.settled = false ∧ c.retiring = false) ∧ (s.calState g = csAdapt) ∧ (c.lane < 5) ∧ (s.get (F.HP_LANE_CAL_CONSEC_FAIL n) = 0)) ∧
    (∃ (s : State) (p : Nat) (c : CalStep), (s.acts) ∧ (s.hasPort p = true) ∧ ((s.cal p).step = some c) ∧ (c.cmd ≠ []) ∧ (c.resends < 3)) :=
  ⟨⟨withF [(F.HP_LANE_STATE_RXS 4, 1), (F.HP_CAL_CTRL_EN 0, 1), (F.HP_CAL_CTRL_PERIOD 0, 60)] (wRun wLanes), 0, 0, by decide +kernel⟩,
   ⟨withF [(F.HP_CAL_CTRL_EN 0, 1), (F.HP_CAL_CTRL_PERIOD 0, 60)] (wRun wLanes), 0, 0, 4, by decide +kernel⟩,
   ⟨wLanes, 0, by decide +kernel⟩,
   ⟨wCal { id := 7, lane := 2, spare := 4, logical := 2, cmd := [1] } csBridge, 0, 7, { id := 7, lane := 2, spare := 4, logical := 2, cmd := [1] }, goodEnd (laneCmd 0 cmdBridged 7 0 0 0xFF 0), by decide +kernel⟩,
   ⟨wRun (wCal { id := 7, lane := 2, spare := 4, logical := 2 } csCompare), 0, 65536, { id := 7, lane := 2, spare := 4, logical := 2 }, by decide +kernel⟩,
   ⟨wCal { id := 7, lane := 2, spare := 4, logical := 2 } csCompare, 0, { id := 7, lane := 2, spare := 4, logical := 2 }, by decide +kernel⟩,
   ⟨wCal { id := 7, lane := 2, spare := 4, logical := 2 } csCompare, 0, { id := 7, lane := 2, spare := 4, logical := 2 }, by decide +kernel⟩,
   ⟨wCal { id := 7, lane := 2, spare := 4, logical := 2, cmd := [3] } csCompare, 0, 7, { id := 7, lane := 2, spare := 4, logical := 2, cmd := [3] }, goodEnd (laneCmd 0 cmdDone 7 0 0 0xFF 0), by decide +kernel⟩,
   ⟨wCal { id := 7, lane := 2, spare := 4 } csAdapt, 0, 0x08300000, { id := 7, lane := 2, spare := 4 }, by decide +kernel⟩,
   ⟨withF [(F.HP_CAL_CTRL_DWELL 0, 20), (F.HP_CAL_LIMITS_TOL_W 0, 2), (F.HP_CAL_LIMITS_TOL_H 0, 2), (F.HP_CAL_LIMITS_MIN_W 0, 20), (F.HP_CAL_LIMITS_MIN_H 0, 100)] (wCal { id := 7, lane := 2, settled := true } csMeasure), 0, [], [], eye20, eye20, eye20, eye20, { id := 7, lane := 2, settled := true }, by decide +kernel⟩,
   ⟨withF [(F.HP_CAL_CTRL_DWELL 0, 20), (F.HP_CAL_LIMITS_TOL_W 0, 2), (F.HP_CAL_LIMITS_TOL_H 0, 2), (F.HP_CAL_LIMITS_MIN_W 0, 20), (F.HP_CAL_LIMITS_MIN_H 0, 100)] (wCal { id := 7, lane := 2, settled := true } csMeasure), 0, [], [], eye1, eye1, eye1, eye1, { id := 7, lane := 2, settled := true }, by decide +kernel⟩,
   ⟨wCal { id := 7, lane := 2 } csAdapt, 0, { id := 7, lane := 2 }, by decide +kernel⟩,
   ⟨wCal { id := 7, lane := 2, cmd := [1, 7, 2, 4, 2, 0, 0, 0] } csBridge, 0, { id := 7, lane := 2, cmd := [1, 7, 2, 4, 2, 0, 0, 0] }, by decide +kernel⟩⟩

theorem witness_LaneCommands :
    (∃ (s : State) (p id logical new old : Nat) (w : PktEnd), (s.acts) ∧ (s.hasPort p = true) ∧ (s.linked p = true) ∧ ((s.cal p).done ≠ some (id, cmdBridge)) ∧ (w.good (rxHead w (laneCmd 0 cmdBridge id logical new old 0))) ∧ ((s.get (F.CH_LANE_MAP_TX_ACTIVE p)).testBit new = false) ∧ (old < 5 ∧ logical < 4)) ∧
    (∃ (s : State) (p id logical new old : Nat) (w : PktEnd), (s.acts) ∧ (s.hasPort p = true) ∧ (s.linked p = true) ∧ ((s.cal p).done ≠ some (id, cmdSwitched)) ∧ (new < 5 ∧ old < 5 ∧ new ≠ old ∧ logical < 4) ∧ (w.good (rxHead w (laneCmd 0 cmdSwitched id logical new old 0)))) ∧
    (∃ (s : State) (p id logical new old : Nat) (w : PktEnd), (s.acts) ∧ (s.hasPort p = true) ∧ (s.linked p = true) ∧ ((s.cal p).done = some (id, cmdSwitched)) ∧ (w.good (rxHead w (laneCmd 0 cmdSwitched id logical new old 0)))) ∧
    (∃ (s : State) (p id old : Nat) (w : PktEnd), (s.acts) ∧ (s.hasPort p = true) ∧ (s.linked p = true) ∧ ((s.cal p).done ≠ some (id, cmdRetire)) ∧ (old < 5) ∧ (w.good (rxHead w (laneCmd 0 cmdRetire id 0 0 old 0)))) ∧
    (∃ (s : State) (p id old lanes : Nat) (w : PktEnd), (s.acts) ∧ (s.hasPort p = true) ∧ (s.linked p = true) ∧ ((s.cal p).done ≠ some (id, cmdDrop)) ∧ (w.good (rxHead w (laneCmd 0 cmdDrop id 0 0 old lanes)))) ∧
    (∃ (s : State) (p lanes old : Nat), let m : Nat × Nat := dropMap ((List.range 5).filter fun i => s.get (F.HP_LANE_STATE_TXS (chainLane p i)) ≠ lnRetired && i != old) lanes; (s.acts) ∧ (s.hasPort p = true) ∧ (s.linked p = true) ∧ (s.isSender = true) ∧ ((s.cal p).txDrop = some (lanes, old)) ∧ (old < 5)) ∧
    (∃ (s : State) (p id : Nat) (c : CalStep) (w : PktEnd), (s.acts) ∧ (s.hasPort p = true) ∧ ((s.cal p).step = some c) ∧ (c.id = id) ∧ (c.dropTo ≠ 0) ∧ (w.good (rxHead w (laneCmd 0 cmdDropped id 0 0 0xFF 0)))) ∧
    (∃ (s : State) (p : Nat) (cols : List (List Nat)) (r0 r1 r2 r3 : Bool) (c : CalStep), let m : Nat × Nat := dropMap ((List.range 5).filter fun i => s.get (F.HP_LANE_STATE_RXS (chainLane p i)) ≠ lnRetired && i != c.lane) c.dropTo; (s.acts) ∧ (s.hasPort p = true) ∧ (s.isSender = true) ∧ (s.linked p = true) ∧ (readSegment (s.get (F.CH_LINK_STATUS_RX_LANES p)) [r0, r1, r2, r3] (s.rxCols p cols) = none) ∧ (skpSets (s.get (F.CH_LINK_STATUS_RX_LANES p)) [r0, r1, r2, r3] (s.rxCols p cols) ≠ 0) ∧ ((s.cal p).step = some c) ∧ (c.dropAck = true) ∧ (c.dropTo ≠ 0) ∧ (c.retiring = true) ∧ (c.stale = false) ∧ (c.lane < 5)) ∧
    (∃ (s : State) (lane : Nat), let v : Word := (eqOneCode (EqVals.ofWord (s.rd (atLANE lane 0x10))) (EqVals.ofWord ((s.lane lane).aim.getD (s.rd (atLANE lane 0x38))))).word; (s.acts) ∧ (lane < 112) ∧ (s.rampMay (laneGroup lane).1 (laneGroup lane).2 = true) ∧ (s.calState (laneGroup lane).1 ≠ csRamp)) ∧
    (∃ (s : State) (lane : Nat) (w : Word), (s.acts) ∧ (lane < 112) ∧ (s.rampMay (laneGroup lane).1 (laneGroup lane).2 = true) ∧ ((s.lane lane).before = some w)) ∧
    (∃ (s : State) (g : Nat), (s.acts) ∧ (g < 24) ∧ (s.answersAt (atGROUP g 0x08) = true)) ∧
    (∃ (s : State) , (s.acts) ∧ (s.inTrial = false) ∧ (∀ g ∈ List.range 24, g ≠ 0 → (s.cal g).changed = false) ∧ ((s.cal 0).changed = true) ∧ (s.isSender = true) ∧ (s.sys.trimSaved + 3600 * 400000000 ≤ s.raster.ticks)) :=
  ⟨⟨wLanes, 0, 5, 2, 4, 2, goodEnd (laneCmd 0 cmdBridge 5 2 4 2 0), by decide +kernel⟩,
   ⟨wLanes, 0, 5, 2, 4, 2, goodEnd (laneCmd 0 cmdSwitched 5 2 4 2 0), by decide +kernel⟩,
   ⟨wLanes.setCal 0 fun x => { x with done := some (5, cmdSwitched) }, 0, 5, 2, 4, 2, goodEnd (laneCmd 0 cmdSwitched 5 2 4 2 0), by decide +kernel⟩,
   ⟨wLanes, 0, 5, 4, goodEnd (laneCmd 0 cmdRetire 5 0 0 4 0), by decide +kernel⟩,
   ⟨wLanes, 0, 5, 1, 2, goodEnd (laneCmd 0 cmdDrop 5 0 0 1 2), by decide +kernel⟩,
   ⟨wLanes.setCal 0 fun x => { x with txDrop := some (2, 1) }, 0, 2, 1, by decide +kernel⟩,
   ⟨wCal { id := 7, lane := 1, retiring := true, dropTo := 2, cmd := [5] } csDrop, 0, 7, { id := 7, lane := 1, retiring := true, dropTo := 2, cmd := [5] }, goodEnd (laneCmd 0 cmdDropped 7 0 0 0xFF 0), by decide +kernel⟩,
   ⟨withF [(F.CH_LINK_STATUS_RX_LANES 0, 4)] (wCal { id := 7, lane := 1, retiring := true, dropTo := 2, dropAck := true } csDrop), 0, (encodeColumns rd4 [List.replicate 4 symCom, List.replicate 4 symSkp, List.replicate 4 symAln]).1, false, false, false, false, { id := 7, lane := 1, retiring := true, dropTo := 2, dropAck := true }, by decide +kernel⟩,
   ⟨withF [(F.HP_LANE_CAL_TGT_CTLE 1, 3)] wLanes, 1, by decide +kernel⟩,
   ⟨wLanes.setLn 1 fun l => { l with before := some 5 }, 1, 5, by decide +kernel⟩,
   ⟨wSender, 2, by decide +kernel⟩,
   ⟨(fun s => { s with raster := { s.raster with ticks := 1440000000000 } }) (setTrim 3 1 ⟨{ ctle := 3 }, true, 4, 5, 6⟩ (wLanes.setCal 0 fun x => { x with changed := true })), by decide +kernel⟩⟩

theorem witness_SafeDark :
    (∃ (s : State) (dirB : Bool) (col arg : Nat) (copies : List (List Nat)), (s.acts) ∧ (s.tileLike = true) ∧ (urgentVote (s.get (F.CH_LINK_STATUS_RX_LANES (rxPort dirB))) copies = some (1, arg)) ∧ ((Tab.get (fun _ => none) (s.port (rxPort dirB)).urg (256 * 1 + arg)).all (fun last => decide (last + 64 ≤ col)) = true)) ∧
    (∃ (s : State) (dirB : Bool) (col arg : Nat) (copies : List (List Nat)), (s.acts) ∧ (s.tileLike = true) ∧ (urgentVote (s.get (F.CH_LINK_STATUS_RX_LANES (rxPort dirB))) copies = some (2, arg)) ∧ ((Tab.get (fun _ => none) (s.port (rxPort dirB)).urg (256 * 2 + arg)).all (fun last => decide (last + 64 ≤ col)) = true)) ∧
    (∃ (s : State) (dirB : Bool) (col arg last : Nat) (copies : List (List Nat)), (s.acts) ∧ (s.tileLike = true) ∧ (urgentVote (s.get (F.CH_LINK_STATUS_RX_LANES (rxPort dirB))) copies = some (1, arg)) ∧ (Tab.get (fun _ => none) (s.port (rxPort dirB)).urg (256 + arg) = some last) ∧ (col < last + 64)) ∧
    (∃ (s : State) (dirB : Bool) (col : Nat) (copies : List (List Nat)), (s.acts) ∧ (urgentVote (s.get (F.CH_LINK_STATUS_RX_LANES (rxPort dirB))) copies = none)) ∧
    (∃ (s : State) (dirB : Bool), (s.acts) ∧ (s.tileLike = true) ∧ (16 ≤ (if dirB then s.tileRx.ageB else s.tileRx.ageA))) ∧
    (∃ (s : State) (p code arg : Nat) (copies : List (List Nat)), (s.acts) ∧ (s.hasPort p = true) ∧ (urgentVote (s.get (F.CH_LINK_STATUS_RX_LANES p)) copies = some (code, arg)) ∧ (code ≠ 1 ∧ code ≠ 2 ∧ code ≠ 0x10 ∧ code ≠ 0x11)) ∧
    (∃ (s : State) , (s.acts) ∧ (s.isSender = false)) ∧
    (∃ (s : State) , (s.acts) ∧ (s.isSender = true)) ∧
    (∃ (s : State) , (s.acts) ∧ (s.isSender = true) ∧ (s.portsInUse.Nodup)) ∧
    (∃ (s : State) , (s.acts) ∧ (s.isSender = false)) ∧
    (∃ (s : State) (p arg : Nat), (s.acts) ∧ (s.hasPort p = true) ∧ (s.isSender = true) ∧ (s.answersAt (atCH p 0x84) = true)) ∧
    (∃ (s : State) (p arg : Nat), (s.acts) ∧ (s.hasPort p = true) ∧ (s.isSender = true) ∧ (s.answersAt (atCH p 0x84) = true) ∧ (s.sys.safeDark = false) ∧ ((s.port p).dark = true)) ∧
    (∃ (s : State) (p col arg : Nat) (copies : List (List Nat)), (s.acts) ∧ (s.hasPort p = true) ∧ (s.tileLike = true) ∧ (urgentVote (s.get (F.CH_LINK_STATUS_RX_LANES p)) copies = some (17, arg)) ∧ ((Tab.get (fun _ => none) (s.port p).urg (256 * 17 + arg)).all (fun last => decide (last + 64 ≤ col)) = true) ∧ (arg.testBit 6 = (p == 1))) ∧
    (∃ (s : State) (dirB : Bool), (s.acts) ∧ (2 ≤ (if dirB then s.tileRx.upRunB else s.tileRx.upRunA))) :=
  ⟨⟨wLinked, false, 9, 5, urg4 1 5, by decide +kernel⟩,
   ⟨withF [((F.CH_LINK_STATUS_DARK_B 0), 1)] wLinked, true, 9, 5, urg4 2 5, by decide +kernel⟩,
   ⟨wLinked.setPort 0 fun x => { x with urg := [(261, some 2)] }, false, 9, 5, 2, urg4 1 5, by decide +kernel⟩,
   ⟨wLinked, false, 9, [urgentSyms 1 5, [symUrg, 1, 5, 0], [symUrg, 1, 6, 0], []], by decide +kernel⟩,
   ⟨{ withF [((F.CH_LINK_STATUS_DARK_A 0), 1)] wLinked with tileRx := { wLinked.tileRx with ageA := 16 } }, false, by decide +kernel⟩,
   ⟨wLinked, 0, 7, 9, urg4 7 9, by decide +kernel⟩,
   ⟨wLinked, by decide +kernel⟩,
   ⟨wImg, by decide +kernel⟩,
   ⟨wImg.setPort 0 fun x => { x with dark := true }, by decide +kernel⟩,
   ⟨wLinked, by decide +kernel⟩,
   ⟨wImg, 0, 0, by decide +kernel⟩,
   ⟨wImg.setPort 0 fun x => { x with dark := true, darkWritten := true }, 0, 0, by decide +kernel⟩,
   ⟨wLinked, 0, 9, 3, urg4 17 3, by decide +kernel⟩,
   ⟨{ wLinked with tileRx := { wLinked.tileRx with upRunA := 2, downA := true } }, false, by decide +kernel⟩⟩

theorem witness_Failover :
    (∃ (s : State) (p col arg : Nat) (copies : List (List Nat)), (s.acts) ∧ (s.hasPort p = true) ∧ (s.tileLike = true) ∧ (s.isSender = false) ∧ (urgentVote (s.get (F.CH_LINK_STATUS_RX_LANES p)) copies = some (16, arg)) ∧ ((Tab.get (fun _ => none) (s.port p).urg (256 * 16 + arg)).all (fun last => decide (last + 64 ≤ col)) = true) ∧ (arg % 4 = 1 ∨ arg % 4 = 2)) ∧
    (∃ (s : State) (p col arg : Nat) (copies : List (List Nat)), (s.acts) ∧ (p < 16) ∧ (s.isSender = true) ∧ (urgentVote (s.get (F.CH_LINK_STATUS_RX_LANES p)) copies = some (16, arg)) ∧ (arg % 4 = 1 ∨ arg % 4 = 2) ∧ (s.get (F.CH_FO_STATUS_DECISION p) ≠ arg % 4)) ∧
    (∃ (s : State) (p e st health fnum arm T wallId mouldSeq : Nat) (w : PktEnd), (s.acts) ∧ (s.hasPort p = true) ∧ (s.isSender = false) ∧ (s.tileLike = true) ∧ (w.good (rxHead w (heartbeatPkt e st health fnum arm T wallId mouldSeq)))) ∧
    (∃ (s : State) (p e st health fnum arm T wallId mouldSeq : Nat) (w : PktEnd), (s.acts) ∧ (p < 16) ∧ (s.isSender = true) ∧ (e ≠ s.senderEnd) ∧ (wallId = s.get F.RD_MOULD_ID_WALL_ID ∧ mouldSeq = s.get F.RD_MOULD_INFO_MOULD_SEQ) ∧ (arm = 1 ∨ arm = 2) ∧ (T = s.get F.RD_REMOULD_FNUM_FNUM) ∧ (w.good (rxHead w (heartbeatPkt e st health fnum arm T wallId mouldSeq)))) ∧
    (∃ (s : State) (p e st health fnum arm T wallId mouldSeq : Nat) (w : PktEnd), (s.acts) ∧ (p < 16) ∧ (s.isSender = true) ∧ (e ≠ s.senderEnd) ∧ (wallId = s.get F.RD_MOULD_ID_WALL_ID ∧ mouldSeq = s.get F.RD_MOULD_INFO_MOULD_SEQ) ∧ (arm ≠ 1 ∧ arm ≠ 2) ∧ (w.good (rxHead w (heartbeatPkt e st health fnum arm T wallId mouldSeq)))) ∧
    (∃ (s : State) (p e st health fnum arm T wallId mouldSeq : Nat) (w : PktEnd), (s.acts) ∧ (s.hasPort p = true) ∧ (s.isSender = true) ∧ (w.edb = true ∨ w.check ≠ pktCheck (rxHead w (heartbeatPkt e st health fnum arm T wallId mouldSeq)))) ∧
    (∃ (s : State) (p a dec sinceA sinceB f : Nat) (w : PktEnd), (s.acts) ∧ (p < 16) ∧ (s.isSender = true) ∧ (dec = 0 ∨ dec = s.get (F.CH_FO_STATUS_DECISION p)) ∧ (w.good (rxSeq w (tileHbPkt a 1 dec sinceA sinceB f)))) ∧
    (∃ (s : State) (p a dec sinceA sinceB f : Nat) (w : PktEnd), (s.acts) ∧ (p < 16) ∧ (s.isSender = true) ∧ (dec = 1 ∨ dec = 2) ∧ (dec ≠ s.get (F.CH_FO_STATUS_DECISION p)) ∧ (w.good (rxSeq w (tileHbPkt a 1 dec sinceA sinceB f)))) ∧
    (∃ (s : State) (p a dec sinceA sinceB f : Nat) (w : PktEnd), (s.acts) ∧ (s.hasPort p = true) ∧ (s.isSender = false) ∧ (s.tileLike = true) ∧ (s.on (F.CH_TRAIN_STATE_END 1) = false) ∧ (w.good (rxSeq w (tileHbPkt a 0 dec sinceA sinceB f)))) ∧
    (∃ (s : State) , let r0 : Raster := if s.raster.running then s.raster.reach s.refDeadline else s.raster; (s.acts) ∧ (s.noSwapWaits) ∧ (s.actsReferee = true) ∧ (s.raster.refDone = false) ∧ (s.isReferee = false ∨ s.fo.refInit = false) ∧ (s.foActive = 1) ∧ (hbGood s.fo.hbA s.fo.gotA s = false) ∧ (hbGood s.fo.hbB s.fo.gotB s = true) ∧ (s.hbMiss ≤ s.fo.badA + 1)) ∧
    (∃ (s : State) , let r0 : Raster := if s.raster.running then s.raster.reach s.refDeadline else s.raster; (s.acts) ∧ (s.noSwapWaits) ∧ (s.actsReferee = true) ∧ (s.raster.refDone = false) ∧ (s.isReferee = false ∨ s.fo.refInit = false) ∧ (s.foActive = 1) ∧ (hbGood s.fo.hbA s.fo.gotA s = true) ∧ (hbGood s.fo.hbB s.fo.gotB s = true) ∧ (hbYields s.fo.hbA s.fo.gotA s = false)) ∧
    (∃ (s : State) , (s.acts) ∧ (s.noSwapWaits) ∧ (s.actsReferee = false ∨ s.raster.refDone = true)) ∧
    (∃ (s : State) , let x : Nat := if hbGood s.fo.hbA s.fo.gotA s = true then 1 else 2; (s.acts) ∧ (s.isReferee = true) ∧ (s.tileRx.ready = true) ∧ (s.fo.refInit = true) ∧ (4 ≤ s.fo.refWait) ∧ (hbGood s.fo.hbA s.fo.gotA s = true ∨ hbGood s.fo.hbB s.fo.gotB s = true)) ∧
    (∃ (s : State) , (s.acts) ∧ (s.isDeputy = true) ∧ (s.tileRx.ready = true) ∧ (s.fo.acting = false) ∧ (4 ≤ s.fo.refSilent)) ∧
    (∃ (s : State) , (s.acts) ∧ (s.on F.RD_FO_KICK_TIMEOUT_MS = true)) ∧
    (∃ (s : State) (val : Word), (s.rindActs) ∧ (s.wordOk 0x304 val = true)) ∧
    (∃ (s : State) (p : Nat), (s.acts) ∧ (p < 16) ∧ (s.isSender = true) ∧ ((s.port p).unfit = false) ∧ (s.hFrames p ≤ (s.port p).hBad)) ∧
    (∃ (s : State) (p : Nat), (s.acts) ∧ (p < 16) ∧ (s.isSender = true) ∧ (s.answersAt (atCH p 0xD0) = true) ∧ (s.senderEnd = 3 ∨ s.get (F.CH_FO_STATUS_DECISION p) = s.senderEnd)) :=
  ⟨⟨wLinked, 0, 9, 6, urg4 16 6, by decide +kernel⟩,
   ⟨wImg.setRxMap 0 15 16, 0, 9, 6, urg4 16 6, by decide +kernel⟩,
   ⟨wLinked, 0, 1, 1, 0, 77, 0, 0, 5, 6, goodEnd (heartbeatPkt 1 1 0 77 0 0 5 6), by decide +kernel⟩,
   ⟨wImg, 0, 2, 1, 0, 77, 2, 0, 0, 0, goodEnd (heartbeatPkt 2 1 0 77 2 0 0 0), by decide +kernel⟩,
   ⟨wImg, 0, 2, 1, 0, 77, 3, 0, 0, 0, goodEnd (heartbeatPkt 2 1 0 77 3 0 0 0), by decide +kernel⟩,
   ⟨wImg, 0, 2, 1, 0, 77, 2, 0, 0, 0, { goodEnd (heartbeatPkt 2 1 0 77 2 0 0 0) with check := 0 }, by decide +kernel⟩,
   ⟨wImg.setPort 2 fun x => { x with yielding := true }, 2, 4, 0, 0, 0, 9, goodEnd (tileHbPkt 4 1 0 0 0 9), by decide +kernel⟩,
   ⟨wImg, 2, 4, 2, 0, 0, 9, goodEnd (tileHbPkt 4 1 2 0 0 9), by decide +kernel⟩,
   ⟨wLinked, 1, 4, 0, 0, 0, 9, goodEnd (tileHbPkt 4 0 0 0 0 9), by decide +kernel⟩,
   ⟨{ wRef with fo := { wRef.fo with badA := 1, hbB := some ⟨2, 0, 0, 0⟩, gotB := true } }, by decide +kernel⟩,
   ⟨{ wRef with fo := { wRef.fo with hbA := some ⟨1, 0, 0, 0⟩, gotA := true, hbB := some ⟨2, 0, 0, 0⟩, gotB := true } }, by decide +kernel⟩,
   ⟨wRun wLinked, by decide +kernel⟩,
   ⟨{ wRef with fo := { refWait := 4, hbB := some ⟨2, 0, 0, 0⟩, gotB := true } }, by decide +kernel⟩,
   ⟨{ wRef with enum := { wRef.enum with n := 6 }, fo := { refSilent := 4 } }, by decide +kernel⟩,
   ⟨withF [(F.RD_FO_KICK_TIMEOUT_MS, 100)] wSender, by decide +kernel⟩,
   ⟨{ wSender with fo := { kickExpired := true } }, 0x00640001, by decide +kernel⟩,
   ⟨wImg.setPort 0 fun x => { x with hBad := 3 }, 0, by decide +kernel⟩,
   ⟨withF [(F.RD_MOULD_INFO_SENDER_END, 3)] wImg, 0, by decide +kernel⟩⟩

theorem witness_SegmentsAndLinks :
    (∃ (s : State) (p : Nat) (cols : List (List Nat)) (r0 r1 r2 r3 : Bool) (r : SegmentIn), let g : Segment := r.seg; let k : Nat := g.phase * 65536 + g.row; (s.acts) ∧ (s.hasPort p = true) ∧ (s.isTile = true) ∧ (s.linked p = true) ∧ (readSegment (s.get (F.CH_LINK_STATUS_RX_LANES p)) [r0, r1, r2, r3] (s.rxCols p cols) = some r) ∧ (skpSets (s.get (F.CH_LINK_STATUS_RX_LANES p)) [r0, r1, r2, r3] (s.rxCols p cols) = 0) ∧ (r.eop = true ∧ r.crcOk = true ∧ r.lenOk = true ∧ r.viol = []) ∧ (s.addr ≠ 0 ∧ r.seg.tile = s.addr) ∧ (s.tileRx.ready = true ∧ s.tileRx.rxOk = true ∧ s.links.wheyStopped = false) ∧ (s.headerGood r.seg = true ∧ r.seg.phase < s.phases)) ∧
    (∃ (s : State) (p : Nat) (cols : List (List Nat)) (r0 r1 r2 r3 : Bool) (r : SegmentIn), (s.acts) ∧ (s.hasPort p = true) ∧ (s.isTile = true) ∧ (s.linked p = true) ∧ (readSegment (s.get (F.CH_LINK_STATUS_RX_LANES p)) [r0, r1, r2, r3] (s.rxCols p cols) = some r) ∧ (skpSets (s.get (F.CH_LINK_STATUS_RX_LANES p)) [r0, r1, r2, r3] (s.rxCols p cols) = 0) ∧ (s.addr = 0 ∨ r.seg.tile ≠ s.addr) ∧ (r.eop = false ∨ (r.crcOk = true ∧ r.lenOk = true ∧ r.viol = [])) ∧ (symViolation ∉ r.syms)) ∧
    (∃ (s : State) (p : Nat) (cols : List (List Nat)) (r0 r1 r2 r3 : Bool) (r : SegmentIn), (s.acts) ∧ (s.hasPort p = true) ∧ (s.isTile = true) ∧ (s.linked p = true) ∧ (readSegment (s.get (F.CH_LINK_STATUS_RX_LANES p)) [r0, r1, r2, r3] (s.rxCols p cols) = some r) ∧ (skpSets (s.get (F.CH_LINK_STATUS_RX_LANES p)) [r0, r1, r2, r3] (s.rxCols p cols) = 0) ∧ (s.addr ≠ 0 ∧ r.seg.tile = s.addr) ∧ (r.eop = true ∧ r.viol = [] ∧ (r.crcOk = false ∨ r.lenOk = false))) ∧
    (∃ (s : State) , (s.acts) ∧ (s.isTile = true) ∧ (s.tileRx.rx = true ∧ s.tileRx.rxOk = true) ∧ (max s.tileRx.ovlK 1 ≤ ahead (s.raster.fnum + 1) s.tileRx.fnum) ∧ (s.uncovered s.tileRx.dirB = []) ∧ (0 < s.phases * s.tile.h)) ∧
    (∃ (s : State) , let m : List (Nat × Nat) := s.uncovered s.tileRx.dirB; (s.acts) ∧ (s.isTile = true) ∧ (s.tileRx.rx = true ∧ s.tileRx.haveLast = true) ∧ (max s.tileRx.ovlK 1 ≤ ahead (s.raster.fnum + 1) s.tileRx.fnum)) ∧
    (∃ (s : State) (p i : Nat), (s.acts) ∧ (s.hasPort p = true) ∧ (i < 5) ∧ (s.linked p = true) ∧ (s.rxIn p lnSpare = [i]) ∧ (overRate (Tab.get (fun _ => []) (s.port p).laneErr i) = true) ∧ ((s.cal p).step = none) ∧ (s.log.queue.length < 64)) ∧
    (∃ (s : State) (p : Nat), (s.acts) ∧ (s.hasPort p = true) ∧ (overRate (s.port p).portErr = true) ∧ (s.on (F.CH_LINK_STATUS_PORT_CRC p) = false)) ∧
    (∃ (s : State) (p : Nat) (e : LossSigns), (s.acts) ∧ ((e.viols ≠ [] ∧ e.viols.length = s.get (F.CH_LINK_STATUS_RX_LANES p) ∧ ∀ v ∈ e.viols, 32 < v) ∨ 2 ≤ e.unaligned ∨ 9352 ≤ e.sinceSkp ∨ (e.silent = true ∧ ∀ i ∈ s.rxIn p lnActive, s.on (F.HP_LANE_STATE_SIGDET (chainLane p i)) = false)) ∧ (p < 16) ∧ (s.isSender = true) ∧ (s.linked p = true) ∧ ((s.cal p).step = none)) ∧
    (∃ (s : State) (p : Nat) (e : LossSigns), (s.acts) ∧ (p < 16) ∧ (e.viols = [] ∨ e.viols.length ≠ s.get (F.CH_LINK_STATUS_RX_LANES p) ∨ ∃ v ∈ e.viols, v ≤ 32) ∧ (e.unaligned < 2 ∧ e.sinceSkp < 9352) ∧ (e.silent = false ∨ ∃ i ∈ s.rxIn p lnActive, s.on (F.HP_LANE_STATE_SIGDET (chainLane p i)) = true)) ∧
    (∃ (s : State) (p : Nat), (s.acts) ∧ (p < 16) ∧ (s.isSender = true) ∧ (s.answersAt (atCH p 0x88) = true) ∧ (s.linked p = true) ∧ ((s.cal p).step = none)) :=
  ⟨⟨wRx, 0, seg4 ⟨4, 0, 1, 2, 4, 9, [5, 6]⟩, false, false, false, false, (readSegment 4 rd4 (seg4 ⟨4, 0, 1, 2, 4, 9, [5, 6]⟩)).getD ⟨⟨0, 0, 0, 0, 0, 0, []⟩, [], false, false, false, []⟩, by decide +kernel⟩,
   ⟨wRx, 0, seg4 ⟨5, 0, 1, 2, 4, 9, [5, 6]⟩, false, false, false, false, (readSegment 4 rd4 (seg4 ⟨5, 0, 1, 2, 4, 9, [5, 6]⟩)).getD ⟨⟨0, 0, 0, 0, 0, 0, []⟩, [], false, false, false, []⟩, by decide +kernel⟩,
   ⟨wRx, 0, cols4 (framed symSos (segmentBytes ⟨4, 0, 1, 2, 4, 9, [5, 6]⟩) 1 false), false, false, false, false, (readSegment 4 rd4 (cols4 (framed symSos (segmentBytes ⟨4, 0, 1, 2, 4, 9, [5, 6]⟩) 1 false))).getD ⟨⟨0, 0, 0, 0, 0, 0, []⟩, [], false, false, false, []⟩, by decide +kernel⟩,
   ⟨wRxAll, by decide +kernel⟩,
   ⟨{ wRxAll with tileRx := { wRxAll.tileRx with haveLast := true, last := [(2, [1, 2, 3, 4, 5, 6, 7, 8])], coverA := [] } }, by decide +kernel⟩,
   ⟨wLanes.setPort 0 fun x => { x with laneErr := [(4, (List.range 17).map (fun i => 17 - i))] }, 0, 4, by decide +kernel⟩,
   ⟨wLanes.setPort 0 fun x => { x with portErr := (List.range 17).map (fun i => 17 - i) }, 0, by decide +kernel⟩,
   ⟨withF [(F.CH_LINK_STATUS_RX_LANES 0, 4)] wLanes, 0, ⟨[33, 40, 33, 99], 0, 0, false⟩, by decide +kernel⟩,
   ⟨withF [(F.CH_LINK_STATUS_RX_LANES 0, 4)] wLanes, 0, ⟨[33, 32, 33, 99], 1, 9351, false⟩, by decide +kernel⟩,
   ⟨wLanes, 0, by decide +kernel⟩⟩

theorem witness_ControlPackets :
    (∃ (s : State) (p src seq dest result : Nat) (f : InFlight) (w : PktEnd), (s.acts) ∧ (p < 16) ∧ (s.isSender = true) ∧ (Tab.get (fun _ => none) (s.port p).unacked src = some f) ∧ (f.pkt.seq = seq ∧ f.host = true) ∧ (s.hop p = none) ∧ ((s.port p).uniWait = []) ∧ (w.good (rxSeq w (ackPkt src dest seq result)))) ∧
    (∃ (s : State) (p src seq dest result : Nat) (w : PktEnd), (s.acts) ∧ (s.hasPort p = true) ∧ (s.isSender = false) ∧ (s.tileLike = true) ∧ ((s.addr = 0 ∨ dest ≠ s.addr) ∧ dest ≠ 0) ∧ (w.good (rxSeq w (ackPkt src dest seq result)))) ∧
    (∃ (s : State) (p src seq dest : Nat) (vals : List Nat) (f : InFlight) (w : PktEnd), (s.acts) ∧ (p < 16) ∧ (s.isSender = true) ∧ (Tab.get (fun _ => none) (s.port p).unacked src = some f) ∧ (f.pkt.seq = seq ∧ f.host = true) ∧ ((s.port p).uniWait = []) ∧ (w.good (rxFlags w (rdRespPkt src dest seq vals)))) ∧
    (∃ (s : State) (p dest : Nat) (f : InFlight), (s.acts) ∧ (s.hasPort p = true) ∧ (Tab.get (fun _ => none) (s.port p).unacked dest = some f) ∧ (f.resends < 3) ∧ (s.hop p = none)) ∧
    (∃ (s : State) (p dest : Nat) (f : InFlight), (s.acts) ∧ (s.hasPort p = true) ∧ (Tab.get (fun _ => none) (s.port p).unacked dest = some f) ∧ (3 ≤ f.resends ∧ f.host = true) ∧ (s.hop p = none) ∧ ((s.port p).uniWait = [])) ∧
    (∃ (s : State) (p : Nat) (f : InFlight), (s.acts) ∧ (s.hasPort p = true) ∧ ((s.port p).bcast = some f) ∧ (3 ≤ f.frames) ∧ (f.resends < 3)) ∧
    (∃ (s : State) (p src seq dest : Nat) (v : Word) (w : PktEnd), (s.acts) ∧ (s.hasPort p = true) ∧ (s.isTile = true) ∧ (dest ≠ 0xFF ∧ dest = s.addr ∧ dest ≠ 0) ∧ (s.duplicate p src seq dest = false) ∧ (w.good (rxFlags w ⟨0x10, dest, src, seq, 0, leBytes 4 F.RD_IRQ_EN0_EN.addr ++ leBytes 4 v.toNat⟩))) ∧
    (∃ (s : State) (p src seq dest : Nat) (data l : List Nat) (w : PktEnd), (s.acts) ∧ (s.hasPort p = true) ∧ (s.isTile = true) ∧ (dest ≠ 0xFF ∧ dest = s.addr ∧ dest ≠ 0) ∧ (wordsIn data = some l) ∧ (l.length % 2 = 0) ∧ (s.duplicate p src seq dest = true) ∧ (Tab.get (fun _ => none) (s.port p).lastRead src = none) ∧ (w.good (rxFlags w ⟨0x10, dest, src, seq, 0, data⟩))) ∧
    (∃ (s : State) (p src seq dest : Nat) (data : List Nat) (w : PktEnd), (s.acts) ∧ (s.hasPort p = true) ∧ (s.isTile = true) ∧ (dest ≠ 0xFF ∧ dest = s.addr ∧ dest ≠ 0) ∧ (data.length % 8 ≠ 0 ∨ 248 < data.length) ∧ (w.good (rxFlags w ⟨0x10, dest, src, seq, 0, data⟩))) ∧
    (∃ (s : State) (p src seq dest : Nat) (data : List Nat) (w : PktEnd), (s.acts) ∧ (s.hasPort p = true) ∧ (s.isTile = true) ∧ (dest ≠ 0 ∧ dest ≠ s.addr) ∧ (w.edb = true ∨ w.check ≠ pktCheck (rxFlags w ⟨0x10, dest, src, seq, 0, data⟩))) ∧
    (∃ (s : State) (p src seq dest : Nat) (w : PktEnd), (s.acts) ∧ (s.hasPort p = true) ∧ (s.isTile = true) ∧ (dest ≠ 0xFF ∧ dest = s.addr ∧ dest ≠ 0) ∧ (s.duplicate p src seq dest = false) ∧ (Tab.get (fun _ => none) s.acc.captured F.RD_IRQ_EN0_EN.addr = none) ∧ (w.good (rxFlags w ⟨0x11, dest, src, seq, 0, leBytes 4 F.RD_IRQ_EN0_EN.addr⟩))) ∧
    (∃ (s : State) (p src seq dest : Nat) (data : List Nat) (w : PktEnd), (s.acts) ∧ (s.hasPort p = true) ∧ (s.isTile = true) ∧ (dest ≠ 0 ∧ dest ≠ s.addr) ∧ (w.good (rxFlags w ⟨0x11, dest, src, seq, 0, data⟩))) ∧
    (∃ (s : State) (p src seq : Nat) (T : Word) (w : PktEnd), (s.acts) ∧ (s.hasPort p = true) ∧ (s.isTile = true) ∧ (s.duplicate p src seq 0xFF = false) ∧ (s.commit.group = none) ∧ (s.commit.go = none) ∧ (s.on F.RD_COMMIT_CTRL_HOLD = true) ∧ (w.good (rxFlags w ⟨0x13, 0xFF, src, seq, 0, leBytes 4 T.toNat⟩))) ∧
    (∃ (s : State) (p src seq T wallId mouldSeq : Nat) (m : MouldImage) (w : PktEnd), (s.acts) ∧ (s.hasPort p = true) ∧ (s.isTile = true) ∧ (s.duplicate p src seq 0xFF = false) ∧ (s.tileImage = some m) ∧ (m.hdr.wallId = wallId ∧ m.hdr.mouldSeq = mouldSeq) ∧ (1 ≤ ahead T s.raster.fnum) ∧ (w.good (rxFlags w ⟨0x20, 0xFF, src, seq, 0, remouldBytes true T wallId mouldSeq⟩))) ∧
    (∃ (s : State) (p ty src seq dest : Nat) (data : List Nat) (w : PktEnd), let mine : Bool := decide (dest = 0xFF ∨ dest = 0 ∨ dest = s.addr); let k : Pkt := rxFlags w ⟨ty, dest, src, seq, 0, data⟩; (s.acts) ∧ (s.hasPort p = true) ∧ (s.isTile = true) ∧ (ctrlType ty = false ∧ ty < 0x80) ∧ (w.good (rxFlags w ⟨ty, dest, src, seq, 0, data⟩))) ∧
    (∃ (s : State) (p : Nat) (val : Word), let ty : Nat := bits val.toNat 31 24; let dest : Nat := bits val.toNat 23 16; let len : Nat := bits val.toNat 15 8; (s.acts) ∧ (p < 16) ∧ (s.isSender = true) ∧ (s.wordOk (atCH p 0x74) val = true) ∧ (ty = 0x10 ∨ ty = 0x11 ∨ ty = 0x13 ∨ (0x30 ≤ ty ∧ ty ≤ 0x3F)) ∧ (1 ≤ dest ∧ dest ≤ 32) ∧ (len ≤ 248) ∧ (Tab.get (fun _ => none) (s.port p).unacked dest = none)) ∧
    (∃ (s : State) (p : Nat) (val : Word), let ty : Nat := bits val.toNat 31 24; (s.acts) ∧ (p < 16) ∧ (s.isSender = true) ∧ (s.wordOk (atCH p 0x74) val = true) ∧ (¬ (ty = 0x10 ∨ ty = 0x11 ∨ ty = 0x13 ∨ (0x30 ≤ ty ∧ ty ≤ 0x3F)) ∨ 248 < bits val.toNat 15 8)) ∧
    (∃ (s : State) (p : Nat) (k : Pkt) (rest : List Pkt), (s.acts) ∧ (s.hasPort p = true) ∧ (s.answersAt (atCH p 0x7C) = true) ∧ ((s.port p).rxq = k :: rest)) :=
  ⟨⟨wImg.setPort 0 fun x => { x with unacked := [(5, some { pkt := ⟨0x10, 5, 0xF1, 9, 1, []⟩, host := true })] }, 0, 5, 9, 0xF1, 0, { pkt := ⟨0x10, 5, 0xF1, 9, 1, []⟩, host := true }, goodEnd (ackPkt 5 0xF1 9 0), by decide +kernel⟩,
   ⟨wLinked, 1, 5, 9, 0xF1, 0, goodEnd (ackPkt 5 0xF1 9 0), by decide +kernel⟩,
   ⟨wImg.setPort 0 fun x => { x with unacked := [(5, some { pkt := ⟨0x11, 5, 0xF1, 9, 1, []⟩, host := true })] }, 0, 5, 9, 0xF1, [77], { pkt := ⟨0x11, 5, 0xF1, 9, 1, []⟩, host := true }, goodEnd (rdRespPkt 5 0xF1 9 [77]), by decide +kernel⟩,
   ⟨wImg.setPort 0 fun x => { x with unacked := [(5, some { pkt := ⟨0x10, 5, 0xF1, 9, 1, []⟩, host := true })] }, 0, 5, { pkt := ⟨0x10, 5, 0xF1, 9, 1, []⟩, host := true }, by decide +kernel⟩,
   ⟨wImg.setPort 0 fun x => { x with unacked := [(5, some { pkt := ⟨0x10, 5, 0xF1, 9, 1, []⟩, host := true, resends := 3 })] }, 0, 5, { pkt := ⟨0x10, 5, 0xF1, 9, 1, []⟩, host := true, resends := 3 }, by decide +kernel⟩,
   ⟨wImg.setPort 0 fun x => { x with bcast := some { pkt := ⟨0x13, 0xFF, 0xF1, 9, 0, []⟩, frames := 3 } }, 0, { pkt := ⟨0x13, 0xFF, 0xF1, 9, 0, []⟩, frames := 3 }, by decide +kernel⟩,
   ⟨wLinked, 0, 0xF1, 7, 4, 0x12, goodEnd ⟨0x10, 4, 0xF1, 7, 0, leBytes 4 0x708 ++ leBytes 4 0x12⟩, by decide +kernel⟩,
   ⟨wLinked.setPort 0 fun x => { x with lastExec := [(0xF1, some 7)] }, 0, 0xF1, 7, 4, leBytes 4 0x708 ++ leBytes 4 5, [0x708, 5], goodEnd ⟨0x10, 4, 0xF1, 7, 0, leBytes 4 0x708 ++ leBytes 4 5⟩, by decide +kernel⟩,
   ⟨wLinked, 0, 0xF1, 7, 4, [1, 2, 3], goodEnd ⟨0x10, 4, 0xF1, 7, 0, [1, 2, 3]⟩, by decide +kernel⟩,
   ⟨wLinked, 0, 0xF1, 7, 5, [1, 2, 3], ⟨0, 0, 1, 5, false⟩, by decide +kernel⟩,
   ⟨wLinked, 0, 0xF1, 7, 4, goodEnd ⟨0x11, 4, 0xF1, 7, 0, leBytes 4 0x708⟩, by decide +kernel⟩,
   ⟨wLinked, 0, 0xF1, 7, 5, leBytes 4 0x708, goodEnd ⟨0x11, 5, 0xF1, 7, 0, leBytes 4 0x708⟩, by decide +kernel⟩,
   ⟨withF [(F.RD_COMMIT_CTRL_HOLD, 1)] wLinked, 0, 0xF1, 7, 99, goodEnd ⟨0x13, 0xFF, 0xF1, 7, 0, leBytes 4 99⟩, by decide +kernel⟩,
   ⟨{ wLinked with nv := { wLinked.nv with staging := some (mN 2) } }, 0, 0xF1, 7, 40, 0x12345678, 9, mN 2, goodEnd ⟨0x20, 0xFF, 0xF1, 7, 0, remouldBytes true 40 0x12345678 9⟩, by decide +kernel⟩,
   ⟨wLinked, 0, 0x41, 0xF1, 7, 4, [], goodEnd ⟨0x41, 4, 0xF1, 7, 0, []⟩, by decide +kernel⟩,
   ⟨wImg, 0, 0x10050800, by decide +kernel⟩,
   ⟨wImg, 0, 0x12050800, by decide +kernel⟩,
   ⟨wImg.setPort 0 fun x => { x with rxq := [⟨0x12, 0xF1, 5, 9, 0, [1, 2, 3, 4, 5]⟩] }, 0, ⟨0x12, 0xF1, 5, 9, 0, [1, 2, 3, 4, 5]⟩, [], by decide +kernel⟩⟩

theorem witness_WheyAndComparison :
    (∃ (s : State) (p : Nat) (b : List Nat) (w : PktEnd), (s.acts) ∧ (p < 16) ∧ (s.isSender = true) ∧ (1 ≤ b.getD 0 0 % 64 ∧ b.getD 0 0 % 64 ≤ 32) ∧ ((s.port p).so = []) ∧ ((s.port p).bcast = none) ∧ (w.good (rxHead w ⟨0x81, 0xFE, 0, 0, 0, b⟩))) ∧
    (∃ (s : State) (p a : Nat), (s.acts) ∧ (s.hasPort p = true) ∧ (s.answersAt (atCH p 0) = true) ∧ (1 ≤ a ∧ a ≤ 32)) ∧
    (∃ (s : State) (p a f : Nat) (entries : List (Nat × Nat)) (more overflow : Bool) (w : PktEnd), (s.acts) ∧ (p < 16) ∧ (s.isSender = true) ∧ ((s.port p).whey.length + entries.length ≤ 8192) ∧ (w.good (rxSeq w (lampfaultPkt a f entries more overflow)))) ∧
    (∃ (s : State) (p w : Nat) (rest : List Nat), (s.acts) ∧ (s.hasPort p = true) ∧ (s.answersAt (atCH p 0x80) = true) ∧ ((s.port p).whey = w :: rest)) ∧
    (∃ (s : State) (p : Nat), (s.acts) ∧ (s.hasPort p = true) ∧ (s.answersAt (atCH p 0x80) = true) ∧ ((s.port p).whey = [])) ∧
    (∃ (s : State) (p a f c r : Nat) (outs : List Nat) (fr : SoFrame) (rep : Bool) (w : PktEnd), (s.acts) ∧ (p < 16) ∧ (s.isSender = true) ∧ (1 ≤ a ∧ a ≤ 32) ∧ ((s.port p).so = [fr]) ∧ (fr.fnum = f ∧ fr.left = false ∧ fr.came = []) ∧ (Tab.get (fun _ => none) fr.status a = some rep) ∧ (Tab.get (fun _ => none) fr.crcs (4 * a) = some r) ∧ (∀ k ∈ List.range 4, k ≠ 0 → (Tab.get (fun _ => none) fr.crcs (4 * a + k)).isSome = false) ∧ (s.on (F.CH_SO_CTRL_PCRC_EN p) = true) ∧ ((s.port p).ocrc.cmd = none) ∧ (c = r ^^^ 0xFFFFFFFF) ∧ (w.good (rxSeq w (outcrcPkt a f [c] outs)))) ∧
    (∃ (s : State) (p a k : Nat) (fr : SoFrame), (s.acts) ∧ (s.hasPort p = true) ∧ (1 ≤ a ∧ a ≤ 32 ∧ k < 4) ∧ ((s.port p).so.length = 16 ∧ (s.port p).so.getLast? = some fr) ∧ (fr.left = false ∧ fr.came = [] ∧ fr.given = [] ∧ (Tab.get (fun _ => none) fr.status a).isSome = true) ∧ (fr.ready.testBit a = true) ∧ ((Tab.get (fun _ => none) fr.crcs (4 * a + k)).isSome = true) ∧ (s.on (F.CH_SO_CTRL_PCRC_EN p) = true)) ∧
    (∃ (s : State) (p : Nat), (s.acts) ∧ (p < 16) ∧ (s.isSender = true) ∧ (s.answersAt (atCH p 0xB8) = true) ∧ ((s.port p).ocrc.cmd = none) ∧ (1 ≤ ahead (s.get (F.CH_OCRC_FNUM_FNUM p)) s.raster.fnum)) ∧
    (∃ (s : State) (p : Nat), (s.acts) ∧ (p < 16) ∧ (s.isSender = true) ∧ (s.answersAt (atCH p 0xB8) = true) ∧ ((s.port p).ocrc.cmd = none) ∧ (ahead (s.get (F.CH_OCRC_FNUM_FNUM p)) s.raster.fnum ≤ 0)) ∧
    (∃ (s : State) (p : Nat), (s.acts) ∧ (p < 16) ∧ (s.isSender = true) ∧ (s.answersAt (atCH p 0xB8) = true) ∧ ((s.port p).ocrc.cmd = none)) ∧
    (∃ (s : State) (p g : Nat), (s.acts) ∧ (s.hasPort p = true) ∧ ((s.port p).ocrc.cmd = some (true, g)) ∧ (16 ≤ ahead s.raster.fnum g)) ∧
    (∃ (s : State) (p d : Nat) (rest : List Nat), (s.acts) ∧ (s.hasPort p = true) ∧ (s.answersAt (atCH p 0xC4) = true) ∧ ((s.port p).ocrc.diffs = d :: rest)) ∧
    (∃ (s : State) (p c v tg f pos : Nat) (fr : SoFrame), (s.acts) ∧ (s.noSwapWaits) ∧ (p < 16) ∧ (s.isSender = true) ∧ (s.targetOf p (c % max s.phases 1) = some (v, tg)) ∧ (c < s.get (F.CH_CTG_GEOM_LTOTAL_C p)) ∧ (c < s.get (F.CH_CTG_GEOM_ACTIVE_C p)) ∧ (c / max s.phases 1 < s.get (F.VT_TGT_REGION_WH_H v tg)) ∧ (s.linked p = true ∧ (s.port p).enumStarted = true ∧ s.get (F.CH_LINK_STATUS_OVL_K p) ≠ 0) ∧ (s.cutPorts.testBit p = false) ∧ (s.lineAt p c = some (f, pos) ∧ s.raster.holds pos = true) ∧ (s.soRec p f = some fr) ∧ (fr.next ≤ c) ∧ (v < 4 ∧ tg < 16)) ∧
    (∃ (s : State) (p fill : Nat), let w : Nat := s.get (F.CH_SO_CTRL_WMARK p); let n : Nat := min fill 16384; let u : Bool := if w + 1024 ≤ n ∨ s.lastComposed p = true then false else if n < w then true else (s.port p).urgAt.isSome; let spent : Nat := (s.port p).urgTicks + (match (s.port p).urgAt with | some x => s.raster.ticks - x | none => 0); (s.acts) ∧ (p < 16) ∧ (s.isSender = true)) :=
  ⟨⟨wImg, 0, [3, 5, 0, 0, 9], goodEnd ⟨0x81, 0xFE, 0, 0, 0, [3, 5, 0, 0, 9]⟩, by decide +kernel⟩,
   ⟨wImg, 0, 3, by decide +kernel⟩,
   ⟨wImg, 0, 3, 9, [(77, 1)], false, false, goodEnd (lampfaultPkt 3 9 [(77, 1)] false false), by decide +kernel⟩,
   ⟨wImg.setPort 0 fun x => { x with whey := [5, 6] }, 0, 5, [6], by decide +kernel⟩,
   ⟨wImg, 0, by decide +kernel⟩,
   ⟨(withF [(F.CH_SO_CTRL_PCRC_EN 0, 1)] wImg).setPort 0 fun x => { x with so := [{ fnum := 9, crcs := [(12, some 3)], status := [(3, some false)] }] }, 0, 3, 9, 0xFFFFFFFC, 3, [1], { fnum := 9, crcs := [(12, some 3)], status := [(3, some false)] }, false, goodEnd (outcrcPkt 3 9 [0xFFFFFFFC] [1]), by decide +kernel⟩,
   ⟨(withF [(F.CH_SO_CTRL_PCRC_EN 0, 1)] wImg).setPort 0 fun x => { x with so := List.replicate 16 { fnum := 9, crcs := [(13, some 3)], ready := 8, status := [(3, some false)] } }, 0, 3, 1, { fnum := 9, crcs := [(13, some 3)], ready := 8, status := [(3, some false)] }, by decide +kernel⟩,
   ⟨withF [(F.CH_OCRC_FNUM_FNUM 0, 20)] wImg, 0, by decide +kernel⟩,
   ⟨wImg, 0, by decide +kernel⟩,
   ⟨wImg.setPort 0 fun x => { x with ocrc := { ref := some [] } }, 0, by decide +kernel⟩,
   ⟨{ wImg.setPort 0 fun x => { x with ocrc := { cmd := some (true, 3) } } with raster := { wImg.raster with fnum := 30 } }, 0, 3, by decide +kernel⟩,
   ⟨wImg.setPort 0 fun x => { x with ocrc := { diffs := [5, 6] } }, 0, 5, [6], by decide +kernel⟩,
   ⟨(withF [(F.CH_CTG_GEOM_LTOTAL_C 0, 20), (F.CH_CTG_GEOM_ACTIVE_C 0, 8), (F.VT_TGT_CTRL_ASSIGNED 0 0, 1), ((F.VT_TGT_REGION_WH_H 0 0), 4), (F.VT_TGT_REGION_WH_W 0 0, 16), (F.CH_LINK_STATUS_OVL_K 0, 1)] { wImg with mould := { wImg.mould with loaded := some mS }, comp := [] }).setPort 0 fun x => { x with agree := 6, enumStarted := true, so := [{ fnum := 0, k := 1, codes := [2, 0, 0, 0], bgs := [7] }] }, 0, 1, 0, 0, 0, 3686400, { fnum := 0, k := 1, codes := [2, 0, 0, 0], bgs := [7] }, ⟨by decide +kernel, by decide +kernel, by decide +kernel, by decide +kernel, by decide +kernel, by decide +kernel, by decide +kernel, by decide +kernel, ⟨by decide +kernel, by decide +kernel, by decide +kernel⟩, by decide +kernel, ⟨by decide +kernel, by decide +kernel⟩, by decide +kernel, by decide +kernel, ⟨by decide +kernel, by decide +kernel⟩⟩⟩,
   ⟨withF [(F.CH_SO_CTRL_WMARK 0, 100)] wImg, 0, 5, by decide +kernel⟩⟩

theorem witness_SourceIngest :
    (∃ (s : State) (q bit : Nat) (eq : List Word) (c : SourceCfg), (s.acts) ∧ (q < 8) ∧ (s.engineOf q = some (c, bit)) ∧ (c.vat < 4 ∧ c.engine < 2 ∧ bit < 2) ∧ (s.ingState c.vat c.engine = ingNoSignal) ∧ (setBit (s.ing c.vat c.engine).lock bit = portBits c)) ∧
    (∃ (s : State) (q sframe bit : Nat) (f : SrcFormat) (c : SourceCfg) (w : PktEnd), (s.acts) ∧ (q < 8) ∧ (s.engineOf q = some (c, bit)) ∧ (c.vat < 4 ∧ c.engine < 2 ∧ c.bonded = false) ∧ ((s.ing c.vat c.engine).lock.testBit bit = true) ∧ (formatOk f = true) ∧ (w.good (rxHead w (formatPkt sframe f))) ∧ ((s.ing c.vat c.engine).frame = none ∧ (s.ing c.vat c.engine).older = none) ∧ (s.ingState c.vat c.engine = ingWait) ∧ ((s.ing c.vat c.engine).cand ≠ some (fmtSeen bit f)) ∧ ((s.ing c.vat c.engine).lastSframe = none)) ∧
    (∃ (s : State) (q sframe bit : Nat) (f : SrcFormat) (c : SourceCfg) (w : PktEnd), (s.acts) ∧ (q < 8) ∧ (s.engineOf q = some (c, bit)) ∧ (c.vat < 4 ∧ c.engine < 2 ∧ c.bonded = false) ∧ ((s.ing c.vat c.engine).lock.testBit bit = true) ∧ (formatOk f = true) ∧ (w.good (rxHead w (formatPkt sframe f))) ∧ ((s.ing c.vat c.engine).frame = none ∧ (s.ing c.vat c.engine).older = none) ∧ (s.ingState c.vat c.engine = ingWait) ∧ ((s.ing c.vat c.engine).cand = some (fmtSeen bit f)) ∧ ((s.ing c.vat c.engine).lastSframe = none) ∧ (s.budgetOk c (fmtSeen bit f) = true)) ∧
    (∃ (s : State) (q row col sf chk bit b : Nat) (words ctrl : List Nat) (c : SourceCfg) (fr : IngFrame), (s.acts) ∧ (q < 8) ∧ (s.engineOf q = some (c, bit)) ∧ (c.vat < 4 ∧ c.engine < 2 ∧ c.bonded = false ∧ bit = 0) ∧ ((s.ing c.vat c.engine).frame = some fr ∧ (s.ing c.vat c.engine).older = none) ∧ (chk = crc32 (lineBytes row col words.length 0 sf words)) ∧ ((∀ k ∈ ctrl, k ∈ sourceKs) ∧ ctrl.getLast? = some symEop) ∧ (fr.target = some b) ∧ (fr.begun = 1 ∧ fr.ended = 0 ∧ fr.shut = 0) ∧ (sf % 256 = fr.sframe % 256) ∧ (row < fr.fmt.h ∧ col + words.length ≤ fr.fmt.w) ∧ (1 ≤ words.length ∧ words.length ≤ 1024)) ∧
    (∃ (s : State) (q row col sf count chk bit : Nat) (last viol : Bool) (words ctrl : List Nat) (c : SourceCfg), (s.acts) ∧ (q < 8) ∧ (s.engineOf q = some (c, bit)) ∧ (viol = true ∨ ctrl.all sourceKs.contains = false ∨ ctrl.getLast? ≠ some symEop ∨ count ≠ words.length ∨ chk ≠ crc32 (lineBytes row col count (if last then 1 else 0) sf words))) ∧
    (∃ (s : State) (v e b : Nat) (fr : IngFrame), (s.acts) ∧ (v < 4 ∧ e < 2) ∧ ((s.ing v e).done = some fr) ∧ (fr.target = some b) ∧ (b < 3) ∧ (fr.badRows = []) ∧ (s.mould.oldStores = [] ∧ storeCfgKey fr.lay = storeKey v skIngest e) ∧ (s.get (fsNewest (storeKey v skIngest e)) = 3)) ∧
    (∃ (s : State) (v e b : Nat) (fr : IngFrame), (s.acts) ∧ (v < 4 ∧ e < 2) ∧ ((s.ing v e).done = some fr) ∧ (fr.target = some b) ∧ (b < 3) ∧ (fr.badRows ≠ []) ∧ (s.on (F.VT_ING_CTRL_DROP_DAMAGED v e) = true)) ∧
    (∃ (s : State) (v e lost : Nat), (s.acts) ∧ (v < 4 ∧ e < 2) ∧ (s.ingState v e = ingWait ∨ s.ingState v e = ingRunning ∨ s.ingState v e = ingOver)) ∧
    (∃ (s : State) (v e : Nat) (rows : List Nat) (fr : IngFrame), (s.acts) ∧ (v < 4 ∧ e < 2) ∧ ((s.ing v e).frame = some fr ∧ (s.ing v e).older = none)) ∧
    (∃ (s : State) (v e : Nat), (s.acts) ∧ (v < 4 ∧ e < 2) ∧ (s.ingState v e = ingStopped ∨ s.ingState v e = ingOver) ∧ (s.on (F.VT_ING_CTRL_STOP_HOLD v e) = true) ∧ (s.get (F.VT_ING_CTRL_STOP_HOLD v e) ≤ (s.ing v e).stopped)) ∧
    (∃ (s : State) (v e : Nat), (s.acts) ∧ (v < 4 ∧ e < 2) ∧ (s.answersAt (atING v e 8) = true)) :=
  ⟨⟨withF [(F.VT_ING_STATUS_STATE 0 0, 1)] wSrc, 0, 0, [0x08300000, 5], ⟨0, 0, 0, false, 3⟩, by decide +kernel⟩,
   ⟨wSrc, 0, 5, 0, fmt0, ⟨0, 0, 0, false, 3⟩, goodEnd (formatPkt 5 fmt0), by decide +kernel⟩,
   ⟨wSrc.setIng 0 0 fun x => { x with cand := some fmt0 }, 0, 5, 0, fmt0, ⟨0, 0, 0, false, 3⟩, goodEnd (formatPkt 5 fmt0), by decide +kernel⟩,
   ⟨wIngFrame, 0, 1, 2, 7, crc32 (lineBytes 1 2 3 0 7 [5, 6, 7]), 0, 1, [5, 6, 7], [symEop], ⟨0, 0, 0, false, 3⟩, { fmt := fmt0, sframe := 7, lay := lay00, target := some 1, tag := 9, begun := 1 }, by decide +kernel⟩,
   ⟨wIngFrame, 0, 1, 2, 7, 3, crc32 (lineBytes 1 2 3 0 7 [5, 6, 7]), 0, false, true, [5, 6, 7], [symEop], ⟨0, 0, 0, false, 3⟩, by decide +kernel⟩,
   ⟨wSrc.setIng 0 0 fun x => { x with done := some { fmt := { fmt0 with h := 0 }, sframe := 7, lay := lay00, target := some 1, tag := 9 } }, 0, 0, 1, { fmt := { fmt0 with h := 0 }, sframe := 7, lay := lay00, target := some 1, tag := 9 }, by decide +kernel⟩,
   ⟨(withF [(F.VT_ING_CTRL_DROP_DAMAGED 0 0, 1)] wSrc).setIng 0 0 fun x => { x with done := some { fmt := fmt0, sframe := 7, target := some 1, tag := 9 } }, 0, 0, 1, { fmt := fmt0, sframe := 7, target := some 1, tag := 9 }, by decide +kernel⟩,
   ⟨wIngFrame, 0, 0, 1, by decide +kernel⟩,
   ⟨wIngFrame, 0, 0, [1], { fmt := fmt0, sframe := 7, lay := lay00, target := some 1, tag := 9, begun := 1 }, by decide +kernel⟩,
   ⟨(withF [(F.VT_ING_STATUS_STATE 0 0, 4), (F.VT_ING_CTRL_STOP_HOLD 0 0, 2), (fsNewest 0, 1)] wSrc).setIng 0 0 fun x => { x with stopped := 2 }, 0, 0, by decide +kernel⟩,
   ⟨wSrc, 0, 0, by decide +kernel⟩⟩

theorem witness_RendererPath :
    (∃ (s : State) (v r b : Nat), (s.acts) ∧ (v < 4 ∧ r < 2) ∧ (s.answersAt (atRND v r 0) = true) ∧ (s.placed (storeKey v skRenderer r) = true) ∧ ((s.rnd v r).buf = none) ∧ (s.get (F.VT_RND_FMT_WIDTH v r) ≤ 14 * s.get (fsStride (storeKey v skRenderer r)) ∧ s.get (F.VT_RND_FMT_HEIGHT v r) ≤ s.get (fsMaxRows (storeKey v skRenderer r))) ∧ (s.freeBuf (storeKey v skRenderer r) (s.rnd v r).ended = some b)) ∧
    (∃ (s : State) (v r : Nat), (s.acts) ∧ (v < 4 ∧ r < 2) ∧ (s.answersAt (atRND v r 0) = true) ∧ ((s.rnd v r).buf.isSome = true ∧ (s.rnd v r).flush = none)) ∧
    (∃ (s : State) (v r b fv : Nat), (s.acts) ∧ (v < 4 ∧ r < 2) ∧ ((s.rnd v r).buf = some b ∧ (s.rnd v r).flush = some fv ∧ (s.rnd v r).ended = []) ∧ (b < 3) ∧ (s.mould.oldStores = [] ∧ storeCfgKey (s.rnd v r).lay = storeKey v skRenderer r)) ∧
    (∃ (s : State) (v r b : Nat) (l : List Nat), (s.acts) ∧ (v < 4 ∧ r < 2) ∧ ((s.rnd v r).ended = b :: l)) ∧
    (∃ (s : State) (v r b : Nat), (s.acts) ∧ (v < 4 ∧ r < 2) ∧ (s.answersAt (atRND v r 0) = true) ∧ ((s.rnd v r).buf = some b) ∧ (b < 3)) ∧
    (∃ (s : State) (v r : Nat), (s.acts) ∧ (v < 4 ∧ r < 2) ∧ (s.answersAt (atRND v r 0) = true) ∧ ((s.rnd v r).buf = none)) ∧
    (∃ (s : State) (off k b at0 : Nat) (bytes ue : List Nat), let base : Nat := storeBurst (s.bar2Cfg k b) b 0 0; (s.acts) ∧ (s.bar2Target off bytes.length = some (k, b, at0)) ∧ (k / 4 % 4 = skRenderer) ∧ ((s.rnd (k / 16) (k % 4)).buf = some b ∧ (s.rnd (k / 16) (k % 4)).flush = none) ∧ (partBursts at0 bytes.length ue = [])) ∧
    (∃ (s : State) (off k b at0 : Nat) (bytes ue : List Nat), let base : Nat := storeBurst (s.bar2Cfg k b) b 0 0; (s.acts) ∧ (s.bar2Target off bytes.length = some (k, b, at0)) ∧ (k / 4 % 4 ≠ skRenderer ∨ (s.rnd (k / 16) (k % 4)).buf ≠ some b ∨ (s.rnd (k / 16) (k % 4)).flush.isSome = true)) ∧
    (∃ (s : State) (off k b at0 i j : Nat) (bytes ue : List Nat), (s.acts) ∧ (s.bar2Target off bytes.length = some (k, b, at0)) ∧ (k / 4 % 4 = skRenderer) ∧ ((s.rnd (k / 16) (k % 4)).buf = some b ∧ (s.rnd (k / 16) (k % 4)).flush = none) ∧ (i ∈ partBursts at0 bytes.length ue) ∧ (j < 63 ∧ (64 * i + j < at0 ∨ at0 + bytes.length ≤ 64 * i + j))) ∧
    (∃ (s : State) (off : Nat) (bytes ue : List Nat), (s.acts) ∧ (s.bar2Target off bytes.length = none) ∧ (((bar2Slot off).any fun e => s.bar2Reaches e.1 e.2.1) = false)) ∧
    (∃ (s : State) (off v k b : Nat) (bytes ue : List Nat), let base : Nat := storeBurst (s.bar2Cfg k b) b 0 0; (s.acts) ∧ (bar2Slot off = some (v, k, b)) ∧ (s.bar2Reaches v k = true) ∧ (storeBytes (s.bar2Cfg k b) < off % 2 ^ 29 + bytes.length)) ∧
    (∃ (s : State) (off len k b at0 : Nat) (ue : Bool), (s.acts) ∧ (s.bar2Target off len = some (k, b, at0))) ∧
    (∃ (s : State) (off len : Nat) (ue : Bool), (s.acts) ∧ (s.bar2Target off len = none)) :=
  ⟨⟨wSrc, 0, 0, 0, by decide +kernel⟩,
   ⟨wSrc.setRnd 0 0 fun _ => { buf := some 1 }, 0, 0, by decide +kernel⟩,
   ⟨wSrc.setRnd 0 0 fun _ => { buf := some 1, lay := lay04, flush := some 77 }, 0, 0, 1, 77, by decide +kernel⟩,
   ⟨wSrc.setRnd 0 0 fun _ => { buf := some 0, lay := lay04, ended := [1] }, 0, 0, 1, [], by decide +kernel⟩,
   ⟨wSrc.setRnd 0 0 fun _ => { buf := some 1 }, 0, 0, 1, by decide +kernel⟩,
   ⟨wSrc.setRnd 0 0 fun _ => { ended := [1] }, 0, 0, by decide +kernel⟩,
   ⟨wSrc.setRnd 0 0 fun _ => { buf := some 0, lay := lay04, tag := 9 }, 8, 4, 0, 8, [5, 6, 7], [9], by decide +kernel⟩,
   ⟨wSrc.setRnd 0 0 fun _ => { buf := some 0, lay := lay04, tag := 9 }, 0x20000008, 4, 1, 8, [5, 6, 7], [], by decide +kernel⟩,
   ⟨{ wSrc.setRnd 0 0 fun _ => { buf := some 0, lay := lay04, tag := 9 } with dram := [(3, 7)] }, 8, 4, 0, 8, 0, 3, [5, 6, 7], [0], by decide +kernel⟩,
   ⟨wSender, 8, [1], [], by decide +kernel⟩,
   ⟨wSrc, 510, 0, 4, 0, [5, 6, 7], [], by decide +kernel⟩,
   ⟨wSrc, 8, 3, 4, 0, 8, true, by decide +kernel⟩,
   ⟨wSender, 8, 3, true, by decide +kernel⟩⟩

theorem witness_Composition :
    (∃ (s : State) (v tg y : Nat), let p : Nat := s.get (F.VT_TGT_CTRL_PORT v tg); let W : Nat := s.get (F.VT_TGT_REGION_WH_W v tg); let x0 : Nat := s.get (F.VT_TGT_REGION_XY_X v tg); let Y : Nat := s.get (F.VT_TGT_REGION_XY_Y v tg) + y; let lay : Nat → List (LayerCfg × List Nat) := fun x => (s.contributing v tg).filterMap fun c => (s.layerAt c (s.layer c.vat c.engine) ((s.bases c.vat c.engine (s.layer c.vat c.engine) x0 W).headD 0) x0 x Y none).map fun h => (c, h); let line : List Nat := (List.range W).map fun x => if (lay x).isEmpty then s.bgWord v tg else wordOf fun i => encode20 (codeUsed (s.get (F.VT_TGT_CTRL_OUT_CODE v tg))) ((lay x).foldl (fun out l => blend s l.1.vat l.1.engine out (l.2.getD i 0)) (lin (codeUsed (s.get (F.VT_TGT_CTRL_OUT_CODE v tg))) (compOf (s.bgWord v tg) i))); (s.acts) ∧ (v < 4 ∧ tg < 16) ∧ (s.on (F.VT_TGT_CTRL_ASSIGNED v tg) = true) ∧ (y < s.get (F.VT_TGT_REGION_WH_H v tg)) ∧ (s.lineHeld v tg y = false) ∧ (Tab.find (16 * v + tg) s.wbs = none)) ∧
    (∃ (s : State) (v tg y b : Nat) (x : WriteBack), let p : Nat := s.get (F.VT_TGT_CTRL_PORT v tg); let W : Nat := s.get (F.VT_TGT_REGION_WH_W v tg); let x0 : Nat := s.get (F.VT_TGT_REGION_XY_X v tg); let Y : Nat := s.get (F.VT_TGT_REGION_XY_Y v tg) + y; let lay : Nat → List (LayerCfg × List Nat) := fun x => (s.contributing v tg).filterMap fun c => (s.layerAt c (s.layer c.vat c.engine) ((s.bases c.vat c.engine (s.layer c.vat c.engine) x0 W).headD 0) x0 x Y none).map fun h => (c, h); let line : List Nat := (List.range W).map fun x => if (lay x).isEmpty then s.bgWord v tg else wordOf fun i => encode20 (codeUsed (s.get (F.VT_TGT_CTRL_OUT_CODE v tg))) ((lay x).foldl (fun out l => blend s l.1.vat l.1.engine out (l.2.getD i 0)) (lin (codeUsed (s.get (F.VT_TGT_CTRL_OUT_CODE v tg))) (compOf (s.bgWord v tg) i))); (s.acts) ∧ (v < 4 ∧ tg < 16) ∧ (s.on (F.VT_TGT_CTRL_ASSIGNED v tg) = true) ∧ (y < s.get (F.VT_TGT_REGION_WH_H v tg)) ∧ (s.lineHeld v tg y = false) ∧ (Tab.find (16 * v + tg) s.wbs = some x) ∧ (x.buf = some b ∧ x.damaged = false)) ∧
    (∃ (s : State) (v tg y : Nat) (late : List (Nat × Nat)) (ue : List (Nat × Nat × Nat)), (s.acts) ∧ (v < 4 ∧ tg < 16) ∧ (s.on (F.VT_TGT_CTRL_ASSIGNED v tg) = true) ∧ (y < s.get (F.VT_TGT_REGION_WH_H v tg)) ∧ (s.lineHeld v tg y = false)) ∧
    (∃ (s : State) (v tg y : Nat) (late : List (Nat × Nat)) (ue : List (Nat × Nat × Nat)), (s.acts) ∧ (s.on (F.VT_TGT_CTRL_ASSIGNED v tg) = false ∨ s.get (F.VT_TGT_REGION_WH_H v tg) ≤ y ∨ s.lineHeld v tg y = true)) ∧
    (∃ (s : State) (v tg b : Nat) (x : WriteBack) (i : BufInfo), let k : Nat := storeCfgKey x.lay; (s.acts) ∧ (v < 4 ∧ tg < 16) ∧ (Tab.find (16 * v + tg) s.wbs = some x) ∧ (x.done = none ∧ x.buf = some b ∧ x.last = some i ∧ x.damaged = false) ∧ (b < 3 ∧ storeCfgKey x.lay / 16 < 4 ∧ storeCfgKey x.lay / 4 % 4 < 3 ∧ storeCfgKey x.lay % 4 < 2) ∧ (s.mould.oldStores = [])) ∧
    (∃ (s : State) (v tg b : Nat) (st : StoreCfg) (x : WriteBack) (i : BufInfo), let k : Nat := storeCfgKey st; (s.acts) ∧ (v < 4 ∧ tg < 16) ∧ (Tab.find (16 * v + tg) s.wbs = some x) ∧ (x.done = some (st, b, i)) ∧ (b < 3 ∧ storeCfgKey st / 16 < 4 ∧ storeCfgKey st / 4 % 4 < 3 ∧ storeCfgKey st % 4 < 2) ∧ (s.mould.oldStores = [])) ∧
    (∃ (s : State) (v tg : Nat), (s.acts) ∧ ((match Tab.find (16 * v + tg) s.wbs with | some x => x.done.isNone && (x.last.isNone || x.buf.isNone || x.damaged) | none => true) = true)) ∧
    (∃ (s : State) (v tg : Nat) (x : WriteBack), (s.acts) ∧ (v < 4 ∧ tg < 16) ∧ (Tab.find (16 * v + tg) s.wbs = some x)) :=
  ⟨⟨wSrc, 0, 0, 1, by decide +kernel⟩,
   ⟨{ wSrc with wbs := [(0, { buf := some 1, lay := lay08, fnum := 300 })] }, 0, 0, 3, 1, { buf := some 1, lay := lay08, fnum := 300 }, by decide +kernel⟩,
   ⟨wSrc, 0, 0, 1, [(3, 5)], [(3, 1, 0)], by decide +kernel⟩,
   ⟨wSrc, 0, 0, 4, [], [], by decide +kernel⟩,
   ⟨{ wSrc with wbs := [(0, { buf := some 1, lay := lay08, last := some { fence := 300 }, fnum := 300 })] }, 0, 0, 1, { buf := some 1, lay := lay08, last := some { fence := 300 }, fnum := 300 }, { fence := 300 }, by decide +kernel⟩,
   ⟨{ wSrc with wbs := [(0, { buf := some 2, done := some (lay08, 1, { fence := 300 }), fnum := 301 })] }, 0, 0, 1, lay08, { buf := some 2, done := some (lay08, 1, { fence := 300 }), fnum := 301 }, { fence := 300 }, by decide +kernel⟩,
   ⟨wSrc, 0, 0, by decide +kernel⟩,
   ⟨{ wSrc with wbs := [(0, { buf := some 1, fnum := 300 })] }, 0, 0, { buf := some 1, fnum := 300 }, by decide +kernel⟩⟩

theorem witness_TilePixelPath :
    (∃ (s : State) (phase row : Nat), let words : List Nat := Tab.get (fun _ => []) s.tileRx.cur (phase * 65536 + row); (s.acts) ∧ (s.isTile = true) ∧ (phase < 4) ∧ (words ≠ [])) ∧
    (∃ (s : State) (phase row : Nat), (s.acts) ∧ (s.drives = true)) ∧
    (∃ (s : State) , (s.acts) ∧ (s.answersAt (atTP 0x198) = true) ∧ (s.get F.VT_TP_TAB_RESULT_STATE ≠ 1 ∧ s.get F.VT_TP_TAB_RESULT_STATE ≠ 5) ∧ (s.tabInRange = true)) ∧
    (∃ (s : State) , (s.acts) ∧ (s.answersAt (atTP 0x198) = true) ∧ (s.get F.VT_TP_TAB_RESULT_STATE ≠ 1 ∧ s.get F.VT_TP_TAB_RESULT_STATE ≠ 5) ∧ (s.tabInRange = true) ∧ (s.get F.VT_TP_TAB_ADDR_TABLE = 0) ∧ (s.on F.VT_TP_STATUS_RAMP = false) ∧ (s.get F.VT_TP_TAB_ADDR_BANK ≠ s.get F.VT_TP_STATUS_BANK_ACT)) ∧
    (∃ (s : State) , (s.acts) ∧ (s.answersAt (atTP 0x198) = true) ∧ (s.get F.VT_TP_TAB_RESULT_STATE ≠ 1 ∧ s.get F.VT_TP_TAB_RESULT_STATE ≠ 5) ∧ (s.tabInRange = true) ∧ (s.get F.VT_TP_TAB_ADDR_TABLE = 1) ∧ (s.tp.queue.length < 256)) ∧
    (∃ (s : State) , (s.acts) ∧ (s.answersAt (atTP 0x198) = true) ∧ (s.get F.VT_TP_TAB_RESULT_STATE ≠ 1 ∧ s.get F.VT_TP_TAB_RESULT_STATE ≠ 5) ∧ (s.tabInRange = false)) ∧
    (∃ (s : State) (a : Word) (l : List Int), let i : Nat := F.VT_TP_TAB_ADDR_INDEX.of a; let j : Nat := F.VT_TP_TAB_ADDR_SET.of a; let b : Nat := F.VT_TP_TAB_ADDR_BANK.of a; (s.acts) ∧ (s.tp.cmd = some (a, some l))) ∧
    (∃ (s : State) (a : Word), (s.acts) ∧ (s.tp.cmd = some (a, none)) ∧ (F.VT_TP_TAB_ADDR_TABLE.of a = 1)) ∧
    (∃ (s : State) , (s.acts) ∧ (s.answersAt (atTP 0x198) = true) ∧ (s.get F.VT_TP_TAB_RESULT_STATE ≠ 1 ∧ s.get F.VT_TP_TAB_RESULT_STATE ≠ 5)) ∧
    (∃ (s : State) , (s.acts) ∧ (s.isTile = true) ∧ (s.get F.VT_TP_TAB_RESULT_STATE = 5)) ∧
    (∃ (s : State) (r : Nat) (val : Word), (s.acts) ∧ (r < 4) ∧ (s.wordOk (atTP (0x20 + 4 * r)) val = true) ∧ (s.on F.VT_TP_STATUS_RAMP = false) ∧ (s.get F.VT_TP_STATUS_BANK_ACT ≠ r / 2)) ∧
    (∃ (s : State) (r : Nat) (val : Word), (s.acts) ∧ (r < 4) ∧ (s.wordOk (atTP (0x20 + 4 * r)) val = true) ∧ (s.on F.VT_TP_STATUS_RAMP = true ∨ s.get F.VT_TP_STATUS_BANK_ACT = r / 2)) :=
  ⟨⟨wRxAll, 0, 2, by decide +kernel⟩,
   ⟨wPress, 0, 0, by decide +kernel⟩,
   ⟨wPress, by decide +kernel⟩,
   ⟨withF [(F.VT_TP_TAB_ADDR_BANK, 1)] wPress, by decide +kernel⟩,
   ⟨withF [(F.VT_TP_TAB_ADDR_TABLE, 1)] wPress, by decide +kernel⟩,
   ⟨withF [(F.VT_TP_TAB_ADDR_TABLE, 3)] wPress, by decide +kernel⟩,
   ⟨{ wPress with tp := { wPress.tp with cmd := some (F.VT_TP_TAB_ADDR_BANK.into 0 1, some [1, 2, 3, 4, 5, 6, 7, 8, 9]) } }, F.VT_TP_TAB_ADDR_BANK.into 0 1, [1, 2, 3, 4, 5, 6, 7, 8, 9], by decide +kernel⟩,
   ⟨{ wPress with tp := { wPress.tp with cmd := some (F.VT_TP_TAB_ADDR_TABLE.into 0 1, none) } }, F.VT_TP_TAB_ADDR_TABLE.into 0 1, by decide +kernel⟩,
   ⟨wPress, by decide +kernel⟩,
   ⟨withF [(F.VT_TP_TAB_RESULT_STATE, 5)] wPress, by decide +kernel⟩,
   ⟨wPress, 2, 0x00500040, by decide +kernel⟩,
   ⟨wPress, 0, 0x00500040, by decide +kernel⟩⟩

theorem witness_PressRows :
    (∃ (s : State) (k : Nat), (s.acts) ∧ (s.noSwapWaits) ∧ (s.drives = true) ∧ (k < s.phases)) ∧
    (∃ (s : State) (k row : Nat), (s.acts) ∧ (s.noSwapWaits) ∧ (s.drives = true) ∧ (k < s.phases ∧ row < s.pressMux) ∧ (s.sched.slot ≠ 0 ∧ (s.sched.slotAt k (row + 1) : Int) ≤ s.frameTicks)) ∧
    (∃ (s : State) (k row : Nat) (opens shorts : List (Nat × Nat × List Nat)) (i w : Nat), (s.acts) ∧ (s.drives = true) ∧ (s.testFrame = true) ∧ (k = s.get F.PR_DIAG_CTRL_PHASE ∧ k < s.phases ∧ row + 1 < s.pressMux ∧ s.sched.slot ≠ 0) ∧ (s.lampsOn row = [(i, w)]) ∧ (lmPort w ∈ s.pressPorts ∧ row < s.get (F.PR_PORT_GEOM_MUX (lmPort w)) ∧ s.press.lit.testBit (lmPort w) = true) ∧ (∀ q ∈ s.pressPorts, q = lmPort w) ∧ (s.testFits s.sched (lmPort w) row = true) ∧ (s.press.discard = []) ∧ (160000000 ≤ onTime s.tp.prev (Tab.get (fun _ => 0) (Tab.get (fun _ => []) s.press.sram (32 * lmPort w + row)) (lmPos w)) * s.sched.fine * 78125) ∧ (s.testOutcome opens shorts (lmPort w) (lmPos w) = 0) ∧ (s.diagStatus i < 4)) ∧
    (∃ (s : State) (k row : Nat) (opens shorts : List (Nat × Nat × List Nat)), (s.acts) ∧ (s.noSwapWaits) ∧ (s.drives = true) ∧ (s.probeFrame = true) ∧ (k < s.phases ∧ s.sched.slot ≠ 0 ∧ s.press.lit ≠ 0) ∧ (((s.press.gapUsed + s.probeTicks s.sched : Nat) : Int) ≤ s.gapAfter s.sched k) ∧ (s.probeRow = some row)) ∧
    (∃ (s : State) (q groups : Nat) (gclk : List Nat), let bad : Nat := if gclk.any (· != 65536) then setBit (groups % 64) 3 else clearBit (groups % 64) 3; (s.acts) ∧ (q < 16) ∧ (∀ g ∈ List.range 6, Tab.get (fun _ => 0) s.press.differ (8 * q + g) < 15)) ∧
    (∃ (s : State) (q groups g : Nat) (gclk : List Nat), let bad : Nat := if gclk.any (· != 65536) then setBit (groups % 64) 3 else clearBit (groups % 64) 3; (s.acts) ∧ (q < 16) ∧ (g < 6 ∧ bad.testBit g = true) ∧ (15 ≤ Tab.get (fun _ => 0) s.press.differ (8 * q + g)) ∧ (s.on (F.PR_PORT_STATUS_PIN_STUCK q) = false) ∧ (s.log.queue.length < 64)) ∧
    (∃ (s : State) (q : Nat), (s.acts) ∧ (q < 16) ∧ (s.answersAt (atPORT q 8) = true)) ∧
    (∃ (s : State) , (s.acts)) ∧
    (∃ (s : State) (q r : Nat), (s.acts) ∧ (q < 16) ∧ (Tab.get (fun _ => none) s.press.crc q = some r)) ∧
    (∃ (s : State) (q : Nat), (s.acts) ∧ (q < 16) ∧ (s.answersAt (atPORT q 0x14) = true)) :=
  ⟨⟨wPress, 0, by decide +kernel⟩,
   ⟨wPress, 0, 0, by decide +kernel⟩,
   ⟨{ withF [(F.PR_DIAG_CTRL_EN, 1), (F.PR_DIAG_CTRL_EVERY, 1)] wPress with press := { wPress.press with sram := [(0, [(0, 60000)])] } }, 0, 0, [], [], 0, 0x80000000, by decide +kernel⟩,
   ⟨withF [(F.PR_DIAG_PROBE_PROBE_EN, 1), (F.PR_DIAG_PROBE_PROBE_AGE, 0), (F.PR_DIAG_PROBE_PROBE_EVERY, 1)] wPress, 0, 0, [], [], by decide +kernel⟩,
   ⟨wPress, 2, 5, [65536, 65535], by decide +kernel⟩,
   ⟨{ wPress with press := { wPress.press with differ := [(0, 15)] } }, 0, 1, 0, [], by decide +kernel⟩,
   ⟨withF [(F.PR_PORT_STATUS_PIN_STUCK 0, 1)] wPress, 0, by decide +kernel⟩,
   ⟨wPress, by decide +kernel⟩,
   ⟨{ wPress with press := { wPress.press with crc := [(0, some 7)] } }, 0, 7, by decide +kernel⟩,
   ⟨wPress, 3, by decide +kernel⟩⟩

theorem witness_DramController :
    (∃ (s : State) (c wait : Nat) (r : DramReq), let k : Nat := s.clsOf r.kind; (s.acts) ∧ (c < 8) ∧ (s.dramRuns c = true) ∧ ((s.dramCh c).reqs = [] ∧ (s.dramCh c).owed = 0) ∧ (s.on (F.VT_DRAM_NRR_NRR_SHIFT c) = false)) ∧
    (∃ (s : State) (c wait : Nat) (q r : DramReq), let k : Nat := s.clsOf r.kind; (s.acts) ∧ (c < 8) ∧ (s.dramRuns c = true) ∧ ((s.dramCh c).reqs = [(q, k)] ∧ (s.dramCh c).owed = 0) ∧ (s.clsOf q.kind = k ∧ k ≠ 0 ∧ r.kind ≠ .rewrite ∧ q.kind ≠ .rewrite) ∧ (rowFirst q.addr ≠ rowFirst r.addr) ∧ (s.rowHit c q = false ∧ s.rowHit c r = true) ∧ ((s.dramCh c).hits < max 1 (s.get (F.VT_DRAM_PAGE_MAX_HITS c)))) ∧
    (∃ (s : State) (c : Nat), let k : Nat := s.nextPoint c; let r : Raster := if s.rasterValid then s.raster.reachTick (refTick c k (s.dramCh c).fast) else s.raster; (s.acts) ∧ (s.noSwapWaits) ∧ (c < 8) ∧ (s.dramRuns c = true) ∧ (s.rasterValid = true → ((refTick c k (s.dramCh c).fast : Nat) : Int) < s.frameTicks)) ∧
    (∃ (s : State) (c : Nat), (s.acts) ∧ (s.noSwapWaits) ∧ (c < 8) ∧ (s.rasterValid = true ∧ s.frameTicks ≤ ((refTick c (s.nextPoint c) (s.dramCh c).fast : Nat) : Int))) ∧
    (∃ (s : State) (c : Nat), (s.acts) ∧ (c < 8) ∧ (s.dramRuns c = true) ∧ (32 ≤ (s.dramCh c).owed)) ∧
    (∃ (s : State) (c f k : Nat), let tick : Nat := refTick c k (s.dramCh c).fast + (if (s.dramCh c).fast then 195 else 390); (s.acts) ∧ (s.noSwapWaits) ∧ (c < 8) ∧ (s.dramRuns c = true) ∧ ((s.dramCh c).point = some (f, k)) ∧ (k % 64 = 63) ∧ ((s.dramCh c).zqcs ≠ some (f, k)) ∧ (s.rasterValid = true → f = s.raster.fnum ∧ ((tick : Nat) : Int) < s.frameTicks)) ∧
    (∃ (s : State) (c : Nat), (s.acts) ∧ (s.noSwapWaits) ∧ (c < 8) ∧ ((s.dramCh c).zqcs = (s.dramCh c).point)) ∧
    (∃ (s : State) (c band : Nat), (s.acts) ∧ (c < 8) ∧ (s.dramRuns c = true) ∧ (2 ≤ band) ∧ (s.get (F.RD_TH_DIE_MAX (1 + c / 2)) = 0x8000)) ∧
    (∃ (s : State) (c wait : Nat), let a : Nat := 64 * s.get (F.VT_DRAM_SCRUB_POS_POS c); (s.acts) ∧ (c < 8) ∧ (s.dramRuns c = true) ∧ (s.on (F.VT_DRAM_SCRUB_SCRUB_EN c) = true) ∧ (s.on (F.RD_TH_DIE_STAGE (1 + c / 2)) = false) ∧ (s.on (F.VT_DRAM_NRR_NRR_SHIFT c) = false)) ∧
    (∃ (s : State) (c wait : Nat), let a : Nat := 64 * s.get (F.VT_DRAM_SCRUB_POS_POS c); (s.acts) ∧ (c < 8) ∧ (s.dramRuns c = true) ∧ (s.on (F.VT_DRAM_SCRUB_SCRUB_EN c) = true) ∧ (s.on (F.RD_TH_DIE_STAGE (1 + c / 2)) = false) ∧ (s.on (F.VT_DRAM_NRR_NRR_SHIFT c) = false) ∧ (Tab.get (fun _ => 0) (s.dramCh c).ues (rowFirst a) = 0) ∧ (s.log.queue.length < 64)) ∧
    (∃ (s : State) (c bank : Nat), (s.acts) ∧ (c < 8)) ∧
    (∃ (s : State) (c i cls : Nat) (r : DramReq), (s.acts) ∧ (c < 8) ∧ ((s.dramCh c).reqs[i]? = some (r, cls))) ∧
    (∃ (s : State) (c : Nat), (s.acts) ∧ (c < 8) ∧ (s.answersAt (atDCH c 0x14) = true)) :=
  ⟨⟨withF [(F.VT_DRAM_NRR_NRR_SHIFT 0, 0)] wDram, 0, 800, ⟨0x2003020, .encode true, false⟩, by decide +kernel⟩,
   ⟨wDram.setDramCh 0 fun d => { d with reqs := [(⟨0x2003020, .host, false⟩, 4)], rows := [((wDram.locate 0 0x3020).bank, some (wDram.locate 0 0x3020).row)] }, 0, 800, ⟨0x2003020, .host, false⟩, ⟨0x3020, .host, false⟩, by decide +kernel⟩,
   ⟨wDram, 0, by decide +kernel⟩,
   ⟨(wRun wDram).setDramCh 0 fun d => { d with point := some (0, 100000) }, 0, by decide +kernel⟩,
   ⟨wDram.setDramCh 0 fun d => { d with owed := 32 }, 0, by decide +kernel⟩,
   ⟨wDram.setDramCh 0 fun d => { d with point := some (0, 63), rows := [(0, some 5)] }, 0, 0, 63, by decide +kernel⟩,
   ⟨wDram.setDramCh 0 fun d => { d with point := some (0, 63), zqcs := some (0, 63) }, 0, by decide +kernel⟩,
   ⟨wDram, 0, 2, by decide +kernel⟩,
   ⟨withF [(F.VT_DRAM_SCRUB_SCRUB_EN 0, 1), (F.VT_DRAM_NRR_NRR_SHIFT 0, 0)] wDram, 0, 2000000, by decide +kernel⟩,
   ⟨withF [(F.VT_DRAM_SCRUB_SCRUB_EN 0, 1), (F.VT_DRAM_NRR_NRR_SHIFT 0, 0), (F.VT_DRAM_SCRUB_POS_POS 0, 0x800C0)] wDram, 0, 0, by decide +kernel⟩,
   ⟨wDram.setDramCh 0 fun d => { d with rows := [(3, some 5)] }, 0, 3, by decide +kernel⟩,
   ⟨wDram.setDramCh 0 fun d => { d with reqs := [(⟨64, .host, false⟩, 4)] }, 0, 0, 4, ⟨64, .host, false⟩, by decide +kernel⟩,
   ⟨wDram, 0, by decide +kernel⟩⟩

theorem witness_DramRepair :
    (∃ (s : State) (c row f : Nat) (rest : List (Nat × Nat)) (x : RowReads), let l : DramLoc := s.locate c row; let bursts : List Nat := (x.ue.filter (· < 128)).map fun i => row + 256 * i; (s.acts) ∧ (c < 8) ∧ (s.dramRuns c = true) ∧ ((s.dramCh c).due = (row, f) :: rest) ∧ (s.atPoint c = true) ∧ (0 ≤ ahead s.raster.fnum f) ∧ (s.spareOf c l = true) ∧ (s.log.queue.length + x.ce.length < 64)) ∧
    (∃ (s : State) (c row f : Nat) (rest : List (Nat × Nat)) (x : RowReads), (s.acts) ∧ (c < 8) ∧ (s.dramRuns c = true) ∧ ((s.dramCh c).due = (row, f) :: rest) ∧ (s.atPoint c = true) ∧ (0 ≤ ahead s.raster.fnum f) ∧ (s.spareOf c (s.locate c row) = false) ∧ (s.log.queue.length < 64)) ∧
    (∃ (s : State) (c : Nat) (x : RowReads), (s.acts) ∧ (c < 8) ∧ ((s.dramCh c).due = [] ∨ s.dramRuns c = false ∨ s.atPoint c = false)) ∧
    (∃ (s : State) (c : Nat), (s.acts) ∧ (c < 8)) ∧
    (∃ (s : State) (c a k : Nat), let d : Nat := dieAddr c (a / 64 * 64); (s.acts) ∧ (c < 2) ∧ (s.drives = true) ∧ ((s.dramCh c).recopy = [a]) ∧ (s.tile.lampMap ≤ d ∧ d < s.tile.lampMap + 12 * (s.tile.w * s.tile.h)) ∧ (k ∈ entriesOf s.tile.lampMap 16 d)) ∧
    (∃ (s : State) (v : Nat), let d : Int := ahead (s.get (F.VT_DRAM_SCHED_FNUM_S v)) s.raster.fnum; (s.acts) ∧ (v < 4) ∧ (s.fcPending v = true) ∧ (s.fc v = {}) ∧ (1 ≤ d ∧ d ≤ 8) ∧ (s.fcError v = 0)) ∧
    (∃ (s : State) (v : Nat), let d : Int := ahead (s.get (F.VT_DRAM_SCHED_FNUM_S v)) s.raster.fnum; (s.acts) ∧ (v < 4) ∧ (s.fcPending v = true) ∧ (s.fc v = {}) ∧ (1 ≤ d ∧ d ≤ 8) ∧ (s.fcError v ≠ 0) ∧ (s.fcError v < 8)) ∧
    (∃ (s : State) (v : Nat), let d : Int := ahead (s.get (F.VT_DRAM_SCHED_FNUM_S v)) s.raster.fnum; (s.acts) ∧ (v < 4) ∧ (s.fcPending v = false ∨ (s.fc v).refused = true ∨ (s.fc v).accepted.isSome = true ∨ d < 1 ∨ 8 < d)) ∧
    (∃ (s : State) (v S : Nat), (s.acts) ∧ (v < 4) ∧ ((s.fc v).accepted = some S) ∧ (s.atPoint (2 * v) = true) ∧ (0 ≤ ahead s.raster.fnum S) ∧ (∀ e ∈ (s.dramCh (2 * v)).due, ahead s.raster.fnum e.2 < 0)) ∧
    (∃ (s : State) (v S : Nat), (s.acts) ∧ (v < 4) ∧ ((s.fc v).accepted = none ∧ (s.fc v).remould = some S) ∧ (s.atPoint (2 * v) = true) ∧ (0 ≤ ahead s.raster.fnum S) ∧ (∀ e ∈ (s.dramCh (2 * v)).due, ahead s.raster.fnum e.2 < 0)) ∧
    (∃ (s : State) (v : Nat), (s.acts) ∧ (v < 4) ∧ (s.atPoint (2 * v) = false ∨ (∀ S ∈ (s.fc v).dueAt.toList, ahead s.raster.fnum S < 0) ∨ (∃ e ∈ (s.dramCh (2 * v)).due, 0 ≤ ahead s.raster.fnum e.2))) :=
  ⟨⟨(withF [(F.VT_DRAM_PPR_SPARE 0, 255)] wDram).setDramCh 0 fun d => { d with due := [(0x8000, 0)] }, 0, 0x8000, 0, [], ⟨[], [], []⟩, by decide +kernel⟩,
   ⟨(withF [(F.VT_DRAM_PPR_SPARE 0, 0)] wDram).setDramCh 0 fun d => { d with due := [(0x8000, 0)] }, 0, 0x8000, 0, [], ⟨[], [], []⟩, by decide +kernel⟩,
   ⟨wDram, 0, ⟨[], [5], []⟩, by decide +kernel⟩,
   ⟨wDram.setDramCh 0 fun d => { d with recopy := [64] }, 0, by decide +kernel⟩,
   ⟨{ (wPress.setDramCh 0 fun d => { d with recopy := [0x10000] }) with cave := { wPress.cave with lampMap := [(1, 77)] } }, 0, 0x10000, 1, by decide +kernel⟩,
   ⟨(withF [(F.VT_DRAM_SCHED_FNUM_S 0, 8)] wDram).setPend (atDDIE 0 0x20) 1, 0, by decide +kernel⟩,
   ⟨{ (withF [(F.VT_DRAM_SCHED_FNUM_S 0, 8), (F.VT_DRAM_CFG_RATE_MAX 0, 0)] wDram).setPend (atDDIE 0 0x20) 0xFFFFFFFF with mould := { wDram.mould with loaded := some mS } }, 0, by decide +kernel⟩,
   ⟨wDram, 0, by decide +kernel⟩,
   ⟨(wDram.setPend (atDDIE 0 0x20) 1).setFc 0 { accepted := some 0 }, 0, 0, by decide +kernel⟩,
   ⟨(wDram.setDramCh 1 fun d => { d with rows := [(0, some 5)] }).setFc 0 { remould := some 0 }, 0, 0, by decide +kernel⟩,
   ⟨wDram, 0, by decide +kernel⟩⟩

theorem witness_Thermal :
    (∃ (s : State) (d i : Nat) (T : Int), (s.acts) ∧ (d < 8) ∧ (s.dieRuns d = true) ∧ (i < sensorCount d) ∧ (deviates T (s.goodReadings d i) 200 = false)) ∧
    (∃ (s : State) (d : Nat), (s.acts) ∧ (d < 8) ∧ (2 ≤ s.get (F.RD_TH_DIE_STAGE d) ∧ s.get (F.RD_TH_DIE_STAGE d) ≤ 3) ∧ (s.get (F.RD_TH_DIE_MAX d) ≠ 0x8000) ∧ (s.getI (F.RD_TH_DIE_MAX d) < s.dieThr (s.get (F.RD_TH_DIE_STAGE d)) - 8 * (max 1 (s.get F.RD_TH_DIE_LIM_DIE_HYST) : Nat))) ∧
    (∃ (s : State) (j hi lo : Nat) (T : Int), (s.acts) ∧ (j < 16) ∧ (s.drives = true) ∧ (s.pressPorts.contains j = true) ∧ (modSample (some (hi, lo)) = some T) ∧ (deviates T (let near := ((s.modNext j).filter fun k => k != j && s.modReads k).map fun k => s.getI (F.RD_TH_MOD_TEMP k); if 2 ≤ near.length then near else ((s.tile.mods.map (·.port)).filter fun k => k != j && s.modReads k).map fun k => s.getI (F.RD_TH_MOD_TEMP k)) (8 * (max 1 (s.get F.RD_TH_MOD_LIM_DEV_LIM) : Nat)) = false)) ∧
    (∃ (s : State) (j : Nat), (s.acts) ∧ (j < 16) ∧ (s.drives = true) ∧ (s.pressPorts.contains j = true) ∧ (s.get (F.RD_TH_MOD_DEVCNT j) < 31)) ∧
    (∃ (s : State) (d i : Nat) (T : Int), (s.acts) ∧ (d < 8) ∧ (s.dieRuns d = true) ∧ (i < sensorCount d) ∧ ((s.sensor d i).faulty = false) ∧ (1040 ≤ T) ∧ (s.log.queue.length < 64)) ∧
    (∃ (s : State) (val : Word), (s.rindActs) ∧ (s.wordOk F.RD_TH_CLR_DIE_ALL.addr val = true) ∧ (val.getLsbD 31 = false)) ∧
    (∃ (s : State) (val : Word), (s.rindActs) ∧ (s.wordOk F.RD_TH_CLR_DIE_ALL.addr val = true) ∧ (val.getLsbD 31 = true)) ∧
    (∃ (s : State) (reg : Nat) (val : Word), let ok : Bool := if reg = 0 then F.RD_TH_DIE_LIM_THR1.of val < F.RD_TH_DIE_LIM_THR2.of val && F.RD_TH_DIE_LIM_THR2.of val < F.RD_TH_DIE_LIM_THR3.of val && F.RD_TH_DIE_LIM_THR3.of val ≤ 128 else F.RD_TH_MOD_LIM_MOD_HI.of val < F.RD_TH_MOD_LIM_MOD_CRIT.of val && F.RD_TH_MOD_LIM_MOD_CRIT.of val ≤ 125; (s.rindActs) ∧ (reg < 2) ∧ (s.wordOk (0x400 + 4 * reg) val = true)) :=
  ⟨⟨wSender, 1, 2, 500, by decide +kernel⟩,
   ⟨withF [((F.RD_TH_DIE_STAGE 1), 2), ((F.RD_TH_DIE_MAX 1), 100)] wSender, 1, by decide +kernel⟩,
   ⟨wPress, 0, 31, 64, 250, by decide +kernel⟩,
   ⟨wPress, 0, by decide +kernel⟩,
   ⟨wSender, 1, 2, 1040, by decide +kernel⟩,
   ⟨withF [((F.RD_TH_MOD_FAULTY 0), 1)] wPress, 5, by decide +kernel⟩,
   ⟨wSender.setSensor 1 2 fun c => { c with faulty := true, devcnt := 40, temp := some 300 }, 0x80000000, by decide +kernel⟩,
   ⟨wSender, 0, 0x78695A50, by decide +kernel⟩⟩

theorem witness_NetworkFrames :
    (∃ (s : State) (n q : Nat) (busy : Bool), (s.acts) ∧ (n < 2 ∧ q < 4) ∧ (s.on (F.RD_NET_CTRL_EN n) = true) ∧ ((s.net n).tx = none) ∧ (n = 1 → s.on (F.RD_NET_STATUS_PAUSED 1) = false) ∧ (n = 0 → busy = false ∧ (s.net 0).backoff = none) ∧ (s.own n (s.txDesc n q) = true ∧ s.txRefusal n q = 0 ∧ s.canStart n q = true) ∧ (∀ k ∈ [1, 2, 3], q < k → s.own n (s.txDesc n k) = false)) ∧
    (∃ (s : State) (n q : Nat) (busy : Bool), let d : Nat := s.txDesc n q; (s.acts) ∧ (n < 2 ∧ q < 4) ∧ (s.on (F.RD_NET_CTRL_EN n) = true) ∧ ((s.net n).tx = none) ∧ (n = 1 → s.on (F.RD_NET_STATUS_PAUSED 1) = false) ∧ (n = 0 → busy = false ∧ (s.net 0).backoff = none) ∧ (s.own n d = true ∧ s.txRefusal n q ≠ 0) ∧ (∀ k ∈ [1, 2, 3], q < k → s.own n (s.txDesc n k) = false)) ∧
    (∃ (s : State) (n : Nat) (x : NetTx), let d : Nat := s.txDesc n x.queue; let want : Bool := (s.pword n d).getLsbD 30; let full : Bool := decide (32 ≤ (s.net n).txts.length); (s.acts) ∧ (n < 2 ∧ x.queue < 4) ∧ ((s.net n).tx = some x)) ∧
    (∃ (s : State) (n : Nat) (l : List Nat), let d : Nat := s.rxDesc n; let raw : Bool := s.on (F.RD_NET_CTRL_RX_FCS n); let strip : Bool := s.on (F.RD_NET_CTRL_VLAN_STRIP n) && (l.drop 12).take 2 == [0x81, 0x00]; let body : List Nat := if raw then l else l.take (l.length - 4); let data : List Nat := if strip then body.take 12 ++ body.drop 16 else body; let at_ : Nat × Nat := ptpNorm s.ptp.sec ((s.ptp.ns : Int) - (if n = 1 then s.get (F.RD_NET_LAT_RX_LAT 1) else 0 : Nat)); (s.acts) ∧ (n < 2) ∧ (s.on (F.RD_NET_CTRL_EN n) = true ∧ s.accepts n (l.take 6) = true) ∧ (64 ≤ l.length ∧ l.length ≤ s.get (F.RD_NET_CTRL_MAXLEN n) ∧ (l.drop 12).take 2 ≠ [0x88, 0x08]) ∧ (fcsGood l = true ∨ raw = true) ∧ (s.own n d = true ∧ data.length ≤ (s.pword n (d + 4)).toNat % 65536)) ∧
    (∃ (s : State) (n : Nat) (l : List Nat), (s.acts) ∧ (n < 2) ∧ (s.on (F.RD_NET_CTRL_EN n) = true ∧ s.accepts n (l.take 6) = true) ∧ (l.length < 64)) ∧
    (∃ (s : State) (n : Nat) (l : List Nat), (s.acts) ∧ (n < 2) ∧ (s.on (F.RD_NET_CTRL_EN n) = true ∧ s.accepts n (l.take 6) = true) ∧ (64 ≤ l.length ∧ s.get (F.RD_NET_CTRL_MAXLEN n) < l.length)) ∧
    (∃ (s : State) (n : Nat) (l : List Nat), (s.acts) ∧ (n < 2) ∧ (s.on (F.RD_NET_CTRL_EN n) = true ∧ s.accepts n (l.take 6) = true) ∧ (64 ≤ l.length ∧ l.length ≤ s.get (F.RD_NET_CTRL_MAXLEN n) ∧ (l.drop 12).take 2 ≠ [0x88, 0x08]) ∧ (fcsGood l = false ∧ s.on (F.RD_NET_CTRL_RX_FCS n) = false)) ∧
    (∃ (s : State) (n : Nat) (l : List Nat), (s.acts) ∧ (n < 2) ∧ (s.on (F.RD_NET_CTRL_EN n) = true ∧ s.accepts n (l.take 6) = true) ∧ (64 ≤ l.length ∧ l.length ≤ s.get (F.RD_NET_CTRL_MAXLEN n) ∧ (l.drop 12).take 2 ≠ [0x88, 0x08]) ∧ (fcsGood l = true ∨ s.on (F.RD_NET_CTRL_RX_FCS n) = true) ∧ (s.own n (s.rxDesc n) = false)) ∧
    (∃ (s : State) (n : Nat) (l : List Nat), let raw : Bool := s.on (F.RD_NET_CTRL_RX_FCS n); let strip : Bool := s.on (F.RD_NET_CTRL_VLAN_STRIP n) && (l.drop 12).take 2 == [0x81, 0x00]; (s.acts) ∧ (n < 2) ∧ (s.on (F.RD_NET_CTRL_EN n) = true ∧ s.accepts n (l.take 6) = true) ∧ (64 ≤ l.length ∧ l.length ≤ s.get (F.RD_NET_CTRL_MAXLEN n) ∧ (l.drop 12).take 2 ≠ [0x88, 0x08]) ∧ (fcsGood l = true ∨ raw = true) ∧ (s.own n (s.rxDesc n) = true ∧ (s.pword n (s.rxDesc n + 4)).toNat % 65536 + (if raw then 0 else 4) + (if strip then 4 else 0) < l.length)) ∧
    (∃ (s : State) (n : Nat) (l : List Nat), let pause : Bool := (l.drop 14).take 2 == [0, 1] && fcsGood l && (l.take 6 == pauseAddr || l.take 6 == s.macBytes n); (s.acts) ∧ (n < 2) ∧ (s.on (F.RD_NET_CTRL_EN n) = true ∧ s.accepts n (l.take 6) = true) ∧ (64 ≤ l.length ∧ l.length ≤ s.get (F.RD_NET_CTRL_MAXLEN n) ∧ (l.drop 12).take 2 = [0x88, 0x08]) ∧ (n = 0 ∨ pause = false)) ∧
    (∃ (s : State) (l : List Nat), let q : Nat := l.getD 16 0 * 256 + l.getD 17 0; (s.acts) ∧ (s.on (F.RD_NET_CTRL_EN 1) = true ∧ s.accepts 1 (l.take 6) = true) ∧ (64 ≤ l.length ∧ l.length ≤ s.get (F.RD_NET_CTRL_MAXLEN 1) ∧ (l.drop 12).take 4 = [0x88, 0x08, 0, 1] ∧ fcsGood l = true) ∧ (l.take 6 = pauseAddr ∨ l.take 6 = s.macBytes 1) ∧ (s.on (F.RD_NET_CTRL_PAUSE_EN 1) = true ∧ (s.net 1).tx = none)) ∧
    (∃ (s : State) (x : NetTx), let d : Nat := s.txDesc 0 x.queue; (s.acts) ∧ (x.queue < 4) ∧ ((s.net 0).tx = some x)) ∧
    (∃ (s : State) (x : NetTx), let d : Nat := s.txDesc 0 x.queue; (s.acts) ∧ (x.queue < 4) ∧ ((s.net 0).tx = some x ∧ 16 ≤ x.attempts)) ∧
    (∃ (s : State) (x : NetTx), (s.acts) ∧ (x.queue < 4) ∧ ((s.net 0).tx = some x ∧ x.attempts < 16)) ∧
    (∃ (s : State) , (s.acts)) ∧
    (∃ (s : State) (n q : Nat), let d : Nat := s.txDesc n q; (s.acts) ∧ (n < 2 ∧ q < 4) ∧ ((s.net n).tx = none) ∧ (s.own n d = true ∧ 3 ≤ Tab.get (fun _ => 0) (s.net n).waits q)) :=
  ⟨⟨wNet, 1, 2, true, by decide +kernel⟩,
   ⟨withF [((F.RD_NET_CTRL_MAXLEN 1), 63)] wNet, 1, 2, true, by decide +kernel⟩,
   ⟨wNetTx 1 1, 1, ⟨2, 1, 5, 6⟩, by decide +kernel⟩,
   ⟨wNet, 1, bcast 0x0800, by decide +kernel⟩,
   ⟨wNet, 1, List.replicate 20 255, by decide +kernel⟩,
   ⟨withF [((F.RD_NET_CTRL_MAXLEN 1), 63)] wNet, 1, bcast 0x0800, by decide +kernel⟩,
   ⟨wNet, 0, List.replicate 64 255, by decide +kernel⟩,
   ⟨clearOwn 0 0x1000 wNet, 0, bcast 0x0800, by decide +kernel⟩,
   ⟨wNet.setPword 0 0x1004 20, 0, bcast 0x0800, by decide +kernel⟩,
   ⟨wNet, 1, bcast 0x8808, by decide +kernel⟩,
   ⟨withF [(F.RD_NET_CTRL_PROMISC 1, 1), (F.RD_NET_CTRL_PAUSE_EN 1, 1)] wNet, wNet.pauseFrame 7, by decide +kernel⟩,
   ⟨wNetTx 0 1, ⟨2, 1, 5, 6⟩, by decide +kernel⟩,
   ⟨wNetTx 0 16, ⟨2, 16, 5, 6⟩, by decide +kernel⟩,
   ⟨wNetTx 0 3, ⟨2, 3, 5, 6⟩, by decide +kernel⟩,
   ⟨wNet.setNet 0 fun p => { p with backoff := some (2, 3) }, by decide +kernel⟩,
   ⟨wNet.setNet 1 fun p => { p with waits := [(2, 3)] }, 1, 2, by decide +kernel⟩⟩

theorem witness_PauseWheelMdio :
    (∃ (s : State) (q : Nat), (s.acts) ∧ (s.on (F.RD_NET_CTRL_EN 1) = true ∧ s.on (F.RD_NET_CTRL_PAUSE_EN 1) = true) ∧ (q ≠ 0)) ∧
    (∃ (s : State) , (s.acts) ∧ (s.on (F.RD_NET_CTRL_EN 1) = true ∧ s.on (F.RD_NET_CTRL_PAUSE_EN 1) = true)) ∧
    (∃ (s : State) (q : Nat), (s.acts) ∧ (s.on (F.RD_NET_CTRL_EN 1) = true ∧ s.on (F.RD_NET_CTRL_PAUSE_EN 1) = false)) ∧
    (∃ (s : State) , (s.acts)) ∧
    (∃ (s : State) , let low : Bool := decide (s.rxOwned 1 < s.get (F.RD_NET_FLOW_XOFF 1)) || (s.on (F.RD_NET_STATUS_XOFF_SENT 1) && decide (s.rxOwned 1 < s.get (F.RD_NET_FLOW_XON 1))); (s.acts) ∧ (s.on (F.RD_NET_CTRL_EN 1) = true ∧ s.on (F.RD_NET_CTRL_FLOW_EN 1) = true) ∧ (low = true ∨ s.on (F.RD_NET_STATUS_XOFF_SENT 1) = true)) ∧
    (∃ (s : State) , let w : Word := s.rd (atWHEEL 0); let r : Raster := s.raster.reachTick (F.RD_WHEEL_CTRL_BASE.of w); (s.acts) ∧ (s.noSwapWaits) ∧ (s.wheelOn = true ∧ s.wheel.next = none ∧ s.wheel.late = none ∧ s.wheel.done = false) ∧ (s.raster.fnum % cycleOf w = 0 ∧ (F.RD_WHEEL_CTRL_BASE.of w : Int) < s.frameTicks) ∧ ((s.wheelEntry (F.RD_WHEEL_CTRL_BANK.of w) 0).1 ≠ 0)) ∧
    (∃ (s : State) (w : Word) (n : Nat), let r : Raster := s.raster.reachTick n; (s.acts) ∧ (s.noSwapWaits) ∧ (s.nextCycle = some (w, n)) ∧ ((s.wheelEntry (F.RD_WHEEL_CTRL_BANK.of w) 0).1 ≠ 0)) ∧
    (∃ (s : State) , (s.acts) ∧ (s.noSwapWaits) ∧ (s.nextCycle = none)) ∧
    (∃ (s : State) , let b : Nat := s.get F.RD_WHEEL_CTRL_BANK; let e : Nat := s.get F.RD_WHEEL_STATUS_ENTRY; let start : Nat := s.wheel.entryAt + (s.wheelEntry b e).1; let n : Nat := s.raster.tickIn + (start - s.raster.ticks); (s.acts) ∧ (s.noSwapWaits) ∧ (s.wheelOn = true) ∧ ((s.wheelEntry b e).1 ≠ 0 ∧ (s.wheelEntry b (e + 1)).1 ≠ 0 ∧ e < 63) ∧ ((n : Int) < s.frameTicks ∧ ∀ c ∈ s.nextCycle.toList, n < c.2)) ∧
    (∃ (s : State) , let b : Nat := s.get F.RD_WHEEL_CTRL_BANK; let e : Nat := s.get F.RD_WHEEL_STATUS_ENTRY; let n : Nat := s.raster.tickIn + (s.wheel.entryAt + (s.wheelEntry b e).1 - s.raster.ticks); (s.acts) ∧ (s.noSwapWaits) ∧ (s.wheelOn = false ∨ (s.wheelEntry b e).1 = 0 ∨ (s.wheelEntry b (e + 1)).1 = 0 ∨ 63 ≤ e ∨ s.frameTicks ≤ (n : Int) ∨ ∃ c ∈ s.nextCycle.toList, c.2 ≤ n)) ∧
    (∃ (s : State) (b e : Nat) (val : Word), (s.rindActs) ∧ (b < 2 ∧ e < 64) ∧ (s.wordOk (atWHEEL (0x100 + 0x100 * b + 4 * e)) val = true) ∧ (s.get F.RD_WHEEL_CTRL_BANK ≠ b)) ∧
    (∃ (s : State) (b e : Nat) (val : Word), (s.rindActs) ∧ (b < 2 ∧ e < 64) ∧ (s.wordOk (atWHEEL (0x100 + 0x100 * b + 4 * e)) val = true) ∧ (s.get F.RD_WHEEL_CTRL_BANK = b)) ∧
    (∃ (s : State) (n tag sec ns : Nat) (l : List (Nat × Nat × Nat)), (s.rindActs) ∧ (n < 2) ∧ ((s.net n).txts = (tag, sec, ns) :: l) ∧ (tag < 256 ∧ sec < 2 ^ 48)) ∧
    (∃ (s : State) (n : Nat), (s.rindActs) ∧ (n < 2) ∧ ((s.net n).txts = [])) ∧
    (∃ (s : State) (val : Word), let op : Nat := (F.RD_NET_MDIO_CMD_OP 1).of val; (s.rindActs) ∧ (s.wordOk (atNET 1 0x3C) val = true)) ∧
    (∃ (s : State) (data : Nat) (w : Word), (s.acts) ∧ ((s.net 1).mdio = some w) ∧ (data < 65536)) :=
  ⟨⟨withF [((F.RD_NET_CTRL_PAUSE_EN 1), 1)] wNet, 9, by decide +kernel⟩,
   ⟨withF [((F.RD_NET_CTRL_PAUSE_EN 1), 1), ((F.RD_NET_STATUS_PAUSED 1), 1)] wNet, by decide +kernel⟩,
   ⟨withF [((F.RD_NET_CTRL_PAUSE_EN 1), 0)] wNet, 7, by decide +kernel⟩,
   ⟨withF [((F.RD_NET_STATUS_PAUSED 1), 1)] wNet, by decide +kernel⟩,
   ⟨withF [((F.RD_NET_CTRL_FLOW_EN 1), 1), ((F.RD_NET_FLOW_XOFF 1), 8)] wNet, by decide +kernel⟩,
   ⟨wWheel, by decide +kernel⟩,
   ⟨{ wWheel with wheel := { wWheel.wheel with late := some (wWheel.rd (atWHEEL 0)) } }, wWheel.rd (atWHEEL 0), 0, by decide +kernel⟩,
   ⟨wSender, by decide +kernel⟩,
   ⟨{ wWheel.wr (atWHEEL 0x104) 0x3C000200 with wheel := { wWheel.wheel with done := true } }, by decide +kernel⟩,
   ⟨wWheel, by decide +kernel⟩,
   ⟨wWheel, 1, 3, 0x11000100, by decide +kernel⟩,
   ⟨wWheel, 0, 63, 0x11000100, by decide +kernel⟩,
   ⟨wNet.setNet 1 fun p => { p with txts := [(18, 2 ^ 40 + 7, 999)] }, 1, 18, 2 ^ 40 + 7, 999, [], by decide +kernel⟩,
   ⟨wNet, 0, by decide +kernel⟩,
   ⟨wNet, 0x04210055, by decide +kernel⟩,
   ⟨wNet.setNet 1 fun p => { p with mdio := some 0x08210000 }, 77, 0x08210000, by decide +kernel⟩⟩

theorem witness_PtpClock :
    (∃ (s : State) , let inc : Nat × Nat := s.ptp.incNext.getD (s.ptp.incNs, s.ptp.incFrac); let z : Nat × Nat := ptpNorm s.ptp.sec ((s.ptp.ns + inc.1 + (s.ptp.frac + inc.2) / 2 ^ 32 : Nat) + s.ptp.adj.getD 0); (s.acts) ∧ (s.ptp.set = none) ∧ ((s.trig 0).pulse = none ∧ (s.trig 1).pulse = none)) ∧
    (∃ (s : State) , (s.acts) ∧ (s.ptp.set.isSome = true) ∧ ((s.trig 0).pulse = none ∧ (s.trig 1).pulse = none)) ∧
    (∃ (s : State) , let z : Ptp := s.ptp.tick.1; let e : Nat × Nat := (s.trig 0).pulse.getD (0, 0); (s.acts) ∧ ((s.trig 0).pulse.isSome = true ∧ (s.trig 1).pulse = none)) ∧
    (∃ (s : State) (val : Word), (s.rindActs) ∧ (s.wordOk (atPTP 0x10) val = true)) ∧
    (∃ (s : State) , (s.rindActs) ∧ (s.get F.RD_PTP_SET_NS_SET_NS < 1000000000)) ∧
    (∃ (s : State) , (s.rindActs) ∧ (1000000000 ≤ s.get F.RD_PTP_SET_NS_SET_NS)) ∧
    (∃ (s : State) (val : Word), (s.rindActs) ∧ (s.wordOk (atPTP 0x20) val = true)) ∧
    (∃ (s : State) (t' : Nat) (val : Word), let sec : Nat := s.get (F.RD_PTP_TRIG_SEC_HI_SEC t') * 2 ^ 32 + s.get (F.RD_PTP_TRIG_SEC_LO_SEC t'); let ns : Nat := s.get (F.RD_PTP_TRIG_NS_NS t'); (s.rindActs) ∧ (t' < 2) ∧ (s.wordOk (atTRIG t' 0x10) val = true) ∧ ((F.RD_PTP_TRIG_CTRL_ARM t').of val = 1) ∧ (ns < 1000000000 ∧ ptpNs s.ptp.sec s.ptp.ns + 1000 ≤ ptpNs sec ns)) ∧
    (∃ (s : State) (t' : Nat) (val : Word), let sec : Nat := s.get (F.RD_PTP_TRIG_SEC_HI_SEC t') * 2 ^ 32 + s.get (F.RD_PTP_TRIG_SEC_LO_SEC t'); let ns : Nat := s.get (F.RD_PTP_TRIG_NS_NS t'); (s.rindActs) ∧ (t' < 2) ∧ (s.wordOk (atTRIG t' 0x10) val = true) ∧ ((F.RD_PTP_TRIG_CTRL_ARM t').of val = 1) ∧ (ns < 1000000000 ∧ ptpNs sec ns < ptpNs s.ptp.sec s.ptp.ns + 1000)) ∧
    (∃ (s : State) (t' : Nat) (val : Word), (s.rindActs) ∧ (t' < 2) ∧ (s.wordOk (atTRIG t' 0x10) val = true) ∧ ((F.RD_PTP_TRIG_CTRL_ARM t').of val = 0)) ∧
    (∃ (s : State) (t' : Nat), let now : Nat := ptpNs s.ptp.sec s.ptp.ns; let at_ : Nat := ptpNs (s.trig t').sec (s.trig t').ns; let next : Nat := at_ + ((now - at_) / (s.trig t').period + 1) * (s.trig t').period; let stop : Nat := now + (if s.get (F.RD_PTP_TRIG_CTRL_WIDTH t') = 0 then 5 else s.get (F.RD_PTP_TRIG_CTRL_WIDTH t')); (s.acts) ∧ (t' < 2) ∧ (s.on (F.RD_PTP_TRIG_CTRL_ARM t') = true ∧ at_ ≤ now)) ∧
    (∃ (s : State) (c : Nat) (rising : Bool), (s.acts) ∧ (c < 2) ∧ (s.on (F.RD_PTP_CAP_CTRL_EN c) = true ∧ (s.get (F.RD_PTP_CAP_CTRL_EDGE c)).testBit (if rising then 0 else 1) = true) ∧ ((s.caps c).length < 8)) ∧
    (∃ (s : State) (c : Nat) (rising : Bool), (s.acts) ∧ (c < 2) ∧ (s.on (F.RD_PTP_CAP_CTRL_EN c) = true ∧ (s.get (F.RD_PTP_CAP_CTRL_EDGE c)).testBit (if rising then 0 else 1) = true) ∧ (8 ≤ (s.caps c).length)) ∧
    (∃ (s : State) (c : Nat) (x : Capture) (l : List Capture), (s.rindActs) ∧ (c < 2) ∧ (s.caps c = x :: l) ∧ (x.sec < 2 ^ 48)) ∧
    (∃ (s : State) (c : Nat), (s.rindActs) ∧ (c < 2) ∧ (s.caps c = [])) ∧
    (∃ (s : State) , (s.rindActs)) :=
  ⟨⟨{ wSender with ptp := { wSender.ptp with ns := 999999998, incFrac := 4294967295, frac := 2, adj := some (-2000000000), incNext := some (7, 9) } }, by decide +kernel⟩,
   ⟨{ wSender with ptp := { wSender.ptp with set := some (5, 6) } }, by decide +kernel⟩,
   ⟨{ wSender with ptp := { wSender.ptp with ns := 100, trigs := [(0, { pulse := some (0, 102) })] } }, by decide +kernel⟩,
   ⟨wSender, 4, by decide +kernel⟩,
   ⟨withF [(F.RD_PTP_SET_SEC_HI_SET_SEC, 3), (F.RD_PTP_SET_NS_SET_NS, 999999999)] wSender, by decide +kernel⟩,
   ⟨withF [(F.RD_PTP_SET_NS_SET_NS, 1000000000)] wSender, by decide +kernel⟩,
   ⟨wSender, 0xFFFFFFFF, by decide +kernel⟩,
   ⟨withF [((F.RD_PTP_TRIG_NS_NS 1), 1000)] wSender, 1, maskOf (F.RD_PTP_TRIG_CTRL_ARM 1).hi (F.RD_PTP_TRIG_CTRL_ARM 1).lo, by decide +kernel⟩,
   ⟨withF [((F.RD_PTP_TRIG_NS_NS 1), 999)] wSender, 1, maskOf (F.RD_PTP_TRIG_CTRL_ARM 1).hi (F.RD_PTP_TRIG_CTRL_ARM 1).lo, by decide +kernel⟩,
   ⟨withF [((F.RD_PTP_TRIG_CTRL_ARM 1), 1)] wSender, 1, 0, by decide +kernel⟩,
   ⟨{ withF [((F.RD_PTP_TRIG_CTRL_ARM 0), 1), ((F.RD_PTP_TRIG_CTRL_POL 0), 1)] wSender with ptp := { wSender.ptp with ns := 100, trigs := [(0, { ns := 95, period := 3 })] } }, 0, by decide +kernel⟩,
   ⟨withF [((F.RD_PTP_CAP_CTRL_EN 1), 1), ((F.RD_PTP_CAP_CTRL_EDGE 1), 3)] (wRun wSender), 1, true, by decide +kernel⟩,
   ⟨(withF [((F.RD_PTP_CAP_CTRL_EN 1), 1), ((F.RD_PTP_CAP_CTRL_EDGE 1), 3)] (wRun wSender)).setCaps 1 (List.replicate 8 default), 1, true, by decide +kernel⟩,
   ⟨wSender.setCaps 1 [⟨2 ^ 33 + 5, 6, true, true, 8, 9⟩], 1, ⟨2 ^ 33 + 5, 6, true, true, 8, 9⟩, [], by decide +kernel⟩,
   ⟨wSender, 1, by decide +kernel⟩,
   ⟨{ wSender with ptp := { wSender.ptp with sec := 2 ^ 35 + 1, ns := 77 } }, by decide +kernel⟩⟩

theorem witness_AudioPorts :
    (∃ (s : State) (n period : Nat) (out : Bool), let o : Bool := out && !s.wordSelect n; let m : AudMon := if o then (s.aud n).outp else (s.aud n).inp; (s.acts) ∧ (n < 4) ∧ (s.on (F.RD_AUD_CTRL_EN n) = true) ∧ (m.rate ≠ 0 ∧ m.stopped = false) ∧ (((period * fsHz m.rate : Nat) - (400000000 : Int)).natAbs * 8 ≤ 400000000)) ∧
    (∃ (s : State) (n period : Nat) (out : Bool), let o : Bool := out && !s.wordSelect n; let m : AudMon := if o then (s.aud n).outp else (s.aud n).inp; (s.acts) ∧ (n < 4) ∧ (s.on (F.RD_AUD_CTRL_EN n) = true) ∧ (m.rate ≠ 0 ∧ m.stopped = false) ∧ (400000000 < ((period * fsHz m.rate : Nat) - (400000000 : Int)).natAbs * 8)) ∧
    (∃ (s : State) (n : Nat) (out : Bool), let ws : Bool := s.wordSelect n; (s.acts) ∧ (n < 4) ∧ (s.on (F.RD_AUD_CTRL_EN n) = true) ∧ ((if out then s.audOut n else (s.aud n).inp).stopped = false ∧ (if out then s.audOut n else (s.aud n).inp).rate ≠ 0)) ∧
    (∃ (s : State) (n : Nat) (out : Bool), let o : Bool := out && !s.wordSelect n; let m : AudMon := if o then (s.aud n).outp else (s.aud n).inp; (s.acts) ∧ (n < 4) ∧ (s.on (F.RD_AUD_CTRL_EN n) = true) ∧ (m.rate = 0 ∧ 64 ≤ m.run) ∧ (nearestRate (m.sum * 64 / m.run) = none)) ∧
    (∃ (s : State) (n r : Nat) (out : Bool), let o : Bool := out && !s.wordSelect n; let m : AudMon := if o then (s.aud n).outp else (s.aud n).inp; let other : Nat := if s.wordSelect n then r else if o then (s.aud n).inp.rate else (s.aud n).outp.rate; (s.acts) ∧ (n < 4) ∧ (s.on (F.RD_AUD_CTRL_EN n) = true) ∧ (m.rate = 0 ∧ 64 ≤ m.run) ∧ (nearestRate (m.sum * 64 / m.run) = some r)) ∧
    (∃ (s : State) (n : Nat) (frames : List (Nat × Nat × Nat)), let non : Bool := bitAt ((frames.getD 1 (0, 0, 0)).2.2) 2 == 1 || burst (subframes frames); let gap : Bool := match (s.aud n).line.getLast? with | some f => f.fade.isSome | none => true; let line : List AudFrame := (s.aud n).line ++ (frames.zip (List.range frames.length)).map fun e => ⟨e.1.1 % 2 ^ 24, e.1.2.1 % 2 ^ 24, e.1.2.2 % 64, s.raster.ticks + e.2 * 400000000 / fsHz (s.aud n).inp.rate, non, gap && e.2 == 0, none⟩; (s.acts) ∧ (n < 4) ∧ (s.on (F.RD_AUD_CTRL_EN n) = true) ∧ (s.wordSelect n = false) ∧ ((s.aud n).inp.rate ≠ 0 ∧ (s.aud n).inp.ok = true) ∧ ((s.aud n).ts.length < 16)) ∧
    (∃ (s : State) (n : Nat) (frames : List (Nat × Nat × Nat)), (s.acts) ∧ (n < 4) ∧ (s.on (F.RD_AUD_CTRL_EN n) = true) ∧ ((s.aud n).inp.rate ≠ 0 ∧ (s.aud n).inp.ok = true) ∧ (16 ≤ (s.aud n).ts.length)) ∧
    (∃ (s : State) (n : Nat) (ue : List Nat), let p : AudPlay := (List.range 192).foldl (fun p k => playFrame s n (s.aud n) (s.audOut n).rate (s.get (F.RD_AUD_DELAY_D_F n)) s.raster.ticks s.freeN ue k p) { next := (s.aud n).next, gain := (s.aud n).gain, realign := (s.aud n).realign }; (s.acts) ∧ (n < 4) ∧ (s.on (F.RD_AUD_CTRL_EN n) = true) ∧ ((s.audOut n).rate ≠ 0 ∧ (s.audOut n).stopped = false) ∧ ((s.aud n).ts.length < 16)) ∧
    (∃ (s : State) (n : Nat) (ue : List Nat), let zeros : List (Nat × Nat × Nat) := (List.range 192).map fun k => (0, 0, 9 + 36 * s.csOut n k); (s.acts) ∧ (n < 4) ∧ (s.on (F.RD_AUD_CTRL_EN n) = true) ∧ ((s.audOut n).rate = 0 ∧ (s.audOut n).stopped = false ∧ (s.audOut n).unsupported = true) ∧ (s.on (F.RD_AUD_CTRL_CS_SRC n) = true) ∧ ((s.aud n).ts.length < 16)) ∧
    (∃ (s : State) (n : Nat), let d : Int := s.audD n; (s.acts) ∧ (n < 4) ∧ (s.on (F.RD_AUD_CTRL_GROUP_EN n) = false) ∧ ((s.audOut n).rate ≠ 0) ∧ (s.audPlays n = false)) ∧
    (∃ (s : State) (n : Nat), let v : Nat := framesOf (s.audD n) (s.audOut n).rate; (s.acts) ∧ (n < 4) ∧ (s.on (F.RD_AUD_CTRL_GROUP_EN n) = false) ∧ (s.audPlays n = true) ∧ (s.on (F.RD_AUD_DELAY_VALID n) = true ∧ (s.aud n).next.isSome = true ∧ s.get (F.RD_AUD_DELAY_D_F n) ≠ v)) ∧
    (∃ (s : State) (n k : Nat), (s.acts) ∧ (n < 4) ∧ (s.on (F.RD_AUD_CTRL_EN n) = true)) ∧
    (∃ (s : State) (n : Nat) (x : AudTs) (l : List AudTs), (s.rindActs) ∧ (n < 4) ∧ ((s.aud n).ts = x :: l) ∧ (x.sec < 2 ^ 48 ∧ x.block < 2 ^ 16)) ∧
    (∃ (s : State) (n : Nat), (s.rindActs) ∧ (n < 4) ∧ ((s.aud n).ts = [])) ∧
    (∃ (s : State) (n : Nat), (s.rindActs) ∧ (n < 4)) :=
  ⟨⟨wAud.setAud 1 fun a => { a with outp := { a.outp with ok := false, good := 63 } }, 1, 8333, true, by decide +kernel⟩,
   ⟨wAud, 1, 5000, false, by decide +kernel⟩,
   ⟨wAud, 1, true, by decide +kernel⟩,
   ⟨wAud.setAud 1 fun a => { a with inp := { run := 64, least := 20000, most := 20000, sum := 1280000 } }, 1, false, by decide +kernel⟩,
   ⟨(withF [(F.RD_AUD_CTRL_FORMAT 1, 1)] wAud).setAud 1 fun a => { a with differ := true, inp := { run := 64, least := 8333, most := 8334, sum := 533333 } }, 1, 3, false, by decide +kernel⟩,
   ⟨wAud, 1, List.replicate 192 (7, 8, 36), by decide +kernel⟩,
   ⟨wAud.setAud 1 fun a => { a with ts := List.replicate 16 ⟨true, 1, 2, 3, 4, 5⟩ }, 1, List.replicate 192 (7, 8, 0), by decide +kernel⟩,
   ⟨wAud, 1, [], by decide +kernel⟩,
   ⟨(withF [(F.RD_AUD_CTRL_CS_SRC 1, 1)] wAud).setAud 1 fun a => { a with outp := { unsupported := true } }, 1, [], by decide +kernel⟩,
   ⟨withF [((F.RD_AUD_CTRL_EN 1), 0)] wAud, 1, by decide +kernel⟩,
   ⟨withF [((F.RD_AUD_ADJ_ADJ 1), 20000000)] wAud, 1, by decide +kernel⟩,
   ⟨wAud, 1, 7, by decide +kernel⟩,
   ⟨wAud.setAud 1 fun a => { a with ts := [⟨true, 5, 2 ^ 33 + 1, 7, 8, 9⟩] }, 1, ⟨true, 5, 2 ^ 33 + 1, 7, 8, 9⟩, [], by decide +kernel⟩,
   ⟨wAud, 3, by decide +kernel⟩,
   ⟨withF [((F.RD_AUD_CS_IN_CS 1 0), 77)] wAud, 1, by decide +kernel⟩⟩

theorem witness_CheckValueUnits :
    (∃ (s : State) (u : Nat), (s.rindActs) ∧ (u < 4)) ∧
    (∃ (s : State) (u size : Nat) (val : Word), (s.rindActs) ∧ (u < 4 ∧ size < 3) ∧ (s.wordOk (atCRC u (0x28 + 4 * size)) val = true)) ∧
    (∃ (s : State) (u : Nat) (val : Word), (s.rindActs) ∧ (u < 4) ∧ (s.wordOk (atCRC u 0) val = true)) ∧
    (∃ (s : State) (u off : Nat) (val : Word), (s.rindActs) ∧ (u < 4) ∧ (off = 0x8 ∨ off = 0x10 ∨ off = 0x18 ∨ off = 0x20) ∧ (s.wordOk (atCRC u off) val = true)) ∧
    (∃ (s : State) (u off : Nat) (val : Word), let lo : Word := (Tab.get (fun _ => none) s.acc.lowHeld (atCRC u (off - 4))).getD (s.rd (atCRC u (off - 4))); (s.rindActs) ∧ (u < 4) ∧ (off = 0xC ∨ off = 0x14 ∨ off = 0x1C ∨ off = 0x24) ∧ (s.wordOk (atCRC u off) val = true)) ∧
    (∃ (s : State) (u : Nat), let z : State := s.each (s.crcq u) (crcProcess u); (s.rindActs) ∧ (u < 4) ∧ (s.crcq u ≠ [])) ∧
    (∃ (s : State) (u : Nat), let z : State := s.each (s.crcq u) (crcProcess u); (s.rindActs) ∧ (u < 4)) ∧
    (∃ (s : State) (u : Nat), (s.rindActs) ∧ (u < 4)) :=
  ⟨⟨withF [((F.RD_CRC_RESULT_INFO_VALID 2), 1)] wSender, 2, by decide +kernel⟩,
   ⟨withF [((F.RD_CRC_RESULT_INFO_VALID 2), 1)] wSender, 2, 2, 0x12345678, by decide +kernel⟩,
   ⟨wSender, 2, 7, by decide +kernel⟩,
   ⟨wSender, 2, 8, 77, by decide +kernel⟩,
   ⟨{ wSender with acc := { wSender.acc with lowHeld := [(atCRC 2 0x10, some 9)] } }, 2, 0x14, 1, by decide +kernel⟩,
   ⟨{ wSender with crcs := [(2, [⟨0, 0x107⟩, ⟨8, 7⟩, ⟨4, 1⟩, ⟨0x30, 0x34333231⟩, ⟨0x28, 0x35⟩])] }, 2, by decide +kernel⟩,
   ⟨{ wSender with crcs := [(2, [⟨0, 0x107⟩, ⟨8, 7⟩, ⟨4, 1⟩, ⟨0x30, 0x34333231⟩, ⟨0x28, 0x35⟩])] }, 2, by decide +kernel⟩,
   ⟨withF [((F.RD_CRC_RESULT_INFO_VALID 2), 1)] wSender, 2, by decide +kernel⟩⟩

theorem witness_LegacyChain :
    (∃ (s : State) (lane g : Nat), (s.acts) ∧ (s.isK24 = true) ∧ ((lane = 0 ∧ g = 0) ∨ (lane = 5 ∧ g = 1))) ∧
    (∃ (s : State) (lane g : Nat), (s.acts) ∧ (s.isK24 = true) ∧ ((lane = 0 ∧ g = 0) ∨ (lane = 5 ∧ g = 1)) ∧ (s.k24.lock.testBit g = true)) ∧
    (∃ (s : State) (rd : Bool) (codes : List Nat) (bytes : List Nat) (v : VsTurn) (f h fl x : Nat), (s.acts) ∧ (s.legacyIn 0 0 rd codes = (bytes, false)) ∧ (s.isK24 = true ∧ s.k24.apply = false) ∧ (f < 256 ∧ h < 256 ∧ fl < 256 ∧ x < 256) ∧ (bytes = x25Seal [f, h, fl, x] ∧ x25Ok bytes = true)) ∧
    (∃ (s : State) (rd : Bool) (codes : List Nat) (bytes : List Nat) (viol : Bool) (v : VsTurn), (s.acts) ∧ (s.legacyIn 0 0 rd codes = (bytes, viol)) ∧ (s.isK24 = true) ∧ (x25Ok bytes = false)) ∧
    (∃ (s : State) (rd : Bool) (codes : List Nat) (bytes : List Nat) (v : VsTurn), (s.acts) ∧ (s.isK24 = true ∧ s.k24.apply = false) ∧ (s.legacyIn 0 0 rd codes = (bytes, true) ∧ x25Ok bytes = true)) ∧
    (∃ (s : State) , (s.acts) ∧ (s.isK24 = true ∧ s.k24.vs = true) ∧ (s.get (F.CH_RASTER_STATE_STATE 0) ≠ 3)) ∧
    (∃ (s : State) , (s.acts) ∧ (s.isK24 = true) ∧ (s.get F.RD_K24_CTRL_HOLD ≠ 0 ∧ s.get F.RD_K24_CTRL_HOLD ≤ s.k24.held)) ∧
    (∃ (s : State) (rd : Bool) (codes : List Nat) (bytes : List Nat) (viol : Bool), let b : List Nat := bytes.take (bytes.length - 2); let row : Nat := ofLe ((b.drop 1).take 2); let col : Nat := ofLe ((b.drop 3).take 2); let n : Nat := ofLe ((b.drop 5).take 2); let ok : Bool := x25Ok bytes && !viol && s.k24.vs && !s.links.wheyStopped && !s.on F.RD_K24_ADDR_EXCESS && b.headD 0 == s.get F.RD_K24_ADDR_ADDR && decide (row < s.k24H) && decide (col + n ≤ s.k24W) && (b.drop 7).length == 3 * n && decide (1 ≤ n) && decide (n ≤ 512); let row8 : List Nat := rowPut (Tab.get (fun _ => []) s.tileRx.cur row) (3 * s.k24W) (3 * col) (b.drop 7); let cover : List (Nat × Nat) := spanIns col n (Tab.get (fun _ => []) s.tileRx.coverA row); (s.acts) ∧ (s.legacyIn 0 1 rd codes = (bytes, viol)) ∧ (s.isK24 = true)) ∧
    (∃ (s : State) (rd : Bool) (codes : List Nat) (bytes : List Nat) (viol : Bool), (s.acts) ∧ (s.legacyIn 0 2 rd codes = (bytes, viol)) ∧ (s.isK24 = true) ∧ (x25Ok bytes = false)) ∧
    (∃ (s : State) (rd : Bool) (codes : List Nat) (bytes : List Nat) (a v : Nat), let b : List Nat := bytes.take (bytes.length - 2); (s.acts) ∧ (s.legacyIn 0 2 rd codes = (bytes, false)) ∧ (s.isK24 = true) ∧ (x25Ok bytes = true) ∧ (s.k24Mine b true = true ∧ b.drop 1 = 1 :: leBytes 2 a ++ leBytes 2 2 ++ leBytes 2 v ∧ v < 65536) ∧ (a ∈ [0x04, 0x05, 0x10, 0x18, 0x19, 0x43]) ∧ (∀ r ∈ regAt (atK24 (4 * a)), BitVec.ofNat 32 v &&& ~~~ r.named = 0)) ∧
    (∃ (s : State) (rd : Bool) (codes : List Nat) (bytes : List Nat) (viol : Bool), (s.acts) ∧ (s.legacyIn 0 2 rd codes = (bytes, viol)) ∧ (s.isK24 = true) ∧ (x25Ok bytes = false)) ∧
    (∃ (s : State) (rd : Bool) (codes : List Nat) (bytes : List Nat) (a : Nat), let b : List Nat := bytes.take (bytes.length - 2); (s.acts) ∧ (s.legacyIn 0 2 rd codes = (bytes, false)) ∧ (s.isK24 = true) ∧ (x25Ok bytes = true) ∧ (s.k24Mine b false = true ∧ b.drop 1 = 2 :: leBytes 2 a ++ [0, 0]) ∧ (a ∈ [0x00, 0x01, 0x02, 0x04, 0x05, 0x06, 0x07, 0x08, 0x10, 0x18, 0x19, 0x23, 0x42, 0x43, 0xF0])) ∧
    (∃ (s : State) (rd : Bool) (codes : List Nat) (bytes : List Nat) (viol : Bool), (s.acts) ∧ (s.legacyIn 0 2 rd codes = (bytes, viol)) ∧ (s.isK24 = true) ∧ (x25Ok bytes = false)) ∧
    (∃ (s : State) (rd : Bool) (codes : List Nat) (bytes d : List Nat) (a : Nat), let b : List Nat := bytes.take (bytes.length - 2); let u : State := if a = 0x11 then s.each (pairs d) gamWrite else s.each d gainWrite; (s.acts) ∧ (s.legacyIn 0 2 rd codes = (bytes, false)) ∧ (s.isK24 = true) ∧ (x25Ok bytes = true) ∧ (s.k24Mine b true = true ∧ b.drop 1 = 3 :: leBytes 2 a ++ leBytes 2 d.length ++ d) ∧ (d ≠ [] ∧ d.length ≤ 256 ∧ (a = 0x11 ∨ a = 0x1A))) ∧
    (∃ (s : State) (rd : Bool) (codes : List Nat) (bytes : List Nat) (viol : Bool), (s.acts) ∧ (s.legacyIn 5 3 rd codes = (bytes, viol)) ∧ (s.isK24 = true)) ∧
    (∃ (s : State) (v : Option Nat), let c : Nat := s.get F.RD_K24_GAM_IDX_COLOUR; let i : Nat := s.get F.RD_K24_GAM_IDX_INDEX; (s.acts) ∧ (s.isK24 = true) ∧ (c < 3)) ∧
    (∃ (s : State) (v : Option Nat), let i : Nat := s.gainIdx; (s.acts) ∧ (s.isK24 = true) ∧ (i < s.k24Lamps)) ∧
    (∃ (s : State) , (s.acts) ∧ (s.isK24 = true)) ∧
    (∃ (s : State) (key : Nat), (s.acts) ∧ (s.isK24 = true ∧ key = 0x5A5A) ∧ (s.get F.VT_TP_TAB_RESULT_STATE ≠ 1 ∧ s.get F.VT_TP_TAB_RESULT_STATE ≠ 5)) :=
  ⟨⟨{ wVs with k24 := { wVs.k24 with lock := 1 } }, 5, 1, by decide +kernel⟩,
   ⟨wVs, 0, 0, by decide +kernel⟩,
   ⟨wVs, false, legacyCodes false 0 (x25Seal [7, 2, 1, 0]), x25Seal [7, 2, 1, 0], ⟨16666667, []⟩, 7, 2, 1, 0, by decide +kernel⟩,
   ⟨wVs, false, legacyCodes false 0 ([1, 2, 3]), [1, 2, 3], false, ⟨9, []⟩, by decide +kernel⟩,
   ⟨wVs, false, (legacyCodes false 0 (x25Seal [7, 2, 1, 0])).take 7, x25Seal [7, 2, 1, 0], ⟨9, []⟩, by decide +kernel⟩,
   ⟨{ wVs with k24 := { wVs.k24 with missed := 2 } }, by decide +kernel⟩,
   ⟨withF [(F.RD_K24_CTRL_HOLD, 4)] { wVs with k24 := { wVs.k24 with held := 4 } }, by decide +kernel⟩,
   ⟨wVs, false, legacyCodes false 1 (x25Seal ([3, 1, 0, 0, 0, 8, 0] ++ List.replicate 24 9)), x25Seal ([3, 1, 0, 0, 0, 8, 0] ++ List.replicate 24 9), false, by decide +kernel⟩,
   ⟨wVs, false, legacyCodes false 2 ([1, 2, 3]), [1, 2, 3], false, by decide +kernel⟩,
   ⟨wVs, false, legacyCodes false 2 (x25Seal ([3, 1, 5, 0, 2, 0, 200, 0])), x25Seal ([3, 1, 5, 0, 2, 0, 200, 0]), 5, 200, by decide +kernel⟩,
   ⟨wVs, false, legacyCodes false 2 ([1, 2, 3]), [1, 2, 3], false, by decide +kernel⟩,
   ⟨wVs, false, legacyCodes false 2 (x25Seal [3, 2, 6, 0, 0, 0]), x25Seal [3, 2, 6, 0, 0, 0], 6, by decide +kernel⟩,
   ⟨wVs, false, legacyCodes false 2 ([1, 2, 3]), [1, 2, 3], false, by decide +kernel⟩,
   ⟨wVs, false, legacyCodes false 2 (x25Seal [3, 3, 0x11, 0, 4, 0, 1, 2, 3, 4]), x25Seal [3, 3, 0x11, 0, 4, 0, 1, 2, 3, 4], [1, 2, 3, 4], 0x11, by decide +kernel⟩,
   ⟨wVs, false, legacyCodes false 3 ([1, 2, 3]), [1, 2, 3], false, by decide +kernel⟩,
   ⟨withF [(F.RD_K24_GAM_IDX_INDEX, 255)] wVs, some 0x1234, by decide +kernel⟩,
   ⟨withF [(F.RD_K24_GAIN_IDX_LO_IDX, 95)] wVs, some 130, by decide +kernel⟩,
   ⟨withF [(F.RD_K24_ERR_POP_ERR, 5)] wVs, by decide +kernel⟩,
   ⟨wVs, 0x5A5A, by decide +kernel⟩⟩

theorem witness_LegacyUpdate :
    (∃ (s : State) , (s.acts) ∧ (s.isK24 = true) ∧ (s.upd24 = 0 ∨ s.upd24 = 4 ∨ s.upd24 = 5)) ∧
    (∃ (s : State) (b : Nat), (s.acts) ∧ (s.isK24 = true) ∧ (s.upd24 = 1) ∧ (s.upd.rx.buf.length < 0x800000)) ∧
    (∃ (s : State) , (s.acts) ∧ (s.isK24 = true) ∧ (s.upd24 = 1)) ∧
    (∃ (s : State) (regs : List (Nat × Word)) (all : MouldImage), let contents : MouldImage := { all with mregs := regs }; let b : List Nat := s.upd.rx.buf; let e : Nat := s.packageError 12 (fwOf b) (mouldOf b contents); (s.acts) ∧ (s.isK24 = true) ∧ (s.upd24 = 2)) ∧
    (∃ (s : State) , (s.acts) ∧ (s.isK24 = true) ∧ (s.upd24 = 3)) ∧
    (∃ (s : State) , (s.acts) ∧ (s.isK24 = true) ∧ (s.upd24 = 3)) ∧
    (∃ (s : State) , (s.acts) ∧ (s.isK24 = true) ∧ (s.upd24 = 4) ∧ (s.k24.apply = false)) ∧
    (∃ (s : State) , (s.acts) ∧ (s.k24.apply = true) ∧ (s.saving = true)) ∧
    (∃ (s : State) , let u : State := commandedRestart (k24Slots { s.fresh with k24 := { s.k24 with applyNow := true } }); (s.acts) ∧ (s.k24.apply = true) ∧ (s.saving = false)) ∧
    (∃ (s : State) , let i : Nat := s.upd.slot.getD 0; (s.acts) ∧ (s.isK24 = true) ∧ (s.upd.slot.isSome = true ∧ (s.nv.slot i).state = slTrial) ∧ (i < 2)) ∧
    (∃ (s : State) , (s.acts) ∧ (s.isK24 = true) ∧ (s.upd24 = 1 ∨ s.upd24 = 2 ∨ s.upd24 = 3)) :=
  ⟨⟨withF [(F.RD_K24_UPD_STATUS_STATE, 5), (F.RD_K24_UPD_STATUS_ERR, 6)] wVs, by decide +kernel⟩,
   ⟨withF [(F.RD_K24_UPD_STATUS_STATE, 1)] wVs, 77, by decide +kernel⟩,
   ⟨withF [(F.RD_K24_UPD_STATUS_STATE, 1)] wVs, by decide +kernel⟩,
   ⟨withF [(F.RD_K24_UPD_STATUS_STATE, 2)] { wVs with nv := (base mT).nv, upd := { wVs.upd with run := some fw1, rx := { wVs.upd.rx with buf := (⟨fw2, mT⟩ : Package).bytes } } }, mT.mregs, mT, by decide +kernel⟩,
   ⟨withF [(F.RD_K24_UPD_STATUS_STATE, 3)] wVs, by decide +kernel⟩,
   ⟨withF [(F.RD_K24_UPD_STATUS_STATE, 3)] wVs, by decide +kernel⟩,
   ⟨withF [(F.RD_K24_UPD_STATUS_STATE, 4)] wVs, by decide +kernel⟩,
   ⟨withF [(F.VT_TP_TAB_RESULT_STATE, 5)] { wVs with k24 := { wVs.k24 with apply := true } }, by decide +kernel⟩,
   ⟨{ wVs with k24 := { wVs.k24 with apply := true } }, by decide +kernel⟩,
   ⟨{ wVs with upd := { wVs.upd with slot := some 1, run := some fw3 }, nv := wVs.nv.mark 1 slTrial }, by decide +kernel⟩,
   ⟨withF [(F.RD_K24_UPD_STATUS_STATE, 2)] wVs, by decide +kernel⟩⟩

theorem witness_FirmwareActivation :
    (∃ (s : State) (fw : Option FwImage) (mould : Option MouldImage) (e : Nat), let file : Option (FwImage × MouldImage) := fw.bind fun f => mould.map fun m => (f, m); let u : State := s.setCard fun c => { c with fw := file }; (s.acts) ∧ (s.inTrial = false ∧ s.upd.arm = none ∧ s.upd.install = none) ∧ (e = (match file with | some (f, m) => if s.nv.fwCheck (rolesFor (some m)) f ≠ 0 then s.nv.fwCheck (rolesFor (some m)) f else mouldErr (s.mouldCheck false m) | none => 1))) ∧
    (∃ (s : State) (fw : Option FwImage) (mould : Option MouldImage), let file : Option (FwImage × MouldImage) := fw.bind fun f => mould.map fun m => (f, m); (s.acts) ∧ (s.inTrial = true ∨ s.upd.arm.isSome = true ∨ s.upd.install.isSome = true)) ∧
    (∃ (s : State) (file : Option Package) (e : Nat), let u : State := s.setCard fun c => { c with tile := file }; (s.acts) ∧ (s.isSender = true ∧ s.distRuns = false ∧ s.upd.install = none) ∧ (e = (match file with | some k => if s.nv.fwCheck 4 k.fw ≠ 0 then s.nv.fwCheck 4 k.fw else mouldErr (s.mouldCheck false k.mould) | none => 1)) ∧ (∀ k ∈ file.toList, k.bytes.length ≤ 0x800000)) ∧
    (∃ (s : State) (file : Option Package), (s.acts) ∧ (s.isSender = false ∨ s.distRuns = true ∨ s.upd.install.isSome = true)) ∧
    (∃ (s : State) (bytes : Option (List Nat)) (contents : MouldImage) (e : Nat), let file : Option MouldImage := bytes.map fun b => { contents with raw := b }; let u : State := s.setCard fun c => { c with remould := file }; (s.acts) ∧ (s.rmPending = false ∧ s.upd.install = none) ∧ (e = (match file with | some m => mouldErr (s.mouldCheck false m) | none => 1))) ∧
    (∃ (s : State) (bytes : Option (List Nat)) (contents : MouldImage), let file : Option MouldImage := bytes.map fun b => { contents with raw := b }; (s.acts) ∧ (s.rmPending = true ∨ s.upd.install.isSome = true)) ∧
    (∃ (s : State) (i : Install), (s.acts) ∧ (s.upd.install = some i) ∧ (s.get F.RD_FW_RESULT_STATE ≠ 9)) ∧
    (∃ (s : State) (i : Install), (s.acts) ∧ (s.upd.install = some i)) ∧
    (∃ (s : State) , let sf : Nat := s.get F.RD_FW_SCHED_FNUM_S; let e : Nat := if ahead sf s.raster.fnum < s.minLead then 7 else s.fwArmError false; (s.acts) ∧ (s.isSender = true ∧ s.upd.arm = none ∧ s.upd.install = none)) ∧
    (∃ (s : State) , (s.acts) ∧ (s.isSender = false ∨ s.upd.arm.isSome = true ∨ s.upd.install.isSome = true)) ∧
    (∃ (s : State) , let sf : Nat := s.get F.RD_FW_SCHED_FNUM_S; let e : Nat := if ahead sf s.raster.fnum < s.minLead then 7 else if s.distRuns then 8 else if s.inTrial = false then 0x0A else if s.rmPending then 0x0C else 0; (s.acts) ∧ (s.isSender = true ∧ s.upd.arm = none ∧ s.upd.install = none)) ∧
    (∃ (s : State) (r : Bool) (sf : Nat), (s.acts) ∧ (s.upd.arm = some (r, sf, false)) ∧ (s.senderEnd ≠ 3 ∧ s.upd.partnerOk = false)) ∧
    (∃ (s : State) (r : Bool) (sf : Nat), (s.acts) ∧ (s.upd.arm = some (r, sf, false))) ∧
    (∃ (s : State) (r : Bool) (sf : Nat), let e : Nat := if s.fwArmError r ≠ 0 then s.fwArmError r else if s.senderEnd ≠ 3 ∧ s.upd.partnerOk = false then 9 else 0; (s.acts) ∧ (s.upd.arm = some (r, sf, false)) ∧ (ahead sf s.raster.fnum = 2) ∧ (s.portsInUse.Nodup) ∧ (∀ p ∈ s.portsInUse, (s.port p).bcast = none)) ∧
    (∃ (s : State) (late : Bool), let u : State := confirmPart s; let v : Nat := if s.on F.RD_FW_TILE_VER_VERSION then s.get F.RD_FW_TILE_VER_VERSION else s.tileVersion; (s.acts) ∧ (s.isSender = true) ∧ (s.inTrial = false ∨ (late = false ∧ s.windowEnds = false)) ∧ (s.portsInUse.Nodup) ∧ (∀ p ∈ s.portsInUse, (s.port p).bcast = none)) ∧
    (∃ (s : State) (late : Bool), (s.acts) ∧ (s.isSender = true) ∧ (s.inTrial = true) ∧ (late = true ∨ s.windowEnds = true)) ∧
    (∃ (s : State) (late : Bool), (s.acts) ∧ (s.isSender = false)) ∧
    (∃ (s : State) (i : Nat), (s.acts) ∧ (s.upd.slot = some i ∧ i < 2) ∧ (s.inTrial = true)) :=
  ⟨⟨wFw, none, some mS, 1, by decide +kernel⟩,
   ⟨wTrial, none, none, by decide +kernel⟩,
   ⟨{ wFw with nv := { wFw.nv with keys := (base mS).nv.keys } }, some ⟨fw2, mT⟩, 0, by decide +kernel⟩,
   ⟨wDist, none, by decide +kernel⟩,
   ⟨{ wFw with nv := { wFw.nv with keys := (base mS).nv.keys } }, some mS.raw, mS, 0, by decide +kernel⟩,
   ⟨withF [(F.RD_REMOULD_RESULT_STATE, 3)] wFw, none, default, by decide +kernel⟩,
   ⟨{ wFw with upd := { wFw.upd with install := some (.remould mS) } }, .remould mS, ⟨by decide +kernel, rfl, by decide +kernel⟩⟩,
   ⟨{ wFw with upd := { wFw.upd with install := some (.fw fw2 mS) } }, .fw fw2 mS, ⟨by decide +kernel, rfl⟩⟩,
   ⟨wFw, by decide +kernel⟩,
   ⟨{ wFw with upd := { wFw.upd with arm := some (false, 200, false) } }, by decide +kernel⟩,
   ⟨wTrial, by decide +kernel⟩,
   ⟨{ withF [(F.RD_MOULD_INFO_SENDER_END, 1)] wFw with upd := { wFw.upd with arm := some (false, 200, false) } }, false, 200, by decide +kernel⟩,
   ⟨{ wFw with upd := { wFw.upd with arm := some (false, 200, false) } }, false, 200, by decide +kernel⟩,
   ⟨{ wFw with upd := { wFw.upd with arm := some (false, 102, false) } }, false, 102, by decide +kernel⟩,
   ⟨wTrial, false, by decide +kernel⟩,
   ⟨wTrial, true, by decide +kernel⟩,
   ⟨wTile, false, by decide +kernel⟩,
   ⟨wTrial, 1, by decide +kernel⟩⟩

theorem witness_FirmwareTransfer :
    (∃ (s : State) (p src seq dest kind total id mseq last : Nat) (dirB : Bool) (w : PktEnd), (s.acts) ∧ (s.hasPort p = true) ∧ (s.tileLike = true) ∧ (dest ≠ 0xFF ∧ dest = s.addr) ∧ (s.duplicate p src seq dest = false) ∧ (s.inTrial = false ∧ s.transfers = false ∧ total ≤ 0x800000) ∧ (w.good (rxFlags w ⟨0x30, dest, src, seq, 0, fwBeginBytes kind total id mseq last dirB⟩))) ∧
    (∃ (s : State) (p src seq dest kind total id mseq last : Nat) (dirB : Bool) (w : PktEnd), (s.acts) ∧ (s.hasPort p = true) ∧ (s.tileLike = true) ∧ (dest ≠ 0xFF ∧ dest = s.addr) ∧ (s.duplicate p src seq dest = false) ∧ (s.inTrial = false ∧ (s.transfers = true ∨ 0x800000 < total)) ∧ (w.good (rxFlags w ⟨0x30, dest, src, seq, 0, fwBeginBytes kind total id mseq last dirB⟩))) ∧
    (∃ (s : State) (p src seq dest off : Nat) (bytes : List Nat) (w : PktEnd), (s.acts) ∧ (s.hasPort p = true) ∧ (s.tileLike = true) ∧ (dest ≠ 0xFF ∧ dest = s.addr) ∧ (s.duplicate p src seq dest = false) ∧ (s.upd.rx.state = 1 ∧ off = s.upd.rx.buf.length ∧ bytes ≠ [] ∧ bytes.length ≤ 240 ∧ off + bytes.length ≤ 0x800000) ∧ (w.good (rxFlags w ⟨0x31, dest, src, seq, 0, leBytes 4 off ++ bytes⟩))) ∧
    (∃ (s : State) (p src seq dest off : Nat) (bytes : List Nat) (w : PktEnd), (s.acts) ∧ (s.hasPort p = true) ∧ (s.tileLike = true) ∧ (dest ≠ 0xFF ∧ dest = s.addr) ∧ (s.duplicate p src seq dest = false) ∧ (s.upd.rx.state = 1 ∧ off ≠ s.upd.rx.buf.length) ∧ (w.good (rxFlags w ⟨0x31, dest, src, seq, 0, leBytes 4 off ++ bytes⟩))) ∧
    (∃ (s : State) (p src seq dest total : Nat) (w : PktEnd), (s.acts) ∧ (s.hasPort p = true) ∧ (s.tileLike = true) ∧ (dest ≠ 0xFF ∧ dest = s.addr) ∧ (s.duplicate p src seq dest = false) ∧ (s.upd.rx.state = 1 ∧ total = s.upd.rx.total) ∧ (w.good (rxFlags w ⟨0x32, dest, src, seq, 0, leBytes 4 total⟩))) ∧
    (∃ (s : State) (p src seq dest total : Nat) (w : PktEnd), (s.acts) ∧ (s.hasPort p = true) ∧ (s.tileLike = true) ∧ (dest ≠ 0xFF ∧ dest = s.addr) ∧ (s.duplicate p src seq dest = false) ∧ (s.upd.rx.state = 1 ∧ total ≠ s.upd.rx.total) ∧ (w.good (rxFlags w ⟨0x32, dest, src, seq, 0, leBytes 4 total⟩))) ∧
    (∃ (s : State) (regs : List (Nat × Word)) (all : MouldImage), let contents : MouldImage := { all with mregs := regs }; let e : Nat := s.rxError contents; (s.acts) ∧ (s.upd.rx.state = 2) ∧ (e ≠ 0)) ∧
    (∃ (s : State) (regs : List (Nat × Word)) (all : MouldImage), let contents : MouldImage := { all with mregs := regs }; (s.acts) ∧ (s.upd.rx.state = 2) ∧ (s.rxError contents = 0) ∧ (s.addr = s.upd.rx.last)) ∧
    (∃ (s : State) (regs : List (Nat × Word)) (all : MouldImage), let contents : MouldImage := { all with mregs := regs }; let r : Rx := s.upd.rx; let p : Nat := if r.dirB then 0 else 1; let nx : Nat := if r.dirB then s.addr - 1 else s.addr + 1; (s.acts) ∧ (r.state = 2) ∧ (s.rxError contents = 0) ∧ (s.addr ≠ r.last) ∧ (nx ≠ 0xFF ∧ Tab.get (fun _ => none) (s.port p).unacked nx = none)) ∧
    (∃ (s : State) , (s.acts) ∧ ((s.upd.rx.state = 2 ∨ s.upd.rx.state = 3) ∧ s.upd.rx.mould.isSome = true)) ∧
    (∃ (s : State) , let r : Rx := s.upd.rx; (s.acts) ∧ ((r.state = 2 ∨ r.state = 3) ∧ r.mould.isSome = true)) ∧
    (∃ (s : State) (p src seq op sf version win tries : Nat) (w : PktEnd), (s.acts) ∧ (s.hasPort p = true) ∧ (s.tileLike = true) ∧ (s.duplicate p src seq 0xFF = false) ∧ (w.good (rxFlags w ⟨0x33, 0xFF, src, seq, 0, fwActivateBytes op sf version win tries⟩))) ∧
    (∃ (s : State) (p src seq version : Nat) (w : PktEnd), let u : State := if s.inTrial && s.runVersion = version then confirmPart s else s; (s.acts) ∧ (s.hasPort p = true) ∧ (s.tileLike = true) ∧ (s.duplicate p src seq 0xFF = false) ∧ (w.good (rxFlags w ⟨0x34, 0xFF, src, seq, 0, leBytes 4 version⟩))) ∧
    (∃ (s : State) (p src seq dest : Nat) (w : PktEnd), (s.acts) ∧ (s.hasPort p = true) ∧ (s.tileLike = true) ∧ (dest ≠ 0xFF ∧ dest = s.addr) ∧ (s.duplicate p src seq dest = false) ∧ (s.transfers = true) ∧ (w.good (rxFlags w ⟨0x35, dest, src, seq, 0, []⟩))) ∧
    (∃ (s : State) (p a : Nat) (b : List Nat) (w : PktEnd), (s.acts) ∧ (s.hasPort p = true) ∧ (s.isSender = true) ∧ (1 ≤ a ∧ a ≤ 32) ∧ (w.good (rxSeq w ⟨0x85, 0xFE, a, 0, 0, b⟩))) ∧
    (∃ (s : State) (p a : Nat) (b : List Nat) (w : PktEnd), let q : Nat := if s.on (F.CH_TRAIN_STATE_END 1) then 0 else 1 - p; (s.acts) ∧ (s.hasPort p = true) ∧ (s.tileLike = true) ∧ (w.good (rxSeq w ⟨0x85, 0xFE, a, 0, 0, b⟩))) ∧
    (∃ (s : State) (p first last total id mseq : Nat) (val : Word), let kind : Nat := (F.CH_DIST_CTRL_KIND p).of val; let dirB : Bool := (F.CH_DIST_CTRL_ORIGIN p).of val == 1; (s.acts) ∧ (s.hasPort p = true) ∧ (s.isSender = true) ∧ (s.wordOk (atCHS p 0xE8) val = true) ∧ (s.get (F.CH_DIST_STATUS_STATE p) ≠ 1) ∧ (first = (F.CH_DIST_CTRL_FIRST p).of val ∧ last = (if (F.CH_DIST_CTRL_LAST p).of val ≠ 0 then (F.CH_DIST_CTRL_LAST p).of val else if dirB then 1 else (s.chainTiles p).length)) ∧ (some (total, id, mseq) = (if kind = 1 then s.nv.pkg.map fun k => (k.bytes.length, k.fw.version, 0) else if kind = 2 then s.nv.staging.map fun m => (m.raw.length, m.hdr.wallId, m.hdr.mouldSeq) else none)) ∧ (first ≠ 0xFF ∧ Tab.get (fun _ => none) (s.port p).unacked first = none) ∧ (((List.range 33).any fun a => a != 0 && (if dirB then decide (last ≤ a ∧ a ≤ first) else decide (first ≤ a ∧ a ≤ last)) && !s.tileStaged kind id mseq p a) = true)) ∧
    (∃ (s : State) (p : Nat) (val : Word), let kind : Nat := (F.CH_DIST_CTRL_KIND p).of val; (s.acts) ∧ (s.hasPort p = true) ∧ (s.isSender = true) ∧ (s.wordOk (atCHS p 0xE8) val = true) ∧ (s.get (F.CH_DIST_STATUS_STATE p) ≠ 1) ∧ ((kind ≠ 1 ∨ s.nv.pkg = none) ∧ (kind ≠ 2 ∨ s.nv.staging = none))) ∧
    (∃ (s : State) (p : Nat) (val : Word), let a : Nat := s.get (F.CH_DIST_STATUS_AT p); (s.acts) ∧ (s.hasPort p = true) ∧ (s.isSender = true) ∧ (s.wordOk (atCHS p 0xE8) val = true) ∧ (s.get (F.CH_DIST_STATUS_STATE p) = 1) ∧ (a ≠ 0xFF ∧ Tab.get (fun _ => none) (s.port p).unacked a = none)) :=
  ⟨⟨{ wFwRx with upd := { wFwRx.upd with rx := { wFwRx.upd.rx with state := 5 } } }, 0, 0xF1, 7, 4, 1, 3, 2, 0, 4, false, goodEnd ⟨0x30, 4, 0xF1, 7, 0, fwBeginBytes 1 3 2 0 4 false⟩, by decide +kernel⟩,
   ⟨wFwRx, 0, 0xF1, 7, 4, 1, 3, 2, 0, 4, false, goodEnd ⟨0x30, 4, 0xF1, 7, 0, fwBeginBytes 1 3 2 0 4 false⟩, by decide +kernel⟩,
   ⟨wFwRx, 0, 0xF1, 7, 4, 2, [9], goodEnd ⟨0x31, 4, 0xF1, 7, 0, leBytes 4 2 ++ [9]⟩, by decide +kernel⟩,
   ⟨wFwRx, 0, 0xF1, 7, 4, 3, [9], goodEnd ⟨0x31, 4, 0xF1, 7, 0, leBytes 4 3 ++ [9]⟩, by decide +kernel⟩,
   ⟨wFwRx, 0, 0xF1, 7, 4, 3, goodEnd ⟨0x32, 4, 0xF1, 7, 0, leBytes 4 3⟩, by decide +kernel⟩,
   ⟨wFwRx, 0, 0xF1, 7, 4, 9, goodEnd ⟨0x32, 4, 0xF1, 7, 0, leBytes 4 9⟩, by decide +kernel⟩,
   ⟨{ wFwRx with upd := { wFwRx.upd with rx := { wFwRx.upd.rx with state := 2 } } }, [], default, by decide +kernel⟩,
   ⟨{ wFwRx with nv := { wFwRx.nv with keys := (base mT).nv.keys }, upd := { wFwRx.upd with rx := { wFwRx.upd.rx with state := 2, buf := (⟨fw2, mT⟩ : Package).bytes } } }, mT.mregs, mT, by decide +kernel⟩,
   ⟨{ wFwRx with nv := { wFwRx.nv with keys := (base mT).nv.keys }, upd := { wFwRx.upd with rx := { wFwRx.upd.rx with state := 2, buf := (⟨fw2, mT⟩ : Package).bytes, last := 8 } } }, mT.mregs, mT, by decide +kernel⟩,
   ⟨{ wFwRx with upd := { wFwRx.upd with rx := { wFwRx.upd.rx with state := 2, fw := some fw2, mould := some mT } } }, by decide +kernel⟩,
   ⟨{ wFwRx with upd := { wFwRx.upd with rx := { wFwRx.upd.rx with state := 3, fw := some fw2, mould := some mT } } }, by decide +kernel⟩,
   ⟨wFwRx, 0, 0xF1, 7, 1, 50, 2, 60, 3, goodEnd ⟨0x33, 0xFF, 0xF1, 7, 0, fwActivateBytes 1 50 2 60 3⟩, by decide +kernel⟩,
   ⟨{ wFwRx with upd := { wFwRx.upd with slot := some 1, run := some fw2 }, nv := wFwRx.nv.mark 1 2 }, 0, 0xF1, 7, 2, goodEnd ⟨0x34, 0xFF, 0xF1, 7, 0, leBytes 4 2⟩, by decide +kernel⟩,
   ⟨wFwRx, 0, 0xF1, 7, 4, goodEnd ⟨0x35, 4, 0xF1, 7, 0, []⟩, by decide +kernel⟩,
   ⟨wDist, 0, 2, [1, 0, 1], goodEnd ⟨0x85, 0xFE, 2, 0, 0, [1, 0, 1]⟩, by decide +kernel⟩,
   ⟨wLinked, 0, 2, [1, 0, 1], goodEnd ⟨0x85, 0xFE, 2, 0, 0, [1, 0, 1]⟩, by decide +kernel⟩,
   ⟨withF [((F.CH_DIST_STATUS_STATE 0), 0)] wDist, 0, 1, 2, (⟨fw2, mT⟩ : Package).bytes.length, 2, 0, (F.CH_DIST_CTRL_KIND 0).into ((F.CH_DIST_CTRL_FIRST 0).into ((F.CH_DIST_CTRL_LAST 0).into ((F.CH_DIST_CTRL_START 0).into 0 1) 2) 1) 1, by decide +kernel⟩,
   ⟨withF [((F.CH_DIST_STATUS_STATE 0), 0)] wDist, 0, 0, by decide +kernel⟩,
   ⟨wDist, 0, 0, by decide +kernel⟩⟩

theorem witness_SettingsAndSecurity :
    (∃ (s : State) , let a : Nat := s.get F.RD_SET_ADDR_OFFSET; let l : List (Nat × Word) := s.nv.records; let st : Nat := if 0x500 ≤ a ∧ a < 0x600 then 3 else if l.any (·.1 == a) = false ∧ 512 ≤ l.length then 4 else 1; (s.acts) ∧ (s.upd.setCmd = none)) ∧
    (∃ (s : State) , let a : Nat := s.get F.RD_SET_ADDR_OFFSET; let l : List (Nat × Word) := s.nv.records; let st : Nat := if 0x500 ≤ a ∧ a < 0x600 then 3 else 1; (s.acts) ∧ (s.upd.setCmd = none)) ∧
    (∃ (s : State) , (s.acts) ∧ (s.upd.setCmd = none)) ∧
    (∃ (s : State) (op a : Nat) (v : Word) (drop : Bool), (s.acts) ∧ (s.upd.setCmd = some (op, a, v)) ∧ (s.inTrial = false)) ∧
    (∃ (s : State) (a fmt : Nat) (v : Word) (l : List (Nat × Word)), (s.acts) ∧ (s.upd.setCmd = some (1, a, v)) ∧ (s.inTrial = true) ∧ (s.nv.sets = [(fmt, l)] ∧ some fmt ≠ s.upd.run.map (·.setFmt) ∧ s.upd.run.isSome = true)) ∧
    (∃ (s : State) (slot : Nat), (s.acts) ∧ (s.upd.secCmd = none)) ∧
    (∃ (s : State) (slot : Nat), (s.acts) ∧ (s.upd.secCmd = none)) ∧
    (∃ (s : State) , (s.acts) ∧ (s.upd.secCmd = none)) ∧
    (∃ (s : State) (slot : Nat), (s.acts) ∧ (s.upd.secCmd = none)) ∧
    (∃ (s : State) , (s.acts) ∧ (s.upd.secCmd = none)) ∧
    (∃ (s : State) (op slot signer : Nat) (buf : List Word), let e : Nat := if op = 1 then (if slot = 0 ∨ 3 < slot ∨ s.nv.enrolled.testBit slot = true then 1 else 0) else if op = 2 then (if slot = 0 ∨ 3 < slot then 1 else if ([1, 2, 3].filter fun i => !s.nv.revoked.testBit i) = [slot] then 3 else 0) else if op = 3 then 0 else if 1 ≤ signer ∧ signer ≤ 3 ∧ s.nv.enrolled.testBit signer = true ∧ s.nv.revoked.testBit signer = false then 0 else 2; (s.acts) ∧ (s.upd.secCmd = some (op, slot, signer, buf)) ∧ (1 ≤ op ∧ op ≤ 4)) ∧
    (∃ (s : State) , (s.rindActs)) :=
  ⟨⟨withF [(F.RD_SET_ADDR_OFFSET, 0x708)] wFw, by decide +kernel⟩,
   ⟨withF [(F.RD_SET_ADDR_OFFSET, 0x708)] wFw, by decide +kernel⟩,
   ⟨wFw, by decide +kernel⟩,
   ⟨{ wFw with upd := { wFw.upd with setCmd := some (1, 0x708, 5) }, nv := { wFw.nv with sets := [(1, [(0x70C, 3)]), (1, [])] } }, 1, 0x708, 5, false, by decide +kernel⟩,
   ⟨{ wTrial with upd := { wTrial.upd with setCmd := some (1, 0x708, 5) }, nv := { wTrial.nv with sets := [(7, [(0x708, 1), (0x70C, 3)])] } }, 0x708, 7, 5, [(0x708, 1), (0x70C, 3)], by decide +kernel⟩,
   ⟨wFw, 1, by decide +kernel⟩,
   ⟨wFw, 1, by decide +kernel⟩,
   ⟨wFw, by decide +kernel⟩,
   ⟨wFw, 2, by decide +kernel⟩,
   ⟨withF [(F.RD_SEC_STATUS_UNLOCKED, 1)] wFw, by decide +kernel⟩,
   ⟨{ wFw with upd := { wFw.upd with secCmd := some (1, 3, 0, [5]) } }, 1, 3, 0, [5], by decide +kernel⟩,
   ⟨wFw, by decide +kernel⟩⟩

theorem witness_LoggerAndWatchdog :
    (∃ (s : State) (r : LogReq) (l : List LogReq), let e : LogEntry := LogEntry.sealed { seq := seqNext s.log.seq, startN := s.log.startN % 2 ^ 16, rep := 0, lastFnum := r.fnum, req := r, crc := 0 }; let room : Bool := decide (s.log.fatal.length < 32); (s.rindActs) ∧ (s.log.queue = r :: l) ∧ ((s.log.ring.getLast?.any fun x => merges x r) = false)) ∧
    (∃ (s : State) (r : LogReq) (l : List LogReq) (e : LogEntry) (old : List LogEntry), (s.rindActs) ∧ (s.log.queue = r :: l) ∧ (s.log.ring = old ++ [e] ∧ merges e r = true)) ∧
    (∃ (s : State) (val : Word), (s.rindActs) ∧ (s.wordOk 0x604 val = true)) ∧
    (∃ (s : State) , let ws : List Nat := match s.logSelected (s.on F.RD_ELOG_CTRL_AREA) (s.get F.RD_ELOG_SEL_SEL) with | some e => e.words | none => List.replicate 12 0; (s.rindActs)) ∧
    (∃ (s : State) , (s.rindActs)) ∧
    (∃ (s : State) , (s.rindActs)) ∧
    (∃ (s : State) , (s.rindActs)) ∧
    (∃ (s : State) , (s.acts) ∧ (s.on F.RD_WDT_CTRL_EN = true ∧ s.sys.wdtGrace = false) ∧ (s.log.queue.length < 64)) ∧
    (∃ (s : State) , (s.acts) ∧ (s.on F.RD_WDT_CTRL_EN = true ∧ s.sys.wdtGrace = true) ∧ (s.log.queue.length < 64)) :=
  ⟨⟨{ wLog with log := { wLog.log with queue := [rq 3 200] } }, rq 3 200, [], by decide +kernel⟩,
   ⟨wLog, rq 1 200, [], ent 7, [], by decide +kernel⟩,
   ⟨wLog, 7, by decide +kernel⟩,
   ⟨withF [(F.RD_ELOG_SEL_SEL, 7)] wLog, by decide +kernel⟩,
   ⟨wLog, by decide +kernel⟩,
   ⟨{ wLog with log := { wLog.log with fatal := [ent 3] } }, by decide +kernel⟩,
   ⟨{ wSender with sys := { wSender.sys with wdtGrace := true } }, by decide +kernel⟩,
   ⟨withF [(F.RD_WDT_CTRL_EN, 1)] wSender, by decide +kernel⟩,
   ⟨withF [(F.RD_IRQ_EN0_EN, 7), (F.RD_WDT_CTRL_EN, 1)] { wLog with sys := { wLog.sys with wdtGrace := true } }, by decide +kernel⟩⟩

theorem witness_InterruptsAndJtag :
    (∃ (s : State) (c : Nat), (s.rindActs) ∧ (c < 37)) ∧
    (∃ (s : State) (v : Nat), let e : Nat × Nat := Tab.get (fun _ => (0, 0)) s.pcie.table v; (s.rindActs) ∧ (v < 32) ∧ (s.pcie.active = s.irqVectors) ∧ (s.pcie.msixEnable = true ∧ s.pcie.due.testBit v = true)) ∧
    (∃ (s : State) (val : Word), let v : Nat := val.toNat; let e : Nat × Nat := Tab.get (fun _ => (0, 0)) s.pcie.table v; (s.rindActs) ∧ (s.wordOk 0x710 val = true) ∧ (s.pcie.waitAck.testBit v = true) ∧ (s.pcie.active = s.irqVectors)) ∧
    (∃ (s : State) (a : Nat) (val : Word), (s.rindActs) ∧ (s.wordOk a val = true) ∧ (irqConfig a = true)) ∧
    (∃ (s : State) (bm en fmask : Bool) (vecMask : Nat) (entries : List (Nat × Nat × Nat)), let table : Tab (Nat × Nat) := entries.foldl (fun t e => Tab.set (fun _ => (0, 0)) e.1 e.2 t) s.pcie.table; let go : List Nat := if en && bm && !fmask then (bitsOf 32 s.pcie.pba).filter fun v => !vecMask.testBit v else []; (s.rindActs) ∧ (s.pcie.ready = true)) ∧
    (∃ (s : State) , (s.rindActs)) ∧
    (∃ (s : State) (cells : List Bool) (seen : Nat), (s.rindActs)) ∧
    (∃ (s : State) (cells : List Bool) (seen : Nat), (s.rindActs)) ∧
    (∃ (s : State) , (s.rindActs)) ∧
    (∃ (s : State) (sel : Nat), (s.rindActs)) ∧
    (∃ (s : State) , (s.rindActs)) ∧
    (∃ (s : State) (code : Nat), (s.rindActs) ∧ (bypassCode code = true)) ∧
    (∃ (s : State) (a : Nat) (v : Option Word), (s.rindActs) ∧ (s.debugOpen = false)) ∧
    (∃ (s : State) (v : Word), (s.rindActs) ∧ (s.debugOpen = true)) ∧
    (∃ (s : State) , (s.rindActs) ∧ (s.debugOpen = true) ∧ (Tab.get (fun _ => none) s.acc.captured 0x708 = none)) :=
  ⟨⟨wSender, 35, by decide +kernel⟩,
   ⟨wMsix, 5, by decide +kernel⟩,
   ⟨{ wMsix with pcie := { wMsix.pcie with waitAck := 32 } }, 5, by decide +kernel⟩,
   ⟨wSender, 0x708, 32, by decide +kernel⟩,
   ⟨{ wMsix with pcie := { wMsix.pcie with pba := 5 } }, true, true, false, 0, [(0, 5, 6)], by decide +kernel⟩,
   ⟨wSender, by decide +kernel⟩,
   ⟨wSender, [true, false], 5, by decide +kernel⟩,
   ⟨wSender, [true, false], 5, by decide +kernel⟩,
   ⟨wSender, by decide +kernel⟩,
   ⟨wLog, 7, by decide +kernel⟩,
   ⟨{ wLog with jtag := { elogSel := 7 } }, by decide +kernel⟩,
   ⟨wSender, 0xFF, by decide +kernel⟩,
   ⟨{ wSender with nv := { wSender.nv with debugLocked := true } }, 0x708, some 5, by decide +kernel⟩,
   ⟨wSender, 5, by decide +kernel⟩,
   ⟨wMsix, by decide +kernel⟩⟩

theorem witness_HostAccess :
    (∃ (s : State) (a : Nat) (v : Word), (s.rindActs) ∧ (a % 4 ≠ 0 ∨ 0x8000000 ≤ a)) ∧
    (∃ (s : State) (a : Nat) (v : Word), (s.rindActs) ∧ (a % 4 = 0 ∧ a < 0x8000000 ∧ s.answersAt a = true) ∧ ((a < 0x80000 ∨ 0x140000 ≤ a)) ∧ ((regAt (s.regKey a)).any (fun r => v &&& ~~~ r.named != 0) = true)) ∧
    (∃ (s : State) (a : Nat) (v : Word), (s.rindActs) ∧ (a % 4 = 0 ∧ a < 0x8000000 ∧ s.answersAt a = false) ∧ (s.log.queue.length < 64)) ∧
    (∃ (s : State) (a : Nat) (v : Word), (s.rindActs) ∧ (a % 4 = 0 ∧ a < 0x8000000 ∧ s.answersAt a = true) ∧ ((a < 0x80000 ∨ 0x140000 ≤ a)) ∧ (regAt (s.regKey a) = none)) ∧
    (∃ (s : State) (a : Nat) (v : Word), (s.rindActs) ∧ (a % 4 = 0 ∧ 0x100000 ≤ a ∧ a < 0x140000) ∧ (s.isK24 = false)) ∧
    (∃ (s : State) (a : Nat) (v : Word), (s.rindActs) ∧ (a % 4 = 0 ∧ 0x80000 ≤ a ∧ a < 0x100000)) ∧
    (∃ (s : State) (a : Nat) (v : Word) (r : RegDef), (s.rindActs) ∧ (a % 4 = 0 ∧ s.answersAt a = true) ∧ (dieOf a = 7 ∧ (a < 0x7020000 ∨ a % 0x100 ≠ 8)) ∧ (regAt (s.regKey a) = some r ∧ v &&& ~~~ r.named = 0)) ∧
    (∃ (s : State) (a : Nat) (v : Word), (s.rindActs) ∧ (a % 4 = 0 ∧ a < 0x8000000 ∧ s.answersAt a = true) ∧ ((a < 0x80000 ∨ 0x140000 ≤ a)) ∧ ((regAt (s.regKey a)).any (fun r => v &&& ~~~ r.named == 0) = true)) ∧
    (∃ (s : State) (a : Nat), (s.rindActs) ∧ (a < 0x8000000 ∧ s.answersAt a = false) ∧ (s.log.queue.length < 64)) ∧
    (∃ (s : State) (a : Nat), (s.rindActs) ∧ (a < 0x8000000 ∧ s.answersAt a = false) ∧ (s.log.queue.length < 64)) ∧
    (∃ (s : State) (a : Nat) (v : Word), (s.acts) ∧ ((pairAt a).isSome = true) ∧ (s.wordOk a v = true)) ∧
    (∃ (s : State) (a : Nat) (v : Word), let lo : Word := (Tab.get (fun _ => none) s.acc.lowHeld (a - 4)).getD (s.pendWord (a - 4)); (s.acts) ∧ ((pairAt (a - 4)).isSome = true ∧ 4 ≤ a) ∧ (s.wordOk a v = true)) ∧
    (∃ (s : State) (a : Nat), let act : Bool := a % 0x80 == 0x44; let b : Nat := if act then a - 0x38 else a; (s.acts) ∧ ((pairAt b).isSome = true ∧ 0x38 ≤ a) ∧ (s.answersAt a = true)) :=
  ⟨⟨wSender, 6, 0, by decide +kernel⟩,
   ⟨wSender, 0x744, 0xFFFFFFFF, by decide +kernel⟩,
   ⟨withF [(F.RD_DIE_STATE_DIE_RUN, 1)] wSender, 0x7010000, 5, by decide +kernel⟩,
   ⟨wSender, 0x7FC, 5, by decide +kernel⟩,
   ⟨wSender, 0x100014, 5, by decide +kernel⟩,
   ⟨wSender, 0xC0010, 0x01020304, by decide +kernel⟩,
   ⟨wPress, atDIAG 0, F.PR_DIAG_CTRL_EN.into 0 1, (regAt (atDIAG 0)).getD ⟨"", 0, 0, 0, none, []⟩, by decide +kernel⟩,
   ⟨wSender, 0x708, 5, by decide +kernel⟩,
   ⟨withF [(F.RD_DIE_STATE_DIE_RUN, 1)] wSender, 0x7010000, by decide +kernel⟩,
   ⟨withF [(F.RD_DIE_STATE_DIE_RUN, 1)] wSender, 0x7010000, by decide +kernel⟩,
   ⟨wSender, atTGT 0 1 0x0C, 77, by decide +kernel⟩,
   ⟨{ wSender with acc := { wSender.acc with lowHeld := [(atTGT 0 1 0x0C, some 9)] } }, atTGT 0 1 0x10, 7, by decide +kernel⟩,
   ⟨wSender, atTGT 0 1 0x0C, by decide +kernel⟩⟩

theorem witness_DieLinksAndReset :
    (∃ (s : State) (a b : Nat), let k : Nat := 8 * min a b + max a b; (s.acts) ∧ (linkExists (min a b) (max a b) = true ∧ s.links.failed.contains k = false)) ∧
    (∃ (s : State) (a b : Nat), let lo : Nat := min a b; let hi : Nat := max a b; (s.acts) ∧ (linkExists lo hi = true ∧ s.links.failed.contains (8 * lo + hi) = false) ∧ (s.isSender = true) ∧ (s.log.queue.length < 64)) ∧
    (∃ (s : State) , True) ∧
    (∃ (s : State) (dark : Bool), True) ∧
    (∃ (s : State) , True) ∧
    (∃ (s : State) , True) ∧
    (∃ (s : State) , True) ∧
    (∃ (s : State) , (s.rindActs) ∧ (s.pcie.ready = true)) ∧
    (∃ (s : State) (recoveryN ramOk : Bool) (selfFail : Nat) (badLog : List Nat) (card : Card), (s.sys.railsBad = true ∨ s.sys.starting = false)) ∧
    (∃ (s : State) (recoveryN : Bool) (selfFail : Nat) (badLog : List Nat) (card : Card), (s.sys.railsBad = false ∧ s.sys.starting = true)) ∧
    (∃ (s : State) (badLog : List Nat) (card : Card) (f : FwImage), let b : Nat := s.nv.boot; (s.sys.railsBad = false ∧ s.sys.starting = true ∧ s.sys.warm = false) ∧ (s.nv.fell = none ∧ b < 2) ∧ ((s.nv.slot b).state = slConfirmed ∨ (s.nv.slot b).state = slOld) ∧ ((s.nv.slot b).fw = some f ∧ s.nv.fwCheck (rolesFor (s.nv.slot b).mould) f = 0)) :=
  ⟨⟨wSender, 0, 5, by decide +kernel⟩,
   ⟨wImg, 1, 5, by decide +kernel⟩,
   ⟨wLog, by decide +kernel⟩,
   ⟨wLog, true, by decide +kernel⟩,
   ⟨{ wSender with sys := { wSender.sys with railsBad := true } }, by decide +kernel⟩,
   ⟨{ wSender with sys := { wSender.sys with perstLow := true } }, by decide +kernel⟩,
   ⟨wMsix, by decide +kernel⟩,
   ⟨wMsix, by decide +kernel⟩,
   ⟨{ wSender with sys := { wSender.sys with railsBad := true } }, true, true, 0, [], {}, by decide +kernel⟩,
   ⟨base mS, true, 0, [], {}, by decide +kernel⟩,
   ⟨base mS, [], {}, fw1, ⟨⟨by decide +kernel, by decide +kernel, by decide +kernel⟩, ⟨by decide +kernel, by decide +kernel⟩, by decide +kernel, ⟨rfl, by decide +kernel⟩⟩⟩⟩

theorem witness_MouldLoading :
    (∃ (s : State) (us : Nat) (sectFail : List (Nat × Nat × Nat)) (chanFail trimFail : List Nat) (card : Card) (m : MouldImage), (s.acts) ∧ (s.get F.RD_BOOT_STATUS_STAGE = 5 ∧ s.on F.RD_MOULD_STATUS_VALID = false) ∧ (s.mould.carry = none ∧ (s.nv.slot s.runSlot).mould = some m) ∧ (mouldSourceError sectFail chanFail 1 (some m) s.fresh = 0) ∧ (s.nv.records = [])) ∧
    (∃ (s : State) (us : Nat) (sectFail : List (Nat × Nat × Nat)) (chanFail trimFail : List Nat) (card : Card), (s.acts) ∧ (s.get F.RD_BOOT_STATUS_STAGE = 5 ∧ s.on F.RD_MOULD_STATUS_VALID = false) ∧ (s.mould.carry = none ∧ s.nv.slotA.mould = none ∧ s.nv.slotB.mould = none ∧ card.present = false)) ∧
    (∃ (s : State) , (s.acts) ∧ (s.rmState ≠ 1 ∧ s.rmState ≠ 3 ∧ s.rmState ≠ 4)) ∧
    (∃ (s : State) , let e : Nat := s.verifyError; (s.acts) ∧ (s.rmState = 1)) ∧
    (∃ (s : State) (m : MouldImage), let e : Nat := if s.isSender ∧ ahead (s.get F.RD_REMOULD_FNUM_FNUM) s.raster.fnum < (s.minLead : Int) then 15 else s.armError m; (s.acts) ∧ (s.mould.staged = some m ∧ s.mould.verified = true) ∧ (s.addsDies m = false) ∧ (s.rmState ≠ 1 ∧ s.rmState ≠ 3 ∧ s.rmState ≠ 4)) ∧
    (∃ (s : State) (m : MouldImage), (s.acts) ∧ (s.mould.staged = some m ∧ s.mould.verified = true) ∧ (s.addsDies m = true) ∧ (s.rmState ≠ 1 ∧ s.rmState ≠ 3 ∧ s.rmState ≠ 4) ∧ (s.isSender = false ∨ (s.minLead : Int) ≤ ahead (s.get F.RD_REMOULD_FNUM_FNUM) s.raster.fnum) ∧ (s.armError m = 0)) ∧
    (∃ (s : State) , (s.acts) ∧ (s.rmState = 3 ∧ s.isSender = true ∧ s.senderEnd ≠ 3 ∧ s.mould.partnerOk = false) ∧ (∀ o ∈ s.mould.loaded.toList, s.get F.RD_DIE_STATE_DIE_ON = (o.hdr.dieUse ||| 1))) ∧
    (∃ (s : State) , (s.acts) ∧ (s.rmState = 1 ∨ s.rmState = 2 ∨ s.rmState = 3) ∧ (∀ o ∈ s.mould.loaded.toList, s.get F.RD_DIE_STATE_DIE_ON = (o.hdr.dieUse ||| 1))) ∧
    (∃ (s : State) (o : MouldImage), (s.acts) ∧ (s.rmState = 2 ∨ s.rmState = 3) ∧ (s.mould.loaded = some o ∧ s.get F.RD_DIE_STATE_DIE_ON ≠ (o.hdr.dieUse ||| 1))) ∧
    (∃ (s : State) (m : MouldImage), let e : Nat := if s.armError m ≠ 0 then s.armError m else if s.senderEnd ≠ 3 ∧ s.mould.partnerOk = false then 14 else 0; (s.acts) ∧ (s.mould.staged = some m ∧ s.rmState = 3 ∧ s.leads = true) ∧ (ahead (s.get F.RD_REMOULD_FNUM_FNUM) s.raster.fnum = 2) ∧ (s.portsInUse.Nodup) ∧ (∀ p ∈ s.portsInUse, (s.port p).bcast = none) ∧ (e = 0 ∨ ∀ o ∈ s.mould.loaded.toList, s.get F.RD_DIE_STATE_DIE_ON = (o.hdr.dieUse ||| 1))) ∧
    (∃ (s : State) , (s.acts) ∧ (s.rmState = 3 ∧ ahead (s.get F.RD_REMOULD_FNUM_FNUM) s.raster.fnum ≤ 0) ∧ (s.mould.goFor = none ∧ s.mould.partnerGo = false) ∧ (∀ o ∈ s.mould.loaded.toList, s.get F.RD_DIE_STATE_DIE_ON = (o.hdr.dieUse ||| 1))) ∧
    (∃ (s : State) (m old : MouldImage), (s.acts) ∧ (s.switchDue = some m ∧ s.mould.loaded = some old) ∧ (m.hdr.role = s.role)) ∧
    (∃ (s : State) (m : MouldImage), (s.acts) ∧ (s.switchDue = some m) ∧ (m.hdr.role ≠ s.role)) :=
  ⟨⟨wBoot mS, 5000, [], [], [], {}, mS, ⟨by decide +kernel, ⟨by decide +kernel, by decide +kernel⟩, ⟨by decide +kernel, rfl⟩, by decide +kernel, by decide +kernel⟩⟩,
   ⟨{ wBoot mS with nv := {} }, 5000, [], [], [], {}, by decide +kernel⟩,
   ⟨wRm 0, by decide +kernel⟩,
   ⟨wRm 1, by decide +kernel⟩,
   ⟨wRm 2, mS, ⟨by decide +kernel, ⟨rfl, by decide +kernel⟩, by decide +kernel, ⟨by decide +kernel, by decide +kernel, by decide +kernel⟩⟩⟩,
   ⟨withF [(F.RD_DIE_STATE_DIE_ON, 3)] (wRm 2), mS, ⟨by decide +kernel, ⟨rfl, by decide +kernel⟩, by decide +kernel, ⟨by decide +kernel, by decide +kernel, by decide +kernel⟩, by decide +kernel, by decide +kernel⟩⟩,
   ⟨withF [(F.RD_DIE_STATE_DIE_ON, 0x23), (F.RD_MOULD_INFO_SENDER_END, 1)] (wRm 3), by decide +kernel⟩,
   ⟨withF [(F.RD_DIE_STATE_DIE_ON, 0x23)] (wRm 3), by decide +kernel⟩,
   ⟨wRm 3, mS, ⟨by decide +kernel, by decide +kernel, ⟨rfl, by decide +kernel⟩⟩⟩,
   ⟨withF [(F.RD_REMOULD_FNUM_FNUM, 102)] (wRm 3), mS, ⟨by decide +kernel, ⟨rfl, by decide +kernel, by decide +kernel⟩, by decide +kernel, by decide +kernel, by decide +kernel, by decide +kernel⟩⟩,
   ⟨withF [(F.RD_DIE_STATE_DIE_ON, 0x23), (F.RD_REMOULD_FNUM_FNUM, 100)] (wRm 3), by decide +kernel⟩,
   ⟨{ withF [(F.RD_REMOULD_FNUM_FNUM, 100)] (wRm 4) with mould := { (wRm 4).mould with staged := some (mN 1), loaded := some (mN 1) } }, mN 1, mN 1, by decide +kernel⟩,
   ⟨{ withF [(F.RD_REMOULD_FNUM_FNUM, 100)] (wRm 4) with mould := { (wRm 4).mould with staged := some (mN 2) } }, mN 2, by decide +kernel⟩⟩


end Sys2Proof.Tests
end

section
/-!
PROOFS. Chapter 00: what a step can end in (a settled next state, or a fault that R5 or R9 names), the interrupt outputs, the access types of R10,
the register tables, and the reset values.
-/

namespace Sys2Proof.Machine

open Sys2Proof

/-! ### What a command can end in -/

/-- The command ends in a next state, and settling the interrupt outputs was the last thing it did. -/
def Completes (o : Host.Outcome State Fault Refusal) : Prop := ∃ u, o = .next (settle u)

/-- One of the two uses that the model stops at: R5's and R9's. -/
def Fault.known (e : Fault) : Prop := e = .unpredictable 5 ∨ e = .unpredictable 9

/-- The command completes or stops with a known fault. -/
def CompletesOrFaults (o : Host.Outcome State Fault Refusal) : Prop := Completes o ∨ ∃ e : Fault, e.known ∧ o = .fault e

/-- An operation that may be unpredictable stops with known faults only. -/
def KnownFaults {α : Type} (x : Except Fault α) : Prop := ∀ e, x = .error e → e.known

theorem Fault.known_five : (Fault.unpredictable 5).known := .inl rfl
theorem Fault.known_nine : (Fault.unpredictable 9).known := .inr rfl

theorem KnownFaults.ok {α : Type} (a : α) : KnownFaults (.ok a) := nofun

theorem KnownFaults.error {α : Type} {e : Fault} (h : e.known) : KnownFaults (.error e : Except Fault α) := by
  rintro _ ⟨⟩; exact h

theorem Completes.completesOrFaults {o : Host.Outcome State Fault Refusal} (h : Completes o) : CompletesOrFaults o := .inl h

theorem runF_completesOrFaults {f : State → Except Fault State} {s : State} (h : KnownFaults (f s.fresh)) : CompletesOrFaults (runF f s) := by
  unfold runF
  split
  · exact .inl ⟨_, rfl⟩
  · split
    · exact .inl ⟨_, rfl⟩
    · next e he => exact .inr ⟨e, h e he, rfl⟩

theorem runRindF_completesOrFaults {f : State → Except Fault State} {s : State} (h : KnownFaults (f s.fresh)) :
    CompletesOrFaults (runRindF f s) := by
  unfold runRindF
  split
  · exact .inl ⟨_, rfl⟩
  · split
    · exact .inl ⟨_, rfl⟩
    · next e he => exact .inr ⟨e, h e he, rfl⟩

/-! ### The faults of the checked accesses -/

section
variable {f : State → Except Fault State} (s : State)

theorem onlyE_knownFaults (b : Bool) (h : KnownFaults (f s)) : KnownFaults (onlyE b f s) := by
  unfold onlyE
  split
  · exact h
  · exact .ok _

theorem onPortE_knownFaults (p : Nat) (h : KnownFaults (f s)) : KnownFaults (onPortE p f s) := by
  unfold onPortE
  split
  · exact h
  · exact .ok _

theorem receiveE_knownFaults (p : Nat) (k : Pkt) (w : PktEnd) (h : KnownFaults (f s)) : KnownFaults (receiveE p k w f s) := by
  unfold receiveE
  split
  · exact .ok _
  · split
    · exact h
    · exact .ok _

theorem execOnceE_knownFaults (p : Nat) (k : Pkt) (result : Nat) (h : ∀ t, KnownFaults (f t)) : KnownFaults (execOnceE p k result f s) := by
  unfold execOnceE
  split
  · exact .ok _
  · split
    · exact .ok _
    · extract_lets t finish
      split
      · exact .ok _
      · split
        · exact .ok _
        · next e he => exact .error (h t e he)

/-- A legacy command packet faults only where what it hands on does. -/
theorem k24Cmd_knownFaults {g : Nat → List Nat → State → Except Fault State} (op : Nat) (bytes : List Nat) (viol all : Bool)
    (h : ∀ a d t, KnownFaults (g a d t)) : KnownFaults (k24Cmd op bytes viol all g s) := by
  unfold k24Cmd
  split
  · exact .ok _
  · extract_lets t b data
    split
    · exact .ok _
    · split
      · exact .ok _
      · exact h _ _ _

end

theorem withWord_knownFaults (a : Nat) (v : Word) (f : State → State) (s : State) : KnownFaults (withWord a v f s) := by
  unfold withWord
  split
  · exact .ok _
  · split
    · exact .ok _
    · split
      · exact .error Fault.known_nine
      · exact .ok _

theorem k24Write_knownFaults (a v : Nat) (s : State) : KnownFaults (k24Write a v s) := by
  unfold k24Write
  split
  · exact .ok _
  · split
    · exact .ok _
    · split
      · exact .error Fault.known_nine
      · exact .ok _

theorem hostWrite_knownFaults (a : Nat) (v : Word) (s : State) : KnownFaults (hostWrite a v s) := by
  unfold hostWrite
  split
  · exact .error Fault.known_five
  split
  · exact .ok _
  split
  · exact .ok _
  split
  · exact .ok _
  split
  · split
    · exact .ok _
    · split
      · exact .error Fault.known_nine
      · exact k24Write_knownFaults _ _ s
  · split
    · exact .ok _
    · split
      · exact .error Fault.known_nine
      · exact .ok _

/-- A read is unpredictable at another alignment only: every other branch of `readReg` returns a word. -/
theorem readReg_knownFaults (a : Nat) (s : State) : KnownFaults (readReg a s) := by
  intro e he
  unfold readReg at he
  split at he
  · cases he; exact Fault.known_five
  · repeat' split at he
    all_goals cases he

theorem opDbg_knownFaults (a : Nat) (val : Option Word) (s : State) : KnownFaults (opDbg a val s) := by
  unfold opDbg
  extract_lets t
  split
  · exact .ok _
  · cases val with
    | some v => exact hostWrite_knownFaults a v t
    | none =>
      dsimp only
      split
      · exact .ok _
      · next e he => exact .error (readReg_knownFaults a t e he)

theorem writeAll_knownFaults (l : List (Nat × Word)) (s : State) : KnownFaults (writeAll l s) := by
  induction l generalizing s with
  | nil => exact .ok _
  | cons e l ih =>
    unfold writeAll
    split
    · exact ih _
    · next e he => exact .error (hostWrite_knownFaults _ _ s e he)

theorem readAll_knownFaults (l : List Nat) (s : State) : KnownFaults (readAll l s) := by
  induction l generalizing s with
  | nil => exact .ok _
  | cons a l ih =>
    unfold readAll
    split
    · next e he => exact .error (readReg_knownFaults a s e he)
    · split
      · exact .ok _
      · next e he => exact .error (ih _ e he)

theorem applySettings_knownFaults (l : List (Nat × Word)) (s : State) : KnownFaults (applySettings l s) := by
  induction l generalizing s with
  | nil => exact .ok _
  | cons e l ih =>
    unfold applySettings
    split
    · exact ih _
    · next e he => exact .error (hostWrite_knownFaults _ _ s e he)

theorem opRegWr_knownFaults (p : Nat) (k : Pkt) (s : State) : KnownFaults (opRegWr p k s) := by
  unfold opRegWr
  split
  · split
    · exact execOnceE_knownFaults s p k 0 (writeAll_knownFaults _)
    · exact .ok _
  · exact .ok _

theorem opRegRd_knownFaults (p : Nat) (k : Pkt) (s : State) : KnownFaults (opRegRd p k s) := by
  unfold opRegRd
  split
  · exact .ok _
  · split
    · split
      · next e he => exact .error (readAll_knownFaults _ s e he)
      · exact .ok _
    · split
      · exact .ok _
      · exact execOnceE_knownFaults s p k 0 fun t => .ok t

theorem opMouldLoad_knownFaults (us : Nat) (sectFail : List (Nat × Nat × Nat)) (chanFail trimFail : List Nat) (card : Card) (s : State) :
    KnownFaults (opMouldLoad us sectFail chanFail trimFail card s) := by
  unfold opMouldLoad
  split
  · exact .ok _
  · extract_lets t
    split
    · exact applySettings_knownFaults _ _
    · exact .ok _

theorem opK24Write_knownFaults (bytes : List Nat) (viol : Bool) (s : State) : KnownFaults (opK24Write bytes viol s) := by
  refine k24Cmd_knownFaults s 1 bytes viol true fun a d t => ?_
  split
  · exact k24Write_knownFaults a _ t
  · exact .ok _

theorem opK24Read_knownFaults (bytes : List Nat) (viol : Bool) (s : State) : KnownFaults (opK24Read bytes viol s) := by
  refine k24Cmd_knownFaults s 2 bytes viol false fun a d t => ?_
  split
  · exact .ok _
  · exact .ok _

theorem opK24Block_knownFaults (bytes : List Nat) (viol : Bool) (s : State) : KnownFaults (opK24Block bytes viol s) :=
  k24Cmd_knownFaults s 3 bytes viol true fun _ _ _ => .ok _

/-! ### Every command -/

/-- The meaning of an unchecked command is a `run`, `runHeld`, `runRind` or `runAlways` of some effect: by definition each is the next state
that settling leaves, whatever the effect does. -/
theorem exec_completes (c : Instr) (s : State) (hc : c.checked = false) : Completes (exec c s) := by
  cases c <;> cases hc <;> exact ⟨_, rfl⟩

/-- A register command of the host, at a unit that the part has. -/
theorem runRindF_only_withWord (b : Bool) (a : Nat) (v : Word) (f : State → State) (s : State) :
    CompletesOrFaults (runRindF (onlyE b (withWord a v f)) s) :=
  runRindF_completesOrFaults (onlyE_knownFaults _ b (withWord_knownFaults a v f _))

theorem runRindF_withWord (a : Nat) (v : Word) (f : State → State) (s : State) : CompletesOrFaults (runRindF (withWord a v f) s) :=
  runRindF_completesOrFaults (withWord_knownFaults a v f _)

theorem exec_checked (c : Instr) (s : State) (hc : c.checked = true) : CompletesOrFaults (exec c s) := by
  cases c <;> cases hc
  case registerWrite a v => exact runRindF_completesOrFaults (hostWrite_knownFaults a v _)
  case dbgAccess a v => exact runRindF_completesOrFaults (opDbg_knownFaults a v _)
  case mouldLoad us sectFail chanFail trimFail card =>
    exact runF_completesOrFaults (opMouldLoad_knownFaults us sectFail chanFail trimFail card _)
  case k24Write => exact runF_completesOrFaults (opK24Write_knownFaults _ _ _)
  case k24Read => exact runF_completesOrFaults (opK24Read_knownFaults _ _ _)
  case k24Block => exact runF_completesOrFaults (opK24Block_knownFaults _ _ _)
  case regWr p _ _ _ _ w =>
    exact runF_completesOrFaults (onPortE_knownFaults _ p (receiveE_knownFaults _ p _ w (opRegWr_knownFaults p _ _)))
  case regRd p _ _ _ _ w =>
    exact runF_completesOrFaults (onPortE_knownFaults _ p (receiveE_knownFaults _ p _ w (opRegRd_knownFaults p _ _)))
  case thLimitWrite | distStart | distAbort | laneTxWrite | laneRxmanWrite | testEnWrite | eyeScanStart | ctrlTxCmd | wheelBankWrite |
      triggerArm | crcData | crcConfigWrite | tsetWrite =>
    exact runRindF_only_withWord ..
  case thClr | elogSelWrite | irqAck | irqConfigWrite | pixelPairLowWrite | pixelPairHighWrite | foKick | ptpIncWrite | ptpAdj | mdioCmd |
      commitHoldWrite =>
    exact runRindF_withWord ..

/-- What any command can end in. -/
theorem exec_completesOrFaults (c : Instr) (s : State) : CompletesOrFaults (exec c s) := by
  cases hc : c.checked
  · exact (exec_completes c s hc).completesOrFaults
  · exact exec_checked c s hc

/-- Every next state has its interrupt outputs settled. -/
theorem exec_follow {c : Instr} {s t : State} (h : exec c s = .next t) : IrqFollow t := by
  obtain ⟨u, hu⟩ | ⟨e, -, he⟩ := exec_completesOrFaults c s
  · rw [hu] at h
    cases h
    exact settle_follow u
  · rw [he] at h
    cases h

/-- Settles O41: a step runs a command, which ends in settling the outputs, or leaves the state as it is. -/
theorem interruptOutputsFollow : Obligations.InterruptOutputsFollow := by
  intro s t hs h
  unfold step at h
  split at h
  · cases h; exact hs
  · exact exec_follow h

/-- Settles O45. -/
theorem faultsKnown : Obligations.FaultsKnown := by
  intro c s e h
  obtain ⟨u, hu⟩ | ⟨d, hd, hf⟩ := exec_completesOrFaults c s
  · rw [hu] at h
    cases h
  · rw [hf] at h
    cases h
    exact hd

theorem exec_ne_refused (c : Instr) (s : State) (r : Refusal) : exec c s ≠ .refused r := by
  intro h
  obtain ⟨u, hu⟩ | ⟨d, -, hf⟩ := exec_completesOrFaults c s
  · rw [hu] at h
    cases h
  · rw [hf] at h
    cases h

theorem exec_next_of_unchecked (c : Instr) (s : State) (hc : c.checked = false) : ∃ t, exec c s = .next t :=
  have ⟨u, hu⟩ := exec_completes c s hc
  ⟨settle u, hu⟩

/-- A list of unchecked commands, each of which answers a next state. -/
theorem exec_next_of_all_unchecked (s : State) {l : List Instr} (hl : l.all (fun c => !c.checked) = true) : ∀ c ∈ l, ∃ t, exec c s = .next t :=
  fun c hc => exec_next_of_unchecked c s (by simpa using List.all_eq_true.mp hl c hc)

/-- Settles O44. -/
theorem noCommandRefused : Obligations.NoCommandRefused :=
  ⟨exec_ne_refused, exec_next_of_unchecked, fun s _ _ _ _ _ _ _ _ => exec_next_of_all_unchecked s rfl,
    fun s _ _ _ _ _ _ _ _ _ _ _ _ _ _ _ _ _ => exec_next_of_all_unchecked s rfl⟩

/-! ### A write outside BAR0 -/

/-- An aligned write above the 128 MiB of BAR0 is discarded: the model carries it out as a command without an effect, and stops with no fault. -/
theorem exec_registerWrite_above (s : State) {a : Nat} (v : Word) (h4 : a % 4 = 0) (ha : 0x8000000 ≤ a) :
    exec (.registerWrite a v) s = .next (settle s.fresh) := by
  have hw : hostWrite a v s.fresh = .ok s.fresh := by simp [hostWrite, h4, ha]
  rw [exec_registerWrite]
  unfold execRegisterWrite runRindF
  rw [hw]
  split <;> rfl

/-- Refutes O37: a write of 0 at 0x8000000, the first offset outside BAR0, is aligned; after reset it is discarded and is no fault of R5's. -/
theorem not_hostAccess : ¬ Obligations.HostAccess := by
  rintro ⟨outside, -⟩
  have hfault := outside State.reset 0x8000000 0 (by decide +kernel) (.inr le_rfl)
  rw [exec_registerWrite_above _ _ rfl le_rfl] at hfault
  cases hfault

/-! ### The access types of a plain write (R10) -/

section
variable (k : Nat) (r : RegDef) (v : Word) (s : State)

theorem plainWrite_rd_same : (plainWrite k r v s).rd k = ((s.rd k &&& ~~~ r.rwBits) ||| (v &&& r.rwBits)) &&& ~~~ (v &&& r.w1cBits) := by
  unfold plainWrite
  extract_lets w t
  split <;> exact State.rd_wr_same ..

theorem plainWrite_rd_ne {a : Nat} (h : a ≠ k) : (plainWrite k r v s).rd a = s.rd a := by
  unfold plainWrite
  extract_lets w t
  split <;> exact State.rd_wr_ne s _ h

theorem plainWrite_pend (h : r.rwsBits = 0) : (plainWrite k r v s).pend = s.pend := by
  unfold plainWrite
  extract_lets w t
  rw [if_pos h]
  rfl

/-- The value in force is the last that a read of an RWS field falls back to. -/
theorem State.pendWord_wr_ne {a b : Nat} (w : Word) (h : b ≠ a) : (s.wr a w).pendWord b = s.pendWord b := by
  unfold State.pendWord
  rw [State.rd_wr_ne s w h]
  rfl

theorem plainWrite_pendWord_ne {a : Nat} (h : a ≠ k) : (plainWrite k r v s).pendWord a = s.pendWord a := by
  unfold plainWrite
  extract_lets w t
  split
  · exact State.pendWord_wr_ne s _ h
  · rw [State.pendWord_setPend_ne _ _ h]
    exact State.pendWord_wr_ne s _ h

theorem plainWrite_pendWord_same : (plainWrite k r v s).pendWord k &&& r.rwsBits = v &&& r.rwsBits := by
  unfold plainWrite
  extract_lets w t
  split
  · next h => simp [h]
  · rw [State.pendWord_setPend_same]
    ext i
    by_cases h : r.rwsBits[i] <;> simp [h]

/-- Bit `i` in force after a plain write, by its access type. -/
theorem plainWrite_bit (hd : r.rwBits &&& r.w1cBits = 0) (i : Nat) :
    ((plainWrite k r v s).rd k).getLsbD i =
      if r.rwBits.getLsbD i then v.getLsbD i else ((s.rd k).getLsbD i && !(r.w1cBits.getLsbD i && v.getLsbD i)) := by
  have hi : (r.rwBits.getLsbD i && r.w1cBits.getLsbD i) = false := by
    rw [← BitVec.getLsbD_and, hd]
    exact BitVec.getLsbD_zero
  rw [plainWrite_rd_same]
  simp only [BitVec.getLsbD_and, BitVec.getLsbD_or, BitVec.getLsbD_not]
  by_cases hlt : i < 32
  · cases hrw : r.rwBits.getLsbD i
    · simp [hlt, Bool.and_comm]
    · have hw1c : r.w1cBits.getLsbD i = false := by simpa [hrw] using hi
      simp only [hw1c, hlt, decide_true, Bool.not_true, Bool.not_false, Bool.and_false, Bool.and_true, Bool.false_or, if_true]
  · simp [BitVec.getLsbD_of_ge _ i (Nat.le_of_not_lt hlt)]

end

/-- Settles O56. -/
theorem accessTypes : Obligations.AccessTypes := fun k r v s hd =>
  ⟨plainWrite_bit k r v s hd, plainWrite_pendWord_same k r v s, plainWrite_pend k r v s,
    fun _ ha => ⟨plainWrite_rd_ne k r v s ha, plainWrite_pendWord_ne k r v s ha⟩⟩

/-! ### Register tables and reset values -/

/-- Settles O57. -/
theorem fieldsApart : Obligations.FieldsApart := by
  unfold Obligations.FieldsApart
  decide +kernel

/-- After reset no cause is both pending and enabled: RD_IRQ_PEND resets to 0. -/
theorem reset_irqLive : State.reset.irqLive = 0 := by decide +kernel

/-- RD_IRQ_MAP gives cause c vector c modulo 32 (R573). -/
theorem reset_irqVector : ∀ k, k < 37 → State.reset.irqVector k = k % 32 := by decide +kernel

theorem State.irqVectors_of_none_live {s : State} (h : s.irqLive = 0) : s.irqVectors = 0 := by
  have hbits : bitsOf 37 0 = [] := by decide
  unfold State.irqVectors
  rw [h, hbits]
  rfl

/-- Settles O42: IRQ_N and RD_IRQ_ACTIVE reset to what no live cause gives. -/
theorem interruptOutputsAtReset : Obligations.InterruptOutputsAtReset := by
  constructor
  · rw [reset_irqLive]
    rfl
  · exact (State.irqVectors_of_none_live reset_irqLive).symm

/-- Settles O60. -/
theorem resetValues : Obligations.ResetValues := by
  refine ⟨reset_irqVector, ?_, ?_, ?_, ?_, reset_irqLive, ?_, rfl, rfl⟩ <;> decide +kernel

end Sys2Proof.Machine
end

section
/-!
PROOFS. Chapters 01, 03, 22 and 23: the die links, RESET_N and the rails, the start up to the firmware's run, PERST_N and FLR (R24 to R26, R71 to R75,
R507, R566, R586, R587).
-/

namespace Sys2Proof.Machine

open Sys2Proof

/-! ### What an operation writes of the registers -/

/-- `t` is `s` but for registers in force, and of those every field apart from the fields of `l` holds what it held. -/
def Writes (l : List Fld) (s t : State) : Prop := (∃ r, t = { s with regs := r }) ∧ Keeps l s t

section
variable {l m : List Fld} {s t u v : State}

theorem Writes.refl (l : List Fld) (s : State) : Writes l s s := ⟨⟨s.regs, rfl⟩, .refl l s⟩

theorem Writes.trans (h : Writes l s t) (k : Writes l t u) : Writes l s u := by
  obtain ⟨⟨_, rfl⟩, hk⟩ := h
  obtain ⟨⟨r, rfl⟩, kk⟩ := k
  exact ⟨⟨r, rfl⟩, hk.trans kk⟩

theorem Writes.mono (h : Writes l s t) (hm : l ⊆ m) : Writes m s t := ⟨h.1, h.2.mono fun _ hg => hm hg⟩

theorem Writes.put (h : Writes l s t) {f : Fld} (hf : f ∈ l) (v : Nat) : Writes l s (t.put f v) := by
  obtain ⟨⟨_, rfl⟩, hk⟩ := h
  exact ⟨⟨_, rfl⟩, hk.put f v hf⟩

theorem Writes.wr (h : Writes l s t) {a : Nat} (ha : whole a ∈ l) (w : Word) : Writes l s (t.wr a w) := by
  obtain ⟨⟨_, rfl⟩, hk⟩ := h
  exact ⟨⟨_, rfl⟩, hk.wr a w ha⟩

theorem Writes.each {α : Type} {f : α → State → State} : ∀ (L : List α) (s : State), (∀ a ∈ L, ∀ t, Writes l t (f a t)) → Writes l s (s.each L f)
  | [], s, _ => .refl l s
  | a :: L, s, h => (h a List.mem_cons_self s).trans (Writes.each L (f a s) fun b hb => h b (List.mem_cons_of_mem a hb))

theorem State.get_of_regs (h : t.regs = s.regs) (f : Fld) : t.get f = s.get f := by
  unfold State.get State.rd
  rw [h]

/-- What writes registers writes the same registers beside a change of other records. -/
theorem Writes.map (h : Writes l s t) (F : State → State) (hF : ∀ s r, F { s with regs := r } = { F s with regs := r }) : Writes l (F s) (F t) := by
  have hregs : ∀ s : State, (F s).regs = s.regs := fun s => (congrArg State.regs (hF s s.regs) :)
  obtain ⟨⟨r, rfl⟩, hk⟩ := h
  exact ⟨⟨r, hF s r⟩, fun f hf => (State.get_of_regs (hregs _) f).trans ((hk f hf).trans (State.get_of_regs (hregs s) f).symm)⟩

theorem Writes.get (h : Writes l s t) {f : Fld} (hf : ∀ g ∈ l, g.sep f = true) : t.get f = s.get f := h.2 f hf

theorem Frame.mono {u : State} (h : Frame l s u t) (hm : l ⊆ m) : Frame m s u t := ⟨h.1.mono fun _ hg => hm hg, h.2⟩

/-- A record that is no register is as it was. -/
theorem Writes.same {α : Type} (h : Writes l s t) (F : State → α) (hF : ∀ s r, F { s with regs := r } = F s) : F t = F s := by
  obtain ⟨⟨r, rfl⟩, -⟩ := h
  exact hF s r

/-- The frame of a command whose effect changes other records and then writes registers. -/
theorem Writes.frame (h : Writes l v t) (hr : v.regs = s.regs) (hk : v.kept = u.kept) : Frame l s u (settle t) := by
  obtain ⟨⟨r, rfl⟩, k⟩ := h
  exact ⟨fun f hf => (k f hf).trans (State.get_of_regs hr f), hk⟩

end

/-- A step of `each` that brings about what no later step undoes. -/
theorem State.each_establishes {α : Type} {P : α → State → Prop} {f : α → State → State} (hf : ∀ b s, P b (f b s))
    (hk : ∀ a b s, a ≠ b → P a s → P a (f b s)) {a : α} : ∀ (L : List α) (s : State), (a ∈ L ∨ P a s) → P a (s.each L f)
  | [], _, h => h.resolve_left List.not_mem_nil
  | b :: L, s, h => by
    refine State.each_establishes hf hk L (f b s) ?_
    by_cases hab : a = b
    · exact .inr (hab ▸ hf a s)
    · exact (h.imp_left fun ha => (List.mem_cons.mp ha).resolve_left hab).imp_right (hk a b s hab)

theorem Fld.sep_of_addr_ne {f g : Fld} (h : f.addr ≠ g.addr) : f.sep g = true := by simp [Fld.sep, h]

/-- Fields of the Rind die's registers are apart from those of every other die's. -/
theorem Fld.sep_of_rind {f g : Fld} (hf : f.addr < 0x1000000) (hg : 0x1000000 ≤ g.addr) : f.sep g = true :=
  Fld.sep_of_addr_ne (Nat.ne_of_lt (Nat.lt_of_lt_of_le hf hg))

/-! ### Bitmaps -/

theorem setBit_testBit (m i j : Nat) : (setBit m i).testBit j = (m.testBit j || decide (i = j)) := by
  unfold setBit
  rw [Nat.testBit_or, Nat.testBit_two_pow]

theorem maskOfBits_testBit (l : List Nat) (i : Nat) : (maskOfBits l).testBit i = decide (i ∈ l) := by
  have go : ∀ (l : List Nat) (m : Nat), (l.foldl setBit m).testBit i = (m.testBit i || decide (i ∈ l)) := by
    intro l
    induction l with
    | nil => simp
    | cons a l ih => intro m; simp [ih, setBit_testBit, Bool.or_assoc, eq_comm]
  exact (go l 0).trans (by simp)

/-! ### Die links (R24 to R26) -/

section
variable {a b : Nat} {s t : State}

/-- The dies of a link are numbered below 8. -/
theorem linkExists_lt (h : linkExists a b = true) : a < 8 ∧ b < 8 := by
  simp only [linkExists, Bool.and_eq_true, decide_eq_true_eq] at h
  omega

theorem opLinkReplay_of_link (hl : linkExists (min a b) (max a b) = true) (hf : s.links.failed.contains (8 * min a b + max a b) = false) :
    opLinkReplay a b s = { s with links := { s.links with
      replays := Tab.set (fun _ => 0) (8 * min a b + max a b) (Tab.get (fun _ => 0) s.links.replays (8 * min a b + max a b) + 1) s.links.replays } } := by
  simp only [opLinkReplay, hl, hf, Bool.not_false, Bool.and_true, if_true]

theorem State.logEv_of_room (sev die code a0 a1 : Nat) (h : s.log.queue.length < 64) :
    s.logEv sev die code a0 a1 = { s with log := (s.logEv sev die code a0 a1).log } := by
  simp only [State.logEv, h, if_true]

/-- Both dies of a failed link are shown in LINK_FAIL, and the link is among the failed ones. -/
def linkFailShown (a b : Nat) (s : State) : State :=
  let s := s.put F.RD_DIE_STATE_LINK_FAIL (setBit (setBit (s.get F.RD_DIE_STATE_LINK_FAIL) a) b)
  { s with links := { s.links with failed := (8 * a + b) :: s.links.failed } }

/-- The chain ports are judged again (R26). -/
def portsJudged (s : State) : State := { s with links := { s.links with hbStopped := s.cutPorts } }

theorem linkFailShown_writes (a b : Nat) (s : State) :
    Writes [F.RD_DIE_STATE_LINK_FAIL] { s with links := { s.links with failed := (8 * a + b) :: s.links.failed } } (linkFailShown a b s) :=
  ((Writes.refl _ s).put List.mem_cons_self _).map (fun s => { s with links := { s.links with failed := (8 * a + b) :: s.links.failed } }) fun _ _ => rfl

theorem linkFailShown_get (a b : Nat) (s : State) {f : Fld} (h : F.RD_DIE_STATE_LINK_FAIL.sep f = true) : (linkFailShown a b s).get f = s.get f :=
  (linkFailShown_writes a b s).get (by simpa using h)

theorem linkFailShown_testBit (s : State) {d : Nat} (hd : d < 8) (h : d = a ∨ d = b) :
    ((linkFailShown a b s).get F.RD_DIE_STATE_LINK_FAIL).testBit d = true := by
  have hput : (linkFailShown a b s).get F.RD_DIE_STATE_LINK_FAIL = setBit (setBit (s.get F.RD_DIE_STATE_LINK_FAIL) a) b % 2 ^ 8 :=
    State.get_put_same s _ _ (by decide)
  rw [hput, Nat.testBit_mod_two_pow, setBit_testBit, setBit_testBit]
  rcases h with rfl | rfl <;> simp [hd]

theorem linkFailShown_role (a b : Nat) (s : State) : (linkFailShown a b s).role = s.role := linkFailShown_get a b s (by decide)

/-- Which links a port's picture crosses follows from the image and from registers of the Vat dies. -/
theorem State.crosses_congr (hm : t.mould = s.mould) (hg : ∀ f : Fld, 0x1000000 ≤ f.addr → t.get f = s.get f) (a b p : Nat) :
    t.crosses a b p = s.crosses a b p := by
  have hTGT : ∀ v n k, 0x1000000 ≤ atTGT v n k := fun v n k => by unfold atTGT dieBase; omega
  have hLE : ∀ v n k, 0x1000000 ≤ atLE v n k := fun v n k => by unfold atLE dieBase; omega
  have hport := fun v n => hg (F.VT_TGT_CTRL_PORT v n) (hTGT ..)
  have hen := fun v n => hg (F.VT_LE_CTRL_EN v n) (hLE ..)
  have hdie := fun v n => hg (F.VT_LE_SRC_DIE v n) (hLE ..)
  have hkind := fun v n => hg (F.VT_LE_SRC_KIND v n) (hLE ..)
  have hindex := fun v n => hg (F.VT_LE_SRC_INDEX v n) (hLE ..)
  simp only [State.crosses, State.on, hm, hport, hen, hdie, hkind, hindex]

theorem linkFailShown_crosses (a b : Nat) (s : State) : (linkFailShown a b s).crosses = s.crosses := by
  funext x y p
  exact State.crosses_congr (t := linkFailShown a b s) (s := s) rfl (fun _ hf => linkFailShown_get a b s (Fld.sep_of_rind (by decide) hf)) x y p

/-- R26: a sender's port is cut off while its picture crosses a failed link. -/
theorem State.cutPorts_testBit (hs : s.isSender = true) {p : Nat} (hp : p < 16) :
    s.cutPorts.testBit p = s.links.failed.any fun k => s.crosses (k / 8) (k % 8) p := by
  rw [State.cutPorts, if_pos hs, maskOfBits_testBit]
  simp only [List.mem_filter, List.mem_range, hp, true_and, Bool.decide_eq_true]

/-- The whey of a tile stops where its link from V0 to H0 fails. -/
def wheyCut (whey : Bool) (s : State) : State := { s with links := { s.links with wheyStopped := s.links.wheyStopped || whey } }

theorem wheyCut_false (s : State) : wheyCut false s = s := by simp [wheyCut]

/-- What a link's failure does once it is logged. -/
def linkCut (a b : Nat) (s : State) : State :=
  let tileWhey := (s.put F.RD_DIE_STATE_LINK_FAIL (setBit (setBit (s.get F.RD_DIE_STATE_LINK_FAIL) a) b)).drives && 8 * a + b = 13
  let t := portsJudged (wheyCut tileWhey (linkFailShown a b s))
  if t.drives then pressDark t else t

theorem opLinkFail_of_link (hl : linkExists (min a b) (max a b) = true) (hf : s.links.failed.contains (8 * min a b + max a b) = false) :
    opLinkFail a b s = linkCut (min a b) (max a b) (s.logEv 2 (min a b) 0x0101 (2 ^ min a b + 2 ^ max a b) 0) := by
  have hno : ¬ ((!linkExists (min a b) (max a b) || s.links.failed.contains (8 * min a b + max a b)) = true) := by
    rw [hl, hf]
    decide
  exact if_neg hno

/-- A sender has neither lamps to darken nor a tile's whey. -/
theorem linkCut_of_sender (hs : s.isSender = true) : linkCut a b s = portsJudged (linkFailShown a b s) := by
  have hrole : s.role = 1 := by simpa [State.isSender] using hs
  have hdrives : ∀ t : State, t.role = s.role → t.drives = false := fun t ht => by
    simp [State.drives, State.isTile, State.isK24, ht, hrole]
  have hput := hdrives (s.put F.RD_DIE_STATE_LINK_FAIL _) (linkFailShown_role a b s)
  have hjudged := hdrives (portsJudged (linkFailShown a b s)) (linkFailShown_role a b s)
  simp only [linkCut, hput, Bool.false_and, wheyCut_false, hjudged, Bool.false_eq_true, if_false]

/-- The clearing of what the last step sent and read leaves an event as it is logged. -/
theorem State.fresh_logEv_log (s : State) (sev die code a0 a1 : Nat) : (s.fresh.logEv sev die code a0 a1).log = (s.logEv sev die code a0 a1).log := by
  unfold State.logEv
  by_cases h : s.log.queue.length < 64
  · rw [if_pos h, if_pos (show s.fresh.log.queue.length < 64 from h)]
    rfl
  · rw [if_neg h, if_neg (show ¬ s.fresh.log.queue.length < 64 from h)]
    rfl

theorem opLinkFail_of_sender (hl : linkExists (min a b) (max a b) = true) (hf : s.links.failed.contains (8 * min a b + max a b) = false)
    (hs : s.isSender = true) (hq : s.log.queue.length < 64) :
    opLinkFail a b s =
      portsJudged (linkFailShown (min a b) (max a b) { s with log := (s.logEv 2 (min a b) 0x0101 (2 ^ min a b + 2 ^ max a b) 0).log }) := by
  rw [opLinkFail_of_link hl hf, State.logEv_of_room _ _ _ _ _ hq]
  exact linkCut_of_sender hs

theorem portsJudged_writes (a b : Nat) (s : State) :
    Writes [F.RD_DIE_STATE_LINK_FAIL]
      { s with links := { s.links with failed := (8 * a + b) :: s.links.failed, hbStopped := (linkFailShown a b s).cutPorts } }
      (portsJudged (linkFailShown a b s)) :=
  (linkFailShown_writes a b s).map (fun t => { t with links := { t.links with hbStopped := (linkFailShown a b s).cutPorts } }) fun _ _ => rfl

theorem linkFailShown_cutPorts (hs : s.isSender = true) {p : Nat} (hp : p < 16) :
    (linkFailShown a b s).cutPorts.testBit p = ((8 * a + b) :: s.links.failed).any fun k => s.crosses (k / 8) (k % 8) p := by
  have hsender : (linkFailShown a b s).isSender = true := by
    unfold State.isSender at hs ⊢
    rw [linkFailShown_role]
    exact hs
  rw [State.cutPorts_testBit hsender hp, linkFailShown_crosses]
  rfl

end

/-! ### The logger at a start (R531, R540) -/

/-- The registers that show the counts the log keeps. -/
def logFlds : List Fld := [F.RD_ELOG_STATUS_FATAL_N, F.RD_ELOG_STATUS_COUNT, F.RD_ELOG_HEAD_SEQ, F.RD_WDT_STATUS_RESTART_N]

theorem showLog_writes (s : State) : Writes logFlds s (showLog s) :=
  ((((Writes.refl _ s).put (by decide) _).put (by decide) _).put (by decide) _).put (by decide) _

theorem logStartCheck_writes (s : State) :
    Writes (F.RD_ELOG_LOST_CRC_N :: logFlds) { s with log := (logStartCheck s).log } (logStartCheck s) := by
  refine Writes.trans ?_ ((showLog_writes _).mono (List.subset_cons_self ..))
  exact (Writes.refl _ _).put List.mem_cons_self _

theorem State.logEv_writes (s : State) (sev die code a0 a1 : Nat) :
    Writes [F.RD_ELOG_LOST_DROPPED_N, F.RD_ELOG_STATUS_DROP_EV] { s with log := (s.logEv sev die code a0 a1).log } (s.logEv sev die code a0 a1) := by
  unfold State.logEv
  split
  · exact .refl _ _
  · exact ((Writes.refl _ s).put (by decide) _).put (by decide) _

theorem State.logEv_startN (s : State) (sev die code a0 a1 : Nat) : (s.logEv sev die code a0 a1).log.startN = s.log.startN := by
  unfold State.logEv
  split <;> rfl

/-! ### RESET_N low and a rail fault (R71, R587) -/

theorem resetAll_frame {s u : State} (h : (startOver s).kept = u.kept) : Frame logFlds State.reset u (settle (resetAll s)) :=
  (showLog_writes (startOver s)).frame rfl h

/-! ### The lanes in STANDBY (R74, R189) -/

/-- The fields of a lane that its change of state to STANDBY writes. -/
def laneFlds (n : Nat) : List Fld := [F.HP_LANE_STATE_RXS n, F.HP_LANE_STATE_TXS n, F.HP_LANE_STATE_CDR_LOCK n]

/-- The fields of a group that its lanes' change of state to STANDBY writes. -/
def groupFlds (g : Nat) : List Fld := F.HP_GROUP_STATE_PLL_LOCK g :: (groupLanes g).flatMap laneFlds

/-- A lane whose receive half is in STANDBY and whose transmit half is in state `tx`. -/
def LaneStandby (tx n : Nat) (s : State) : Prop := s.get (F.HP_LANE_STATE_RXS n) = lnStandby ∧ s.get (F.HP_LANE_STATE_TXS n) = tx

/-- The lanes of a group are in STANDBY, the transmit halves of a source port in REST, and the group's PLL runs. -/
def InStandby (g : Nat) (s : State) : Prop :=
  s.get (F.HP_GROUP_STATE_PLL_LOCK g) = 1 ∧ ∀ n ∈ groupLanes g, LaneStandby (if g < 16 then lnStandby else lnRest) n s

section
variable {g k n m : Nat} {s t : State} {f : Fld}

theorem laneFlds_addr (h : f ∈ laneFlds n) : f.addr = atLANE n 0 := by
  simp only [laneFlds, List.mem_cons, List.not_mem_nil, or_false] at h
  rcases h with rfl | rfl | rfl <;> rfl

theorem groupFlds_addr (h : f ∈ groupFlds g) : f.addr = atGROUP g 0 ∨ ∃ n ∈ groupLanes g, f.addr = atLANE n 0 := by
  rcases List.mem_cons.mp h with rfl | h
  · exact .inl rfl
  · obtain ⟨n, hn, hf⟩ := List.mem_flatMap.mp h
    exact .inr ⟨n, hn, laneFlds_addr hf⟩

theorem mem_groupLanes : n ∈ groupLanes g ↔ ∃ i < (if g < 16 then 5 else 4), groupLane g i = n := by simp [groupLanes]

/-- A lane belongs to one group (R27). -/
theorem groupLanes_disjoint (h : g ≠ k) (hn : n ∈ groupLanes g) (hm : m ∈ groupLanes k) : n ≠ m := by
  obtain ⟨i, hi, rfl⟩ := mem_groupLanes.mp hn
  obtain ⟨j, hj, rfl⟩ := mem_groupLanes.mp hm
  unfold groupLane chainLane sourceLane
  split at hi <;> split at hj <;> simp only [*, if_true, if_false] <;> split_ifs <;> omega

theorem groupLanes_lt (hg : g < 24) (hn : n ∈ groupLanes g) : n < 112 := by
  obtain ⟨i, hi, rfl⟩ := mem_groupLanes.mp hn
  unfold groupLane chainLane sourceLane
  split at hi <;> simp only [*, if_true, if_false] <;> split_ifs <;> omega

theorem atLANE_inj (h : atLANE n 0 = atLANE m 0) : n = m := by
  unfold atLANE dieBase at h
  omega

theorem atGROUP_inj (h : atGROUP g 0 = atGROUP k 0) : g = k := by
  unfold atGROUP dieBase at h
  split at h <;> split at h <;> omega

theorem atGROUP_ne_atLANE (g n : Nat) : atGROUP g 0 ≠ atLANE n 0 := by
  unfold atGROUP atLANE dieBase
  split <;> omega

theorem groupFlds_sep (h : g ≠ k) : ∀ x ∈ groupFlds g, ∀ y ∈ groupFlds k, x.sep y = true := by
  intro x hx y hy
  apply Fld.sep_of_addr_ne
  obtain hx | ⟨n, hn, hx⟩ := groupFlds_addr hx <;> obtain hy | ⟨m, hm, hy⟩ := groupFlds_addr hy <;> rw [hx, hy]
  · exact fun e => h (atGROUP_inj e)
  · exact atGROUP_ne_atLANE g m
  · exact (atGROUP_ne_atLANE k n).symm
  · exact fun e => groupLanes_disjoint h hn hm (atLANE_inj e)

theorem groupFlds_ge (hf : f ∈ groupFlds g) : 0x1000000 ≤ f.addr := by
  obtain h | ⟨n, -, h⟩ := groupFlds_addr hf <;> rw [h]
  · unfold atGROUP dieBase
    split <;> omega
  · unfold atLANE dieBase
    omega

theorem laneFlds_subset (hn : n ∈ groupLanes g) : laneFlds n ⊆ groupFlds g :=
  fun _ hf => List.mem_cons_of_mem _ (List.mem_flatMap.mpr ⟨n, hn, hf⟩)

theorem setLane_standby_eq (n tx : Nat) (s : State) :
    setLane n tx lnStandby s =
      ((s.put (F.HP_LANE_STATE_TXS n) tx).put (F.HP_LANE_STATE_CDR_LOCK n) 0).put (F.HP_LANE_STATE_RXS n) lnStandby := (rfl)

theorem setLane_standby_writes (n tx : Nat) (s : State) : Writes (laneFlds n) s (setLane n tx lnStandby s) := by
  rw [setLane_standby_eq]
  exact (((Writes.refl _ s).put (by simp [laneFlds]) _).put (by simp [laneFlds]) _).put (by simp [laneFlds]) _

theorem groupState_standby_writes (g : Nat) (s : State) : Writes (groupFlds g) s (groupState g lnStandby s) :=
  (Writes.each (groupLanes g) s fun n hn t => (setLane_standby_writes n _ t).mono (laneFlds_subset hn)).put List.mem_cons_self _

theorem LaneStandby.of_get {tx : Nat} (h : LaneStandby tx n s) (hg : ∀ x ∈ laneFlds n, t.get x = s.get x) : LaneStandby tx n t :=
  ⟨(hg _ (by simp [laneFlds])).trans h.1, (hg _ (by simp [laneFlds])).trans h.2⟩

theorem laneFlds_sep (h : n ≠ m) : ∀ x ∈ laneFlds n, ∀ y ∈ laneFlds m, x.sep y = true := fun _ hx _ hy =>
  Fld.sep_of_addr_ne (by rw [laneFlds_addr hx, laneFlds_addr hy]; exact fun e => h (atLANE_inj e))

theorem pllLock_sep_laneFlds (g n : Nat) : ∀ y ∈ laneFlds n, (F.HP_GROUP_STATE_PLL_LOCK g).sep y = true := fun _ hy =>
  Fld.sep_of_addr_ne (by rw [laneFlds_addr hy]; exact atGROUP_ne_atLANE g n)

theorem setLane_standby {tx : Nat} (htx : tx < 16) (n : Nat) (s : State) : LaneStandby tx n (setLane n tx lnStandby s) := by
  rw [setLane_standby_eq]
  constructor
  · exact State.get_put_fit _ _ rfl (Fld.width_pos _ rfl)
  · rw [State.get_put_sep _ _ _ _ (by simp [Fld.sep, F.HP_LANE_STATE_RXS, F.HP_LANE_STATE_TXS]),
      State.get_put_sep _ _ _ _ (by simp [Fld.sep, F.HP_LANE_STATE_CDR_LOCK, F.HP_LANE_STATE_TXS])]
    exact State.get_put_fit _ _ rfl htx

/-- The lanes of a list all reach STANDBY: a lane's change leaves every other lane as it is. -/
theorem each_setLane_standby {tx : Nat} (htx : tx < 16) {l : List Nat} (hn : n ∈ l) (s : State) :
    LaneStandby tx n (s.each l fun n s => setLane n tx lnStandby s) := by
  refine State.each_establishes (P := LaneStandby tx) (fun n s => setLane_standby htx n s) (fun n m s hnm h => ?_) l s (.inl hn)
  exact h.of_get fun x hx => (setLane_standby_writes m tx s).get fun f hf => laneFlds_sep hnm.symm f hf x hx

theorem groupState_inStandby (g : Nat) (s : State) : InStandby g (groupState g lnStandby s) := by
  have htx : (if g < 16 then lnStandby else lnRest) < 16 := by split <;> decide
  have hlanes := fun n (hn : n ∈ groupLanes g) => each_setLane_standby htx hn s
  have hfirst : groupLane g 0 ∈ groupLanes g := mem_groupLanes.mpr ⟨0, by split <;> decide, rfl⟩
  unfold groupState groupPll
  refine ⟨?_, fun n hn => (hlanes n hn).of_get fun x hx => State.get_putB_sep _ _ _ (pllLock_sep_laneFlds g n x hx)⟩
  rw [State.get_putB_same _ _ rfl, List.any_eq_true.mpr ⟨_, hfirst, by rw [(hlanes _ hfirst).1]; simp [lnStandby, lnRest, lnRetired]⟩, if_pos rfl]

theorem InStandby.of_get (h : InStandby g s) (hg : ∀ x ∈ groupFlds g, t.get x = s.get x) : InStandby g t :=
  ⟨(hg _ List.mem_cons_self).trans h.1, fun n hn => (h.2 n hn).of_get fun _ hx => hg _ (laneFlds_subset hn hx)⟩

/-- What step 3 of R74 writes. -/
def standbyFlds : List Fld := (List.range 24).flatMap groupFlds

theorem standbyLanes_writes (dies : Nat) (s : State) : Writes standbyFlds s (standbyLanes dies s) :=
  Writes.each _ s fun g hg t =>
    (groupState_standby_writes g t).mono fun _ hf => List.mem_flatMap.mpr ⟨g, List.mem_of_mem_filter hg, hf⟩

/-- Step 3 of R74: every group of a powered Hoop die is in STANDBY. -/
theorem standbyLanes_inStandby {dies : Nat} (hg : g < 24) (hd : dies.testBit (groupDie g) = true) (s : State) :
    InStandby g (standbyLanes dies s) := by
  refine State.each_establishes groupState_inStandby (fun g k s hgk h => ?_) _ s (.inl (by simp [hg, hd]))
  exact h.of_get fun x hx => (groupState_standby_writes k s).get fun f hf => groupFlds_sep hgk.symm f hf x hx

theorem standbyFlds_ge (hf : f ∈ standbyFlds) : 0x1000000 ≤ f.addr :=
  have ⟨_, _, h⟩ := List.mem_flatMap.mp hf
  groupFlds_ge h

theorem groupDie_hoop (hg : g < 24) : groupDie g = 5 ∨ groupDie g = 6 := by
  unfold groupDie
  split <;> omega

end

/-! ### The choice of the directory's slot (R507) -/

section
variable {s : State} {f : FwImage}

theorem fwTry_of_good (src : Nat) {roles : Nat} (h : s.nv.fwCheck roles f = 0) : fwTry src roles (some f) s = (some f, s) := by
  simp only [fwTry, h, if_true]

theorem fwSlot_of_good {i : Nat} (hf : (s.nv.slot i).fw = some f) (h : s.nv.fwCheck (rolesFor (s.nv.slot i).mould) f = 0) :
    fwSlot i s = (some f, s) := by
  simp only [fwSlot, hf, fwTry_of_good _ h]

/-- The slot that the directory names is CONFIRMED or OLD, and image `f` in it passes its checks. -/
def Nv.Boots (n : Nv) (f : FwImage) : Prop :=
  ((n.slot n.boot).state = slConfirmed ∨ (n.slot n.boot).state = slOld) ∧ (n.slot n.boot).fw = some f ∧
    n.fwCheck (rolesFor (n.slot n.boot).mould) f = 0

theorem Nv.Boots.not_trial {n : Nv} (h : n.Boots f) : (n.slot n.boot).state ≠ slTrial := by
  rcases h.1 with h | h <;> rw [h] <;> decide

theorem fwSelect_of_boots (card : Card) (hr : s.sys.recovery = false) (h : s.nv.Boots f) : fwSelect card s = (some (s.nv.boot + 1, f), s) := by
  obtain ⟨hst, hf, hcheck⟩ := h
  have hboot : fwBootSlot s = (some f, s) := by
    unfold fwBootSlot
    rw [if_pos (by simpa using hst), fwSlot_of_good hf hcheck]
  simp only [fwSelect, hr, Bool.false_eq_true, if_false, hboot]

/-! ### The firmware's run -/

theorem showFw_writes (s : State) : Writes fwFlds s (showFw s) :=
  (((((((Writes.refl _ s).put (by decide) _).put (by decide) _).put (by decide) _).put (by decide) _).put (by decide) _).put
    (by decide) _).put (by decide) _

theorem showFw_runSlot (s : State) : (showFw s).get F.RD_FW_STATUS_RUN_SLOT = s.runSlot % 2 := by
  unfold showFw
  iterate 6 rw [State.get_put_sep _ _ _ _ (by decide)]
  exact State.get_put_same s _ _ rfl

/-- What the firmware's run writes. -/
def runFlds : List Fld :=
  [F.RD_BOOT_STATUS_STAGE, F.RD_BOOT_STATUS_SOURCE, F.RD_SET_RESULT_COUNT, whole 0x550, whole 0x554] ++ fwFlds

/-- The records as the run of slot `b`'s firmware leaves them. -/
def slotRuns (b : Nat) (f : FwImage) (s : State) : State :=
  { s with upd := { s.upd with slot := some b, run := some f }, nv := { s.nv with sets := settingsFor f.setFmt s.nv.sets }, freeN := s.freeN + 1 }

theorem slotRuns_get (b : Nat) (f : FwImage) (s : State) (x : Fld) : (slotRuns b f s).get x = s.get x := State.get_of_regs rfl x

/-- SOURCE, STAGE and the slots' registers, as the run of slot `b`'s firmware sets them first. -/
def runShown (b : Nat) (f : FwImage) (s : State) : State :=
  showFw (((s.setUpd fun u => { u with slot := some b, run := some f }).put F.RD_BOOT_STATUS_SOURCE (b + 1)).put F.RD_BOOT_STATUS_STAGE 5)

/-- The settings the firmware uses, their number, and the security challenge. -/
def settingsShown (f : FwImage) (s : State) : State :=
  let s := s.setNv fun n => { n with sets := settingsFor f.setFmt n.sets }
  let s := s.put F.RD_SET_RESULT_COUNT s.nv.records.length
  (s.draw.2.wr 0x550 (s.draw.1.extractLsb' 0 32)).wr 0x554 (s.draw.1.extractLsb' 32 32)

theorem runFirmware_of_slot {b : Nat} (hb : b < 2) (ht : (s.nv.slot b).state ≠ slTrial) :
    runFirmware (b + 1) f s = settingsShown f (runShown b f s) := by
  have htrial : (runShown b f s).inTrial = false := beq_eq_false_iff_ne.mpr ht
  have hcard : b + 1 ≠ 3 := by omega
  unfold runFirmware
  rw [if_neg hcard]
  change settingsShown f (if (runShown b f s).inTrial = true then _ else runShown b f s) = _
  rw [htrial, if_neg Bool.false_ne_true]

theorem settingsShown_writes (f : FwImage) (s : State) :
    Writes [F.RD_SET_RESULT_COUNT, whole 0x550, whole 0x554]
      { s with nv := { s.nv with sets := settingsFor f.setFmt s.nv.sets }, freeN := s.freeN + 1 } (settingsShown f s) :=
  (((Writes.refl _ _).put (by decide) _).wr (by decide) _).wr (by decide) _

theorem runShown_writes (b : Nat) (f : FwImage) (s : State) :
    Writes runFlds { s with upd := { s.upd with slot := some b, run := some f } } (runShown b f s) :=
  (((Writes.refl _ _).put (by decide) _).put (by decide) _).trans ((showFw_writes _).mono (List.subset_append_right ..))

theorem runFirmware_writes {b : Nat} (hb : b < 2) (ht : (s.nv.slot b).state ≠ slTrial) :
    Writes runFlds (slotRuns b f s) (runFirmware (b + 1) f s) := by
  rw [runFirmware_of_slot hb ht]
  refine Writes.trans ?_ ((settingsShown_writes f _).mono (by decide))
  exact (runShown_writes b f s).map
    (fun s => { s with nv := { s.nv with sets := settingsFor f.setFmt s.nv.sets }, freeN := s.freeN + 1 }) fun _ _ => rfl

theorem settingsShown_get (f : FwImage) (s : State) {x : Fld}
    (hx : ∀ y ∈ [F.RD_SET_RESULT_COUNT, whole 0x550, whole 0x554], y.sep x = true) : (settingsShown f s).get x = s.get x :=
  ((settingsShown_writes f s).get hx).trans (State.get_of_regs rfl x)

theorem runFirmware_shows {b : Nat} (hb : b < 2) (ht : (s.nv.slot b).state ≠ slTrial) :
    (runFirmware (b + 1) f s).get F.RD_BOOT_STATUS_STAGE = 5 ∧ (runFirmware (b + 1) f s).get F.RD_BOOT_STATUS_SOURCE = b + 1 ∧
      (runFirmware (b + 1) f s).get F.RD_FW_STATUS_RUN_SLOT = b := by
  have hsrc : b + 1 < 2 ^ F.RD_BOOT_STATUS_SOURCE.width := Nat.lt_trans (Nat.succ_lt_succ hb) (by decide)
  rw [runFirmware_of_slot hb ht, settingsShown_get f _ (by decide), settingsShown_get f _ (by decide), settingsShown_get f _ (by decide)]
  unfold runShown
  refine ⟨?_, ?_, ?_⟩
  · rw [(showFw_writes _).get (by decide), State.get_put_fit _ _ rfl (by decide)]
  · rw [(showFw_writes _).get (by decide), State.get_put_sep _ _ _ _ (by decide), State.get_put_fit _ _ rfl hsrc]
  · rw [showFw_runSlot]
    exact Nat.mod_eq_of_lt hb

end

/-! ### The start (R74, R75) -/

section
variable {s : State}

/-- RESET_N has risen and the starter runs: RECOVERY_N is latched, unless a restart leaves it as it was, and the start is counted. -/
def startBegins (recoveryN : Bool) (s : State) : State :=
  let rec' := if s.sys.warm then s.sys.recovery else !recoveryN
  pcieUp ({ s with sys := { s.sys with resetLow := false, starting := false, warm := false, recovery := rec' } }.setLog
    fun l => { l with startN := (l.startN + 1) % 2 ^ 16 })

/-- The held log is checked, and the RAM test is next. -/
def startChecked (recoveryN : Bool) (badLog : List Nat) (s : State) : State :=
  (logStartCheck (logDamage badLog (startBegins recoveryN s))).put F.RD_BOOT_STATUS_STAGE 2

theorem opResetRelease_held (recoveryN ramOk : Bool) (selfFail : Nat) (badLog : List Nat) (card : Card)
    (h : s.sys.railsBad = true ∨ s.sys.starting = false) :
    opResetRelease recoveryN ramOk selfFail badLog card s = { s with sys := { s.sys with resetLow := false } } := by
  have hno : (s.sys.railsBad || !s.sys.starting) = true := by rcases h with h | h <;> simp [h]
  exact if_pos hno

theorem opResetRelease_starts (recoveryN ramOk : Bool) (selfFail : Nat) (badLog : List Nat) (card : Card)
    (hr : s.sys.railsBad = false) (hs : s.sys.starting = true) :
    opResetRelease recoveryN ramOk selfFail badLog card s =
      if ramOk then starter selfFail card (startChecked recoveryN badLog s) else halt 1 (startChecked recoveryN badLog s) := by
  have hno : ¬ (s.sys.railsBad || !s.sys.starting) = true := by simp [hr, hs]
  exact if_neg hno

/-- What a start writes before its self-test. -/
def checkFlds : List Fld := F.RD_BOOT_STATUS_STAGE :: F.RD_ELOG_LOST_CRC_N :: logFlds

theorem startChecked_writes (recoveryN : Bool) (badLog : List Nat) (s : State) :
    Writes checkFlds { startBegins recoveryN s with log := (startChecked recoveryN badLog s).log } (startChecked recoveryN badLog s) :=
  ((logStartCheck_writes _).mono (List.subset_cons_self ..)).put List.mem_cons_self _

theorem startChecked_startN (recoveryN : Bool) (badLog : List Nat) (s : State) :
    (startChecked recoveryN badLog s).log.startN = (s.log.startN + 1) % 2 ^ 16 := (rfl)

theorem startChecked_ready (recoveryN : Bool) (badLog : List Nat) (hr : s.sys.railsBad = false) :
    (startChecked recoveryN badLog s).pcie.ready = !s.sys.perstLow := by
  change (!s.sys.perstLow && !false && !s.sys.railsBad) = _
  rw [hr, Bool.not_false, Bool.and_true, Bool.and_true]

theorem halt_writes (e : Nat) (s : State) :
    Writes [F.RD_BOOT_STATUS_STAGE, F.RD_BOOT_STATUS_ERR, F.RD_ELOG_LOST_DROPPED_N, F.RD_ELOG_STATUS_DROP_EV] { s with log := (halt e s).log }
      (halt e s) :=
  ((((Writes.refl _ s).put List.mem_cons_self _).put (by decide) _).map (fun t => { t with log := (halt e s).log }) fun _ _ => rfl).trans
    ((State.logEv_writes _ ..).mono (by decide))

theorem halt_get (e : Nat) (s : State) {x : Fld} (h : ∀ y ∈ [F.RD_ELOG_LOST_DROPPED_N, F.RD_ELOG_STATUS_DROP_EV], y.sep x = true) :
    (halt e s).get x = ((s.put F.RD_BOOT_STATUS_STAGE 0xF).put F.RD_BOOT_STATUS_ERR e).get x :=
  ((State.logEv_writes _ ..).get h).trans (State.get_of_regs rfl x)

theorem halt_stage (e : Nat) (s : State) : (halt e s).get F.RD_BOOT_STATUS_STAGE = 0xF := by
  rw [halt_get e s (by decide), State.get_put_sep _ _ _ _ (by decide), State.get_put_fit _ _ rfl (by decide)]

theorem halt_err {e : Nat} (he : e < 256) (s : State) : (halt e s).get F.RD_BOOT_STATUS_ERR = e := by
  rw [halt_get e s (by decide)]
  exact State.get_put_fit _ _ rfl he

theorem halt_startN (e : Nat) (s : State) : (halt e s).log.startN = s.log.startN := State.logEv_startN _ ..

/-- Every die has passed its self-test and is powered, and the lanes are in STANDBY. -/
def selfTested (s : State) : State :=
  (standbyLanes 0xFF ({ s with sys := { s.sys with selfTest := 0xFF } }.put F.RD_DIE_STATE_DIE_ON 0xFF)).put F.RD_BOOT_STATUS_STAGE 4

/-- The starter's last steps: a trial that the last start left is reported, then a source is chosen. -/
def firmwareStarts (card : Card) (s : State) : State :=
  let s := match s.nv.fell with
    | some i => leaveTrial i (s.setNv fun n => { n with fell := none })
    | none => s
  match fwSelect card s with
  | (some (src, f), s) => runFirmware src f s
  | (none, s) => halt 5 s

theorem starter_of_all_dies (card : Card) (s : State) : starter 0 card s = firmwareStarts card (selfTested s) := by
  have hok : maskOfBits ((List.range 8).filter fun d => d = 0 || !Nat.testBit 0 d) = 0xFF := by decide
  have hbad : ((List.range 8).filter fun d => !Nat.testBit 0xFF d) = [] := by decide
  unfold starter
  rw [hok]
  change firmwareStarts card ((standbyLanes 0xFF (State.each _ ((List.range 8).filter fun d => !Nat.testBit 0xFF d) _)).put _ _) = _
  rw [hbad]
  rfl

theorem firmwareStarts_of_boots (card : Card) {f : FwImage} (hfell : s.nv.fell = none) (hr : s.sys.recovery = false) (h : s.nv.Boots f) :
    firmwareStarts card s = runFirmware (s.nv.boot + 1) f s := by
  simp only [firmwareStarts, hfell, fwSelect_of_boots card hr h]

/-- What the self-test and the lanes' STANDBY write. -/
def testFlds : List Fld := F.RD_DIE_STATE_DIE_ON :: F.RD_BOOT_STATUS_STAGE :: standbyFlds

theorem selfTested_writes (s : State) : Writes testFlds { s with sys := { s.sys with selfTest := 0xFF } } (selfTested s) :=
  ((((Writes.refl _ _).put List.mem_cons_self _).trans
    ((standbyLanes_writes _ _).mono fun _ h => List.mem_cons_of_mem _ (List.mem_cons_of_mem _ h))).put (List.mem_cons_of_mem _ List.mem_cons_self) _)

theorem selfTested_dieOn (s : State) : (selfTested s).get F.RD_DIE_STATE_DIE_ON = 0xFF := by
  unfold selfTested
  rw [State.get_put_sep _ _ _ _ (by decide), (standbyLanes_writes _ _).get, State.get_put_fit _ _ rfl (by decide)]
  intro x hx
  exact Fld.sep_of_addr_ne (Nat.ne_of_gt (Nat.lt_of_lt_of_le (by decide) (standbyFlds_ge hx)))

theorem selfTested_inStandby {g : Nat} (hg : g < 24) (s : State) : InStandby g (selfTested s) := by
  have hd : Nat.testBit 0xFF (groupDie g) = true := by rcases groupDie_hoop hg with h | h <;> rw [h] <;> decide
  exact (standbyLanes_inStandby hg hd _).of_get fun x hx => State.get_put_sep _ _ _ _ (Fld.sep_of_rind (by decide) (groupFlds_ge hx))

/-- The state in which the firmware of the directory's slot runs. -/
def slotStarted (badLog : List Nat) (f : FwImage) (s : State) : State :=
  runFirmware (s.nv.boot + 1) f (selfTested (startChecked true badLog s))

/-- The records that a start from the directory's slot leaves, beside registers. -/
def slotRecords (badLog : List Nat) (f : FwImage) (s : State) : State :=
  slotRuns s.nv.boot f { startBegins true s with
    log := (startChecked true badLog s).log, sys := { (startBegins true s).sys with selfTest := 0xFF } }

theorem selfTested_startChecked_nv (recoveryN : Bool) (badLog : List Nat) (s : State) :
    (selfTested (startChecked recoveryN badLog s)).nv = s.nv :=
  ((selfTested_writes _).same State.nv fun _ _ => rfl).trans ((startChecked_writes recoveryN badLog s).same State.nv fun _ _ => rfl)

/-- RECOVERY_N is latched where no restart holds the level of before. -/
theorem selfTested_startChecked_recovery (recoveryN : Bool) (badLog : List Nat) (hwarm : s.sys.warm = false) :
    (selfTested (startChecked recoveryN badLog s)).sys.recovery = !recoveryN := by
  rw [(selfTested_writes _).same (·.sys.recovery) fun _ _ => rfl]
  change (startChecked recoveryN badLog s).sys.recovery = _
  rw [(startChecked_writes recoveryN badLog s).same (·.sys.recovery) fun _ _ => rfl]
  change (if s.sys.warm = true then s.sys.recovery else !recoveryN) = _
  rw [hwarm, if_neg Bool.false_ne_true]

/-- R74: RESET_N rises, every die passes, and the slot that the directory names boots. -/
theorem opResetRelease_of_boots {f : FwImage} (badLog : List Nat) (card : Card) (hrails : s.sys.railsBad = false) (hs : s.sys.starting = true)
    (hwarm : s.sys.warm = false) (hfell : s.nv.fell = none) (h : s.nv.Boots f) :
    opResetRelease true true 0 badLog card s = slotStarted badLog f s := by
  have hnv := selfTested_startChecked_nv true badLog s
  rw [opResetRelease_starts _ _ _ _ _ hrails hs, if_pos rfl, starter_of_all_dies,
    firmwareStarts_of_boots card (by rw [hnv, hfell]) (selfTested_startChecked_recovery true badLog hwarm) (by rw [hnv]; exact h), hnv]
  rfl

/-- All that a start from a slot writes of the registers. -/
def startFlds : List Fld := checkFlds ++ testFlds ++ runFlds

theorem slotStarted_runs {f : FwImage} (badLog : List Nat) (hb : s.nv.boot < 2) (ht : (s.nv.slot s.nv.boot).state ≠ slTrial) :
    Writes runFlds (slotRuns s.nv.boot f (selfTested (startChecked true badLog s))) (slotStarted badLog f s) :=
  runFirmware_writes hb (by rw [selfTested_startChecked_nv]; exact ht)

theorem slotStarted_writes {f : FwImage} (badLog : List Nat) (hb : s.nv.boot < 2) (ht : (s.nv.slot s.nv.boot).state ≠ slTrial) :
    Writes startFlds (slotRecords badLog f s) (slotStarted badLog f s) := by
  have hchecked := (startChecked_writes true badLog s).map
    (fun t => slotRuns s.nv.boot f { t with sys := { t.sys with selfTest := 0xFF } }) fun _ _ => rfl
  have htested := (selfTested_writes (startChecked true badLog s)).map (slotRuns s.nv.boot f) fun _ _ => rfl
  refine ((hchecked.mono ?_).trans (htested.mono ?_)).trans ((slotStarted_runs badLog hb ht).mono (List.subset_append_right ..))
  · exact fun _ h => List.mem_append_left _ (List.mem_append_left _ h)
  · exact fun _ h => List.mem_append_left _ (List.mem_append_right _ h)

/-- A register that the firmware's run leaves alone reads as after the self-test. -/
theorem slotStarted_get {f : FwImage} (badLog : List Nat) (hb : s.nv.boot < 2) (ht : (s.nv.slot s.nv.boot).state ≠ slTrial) {x : Fld}
    (hx : ∀ y ∈ runFlds, y.sep x = true) : (slotStarted badLog f s).get x = (selfTested (startChecked true badLog s)).get x :=
  ((slotStarted_runs badLog hb ht).get hx).trans (slotRuns_get _ f _ x)

/-- Where the start stands once the firmware of a slot runs. -/
theorem slotStarted_shows {f : FwImage} (badLog : List Nat) (hb : s.nv.boot < 2) (ht : (s.nv.slot s.nv.boot).state ≠ slTrial) :
    let t := slotStarted badLog f s
    t.get F.RD_BOOT_STATUS_STAGE = 5 ∧ t.get F.RD_BOOT_STATUS_SOURCE = s.nv.boot + 1 ∧ t.get F.RD_FW_STATUS_RUN_SLOT = s.nv.boot ∧
      t.get F.RD_DIE_STATE_DIE_ON = 0xFF := by
  obtain ⟨hstage, hsource, hslot⟩ := runFirmware_shows (f := f) (s := selfTested (startChecked true badLog s)) hb
    (by rw [selfTested_startChecked_nv]; exact ht)
  exact ⟨hstage, hsource, hslot, (slotStarted_get badLog hb ht (by decide)).trans (selfTested_dieOn _)⟩

theorem slotStarted_inStandby {f : FwImage} (badLog : List Nat) (hb : s.nv.boot < 2) (ht : (s.nv.slot s.nv.boot).state ≠ slTrial) {g : Nat}
    (hg : g < 24) : InStandby g (slotStarted badLog f s) := by
  have hrind : ∀ y ∈ runFlds, y.addr < 0x1000000 := by decide
  exact (selfTested_inStandby hg _).of_get fun x hx =>
    slotStarted_get badLog hb ht fun y hy => Fld.sep_of_rind (hrind y hy) (groupFlds_ge hx)

theorem slotRecords_sys {f : FwImage} (badLog : List Nat) (hwarm : s.sys.warm = false) :
    (slotRecords badLog f s).sys = { s.sys with resetLow := false, starting := false, recovery := false, selfTest := 0xFF } := by
  change ({ s.sys with resetLow := false, starting := false, warm := false, selfTest := 0xFF,
                       recovery := if s.sys.warm then s.sys.recovery else !true } : Sys) = _
  simp only [hwarm, Bool.false_eq_true, if_false, Bool.not_true]

/-- The Rind die's fields that a start from a slot writes, beside those of the slots. -/
def rindStartFlds : List Fld :=
  [F.RD_BOOT_STATUS_STAGE, F.RD_BOOT_STATUS_SOURCE, F.RD_DIE_STATE_DIE_ON, F.RD_SET_RESULT_COUNT, whole 0x550, whole 0x554,
    F.RD_ELOG_STATUS_FATAL_N, F.RD_ELOG_STATUS_COUNT, F.RD_ELOG_HEAD_SEQ, F.RD_WDT_STATUS_RESTART_N, F.RD_ELOG_LOST_CRC_N]

theorem standbyFlds_subset : standbyFlds ⊆ (List.range 112).flatMap laneFlds ++ (List.range 24).map F.HP_GROUP_STATE_PLL_LOCK := by
  intro f hf
  obtain ⟨g, hg, hf⟩ := List.mem_flatMap.mp hf
  rcases List.mem_cons.mp hf with rfl | hf
  · exact List.mem_append_right _ (List.mem_map_of_mem hg)
  · obtain ⟨n, hn, hf⟩ := List.mem_flatMap.mp hf
    exact List.mem_append_left _ (List.mem_flatMap.mpr ⟨n, List.mem_range.mpr (groupLanes_lt (List.mem_range.mp hg) hn), hf⟩)

theorem startFlds_subset :
    startFlds ⊆ (List.range 112).flatMap laneFlds ++ (List.range 24).map F.HP_GROUP_STATE_PLL_LOCK ++ rindStartFlds ++ fwFlds := by
  rw [List.append_assoc _ rindStartFlds]
  have hrind : ∀ {l}, l ⊆ rindStartFlds ++ fwFlds → l ⊆ ((List.range 112).flatMap laneFlds ++ (List.range 24).map F.HP_GROUP_STATE_PLL_LOCK) ++
      (rindStartFlds ++ fwFlds) := fun h => List.Subset.trans h (List.subset_append_right ..)
  refine List.append_subset.mpr ⟨List.append_subset.mpr ⟨hrind (by decide), ?_⟩, hrind (by decide)⟩
  refine (List.append_subset (l₁ := [F.RD_DIE_STATE_DIE_ON, F.RD_BOOT_STATUS_STAGE])).mpr ⟨hrind (by decide), ?_⟩
  exact List.Subset.trans standbyFlds_subset (List.subset_append_left ..)

/-- The records after a start from a slot, beside the log, of which the entries depend on what the retention RAM holds. -/
theorem slotStarted_records {f : FwImage} (badLog : List Nat) (hb : s.nv.boot < 2) (ht : (s.nv.slot s.nv.boot).state ≠ slTrial)
    (hrails : s.sys.railsBad = false) (hwarm : s.sys.warm = false) :
    let t := slotStarted badLog f s
    t.sys = { s.sys with resetLow := false, starting := false, recovery := false, selfTest := 0xFF } ∧
      t.log.startN = (s.log.startN + 1) % 2 ^ 16 ∧ t.pcie.ready = (!s.sys.perstLow) ∧ t.cave = s.cave ∧ t.out = s.out ∧
      t.upd = { s.upd with slot := some s.nv.boot, run := some f } ∧ t.nv = { s.nv with sets := settingsFor f.setFmt s.nv.sets } := by
  have hw := slotStarted_writes (f := f) badLog hb ht
  intro t
  refine ⟨(hw.same State.sys fun _ _ => rfl).trans (slotRecords_sys badLog hwarm), ?_, ?_, hw.same State.cave fun _ _ => rfl,
    hw.same State.out fun _ _ => rfl, hw.same State.upd fun _ _ => rfl, hw.same State.nv fun _ _ => rfl⟩
  · exact (congrArg Elog.startN (hw.same State.log fun _ _ => rfl)).trans (startChecked_startN true badLog s)
  · exact (congrArg Pcie.ready (hw.same State.pcie fun _ _ => rfl)).trans (startChecked_ready true badLog hrails)

theorem slotStarted_kept {f : FwImage} (badLog : List Nat) (hb : s.nv.boot < 2) (ht : (s.nv.slot s.nv.boot).state ≠ slTrial) :
    let t := slotStarted badLog f s
    (slotRecords badLog f s).kept = State.kept
      { s with
        sys := t.sys, log := t.log, pcie := { s.pcie with ready := t.pcie.ready }, nv := t.nv,
        upd := { s.upd with slot := some s.nv.boot, run := some f }, freeN := s.freeN + 1 } := by
  have hw := slotStarted_writes (f := f) badLog hb ht
  intro t
  rw [hw.same State.sys fun _ _ => rfl, hw.same State.log fun _ _ => rfl, hw.same State.nv fun _ _ => rfl, hw.same State.pcie fun _ _ => rfl]
  rfl

end

/-- Settles O38: each row's effect changes records and then writes registers of a list. -/
theorem dieLinksAndReset : Obligations.DieLinksAndReset := by
  refine ⟨?_, ?_, ?_, ?_, ?_, ?_, ?_, ?_, ?_, ?_, ?_⟩
  · intro s a b k ha ⟨hl, hf⟩
    refine ⟨_, (exec_dieLinkReplay a b s).trans (run_acts _ ha), ?_⟩
    rw [opLinkReplay_of_link (s := s.fresh) hl hf]
    exact ⟨rfl, (Writes.refl _ _).frame rfl rfl⟩
  · intro s a b lo hi ha ⟨hl, hf⟩ hs hq
    refine ⟨_, (exec_dieLinkFail a b s).trans (run_acts _ ha), ?_⟩
    rw [opLinkFail_of_sender (s := s.fresh) hl hf hs hq, State.fresh_logEv_log]
    obtain ⟨hlo, hhi⟩ := linkExists_lt hl
    refine ⟨linkFailShown_testBit _ hlo (.inl rfl), linkFailShown_testBit _ hhi (.inr rfl), rfl, fun p hp => ?_, rfl,
      (portsJudged_writes _ _ _).frame rfl rfl⟩
    exact linkFailShown_cutPorts hs (List.mem_range.mp hp)
  · intro s
    exact ⟨_, (exec_resetAssert s).trans (runHeld_eq _), rfl, resetAll_frame rfl⟩
  · intro s dark
    refine ⟨_, (exec_railFault dark s).trans (runHeld_eq _), ?_⟩
    cases dark <;> exact ⟨rfl, resetAll_frame rfl⟩
  · intro s
    exact ⟨_, (exec_railsGood s).trans (runHeld_eq _), rfl, (Writes.refl _ _).frame rfl rfl⟩
  · intro s
    exact ⟨_, (exec_perstRelease s).trans (runHeld_eq _), rfl, (Writes.refl _ _).frame rfl rfl⟩
  · intro s
    exact ⟨_, (exec_perstAssert s).trans (runHeld_eq _), rfl, (Writes.refl _ _).frame rfl rfl⟩
  · intro s ha hready
    refine ⟨_, (exec_flr s).trans (runRind_acts _ ha), ?_⟩
    rw [opFlr, if_pos (show s.fresh.pcie.ready = true from hready)]
    exact ⟨rfl, (Writes.refl _ _).frame rfl rfl⟩
  · intro s recoveryN ramOk selfFail badLog card h
    refine ⟨_, (exec_resetRelease recoveryN ramOk selfFail badLog card s).trans (runHeld_eq _), ?_⟩
    rw [opResetRelease_held (s := s.fresh) _ _ _ _ _ h]
    exact ⟨rfl, (Writes.refl _ _).frame rfl rfl⟩
  · intro s recoveryN selfFail badLog card ⟨hr, hs⟩
    refine ⟨_, (exec_resetRelease recoveryN false selfFail badLog card s).trans (runHeld_eq _), ?_⟩
    rw [opResetRelease_starts (s := s.fresh) _ _ _ _ _ hr hs, if_neg Bool.false_ne_true]
    have hw := halt_writes 1 (startChecked recoveryN badLog s.fresh)
    have hstage := halt_stage 1 (startChecked recoveryN badLog s.fresh)
    have herr := halt_err (e := 1) (by decide) (startChecked recoveryN badLog s.fresh)
    have hstartN := (halt_startN 1 _).trans (startChecked_startN recoveryN badLog s.fresh)
    generalize halt 1 (startChecked recoveryN badLog s.fresh) = t at hw hstage herr hstartN ⊢
    have hsys : t.sys = _ := hw.same State.sys fun _ _ => rfl
    have hpcie : t.pcie = _ := hw.same State.pcie fun _ _ => rfl
    exact ⟨hstage, herr, congrArg Sys.starting hsys, congrArg Sys.resetLow hsys, hstartN,
      (congrArg Pcie.ready hpcie).trans (startChecked_ready (s := s.fresh) recoveryN badLog hr), hw.same State.out fun _ _ => rfl⟩
  · intro s badLog card f b ⟨hrails, hs, hwarm⟩ ⟨hfell, hb⟩ hst ⟨hf, hcheck⟩
    have hboots : s.nv.Boots f := ⟨hst, hf, hcheck⟩
    have ht := hboots.not_trial
    refine ⟨_, (exec_resetRelease true true 0 badLog card s).trans (runHeld_eq _), ?_⟩
    rw [opResetRelease_of_boots (s := s.fresh) badLog card hrails hs hwarm hfell hboots]
    obtain ⟨hstage, hsource, hslot, hdies⟩ := slotStarted_shows (s := s.fresh) (f := f) badLog hb ht
    obtain ⟨hsys, hstartN, hready, hcave, hout, hupd, hnv⟩ := slotStarted_records (s := s.fresh) (f := f) badLog hb ht hrails hwarm
    have hstandby := fun g (hg : g ∈ List.range 24) => slotStarted_inStandby (s := s.fresh) (f := f) badLog hb ht (List.mem_range.mp hg)
    have hw := slotStarted_writes (s := s.fresh) (f := f) badLog hb ht
    have hkept := slotStarted_kept (s := s.fresh) (f := f) badLog hb ht
    generalize slotStarted badLog f s.fresh = t at *
    exact ⟨hstage, hsource, hdies, congrArg Upd.slot hupd, congrArg Upd.run hupd, hslot, hsys, hstartN, hready, hnv, hcave, hout,
      fun g hg => (hstandby g hg).2, fun g hg => (hstandby g hg).1, Frame.mono (hw.frame rfl hkept) startFlds_subset⟩

end Sys2Proof.Machine
end

section
/-!
PROOFS. Chapters 02, 03, 05, 18 and 21: the check values (R48, R76, R489, R546) and the line code (R137).
-/

namespace Sys2Proof.Machine

open Sys2Proof

theorem bitRev_lt (w v : Nat) : bitRev w v < 2 ^ w := by
  induction w generalizing v with
  | zero => exact Nat.one_pos
  | succ w ih =>
    have hlow := ih (v / 2)
    have hbit : v % 2 ≤ 1 := by omega
    have hmul : v % 2 * 2 ^ w ≤ 2 ^ w := by simpa using Nat.mul_le_mul_right (2 ^ w) hbit
    rw [bitRev, pow_succ]
    omega

/-- Bit `i` of the reversed value is bit `w - 1 - i` of the value. -/
theorem bitRev_testBit (w v i : Nat) : (bitRev w v).testBit i = (decide (i < w) && v.testBit (w - 1 - i)) := by
  induction w generalizing v with
  | zero => simp [bitRev]
  | succ w ih =>
    rw [bitRev, Nat.mul_comm, Nat.testBit_two_pow_mul_add _ (bitRev_lt w _), ih]
    by_cases hi : i < w
    · have hdiv : v.testBit (w + 1 - 1 - i) = (v / 2).testBit (w - 1 - i) := by
        rw [Nat.testBit_div_two]
        congr 1
        omega
      have hi' : i < w + 1 := by omega
      simp only [hi, hi', if_true, decide_true, Bool.true_and, hdiv]
    · by_cases hw : i = w
      · subst hw
        simp [Nat.testBit_zero]
      · have hpos : i - w ≠ 0 := by omega
        have hlt : ¬ i < w + 1 := by omega
        have hbit : v % 2 < 2 ^ (i - w) := lt_of_lt_of_le (Nat.mod_lt _ two_pos) (Nat.le_self_pow hpos 2)
        simp [hi, hlt, Nat.testBit_lt_two_pow hbit]

theorem bitRev_xor (w a b : Nat) : bitRev w (a ^^^ b) = bitRev w a ^^^ bitRev w b := by
  apply Nat.eq_of_testBit_eq
  intro i
  by_cases hi : i < w <;> simp [bitRev_testBit, hi]

/-- A shift up of the direct register is a shift down of the reflected one. -/
theorem bitRev_shift (w s : Nat) : bitRev w (2 * s % 2 ^ w) = bitRev w s / 2 := by
  apply Nat.eq_of_testBit_eq
  intro i
  rw [Nat.testBit_div_two, bitRev_testBit, bitRev_testBit, Nat.testBit_mod_two_pow]
  by_cases hi : i + 1 < w
  · have hsucc : w - 1 - i = w - 1 - (i + 1) + 1 := by omega
    have hlt : i < w := by omega
    have hsub : w - 1 - (i + 1) + 1 < w := by omega
    rw [hsucc, Nat.testBit_succ, Nat.mul_div_cancel_left _ two_pos]
    simp [hi, hlt, hsub]
  · have hlow : w - 1 - i = 0 := by omega
    simp [hi, hlow, Nat.testBit_zero]

/-- Message bits beyond those that are fed play no part. -/
theorem crcBits_congr (w poly : Nat) {n u v : Nat} (h : ∀ i < n, u.testBit i = v.testBit i) (s : Nat) :
    crcBits n w poly u s = crcBits n w poly v s := by
  induction n generalizing s with
  | zero => rfl
  | succ n ih => rw [crcBits, crcBits, h n n.lt_succ_self, ih fun i hi => h i (Nat.lt_succ_of_lt hi)]

/-- The message bit, taken into the lowest place of the reflected register, decides its step. -/
theorem bitRev_crcBit (s : Nat) (b : Bool) : bitRev 32 (crcBit 32 0x04C11DB7 s b) = crc32Bit (bitRev 32 s ^^^ b.toNat) := by
  have hpoly : bitRev 32 (0x04C11DB7 % 2 ^ 32) = 0xEDB88320 := by decide
  have hlow : decide ((bitRev 32 s ^^^ b.toNat) % 2 = 1) = (s.testBit 31 != b) := by
    rw [← Nat.testBit_zero, Nat.testBit_xor, bitRev_testBit]
    cases b <;> simp
  have hdiv : (bitRev 32 s ^^^ b.toNat) / 2 = bitRev 32 s / 2 := by
    rw [Nat.xor_div_two]
    cases b <;> simp
  unfold crcBit crc32Bit
  by_cases h : (s.testBit 31 != b) = true
  · rw [if_pos h, if_pos (of_decide_eq_true (hlow.trans h)), bitRev_xor, bitRev_shift, hpoly, hdiv]
  · rw [if_neg h, if_neg (mt (fun h' => hlow.symm.trans (decide_eq_true h')) h), bitRev_shift, hdiv]

/-- Message bits above the lowest can join the reflected register before its step or, shifted, after it. -/
theorem crc32Bit_xor (r v : Nat) : crc32Bit (r ^^^ v) = crc32Bit (r ^^^ (v.testBit 0).toNat) ^^^ (v / 2) := by
  have hlow : (r ^^^ (v.testBit 0).toNat) % 2 = (r ^^^ v) % 2 := by
    rw [Nat.xor_mod_two_eq, Nat.xor_mod_two_eq, Nat.toNat_testBit]
    omega
  have hdiv : (r ^^^ (v.testBit 0).toNat) / 2 = r / 2 := by
    rw [Nat.xor_div_two]
    cases v.testBit 0 <;> simp
  unfold crc32Bit
  rw [hlow, hdiv, Nat.xor_div_two]
  split
  · rw [Nat.xor_assoc, Nat.xor_assoc, Nat.xor_comm (v / 2)]
  · rfl

/-- The reflected register takes `n` message bits at once where the direct one takes them one after the other. -/
theorem bitRev_crcBits {n v : Nat} (hv : v < 2 ^ n) (s : Nat) :
    bitRev 32 (crcBits n 32 0x04C11DB7 (bitRev n v) s) = crc32Bits n (bitRev 32 s ^^^ v) := by
  induction n generalizing v s with
  | zero =>
    have hzero : v = 0 := by omega
    rw [hzero, Nat.xor_zero]
    rfl
  | succ n ih =>
    have hrest : v / 2 < 2 ^ n := by
      rw [pow_succ] at hv
      omega
    have hfirst : (bitRev (n + 1) v).testBit n = v.testBit 0 := by
      rw [bitRev_testBit]
      simp
    have hbits : ∀ i < n, (bitRev (n + 1) v).testBit i = (bitRev n (v / 2)).testBit i := by
      intro i hi
      rw [bitRev, Nat.mul_comm, Nat.testBit_two_pow_mul_add _ (bitRev_lt n _), if_pos hi]
    calc bitRev 32 (crcBits (n + 1) 32 0x04C11DB7 (bitRev (n + 1) v) s)
        = bitRev 32 (crcBits n 32 0x04C11DB7 (bitRev n (v / 2)) (crcBit 32 0x04C11DB7 s (v.testBit 0))) := by
          rw [crcBits, hfirst, crcBits_congr _ _ hbits]
      _ = crc32Bits n (crc32Bit (bitRev 32 s ^^^ (v.testBit 0).toNat) ^^^ (v / 2)) := by rw [ih hrest, bitRev_crcBit]
      _ = crc32Bits (n + 1) (bitRev 32 s ^^^ v) := by rw [← crc32Bit_xor, crc32Bits]

theorem bitRev_mod (w v : Nat) : bitRev w (v % 2 ^ w) = bitRev w v := by
  apply Nat.eq_of_testBit_eq
  intro i
  rw [bitRev_testBit, bitRev_testBit, Nat.testBit_mod_two_pow]
  by_cases hi : i < w
  · have hlt : w - 1 - i < w := by omega
    simp [hlt]
  · simp [hi]

theorem bitRev_crcByte (s b : Nat) : bitRev 32 (crcByte 32 0x04C11DB7 true s b) = crc32Bits 8 (bitRev 32 s ^^^ (b % 256)) := by
  have hbyte : b % 256 < 2 ^ 8 := Nat.mod_lt b (by decide)
  rw [← bitRev_crcBits hbyte, show bitRev 8 (b % 256) = bitRev 8 b from bitRev_mod 8 b]
  rfl

theorem crc32Run_cons (r b : Nat) (l : List Nat) : crc32Run r (b :: l) = crc32Run (crc32Bits 8 (r ^^^ (b % 256))) l := by
  rw [crc32Run.eq_def]

/-- The reflected register follows the direct one over any bytes. -/
theorem crc32Run_bitRev (l : List Nat) (s : Nat) :
    crc32Run (bitRev 32 s) l = bitRev 32 (l.foldl (crcByte 32 0x04C11DB7 true) s) := by
  induction l generalizing s with
  | nil => rfl
  | cons b l ih => rw [crc32Run_cons, ← bitRev_crcByte, ih, List.foldl_cons]

/-- Settles O47: the register of `crc32` is at every byte the mirror image of the one R489 steps. -/
theorem crcFormsAgree : Obligations.CrcFormsAgree := by
  intro l
  have hinit : bitRev 32 0xFFFFFFFF = 0xFFFFFFFF := by decide
  have hrun : crc32Run 0xFFFFFFFF l = bitRev 32 (l.foldl (crcByte 32 0x04C11DB7 true) 0xFFFFFFFF) := by
    rw [← crc32Run_bitRev, hinit]
  rw [crc32, hrun, crcResult, if_pos rfl]
  exact (Nat.mod_eq_of_lt (Nat.xor_lt_two_pow (bitRev_lt 32 _) (by decide))).symm

/-- Settles O48. -/
theorem checkCatalogue : Obligations.CheckCatalogue := by
  refine ⟨?_, ?_⟩
  · decide +kernel
  · decide +kernel

end Sys2Proof.Machine
end

section
/-!
PROOFS. Chapters 02 and 04: what does not hold of the reported genlock error (R105) and of the mould load (R52).
-/

namespace Sys2Proof.Machine

open Sys2Proof

/-- A field of the state that a command answers. -/
def nextField (o : Host.Outcome State Fault Refusal) (f : Fld) : Option Nat :=
  match o with
  | .next t => some (t.get f)
  | _ => none

theorem nextField_next {o : Host.Outcome State Fault Refusal} {t : State} (f : Fld) (h : o = .next t) : nextField o f = some (t.get f) := by
  rw [h]
  rfl

/-- A sender in HOLDOVER whose genlock reference marks every second frame, frame 0 among them, and has come back for 15 periods within 0.1 % of P. -/
def nearlyRestored : State :=
  let s := (State.reset.put F.RD_DIE_STATE_ROLE 1).put F.RD_WTG_CTRL_REF_SEL 1
  let s := (s.put F.RD_WTG_CTRL_GL_DIV 1).put F.RD_WTG_STATUS_STATE wtgHoldover
  { s with wtg := { s.wtg with restart := false, restored := 15, marked := some 0 } }

/-- A period 0.5 % above P = 133,333,333 does not restore the reference: frame 0 stays marked, and an edge at the start of frame 1 is a frame away. -/
theorem nearlyRestored_edge_error :
    nextField (exec (.genlockEdge ⟨true, 134000000⟩ ⟨1, 0⟩) nearlyRestored) F.RD_WTG_PHASE_ERR_ERR = some 0x1FFFFF := by
  decide +kernel

/-- Refutes O5: its clause on the reported error forgets the marked frame at any sixteenth period that agrees to 12.5 %, where R105 and R106 have the
reference restored by periods within 0.1 % only. -/
theorem not_wallTimingGenerator : ¬ Obligations.WallTimingGenerator := by
  rintro ⟨-, -, hedge, -⟩
  obtain ⟨t, ht, -, -, herr, -⟩ := hedge nearlyRestored true 134000000 1 0 (by decide +kernel) (by decide +kernel) (by decide +kernel)
    (by decide +kernel) rfl (by decide +kernel)
  have hclaimed : t.get F.RD_WTG_PHASE_ERR_ERR = 0 := herr.trans (by decide +kernel)
  have hshown := nearlyRestored_edge_error
  rw [nextField_next _ ht, hclaimed] at hshown
  exact absurd hshown (by decide)

/-- A part whose firmware runs and which has no image anywhere; its Cave holds a trim word under the offset of RD_MOULD_STATUS. -/
def strayTrim : State :=
  { State.reset.put F.RD_BOOT_STATUS_STAGE 5 with sys := { State.reset.sys with starting := false }, cave := { State.reset.cave with trim := [(0x100, 0)] } }

/-- The trim blocks of H0 are loaded after the outcome of the load is shown, and this one overwrites it. -/
theorem strayTrim_load_state : nextField (exec (.mouldLoad 0 [] [] [] {}) strayTrim) F.RD_MOULD_STATUS_STATE = some 0 := by
  decide +kernel

/-- Refutes O39: its clause on a load without a source holds for every Cave, and a Cave whose trim words do not lie at trim registers, which no
hypothesis excludes, is written over RD_MOULD_STATUS. -/
theorem not_mouldLoading : ¬ Obligations.MouldLoading := by
  rintro ⟨-, hnone, -⟩
  obtain ⟨t, ht, hstate, -⟩ := hnone strayTrim 0 [] [] [] {} (by decide +kernel) (by decide +kernel) (by decide +kernel)
  have hshown := strayTrim_load_state
  rw [nextField_next _ ht, hstate] at hshown
  exact absurd hshown (by decide)

end Sys2Proof.Machine
end

section
/-!
PROOFS. Chapters 02, 04 and 05: control packets at a tile and at a sender (R57, R58, R123, R151 to R155, R168 to R170).
-/

namespace Sys2Proof.Machine

open Sys2Proof

theorem atCH_ge (p off : Nat) : 0x1000000 ≤ atCH p off := by
  unfold atCH dieBase
  omega

/-- Registers at different offsets of chain-port blocks are different registers, whatever the ports. -/
theorem atCH_ne (p q : Nat) {a b : Nat} (h : a % 256 ≠ b % 256) : atCH p a ≠ atCH q b := by
  unfold atCH dieBase
  omega

section
variable {l : List Fld} {s t v : State}

/-- The frame of a command that changes port records and then writes registers. -/
theorem Writes.portFrame (h : Writes l v t) (hr : v.regs = s.regs) (hk : v.kept = { s with ports := v.ports }.kept) :
    Frame l s { s with ports := (settle t).ports } (settle t) := by
  rw [settle_ports, h.same State.ports fun _ _ => rfl]
  exact h.frame hr hk

/-- Writing registers sends nothing more. -/
theorem Writes.sent (h : Writes l v t) : Sent v.out (settle t) := h.same State.out fun _ _ => rfl

theorem Writes.port (h : Writes l v t) (p : Nat) : t.port p = v.port p := by
  unfold State.port
  rw [h.same State.ports fun _ _ => rfl]

end

theorem State.port_setPort_same (s : State) (p : Nat) (f : Port → Port) : (s.setPort p f).port p = f (s.port p) := by
  rw [State.port_setPort, if_pos rfl]

/-! ### CH_CTRL_TX_RESULT (R169) -/

/-- What a state of CH_CTRL_TX_RESULT writes. -/
abbrev txResultFlds (p : Nat) : List Fld :=
  [F.CH_CTRL_TX_RESULT_STATE p, F.CH_CTRL_TX_RESULT_RESULT p, F.CH_CTRL_TX_RESULT_VALID p, F.CH_CTRL_TX_RESULT_SEQ p]

theorem txResult_writes (p st result : Nat) (s : State) : Writes (txResultFlds p) s (txResult p st result s) := by
  have hhead := ((Writes.refl (txResultFlds p) s).put (f := F.CH_CTRL_TX_RESULT_STATE p) (by simp) st).put
    (f := F.CH_CTRL_TX_RESULT_RESULT p) (by simp) result
  unfold txResult
  split
  · exact (hhead.put (f := F.CH_CTRL_TX_RESULT_VALID p) (by simp) 1).put (f := F.CH_CTRL_TX_RESULT_SEQ p) (by simp) _
  · exact hhead.put (by simp) 0

/-- A final state has VALID and steps SEQ. -/
theorem txResult_final (p result : Nat) {st : Nat} (h3 : 3 ≤ st) (h16 : st < 16) (s : State) :
    (txResult p st result s).get (F.CH_CTRL_TX_RESULT_STATE p) = st ∧
    (txResult p st result s).get (F.CH_CTRL_TX_RESULT_RESULT p) = result % 2 ^ (F.CH_CTRL_TX_RESULT_RESULT p).width ∧
    (txResult p st result s).get (F.CH_CTRL_TX_RESULT_VALID p) = 1 ∧
    (txResult p st result s).get (F.CH_CTRL_TX_RESULT_SEQ p) = s.wrap (F.CH_CTRL_TX_RESULT_SEQ p) := by
  simp [txResult, h3, State.bump, State.wrap, State.get_put_same, State.get_put_sep, Fld.sep, Fld.ok, Fld.width, F.CH_CTRL_TX_RESULT_STATE,
    F.CH_CTRL_TX_RESULT_RESULT, F.CH_CTRL_TX_RESULT_VALID, F.CH_CTRL_TX_RESULT_SEQ, Nat.mod_eq_of_lt h16]

/-! ### The end of a unicast (R154) -/

/-- The record of the unicast to `dest` is dropped. -/
def dropUnacked (p dest : Nat) (s : State) : State := s.setPort p fun x => { x with unacked := Tab.set (fun _ => none) dest none x.unacked }

theorem dropUnacked_unacked (p dest : Nat) (s : State) : Tab.get (fun _ => none) ((dropUnacked p dest s).port p).unacked dest = none := by
  rw [dropUnacked, State.port_setPort_same]
  exact Tab.get_set_same (fun _ => none) dest none (s.port p).unacked

/-- A host's unicast that ends while none waits reports its result and drops its record. -/
theorem endUnicast_host {s : State} {p dest : Nat} {f : InFlight} (st result : Nat) (hf : Tab.get (fun _ => none) (s.port p).unacked dest = some f)
    (hhost : f.host = true) (hwait : (s.port p).uniWait = []) : endUnicast p dest st result s = txResult p st result (dropUnacked p dest s) := by
  have hidle : ((txResult p st result (dropUnacked p dest s)).port p).uniWait = [] := by
    rw [(txResult_writes p st result _).port, dropUnacked, State.port_setPort_same]
    exact hwait
  simp only [endUnicast, hf, hhost, State.when, if_true]
  change nextUnicast p dest (txResult p st result (dropUnacked p dest s)) = _
  rw [nextUnicast, hidle]
  rfl

/-! ### Roles and ports -/

section
variable {s : State} {p : Nat}

theorem State.tileLike_of_sender (hs : s.isSender = true) : s.tileLike = false := by
  have hrole : s.role = 1 := by simpa [State.isSender] using hs
  simp [State.tileLike, State.isTile, State.noMouldTile, hrole]

theorem State.hasPort_of_sender (hs : s.isSender = true) (hp : p < 16) : s.hasPort p = true := by
  simp [State.hasPort, State.tileLike_of_sender hs, hp]

theorem State.tileLike_of_tile (ht : s.isTile = true) : s.tileLike = true := by simp [State.tileLike, ht]

theorem State.forMe_of_sender (hs : s.isSender = true) (dest : Nat) : s.forMe dest = true := by simp [State.forMe, hs]

end

/-! ### The arrival of a packet (R151) -/

section
variable {s t : State} {p : Nat} {k : Pkt} {w : PktEnd}

theorem receive_good {f : State → State} (h : w.good k) : receive p k w f s = f s := by
  rw [receive, if_neg (by rw [h.1]; exact Bool.false_ne_true), if_pos h.2]

theorem receiveE_good {f : State → Except Fault State} (h : w.good k) : receiveE p k w f s = f s := by
  rw [receiveE, if_neg (by rw [h.1]; exact Bool.false_ne_true), if_pos h.2]

/-- A packet that ends in EDB or fails its check is passed on as a bad one; only the second is counted. -/
theorem receiveE_bad {f : State → Except Fault State} (h : w.edb = true ∨ w.check ≠ pktCheck k) :
    receiveE p k w f s = .ok (passBad p k w (if w.edb then s else s.inc (F.CH_CTRL_STAT_BAD p))) := by
  unfold receiveE
  cases hedb : w.edb
  · have hcheck : w.check ≠ pktCheck k := h.resolve_left (by simp [hedb])
    simp [hcheck]
  · simp

theorem run_onPort {f : State → State} (ha : s.acts) (hport : s.hasPort p = true) :
    run (onPort p f) s = .next (settle (f s.fresh)) := by
  rw [run_acts _ ha, onPort_pos (s := s.fresh) _ _ hport]

theorem run_onPort_receive {f : State → State} (ha : s.acts) (hport : s.hasPort p = true) (hgood : w.good k) :
    run (onPort p (receive p k w f)) s = .next (settle (f s.fresh)) := by
  rw [run_onPort ha hport, receive_good hgood]

theorem runF_onPort_receive {f : State → Except Fault State} (ha : s.acts) (hport : s.hasPort p = true) (hgood : w.good k)
    (hf : f s.fresh = .ok t) : runF (onPortE p (receiveE p k w f)) s = .next (settle t) :=
  runF_ok _ ha (by rw [onPortE_pos (s := s.fresh) _ _ hport, receiveE_good hgood, hf])

end

/-! ### Passing on and answering (R151, R154) -/

section
variable (p : Nat) (k : Pkt) (s : State)

theorem answer_regs : (answer p k s).regs = s.regs := by
  unfold answer
  split <;> rfl

theorem answer_kept : (answer p k s).kept = s.kept := by
  unfold answer
  split <;> rfl

theorem answer_ports : (answer p k s).ports = s.ports := by
  unfold answer
  split <;> rfl

theorem answer_out : (answer p k s).out = s.out ++ if s.linked p && !(s.port p).txGivenUp then [.ctrl p k] else [] := by
  unfold answer
  split <;> simp

theorem forward_regs : (forward p k s).regs = s.regs := by
  unfold forward
  split <;> rfl

theorem forward_kept : (forward p k s).kept = s.kept := by
  unfold forward
  split <;> rfl

theorem forward_out : (forward p k s).out = s.out ++ if s.linked (1 - p) then [.ctrl (1 - p) k] else [] := by
  unfold forward
  split <;> simp

/-- What passes on changes only what has been sent. -/
theorem forward_eq : forward p k s = { s with out := (forward p k s).out } := by
  unfold forward
  split <;> rfl

end

theorem frame_of_same_regs {l : List Fld} {s t u : State} (hr : t.regs = s.regs) (hk : t.kept = u.kept) : Frame l s u (settle t) :=
  (Writes.refl l t).frame hr hk

/-- What passes on is sent, and nothing else changes. -/
theorem forward_settled (p : Nat) (k : Pkt) (s : State) :
    Sent (if s.linked (1 - p) then [.ctrl (1 - p) k] else []) (settle (forward p k s.fresh)) ∧
      Frame [] s s (settle (forward p k s.fresh)) :=
  ⟨forward_out p k s.fresh, frame_of_same_regs (forward_regs p k s.fresh) (forward_kept p k s.fresh)⟩

theorem answerLast_ack {p src : Nat} {s : State} (seq : Nat) (h : Tab.get (fun _ => none) (s.port p).lastRead src = none) :
    answerLast p src seq s = answer p (ackPkt s.addr src seq (Tab.get (fun _ => 0) (s.port p).lastResult src)) s := by
  rw [answerLast, h]

theorem answerLast_read {p src : Nat} {s : State} {vals : List Nat} (seq : Nat)
    (h : Tab.get (fun _ => none) (s.port p).lastRead src = some vals) : answerLast p src seq s = answer p (rdRespPkt s.addr src seq vals) s := by
  rw [answerLast, h]

/-! ### A packet executed at most once (R154) -/

section
variable {s t : State} {p result : Nat} {k : Pkt} {f : State → Except Fault State}

theorem execOnceE_other (ht : s.tileLike = true) (h0 : k.dest ≠ 0) (hff : k.dest ≠ 0xFF) (ha : k.dest ≠ s.addr) :
    execOnceE p k result f s = .ok (forward p k s) := by
  simp [execOnceE, ht, h0, hff, ha]

theorem execOnceE_unicast (ht : s.tileLike = true) (h0 : k.dest ≠ 0) (hff : k.dest ≠ 0xFF) (ha : k.dest = s.addr)
    (hdup : s.duplicate p k.src k.seq k.dest = false) (hf : f s = .ok t) :
    execOnceE p k result f s = .ok (answerLast p k.src k.seq (noteExec p k.src k.seq k.dest result t)) := by
  simp [execOnceE, ht, h0, hff, ← ha, hdup, hf]

theorem execOnceE_repeated (ht : s.tileLike = true) (h0 : k.dest ≠ 0) (hff : k.dest ≠ 0xFF) (ha : k.dest = s.addr)
    (hdup : s.duplicate p k.src k.seq k.dest = true) :
    execOnceE p k result f s = .ok (answerLast p k.src k.seq (s.inc (F.CH_CTRL_STAT_DUP p))) := by
  simp [execOnceE, ht, h0, hff, ← ha, hdup]

theorem execOnce_broadcast {g : State → State} (ht : s.tileLike = true) (hff : k.dest = 0xFF)
    (hdup : s.duplicate p k.src k.seq 0xFF = false) :
    execOnce p k result g s = noteExec p k.src k.seq 0xFF result (g (forward p k s)) := by
  have hdup' : (forward p k s).duplicate p k.src k.seq 0xFF = false := by
    rw [forward_eq]
    exact hdup
  simp [execOnce, execOnceE, ht, hff, hdup']

/-- The port's record after a unicast was executed. -/
theorem noteExec_unicast (p src seq result : Nat) {dest : Nat} (hff : dest ≠ 0xFF) (s : State) :
    noteExec p src seq dest result s = s.setPort p fun x =>
      { x with lastExec := Tab.set (fun _ => none) src (some seq) x.lastExec, lastResult := Tab.set (fun _ => 0) src result x.lastResult,
               lastRead := Tab.set (fun _ => none) src none x.lastRead } := by
  simp only [noteExec, hff, if_false]

end

/-! ### Payloads -/

theorem leBytes_length (n v : Nat) : (leBytes n v).length = n := by
  induction n generalizing v with
  | zero => rfl
  | succ n ih => rw [leBytes, List.length_cons, ih]

theorem ofLe_leBytes {n v : Nat} (h : v < 256 ^ n) : ofLe (leBytes n v) = v := by
  induction n generalizing v with
  | zero =>
    have hzero : v = 0 := by simpa using h
    rw [hzero]
    rfl
  | succ n ih =>
    have hrest : v / 256 < 256 ^ n := by
      rw [pow_succ] at h
      exact Nat.div_lt_of_lt_mul (by rwa [Nat.mul_comm])
    rw [leBytes, ofLe, ih hrest]
    omega

theorem ofLe_leBytes_word (v : Word) : ofLe (leBytes 4 v.toNat) = v.toNat := ofLe_leBytes v.isLt

theorem wordsOf_length (n : Nat) (l : List Nat) : (wordsOf n l).length = n := by
  induction n generalizing l with
  | zero => rfl
  | succ n ih => rw [wordsOf, List.length_cons, ih]

/-! ### Counts, ports and hops -/

section
variable {s t : State}

theorem Writes.inc {l : List Fld} (h : Writes l s t) {f : Fld} (hf : f ∈ l) : Writes l s (t.inc f) := h.put hf _

theorem inc_writes (s : State) (f : Fld) : Writes [f] s (s.inc f) := (Writes.refl [f] s).inc List.mem_cons_self

theorem State.more_of_regs (h : t.regs = s.regs) (f : Fld) : t.more f = s.more f := by
  unfold State.more
  rw [State.get_of_regs h]

theorem settle_port (s : State) (p : Nat) : (settle s).port p = s.port p := by
  unfold State.port
  rw [settle_ports]

theorem State.inc_port (s : State) (f : Fld) (p : Nat) : (s.inc f).port p = s.port p := by
  unfold State.port
  rw [State.inc_ports]

theorem State.inc_hop (s : State) (f : Fld) (p : Nat) : (s.inc f).hop p = s.hop p := by
  unfold State.hop
  rw [State.inc_upd]

theorem State.send_hop (s : State) (o : Out) (p : Nat) : (s.send o).hop p = s.hop p := rfl

theorem State.setPort_hop (s : State) (p : Nat) (g : Port → Port) (q : Nat) : (s.setPort p g).hop q = s.hop q := rfl

theorem Writes.hop {l : List Fld} (h : Writes l s t) (p : Nat) : t.hop p = s.hop p := by
  unfold State.hop
  rw [h.same State.upd fun _ _ => rfl]

end

/-! ### Answers at a sender (R152, R154) -/

section
variable {s : State} {p src dest seq : Nat} {f : InFlight}

theorem State.answers_of_unacked (hf : Tab.get (fun _ => none) (s.port p).unacked src = some f) (hseq : f.pkt.seq = seq) : s.answers p src seq = true := by
  simp [State.answers, hf, hseq]

theorem opAckHop_host (result : Nat) (k : Pkt) (hs : s.isSender = true) (hf : Tab.get (fun _ => none) (s.port p).unacked src = some f)
    (hseq : f.pkt.seq = seq) (hhost : f.host = true) (hhop : s.hop p = none) (hwait : (s.port p).uniWait = []) :
    opAckHop p src seq result k s = txResult p 3 result (dropUnacked p src s) := by
  have hans := State.answers_of_unacked hf hseq
  have hidle : (txResult p 3 result (dropUnacked p src s)).hop p = none :=
    ((txResult_writes p 3 result _).hop p).trans hhop
  simp only [opAckHop, opAck, State.forMe_of_sender hs, hans, if_true, endUnicast_host 3 result hf hhost hwait, hopAnswered, hidle, Bool.and_self]

/-- At any other tile an ACK passes on. -/
theorem opAckHop_passes (result : Nat) {k : Pkt} (hs : s.isSender = false) (ht : s.tileLike = true) (hme : s.addr = 0 ∨ k.dest ≠ s.addr)
    (h0 : k.dest ≠ 0) : opAckHop p src seq result k s = forward p k s := by
  have hfor : s.forMe k.dest = false := by
    rcases hme with h | h <;> simp [State.forMe, hs, h]
  simp [opAckHop, opAck, hfor, ht, h0]

theorem opRdResp_host {k : Pkt} (hs : s.isSender = true) (hf : Tab.get (fun _ => none) (s.port p).unacked k.src = some f)
    (hseq : f.pkt.seq = k.seq) (hhost : f.host = true) (hwait : (s.port p).uniWait = []) :
    opRdResp p k s = txResult p 3 0 (dropUnacked p k.src (rxPush p k s)) := by
  have hport : (rxPush p k s).port p = { s.port p with rxq := (s.port p).rxq ++ [k] } := State.port_setPort_same _ _ _
  have hf' : Tab.get (fun _ => none) ((rxPush p k s).port p).unacked k.src = some f := by
    rw [hport]
    exact hf
  have hwait' : ((rxPush p k s).port p).uniWait = [] := by
    rw [hport]
    exact hwait
  simp only [opRdResp, State.forMe_of_sender hs, State.answers_of_unacked hf hseq, if_true, endUnicast_host 3 0 hf' hhost hwait']

end

/-! ### Resending (R154, R155) -/

/-- A resend of the packet `k`: RETRIES is one on, and the port's record changed. -/
def resend (p : Nat) (g : Port → Port) (k : Pkt) (s : State) : State := ((s.setPort p g).inc (F.CH_CTRL_STAT_RETRIES p)).send (.ctrl p k)

theorem resend_hop (p : Nat) (g : Port → Port) (k : Pkt) (s : State) : (resend p g k s).hop p = s.hop p := by
  rw [resend, State.send_hop, State.inc_hop, State.setPort_hop]

theorem resend_writes (p : Nat) (g : Port → Port) (k : Pkt) (s : State) :
    Writes [F.CH_CTRL_STAT_RETRIES p] ((s.setPort p g).send (.ctrl p k)) (resend p g k s) :=
  (inc_writes (s.setPort p g) _).map (·.send (.ctrl p k)) fun _ _ => rfl

theorem resend_count (p : Nat) (g : Port → Port) (k : Pkt) (s : State) :
    (resend p g k s).get (F.CH_CTRL_STAT_RETRIES p) = s.more (F.CH_CTRL_STAT_RETRIES p) := by
  rw [resend, State.send_get, State.get_inc_same _ rfl, State.more_of_regs (State.setPort_regs s p g)]

theorem resend_settled (p : Nat) (g : Port → Port) (k : Pkt) (s : State) :
    let t := settle (resend p g k s.fresh)
    t.get (F.CH_CTRL_STAT_RETRIES p) = s.more (F.CH_CTRL_STAT_RETRIES p) ∧ t.port p = g (s.port p) ∧ Sent [.ctrl p k] t ∧
      Frame [F.CH_CTRL_STAT_RETRIES p] s { s with ports := t.ports } t := by
  have hcount := (resend_count p g k s.fresh).trans (State.more_of_regs (State.fresh_regs s) _)
  have hw := resend_writes p g k s.fresh
  generalize resend p g k s.fresh = t at *
  refine ⟨(settle_get t _).trans hcount, ?_, hw.sent, hw.portFrame rfl rfl⟩
  exact (settle_port t p).trans ((hw.port p).trans (State.port_setPort_same s.fresh p g))

section
variable {s : State} {p src dest seq : Nat} {f : InFlight}

/-- A packet as it is sent again. -/
abbrev InFlight.again (f : InFlight) : Pkt := { f.pkt with flags := f.pkt.flags ||| 2 }

theorem opRetryHop_resends (hf : Tab.get (fun _ => none) (s.port p).unacked dest = some f) (hn : f.resends < 3) (hhop : s.hop p = none) :
    opRetryHop p dest s = resend p (fun x =>
      { x with unacked := Tab.set (fun _ => none) dest (some { f with pkt := f.again, resends := f.resends + 1 }) x.unacked }) f.again s := by
  have hretry : opCtrlRetry p dest s = resend p (fun x =>
      { x with unacked := Tab.set (fun _ => none) dest (some { f with pkt := f.again, resends := f.resends + 1 }) x.unacked }) f.again s := by
    unfold opCtrlRetry
    simp only [hf]
    rw [if_pos hn]
    rfl
  simp only [opRetryHop, hretry, resend_hop, hhop]

theorem opRetryHop_gives_up (hf : Tab.get (fun _ => none) (s.port p).unacked dest = some f) (hn : 3 ≤ f.resends) (hhost : f.host = true)
    (hhop : s.hop p = none) (hwait : (s.port p).uniWait = []) :
    opRetryHop p dest s = txResult p 4 0 (dropUnacked p dest (s.inc (F.CH_CTRL_STAT_NOACK p))) := by
  have hend : endUnicast p dest 4 0 (s.inc (F.CH_CTRL_STAT_NOACK p)) = txResult p 4 0 (dropUnacked p dest (s.inc (F.CH_CTRL_STAT_NOACK p))) :=
    endUnicast_host 4 0 (by rw [State.inc_port, hf]) hhost (by rw [State.inc_port, hwait])
  have hretry : opCtrlRetry p dest s = endUnicast p dest 4 0 (s.inc (F.CH_CTRL_STAT_NOACK p)) := by
    rw [opCtrlRetry, hf]
    exact if_neg (Nat.not_lt.mpr hn)
  have hidle : (txResult p 4 0 (dropUnacked p dest (s.inc (F.CH_CTRL_STAT_NOACK p)))).hop p = none := by
    rw [(txResult_writes p 4 0 _).hop, dropUnacked, State.setPort_hop, State.inc_hop, hhop]
  simp only [opRetryHop, hretry, hend, hidle]

theorem opBcastTimeout_resends (hf : (s.port p).bcast = some f) (hframes : 3 ≤ f.frames) (hn : f.resends < 3) :
    opBcastTimeout p s = resend p (fun x => { x with bcast := some { f with pkt := f.again, resends := f.resends + 1, frames := 0 } }) f.again s := by
  rw [opBcastTimeout, hf]
  exact (if_neg (Nat.not_lt.mpr hframes)).trans (if_pos hn)

end

/-! ### What the end of a unicast shows (R154, R169) -/

/-- What the end of a host's unicast shows: the final state, and the record gone. -/
theorem txResult_unicast_done {s v : State} {p dest st result : Nat} (h3 : 3 ≤ st) (h16 : st < 16) (hout : v.out = []) (hr : v.regs = s.regs)
    (hk : v.kept = { s with ports := v.ports }.kept) :
    let t := settle (txResult p st result (dropUnacked p dest v))
    t.get (F.CH_CTRL_TX_RESULT_STATE p) = st ∧ t.get (F.CH_CTRL_TX_RESULT_RESULT p) = result % 2 ^ (F.CH_CTRL_TX_RESULT_RESULT p).width ∧
      t.get (F.CH_CTRL_TX_RESULT_VALID p) = 1 ∧ t.get (F.CH_CTRL_TX_RESULT_SEQ p) = s.wrap (F.CH_CTRL_TX_RESULT_SEQ p) ∧
      Tab.get (fun _ => none) (t.port p).unacked dest = none ∧ Sent [] t ∧ Frame (txResultFlds p) s { s with ports := t.ports } t := by
  obtain ⟨hstate, hresult, hvalid, hseq⟩ := txResult_final p result h3 h16 (dropUnacked p dest v)
  have hw := txResult_writes p st result (dropUnacked p dest v)
  have hgone := dropUnacked_unacked p dest v
  have hseqs : (dropUnacked p dest v).wrap (F.CH_CTRL_TX_RESULT_SEQ p) = s.wrap (F.CH_CTRL_TX_RESULT_SEQ p) := by
    unfold State.wrap
    rw [State.get_of_regs (s := s) (t := dropUnacked p dest v) hr]
  have hsent : Sent (dropUnacked p dest v).out _ := hw.sent
  have hframe := hw.portFrame (s := s) hr (congrArg (fun u : State => { u with ports := (dropUnacked p dest v).ports }) hk)
  generalize txResult p st result (dropUnacked p dest v) = t at *
  intro u
  exact ⟨(settle_get t _).trans hstate, (settle_get t _).trans hresult, (settle_get t _).trans hvalid, (settle_get t _).trans (hseq.trans hseqs),
    (congrArg (fun x : Port => Tab.get (fun _ => none) x.unacked dest) ((settle_port t p).trans (hw.port p))).trans hgone, hsent.trans hout, hframe⟩

/-- What giving a host's unicast up shows: NOACK is one on, CH_CTRL_TX_RESULT is in state 4, and the record is gone. -/
theorem noack_settled (p dest : Nat) (s : State) :
    let t := settle (txResult p 4 0 (dropUnacked p dest (s.fresh.inc (F.CH_CTRL_STAT_NOACK p))))
    t.get (F.CH_CTRL_STAT_NOACK p) = s.more (F.CH_CTRL_STAT_NOACK p) ∧ t.get (F.CH_CTRL_TX_RESULT_STATE p) = 4 ∧
      t.get (F.CH_CTRL_TX_RESULT_VALID p) = 1 ∧ Tab.get (fun _ => none) (t.port p).unacked dest = none ∧ Sent [] t ∧
      Frame (F.CH_CTRL_STAT_NOACK p :: txResultFlds p) s { s with ports := t.ports } t := by
  have hcount : Writes (F.CH_CTRL_STAT_NOACK p :: txResultFlds p) (dropUnacked p dest s.fresh)
      (dropUnacked p dest (s.fresh.inc (F.CH_CTRL_STAT_NOACK p))) :=
    ((Writes.refl _ s.fresh).inc List.mem_cons_self).map (dropUnacked p dest) fun _ _ => rfl
  have hresult := txResult_writes p 4 0 (dropUnacked p dest (s.fresh.inc (F.CH_CTRL_STAT_NOACK p)))
  have hnoack : (dropUnacked p dest (s.fresh.inc (F.CH_CTRL_STAT_NOACK p))).get (F.CH_CTRL_STAT_NOACK p) = s.more (F.CH_CTRL_STAT_NOACK p) := by
    rw [dropUnacked, State.setPort_get, State.get_inc_same _ rfl, State.more_of_regs (State.fresh_regs s)]
  have hapart : ∀ g ∈ txResultFlds p, g.sep (F.CH_CTRL_STAT_NOACK p) = true := by
    have hne : atCH p 0x78 ≠ atCH p 0x30 := atCH_ne p p (by decide)
    simp [txResultFlds, Fld.sep, F.CH_CTRL_TX_RESULT_STATE, F.CH_CTRL_TX_RESULT_RESULT, F.CH_CTRL_TX_RESULT_VALID, F.CH_CTRL_TX_RESULT_SEQ,
      F.CH_CTRL_STAT_NOACK, hne]
  obtain ⟨hstate, -, hvalid, -⟩ := txResult_final p 0 (st := 4) (by decide) (by decide) (dropUnacked p dest (s.fresh.inc (F.CH_CTRL_STAT_NOACK p)))
  have hgone := dropUnacked_unacked p dest (s.fresh.inc (F.CH_CTRL_STAT_NOACK p))
  have hport := hresult.port p
  have hall := hcount.trans (hresult.mono (List.subset_cons_self _ _))
  have hkept := hresult.get hapart
  generalize txResult p 4 0 (dropUnacked p dest (s.fresh.inc (F.CH_CTRL_STAT_NOACK p))) = t at *
  exact ⟨(settle_get t _).trans (hkept.trans hnoack), (settle_get t _).trans hstate, (settle_get t _).trans hvalid,
    (congrArg (fun x : Port => Tab.get (fun _ => none) x.unacked dest) ((settle_port t p).trans hport)).trans hgone,
    hall.sent, hall.portFrame rfl rfl⟩

/-! ### What writing registers leaves as it was on the chain -/

section
variable {l : List Fld} {s t : State}

theorem Writes.get_of_addr (h : Writes l s t) {f : Fld} (hl : ∀ g ∈ l, g.addr ≠ f.addr) : t.get f = s.get f :=
  h.get fun g hg => Fld.sep_of_addr_ne (hl g hg)

theorem Writes.linked (h : Writes l s t) (q : Nat) (hl : ∀ g ∈ l, g.addr ≠ atCH q 0) : t.linked q = s.linked q := by
  unfold State.linked
  rw [h.get_of_addr (f := F.CH_TRAIN_STATE_STATE q) hl]

theorem Writes.addr (h : Writes l s t) (hl : ∀ g ∈ l, g.addr ≠ atCH 0 0xC) : t.addr = s.addr := h.get_of_addr (f := F.CH_ENUM_ADDR_COUNT 0) hl

/-- Writing chain registers changes no part's role. -/
theorem Writes.tileLike (h : Writes l s t) (hl : ∀ g ∈ l, 0x1000000 ≤ g.addr) : t.tileLike = s.tileLike := by
  have hrind : ∀ f : Fld, f.addr < 0x1000000 → t.get f = s.get f := fun f hf =>
    h.get_of_addr fun g hg => Nat.ne_of_gt (Nat.lt_of_lt_of_le hf (hl g hg))
  unfold State.tileLike State.isTile State.noMouldTile State.role State.on
  rw [hrind F.RD_DIE_STATE_ROLE (by decide), hrind F.RD_MOULD_STATUS_STATE (by decide), hrind F.RD_MOULD_STATUS_VALID (by decide),
    hrind F.RD_DIE_STATE_DIE_RUN (by decide)]

end

/-! ### Counts of control packets -/

/-- A count of CH_CTRL_STAT. -/
def CtrlCount (p : Nat) (f : Fld) : Prop := f.addr = atCH p 0x30 ∧ f.ok = true

section
variable {p : Nat} {f : Fld} {s t : State}

theorem CtrlCount.linked (hf : CtrlCount p f) (h : Writes [f] s t) (q : Nat) : t.linked q = s.linked q := by
  refine h.linked q fun g hg => ?_
  rw [List.mem_singleton.mp hg, hf.1]
  exact atCH_ne p q (by decide)

theorem CtrlCount.addr (hf : CtrlCount p f) (h : Writes [f] s t) : t.addr = s.addr := by
  refine h.addr fun g hg => ?_
  rw [List.mem_singleton.mp hg, hf.1]
  exact atCH_ne p 0 (by decide)

theorem CtrlCount.tileLike (hf : CtrlCount p f) (h : Writes [f] s t) : t.tileLike = s.tileLike := by
  refine h.tileLike fun g hg => ?_
  rw [List.mem_singleton.mp hg, hf.1]
  exact atCH_ge p 0x30

end

theorem ctrlCount_dup (p : Nat) : CtrlCount p (F.CH_CTRL_STAT_DUP p) := ⟨rfl, rfl⟩

theorem ctrlCount_bad (p : Nat) : CtrlCount p (F.CH_CTRL_STAT_BAD p) := ⟨rfl, rfl⟩

/-! ### Answers of a tile -/

/-- An answer changes only what has been sent. -/
theorem answer_eq (p : Nat) (k : Pkt) (s : State) : answer p k s = { s with out := (answer p k s).out } := by
  unfold answer
  split <;> rfl

theorem answer_get (p : Nat) (k : Pkt) (s : State) (f : Fld) : (answer p k s).get f = s.get f := State.get_of_regs (answer_regs p k s) f

theorem answer_port (p q : Nat) (k : Pkt) (s : State) : (answer p k s).port q = s.port q := by
  unfold State.port
  rw [answer_ports]

theorem answer_fresh (p : Nat) (k : Pkt) (s : State) :
    Sent (if s.linked p && !(s.port p).txGivenUp then [.ctrl p k] else []) (settle (answer p k s.fresh)) ∧
      Frame [] s s (settle (answer p k s.fresh)) :=
  ⟨answer_out p k s.fresh, frame_of_same_regs (answer_regs p k s.fresh) (answer_kept p k s.fresh)⟩

/-- A count and then an answer, of a part in which only what was sent has changed since the step began. -/
theorem answer_counted {s : State} {p : Nat} {f : Fld} {o : List Out} (k : Pkt) (hf : CtrlCount p f) :
    let t := settle (answer p k (({ s.fresh with out := o } : State).inc f))
    t.get f = s.more f ∧ Sent (o ++ if s.linked p && !(s.port p).txGivenUp then [.ctrl p k] else []) t ∧ Frame [f] s s t := by
  have hcount := (State.get_inc_same (s := { s.fresh with out := o }) f hf.2).trans (State.more_of_regs (s := s) rfl f)
  have hlinked : (({ s.fresh with out := o } : State).inc f).linked p = s.linked p := hf.linked (inc_writes _ f) p
  have hport : (({ s.fresh with out := o } : State).inc f).port p = s.port p := State.inc_port { s.fresh with out := o } f p
  have hout : (({ s.fresh with out := o } : State).inc f).out = o := State.inc_out { s.fresh with out := o } f
  have hw := inc_writes { s.fresh with out := o } f
  generalize ({ s.fresh with out := o } : State).inc f = v at *
  refine ⟨?_, ?_, ?_⟩
  · rw [settle_get, answer_get, hcount]
  · rw [Sent, settle_out, answer_out, hout, hlinked, hport]
  · rw [answer_eq]
    exact (hw.map (fun u => { u with out := (answer p k v).out }) fun _ _ => rfl).frame rfl rfl

/-! ### Packets not executed -/

theorem badPayload_unicast {s : State} {p : Nat} {k : Pkt} (ht : s.tileLike = true) (h0 : k.dest ≠ 0) (hff : k.dest ≠ 0xFF) (ha : k.dest = s.addr) :
    badPayload p k s = answer p (ackPkt s.addr k.src k.seq 2) s := by
  simp [badPayload, ht, h0, hff, ← ha]

theorem badPayload_other {s : State} {p : Nat} {k : Pkt} (ht : s.tileLike = true) (h0 : k.dest ≠ 0) (ha : k.dest ≠ s.addr) :
    badPayload p k s = forward p k s := by
  simp [badPayload, ht, h0, ha]

theorem wordsIn_some {data l : List Nat} (h : wordsIn data = some l) : data.length % 4 = 0 ∧ data.length ≤ 248 ∧ l.length = data.length / 4 := by
  unfold wordsIn at h
  split at h
  next hc =>
    obtain ⟨hmod, hle⟩ : data.length % 4 = 0 ∧ data.length ≤ 248 := by simpa using hc
    rw [← Option.some.inj h]
    exact ⟨hmod, hle, wordsOf_length _ _⟩
  next => cases h

/-- A REG_WR whose payload is not at most 31 whole pairs is a bad payload. -/
theorem opRegWr_bad {p : Nat} {k : Pkt} (s : State) (h : k.data.length % 8 ≠ 0 ∨ 248 < k.data.length) : opRegWr p k s = .ok (badPayload p k s) := by
  unfold opRegWr
  split
  next l hl =>
    obtain ⟨hmod, hle, hlen⟩ := wordsIn_some hl
    exact if_neg (by omega)
  next => rfl

theorem opRegWr_pairs {p : Nat} {k : Pkt} {l : List Nat} (s : State) (hl : wordsIn k.data = some l) (heven : l.length % 2 = 0) :
    opRegWr p k s = execOnceE p k 0 (writeAll (pairUp l)) s := by
  rw [opRegWr, hl]
  exact if_pos heven

/-- A REG_RD for another tile passes on, whatever its payload. -/
theorem opRegRd_other {s : State} {p : Nat} {k : Pkt} (ht : s.tileLike = true) (h0 : k.dest ≠ 0) (ha : k.dest ≠ s.addr) :
    opRegRd p k s = .ok (forward p k s) := by
  unfold opRegRd
  split
  next => rw [badPayload_other ht h0 ha]
  next addrs _ =>
    rw [if_neg (by simp [ha])]
    by_cases hff : k.dest = 0xFF
    · rw [if_pos hff, if_pos ht]
    · rw [if_neg hff, execOnceE_other ht h0 hff ha]

/-- A bad packet for another part of the chain goes on ended in EDB. -/
theorem passBad_other {s : State} {p : Nat} {k : Pkt} (w : PktEnd) (ht : s.tileLike = true) (hctrl : isWhey k = false) (hty : k.ty ≠ 1 ∧ k.ty ≠ 2)
    (h0 : k.dest ≠ 0) (ha : k.dest ≠ s.addr) :
    passBad p k w s = if s.linked (1 - p) then s.send (.relay (1 - p) (pktSyms k w.check true)) else s := by
  cases hlinked : s.linked (1 - p) <;> simp [passBad, ht, hctrl, hty, h0, ha, hlinked]

theorem passBad_settled {s u : State} {p : Nat} {k : Pkt} (w : PktEnd) (hw : Writes [F.CH_CTRL_STAT_BAD p] s.fresh u) (ht : s.tileLike = true)
    (hctrl : isWhey k = false) (hty : k.ty ≠ 1 ∧ k.ty ≠ 2) (h0 : k.dest ≠ 0) (ha : k.dest ≠ s.addr) :
    let t := settle (passBad p k w u)
    t.get (F.CH_CTRL_STAT_BAD p) = u.get (F.CH_CTRL_STAT_BAD p) ∧
      Sent (if s.linked (1 - p) then [.relay (1 - p) (pktSyms k w.check true)] else []) t ∧ Frame [F.CH_CTRL_STAT_BAD p] s s t := by
  have hbad := ctrlCount_bad p
  have hout : u.out = [] := hw.same State.out fun _ _ => rfl
  rw [passBad_other w ((hbad.tileLike hw).trans ht) hctrl hty h0 (by rwa [hbad.addr hw, State.fresh_v_addr]), hbad.linked hw, State.fresh_v_linked]
  cases s.linked (1 - p)
  · exact ⟨rfl, hout, hw.frame rfl rfl⟩
  · refine ⟨rfl, ?_, ?_⟩
    · exact congrArg (· ++ [Out.relay (1 - p) (pktSyms k w.check true)]) hout
    · exact (hw.map (fun v => v.send (.relay (1 - p) (pktSyms k w.check true))) fun _ _ => rfl).frame rfl rfl

theorem opRegWr_repeated {s : State} {p : Nat} {k : Pkt} {l : List Nat} (ht : s.tileLike = true)
    (hdest : k.dest ≠ 0xFF ∧ k.dest = s.addr ∧ k.dest ≠ 0) (hl : wordsIn k.data = some l) (heven : l.length % 2 = 0)
    (hdup : s.duplicate p k.src k.seq k.dest = true) (hread : Tab.get (fun _ => none) (s.port p).lastRead k.src = none) :
    opRegWr p k s = .ok (answer p (ackPkt s.addr k.src k.seq (Tab.get (fun _ => 0) (s.port p).lastResult k.src)) (s.inc (F.CH_CTRL_STAT_DUP p))) := by
  obtain ⟨hff, ha, h0⟩ := hdest
  have hport := State.inc_port s (F.CH_CTRL_STAT_DUP p) p
  rw [opRegWr_pairs s hl heven, execOnceE_repeated ht h0 hff ha hdup, answerLast_ack k.seq (by rw [hport, hread]),
    (ctrlCount_dup p).addr (inc_writes s _), hport]

/-! ### Payloads of whole words -/

theorem wordsOf_flatMap (l : List Nat) (hl : ∀ v ∈ l, v < 256 ^ 4) : wordsOf l.length (l.flatMap (leBytes 4)) = l := by
  induction l with
  | nil => rfl
  | cons v l ih =>
    rw [List.flatMap_cons, List.length_cons, wordsOf, List.take_left' (leBytes_length 4 v), List.drop_left' (leBytes_length 4 v),
      ofLe_leBytes (hl v List.mem_cons_self), ih fun x hx => hl x (List.mem_cons_of_mem v hx)]

theorem flatMap_leBytes_length (l : List Nat) : (l.flatMap (leBytes 4)).length = 4 * l.length := by
  induction l with
  | nil => rfl
  | cons v l ih =>
    rw [List.flatMap_cons, List.length_append, leBytes_length, ih, List.length_cons]
    omega

theorem wordsIn_flatMap {l : List Nat} (hl : ∀ v ∈ l, v < 256 ^ 4) (hlen : l.length ≤ 62) : wordsIn (l.flatMap (leBytes 4)) = some l := by
  have hbytes := flatMap_leBytes_length l
  rw [wordsIn, if_pos, hbytes, Nat.mul_div_cancel_left _ (by decide), wordsOf_flatMap l hl]
  rw [Bool.and_eq_true, decide_eq_true_eq, decide_eq_true_eq]
  omega

/-! ### RD_IRQ_EN0, a register of plain RW bits -/

theorem regAt_irqEn0 : ∃ r, regAt 0x708 = some r ∧ r.named = BitVec.allOnes 32 ∧ r.rwBits = BitVec.allOnes 32 ∧ r.w1cBits = 0#32 ∧
    r.rwsBits = 0#32 ∧ r.woBits = 0#32 ∧ r.act = none := by
  have h : (regAt 0x708).any (fun r => decide (r.named = BitVec.allOnes 32 ∧ r.rwBits = BitVec.allOnes 32 ∧ r.w1cBits = 0#32 ∧
    r.rwsBits = 0#32 ∧ r.woBits = 0#32 ∧ r.act = none)) = true := by decide +kernel
  obtain ⟨r, hr, hbits⟩ := (Option.any_eq_true _ _).mp h
  exact ⟨r, hr, of_decide_eq_true hbits⟩

/-- What writing RD_IRQ_EN0 whole does, and leaves as it was on the chain. -/
theorem wr_irqEn0 (s : State) (v : Word) :
    Writes [F.RD_IRQ_EN0_EN] s (s.wr 0x708 v) ∧ (s.wr 0x708 v).get F.RD_IRQ_EN0_EN = v.toNat ∧ (s.wr 0x708 v).addr = s.addr ∧
      ∀ p, (s.wr 0x708 v).linked p = s.linked p := by
  have hw : Writes [F.RD_IRQ_EN0_EN] s (s.wr 0x708 v) := (Writes.refl _ s).wr (a := 0x708) List.mem_cons_self v
  have hrind : ∀ q off, ∀ g ∈ [F.RD_IRQ_EN0_EN], g.addr ≠ atCH q off := by
    intro q off g hg
    have hge := atCH_ge q off
    have haddr : g.addr = 0x708 := by rw [List.mem_singleton.mp hg]; rfl
    omega
  exact ⟨hw, (State.get_wr_same s F.RD_IRQ_EN0_EN v).trans (Nat.mod_eq_of_lt v.isLt), hw.addr (hrind 0 0xC), fun p => hw.linked p (hrind p 0)⟩

theorem hostWrite_irqEn0 (v : Word) (s : State) : hostWrite 0x708 v s = .ok (s.wr 0x708 v) := by
  obtain ⟨r, hr, hnamed, hrw, hw1c, hrws, -⟩ := regAt_irqEn0
  have hplain : plainWrite 0x708 r v s = s.wr 0x708 v := by
    simp only [plainWrite, hrw, hw1c, hrws, BitVec.not_allOnes, BitVec.and_zero, BitVec.zero_or, BitVec.and_allOnes, BitVec.not_zero]
    exact if_pos rfl
  have hwrite : writeReg 0x708 v r s = s.wr 0x708 v := by
    rw [← hplain]
    simp [writeReg, dieOf, writeRind]
  have hans : s.answersAt 0x708 = true := rfl
  have hkey : s.regKey 0x708 = 0x708 := rfl
  simp [hostWrite, hans, hkey, hr, hnamed, hwrite]

theorem readReg_irqEn0 {s : State} (hc : Tab.get (fun _ => none) s.acc.captured 0x708 = none) : readReg 0x708 s = .ok ((s.rd 0x708).toNat, s) := by
  obtain ⟨r, hr, -, -, -, hrws, hwo, hact⟩ := regAt_irqEn0
  have hans : s.answersAt 0x708 = true := rfl
  have hkey : s.regKey 0x708 = 0x708 := rfl
  have hread : actRead 0x708 = none := rfl
  have hlook : s.look 0x708 = (s.rd 0x708).toNat := by
    have hzero : s.readsZero 0x708 = false := by cases hs : s.isSender <;> simp [State.readsZero, hs, dieOf]
    have hrind : viewRind 0x708 s = none := rfl
    have hk24 : viewK24 0x708 s = none := by simp [viewK24]
    have hso : viewSo 0x708 s = none := by
      unfold viewSo
      rw [List.find?_eq_none.mpr]
      · rfl
      · intro p _ h
        have haddr : 0x708 = atCH p 0xA0 := beq_iff_eq.mp h
        have hge := atCH_ge p 0xA0
        omega
    have hplain : plainRead 0x708 r s = s.rd 0x708 := by
      simp only [plainRead, hrws, hwo, BitVec.or_zero, BitVec.not_zero, BitVec.and_allOnes, BitVec.and_zero]
    simp only [State.look, hkey, hzero, hrind, hk24, hso, hr, hact, hplain, Bool.false_eq_true, if_false]
  simp [readReg, hans, hc, hread, hlook]

/-! ### A unicast executed and answered -/

/-- The port's record after a REG_RD from `src` has read `vals`. -/
def lastReadIs (src : Nat) (vals : List Nat) (x : Port) : Port := { x with lastRead := Tab.set (fun _ => none) src (some vals) x.lastRead }

/-- What is answered after registers were written and the port's record changed. -/
theorem answer_after {l : List Fld} {s v t : State} {p : Nat} (k : Pkt) (hw : Writes l v t) (hr : v.regs = s.regs)
    (hk : v.kept = { s with ports := v.ports }.kept) (hout : v.out = []) (hlinked : t.linked p = s.linked p)
    (hgiven : (t.port p).txGivenUp = (s.port p).txGivenUp) :
    let u := settle (answer p k t)
    Sent (if s.linked p && !(s.port p).txGivenUp then [.ctrl p k] else []) u ∧ Frame l s { s with ports := u.ports } u := by
  have hnone : t.out = [] := (hw.same State.out fun _ _ => rfl).trans hout
  refine ⟨?_, ?_⟩
  · rw [Sent, settle_out, answer_out, hnone, hlinked, hgiven, List.nil_append]
  · rw [answer_eq]
    exact (hw.map (fun x => { x with out := (answer p k t).out }) fun _ _ => rfl).portFrame hr hk

/-- The port's record after a unicast from `src` was executed. -/
def executed (src seq result : Nat) (x : Port) : Port :=
  { x with lastExec := Tab.set (fun _ => none) src (some seq) x.lastExec, lastResult := Tab.set (fun _ => 0) src result x.lastResult,
           lastRead := Tab.set (fun _ => none) src none x.lastRead }

theorem answerLast_executed {p src seq result : Nat} (s : State) :
    answerLast p src seq (s.setPort p (executed src seq result)) =
      answer p (ackPkt s.addr src seq result) (s.setPort p (executed src seq result)) := by
  have hread : Tab.get (fun _ => none) ((s.setPort p (executed src seq result)).port p).lastRead src = none := by
    rw [State.port_setPort_same]
    exact Tab.get_set_same (fun _ => none) src none (s.port p).lastRead
  have hresult : Tab.get (fun _ => 0) ((s.setPort p (executed src seq result)).port p).lastResult src = result := by
    rw [State.port_setPort_same]
    exact Tab.get_set_same (fun _ => 0) src result (s.port p).lastResult
  have haddr : (s.setPort p (executed src seq result)).addr = s.addr := State.setPort_get s p _ _
  rw [answerLast_ack seq hread, hresult, haddr]

theorem State.linked_of_regs {s t : State} (h : t.regs = s.regs) (p : Nat) : t.linked p = s.linked p := by
  unfold State.linked
  rw [State.get_of_regs h]

/-- What an executed unicast shows beside the registers it wrote: the SEQ in the port's record, and the ACK. -/
theorem answer_executed {l : List Fld} {s t : State} {r : Nat} (p src seq : Nat) (hw : Writes l s.fresh t) (haddr : t.addr = s.addr)
    (hlinked : t.linked p = s.linked p) :
    let u := settle (answer p (ackPkt t.addr src seq r) (t.setPort p (executed src seq r)))
    (∀ f, u.get f = t.get f) ∧ Tab.get (fun _ => none) (u.port p).lastExec src = some seq ∧
      Sent (if s.linked p && !(s.port p).txGivenUp then [.ctrl p (ackPkt s.addr src seq r)] else []) u ∧
      Frame l s { s with ports := u.ports } u := by
  have hrec : (t.setPort p (executed src seq r)).port p = executed src seq r (s.port p) := by
    rw [State.port_setPort_same, hw.port, State.fresh_v_port]
  have hlinked' : (t.setPort p (executed src seq r)).linked p = s.linked p := by
    rw [State.linked_of_regs (State.setPort_regs t p _), hlinked]
  have hw' : Writes l (s.fresh.setPort p (executed src seq r)) (t.setPort p (executed src seq r)) :=
    hw.map (·.setPort p (executed src seq r)) fun _ _ => rfl
  rw [haddr]
  refine ⟨fun f => ?_, ?_, answer_after (s := s) _ hw' rfl rfl rfl hlinked' (by rw [hrec]; rfl)⟩
  · rw [settle_get, answer_get, State.setPort_get]
  · rw [settle_port, answer_port, hrec]
    exact Tab.get_set_same (fun _ => none) src (some seq) (s.port p).lastExec

/-- What a REG_RD that changed nothing shows: the SEQ in the port's record, and the RD_RESP. -/
theorem answer_read (p src seq : Nat) (vals : List Nat) (s : State) :
    let u := settle (answer p (rdRespPkt s.addr src seq vals) ((s.fresh.setPort p (executed src seq 0)).setPort p (lastReadIs src vals)))
    Tab.get (fun _ => none) (u.port p).lastExec src = some seq ∧
      Sent (if s.linked p && !(s.port p).txGivenUp then [.ctrl p (rdRespPkt s.addr src seq vals)] else []) u ∧
      Frame [] s { s with ports := u.ports } u := by
  generalize hv : (s.fresh.setPort p (executed src seq 0)).setPort p (lastReadIs src vals) = v
  have hrec : v.port p = lastReadIs src vals (executed src seq 0 (s.port p)) := by
    rw [← hv, State.port_setPort_same, State.port_setPort_same, State.fresh_v_port]
  have hregs : v.regs = s.regs := by rw [← hv, State.setPort_regs, State.setPort_regs, State.fresh_regs]
  refine ⟨?_, answer_after (s := s) _ (.refl [] v) hregs (hv ▸ rfl) (hv ▸ rfl) (State.linked_of_regs hregs p) (by rw [hrec]; rfl)⟩
  rw [settle_port, answer_port, hrec]
  exact Tab.get_set_same (fun _ => none) src (some seq) (s.port p).lastExec

/-- A REG_WR of one register that is written whole. -/
theorem opRegWr_executed {s t : State} {p : Nat} {k : Pkt} {a v : Nat} (ht : s.tileLike = true)
    (hdest : k.dest ≠ 0xFF ∧ k.dest = s.addr ∧ k.dest ≠ 0) (hdata : wordsIn k.data = some [a, v]) (hdup : s.duplicate p k.src k.seq k.dest = false)
    (hwrite : hostWrite a (BitVec.ofNat 32 v) s = .ok t) :
    opRegWr p k s = .ok (answer p (ackPkt t.addr k.src k.seq 0) (t.setPort p (executed k.src k.seq 0))) := by
  obtain ⟨hff, ha, h0⟩ := hdest
  have hall : writeAll (pairUp [a, v]) s = .ok t := by
    simp only [pairUp, writeAll, hwrite]
  rw [opRegWr_pairs (l := [a, v]) s hdata (Nat.mod_self 2), execOnceE_unicast ht h0 hff ha hdup hall, noteExec_unicast p k.src k.seq 0 hff]
  exact congrArg _ (answerLast_executed t)

/-- A REG_RD of one register whose read changes nothing. -/
theorem opRegRd_executed {s : State} {p : Nat} {k : Pkt} {a v : Nat} (ht : s.tileLike = true)
    (hdest : k.dest ≠ 0xFF ∧ k.dest = s.addr ∧ k.dest ≠ 0) (hdata : wordsIn k.data = some [a]) (hdup : s.duplicate p k.src k.seq k.dest = false)
    (hread : readReg a s = .ok (v, s)) :
    opRegRd p k s = .ok (answer p (rdRespPkt s.addr k.src k.seq [v]) ((s.setPort p (executed k.src k.seq 0)).setPort p (lastReadIs k.src [v]))) := by
  obtain ⟨hff, ha, h0⟩ := hdest
  have hall : readAll [a] s = .ok ([v], s) := by
    simp only [readAll, hread]
  have hcond : (s.tileLike && decide (k.dest = s.addr) && decide (k.dest ≠ 0) && !s.duplicate p k.src k.seq k.dest) = true := by
    rw [ht, hdup, decide_eq_true ha, decide_eq_true h0]
    rfl
  have hlast : Tab.get (fun _ => none) (((s.setPort p (executed k.src k.seq 0)).setPort p (lastReadIs k.src [v])).port p).lastRead k.src = some [v] := by
    rw [State.port_setPort_same]
    exact Tab.get_set_same (fun _ => none) k.src (some [v]) _
  unfold opRegRd
  simp only [hdata]
  rw [if_pos hcond]
  simp only [hall, noteExec_unicast p k.src k.seq 0 hff]
  exact congrArg _ (answerLast_read k.seq hlast)

/-! ### Broadcasts a tile executes (R123, R59) -/

/-- The state of a tile's command that has passed the packet on and done nothing else. -/
abbrev passedOn (p : Nat) (k : Pkt) (s : State) : State := { s.fresh with out := (forward p k s.fresh).out }

theorem passedOn_out (p : Nat) (k : Pkt) (s : State) : (passedOn p k s).out = if s.linked (1 - p) then [.ctrl (1 - p) k] else [] :=
  forward_out p k s.fresh

/-- The port's record after the broadcast `seq` from `src` was executed. -/
def executedBroadcast (src seq : Nat) (x : Port) : Port := { x with lastExec := Tab.set (fun _ => none) (256 + src) (some seq) x.lastExec }

/-- The last broadcast executed from each end, after `seq` from `src` was. -/
def TileRx.afterBroadcast (src seq : Nat) (r : TileRx) : TileRx := if src = 0xF2 then { r with bcB := seq } else { r with bcA := seq }

theorem noteExec_broadcast (p src seq result : Nat) (s : State) :
    noteExec p src seq 0xFF result s =
      { s.setPort p (executedBroadcast src seq) with tileRx := s.tileRx.afterBroadcast src seq } := by
  simp only [noteExec, if_true]
  rfl

theorem afterBroadcast_seq (src seq : Nat) (r : TileRx) :
    (if src = 0xF2 then (r.afterBroadcast src seq).bcB else (r.afterBroadcast src seq).bcA) = seq := by
  unfold TileRx.afterBroadcast
  split <;> rfl

theorem opCommitGo_waits {s : State} (T : Nat) (hgroup : s.commit.group = none) (hgo : s.commit.go = none) (hhold : s.on F.RD_COMMIT_CTRL_HOLD = true) :
    opCommitGo T s = { s with commit := { s.commit with go := some (T % 2 ^ 32, s.raster.fnum, s.raster.cutDone) } } := by
  simp [opCommitGo, hgroup, hgo, hhold]

theorem execOnce_broadcast_fresh {s : State} {p result : Nat} {k : Pkt} (g : State → State) (ht : s.tileLike = true) (hff : k.dest = 0xFF)
    (hdup : s.duplicate p k.src k.seq 0xFF = false) :
    execOnce p k result g s.fresh = noteExec p k.src k.seq 0xFF result (g (passedOn p k s)) := by
  rw [execOnce_broadcast (s := s.fresh) ht hff hdup, forward_eq]

theorem opCommitGoPacket_broadcast {s : State} {p T : Nat} {k : Pkt} (ht : s.tileLike = true) (hff : k.dest = 0xFF)
    (hdup : s.duplicate p k.src k.seq 0xFF = false) (hlen : k.data.length = 4) (hT : ofLe k.data = T) :
    opCommitGoPacket p k s.fresh = noteExec p k.src k.seq 0xFF 0 (opCommitGo T (passedOn p k s)) := by
  rw [opCommitGoPacket, if_pos hlen, execOnce_broadcast_fresh _ ht hff hdup, hT]

theorem opRemould_go {s : State} {p T wallId mouldSeq : Nat} {k : Pkt} {m : MouldImage} (ht : s.tileLike = true) (hff : k.dest = 0xFF)
    (hdup : s.duplicate p k.src k.seq 0xFF = false) (hm : s.tileImage = some m) (hid : m.hdr.wallId = wallId ∧ m.hdr.mouldSeq = mouldSeq)
    (hahead : 1 ≤ ahead T s.raster.fnum) :
    opRemould p true T wallId mouldSeq k s.fresh =
      noteExec p k.src k.seq 0xFF 0 ((passedOn p k s).setMould fun m => { m with goFor := some T }) := by
  rw [opRemould, execOnce_broadcast_fresh _ ht hff hdup]
  have himage : (passedOn p k s).tileImage = some m := hm
  simp only [himage, State.fresh_raster, hid.1, hid.2, hahead, beq_self_eq_true, Bool.and_self, decide_true, if_true]

/-! ### Packets of an unknown type (R152) -/

/-- A count, and an answer where one is asked for, of a part in which only what was sent has changed since the step began. -/
theorem answerIf_counted {s : State} {p : Nat} {f : Fld} {o : List Out} (b : Bool) (k : Pkt) (hf : CtrlCount p f) :
    let v : State := ({ s.fresh with out := o } : State).inc f
    let t := settle (if b then answer p k v else v)
    t.get f = s.more f ∧ Sent (o ++ if b && s.linked p && !(s.port p).txGivenUp then [.ctrl p k] else []) t ∧ Frame [f] s s t := by
  cases b
  · have hcount := (State.get_inc_same (s := { s.fresh with out := o }) f hf.2).trans (State.more_of_regs (s := s) rfl f)
    refine ⟨hcount, ?_, (inc_writes { s.fresh with out := o } f).frame rfl rfl⟩
    exact (State.inc_out { s.fresh with out := o } f).trans (List.append_nil o).symm
  · exact answer_counted k hf

theorem opCtrlBadType_passes {s : State} {p : Nat} {k : Pkt} (ht : s.tileLike = true) (hty : ctrlType k.ty = false) (hctrl : isWhey k = false)
    (h0 : k.dest ≠ 0) (hff : k.dest ≠ 0xFF) (ha : k.dest ≠ s.addr) : opCtrlBadType p k s = forward p k s := by
  simp [opCtrlBadType, hty, hctrl, ht, h0, hff, ha]

/-- A packet of an unknown type that is a broadcast, hop-local or for this tile. -/
theorem opCtrlBadType_mine {s : State} {p : Nat} {k : Pkt} (ht : s.tileLike = true) (hty : ctrlType k.ty = false) (hctrl : isWhey k = false)
    (hmine : k.dest = 0xFF ∨ k.dest = 0 ∨ k.dest = s.addr) :
    let v : State := ({ s with out := (if k.dest = 0xFF then forward p k s else s).out } : State).inc (F.CH_CTRL_STAT_BAD p)
    opCtrlBadType p k s = if k.flags.testBit 0 then answer p (ackPkt s.addr k.src k.seq 1) v else v := by
  have hv : (if s.tileLike && decide (k.dest = 0xFF) then forward p k s else s) =
      { s with out := (if k.dest = 0xFF then forward p k s else s).out } := by
    by_cases hff : k.dest = 0xFF
    · simp only [hff, ht, decide_true, Bool.and_self, if_true]
      exact forward_eq p k s
    · simp only [hff, decide_false, Bool.and_false, Bool.false_eq_true, if_false]
  have hother : (s.tileLike && decide (k.dest ≠ 0xFF) && decide (k.dest ≠ 0) && decide (k.dest ≠ s.addr)) = false := by
    rcases hmine with h | h | h <;> simp [h]
  intro v
  have hw : Writes [F.CH_CTRL_STAT_BAD p] _ v := inc_writes ({ s with out := (if k.dest = 0xFF then forward p k s else s).out } : State) _
  have htile : v.tileLike = true := ((ctrlCount_bad p).tileLike hw).trans ht
  have haddr : v.addr = s.addr := ((ctrlCount_bad p).addr hw).trans rfl
  unfold opCtrlBadType
  rw [hty, hctrl, Bool.or_self, if_neg Bool.false_ne_true, hother, if_neg Bool.false_ne_true, hv]
  change (if k.flags.testBit 0 && v.tileLike then answer p (ackPkt v.addr k.src k.seq 1) v else v) = _
  rw [htile, haddr, Bool.and_true]

/-- What a packet of an unknown type shows at a tile. -/
theorem opCtrlBadType_settled {s : State} {p : Nat} {k : Pkt} (ht : s.tileLike = true) (hty : ctrlType k.ty = false) (hctrl : isWhey k = false) :
    let mine : Bool := decide (k.dest = 0xFF ∨ k.dest = 0 ∨ k.dest = s.addr)
    let t := settle (opCtrlBadType p k s.fresh)
    t.get (F.CH_CTRL_STAT_BAD p) = (if mine then s.more (F.CH_CTRL_STAT_BAD p) else s.get (F.CH_CTRL_STAT_BAD p)) ∧
      Sent ((if (k.dest = 0xFF ∨ !mine) ∧ s.linked (1 - p) then [.ctrl (1 - p) k] else []) ++
        (if mine && k.flags.testBit 0 && s.linked p && !(s.port p).txGivenUp then [.ctrl p (ackPkt s.addr k.src k.seq 1)] else [])) t ∧
      Frame [F.CH_CTRL_STAT_BAD p] s s t := by
  intro mine t
  by_cases hmine : k.dest = 0xFF ∨ k.dest = 0 ∨ k.dest = s.addr
  · have hyes : mine = true := decide_eq_true hmine
    have ht' : t = settle _ := congrArg settle (opCtrlBadType_mine (s := s.fresh) ht hty hctrl hmine)
    obtain ⟨hcount, hsent, hframe⟩ := answerIf_counted (s := s) (o := (if k.dest = 0xFF then forward p k s.fresh else s.fresh).out)
      (k.flags.testBit 0) (ackPkt s.addr k.src k.seq 1) (ctrlCount_bad p)
    have hout : (if k.dest = 0xFF then forward p k s.fresh else s.fresh).out =
        if k.dest = 0xFF ∧ s.linked (1 - p) then [.ctrl (1 - p) k] else [] := by
      by_cases hff : k.dest = 0xFF
      · simpa [hff] using forward_out p k s.fresh
      · simp [hff]
    rw [hyes, ht']
    simp only [Bool.not_true, Bool.false_eq_true, or_false, Bool.true_and, if_true]
    rw [← hout]
    exact ⟨hcount, hsent, hframe⟩
  · obtain ⟨hff, h0, hadr⟩ : k.dest ≠ 0xFF ∧ k.dest ≠ 0 ∧ k.dest ≠ s.addr := by simpa only [not_or] using hmine
    have hno : mine = false := decide_eq_false hmine
    have ht' : t = settle (forward p k s.fresh) := congrArg settle (opCtrlBadType_passes ht hty hctrl h0 hff hadr)
    obtain ⟨hsent, hframe⟩ := forward_settled p k s
    rw [hno, ht']
    simp only [Bool.not_false, or_true, true_and, Bool.false_and, Bool.false_eq_true, if_false, List.append_nil]
    exact ⟨State.get_of_regs (forward_regs p k s.fresh) _, hsent, hframe.mono (List.nil_subset _)⟩

/-! ### CH_CTRL_TX_CMD (R168, R169) -/

/-- A write of a register word without reserved bits set, at a window that answers, is carried out. -/
theorem withWord_ok {s : State} {a : Nat} {v : Word} (f : State → State) (h : s.wordOk a v = true) : withWord a v f s = .ok (f s) := by
  obtain ⟨hans, hword⟩ := Bool.and_eq_true_iff.mp h
  unfold withWord
  rw [hans, Bool.not_true, if_neg Bool.false_ne_true]
  split at hword
  next r hr =>
    rw [hr]
    exact if_neg (not_not.mpr (beq_iff_eq.mp hword))
  next hr => rw [hr]

theorem State.fresh_wordOk (s : State) (a : Nat) (v : Word) : s.fresh.wordOk a v = s.wordOk a v := rfl

theorem exec_ctrlTxCmd_run {s : State} {p : Nat} {val : Word} (ha : s.acts) (hp : p < 16) (hok : s.wordOk (atCH p 0x74) val = true) :
    exec (.ctrlTxCmd p val) s =
      .next (settle (opCtrlTxCmd p (bits val.toNat 31 24) (bits val.toNat 23 16) (bits val.toNat 15 8) s.fresh)) := by
  refine (exec_ctrlTxCmd ..).trans (runRindF_ok _ (acts_rind ha) ?_)
  rw [decide_eq_true hp, onlyE_true]
  exact withWord_ok _ ((State.fresh_wordOk s _ val).trans hok)

theorem opCtrlTxCmd_refused {s : State} {p ty dest len : Nat}
    (h : ¬ (ty = 0x10 ∨ ty = 0x11 ∨ ty = 0x13 ∨ (0x30 ≤ ty ∧ ty ≤ 0x3F)) ∨ 248 < len) : opCtrlTxCmd p ty dest len s = txResult p 5 0 s := by
  have hcond : (ty == 0x10 || ty == 0x11 || ty == 0x13 || (decide (0x30 ≤ ty) && decide (ty ≤ 0x3F))) = false ∨ 248 < len := by
    simpa [not_or, and_assoc] using h
  unfold opCtrlTxCmd
  rcases hcond with hty | hlen
  · simp [hty]
  · simp [hlen]

/-- The port's record after `k` went out and waits for its answer. -/
def launched (host : Bool) (k : Pkt) (x : Port) : Port :=
  { x with seqOut := Tab.set (fun _ => 0) k.dest k.seq x.seqOut, unacked := Tab.set (fun _ => none) k.dest (some { pkt := k, host := host }) x.unacked }

/-- CH_CTRL_TX_RESULT of a packet that goes out: state 2, not valid, with the packet's SEQ. -/
def txSent (p q : Nat) (s : State) : State := txResult p 2 0 (s.put (F.CH_CTRL_TX_RESULT_PKT_SEQ p) q)

abbrev txSentFlds (p : Nat) : List Fld :=
  [F.CH_CTRL_TX_RESULT_STATE p, F.CH_CTRL_TX_RESULT_RESULT p, F.CH_CTRL_TX_RESULT_VALID p, F.CH_CTRL_TX_RESULT_PKT_SEQ p]

theorem txSent_writes (p q : Nat) (s : State) : Writes (txSentFlds p) s (txSent p q s) :=
  ((((Writes.refl (txSentFlds p) s).put (f := F.CH_CTRL_TX_RESULT_PKT_SEQ p) (by simp) q).put (f := F.CH_CTRL_TX_RESULT_STATE p) (by simp) 2).put
    (f := F.CH_CTRL_TX_RESULT_RESULT p) (by simp) 0).put (f := F.CH_CTRL_TX_RESULT_VALID p) (by simp) 0

theorem txSent_fields (p : Nat) {q : Nat} (hq : q < 256) (s : State) :
    (txSent p q s).get (F.CH_CTRL_TX_RESULT_STATE p) = 2 ∧ (txSent p q s).get (F.CH_CTRL_TX_RESULT_VALID p) = 0 ∧
      (txSent p q s).get (F.CH_CTRL_TX_RESULT_PKT_SEQ p) = q := by
  simp [txSent, txResult, State.get_put_same, State.get_put_sep, Fld.sep, Fld.ok, Fld.width, F.CH_CTRL_TX_RESULT_STATE,
    F.CH_CTRL_TX_RESULT_RESULT, F.CH_CTRL_TX_RESULT_VALID, F.CH_CTRL_TX_RESULT_PKT_SEQ, Nat.mod_eq_of_lt hq]

theorem launch_unicast {p : Nat} {k : Pkt} (hff : k.dest ≠ 0xFF) (s : State) :
    launch p true k s = (txSent p (s.nextSeq p k.dest) (s.setPort p (launched true { k with seq := s.nextSeq p k.dest }))).send
      (.ctrl p { k with seq := s.nextSeq p k.dest }) := by
  simp only [launch, hff, if_false, if_true]
  rfl

/-- What a packet of the host's that goes out shows. -/
theorem sent_settled (p : Nat) (host : Bool) (k : Pkt) (hq : k.seq < 256) (s : State) :
    let t := settle ((txSent p k.seq (s.fresh.setPort p (launched host k))).send (.ctrl p k))
    t.get (F.CH_CTRL_TX_RESULT_STATE p) = 2 ∧ t.get (F.CH_CTRL_TX_RESULT_VALID p) = 0 ∧ t.get (F.CH_CTRL_TX_RESULT_PKT_SEQ p) = k.seq ∧
      (Tab.get (fun _ => none) (t.port p).unacked k.dest).map (·.pkt) = some k ∧ Sent [.ctrl p k] t ∧
      Frame (txSentFlds p) s { s with ports := t.ports } t := by
  obtain ⟨hstate, hvalid, hseq⟩ := txSent_fields p hq (s.fresh.setPort p (launched host k))
  have hw := (txSent_writes p k.seq (s.fresh.setPort p (launched host k))).map (·.send (.ctrl p k)) fun _ _ => rfl
  generalize txSent p k.seq (s.fresh.setPort p (launched host k)) = v at *
  have hport : (settle (v.send (.ctrl p k))).port p = launched host k (s.port p) := by
    rw [settle_port, hw.port]
    exact State.port_setPort_same s.fresh p _
  refine ⟨?_, ?_, ?_, ?_, hw.sent, hw.portFrame rfl rfl⟩
  · rw [settle_get, State.send_get, hstate]
  · rw [settle_get, State.send_get, hvalid]
  · rw [settle_get, State.send_get, hseq]
  · rw [hport]
    exact congrArg (Option.map (·.pkt)) (Tab.get_set_same (fun _ => none) k.dest (some ({ pkt := k, host := host } : InFlight)) (s.port p).unacked)

theorem opCtrlTxCmd_sent {s : State} {p ty dest len : Nat} (hs : s.isSender = true)
    (hty : ty = 0x10 ∨ ty = 0x11 ∨ ty = 0x13 ∨ (0x30 ≤ ty ∧ ty ≤ 0x3F)) (hdest : 1 ≤ dest ∧ dest ≤ 32) (hlen : len ≤ 248)
    (hfree : Tab.get (fun _ => none) (s.port p).unacked dest = none) :
    opCtrlTxCmd p ty dest len s = launch p true ⟨ty, dest, endCode s.senderEnd, 0, 1, s.txBytes p len⟩ s := by
  have hff : dest ≠ 0xFF := by omega
  have htyOk : (ty == 0x10 || ty == 0x11 || ty == 0x13 || (decide (0x30 ≤ ty) && decide (ty ≤ 0x3F))) = true := by
    simpa [or_assoc] using hty
  have hdestOk : ((decide (1 ≤ dest) && decide (dest ≤ 32)) || (dest == 0xFF && ty != 0x11)) = true := by
    simp [hdest]
  have hsubmit : ∀ k : Pkt, k.dest = dest → submit p true k s = launch p true k s := by
    intro k hk
    simp [submit, hk, hff, hfree]
  simp only [opCtrlTxCmd, hs, htyOk, hdestOk, hff, if_false]
  rw [if_neg (by simp [hlen])]
  exact hsubmit _ rfl

/-! ### CH_CTRL_RX_POP (R170) -/

/-- Words written from an address on. -/
def fillFrom (a : Nat) (l : List Nat) (s : State) : State :=
  s.each (List.range l.length) fun i s => s.wr (a + 4 * i) (BitVec.ofNat 32 (l.getD i 0))

theorem each_zipIdx_wr (a : Nat) (l : List Nat) (s : State) :
    (s.each l.zipIdx fun w s => s.wr (a + 4 * w.2) (BitVec.ofNat 32 w.1)) = fillFrom a l s := by
  have hpairs : l.zipIdx = (List.range l.length).map fun i => (l.getD i 0, i) :=
    List.ext_getElem (by simp) fun i h _ => by
      have hi : i < l.length := by simpa using h
      simp [hi]
  rw [hpairs, State.each, List.foldl_map]
  rfl

theorem fillFrom_writes (a : Nat) (l : List Nat) (s : State) :
    Writes ((List.range l.length).map fun i => whole (a + 4 * i)) s (fillFrom a l s) :=
  Writes.each _ s fun _ hi t => (Writes.refl _ t).wr (List.mem_map_of_mem (f := fun i => whole (a + 4 * i)) hi) _

theorem fillFrom_rd (a : Nat) {l : List Nat} {i : Nat} (hi : i ∈ List.range l.length) (s : State) :
    (fillFrom a l s).rd (a + 4 * i) = BitVec.ofNat 32 (l.getD i 0) :=
  State.each_establishes (P := fun i s => s.rd (a + 4 * i) = BitVec.ofNat 32 (l.getD i 0)) (fun _ s => State.rd_wr_same s _ _)
    (fun i j s hne h => (State.rd_wr_ne s _ (by omega)).trans h) _ s (.inl hi)

/-- The port's record with `rest` as its received packets. -/
def withQueue (rest : List Pkt) (x : Port) : Port := { x with rxq := rest }

/-- The word CH_CTRL_RX_POP returns for a packet. -/
def popWord (k : Pkt) : Nat := 2 ^ 31 + (k.ty % 256) * 2 ^ 16 + (k.src % 256) * 2 ^ 8 + k.data.length % 256

theorem opCtrlRxPop_cons {s : State} {p : Nat} {k : Pkt} {rest : List Pkt} (h : (s.port p).rxq = k :: rest) :
    opCtrlRxPop p s = (fillFrom (bufAddr p true) (wordsOf 64 k.data) (s.setPort p (withQueue rest))).reply [popWord k] := by
  rw [← each_zipIdx_wr]
  unfold opCtrlRxPop
  rw [h]
  rfl

/-- What a part shows that has dropped its oldest packet and written the packet's words from an address on. -/
theorem popped_settled (a p : Nat) (l : List Nat) (r : List Nat) (rest : List Pkt) (s : State) :
    let t := settle ((fillFrom a l (s.fresh.setPort p (withQueue rest))).reply r)
    t.acc.rdata = r ∧ (t.port p).rxq = rest ∧ (∀ i ∈ List.range l.length, t.rd (a + 4 * i) = BitVec.ofNat 32 (l.getD i 0)) ∧ Sent [] t ∧
      Frame ((List.range l.length).map fun i => whole (a + 4 * i)) s { s with ports := t.ports } t := by
  have hw := (fillFrom_writes a l (s.fresh.setPort p (withQueue rest))).map (·.reply r) fun _ _ => rfl
  have hrd := fun i (hi : i ∈ List.range l.length) => fillFrom_rd a hi (s.fresh.setPort p (withQueue rest))
  generalize fillFrom a l (s.fresh.setPort p (withQueue rest)) = v at *
  refine ⟨rfl, ?_, ?_, hw.sent, hw.portFrame rfl rfl⟩
  · rw [settle_port, hw.port]
    exact congrArg Port.rxq (State.port_setPort_same s.fresh p (withQueue rest))
  · intro i hi
    rw [settle_rd]
    exact hrd i hi

theorem State.hasPort_lt {s : State} {p : Nat} (h : s.hasPort p = true) : p < 16 := by
  have hlt : p < if s.tileLike then 2 else 16 := of_decide_eq_true h
  split at hlt <;> omega

/-- Settles O15, clause by clause: a command's effect is one of the shared ways in which a port ends a unicast, sends again, passes on, answers or
counts, and the lemma about that way says what it shows and what it leaves unchanged. -/
theorem controlPackets : Obligations.ControlPackets := by
  refine ⟨?_, ?_, ?_, ?_, ?_, ?_, ?_, ?_, ?_, ?_, ?_, ?_, ?_, ?_, ?_, ?_, ?_, ?_⟩
  · intro s p src seq dest result f w ha hp hs hf hseq hhop hwait hgood
    refine ⟨_, (exec_ack ..).trans (run_onPort_receive ha (State.hasPort_of_sender hs hp) hgood), ?_⟩
    rw [opAckHop_host (s := s.fresh) result _ hs hf hseq.1 hseq.2 hhop hwait]
    exact txResult_unicast_done (by decide) (by decide) rfl rfl rfl
  · intro s p src seq dest result w ha hport hs ht hdest hgood
    refine ⟨_, (exec_ack ..).trans (run_onPort_receive ha hport hgood), ?_⟩
    rw [opAckHop_passes (s := s.fresh) (k := rxSeq w (ackPkt src dest seq result)) result hs ht hdest.1 hdest.2]
    exact forward_settled p _ s
  · intro s p src seq dest vals f w ha hp hs hf hseq hwait hgood
    refine ⟨_, (exec_rdResp ..).trans (run_onPort_receive ha (State.hasPort_of_sender hs hp) hgood), ?_⟩
    rw [opRdResp_host (s := s.fresh) (k := rxFlags w (rdRespPkt src dest seq vals)) hs hf hseq.1 hseq.2 hwait]
    obtain ⟨hstate, hresult, hvalid, -, hgone, hsent, hframe⟩ := txResult_unicast_done (s := s) (p := p) (dest := src) (st := 3) (result := 0)
      (v := rxPush p (rxFlags w (rdRespPkt src dest seq vals)) s.fresh) (by decide) (by decide) rfl rfl rfl
    refine ⟨hstate, hresult.trans (Nat.zero_mod _), hvalid, ⟨?_, hgone⟩, hsent, hframe⟩
    rw [settle_port, (txResult_writes p 3 0 _).port, dropUnacked, rxPush, State.port_setPort_same, State.port_setPort_same, State.fresh_v_port]
  · intro s p dest f ha hport hf hn hhop
    refine ⟨_, (exec_ctrlRetryTimeout ..).trans (run_onPort ha hport), ?_⟩
    rw [opRetryHop_resends (s := s.fresh) hf hn hhop]
    obtain ⟨hcount, hrec, hsent, hframe⟩ := resend_settled p _ f.again s
    refine ⟨hcount, ?_, hsent, hframe⟩
    exact (congrArg (fun x : Port => Tab.get (fun _ => none) x.unacked dest) hrec).trans
      (Tab.get_set_same (fun _ => none) dest (some { f with pkt := f.again, resends := f.resends + 1 }) (s.port p).unacked)
  · intro s p dest f ha hport hf hn hhop hwait
    refine ⟨_, (exec_ctrlRetryTimeout ..).trans (run_onPort ha hport), ?_⟩
    rw [opRetryHop_gives_up (s := s.fresh) hf hn.1 hn.2 hhop hwait]
    exact noack_settled p dest s
  · intro s p f ha hport hf hframes hn
    refine ⟨_, (exec_broadcastConfirmTimeout ..).trans (run_onPort ha hport), ?_⟩
    rw [opBcastTimeout_resends (s := s.fresh) hf hframes hn]
    obtain ⟨hcount, hrec, hsent, hframe⟩ := resend_settled p _ f.again s
    exact ⟨hcount, congrArg Port.bcast hrec, hsent, hframe⟩
  · intro s p src seq dest v w ha hport ht hdest hdup hgood
    have hdata : wordsIn (leBytes 4 F.RD_IRQ_EN0_EN.addr ++ leBytes 4 v.toNat) = some [0x708, v.toNat] := by
      have h := wordsIn_flatMap (l := [0x708, v.toNat]) (by simpa using v.isLt) (by simp)
      rwa [List.flatMap_cons, List.flatMap_cons, List.flatMap_nil, List.append_nil] at h
    have hwrite : hostWrite 0x708 (BitVec.ofNat 32 v.toNat) s.fresh = .ok (s.fresh.wr 0x708 v) := by
      rw [BitVec.ofNat_toNat, BitVec.setWidth_eq, hostWrite_irqEn0]
    have hop := opRegWr_executed (k := rxFlags w ⟨0x10, dest, src, seq, 0, leBytes 4 F.RD_IRQ_EN0_EN.addr ++ leBytes 4 v.toNat⟩) (p := p)
      (s := s.fresh) (State.tileLike_of_tile ht) hdest hdata hdup hwrite
    refine ⟨_, (exec_regWr ..).trans (runF_onPort_receive ha hport hgood hop), ?_⟩
    obtain ⟨hwr, hval, haddr, hlinked⟩ := wr_irqEn0 s.fresh v
    generalize s.fresh.wr 0x708 v = t at *
    obtain ⟨hget, hexec, hsent, hframe⟩ := answer_executed (s := s) (r := 0) p src seq hwr haddr (hlinked p)
    exact ⟨(hget _).trans hval, hexec, hsent, hframe⟩
  · intro s p src seq dest data l w ha hport ht hdest hl heven hdup hread hgood
    have hop : opRegWr p (rxFlags w ⟨0x10, dest, src, seq, 0, data⟩) s.fresh =
        .ok (answer p (ackPkt s.addr src seq (Tab.get (fun _ => 0) (s.port p).lastResult src)) (s.fresh.inc (F.CH_CTRL_STAT_DUP p))) :=
      opRegWr_repeated (State.tileLike_of_tile ht) hdest hl heven hdup hread
    exact ⟨_, (exec_regWr ..).trans (runF_onPort_receive ha hport hgood hop), answer_counted (o := []) _ (ctrlCount_dup p)⟩
  · intro s p src seq dest data w ha hport ht hdest hform hgood
    have hop : opRegWr p (rxFlags w ⟨0x10, dest, src, seq, 0, data⟩) s.fresh = .ok (answer p (ackPkt s.addr src seq 2) s.fresh) :=
      (opRegWr_bad s.fresh hform).trans (congrArg _ (badPayload_unicast (State.tileLike_of_tile ht) hdest.2.2 hdest.1 hdest.2.1))
    exact ⟨_, (exec_regWr ..).trans (runF_onPort_receive ha hport hgood hop), answer_fresh p _ s⟩
  · intro s p src seq dest data w ha hport ht hdest hbad
    have hrun : exec (.regWr p src seq dest data w) s = _ :=
      (exec_regWr ..).trans (runF_ok _ ha ((onPortE_pos (s := s.fresh) _ _ hport).trans (receiveE_bad hbad)))
    refine ⟨_, hrun, ?_⟩
    have ht' := State.tileLike_of_tile ht
    have hty : (0x10 : Nat) ≠ 1 ∧ (0x10 : Nat) ≠ 2 := by decide
    cases hedb : w.edb
    · obtain ⟨hget, hsent, hframe⟩ := passBad_settled (k := rxFlags w ⟨0x10, dest, src, seq, 0, data⟩) w
        (inc_writes s.fresh (F.CH_CTRL_STAT_BAD p)) ht' rfl hty hdest.1 hdest.2
      exact ⟨hget.trans (State.get_inc_same _ rfl), hsent, hframe⟩
    · exact passBad_settled w (.refl _ s.fresh) ht' rfl hty hdest.1 hdest.2
  · intro s p src seq dest w ha hport ht hdest hdup hcap hgood
    have hdata : wordsIn (leBytes 4 F.RD_IRQ_EN0_EN.addr) = some [0x708] := by
      have h := wordsIn_flatMap (l := [0x708]) (by simp) (by simp)
      rwa [List.flatMap_cons, List.flatMap_nil, List.append_nil] at h
    have hval : (s.fresh.rd 0x708).toNat = s.get F.RD_IRQ_EN0_EN := (Nat.mod_eq_of_lt (s.rd 0x708).isLt).symm
    have hread := readReg_irqEn0 (s := s.fresh) hcap
    rw [hval] at hread
    have hop : opRegRd p (rxFlags w ⟨0x11, dest, src, seq, 0, leBytes 4 F.RD_IRQ_EN0_EN.addr⟩) s.fresh =
        .ok (answer p (rdRespPkt s.addr src seq [s.get F.RD_IRQ_EN0_EN])
          ((s.fresh.setPort p (executed src seq 0)).setPort p (lastReadIs src [s.get F.RD_IRQ_EN0_EN]))) :=
      opRegRd_executed (State.tileLike_of_tile ht) hdest hdata hdup hread
    refine ⟨_, (exec_regRd ..).trans (runF_onPort_receive ha hport hgood hop), ?_⟩
    exact answer_read p src seq [s.get F.RD_IRQ_EN0_EN] s
  · intro s p src seq dest data w ha hport ht hdest hgood
    have hop : opRegRd p (rxFlags w ⟨0x11, dest, src, seq, 0, data⟩) s.fresh = .ok (forward p _ s.fresh) :=
      opRegRd_other (State.tileLike_of_tile ht) hdest.1 hdest.2
    exact ⟨_, (exec_regRd ..).trans (runF_onPort_receive ha hport hgood hop), forward_settled p _ s⟩
  · intro s p src seq T w ha hport ht hdup hgroup hgo hhold hgood
    refine ⟨_, (exec_commitGoPacket ..).trans (run_onPort_receive ha hport hgood), ?_⟩
    have hop := opCommitGoPacket_broadcast (p := p) (k := rxFlags w ⟨0x13, 0xFF, src, seq, 0, leBytes 4 T.toNat⟩) (State.tileLike_of_tile ht) rfl hdup
      (leBytes_length 4 _) (ofLe_leBytes_word T)
    have hout := passedOn_out p (rxFlags w ⟨0x13, 0xFF, src, seq, 0, leBytes 4 T.toNat⟩) s
    rw [hop, opCommitGo_waits (s := passedOn p _ s) T.toNat hgroup hgo hhold, noteExec_broadcast, Nat.mod_eq_of_lt T.isLt]
    exact ⟨rfl, afterBroadcast_seq src seq s.tileRx, hout, frame_of_same_regs rfl rfl⟩
  · intro s p src seq T wallId mouldSeq m w ha hport ht hdup hm hid hahead hgood
    refine ⟨_, (exec_remould ..).trans (run_onPort_receive ha hport hgood), ?_⟩
    have hop := opRemould_go (p := p) (k := rxFlags w ⟨0x20, 0xFF, src, seq, 0, remouldBytes true T wallId mouldSeq⟩) (State.tileLike_of_tile ht)
      rfl hdup hm hid hahead
    have hout := passedOn_out p (rxFlags w ⟨0x20, 0xFF, src, seq, 0, remouldBytes true T wallId mouldSeq⟩) s
    rw [hop, noteExec_broadcast]
    exact ⟨rfl, hout, frame_of_same_regs rfl rfl⟩
  · intro s p ty src seq dest data w mine k ha hport ht hty hgood
    have hctrl : isWhey k = false := decide_eq_false (Nat.not_le.mpr hty.2)
    exact ⟨_, (exec_ctrlBadType ..).trans (run_onPort_receive ha hport hgood), opCtrlBadType_settled (State.tileLike_of_tile ht) hty.1 hctrl⟩
  · intro s p val ty dest len ha hp hs hok hty hdest hlen hfree
    refine ⟨_, exec_ctrlTxCmd_run ha hp hok, ?_⟩
    have hff : dest ≠ 0xFF := by omega
    have hop : opCtrlTxCmd p ty dest len s.fresh = _ := (opCtrlTxCmd_sent (s := s.fresh) hs hty hdest hlen hfree).trans (launch_unicast hff s.fresh)
    rw [hop]
    exact sent_settled p true _ (Nat.mod_lt _ (by decide)) s
  · intro s p val ty ha hp hs hok hbad
    refine ⟨_, exec_ctrlTxCmd_run ha hp hok, ?_⟩
    rw [opCtrlTxCmd_refused hbad]
    obtain ⟨hstate, -, hvalid, -⟩ := txResult_final p 0 (st := 5) (by decide) (by decide) s.fresh
    have hw := txResult_writes p 5 0 s.fresh
    generalize txResult p 5 0 s.fresh = t at *
    exact ⟨(settle_get t _).trans hstate, (settle_get t _).trans hvalid, hw.sent, hw.frame rfl rfl⟩
  · intro s p k rest ha hport hans hq
    have hrun : only (decide (p < 16)) (atRead (atCH p 0x7C) (opCtrlRxPop p)) s.fresh = opCtrlRxPop p s.fresh := by
      rw [only_pos _ (decide_eq_true (State.hasPort_lt hport)), atRead, State.fresh_v_answersAt, if_pos hans]
    refine ⟨_, (exec_ctrlRxPop ..).trans (runRind_acts _ (acts_rind ha)), ?_⟩
    rw [hrun, opCtrlRxPop_cons (s := s.fresh) hq]
    have h := popped_settled (bufAddr p true) p (wordsOf 64 k.data) [popWord k] rest s
    rwa [wordsOf_length] at h

end Sys2Proof.Machine
end

section
/-!
PROOFS. Chapters 03, 20 and 23: what holds a part and what does not act on it (R71, R75, R480, R535, R586, R587).
-/

namespace Sys2Proof.Machine

open Sys2Proof

/-! ### A part that RESET_N or a rail holds -/

/-- The commands that tell of RESET_N, PERST_N, SAFE_DARK and the rails themselves. -/
def tellsOfPins : Instr → Bool
  | .resetAssert | .resetRelease .. | .perstAssert | .perstRelease | .railFault _ | .railsGood | .safeDarkPinSender | .safeDarkPinTile
  | .safeDarkPinRelease => true
  | _ => false

/-- Each of the five shared ways to run asks first whether RESET_N or a rail holds the part, and then drops the command's effect. -/
theorem exec_of_unpowered {c : Instr} {s : State} (hc : tellsOfPins c = false) (h : s.sys.resetLow = true ∨ s.sys.railsBad = true) :
    exec c s = .next (settle s.fresh) := by
  obtain ⟨regs, pend, taken, acc, ⟨resetLow, railsBad⟩⟩ := s
  cases resetLow
  · obtain rfl : railsBad = true := h.resolve_left Bool.false_ne_true
    cases c <;> cases hc <;> rfl
  · cases c <;> cases hc <;> rfl

theorem tellsOfPins_iff {c : Instr} :
    tellsOfPins c = true ↔ c = .resetAssert ∨ (∃ r ram f b card, c = .resetRelease r ram f b card) ∨ c = .perstAssert ∨ c = .perstRelease ∨
      (∃ d, c = .railFault d) ∨ c = .railsGood ∨ c = .safeDarkPinSender ∨ c = .safeDarkPinTile ∨ c = .safeDarkPinRelease := by
  constructor
  · unfold tellsOfPins
    split <;> simp
  · rintro (rfl | ⟨_, _, _, _, _, rfl⟩ | rfl | rfl | ⟨_, rfl⟩ | rfl | rfl | rfl | rfl) <;> rfl

/-- A held part sees the level of the SAFE_DARK pin and no more of it (R535). -/
theorem runHeld_onPin_of_held {s : State} (level : Bool) (f : State → State) (h : s.held = true) :
    runHeld (onPin level f) s = .next (settle { s.fresh with sys := { s.sys with safeDark := level } }) := by
  rw [runHeld_eq, onPin, if_pos (show s.fresh.held = true from h)]
  rfl

/-- Settles O43: a held part drops the effect of a command, and of SAFE_DARK keeps the level alone. -/
theorem heldPartRests : Obligations.HeldPartRests := by
  refine ⟨fun c s hs hra hrr hpa hpr hrf hrg hds hdt hdr => ?_, fun s hheld => ⟨fun c hc => ?_, ?_⟩⟩
  · have hpins : tellsOfPins c = false := by
      simpa [hra, hrr, hpa, hpr, hrf, hrg, hds, hdt, hdr] using (tellsOfPins_iff (c := c)).not
    exact ⟨_, exec_of_unpowered hpins hs, rfl, rfl, rfl⟩
  · obtain rfl | rfl : c = .safeDarkPinSender ∨ c = .safeDarkPinTile := by simpa using hc
    · exact ⟨_, (exec_safeDarkPinSender s).trans (runHeld_onPin_of_held true _ hheld), rfl, rfl, rfl⟩
    · exact ⟨_, (exec_safeDarkPinTile s).trans (runHeld_onPin_of_held true _ hheld), rfl, rfl, rfl⟩
  · exact ⟨_, (exec_safeDarkPinRelease s).trans (runHeld_onPin_of_held false _ hheld), rfl, rfl, rfl⟩

/-! ### A rail out of range -/

/-- What of RESET_N and the rails holds the part. -/
def State.heldBy (s : State) (low bad : Bool) : State := { s with sys := { s.sys with resetLow := low, railsBad := bad } }

section
variable (s : State) (low bad low' bad' : Bool)

theorem State.heldBy_heldBy : (s.heldBy low bad).heldBy low' bad' = s.heldBy low' bad' := rfl
theorem put_heldBy (f : Fld) (v : Nat) : (s.heldBy low bad).put f v = (s.put f v).heldBy low bad := rfl
theorem showLog_heldBy : showLog (s.heldBy low bad) = (showLog s).heldBy low bad := by
  simp only [showLog, put_heldBy]
  rfl
theorem startOver_heldBy : startOver (s.heldBy low bad) = (startOver s).heldBy low bad := rfl
theorem settle_heldBy : settle (s.heldBy low bad) = (settle s).heldBy low bad := rfl

/-- What holds the part plays no part in the reset that it goes through. -/
theorem resetAll_heldBy : settle (resetAll (s.heldBy low bad)) = (settle (resetAll s)).heldBy low bad := by
  rw [resetAll, startOver_heldBy, showLog_heldBy, settle_heldBy, ← resetAll]

end

theorem exec_resetAssert_heldBy (s : State) : exec .resetAssert s = .next ((settle (resetAll s.fresh)).heldBy true s.sys.railsBad) := by
  rw [← resetAll_heldBy]
  exact exec_resetAssert s

theorem exec_railFault_heldBy (dark : Bool) (s : State) : exec (.railFault dark) s =
    .next ((settle (resetAll (if dark then { s with log := {} } else s).fresh)).heldBy s.sys.resetLow true) := by
  rw [← resetAll_heldBy]
  refine (exec_railFault dark s).trans ?_
  cases dark <;> rfl

/-- Settles O58: a rail fault and RESET_N low do the same with the part, but for what then holds it. -/
theorem railFaultActsAsReset : Obligations.RailFaultActsAsReset := by
  intro dark s
  refine ⟨⟨_, exec_resetAssert_heldBy _, ?_, rfl⟩, _, exec_railsGood s, ?_⟩
  · rw [exec_railFault_heldBy]
    generalize settle (resetAll (if dark then { s with log := {} } else s).fresh) = u
    exact congrArg Host.Outcome.next (State.heldBy_heldBy u true _ s.sys.resetLow true).symm
  · change (s.sys.resetLow || false || s.sys.tripped || s.halted) = _
    rw [Bool.or_false]

end Sys2Proof.Machine
end

section
/-!
PROOFS. Chapter 03: link training (R76 to R78, R80, R92, R93, R97, R608).
-/

namespace Sys2Proof.Machine

open Sys2Proof

/-! ### Two writes of one table entry -/

section
variable {α : Type} (k : Nat) (v w : α)

theorem Tab.ins_ins (t : Tab α) : Tab.ins k v (Tab.ins k w t) = Tab.ins k v t := by
  induction t with
  | nil => simp [Tab.ins]
  | cons e t ih =>
    obtain ⟨j, x⟩ := e
    rcases lt_trichotomy k j with h | rfl | h
    · simp [Tab.ins, h]
    · simp [Tab.ins]
    · simp [Tab.ins, Nat.lt_asymm h, Nat.ne_of_gt h, ih]

theorem Tab.del_ins (t : Tab α) : Tab.del k (Tab.ins k w t) = Tab.del k t := by
  induction t with
  | nil => simp [Tab.ins, Tab.del]
  | cons e t ih =>
    obtain ⟨j, x⟩ := e
    rcases lt_trichotomy k j with h | rfl | h
    · simp [Tab.ins, Tab.del, h]
    · simp [Tab.ins, Tab.del]
    · simp [Tab.ins, Tab.del, Nat.lt_asymm h, Nat.ne_of_gt h, Nat.ne_of_lt h, ih]

/-- A second write of an entry replaces the first, which put an entry in: one that takes an entry out forgets where an irregular table held it. -/
theorem Tab.set_set [DecidableEq α] {d : Nat → α} {w : α} (hw : w ≠ d k) (t : Tab α) :
    Tab.set d k v (Tab.set d k w t) = Tab.set d k v t := by
  unfold Tab.set
  rw [if_neg hw, Tab.ins_ins, Tab.del_ins]

end

theorem State.setPort_setPort {s : State} {p : Nat} {f : Port → Port} (g : Port → Port) (hf : f (s.port p) ≠ {}) :
    (s.setPort p f).setPort p g = s.setPort p fun x => g (f x) := by
  have hport : (s.setPort p f).port p = f (s.port p) := State.port_setPort_same s p f
  have htab := Tab.set_set (d := fun _ => ({} : Port)) p (g (f (s.port p))) hf s.ports
  unfold State.setPort at *
  rw [hport]
  exact congrArg (fun t => ({ s with ports := t } : State)) htab

/-! ### Fields of chain ports, lanes and groups -/

/-- The offsets of a Hoop die's lanes, groups and trim sets lie above those of its chain ports, and all of the Rind die's registers below them (R4). -/
abbrev laneBlock (a : Nat) : Prop := 0x400000 ≤ a % 0x1000000

theorem laneBlock_lane (n : Nat) {off : Nat} (h : off < 0x40) : laneBlock (atLANE n off) := by
  unfold laneBlock atLANE dieBase
  omega

theorem laneBlock_group (g : Nat) {off : Nat} (h : off < 0x20) : laneBlock (atGROUP g off) := by
  unfold laneBlock atGROUP dieBase
  split <;> omega

theorem not_laneBlock_port (p : Nat) {off : Nat} (h : off < 0x100) : ¬ laneBlock (atCH p off) := by
  unfold laneBlock atCH dieBase
  omega

theorem Fld.sep_of_laneBlock {f g : Fld} (hf : laneBlock f.addr) (hg : ¬ laneBlock g.addr) : f.sep g = true :=
  Fld.sep_of_addr_ne fun h => hg (h ▸ hf)

theorem Fld.sep_of_port {f g : Fld} {p off : Nat} (hf : f.addr = atCH p off) (hoff : off < 0x100) (hg : laneBlock g.addr) : f.sep g = true :=
  Fld.sep_of_addr_ne fun h => not_laneBlock_port p hoff (hf ▸ h ▸ hg)

/-- Fields of one register, the one above the other. -/
theorem Fld.sep_of_bits {f g : Fld} (h : (decide (g.hi < f.lo) || decide (f.hi < g.lo)) = true) : f.sep g = true := by
  rw [Fld.sep, Bool.or_assoc, h, Bool.or_true]

@[simp] theorem atCH_inj (p a b : Nat) : atCH p a = atCH p b ↔ a = b := by
  unfold atCH
  omega

/-- Registers at different offsets of lane blocks are different registers, whatever the lanes. -/
theorem atLANE_ne (n m : Nat) {a b : Nat} (h : a % 64 ≠ b % 64) : atLANE n a ≠ atLANE m b := by
  unfold atLANE dieBase
  omega

theorem atLANE_ge (n off : Nat) : 0x1000000 ≤ atLANE n off := by
  unfold atLANE dieBase
  omega

theorem atGROUP_ge (g off : Nat) : 0x1000000 ≤ atGROUP g off := by
  unfold atGROUP dieBase
  split <;> omega

/-- A field of a chain port is not in what an operation writes of the lanes and groups. -/
theorem Writes.get_port {l m : List Fld} {s t : State} (h : Writes (l ++ m) s t) (hm : ∀ g ∈ m, laneBlock g.addr) {f : Fld}
    (hf : ¬ laneBlock f.addr) (hl : ∀ g ∈ l, g.sep f = true) : t.get f = s.get f :=
  h.get fun g hg => (List.mem_append.mp hg).elim (hl g) fun hg => Fld.sep_of_laneBlock (hm g hg) hf

/-! ### The training sets (R76) -/

/-- The sets that a port in training sends on its five lanes. -/
def State.trainSets (s : State) (p ty : Nat) : List Out :=
  (List.range 5).map fun i => .training p i (s.trainSet p ty i) (s.txInv (chainLane p i))

theorem State.each_send {α : Type} {g : α → State → Out} (hg : ∀ a s o, g a (State.send s o) = g a s) (l : List α) (s : State) :
    s.each l (fun a s => s.send (g a s)) = { s with out := s.out ++ l.map (g · s) } := by
  induction l generalizing s with
  | nil => simp [State.each]
  | cons a l ih =>
    have hrest : l.map (g · (s.send (g a s))) = l.map (g · s) := List.map_congr_left fun b _ => hg b s _
    calc (s.send (g a s)).each l (fun a s => s.send (g a s))
        = { s.send (g a s) with out := (s.send (g a s)).out ++ l.map (g · (s.send (g a s))) } := ih _
      _ = { s with out := s.out ++ (a :: l).map (g · s) } := by rw [hrest, State.send_out, List.append_assoc]; rfl

/-- A state in which `o` has been sent. -/
def State.withOut (o : List Out) (s : State) : State := { s with out := o }

section
variable (s : State) (o o' : List Out)

@[simp] theorem State.withOut_out : (s.withOut o).out = o := rfl
@[simp] theorem State.withOut_get (f : Fld) : (s.withOut o).get f = s.get f := rfl
@[simp] theorem State.withOut_port (p : Nat) : (s.withOut o).port p = s.port p := rfl
@[simp] theorem State.withOut_kept : (s.withOut o).kept = s.kept := rfl
@[simp] theorem State.withOut_self : s.withOut s.out = s := rfl
@[simp] theorem State.withOut_withOut : (s.withOut o).withOut o' = s.withOut o' := rfl
@[simp] theorem State.withOut_send (x : Out) : (s.withOut o).send x = s.withOut (o ++ [x]) := rfl
@[simp] theorem State.withOut_trainSets (p ty : Nat) : (s.withOut o).trainSets p ty = s.trainSets p ty := rfl

end

theorem sendSets_eq (p ty : Nat) (s : State) : sendSets p ty s = s.withOut (s.out ++ s.trainSets p ty) :=
  State.each_send (g := fun i s => .training p i (s.trainSet p ty i) (s.txInv (chainLane p i))) (fun _ _ _ => rfl) _ s

/-- What a training set shows of a port's record: the port's rate and lanes, and in TSB the lanes that hold lock. -/
def Port.shown (x : Port) : Nat × Nat × Nat × Nat := (x.rate, x.lanes, x.spare, x.locked)

/-- The sets follow from the Rind die's registers, the lanes' polarities and what they show of the port's record. -/
theorem trainSets_congr {s t : State} {p : Nat} (hrind : ∀ f : Fld, f.addr < 0x1000000 → t.get f = s.get f)
    (hpol : ∀ n, t.get (F.HP_LANE_TXM_TX_POL n) = s.get (F.HP_LANE_TXM_TX_POL n)) (hp : (t.port p).shown = (s.port p).shown) (ty : Nat) :
    t.trainSets p ty = s.trainSets p ty := by
  obtain ⟨hrate, hlanes, hspare, hlocked⟩ : (t.port p).rate = (s.port p).rate ∧ (t.port p).lanes = (s.port p).lanes ∧
      (t.port p).spare = (s.port p).spare ∧ (t.port p).locked = (s.port p).locked := by
    simpa [Port.shown] using hp
  have hend : t.endType = s.endType := by
    unfold State.endType State.isSender State.isTile State.role State.senderEnd
    rw [hrind F.RD_DIE_STATE_ROLE (by decide), hrind F.RD_MOULD_INFO_SENDER_END (by decide)]
  have hinv : ∀ n, t.txInv n = s.txInv n := fun n => by
    unfold State.txInv State.on
    rw [hpol]
  have hwall := hrind F.RD_MOULD_ID_WALL_ID (by decide)
  have hseq := hrind F.RD_MOULD_INFO_MOULD_SEQ (by decide)
  simp only [State.trainSets, State.trainSet, hrate, hlanes, hspare, hlocked, hend, hwall, hseq, hinv]

theorem trainSets_setPort {s : State} {p : Nat} {f : Port → Port} (hf : (f (s.port p)).shown = (s.port p).shown) (ty : Nat) :
    (s.setPort p f).trainSets p ty = s.trainSets p ty :=
  trainSets_congr (t := s.setPort p f) (fun g _ => State.setPort_get s p f g) (fun _ => State.setPort_get s p f _)
    (by rw [State.port_setPort_same, hf]) ty

theorem trainSets_setPort_congr {s : State} {p : Nat} {f g : Port → Port} (h : (f (s.port p)).shown = (g (s.port p)).shown) (ty : Nat) :
    (s.setPort p f).trainSets p ty = (s.setPort p g).trainSets p ty :=
  trainSets_congr (s := s.setPort p g) (t := s.setPort p f) (fun _ _ => rfl) (fun _ => rfl)
    (by rw [State.port_setPort_same, State.port_setPort_same, h]) ty

/-- A field that no training set shows: not of the Rind die, nor of the lanes' polarities. -/
def Fld.Unsent (g : Fld) : Prop := 0x1000000 ≤ g.addr ∧ ∀ n, g.addr ≠ atLANE n 0x4

/-- Fields that no training set shows. -/
def SetsApart (l : List Fld) : Prop := ∀ g ∈ l, g.Unsent

theorem Fld.Unsent.of_port {g : Fld} {p off : Nat} (hg : g.addr = atCH p off) (hoff : off < 0x100) : g.Unsent := by
  rw [Fld.Unsent, hg]
  exact ⟨atCH_ge p off, fun n h => not_laneBlock_port p hoff (h ▸ laneBlock_lane n (by decide))⟩

theorem Fld.Unsent.of_lane {g : Fld} {n off : Nat} (hg : g.addr = atLANE n off) (hoff : off % 64 ≠ 4) : g.Unsent := by
  rw [Fld.Unsent, hg]
  exact ⟨atLANE_ge n off, fun m => atLANE_ne n m hoff⟩

theorem Fld.Unsent.of_group {g : Fld} {k off : Nat} (hg : g.addr = atGROUP k off) (hoff : off < 0x20) : g.Unsent := by
  rw [Fld.Unsent, hg]
  refine ⟨atGROUP_ge k off, fun n => ?_⟩
  unfold atGROUP atLANE dieBase
  split <;> omega

@[simp] theorem setsApart_nil : SetsApart [] := fun _ h => absurd h List.not_mem_nil

@[simp] theorem setsApart_cons {g : Fld} {l : List Fld} : SetsApart (g :: l) ↔ g.Unsent ∧ SetsApart l := List.forall_mem_cons

theorem setsApart_map {α : Type} {l : List α} {f : α → Fld} (h : ∀ a, (f a).Unsent) : SetsApart (l.map f) := fun g hg => by
  obtain ⟨a, -, rfl⟩ := List.mem_map.mp hg
  exact h a

theorem SetsApart.append {l m : List Fld} (hl : SetsApart l) (hm : SetsApart m) : SetsApart (l ++ m) :=
  fun g hg => (List.mem_append.mp hg).elim (hl g) (hm g)

section
variable {l : List Fld} {s t v : State}

theorem Writes.rind (h : Writes l s t) (hl : SetsApart l) {f : Fld} (hf : f.addr < 0x1000000) : t.get f = s.get f :=
  h.get_of_addr fun g hg => Nat.ne_of_gt (Nat.lt_of_lt_of_le hf (hl g hg).1)

theorem Writes.noMouldTile (h : Writes l s t) (hl : SetsApart l) : t.noMouldTile = s.noMouldTile := by
  unfold State.noMouldTile State.role State.on
  rw [h.rind hl (f := F.RD_DIE_STATE_ROLE) (by decide), h.rind hl (f := F.RD_MOULD_STATUS_STATE) (by decide),
    h.rind hl (f := F.RD_MOULD_STATUS_VALID) (by decide), h.rind hl (f := F.RD_DIE_STATE_DIE_RUN) (by decide)]

theorem Writes.waitsOut (h : Writes l s t) (hl : SetsApart l) (p : Nat) : t.waitsOut p = s.waitsOut p := by
  unfold State.waitsOut
  rw [h.noMouldTile hl, h.port]

theorem Writes.trainSets (h : Writes l s t) (hl : SetsApart l) (p ty : Nat) : t.trainSets p ty = s.trainSets p ty :=
  trainSets_congr (fun _ hf => h.rind hl hf) (fun n => h.get_of_addr fun g hg => (hl g hg).2 n) (by rw [h.port]) ty

end

/-! ### Entering a training state (R77) -/

/-- Does a port stand in electrical idle in a training state? -/
def State.idleIn (s : State) (p st : Nat) : Bool := st == trWait || st == trRest || (st == trDetect && s.waitsOut p)

/-- What a port sends on entering a training state. -/
def State.entrySends (s : State) (p st : Nat) : List Out :=
  if s.idleIn p st then []
  else if st ≤ trAnnounce then s.trainSets p tsA
  else if st == trConfirm || st == trRate then s.trainSets p tsB
  else if st == trDeskew then .deskew p :: s.trainSets p tsB
  else []

/-- The records as a port's entry to a training state leaves them. -/
def entered (p st : Nat) (s : State) : State :=
  (s.setPort p fun x => { x with txIdle := s.idleIn p st }).withOut (s.out ++ s.entrySends p st)

section
variable {l : List Fld} {s t v : State} {p st : Nat}

theorem setsApart_state (p : Nat) : SetsApart [F.CH_TRAIN_STATE_STATE p] :=
  setsApart_cons.mpr ⟨.of_port (p := p) (off := 0) rfl (by decide), setsApart_nil⟩

theorem toTrain_writes (p st : Nat) (s : State) : Writes [F.CH_TRAIN_STATE_STATE p] s (s.toTrain p st) :=
  (Writes.refl _ s).put List.mem_cons_self st

/-- A port that enters a state: STATE shows it, and the transmitters idle or not. -/
def inState (p st : Nat) (s : State) : State := (s.toTrain p st).setPort p fun x => { x with txIdle := s.idleIn p st }

theorem sendSets_inState (p st ty : Nat) (o : List Out) (s : State) :
    sendSets p ty ((inState p st s).withOut o) = (inState p st s).withOut (o ++ s.trainSets p ty) := by
  have hsame : (inState p st s).trainSets p ty = s.trainSets p ty := by
    rw [inState, trainSets_setPort rfl, (toTrain_writes p st s).trainSets (setsApart_state p)]
  rw [sendSets_eq, State.withOut_trainSets, hsame, State.withOut_out, State.withOut_withOut]

theorem inState_out (p st : Nat) (s : State) : (inState p st s).out = s.out := by
  rw [inState, State.setPort_out, State.toTrain, State.put_out]

/-- Entering a state in terms of the port that is in it. -/
theorem enterTrain_cases (p st : Nat) (s : State) : enterTrain p st s =
    if s.idleIn p st then inState p st s
    else if st ≤ trAnnounce then sendSets p tsA (inState p st s)
    else if st == trConfirm || st == trRate then sendSets p tsB (inState p st s)
    else if st == trDeskew then sendSets p tsB ((inState p st s).send (.deskew p))
    else inState p st s := by
  have hidle : s.idleIn p st = (st == trWait || st == trRest || (st == trDetect && (s.toTrain p st).waitsOut p)) := by
    rw [(toTrain_writes p st s).waitsOut (setsApart_state p), State.idleIn]
  rw [inState, hidle, enterTrain]

theorem enterTrain_eq (p st : Nat) (s : State) : enterTrain p st s = (inState p st s).withOut (s.out ++ s.entrySends p st) := by
  have hsets := fun ty o => sendSets_inState p st ty o s
  rw [enterTrain_cases, State.entrySends, ← inState_out p st s]
  generalize inState p st s = t at *
  split
  · rw [List.append_nil, State.withOut_self]
  · split
    · rw [← hsets, State.withOut_self]
    · split
      · rw [← hsets, State.withOut_self]
      · split
        · rw [List.append_cons, ← hsets, ← State.withOut_send, State.withOut_self]
        · rw [List.append_nil, State.withOut_self]

theorem enterTrain_writes (p st : Nat) (s : State) : Writes [F.CH_TRAIN_STATE_STATE p] (entered p st s) (enterTrain p st s) := by
  rw [enterTrain_eq]
  exact (toTrain_writes p st s).map
    (fun t => (t.setPort p fun x => { x with txIdle := s.idleIn p st }).withOut (s.out ++ s.entrySends p st)) fun _ _ => rfl

theorem enterTrain_train (p : Nat) {st : Nat} (hst : st < 16) (s : State) : (enterTrain p st s).train p = st := by
  rw [enterTrain_eq, State.train, State.withOut_get, inState, State.setPort_get]
  exact State.get_put_fit _ _ rfl hst

theorem enterTrain_get (p st : Nat) (s : State) {f : Fld} (h : (F.CH_TRAIN_STATE_STATE p).sep f = true) : (enterTrain p st s).get f = s.get f :=
  ((enterTrain_writes p st s).get (by simpa using h)).trans (State.get_of_regs rfl f)

/-- Registers written before the entry are no input of it, but for those that a set shows. -/
theorem Writes.entered (h : Writes l v s) (hl : SetsApart l) (p st : Nat) : Writes l (entered p st v) (entered p st s) := by
  have hwait := h.waitsOut hl p
  have hsets := fun ty => h.trainSets hl p ty
  have hidle : s.idleIn p st = v.idleIn p st := by rw [State.idleIn, hwait, State.idleIn]
  have hsends : s.entrySends p st = v.entrySends p st := by rw [State.entrySends, hidle, hsets, hsets, State.entrySends]
  unfold Machine.entered
  rw [hsends, hidle, h.same State.out fun _ _ => rfl]
  exact h.map (fun s => (s.setPort p fun x => { x with txIdle := v.idleIn p st }).withOut (v.out ++ v.entrySends p st)) fun _ _ => rfl

theorem Writes.enterTrain (h : Writes l v s) (hl : SetsApart l) (p st : Nat) :
    Writes (F.CH_TRAIN_STATE_STATE p :: l) (Machine.entered p st v) (enterTrain p st s) :=
  ((h.entered hl p st).mono (List.subset_cons_self ..)).trans ((enterTrain_writes p st s).mono (by simp))

end

/-! Whether a port idles in a state, and what it sends on entering it. -/

section
variable (s : State) (p : Nat)

theorem idleIn_comma : s.idleIn p trComma = false := rfl
theorem idleIn_announce : s.idleIn p trAnnounce = false := rfl
theorem idleIn_confirm : s.idleIn p trConfirm = false := rfl
theorem idleIn_rate : s.idleIn p trRate = false := rfl
theorem idleIn_deskew : s.idleIn p trDeskew = false := rfl
theorem idleIn_detect : s.idleIn p trDetect = s.waitsOut p := rfl

theorem entrySends_comma : s.entrySends p trComma = s.trainSets p tsA := rfl
theorem entrySends_announce : s.entrySends p trAnnounce = s.trainSets p tsA := rfl
theorem entrySends_confirm : s.entrySends p trConfirm = s.trainSets p tsB := rfl
theorem entrySends_rate : s.entrySends p trRate = s.trainSets p tsB := rfl
theorem entrySends_deskew : s.entrySends p trDeskew = .deskew p :: s.trainSets p tsB := rfl
theorem entrySends_hopmeas : s.entrySends p trHopmeas = [] := rfl

theorem entrySends_detect (h : s.waitsOut p = false) : s.entrySends p trDetect = s.trainSets p tsA := by
  rw [State.entrySends, idleIn_detect, h]
  rfl

end

section
variable (s : State) (p st ty : Nat) (f : Port → Port)

theorem State.fresh_setPort : s.fresh.setPort p f = (s.setPort p f).fresh := rfl
theorem State.fresh_idleIn : s.fresh.idleIn p st = s.idleIn p st := rfl
theorem State.fresh_trainSets : s.fresh.trainSets p ty = s.trainSets p ty := rfl

theorem State.fresh_entrySends : s.fresh.entrySends p st = s.entrySends p st := by
  rw [State.entrySends, State.fresh_idleIn, State.fresh_trainSets, State.fresh_trainSets, State.entrySends]

end

theorem entered_kept (p st : Nat) (s : State) : (entered p st s).kept = (s.setPort p fun x => { x with txIdle := s.idleIn p st }).kept := by
  rw [entered, State.withOut_kept]

/-- A command that ends in a training state's entry, after a change of other records that sends nothing and writes that no set shows. -/
theorem enterTrain_settled {l m : List Fld} {s v x : State} {p st : Nat} (idle : Bool) (hw : Writes l v.fresh x) (hl : SetsApart l)
    (hst : st < 16) (hr : v.regs = s.regs) (hidle : v.idleIn p st = idle) (hm : F.CH_TRAIN_STATE_STATE p :: l ⊆ m) :
    (settle (enterTrain p st x)).train p = st ∧ Sent (v.entrySends p st) (settle (enterTrain p st x)) ∧
      Frame m s (v.setPort p fun x => { x with txIdle := idle }) (settle (enterTrain p st x)) := by
  have hall := hw.enterTrain hl p st
  refine ⟨enterTrain_train p hst x, hall.sent.trans (State.fresh_entrySends v p st), (hall.frame (s := s) hr ?_).mono hm⟩
  rw [entered_kept, State.fresh_setPort, State.fresh_kept, State.fresh_idleIn, hidle]

end Sys2Proof.Machine
end

section
/-!
PROOFS. Chapter 03: the training states of a port (R77).
-/

namespace Sys2Proof.Machine

open Sys2Proof

/-! ### Signal energy and the start of an attempt (R77, R184) -/

theorem opSignalDetect_writes (lane : Nat) (on : Bool) (s : State) : Writes [F.HP_LANE_STATE_SIGDET lane] s (opSignalDetect lane on s) := by
  dsimp only [opSignalDetect]
  split
  · exact .refl _ s
  · exact (Writes.refl _ s).put List.mem_cons_self _

theorem opSignalDetect_on (lane : Nat) (on : Bool) (s : State) : (opSignalDetect lane on s).on (F.HP_LANE_STATE_SIGDET lane) =
    if s.get (F.HP_LANE_STATE_RXS lane) = lnRest ∨ s.get (F.HP_LANE_STATE_RXS lane) = lnRetired then s.on (F.HP_LANE_STATE_SIGDET lane) else on := by
  simp only [opSignalDetect, Bool.or_eq_true, beq_iff_eq]
  split
  · rfl
  · rw [State.on, State.get_putB_same _ _ rfl]
    cases on <;> rfl

theorem opDetectExit_of_energy {s : State} {p : Nat} (hst : s.train p = trDetect) (he : s.energy p = true) (hw : s.waitsOut p = false) :
    opDetectExit p s = enterTrain p trComma (s.inc (F.CH_TRAIN_COUNT_ATTEMPTS p)) := by
  simp [opDetectExit, hst, he, hw]

theorem unsent_attempts (p : Nat) : (F.CH_TRAIN_COUNT_ATTEMPTS p).Unsent := .of_port (p := p) (off := 0x18) rfl (by decide)

theorem attempt_settled (p : Nat) (s : State) :
    let t := settle (enterTrain p trComma (s.fresh.inc (F.CH_TRAIN_COUNT_ATTEMPTS p)))
    t.train p = trComma ∧ t.get (F.CH_TRAIN_COUNT_ATTEMPTS p) = s.more (F.CH_TRAIN_COUNT_ATTEMPTS p) ∧ Sent (s.trainSets p tsA) t ∧
      Frame [F.CH_TRAIN_STATE_STATE p, F.CH_TRAIN_COUNT_ATTEMPTS p] s (s.setPort p fun x => { x with txIdle := false }) t := by
  have hapart : SetsApart [F.CH_TRAIN_COUNT_ATTEMPTS p] := setsApart_cons.mpr ⟨unsent_attempts p, setsApart_nil⟩
  obtain ⟨htrain, hsent, hframe⟩ := enterTrain_settled (s := s) (v := s) false (inc_writes s.fresh (F.CH_TRAIN_COUNT_ATTEMPTS p)) hapart (by decide)
    rfl (idleIn_comma s p) (List.Subset.refl _)
  have hsep : (F.CH_TRAIN_STATE_STATE p).sep (F.CH_TRAIN_COUNT_ATTEMPTS p) = true := Fld.sep_of_addr_ne (atCH_ne p p (by decide))
  have hcount : (enterTrain p trComma (s.fresh.inc (F.CH_TRAIN_COUNT_ATTEMPTS p))).get (F.CH_TRAIN_COUNT_ATTEMPTS p) =
      s.more (F.CH_TRAIN_COUNT_ATTEMPTS p) := by
    rw [enterTrain_get p trComma _ hsep, State.get_inc_same _ rfl, State.more_of_regs (s := s) (t := s.fresh) rfl]
  exact ⟨htrain, (settle_get _ _).trans hcount, hsent.trans (entrySends_comma s p), hframe⟩

theorem opWaitExpiry_of_wait {s : State} {p : Nat} (hst : s.train p = trWait) : opWaitExpiry p s = enterTrain p trDetect s := by
  simp [opWaitExpiry, hst]

/-- A return to DETECT of a port that need not wait for the image. -/
theorem detect_settled {s : State} {p : Nat} (hwait : s.waitsOut p = false) :
    let t := settle (enterTrain p trDetect s.fresh)
    t.train p = trDetect ∧ Sent (s.trainSets p tsA) t ∧ Frame [F.CH_TRAIN_STATE_STATE p] s (s.setPort p fun x => { x with txIdle := false }) t := by
  obtain ⟨htrain, hsent, hframe⟩ := enterTrain_settled (s := s) (v := s) (p := p) (st := trDetect) false (.refl [] s.fresh) setsApart_nil (by decide)
    rfl ((idleIn_detect s p).trans hwait) (List.Subset.refl _)
  exact ⟨htrain, hsent.trans (entrySends_detect s p hwait), hframe⟩

/-! ### Lanes that lock (R77, R196) -/

/-- The lock shown by each lane of a port. -/
abbrev lockFlds (p : Nat) : List Fld := (List.range 5).map fun i => F.HP_LANE_STATE_CDR_LOCK (chainLane p i)

theorem chainLane_inj {p i j : Nat} (h : chainLane p i = chainLane p j) : i = j := by
  unfold chainLane at h
  split at h <;> omega

theorem locks_block (p : Nat) : ∀ g ∈ lockFlds p, laneBlock g.addr := fun g hg => by
  obtain ⟨i, -, rfl⟩ := List.mem_map.mp hg
  exact laneBlock_lane (chainLane p i) (off := 0) (by decide)

theorem setsApart_locks (p : Nat) : SetsApart (lockFlds p) :=
  setsApart_map fun i => .of_lane (n := chainLane p i) (off := 0) rfl (by decide)

theorem showLocks_writes (p mask : Nat) (s : State) : Writes (lockFlds p) s (showLocks p mask s) :=
  Writes.each _ s fun _ hi t => (Writes.refl _ t).put (List.mem_map_of_mem hi) _

theorem showLocks_on {p mask i : Nat} (hi : i ∈ List.range 5) (s : State) :
    (showLocks p mask s).on (F.HP_LANE_STATE_CDR_LOCK (chainLane p i)) = mask.testBit i := by
  refine State.each_establishes (P := fun i t => State.on t (F.HP_LANE_STATE_CDR_LOCK (chainLane p i)) = mask.testBit i)
    (fun b t => ?_) (fun a b t hab h => ?_) _ s (.inl hi)
  · rw [State.on, State.get_putB_same _ _ rfl]
    cases mask.testBit b <;> rfl
  · have hsep : (F.HP_LANE_STATE_CDR_LOCK (chainLane p b)).sep (F.HP_LANE_STATE_CDR_LOCK (chainLane p a)) = true :=
      Fld.sep_of_addr_ne fun h => hab (chainLane_inj (atLANE_inj h)).symm
    rw [State.on, State.get_putB_sep _ _ _ hsep]
    exact h

theorem setLocked_writes (p mask : Nat) (s : State) : Writes (lockFlds p) (s.setPort p fun x => { x with locked := mask }) (setLocked p mask s) :=
  showLocks_writes p mask _

theorem Port.ne_default_of_locked {x : Port} (h : x.locked ≠ 0) : x ≠ {} := fun hx => h (congrArg Port.locked hx)

theorem setLocked_on {p mask i : Nat} (hi : i ∈ List.range 5) (s : State) :
    (setLocked p mask s).on (F.HP_LANE_STATE_CDR_LOCK (chainLane p i)) = mask.testBit i := showLocks_on hi _

theorem setLocked_fresh_writes (p mask : Nat) (s : State) :
    Writes (lockFlds p) (s.setPort p fun x => { x with locked := mask }).fresh (setLocked p mask s.fresh) := by
  rw [← State.fresh_setPort]
  exact setLocked_writes p mask s.fresh

theorem opCommaDone_of_lock {s : State} {p : Nat} {sets : List (List (List Nat))} (hst : s.train p = trComma)
    (hlock : lanesWith (s.readSets p sets) (setRun 8 tsA) ≠ 0) :
    opCommaDone p sets s = enterTrain p trAnnounce (setLocked p (lanesWith (s.readSets p sets) (setRun 8 tsA)) s) := by
  simp [opCommaDone, hst, hlock]

theorem enterTrain_on_lock (p st i : Nat) (s : State) :
    (enterTrain p st s).on (F.HP_LANE_STATE_CDR_LOCK (chainLane p i)) = s.on (F.HP_LANE_STATE_CDR_LOCK (chainLane p i)) := by
  have hsep : (F.CH_TRAIN_STATE_STATE p).sep (F.HP_LANE_STATE_CDR_LOCK (chainLane p i)) = true :=
    Fld.sep_of_port (p := p) (off := 0) rfl (by decide) (laneBlock_lane _ (off := 0) (by decide))
  rw [State.on, enterTrain_get p st s hsep, State.on]

/-- A port whose receiver has locked on some lanes announces itself. -/
theorem lock_settled {p locked : Nat} (hlock : locked ≠ 0) (s : State) :
    let t := settle (enterTrain p trAnnounce (setLocked p locked s.fresh))
    t.train p = trAnnounce ∧ Sent ((s.setPort p fun x => { x with locked := locked }).trainSets p tsA) t ∧
      (∀ i ∈ List.range 5, t.on (F.HP_LANE_STATE_CDR_LOCK (chainLane p i)) = locked.testBit i) ∧
      Frame (F.CH_TRAIN_STATE_STATE p :: lockFlds p) s (s.setPort p fun x => { x with locked := locked, txIdle := false }) t := by
  obtain ⟨htrain, hsent, hframe⟩ := enterTrain_settled (s := s) (p := p) (st := trAnnounce) false (setLocked_fresh_writes p locked s)
    (setsApart_locks p) (by decide) rfl (idleIn_announce _ p) (List.Subset.refl _)
  rw [State.setPort_setPort _ (Port.ne_default_of_locked hlock)] at hframe
  refine ⟨htrain, hsent.trans (entrySends_announce _ p), fun i hi => ?_, hframe⟩
  rw [settle_on, enterTrain_on_lock, setLocked_on hi]

/-! ### What the partner announces (R77, R92) -/

/-- A port that has heard its partner on the lanes that hold lock. -/
def heardPartner (p locked : Nat) (v : Partner) (s : State) : State := (setLocked p locked s).setPort p fun x => { x with partner := some v }

/-- A port that knows what its partner announces, and whether it is of the same mould. -/
def announced (p locked : Nat) (v : Partner) (s : State) : State :=
  (heardPartner p locked v s).putB (F.CH_TRAIN_STATE_ID_DIFF p) (v.wallId != s.get F.RD_MOULD_ID_WALL_ID || v.mouldSeq != s.get F.RD_MOULD_INFO_MOULD_SEQ)

abbrev announceFlds (p : Nat) : List Fld := F.CH_TRAIN_STATE_ID_DIFF p :: lockFlds p

theorem setsApart_announce (p : Nat) : SetsApart (announceFlds p) :=
  setsApart_cons.mpr ⟨.of_port (p := p) (off := 0) rfl (by decide), setsApart_locks p⟩

theorem announced_writes {p locked : Nat} (hlock : locked ≠ 0) (v : Partner) (s : State) :
    Writes (announceFlds p) (s.setPort p fun x => { x with locked := locked, partner := some v }).fresh (announced p locked v s.fresh) := by
  have hrecord : ((s.setPort p fun x => { x with locked := locked }).fresh.setPort p fun x => { x with partner := some v }) =
      (s.setPort p fun x => { x with locked := locked, partner := some v }).fresh := by
    rw [State.fresh_setPort, State.setPort_setPort _ (Port.ne_default_of_locked hlock)]
  have hlocks := ((setLocked_fresh_writes p locked s).mono (List.subset_cons_self (F.CH_TRAIN_STATE_ID_DIFF p) _)).map
    (fun s => s.setPort p fun x => { x with partner := some v }) fun _ _ => rfl
  rw [hrecord, ← heardPartner] at hlocks
  exact hlocks.put List.mem_cons_self _

theorem announced_idDiff (p locked : Nat) (v : Partner) (s : State) : (announced p locked v s).get (F.CH_TRAIN_STATE_ID_DIFF p) =
    if v.wallId ≠ s.get F.RD_MOULD_ID_WALL_ID ∨ v.mouldSeq ≠ s.get F.RD_MOULD_INFO_MOULD_SEQ then 1 else 0 := by
  rw [announced, State.get_putB_same _ _ rfl]
  simp only [Bool.or_eq_true, bne_iff_ne]

theorem State.setPort_noMouldTile (s : State) (p : Nat) (f : Port → Port) : (s.setPort p f).noMouldTile = s.noMouldTile := rfl

theorem takePartner_of_image {s : State} (hno : s.noMouldTile = false) (p : Nat) (v : Partner) : takePartner p v s = s := by
  rw [takePartner, hno, Bool.false_and, if_neg Bool.false_ne_true]

section
variable (p locked : Nat) (v : Partner) (s : State)

theorem heardPartner_rind {f : Fld} (hf : f.addr < 0x1000000) : (heardPartner p locked v s).get f = s.get f := by
  rw [heardPartner, State.setPort_get, (setLocked_writes p locked s).rind (setsApart_locks p) hf, State.setPort_get]

theorem heardPartner_noMouldTile : (heardPartner p locked v s).noMouldTile = s.noMouldTile := by
  rw [heardPartner, State.setPort_noMouldTile, (setLocked_writes p locked s).noMouldTile (setsApart_locks p), State.setPort_noMouldTile]

theorem heardPartner_port : (heardPartner p locked v s).port p = { s.port p with locked := locked, partner := some v } := by
  rw [heardPartner, State.port_setPort_same, (setLocked_writes p locked s).port, State.port_setPort_same]

theorem announced_port : (announced p locked v s).port p = { s.port p with locked := locked, partner := some v } := by
  rw [← heardPartner_port, announced, State.port, State.putB_ports, State.port]

end

section
variable {s : State} {p held : Nat} {sets : List (List (List Nat))}

/-- The lanes that hold lock at the end of ANNOUNCE. -/
def State.announceLocks (s : State) (p held : Nat) (sets : List (List (List Nat))) : Nat :=
  ((s.port p).locked ||| lanesWith (s.readSets p sets) (setRun 8 tsA)) &&& held

/-- What the partner announces on the lowest of the lanes that hold lock. -/
def State.announceHeard (s : State) (p held : Nat) (sets : List (List (List Nat))) : Partner :=
  decodeSet (((s.readSets p sets).getD ((bitsOf 5 (s.announceLocks p held sets)).headD 0) []).headD [])

theorem opAnnounceDone_of_lock (hst : s.train p = trAnnounce) (hlock : s.announceLocks p held sets ≠ 0)
    (hsame : (bitsOf 5 (s.announceLocks p held sets)).all (fun i => setRunSame 16 tsA ((s.readSets p sets).getD i [])) = true)
    (hno : s.noMouldTile = false) :
    opAnnounceDone p held sets s =
      let v := s.announceHeard p held sets
      let x := announced p (s.announceLocks p held sets) v s
      if v.rate != (s.port p).rate || v.lanes != (s.port p).lanes then x.trainFail p 3 trWait else enterTrain p trConfirm x := by
  have htake := fun v => takePartner_of_image ((heardPartner_noMouldTile p (s.announceLocks p held sets) v s).trans hno) p v
  have hwall := fun v => heardPartner_rind p (s.announceLocks p held sets) v s (f := F.RD_MOULD_ID_WALL_ID) (by decide)
  have hseq := fun v => heardPartner_rind p (s.announceLocks p held sets) v s (f := F.RD_MOULD_INFO_MOULD_SEQ) (by decide)
  have hport := fun v => announced_port p (s.announceLocks p held sets) v s
  unfold announced heardPartner State.announceHeard State.announceLocks at *
  simp only [opAnnounceDone, htake, hwall, hseq, hport, hst, hsame, bne_self_eq_false, Bool.not_true,
    Bool.or_false, beq_eq_false_iff_ne.mpr hlock, Bool.false_eq_true, if_false]

end

/-- A partner of the same rate and lane count is confirmed. -/
theorem announced_settled {p locked : Nat} (hlock : locked ≠ 0) (v : Partner) (s : State) :
    let t := settle (enterTrain p trConfirm (announced p locked v s.fresh))
    t.train p = trConfirm ∧ (t.get (F.CH_TRAIN_STATE_ID_DIFF p) =
        if v.wallId ≠ s.get F.RD_MOULD_ID_WALL_ID ∨ v.mouldSeq ≠ s.get F.RD_MOULD_INFO_MOULD_SEQ then 1 else 0) ∧
      Sent ((s.setPort p fun x => { x with locked := locked }).trainSets p tsB) t ∧
      Frame (F.CH_TRAIN_STATE_STATE p :: announceFlds p) s
        (s.setPort p fun x => { x with locked := locked, partner := some v, txIdle := false }) t := by
  obtain ⟨htrain, hsent, hframe⟩ := enterTrain_settled (s := s) (p := p) (st := trConfirm) false (announced_writes hlock v s)
    (setsApart_announce p) (by decide) rfl (idleIn_confirm _ p) (List.Subset.refl _)
  rw [State.setPort_setPort _ (Port.ne_default_of_locked hlock)] at hframe
  have hsets : (s.setPort p fun x => { x with locked := locked, partner := some v }).trainSets p tsB =
      (s.setPort p fun x => { x with locked := locked }).trainSets p tsB := trainSets_setPort_congr (by rfl) tsB
  refine ⟨htrain, ?_, hsent.trans ((entrySends_confirm _ p).trans hsets), hframe⟩
  rw [settle_get, enterTrain_get p trConfirm _ (Fld.sep_of_bits rfl), announced_idDiff, State.fresh_get, State.fresh_get]

/-! ### Equaliser settings of the lanes that hold lock (R185, R186) -/

abbrev eqFlds (p : Nat) : List Fld := (List.range 5).map fun i => whole (F.HP_LANE_RXEQ_CTLE (chainLane p i)).addr

/-- Sets the equaliser of each lane of a port that holds lock. -/
def setLockedEq (p : Nat) (w : Nat → State → Word) (s : State) : State :=
  s.each (bitsOf 5 (s.port p).locked) fun i s => setRxEq (chainLane p i) (w i s) s

theorem setsApart_eq (p : Nat) : SetsApart (eqFlds p) :=
  setsApart_map fun i => .of_lane (n := chainLane p i) (off := 0x10) rfl (by decide)

/-- Steps that write registers and lane records, one after another. -/
theorem Writes.each_lanes {α : Type} {l : List Fld} {f : α → State → State} : ∀ (L : List α) (s : State),
    (∀ a ∈ L, ∀ t, ∃ ln, Writes l { t with lanes := ln } (f a t)) → ∃ ln, Writes l { s with lanes := ln } (s.each L f)
  | [], s, _ => ⟨s.lanes, .refl l s⟩
  | a :: L, s, h => by
    obtain ⟨_, hfirst⟩ := h a List.mem_cons_self s
    obtain ⟨ln, hrest⟩ := Writes.each_lanes L (f a s) fun b hb => h b (List.mem_cons_of_mem a hb)
    exact ⟨ln, (hfirst.map (fun t => { t with lanes := ln }) fun _ _ => rfl).trans hrest⟩

theorem setRxEq_writes (n : Nat) (w : Word) (s : State) : ∃ ln, Writes [whole (F.HP_LANE_RXEQ_CTLE n).addr] { s with lanes := ln } (setRxEq n w s) := by
  unfold setRxEq State.setLn
  exact ⟨_, (((Writes.refl _ s).wr List.mem_cons_self _).map (fun t => { t with lanes := _ }) fun _ _ => rfl)⟩

theorem setLockedEq_writes (p : Nat) (w : Nat → State → Word) (s : State) :
    Writes (eqFlds p) { s with lanes := (setLockedEq p w s).lanes } (setLockedEq p w s) := by
  obtain ⟨ln, h⟩ : ∃ ln, Writes (eqFlds p) { s with lanes := ln } (setLockedEq p w s) := Writes.each_lanes _ s fun i hi t => by
    obtain ⟨ln, hone⟩ := setRxEq_writes (chainLane p i) (w i t) t
    refine ⟨ln, hone.mono ?_⟩
    exact List.cons_subset.mpr ⟨List.mem_map_of_mem (f := fun i => whole (F.HP_LANE_RXEQ_CTLE (chainLane p i)).addr)
      (List.mem_of_mem_filter hi), List.nil_subset _⟩
  have hlanes : (setLockedEq p w s).lanes = ln := h.same State.lanes fun _ _ => rfl
  rwa [hlanes]

/-- No ramp of a lane waits to be undone or to go on. -/
def Lane.Unramped (x : Lane) : Prop := x.before = none ∧ x.aim = none

theorem setRxEq_unramped (n : Nat) (w : Word) (s : State) : ((setRxEq n w s).lane n).Unramped := by
  rw [setRxEq, State.ln_setLn, if_pos rfl]
  exact ⟨rfl, rfl⟩

theorem setRxEq_lane_ne {n m : Nat} (h : m ≠ n) (w : Word) (s : State) : (setRxEq n w s).lane m = s.lane m := by
  rw [setRxEq, State.ln_setLn, if_neg h, State.lane, State.wr_lanes, State.lane]

theorem setLockedEq_unramped {p i : Nat} {w : Nat → State → Word} {s : State} (hi : i ∈ bitsOf 5 (s.port p).locked) :
    ((setLockedEq p w s).lane (chainLane p i)).Unramped :=
  State.each_establishes (P := fun i t => (State.lane t (chainLane p i)).Unramped) (fun b t => setRxEq_unramped _ _ t)
    (fun a b t hab h => by rwa [setRxEq_lane_ne fun h => hab (chainLane_inj h)]) _ s (.inl hi)

/-- A state with other lane records. -/
def State.withLanes (ln : Tab Lane) (s : State) : State := { s with lanes := ln }

@[simp] theorem State.withLanes_lanes (ln : Tab Lane) (s : State) : (s.withLanes ln).lanes = ln := rfl
theorem State.withLanes_setPort (ln : Tab Lane) (s : State) (p : Nat) (f : Port → Port) :
    (s.withLanes ln).setPort p f = (s.setPort p f).withLanes ln := rfl
theorem State.withLanes_trainSets (ln : Tab Lane) (s : State) (p ty : Nat) : (s.withLanes ln).trainSets p ty = s.trainSets p ty := rfl

theorem setLockedEq_fresh_writes (p : Nat) (w : Nat → State → Word) (s : State) :
    Writes (eqFlds p) (s.withLanes (setLockedEq p w s.fresh).lanes).fresh (setLockedEq p w s.fresh) := setLockedEq_writes p w s.fresh

theorem setLockedEq_port (p : Nat) (w : Nat → State → Word) (s : State) : (setLockedEq p w s).port p = s.port p :=
  (setLockedEq_writes p w s).port p

theorem Frame.lanes {l : List Fld} {s u t : State} (h : Frame l s u t) : t.lanes = u.lanes := (congrArg State.lanes h.2 :)

/-! ### CONFIRM to RATE (R77, R185) -/

/-- The settings that adaptation starts from, those of the lane's trim sets for the temperature. -/
def startWord (p i : Nat) (s : State) : Word := (trimTarget (chainLane p i) (s.cal p).temp s).word

/-- A port whose partner has confirmed `l`: its group runs at its own rate. -/
def confirmed (p l : Nat) (s : State) : State :=
  groupRate p (s.port p).rate ((setLockedEq p (startWord p) s).setPort p fun x => { x with partnerLocked := l })

section
variable {s : State} {p l : Nat} {sets : List (List (List Nat))}

theorem locked_of_heard (hl : s.heardLocked p 8 (s.readSets p sets) = some l) : (s.port p).locked ≠ 0 := by
  intro h
  rw [State.heardLocked, h] at hl
  simp [bitsOf] at hl

theorem opConfirmDone_of_heard (hst : s.train p = trConfirm) (hl : s.heardLocked p 8 (s.readSets p sets) = some l) :
    opConfirmDone p sets s = enterTrain p trRate (confirmed p l s) := by
  have hport : ((setLockedEq p (startWord p) s).port p).rate = (s.port p).rate := by rw [setLockedEq_port]
  unfold confirmed
  rw [← hport]
  unfold setLockedEq startWord
  simp only [opConfirmDone, hl, hst, bne_self_eq_false, Bool.false_eq_true, if_false]

end

theorem confirmed_writes (p l : Nat) (s : State) : Writes (F.HP_GROUP_STATE_RATE p :: eqFlds p)
    ((s.withLanes (setLockedEq p (startWord p) s.fresh).lanes).setPort p fun x => { x with partnerLocked := l }).fresh (confirmed p l s.fresh) := by
  rw [← State.fresh_setPort]
  exact (((setLockedEq_fresh_writes p (startWord p) s).mono (List.subset_cons_self (F.HP_GROUP_STATE_RATE p) _)).map
    (fun s => s.setPort p fun x => { x with partnerLocked := l }) fun _ _ => rfl).put List.mem_cons_self _

theorem setsApart_confirm (p : Nat) : SetsApart (F.HP_GROUP_STATE_RATE p :: eqFlds p) :=
  setsApart_cons.mpr ⟨.of_group (k := p) (off := 0) rfl (by decide), setsApart_eq p⟩

theorem confirmed_settled {p : Nat} (l : Nat) {s : State} (hlock : (s.port p).locked ≠ 0) :
    let t := settle (enterTrain p trRate (confirmed p l s.fresh))
    t.train p = trRate ∧ t.get (F.HP_GROUP_STATE_RATE p) = (s.port p).rate % 2 ^ (F.HP_GROUP_STATE_RATE p).width ∧ Sent (s.trainSets p tsB) t ∧
      (∀ i ∈ bitsOf 5 (s.port p).locked, (t.lane (chainLane p i)).Unramped) ∧
      Frame (F.CH_TRAIN_STATE_STATE p :: F.HP_GROUP_STATE_RATE p :: eqFlds p) s
        ((s.setPort p fun x => { x with partnerLocked := l, txIdle := false }).withLanes t.lanes) t := by
  intro t
  obtain ⟨htrain, hsent, hframe⟩ := enterTrain_settled (s := s) (p := p) (st := trRate) false (confirmed_writes p l s)
    (setsApart_confirm p) (by decide) rfl (idleIn_rate _ p) (List.Subset.refl _)
  have hlanes : t.lanes = (setLockedEq p (startWord p) s.fresh).lanes := by
    rw [hframe.lanes, State.setPort_lanes, State.setPort_lanes, State.withLanes_lanes]
  rw [State.setPort_setPort _ (fun h => hlock (congrArg Port.locked h)), State.withLanes_setPort] at hframe
  have hsets : ((s.withLanes (setLockedEq p (startWord p) s.fresh).lanes).setPort p fun x => { x with partnerLocked := l }).trainSets p tsB =
      s.trainSets p tsB := by
    rw [trainSets_setPort (by rfl), State.withLanes_trainSets]
  refine ⟨htrain, ?_, hsent.trans ((entrySends_rate _ p).trans hsets), fun i hi => ?_, by rw [hlanes]; exact hframe⟩
  · rw [settle_get, enterTrain_get p trRate _ (Fld.sep_of_port (p := p) (off := 0) rfl (by decide) (laneBlock_group p (off := 0) (by decide))),
      confirmed, groupRate, State.get_put_same _ _ _ rfl, State.fresh_v_port]
  · rw [State.lane, hlanes, ← State.lane]
    exact setLockedEq_unramped (by rwa [State.fresh_v_port])

/-! ### RATE to DESKEW (R77, R185) -/

/-- A port that has adapted to its trained rate. -/
def adapted (p : Nat) (eq : List Word) (s : State) : State :=
  (setLockedEq p (fun i _ => eq.getD i 0) s).put (F.CH_TRAIN_STATE_RATE p) (s.port p).rate

theorem opRateDone_of_heard {s : State} {p l : Nat} {sets : List (List (List Nat))} (eq : List Word) (hst : s.train p = trRate)
    (hl : s.heardLocked p 8 (s.readSets p sets) = some l) : opRateDone p eq sets s = enterTrain p trDeskew (adapted p eq s) := by
  have hport : ((setLockedEq p (fun i _ => eq.getD i 0) s).port p).rate = (s.port p).rate := by rw [setLockedEq_port]
  unfold adapted
  rw [← hport]
  unfold setLockedEq
  simp only [opRateDone, hl, hst, bne_self_eq_false, Option.isNone_some, Bool.or_false, Bool.false_eq_true, if_false]

theorem adapted_writes (p : Nat) (eq : List Word) (s : State) : Writes (F.CH_TRAIN_STATE_RATE p :: eqFlds p)
    (s.withLanes (setLockedEq p (fun i _ => eq.getD i 0) s.fresh).lanes).fresh (adapted p eq s.fresh) :=
  ((setLockedEq_fresh_writes p _ s).mono (List.subset_cons_self (F.CH_TRAIN_STATE_RATE p) _)).put List.mem_cons_self _

theorem setsApart_rate (p : Nat) : SetsApart (F.CH_TRAIN_STATE_RATE p :: eqFlds p) :=
  setsApart_cons.mpr ⟨.of_port (p := p) (off := 0) rfl (by decide), setsApart_eq p⟩

theorem adapted_settled (p : Nat) (eq : List Word) (s : State) :
    let t := settle (enterTrain p trDeskew (adapted p eq s.fresh))
    t.train p = trDeskew ∧ t.get (F.CH_TRAIN_STATE_RATE p) = (s.port p).rate % 2 ^ (F.CH_TRAIN_STATE_RATE p).width ∧
      Sent (.deskew p :: s.trainSets p tsB) t ∧ (∀ i ∈ bitsOf 5 (s.port p).locked, (t.lane (chainLane p i)).Unramped) ∧
      Frame (F.CH_TRAIN_STATE_STATE p :: F.CH_TRAIN_STATE_RATE p :: eqFlds p) s
        ((s.setPort p fun x => { x with txIdle := false }).withLanes t.lanes) t := by
  intro t
  obtain ⟨htrain, hsent, hframe⟩ := enterTrain_settled (s := s) (p := p) (st := trDeskew) false (adapted_writes p eq s)
    (setsApart_rate p) (by decide) rfl (idleIn_deskew _ p) (List.Subset.refl _)
  have hlanes : t.lanes = (setLockedEq p (fun i _ => eq.getD i 0) s.fresh).lanes := by
    rw [hframe.lanes, State.setPort_lanes, State.withLanes_lanes]
  rw [State.withLanes_setPort] at hframe
  refine ⟨htrain, ?_, hsent.trans ?_, fun i hi => ?_, by rw [hlanes]; exact hframe⟩
  · rw [settle_get, enterTrain_get p trDeskew _ (Fld.sep_of_bits rfl), adapted, State.get_put_same _ _ _ rfl, State.fresh_v_port]
  · rw [entrySends_deskew, State.withLanes_trainSets]
  · rw [State.lane, hlanes, ← State.lane]
    exact setLockedEq_unramped (by rwa [State.fresh_v_port])

end Sys2Proof.Machine
end

section
/-!
PROOFS. Chapter 03: lane maps, the end of DESKEW and training that fails (R77, R78, R92, R93, R97, R608).
-/

namespace Sys2Proof.Machine

open Sys2Proof

/-! ### What training leaves alone -/

/-- The memories, the raster and the image, none of which training touches. -/
structure SameStores (s t : State) : Prop where
  dram : t.dram = s.dram
  pram : t.pram = s.pram
  nv : t.nv = s.nv
  raster : t.raster = s.raster
  mould : t.mould = s.mould

theorem SameStores.refl (s : State) : SameStores s s := ⟨rfl, rfl, rfl, rfl, rfl⟩

section
variable {s t u : State}

theorem SameStores.trans (h : SameStores s t) (k : SameStores t u) : SameStores s u :=
  ⟨k.dram.trans h.dram, k.pram.trans h.pram, k.nv.trans h.nv, k.raster.trans h.raster, k.mould.trans h.mould⟩

theorem Writes.sameStores {l : List Fld} (h : Writes l s t) : SameStores s t :=
  ⟨h.same State.dram fun _ _ => rfl, h.same State.pram fun _ _ => rfl, h.same State.nv fun _ _ => rfl, h.same State.raster fun _ _ => rfl,
    h.same State.mould fun _ _ => rfl⟩

end

section
variable (s : State)

theorem fresh_sameStores : SameStores s s.fresh := ⟨rfl, rfl, rfl, rfl, rfl⟩
theorem settle_sameStores : SameStores s (settle s) := ⟨rfl, rfl, rfl, rfl, rfl⟩
theorem setPort_sameStores (p : Nat) (f : Port → Port) : SameStores s (s.setPort p f) := ⟨rfl, rfl, rfl, rfl, rfl⟩
theorem withOut_sameStores (o : List Out) : SameStores s (s.withOut o) := ⟨rfl, rfl, rfl, rfl, rfl⟩

theorem entered_sameStores (p st : Nat) : SameStores s (entered p st s) := (setPort_sameStores s p _).trans (withOut_sameStores _ _)

end

/-! ### Lane maps (R78, R224) -/

/-- What a port shows of its receive map, and of its transmit map. -/
abbrev rxMapFlds (p : Nat) : List Fld := [F.CH_LANE_MAP_RX_ACTIVE p, F.CH_LANE_MAP_RX_SPARE p, F.CH_LINK_STATUS_RX_LANES p]
abbrev txMapFlds (p : Nat) : List Fld := [F.CH_LANE_MAP_TX_ACTIVE p, F.CH_LANE_MAP_TX_SPARE p, F.CH_LINK_STATUS_TX_LANES p]

/-- What a port's group shows of one of its maps. -/
abbrev calMapFlds (fld : Nat → Nat → Fld) (g : Nat) : List Fld := (List.range 5).map (fld g)

/-- What the lanes and the group of a port show of its maps, its locks and its rate. -/
def laneSide (p : Nat) : List Fld := calMapFlds calMapRx p ++ calMapFlds calMapTx p ++ lockFlds p ++ [F.HP_GROUP_STATE_RATE p]

theorem mem_laneSide {p : Nat} {f : Fld} (h : f ∈ laneSide p) :
    f.addr = atGROUP p 0x1C ∨ (∃ i, f.addr = atLANE (chainLane p i) 0) ∨ f.addr = atGROUP p 0 := by
  simp only [laneSide, List.mem_append, List.mem_map, List.mem_singleton] at h
  obtain ((⟨i, -, rfl⟩ | ⟨i, -, rfl⟩) | ⟨i, -, rfl⟩) | rfl := h
  · exact .inl rfl
  · exact .inl rfl
  · exact .inr (.inl ⟨i, rfl⟩)
  · exact .inr (.inr rfl)

theorem laneSide_block {p : Nat} : ∀ f ∈ laneSide p, laneBlock f.addr := fun f hf => by
  obtain h | ⟨i, h⟩ | h := mem_laneSide hf <;> rw [h]
  · exact laneBlock_group p (by decide)
  · exact laneBlock_lane _ (by decide)
  · exact laneBlock_group p (by decide)

theorem setsApart_laneSide (p : Nat) : SetsApart (laneSide p) := fun f hf => by
  obtain h | ⟨i, h⟩ | h := mem_laneSide hf
  · exact .of_group h (by decide)
  · exact .of_lane h (by decide)
  · exact .of_group h (by decide)

theorem showCalMap_writes (g : Nat) (fld : Nat → Nat → Fld) (active spare : Nat) (s : State) :
    Writes (calMapFlds fld g) s (showCalMap g fld active spare s) :=
  (Writes.each (List.range 4) s fun k hk t => (Writes.refl _ t).put
    (List.mem_map_of_mem (List.mem_range.mpr (Nat.lt_succ_of_lt (List.mem_range.mp hk)))) _).put (List.mem_map_of_mem (by decide)) _

section
variable (s : State) (p active spare : Nat)

/-- The lane count and the group's map follow the port's map. -/
theorem setRxMap_after : Writes (F.CH_LINK_STATUS_RX_LANES p :: calMapFlds calMapRx p)
    ((s.put (F.CH_LANE_MAP_RX_ACTIVE p) active).put (F.CH_LANE_MAP_RX_SPARE p) spare) (s.setRxMap p active spare) :=
  ((Writes.refl _ _).put List.mem_cons_self _).trans ((showCalMap_writes p calMapRx active spare _).mono (List.subset_cons_self ..))

theorem setTxMap_after : Writes (F.CH_LINK_STATUS_TX_LANES p :: calMapFlds calMapTx p)
    ((s.put (F.CH_LANE_MAP_TX_ACTIVE p) active).put (F.CH_LANE_MAP_TX_SPARE p) spare) (s.setTxMap p active spare) :=
  ((Writes.refl _ _).put List.mem_cons_self _).trans ((showCalMap_writes p calMapTx active spare _).mono (List.subset_cons_self ..))

theorem setRxMap_writes : Writes (rxMapFlds p ++ calMapFlds calMapRx p) s (s.setRxMap p active spare) :=
  (((Writes.refl _ s).put (by simp) _).put (by simp) _).trans ((setRxMap_after s p active spare).mono (by simp))

theorem setTxMap_writes : Writes (txMapFlds p ++ calMapFlds calMapTx p) s (s.setTxMap p active spare) :=
  (((Writes.refl _ s).put (by simp) _).put (by simp) _).trans ((setTxMap_after s p active spare).mono (by simp))

/-- The receive map that a port shows, its active lanes and its spare, and the transmit map. -/
def State.rxMap : Nat × Nat := (s.get (F.CH_LANE_MAP_RX_ACTIVE p), s.get (F.CH_LANE_MAP_RX_SPARE p))
def State.txMap : Nat × Nat := (s.get (F.CH_LANE_MAP_TX_ACTIVE p), s.get (F.CH_LANE_MAP_TX_SPARE p))

theorem calMapFlds_block {fld : Nat → Nat → Fld} (h : ∀ k, (fld p k).addr = atGROUP p 0x1C) :
    ∀ x ∈ calMapFlds fld p, laneBlock x.addr := by
  intro x hx
  obtain ⟨k, -, rfl⟩ := List.mem_map.mp hx
  exact h k ▸ laneBlock_group p (by decide)

/-- What follows from a map does not change the map. -/
theorem Writes.get_laneMap {l : List Fld} {t : State} {g : Fld} (h : Writes (g :: l) s t) (hl : ∀ x ∈ l, laneBlock x.addr)
    (hg : g.addr = atCH p 0x1C) {f : Fld} (hf : f.addr = atCH p 0x4) : t.get f = s.get f :=
  h.get_port (l := [g]) hl (hf ▸ not_laneBlock_port p (by decide))
    (List.forall_mem_singleton.mpr (Fld.sep_of_addr_ne (by rw [hg, hf]; exact atCH_ne p p (by decide))))

theorem setRxMap_get {f : Fld} (hf : f.addr = atCH p 0x4) : (s.setRxMap p active spare).get f =
    ((s.put (F.CH_LANE_MAP_RX_ACTIVE p) active).put (F.CH_LANE_MAP_RX_SPARE p) spare).get f :=
  (setRxMap_after s p active spare).get_laneMap _ p (calMapFlds_block p fun _ => rfl) rfl hf

theorem setTxMap_get {f : Fld} (hf : f.addr = atCH p 0x4) : (s.setTxMap p active spare).get f =
    ((s.put (F.CH_LANE_MAP_TX_ACTIVE p) active).put (F.CH_LANE_MAP_TX_SPARE p) spare).get f :=
  (setTxMap_after s p active spare).get_laneMap _ p (calMapFlds_block p fun _ => rfl) rfl hf

theorem State.setPort_rxMap (f : Port → Port) : (s.setPort p f).rxMap p = s.rxMap p := rfl
theorem State.setPort_txMap (f : Port → Port) : (s.setPort p f).txMap p = s.txMap p := rfl
theorem settle_rxMap : (settle s).rxMap p = s.rxMap p := rfl
theorem settle_txMap : (settle s).txMap p = s.txMap p := rfl

theorem setRxMap_rxMap : (s.setRxMap p active spare).rxMap p = (active % 32, spare % 32) := by
  rw [State.rxMap, setRxMap_get s p active spare rfl, setRxMap_get s p active spare rfl, State.get_put_sep _ _ _ _ (Fld.sep_of_bits rfl),
    State.get_put_same _ _ _ rfl, State.get_put_same _ _ _ rfl]
  rfl

theorem setTxMap_txMap : (s.setTxMap p active spare).txMap p = (active % 32, spare % 32) := by
  rw [State.txMap, setTxMap_get s p active spare rfl, setTxMap_get s p active spare rfl, State.get_put_sep _ _ _ _ (Fld.sep_of_bits rfl),
    State.get_put_same _ _ _ rfl, State.get_put_same _ _ _ rfl]
  rfl

theorem setTxMap_rxMap : (s.setTxMap p active spare).rxMap p = s.rxMap p := by
  rw [State.rxMap, setTxMap_get s p active spare rfl, setTxMap_get s p active spare rfl, State.get_put_sep _ _ _ _ (Fld.sep_of_bits rfl),
    State.get_put_sep _ _ _ _ (Fld.sep_of_bits rfl), State.get_put_sep _ _ _ _ (Fld.sep_of_bits rfl),
    State.get_put_sep _ _ _ _ (Fld.sep_of_bits rfl), State.rxMap]

/-- Writes beside CH_LANE_MAP leave both maps. -/
theorem Writes.maps {l : List Fld} {t : State} (h : Writes l s t) (hl : ∀ g ∈ l, g.addr ≠ atCH p 0x4) :
    t.rxMap p = s.rxMap p ∧ t.txMap p = s.txMap p := by
  have hget : ∀ f : Fld, f.addr = atCH p 0x4 → t.get f = s.get f := fun f hf => h.get_of_addr fun g hg => hf ▸ hl g hg
  exact ⟨by rw [State.rxMap, hget _ rfl, hget _ rfl, State.rxMap], by rw [State.txMap, hget _ rfl, hget _ rfl, State.txMap]⟩

end

/-! ### DESKEW to HOPMEAS (R77, R78) -/

/-- Both maps of a port as its record and the locks of both ends, here all lanes, fix them. -/
def mapped (p : Nat) (s : State) : State :=
  let a := laneAssign 31 (s.port p).lanes (s.port p).spare
  (s.setRxMap p a.1 a.2).setTxMap p a.1 a.2

/-- A port's record at the start of HOPMEAS. -/
def Port.deskewed (x : Port) : Port := { x with partnerLocked := 31, laneErr := [], portErr := [], txGivenUp := false, rtSum := 0, rtCount := 0 }

/-- A port on all of whose lanes both ends lock, within the limit of skew. -/
def deskewed (p : Nat) (s : State) : State :=
  (((mapped p (sendSets p tsB (setLocked p 31 s))).put (F.CH_LINK_STATUS_RETIRED p) 0).put (F.CH_LINK_STATUS_RX_GIVEN_UP p) 0).setPort p Port.deskewed

theorem opDeskewDone_of_all {s : State} {p skew : Nat} {sets : List (List (List Nat))} (hst : s.train p = trDeskew) (hskew : skew ≤ 32)
    (hl : (setLocked p 31 s).heardLocked p 8 (s.readSets p sets) = some 31) :
    opDeskewDone p 31 skew sets s = enterTrain p trHopmeas (deskewed p s) := by
  have hall : (List.range 5).filter (fun i => !Nat.testBit 31 i) = [] := by decide
  unfold deskewed mapped
  simp only [opDeskewDone, Nat.reduceMod, hl, hst, Nat.not_lt.mpr hskew, hall, Option.getD_some, bne_self_eq_false, Nat.reduceBEq, decide_false,
    Bool.or_self, Bool.false_eq_true, if_false, State.each, List.foldl_nil]
  rfl

section
variable {f : Fld} {p : Nat}

theorem unsent_trainState (hf : f.addr = atCH p 0x0) : f.Unsent := .of_port hf (by decide)
theorem unsent_laneMap (hf : f.addr = atCH p 0x4) : f.Unsent := .of_port hf (by decide)
theorem unsent_trainCount (hf : f.addr = atCH p 0x18) : f.Unsent := .of_port hf (by decide)
theorem unsent_linkStatus (hf : f.addr = atCH p 0x1C) : f.Unsent := .of_port hf (by decide)

end

/-- What a port and its lanes show of both maps. -/
abbrev mapFlds (p : Nat) : List Fld := rxMapFlds p ++ txMapFlds p ++ laneSide p

theorem setsApart_maps (p : Nat) : SetsApart (mapFlds p) := by
  refine SetsApart.append ?_ (setsApart_laneSide p)
  simp only [List.cons_append, List.nil_append, setsApart_cons]
  exact ⟨unsent_laneMap rfl, unsent_laneMap rfl, unsent_linkStatus rfl, unsent_laneMap rfl, unsent_laneMap rfl, unsent_linkStatus rfl, setsApart_nil⟩

theorem setMaps_writes (p a b c d : Nat) (s : State) : Writes (mapFlds p) s ((s.setRxMap p a b).setTxMap p c d) := by
  refine ((setRxMap_writes s p a b).mono fun f hf => ?_).trans ((setTxMap_writes _ p c d).mono fun f hf => ?_)
  · obtain h | h := List.mem_append.mp hf <;> simp only [laneSide, List.mem_append, h, true_or, or_true]
  · obtain h | h := List.mem_append.mp hf <;> simp only [laneSide, List.mem_append, h, true_or, or_true]

theorem locks_subset_maps (p : Nat) : lockFlds p ⊆ mapFlds p := fun f hf => by
  simp only [laneSide, List.mem_append, hf, true_or, or_true]

theorem mapped_writes (p : Nat) (s : State) : Writes (mapFlds p) s (mapped p s) := setMaps_writes p _ _ _ _ s

theorem mapped_maps (p : Nat) (s : State) :
    (mapped p s).rxMap p = (laneAssign 31 (s.port p).lanes (s.port p).spare).map (· % 32) (· % 32) ∧
      (mapped p s).txMap p = (laneAssign 31 (s.port p).lanes (s.port p).spare).map (· % 32) (· % 32) := by
  unfold mapped
  exact ⟨by rw [setTxMap_rxMap, setRxMap_rxMap]; rfl, by rw [setTxMap_txMap]; rfl⟩

abbrev deskewFlds (p : Nat) : List Fld := F.CH_LINK_STATUS_RETIRED p :: F.CH_LINK_STATUS_RX_GIVEN_UP p :: mapFlds p

theorem setsApart_deskew (p : Nat) : SetsApart (deskewFlds p) :=
  setsApart_cons.mpr ⟨unsent_linkStatus (p := p) rfl, setsApart_cons.mpr ⟨unsent_linkStatus (p := p) rfl, setsApart_maps p⟩⟩

/-- What a port sends as it leaves DESKEW. -/
def State.deskewSets (s : State) (p : Nat) : List Out := (s.setPort p fun x => { x with locked := 31 }).trainSets p tsB

theorem deskewed_writes (p : Nat) (s : State) : Writes (deskewFlds p)
    (((s.setPort p fun x => { x with locked := 31 }).fresh.withOut (s.deskewSets p)).setPort p Port.deskewed) (deskewed p s.fresh) := by
  have hlocks := setLocked_fresh_writes p 31 s
  have hsets : sendSets p tsB (setLocked p 31 s.fresh) = (setLocked p 31 s.fresh).withOut (s.deskewSets p) := by
    rw [sendSets_eq, hlocks.trainSets (setsApart_locks p), hlocks.same State.out fun _ _ => rfl, State.fresh_trainSets, State.deskewSets]
    rfl
  have hsent : Writes (deskewFlds p) ((s.setPort p fun x => { x with locked := 31 }).fresh.withOut (s.deskewSets p))
      (sendSets p tsB (setLocked p 31 s.fresh)) := by
    rw [hsets]
    exact (hlocks.map (State.withOut (s.deskewSets p)) fun _ _ => rfl).mono
      (List.Subset.trans (locks_subset_maps p) fun f hf => List.mem_cons_of_mem _ (List.mem_cons_of_mem _ hf))
  have hmaps := hsent.trans ((mapped_writes p _).mono fun f hf => List.mem_cons_of_mem _ (List.mem_cons_of_mem _ hf))
  exact ((hmaps.put (f := F.CH_LINK_STATUS_RETIRED p) List.mem_cons_self 0).put (f := F.CH_LINK_STATUS_RX_GIVEN_UP p)
    (List.mem_cons_of_mem _ List.mem_cons_self) 0).map (State.setPort · p Port.deskewed) fun _ _ => rfl

theorem deskewed_maps (p : Nat) (s : State) :
    (deskewed p s).rxMap p = (laneAssign 31 (s.port p).lanes (s.port p).spare).map (· % 32) (· % 32) ∧
      (deskewed p s).txMap p = (laneAssign 31 (s.port p).lanes (s.port p).spare).map (· % 32) (· % 32) := by
  have hport : (sendSets p tsB (setLocked p 31 s)).port p = { s.port p with locked := 31 } := by
    rw [sendSets_eq, State.withOut_port, (setLocked_writes p 31 s).port, State.port_setPort_same]
  obtain ⟨hrx, htx⟩ := mapped_maps p (sendSets p tsB (setLocked p 31 s))
  rw [hport] at hrx htx
  unfold deskewed
  generalize mapped p (sendSets p tsB (setLocked p 31 s)) = t at *
  have hw : Writes [F.CH_LINK_STATUS_RETIRED p, F.CH_LINK_STATUS_RX_GIVEN_UP p] t
      ((t.put (F.CH_LINK_STATUS_RETIRED p) 0).put (F.CH_LINK_STATUS_RX_GIVEN_UP p) 0) :=
    ((Writes.refl _ t).put List.mem_cons_self 0).put (List.mem_cons_of_mem _ List.mem_cons_self) 0
  have hne : ∀ g ∈ [F.CH_LINK_STATUS_RETIRED p, F.CH_LINK_STATUS_RX_GIVEN_UP p], g.addr ≠ atCH p 0x4 :=
    List.forall_mem_cons.mpr ⟨atCH_ne p p (by decide), List.forall_mem_singleton.mpr (atCH_ne p p (by decide))⟩
  obtain ⟨hrxs, htxs⟩ := hw.maps _ p hne
  exact ⟨by rw [State.setPort_rxMap, hrxs, hrx], by rw [State.setPort_txMap, htxs, htx]⟩

/-- Entering a training state does not change the maps. -/
theorem enterTrain_maps (p st : Nat) (s : State) : (enterTrain p st s).rxMap p = s.rxMap p ∧ (enterTrain p st s).txMap p = s.txMap p := by
  have hget : ∀ f : Fld, f.addr = atCH p 0x4 → (enterTrain p st s).get f = s.get f := fun f hf =>
    enterTrain_get p st s (Fld.sep_of_addr_ne (hf ▸ atCH_ne p p (by decide)))
  exact ⟨by rw [State.rxMap, hget _ rfl, hget _ rfl, State.rxMap], by rw [State.txMap, hget _ rfl, hget _ rfl, State.txMap]⟩

theorem settle_train (p : Nat) (s : State) : (settle s).train p = s.train p := rfl

theorem entered_port (p st : Nat) (s : State) : (entered p st s).port p = { s.port p with txIdle := s.idleIn p st } := by
  rw [entered, State.withOut_port, State.port_setPort_same]

theorem entered_out (p st : Nat) (s : State) : (entered p st s).out = s.out ++ s.entrySends p st := rfl

theorem deskewed_settled (p : Nat) (s : State) :
    let t := settle (enterTrain p trHopmeas (deskewed p s.fresh))
    t.train p = trHopmeas ∧ t.rxMap p = (laneAssign 31 (s.port p).lanes (s.port p).spare).map (· % 32) (· % 32) ∧
      t.txMap p = (laneAssign 31 (s.port p).lanes (s.port p).spare).map (· % 32) (· % 32) ∧ (t.port p).locked = 31 ∧
      (t.port p).partnerLocked = 31 ∧ Sent (s.deskewSets p) t ∧ SameStores s t := by
  have hw := (deskewed_writes p s).enterTrain (setsApart_deskew p) p trHopmeas
  obtain ⟨hrx, htx⟩ := deskewed_maps p s.fresh
  obtain ⟨hrxs, htxs⟩ := enterTrain_maps p trHopmeas (deskewed p s.fresh)
  have hport := hw.port p
  rw [entered_port, State.port_setPort_same, State.withOut_port, State.fresh_v_port, State.port_setPort_same] at hport
  refine ⟨?_, ?_, ?_, ?_, ?_, ?_, ?_⟩
  · rw [settle_train, enterTrain_train p (by decide)]
  · rw [settle_rxMap, hrxs, hrx, State.fresh_v_port]
  · rw [settle_txMap, htxs, htx, State.fresh_v_port]
  · rw [settle_port, hport]
    rfl
  · rw [settle_port, hport]
    rfl
  · exact hw.sent.trans (by rw [entered_out, entrySends_hopmeas, List.append_nil, State.setPort_out, State.withOut_out])
  · refine (SameStores.trans ?_ ((entered_sameStores _ p _).trans hw.sameStores)).trans (settle_sameStores _)
    exact (((setPort_sameStores s p _).trans (fresh_sameStores _)).trans (withOut_sameStores _ _)).trans (setPort_sameStores _ p _)

end Sys2Proof.Machine
end

section
/-!
PROOFS. Chapter 03: training that fails (R77, R92, R93, R97, R608).
-/

namespace Sys2Proof.Machine

open Sys2Proof

/-! ### A port that shows no training (R92, R93) -/

/-- The other registers of a port are apart from what shows its maps. -/
theorem mapFlds_sep {f : Fld} {p off : Nat} (hf : f.addr = atCH p off) (hoff : off < 0x100) (h4 : off ≠ 0x4) (h1c : off ≠ 0x1C) :
    ∀ g ∈ mapFlds p, g.sep f = true := by
  intro g hg
  obtain hport | hlane := List.mem_append.mp hg
  · have haddr : g.addr = atCH p 0x4 ∨ g.addr = atCH p 0x1C := by
      simp only [List.cons_append, List.nil_append, List.mem_cons, List.not_mem_nil, or_false] at hport
      obtain rfl | rfl | rfl | rfl | rfl | rfl := hport
      exacts [.inl rfl, .inl rfl, .inr rfl, .inl rfl, .inl rfl, .inr rfl]
    refine Fld.sep_of_addr_ne fun h => ?_
    rw [h, hf, atCH_inj, atCH_inj] at haddr
    exact haddr.elim h4 h1c
  · exact Fld.sep_of_laneBlock (laneSide_block g hlane) (hf ▸ not_laneBlock_port p hoff)

theorem trainState_sep_maps {f : Fld} {p : Nat} (hf : f.addr = atCH p 0x0) : ∀ g ∈ mapFlds p, g.sep f = true :=
  mapFlds_sep hf (by decide) (by decide) (by decide)

theorem trainCount_sep_maps {f : Fld} {p : Nat} (hf : f.addr = atCH p 0x18) : ∀ g ∈ mapFlds p, g.sep f = true :=
  mapFlds_sep hf (by decide) (by decide) (by decide)

section
variable (p : Nat) (s : State)

theorem clearTrained_writes : Writes (F.CH_TRAIN_STATE_RATE p :: mapFlds p) s (clearTrained p s) := by
  refine ((((Writes.refl _ s).put List.mem_cons_self 0).trans ((setMaps_writes p 0 0 0 0 _).mono (List.subset_cons_self ..))).trans
    ((showLocks_writes p 0 _).mono fun f hf => List.mem_cons_of_mem _ (locks_subset_maps p hf)))

/-- What a port that has not trained shows. -/
def State.Untrained (s : State) (p : Nat) : Prop := s.get (F.CH_TRAIN_STATE_RATE p) = 0 ∧ s.rxMap p = (0, 0) ∧ s.txMap p = (0, 0)

theorem locks_ne_laneMap : ∀ g ∈ lockFlds p, g.addr ≠ atCH p 0x4 := fun g hg h =>
  not_laneBlock_port p (off := 4) (by decide) (h ▸ locks_block p g hg)

theorem clearTrained_untrained : (clearTrained p s).Untrained p := by
  refine ⟨?_, ?_, ?_⟩
  · have hmaps := (setMaps_writes p 0 0 0 0 (s.put (F.CH_TRAIN_STATE_RATE p) 0)).trans ((showLocks_writes p 0 _).mono (locks_subset_maps p))
    exact (hmaps.get (trainState_sep_maps rfl)).trans (State.get_put_same _ _ _ rfl)
  · rw [clearTrained, ((showLocks_writes p 0 _).maps _ p (locks_ne_laneMap p)).1, setTxMap_rxMap, setRxMap_rxMap]
  · rw [clearTrained, ((showLocks_writes p 0 _).maps _ p (locks_ne_laneMap p)).2, setTxMap_txMap]

/-! ### A failed attempt (R77, R608) -/

/-- A port whose attempt has failed with a cause. -/
def failed (cause : Nat) : State := groupRate p rate3125 (clearTrained p ((s.put (F.CH_TRAIN_STATE_CAUSE p) cause).inc (F.CH_TRAIN_COUNT_FAILS p)))

theorem trainFail_eq (cause next : Nat) : s.trainFail p cause next = enterTrain p next (failed p s cause) := rfl

theorem groupRate_writes (r : Nat) : Writes [F.HP_GROUP_STATE_RATE p] s (groupRate p r s) := (Writes.refl _ s).put List.mem_cons_self r

theorem groupRate_mem_maps : F.HP_GROUP_STATE_RATE p ∈ mapFlds p := by
  simp only [laneSide, List.mem_append, List.mem_singleton, or_true]

/-- What follows from a failure once its cause is kept and it has been counted. -/
theorem failed_after (cause : Nat) : Writes (F.CH_TRAIN_STATE_RATE p :: mapFlds p)
    ((s.put (F.CH_TRAIN_STATE_CAUSE p) cause).inc (F.CH_TRAIN_COUNT_FAILS p)) (failed p s cause) :=
  (clearTrained_writes p _).put (List.mem_cons_of_mem _ (groupRate_mem_maps p)) _

abbrev failFlds : List Fld := F.CH_TRAIN_STATE_CAUSE p :: F.CH_TRAIN_COUNT_FAILS p :: F.CH_TRAIN_STATE_RATE p :: mapFlds p

theorem setsApart_fail : SetsApart (failFlds p) := by
  simp only [setsApart_cons]
  exact ⟨unsent_trainState (p := p) rfl, unsent_trainCount (p := p) rfl, unsent_trainState (p := p) rfl, setsApart_maps p⟩

theorem failed_writes (cause : Nat) : Writes (failFlds p) s (failed p s cause) :=
  (((Writes.refl _ s).put List.mem_cons_self cause).inc (List.mem_cons_of_mem _ List.mem_cons_self)).trans
    ((failed_after p s cause).mono fun _ hf => List.mem_cons_of_mem _ (List.mem_cons_of_mem _ hf))

theorem failed_untrained (cause : Nat) : (failed p s cause).Untrained p := by
  have hgroup : ∀ g ∈ [F.HP_GROUP_STATE_RATE p], laneBlock g.addr := List.forall_mem_singleton.mpr (laneBlock_group p (by decide))
  obtain ⟨hrate, hrx, htx⟩ := clearTrained_untrained p ((s.put (F.CH_TRAIN_STATE_CAUSE p) cause).inc (F.CH_TRAIN_COUNT_FAILS p))
  have hw := groupRate_writes p (clearTrained p ((s.put (F.CH_TRAIN_STATE_CAUSE p) cause).inc (F.CH_TRAIN_COUNT_FAILS p))) rate3125
  obtain ⟨hrxs, htxs⟩ := hw.maps _ p fun g hg h => not_laneBlock_port p (off := 4) (by decide) (h ▸ hgroup g hg)
  have hrates := hw.get_port (l := []) hgroup (f := F.CH_TRAIN_STATE_RATE p) (not_laneBlock_port p (off := 0) (by decide)) (by simp)
  exact ⟨hrates.trans hrate, hrxs.trans hrx, htxs.trans htx⟩

theorem failed_cause {cause : Nat} (hc : cause < 16) : (failed p s cause).get (F.CH_TRAIN_STATE_CAUSE p) = cause := by
  rw [(failed_after p s cause).get (List.forall_mem_cons.mpr ⟨Fld.sep_of_bits rfl, trainState_sep_maps rfl⟩),
    State.get_inc_sep _ _ (Fld.sep_of_addr_ne (atCH_ne p p (by decide)))]
  exact State.get_put_fit _ _ rfl hc

theorem failed_fails (cause : Nat) : (failed p s cause).get (F.CH_TRAIN_COUNT_FAILS p) = s.more (F.CH_TRAIN_COUNT_FAILS p) := by
  rw [(failed_after p s cause).get (f := F.CH_TRAIN_COUNT_FAILS p)
      (List.forall_mem_cons.mpr ⟨Fld.sep_of_addr_ne (atCH_ne p p (by decide)), trainCount_sep_maps rfl⟩),
    State.get_inc_same _ rfl, State.more, State.get_put_sep _ _ _ _ (Fld.sep_of_addr_ne (atCH_ne p p (by decide))), State.more]

theorem failed_idDiff (cause : Nat) : (failed p s cause).get (F.CH_TRAIN_STATE_ID_DIFF p) = s.get (F.CH_TRAIN_STATE_ID_DIFF p) := by
  refine (failed_writes p s cause).get ?_
  simp only [List.forall_mem_cons]
  exact ⟨Fld.sep_of_bits rfl, Fld.sep_of_addr_ne (atCH_ne p p (by decide)), Fld.sep_of_bits rfl, trainState_sep_maps rfl⟩

end

/-- What an attempt that failed leaves: `t` follows `x`, whose records are those of `v`. -/
structure Fails (v x : State) (p cause next : Nat) (t : State) : Prop where
  train : t.train p = next
  cause : t.get (F.CH_TRAIN_STATE_CAUSE p) = cause
  fails : t.get (F.CH_TRAIN_COUNT_FAILS p) = x.more (F.CH_TRAIN_COUNT_FAILS p)
  rate : t.get (F.CH_TRAIN_STATE_RATE p) = 0
  rxActive : t.get (F.CH_LANE_MAP_RX_ACTIVE p) = 0
  txActive : t.get (F.CH_LANE_MAP_TX_ACTIVE p) = 0
  idDiff : t.get (F.CH_TRAIN_STATE_ID_DIFF p) = x.get (F.CH_TRAIN_STATE_ID_DIFF p)
  port : t.port p = { v.port p with txIdle := v.idleIn p next }
  sent : Sent (v.entrySends p next) t
  stores : SameStores v t

theorem trainFail_fails {l : List Fld} {v x : State} (p : Nat) {cause next : Nat} (hw : Writes l v.fresh x) (hl : SetsApart l) (hc : cause < 16)
    (hnext : next < 16) : Fails v x p cause next (settle (x.trainFail p cause next)) := by
  rw [trainFail_eq]
  have hall := ((hw.mono (List.subset_append_left l (failFlds p))).trans
    ((failed_writes p x cause).mono (List.subset_append_right l _))).enterTrain (hl.append (setsApart_fail p)) p next
  have hstate : ∀ f : Fld, (F.CH_TRAIN_STATE_STATE p).sep f = true →
      (settle (enterTrain p next (failed p x cause))).get f = (failed p x cause).get f :=
    fun f hf => (settle_get _ f).trans (enterTrain_get p next _ hf)
  obtain ⟨hrate, hrx, htx⟩ := failed_untrained p x cause
  exact {
    train := by rw [settle_train, enterTrain_train p hnext]
    cause := by rw [hstate _ (Fld.sep_of_bits rfl), failed_cause p x hc]
    fails := by rw [hstate (F.CH_TRAIN_COUNT_FAILS p) (Fld.sep_of_addr_ne (atCH_ne p p (by decide))), failed_fails]
    rate := by rw [hstate _ (Fld.sep_of_bits rfl), hrate]
    rxActive := (hstate (F.CH_LANE_MAP_RX_ACTIVE p) (Fld.sep_of_addr_ne (atCH_ne p p (by decide)))).trans (congrArg Prod.fst hrx)
    txActive := (hstate (F.CH_LANE_MAP_TX_ACTIVE p) (Fld.sep_of_addr_ne (atCH_ne p p (by decide)))).trans (congrArg Prod.fst htx)
    idDiff := by rw [hstate _ (Fld.sep_of_bits rfl), failed_idDiff]
    port := by rw [settle_port, hall.port, entered_port, State.fresh_v_port, State.fresh_idleIn]
    sent := hall.sent.trans (State.fresh_entrySends v p next)
    stores := ((fresh_sameStores v).trans ((entered_sameStores _ p next).trans hall.sameStores)).trans (settle_sameStores _) }

/-! ### The events that end an attempt (R77, R608) -/

/-- The cause that R77 gives for a limit. -/
def limitCause (st : Nat) : Nat :=
  if st = trComma then 6 else if st = trAnnounce ∨ st = trConfirm then 2 else if st = trDeskew then 5 else 4

theorem limitCause_lt (st : Nat) : limitCause st < 16 := by
  unfold limitCause
  split_ifs <;> decide

theorem opLimitExpiry_of_training {s : State} {p : Nat} (hlo : trComma ≤ s.train p) (hhi : s.train p ≤ trHopmeas) :
    opLimitExpiry p s = s.trainFail p (limitCause (s.train p)) trWait := by
  have hcases : s.train p = trComma ∨ s.train p = trAnnounce ∨ s.train p = trConfirm ∨ s.train p = trRate ∨ s.train p = trDeskew ∨
      s.train p = trHopmeas := by
    unfold trComma trAnnounce trConfirm trRate trDeskew trHopmeas at *
    omega
  obtain h | h | h | h | h | h := hcases <;>
    simp [opLimitExpiry, limitCause, h, trComma, trAnnounce, trConfirm, trRate, trDeskew, trHopmeas]

theorem opEnergyLost_of_training {s : State} {p : Nat} (hlo : trComma ≤ s.train p) (hhi : s.train p ≤ trHopmeas) (he : s.energy p = false) :
    opEnergyLost p s = s.trainFail p 2 trDetect := by
  simp [opEnergyLost, hlo, hhi, he]

theorem announced_fails {p locked : Nat} (hlock : locked ≠ 0) (v : Partner) (s : State) :
    (announced p locked v s.fresh).more (F.CH_TRAIN_COUNT_FAILS p) = s.more (F.CH_TRAIN_COUNT_FAILS p) := by
  have hget := (announced_writes hlock v s).get_port (l := [F.CH_TRAIN_STATE_ID_DIFF p]) (locks_block p) (f := F.CH_TRAIN_COUNT_FAILS p)
    (not_laneBlock_port p (off := 0x18) (by decide)) (List.forall_mem_singleton.mpr (Fld.sep_of_addr_ne (atCH_ne p p (by decide))))
  rw [State.more, hget, State.fresh_get, State.setPort_get, State.more]

/-- Settles O2: each of its events ends in a failed attempt, or in the entry to DETECT. -/
theorem trainingFails : Obligations.TrainingFails := by
  refine ⟨?_, ?_, ?_, ?_⟩
  · intro s p ha hport hlo hhi
    refine ⟨_, (exec_trainLimitExpiry p s).trans (run_onPort ha hport), ?_⟩
    rw [opLimitExpiry_of_training (s := s.fresh) hlo hhi]
    have h := trainFail_fails (v := s) p (.refl [] s.fresh) setsApart_nil (limitCause_lt (s.train p)) (next := trWait) (by decide)
    exact ⟨h.train, h.cause, h.fails, h.rate, h.rxActive, h.txActive, congrArg Port.txIdle h.port, h.sent, h.stores.dram, h.stores.pram, h.stores.nv,
      h.stores.raster, h.stores.mould⟩
  · intro s p ha hport hlo hhi he hwait
    refine ⟨_, (exec_trainEnergyLost p s).trans (run_onPort ha hport), ?_⟩
    rw [opEnergyLost_of_training (s := s.fresh) hlo hhi he]
    have h := trainFail_fails (v := s) p (.refl [] s.fresh) setsApart_nil (cause := 2) (by decide) (next := trDetect) (by decide)
    exact ⟨h.train, h.cause, h.fails, h.rate, h.rxActive, h.txActive, h.sent.trans (entrySends_detect s p hwait), h.stores.dram, h.stores.pram,
      h.stores.nv, h.stores.raster, h.stores.mould⟩
  · intro s p ha hport hst hwait
    refine ⟨_, (exec_trainWaitExpiry p s).trans (run_onPort ha hport), ?_⟩
    rw [opWaitExpiry_of_wait (s := s.fresh) hst]
    exact detect_settled hwait
  · intro s p held sets rx locked v ha hport hst hlock hsame hno hdiff
    have hbne : (v.rate != (s.port p).rate || v.lanes != (s.port p).lanes) = true := by simpa using hdiff
    have hop : opAnnounceDone p held sets s.fresh = (announced p locked v s.fresh).trainFail p 3 trWait :=
      (opAnnounceDone_of_lock (s := s.fresh) hst hlock hsame hno).trans (if_pos hbne)
    refine ⟨_, (exec_trainAnnounceDone p held sets s).trans (run_onPort ha hport), ?_⟩
    rw [hop]
    have h := trainFail_fails p (announced_writes (p := p) hlock v s) (setsApart_announce p) (cause := 3) (by decide) (next := trWait) (by decide)
    have hstores := (setPort_sameStores s p _).trans h.stores
    have hpartner := h.port
    rw [State.port_setPort_same] at hpartner
    exact ⟨h.train, h.cause, h.idDiff.trans (announced_idDiff p locked v s.fresh), h.fails.trans (announced_fails hlock v s),
      congrArg Port.partner hpartner, congrArg Port.txIdle hpartner, h.sent, hstores.dram, hstores.pram, hstores.nv, hstores.raster, hstores.mould⟩

end Sys2Proof.Machine
end

section
/-!
PROOFS. Chapter 03: the hop delay and LINKED at a sender (R77, R80).
-/

namespace Sys2Proof.Machine

open Sys2Proof

/-! ### The parts of what HOPMEAS ends with (R80, R85, R189, R220) -/

/-- The delay of a segment as the measuring end has it, or as the other end is told it. -/
def State.hopDelay (s : State) (p : Nat) (d : Int) : Int := if s.measures p then segDelay (s.port p).rtSum else d

/-- The measuring end tells the other end. -/
def tellDelay (p : Nat) (d : Int) (s : State) : State := if s.measures p then s.send (.segDelay p d) else s

/-- CH_SEG_DELAY shows a delay. -/
def reportDelay (p : Nat) (d : Int) (s : State) : State :=
  ((s.put (F.CH_SEG_DELAY_VALID p) 1).bump (F.CH_SEG_DELAY_SEQ p)).put (F.CH_SEG_DELAY_DELAY p) (ofInt 22 d)

/-- The lanes of a port that is LINKED. -/
def linkLanes (p : Nat) (s : State) : State := drawDisparity p (lanesLinked p (s.toTrain p trLinked))

/-- A tile's other group runs on the clock recovered here. -/
def passClock (p fwd : Nat) (s : State) : State :=
  if s.tileLike then { s.put (F.HP_GROUP_STATE_REF (1 - p)) 1 with enum := { s.enum with fwd := fwd } } else s

/-- The calibration of a port that is LINKED starts anew. -/
def newCal (p : Nat) (s : State) : State := s.setCal p fun x => { x with
  step := none, copies := (bitsOf 5 (s.get (F.CH_LANE_MAP_TX_SPARE p))).head?.map fun i => (i, 0), txDrop := none, retireNext := [] }

def calTemp (p : Nat) (s : State) : State := s.putI (F.HP_CAL_TEMP_TEMP p) (s.cal p).temp

def showCal (p : Nat) (s : State) : State :=
  (s.put (F.HP_CAL_STATUS_VALID p) 1).putB (F.HP_CAL_STATUS_IN_PLACE p) (s.rxIn p lnSpare).isEmpty

def retargetLanes (p : Nat) (s : State) : State :=
  s.each (s.rxIn p lnActive ++ s.rxIn p lnSpare) fun i s => retarget (chainLane p i) (s.cal p).temp s

/-- The measurement's counts start anew. -/
def hopCleared (p : Nat) (s : State) : State := s.setPort p fun x => { x with rtSum := 0, rtCount := 0, drift := 0 }

def clearEnd (p : Nat) (s : State) : State :=
  if s.tileLike && p == 1 then
    let s := s.put (F.CH_TRAIN_STATE_END 1) 0
    { s with enum := { s.enum with outSilent := false } }
  else s

def showTile (s : State) : State := if s.tileLike then showDown s else s.retile

theorem opHopmeasDone_eq (p : Nat) (d : Int) (fwd : Nat) (s : State) : opHopmeasDone p d fwd s =
    if s.train p != trHopmeas || (s.measures p && (s.port p).rtCount != 256) then s
    else
      let d := s.hopDelay p d
      let s := tellDelay p d s
      let s := reportDelay p d s
      let s := linkLanes p s
      let s := passClock p fwd s
      let s := trimIdentity p (newCal p s)
      let s := calTemp p s
      let s := showCal p s
      let s := retargetLanes p s
      let s := hopCleared p s
      let s := clearEnd p s
      showTile s := by
  delta opHopmeasDone State.hopDelay tellDelay reportDelay linkLanes passClock newCal calTemp showCal retargetLanes hopCleared clearEnd showTile
  rfl

/-- What changes registers of lanes, groups and trim sets alone, and no port's record. -/
structure LaneWork (s t : State) : Prop where
  get : ∀ f : Fld, ¬ laneBlock f.addr → t.get f = s.get f
  out : t.out = s.out
  ports : t.ports = s.ports
  stores : SameStores s t

theorem LaneWork.refl (s : State) : LaneWork s s := ⟨fun _ _ => rfl, rfl, rfl, .refl s⟩

section
variable {s t u : State}

theorem LaneWork.trans (h : LaneWork s t) (k : LaneWork t u) : LaneWork s u :=
  ⟨fun f hf => (k.get f hf).trans (h.get f hf), k.out.trans h.out, k.ports.trans h.ports, h.stores.trans k.stores⟩

/-- Writes of lanes, groups and trim sets. -/
theorem Writes.laneWork {l : List Fld} (h : Writes l s t) (hl : ∀ g ∈ l, laneBlock g.addr) : LaneWork s t :=
  ⟨fun _ hf => h.get fun g hg => Fld.sep_of_laneBlock (hl g hg) hf, h.same State.out fun _ _ => rfl, h.same State.ports fun _ _ => rfl, h.sameStores⟩

theorem LaneWork.put (h : LaneWork s t) {f : Fld} (hf : laneBlock f.addr) (v : Nat) : LaneWork s (t.put f v) :=
  h.trans (((Writes.refl [f] t).put List.mem_cons_self v).laneWork (List.forall_mem_singleton.mpr hf))

theorem LaneWork.wr (h : LaneWork s t) {a : Nat} (ha : laneBlock a) (w : Word) : LaneWork s (t.wr a w) :=
  h.trans (((Writes.refl [whole a] t).wr List.mem_cons_self w).laneWork (List.forall_mem_singleton.mpr ha))

theorem LaneWork.each {α : Type} {f : α → State → State} :
    ∀ (L : List α) (s : State), (∀ a ∈ L, ∀ t, LaneWork t (f a t)) → LaneWork s (s.each L f)
  | [], s, _ => .refl s
  | a :: L, s, h => (h a List.mem_cons_self s).trans (LaneWork.each L (f a s) fun b hb => h b (List.mem_cons_of_mem a hb))

theorem LaneWork.ite {c : Prop} [Decidable c] (h : LaneWork s t) (k : LaneWork s u) : LaneWork s (if c then t else u) := by
  split
  · exact h
  · exact k

theorem LaneWork.port (h : LaneWork s t) (p : Nat) : t.port p = s.port p := by rw [State.port, h.ports, State.port]

theorem not_laneBlock_rind {a : Nat} (h : a < 0x400000) : ¬ laneBlock a := by
  unfold laneBlock
  omega

theorem LaneWork.tileLike (h : LaneWork s t) : t.tileLike = s.tileLike := by
  have hrind := fun f (hf : Fld.addr f < 0x400000) => h.get f (not_laneBlock_rind hf)
  unfold State.tileLike State.noMouldTile State.isTile State.role State.on
  rw [hrind F.RD_DIE_STATE_ROLE (by decide), hrind F.RD_MOULD_STATUS_STATE (by decide), hrind F.RD_MOULD_STATUS_VALID (by decide),
    hrind F.RD_DIE_STATE_DIE_RUN (by decide)]

end

section
variable (n p : Nat) (s : State)

theorem setRxHalf_laneWork (rx : Nat) : LaneWork s (setRxHalf n rx s) := by
  have hlane := laneBlock_lane n (off := 0) (by decide)
  have hput : ∀ {t : State}, LaneWork s t → ∀ f : Fld, f.addr = atLANE n 0 → ∀ v, LaneWork s (t.put f v) :=
    fun h f hf v => h.put (hf ▸ hlane) v
  unfold setRxHalf
  exact hput (.ite (hput (.ite (hput (.refl s) _ rfl 0) (.refl s)) _ rfl 0) (.ite (hput (.refl s) _ rfl 0) (.refl s))) _ rfl rx

theorem setLane_laneWork (tx rx : Nat) : LaneWork s (setLane n tx rx s) :=
  ((LaneWork.refl s).put (laneBlock_lane n (off := 0) (by decide)) tx).trans (setRxHalf_laneWork n _ rx)

theorem lanesLinked_laneWork : LaneWork s (lanesLinked p s) :=
  LaneWork.each _ s fun i _ t => (setLane_laneWork (chainLane p i) t _ _).put (laneBlock_lane _ (off := 0) (by decide)) _

theorem drawDisparity_laneWork : LaneWork s (drawDisparity p s) := ⟨fun _ _ => rfl, rfl, rfl, rfl, rfl, rfl, rfl, rfl⟩

theorem setCal_laneWork (f : Cal → Cal) : LaneWork s (s.setCal p f) := ⟨fun _ _ => rfl, rfl, rfl, rfl, rfl, rfl, rfl, rfl⟩

theorem laneBlock_trim {j off : Nat} (hj : j < 5) (hoff : off < 8) : laneBlock (atTRIM n j + off) := by
  unfold laneBlock atTRIM dieBase
  omega

theorem setTrim_laneWork {j : Nat} (hj : j < 5) (x : TrimSet) : LaneWork s (setTrim n j x s) := by
  have hfirst := laneBlock_trim n hj (off := 0) (by decide)
  rw [Nat.add_zero] at hfirst
  unfold setTrim
  exact ((LaneWork.refl s).wr hfirst _).wr (laneBlock_trim n hj (off := 4) (by decide)) _

theorem trimInvalid_laneWork : LaneWork s (trimInvalid p s) :=
  LaneWork.each _ s fun n _ t => LaneWork.each _ t fun _ hj u => setTrim_laneWork n u (List.mem_range.mp hj) _

theorem trimIdentity_laneWork : LaneWork s (trimIdentity p s) := by
  unfold trimIdentity
  exact .ite (setCal_laneWork p s _) ((setCal_laneWork p s _).trans (trimInvalid_laneWork p _))

theorem calTemp_laneWork : LaneWork s (calTemp p s) := (LaneWork.refl s).put (laneBlock_group p (off := 0x18) (by decide)) _

theorem showCal_laneWork : LaneWork s (showCal p s) :=
  ((LaneWork.refl s).put (laneBlock_group p (off := 0x10) (by decide)) _).put (laneBlock_group p (off := 0x10) (by decide)) _

theorem retargetLanes_laneWork : LaneWork s (retargetLanes p s) :=
  LaneWork.each _ s fun i _ t => (LaneWork.refl t).wr (laneBlock_lane (chainLane p i) (off := 0x38) (by decide)) _

end

/-! ### A port that is LINKED (R77) -/

/-- What a port that is LINKED does with its lanes, its group and its trim sets. -/
def calibrated (p : Nat) (s : State) : State := retargetLanes p (showCal p (calTemp p (trimIdentity p (newCal p s))))

theorem linkLanes_laneWork (p : Nat) (s : State) : LaneWork (s.toTrain p trLinked) (linkLanes p s) :=
  (lanesLinked_laneWork p _).trans (drawDisparity_laneWork p _)

theorem calibrated_laneWork (p : Nat) (s : State) : LaneWork s (calibrated p s) :=
  ((((setCal_laneWork p s _).trans (trimIdentity_laneWork p _)).trans (calTemp_laneWork p _)).trans (showCal_laneWork p _)).trans
    (retargetLanes_laneWork p _)

/-- The lanes at work, from the state in which the delay is reported. -/
theorem linked_laneWork (p : Nat) (s : State) : LaneWork (s.toTrain p trLinked) (calibrated p (linkLanes p s)) :=
  (linkLanes_laneWork p s).trans (calibrated_laneWork p _)

theorem toTrain_tileLike (p st : Nat) (s : State) : (s.toTrain p st).tileLike = s.tileLike :=
  (toTrain_writes p st s).tileLike (List.forall_mem_singleton.mpr (atCH_ge p 0))

abbrev segDelayFlds (p : Nat) : List Fld := [F.CH_SEG_DELAY_VALID p, F.CH_SEG_DELAY_SEQ p, F.CH_SEG_DELAY_DELAY p]

theorem reportDelay_writes (p : Nat) (d : Int) (s : State) : Writes (segDelayFlds p) s (reportDelay p d s) :=
  (((Writes.refl _ s).put (by simp) 1).put (by simp) _).put (by simp) _

theorem segDelayFlds_addr {p : Nat} {g : Fld} (hg : g ∈ segDelayFlds p) : g.addr = atCH p 0x8 := by
  simp only [List.mem_cons, List.not_mem_nil, or_false] at hg
  obtain rfl | rfl | rfl := hg <;> rfl

theorem reportDelay_tileLike (p : Nat) (d : Int) (s : State) : (reportDelay p d s).tileLike = s.tileLike :=
  (reportDelay_writes p d s).tileLike fun _ hg => segDelayFlds_addr hg ▸ atCH_ge p 0x8

theorem tellDelay_eq (p : Nat) (d : Int) (s : State) :
    tellDelay p d s = s.withOut (s.out ++ if s.measures p then [.segDelay p d] else []) := by
  unfold tellDelay
  split
  · rfl
  · rw [List.append_nil, State.withOut_self]

theorem hopCleared_tileLike (p : Nat) (s : State) : (hopCleared p s).tileLike = s.tileLike := rfl

section
variable {s : State} (h : s.tileLike = false)
include h

theorem passClock_of_sender (p fwd : Nat) : passClock p fwd s = s := by rw [passClock, h, if_neg Bool.false_ne_true]
theorem clearEnd_of_sender (p : Nat) : clearEnd p s = s := by rw [clearEnd, h, Bool.false_and, if_neg Bool.false_ne_true]
theorem showTile_of_sender : showTile s = s.retile := by rw [showTile, h, if_neg Bool.false_ne_true]

end

/-- The state in which a sender's port reports the delay of its segment. -/
def delayReported (p : Nat) (d : Int) (s : State) : State := reportDelay p (s.hopDelay p d) (tellDelay p (s.hopDelay p d) s)

theorem opHopmeasDone_of_sender {s : State} {p : Nat} (d : Int) (fwd : Nat) (hside : s.tileLike = false) (hst : s.train p = trHopmeas)
    (hready : (s.measures p && (s.port p).rtCount != 256) = false) :
    opHopmeasDone p d fwd s = (hopCleared p (calibrated p (linkLanes p (delayReported p d s)))).retile := by
  have hreport : (delayReported p d s).tileLike = false := by
    rw [delayReported, reportDelay_tileLike, tellDelay_eq]
    exact hside
  have hlink : (linkLanes p (delayReported p d s)).tileLike = false := by rw [(linkLanes_laneWork p _).tileLike, toTrain_tileLike, hreport]
  have hend : (hopCleared p (calibrated p (linkLanes p (delayReported p d s)))).tileLike = false := by
    rw [hopCleared_tileLike, (calibrated_laneWork p _).tileLike, hlink]
  rw [opHopmeasDone_eq, hready, Bool.or_false, hst, bne_self_eq_false, if_neg Bool.false_ne_true]
  dsimp only
  rw [← delayReported, passClock_of_sender hlink, ← calibrated, clearEnd_of_sender hend, showTile_of_sender hend]

/-! ### The tile's state that follows -/

theorem retile_writes (s : State) : Writes [F.RD_BOOT_STATUS_TILE_STATE] { s with tileRx := s.retile.tileRx } s.retile := by
  unfold State.retile
  dsimp only
  split
  · exact (Writes.refl _ _).put List.mem_cons_self _
  · exact (Writes.refl _ _).put List.mem_cons_self _

theorem retile_get (s : State) {f : Fld} (hf : 0x1000000 ≤ f.addr) : s.retile.get f = s.get f :=
  (retile_writes s).get (List.forall_mem_singleton.mpr (Fld.sep_of_rind (by decide) hf))

theorem retile_out (s : State) : s.retile.out = s.out := (retile_writes s).same State.out fun _ _ => rfl
theorem retile_port (p : Nat) (s : State) : s.retile.port p = s.port p := (retile_writes s).port p

theorem retile_sameStores (s : State) : SameStores s s.retile :=
  have h := (retile_writes s).sameStores
  ⟨h.dram, h.pram, h.nv, h.raster, h.mould⟩

/-! ### HOPMEAS to LINKED at a sender (R77, R80) -/

theorem ofInt_lt (n : Nat) (v : Int) : ofInt n v < 2 ^ n := by
  unfold ofInt
  have hpos : (0 : Int) < (2 ^ n : Nat) := by exact_mod_cast Nat.two_pow_pos n
  have hlt := Int.emod_lt_of_pos v hpos
  have hnonneg := Int.emod_nonneg v (ne_of_gt hpos)
  omega

section
variable (p : Nat) (d : Int) (s : State)

theorem reportDelay_valid : (reportDelay p d s).get (F.CH_SEG_DELAY_VALID p) = 1 := by
  rw [reportDelay, State.get_put_sep _ _ _ _ (Fld.sep_of_bits rfl), State.get_bump_sep _ _ (Fld.sep_of_bits rfl)]
  exact State.get_put_fit _ _ rfl (by decide : 1 < 2 ^ 1)

theorem reportDelay_seq : (reportDelay p d s).get (F.CH_SEG_DELAY_SEQ p) = s.wrap (F.CH_SEG_DELAY_SEQ p) := by
  rw [reportDelay, State.get_put_sep _ _ _ _ (Fld.sep_of_bits rfl), State.get_bump_same _ rfl, State.wrap,
    State.get_put_sep _ _ _ _ (Fld.sep_of_bits rfl), State.wrap]

theorem reportDelay_delay : (reportDelay p d s).get (F.CH_SEG_DELAY_DELAY p) = ofInt 22 d := State.get_put_fit _ _ rfl (ofInt_lt 22 d)

/-- The command's end leaves the delay as it was reported. -/
theorem hop_get {f : Fld} (hf : f.addr = atCH p 0x8) :
    (settle (hopCleared p (calibrated p (linkLanes p s))).retile).get f = s.get f := by
  have hge : 0x1000000 ≤ f.addr := hf ▸ atCH_ge p 0x8
  have hport : ¬ laneBlock f.addr := hf ▸ not_laneBlock_port p (by decide)
  have hne : (F.CH_TRAIN_STATE_STATE p).sep f = true := Fld.sep_of_addr_ne (hf ▸ atCH_ne p p (by decide))
  rw [settle_get, retile_get _ hge, hopCleared, State.setPort_get, (linked_laneWork p s).get f hport]
  exact State.get_put_sep _ _ _ _ hne

theorem hop_train : (settle (hopCleared p (calibrated p (linkLanes p s))).retile).train p = trLinked := by
  rw [settle_train, State.train, retile_get _ (atCH_ge p 0), hopCleared, State.setPort_get,
    (linked_laneWork p s).get _ (not_laneBlock_port p (off := 0) (by decide))]
  exact State.get_put_fit _ _ rfl (by decide : trLinked < 2 ^ 4)

theorem hop_out : (settle (hopCleared p (calibrated p (linkLanes p s))).retile).out = s.out := by
  rw [settle_out, retile_out, hopCleared, State.setPort_out, (linked_laneWork p s).out, State.toTrain, State.put_out]

theorem hop_port : (settle (hopCleared p (calibrated p (linkLanes p s))).retile).port p = { s.port p with rtSum := 0, rtCount := 0, drift := 0 } := by
  rw [settle_port, retile_port, hopCleared, State.port_setPort_same, (linked_laneWork p s).port, (toTrain_writes p trLinked s).port]

theorem hop_sameStores : SameStores s (settle (hopCleared p (calibrated p (linkLanes p s))).retile) :=
  ((((toTrain_writes p trLinked s).sameStores.trans (linked_laneWork p s).stores).trans (setPort_sameStores _ p _)).trans (retile_sameStores _)).trans
    (settle_sameStores _)

theorem delayReported_out : (delayReported p d s).out = s.out ++ if s.measures p then [.segDelay p (s.hopDelay p d)] else [] := by
  rw [delayReported, (reportDelay_writes p _ _).same State.out fun _ _ => rfl, tellDelay_eq, State.withOut_out]

theorem delayReported_sameStores : SameStores s (delayReported p d s) := by
  rw [delayReported, tellDelay_eq]
  exact (withOut_sameStores s _).trans (reportDelay_writes p _ _).sameStores

end

theorem delayReported_seq (p : Nat) (d : Int) (s : State) : (delayReported p d s).get (F.CH_SEG_DELAY_SEQ p) = s.wrap (F.CH_SEG_DELAY_SEQ p) := by
  rw [delayReported, reportDelay_seq, tellDelay_eq, State.wrap, State.withOut_get, State.wrap]

theorem measures_of_sender {s : State} (hside : s.tileLike = false) (p : Nat) : s.measures p = (s.senderEnd != 2) := by
  rw [State.measures, hside, if_neg Bool.false_ne_true]

theorem hopDelay_of_sender {s : State} (hside : s.tileLike = false) (p : Nat) (d : Int) :
    s.hopDelay p d = if s.senderEnd = 2 then d else segDelay (s.port p).rtSum := by
  rw [State.hopDelay, measures_of_sender hside]
  by_cases h : s.senderEnd = 2 <;> simp [h]

/-- A sender's port reaches LINKED. -/
theorem hop_settled {s : State} (hside : s.tileLike = false) (p : Nat) (d : Int) :
    let t := settle (hopCleared p (calibrated p (linkLanes p (delayReported p d s.fresh)))).retile
    t.train p = trLinked ∧ t.get (F.CH_SEG_DELAY_VALID p) = 1 ∧ t.get (F.CH_SEG_DELAY_SEQ p) = s.wrap (F.CH_SEG_DELAY_SEQ p) ∧
      (t.get (F.CH_SEG_DELAY_DELAY p) = ofInt 22 (if s.senderEnd = 2 then d else segDelay (s.port p).rtSum)) ∧
      (Sent (if s.senderEnd = 2 then [] else [.segDelay p (segDelay (s.port p).rtSum)]) t) ∧ (t.port p).rtSum = 0 ∧ (t.port p).rtCount = 0 ∧
      SameStores s t := by
  have hdelay : s.fresh.hopDelay p d = if s.senderEnd = 2 then d else segDelay (s.port p).rtSum := hopDelay_of_sender (s := s.fresh) hside p d
  refine ⟨hop_train p _, ?_, ?_, ?_, ?_, ?_, ?_, ?_⟩
  · rw [hop_get p _ rfl, delayReported, reportDelay_valid]
  · rw [hop_get p _ rfl, delayReported_seq]
    rfl
  · rw [hop_get p _ rfl, delayReported, reportDelay_delay, hdelay]
  · rw [Sent, hop_out, delayReported_out, hdelay, measures_of_sender (s := s.fresh) hside]
    change ([] ++ if (s.senderEnd != 2) = true then _ else []) = _
    by_cases h : s.senderEnd = 2 <;> simp [h]
  · rw [hop_port]
  · rw [hop_port]
  · exact ((fresh_sameStores s).trans (delayReported_sameStores p d _)).trans (hop_sameStores p _)

/-- Settles O1: each of its events but the first ends in the entry to a training state, or in LINKED, after writes that no training set shows. -/
theorem trainingStates : Obligations.TrainingStates := by
  refine ⟨?_, ?_, ?_, ?_, ?_, ?_, ?_, ?_⟩
  · intro s lane on ha hlane
    refine ⟨_, (exec_signalDetectChange lane on s).trans (run_acts _ ha), ?_⟩
    rw [only_pos _ (decide_eq_true hlane)]
    have hw := opSignalDetect_writes lane on s.fresh
    exact ⟨opSignalDetect_on lane on s.fresh, hw.sent, hw.frame rfl State.fresh_kept⟩
  · intro s p ha hport hst he hwait
    refine ⟨_, (exec_trainDetectExit p s).trans (run_onPort ha hport), ?_⟩
    rw [opDetectExit_of_energy (s := s.fresh) hst he hwait]
    exact attempt_settled p s
  · intro s p sets locked ha hport hst hlock
    refine ⟨_, (exec_trainCommaDone p sets s).trans (run_onPort ha hport), ?_⟩
    rw [opCommaDone_of_lock (s := s.fresh) hst hlock]
    exact lock_settled hlock s
  · intro s p held sets rx locked v ha hport hst hlock hsame hno hmatch
    have hbne : ¬(v.rate != (s.port p).rate || v.lanes != (s.port p).lanes) = true := by simpa using hmatch
    have hop : opAnnounceDone p held sets s.fresh = enterTrain p trConfirm (announced p locked v s.fresh) :=
      (opAnnounceDone_of_lock (s := s.fresh) hst hlock hsame hno).trans (if_neg hbne)
    refine ⟨_, (exec_trainAnnounceDone p held sets s).trans (run_onPort ha hport), ?_⟩
    rw [hop]
    exact announced_settled hlock v s
  · intro s p l sets ha hport hst hl
    refine ⟨_, (exec_trainConfirmDone p sets s).trans (run_onPort ha hport), ?_⟩
    rw [opConfirmDone_of_heard (s := s.fresh) hst hl]
    exact confirmed_settled l (locked_of_heard hl)
  · intro s p l eq sets ha hport hst hl
    refine ⟨_, (exec_trainRateDone p ⟨eq, sets⟩ s).trans (run_onPort ha hport), ?_⟩
    rw [opRateDone_of_heard (s := s.fresh) eq hst hl]
    exact adapted_settled p eq s
  · intro s p skew sets ha hport hst hskew hl
    refine ⟨_, (exec_trainDeskewDone p ⟨31, skew⟩ sets s).trans (run_onPort ha hport), ?_⟩
    rw [opDeskewDone_of_all (s := s.fresh) hst hskew hl]
    obtain ⟨htrain, hrx, htx, hlocked, hpartner, hsent, hstores⟩ := deskewed_settled p s
    exact ⟨htrain, hrx, htx, hlocked, hpartner, hsent, hstores.dram, hstores.pram, hstores.nv, hstores.raster⟩
  · intro s p fwd d ha hp hs hst hready
    have hside := State.tileLike_of_sender hs
    have hcount : (s.measures p && (s.port p).rtCount != 256) = false := by
      rw [measures_of_sender hside]
      rcases hready with h | h <;> simp [h]
    refine ⟨_, (exec_trainHopmeasDone p ⟨d, fwd⟩ s).trans (run_onPort ha (State.hasPort_of_sender hs hp)), ?_⟩
    rw [opHopmeasDone_of_sender (s := s.fresh) d fwd hside hst hcount]
    obtain ⟨htrain, hvalid, hseq, hdelay, hsent, hsum, hn, hstores⟩ := hop_settled hside p d
    exact ⟨htrain, hvalid, hseq, hdelay, hsent, hsum, hn, hstores.dram, hstores.pram, hstores.nv, hstores.raster, hstores.mould⟩

end Sys2Proof.Machine
end

section
/-!
PROOFS. Chapter 03: the Cave's load at a tile (R82 to R87), refuted for lamps that the map leaves out (R322).
-/

namespace Sys2Proof.Machine

open Sys2Proof

/-- The lamp status that a command leaves at a tile. -/
def nextStatus (o : Host.Outcome State Fault Refusal) : Option (Tab Nat) :=
  match o with
  | .next t => some t.tp.status
  | _ => none

theorem nextStatus_next {o : Host.Outcome State Fault Refusal} {t : State} (h : o = .next t) : nextStatus o = some t.tp.status := by
  rw [h]
  rfl

/-- A tile whose Cave holds a status for lamp 0 and a lamp map in which lamp 0 is not VALID. -/
def statusWithoutLamp : State :=
  { State.reset.put F.RD_DIE_STATE_ROLE 2 with cave := { State.reset.cave with status := [(0, 0)] } }

/-- A lamp whose map entry is not VALID keeps the status UNTESTED. -/
theorem statusWithoutLamp_load : nextStatus (exec (.caveLoadDone [] true) statusWithoutLamp) = some [] := by
  decide +kernel

/-- Refutes O3: its clause on the end of the Cave's load has the tile take every status of the Cave, where the load takes those of the lamps that the
lamp map shows VALID. -/
theorem not_enumeration : ¬ Obligations.Enumeration := by
  rintro ⟨-, -, -, -, -, -, hload⟩
  obtain ⟨t, ht, -, -, hstatus, -⟩ := hload statusWithoutLamp (by decide +kernel) (by decide +kernel) (by decide +kernel)
  have hshown := statusWithoutLamp_load
  rw [nextStatus_next ht, hstatus] at hshown
  exact absurd hshown (by decide +kernel)

end Sys2Proof.Machine
end

section
/-!
PROOFS. Chapter 04: frame numbers (R98) and the arithmetic of the raster (R99, R100).
-/

namespace Sys2Proof.Machine

open Sys2Proof

/-! ### Frame numbers compare by their signed difference (R98) -/

theorem toInt_of_lt {v d : Nat} (h : v % 2 ^ 32 = d) (hd : d < 2 ^ 31) : toInt 32 v = d := by
  rw [toInt, h]
  exact if_pos hd

theorem toInt_of_neg {v d : Nat} (h : (v + d) % 2 ^ 32 = 0) (hpos : 0 < d) (hd : d < 2 ^ 31) : toInt 32 v = -(d : Int) := by
  have hv : v % 2 ^ 32 = 2 ^ 32 - d := by omega
  rw [toInt, hv]
  refine (if_neg (by omega)).trans ?_
  omega

theorem ahead_of_later {f d : Nat} (hd : d < 2 ^ 31) : ahead ((f + d) % 2 ^ 32) f = d :=
  toInt_of_lt (by omega) hd

theorem ahead_of_earlier {f d : Nat} (hd : d < 2 ^ 31) : ahead f ((f + d) % 2 ^ 32) = -(d : Int) := by
  rcases Nat.eq_zero_or_pos d with rfl | hpos
  · exact toInt_of_lt (d := 0) (by omega) (by decide)
  · exact toInt_of_neg (by omega) hpos hd

/-- Settles O53: the difference of the two numbers, modulo 2^32, is d forwards and 2^32 - d backwards. -/
theorem frameNumbersCompare : Obligations.FrameNumbersCompare := fun _ _ _ hd => ⟨ahead_of_later hd, ahead_of_earlier hd⟩

/-! ### Ticks of the raster (R100) -/

namespace Raster

/-- A raster within the limits of R99, at a position of its frame, whose frame keeps its length (R107). -/
structure Regular (r : Raster) : Prop where
  adj : r.adj = 0
  geometry : geometryOk r.ltotal r.num r.den = true
  rpos : r.rpos < r.total
  acc : r.acc < r.stepD
  fnum : r.fnum < 2 ^ 32

variable {r : Raster}

theorem Regular.stepD_pos (h : r.Regular) : 0 < r.stepD := Nat.zero_lt_of_lt h.acc

theorem Regular.fnum_mod (h : r.Regular) : r.fnum % 4294967296 = r.fnum := Nat.mod_eq_of_lt h.fnum

theorem Regular.total_pos (h : r.Regular) : 0 < r.total := Nat.zero_lt_of_lt h.rpos

/-- Within the limits of R99 no tick advances by a frame, which is at least 64 lines. -/
theorem Regular.advance_lt_total (h : r.Regular) : (r.acc + r.stepN) / r.stepD < r.total := by
  have hgeo := h.geometry
  simp only [geometryOk, Bool.and_eq_true, decide_eq_true_eq] at hgeo
  obtain ⟨⟨⟨-, hlines⟩, -⟩, hrate⟩ := hgeo
  have hstep : r.stepN = 65536 * (r.ltotal * r.num) := by
    unfold stepN
    ring
  have hacc := h.acc
  have hquot : (r.acc + r.stepN) / r.stepD < 165 := by
    rw [Nat.div_lt_iff_lt_mul h.stepD_pos]
    unfold stepD at hacc ⊢
    omega
  unfold total
  omega

/-- One tick of a regular raster: one division of acc + STEP_N, and of the position by the frame. -/
theorem Regular.tick_eq (h : r.Regular) :
    r.tick = { r with
      acc := (r.acc + r.stepN) % r.stepD, rpos := (r.rpos + (r.acc + r.stepN) / r.stepD) % r.total,
      fnum := (r.fnum + (r.rpos + (r.acc + r.stepN) / r.stepD) / r.total) % 2 ^ 32,
      boundary := r.boundary || decide (r.total ≤ r.rpos + (r.acc + r.stepN) / r.stepD), ticks := r.ticks + 1 } := by
  have hearly : r.early = 0 := by simp [early, h.adj]
  have hadj : ¬ 0 < r.adj := by simp [h.adj]
  have hadv := h.advance_lt_total
  have hpos := h.rpos
  unfold tick
  simp only [hearly, Nat.add_zero, advance, Nat.one_mul, hadj, if_false]
  by_cases hwrap : r.total ≤ r.rpos + (r.acc + r.stepN) / r.stepD
  · have hdiv : (r.rpos + (r.acc + r.stepN) / r.stepD) / r.total = 1 := Nat.div_eq_of_lt_le (by omega) (by omega)
    simp [hwrap, hdiv, Nat.mod_eq_sub_mod hwrap, Nat.mod_eq_of_lt (show r.rpos + (r.acc + r.stepN) / r.stepD - r.total < r.total by omega)]
  · have hlt := Nat.lt_of_not_le hwrap
    simp [hwrap, Nat.div_eq_of_lt hlt, Nat.mod_eq_of_lt hlt, h.fnum_mod]

theorem Regular.tick_stepN (h : r.Regular) : r.tick.stepN = r.stepN := by rw [h.tick_eq]; rfl
theorem Regular.tick_stepD (h : r.Regular) : r.tick.stepD = r.stepD := by rw [h.tick_eq]; rfl
theorem Regular.tick_total (h : r.Regular) : r.tick.total = r.total := by rw [h.tick_eq]; rfl

theorem Regular.tick_acc (h : r.Regular) : r.tick.acc = (r.acc + r.stepN) % r.stepD := by rw [h.tick_eq]

theorem Regular.tick_rpos (h : r.Regular) : r.tick.rpos = (r.rpos + (r.acc + r.stepN) / r.stepD) % r.total := by rw [h.tick_eq]

theorem Regular.tick_fnum (h : r.Regular) : r.tick.fnum = (r.fnum + (r.rpos + (r.acc + r.stepN) / r.stepD) / r.total) % 2 ^ 32 := by
  rw [h.tick_eq]

theorem Regular.tick (h : r.Regular) : r.tick.Regular := by
  rw [h.tick_eq]
  exact ⟨h.adj, h.geometry, Nat.mod_lt _ h.total_pos, Nat.mod_lt _ h.stepD_pos, Nat.mod_lt _ (by decide)⟩

/-- A division carried on from its remainder. -/
theorem div_add_mod_add_div {d : Nat} (hd : 0 < d) (x y : Nat) : x / d + (x % d + y) / d = (x + y) / d := by
  conv_rhs => rw [← Nat.mod_add_div x d, Nat.add_right_comm, Nat.add_mul_div_left _ _ hd, Nat.add_comm]

/-- Ticks of a regular raster come to where one division of acc + n × STEP_N puts it. -/
theorem Regular.ticks_eq : ∀ (n : Nat) {r : Raster}, r.Regular →
    (Raster.tick^[n] r).acc = (r.acc + n * r.stepN) % r.stepD ∧
    (Raster.tick^[n] r).rpos = (r.rpos + (r.acc + n * r.stepN) / r.stepD) % r.total ∧
    (Raster.tick^[n] r).fnum = (r.fnum + (r.rpos + (r.acc + n * r.stepN) / r.stepD) / r.total) % 2 ^ 32
  | 0, r, h => by
    simp [Nat.mod_eq_of_lt h.acc, Nat.div_eq_of_lt h.acc, Nat.mod_eq_of_lt h.rpos, Nat.div_eq_of_lt h.rpos, h.fnum_mod]
  | n + 1, r, h => by
    obtain ⟨hacc, hrpos, hfnum⟩ := Regular.ticks_eq n h.tick
    have hcarry := div_add_mod_add_div h.stepD_pos (r.acc + r.stepN) (n * r.stepN)
    have hframe := div_add_mod_add_div h.total_pos (r.rpos + (r.acc + r.stepN) / r.stepD) (((r.acc + r.stepN) % r.stepD + n * r.stepN) / r.stepD)
    rw [Nat.add_assoc r.rpos, hcarry] at hframe
    rw [Function.iterate_succ_apply, hacc, hrpos, hfnum, h.tick_stepN, h.tick_stepD, h.tick_total, h.tick_acc, h.tick_rpos, h.tick_fnum,
      Nat.succ_mul, Nat.add_comm (n * _), ← Nat.add_assoc]
    refine ⟨Nat.mod_add_mod .., (Nat.mod_add_mod ..).trans ?_, (Nat.mod_add_mod ..).trans ?_⟩
    · rw [Nat.add_assoc, hcarry]
    · rw [Nat.add_assoc, ← hframe]

end Raster

/-- Settles O52, by induction on the number of ticks: each tick carries the remainder of the division on. -/
theorem rasterDoesNotDrift : Obligations.RasterDoesNotDrift :=
  fun n _ hadj hgeometry hrpos hacc hfnum => Raster.Regular.ticks_eq n ⟨hadj, hgeometry, hrpos, hacc, hfnum⟩
end Sys2Proof.Machine
end

section
/-!
PROOFS. Chapter 04: what does not hold of the frame start of a free-running sender (R102, R109).
-/

namespace Sys2Proof.Machine

open Sys2Proof

/-- The frame that the raster stands in after a command. -/
def nextFrame (o : Host.Outcome State Fault Refusal) : Option Nat :=
  match o with
  | .next t => some t.raster.fnum
  | _ => none

theorem nextFrame_next {o : Host.Outcome State Fault Refusal} {t : State} (h : o = .next t) : nextFrame o = some t.raster.fnum := by
  rw [h]
  rfl

/-- A free-running sender with JUMP_EN in frame 7, the cut of which has taken REF_SEL = 0b10; its PTP clock reads 5 ms, in frame 0 of R109. -/
def ptpSelected : State :=
  { (State.reset.put F.RD_DIE_STATE_ROLE 1).put F.RD_WTG_CTRL_JUMP_EN 1 with
    sys := { State.reset.sys with starting := false },
    raster := { State.reset.raster with running := true, fnum := 7, cutDone := true },
    ptp := { State.reset.ptp with ns := 5000000 },
    taken := [(F.RD_WTG_CTRL_REF_SEL.addr, some 0x80000000)] }

/-- The frame start commits REF_SEL and numbers its frame from PTP time. -/
theorem ptpSelected_frame : nextFrame (exec .frameStart ptpSelected) = some 0 := by
  decide +kernel

/-- Refutes O4: its clause on the frame start holds the sender for free-running by the REF_SEL in force before it, where a REF_SEL = 0b10 that the cut
took comes into force at this frame start (R102) and FNUM is then computed from PTP time (R109). -/
theorem not_rasterClock : ¬ Obligations.RasterClock := by
  rintro ⟨-, -, hstart⟩
  obtain ⟨t, ht, hfnum, -⟩ := hstart ptpSelected (by decide +kernel) rfl (by decide +kernel) (by decide +kernel) rfl (by decide +kernel)
    (by decide +kernel) ⟨rfl, rfl⟩ rfl
  have hshown := ptpSelected_frame
  rw [nextFrame_next ht, hfnum] at hshown
  exact absurd hshown (by decide +kernel)

end Sys2Proof.Machine
end

section
/-!
PROOFS. Chapter 04: the commit cut, HOLD, and GO with its acceptance (R121 to R124, R132).
-/

namespace Sys2Proof.Machine

open Sys2Proof

section
variable {s : State}

/-! ### Commands whose event has a place on the raster (R101) -/

/-- No swap is made as the raster moves where none waits. -/
theorem calSwaps_of_none_waits (h : s.noSwapWaits) : calSwaps s = s := by
  have hdue : s.swapsDue = [] := List.filter_eq_nil_iff.mpr fun p hp => by
    have hnone := h p (List.mem_range.mp hp)
    cases hstep : (s.cal p).step with
    | none => exact Bool.false_ne_true
    | some c =>
      rw [hstep] at hnone
      have hpassed : c.passed = none := Option.isNone_iff_eq_none.mp hnone
      simp [hpassed]
  rw [calSwaps, hdue]
  rfl

theorem runRindRaster_acts {f : State → State} (ha : s.acts) (h : (f s.fresh).noSwapWaits) :
    runRindRaster f s = .next (settle (f s.fresh)) := by
  rw [runRindRaster, runRind_acts _ (acts_rind ha), calSwaps_of_none_waits h, ite_self]

/-! ### The cut (R121 to R123) -/

theorem opCommitCut_of_running (hrun : s.raster.running = true) (hcut : s.raster.cutDone = false) : opCommitCut s = cutNow (reach (cutPos s) s) := by
  simp [opCommitCut, hrun, hcut]

/-- A cut without HOLD and without a group. -/
theorem cutNow_takes (hgroup : s.commit.group = none) (hhold : s.on F.RD_COMMIT_CTRL_HOLD = false) :
    cutNow s = takePending { s with raster := { s.raster with cutDone := true } } := by
  have hhold' : ({ s with raster := { s.raster with cutDone := true } } : State).on F.RD_COMMIT_CTRL_HOLD = false := hhold
  simp [cutNow, hgroup, hhold']

/-- A cut under HOLD without a group takes nothing. -/
theorem cutNow_held (hgroup : s.commit.group = none) (hhold : s.on F.RD_COMMIT_CTRL_HOLD = true) :
    cutNow s = { s with raster := { s.raster with cutDone := true } } := by
  have hhold' : ({ s with raster := { s.raster with cutDone := true } } : State).on F.RD_COMMIT_CTRL_HOLD = true := hhold
  simp [cutNow, hgroup, hhold']

theorem exec_commitCut_takes (ha : s.acts) (hswap : s.noSwapWaits) (hrun : s.raster.running = true) (hcut : s.raster.cutDone = false)
    (hgroup : s.commit.group = none) (hhold : s.on F.RD_COMMIT_CTRL_HOLD = false) :
    exec .commitCut s =
      .next (settle (takePending { s.fresh with raster := { s.raster.reach (cutPos s) with cutDone := true } })) := by
  have hop : opCommitCut s.fresh = takePending { s.fresh with raster := { s.raster.reach (cutPos s) with cutDone := true } } :=
    (opCommitCut_of_running (s := s.fresh) hrun hcut).trans (cutNow_takes (s := reach (cutPos s) s.fresh) hgroup hhold)
  rw [← hop]
  exact (exec_commitCut s).trans (runRindRaster_acts ha (by rw [hop]; exact hswap))

theorem exec_commitCut_held (ha : s.acts) (hswap : s.noSwapWaits) (hrun : s.raster.running = true) (hcut : s.raster.cutDone = false)
    (hgroup : s.commit.group = none) (hhold : s.on F.RD_COMMIT_CTRL_HOLD = true) :
    exec .commitCut s = .next (settle { s.fresh with raster := { s.raster.reach (cutPos s) with cutDone := true } }) := by
  have hop : opCommitCut s.fresh = { s.fresh with raster := { s.raster.reach (cutPos s) with cutDone := true } } :=
    (opCommitCut_of_running (s := s.fresh) hrun hcut).trans (cutNow_held (s := reach (cutPos s) s.fresh) hgroup hhold)
  rw [← hop]
  exact (exec_commitCut s).trans (runRindRaster_acts ha (by rw [hop]; exact hswap))

/-! ### GO (R123) -/

/-- A GO while a group waits only sets GO_IGN. -/
theorem opCommitGo_ignored (T : Nat) (hgroup : s.commit.group.isSome = true) : opCommitGo T s = s.flag F.RD_COMMIT_STATUS_GO_IGN := by
  simp [opCommitGo, hgroup]

/-! ### The acceptance of a GO (R124) -/

/-- A GO no more than 256 frames ahead, accepted on the side of the cut on which it arrived, clears HOLD and forms its group. -/
theorem opCommitGoAccept_forms {T now : Nat} {cut : Bool} (hgo : s.commit.go = some (T, now, cut)) (hnear : ahead T now ≤ 256)
    (hcut : s.raster.cutDone = cut) :
    opCommitGoAccept s = { s.put F.RD_COMMIT_CTRL_HOLD 0 with
      commit := { s.commit with go := none, group := some (T, cutPassed (T + 2 ^ 32 - 1) now cut, cutPassed T now cut) } } := by
  unfold opCommitGoAccept
  rw [hgo]
  dsimp only
  rw [if_neg (not_lt.mpr hnear), if_neg]
  · rfl
  · change ¬ (s.raster.running && s.raster.cutDone && !cut && _) = true
    rw [hcut]
    cases cut <;> simp

/-- A GO that has been answered waits no more. -/
def goAnswered (s : State) : State := { s with commit := { s.commit with go := none } }

theorem opCommitGoAccept_far {T now : Nat} {cut : Bool} (hgo : s.commit.go = some (T, now, cut)) (hfar : 256 < ahead T now) :
    opCommitGoAccept s = commitResult false false true none (goAnswered s) := by
  unfold opCommitGoAccept
  rw [hgo]
  exact if_pos hfar

/-! ### RD_COMMIT_RESULT (R132) -/

/-- What a result without APPLIED writes. -/
abbrev commitResultFlds : List Fld :=
  [F.RD_COMMIT_RESULT_FAR, F.RD_COMMIT_RESULT_LATE, F.RD_COMMIT_RESULT_STALE, F.RD_COMMIT_RESULT_VALID, F.RD_COMMIT_RESULT_SEQ]

theorem commitResult_writes (late stale far : Bool) (s : State) : Writes commitResultFlds s (commitResult late stale far none s) :=
  (((((Writes.refl commitResultFlds s).put (f := F.RD_COMMIT_RESULT_VALID) (by decide) 1).put (f := F.RD_COMMIT_RESULT_SEQ) (by decide) _).put
    (f := F.RD_COMMIT_RESULT_LATE) (by decide) _).put (f := F.RD_COMMIT_RESULT_STALE) (by decide) _).put (f := F.RD_COMMIT_RESULT_FAR) (by decide) _

theorem commitResult_shows (late stale far : Bool) (s : State) :
    let t := commitResult late stale far none s
    t.get F.RD_COMMIT_RESULT_FAR = (if far then 1 else 0) ∧ t.get F.RD_COMMIT_RESULT_VALID = 1 ∧
      t.get F.RD_COMMIT_RESULT_LATE = (if late then 1 else 0) ∧ t.get F.RD_COMMIT_RESULT_STALE = (if stale then 1 else 0) ∧
      t.get F.RD_COMMIT_RESULT_SEQ = s.wrap F.RD_COMMIT_RESULT_SEQ := by
  simp [commitResult, State.bump, State.wrap, State.get_putB_same, State.get_putB_sep, State.get_put_same, State.get_put_sep, Fld.sep, Fld.ok,
    Fld.width, F.RD_COMMIT_RESULT_FAR, F.RD_COMMIT_RESULT_VALID, F.RD_COMMIT_RESULT_LATE, F.RD_COMMIT_RESULT_STALE, F.RD_COMMIT_RESULT_SEQ]

end

/-- Settles O6: each clause is the operation's own equation, and a FAR answer writes only RD_COMMIT_RESULT. -/
theorem commitGroups : Obligations.CommitGroups := by
  refine ⟨?_, ?_, ?_, ?_, ?_, ?_, ?_⟩
  · intro s ha hswap hrun hcut hgroup hhold
    exact ⟨_, exec_commitCut_takes ha hswap hrun hcut hgroup hhold, rfl, ⟨rfl, rfl⟩, rfl, fun _ _ => rfl, rfl⟩
  · intro s ha hswap hrun hcut hgroup hhold
    exact ⟨_, exec_commitCut_held ha hswap hrun hcut hgroup hhold, rfl, fun _ _ => rfl, rfl⟩
  · intro s val ha hok
    refine ⟨_, (exec_commitHoldWrite val s).trans (runRindF_ok _ ha (withWord_ok _ hok)), State.get_putB_same _ _ rfl, rfl, ?_⟩
    exact ((Writes.refl _ s.fresh).put List.mem_cons_self _).frame rfl rfl
  · intro s T ha hgroup hgo hhold
    refine ⟨_, (exec_commitGo T s).trans (runRind_acts _ ha), ?_⟩
    rw [opCommitGo_waits (s := s.fresh) _ hgroup hgo hhold, Nat.mod_eq_of_lt T.isLt]
    exact ⟨rfl, rfl, fun _ _ => rfl, rfl⟩
  · intro s T ha hgroup
    refine ⟨_, (exec_commitGo T s).trans (runRind_acts _ ha), ?_⟩
    rw [opCommitGo_ignored (s := s.fresh) _ hgroup]
    exact ⟨State.get_put_fit _ _ rfl (by decide), rfl, ((Writes.refl _ s.fresh).put List.mem_cons_self _).frame rfl rfl⟩
  · intro s T now cut ha hgo hnear hcut
    refine ⟨_, (exec_commitGoAccept s).trans (runRind_acts _ (acts_rind ha)), ?_⟩
    rw [opCommitGoAccept_forms (s := s.fresh) hgo hnear hcut]
    refine ⟨State.get_put_fit _ _ rfl (by decide), rfl, rfl, rfl, ?_⟩
    exact (((Writes.refl _ s.fresh).put List.mem_cons_self 0).map (fun x => { x with commit := _ }) fun _ _ => rfl).frame rfl rfl
  · intro s T now cut ha hgo hfar
    refine ⟨_, (exec_commitGoAccept s).trans (runRind_acts _ (acts_rind ha)), ?_⟩
    rw [opCommitGoAccept_far (s := s.fresh) hgo hfar]
    have hw := commitResult_writes false false true (goAnswered s.fresh)
    have hshown := commitResult_shows false false true (goAnswered s.fresh)
    generalize commitResult false false true none (goAnswered s.fresh) = t at hw hshown ⊢
    obtain ⟨hshowFar, hvalid, hlate, hstale, hseq⟩ := hshown
    have hcommit : t.commit = (goAnswered s).commit := hw.same State.commit fun _ _ => rfl
    simp only [settle_get, settle_commit, hcommit]
    exact ⟨hshowFar, hvalid, hlate, hstale, hseq, rfl, rfl, hw.sent, hw.frame rfl rfl⟩

end Sys2Proof.Machine
end

section
/-!
PROOFS. Chapter 04: the tile's raster: its first marker, and markers that are missing (R115, R117, R118).
-/

namespace Sys2Proof.Machine

open Sys2Proof

/-! ### What the recovery of a raster leaves alone -/

/-- What a tile does with a marker beside its raster: nothing is sent, and memories, ports and picture path stay. -/
structure Steers (s t : State) : Prop where
  out : t.out = s.out
  dram : t.dram = s.dram
  nv : t.nv = s.nv
  ports : t.ports = s.ports
  tp : t.tp = s.tp

section
variable {s t u : State}

theorem Steers.trans (h : Steers s t) (k : Steers t u) : Steers s u :=
  ⟨k.out.trans h.out, k.dram.trans h.dram, k.nv.trans h.nv, k.ports.trans h.ports, k.tp.trans h.tp⟩

theorem Writes.steers {l : List Fld} (h : Writes l s t) : Steers s t :=
  ⟨h.same State.out fun _ _ => rfl, h.same State.dram fun _ _ => rfl, h.same State.nv fun _ _ => rfl, h.same State.ports fun _ _ => rfl,
    h.same State.tp fun _ _ => rfl⟩

theorem retile_steers (s : State) : Steers s s.retile :=
  have h := (retile_writes s).steers
  ⟨h.out, h.dram, h.nv, h.ports, h.tp⟩

theorem State.isSender_of_tileLike (h : s.tileLike = true) : s.isSender = false := by
  by_contra hs
  rw [State.tileLike_of_sender (by simpa using hs)] at h
  exact Bool.false_ne_true h

end

/-! ### The marker is relayed and noted (R115, R116, R118, R141) -/

section
variable (dirB : Bool) (s : State)

/-- What the relay of a marker sends. -/
def State.relay : List Out := if s.linked (txPort dirB) then [.marker (txPort dirB)] else []

theorem relayMarker_eq : relayMarker dirB s = s.withOut (s.out ++ s.relay dirB) := by
  unfold relayMarker State.relay
  split
  · rfl
  · simp

/-- A marker that has passed on and counts in its direction's run. -/
def relayed : State := markerRun dirB (relayMarker dirB s)

theorem relayed_get (f : Fld) : (relayed dirB s).get f = s.get f := by
  rw [relayed, relayMarker_eq]
  cases dirB <;> rfl

theorem relayed_dirUsable : (relayed dirB s).dirUsable dirB = s.dirUsable dirB := by
  rw [relayed, relayMarker_eq]
  cases dirB <;> rfl

theorem relayed_steers : Steers (s.withOut (s.out ++ s.relay dirB)) (relayed dirB s) := by
  rw [relayed, relayMarker_eq]
  cases dirB <;> exact ⟨rfl, rfl, rfl, rfl, rfl⟩

theorem markerNote_get (err : Int) (f : Fld) : (markerNote dirB err s).get f = s.get f := by cases dirB <;> rfl

theorem markerNote_steers (err : Int) : Steers s (markerNote dirB err s) := by cases dirB <;> exact ⟨rfl, rfl, rfl, rfl, rfl⟩

/-- The fields in which a marker's delays are shown. -/
abbrev trackFlds : List Fld :=
  [F.CH_DELTA_AB_VALID 0, F.CH_DELTA_AB_SEQ 0, F.CH_DELTA_AB_DELTA 0, F.CH_TRACK_ADJ_A_ADJ 0, F.CH_TRACK_ADJ_B_ADJ 0, F.CH_RASTER_STATE_TRACK_LARGE 0]

theorem deltaAB_writes : Writes trackFlds s (deltaAB s) := by
  have hshown : ∀ d : Int, Writes trackFlds s (((s.put (F.CH_DELTA_AB_VALID 0) 1).bump (F.CH_DELTA_AB_SEQ 0)).putI (F.CH_DELTA_AB_DELTA 0) d) := fun d =>
    (((Writes.refl _ s).put (f := F.CH_DELTA_AB_VALID 0) (by simp) 1).put (f := F.CH_DELTA_AB_SEQ 0) (by simp) _).put (f := F.CH_DELTA_AB_DELTA 0) (by simp) _
  unfold deltaAB
  split
  · split
    · exact hshown _
    · exact .refl _ s
  · exact .refl _ s

theorem reportTrack_writes (adj : Int) : Writes trackFlds s (reportTrack dirB adj s) := by
  have hadj : Writes trackFlds s
      (if dirB then s.put (F.CH_TRACK_ADJ_B_ADJ 0) (ofInt 32 adj) else s.put (F.CH_TRACK_ADJ_A_ADJ 0) (ofInt 32 adj)) := by
    split
    · exact (Writes.refl _ s).put (by simp) _
    · exact (Writes.refl _ s).put (by simp) _
  unfold reportTrack
  dsimp only
  split
  · exact hadj.put (f := F.CH_RASTER_STATE_TRACK_LARGE 0) (by simp) 1
  · exact hadj

/-- A marker of error `err` whose CUM_ADJ in use is `adj`, noted and reported. -/
def markerNoted (err adj : Int) : State := reportTrack dirB adj (deltaAB (markerNote dirB err s))

theorem markerNoted_writes (err adj : Int) : Writes trackFlds (markerNote dirB err s) (markerNoted dirB s err adj) :=
  (deltaAB_writes _).trans (reportTrack_writes dirB _ adj)

theorem markerNoted_state (err adj : Int) : (markerNoted dirB s err adj).get (F.CH_RASTER_STATE_STATE 0) = s.get (F.CH_RASTER_STATE_STATE 0) :=
  ((markerNoted_writes dirB s err adj).get (by decide)).trans (markerNote_get dirB s err _)

theorem markerNoted_steers (err adj : Int) : Steers s (markerNoted dirB s err adj) :=
  (markerNote_steers dirB s err).trans (markerNoted_writes dirB s err adj).steers

end

/-! ### The first marker (R115, R117) -/

/-- The error of a marker in use is shown, and its direction's misses end. -/
def errorShown (err : Int) (s : State) : State :=
  let t := ((s.put (F.CH_RASTER_ERR_VALID 0) 1).bump (F.CH_RASTER_ERR_SEQ 0)).putI (F.CH_RASTER_ERR_ERR 0) err
  { t with tileRas := { t.tileRas with missed := 0 } }

abbrev errorFlds : List Fld := [F.CH_RASTER_ERR_VALID 0, F.CH_RASTER_ERR_SEQ 0, F.CH_RASTER_ERR_ERR 0]

theorem errorShown_writes (err : Int) (s : State) : Writes errorFlds { s with tileRas := { s.tileRas with missed := 0 } } (errorShown err s) :=
  ((((Writes.refl errorFlds s).put (f := F.CH_RASTER_ERR_VALID 0) (by simp) 1).put (f := F.CH_RASTER_ERR_SEQ 0) (by simp) _).put
    (f := F.CH_RASTER_ERR_ERR 0) (by simp) _).map (fun t => { t with tileRas := { t.tileRas with missed := 0 } }) fun _ _ => rfl

theorem errorShown_state (err : Int) (s : State) : (errorShown err s).get (F.CH_RASTER_STATE_STATE 0) = s.get (F.CH_RASTER_STATE_STATE 0) :=
  (errorShown_writes err s).get (by decide)

theorem errorShown_steers (err : Int) (s : State) : Steers s (errorShown err s) :=
  have h := (errorShown_writes err s).steers
  ⟨h.out, h.dram, h.nv, h.ports, h.tp⟩

/-- ACQUIRE in a direction, from a marker whose start lies `past` ps back. -/
def acquired (dirB : Bool) (past : Int) (k : RasterPkt) (s : State) : State :=
  ((rasterTake past k s).put (F.CH_RASTER_STATE_STATE 0) 1).putB (F.CH_RASTER_STATE_DIR 0) dirB

theorem markerAcquire_of_none {dirB : Bool} {err : Int} {k : RasterPkt} {s : State} (hst : s.get (F.CH_RASTER_STATE_STATE 0) = 0) :
    markerAcquire dirB err k s = (judgeFirst err (acquired dirB (-(markerErr dirB 0 k s)) k s)).retile := by
  unfold markerAcquire
  rw [hst]
  rfl

theorem markerUse_of_none {dirB : Bool} {err : Int} {k : RasterPkt} {s : State} (hst : s.get (F.CH_RASTER_STATE_STATE 0) = 0) :
    markerUse dirB err k s = markerAcquire dirB err k (errorShown err s) := by
  have hshown : (errorShown err s).get (F.CH_RASTER_STATE_STATE 0) = 0 := (errorShown_state err s).trans hst
  exact if_pos (by rw [← errorShown, hshown]; rfl)

/-- A tile whose raster does not run, where its first marker has been relayed, noted and shown. -/
def firstShown (dirB : Bool) (k : RasterPkt) (s : State) : State :=
  errorShown 0 (markerNoted dirB (relayed dirB s) 0 (cumAdjUsed dirB k (relayed dirB s)))

theorem opTileMarkerRx_of_none {dirB : Bool} (lag : Int) (k : RasterPkt) {s : State} (ht : s.tileLike = true) (hu : s.dirUsable dirB = true)
    (hst : s.get (F.CH_RASTER_STATE_STATE 0) = 0) :
    opTileMarkerRx dirB lag k s =
      (judgeFirst 0 (acquired dirB (-(markerErr dirB 0 k (firstShown dirB k s))) k (firstShown dirB k s))).retile := by
  have hrelayed := (relayed_get dirB s (F.CH_RASTER_STATE_STATE 0)).trans hst
  have hnoted := (markerNoted_state dirB (relayed dirB s) 0 (cumAdjUsed dirB k (relayed dirB s))).trans hrelayed
  unfold opTileMarkerRx
  rw [ht, Bool.not_true, if_neg Bool.false_ne_true]
  dsimp only
  rw [← relayed, relayed_dirUsable, hu, Bool.not_true, if_neg Bool.false_ne_true, hrelayed, if_pos (beq_self_eq_true 0), ← markerNoted, hnoted,
    if_pos (by simp), markerUse_of_none hnoted]
  exact markerAcquire_of_none ((errorShown_state 0 _).trans hnoted)

section
variable (dirB : Bool) (past : Int) (k : RasterPkt) (s : State)

theorem rasterTake_steers : Steers s (rasterTake past k s) := ⟨rfl, rfl, rfl, rfl, rfl⟩

theorem acquired_steers : Steers s (acquired dirB past k s) :=
  (rasterTake_steers past k s).trans
    (((Writes.refl [F.CH_RASTER_STATE_STATE 0, F.CH_RASTER_STATE_DIR 0] (rasterTake past k s)).put (f := F.CH_RASTER_STATE_STATE 0) (by simp) 1).put
      (f := F.CH_RASTER_STATE_DIR 0) (by simp) _).steers

theorem acquired_state : (acquired dirB past k s).get (F.CH_RASTER_STATE_STATE 0) = 1 :=
  (State.get_putB_sep _ _ _ (by decide)).trans (State.get_put_fit _ _ rfl (by decide))

theorem acquired_dir : (acquired dirB past k s).get (F.CH_RASTER_STATE_DIR 0) = if dirB then 1 else 0 := State.get_putB_same _ _ rfl

/-- The raster that a marker starts. -/
theorem acquired_raster :
    (acquired dirB past k s).raster.running = true ∧ (acquired dirB past k s).raster.fnum = k.fnum % 2 ^ 32 ∧
      (acquired dirB past k s).raster.ltotal = k.ltotal ∧ (acquired dirB past k s).raster.num = k.num ∧ (acquired dirB past k s).raster.den = k.den :=
  ⟨rfl, rfl, rfl, rfl, rfl⟩

/-- A marker that starts the raster has no error to be judged. -/
theorem judgeFirst_zero_steers : Steers s (judgeFirst 0 s) := ⟨rfl, rfl, rfl, rfl, rfl⟩

theorem judged_retile_steers : Steers s (judgeFirst 0 s).retile := (judgeFirst_zero_steers s).trans (retile_steers _)

theorem judged_retile_get {f : Fld} (hf : 0x1000000 ≤ f.addr) : (judgeFirst 0 s).retile.get f = s.get f := retile_get _ hf

theorem judged_retile_raster : (judgeFirst 0 s).retile.raster = s.raster := (retile_sameStores _).raster

end

theorem firstMarker_settled {dirB : Bool} (lag : Int) (k : RasterPkt) {s : State} (ht : s.tileLike = true) (hu : s.dirUsable dirB = true)
    (hst : s.get (F.CH_RASTER_STATE_STATE 0) = 0) :
    let t := opTileMarkerRx dirB lag k s.fresh
    t.get (F.CH_RASTER_STATE_STATE 0) = 1 ∧ (t.get (F.CH_RASTER_STATE_DIR 0) = if dirB then 1 else 0) ∧ t.raster.running = true ∧
      t.raster.fnum = k.fnum % 2 ^ 32 ∧ t.raster.ltotal = k.ltotal ∧ t.raster.num = k.num ∧ t.raster.den = k.den ∧
      Steers (s.withOut (s.relay dirB)) t := by
  dsimp only
  rw [opTileMarkerRx_of_none (s := s.fresh) lag k ht hu hst, judged_retile_raster, judged_retile_get _ (by decide), judged_retile_get _ (by decide)]
  obtain ⟨hrun, hfnum, hltotal, hnum, hden⟩ := acquired_raster dirB (-(markerErr dirB 0 k (firstShown dirB k s.fresh))) k (firstShown dirB k s.fresh)
  refine ⟨acquired_state .., acquired_dir .., hrun, hfnum, hltotal, hnum, hden, ?_⟩
  have hrelayed : Steers (s.withOut (s.relay dirB)) (relayed dirB s.fresh) :=
    have h := relayed_steers dirB s.fresh
    ⟨h.out, h.dram, h.nv, h.ports, h.tp⟩
  exact (((hrelayed.trans (markerNoted_steers ..)).trans (errorShown_steers ..)).trans (acquired_steers ..)).trans (judged_retile_steers _)

/-! ### A marker that is missing (R117) -/

/-- A direction's run of markers ends (R396). -/
def runEnded (dirB : Bool) (s : State) : State :=
  if dirB then { s with tileRx := { s.tileRx with upRunB := 0 } } else { s with tileRx := { s.tileRx with upRunA := 0 } }

/-- A marker of a direction in use is missing, the `n`-th in a row. -/
def missedMarker (n : Nat) (s : State) : State :=
  { s.flag (F.CH_RASTER_STATE_MISSED 0) with tileRas := { s.tileRas with missed := n } }

/-- The raster enters HOLDOVER. -/
def heldOver (s : State) : State := s.put (F.CH_RASTER_STATE_STATE 0) 3

/-- A missing marker, where what came of it has passed on and its direction's run has ended. -/
def markerGap (dirB : Bool) (s : State) : State :=
  if !s.tileLike || !s.dirUsable dirB then s
  else if dirB != (s.flag (F.CH_RASTER_STATE_MISSED 0)).activeB then s.flag (F.CH_RASTER_STATE_MISSED 0)
  else
    let t := missedMarker (s.tileRas.missed + 1) s
    if 3 ≤ s.tileRas.missed + 1 && t.get (F.CH_RASTER_STATE_STATE 0) == 2 then (heldOver t).retile else t

theorem opTileMarkerMissing_eq (dirB came : Bool) (s : State) :
    opTileMarkerMissing dirB came s =
      let r := if s.tileLike && came then relayMarker dirB s else s
      markerGap dirB (if !r.tileLike then r else runEnded dirB r) := rfl

section
variable (dirB came : Bool) (n : Nat) (s : State)

/-- What passes on of a marker that is missing or came without its RASTER. -/
def State.relayOf : List Out := if came ∧ s.linked (txPort dirB) then [.marker (txPort dirB)] else []

theorem relayMarker_of_came : (if came then relayMarker dirB s else s) = s.withOut (s.out ++ s.relayOf dirB came) := by
  cases came
  · simp [State.relayOf]
  · rw [if_pos rfl, relayMarker_eq]
    simp [State.relay, State.relayOf]

theorem opTileMarkerMissing_of_tile (ht : s.tileLike = true) :
    opTileMarkerMissing dirB came s = markerGap dirB (runEnded dirB (s.withOut (s.out ++ s.relayOf dirB came))) := by
  rw [opTileMarkerMissing_eq, ht, Bool.true_and, relayMarker_of_came]
  exact congrArg (markerGap dirB) (if_neg (by rw [Bool.not_eq_true', Bool.not_eq_false]; exact ht))

theorem runEnded_get (f : Fld) : (runEnded dirB s).get f = s.get f := by cases dirB <;> rfl

theorem runEnded_tileLike : (runEnded dirB s).tileLike = s.tileLike := by cases dirB <;> rfl

theorem runEnded_dirUsable : (runEnded dirB s).dirUsable dirB = s.dirUsable dirB := by cases dirB <;> rfl

theorem runEnded_activeB : (runEnded dirB s).activeB = s.activeB := by cases dirB <;> rfl

theorem runEnded_tileRas : (runEnded dirB s).tileRas = s.tileRas := by cases dirB <;> rfl

theorem runEnded_steers : Steers s (runEnded dirB s) := by cases dirB <;> exact ⟨rfl, rfl, rfl, rfl, rfl⟩

theorem runEnded_raster : (runEnded dirB s).raster = s.raster := by cases dirB <;> rfl

theorem missedMarker_writes : Writes [F.CH_RASTER_STATE_MISSED 0] { s with tileRas := { s.tileRas with missed := n } } (missedMarker n s) :=
  ((Writes.refl _ s).put List.mem_cons_self 1).map (fun t => { t with tileRas := { t.tileRas with missed := n } }) fun _ _ => rfl

theorem missedMarker_state : (missedMarker n s).get (F.CH_RASTER_STATE_STATE 0) = s.get (F.CH_RASTER_STATE_STATE 0) :=
  (missedMarker_writes n s).get (by decide)

theorem missedMarker_missed : (missedMarker n s).get (F.CH_RASTER_STATE_MISSED 0) = 1 := State.get_put_fit _ _ rfl (by decide)

theorem missedMarker_steers : Steers s (missedMarker n s) :=
  have h := (missedMarker_writes n s).steers
  ⟨h.out, h.dram, h.nv, h.ports, h.tp⟩

theorem missedMarker_raster : (missedMarker n s).raster = s.raster := (missedMarker_writes n s).sameStores.raster

theorem heldOver_writes : Writes [F.CH_RASTER_STATE_STATE 0] s (heldOver s) := (Writes.refl _ s).put List.mem_cons_self 3

end

section
variable {dirB : Bool} {s : State}

/-- The third missing marker in a row of the active direction ends LOCKED. -/
theorem markerGap_third (ht : s.tileLike = true) (hu : s.dirUsable dirB = true) (hdir : dirB = s.activeB) (hmissed : s.tileRas.missed = 2)
    (hst : s.get (F.CH_RASTER_STATE_STATE 0) = 2) : markerGap dirB s = (heldOver (missedMarker 3 s)).retile := by
  have hactive : (s.flag (F.CH_RASTER_STATE_MISSED 0)).activeB = dirB := by
    rw [State.activeB, State.get_flag_sep _ _ (by decide), hdir, State.activeB]
  have hlocked : (missedMarker 3 s).get (F.CH_RASTER_STATE_STATE 0) = 2 := (missedMarker_state 3 s).trans hst
  unfold markerGap
  rw [ht, hu, Bool.not_true, Bool.or_false, if_neg Bool.false_ne_true, hactive, bne_self_eq_false, if_neg Bool.false_ne_true, hmissed]
  exact if_pos (by rw [hlocked]; rfl)

theorem thirdMissing_settled (came : Bool) (ht : s.tileLike = true) (hu : s.dirUsable dirB = true) (hdir : dirB = s.activeB)
    (hmissed : s.tileRas.missed = 2) (hst : s.get (F.CH_RASTER_STATE_STATE 0) = 2) :
    let t := opTileMarkerMissing dirB came s.fresh
    t.get (F.CH_RASTER_STATE_STATE 0) = 3 ∧ t.get (F.CH_RASTER_STATE_MISSED 0) = 1 ∧ t.tileRas.missed = 3 ∧ t.raster = s.raster ∧
      Steers (s.withOut (s.relayOf dirB came)) t := by
  have hgap := markerGap_third (s := runEnded dirB (s.fresh.withOut (s.relayOf dirB came))) ((runEnded_tileLike dirB _).trans ht)
    ((runEnded_dirUsable dirB _).trans hu) (by rw [runEnded_activeB]; exact hdir)
    ((congrArg TileRas.missed (runEnded_tileRas dirB _)).trans hmissed) ((runEnded_get dirB _ _).trans hst)
  have hop : opTileMarkerMissing dirB came s.fresh = _ := (opTileMarkerMissing_of_tile dirB came s.fresh ht).trans hgap
  have hw := heldOver_writes (missedMarker 3 (runEnded dirB (s.fresh.withOut (s.relayOf dirB came))))
  dsimp only
  rw [hop, retile_get _ (by decide), retile_get _ (by decide), (retile_sameStores _).raster, (retile_writes _).same State.tileRas fun _ _ => rfl]
  refine ⟨State.get_put_fit _ _ rfl (by decide), (hw.get (by decide)).trans (missedMarker_missed ..), rfl, ?_, ?_⟩
  · exact hw.sameStores.raster.trans ((missedMarker_raster ..).trans (runEnded_raster ..))
  · have hstart : Steers (s.withOut (s.relayOf dirB came)) (s.fresh.withOut (s.relayOf dirB came)) := ⟨rfl, rfl, rfl, rfl, rfl⟩
    exact (((hstart.trans (runEnded_steers ..)).trans (missedMarker_steers ..)).trans hw.steers).trans (retile_steers _)

end

end Sys2Proof.Machine
end

section
/-!
PROOFS. Chapters 04 and 05: delay tracking, delay markers, SKP sets and RASTER packets (R80, R116, R139, R141, R152, R153).
-/

namespace Sys2Proof.Machine

open Sys2Proof

/-! ### Delay tracking (R116) -/

/-- The mean delay that a port's round trips of the last 64 frames give. -/
def State.meanDelay (s : State) (p : Nat) : Int := (s.port p).rtSum / (2 * ((s.port p).rtCount : Int))

/-- The drift term of a port moved toward a mean, and its round trips begun anew. -/
def driftMoved (p : Nat) (d : Int) (s : State) : State :=
  s.setPort p fun x => { x with drift := toward x.drift (d - (s.get (F.CH_SEG_DELAY_DELAY p) : Int)) 20, rtSum := 0, rtCount := 0 }

theorem driftMoved_port (p : Nat) (d : Int) (s : State) :
    (driftMoved p d s).port p =
      { s.port p with drift := toward (s.port p).drift (d - (s.get (F.CH_SEG_DELAY_DELAY p) : Int)) 20, rtSum := 0, rtCount := 0 } :=
  State.port_setPort_same ..

/-- The drift term moved toward a mean; the measuring end tells the other end. -/
def driftTold (p : Nat) (d : Int) (s : State) : State :=
  if (driftMoved p d s).measures p then (driftMoved p d s).send (.segDelay p d) else driftMoved p d s

/-- The update of delay tracking by the mean there is. -/
def trackBy (p : Nat) (mean : Option Int) (fwdMeas : Int) (s : State) : State :=
  let t := match mean with
    | none => s
    | some d => driftTold p d s
  if t.tileLike then { t with tileRas := { t.tileRas with fwdDrift := fwdMeas } } else t

theorem opTrackUpdate_eq (p : Nat) (mean : Option Int) (fwdMeas : Int) (s : State) :
    opTrackUpdate p mean fwdMeas s =
      trackBy p (if !s.measures p then mean else if (s.port p).rtCount = 0 then none else some (s.meanDelay p)) fwdMeas s := rfl

section
variable {s : State} {p : Nat}

/-- A sender's measuring end moves by the mean of its own round trips, and tells the other end. -/
theorem opTrackUpdate_measuring (mean : Option Int) (fwdMeas : Int) (hs : s.isSender = true) (hm : s.measures p = true) (hn : (s.port p).rtCount ≠ 0) :
    opTrackUpdate p mean fwdMeas s = (driftMoved p (s.meanDelay p) s).send (.segDelay p (s.meanDelay p)) := by
  have htold : driftTold p (s.meanDelay p) s = (driftMoved p (s.meanDelay p) s).send (.segDelay p (s.meanDelay p)) := if_pos hm
  have htile : (driftTold p (s.meanDelay p) s).tileLike = false := by
    rw [htold]
    exact State.tileLike_of_sender hs
  rw [opTrackUpdate_eq, hm, Bool.not_true, if_neg Bool.false_ne_true, if_neg hn, ← htold]
  exact if_neg (by rw [htile]; exact Bool.false_ne_true)

/-- The other end moves by the mean it is told. -/
theorem opTrackUpdate_told (mean fwdMeas : Int) (hm : s.measures p = false) :
    opTrackUpdate p (some mean) fwdMeas s = { driftMoved p mean s with
      tileRas := if s.tileLike then { s.tileRas with fwdDrift := fwdMeas } else s.tileRas } := by
  have htold : driftTold p mean s = driftMoved p mean s := if_neg (by rw [show (driftMoved p mean s).measures p = false from hm]; exact Bool.false_ne_true)
  have htile : (driftMoved p mean s).tileLike = s.tileLike := rfl
  rw [opTrackUpdate_eq, hm, Bool.not_false, if_pos rfl, trackBy, htold, htile]
  cases s.tileLike <;> rfl

/-! ### Delay markers and SKP sets (R80, R139, R141, R152) -/

theorem State.train_of_linked (hl : s.linked p = true) : s.train p = trLinked := beq_iff_eq.mp hl

theorem opDelayMarker_of_linked {own : Bool} (num turn : Nat) (hl : s.linked p = true) (hown : own = s.measures p) :
    opDelayMarker p own num turn s = s.withOut (s.out ++ if own then [.dmk p] else [.dmk p, .ctrl p (delayRspPkt s.ownCode num turn)]) := by
  unfold opDelayMarker
  rw [State.train_of_linked hl, ← hown, bne_self_eq_false, bne_self_eq_false, Bool.false_and, Bool.false_or, if_neg Bool.false_ne_true]
  cases own
  · simp [State.send, State.withOut]
  · rfl

theorem opSkpSend_of_sender (hs : s.isSender = true) (hl : s.linked p = true) (hdrop : (s.cal p).txDrop = none) :
    opSkpSend p s = s.send (.skp p) := by
  have hdrop' : ((s.send (.skp p)).cal p).txDrop = none := hdrop
  simp [opSkpSend, hs, hl, skpSent, hdrop']

theorem opDelayRsp_of_linked (num turn : Nat) (elapsed : Int) (hl : s.linked p = true) (hm : s.measures p = true) :
    opDelayRsp p num turn elapsed s = s.setPort p fun x => { x with rtSum := x.rtSum + (elapsed - turn), rtCount := x.rtCount + 1 } := by
  simp [opDelayRsp, hl, hm]

end

/-! ### RASTER packets at a tile (R116, R153) -/

/-- The RASTER packet of a direction, kept for its marker. -/
def rasterKept (dirB : Bool) (k : RasterPkt) (s : State) : State :=
  { s with tileRas := if dirB then { s.tileRas with rasterB := some k, cumAdjB := k.cumAdj } else { s.tileRas with rasterA := some k, cumAdjA := k.cumAdj } }

/-- What a RASTER packet announces is taken from the active direction's. -/
def rasterHeard (dirB : Bool) (k : RasterPkt) (s : State) : State :=
  if dirB != s.activeB then s
  else
    let s := schedFollow k { s with tileRx := { s.tileRx with ovlK := k.ovlK } }
    if k.changedLen then { s with raster := { s.raster with adjNext := k.lenAdj } } else s

section
variable (dirB : Bool) (k : RasterPkt) (s : State)

theorem rasterHeard_eq :
    rasterHeard dirB k s = { s with
      tileRx := (rasterHeard dirB k s).tileRx, wtg := (rasterHeard dirB k s).wtg, raster := (rasterHeard dirB k s).raster } := by
  unfold rasterHeard
  split
  · rfl
  · dsimp only
    split <;> rfl

/-- A RASTER packet is sent on with the CUM_ADJ in use and the drift of the own forwarding latency. -/
def rasterForwarded (h : Pkt) : State :=
  if s.linked (txPort dirB) then
    s.send (.ctrl (txPort dirB) { h with data := rasterBytes { k with cumAdj := cumAdjUsed dirB k s + s.tileRas.fwdDrift } })
  else s

theorem opRaster_eq (p : Nat) (h : Pkt) :
    opRaster p k h s =
      if s.isSender then (if s.refSel == 3 && p == s.get F.RD_WTG_CTRL_CHAIN_REF_PORT then followRaster k s else s)
      else if !s.tileLike then s
      else rasterForwarded (p == 1) k (rasterHeard (p == 1) k (rasterKept (p == 1) k s)) h := rfl

theorem rasterHeard_adj : cumAdjUsed dirB k (rasterHeard dirB k (rasterKept dirB k s)) = cumAdjUsed dirB k s := by
  rw [rasterHeard_eq]
  rfl

theorem rasterHeard_tileRas : (rasterHeard dirB k s).tileRas = s.tileRas := by rw [rasterHeard_eq]

theorem rasterHeard_fwdDrift : (rasterHeard dirB k (rasterKept dirB k s)).tileRas.fwdDrift = s.tileRas.fwdDrift := by
  rw [rasterHeard_tileRas]
  cases dirB <;> rfl

theorem rasterHeard_linked (q : Nat) : (rasterHeard dirB k (rasterKept dirB k s)).linked q = s.linked q := by
  rw [rasterHeard_eq]
  rfl

end

theorem opRaster_of_tile {p : Nat} (k : RasterPkt) (h : Pkt) {s : State} (ht : s.tileLike = true) (hl : s.linked (txPort (p == 1)) = true) :
    opRaster p k h s = (rasterHeard (p == 1) k (rasterKept (p == 1) k s)).send
      (.ctrl (txPort (p == 1)) { h with data := rasterBytes { k with cumAdj := cumAdjUsed (p == 1) k s + s.tileRas.fwdDrift } }) := by
  rw [opRaster_eq, State.isSender_of_tileLike ht, if_neg Bool.false_ne_true, ht, Bool.not_true, if_neg Bool.false_ne_true, rasterForwarded,
    rasterHeard_linked, hl, if_pos rfl, rasterHeard_adj, rasterHeard_fwdDrift]

/-- Settles O7: a first marker, a third missing one, a mean, a delay marker, a SKP set and a RASTER packet each by the operation's own equation. -/
theorem tileRaster : Obligations.TileRaster := by
  refine ⟨?_, ?_, ?_, ?_, ?_, ?_, ?_, ?_⟩
  · intro s dirB lag k ha ht hu hst
    refine ⟨_, (exec_tileMarkerRx ..).trans (run_acts _ ha), ?_⟩
    obtain ⟨hstate, hdir, hrun, hfnum, hltotal, hnum, hden, hs⟩ := firstMarker_settled lag k ht hu hst
    simp only [settle_get, settle_raster, settle_dram, settle_nv, settle_ports, settle_tp]
    exact ⟨hstate, hdir, hrun, hfnum, hltotal, hnum, hden, hs.out, hs.dram, hs.nv, hs.ports, hs.tp⟩
  · intro s dirB came ha ht hu hdir hmissed hst
    refine ⟨_, (exec_tileMarkerMissing ..).trans (run_acts _ ha), ?_⟩
    obtain ⟨hstate, hshown, hcount, hraster, hs⟩ := thirdMissing_settled came ht hu hdir hmissed hst
    simp only [settle_get, settle_raster, settle_dram, settle_nv, settle_ports, settle_tileRas]
    exact ⟨hstate, hshown, hcount, hs.out, hraster, hs.dram, hs.nv, hs.ports⟩
  · intro s p mean fwdMeas ha hp hs hm hn
    refine ⟨_, (exec_trackUpdate ..).trans (run_onPort ha hp), ?_⟩
    rw [opTrackUpdate_measuring (s := s.fresh) mean fwdMeas hs hm hn]
    have hport := driftMoved_port p (s.meanDelay p) s.fresh
    exact ⟨(congrArg Port.drift hport :), (congrArg Port.rtSum hport :), (congrArg Port.rtCount hport :), rfl, frame_of_same_regs rfl rfl⟩
  · intro s p mean fwdMeas ha hp hm
    refine ⟨_, (exec_trackUpdate ..).trans (run_onPort ha hp), ?_⟩
    rw [opTrackUpdate_told (s := s.fresh) mean fwdMeas hm]
    exact ⟨(congrArg Port.drift (driftMoved_port p mean s.fresh) :), rfl, rfl, frame_of_same_regs rfl rfl⟩
  · intro s p own num turn ha hp hl hown
    refine ⟨_, (exec_delayMarkerRoundTrip ..).trans (run_onPort ha hp), ?_⟩
    rw [opDelayMarker_of_linked (s := s.fresh) num turn hl hown]
    exact ⟨rfl, frame_of_same_regs rfl rfl⟩
  · intro s p ha hp hl hs hdrop
    refine ⟨_, (exec_skpSend ..).trans (run_onPort ha hp), ?_⟩
    rw [opSkpSend_of_sender (s := s.fresh) hs hl hdrop]
    exact ⟨rfl, frame_of_same_regs rfl rfl⟩
  · intro s p num turn elapsed w ha hp hl hm hgood
    refine ⟨_, (exec_delayRsp ..).trans (run_onPort_receive ha hp hgood), ?_⟩
    rw [opDelayRsp_of_linked (s := s.fresh) num turn elapsed hl hm]
    have hport := State.port_setPort_same s.fresh p fun x => { x with rtSum := x.rtSum + (elapsed - turn), rtCount := x.rtCount + 1 }
    exact ⟨(congrArg Port.rtSum hport :), (congrArg Port.rtCount hport :), rfl, frame_of_same_regs rfl rfl⟩
  · intro s p k w ha hp ht hl hgood
    have hport : s.hasPort p = true := by simp [State.hasPort, ht, hp]
    refine ⟨_, (exec_raster ..).trans (run_onPort_receive ha hport hgood), ?_⟩
    rw [opRaster_of_tile (s := s.fresh) k _ ht hl]
    refine ⟨?_, ?_, frame_of_same_regs ?_ ?_⟩
    · simp only [settle_tileRas, State.send_tileRas, rasterHeard_tileRas]
      obtain rfl | rfl : p = 0 ∨ p = 1 := by omega
      · rfl
      · rfl
    · rw [rasterHeard_eq]
      rfl
    · rw [rasterHeard_eq]
      rfl
    · rw [rasterHeard_eq]
      rfl

end Sys2Proof.Machine
end

section
/-!
PROOFS. Chapters 05 and 14: what does not hold of a SEGDOWN at a tile (R396, R154) and of a STATUS at a sender (R157).
-/

namespace Sys2Proof.Machine

open Sys2Proof

/-! ### SEGDOWN (R396) -/

/-- Whether the transmitter of a port is given up by the partner in the state that a command leaves. -/
def nextGivenUp (o : Host.Outcome State Fault Refusal) (p : Nat) : Option Bool :=
  match o with
  | .next t => some (t.port p).txGivenUp
  | _ => none

theorem nextGivenUp_next {o : Host.Outcome State Fault Refusal} {t : State} (p : Nat) (h : o = .next t) : nextGivenUp o p = some (t.port p).txGivenUp := by
  rw [h]
  rfl

theorem Frame.ports {l : List Fld} {s u t : State} (h : Frame l s u t) : t.ports = u.ports := (congrArg State.ports h.2 :)

/-- A tile with address 2 that receives on one lane of port 0. -/
def secondTile : State :=
  ((State.reset.put F.RD_DIE_STATE_ROLE 2).put (F.CH_ENUM_ADDR_COUNT 0) 2).put (F.CH_LINK_STATUS_RX_LANES 0) 1

/-- A SEGDOWN of direction A that names tile 3, the next tile on, tells tile 2 that its transmitter of direction A reaches no one. -/
theorem secondTile_segdown : nextGivenUp (exec (.segdown 0 0 [urgentSyms 17 3]) secondTile) 1 = some true := by
  decide +kernel

/-- Refutes O12: its clause on SEGDOWN keeps every port record but for the set last acted on, where a set that names the next tile on also gives up the
transmitter towards that tile. -/
theorem not_safeDark : ¬ Obligations.SafeDark := by
  rintro ⟨-, -, -, -, -, -, -, -, -, -, -, -, hsegdown, -⟩
  obtain ⟨t, ht, -, -, -, -, hframe⟩ := hsegdown secondTile 0 0 3 [urgentSyms 17 3] (by decide +kernel) (by decide +kernel) (by decide +kernel)
    (by decide +kernel) (by decide +kernel) (by decide +kernel)
  have hports : t.ports = (secondTile.setPort 0 fun x => { x with urg := Tab.set (fun _ => none) (256 * 17 + 3) (some 0) x.urg }).ports := hframe.ports
  have hshown := secondTile_segdown
  rw [nextGivenUp_next 1 ht, State.port, hports] at hshown
  exact absurd hshown (by decide +kernel)

/-! ### STATUS at a sender (R157) -/

/-- A sender after reset. -/
def freshSender : State := State.reset.put F.RD_DIE_STATE_ROLE 1

/-- STATUS of tile 1 with the bit that tells that it takes its picture from direction B. -/
def statusOfB : List Nat := 1 :: 0x40 :: List.replicate 30 0

/-- How that packet ends when it comes whole. -/
def statusEnd : PktEnd := ⟨0, 0, 0, pktCheck ⟨0x81, 0xFE, 0, 0, 0, statusOfB⟩, false⟩

theorem freshSender_status : nextField (exec (.status ⟨0, statusEnd⟩ statusOfB) freshSender) (F.CH_FO_TILES_B_TILES 0) = some 1 := by
  decide +kernel

/-- Refutes O16: its clause on STATUS keeps every register but the tile's copy and CH_ENUM, where the packet also sets the tile's bit of CH_FO_TILES_B. -/
theorem not_wheyAndComparison : ¬ Obligations.WheyAndComparison := by
  rintro ⟨hstatus, -⟩
  obtain ⟨t, ht, -, -, -, -, hkeeps, -⟩ := hstatus freshSender 0 statusOfB statusEnd (by decide +kernel) (by decide +kernel) (by decide +kernel)
    (by decide +kernel) (by decide +kernel) (by decide +kernel) (by decide +kernel)
  have hshown := freshSender_status
  rw [nextField_next _ ht, hkeeps (F.CH_FO_TILES_B_TILES 0) (by decide +kernel)] at hshown
  exact absurd hshown (by decide +kernel)

end Sys2Proof.Machine
end

section
/-!
PROOFS. Chapter 05: pixel words in pairs (R145).
-/

namespace Sys2Proof.Machine

open Sys2Proof

/-! ### Pixel words (R145) -/

theorem packWords_pair (a b : Nat) (t : List Nat) : packWords (a :: b :: t) = leBytes 9 (a % 2 ^ 36 + b % 2 ^ 36 * 2 ^ 36) ++ packWords t := rfl

theorem packWords_single (a : Nat) : packWords [a] = leBytes 5 (a % 2 ^ 36) := rfl

theorem packWords_length (l : List Nat) : (packWords l).length = 9 * (l.length / 2) + 5 * (l.length % 2) := by
  induction l using packWords.induct with
  | case1 a b t ih =>
    rw [packWords_pair, List.length_append, leBytes_length, ih]
    simp only [List.length_cons]
    omega
  | case2 a => rw [packWords_single, leBytes_length, List.length_singleton]
  | case3 => rfl

/-- Behind the 9 bytes of the first pair come those of the other words. -/
theorem drop_packWords_pair (n a b : Nat) (t : List Nat) : (packWords (a :: b :: t)).drop (9 * (n + 1)) = (packWords t).drop (9 * n) := by
  rw [packWords_pair, Nat.mul_succ, Nat.add_comm, ← List.drop_drop, List.drop_left' (leBytes_length 9 _)]

/-- A whole pair is the 9 bytes of its 72-bit value. -/
theorem packWords_whole_pair (l : List Nat) (hl : ∀ w ∈ l, w < 2 ^ 36) (k : Nat) (hk : k < l.length / 2) :
    ((packWords l).drop (9 * k)).take 9 = leBytes 9 (l.getD (2 * k) 0 + l.getD (2 * k + 1) 0 * 2 ^ 36) := by
  induction l using packWords.induct generalizing k with
  | case1 a b t ih =>
    obtain ⟨ha, hb, ht⟩ : a < 2 ^ 36 ∧ b < 2 ^ 36 ∧ ∀ w ∈ t, w < 2 ^ 36 := by simpa using hl
    cases k with
    | zero =>
      rw [packWords_pair, Nat.mul_zero, List.drop_zero, List.take_left' (leBytes_length 9 _), Nat.mod_eq_of_lt ha, Nat.mod_eq_of_lt hb]
      rfl
    | succ k =>
      rw [drop_packWords_pair, ih ht k (by simp only [List.length_cons] at hk; omega)]
      rfl
  | case2 a => exact absurd hk (by simp)
  | case3 => exact absurd hk (by simp)

/-- The last word of an odd number of words stands alone. -/
theorem packWords_odd_last (l : List Nat) (hl : ∀ w ∈ l, w < 2 ^ 36) (hodd : l.length % 2 = 1) :
    (packWords l).drop (9 * (l.length / 2)) = leBytes 5 (l.getD (l.length - 1) 0) := by
  induction l using packWords.induct with
  | case1 a b t ih =>
    have ht : t.length % 2 = 1 := by
      simp only [List.length_cons] at hodd
      omega
    obtain ⟨n, hn⟩ : ∃ n, t.length = n + 1 := ⟨t.length - 1, by omega⟩
    rw [show (a :: b :: t).length / 2 = t.length / 2 + 1 from Nat.add_div_right t.length Nat.two_pos, drop_packWords_pair,
      ih (fun w hw => hl w (List.mem_cons_of_mem a (List.mem_cons_of_mem b hw))) ht]
    simp [hn]
  | case2 a =>
    have ha : a < 2 ^ 36 := hl a List.mem_cons_self
    simp only [packWords_single, Nat.mod_eq_of_lt ha, List.length_singleton, Nat.reduceDiv, Nat.mul_zero, List.drop_zero, Nat.sub_self,
      List.getD_cons_zero]
  | case3 => exact absurd hodd (by decide)

/-- Settles O49: each part by the recursion of `packWords` over pairs. -/
theorem wordsPackInPairs : Obligations.WordsPackInPairs := by
  intro l hl
  refine ⟨packWords_length l, packWords_whole_pair l hl, fun hodd => ⟨packWords_odd_last l hl hodd, ?_⟩⟩
  have hlast : l.getD (l.length - 1) 0 < 2 ^ 36 := by
    rw [List.getD_eq_getElem _ _ (by omega)]
    exact hl _ (List.getElem_mem _)
  rw [packWords_odd_last l hl hodd, ofLe_leBytes (lt_trans hlast (by decide))]
  exact hlast

end Sys2Proof.Machine
end

section
/-!
PROOFS. Chapter 05: the spans of a row (R149).
-/

namespace Sys2Proof.Machine

open Sys2Proof

/-! ### Spans of a row (R149) -/

/-- A column lies in a span. -/
def InSpan (x : Nat) (e : Nat × Nat) : Prop := e.1 ≤ x ∧ x < e.1 + e.2

/-- A column lies in one of the spans. -/
def Covered (x : Nat) (l : List (Nat × Nat)) : Prop := ∃ e ∈ l, InSpan x e

/-- The spans ascend, and a column that none covers stands between each and the next. -/
def Spaced (l : List (Nat × Nat)) : Prop := l.Pairwise fun e f => e.1 + e.2 < f.1

theorem covered_nil (x : Nat) : ¬ Covered x [] := fun ⟨_, he, _⟩ => List.not_mem_nil he

theorem covered_cons (x : Nat) (e : Nat × Nat) (l : List (Nat × Nat)) : Covered x (e :: l) ↔ InSpan x e ∨ Covered x l := by
  simp [Covered]

theorem spaced_cons (e : Nat × Nat) (l : List (Nat × Nat)) : Spaced (e :: l) ↔ (∀ f ∈ l, e.1 + e.2 < f.1) ∧ Spaced l := List.pairwise_cons

/-- Two spans that meet make one. -/
theorem inSpan_merge {a n b m : Nat} (hab : b ≤ a + n) (hba : a ≤ b + m) (x : Nat) :
    InSpan x (min a b, max (a + n) (b + m) - min a b) ↔ InSpan x (a, n) ∨ InSpan x (b, m) := by
  simp only [InSpan]
  omega

/-- The record covers what it covered and the span put in. -/
theorem covered_spanIns (a n : Nat) (l : List (Nat × Nat)) (x : Nat) : Covered x (spanIns a n l) ↔ InSpan x (a, n) ∨ Covered x l := by
  induction l generalizing a n with
  | nil => rw [spanIns, covered_cons]
  | cons e t ih =>
    obtain ⟨b, m⟩ := e
    rw [spanIns]
    split
    · rw [covered_cons]
    · split
      · rw [covered_cons, ih, covered_cons, or_left_comm]
      · rw [ih, inSpan_merge (by omega) (by omega), covered_cons, or_assoc]

/-- What lies left of the span put in and of every span lies left of the record. -/
theorem lt_spanIns (y a n : Nat) (l : List (Nat × Nat)) (ha : y < a) (hl : ∀ e ∈ l, y < e.1) : ∀ e ∈ spanIns a n l, y < e.1 := by
  induction l generalizing a n with
  | nil => simpa [spanIns] using ha
  | cons e t ih =>
    obtain ⟨b, m⟩ := e
    obtain ⟨hb, ht⟩ : y < b ∧ ∀ e ∈ t, y < e.1 := List.forall_mem_cons.mp hl
    rw [spanIns]
    split
    · exact List.forall_mem_cons.mpr ⟨ha, hl⟩
    · split
      · exact List.forall_mem_cons.mpr ⟨hb, ih a n ha ht⟩
      · exact ih _ _ (lt_min ha hb) ht

theorem spaced_spanIns (a n : Nat) (l : List (Nat × Nat)) (hl : Spaced l) : Spaced (spanIns a n l) := by
  induction l generalizing a n with
  | nil => exact List.pairwise_singleton _ _
  | cons e t ih =>
    obtain ⟨b, m⟩ := e
    obtain ⟨hb, ht⟩ := (spaced_cons (b, m) t).mp hl
    rw [spanIns]
    split
    · next hlt =>
      exact (spaced_cons _ _).mpr ⟨List.forall_mem_cons.mpr ⟨hlt, fun f hf => by have := hb f hf; omega⟩, hl⟩
    · split
      · next hlt => exact (spaced_cons _ _).mpr ⟨lt_spanIns (b + m) a n t hlt hb, ih a n ht⟩
      · exact ih _ _ ht

/-- The record of a row after spans have been put in, one after another. -/
theorem spaced_foldl_spanIns (l r : List (Nat × Nat)) (hr : Spaced r) : Spaced (l.foldl (fun t e => spanIns e.1 e.2 t) r) := by
  induction l generalizing r with
  | nil => exact hr
  | cons e l ih => exact ih _ (spaced_spanIns e.1 e.2 r hr)

theorem covered_foldl_spanIns (l r : List (Nat × Nat)) (x : Nat) :
    Covered x (l.foldl (fun t e => spanIns e.1 e.2 t) r) ↔ Covered x l ∨ Covered x r := by
  induction l generalizing r with
  | nil => simp [covered_nil]
  | cons e l ih => rw [List.foldl_cons, ih, covered_spanIns, covered_cons, ← or_assoc, or_comm (a := Covered x l)]

/-- Behind the first span of a record stands a column that it does not cover. -/
theorem not_covered_gap {e : Nat × Nat} {l : List (Nat × Nat)} (h : Spaced (e :: l)) : ¬ Covered (e.1 + e.2) (e :: l) := by
  rw [covered_cons]
  rintro (⟨-, hlt⟩ | ⟨f, hf, hle, -⟩)
  · exact absurd hlt (Nat.lt_irrefl _)
  · exact absurd (((spaced_cons e l).mp h).1 f hf) (Nat.not_lt.mpr hle)

/-- A record shows a row complete exactly when it covers every column. -/
theorem spanFull_iff (w : Nat) {l : List (Nat × Nat)} (hl : Spaced l) : spanFull w l = true ↔ ∀ x, x < w → Covered x l := by
  simp only [spanFull, Bool.or_eq_true, beq_iff_eq, List.any_eq_true, Bool.and_eq_true, decide_eq_true_eq]
  constructor
  · rintro (rfl | ⟨e, he, hstart, hend⟩) x hx
    · exact absurd hx (Nat.not_lt_zero x)
    · exact ⟨e, he, by unfold InSpan; omega⟩
  · intro hcov
    by_cases hw : w = 0
    · exact .inl hw
    · cases l with
      | nil => exact absurd (hcov 0 (by omega)) (covered_nil 0)
      | cons e l =>
        have hgap := not_covered_gap hl
        have hend : w ≤ e.1 + e.2 := Nat.not_lt.mp fun hlt => hgap (hcov _ hlt)
        have hstart : e.1 = 0 := by
          rcases (covered_cons 0 e l).mp (hcov 0 (by omega)) with ⟨hle, -⟩ | ⟨f, hf, hle, -⟩
          · omega
          · have := ((spaced_cons e l).mp hl).1 f hf
            omega
        exact .inr ⟨e, List.mem_cons_self, hstart, by omega⟩

/-- Spans accepted in any order and with any overlaps complete a row exactly when they cover it. -/
theorem spanFull_foldl_spanIns (w : Nat) (l : List (Nat × Nat)) :
    spanFull w (l.foldl (fun t e => spanIns e.1 e.2 t) []) = true ↔ ∀ x, x < w → Covered x l := by
  simp only [spanFull_iff w (spaced_foldl_spanIns l [] List.Pairwise.nil), covered_foldl_spanIns, covered_nil, or_false]

end Sys2Proof.Machine
end

section
/-!
PROOFS. Chapter 05: a segment reads as it was sent (R136, R137, R140, R144, R145, R146, R148).
-/

namespace Sys2Proof.Machine

open Sys2Proof

/-! ### Codes of columns (R137) -/

/-- A data byte or a control symbol of the link. -/
def LinkSym (k : Nat) : Prop := k ∈ List.range 256 ++ linkSyms

theorem linkSym_of_byte {k : Nat} (h : k < 256) : LinkSym k := List.mem_append_left _ (List.mem_range.mpr h)

theorem linkSym_of_control {k : Nat} (h : k ∈ linkSyms) : LinkSym k := List.mem_append_right _ h

theorem LinkSym.lt_violation {k : Nat} (h : LinkSym k) : k < symViolation := by
  rcases List.mem_append.mp h with hbyte | hcontrol
  · exact lt_trans (List.mem_range.mp hbyte) (by decide)
  · exact (by decide : ∀ k ∈ linkSyms, k < symViolation) k hcontrol

theorem decSym_encSym (rd : Bool) {k : Nat} (h : LinkSym k) : decSym rd (encSym rd k) = k :=
  (checkCatalogue.2 rd (by cases rd <;> decide) k h).2

/-- What is worked out of each element of a list beside one of another list, and then read beside the same one again. -/
theorem map_zip_map_zip {α β γ δ : Type} (f : α × β → γ) (g : γ × β → δ) (c : List α) (r : List β) :
    (((c.zip r).map f).zip r).map g = (c.zip r).map fun e => g (f e, e.2) := by
  induction c generalizing r with
  | nil => rfl
  | cons a c ih =>
    cases r with
    | nil => rfl
    | cons b r => simp [ih]

/-- Symbols on each lane, one column after another. -/
def LinkColumns (m : Nat) (cols : List (List Nat)) : Prop := ∀ c ∈ cols, c.length = m ∧ ∀ k ∈ c, LinkSym k

theorem encodeColumns_cons (rd : List Bool) (c : List Nat) (t : List (List Nat)) :
    (encodeColumns rd (c :: t)).1 = ((c.zip rd).map fun e => encSym e.2 e.1) ::
      (encodeColumns ((c.zip rd).map fun e => rdAfter e.2 (encSym e.2 e.1)) t).1 := by
  rw [encodeColumns, map_zip_map_zip]

theorem encodeColumns_lengths (rd : List Bool) (cols : List (List Nat)) (h : ∀ c ∈ cols, c.length = rd.length) :
    ∀ c ∈ (encodeColumns rd cols).1, c.length = rd.length := by
  induction cols generalizing rd with
  | nil => simp [encodeColumns]
  | cons c t ih =>
    obtain ⟨hc, ht⟩ := List.forall_mem_cons.mp h
    rw [encodeColumns_cons]
    have hafter : ((c.zip rd).map fun e => rdAfter e.2 (encSym e.2 e.1)).length = rd.length := by simp [hc]
    refine List.forall_mem_cons.mpr ⟨by simp [hc], ?_⟩
    rw [← hafter] at ht ⊢
    exact ih _ ht

/-- The codes of columns read back as the columns: sender and receiver follow the same running disparities. -/
theorem decodeColumns_encodeColumns (rd : List Bool) (cols : List (List Nat)) (h : LinkColumns rd.length cols) :
    decodeColumns rd (encodeColumns rd cols).1 = cols := by
  induction cols generalizing rd with
  | nil => rfl
  | cons c t ih =>
    obtain ⟨⟨hc, hsyms⟩, ht⟩ := List.forall_mem_cons.mp h
    have hread : (c.zip rd).map (fun e => decSym e.2 (encSym e.2 e.1)) = c := by
      rw [List.map_congr_left fun e he => decSym_encSym e.2 (hsyms e.1 (List.of_mem_zip he).1)]
      exact List.map_fst_zip hc.le
    have hafter : ((c.zip rd).map fun e => rdAfter e.2 (encSym e.2 e.1)).length = rd.length := by simp [hc]
    rw [encodeColumns_cons, decodeColumns, map_zip_map_zip, map_zip_map_zip, hread, ih _ (hafter ▸ ht)]

/-! ### Columns of symbols (R136) -/

theorem padColumn_length {m : Nat} {c : List Nat} (h : c.length ≤ m) : (padColumn m c).length = m := by
  simp [padColumn, h]

/-- Symbols on columns are all the symbols, in order, and IDL behind them; every column is whole. -/
theorem columnsOf_spec {m : Nat} (hm : 0 < m) (n : Nat) (l : List Nat) (hn : l.length ≤ n) :
    (∃ j, (columnsOf m n l).flatten = l ++ List.replicate j symIdl) ∧ ∀ c ∈ columnsOf m n l, c.length = m := by
  induction n generalizing l with
  | zero =>
    rw [List.length_eq_zero_iff.mp (Nat.le_zero.mp hn)]
    exact ⟨⟨0, rfl⟩, by simp [columnsOf]⟩
  | succ n ih =>
    cases l with
    | nil => exact ⟨⟨0, rfl⟩, by simp [columnsOf]⟩
    | cons a l =>
      have hhead : (padColumn m ((a :: l).take m)).length = m := padColumn_length (List.length_take_le _ _)
      obtain ⟨⟨j, hflat⟩, hlens⟩ := ih ((a :: l).drop m) (by simp only [List.length_drop, List.length_cons] at hn ⊢; omega)
      refine ⟨?_, ?_⟩
      · rw [columnsOf, List.flatten_cons, hflat, padColumn]
        by_cases hlong : m ≤ (a :: l).length
        · refine ⟨j, ?_⟩
          rw [List.length_take_of_le hlong, Nat.sub_self, List.replicate_zero, List.append_nil, ← List.append_assoc, List.take_append_drop]
        · refine ⟨m - (a :: l).length + j, ?_⟩
          rw [List.take_of_length_le (by omega), List.drop_eq_nil_of_le (by omega), List.nil_append, List.append_assoc, List.replicate_add]
      · rw [columnsOf]
        exact List.forall_mem_cons.mpr ⟨hhead, hlens⟩

theorem outColumns_symbols {m : Nat} (hm : 0 < m) (l : List Nat) : outColumns m false l = columnsOf m l.length l := by
  simp [outColumns, Nat.pos_iff_ne_zero.mp hm]

/-! ### What is stripped (R140) -/

theorem columnIs_of_not_mem {k : Nat} {c : List Nat} (h : k ∉ c) : columnIs k c = false := by simp [columnIs, h]

theorem stripSets_of_none (len : List (List Nat) → Nat) (l : List (List Nat)) (h : ∀ c ∈ l, ∀ t, len (c :: t) = 0) : stripSets len 0 l = l := by
  induction l with
  | nil => rfl
  | cons c t ih => rw [stripSets, h c List.mem_cons_self t, ih fun d hd => h d (List.mem_cons_of_mem c hd)]

/-- Columns with no marker, no URG and no COM stay as they are. -/
theorem stripColumns_of_none {l : List (List Nat)} (h : ∀ c ∈ l, symRmk ∉ c ∧ symDmk ∉ c ∧ symUrg ∉ c ∧ symCom ∉ c) : stripColumns l = l := by
  have hmarkers : (l.filter fun c => !(columnIs symRmk c || columnIs symDmk c)) = l := by
    refine List.filter_eq_self.mpr fun c hc => ?_
    obtain ⟨hr, hd, -, -⟩ := h c hc
    rw [columnIs_of_not_mem hr, columnIs_of_not_mem hd]
    rfl
  have hurgent : ∀ c ∈ l, ∀ t, urgentSetLen (c :: t) = 0 := fun c hc t => by
    obtain ⟨-, -, hu, -⟩ := h c hc
    simp [urgentSetLen, columnIs_of_not_mem hu]
  have hskp : ∀ c ∈ l, ∀ t, skpSetLen (c :: t) = 0 := fun c hc t => by
    obtain ⟨-, -, -, hs⟩ := h c hc
    simp [skpSetLen, columnIs_of_not_mem hs]
  rw [stripColumns, hmarkers, stripSets_of_none _ l hurgent, stripSets_of_none _ l hskp]

/-! ### The bytes of a segment (R144 to R146) -/

theorem leBytes_lt (n v : Nat) : ∀ b ∈ leBytes n v, b < 256 := by
  induction n generalizing v with
  | zero => simp [leBytes]
  | succ n ih =>
    rw [leBytes]
    exact List.forall_mem_cons.mpr ⟨Nat.mod_lt _ (by decide), ih _⟩

theorem packWords_lt (l : List Nat) : ∀ b ∈ packWords l, b < 256 := by
  induction l using packWords.induct with
  | case1 a b t ih =>
    rw [packWords_pair]
    exact List.forall_mem_append.mpr ⟨leBytes_lt 9 _, ih⟩
  | case2 a => exact leBytes_lt 5 _
  | case3 => simp [packWords]

theorem segmentBytes_lt (g : Segment) : ∀ b ∈ segmentBytes g, b < 256 := by
  simp only [segmentBytes, List.forall_mem_append]
  refine ⟨⟨⟨⟨⟨⟨?_, leBytes_lt 2 _⟩, leBytes_lt 2 _⟩, leBytes_lt 2 _⟩, leBytes_lt 4 _⟩, by simp⟩, packWords_lt g.words⟩
  simp only [List.forall_mem_cons, List.not_mem_nil, false_imp_iff, implies_true, and_true]
  omega

/-- The words that the payload of pixel words holds. -/
theorem unpackWords_packWords (l : List Nat) (hl : ∀ w ∈ l, w < 2 ^ 36) : unpackWords l.length (packWords l) = l := by
  induction l using packWords.induct with
  | case1 a b t ih =>
    obtain ⟨ha, hb, ht⟩ : a < 2 ^ 36 ∧ b < 2 ^ 36 ∧ ∀ w ∈ t, w < 2 ^ 36 := by simpa using hl
    have hpair : ofLe ((packWords (a :: b :: t)).take 9) = a + b * 2 ^ 36 := by
      rw [packWords_pair, List.take_left' (leBytes_length 9 _), Nat.mod_eq_of_lt ha, Nat.mod_eq_of_lt hb]
      exact ofLe_leBytes (by omega)
    have hrest : (packWords (a :: b :: t)).drop 9 = packWords t := drop_packWords_pair 0 a b t
    have hlow : (a + b * 2 ^ 36) % 2 ^ 36 = a := by omega
    have hhigh : (a + b * 2 ^ 36) / 2 ^ 36 % 2 ^ 36 = b := by omega
    rw [List.length_cons, List.length_cons, unpackWords, hpair, hlow, hhigh, hrest, ih ht]
  | case2 a =>
    have ha : a < 2 ^ 36 := hl a List.mem_cons_self
    rw [List.length_singleton, unpackWords, packWords_single, List.take_of_length_le (leBytes_length 5 _).le, ofLe_leBytes (by omega),
      Nat.mod_mod, Nat.mod_eq_of_lt ha]
  | case3 => rfl

theorem crc32_lt (l : List Nat) : crc32 l < 2 ^ 32 := by
  rw [crcFormsAgree l, crcResult]
  exact Nat.mod_lt _ (by decide)

/-! ### A segment read from symbols (R148) -/

theorem takeWhile_to_end {b r : List Nat} {e : Nat} (hb : ∀ x ∈ b, x < 256) (he : e = symEop ∨ e = symEdb) :
    (b ++ e :: r).takeWhile (fun x => x != symEop && x != symEdb) = b := by
  have hdata : ∀ x ∈ b, (x != symEop && x != symEdb) = true := fun x hx => by
    have := hb x hx
    simp only [symEop, symEdb, kSym, Bool.and_eq_true, bne_iff_ne]
    omega
  have hend : (e != symEop && e != symEdb) = false := by
    rcases he with rfl | rfl
    · decide
    · decide
  rw [List.takeWhile_append_of_pos hdata, List.takeWhile_cons_of_neg (by simp [hend]), List.append_nil]

theorem filter_zipIdx_eq_nil (p : Nat → Bool) (l : List Nat) (n : Nat) (h : ∀ x ∈ l, p x = false) : (l.zipIdx n).filter (fun x => p x.1) = [] := by
  refine List.filter_eq_nil_iff.mpr fun x hx => ?_
  rw [h x.1 (List.fst_mem_of_mem_zipIdx hx)]
  exact Bool.false_ne_true

/-- The header that the bytes between the symbols of a segment tell, and the words of its payload. -/
def bodySegment (b : List Nat) : Segment :=
  ⟨b.getD 0 0, b.getD 1 0 % 4, b.getD 1 0 / 4 % 4, ofLe ((b.drop 2).take 2), ofLe ((b.drop 4).take 2), ofLe ((b.drop 8).take 4),
    unpackWords (ofLe ((b.drop 6).take 2)) ((b.drop 16).take (b.length - 20))⟩

/-- Columns without a violation that bring SOS, bytes, an end symbol and IDL read as the segment that the bytes tell. -/
theorem readSegment_of_symbols {m j e : Nat} {rd : List Bool} {cols all : List (List Nat)} {b : List Nat}
    (hall : decodeColumns (rd.take m) (cols.map (·.take m)) = all) (hstrip : stripColumns all = all)
    (hflat : all.flatten = symSos :: (b ++ e :: List.replicate j symIdl)) (hb : ∀ x ∈ b, x < 256) (he : e = symEop ∨ e = symEdb)
    (hviol : ∀ c ∈ all, ∀ x ∈ c, x < symViolation) :
    readSegment m rd cols = some
      { seg := bodySegment b
        syms := symSos :: b ++ [e]
        crcOk := 20 ≤ b.length && crc32 (b.take (b.length - 4)) == ofLe (b.drop (b.length - 4))
        lenOk := b.length == 20 + (9 * ofLe ((b.drop 6).take 2) + 1) / 2
        eop := e != symEdb
        viol := [] } := by
  have hlong : b.length + 1 < (symSos :: (b ++ e :: List.replicate j symIdl)).length := by
    simp only [List.length_cons, List.length_append]
    omega
  have hend : (symSos :: (b ++ e :: List.replicate j symIdl)).drop (b.length + 1) = e :: List.replicate j symIdl := by
    rw [List.drop_succ_cons, List.drop_left]
  have hpad : (symSos :: (b ++ e :: List.replicate j symIdl)).drop (b.length + 2) = List.replicate j symIdl := by
    rw [show b.length + 2 = b.length + 1 + 1 from rfl, ← List.drop_drop, hend, List.drop_one, List.tail_cons]
  have hbytes : (b.zipIdx 1).filter (fun x => 256 ≤ x.1) = [] :=
    filter_zipIdx_eq_nil (256 ≤ ·) b 1 fun x hx => by simpa using hb x hx
  have hidle : ((List.replicate j symIdl).zipIdx (b.length + 2)).filter (fun x => x.1 != symIdl) = [] :=
    filter_zipIdx_eq_nil (· != symIdl) _ _ fun x hx => by simp [(List.mem_replicate.mp hx).2]
  have hgood : ∀ i, (all.any fun c => c.getD i 0 == symViolation) = false := fun i => by
    refine List.any_eq_false.mpr fun c hc => ?_
    rw [beq_iff_eq]
    by_cases hi : i < c.length
    · rw [List.getD_eq_getElem _ _ hi]
      exact (hviol c hc _ (List.getElem_mem hi)).ne
    · rw [List.getD_eq_default _ _ (by omega)]
      decide
  have heop : (e == symEop || e == symEdb) = true := by simpa using he
  rw [readSegment]
  simp only [hall, hstrip, hflat, List.tail_cons, takeWhile_to_end hb he, hlong, if_true, hend, hpad, List.headD_cons, ne_eq, not_true_eq_false,
    if_false, hbytes, hidle, hgood, heop, Bool.and_true, List.append_nil, List.map_nil, List.contains_nil, Bool.or_false, List.filter_false]
  rfl

/-! ### A segment sent and read (R144 to R146, R148) -/

/-- The bytes of a segment between its symbols: header, payload and check value. -/
def segmentBody (g : Segment) : List Nat := segmentBytes g ++ leBytes 4 (crc32 (segmentBytes g))

/-- The symbol that ends a segment. -/
def endSym (edb : Bool) : Nat := if edb then symEdb else symEop

theorem segmentSyms_eq (g : Segment) (edb : Bool) : segmentSyms g edb = symSos :: segmentBody g ++ [endSym edb] := rfl

theorem endSym_end (edb : Bool) : endSym edb = symEop ∨ endSym edb = symEdb := by
  cases edb
  · exact .inl rfl
  · exact .inr rfl

theorem endSym_eop (edb : Bool) : (endSym edb != symEdb) = !edb := by
  cases edb
  · decide
  · decide

theorem segmentBody_lt (g : Segment) : ∀ b ∈ segmentBody g, b < 256 := List.forall_mem_append.mpr ⟨segmentBytes_lt g, leBytes_lt 4 _⟩

theorem segmentBytes_length (g : Segment) : (segmentBytes g).length = 16 + (packWords g.words).length := by
  simp only [segmentBytes, List.length_append, leBytes_length, List.length_cons, List.length_nil]

theorem segmentBody_length (g : Segment) : (segmentBody g).length = 20 + (9 * g.words.length + 1) / 2 := by
  rw [segmentBody, List.length_append, segmentBytes_length, leBytes_length, packWords_length]
  omega

theorem segmentBody_count {g : Segment} (hg : segmentForm g = true) : ofLe (((segmentBody g).drop 6).take 2) = g.words.length := by
  simp only [segmentForm, Bool.and_eq_true, decide_eq_true_eq] at hg
  exact ofLe_leBytes (n := 2) (by omega)

theorem segmentBody_payload (g : Segment) : ((segmentBody g).drop 16).take ((segmentBody g).length - 20) = packWords g.words := by
  have hbehind : (segmentBody g).drop 16 = packWords g.words ++ leBytes 4 (crc32 (segmentBytes g)) := rfl
  rw [hbehind, segmentBody_length, Nat.add_sub_cancel_left]
  exact List.take_left' (by rw [packWords_length]; omega)

/-- The bytes of a segment tell the segment. -/
theorem bodySegment_segmentBody {g : Segment} (hg : segmentForm g = true) (hw : ∀ w ∈ g.words, w < 2 ^ 36) : bodySegment (segmentBody g) = g := by
  have hcount := segmentBody_count hg
  simp only [segmentForm, Bool.and_eq_true, decide_eq_true_eq] at hg
  obtain ⟨⟨⟨⟨⟨⟨⟨htile, hphase⟩, hcode⟩, hrow⟩, hcol⟩, -⟩, -⟩, hfnum⟩ := hg
  have htile' : (segmentBody g).getD 0 0 = g.tile := Nat.mod_eq_of_lt htile
  have hphases : (segmentBody g).getD 1 0 = g.phase % 4 + 4 * (g.code % 4) := rfl
  have hrow' : ofLe (((segmentBody g).drop 2).take 2) = g.row := ofLe_leBytes (n := 2) hrow
  have hcol' : ofLe (((segmentBody g).drop 4).take 2) = g.col := ofLe_leBytes (n := 2) hcol
  have hfnum' : ofLe (((segmentBody g).drop 8).take 4) = g.fnum := ofLe_leBytes (n := 4) hfnum
  rw [bodySegment, htile', hphases, hrow', hcol', hfnum', hcount, segmentBody_payload, unpackWords_packWords g.words hw]
  have hphase' : (g.phase % 4 + 4 * (g.code % 4)) % 4 = g.phase := by omega
  have hcode' : (g.phase % 4 + 4 * (g.code % 4)) / 4 % 4 = g.code := by omega
  rw [hphase', hcode']

/-- The check value is that of the bytes before it. -/
theorem segmentBody_check (g : Segment) :
    (20 ≤ (segmentBody g).length &&
      crc32 ((segmentBody g).take ((segmentBody g).length - 4)) == ofLe ((segmentBody g).drop ((segmentBody g).length - 4))) = true := by
  have hlen : (segmentBody g).length - 4 = (segmentBytes g).length := by
    rw [segmentBody, List.length_append, leBytes_length, Nat.add_sub_cancel]
  have hlong : 20 ≤ (segmentBody g).length := by
    rw [segmentBody_length]
    omega
  rw [hlen, segmentBody, List.take_left, List.drop_left, ofLe_leBytes (n := 4) (crc32_lt _), beq_self_eq_true, Bool.and_true, decide_eq_true_eq]
  exact hlong

/-- Every symbol of a segment's columns is SOS, a byte, its end symbol or IDL. -/
theorem mem_segmentColumns {m : Nat} (hm : 0 < m) (g : Segment) (edb : Bool) {c : List Nat} (hc : c ∈ outColumns m false (segmentSyms g edb)) {k : Nat}
    (hk : k ∈ c) : k = symSos ∨ k < 256 ∨ k = symEop ∨ k = symEdb := by
  rw [outColumns_symbols hm] at hc
  obtain ⟨⟨j, hflat⟩, -⟩ := columnsOf_spec hm _ (segmentSyms g edb) le_rfl
  have hmem : k ∈ segmentSyms g edb ++ List.replicate j symIdl := hflat ▸ List.mem_flatten_of_mem hc hk
  rw [segmentSyms_eq] at hmem
  simp only [List.cons_append, List.append_assoc, List.mem_cons, List.mem_append, List.mem_replicate, List.not_mem_nil, false_or] at hmem
  rcases hmem with rfl | hbyte | rfl | hidle
  · exact .inl rfl
  · exact .inr (.inl (segmentBody_lt g k hbyte))
  · exact .inr (.inr (endSym_end edb))
  · rw [hidle.2]
    exact .inr (.inl (by decide))

theorem segmentColumns_link {m : Nat} (hm : 0 < m) (g : Segment) (edb : Bool) : LinkColumns m (outColumns m false (segmentSyms g edb)) := by
  refine fun c hc => ⟨?_, fun k hk => ?_⟩
  · rw [outColumns_symbols hm] at hc
    exact (columnsOf_spec hm _ (segmentSyms g edb) le_rfl).2 c hc
  · rcases mem_segmentColumns hm g edb hc hk with rfl | hbyte | rfl | rfl
    · exact linkSym_of_control (by decide)
    · exact linkSym_of_byte hbyte
    · exact linkSym_of_control (by decide)
    · exact linkSym_of_control (by decide)

theorem segmentColumns_unstripped {m : Nat} (hm : 0 < m) (g : Segment) (edb : Bool) :
    stripColumns (outColumns m false (segmentSyms g edb)) = outColumns m false (segmentSyms g edb) := by
  refine stripColumns_of_none fun c hc => ?_
  have hnot : ∀ k, 256 ≤ k → k ≠ symSos → k ≠ symEop → k ≠ symEdb → k ∉ c := fun k hlow hsos heop hedb hk => by
    rcases mem_segmentColumns hm g edb hc hk with h | h | h | h
    · exact hsos h
    · exact absurd h (by omega)
    · exact heop h
    · exact hedb h
  exact ⟨hnot _ (by decide) (by decide) (by decide) (by decide), hnot _ (by decide) (by decide) (by decide) (by decide),
    hnot _ (by decide) (by decide) (by decide) (by decide), hnot _ (by decide) (by decide) (by decide) (by decide)⟩

/-- The codes of a segment read back as the segment. -/
theorem readSegment_encodeColumns {m : Nat} {g : Segment} {rd : List Bool} (edb : Bool) (hm : 0 < m) (hrd : rd.length = m)
    (hg : segmentForm g = true) (hw : ∀ w ∈ g.words, w < 2 ^ 36) :
    readSegment m rd (encodeColumns rd (outColumns m false (segmentSyms g edb))).1 =
      some { seg := g, syms := segmentSyms g edb, crcOk := true, lenOk := true, eop := !edb, viol := [] } := by
  have hlink := segmentColumns_link hm g edb
  have hwhole : ((encodeColumns rd (outColumns m false (segmentSyms g edb))).1).map (·.take m) =
      (encodeColumns rd (outColumns m false (segmentSyms g edb))).1 := by
    refine (List.map_congr_left fun c hc => ?_).trans (List.map_id _)
    have hlen := encodeColumns_lengths rd _ (fun c hc => (hlink c hc).1.trans hrd.symm) c hc
    exact List.take_of_length_le (hlen.trans hrd).le
  have hall : decodeColumns (rd.take m) (((encodeColumns rd (outColumns m false (segmentSyms g edb))).1).map (·.take m)) =
      outColumns m false (segmentSyms g edb) := by
    rw [List.take_of_length_le hrd.le, hwhole, decodeColumns_encodeColumns rd _ (hrd ▸ hlink)]
  obtain ⟨⟨j, hflat⟩, -⟩ := columnsOf_spec hm _ (segmentSyms g edb) le_rfl
  rw [← outColumns_symbols hm, segmentSyms_eq, List.cons_append, List.cons_append, List.append_assoc] at hflat
  rw [readSegment_of_symbols hall (segmentColumns_unstripped hm g edb) hflat (segmentBody_lt g) (endSym_end edb)
    fun c hc k hk => ((hlink c hc).2 k hk).lt_violation]
  have hcount : ofLe (((segmentBody g).drop 6).take 2) = g.words.length := segmentBody_count hg
  rw [bodySegment_segmentBody hg hw, segmentBody_check, endSym_eop, hcount, segmentBody_length, beq_self_eq_true, ← segmentSyms_eq]

/-- Settles O55: columns read back by the running disparities that both ends follow, and the record of a row by its spans staying apart. -/
theorem rowCoverage : Obligations.RowCoverage :=
  ⟨fun _ _ _ edb hm _ hrd hg hw => readSegment_encodeColumns edb hm hrd hg hw, fun w l _ => spanFull_foldl_spanIns w l⟩

end Sys2Proof.Machine
end

section
/-!
PROOFS. Chapter 05: a segment that a tile receives (R148, R149, R161).
-/

namespace Sys2Proof.Machine

open Sys2Proof

/-- The registers of a group are not those of a lane's state. -/
theorem atGROUP_ne_lane (g n : Nat) {off : Nat} (h : off < 0x20) : atGROUP g off ≠ atLANE n 0 := by
  unfold atGROUP atLANE dieBase
  split <;> omega

/-! ### Locks that a clean segment shows (R196) -/

/-- The lane that carries a logical lane of a port's receiver. -/
def State.rxLane (s : State) (p k : Nat) : Nat := chainLane p (s.get (calMapRx p k))

/-- The locks of a port's logical lanes. -/
abbrev rxLockFlds (s : State) (p m : Nat) : List Fld := (List.range m).map fun k => F.HP_LANE_STATE_CDR_LOCK (s.rxLane p k)

section
variable {p m : Nat} {s t : State}

/-- The map does not change while the locks are shown. -/
theorem relock_eq (viol : List Nat) (s : State) : relock p m viol s =
    s.each ((List.range m).filter (!viol.contains ·)) fun k t => t.put (F.HP_LANE_STATE_CDR_LOCK (s.rxLane p k)) 1 := by
  have hgen : ∀ (L : List Nat) (t : State), (∀ k, t.rxLane p k = s.rxLane p k) →
      t.each L (fun k s => s.put (F.HP_LANE_STATE_CDR_LOCK (chainLane p (s.get (calMapRx p k)))) 1) =
        t.each L fun k t => t.put (F.HP_LANE_STATE_CDR_LOCK (s.rxLane p k)) 1 := by
    intro L
    induction L with
    | nil => simp only [State.each, List.foldl_nil, implies_true]
    | cons k L ih =>
      intro t ht
      have hmap : ∀ j, (t.put (F.HP_LANE_STATE_CDR_LOCK (s.rxLane p k)) 1).rxLane p j = s.rxLane p j := fun j => by
        have hsep : (F.HP_LANE_STATE_CDR_LOCK (s.rxLane p k)).sep (calMapRx p j) = true := Fld.sep_of_addr_ne (atGROUP_ne_lane p _ (by decide)).symm
        rw [State.rxLane, State.get_put_sep _ _ _ _ hsep]
        exact ht j
      have hlane : chainLane p (t.get (calMapRx p k)) = s.rxLane p k := ht k
      rw [State.each, List.foldl_cons, hlane]
      exact ih _ hmap
  exact hgen _ s fun _ => rfl

theorem relock_writes (viol : List Nat) (s : State) : Writes (rxLockFlds s p m) s (relock p m viol s) := by
  rw [relock_eq]
  exact Writes.each _ s fun k hk t => (Writes.refl _ t).put (List.mem_map_of_mem (List.mem_of_mem_filter hk)) 1

theorem relock_lock {viol : List Nat} {k : Nat} (hk : k ∈ List.range m) (hv : k ∉ viol) (s : State) :
    (relock p m viol s).get (F.HP_LANE_STATE_CDR_LOCK (s.rxLane p k)) = 1 := by
  have hput : ∀ (n : Nat) (t : State), (t.put (F.HP_LANE_STATE_CDR_LOCK n) 1).get (F.HP_LANE_STATE_CDR_LOCK n) = 1 :=
    fun n t => State.get_put_fit _ _ rfl (by decide : 1 < 2 ^ 1)
  rw [relock_eq]
  refine State.each_establishes (P := fun k t => State.get t (F.HP_LANE_STATE_CDR_LOCK (s.rxLane p k)) = 1) (fun b t => hput _ t)
    (fun a b t _ h => ?_) _ s (.inl (List.mem_filter.mpr ⟨hk, by simpa using hv⟩))
  by_cases hlane : s.rxLane p b = s.rxLane p a
  · rw [hlane]
    exact hput _ t
  · rw [State.get_put_sep _ _ _ _ (Fld.sep_of_addr_ne fun e => hlane (atLANE_inj e))]
    exact h

theorem rxLockFlds_block : ∀ g ∈ rxLockFlds s p m, laneBlock g.addr := fun g hg => by
  obtain ⟨k, -, rfl⟩ := List.mem_map.mp hg
  exact laneBlock_lane (s.rxLane p k) (off := 0) (by decide)

theorem rxLockFlds_ge : ∀ g ∈ rxLockFlds s p m, 0x1000000 ≤ g.addr := fun g hg => by
  obtain ⟨k, -, rfl⟩ := List.mem_map.mp hg
  exact atLANE_ge (s.rxLane p k) 0

end

/-! ### A segment that has been read (R148, R161) -/

/-- The registers of every segment: its count, and the locks. -/
abbrev segFlds (s : State) (p m : Nat) : List Fld := F.CH_SEG_COUNT_SEGS p :: rxLockFlds s p m

/-- A segment counted, with the locks that it shows. -/
def segCounted (p m : Nat) (viol : List Nat) (s : State) : State := (relock p m viol s).bump (F.CH_SEG_COUNT_SEGS p)

section
variable {p m : Nat} (viol : List Nat) (s : State)

theorem segCounted_writes : Writes (segFlds s p m) s (segCounted p m viol s) :=
  ((relock_writes viol s).mono (List.subset_cons_self ..)).put List.mem_cons_self _

theorem relock_get_port {f : Fld} (hf : ¬ laneBlock f.addr) : (relock p m viol s).get f = s.get f :=
  (relock_writes viol s).get fun g hg => Fld.sep_of_laneBlock (rxLockFlds_block g hg) hf

theorem segCounted_count : (segCounted p m viol s).get (F.CH_SEG_COUNT_SEGS p) = s.wrap (F.CH_SEG_COUNT_SEGS p) := by
  rw [segCounted, State.get_bump_same _ rfl, State.wrap, relock_get_port viol s (not_laneBlock_port p (off := 0x20) (by decide)), State.wrap]

theorem segCounted_lock {k : Nat} (hk : k ∈ List.range m) (hv : k ∉ viol) :
    (segCounted p m viol s).get (F.HP_LANE_STATE_CDR_LOCK (s.rxLane p k)) = 1 := by
  rw [segCounted, State.get_bump_sep _ _ (Fld.sep_of_port (p := p) (off := 0x20) rfl (by decide) (laneBlock_lane _ (off := 0) (by decide))),
    relock_lock hk hv]

theorem segFlds_ge : ∀ g ∈ segFlds s p m, 0x1000000 ≤ g.addr := List.forall_mem_cons.mpr ⟨atCH_ge p 0x20, rxLockFlds_ge⟩

/-- Registers of a port that stand elsewhere than its count of segments. -/
theorem segFlds_sep {f : Fld} {q off : Nat} (hf : f.addr = atCH q off) (hoff : off < 0x100) (hne : off ≠ 0x20) :
    ∀ g ∈ segFlds s p m, g.addr ≠ f.addr := by
  refine List.forall_mem_cons.mpr ⟨?_, fun g hg h => not_laneBlock_port q hoff (hf ▸ h ▸ rxLockFlds_block g hg)⟩
  rw [hf]
  exact atCH_ne p q (by omega)

theorem segCounted_addr : (segCounted p m viol s).addr = s.addr :=
  (segCounted_writes viol s).addr (segFlds_sep s (f := F.CH_ENUM_ADDR_COUNT 0) rfl (by decide) (by decide))

theorem segCounted_tileLike : (segCounted p m viol s).tileLike = s.tileLike := (segCounted_writes viol s).tileLike (segFlds_ge s)

theorem segCounted_phases : (segCounted p m viol s).phases = s.phases :=
  (segCounted_writes viol s).get fun g hg => Fld.sep_of_addr_ne (Nat.ne_of_gt (Nat.lt_of_lt_of_le (by decide) (segFlds_ge s g hg)))

theorem segCounted_tileRx : (segCounted p m viol s).tileRx = s.tileRx := (segCounted_writes viol s).same State.tileRx fun _ _ => rfl

theorem segCounted_headerGood (g : Segment) : (segCounted p m viol s).headerGood g = s.headerGood g :=
  (segCounted_writes viol s).same (State.headerGood · g) fun _ _ => rfl

end

/-! ### What becomes of a segment (R148) -/

/-- Is a segment addressed to this part? -/
def State.ownSegment (s : State) (g : Segment) : Bool := s.tileLike && s.addr != 0 && g.tile == s.addr

theorem ownSegment_iff {s : State} (ht : s.tileLike = true) (g : Segment) : s.ownSegment g = true ↔ s.addr ≠ 0 ∧ g.tile = s.addr := by
  simp [State.ownSegment, ht]

section
variable {p : Nat} {r : SegmentIn} {u : State}

theorem takeSegment_own_good (hgood : r.eop = true ∧ r.crcOk = true ∧ r.lenOk = true ∧ r.viol = [])
    (hown : (u.bump (F.CH_SEG_COUNT_SEGS p)).ownSegment r.seg = true)
    (hready : (u.bump (F.CH_SEG_COUNT_SEGS p)).tileRx.ready = true ∧ (u.bump (F.CH_SEG_COUNT_SEGS p)).tileRx.rxOk = true ∧
      (u.bump (F.CH_SEG_COUNT_SEGS p)).links.wheyStopped = false)
    (hhead : (u.bump (F.CH_SEG_COUNT_SEGS p)).headerGood r.seg = true ∧ r.seg.phase < (u.bump (F.CH_SEG_COUNT_SEGS p)).phases) :
    takeSegment p r u = acceptSegment (p == 1) r.seg (u.bump (F.CH_SEG_COUNT_SEGS p)) := by
  obtain ⟨heop, hcrc, hlen, hviol⟩ := hgood
  obtain ⟨hr, hok, hw⟩ := hready
  rw [State.ownSegment] at hown
  simp only [takeSegment, heop, hcrc, hlen, hviol, hown, hr, hok, hw, hhead, Bool.not_true, List.isEmpty_nil, Bool.or_self, Bool.false_eq_true,
    if_false, if_true, Bool.and_self, decide_true]

theorem takeSegment_own_bad (heop : r.eop = true) (hbad : r.crcOk = false ∨ r.lenOk = false) (hviol : r.viol = []) (v : State)
    (hv : chargeLocal p ((u.bump (F.CH_SEG_COUNT_SEGS p)).get (F.CH_SEG_COUNT_SEGS p)) [] (u.bump (F.CH_SEG_COUNT_SEGS p)) = v)
    (hown : v.ownSegment r.seg = true) : takeSegment p r u = v := by
  rw [State.ownSegment] at hown
  have hbad' : (!r.crcOk || !r.lenOk) = true := by rcases hbad with h | h <;> simp [h]
  simp only [takeSegment, hbad', heop, hviol, List.map_nil, hv, hown, Bool.not_true, Bool.false_eq_true, if_false, if_true, Bool.or_true,
    Bool.true_or]

/-- A segment for another tile, good or ended by one upstream. -/
theorem takeSegment_other (hkind : r.eop = false ∨ (r.crcOk = true ∧ r.lenOk = true ∧ r.viol = [])) (v : State)
    (hv : (if r.eop then u.bump (F.CH_SEG_COUNT_SEGS p) else (u.bump (F.CH_SEG_COUNT_SEGS p)).inc (F.CH_SEG_ERR_UPSTREAM p)) = v)
    (hother : v.ownSegment r.seg = false) :
    ∃ bad, (r.eop = true → bad = false) ∧ takeSegment p r u = passSegment p r bad v := by
  rw [State.ownSegment] at hother
  refine ⟨!r.crcOk || !r.lenOk || !r.viol.isEmpty, ?_, ?_⟩
  · intro heop
    obtain h | ⟨hcrc, hlen, hviol⟩ := hkind
    · exact absurd (h.symm.trans heop) Bool.false_ne_true
    · simp [hcrc, hlen, hviol]
  · have hcount : (if (!r.eop) = true then (u.bump (F.CH_SEG_COUNT_SEGS p)).inc (F.CH_SEG_ERR_UPSTREAM p)
        else if (!r.crcOk || !r.lenOk || !r.viol.isEmpty) = true then
          chargeLocal p ((u.bump (F.CH_SEG_COUNT_SEGS p)).get (F.CH_SEG_COUNT_SEGS p))
            (r.viol.map fun k => (u.bump (F.CH_SEG_COUNT_SEGS p)).get (calMapRx p k)) (u.bump (F.CH_SEG_COUNT_SEGS p))
        else u.bump (F.CH_SEG_COUNT_SEGS p)) = v := by
      rw [← hv]
      obtain h | ⟨hcrc, hlen, hviol⟩ := hkind
      · simp [h]
      · cases r.eop <;> simp [hcrc, hlen, hviol]
    simp only [takeSegment, hcount, hother, Bool.false_eq_true, if_false]

theorem onwardSyms_of_clean {l : List Nat} (h : symViolation ∉ l) (s : State) : onwardSyms l s = (l, s) := by
  induction l with
  | nil => rfl
  | cons a l ih =>
    obtain ⟨ha, hl⟩ := not_or.mp (mt List.mem_cons.mpr h)
    rw [onwardSyms, if_neg (Ne.symm ha), ih hl]

/-- What goes on of a segment for another tile. -/
theorem passSegment_eq {bad : Bool} {v : State} (ht : v.tileLike = true) (hbad : r.eop = true → bad = false) (hclean : symViolation ∉ r.syms) :
    passSegment p r bad v = v.withOut (v.out ++ if v.linked (1 - p) then [.relay (1 - p) (r.syms.dropLast ++ [if r.eop then symEop else symEdb])] else []) := by
  have hend : (bad || !r.eop) = !r.eop := by
    cases h : r.eop
    · simp
    · simp [hbad h]
  have hlast : symViolation ∉ r.syms.dropLast := fun h => hclean (List.mem_of_mem_dropLast h)
  rw [passSegment, ht, onwardSyms_of_clean hlast, hend]
  cases v.linked (1 - p)
  · rw [Bool.not_false, Bool.or_true, if_pos rfl, if_neg Bool.false_ne_true, List.append_nil, State.withOut_self]
  · cases r.eop
    · rfl
    · rfl

end

/-! ### An own segment taken (R149, R395) -/

section
variable (dirB : Bool) (g : Segment) (s : State)

theorem acceptSegment_cover :
    Tab.get (fun _ => []) (if dirB then (acceptSegment dirB g s).tileRx.coverB else (acceptSegment dirB g s).tileRx.coverA) (g.phase * 65536 + g.row) =
      spanIns g.col g.words.length
        (Tab.get (fun _ => []) (if dirB then s.tileRx.coverB else s.tileRx.coverA) (g.phase * 65536 + g.row)) := by
  cases dirB <;> cases h : s.tileRx.dirB <;> simp [acceptSegment, h]

theorem acceptSegment_cur (hdir : dirB = s.tileRx.dirB) :
    Tab.get (fun _ => []) (acceptSegment dirB g s).tileRx.cur (g.phase * 65536 + g.row) =
      rowPut (Tab.get (fun _ => []) s.tileRx.cur (g.phase * 65536 + g.row)) s.tile.w g.col
        (g.words.map fun w => g.code * 2 ^ 36 + w % 2 ^ 36) := by
  cases dirB <;> simp [acceptSegment, ← hdir]

end

/-! ### SEGMENT_RX (R148, R149, R161) -/

section
variable {s : State} {p m : Nat} {r : SegmentIn}

theorem exec_segmentRx_of_read {cols : List (List Nat)} {r0 r1 r2 r3 : Bool} (ha : s.acts) (hport : s.hasPort p = true) (hl : s.linked p = true)
    (hread : readSegment (s.get (F.CH_LINK_STATUS_RX_LANES p)) [r0, r1, r2, r3] (s.rxCols p cols) = some r)
    (hskp : skpSets (s.get (F.CH_LINK_STATUS_RX_LANES p)) [r0, r1, r2, r3] (s.rxCols p cols) = 0) :
    exec (.segmentRx p cols r0 r1 r2 r3) s =
      .next (settle (takeSegment p r (relock p (s.get (F.CH_LINK_STATUS_RX_LANES p)) r.viol s.fresh))) := by
  have hlink : s.fresh.linked p = true := hl
  have hop : opSegmentRx p [r0, r1, r2, r3] cols s.fresh = takeSegment p r (relock p (s.get (F.CH_LINK_STATUS_RX_LANES p)) r.viol s.fresh) := by
    rw [opSegmentRx, hlink, State.fresh_v_rxCols, State.fresh_get]
    simp only [hskp, hread, passSkp, Bool.not_true, Bool.false_eq_true, if_false, if_true]
  rw [exec_segmentRx, execSegmentRx, run_onPort ha hport, hop]

theorem segCounted_own (viol : List Nat) (s : State) (g : Segment) : (segCounted p m viol s).ownSegment g = s.ownSegment g := by
  rw [State.ownSegment, segCounted_tileLike, segCounted_addr, State.ownSegment]

/-- A segment counted and taken into its row. -/
theorem segTaken_writes (d : Bool) (g : Segment) (viol : List Nat) (s : State) :
    Writes (segFlds s p m) (acceptSegment d g s) (acceptSegment d g (segCounted p m viol s)) :=
  (segCounted_writes viol s).map (acceptSegment d g) fun _ _ => rfl

theorem segTaken_tileRx (d : Bool) (g : Segment) (viol : List Nat) (s : State) :
    (acceptSegment d g (segCounted p m viol s)).tileRx = (acceptSegment d g s).tileRx := (segTaken_writes d g viol s).same State.tileRx fun _ _ => rfl

theorem segTaken_get (d : Bool) (g : Segment) (s : State) (f : Fld) : (acceptSegment d g s).get f = s.get f := rfl

theorem takeSegment_relock_own (hgood : r.eop = true ∧ r.crcOk = true ∧ r.lenOk = true ∧ r.viol = []) (hown : s.ownSegment r.seg = true)
    (hready : s.tileRx.ready = true ∧ s.tileRx.rxOk = true ∧ s.links.wheyStopped = false)
    (hhead : s.headerGood r.seg = true ∧ r.seg.phase < s.phases) :
    takeSegment p r (relock p m r.viol s) = acceptSegment (p == 1) r.seg (segCounted p m r.viol s) := by
  refine takeSegment_own_good hgood ((segCounted_own r.viol s r.seg).trans hown) ?_ ?_
  · rw [← segCounted, segCounted_tileRx, (segCounted_writes r.viol s).same State.links fun _ _ => rfl]
    exact hready
  · rw [← segCounted, segCounted_headerGood, segCounted_phases]
    exact hhead

theorem segTaken_frame (d : Bool) (g : Segment) (viol : List Nat) (s : State) :
    let t := settle (acceptSegment d g (segCounted p m viol s.fresh))
    Frame (segFlds s p m) s { s with tileRx := t.tileRx } t := by
  refine (segTaken_writes d g viol s.fresh).frame rfl ?_
  rw [settle_tileRx, segTaken_tileRx]
  rfl

/-! ### A segment for another tile (R148) -/

/-- A segment counted; one that a tile upstream has found bad is counted so. -/
def segUpstream (p m : Nat) (r : SegmentIn) (s : State) : State :=
  if r.eop then segCounted p m r.viol s else (segCounted p m r.viol s).inc (F.CH_SEG_ERR_UPSTREAM p)

abbrev upstreamFlds (s : State) (p m : Nat) : List Fld := [F.CH_SEG_COUNT_SEGS p, F.CH_SEG_ERR_UPSTREAM p] ++ rxLockFlds s p m

theorem upstream_writes (p m : Nat) (r : SegmentIn) (s : State) : Writes [F.CH_SEG_ERR_UPSTREAM p] (segCounted p m r.viol s) (segUpstream p m r s) := by
  unfold segUpstream
  split
  · exact .refl _ _
  · exact inc_writes _ _

theorem segUpstream_writes (p m : Nat) (r : SegmentIn) (s : State) : Writes (upstreamFlds s p m) s (segUpstream p m r s) :=
  ((segCounted_writes r.viol s).mono (by simp)).trans ((upstream_writes p m r s).mono (by simp))

theorem upstreamFlds_ge : ∀ g ∈ upstreamFlds s p m, 0x1000000 ≤ g.addr :=
  List.forall_mem_cons.mpr ⟨atCH_ge p 0x20, List.forall_mem_cons.mpr ⟨atCH_ge p 0x24, rxLockFlds_ge⟩⟩

theorem upstreamFlds_sep {f : Fld} {q off : Nat} (hf : f.addr = atCH q off) (hoff : off < 0x100) (h0 : off ≠ 0x20) (h4 : off ≠ 0x24) :
    ∀ g ∈ upstreamFlds s p m, g.addr ≠ f.addr := by
  refine List.forall_mem_cons.mpr ⟨?_, List.forall_mem_cons.mpr ⟨?_, fun g hg => segFlds_sep s hf hoff h0 g (List.mem_cons_of_mem _ hg)⟩⟩
  · rw [hf]
    exact atCH_ne p q (by omega)
  · rw [hf]
    exact atCH_ne p q (by omega)

theorem segUpstream_count : (segUpstream p m r s).get (F.CH_SEG_COUNT_SEGS p) = s.wrap (F.CH_SEG_COUNT_SEGS p) := by
  rw [(upstream_writes p m r s).get_of_addr (f := F.CH_SEG_COUNT_SEGS p) (List.forall_mem_singleton.mpr (atCH_ne p p (by decide))), segCounted_count]

theorem segUpstream_errors : (segUpstream p m r s).get (F.CH_SEG_ERR_UPSTREAM p) =
    if r.eop then s.get (F.CH_SEG_ERR_UPSTREAM p) else s.more (F.CH_SEG_ERR_UPSTREAM p) := by
  have hget : (segCounted p m r.viol s).get (F.CH_SEG_ERR_UPSTREAM p) = s.get (F.CH_SEG_ERR_UPSTREAM p) :=
    (segCounted_writes r.viol s).get_of_addr (segFlds_sep s (q := p) (off := 0x24) rfl (by decide) (by decide))
  unfold segUpstream
  split
  · exact hget
  · rw [State.get_inc_same _ rfl, State.more, hget, State.more]

theorem segUpstream_lock {k : Nat} (hk : k ∈ List.range m) (hv : k ∉ r.viol) :
    (segUpstream p m r s).get (F.HP_LANE_STATE_CDR_LOCK (s.rxLane p k)) = 1 := by
  rw [(upstream_writes p m r s).get (List.forall_mem_singleton.mpr
    (Fld.sep_of_port (p := p) (off := 0x24) rfl (by decide) (laneBlock_lane _ (off := 0) (by decide)))), segCounted_lock _ _ hk hv]

/-- What a segment for another tile leaves. -/
theorem takeSegment_relock_other (ht : s.tileLike = true) (hother : s.ownSegment r.seg = false)
    (hkind : r.eop = false ∨ (r.crcOk = true ∧ r.lenOk = true ∧ r.viol = [])) (hclean : symViolation ∉ r.syms) :
    takeSegment p r (relock p m r.viol s) = (segUpstream p m r s).withOut
      (s.out ++ if s.linked (1 - p) then [.relay (1 - p) (r.syms.dropLast ++ [if r.eop then symEop else symEdb])] else []) := by
  have hw := segUpstream_writes p m r s
  have hlike : (segUpstream p m r s).tileLike = true := (hw.tileLike upstreamFlds_ge).trans ht
  have hown : (segUpstream p m r s).ownSegment r.seg = false := by
    rw [State.ownSegment, hw.tileLike upstreamFlds_ge, hw.addr (upstreamFlds_sep (f := F.CH_ENUM_ADDR_COUNT 0) rfl (by decide) (by decide) (by decide))]
    exact hother
  obtain ⟨bad, hbad, htake⟩ := takeSegment_other (u := relock p m r.viol s) hkind (segUpstream p m r s) rfl hown
  rw [htake, passSegment_eq hlike hbad hclean, hw.same State.out fun _ _ => rfl,
    hw.linked (1 - p) (upstreamFlds_sep (f := F.CH_TRAIN_STATE_STATE (1 - p)) rfl (by decide) (by decide) (by decide))]

theorem segPassed_settled (p m : Nat) (r : SegmentIn) (o : List Out) (s : State) :
    let t := settle ((segUpstream p m r s.fresh).withOut o)
    Sent o t ∧ Frame (upstreamFlds s p m) s s t := by
  have hw : Writes (upstreamFlds s p m) (s.fresh.withOut o) ((segUpstream p m r s.fresh).withOut o) :=
    (segUpstream_writes p m r s.fresh).map (State.withOut o) fun _ _ => rfl
  exact ⟨hw.sent, hw.frame rfl ((State.withOut_kept s.fresh o).trans State.fresh_kept)⟩

/-! ### A local error (R161) -/

/-- The records of a segment in error that no lane is charged with. -/
def segFaulted (p ix : Nat) (s : State) : State :=
  { s with tileRx := { s.tileRx with segErrs := min (s.tileRx.segErrs + 1) 0xFFFF } }.setPort p fun x => { x with portErr := (ix :: x.portErr).take 17 }

theorem chargeLocal_eq {s : State} (ht : s.tileLike = true) (ix : Nat) :
    chargeLocal p ix [] s = segFaulted p ix (s.inc (F.CH_SEG_ERR_LOCAL p)) := by
  have hlike : (s.inc (F.CH_SEG_ERR_LOCAL p)).tileLike = true :=
    ((inc_writes s _).tileLike (List.forall_mem_singleton.mpr (atCH_ge p 0x24))).trans ht
  rw [chargeLocal, hlike, if_pos rfl, List.isEmpty_nil, if_pos rfl, segFaulted]

abbrev localFlds (s : State) (p m : Nat) : List Fld := [F.CH_SEG_COUNT_SEGS p, F.CH_SEG_ERR_LOCAL p] ++ rxLockFlds s p m

theorem segLocal_writes (p m ix : Nat) (viol : List Nat) (s : State) : Writes (localFlds s p m) (segFaulted p ix s)
    (segFaulted p ix ((segCounted p m viol s).inc (F.CH_SEG_ERR_LOCAL p))) :=
  (((segCounted_writes viol s).mono (by simp)).inc (by simp)).map (segFaulted p ix) fun _ _ => rfl

theorem segFaulted_own (ix : Nat) (s : State) (g : Segment) : (segFaulted p ix s).ownSegment g = s.ownSegment g := rfl

theorem segFaulted_get (ix : Nat) (s : State) (f : Fld) : (segFaulted p ix s).get f = s.get f := rfl

theorem segFaulted_portErr (ix : Nat) (s : State) : ((segFaulted p ix s).port p).portErr = (ix :: (s.port p).portErr).take 17 := by
  rw [segFaulted, State.port_setPort_same]
  rfl

theorem segFaulted_kept (ix : Nat) (s : State) : (segFaulted p ix s.fresh).kept =
    { s with tileRx := { s.tileRx with segErrs := min (s.tileRx.segErrs + 1) 0xFFFF }, ports := (segFaulted p ix s.fresh).ports }.kept := rfl

theorem segLocal_settled (p m ix : Nat) (viol : List Nat) (s : State) :
    let t := settle (segFaulted p ix ((segCounted p m viol s.fresh).inc (F.CH_SEG_ERR_LOCAL p)))
    t.get (F.CH_SEG_ERR_LOCAL p) = s.more (F.CH_SEG_ERR_LOCAL p) ∧ (t.port p).portErr = (ix :: (s.port p).portErr).take 17 ∧ Sent [] t ∧
      Frame (localFlds s p m) s
        { s with tileRx := { s.tileRx with segErrs := min (s.tileRx.segErrs + 1) 0xFFFF }, ports := t.ports } t := by
  have hw : Writes (localFlds s p m) (segFaulted p ix s.fresh) _ := segLocal_writes p m ix viol s.fresh
  have hcount : (segCounted p m viol s.fresh).get (F.CH_SEG_ERR_LOCAL p) = s.get (F.CH_SEG_ERR_LOCAL p) :=
    (segCounted_writes viol s.fresh).get_of_addr (segFlds_sep s.fresh (q := p) (off := 0x24) rfl (by decide) (by decide))
  refine ⟨?_, ?_, hw.sent, hw.frame rfl ?_⟩
  · rw [settle_get, segFaulted_get, State.get_inc_same _ rfl, State.more, hcount, State.more]
  · rw [settle_port, hw.port, segFaulted_portErr]
    rfl
  · rw [settle_ports, hw.same State.ports fun _ _ => rfl]
    exact segFaulted_kept ix s

theorem segLocal_lock {viol : List Nat} {k : Nat} (hk : k ∈ List.range m) (hv : k ∉ viol) (ix : Nat) (s : State) :
    (settle (segFaulted p ix ((segCounted p m viol s).inc (F.CH_SEG_ERR_LOCAL p)))).get (F.HP_LANE_STATE_CDR_LOCK (s.rxLane p k)) = 1 := by
  rw [settle_get, segFaulted_get, State.get_inc_sep _ _ (Fld.sep_of_port (p := p) (off := 0x24) rfl (by decide)
    (laneBlock_lane _ (off := 0) (by decide))), segCounted_lock _ _ hk hv]

theorem takeSegment_relock_bad (ht : s.tileLike = true) (hown : s.ownSegment r.seg = true) (heop : r.eop = true) (hviol : r.viol = [])
    (hbad : r.crcOk = false ∨ r.lenOk = false) : takeSegment p r (relock p m r.viol s) =
      segFaulted p (s.wrap (F.CH_SEG_COUNT_SEGS p)) ((segCounted p m r.viol s).inc (F.CH_SEG_ERR_LOCAL p)) := by
  have hlike : (segCounted p m r.viol s).tileLike = true := (segCounted_tileLike r.viol s).trans ht
  refine takeSegment_own_bad heop hbad hviol _ ?_ ?_
  · rw [← segCounted, segCounted_count, chargeLocal_eq hlike]
  · have hinc := inc_writes (segCounted p m r.viol s) (F.CH_SEG_ERR_LOCAL p)
    rw [segFaulted_own, State.ownSegment, hinc.tileLike (List.forall_mem_singleton.mpr (atCH_ge p 0x24)),
      hinc.addr (List.forall_mem_singleton.mpr (atCH_ne p 0 (by decide)))]
    exact (segCounted_own r.viol s r.seg).trans hown

end

end Sys2Proof.Machine
end

section
/-!
PROOFS. Chapters 05 and 14: the end of a reception (R149, R397, R398).
-/

namespace Sys2Proof.Machine

open Sys2Proof

/-! ### A field put to what it holds -/

theorem Fld.into_of (f : Fld) (w : Word) : f.into w (f.of w) = w := by
  refine BitVec.eq_of_getLsbD_eq fun i hi => ?_
  rw [Fld.into_bit]
  split
  · next h =>
    have hlow : f.lo + (i - f.lo) = i := by omega
    have hwidth : i - f.lo < f.width := by
      unfold Fld.width
      omega
    rw [Fld.of_bit, hlow, decide_eq_true hwidth, Bool.true_and]
  · rfl

theorem State.get_addSat_zero (s : State) (f g : Fld) : (s.addSat f 0).get g = s.get g := by
  have hmin : min (s.get f + 0) (2 ^ f.width - 1) = s.get f := by
    have := State.get_lt s f
    omega
  rw [State.addSat, hmin, State.put, State.get, State.rd_wr, State.get, State.get, Fld.into_of]
  split
  · next h => rw [h]
  · rfl

/-! ### The end of a reception in its parts (R149, R397, R398) -/

/-- A reception that no longer runs. -/
def TileRx.closed (r : TileRx) : TileRx := { r with rx := false, turn := true, coverA := [], coverB := [], cur := [] }

/-- What was received, with the repeated rows, becomes the last frame. -/
def receptionKept (whole : Bool) (s : State) : State :=
  { s with tileRx := TileRx.closed { s.tileRx with
      haveLast := true, last := s.tileRx.cur, lastF := s.tileRx.fnum, wholeRepeat := whole, pcrc := (List.range s.phases).map s.phaseCrc } }

/-- Both port blocks show the rows repeated. -/
def repeatsShown (n : Nat) (s : State) : State :=
  s.each [0, 1] fun p s => (s.put (F.CH_LINE_REPEAT_LAST p) (min n 0xFFFF)).addSat (F.CH_LINE_REPEAT_TOTAL p) n

/-- The counts of loss and of reverting at the end of a reception, which missed `miss` rows. -/
def runsCounted (miss : List (Nat × Nat)) (s : State) : State :=
  lossRun (decide (miss.length < s.phases * s.tile.h) && s.tileRx.rxOk) (revertCount s)

abbrev lossFlds : List Fld := [F.CH_FO_TILE_RUN 0, F.CH_FO_TILE_LOSS 0, F.CH_FO_TILE_EV_LOSS_EV 0] ++ pendFlds

section
variable (s : State)

/-- `t` is `s` but for registers and the record of failover. -/
def RunWork (s t : State) : Prop := ∃ r fo, t = { s with regs := r, fo := fo }

theorem revertCount_runWork : RunWork s (revertCount s) := ⟨s.regs, _, rfl⟩

theorem RunWork.trans {s t u : State} (h : RunWork s t) (k : RunWork t u) : RunWork s u := by
  obtain ⟨_, _, rfl⟩ := h
  obtain ⟨_, _, rfl⟩ := k
  exact ⟨_, _, rfl⟩

theorem raise_runWork (f : Fld) (c : Nat) : RunWork s (s.raise f c) := by
  unfold State.raise State.cause
  split
  · exact ⟨s.regs, s.fo, rfl⟩
  · split
    · exact ⟨_, s.fo, rfl⟩
    · exact ⟨_, s.fo, rfl⟩

theorem lossRun_runWork (any : Bool) : RunWork s (lossRun any s) := by
  unfold lossRun
  split
  · exact ⟨_, _, rfl⟩
  · dsimp only
    split
    · exact ⟨_, s.fo, rfl⟩
    · have hraise := raise_runWork ((s.inc (F.CH_FO_TILE_RUN 0)).put (F.CH_FO_TILE_LOSS 0) 1) (F.CH_FO_TILE_EV_LOSS_EV 0) 30
      have hput : RunWork s ((s.inc (F.CH_FO_TILE_RUN 0)).put (F.CH_FO_TILE_LOSS 0) 1) := ⟨_, s.fo, rfl⟩
      exact (hput.trans hraise).trans ⟨_, _, rfl⟩

theorem lossRun_keeps (any : Bool) : Keeps lossFlds s (lossRun any s) := by
  unfold lossRun
  split
  · exact ((Keeps.refl lossFlds s).put _ 0 (by simp)).put _ 0 (by simp)
  · dsimp only
    have hrun : Keeps lossFlds s (s.inc (F.CH_FO_TILE_RUN 0)) := (Keeps.refl lossFlds s).put _ _ (by simp)
    split
    · exact hrun
    · exact ((hrun.put (F.CH_FO_TILE_LOSS 0) 1 (by simp)).raise (F.CH_FO_TILE_EV_LOSS_EV 0) 30 (by simp) (by simp) (by simp)).of_regs rfl

theorem runsCounted_runWork (miss : List (Nat × Nat)) : RunWork s (runsCounted miss s) :=
  (revertCount_runWork s).trans (lossRun_runWork _ _)

theorem runsCounted_keeps (miss : List (Nat × Nat)) : Keeps lossFlds s (runsCounted miss s) := fun f hf => lossRun_keeps (revertCount s) _ f hf

end

theorem RunWork.tileRx {s t : State} (h : RunWork s t) : t.tileRx = s.tileRx := by
  obtain ⟨_, _, rfl⟩ := h
  rfl

theorem RunWork.out {s t : State} (h : RunWork s t) : t.out = s.out := by
  obtain ⟨_, _, rfl⟩ := h
  rfl

/-- The end of a reception that leaves a last frame: there was one, or every row was covered. -/
theorem receptionEnd_of_kept {s : State} (ht : s.isTile = true) (hrx : s.tileRx.rx = true)
    (hkeep : s.tileRx.haveLast = true ∨ (s.uncovered s.tileRx.dirB = [] ∧ s.tileRx.rxOk = true)) (ue ueWords : List (Nat × Nat × Nat)) :
    receptionEnd ue ueWords s = receptionKept ((s.uncovered s.tileRx.dirB).length == s.phases * s.tile.h)
      (repeatsShown (s.uncovered s.tileRx.dirB).length
        ((runsCounted (s.uncovered s.tileRx.dirB) s).each (s.uncovered s.tileRx.dirB) (repeatRow ue ueWords))) := by
  have hrun := (runsCounted_runWork s (s.uncovered s.tileRx.dirB)).tileRx
  have hstay : (!(runsCounted (s.uncovered s.tileRx.dirB) s).tileRx.haveLast &&
      !((s.uncovered s.tileRx.dirB).isEmpty && (runsCounted (s.uncovered s.tileRx.dirB) s).tileRx.rxOk)) = false := by
    rw [hrun]
    obtain h | ⟨h, hok⟩ := hkeep
    · rw [h, Bool.not_true, Bool.false_and]
    · rw [h, hok, List.isEmpty_nil, Bool.and_self, Bool.not_true, Bool.and_false]
  rw [runsCounted] at hstay
  simp only [receptionEnd, ht, hrx, hstay, Bool.not_true, Bool.or_self, Bool.false_eq_true, if_false]
  rfl

theorem opReceptionEnd_of_due {s : State} (h : max s.tileRx.ovlK 1 ≤ ahead (s.raster.fnum + 1) s.tileRx.fnum) (ue ueWords : List (Nat × Nat × Nat)) :
    opReceptionEnd ue ueWords s = receptionEnd ue ueWords s := by
  rw [opReceptionEnd, decide_eq_false (by omega), Bool.and_false, if_neg Bool.false_ne_true]

/-! ### Rows repeated (R149, R323) -/

abbrev repeatFlds : List Fld :=
  [F.CH_LINE_REPEAT_LAST 0, F.CH_LINE_REPEAT_TOTAL 0, F.CH_LINE_REPEAT_LAST 1, F.CH_LINE_REPEAT_TOTAL 1]

/-- One port block shows the rows repeated. -/
def repeatShown (n p : Nat) (s : State) : State := (s.put (F.CH_LINE_REPEAT_LAST p) (min n 0xFFFF)).addSat (F.CH_LINE_REPEAT_TOTAL p) n

theorem repeatsShown_eq (n : Nat) (s : State) : repeatsShown n s = repeatShown n 1 (repeatShown n 0 s) := rfl

section
variable (n p : Nat) (s : State)

theorem repeatShown_writes : Writes [F.CH_LINE_REPEAT_LAST p, F.CH_LINE_REPEAT_TOTAL p] s (repeatShown n p s) :=
  ((Writes.refl _ s).put (by simp) _).put (by simp) _

theorem repeatsShown_writes : Writes repeatFlds s (repeatsShown n s) :=
  ((repeatShown_writes n 0 s).mono (by simp)).trans ((repeatShown_writes n 1 _).mono (by simp))

theorem repeatShown_last : (repeatShown n p s).get (F.CH_LINE_REPEAT_LAST p) = min n 0xFFFF := by
  rw [repeatShown, State.get_addSat_sep _ _ _ (Fld.sep_of_bits rfl)]
  exact State.get_put_fit _ _ rfl (lt_of_le_of_lt (min_le_right _ _) (by decide : 0xFFFF < 2 ^ 16))

theorem repeatShown_total : (repeatShown n p s).get (F.CH_LINE_REPEAT_TOTAL p) =
    min (s.get (F.CH_LINE_REPEAT_TOTAL p) + n) (2 ^ (F.CH_LINE_REPEAT_TOTAL p).width - 1) := by
  rw [repeatShown, State.addSat, State.get_put_sep s (F.CH_LINE_REPEAT_LAST p) (F.CH_LINE_REPEAT_TOTAL p) _ (Fld.sep_of_bits rfl)]
  exact State.get_put_fit _ _ rfl (lt_of_le_of_lt (min_le_right _ _) (by decide : 2 ^ 16 - 1 < 2 ^ 16))

theorem repeatsShown_first {f : Fld} (hf : f.addr = atCH 0 0x28) : (repeatsShown n s).get f = (repeatShown n 0 s).get f := by
  have hne : atCH 1 0x28 ≠ f.addr := by
    rw [hf]
    decide
  exact (repeatShown_writes n 1 _).get_of_addr (List.forall_mem_cons.mpr ⟨hne, List.forall_mem_singleton.mpr hne⟩)

/-- A row whose reads all succeed. -/
theorem repeatRow_clean (e : Nat × Nat) (s : State) : ∃ x, repeatRow [] [] e s =
    { s with tp := x, tileRx := { s.tileRx with
        cur := Tab.set (fun _ => []) (e.1 * 65536 + e.2) (Tab.get (fun _ => []) s.tileRx.last (e.1 * 65536 + e.2)) s.tileRx.cur } } := by
  have hwords : ∀ l : List Nat, ((List.range l.length).map fun i => if List.contains [] i then 0 else l.getD i 0) = l := fun l => by
    refine List.ext_getElem (by simp) fun i h1 h2 => ?_
    simp [h2]
  refine ⟨(repeatCorr e.1 e.2 [] s).tp, ?_⟩
  simp only [repeatRow, uesOf, List.filter_nil, List.map_nil, pathUe, List.length_nil, Nat.add_zero, if_true]
  have hlast : (repeatCorr e.1 e.2 [] s).tileRx = s.tileRx := rfl
  rw [hlast, hwords]
  rfl

/-- What repeated rows change. -/
theorem repeatRows_records (L : List (Nat × Nat)) (s : State) : ∃ x c, s.each L (repeatRow [] []) = { s with tp := x, tileRx := { s.tileRx with cur := c } } := by
  refine State.each_keeps (fun t => ∃ x c, t = { s with tp := x, tileRx := { s.tileRx with cur := c } }) _ (fun e t h => ?_) L s
    ⟨s.tp, s.tileRx.cur, rfl⟩
  obtain ⟨_, _, rfl⟩ := h
  obtain ⟨_, h⟩ := repeatRow_clean e _
  exact ⟨_, _, h⟩

/-- A row of the picture is that of the last frame. -/
def RowRepeated (e : Nat × Nat) (t : State) : Prop :=
  Tab.get (fun _ => []) t.tileRx.cur (e.1 * 65536 + e.2) = Tab.get (fun _ => []) t.tileRx.last (e.1 * 65536 + e.2)

theorem repeatRows_repeated {L : List (Nat × Nat)} {e : Nat × Nat} (he : e ∈ L) (s : State) : RowRepeated e (s.each L (repeatRow [] [])) := by
  refine State.each_establishes (P := RowRepeated) (fun b t => ?_) (fun a b t _ h => ?_) L s (.inl he)
  · obtain ⟨_, hrow⟩ := repeatRow_clean b t
    rw [RowRepeated, hrow]
    exact Tab.get_set_same _ _ _ _
  · obtain ⟨_, hrow⟩ := repeatRow_clean b t
    rw [RowRepeated, hrow]
    refine (Tab.get_set _ _ _ _ _).trans ?_
    split
    · next hkey => rw [hkey]
    · exact h

end

/-! ### FRAME_RECEPTION_END (R149, R398) -/

section
variable {s : State}

theorem exec_frameReceptionEnd_of_kept (ha : s.acts) (ht : s.isTile = true) (hrx : s.tileRx.rx = true)
    (hdue : max s.tileRx.ovlK 1 ≤ ahead (s.raster.fnum + 1) s.tileRx.fnum)
    (hkeep : s.tileRx.haveLast = true ∨ (s.uncovered s.tileRx.dirB = [] ∧ s.tileRx.rxOk = true)) :
    exec (.frameReceptionEnd [] []) s = .next (settle (receptionKept ((s.uncovered s.tileRx.dirB).length == s.phases * s.tile.h)
      (repeatsShown (s.uncovered s.tileRx.dirB).length
        ((runsCounted (s.uncovered s.tileRx.dirB) s.fresh).each (s.uncovered s.tileRx.dirB) (repeatRow [] []))))) := by
  rw [exec_frameReceptionEnd, execFrameReceptionEnd, run_acts _ ha, opReceptionEnd_of_due (s := s.fresh) hdue,
    receptionEnd_of_kept (s := s.fresh) ht hrx hkeep]
  rfl

theorem receptionKept_get (whole : Bool) (s : State) (f : Fld) : (receptionKept whole s).get f = s.get f := rfl

/-! A reception that covered every row. -/

/-- A frame received whole ends a run of losses. -/
theorem lossRun_any (s : State) : ∃ fo, lossRun true s = { (s.put (F.CH_FO_TILE_RUN 0) 0).put (F.CH_FO_TILE_LOSS 0) 0 with fo := fo } := ⟨_, rfl⟩

theorem runsCounted_whole {s : State} (hok : s.tileRx.rxOk = true) (hrows : 0 < s.phases * s.tile.h) :
    ∃ fo, runsCounted [] s = { (s.put (F.CH_FO_TILE_RUN 0) 0).put (F.CH_FO_TILE_LOSS 0) 0 with fo := fo } := by
  rw [runsCounted, List.length_nil, decide_eq_true hrows, hok, Bool.and_self]
  exact lossRun_any _

/-- No row repeated: the counts of repeated rows stay. -/
theorem repeatsShown_zero_get (s : State) {f : Fld} (h0 : (F.CH_LINE_REPEAT_LAST 0).sep f = true) (h1 : (F.CH_LINE_REPEAT_LAST 1).sep f = true) :
    (repeatsShown 0 s).get f = s.get f := by
  rw [repeatsShown_eq, repeatShown, State.get_addSat_zero, State.get_put_sep _ _ _ _ h1, repeatShown, State.get_addSat_zero,
    State.get_put_sep _ _ _ _ h0]

theorem repeatsShown_last (n : Nat) (s : State) : (repeatsShown n s).get (F.CH_LINE_REPEAT_LAST 1) = min n 0xFFFF := by
  rw [repeatsShown_eq, repeatShown_last]

/-- What the end of a frame received whole leaves of the registers. -/
theorem wholeFrame_regs (hok : s.tileRx.rxOk = true) (hrows : 0 < s.phases * s.tile.h) :
    let t := repeatsShown 0 (runsCounted [] s)
    t.get (F.CH_LINE_REPEAT_LAST 0) = 0 ∧ t.get (F.CH_LINE_REPEAT_LAST 1) = 0 ∧ t.get (F.CH_FO_TILE_RUN 0) = 0 ∧ t.get (F.CH_FO_TILE_LOSS 0) = 0 ∧
      Keeps [F.CH_LINE_REPEAT_LAST 0, F.CH_LINE_REPEAT_LAST 1, F.CH_FO_TILE_RUN 0, F.CH_FO_TILE_LOSS 0] s t := by
  obtain ⟨_, hrun⟩ := runsCounted_whole hok hrows
  have hget : ∀ f : Fld, (runsCounted [] s).get f = ((s.put (F.CH_FO_TILE_RUN 0) 0).put (F.CH_FO_TILE_LOSS 0) 0).get f := fun f => by
    rw [hrun]
    rfl
  refine ⟨?_, ?_, ?_, ?_, fun f hf => ?_⟩
  · rw [repeatsShown_first 0 _ (f := F.CH_LINE_REPEAT_LAST 0) rfl, repeatShown_last]
    rfl
  · rw [repeatsShown_last]
    rfl
  · rw [repeatsShown_zero_get _ (by decide) (by decide), hget, State.get_put_sep _ _ _ _ (Fld.sep_of_bits rfl)]
    exact State.get_put_same _ _ _ rfl
  · rw [repeatsShown_zero_get _ (by decide) (by decide), hget]
    exact State.get_put_same _ _ _ rfl
  · simp only [List.forall_mem_cons] at hf
    obtain ⟨hl0, hl1, hrunSep, hlossSep, -⟩ := hf
    rw [repeatsShown_zero_get _ hl0 hl1, hget, State.get_put_sep _ _ _ _ hlossSep, State.get_put_sep _ _ _ _ hrunSep]

theorem Writes.runWork {l : List Fld} {s t : State} (h : Writes l s t) : RunWork s t := by
  obtain ⟨⟨r, rfl⟩, -⟩ := h
  exact ⟨r, s.fo, rfl⟩

/-- The records at the end of a frame received whole. -/
theorem receptionKept_records {s x : State} (h : RunWork s.fresh x) (whole : Bool) :
    let t := settle (receptionKept whole x)
    t.tileRx.haveLast = true ∧ t.tileRx.lastF = s.tileRx.fnum ∧ t.tileRx.last = s.tileRx.cur ∧ t.tileRx.rx = false ∧ t.tileRx.wholeRepeat = whole ∧
      Sent [] t ∧ t.kept = { s with tileRx := t.tileRx, fo := t.fo }.kept := by
  obtain ⟨_, _, rfl⟩ := h
  exact ⟨rfl, rfl, rfl, rfl, rfl, rfl, rfl⟩

/-- A reception that covered every row (R149). -/
theorem reception_whole (ha : s.acts) (ht : s.isTile = true) (hrx : s.tileRx.rx = true ∧ s.tileRx.rxOk = true)
    (hdue : max s.tileRx.ovlK 1 ≤ ahead (s.raster.fnum + 1) s.tileRx.fnum) (hmiss : s.uncovered s.tileRx.dirB = [])
    (hrows : 0 < s.phases * s.tile.h) :
    ∃ t, exec (.frameReceptionEnd [] []) s = .next t ∧ t.tileRx.haveLast = true ∧ t.tileRx.lastF = s.tileRx.fnum ∧ t.tileRx.last = s.tileRx.cur ∧
      t.tileRx.rx = false ∧ t.tileRx.wholeRepeat = false ∧ t.get (F.CH_LINE_REPEAT_LAST 0) = 0 ∧ t.get (F.CH_LINE_REPEAT_LAST 1) = 0 ∧
      t.get (F.CH_FO_TILE_RUN 0) = 0 ∧ t.get (F.CH_FO_TILE_LOSS 0) = 0 ∧ Sent [] t ∧
      Frame [F.CH_LINE_REPEAT_LAST 0, F.CH_LINE_REPEAT_LAST 1, F.CH_FO_TILE_RUN 0, F.CH_FO_TILE_LOSS 0] s
        { s with tileRx := t.tileRx, fo := t.fo } t := by
  have hexec := exec_frameReceptionEnd_of_kept ha ht hrx.1 hdue (.inr ⟨hmiss, hrx.2⟩)
  rw [hmiss] at hexec
  have hwork : RunWork s.fresh (repeatsShown 0 (runsCounted [] s.fresh)) :=
    (runsCounted_runWork s.fresh []).trans (repeatsShown_writes 0 _).runWork
  obtain ⟨hl0, hl1, hrun, hloss, hkeeps⟩ := wholeFrame_regs (s := s.fresh) hrx.2 hrows
  obtain ⟨hhave, hlastF, hlast, hend, hwhole, hsent, hkept⟩ := receptionKept_records hwork (0 == s.phases * s.tile.h)
  have hnot : (0 == s.phases * s.tile.h) = false := beq_eq_false_iff_ne.mpr (Nat.ne_of_lt hrows)
  exact ⟨_, hexec, hhave, hlastF, hlast, hend, hwhole.trans hnot, hl0, hl1, hrun, hloss, hsent, fun f hf => hkeeps f hf, hkept⟩

/-! A reception with a last frame: the rows that it missed are repeated. -/

theorem runsCounted_total (miss : List (Nat × Nat)) (s : State) :
    (runsCounted miss s).get (F.CH_LINE_REPEAT_TOTAL 0) = s.get (F.CH_LINE_REPEAT_TOTAL 0) := runsCounted_keeps s miss _ (by decide)

/-- The registers and the sends are none of what repeated rows change. -/
theorem repeatRows_get (L : List (Nat × Nat)) (s : State) (f : Fld) : (s.each L (repeatRow [] [])).get f = s.get f := by
  obtain ⟨_, _, h⟩ := repeatRows_records L s
  rw [h]
  rfl

/-- The record of the reception once the missed rows are repeated. -/
theorem repeatedFrame_records (miss : List (Nat × Nat)) (s : State) :
    let x := repeatsShown miss.length ((runsCounted miss s).each miss (repeatRow [] []))
    x.out = s.out ∧ x.tileRx.fnum = s.tileRx.fnum ∧ x.tileRx.last = s.tileRx.last ∧ ∀ e ∈ miss, RowRepeated e x := by
  have hw := repeatsShown_writes miss.length ((runsCounted miss s).each miss (repeatRow [] []))
  have hrx := hw.same State.tileRx fun _ _ => rfl
  have hrow := fun e (he : e ∈ miss) => repeatRows_repeated he (runsCounted miss s)
  obtain ⟨_, _, hrec⟩ := repeatRows_records miss (runsCounted miss s)
  have hrun := runsCounted_runWork s miss
  refine ⟨?_, ?_, ?_, fun e he => ?_⟩
  · rw [hw.same State.out fun _ _ => rfl, hrec]
    exact hrun.out
  · rw [hrx, hrec]
    exact (congrArg TileRx.fnum hrun.tileRx :)
  · rw [hrx, hrec]
    exact (congrArg TileRx.last hrun.tileRx :)
  · rw [RowRepeated, hrx]
    exact hrow e he

theorem reception_repeated (ha : s.acts) (ht : s.isTile = true) (hrx : s.tileRx.rx = true ∧ s.tileRx.haveLast = true)
    (hdue : max s.tileRx.ovlK 1 ≤ ahead (s.raster.fnum + 1) s.tileRx.fnum) :
    ∃ t, exec (.frameReceptionEnd [] []) s = .next t ∧ t.get (F.CH_LINE_REPEAT_LAST 0) = min (s.uncovered s.tileRx.dirB).length 0xFFFF ∧
      t.get (F.CH_LINE_REPEAT_TOTAL 0) =
        min (s.get (F.CH_LINE_REPEAT_TOTAL 0) + (s.uncovered s.tileRx.dirB).length) (2 ^ (F.CH_LINE_REPEAT_TOTAL 0).width - 1) ∧
      (∀ e ∈ s.uncovered s.tileRx.dirB, Tab.get (fun _ => []) t.tileRx.last (e.1 * 65536 + e.2) =
        Tab.get (fun _ => []) s.tileRx.last (e.1 * 65536 + e.2)) ∧ t.tileRx.rx = false ∧ t.tileRx.lastF = s.tileRx.fnum ∧ Sent [] t := by
  have hexec := exec_frameReceptionEnd_of_kept ha ht hrx.1 hdue (.inl hrx.2)
  generalize s.uncovered s.tileRx.dirB = miss at *
  obtain ⟨hout, hfnum, hlast, hrow⟩ := repeatedFrame_records miss s.fresh
  have hregs : ∀ f : Fld, f.addr = atCH 0 0x28 → (repeatsShown miss.length ((runsCounted miss s.fresh).each miss (repeatRow [] []))).get f =
      (repeatShown miss.length 0 ((runsCounted miss s.fresh).each miss (repeatRow [] []))).get f := fun f hf => repeatsShown_first miss.length _ hf
  refine ⟨_, hexec, ?_, ?_, fun e he => ?_, rfl, hfnum, hout⟩
  · rw [settle_get, receptionKept_get, hregs _ rfl, repeatShown_last]
  · rw [settle_get, receptionKept_get, hregs _ rfl, repeatShown_total, repeatRows_get, runsCounted_total]
    rfl
  · have hsame := hrow e he
    rw [RowRepeated, hlast] at hsame
    exact hsame

end

end Sys2Proof.Machine
end

section
/-!
PROOFS. Chapter 05: the exit from LINKED (R93, R164, R166, R172).
-/

namespace Sys2Proof.Machine

open Sys2Proof

/-! ### Frames of fields and of whole registers -/

section
variable {l m : List Fld} {s t u : State}

/-- A frame may list a register whole in place of its fields. -/
theorem Keeps.widen (h : Keeps l s t) (hm : ∀ g ∈ l, g ∈ m ∨ whole g.addr ∈ m) : Keeps m s t := by
  intro f hf
  by_cases hhigh : 31 < f.lo
  · rw [State.get, Fld.of_high f _ hhigh, State.get, Fld.of_high f _ hhigh]
  refine h f fun g hg => ?_
  obtain hin | hwhole := hm g hg
  · exact hf g hin
  · have hsep := hf _ hwhole
    have hne : g.addr ≠ f.addr := by simpa [Fld.sep, whole, hhigh] using hsep
    exact Fld.sep_of_addr_ne hne

/-! ### What the end of a link touches (R164) -/

/-- `t` is `s` but for registers, what was sent, the records of ports, groups and lanes, and READY. -/
def LinkWork (s t : State) : Prop :=
  ∃ r o pt c ln rd, t = { s with regs := r, out := o, ports := pt, cals := c, lanes := ln, tileRx := { s.tileRx with ready := rd } }

theorem LinkWork.refl (s : State) : LinkWork s s := ⟨s.regs, s.out, s.ports, s.cals, s.lanes, s.tileRx.ready, rfl⟩

theorem LinkWork.trans (h : LinkWork s t) (k : LinkWork t u) : LinkWork s u := by
  obtain ⟨_, _, _, _, _, _, rfl⟩ := h
  obtain ⟨_, _, _, _, _, _, rfl⟩ := k
  exact ⟨_, _, _, _, _, _, rfl⟩

theorem Writes.linkWork (h : Writes l s t) : LinkWork s t := by
  obtain ⟨⟨r, rfl⟩, -⟩ := h
  exact ⟨r, s.out, s.ports, s.cals, s.lanes, s.tileRx.ready, rfl⟩

/-- The frame of a command that ends a link. -/
theorem LinkWork.frame (h : LinkWork s.fresh t) (k : Keeps l s t) :
    Frame l s { s with ports := (settle t).ports, cals := (settle t).cals, lanes := (settle t).lanes,
                       tileRx := { s.tileRx with ready := (settle t).tileRx.ready } } (settle t) := by
  refine ⟨fun f hf => (settle_get t f).trans (k f hf), ?_⟩
  obtain ⟨_, _, _, _, _, _, rfl⟩ := h
  rfl

end

theorem setPort_linkWork (s : State) (p : Nat) (f : Port → Port) : LinkWork s (s.setPort p f) :=
  ⟨s.regs, s.out, _, s.cals, s.lanes, s.tileRx.ready, rfl⟩

theorem withOut_linkWork (s : State) (o : List Out) : LinkWork s (s.withOut o) := ⟨s.regs, o, s.ports, s.cals, s.lanes, s.tileRx.ready, rfl⟩

theorem raise_linkWork (s : State) (f : Fld) (c : Nat) : LinkWork s (s.raise f c) := by
  unfold State.raise
  split
  · exact .refl s
  · unfold State.cause
    split
    · exact ⟨_, s.out, s.ports, s.cals, s.lanes, s.tileRx.ready, rfl⟩
    · exact ⟨_, s.out, s.ports, s.cals, s.lanes, s.tileRx.ready, rfl⟩

theorem retile_linkWork (s : State) : LinkWork s s.retile := by
  unfold State.retile
  dsimp only
  split
  · exact ⟨_, s.out, s.ports, s.cals, s.lanes, false, rfl⟩
  · exact ⟨_, s.out, s.ports, s.cals, s.lanes, s.tileRx.ready, rfl⟩

theorem enterTrain_linkWork (p st : Nat) (s : State) : LinkWork s (enterTrain p st s) :=
  ((setPort_linkWork s p _).trans (withOut_linkWork _ _)).trans (enterTrain_writes p st s).linkWork

/-! ### The lanes of a port in training (R187, R189) -/

theorem groupLanes_port {p : Nat} (hp : p < 16) : groupLanes p = (List.range 5).map (chainLane p) := by
  have hlane : groupLane p = chainLane p := funext fun i => if_pos hp
  rw [groupLanes, if_pos hp, hlane]

/-- What the lanes of a port show that go back to training. -/
abbrev trainLaneFlds (p : Nat) : List Fld :=
  (groupLanes p).flatMap (fun n => [F.HP_LANE_STATE_RXS n, F.HP_LANE_STATE_TXS n, F.HP_LANE_STATE_CDR_LOCK n]) ++ [F.HP_GROUP_STATE_RATE p]

theorem mem_trainLaneFlds {p : Nat} {f : Fld} (h : f ∈ trainLaneFlds p) :
    (∃ n ∈ groupLanes p, f = F.HP_LANE_STATE_RXS n ∨ f = F.HP_LANE_STATE_TXS n ∨ f = F.HP_LANE_STATE_CDR_LOCK n) ∨ f = F.HP_GROUP_STATE_RATE p := by
  simpa using h

theorem trainLaneFlds_block {p : Nat} : ∀ f ∈ trainLaneFlds p, laneBlock f.addr := fun f hf => by
  obtain ⟨n, -, rfl | rfl | rfl⟩ | rfl := mem_trainLaneFlds hf
  · exact laneBlock_lane n (off := 0) (by decide)
  · exact laneBlock_lane n (off := 0) (by decide)
  · exact laneBlock_lane n (off := 0) (by decide)
  · exact laneBlock_group p (off := 0) (by decide)

theorem setsApart_trainLane (p : Nat) : SetsApart (trainLaneFlds p) := fun f hf => by
  obtain ⟨n, -, rfl | rfl | rfl⟩ | rfl := mem_trainLaneFlds hf
  · exact .of_lane (n := n) (off := 0) rfl (by decide)
  · exact .of_lane (n := n) (off := 0) rfl (by decide)
  · exact .of_lane (n := n) (off := 0) rfl (by decide)
  · exact .of_group (k := p) (off := 0) rfl (by decide)

theorem setLane_train (n : Nat) (s : State) :
    setLane n lnTrain lnTrain s = (s.put (F.HP_LANE_STATE_TXS n) lnTrain).put (F.HP_LANE_STATE_RXS n) lnTrain := rfl

section
variable {p : Nat} (hp : p < 16) (s : State)
include hp

theorem locks_subset_trainLane : lockFlds p ⊆ trainLaneFlds p := fun f hf => by
  obtain ⟨i, hi, rfl⟩ := List.mem_map.mp hf
  refine List.mem_append_left _ (List.mem_flatMap.mpr ⟨chainLane p i, ?_, by simp⟩)
  rw [groupLanes_port hp]
  exact List.mem_map_of_mem hi

theorem lanesTrain_writes : Writes (trainLaneFlds p) s (lanesTrain p s) := by
  have hlanes : Writes (trainLaneFlds p) s (s.each (groupLanes p) fun n s => setLane n lnTrain lnTrain s) :=
    Writes.each _ s fun n hn t => by
      have hmem : ∀ f ∈ [F.HP_LANE_STATE_RXS n, F.HP_LANE_STATE_TXS n, F.HP_LANE_STATE_CDR_LOCK n], f ∈ trainLaneFlds p :=
        fun f hf => List.mem_append_left _ (List.mem_flatMap.mpr ⟨n, hn, hf⟩)
      rw [setLane_train]
      exact ((Writes.refl _ t).put (hmem _ (by simp)) _).put (hmem _ (by simp)) _
  exact (hlanes.trans ((showLocks_writes p 0 _).mono (locks_subset_trainLane hp))).put (by simp) _

end

/-- A lane's halves, once in training, stay so while other lanes follow. -/
theorem eachTrain_halves {p n : Nat} (hn : n ∈ groupLanes p) (s : State) :
    (s.each (groupLanes p) fun n s => setLane n lnTrain lnTrain s).get (F.HP_LANE_STATE_RXS n) = lnTrain ∧
      (s.each (groupLanes p) fun n s => setLane n lnTrain lnTrain s).get (F.HP_LANE_STATE_TXS n) = lnTrain := by
  refine State.each_establishes (P := fun n t => State.get t (F.HP_LANE_STATE_RXS n) = lnTrain ∧ State.get t (F.HP_LANE_STATE_TXS n) = lnTrain)
    (fun b t => ?_) (fun a b t hab h => ?_) _ s (.inl hn)
  · rw [setLane_train, State.get_put_sep _ _ _ _ (Fld.sep_of_bits rfl : (F.HP_LANE_STATE_RXS b).sep (F.HP_LANE_STATE_TXS b) = true)]
    exact ⟨State.get_put_fit _ _ rfl (by decide : lnTrain < 2 ^ 4), State.get_put_fit _ _ rfl (by decide : lnTrain < 2 ^ 4)⟩
  · have hne : atLANE b 0 ≠ atLANE a 0 := fun h => hab (atLANE_inj h).symm
    have hput : ∀ {f g : Fld}, f.addr = atLANE b 0 → g.addr = atLANE a 0 → f.sep g = true := fun hf hg =>
      Fld.sep_of_addr_ne (by rwa [hf, hg])
    rw [setLane_train, State.get_put_sep _ _ _ _ (hput rfl rfl), State.get_put_sep _ _ _ _ (hput rfl rfl), State.get_put_sep _ _ _ _ (hput rfl rfl),
      State.get_put_sep _ _ _ _ (hput rfl rfl)]
    exact h

theorem groupRate_get_lane (p r n : Nat) (s : State) {f : Fld} (hf : f.addr = atLANE n 0) : (groupRate p r s).get f = s.get f :=
  State.get_put_sep _ _ _ _ (Fld.sep_of_addr_ne (hf ▸ atGROUP_ne_atLANE p n))

section
variable {p n : Nat} (s : State)

theorem lanesTrain_halves (hn : n ∈ groupLanes p) :
    (lanesTrain p s).get (F.HP_LANE_STATE_RXS n) = lnTrain ∧ (lanesTrain p s).get (F.HP_LANE_STATE_TXS n) = lnTrain := by
  have hlock : ∀ f : Fld, (∀ m, (F.HP_LANE_STATE_CDR_LOCK m).sep f = true) → ∀ t, (showLocks p 0 t).get f = t.get f := fun f hf t =>
    (showLocks_writes p 0 t).get fun g hg => by
      obtain ⟨i, -, rfl⟩ := List.mem_map.mp hg
      exact hf _
  have hhalves := eachTrain_halves hn s
  rw [lanesTrain, groupRate_get_lane p _ n _ rfl, groupRate_get_lane p _ n _ rfl, hlock _ fun _ => Fld.sep_of_bits rfl,
    hlock _ fun _ => Fld.sep_of_bits rfl]
  exact hhalves

theorem lanesTrain_lock (hp : p < 16) (hn : n ∈ groupLanes p) : (lanesTrain p s).get (F.HP_LANE_STATE_CDR_LOCK n) = 0 := by
  rw [groupLanes_port hp] at hn
  obtain ⟨i, hi, rfl⟩ := List.mem_map.mp hn
  have hoff := showLocks_on (p := p) (mask := 0) hi (s.each (groupLanes p) fun n s => setLane n lnTrain lnTrain s)
  rw [Nat.zero_testBit, State.on, bne_eq_false_iff_eq] at hoff
  rw [lanesTrain, groupRate_get_lane p _ (chainLane p i) _ rfl, hoff]

theorem lanesTrain_rate : (lanesTrain p s).get (F.HP_GROUP_STATE_RATE p) = 1 := State.get_put_fit _ _ rfl (by decide : rate3125 < 2 ^ 2)

/-! ### Registers that stay while a port leaves LINKED -/

/-- The signal detectors, from which a port's energy follows. -/
theorem Writes.energy {l : List Fld} {t : State} (h : Writes l s t) (hl : ∀ g ∈ l, ∀ n, g.sep (F.HP_LANE_STATE_SIGDET n) = true) (q : Nat) :
    t.energy q = s.energy q := by
  unfold State.energy State.on
  simp only [h.get fun g hg => hl g hg _]

theorem trainLaneFlds_sep_sigdet : ∀ g ∈ trainLaneFlds p, ∀ m, g.sep (F.HP_LANE_STATE_SIGDET m) = true := fun g hg m => by
  obtain ⟨n, -, rfl | rfl | rfl⟩ | rfl := mem_trainLaneFlds hg
  · exact Fld.sep_of_bits rfl
  · exact Fld.sep_of_bits rfl
  · exact Fld.sep_of_bits rfl
  · exact Fld.sep_of_addr_ne (atGROUP_ne_atLANE p m)

end

/-! ### A port leaves LINKED (R164) -/

/-- The registers that the end of a link may change. -/
abbrev linkFlds (p : Nat) : List Fld :=
  [F.CH_LINK_STATUS_LOCK_LOST p, F.CH_TRAIN_STATE_STATE p, F.CH_TRAIN_STATE_RATE p, F.CH_TRAIN_COUNT_ATTEMPTS p, F.CH_LANE_MAP_RX_ACTIVE p,
    F.CH_LANE_MAP_RX_SPARE p, F.CH_LANE_MAP_TX_ACTIVE p, F.CH_LANE_MAP_TX_SPARE p, F.CH_LINK_STATUS_RX_LANES p, F.CH_LINK_STATUS_TX_LANES p,
    whole (atGROUP p 0x1C), F.RD_BOOT_STATUS_TILE_STATE] ++ pendFlds ++
    (groupLanes p).flatMap (fun n => [F.HP_LANE_STATE_RXS n, F.HP_LANE_STATE_TXS n, F.HP_LANE_STATE_CDR_LOCK n]) ++ [F.HP_GROUP_STATE_RATE p]

/-- LOCK_LOST set, and nothing shown of the training that the port had. -/
def linkLost (p : Nat) (s : State) : State := lanesTrain p (clearTrained p (s.raise (F.CH_LINK_STATUS_LOCK_LOST p) 35))

/-- The state of R77 from which the port trains again. -/
def trainAgain (p : Nat) (s : State) : State :=
  if s.energy p then enterTrain p trComma (s.inc (F.CH_TRAIN_COUNT_ATTEMPTS p)) else enterTrain p trDetect s

/-- Frames under way on a link that ends have left it. -/
def framesLeft (act : Nat) (l : List SoFrame) : List SoFrame :=
  l.zipIdx.map fun e => { e.1 with left := e.1.left || e.2 == 0 || (e.2 == 1 && e.1.next < act) }

/-- The records of what ends with the link: a drop or a retirement under way, ramps, urgent sets and frames under way. -/
def linkForgotten (p : Nat) (s : State) : State :=
  let s := (s.setCal p fun x => { x with txDrop := none, copies := none, retireNext := [] }).each (groupLanes p) fun n s =>
    s.setLn n fun l => { l with before := none, aim := none }
  s.setPort p fun x => { x with urg := [], so := framesLeft (s.get (F.CH_CTG_GEOM_ACTIVE_C p)) x.so }

theorem calAbandon_of_none {g : Nat} {s : State} (h : (s.cal g).step = none) : calAbandon g s = s := by rw [calAbandon, endStep, h]

theorem each_setLn_records (f : Lane → Lane) (L : List Nat) (s : State) : ∃ ln, (s.each L fun n s => s.setLn n f) = { s with lanes := ln } :=
  State.each_keeps (fun t => ∃ ln, t = { s with lanes := ln }) (fun n s => s.setLn n f) (fun _ _ h => by
    obtain ⟨_, rfl⟩ := h
    exact ⟨_, rfl⟩) L s ⟨s.lanes, rfl⟩

/-- Every lane of the list is changed; a change that a second one adds nothing to. -/
theorem each_setLn_lane {f : Lane → Lane} {Q : Lane → Prop} (hf : ∀ x, Q (f x)) {n : Nat} {L : List Nat} (hn : n ∈ L) (s : State) :
    Q ((s.each L fun n s => s.setLn n f).lane n) := by
  refine State.each_establishes (P := fun n t => Q (State.lane t n)) (fun b t => ?_) (fun a b t hab h => ?_) L s (.inl hn)
  · rw [State.ln_setLn, if_pos rfl]
    exact hf _
  · rw [State.ln_setLn, if_neg hab]
    exact h

theorem linkForgotten_records (p : Nat) (s : State) : ∃ pt c ln, linkForgotten p s = { s with ports := pt, cals := c, lanes := ln } := by
  obtain ⟨ln, h⟩ := each_setLn_records (fun l => { l with before := none, aim := none }) (groupLanes p)
    (s.setCal p fun x => { x with txDrop := none, copies := none, retireNext := [] })
  rw [linkForgotten, h]
  exact ⟨_, _, _, rfl⟩

section
variable (p : Nat) (s : State)

theorem linkForgotten_get (f : Fld) : (linkForgotten p s).get f = s.get f := by
  obtain ⟨_, _, _, h⟩ := linkForgotten_records p s
  rw [h]
  rfl

theorem linkForgotten_out : (linkForgotten p s).out = s.out := by
  obtain ⟨_, _, _, h⟩ := linkForgotten_records p s
  rw [h]

theorem linkForgotten_linkWork : LinkWork s (linkForgotten p s) := by
  obtain ⟨_, _, _, h⟩ := linkForgotten_records p s
  exact ⟨s.regs, s.out, _, _, _, s.tileRx.ready, h⟩

theorem linkForgotten_cal : ((linkForgotten p s).cal p).txDrop = none := by
  obtain ⟨_, h⟩ := each_setLn_records (fun l => { l with before := none, aim := none }) (groupLanes p)
    (s.setCal p fun x => { x with txDrop := none, copies := none, retireNext := [] })
  have hcal := State.cal_setCal s p p fun x => { x with txDrop := none, copies := none, retireNext := [] }
  rw [if_pos rfl] at hcal
  rw [linkForgotten, h]
  exact congrArg Cal.txDrop hcal

theorem linkForgotten_port : (linkForgotten p s).port p =
    { s.port p with urg := [], so := framesLeft (s.get (F.CH_CTG_GEOM_ACTIVE_C p)) (s.port p).so } := by
  obtain ⟨_, h⟩ := each_setLn_records (fun l => { l with before := none, aim := none }) (groupLanes p)
    (s.setCal p fun x => { x with txDrop := none, copies := none, retireNext := [] })
  rw [linkForgotten, State.port_setPort_same, h]
  rfl

theorem linkForgotten_lane {n : Nat} (hn : n ∈ groupLanes p) :
    ((linkForgotten p s).lane n).before = none ∧ ((linkForgotten p s).lane n).aim = none :=
  each_setLn_lane (Q := fun x => x.before = none ∧ x.aim = none) (fun _ => ⟨rfl, rfl⟩) hn _

end

/-- The exit of a port whose calibration has no step under way, at a part that tells no other tile of it. -/
theorem linkExit_of_sender {p : Nat} {s : State} (hl : s.linked p = true) (hstep : ((trainAgain p (linkLost p s)).cal p).step = none)
    (hside : (linkForgotten p (trainAgain p (linkLost p s))).tileLike = false) :
    linkExit p s = (linkForgotten p (trainAgain p (linkLost p s))).retile := by
  have hexit : linkExit p s = if (linkForgotten p (calAbandon p (trainAgain p (linkLost p s)))).tileLike
      then (sendSegdown (p == 1) (linkForgotten p (calAbandon p (trainAgain p (linkLost p s))))).retile
      else (linkForgotten p (calAbandon p (trainAgain p (linkLost p s)))).retile := by
    rw [linkExit, hl]
    exact apply_ite State.retile _ _ _
  rw [hexit, calAbandon_of_none hstep, hside]
  rfl

/-! ### What a lost link shows (R93, R164, R166) -/

/-- What is written once LOCK_LOST stands. -/
abbrev lostFlds (p : Nat) : List Fld := (F.CH_TRAIN_STATE_RATE p :: mapFlds p) ++ trainLaneFlds p

theorem setsApart_lost (p : Nat) : SetsApart (lostFlds p) :=
  (setsApart_cons.mpr ⟨unsent_trainState (p := p) rfl, setsApart_maps p⟩).append (setsApart_trainLane p)

/-- The signal detectors are none of the fields that show maps and locks. -/
theorem mapFlds_sep_sigdet {p : Nat} : ∀ g ∈ mapFlds p, ∀ m, g.sep (F.HP_LANE_STATE_SIGDET m) = true := fun g hg m => by
  have hblock : laneBlock (F.HP_LANE_STATE_SIGDET m).addr := laneBlock_lane m (off := 0) (by decide)
  have hmap : atGROUP p 0x1C ≠ atLANE m 0 := atGROUP_ne_lane p m (by decide)
  obtain hport | hlane := List.mem_append.mp hg
  · simp only [List.cons_append, List.nil_append, List.mem_cons, List.not_mem_nil, or_false] at hport
    obtain rfl | rfl | rfl | rfl | rfl | rfl := hport
    · exact Fld.sep_of_port (p := p) (off := 0x4) rfl (by decide) hblock
    · exact Fld.sep_of_port (p := p) (off := 0x4) rfl (by decide) hblock
    · exact Fld.sep_of_port (p := p) (off := 0x1C) rfl (by decide) hblock
    · exact Fld.sep_of_port (p := p) (off := 0x4) rfl (by decide) hblock
    · exact Fld.sep_of_port (p := p) (off := 0x4) rfl (by decide) hblock
    · exact Fld.sep_of_port (p := p) (off := 0x1C) rfl (by decide) hblock
  · simp only [laneSide, List.mem_append, List.mem_map, List.mem_singleton] at hlane
    obtain ((⟨i, -, rfl⟩ | ⟨i, -, rfl⟩) | ⟨i, -, rfl⟩) | rfl := hlane
    · exact Fld.sep_of_addr_ne hmap
    · exact Fld.sep_of_addr_ne hmap
    · exact Fld.sep_of_bits rfl
    · exact Fld.sep_of_addr_ne (atGROUP_ne_atLANE p m)

/-- The status bits of CH_LINK_STATUS are none of the fields that show maps. -/
theorem mapFlds_sep_lockLost {p : Nat} : ∀ g ∈ mapFlds p, g.sep (F.CH_LINK_STATUS_LOCK_LOST p) = true := fun g hg => by
  obtain hport | hlane := List.mem_append.mp hg
  · simp only [List.cons_append, List.nil_append, List.mem_cons, List.not_mem_nil, or_false] at hport
    obtain rfl | rfl | rfl | rfl | rfl | rfl := hport
    · exact Fld.sep_of_addr_ne (atCH_ne p p (by decide))
    · exact Fld.sep_of_addr_ne (atCH_ne p p (by decide))
    · exact Fld.sep_of_bits rfl
    · exact Fld.sep_of_addr_ne (atCH_ne p p (by decide))
    · exact Fld.sep_of_addr_ne (atCH_ne p p (by decide))
    · exact Fld.sep_of_bits rfl
  · exact Fld.sep_of_laneBlock (laneSide_block g hlane) (not_laneBlock_port p (off := 0x1C) (by decide))

/-- A register of a port that shows neither the maps nor the rate. -/
theorem lostFlds_sep {p off : Nat} {f : Fld} (hf : f.addr = atCH p off) (hoff : off < 0x100) (hrate : (F.CH_TRAIN_STATE_RATE p).sep f = true)
    (hmaps : ∀ g ∈ mapFlds p, g.sep f = true) : ∀ g ∈ lostFlds p, g.sep f = true := fun g hg => by
  obtain h | h := List.mem_append.mp hg
  · exact (List.mem_cons.mp h).elim (fun e => e ▸ hrate) (hmaps g)
  · exact Fld.sep_of_laneBlock (trainLaneFlds_block g h) (hf ▸ not_laneBlock_port p hoff)

/-! ### What each register write leaves -/

theorem clearTrained_rxLanes (p : Nat) (s : State) : (clearTrained p s).get (F.CH_LINK_STATUS_RX_LANES p) = 0 := by
  have hblock : ¬ laneBlock (F.CH_LINK_STATUS_RX_LANES p).addr := not_laneBlock_port p (off := 0x1C) (by decide)
  have htx : ∀ t : State, (t.setTxMap p 0 0).get (F.CH_LINK_STATUS_RX_LANES p) = t.get (F.CH_LINK_STATUS_RX_LANES p) := fun t =>
    (setTxMap_writes t p 0 0).get_port (calMapFlds_block p fun _ => rfl) hblock fun g hg => by
      simp only [List.mem_cons, List.not_mem_nil, or_false] at hg
      obtain rfl | rfl | rfl := hg
      · exact Fld.sep_of_addr_ne (atCH_ne p p (by decide))
      · exact Fld.sep_of_addr_ne (atCH_ne p p (by decide))
      · exact Fld.sep_of_bits rfl
  have hrx : ∀ t : State, (t.setRxMap p 0 0).get (F.CH_LINK_STATUS_RX_LANES p) = 0 := fun t =>
    ((showCalMap_writes p calMapRx 0 0 _).get fun g hg => Fld.sep_of_laneBlock (calMapFlds_block p (fun _ => rfl) g hg) hblock).trans
      (State.get_put_fit _ _ rfl (by decide : popCount 5 0 < 2 ^ 3))
  rw [clearTrained, (showLocks_writes p 0 _).get fun g hg => Fld.sep_of_laneBlock (locks_block p g hg) hblock, htx, hrx]

/-- A cause raised changes no training set. -/
theorem raise_trainSets (s : State) {f : Fld} (hf : f.Unsent) (c p ty : Nat) : (s.raise f c).trainSets p ty = s.trainSets p ty := by
  have hget : ∀ g : Fld, g.addr ≠ f.addr → g.addr ≠ F.RD_IRQ_PEND0_PEND.addr → g.addr ≠ F.RD_IRQ_PEND1_PEND.addr →
      (s.raise f c).get g = s.get g := fun g hg h0 h1 => State.get_raise_sep (s := s) f c g (Fld.sep_of_addr_ne (Ne.symm hg)) h0 h1
  have hrind : ∀ g : Fld, g.addr < 0x1000000 → g.addr ≠ F.RD_IRQ_PEND0_PEND.addr → g.addr ≠ F.RD_IRQ_PEND1_PEND.addr →
      (s.raise f c).get g = s.get g := fun g hg => hget g (Nat.ne_of_lt (Nat.lt_of_lt_of_le hg hf.1))
  have hend : (s.raise f c).endType = s.endType := by
    unfold State.endType State.isSender State.isTile State.role State.senderEnd
    rw [hrind F.RD_DIE_STATE_ROLE (by decide) (by decide) (by decide), hrind F.RD_MOULD_INFO_SENDER_END (by decide) (by decide) (by decide)]
  have hinv : ∀ n, (s.raise f c).txInv n = s.txInv n := fun n => by
    have hpol : ∀ a < 0x1000000, (F.HP_LANE_TXM_TX_POL n).addr ≠ a := fun a ha => Nat.ne_of_gt (Nat.lt_of_lt_of_le ha (atLANE_ge n 4))
    rw [State.txInv, State.on, hget _ (fun h => hf.2 n h.symm) (hpol _ (by decide)) (hpol _ (by decide)), State.txInv, State.on]
  have hwall := hrind F.RD_MOULD_ID_WALL_ID (by decide) (by decide) (by decide)
  have hseq := hrind F.RD_MOULD_INFO_MOULD_SEQ (by decide) (by decide) (by decide)
  have hport : (s.raise f c).port p = s.port p := by rw [State.port, State.raise_ports, State.port]
  simp only [State.trainSets, State.trainSet, hend, hwall, hseq, hport, hinv]

theorem lockLost_unsent (p : Nat) : (F.CH_LINK_STATUS_LOCK_LOST p).Unsent := .of_port (p := p) (off := 0x1C) rfl (by decide)

section
variable {p : Nat} (hp : p < 16) (s : State)
include hp

theorem linkLost_writes : Writes (lostFlds p) (s.raise (F.CH_LINK_STATUS_LOCK_LOST p) 35) (linkLost p s) :=
  ((clearTrained_writes p _).mono (List.subset_append_left _ _)).trans ((lanesTrain_writes hp _).mono (List.subset_append_right _ _))

theorem linkLost_linkWork : LinkWork s (linkLost p s) := (raise_linkWork s _ 35).trans (linkLost_writes hp s).linkWork

theorem linkLost_trainSets (ty : Nat) : (linkLost p s).trainSets p ty = s.trainSets p ty :=
  ((linkLost_writes hp s).trainSets (setsApart_lost p) p ty).trans (raise_trainSets s (lockLost_unsent p) 35 p ty)

end

section
variable {p : Nat} (hp : p < 16) (s : State)
include hp

theorem linkLost_lockLost : (linkLost p s).on (F.CH_LINK_STATUS_LOCK_LOST p) = true := by
  have hrind : ∀ a < 0x1000000, (F.CH_LINK_STATUS_LOCK_LOST p).addr ≠ a := fun a ha => Nat.ne_of_gt (Nat.lt_of_lt_of_le ha (atCH_ge p 0x1C))
  have hset := State.on_raise_same (s := s) (F.CH_LINK_STATUS_LOCK_LOST p) 35 rfl (hrind _ (by decide)) (hrind _ (by decide))
  rw [State.on, (linkLost_writes hp s).get (f := F.CH_LINK_STATUS_LOCK_LOST p) (lostFlds_sep rfl (by decide) (Fld.sep_of_addr_ne (atCH_ne p p (by decide))) mapFlds_sep_lockLost)]
  exact hset

/-- The cause of LOCK_LOST is pending, unless the bit stood before. -/
theorem linkLost_pending : s.on (F.CH_LINK_STATUS_LOCK_LOST p) = true ∨ (linkLost p s).pendingCause 35 = true := by
  rcases hon : s.on (F.CH_LINK_STATUS_LOCK_LOST p) with _ | _
  · have hpend := State.pending_raise (c := 35) (F.CH_LINK_STATUS_LOCK_LOST p) (by decide) hon
    unfold State.pendingCause at *
    rw [(linkLost_writes hp s).rind (setsApart_lost p) (by decide), (linkLost_writes hp s).rind (setsApart_lost p) (by decide)]
    exact .inr hpend
  · exact .inl rfl

theorem linkLost_rind {f : Fld} (hf : f.addr < 0x1000000) (h0 : f.addr ≠ F.RD_IRQ_PEND0_PEND.addr) (h1 : f.addr ≠ F.RD_IRQ_PEND1_PEND.addr) :
    (linkLost p s).get f = s.get f :=
  ((linkLost_writes hp s).rind (setsApart_lost p) hf).trans
    (State.get_raise_sep (s := s) _ 35 f (Fld.sep_of_addr_ne (Nat.ne_of_gt (Nat.lt_of_lt_of_le hf (atCH_ge p 0x1C)))) h0 h1)

theorem linkLost_isSender : (linkLost p s).isSender = s.isSender := by
  rw [State.isSender, State.role, linkLost_rind hp s (by decide) (by decide) (by decide), State.isSender, State.role]

/-- What the lanes in training show is apart from what their port shows. -/
theorem lanesTrain_get {f : Fld} (hf : ¬ laneBlock f.addr) : (lanesTrain p s).get f = s.get f :=
  (lanesTrain_writes hp s).get fun g hg => Fld.sep_of_laneBlock (trainLaneFlds_block g hg) hf

theorem linkLost_untrained : (linkLost p s).Untrained p := by
  obtain ⟨hrate, hrx, htx⟩ := clearTrained_untrained p (s.raise (F.CH_LINK_STATUS_LOCK_LOST p) 35)
  have hmap : ∀ f : Fld, f.addr = atCH p 0x4 → (linkLost p s).get f = (clearTrained p (s.raise (F.CH_LINK_STATUS_LOCK_LOST p) 35)).get f :=
    fun f hf => lanesTrain_get hp _ (hf ▸ not_laneBlock_port p (by decide))
  refine ⟨(lanesTrain_get hp _ (not_laneBlock_port p (off := 0) (by decide))).trans hrate, ?_, ?_⟩
  · rw [State.rxMap, hmap _ rfl, hmap _ rfl]
    exact hrx
  · rw [State.txMap, hmap _ rfl, hmap _ rfl]
    exact htx

theorem linkLost_rxLanes : (linkLost p s).get (F.CH_LINK_STATUS_RX_LANES p) = 0 :=
  (lanesTrain_get hp _ (not_laneBlock_port p (off := 0x1C) (by decide))).trans (clearTrained_rxLanes p _)

theorem linkLost_attempts : (linkLost p s).get (F.CH_TRAIN_COUNT_ATTEMPTS p) = s.get (F.CH_TRAIN_COUNT_ATTEMPTS p) := by
  have hrind : ∀ a < 0x1000000, (F.CH_TRAIN_COUNT_ATTEMPTS p).addr ≠ a := fun a ha => Nat.ne_of_gt (Nat.lt_of_lt_of_le ha (atCH_ge p 0x18))
  rw [(linkLost_writes hp s).get (f := F.CH_TRAIN_COUNT_ATTEMPTS p) (lostFlds_sep rfl (by decide) (Fld.sep_of_addr_ne (atCH_ne p p (by decide))) (trainCount_sep_maps rfl))]
  exact State.get_raise_sep (s := s) _ 35 _ (Fld.sep_of_addr_ne (atCH_ne p p (by decide))) (hrind _ (by decide)) (hrind _ (by decide))

theorem linkLost_energy : (linkLost p s).energy p = s.energy p := by
  have hsep : ∀ g ∈ lostFlds p, ∀ n, g.sep (F.HP_LANE_STATE_SIGDET n) = true := fun g hg n => by
    obtain h | h := List.mem_append.mp hg
    · obtain rfl | h := List.mem_cons.mp h
      · exact Fld.sep_of_port (p := p) (off := 0) rfl (by decide) (laneBlock_lane n (off := 0) (by decide))
      · exact mapFlds_sep_sigdet g h n
    · exact trainLaneFlds_sep_sigdet g h n
  have hraise : ∀ n, (s.raise (F.CH_LINK_STATUS_LOCK_LOST p) 35).get (F.HP_LANE_STATE_SIGDET n) = s.get (F.HP_LANE_STATE_SIGDET n) := fun n => by
    have hrind : ∀ a < 0x1000000, (F.HP_LANE_STATE_SIGDET n).addr ≠ a := fun a ha => Nat.ne_of_gt (Nat.lt_of_lt_of_le ha (atLANE_ge n 0))
    exact State.get_raise_sep (s := s) _ 35 _ (Fld.sep_of_port (p := p) (off := 0x1C) rfl (by decide) (laneBlock_lane n (off := 0) (by decide)))
      (hrind _ (by decide)) (hrind _ (by decide))
  rw [(linkLost_writes hp s).energy _ hsep]
  simp only [State.energy, State.on, hraise]

omit hp in
theorem trainLane_subset_link : trainLaneFlds p ⊆ linkFlds p := fun _ hf => by
  rw [linkFlds, List.append_assoc]
  exact List.mem_append_right _ hf

omit hp in
/-- What shows the maps of a port is in its CH registers, its lanes and the register that shows its group's map whole. -/
theorem maps_subset_link (hlocks : lockFlds p ⊆ trainLaneFlds p) {g : Fld} (hg : g ∈ mapFlds p) : g ∈ linkFlds p ∨ whole g.addr ∈ linkFlds p := by
  obtain h | h := List.mem_append.mp hg
  · simp only [List.cons_append, List.nil_append, List.mem_cons, List.not_mem_nil, or_false] at h
    obtain rfl | rfl | rfl | rfl | rfl | rfl := h
    all_goals exact .inl (by simp)
  · simp only [laneSide, List.mem_append, List.mem_map, List.mem_singleton] at h
    obtain ((⟨i, -, rfl⟩ | ⟨i, -, rfl⟩) | ⟨i, hi, rfl⟩) | rfl := h
    · exact .inr (by simp [calMapRx])
    · exact .inr (by simp [calMapTx])
    · exact .inl (trainLane_subset_link (hlocks (List.mem_map_of_mem hi)))
    · exact .inl (by simp)

theorem linkLost_keeps : Keeps (linkFlds p) s (linkLost p s) := by
  have hraise : Keeps (linkFlds p) s (s.raise (F.CH_LINK_STATUS_LOCK_LOST p) 35) :=
    (Keeps.refl _ s).raise _ 35 (by simp) (by simp) (by simp)
  refine hraise.trans (((linkLost_writes hp s).2).widen fun g hg => ?_)
  obtain h | h := List.mem_append.mp hg
  · obtain rfl | h := List.mem_cons.mp h
    · exact .inl (by simp)
    · exact maps_subset_link (locks_subset_trainLane hp) h
  · exact .inl (trainLane_subset_link h)

end

/-! ### Training again (R77) -/

section
variable {p : Nat} {s : State}

/-- The state entered, and the state that the port enters it from. -/
def againState (p : Nat) (s : State) : Nat := if s.energy p then trComma else trDetect
def againFrom (p : Nat) (s : State) : State := if s.energy p then s.inc (F.CH_TRAIN_COUNT_ATTEMPTS p) else s

theorem trainAgain_eq (p : Nat) (s : State) : trainAgain p s = enterTrain p (againState p s) (againFrom p s) := by
  unfold trainAgain againState againFrom
  split
  · rfl
  · rfl

theorem againFrom_writes (p : Nat) (s : State) : Writes [F.CH_TRAIN_COUNT_ATTEMPTS p] s (againFrom p s) := by
  unfold againFrom
  split
  · exact inc_writes s _
  · exact .refl _ s

theorem againState_lt (p : Nat) (s : State) : againState p s < 16 := by
  unfold againState
  split_ifs <;> decide

theorem trainAgain_train : (trainAgain p s).train p = if s.energy p then trComma else trDetect := by
  rw [trainAgain_eq, enterTrain_train p (againState_lt p s), againState]

theorem trainAgain_attempts : (trainAgain p s).get (F.CH_TRAIN_COUNT_ATTEMPTS p) =
    if s.energy p then s.more (F.CH_TRAIN_COUNT_ATTEMPTS p) else s.get (F.CH_TRAIN_COUNT_ATTEMPTS p) := by
  rw [trainAgain_eq, enterTrain_get p _ _ (f := F.CH_TRAIN_COUNT_ATTEMPTS p) (Fld.sep_of_addr_ne (atCH_ne p p (by decide))), againFrom]
  split
  · exact State.get_inc_same _ rfl
  · rfl

theorem trainAgain_get {f : Fld} (hstate : (F.CH_TRAIN_STATE_STATE p).sep f = true) (hcount : (F.CH_TRAIN_COUNT_ATTEMPTS p).sep f = true) :
    (trainAgain p s).get f = s.get f := by
  rw [trainAgain_eq, enterTrain_get p _ _ hstate, (againFrom_writes p s).get (List.forall_mem_singleton.mpr hcount)]

theorem trainAgain_linkWork : LinkWork s (trainAgain p s) := by
  rw [trainAgain_eq]
  exact (againFrom_writes p s).linkWork.trans (enterTrain_linkWork p _ _)

theorem trainAgain_keeps : Keeps (linkFlds p) s (trainAgain p s) := fun f hf =>
  trainAgain_get (hf _ (by simp)) (hf _ (by simp))

/-- The records once a port whose transmitters need not wait trains again. -/
theorem trainAgain_writes (hwait : s.waitsOut p = false) : ∃ l, Writes l
    ((s.setPort p fun x => { x with txIdle := false }).withOut (s.out ++ s.trainSets p tsA)) (trainAgain p s) := by
  have hidle : s.idleIn p (againState p s) = false := by
    unfold againState
    split
    · exact idleIn_comma s p
    · exact (idleIn_detect s p).trans hwait
  have hsends : s.entrySends p (againState p s) = s.trainSets p tsA := by
    unfold againState
    split
    · exact entrySends_comma s p
    · exact entrySends_detect s p hwait
  have hall := (againFrom_writes p s).enterTrain (setsApart_cons.mpr ⟨unsent_attempts p, setsApart_nil⟩) p (againState p s)
  rw [← trainAgain_eq, entered, hidle, hsends] at hall
  exact ⟨_, hall⟩

end

/-! ### The end of a sender's link as a whole (R164) -/

/-- What a sender's port shows when it has left LINKED, whose part was `s` before. -/
structure LinkEnds (s : State) (p : Nat) (t : State) : Prop where
  train : t.train p = if s.energy p then trComma else trDetect
  lockLost : t.on (F.CH_LINK_STATUS_LOCK_LOST p) = true
  pending : s.on (F.CH_LINK_STATUS_LOCK_LOST p) = true ∨ t.pendingCause 35 = true
  rxActive : t.get (F.CH_LANE_MAP_RX_ACTIVE p) = 0
  txActive : t.get (F.CH_LANE_MAP_TX_ACTIVE p) = 0
  rxLanes : t.get (F.CH_LINK_STATUS_RX_LANES p) = 0
  halves : ∀ n ∈ groupLanes p, t.get (F.HP_LANE_STATE_RXS n) = lnTrain ∧ t.get (F.HP_LANE_STATE_TXS n) = lnTrain
  attempts : t.get (F.CH_TRAIN_COUNT_ATTEMPTS p) =
    if s.energy p then s.more (F.CH_TRAIN_COUNT_ATTEMPTS p) else s.get (F.CH_TRAIN_COUNT_ATTEMPTS p)
  lock : ∀ n ∈ groupLanes p, t.get (F.HP_LANE_STATE_CDR_LOCK n) = 0
  ramps : ∀ n ∈ groupLanes p, (t.lane n).before = none ∧ (t.lane n).aim = none
  groupRate : t.get (F.HP_GROUP_STATE_RATE p) = 1
  rate : t.get (F.CH_TRAIN_STATE_RATE p) = 0
  urg : (t.port p).urg = []
  txIdle : (t.port p).txIdle = false
  txDrop : (t.cal p).txDrop = none
  sent : Sent (s.trainSets p tsA) t
  frame : Frame (linkFlds p) s { s with ports := t.ports, cals := t.cals, lanes := t.lanes, tileRx := { s.tileRx with ready := t.tileRx.ready } } t

theorem retile_lanes (s : State) : s.retile.lanes = s.lanes := (retile_writes s).same State.lanes fun _ _ => rfl
theorem retile_cals (s : State) : s.retile.cals = s.cals := (retile_writes s).same State.cals fun _ _ => rfl

theorem State.withOut_cals (s : State) (o : List Out) : (s.withOut o).cals = s.cals := rfl

theorem retile_keeps (s : State) : Keeps [F.RD_BOOT_STATUS_TILE_STATE] s s.retile := fun _ hf => (retile_writes s).get hf

theorem noMouldTile_of_sender {s : State} (hs : s.isSender = true) : s.noMouldTile = false := by
  have hrole : s.role = 1 := beq_iff_eq.mp hs
  simp [State.noMouldTile, hrole]

theorem waitsOut_of_sender {s : State} (hs : s.isSender = true) (p : Nat) : s.waitsOut p = false := by
  rw [State.waitsOut, noMouldTile_of_sender hs, Bool.false_and, Bool.false_and]

theorem linkLeft_frame {p : Nat} (hp : p < 16) (s : State) :
    let t := settle (linkForgotten p (trainAgain p (linkLost p s.fresh))).retile
    Frame (linkFlds p) s { s with ports := t.ports, cals := t.cals, lanes := t.lanes, tileRx := { s.tileRx with ready := t.tileRx.ready } } t := by
  have hwork : LinkWork s.fresh (linkForgotten p (trainAgain p (linkLost p s.fresh))).retile :=
    (((linkLost_linkWork hp s.fresh).trans trainAgain_linkWork).trans (linkForgotten_linkWork p _)).trans (retile_linkWork _)
  have hlost : Keeps (linkFlds p) s (linkLost p s.fresh) := linkLost_keeps hp s.fresh
  exact hwork.frame (((hlost.trans trainAgain_keeps).trans fun f _ => linkForgotten_get p _ f).trans
    ((retile_keeps _).mono (List.forall_mem_singleton.mpr (by simp))))

/-- The registers after the exit that neither training's entry nor TILE_STATE holds. -/
theorem linkExit_get {p : Nat} {s : State} {f : Fld} (hf : 0x1000000 ≤ f.addr) (hstate : (F.CH_TRAIN_STATE_STATE p).sep f = true)
    (hcount : (F.CH_TRAIN_COUNT_ATTEMPTS p).sep f = true) :
    (settle (linkForgotten p (trainAgain p (linkLost p s))).retile).get f = (linkLost p s).get f := by
  rw [settle_get, retile_get _ hf, linkForgotten_get, trainAgain_get hstate hcount]

theorem linkExit_get_lane {p : Nat} {s : State} {f : Fld} (hge : 0x1000000 ≤ f.addr) (hf : laneBlock f.addr) :
    (settle (linkForgotten p (trainAgain p (linkLost p s))).retile).get f = (linkLost p s).get f :=
  linkExit_get hge (Fld.sep_of_port (p := p) (off := 0) rfl (by decide) hf) (Fld.sep_of_port (p := p) (off := 0x18) rfl (by decide) hf)

theorem linkExit_get_rind {p : Nat} {s : State} {f : Fld} (hf : f.addr < 0x1000000) (hne : F.RD_BOOT_STATUS_TILE_STATE.addr ≠ f.addr) :
    (settle (linkForgotten p (trainAgain p (linkLost p s))).retile).get f = (linkLost p s).get f := by
  have hsep : ∀ {g : Fld}, 0x1000000 ≤ g.addr → g.sep f = true := fun hg => Fld.sep_of_addr_ne (Nat.ne_of_gt (Nat.lt_of_lt_of_le hf hg))
  rw [settle_get, retile_keeps _ _ (List.forall_mem_singleton.mpr (Fld.sep_of_addr_ne hne)), linkForgotten_get, trainAgain_get (hsep (atCH_ge p 0))
    (hsep (atCH_ge p 0x18))]

section
variable {p : Nat} {s : State} (hp : p < 16) (hs : s.isSender = true)
include hp hs

/-- The records that the new training starts from. -/
theorem linkLost_again : ∃ l, Writes l (((linkLost p s).setPort p fun x => { x with txIdle := false }).withOut (s.out ++ s.trainSets p tsA))
    (trainAgain p (linkLost p s)) := by
  obtain ⟨l, h⟩ := trainAgain_writes (waitsOut_of_sender ((linkLost_isSender hp s).trans hs) p)
  rw [linkLost_trainSets hp, (linkLost_writes hp s).same State.out fun _ _ => rfl, State.raise_out] at h
  exact ⟨l, h⟩

theorem trainAgain_cals : (trainAgain p (linkLost p s)).cals = s.cals := by
  obtain ⟨_, h⟩ := linkLost_again hp hs
  rw [h.same State.cals fun _ _ => rfl, State.withOut_cals, State.setPort_cals, (linkLost_writes hp s).same State.cals fun _ _ => rfl,
    State.raise_cals]

theorem linkForgotten_isSender : (linkForgotten p (trainAgain p (linkLost p s))).isSender = true := by
  have hne : ∀ {f : Fld}, 0x1000000 ≤ f.addr → f.sep F.RD_DIE_STATE_ROLE = true := fun hf =>
    Fld.sep_of_addr_ne (Nat.ne_of_gt (Nat.lt_of_lt_of_le (by decide) hf))
  have hrole : (linkForgotten p (trainAgain p (linkLost p s))).get F.RD_DIE_STATE_ROLE = s.get F.RD_DIE_STATE_ROLE := by
    rw [linkForgotten_get, trainAgain_get (hne (atCH_ge p 0)) (hne (atCH_ge p 0x18)), linkLost_rind hp s (by decide) (by decide) (by decide)]
  rw [State.isSender, State.role, hrole]
  exact hs

theorem linkExit_eq (hl : s.linked p = true) (hstep : (s.cal p).step = none) :
    linkExit p s = (linkForgotten p (trainAgain p (linkLost p s))).retile := by
  refine linkExit_of_sender hl ?_ (State.tileLike_of_sender (linkForgotten_isSender hp hs))
  rw [State.cal, trainAgain_cals hp hs]
  exact hstep

theorem linkExit_ends (hl : s.linked p = true) (hstep : (s.cal p).step = none) : LinkEnds s p (settle (linkExit p s.fresh)) := by
  have hexit := linkExit_eq hp (s := s.fresh) hs hl hstep
  have hport : ∀ {f : Fld} {off : Nat}, f.addr = atCH p off → (F.CH_TRAIN_STATE_STATE p).sep f = true → off ≠ 0x18 →
      (settle (linkExit p s.fresh)).get f = (linkLost p s.fresh).get f := fun hf h k => by
    rw [hexit, linkExit_get (by rw [hf]; exact atCH_ge p _) h (Fld.sep_of_addr_ne (by rw [hf]; exact fun e => k ((atCH_inj p _ _).mp e).symm))]
  have hmap : ∀ {f : Fld} {off : Nat}, f.addr = atCH p off → off ≠ 0 → off ≠ 0x18 →
      (settle (linkExit p s.fresh)).get f = (linkLost p s.fresh).get f := fun hf h =>
    hport hf (Fld.sep_of_addr_ne (by rw [hf]; exact fun e => h ((atCH_inj p _ _).mp e).symm))
  have hlane : ∀ {f : Fld}, 0x1000000 ≤ f.addr → laneBlock f.addr → (settle (linkExit p s.fresh)).get f = (linkLost p s.fresh).get f :=
    fun hge hf => by rw [hexit, linkExit_get_lane hge hf]
  obtain ⟨hrate, hrx, htx⟩ := linkLost_untrained hp s.fresh
  obtain ⟨l, hagain⟩ := linkLost_again hp (s := s.fresh) hs
  have hrec := hagain.port p
  rw [State.withOut_port, State.port_setPort_same] at hrec
  have hout := hagain.same State.out fun _ _ => rfl
  exact {
    train := by
      rw [hexit, settle_train, State.train, retile_get _ (atCH_ge p 0), linkForgotten_get]
      exact trainAgain_train.trans (by rw [linkLost_energy hp]; rfl)
    lockLost := by
      rw [State.on, hmap (off := 0x1C) rfl (by decide) (by decide)]
      exact linkLost_lockLost hp s.fresh
    pending := (linkLost_pending hp s.fresh).imp_right fun h => by
      rw [hexit, State.pendingCause, linkExit_get_rind (by decide) (by decide), linkExit_get_rind (by decide) (by decide)]
      exact h
    rxActive := (hmap (off := 0x4) rfl (by decide) (by decide)).trans (congrArg Prod.fst hrx)
    txActive := (hmap (off := 0x4) rfl (by decide) (by decide)).trans (congrArg Prod.fst htx)
    rxLanes := (hmap (off := 0x1C) rfl (by decide) (by decide)).trans (linkLost_rxLanes hp s.fresh)
    halves := fun n hn => by
      rw [hlane (atLANE_ge n 0) (laneBlock_lane n (off := 0) (by decide)), hlane (atLANE_ge n 0) (laneBlock_lane n (off := 0) (by decide))]
      exact lanesTrain_halves _ hn
    attempts := by
      rw [hexit, settle_get, retile_get _ (atCH_ge p 0x18), linkForgotten_get, trainAgain_attempts, linkLost_energy hp, State.more, linkLost_attempts hp]
      rfl
    lock := fun n hn => (hlane (atLANE_ge n 0) (laneBlock_lane n (off := 0) (by decide))).trans (lanesTrain_lock _ hp hn)
    ramps := fun n hn => by
      rw [hexit, State.lane, settle_lanes, retile_lanes]
      exact linkForgotten_lane p _ hn
    groupRate := (hlane (atGROUP_ge p 0) (laneBlock_group p (off := 0) (by decide))).trans (lanesTrain_rate _)
    rate := (hport (off := 0) rfl (Fld.sep_of_bits rfl) (by decide)).trans hrate
    urg := by rw [hexit, settle_port, retile_port, linkForgotten_port]
    txIdle := by rw [hexit, settle_port, retile_port, linkForgotten_port, hrec]
    txDrop := by
      rw [hexit, State.cal, settle_cals, retile_cals]
      exact linkForgotten_cal p _
    sent := by
      rw [Sent, hexit, settle_out, retile_out, linkForgotten_out, hout]
      rfl
    frame := by
      rw [hexit]
      exact linkLeft_frame hp s }

end

/-! ### LINK_LOSS and RETRAIN (R164, R172) -/

/-- A port sees its link lost on each of the conditions of R164. -/
theorem lossSeen_iff (s : State) (p : Nat) (e : LossSigns) : s.lossSeen p e = true ↔
    (e.viols ≠ [] ∧ e.viols.length = s.get (F.CH_LINK_STATUS_RX_LANES p) ∧ ∀ v ∈ e.viols, 32 < v) ∨ 2 ≤ e.unaligned ∨ 9352 ≤ e.sinceSkp ∨
      (e.silent = true ∧ ∀ i ∈ s.rxIn p lnActive, s.on (F.HP_LANE_STATE_SIGDET (chainLane p i)) = false) := by
  simp only [State.lossSeen, Bool.or_eq_true, Bool.and_eq_true, Bool.not_eq_true', List.isEmpty_eq_false_iff, beq_iff_eq, List.all_eq_true,
    decide_eq_true_eq, and_assoc, or_assoc]

theorem lossSeen_eq_false {s : State} {p : Nat} {e : LossSigns}
    (hviols : e.viols = [] ∨ e.viols.length ≠ s.get (F.CH_LINK_STATUS_RX_LANES p) ∨ ∃ v ∈ e.viols, v ≤ 32) (hua : e.unaligned < 2)
    (hskp : e.sinceSkp < 9352) (hsil : e.silent = false ∨ ∃ i ∈ s.rxIn p lnActive, s.on (F.HP_LANE_STATE_SIGDET (chainLane p i)) = true) :
    s.lossSeen p e = false := by
  refine Bool.eq_false_iff.mpr fun h => ?_
  obtain ⟨hne, hlen, hall⟩ | h | h | ⟨hs, hall⟩ := (lossSeen_iff s p e).mp h
  · obtain h | h | ⟨v, hv, hle⟩ := hviols
    · exact hne h
    · exact h hlen
    · exact Nat.not_lt.mpr hle (hall v hv)
  · omega
  · omega
  · obtain h | ⟨i, hi, hon⟩ := hsil
    · exact Bool.false_ne_true (h.symm.trans hs)
    · exact Bool.false_ne_true ((hall i hi).symm.trans hon)

section
variable {s : State} {p : Nat} {e : LossSigns}

theorem exec_linkLoss_of_seen (ha : s.acts) (hp : p < 16) (hs : s.isSender = true) (hseen : s.lossSeen p e = true) :
    exec (.linkLoss p e) s = .next (settle (linkExit p s.fresh)) := by
  rw [exec_linkLoss, execLinkLoss, run_onPort ha (State.hasPort_of_sender hs hp), opLinkLoss, State.fresh_v_lossSeen, hseen, if_pos rfl]

theorem exec_linkLoss_of_unseen (ha : s.acts) (hseen : s.lossSeen p e = false) : exec (.linkLoss p e) s = .next (settle s.fresh) := by
  have hop : onPort p (opLinkLoss p e) s.fresh = s.fresh := by
    rw [onPort, opLinkLoss, State.fresh_v_lossSeen, hseen]
    exact ite_self _
  rw [exec_linkLoss, execLinkLoss, run_acts _ ha, hop]

theorem exec_retrain_of_answers (ha : s.acts) (hp : p < 16) (hw : s.answersAt (atCH p 0x88) = true) :
    exec (.retrain p) s = .next (settle (linkExit p s.fresh)) := by
  have hwindow : s.fresh.answersAt (atCH p 0x88) = true := hw
  rw [exec_retrain, execRetrain, runRind_acts _ (acts_rind ha), only, decide_eq_true hp, if_pos rfl, atWindow, hwindow, if_pos rfl, opRetrain]

end

end Sys2Proof.Machine
end

section
/-!
PROOFS. Chapters 05 and 07: a spare lane retired, and too many errors of a port (R162, R163, R211, R212).
-/

namespace Sys2Proof.Machine

open Sys2Proof

/-! ### A spare lane retired (R162, R211) -/

/-- Writing chain registers beside CH_ENUM leaves the code that a part sends as its own. -/
theorem Writes.ownCode {l : List Fld} {s t : State} (h : Writes l s t) (hge : ∀ g ∈ l, 0x1000000 ≤ g.addr) (haddr : ∀ g ∈ l, g.addr ≠ atCH 0 0xC) :
    t.ownCode = s.ownCode := by
  have hrind : ∀ f : Fld, f.addr < 0x1000000 → t.get f = s.get f := fun f hf =>
    h.get_of_addr fun g hg => Nat.ne_of_gt (Nat.lt_of_lt_of_le hf (hge g hg))
  have hsend : t.isSender = s.isSender := by rw [State.isSender, State.role, hrind _ (by decide), State.isSender, State.role]
  have hend : t.senderEnd = s.senderEnd := hrind _ (by decide)
  rw [State.ownCode, hsend, hend, h.addr haddr, State.ownCode]

/-- The registers of a port whose spare lane goes out of use. -/
abbrev retireFlds (p i : Nat) : List Fld :=
  [F.HP_LANE_STATE_RXS (chainLane p i), F.HP_LANE_STATE_SIGDET (chainLane p i), F.HP_LANE_STATE_CDR_LOCK (chainLane p i), F.CH_LANE_MAP_RX_SPARE p,
    F.HP_CAL_MAP_RX_SPARE p, F.CH_LINK_STATUS_RETIRED p, F.HP_CAL_STATUS_IN_PLACE p]

theorem retireFlds_ge (p i : Nat) : ∀ g ∈ retireFlds p i, 0x1000000 ≤ g.addr := by
  simp only [List.forall_mem_cons, List.not_mem_nil, false_implies, implies_true, and_true]
  exact ⟨atLANE_ge _ 0, atLANE_ge _ 0, atLANE_ge _ 0, atCH_ge p 4, atGROUP_ge p 0x1C, atCH_ge p 0x1C, atGROUP_ge p 0x10⟩

theorem retireFlds_ne_enum (p i : Nat) : ∀ g ∈ retireFlds p i, g.addr ≠ atCH 0 0xC := by
  have hblock : ∀ {a : Nat}, laneBlock a → a ≠ atCH 0 0xC := fun ha h => not_laneBlock_port 0 (by decide) (h ▸ ha)
  have hlane := hblock (laneBlock_lane (chainLane p i) (off := 0) (by decide))
  simp only [List.forall_mem_cons, List.not_mem_nil, false_implies, implies_true, and_true]
  exact ⟨hlane, hlane, hlane, atCH_ne p 0 (by decide), hblock (laneBlock_group p (by decide)), atCH_ne p 0 (by decide),
    hblock (laneBlock_group p (by decide))⟩

section
variable (p i : Nat) (s : State)

/-- The lane noted as retired in CH_LINK_STATUS. -/
def retiredShown : State := s.put (F.CH_LINK_STATUS_RETIRED p) (setBit (s.get (F.CH_LINK_STATUS_RETIRED p)) i)

/-- The lane and the port's maps when the spare lane is out of use. -/
def spareRetired : State :=
  showMode p (((setRxHalf (chainLane p i) lnRetired s).put (F.CH_LANE_MAP_RX_SPARE p) 0).put (F.HP_CAL_MAP_RX_SPARE p) 7)

theorem setRxHalf_retired (n : Nat) (s : State) : setRxHalf n lnRetired s =
    ((s.put (F.HP_LANE_STATE_SIGDET n) 0).put (F.HP_LANE_STATE_CDR_LOCK n) 0).put (F.HP_LANE_STATE_RXS n) lnRetired := rfl

theorem spareRetired_writes : Writes (retireFlds p i) s (spareRetired p i s) := by
  rw [spareRetired, setRxHalf_retired, showMode]
  exact ((((((Writes.refl _ s).put (by simp) 0).put (by simp) 0).put (by simp) lnRetired).put (by simp) 0).put (by simp) 7).put (by simp) _

theorem retiredShown_writes : Writes (retireFlds p i) s (retiredShown p i s) := (Writes.refl _ s).put (by simp) _

/-- What the port shows of the lane. -/
theorem spareRetired_shown : (spareRetired p i s).get (F.HP_LANE_STATE_RXS (chainLane p i)) = lnRetired ∧
    (spareRetired p i s).get (F.HP_LANE_STATE_SIGDET (chainLane p i)) = 0 ∧
    (spareRetired p i s).get (F.HP_LANE_STATE_CDR_LOCK (chainLane p i)) = 0 ∧ (spareRetired p i s).get (F.CH_LANE_MAP_RX_SPARE p) = 0 ∧
    (spareRetired p i s).get (F.HP_CAL_MAP_RX_SPARE p) = 7 := by
  have hport : ∀ {f : Fld}, f.addr = atLANE (chainLane p i) 0 → (F.CH_LANE_MAP_RX_SPARE p).sep f = true := fun hf =>
    Fld.sep_of_port (p := p) (off := 4) rfl (by decide) (by rw [hf]; exact laneBlock_lane _ (by decide))
  have hgroup : ∀ {f g : Fld} {off : Nat}, off < 0x20 → f.addr = atLANE (chainLane p i) 0 → g.addr = atGROUP p off → g.sep f = true :=
    fun hoff hf hg => Fld.sep_of_addr_ne (by
      rw [hf, hg]
      exact atGROUP_ne_lane p _ hoff)
  have hlane : ∀ f : Fld, f.addr = atLANE (chainLane p i) 0 → (spareRetired p i s).get f = (setRxHalf (chainLane p i) lnRetired s).get f := fun f hf => by
    rw [spareRetired, showMode, State.get_putB_sep _ _ _ (hgroup (off := 0x10) (by decide) hf rfl),
      State.get_put_sep _ _ _ _ (hgroup (off := 0x1C) (by decide) hf rfl), State.get_put_sep _ _ _ _ (hport hf)]
  have hmode : atGROUP p 0x10 ≠ atGROUP p 0x1C := by
    unfold atGROUP
    split <;> omega
  refine ⟨?_, ?_, ?_, ?_, ?_⟩
  · rw [hlane _ rfl, setRxHalf_retired]
    exact State.get_put_fit _ _ rfl (by decide : lnRetired < 2 ^ 4)
  · rw [hlane _ rfl, setRxHalf_retired, State.get_put_sep _ _ _ _ (Fld.sep_of_bits rfl), State.get_put_sep _ _ _ _ (Fld.sep_of_bits rfl)]
    exact State.get_put_same _ _ _ rfl
  · rw [hlane _ rfl, setRxHalf_retired, State.get_put_sep _ _ _ _ (Fld.sep_of_bits rfl)]
    exact State.get_put_same _ _ _ rfl
  · have hsep : ∀ {g : Fld}, laneBlock g.addr → g.sep (F.CH_LANE_MAP_RX_SPARE p) = true := fun hg =>
      Fld.sep_of_laneBlock hg (not_laneBlock_port p (off := 4) (by decide))
    rw [spareRetired, showMode, State.get_putB_sep _ _ _ (hsep (laneBlock_group p (off := 0x10) (by decide))),
      State.get_put_sep _ _ _ _ (hsep (laneBlock_group p (off := 0x1C) (by decide)))]
    exact State.get_put_same _ _ _ rfl
  · rw [spareRetired, showMode, State.get_putB_sep _ _ _ (Fld.sep_of_addr_ne hmode)]
    exact State.get_put_fit _ _ rfl (by decide : 7 < 2 ^ 3)

theorem spareRetired_retired : (spareRetired p i s).get (F.CH_LINK_STATUS_RETIRED p) = s.get (F.CH_LINK_STATUS_RETIRED p) := by
  have hblock : ∀ {g : Fld}, laneBlock g.addr → g.sep (F.CH_LINK_STATUS_RETIRED p) = true := fun hg =>
    Fld.sep_of_laneBlock hg (not_laneBlock_port p (off := 0x1C) (by decide))
  have hmap : (F.CH_LANE_MAP_RX_SPARE p).sep (F.CH_LINK_STATUS_RETIRED p) = true := Fld.sep_of_addr_ne (atCH_ne p p (by decide))
  rw [spareRetired, showMode, State.get_putB_sep _ _ _ (hblock (laneBlock_group p (off := 0x10) (by decide))),
    State.get_put_sep _ _ _ _ (hblock (laneBlock_group p (off := 0x1C) (by decide))), State.get_put_sep _ _ _ _ hmap]
  exact (setRxHalf_laneWork (chainLane p i) s lnRetired).get _ (not_laneBlock_port p (off := 0x1C) (by decide))

theorem retiredShown_bit {i : Nat} (hi : i < 5) : ((retiredShown p i s).get (F.CH_LINK_STATUS_RETIRED p)).testBit i = true := by
  have hwidth : (F.CH_LINK_STATUS_RETIRED p).width = 5 := rfl
  rw [retiredShown, State.get_put_same _ _ _ rfl, hwidth, Nat.testBit_mod_two_pow, decide_eq_true hi, setBit_self, Bool.and_self]

theorem retiredShown_rxIn (st : Nat) : (retiredShown p i s).rxIn p st = s.rxIn p st := by
  have hget : ∀ n, (retiredShown p i s).get (F.HP_LANE_STATE_RXS n) = s.get (F.HP_LANE_STATE_RXS n) := fun n =>
    State.get_put_sep _ _ _ _ (Fld.sep_of_port (p := p) (off := 0x1C) rfl (by decide) (laneBlock_lane n (off := 0) (by decide)))
  unfold State.rxIn
  simp only [hget]

end

/-! ### LANE_RETIRE of a spare lane (R162, R211) -/

theorem sendCmd_beginStep (p op logical new old lanes : Nat) {c : Nat → CalStep} (hid : ∀ k, (c k).id = k) (s : State) :
    ∃ cs, sendCmd p op logical new old lanes (beginStep p c s) =
      ({ s with cals := cs }).send (.ctrl p (laneCmd s.ownCode op (((s.cal p).lastId + 1) % 256) logical new old lanes)) := by
  have hcal : ((beginStep p c s).cal p).step = some (c (((s.cal p).lastId + 1) % 256)) := by
    rw [beginStep, State.cal_setCal, if_pos rfl]
  rw [sendCmd, hcal]
  dsimp only
  rw [hid]
  exact ⟨_, rfl⟩

/-- The records of a port on which a lane's retirement is noted: the event, and the lane's errors forgotten. -/
def retireNoted (p i : Nat) (s : State) : State :=
  (s.logEv 2 (hoopOf p) 0x0402 (chainLane p i) 0).setPort p fun x => { x with laneErr := Tab.set (fun _ => []) i [] x.laneErr }

/-- A port's record and a register are changed in either order. -/
theorem put_setPort (s : State) (p : Nat) (f : Port → Port) (g : Fld) (v : Nat) : (s.setPort p f).put g v = (s.put g v).setPort p f := rfl

section
variable {p i : Nat} {s : State}

theorem retireNoted_records (hroom : s.log.queue.length < 64) :
    ∃ pt lg, retireNoted p i s = { s with ports := pt, log := lg } ∧ lg.queue.length = s.log.queue.length + 1 := by
  refine ⟨(retireNoted p i s).ports, (retireNoted p i s).log, ?_, ?_⟩
  · rw [retireNoted, State.logEv_of_room _ _ _ _ _ hroom]
    rfl
  · simp [retireNoted, State.logEv, hroom]

theorem retiredShown_setPort (f : Port → Port) (s : State) : retiredShown p i (s.setPort p f) = (retiredShown p i s).setPort p f :=
  put_setPort _ _ _ _ _

theorem beginRetire_spare (hstep : (s.cal p).step = none) (hroom : s.log.queue.length < 64) (hspare : s.rxIn p lnSpare = [i]) :
    beginRetire p i 0 s = retireSpare p i (retiredShown p i (retireNoted p i s)) := by
  have hrx : (retiredShown p i (retireNoted p i s)).rxIn p lnSpare = [i] := by
    obtain ⟨_, _, hrec, -⟩ := retireNoted_records (p := p) (i := i) hroom
    rw [retiredShown_rxIn, hrec]
    exact hspare
  rw [retireNoted, retiredShown_setPort] at hrx ⊢
  rw [beginRetire, calAbandon_of_none hstep]
  dsimp only
  rw [← retiredShown, hrx]
  exact if_pos rfl

theorem retireSpare_eq (p i : Nat) (s : State) : ∃ cs, retireSpare p i s = ({ spareRetired p i s with cals := cs }).send
    (.ctrl p (laneCmd (spareRetired p i s).ownCode cmdRetire ((((spareRetired p i s).cal p).lastId + 1) % 256) 0 0 i 0)) :=
  sendCmd_beginStep p cmdRetire 0 0 i 0 (c := fun id => { id := id, lane := i, retiring := true }) (fun _ => rfl) _

/-- The frame of a command that logs, changes records of ports and groups, writes registers and sends one packet. -/
theorem Writes.loggedFrame {l : List Fld} {v t : State} {pt : Tab Port} {lg : Elog} (h : Writes l v t)
    (hv : v = { s.fresh with ports := pt, log := lg }) (cs : Tab Cal) (o : Out) :
    let u := settle (({ t with cals := cs } : State).send o)
    Frame l s { s with log := u.log, cals := u.cals, ports := u.ports } u ∧ Sent [o] u ∧ u.log = lg ∧
      ∀ f : Fld, u.get f = t.get f := by
  subst hv
  obtain ⟨⟨_, rfl⟩, hkeeps⟩ := h
  exact ⟨⟨hkeeps, rfl⟩, rfl, rfl, fun _ => rfl⟩

theorem opLaneRetire_of_spare (hp : p < 16) (hl : s.linked p = true) (hi : i < 5) (hspare : s.rxIn p lnSpare = [i])
    (hrate : overRate (Tab.get (fun _ => []) (s.port p).laneErr i) = true) (hstep : (s.cal p).step = none) (hroom : s.log.queue.length < 64) :
    opLaneRetire p i s = retireSpare p i (retiredShown p i (retireNoted p i s)) := by
  have hlane : groupLane p i = chainLane p i := if_pos hp
  have hst : s.get (F.HP_LANE_STATE_RXS (chainLane p i)) = lnSpare := by
    have hmem : i ∈ s.rxIn p lnSpare := by simp [hspare]
    rw [State.rxIn, List.mem_filter, beq_iff_eq, hlane] at hmem
    exact hmem.2
  have hnone : s.retires p = false := by rw [State.retires, hstep, Option.any_none]
  have hop : opLaneRetire p i s = retireLane p i 0 s := by
    rw [opLaneRetire, hst, hl, decide_eq_true hi, hrate, beq_self_eq_true, Bool.or_true]
    rfl
  rw [hop, retireLane, hnone, Bool.not_false, if_pos rfl, beginRetire_spare hstep hroom hspare]

/-- The retirement of a spare lane with too many errors (R162). -/
theorem spare_retired (ha : s.acts) (hport : s.hasPort p = true) (hi : i < 5) (hl : s.linked p = true) (hspare : s.rxIn p lnSpare = [i])
    (hrate : overRate (Tab.get (fun _ => []) (s.port p).laneErr i) = true) (hstep : (s.cal p).step = none) (hroom : s.log.queue.length < 64) :
    ∃ t, exec (.laneRetire p i) s = .next t ∧ t.get (F.HP_LANE_STATE_RXS (chainLane p i)) = lnRetired ∧ t.get (F.CH_LANE_MAP_RX_SPARE p) = 0 ∧
      t.get (F.HP_CAL_MAP_RX_SPARE p) = 7 ∧ (t.get (F.CH_LINK_STATUS_RETIRED p)).testBit i = true ∧
      t.log.queue.length = s.log.queue.length + 1 ∧
      Sent [.ctrl p (laneCmd s.ownCode cmdRetire (((s.cal p).lastId + 1) % 256) 0 0 i 0)] t ∧
      t.get (F.HP_LANE_STATE_SIGDET (chainLane p i)) = 0 ∧ t.get (F.HP_LANE_STATE_CDR_LOCK (chainLane p i)) = 0 ∧
      Frame (retireFlds p i) s { s with log := t.log, cals := t.cals, ports := t.ports } t := by
  have hop := opLaneRetire_of_spare (s := s.fresh) (State.hasPort_lt hport) hl hi hspare hrate hstep hroom
  obtain ⟨pt, lg, hnoted, hlen⟩ := retireNoted_records (p := p) (i := i) (s := s.fresh) hroom
  have hw := (retiredShown_writes p i (retireNoted p i s.fresh)).trans (spareRetired_writes p i _)
  obtain ⟨hrxs, hsig, hcdr, hmap, hcal⟩ := spareRetired_shown p i (retiredShown p i (retireNoted p i s.fresh))
  have hbit := (congrArg (Nat.testBit · i) (spareRetired_retired p i _)).trans (retiredShown_bit p (retireNoted p i s.fresh) hi)
  obtain ⟨cs, hsend⟩ := retireSpare_eq p i (retiredShown p i (retireNoted p i s.fresh))
  have hown : (spareRetired p i (retiredShown p i (retireNoted p i s.fresh))).ownCode = s.ownCode := by
    rw [hw.ownCode (retireFlds_ge p i) (retireFlds_ne_enum p i), hnoted]
    rfl
  have hid : (spareRetired p i (retiredShown p i (retireNoted p i s.fresh))).cal p = s.cal p := by
    rw [hw.same (fun t : State => t.cal p) fun _ _ => rfl, hnoted]
    rfl
  rw [hown, hid] at hsend
  obtain ⟨hframe, hsent, hlog, hget⟩ := hw.loggedFrame hnoted cs (.ctrl p (laneCmd s.ownCode cmdRetire (((s.cal p).lastId + 1) % 256) 0 0 i 0))
  refine ⟨_, ?_, (hget _).trans hrxs, (hget _).trans hmap, (hget _).trans hcal, (congrArg (Nat.testBit · i) (hget _)).trans hbit, ?_, hsent,
    (hget _).trans hsig, (hget _).trans hcdr, hframe⟩
  · rw [exec_laneRetire, execLaneRetire, run_onPort ha hport, only, decide_eq_true hi, if_pos rfl, hop, hsend]
  · rw [hlog]
    exact hlen

end

/-! ### PORT_CRC (R163) -/

/-- A rotation asked for. -/
def Cal.forced (x : Cal) : Cal := { x with requested := true, rotDue := true, spare0 := none }

/-- The port's errors and the rotation shown, and the rotation asked for. -/
def crcShown (p : Nat) (s : State) : State := (s.flag (F.CH_LINK_STATUS_PORT_CRC p)).put (F.HP_CAL_STATUS_REQUESTED p) 1
def crcForced (p : Nat) (s : State) : State := (crcShown p s).setCal p Cal.forced

theorem crcShown_writes (p : Nat) (s : State) : Writes [F.CH_LINK_STATUS_PORT_CRC p, F.HP_CAL_STATUS_REQUESTED p] s (crcShown p s) :=
  ((Writes.refl _ s).put (by simp) 1).put (by simp) 1

theorem crcForced_get (p : Nat) (s : State) (f : Fld) : (settle (crcForced p s)).get f = (crcShown p s).get f := by
  rw [settle_get, crcForced, State.setCal_get]

theorem opCalForce_crc (p : Nat) (s : State) : opCalForce p (s.flag (F.CH_LINK_STATUS_PORT_CRC p)) = crcForced p s := rfl

theorem crcShown_shown (p : Nat) (s : State) :
    (crcShown p s).get (F.CH_LINK_STATUS_PORT_CRC p) = 1 ∧ (crcShown p s).get (F.HP_CAL_STATUS_REQUESTED p) = 1 := by
  have hsep : (F.HP_CAL_STATUS_REQUESTED p).sep (F.CH_LINK_STATUS_PORT_CRC p) = true :=
    Fld.sep_of_laneBlock (laneBlock_group p (off := 0x10) (by decide)) (not_laneBlock_port p (off := 0x1C) (by decide))
  refine ⟨?_, State.get_put_fit _ _ rfl (by decide : 1 < 2 ^ 1)⟩
  rw [crcShown, State.get_put_sep _ _ _ _ hsep]
  exact State.get_put_fit _ _ rfl (by decide : 1 < 2 ^ 1)

/-- Too many errors of a port are shown once, and ask for a rotation. -/
theorem portCrc_shown {s : State} {p : Nat} (ha : s.acts) (hport : s.hasPort p = true) (hrate : overRate (s.port p).portErr = true)
    (hoff : s.on (F.CH_LINK_STATUS_PORT_CRC p) = false) :
    ∃ t, exec (.portCrc p) s = .next t ∧ t.get (F.CH_LINK_STATUS_PORT_CRC p) = 1 ∧ t.get (F.HP_CAL_STATUS_REQUESTED p) = 1 ∧
      (t.cal p).requested = true ∧ Sent [] t ∧
      Frame [F.CH_LINK_STATUS_PORT_CRC p, F.HP_CAL_STATUS_REQUESTED p] s { s with cals := t.cals } t := by
  have hop : opPortCrc p s.fresh = crcForced p s.fresh := by
    have hcond : (overRate (s.fresh.port p).portErr && !s.fresh.on (F.CH_LINK_STATUS_PORT_CRC p)) = true := by
      rw [Bool.and_eq_true, Bool.not_eq_true']
      exact ⟨hrate, hoff⟩
    rw [opPortCrc, if_pos hcond, opCalForce_crc]
  obtain ⟨hcrc, hreq⟩ := crcShown_shown p s.fresh
  have hforce : Writes _ (s.fresh.setCal p Cal.forced) (crcForced p s.fresh) := (crcShown_writes p s.fresh).map (State.setCal · p Cal.forced) fun _ _ => rfl
  refine ⟨settle (crcForced p s.fresh), (exec_portCrc p s).trans ((run_onPort ha hport).trans (by rw [hop])), (crcForced_get p _ _).trans hcrc, (crcForced_get p _ _).trans hreq, ?_, hforce.sent, hforce.frame rfl ?_⟩
  · rw [State.cal, settle_cals, ← State.cal, crcForced, State.cal_setCal, if_pos rfl, Cal.forced]
  · rw [settle_cals, hforce.same State.cals fun _ _ => rfl]
    rfl

end Sys2Proof.Machine
end

section
/-!
PROOFS. Chapters 05, 07 and 14: segments and links (R148, R149, R161 to R164).
-/

namespace Sys2Proof.Machine

open Sys2Proof

section
variable {s : State} {p : Nat} {cols : List (List Nat)} {r0 r1 r2 r3 : Bool} {r : SegmentIn} (ha : s.acts) (hport : s.hasPort p = true)
  (ht : s.isTile = true) (hl : s.linked p = true)
  (hread : readSegment (s.get (F.CH_LINK_STATUS_RX_LANES p)) [r0, r1, r2, r3] (s.rxCols p cols) = some r)
  (hskp : skpSets (s.get (F.CH_LINK_STATUS_RX_LANES p)) [r0, r1, r2, r3] (s.rxCols p cols) = 0)
include ha hport ht hl hread hskp

/-- An own segment that passes every test (R148, R149). -/
theorem segment_taken (hgood : r.eop = true ∧ r.crcOk = true ∧ r.lenOk = true ∧ r.viol = []) (hown : s.addr ≠ 0 ∧ r.seg.tile = s.addr)
    (hready : s.tileRx.ready = true ∧ s.tileRx.rxOk = true ∧ s.links.wheyStopped = false)
    (hhead : s.headerGood r.seg = true ∧ r.seg.phase < s.phases) :
    ∃ t, exec (.segmentRx p cols r0 r1 r2 r3) s = .next t ∧ t.get (F.CH_SEG_COUNT_SEGS p) = s.wrap (F.CH_SEG_COUNT_SEGS p) ∧
      t.tileRx = (acceptSegment (p == 1) r.seg s).tileRx ∧ Sent [] t ∧
      (∀ k ∈ List.range (s.get (F.CH_LINK_STATUS_RX_LANES p)), k ∉ r.viol → t.get (F.HP_LANE_STATE_CDR_LOCK (s.rxLane p k)) = 1) ∧
      Frame (segFlds s p (s.get (F.CH_LINK_STATUS_RX_LANES p))) s { s with tileRx := t.tileRx } t := by
  have htake := takeSegment_relock_own (p := p) (m := s.get (F.CH_LINK_STATUS_RX_LANES p)) (s := s.fresh) hgood
    ((ownSegment_iff (s := s.fresh) (State.tileLike_of_tile ht) r.seg).mpr hown) hready hhead
  have hw := segTaken_writes (p := p) (m := s.get (F.CH_LINK_STATUS_RX_LANES p)) (p == 1) r.seg r.viol s.fresh
  refine ⟨_, (exec_segmentRx_of_read ha hport hl hread hskp).trans (by rw [htake]), ?_, ?_, hw.sent, fun k hk hv => ?_, segTaken_frame _ _ _ s⟩
  · rw [settle_get, segTaken_get, segCounted_count]
    rfl
  · rw [settle_tileRx, segTaken_tileRx]
    rfl
  · rw [settle_get, segTaken_get]
    exact segCounted_lock r.viol s.fresh hk hv

/-- A segment for another tile (R148). -/
theorem segment_passed (hother : s.addr = 0 ∨ r.seg.tile ≠ s.addr) (hkind : r.eop = false ∨ (r.crcOk = true ∧ r.lenOk = true ∧ r.viol = []))
    (hclean : symViolation ∉ r.syms) :
    ∃ t, exec (.segmentRx p cols r0 r1 r2 r3) s = .next t ∧ t.get (F.CH_SEG_COUNT_SEGS p) = s.wrap (F.CH_SEG_COUNT_SEGS p) ∧
      t.get (F.CH_SEG_ERR_UPSTREAM p) = (if r.eop then s.get (F.CH_SEG_ERR_UPSTREAM p) else s.more (F.CH_SEG_ERR_UPSTREAM p)) ∧
      Sent (if s.linked (1 - p) then [.relay (1 - p) (r.syms.dropLast ++ [if r.eop then symEop else symEdb])] else []) t ∧
      (∀ k ∈ List.range (s.get (F.CH_LINK_STATUS_RX_LANES p)), k ∉ r.viol → t.get (F.HP_LANE_STATE_CDR_LOCK (s.rxLane p k)) = 1) ∧
      Frame (upstreamFlds s p (s.get (F.CH_LINK_STATUS_RX_LANES p))) s s t := by
  have hown : s.fresh.ownSegment r.seg = false := by
    rw [Bool.eq_false_iff, ne_eq, ownSegment_iff (s := s.fresh) (State.tileLike_of_tile ht)]
    exact fun h => hother.elim h.1 fun hne => hne h.2
  have htake := takeSegment_relock_other (p := p) (m := s.get (F.CH_LINK_STATUS_RX_LANES p)) (s := s.fresh) (State.tileLike_of_tile ht) hown hkind hclean
  obtain ⟨hsent, hframe⟩ := segPassed_settled p (s.get (F.CH_LINK_STATUS_RX_LANES p)) r
    (s.fresh.out ++ if s.fresh.linked (1 - p) then [.relay (1 - p) (r.syms.dropLast ++ [if r.eop then symEop else symEdb])] else []) s
  refine ⟨_, (exec_segmentRx_of_read ha hport hl hread hskp).trans (by rw [htake]), ?_, ?_, hsent, fun k hk hv => ?_, hframe⟩
  · rw [settle_get, State.withOut_get, segUpstream_count]
    rfl
  · rw [settle_get, State.withOut_get, segUpstream_errors]
    rfl
  · rw [settle_get, State.withOut_get]
    exact segUpstream_lock (s := s.fresh) hk hv

/-- An own segment whose check or length is wrong (R161). -/
theorem segment_faulted (hown : s.addr ≠ 0 ∧ r.seg.tile = s.addr) (hbad : r.eop = true ∧ r.viol = [] ∧ (r.crcOk = false ∨ r.lenOk = false)) :
    ∃ t, exec (.segmentRx p cols r0 r1 r2 r3) s = .next t ∧ t.get (F.CH_SEG_ERR_LOCAL p) = s.more (F.CH_SEG_ERR_LOCAL p) ∧
      (t.port p).portErr = (s.wrap (F.CH_SEG_COUNT_SEGS p) :: (s.port p).portErr).take 17 ∧ Sent [] t ∧
      (∀ k ∈ List.range (s.get (F.CH_LINK_STATUS_RX_LANES p)), k ∉ r.viol → t.get (F.HP_LANE_STATE_CDR_LOCK (s.rxLane p k)) = 1) ∧
      Frame (localFlds s p (s.get (F.CH_LINK_STATUS_RX_LANES p))) s
        { s with tileRx := { s.tileRx with segErrs := min (s.tileRx.segErrs + 1) 0xFFFF }, ports := t.ports } t := by
  obtain ⟨heop, hviol, hwhich⟩ := hbad
  have htake := takeSegment_relock_bad (p := p) (m := s.get (F.CH_LINK_STATUS_RX_LANES p)) (s := s.fresh) (State.tileLike_of_tile ht)
    ((ownSegment_iff (s := s.fresh) (State.tileLike_of_tile ht) r.seg).mpr hown) heop hviol hwhich
  obtain ⟨hcount, herr, hsent, hframe⟩ := segLocal_settled p (s.get (F.CH_LINK_STATUS_RX_LANES p)) (s.wrap (F.CH_SEG_COUNT_SEGS p)) r.viol s
  exact ⟨_, (exec_segmentRx_of_read ha hport hl hread hskp).trans (by rw [htake]; rfl), hcount, herr, hsent,
    fun k hk hv => segLocal_lock hk hv _ s.fresh, hframe⟩

end

/-- Settles O14: each event's effect is that of the lemma about its command; at a sender LINK_LOSS and RETRAIN both end the link as `linkExit_ends` says. -/
theorem segmentsAndLinks : Obligations.SegmentsAndLinks := by
  refine ⟨?_, ?_, ?_, ?_, ?_, ?_, ?_, ?_, ?_, ?_⟩
  · intro s p cols r0 r1 r2 r3 r g k ha hport ht hl hread hskp hgood hown hready hhead
    obtain ⟨t, hexec, hcount, htile, hsent, hlock, hframe⟩ := segment_taken ha hport ht hl hread hskp hgood hown hready hhead
    have hcover := acceptSegment_cover (p == 1) r.seg s
    simp only [beq_iff_eq] at hcover
    refine ⟨t, hexec, hcount, fun hdir => ?_, ?_, hsent, hlock, hframe⟩
    · rw [htile]
      exact acceptSegment_cur (p == 1) r.seg s hdir
    · rw [htile]
      exact hcover
  · intro s p cols r0 r1 r2 r3 r ha hport ht hl hread hskp hother hkind hclean
    exact segment_passed ha hport ht hl hread hskp hother hkind hclean
  · intro s p cols r0 r1 r2 r3 r ha hport ht hl hread hskp hown hbad
    exact segment_faulted ha hport ht hl hread hskp hown hbad
  · exact fun s ha ht hrx hdue hmiss hrows => reception_whole ha ht hrx hdue hmiss hrows
  · intro s m ha ht hrx hdue
    exact reception_repeated ha ht hrx hdue
  · exact fun s p i ha hport hi hl hspare hrate hstep hroom => spare_retired ha hport hi hl hspare hrate hstep hroom
  · exact fun s p ha hport hrate hoff => portCrc_shown ha hport hrate hoff
  · intro s p e ha hsigns hp hs hl hstep
    have h := linkExit_ends hp hs hl hstep
    refine ⟨_, exec_linkLoss_of_seen ha hp hs ((lossSeen_iff s p e).mpr hsigns), h.train, ⟨h.lockLost, h.pending⟩, h.rxActive, h.txActive, h.rxLanes,
      fun i hi => h.halves _ ?_, h.attempts, fun n hn => ⟨h.lock n hn, h.ramps n hn⟩, h.groupRate, h.rate, h.urg, h.txIdle, h.txDrop, h.sent, h.frame⟩
    rw [groupLanes_port hp]
    exact List.mem_map_of_mem hi
  · intro s p e ha hp hviols hlate hsil
    exact ⟨_, exec_linkLoss_of_unseen ha (lossSeen_eq_false hviols hlate.1 hlate.2 hsil), rfl, (Writes.refl [] s.fresh).frame rfl rfl⟩
  · intro s p ha hp hs hw hl hstep
    have h := linkExit_ends hp hs hl hstep
    exact ⟨_, exec_retrain_of_answers ha hp hw, h.train, h.lockLost, h.rxActive, h.txActive, h.attempts, fun n hn => ⟨h.lock n hn, h.ramps n hn⟩,
      h.groupRate, h.rate, h.urg, h.txIdle, h.txDrop, h.sent, h.frame⟩

end Sys2Proof.Machine
end

section
/-!
PROOFS. Chapter 06: references, locks and settings of a lane (R177, R179 to R181, R184, R186, R195).
-/

namespace Sys2Proof.Machine

open Sys2Proof

/-! ### Commands that name a lane or a group (R6, R9) -/

section
variable {s : State} {b : Bool} {f : State → State} {a : Nat}

theorem run_only (ha : s.acts) (hb : b = true) : run (only b f) s = .next (settle (f s.fresh)) := by
  rw [run_acts _ ha, only_pos _ hb]

theorem runRind_only_atWindow (ha : s.acts) (hb : b = true) (hw : s.answersAt a = true) :
    runRind (only b (atWindow a f)) s = .next (settle (f s.fresh)) := by
  rw [runRind_acts _ (acts_rind ha), only_pos _ hb, atWindow, State.fresh_v_answersAt, if_pos hw]

theorem runRindF_onlyE_withWord {v : Word} (ha : s.acts) (hb : b = true) (hok : s.wordOk a v = true) :
    runRindF (onlyE b (withWord a v f)) s = .next (settle (f s.fresh)) := by
  subst hb
  exact runRindF_ok _ (acts_rind ha) (withWord_ok f hok)

end

/-! ### Registers and records of a lane -/

@[simp] theorem atLANE_offset_inj (n a b : Nat) : atLANE n a = atLANE n b ↔ a = b := by
  unfold atLANE
  omega

@[simp] theorem atGROUP_offset_inj (g a b : Nat) : atGROUP g a = atGROUP g b ↔ a = b := by
  unfold atGROUP
  split <;> omega

/-- The registers of groups lie apart from those of lanes. -/
theorem atGROUP_ne_laneReg (g n : Nat) {a b : Nat} (ha : a < 0x20) (hb : b < 0x40) : atGROUP g a ≠ atLANE n b := by
  unfold atGROUP atLANE dieBase
  split <;> omega

theorem Fld.of_eq_bits (f : Fld) (w : Word) : f.of w = bits w.toNat f.hi f.lo := by
  rw [Fld.of, bits, Nat.shiftRight_eq_div_pow, Fld.width]

/-- A field set to its bits of a written word. -/
theorem State.get_put_bits (s : State) (f : Fld) (v : Word) (h : f.ok = true) : (s.put f (bits v.toNat f.hi f.lo)).get f = f.of v := by
  rw [← Fld.of_eq_bits, State.get_put_fit f _ h (Fld.of_lt f v)]

/-- A field of one bit in a word. -/
theorem Fld.of_one_bit (f : Fld) (w : Word) (h : f.hi = f.lo) : f.of w = if w.getLsbD f.lo then 1 else 0 := by
  have hbits : bits w.toNat f.hi f.lo = (w.toNat.testBit f.lo).toNat := by
    rw [bits, h, Nat.add_sub_cancel_left, pow_one, Nat.toNat_testBit]
  rw [Fld.of_eq_bits, hbits]
  change (w.getLsbD f.lo).toNat = _
  cases w.getLsbD f.lo <;> rfl

theorem State.get_put_zero (s : State) (f : Fld) (h : f.ok = true) : (s.put f 0).get f = 0 :=
  State.get_put_fit f 0 h (Nat.two_pow_pos _)

theorem State.get_put_one (s : State) (f : Fld) (h : f.ok = true) : (s.put f 1).get f = 1 :=
  State.get_put_fit f 1 h (Fld.width_pos f h)

/-- Clearing the top bit of a word, as a write of a register whose bit 31 is a command stores it. -/
theorem ofNat_mod_eq_and (v : Word) : BitVec.ofNat 32 (v.toNat % 2 ^ 31) = v &&& 0x7FFFFFFF := by
  apply BitVec.eq_of_toNat_eq
  rw [BitVec.toNat_and, BitVec.toNat_ofNat, Nat.mod_eq_of_lt ((Nat.mod_lt _ (by decide)).trans (by decide : 2 ^ 31 < 2 ^ 32))]
  exact (Nat.and_two_pow_sub_one_eq_mod v.toNat 31).symm

theorem put_writes (s : State) (f : Fld) (v : Nat) : Writes [f] s (s.put f v) := (Writes.refl [f] s).put List.mem_cons_self v

section
variable {l m : List Fld} {s t v : State}

/-- The frame by registers named whole. -/
theorem Writes.widen (h : Writes l s t) (hm : ∀ g ∈ l, g ∈ m ∨ whole g.addr ∈ m) : Writes m s t := ⟨h.1, h.2.widen hm⟩

/-- The frame of a command that changes lane records and then writes registers. -/
theorem Writes.laneFrame (h : Writes l v t) (hr : v.regs = s.regs) (hk : v.kept = { s with lanes := v.lanes }.kept) :
    Frame l s { s with lanes := (settle t).lanes } (settle t) := by
  rw [settle_lanes, h.same State.lanes fun _ _ => rfl]
  exact h.frame hr hk

theorem Writes.lane (h : Writes l s t) (n : Nat) : t.lane n = s.lane n := h.same (·.lane n) fun _ _ => rfl

theorem Writes.cal (h : Writes l s t) (g : Nat) : t.cal g = s.cal g := h.same (·.cal g) fun _ _ => rfl

theorem settle_lane (s : State) (n : Nat) : (settle s).lane n = s.lane n := by rw [State.lane, settle_lanes, State.lane]

theorem State.lane_setLn_same (s : State) (n : Nat) (f : Lane → Lane) : (s.setLn n f).lane n = f (s.lane n) := by
  rw [State.ln_setLn, if_pos rfl]

end

/-! ### The group PLL's reference (R179) -/

theorem opRefSwitch_of_recovered {s : State} {g : Nat} (ht : s.tileLike = true) (hg : g < 2) (hon : s.on (F.HP_GROUP_STATE_REF g) = true) :
    opRefSwitch g s = (s.put (F.HP_GROUP_STATE_REF g) 0).flag (F.HP_GROUP_STATE_REF_SWITCHED g) := by
  simp [opRefSwitch, ht, hg, hon]

theorem opRefSwitchBack_of_tile {s : State} {g : Nat} (ht : s.tileLike = true) (hg : g < 2) :
    opRefSwitchBack g s = s.put (F.HP_GROUP_STATE_REF g) 1 := by
  simp [opRefSwitchBack, ht, hg]

/-! ### The end of a host's eye scan (R195, R200) -/

/-- The registers that the end of a scan writes. -/
abbrev scanEndFlds (n : Nat) : List Fld := [F.HP_EYE_RESULT_RES n, F.HP_EYE_RESULT_VALID n, F.HP_EYE_RESULT_SEQ n]

/-- A lane on which no host scan runs. -/
def scanStopped (n : Nat) (s : State) : State := s.setLn n fun x => { x with scanning := false }

section
variable (n : Nat) {res : Nat} (s : State)

theorem scanStopped_get (f : Fld) : (scanStopped n s).get f = s.get f := by rw [scanStopped, State.setLn_get]

theorem eyeEnd_writes (res : Nat) : Writes (scanEndFlds n) (scanStopped n s) (eyeEnd n res s) :=
  Writes.map (((((Writes.refl (scanEndFlds n) s).put (by simp) res).put (by simp) 1).put (by simp) _)) (scanStopped n) fun _ _ => rfl

theorem eyeEnd_scanning (res : Nat) : ((eyeEnd n res s).lane n).scanning = false := by
  rw [(eyeEnd_writes n s res).lane, scanStopped, State.lane_setLn_same]

theorem eyeEnd_res (h : res < 8) : (eyeEnd n res s).get (F.HP_EYE_RESULT_RES n) = res := by
  simp only [eyeEnd, State.setLn_get]
  rw [State.get_bump_sep _ _ (Fld.sep_of_bits rfl), State.get_put_sep _ _ _ _ (Fld.sep_of_bits rfl)]
  exact State.get_put_fit _ _ rfl h

theorem eyeEnd_valid (res : Nat) : (eyeEnd n res s).get (F.HP_EYE_RESULT_VALID n) = 1 := by
  simp only [eyeEnd, State.setLn_get]
  rw [State.get_bump_sep _ _ (Fld.sep_of_bits rfl)]
  exact State.get_put_one _ _ rfl

theorem eyeEnd_seq (res : Nat) : (eyeEnd n res s).get (F.HP_EYE_RESULT_SEQ n) = s.wrap (F.HP_EYE_RESULT_SEQ n) := by
  simp only [eyeEnd, State.setLn_get]
  rw [State.get_bump_same _ rfl, State.wrap, State.get_put_sep _ _ _ _ (Fld.sep_of_bits rfl), State.get_put_sep _ _ _ _ (Fld.sep_of_bits rfl),
    State.wrap]

end

/-! ### Loss of lock (R184, R196) -/

/-- The lock's loss as HP_LANE_STATE shows it. -/
def lockShownLost (n : Nat) (s : State) : State := (s.put (F.HP_LANE_STATE_CDR_LOCK n) 0).flag (F.HP_LANE_STATE_CDR_LOST n)

section
variable (n : Nat) (s : State)

theorem lockShownLost_writes : Writes [F.HP_LANE_STATE_CDR_LOCK n, F.HP_LANE_STATE_CDR_LOST n] s (lockShownLost n s) :=
  ((Writes.refl _ s).put (by simp) 0).put (by simp) 1

theorem lockShownLost_abort : opEyeScanAbort n true (lockShownLost n s) =
    if (s.lane n).scanning then eyeEnd n 3 (lockShownLost n s) else lockShownLost n s := by
  rw [opEyeScanAbort, (lockShownLost_writes n s).lane, if_pos rfl]

theorem lockShownLost_abort_cal (g : Nat) : (opEyeScanAbort n true (lockShownLost n s)).cal g = s.cal g := by
  rw [lockShownLost_abort]
  split
  · rw [(eyeEnd_writes n _ 3).cal, scanStopped, State.cal, State.setLn_cals, ← State.cal, (lockShownLost_writes n s).cal]
  · exact (lockShownLost_writes n s).cal g

theorem opCdrLockLoss_of_idle (h : (s.cal (laneGroup n).1).step = none) : opCdrLockLoss n s = opEyeScanAbort n true (lockShownLost n s) := by
  have hidle : ((opEyeScanAbort n true (lockShownLost n s)).cal (laneGroup n).1).step = none := by rwa [lockShownLost_abort_cal]
  rcases hg : laneGroup n with ⟨g, i⟩
  rw [hg] at hidle
  rw [opCdrLockLoss, hg]
  dsimp only [lockShownLost] at hidle ⊢
  rw [hidle]

theorem lockShownLost_lock : (lockShownLost n s).get (F.HP_LANE_STATE_CDR_LOCK n) = 0 := by
  rw [lockShownLost, State.get_flag_sep _ _ (Fld.sep_of_bits rfl)]
  exact State.get_put_zero _ _ rfl

theorem lockShownLost_lost : (lockShownLost n s).get (F.HP_LANE_STATE_CDR_LOST n) = 1 := State.get_put_one _ _ rfl

end
/-- What CDR_LOCK_LOSS writes outside calibration. -/
abbrev lockLossFlds (n : Nat) : List Fld := [F.HP_LANE_STATE_CDR_LOCK n, F.HP_LANE_STATE_CDR_LOST n] ++ scanEndFlds n

/-- Loss of lock on a lane with a host scan, which it ends. -/
theorem lockLoss_scanning {n : Nat} {s : State} (hscan : (s.lane n).scanning = true) :
    let x := opEyeScanAbort n true (lockShownLost n s)
    x.get (F.HP_LANE_STATE_CDR_LOCK n) = 0 ∧ x.get (F.HP_LANE_STATE_CDR_LOST n) = 1 ∧ (x.lane n).scanning = false ∧
      x.get (F.HP_EYE_RESULT_RES n) = 3 ∧ Writes (lockLossFlds n) (scanStopped n s) x := by
  have hshown := lockShownLost_writes n s
  have hend := eyeEnd_writes n (lockShownLost n s) 3
  have hstate : ∀ f : Fld, f.addr = atLANE n 0 → (eyeEnd n 3 (lockShownLost n s)).get f = (lockShownLost n s).get f := fun f hf =>
    (hend.get_of_addr (by simp [hf, F.HP_EYE_RESULT_RES, F.HP_EYE_RESULT_VALID, F.HP_EYE_RESULT_SEQ])).trans (scanStopped_get n _ f)
  rw [lockShownLost_abort, if_pos hscan]
  exact ⟨(hstate (F.HP_LANE_STATE_CDR_LOCK n) rfl).trans (lockShownLost_lock n s),
    (hstate (F.HP_LANE_STATE_CDR_LOST n) rfl).trans (lockShownLost_lost n s), eyeEnd_scanning n _ 3, eyeEnd_res n _ (by decide),
    ((hshown.map (scanStopped n) fun _ _ => rfl).mono (List.subset_append_left ..)).trans (hend.mono (List.subset_append_right ..))⟩

/-- Loss of lock on a lane without a host scan. -/
theorem lockLoss_idle {n : Nat} {s : State} (hidle : (s.lane n).scanning = false) :
    let x := opEyeScanAbort n true (lockShownLost n s)
    x.get (F.HP_LANE_STATE_CDR_LOCK n) = 0 ∧ x.get (F.HP_LANE_STATE_CDR_LOST n) = 1 ∧ (x.lane n).scanning = false ∧
      x.get (F.HP_EYE_RESULT_RES n) = s.get (F.HP_EYE_RESULT_RES n) ∧ Writes (lockLossFlds n) s x := by
  have hshown := lockShownLost_writes n s
  rw [lockShownLost_abort, if_neg (by rw [hidle]; exact Bool.false_ne_true)]
  exact ⟨lockShownLost_lock n s, lockShownLost_lost n s, by rwa [hshown.lane],
    hshown.get_of_addr (by simp [F.HP_LANE_STATE_CDR_LOCK, F.HP_LANE_STATE_CDR_LOST, F.HP_EYE_RESULT_RES]),
    hshown.mono (List.subset_append_left ..)⟩

theorem lockLoss_settled {n : Nat} {s : State} (h : (s.cal (laneGroup n).1).step = none) :
    let t := settle (opCdrLockLoss n s.fresh)
    t.get (F.HP_LANE_STATE_CDR_LOCK n) = 0 ∧ t.get (F.HP_LANE_STATE_CDR_LOST n) = 1 ∧ (t.lane n).scanning = false ∧
      t.get (F.HP_EYE_RESULT_RES n) = (if (s.lane n).scanning then 3 else s.get (F.HP_EYE_RESULT_RES n)) ∧ Sent [] t ∧
      Frame (lockLossFlds n) s { s with lanes := t.lanes } t := by
  have hstep : (s.fresh.cal (laneGroup n).1).step = none := by rwa [State.fresh_v_cal]
  rw [opCdrLockLoss_of_idle n s.fresh hstep]
  simp only [settle_get, settle_lane]
  cases hscan : (s.lane n).scanning with
  | true =>
    obtain ⟨hlock, hlost, hstop, hres, hw⟩ := lockLoss_scanning (s := s.fresh) (n := n) hscan
    exact ⟨hlock, hlost, hstop, hres, hw.sent, hw.laneFrame rfl rfl⟩
  | false =>
    obtain ⟨hlock, hlost, hstop, hres, hw⟩ := lockLoss_idle (s := s.fresh) (n := n) hscan
    exact ⟨hlock, hlost, hstop, hres, hw.sent, hw.laneFrame rfl rfl⟩

/-! ### Transmit settings in force (R180, R181) -/

/-- Settings within the fields of HP_LANE_TX_ACT. -/
structure TxVals.Fits (v : TxVals) : Prop where
  swing : v.swing < 16
  pre : v.pre < 8
  post : v.post < 16

/-- One code of one setting toward a target, PRE first, then POST, then SWING. -/
def TxVals.toward (a b : TxVals) : TxVals :=
  if a.pre ≠ b.pre then { a with pre := oneCode a.pre b.pre }
  else if a.post ≠ b.post then { a with post := oneCode a.post b.post }
  else { a with swing := oneCode a.swing b.swing }

theorem opTxRampStep_eq (n : Nat) (s : State) : opTxRampStep n s = setTxAct n ((s.txAct n).toward (s.txTarget n)).reduce s := rfl

theorem oneCode_self (v : Nat) : oneCode v v = v := by simp [oneCode]

theorem oneCode_le_max (v t : Nat) : oneCode v t ≤ max v t := by
  unfold oneCode
  split_ifs <;> omega

section
variable {a b v : TxVals}

theorem TxVals.Fits.reduce (h : v.Fits) : v.reduce.Fits := ⟨h.swing, h.pre, (min_le_left ..).trans_lt h.post⟩

theorem TxVals.reduce_of_room (h : v.pre + v.post ≤ 16) : v.reduce = v := by
  obtain ⟨swing, pre, post⟩ := v
  have hpost : post ≤ 16 - pre := Nat.le_sub_of_add_le' h
  rw [TxVals.reduce, min_eq_left hpost]

theorem TxVals.Fits.toward (ha : a.Fits) (hb : b.Fits) : (a.toward b).Fits := by
  have hone : ∀ {x y k : Nat}, x < k → y < k → oneCode x y < k := fun hx hy => (oneCode_le_max _ _).trans_lt (max_lt hx hy)
  unfold TxVals.toward
  split_ifs
  · exact ⟨ha.swing, hone ha.pre hb.pre, ha.post⟩
  · exact ⟨ha.swing, ha.pre, hone ha.post hb.post⟩
  · exact ⟨hone ha.swing hb.swing, ha.pre, ha.post⟩

theorem TxVals.toward_pre (a b : TxVals) : (a.toward b).pre = oneCode a.pre b.pre := by
  unfold TxVals.toward
  split_ifs with hpre
  · rfl
  · rw [← not_not.mp hpre, oneCode_self]
  · rw [← not_not.mp hpre, oneCode_self]

theorem TxVals.toward_post (hpre : a.pre = b.pre) : (a.toward b).post = oneCode a.post b.post := by
  rw [TxVals.toward, if_neg (not_not.mpr hpre)]
  split_ifs with hpost
  · rfl
  · rw [← not_not.mp hpost, oneCode_self]

theorem TxVals.toward_swing (hpre : a.pre = b.pre) (hpost : a.post = b.post) : (a.toward b).swing = oneCode a.swing b.swing := by
  rw [TxVals.toward, if_neg (not_not.mpr hpre), if_neg (not_not.mpr hpost)]

/-- Once PRE stands at its target, no step needs R180's reduction. -/
theorem TxVals.toward_room (hpre : a.pre = b.pre) (ha : a.pre + a.post ≤ 16) (hb : b.pre + b.post ≤ 16) :
    (a.toward b).pre + (a.toward b).post ≤ 16 := by
  have hmax := oneCode_le_max a.post b.post
  rw [TxVals.toward_pre, TxVals.toward_post hpre, ← hpre, oneCode_self]
  omega

end

section
variable (s : State) (n : Nat)

theorem State.txTarget_fits : (s.txTarget n).Fits := by
  unfold State.txTarget
  apply TxVals.Fits.reduce
  split
  · exact ⟨State.get_lt s (F.HP_LANE_TX_SWING n), State.get_lt s (F.HP_LANE_TX_PRE n), State.get_lt s (F.HP_LANE_TX_POST n)⟩
  · exact ⟨State.get_lt s (F.HP_LANE_TXM_SWING n), State.get_lt s (F.HP_LANE_TXM_PRE n), State.get_lt s (F.HP_LANE_TXM_POST n)⟩

theorem State.txAct_fits : (s.txAct n).Fits := by
  have h : s.get (F.HP_LANE_TX_ACT_As_HP_LANE_TX n) < 16 * 256 := State.get_lt s _
  exact ⟨Nat.div_lt_of_lt_mul (by omega), Nat.mod_lt _ (by decide), Nat.mod_lt _ (by decide)⟩

theorem setTxAct_txAct {v : TxVals} (hv : v.Fits) : (setTxAct n v s).txAct n = v := by
  obtain ⟨hswing, hpre, hpost⟩ := hv
  have hword : (setTxAct n v s).get (F.HP_LANE_TX_ACT_As_HP_LANE_TX n) = v.swing * 256 + v.pre * 16 + v.post :=
    State.get_put_fit _ _ rfl (by change _ < 4096; omega)
  obtain ⟨swing, pre, post⟩ := v
  dsimp only at *
  rw [State.txAct, hword, TxVals.mk.injEq]
  omega

theorem setTxAct_writes (v : TxVals) : Writes [F.HP_LANE_TX_ACT_As_HP_LANE_TX n] s (setTxAct n v s) :=
  (Writes.refl _ s).put List.mem_cons_self _

/-- A step of the ramp, from settings that need no reduction toward settings that need none. -/
theorem opTxRampStep_txAct (hb : (s.txTarget n).pre + (s.txTarget n).post ≤ 16) (ha : (s.txAct n).pre + (s.txAct n).post ≤ 16) :
    ((opTxRampStep n s).txAct n).pre = oneCode (s.txAct n).pre (s.txTarget n).pre ∧
      ((s.txAct n).pre = (s.txTarget n).pre →
        ((opTxRampStep n s).txAct n).post = oneCode (s.txAct n).post (s.txTarget n).post ∧
        ((s.txAct n).post = (s.txTarget n).post → ((opTxRampStep n s).txAct n).swing = oneCode (s.txAct n).swing (s.txTarget n).swing)) := by
  rw [opTxRampStep_eq, setTxAct_txAct _ _ ((s.txAct_fits n).toward (s.txTarget_fits n)).reduce]
  refine ⟨TxVals.toward_pre _ _, fun hpre => ?_⟩
  rw [TxVals.reduce_of_room (TxVals.toward_room hpre ha hb)]
  exact ⟨TxVals.toward_post hpre, TxVals.toward_swing hpre⟩

end

/-! ### A write of HP_LANE_TX (R181) -/

/-- The fields of HP_LANE_TX. -/
abbrev laneTxFlds (n : Nat) : List Fld := [F.HP_LANE_TX_OVERRIDE n, F.HP_LANE_TX_SWING n, F.HP_LANE_TX_PRE n, F.HP_LANE_TX_POST n]

/-- A word of HP_LANE_TX stored. -/
def laneTxStored (n : Nat) (w : Word) (s : State) : State :=
  (((s.put (F.HP_LANE_TX_OVERRIDE n) (bits w.toNat 31 31)).put (F.HP_LANE_TX_SWING n) (bits w.toNat 15 12)).put
    (F.HP_LANE_TX_PRE n) (bits w.toNat 10 8)).put (F.HP_LANE_TX_POST n) (bits w.toNat 7 4)

section
variable (n : Nat) (w : Word) (s : State)

theorem opLaneTxWrite_eq : opLaneTxWrite n w s =
    if (laneTxStored n w s).txRamps n then laneTxStored n w s else setTxAct n ((laneTxStored n w s).txTarget n) (laneTxStored n w s) := rfl

theorem laneTxStored_writes : Writes (laneTxFlds n) s (laneTxStored n w s) :=
  ((((Writes.refl _ s).put (by simp) _).put (by simp) _).put (by simp) _).put (by simp) _

theorem laneTxStored_get : ∀ f ∈ laneTxFlds n, (laneTxStored n w s).get f = f.of w := by
  have hsep : ∀ {f g : Fld} {v : Nat} {u : State}, (decide (g.hi < f.lo) || decide (f.hi < g.lo)) = true → (u.put f v).get g = u.get g :=
    fun h => State.get_put_sep _ _ _ _ (Fld.sep_of_bits h)
  intro f hf
  simp only [List.mem_cons, List.not_mem_nil, or_false] at hf
  obtain rfl | rfl | rfl | rfl := hf
  · rw [laneTxStored, hsep rfl, hsep rfl, hsep rfl]
    exact State.get_put_bits _ _ w rfl
  · rw [laneTxStored, hsep rfl, hsep rfl]
    exact State.get_put_bits _ _ w rfl
  · rw [laneTxStored, hsep rfl]
    exact State.get_put_bits _ _ w rfl
  · exact State.get_put_bits _ _ w rfl

theorem laneTxStored_txRamps : (laneTxStored n w s).txRamps n = s.txRamps n := by
  unfold State.txRamps
  rw [(laneTxStored_writes n w s).get_of_addr
    (by simp [F.HP_LANE_TX_OVERRIDE, F.HP_LANE_TX_SWING, F.HP_LANE_TX_PRE, F.HP_LANE_TX_POST, F.HP_LANE_STATE_TXS])]

theorem settle_txAct : (settle s).txAct n = s.txAct n := by rw [State.txAct, settle_get, State.txAct]

theorem settle_txTarget : (settle s).txTarget n = s.txTarget n := by simp only [State.txTarget, settle_get, settle_on]

/-- The settings in force are no part of a lane's target. -/
theorem setTxAct_txTarget (v : TxVals) : (setTxAct n v s).txTarget n = s.txTarget n := by
  have hget : ∀ f : Fld, f.addr ≠ atLANE n 0xC → (setTxAct n v s).get f = s.get f := fun f hf =>
    (setTxAct_writes s n v).get_of_addr (by simpa [F.HP_LANE_TX_ACT_As_HP_LANE_TX] using hf.symm)
  have htx : ∀ {f : Fld} (off : Nat), f.addr = atLANE n off → off ≠ 0xC → (setTxAct n v s).get f = s.get f := fun off hf hne =>
    hget _ (by rwa [hf, ne_eq, atLANE_offset_inj])
  unfold State.txTarget State.on
  rw [htx 0x8 rfl (by decide), htx 0x8 rfl (by decide), htx 0x8 rfl (by decide), htx 0x8 rfl (by decide), htx 0x4 rfl (by decide),
    htx 0x4 rfl (by decide), htx 0x4 rfl (by decide)]

end

/-! ### A write of HP_LANE_RXMAN (R186) -/

section
variable {n : Nat} (w : Word) {s : State}

theorem opLaneRxmanWrite_of_traffic
    (h : s.get (F.HP_LANE_STATE_RXS n) = lnTrain ∨ s.get (F.HP_LANE_STATE_RXS n) = lnActive ∨ s.get (F.HP_LANE_STATE_RXS n) = lnSpare) :
    opLaneRxmanWrite n w s = s.flag (F.HP_LANE_STATE_RXMAN_REFUSED n) := by
  have hst : (s.get (F.HP_LANE_STATE_RXS n) == lnTrain || s.get (F.HP_LANE_STATE_RXS n) == lnActive ||
      s.get (F.HP_LANE_STATE_RXS n) == lnSpare) = true := by simpa [or_assoc] using h
  simp only [opLaneRxmanWrite, hst, if_true]

theorem opLaneRxmanWrite_of_idle (h : s.get (F.HP_LANE_STATE_RXS n) = lnTest ∨ s.get (F.HP_LANE_STATE_RXS n) = lnStandby) :
    opLaneRxmanWrite n w s = if w.getLsbD 31 then (s.wr (atLANE n 0x14) w).wr (atLANE n 0x10) (w &&& 0x7FFFFFFF) else s.wr (atLANE n 0x14) w := by
  have hst : (s.get (F.HP_LANE_STATE_RXS n) == lnStandby || s.get (F.HP_LANE_STATE_RXS n) == lnTest) = true := by simpa using h.symm
  have hno : (s.get (F.HP_LANE_STATE_RXS n) == lnTrain || s.get (F.HP_LANE_STATE_RXS n) == lnActive ||
      s.get (F.HP_LANE_STATE_RXS n) == lnSpare) = false := by rcases h with h | h <;> rw [h] <;> rfl
  simp only [opLaneRxmanWrite, hst, hno, Bool.and_true, Bool.false_eq_true, if_false, ofNat_mod_eq_and]
  rfl

end


/-! ### The commands of lane control -/

section
variable {s : State} {g n : Nat} {w : Word} (ha : s.acts)
include ha

theorem exec_refSwitch_of_recovered (hg : g < 2) (ht : s.tileLike = true) (hon : s.on (F.HP_GROUP_STATE_REF g) = true) :
    exec (.refSwitch g) s = .next (settle ((s.fresh.put (F.HP_GROUP_STATE_REF g) 0).flag (F.HP_GROUP_STATE_REF_SWITCHED g))) := by
  rw [exec_refSwitch, execRefSwitch, run_only ha (decide_eq_true (by omega)), opRefSwitch_of_recovered (s := s.fresh) ht hg hon]

theorem exec_refSwitchBack_of_tile (hg : g < 2) (ht : s.tileLike = true) :
    exec (.refSwitchBack g) s = .next (settle (s.fresh.put (F.HP_GROUP_STATE_REF g) 1)) := by
  rw [exec_refSwitchBack, execRefSwitchBack, run_only ha (decide_eq_true (by omega)), opRefSwitchBack_of_tile (s := s.fresh) ht hg]

theorem exec_laneTxWrite_of_ok (hn : n < 112) (hok : s.wordOk (atLANE n 0x08) w = true) :
    exec (.laneTxWrite n w) s = .next (settle (opLaneTxWrite n w s.fresh)) := by
  rw [exec_laneTxWrite, execLaneTxWrite, runRindF_onlyE_withWord ha (decide_eq_true hn) hok]

theorem exec_laneRxmanWrite_of_ok (hn : n < 112) (hok : s.wordOk (atLANE n 0x14) w = true) :
    exec (.laneRxmanWrite n w) s = .next (settle (opLaneRxmanWrite n w s.fresh)) := by
  rw [exec_laneRxmanWrite, execLaneRxmanWrite, runRindF_onlyE_withWord ha (decide_eq_true hn) hok]

theorem exec_laneRxmanWrite_of_traffic (hn : n < 112) (hok : s.wordOk (atLANE n 0x14) w = true)
    (h : s.get (F.HP_LANE_STATE_RXS n) = lnTrain ∨ s.get (F.HP_LANE_STATE_RXS n) = lnActive ∨ s.get (F.HP_LANE_STATE_RXS n) = lnSpare) :
    exec (.laneRxmanWrite n w) s = .next (settle (s.fresh.flag (F.HP_LANE_STATE_RXMAN_REFUSED n))) := by
  rw [exec_laneRxmanWrite_of_ok ha hn hok, opLaneRxmanWrite_of_traffic (s := s.fresh) w h]

end

/-- A write of HP_LANE_TX is stored whether or not the lane's settings are ramped. -/
theorem laneTxStored_whole (n : Nat) (w : Word) (s : State) : Writes [whole (atLANE n 0x08)] s (laneTxStored n w s) :=
  (laneTxStored_writes n w s).widen fun f hf => .inr (by
    simp only [List.mem_cons, List.not_mem_nil, or_false] at hf
    obtain rfl | rfl | rfl | rfl := hf <;> exact List.mem_cons_self)

theorem laneTx_at_once {n : Nat} (w : Word) {s : State} (h : s.txRamps n = false) :
    let t := settle (opLaneTxWrite n w s.fresh)
    (∀ f ∈ laneTxFlds n, t.get f = f.of w) ∧ t.txAct n = t.txTarget n ∧ Sent [] t ∧
      Frame [whole (atLANE n 0x08), F.HP_LANE_TX_ACT_As_HP_LANE_TX n] s s t := by
  have hstored := laneTxStored_whole n w s.fresh
  have hact := setTxAct_writes (laneTxStored n w s.fresh) n ((laneTxStored n w s.fresh).txTarget n)
  have hw : Writes [whole (atLANE n 0x08), F.HP_LANE_TX_ACT_As_HP_LANE_TX n] s.fresh _ :=
    (hstored.mono (by simp)).trans (hact.mono (by simp))
  have hnot : (laneTxStored n w s.fresh).txRamps n = false := (laneTxStored_txRamps n w s.fresh).trans h
  rw [opLaneTxWrite_eq, hnot, if_neg Bool.false_ne_true]
  simp only [settle_get, settle_txAct, settle_txTarget]
  refine ⟨fun f hf => ?_, ?_, hw.sent, hw.frame rfl rfl⟩
  · have hne : (F.HP_LANE_TX_ACT_As_HP_LANE_TX n).addr ≠ f.addr := by
      simp only [List.mem_cons, List.not_mem_nil, or_false] at hf
      obtain rfl | rfl | rfl | rfl := hf <;> exact atLANE_ne n n (by decide)
    exact (hact.get_of_addr (by simpa using hne)).trans (laneTxStored_get n w s.fresh f hf)
  · exact (setTxAct_txAct _ n (State.txTarget_fits _ n)).trans (setTxAct_txTarget n (laneTxStored n w s.fresh) _).symm

theorem laneTx_ramped {n : Nat} (w : Word) {s : State} (h : s.txRamps n = true) :
    let t := settle (opLaneTxWrite n w s.fresh)
    (∀ f ∈ laneTxFlds n, t.get f = f.of w) ∧ Sent [] t ∧ Frame [whole (atLANE n 0x08)] s s t := by
  have hramps : (laneTxStored n w s.fresh).txRamps n = true := (laneTxStored_txRamps n w s.fresh).trans h
  rw [opLaneTxWrite_eq, hramps, if_pos rfl]
  simp only [settle_get]
  exact ⟨laneTxStored_get n w s.fresh, (laneTxStored_whole n w s.fresh).sent, (laneTxStored_whole n w s.fresh).frame rfl rfl⟩

theorem laneRxman_taken {n : Nat} (w : Word) {s : State} (h : s.get (F.HP_LANE_STATE_RXS n) = lnTest ∨ s.get (F.HP_LANE_STATE_RXS n) = lnStandby) :
    let t := settle (opLaneRxmanWrite n w s.fresh)
    t.rd (atLANE n 0x14) = w ∧ t.rd (atLANE n 0x10) = (if w.getLsbD 31 then w &&& 0x7FFFFFFF else s.rd (atLANE n 0x10)) ∧ Sent [] t ∧
      Frame [whole (atLANE n 0x14), whole (atLANE n 0x10)] s s t := by
  have hne : atLANE n 0x14 ≠ atLANE n 0x10 := atLANE_ne n n (by decide)
  have hw : Writes [whole (atLANE n 0x14), whole (atLANE n 0x10)] s.fresh (s.fresh.wr (atLANE n 0x14) w) := (Writes.refl _ _).wr (by simp) w
  rw [opLaneRxmanWrite_of_idle (s := s.fresh) w h]
  simp only [settle_rd]
  split
  next =>
    have hw' := hw.wr (a := atLANE n 0x10) (by simp) (w &&& 0x7FFFFFFF)
    exact ⟨(State.rd_wr_ne _ _ hne).trans (State.rd_wr_same _ _ _), State.rd_wr_same _ _ _, hw'.sent, hw'.frame rfl rfl⟩
  next => exact ⟨State.rd_wr_same _ _ _, (State.rd_wr_ne _ _ hne.symm).trans (State.fresh_rd s _), hw.sent, hw.frame rfl rfl⟩

/-- Settles O8: each command's effect by the operation's own equation, and what that equation writes. -/
theorem laneControl : Obligations.LaneControl := by
  refine ⟨?_, ?_, ?_, ?_, ?_, ?_, ?_, ?_⟩
  · intro s g ha hg ht hon
    have hw : Writes [F.HP_GROUP_STATE_REF g, F.HP_GROUP_STATE_REF_SWITCHED g] s.fresh
        ((s.fresh.put (F.HP_GROUP_STATE_REF g) 0).flag (F.HP_GROUP_STATE_REF_SWITCHED g)) := ((Writes.refl _ _).put (by simp) 0).put (by simp) 1
    refine ⟨_, exec_refSwitch_of_recovered ha hg ht hon, ?_, ?_, hw.sent, hw.frame rfl rfl⟩
    · rw [settle_get, State.get_flag_sep _ _ (Fld.sep_of_bits rfl)]
      exact State.get_put_zero _ _ rfl
    · rw [settle_get]
      exact State.get_put_one _ _ rfl
  · intro s g ha hg ht
    have hw : Writes [F.HP_GROUP_STATE_REF g] s.fresh (s.fresh.put (F.HP_GROUP_STATE_REF g) 1) := (Writes.refl _ _).put (by simp) 1
    refine ⟨_, exec_refSwitchBack_of_tile ha hg ht, ?_, hw.sent, hw.frame rfl rfl⟩
    rw [settle_get]
    exact State.get_put_one _ _ rfl
  · exact fun s n ha hn hstep => ⟨_, run_only ha (decide_eq_true hn), lockLoss_settled hstep⟩
  · intro s n a b ha hn hroom
    obtain ⟨hpre, hrest⟩ := opTxRampStep_txAct s.fresh n hroom.1 hroom.2
    have hw := setTxAct_writes s.fresh n ((s.txAct n).toward (s.txTarget n)).reduce
    refine ⟨_, run_only ha (decide_eq_true hn), ?_, ?_, hw.sent, hw.frame rfl rfl⟩
    · rw [settle_txAct]
      exact hpre
    · rw [settle_txAct]
      exact hrest
  · exact fun s n w ha hn hok hramps => ⟨_, exec_laneTxWrite_of_ok ha hn hok, laneTx_at_once w hramps⟩
  · exact fun s n w ha hn hok hramps => ⟨_, exec_laneTxWrite_of_ok ha hn hok, laneTx_ramped w hramps⟩
  · intro s n w ha hn hok hst
    have hw : Writes [F.HP_LANE_STATE_RXMAN_REFUSED n] s.fresh (s.fresh.flag (F.HP_LANE_STATE_RXMAN_REFUSED n)) := (Writes.refl _ _).put (by simp) 1
    refine ⟨_, exec_laneRxmanWrite_of_traffic ha hn hok hst, ?_, hw.sent, hw.frame rfl rfl⟩
    rw [settle_get]
    exact State.get_put_one _ _ rfl
  · exact fun s n w ha hn hok hst => ⟨_, exec_laneRxmanWrite_of_ok ha hn hok, laneRxman_taken w hst⟩

end Sys2Proof.Machine
end

section
/-!
PROOFS. Chapter 06: PRBS generators and checkers (R190, R191, R199).
-/

namespace Sys2Proof.Machine

open Sys2Proof

/-! ### Effects under a condition -/

theorem Writes.when {l : List Fld} {s t : State} {f : State → State} (b : Bool) (h : Writes l s t) (hf : Writes l t (f t)) : Writes l s (t.when b f) := by
  unfold State.when
  split
  · exact h.trans hf
  · exact h

theorem State.get_when (s : State) (b : Bool) (f : State → State) (x : Fld) : (s.when b f).get x = if b then (f s).get x else s.get x := by
  unfold State.when
  split <;> rfl

/-! ### The checker's prediction (R190, R191) -/

theorem prbsTaps_fst (pat : Nat) : (prbsTaps pat).1 = if pat = 1 then 7 else 31 := by
  unfold prbsTaps
  split <;> rfl

/-- Both taps lie within the seed. -/
theorem prbsTaps_within (pat : Nat) : 0 < (prbsTaps pat).2 ∧ (prbsTaps pat).2 ≤ (prbsTaps pat).1 := by
  unfold prbsTaps
  split <;> decide

theorem prbsNext_eq (pat : Nat) (l : List Bool) :
    prbsNext pat l = (l.getD ((prbsTaps pat).1 - 1) false != l.getD ((prbsTaps pat).2 - 1) false) := rfl

theorem prbsMiss_cons (pat : Nat) (seed : List Bool) (b : Bool) (l : List Bool) :
    prbsMiss pat seed (b :: l) = (b != prbsNext pat seed) :: prbsMiss pat (prbsNext pat seed :: seed) l := rfl

/-- Bits of which each is what follows those before it all match. -/
theorem prbsMiss_of_predicted (pat : Nat) : ∀ (l seed : List Bool),
    (∀ i < l.length, l.getD i false = prbsNext pat ((l.take i).reverse ++ seed)) → (prbsMiss pat seed l).all (!·) = true
  | [], _, _ => rfl
  | b :: l, seed, h => by
    have hb : b = prbsNext pat seed := h 0 (Nat.zero_lt_succ _)
    have hrest := prbsMiss_of_predicted pat l (prbsNext pat seed :: seed) fun i hi => by
      have hi' := h (i + 1) (Nat.succ_lt_succ hi)
      rw [← hb]
      simpa using hi'
    rw [prbsMiss_cons, List.all_cons, hrest, hb, bne_self_eq_false]
    rfl

theorem getD_reverse_take (l : List Bool) {m k : Nat} (hk : 0 < k) (hkm : k ≤ m) (hm : m ≤ l.length) :
    (l.take m).reverse.getD (k - 1) false = l.getD (m - k) false := by
  have hlen : (l.take m).length = m := List.length_take_of_le hm
  have hrev : k - 1 < (l.take m).length := by omega
  have hindex : (l.take m).length - 1 - (k - 1) = m - k := by omega
  rw [List.getD_eq_getElem?_getD, List.getElem?_reverse hrev, hindex, List.getElem?_take_of_lt (by omega), List.getD_eq_getElem?_getD]

/-- Line bits that follow the polynomial's recurrence from the seed on all match. -/
theorem prbsMiss_of_recurrence {pat n m : Nat} {l : List Bool} (hn : (prbsTaps pat).1 = n) (hlen : l.length = n + m)
    (h : ∀ i ∈ List.range m, l.getD (n + i) false = (l.getD (n + i - (prbsTaps pat).1) false != l.getD (n + i - (prbsTaps pat).2) false)) :
    (prbsMiss pat (l.take n).reverse (l.drop n)).all (!·) = true := by
  obtain ⟨hpos, hle⟩ := prbsTaps_within pat
  refine prbsMiss_of_predicted pat _ _ fun i hi => ?_
  have him : i < m := by rw [List.length_drop] at hi; omega
  have hbit : (l.drop n).getD i false = l.getD (n + i) false := by simp [List.getD_eq_getElem?_getD]
  rw [hbit, h i (List.mem_range.mpr him), ← List.reverse_append, ← List.take_add, prbsNext_eq,
    getD_reverse_take l (hpos.trans_le hle) (by omega) (by omega), getD_reverse_take l hpos (by omega) (by omega)]

/-! ### SYNC (R191) -/

theorem rxBits_eq (s : State) (n : Nat) (l : List Bool) : s.rxBits n l = l.map fun b => b != s.on (F.HP_LANE_TXM_RX_POL n) := by
  unfold State.rxBits State.rxInv
  cases s.on (F.HP_LANE_TXM_RX_POL n) <;> simp

theorem lineBits_of_line {s : State} {n : Nat} (l : List Bool) (h : s.loops n = false) : lineBits n l s = (s.rxBits n l, s) := by
  rw [lineBits, h]
  rfl

/-- A lane that shows SYNC, and in TEST its lock with it. -/
def syncShown (n : Nat) (s : State) : State :=
  (s.when (s.get (F.HP_LANE_STATE_RXS n) == lnTest) (·.put (F.HP_LANE_STATE_CDR_LOCK n) 1)).put (F.HP_PRBS_STAT_SYNC n) 1

/-- The checker's record as it comes into SYNC on line bits. -/
def Lane.synced (k : Nat) (l : List Bool) (x : Lane) : Lane := { x with prbs := l.reverse.take k, prbsBits := 0, prbsMiss := [] }

/-- The fields that SYNC writes. -/
abbrev syncFlds (n : Nat) : List Fld := [F.HP_PRBS_STAT_SYNC n, F.HP_LANE_STATE_CDR_LOCK n]

theorem syncShown_writes (n : Nat) (s : State) : Writes (syncFlds n) s (syncShown n s) :=
  ((Writes.refl _ s).when _ ((put_writes s _ 1).mono (by simp))).put (by simp) 1

theorem syncShown_sync (n : Nat) (s : State) : (syncShown n s).get (F.HP_PRBS_STAT_SYNC n) = 1 :=
  State.get_put_one _ _ rfl

theorem syncShown_lock (n : Nat) (s : State) : (syncShown n s).get (F.HP_LANE_STATE_CDR_LOCK n) =
    if s.get (F.HP_LANE_STATE_RXS n) = lnTest then 1 else s.get (F.HP_LANE_STATE_CDR_LOCK n) := by
  rw [syncShown, State.get_put_sep _ _ _ _ (Fld.sep_of_addr_ne (atLANE_ne n n (by decide))),
    State.get_when, State.get_put_one _ _ rfl]
  simp only [beq_iff_eq]

theorem opPrbsSync_of_match {s : State} {n k : Nat} {line : List Bool} (hline : s.loops n = false) (hchecks : s.checks n = true)
    (hout : s.on (F.HP_PRBS_STAT_SYNC n) = false) (hk : (prbsTaps (s.get (F.HP_PRBS_CTRL_RX_PAT n))).1 = k)
    (hlen : (s.rxBits n line).length = k + 128)
    (hmatch : (prbsMiss (s.get (F.HP_PRBS_CTRL_RX_PAT n)) ((s.rxBits n line).take k).reverse ((s.rxBits n line).drop k)).all (!·) = true) :
    opPrbsSync n line s = (syncShown n s).setLn n (Lane.synced k (s.rxBits n line)) := by
  subst hk
  have hrest : ((s.rxBits n line).drop (prbsTaps (s.get (F.HP_PRBS_CTRL_RX_PAT n))).1).length = 128 := by rw [List.length_drop]; omega
  simp only [opPrbsSync, lineBits_of_line line hline, hchecks, hout, hrest, hmatch, Bool.not_false, Bool.and_self, beq_self_eq_true, if_true]
  rfl

theorem prbsSync_settled {s : State} {n k : Nat} {line : List Bool} (hop : opPrbsSync n line s.fresh =
      (syncShown n s.fresh).setLn n (Lane.synced k (s.rxBits n line))) :
    let t := settle (opPrbsSync n line s.fresh)
    t.get (F.HP_PRBS_STAT_SYNC n) = 1 ∧ t.get (F.HP_LANE_STATE_CDR_LOCK n) =
        (if s.get (F.HP_LANE_STATE_RXS n) = lnTest then 1 else s.get (F.HP_LANE_STATE_CDR_LOCK n)) ∧ Sent [] t ∧
      Frame (syncFlds n) s (s.setLn n (Lane.synced k (s.rxBits n line))) t := by
  have hw := (syncShown_writes n s.fresh).map (·.setLn n (Lane.synced k (s.rxBits n line))) fun _ _ => rfl
  rw [hop]
  simp only [settle_get, State.setLn_get]
  exact ⟨syncShown_sync n _, (syncShown_lock n s.fresh).trans (by simp only [State.fresh_get]), hw.sent, hw.frame rfl rfl⟩

/-! ### A bit compared in SYNC (R191) -/

/-- The counts of a bit compared. -/
def bitCounted (n : Nat) (miss full : Bool) (s : State) : State :=
  (s.when miss (·.inc (F.HP_PRBS_ERR_ERR n))).when full (·.inc (F.HP_PRBS_BITS_BITS n))

/-- The checker's record after a bit, with the verdicts up to it. -/
def Lane.compared (pat : Nat) (want full : Bool) (window : List Bool) (x : Lane) : Lane :=
  { x with prbs := (want :: x.prbs).take (prbsTaps pat).1, prbsBits := if full then 0 else x.prbsBits + 1, prbsMiss := window.take 127 }

/-- The bits toward the next unit of 1,024 run round from 1,023. -/
theorem Lane.compared_of_le (pat : Nat) (want : Bool) (window : List Bool) {x : Lane} (h : x.prbsBits ≤ 1023) :
    x.compared pat want (x.prbsBits + 1 == 1024) window =
      { x with prbs := (want :: x.prbs).take (prbsTaps pat).1, prbsBits := (x.prbsBits + 1) % 1024, prbsMiss := window.take 127 } := by
  have hbits : (if x.prbsBits + 1 == 1024 then 0 else x.prbsBits + 1) = (x.prbsBits + 1) % 1024 := by
    simp only [beq_iff_eq]
    split <;> omega
  rw [Lane.compared, hbits]

/-- The checker's record out of SYNC. -/
def Lane.unsynced (x : Lane) : Lane := { x with prbs := [], prbsBits := 0, prbsMiss := [] }

/-- SYNC lost: the counts stay. -/
def syncLost (n : Nat) (s : State) : State :=
  (((s.put (F.HP_PRBS_STAT_SYNC n) 0).flag (F.HP_PRBS_STAT_SYNC_LOST n)).inc (F.HP_PRBS_STAT_SYNC_LOSS_COUNT n)).setLn n Lane.unsynced

abbrev countFlds (n : Nat) : List Fld := [F.HP_PRBS_ERR_ERR n, F.HP_PRBS_BITS_BITS n]
abbrev lossStatFlds (n : Nat) : List Fld := [F.HP_PRBS_STAT_SYNC n, F.HP_PRBS_STAT_SYNC_LOST n, F.HP_PRBS_STAT_SYNC_LOSS_COUNT n]

theorem prbsCompare_single (n pat : Nat) (b : Bool) (s : State) :
    let x := s.lane n
    let want := prbsNext pat x.prbs
    let miss := b != want
    let full := x.prbsBits + 1 == 1024
    let u := (bitCounted n miss full s).setLn n (Lane.compared pat want full (miss :: x.prbsMiss))
    prbsCompare n pat [b] s = if 32 ≤ (miss :: x.prbsMiss).countP (· == true) then syncLost n u else u := rfl

section
variable (n : Nat) (s : State)

theorem bitCounted_writes (miss full : Bool) : Writes (countFlds n) s (bitCounted n miss full s) :=
  ((Writes.refl _ s).when miss ((inc_writes s _).mono (by simp))).when full ((inc_writes _ _).mono (by simp))

theorem bitCounted_err (miss full : Bool) : (bitCounted n miss full s).get (F.HP_PRBS_ERR_ERR n) =
    if miss then s.more (F.HP_PRBS_ERR_ERR n) else s.get (F.HP_PRBS_ERR_ERR n) := by
  rw [bitCounted, State.get_when, State.get_inc_sep _ _ (Fld.sep_of_addr_ne (atLANE_ne n n (by decide))), ite_self, State.get_when,
    State.get_inc_same _ rfl]

theorem bitCounted_bits (miss full : Bool) : (bitCounted n miss full s).get (F.HP_PRBS_BITS_BITS n) =
    if full then s.more (F.HP_PRBS_BITS_BITS n) else s.get (F.HP_PRBS_BITS_BITS n) := by
  have herr : (s.when miss (·.inc (F.HP_PRBS_ERR_ERR n))).get (F.HP_PRBS_BITS_BITS n) = s.get (F.HP_PRBS_BITS_BITS n) := by
    rw [State.get_when, State.get_inc_sep _ _ (Fld.sep_of_addr_ne (atLANE_ne n n (by decide))), ite_self]
  rw [bitCounted, State.get_when, State.get_inc_same _ rfl, State.more, herr, State.more]

theorem bitCounted_get (miss full : Bool) {f : Fld} (hf : f.addr = atLANE n 0x1C) : (bitCounted n miss full s).get f = s.get f :=
  (bitCounted_writes n s miss full).get_of_addr (by simp [hf, F.HP_PRBS_ERR_ERR, F.HP_PRBS_BITS_BITS])

theorem syncLost_writes : Writes (lossStatFlds n) (s.setLn n Lane.unsynced) (syncLost n s) :=
  Writes.map ((((Writes.refl (lossStatFlds n) s).put (by simp) 0).put (by simp) 1).inc (by simp)) (·.setLn n Lane.unsynced) fun _ _ => rfl

theorem syncLost_sync : (syncLost n s).get (F.HP_PRBS_STAT_SYNC n) = 0 := by
  rw [syncLost, State.setLn_get, State.get_inc_sep _ _ (Fld.sep_of_bits rfl), State.get_flag_sep _ _ (Fld.sep_of_bits rfl)]
  exact State.get_put_zero _ _ rfl

theorem syncLost_lost : (syncLost n s).get (F.HP_PRBS_STAT_SYNC_LOST n) = 1 := by
  rw [syncLost, State.setLn_get, State.get_inc_sep _ _ (Fld.sep_of_bits rfl)]
  exact State.get_put_one _ _ rfl

theorem syncLost_count : (syncLost n s).get (F.HP_PRBS_STAT_SYNC_LOSS_COUNT n) = s.more (F.HP_PRBS_STAT_SYNC_LOSS_COUNT n) := by
  rw [syncLost, State.setLn_get, State.get_inc_same _ rfl, State.more, State.get_flag_sep _ _ (Fld.sep_of_bits rfl),
    State.get_put_sep _ _ _ _ (Fld.sep_of_bits rfl), State.more]

theorem syncLost_get {f : Fld} (hf : f.addr ≠ atLANE n 0x1C) : (syncLost n s).get f = s.get f :=
  ((syncLost_writes n s).get_of_addr (by
    simp [F.HP_PRBS_STAT_SYNC, F.HP_PRBS_STAT_SYNC_LOST, F.HP_PRBS_STAT_SYNC_LOSS_COUNT, hf.symm])).trans (State.setLn_get ..)

end

/-- A bit compared, with its counts and its record. -/
def bitTaken (n pat : Nat) (want miss full : Bool) (s : State) : State :=
  (bitCounted n miss full s).setLn n (Lane.compared pat want full (miss :: (s.lane n).prbsMiss))

/-- What a bit in SYNC does to the lane's counts and states. -/
structure BitShown (s t : State) (n : Nat) (miss full lost : Bool) : Prop where
  err : t.get (F.HP_PRBS_ERR_ERR n) = if miss then s.more (F.HP_PRBS_ERR_ERR n) else s.get (F.HP_PRBS_ERR_ERR n)
  bits : t.get (F.HP_PRBS_BITS_BITS n) = if full then s.more (F.HP_PRBS_BITS_BITS n) else s.get (F.HP_PRBS_BITS_BITS n)
  sync : t.on (F.HP_PRBS_STAT_SYNC n) = !lost
  syncLost : t.get (F.HP_PRBS_STAT_SYNC_LOST n) = if lost then 1 else s.get (F.HP_PRBS_STAT_SYNC_LOST n)
  count : t.get (F.HP_PRBS_STAT_SYNC_LOSS_COUNT n) =
    if lost then s.more (F.HP_PRBS_STAT_SYNC_LOSS_COUNT n) else s.get (F.HP_PRBS_STAT_SYNC_LOSS_COUNT n)

section
variable (n pat : Nat) (want miss full : Bool) (s : State)

theorem bitTaken_get (f : Fld) : (bitTaken n pat want miss full s).get f = (bitCounted n miss full s).get f := by rw [bitTaken, State.setLn_get]

theorem bitTaken_stat {f : Fld} (hf : f.addr = atLANE n 0x1C) : (bitTaken n pat want miss full s).get f = s.get f :=
  (bitTaken_get n pat want miss full s f).trans (bitCounted_get n s miss full hf)

theorem bitTaken_writes : Writes (countFlds n) (s.setLn n (Lane.compared pat want full (miss :: (s.lane n).prbsMiss)))
    (bitTaken n pat want miss full s) :=
  (bitCounted_writes n s miss full).map (·.setLn n (Lane.compared pat want full (miss :: (s.lane n).prbsMiss))) fun _ _ => rfl

theorem bitTaken_shown (hsync : s.on (F.HP_PRBS_STAT_SYNC n) = true) : BitShown s (bitTaken n pat want miss full s) n miss full false where
  err := (bitTaken_get ..).trans (bitCounted_err ..)
  bits := (bitTaken_get ..).trans (bitCounted_bits ..)
  sync := by rw [State.on, bitTaken_stat n pat want miss full s (f := F.HP_PRBS_STAT_SYNC n) rfl, ← State.on, hsync, Bool.not_false]
  syncLost := bitTaken_stat n pat want miss full s rfl
  count := bitTaken_stat n pat want miss full s rfl

theorem bitLost_shown : BitShown s (syncLost n (bitTaken n pat want miss full s)) n miss full true where
  err := (syncLost_get n _ (atLANE_ne n n (by decide))).trans ((bitTaken_get ..).trans (bitCounted_err ..))
  bits := (syncLost_get n _ (atLANE_ne n n (by decide))).trans ((bitTaken_get ..).trans (bitCounted_bits ..))
  sync := by rw [State.on, syncLost_sync]; rfl
  syncLost := syncLost_lost n _
  count := by rw [syncLost_count, State.more, bitTaken_stat n pat want miss full s (f := F.HP_PRBS_STAT_SYNC_LOSS_COUNT n) rfl]; rfl

theorem bitLost_writes : Writes (lossStatFlds n ++ countFlds n)
    ((s.setLn n (Lane.compared pat want full (miss :: (s.lane n).prbsMiss))).setLn n Lane.unsynced) (syncLost n (bitTaken n pat want miss full s)) :=
  (((bitTaken_writes n pat want miss full s).map (·.setLn n Lane.unsynced) fun _ _ => rfl).mono (List.subset_append_right ..)).trans
    ((syncLost_writes n _).mono (List.subset_append_left ..))

end

theorem BitShown.settled {s t : State} {n : Nat} {miss full lost : Bool} (h : BitShown s.fresh t n miss full lost) :
    BitShown s (settle t) n miss full lost where
  err := (settle_get ..).trans h.err
  bits := (settle_get ..).trans h.bits
  sync := (settle_on ..).trans h.sync
  syncLost := (settle_get ..).trans h.syncLost
  count := (settle_get ..).trans h.count

/-- A bit in SYNC: its outcome with the record it leaves. -/
theorem prbsCompare_settled (n pat : Nat) (b : Bool) {s : State} (hsync : s.on (F.HP_PRBS_STAT_SYNC n) = true) :
    let x := s.lane n
    let want := prbsNext pat x.prbs
    let miss := b != want
    let lost := decide (32 ≤ (miss :: x.prbsMiss).countP (· == true))
    let t := settle (prbsCompare n pat [b] s.fresh)
    BitShown s t n miss (x.prbsBits + 1 == 1024) lost ∧
      (lost = false → t.lane n = x.compared pat want (x.prbsBits + 1 == 1024) (miss :: x.prbsMiss)) ∧ Sent [] t ∧
      Frame (lossStatFlds n ++ countFlds n) s { s with lanes := t.lanes } t := by
  intro x want miss lost
  have hsingle := prbsCompare_single n pat b s.fresh
  have htaken := bitTaken_writes n pat want miss (x.prbsBits + 1 == 1024) s.fresh
  have hlost := bitLost_writes n pat want miss (x.prbsBits + 1 == 1024) s.fresh
  cases h : lost with
  | true =>
    have hop : prbsCompare n pat [b] s.fresh = syncLost n (bitTaken n pat want miss (x.prbsBits + 1 == 1024) s.fresh) :=
      hsingle.trans (if_pos (of_decide_eq_true h))
    rw [hop]
    exact ⟨(bitLost_shown ..).settled, fun hno => absurd hno (by decide), hlost.sent, hlost.laneFrame rfl rfl⟩
  | false =>
    have hop : prbsCompare n pat [b] s.fresh = bitTaken n pat want miss (x.prbsBits + 1 == 1024) s.fresh :=
      hsingle.trans (if_neg (of_decide_eq_false h))
    rw [hop]
    refine ⟨(bitTaken_shown n pat want miss _ s.fresh hsync).settled, fun _ => ?_, htaken.sent,
      (htaken.mono (List.subset_append_right ..)).laneFrame rfl rfl⟩
    rw [settle_lane, htaken.lane, State.lane_setLn_same, State.fresh_v_lane]

theorem opPrbsSyncLoss_of_sync {s : State} {n : Nat} (l : List Bool) (hline : s.loops n = false) (hsync : s.on (F.HP_PRBS_STAT_SYNC n) = true) :
    opPrbsSyncLoss n l s = prbsCompare n (s.get (F.HP_PRBS_CTRL_RX_PAT n)) (s.rxBits n l) s := by
  rw [opPrbsSyncLoss, if_pos hsync, lineBits_of_line l hline]

/-! ### CLR and INJECT (R191, R199) -/

abbrev prbsCounts (n : Nat) : List Fld := [F.HP_PRBS_STAT_SYNC_LOSS_COUNT n, F.HP_PRBS_ERR_ERR n, F.HP_PRBS_BITS_BITS n]

theorem opPrbsClr_writes (n : Nat) (s : State) : Writes (prbsCounts n) s (opPrbsClr n s) :=
  (((Writes.refl _ s).put (by simp) 0).put (by simp) 0).put (by simp) 0

theorem opPrbsClr_zero (n : Nat) (s : State) : ∀ f ∈ prbsCounts n, (opPrbsClr n s).get f = 0 := by
  have hsep : ∀ {f g : Fld} {v a b : Nat} {u : State}, f.addr = atLANE n a → g.addr = atLANE n b → a % 64 ≠ b % 64 → (u.put f v).get g = u.get g :=
    fun hf hg h => State.get_put_sep _ _ _ _ (Fld.sep_of_addr_ne (by rw [hf, hg]; exact atLANE_ne n n h))
  intro f hf
  simp only [List.mem_cons, List.not_mem_nil, or_false] at hf
  obtain rfl | rfl | rfl := hf
  · exact State.get_put_zero _ _ rfl
  · rw [opPrbsClr, hsep (a := 0x1C) (b := 0x20) rfl rfl (by decide), hsep (a := 0x24) (b := 0x20) rfl rfl (by decide)]
    exact State.get_put_zero _ _ rfl
  · rw [opPrbsClr, hsep (a := 0x1C) (b := 0x24) rfl rfl (by decide)]
    exact State.get_put_zero _ _ rfl

/-- The generator of a lane runs: in TEST, with a pattern. -/
abbrev State.generates (s : State) (n : Nat) : Prop :=
  s.get (F.HP_LANE_STATE_TXS n) = lnTest ∧ (s.get (F.HP_PRBS_CTRL_TX_PAT n) = 1 ∨ s.get (F.HP_PRBS_CTRL_TX_PAT n) = 2)

section
variable {n : Nat} {s : State}

theorem generates_iff : (s.get (F.HP_LANE_STATE_TXS n) == lnTest && patOn (s.get (F.HP_PRBS_CTRL_TX_PAT n))) = true ↔ s.generates n := by
  simp [State.generates, patOn]

theorem opPrbsInject_of_running (h : s.generates n) : opPrbsInject n s = (s.setLn n fun x => { x with inject := true }).send (.inject n) :=
  if_pos (generates_iff.mpr h)

theorem opPrbsInject_of_off (h : ¬ s.generates n) : opPrbsInject n s = s := if_neg fun hc => h (generates_iff.mp hc)

end

theorem inject_settled (n : Nat) (s : State) :
    let t := settle (opPrbsInject n s.fresh)
    Sent (if s.generates n then [.inject n] else []) t ∧ (s.generates n → (t.lane n).inject = true) ∧
      Frame [] s (if s.generates n then s.setLn n fun x => { x with inject := true } else s) t := by
  by_cases h : s.generates n
  · rw [opPrbsInject_of_running (s := s.fresh) h, if_pos h, if_pos h]
    refine ⟨rfl, fun _ => ?_, frame_of_same_regs rfl rfl⟩
    rw [settle_lane, State.lane, State.send_lanes, ← State.lane, State.lane_setLn_same]
  · rw [opPrbsInject_of_off (s := s.fresh) h, if_neg h, if_neg h]
    exact ⟨rfl, fun hg => absurd hg h, frame_of_same_regs rfl rfl⟩

/-! ### The commands of PRBS -/

section
variable {s : State} {n : Nat} (ha : s.acts)
include ha

theorem exec_prbsSync_run (l : List Bool) (hn : n < 112) : exec (.prbsSync ⟨n, l⟩) s = .next (settle (opPrbsSync n l s.fresh)) := by
  rw [exec_prbsSync, execPrbsSync, run_only ha (decide_eq_true hn)]

theorem exec_prbsSyncLoss_of_sync (b : Bool) (hn : n < 112) (hline : s.loops n = false) (hsync : s.on (F.HP_PRBS_STAT_SYNC n) = true) :
    exec (.prbsSyncLoss n [] [b]) s =
      .next (settle (prbsCompare n (s.get (F.HP_PRBS_CTRL_RX_PAT n)) [b != s.on (F.HP_LANE_TXM_RX_POL n)] s.fresh)) := by
  rw [exec_prbsSyncLoss, execPrbsSyncLoss, run_only ha (decide_eq_true hn), List.nil_append,
    opPrbsSyncLoss_of_sync (s := s.fresh) [b] hline hsync, State.fresh_get, State.fresh_v_rxBits, rxBits_eq, List.map_singleton]

theorem exec_prbsClr_of_answers (hn : n < 112) (hw : s.answersAt (atLANE n 0x18) = true) :
    exec (.prbsClr n) s = .next (settle (opPrbsClr n s.fresh)) := by
  rw [exec_prbsClr, execPrbsClr, runRind_only_atWindow ha (decide_eq_true hn) hw]

theorem exec_prbsInject_of_answers (hn : n < 112) (hw : s.answersAt (atLANE n 0x18) = true) :
    exec (.prbsInject n) s = .next (settle (opPrbsInject n s.fresh)) := by
  rw [exec_prbsInject, execPrbsInject, runRind_only_atWindow ha (decide_eq_true hn) hw]

end

end Sys2Proof.Machine
end

section
/-!
PROOFS. Chapter 06: groups in TEST (R187, R192).
-/

namespace Sys2Proof.Machine

open Sys2Proof

/-! ### The lanes of a group in a state with bias on (R187, R192) -/

/-- A lane's halves in states `tx` and `rx`. -/
def LaneIn (tx rx n : Nat) (s : State) : Prop := s.get (F.HP_LANE_STATE_RXS n) = rx ∧ s.get (F.HP_LANE_STATE_TXS n) = tx

/-- A state in which the receive half has its bias. -/
def Biased (rx : Nat) : Prop := rx ≠ lnRest ∧ rx ≠ lnRetired ∧ rx < 16

section
variable {tx rx n : Nat}

theorem setLane_biased (hrx : Biased rx) (n tx : Nat) (s : State) : setLane n tx rx s =
    ((s.put (F.HP_LANE_STATE_TXS n) tx).when (rx == lnStandby) (·.put (F.HP_LANE_STATE_CDR_LOCK n) 0)).put (F.HP_LANE_STATE_RXS n) rx := by
  obtain ⟨hrest, hretired, -⟩ := hrx
  simp [setLane, setRxHalf, State.when, hrest, hretired]

theorem setLane_biased_writes (hrx : Biased rx) (n tx : Nat) (s : State) : Writes (laneFlds n) s (setLane n tx rx s) := by
  rw [setLane_biased hrx]
  exact (((Writes.refl _ s).put (by simp [laneFlds]) _).when _ ((put_writes _ _ _).mono (by simp [laneFlds]))).put (by simp [laneFlds]) _

theorem setLane_biased_in (htx : tx < 16) (hrx : Biased rx) (n : Nat) (s : State) : LaneIn tx rx n (setLane n tx rx s) := by
  rw [setLane_biased hrx]
  refine ⟨State.get_put_fit _ _ rfl hrx.2.2, ?_⟩
  rw [State.get_put_sep _ _ _ _ (Fld.sep_of_bits rfl), State.get_when, State.get_put_sep _ _ _ _ (Fld.sep_of_bits rfl), ite_self]
  exact State.get_put_fit _ _ rfl htx

theorem LaneIn.of_get {s t : State} (h : LaneIn tx rx n s) (hg : ∀ f : Fld, f.addr = atLANE n 0 → t.get f = s.get f) : LaneIn tx rx n t :=
  ⟨(hg _ rfl).trans h.1, (hg _ rfl).trans h.2⟩

end

section
variable {g st n : Nat}

/-- The state of a group's transmit halves. -/
def txState (g st : Nat) : Nat := if g < 16 then st else lnRest

theorem txState_eq (g st : Nat) : txState g st = if 16 ≤ g then lnRest else st := by
  simp only [txState, ← Nat.not_lt, ite_not]

theorem groupPll_writes (g : Nat) (s : State) : Writes [F.HP_GROUP_STATE_PLL_LOCK g] s (groupPll g s) := put_writes s _ _

theorem groupState_writes (hst : Biased st) (g : Nat) (s : State) : Writes (groupFlds g) s (groupState g st s) :=
  (Writes.each _ s fun n hn t => (setLane_biased_writes hst n _ t).mono (laneFlds_subset hn)).trans
    ((groupPll_writes g _).mono (List.cons_subset.mpr ⟨List.mem_cons_self, List.nil_subset _⟩))

theorem groupState_in (hst : Biased st) (hn : n ∈ groupLanes g) (s : State) : LaneIn (txState g st) st n (groupState g st s) := by
  have htx : txState g st < 16 := by
    unfold txState
    split
    · exact hst.2.2
    · decide
  have hlanes : LaneIn (txState g st) st n (s.each (groupLanes g) fun n s => setLane n (txState g st) st s) := by
    refine State.each_establishes (P := LaneIn (txState g st) st) (fun n s => setLane_biased_in htx hst n s) (fun n m s hnm h => ?_) _ s (.inl hn)
    exact h.of_get fun f hf => (setLane_biased_writes hst m _ s).get_of_addr fun x hx hxf =>
      hnm.symm (atLANE_inj ((laneFlds_addr hx).symm.trans (hxf.trans hf)))
  exact hlanes.of_get fun f hf => (groupPll_writes g _).get_of_addr (by
    simpa [hf, F.HP_GROUP_STATE_PLL_LOCK] using atGROUP_ne_atLANE g n)

end

/-! ### The generators of a group (R190) -/

/-- A state with other lane records, after free values were drawn, in which `o` has been sent. -/
def State.withRun (ln : Tab Lane) (k : Nat) (o : List Out) (s : State) : State := { s with lanes := ln, freeN := k, out := o }

theorem State.withRun_get (ln : Tab Lane) (k : Nat) (o : List Out) (s : State) (f : Fld) : (s.withRun ln k o).get f = s.get f := rfl

/-- The frame of a command that starts generators and then writes registers. -/
theorem Writes.runFrame {l : List Fld} {s v t : State} (h : Writes l v t) (hr : v.regs = s.regs)
    (hk : v.kept = { s with lanes := v.lanes, freeN := v.freeN }.kept) :
    Frame l s { s with lanes := (settle t).lanes, freeN := (settle t).freeN } (settle t) := by
  rw [settle_lanes, settle_freeN, h.same State.lanes fun _ _ => rfl, h.same State.freeN fun _ _ => rfl]
  exact h.frame hr hk

theorem genStart_records (n : Nat) (s : State) : ∃ ln k o, genStart n s = s.withRun ln k o := by
  rw [genStart]
  split
  · exact ⟨_, _, _, rfl⟩
  · exact ⟨_, _, _, rfl⟩

theorem genStart_silent {n : Nat} {s : State} (h : patOn (s.get (F.HP_PRBS_CTRL_TX_PAT n)) = false) : ∃ ln, genStart n s = s.withRun ln s.freeN s.out := by
  rw [genStart, h, Bool.false_and, if_neg Bool.false_ne_true]
  exact ⟨_, rfl⟩

theorem each_genStart_records (L : List Nat) (s : State) : ∃ ln k o, s.each L genStart = s.withRun ln k o :=
  State.each_keeps (fun t => ∃ ln k o, t = s.withRun ln k o) genStart (fun n t h => by
    obtain ⟨ln, k, o, rfl⟩ := h
    obtain ⟨ln', k', o', h'⟩ := genStart_records n (s.withRun ln k o)
    exact ⟨ln', k', o', h'⟩) L s ⟨s.lanes, s.freeN, s.out, rfl⟩

/-- Generators without a pattern send nothing. -/
theorem each_genStart_out : ∀ (L : List Nat) (s : State), (∀ n ∈ L, patOn (s.get (F.HP_PRBS_CTRL_TX_PAT n)) = false) → (s.each L genStart).out = s.out
  | [], _, _ => rfl
  | n :: L, s, h => by
    obtain ⟨ln, hn⟩ := genStart_silent (h n List.mem_cons_self)
    have hrest := each_genStart_out L (genStart n s) fun m hm => by
      rw [hn, State.withRun_get]
      exact h m (List.mem_cons_of_mem n hm)
    calc (s.each (n :: L) genStart).out = (genStart n s).out := hrest
      _ = s.out := by rw [hn]; rfl

/-! ### TEST (R192) -/

abbrev testRateFlds (g : Nat) : List Fld := [F.HP_GROUP_CTRL_TEST_RATE g, F.HP_GROUP_STATE_PLL_LOCK g, F.HP_GROUP_STATE_RATE g]

section
variable (g rate : Nat) (s : State)

theorem opTestRateChange_eq : opTestRateChange g rate s =
    (s.put (F.HP_GROUP_CTRL_TEST_RATE g) rate).when (s.on (F.HP_GROUP_CTRL_TEST_EN g)) fun u => groupPll g (groupRate g rate u) := by
  rw [opTestRateChange, State.on_put_sep _ _ _ _ (Fld.sep_of_bits rfl)]
  rfl

theorem opTestRateChange_writes : Writes (testRateFlds g) s (opTestRateChange g rate s) := by
  rw [opTestRateChange_eq]
  exact ((put_writes s _ _).mono (by simp)).when _ (((groupRate_writes g _ rate).mono (by simp)).trans ((groupPll_writes g _).mono (by simp)))

theorem opTestRateChange_testRate : (opTestRateChange g rate s).get (F.HP_GROUP_CTRL_TEST_RATE g) = rate % 4 := by
  have hset : (s.put (F.HP_GROUP_CTRL_TEST_RATE g) rate).get (F.HP_GROUP_CTRL_TEST_RATE g) = rate % 4 := State.get_put_same s _ rate rfl
  rw [opTestRateChange_eq, State.get_when,
    (groupPll_writes g _).get (by simp [Fld.sep, F.HP_GROUP_STATE_PLL_LOCK, F.HP_GROUP_CTRL_TEST_RATE]),
    (groupRate_writes g _ rate).get (by simp [Fld.sep, F.HP_GROUP_STATE_RATE, F.HP_GROUP_CTRL_TEST_RATE]), ite_self, hset]

theorem opTestRateChange_rate : (opTestRateChange g rate s).get (F.HP_GROUP_STATE_RATE g) =
    if s.on (F.HP_GROUP_CTRL_TEST_EN g) then rate % 4 else s.get (F.HP_GROUP_STATE_RATE g) := by
  have hset : (groupRate g rate (s.put (F.HP_GROUP_CTRL_TEST_RATE g) rate)).get (F.HP_GROUP_STATE_RATE g) = rate % 4 := State.get_put_same _ _ rate rfl
  rw [opTestRateChange_eq, State.get_when, (groupPll_writes g _).get (by simp [Fld.sep, F.HP_GROUP_STATE_PLL_LOCK, F.HP_GROUP_STATE_RATE]), hset,
    State.get_put_sep _ _ _ _ (Fld.sep_of_addr_ne (by simp [F.HP_GROUP_CTRL_TEST_RATE, F.HP_GROUP_STATE_RATE]))]

end

/-- The bits of HP_GROUP_CTRL beside the rate. -/
def testWritten (g : Nat) (w : Word) (s : State) : State :=
  (s.put (F.HP_GROUP_CTRL_TEST_EN g) (bits w.toNat 31 31)).put (F.HP_GROUP_CTRL_LOOP g) (bits w.toNat 28 28)

/-- A group's lanes enter TEST or leave it. -/
def testTurned (g : Nat) (on : Bool) (s : State) : State :=
  (groupRate g 0 (groupState g (if on then lnTest else lnStandby) s)).each (groupLanes g) genStart

/-- What a write of HP_GROUP_CTRL does before its rate. -/
def testEntered (g : Nat) (w : Word) (s : State) : State :=
  if w.getLsbD 31 = s.on (F.HP_GROUP_CTRL_TEST_EN g) then testWritten g w s else testTurned g (w.getLsbD 31) (testWritten g w s)

theorem opTestEnWrite_of_unused {g : Nat} {s : State} (w : Word) (h : s.on (F.HP_GROUP_STATE_IN_USE g) = false) :
    opTestEnWrite g w s = opTestRateChange g (bits w.toNat 30 29) (testEntered g w s) := by
  rw [opTestEnWrite, h, Bool.and_false, if_neg Bool.false_ne_true]
  simp only [testEntered, beq_iff_eq]
  rfl

theorem opTestEnWrite_of_used {g : Nat} {s : State} {w : Word} (hbit : w.getLsbD 31 = true) (h : s.on (F.HP_GROUP_STATE_IN_USE g) = true) :
    opTestEnWrite g w s = s.flag (F.HP_GROUP_STATE_TEST_REFUSED g) := by
  have hbit' : w.toNat.testBit 31 = true := hbit
  rw [opTestEnWrite, h, hbit', Bool.and_self, if_pos rfl]

/-- What a turn of TEST writes. -/
abbrev turnFlds (g : Nat) : List Fld := F.HP_GROUP_STATE_RATE g :: groupFlds g

/-- The registers of a group's and its lanes' states. -/
theorem turnFlds_addr {g : Nat} {f : Fld} (h : f ∈ turnFlds g) : f.addr = atGROUP g 0 ∨ ∃ n, f.addr = atLANE n 0 := by
  obtain rfl | h := List.mem_cons.mp h
  · exact .inl rfl
  · exact (groupFlds_addr h).imp_right fun ⟨n, _, hn⟩ => ⟨n, hn⟩

theorem turnFlds_ne_ctrl {g : Nat} : ∀ f ∈ turnFlds g, f.addr ≠ atGROUP g 4 := fun f hf => by
  obtain h | ⟨n, h⟩ := turnFlds_addr hf
  · rw [h, ne_eq, atGROUP_offset_inj]
    decide
  · rw [h]
    exact (atGROUP_ne_lane g n (by decide)).symm

/-- The state that a write of TEST_EN gives a group. -/
def turnState (on : Bool) : Nat := if on then lnTest else lnStandby

theorem turnState_biased (on : Bool) : Biased (turnState on) := by cases on <;> exact ⟨by decide, by decide, by decide⟩

section
variable (g : Nat) (on : Bool) (s : State)

/-- A group in its new state, before its generators start. -/
def lanesTurned : State := groupRate g 0 (groupState g (turnState on) s)

theorem lanesTurned_writes : Writes (turnFlds g) s (lanesTurned g on s) :=
  ((groupState_writes (turnState_biased on) g s).mono (List.subset_cons_self ..)).put List.mem_cons_self 0

theorem testTurned_eq : testTurned g on s = (lanesTurned g on s).each (groupLanes g) genStart := rfl

theorem testTurned_get (f : Fld) : (testTurned g on s).get f = (lanesTurned g on s).get f := by
  obtain ⟨ln, k, o, h⟩ := each_genStart_records (groupLanes g) (lanesTurned g on s)
  rw [testTurned_eq, h, State.withRun_get]

theorem testTurned_rate : (testTurned g on s).get (F.HP_GROUP_STATE_RATE g) = 0 :=
  (testTurned_get ..).trans (State.get_put_zero _ _ rfl)

theorem testTurned_in {n : Nat} (hn : n ∈ groupLanes g) : LaneIn (txState g (turnState on)) (turnState on) n (testTurned g on s) :=
  (groupState_in (turnState_biased on) hn s).of_get fun f hf => (testTurned_get g on s f).trans (groupRate_get_lane g 0 n _ hf)

theorem testTurned_writes : ∃ ln k o, Writes (turnFlds g) (s.withRun ln k o) (testTurned g on s) ∧
    ((∀ n ∈ groupLanes g, patOn (s.get (F.HP_PRBS_CTRL_TX_PAT n)) = false) → o = s.out) := by
  obtain ⟨ln, k, o, h⟩ := each_genStart_records (groupLanes g) (lanesTurned g on s)
  have hturned := lanesTurned_writes g on s
  have hpat : ∀ n, (lanesTurned g on s).get (F.HP_PRBS_CTRL_TX_PAT n) = s.get (F.HP_PRBS_CTRL_TX_PAT n) := fun n =>
    hturned.get_of_addr fun f hf => by
      obtain h | ⟨m, h⟩ := turnFlds_addr hf
      · rw [h]
        exact atGROUP_ne_laneReg g n (by decide) (by decide)
      · rw [h]
        exact atLANE_ne m n (by decide)
  refine ⟨ln, k, o, ?_, fun hoff => ?_⟩
  · rw [testTurned_eq, h]
    exact hturned.map (State.withRun ln k o) fun _ _ => rfl
  · have hout := each_genStart_out (groupLanes g) (lanesTurned g on s) fun n hn => by rw [hpat]; exact hoff n hn
    rw [h] at hout
    exact hout.trans (hturned.same State.out fun _ _ => rfl)

end

section
variable (g : Nat) (w : Word) (s : State)

theorem testWritten_writes : Writes [F.HP_GROUP_CTRL_TEST_EN g, F.HP_GROUP_CTRL_LOOP g] s (testWritten g w s) :=
  ((Writes.refl _ s).put (by simp) _).put (by simp) _

theorem testWritten_en : (testWritten g w s).get (F.HP_GROUP_CTRL_TEST_EN g) = if w.getLsbD 31 then 1 else 0 := by
  rw [testWritten, State.get_put_sep _ _ _ _ (Fld.sep_of_bits rfl)]
  exact (State.get_put_bits s (F.HP_GROUP_CTRL_TEST_EN g) w rfl).trans (Fld.of_one_bit _ w rfl)

theorem testWritten_loop : (testWritten g w s).get (F.HP_GROUP_CTRL_LOOP g) = if w.getLsbD 28 then 1 else 0 :=
  (State.get_put_bits _ (F.HP_GROUP_CTRL_LOOP g) w rfl).trans (Fld.of_one_bit _ w rfl)

abbrev enteredFlds (g : Nat) : List Fld := [F.HP_GROUP_CTRL_TEST_EN g, F.HP_GROUP_CTRL_LOOP g] ++ turnFlds g

theorem testEntered_writes : ∃ ln k o, Writes (enteredFlds g) (s.withRun ln k o) (testEntered g w s) ∧
    ((∀ n ∈ groupLanes g, patOn (s.get (F.HP_PRBS_CTRL_TX_PAT n)) = false) ∨ w.getLsbD 31 = s.on (F.HP_GROUP_CTRL_TEST_EN g) → o = s.out) := by
  have hwritten := testWritten_writes g w s
  by_cases hsame : w.getLsbD 31 = s.on (F.HP_GROUP_CTRL_TEST_EN g)
  · rw [testEntered, if_pos hsame]
    exact ⟨s.lanes, s.freeN, s.out, hwritten.mono (List.subset_append_left ..), fun _ => rfl⟩
  · rw [testEntered, if_neg hsame]
    obtain ⟨ln, k, o, hturned, hout⟩ := testTurned_writes g (w.getLsbD 31) (testWritten g w s)
    have hpat : ∀ n, (testWritten g w s).get (F.HP_PRBS_CTRL_TX_PAT n) = s.get (F.HP_PRBS_CTRL_TX_PAT n) := fun n =>
      hwritten.get_of_addr (by
        simp [F.HP_GROUP_CTRL_TEST_EN, F.HP_GROUP_CTRL_LOOP, F.HP_PRBS_CTRL_TX_PAT, atGROUP_ne_laneReg])
    refine ⟨ln, k, o, ((hwritten.map (State.withRun ln k o) fun _ _ => rfl).mono (List.subset_append_left ..)).trans
      (hturned.mono (List.subset_append_right ..)), fun h => ?_⟩
    rw [hout fun n hn => by rw [hpat]; exact (h.resolve_right hsame) n hn]
    exact hwritten.same State.out fun _ _ => rfl

theorem testEntered_ctrl {f : Fld} (hf : f.addr = atGROUP g 4) : (testEntered g w s).get f = (testWritten g w s).get f := by
  rw [testEntered]
  split
  · rfl
  · exact (testTurned_get ..).trans ((lanesTurned_writes g _ _).get_of_addr fun x hx => by
      rw [hf]
      exact turnFlds_ne_ctrl x hx)

theorem testEntered_rate : (testEntered g w s).get (F.HP_GROUP_STATE_RATE g) =
    if w.getLsbD 31 = s.on (F.HP_GROUP_CTRL_TEST_EN g) then s.get (F.HP_GROUP_STATE_RATE g) else 0 := by
  rw [testEntered]
  split
  · exact (testWritten_writes g w s).get_of_addr (by simp [F.HP_GROUP_CTRL_TEST_EN, F.HP_GROUP_CTRL_LOOP, F.HP_GROUP_STATE_RATE])
  · exact testTurned_rate ..

theorem testEntered_in {n : Nat} (hn : n ∈ groupLanes g) (hturn : s.on (F.HP_GROUP_CTRL_TEST_EN g) ≠ w.getLsbD 31) :
    LaneIn (txState g (turnState (w.getLsbD 31))) (turnState (w.getLsbD 31)) n (testEntered g w s) := by
  rw [testEntered, if_neg hturn.symm]
  exact testTurned_in g _ _ hn

end

/-- What a write of HP_GROUP_CTRL writes. -/
abbrev groupCtrlFlds (g : Nat) : List Fld :=
  [F.HP_GROUP_CTRL_TEST_EN g, F.HP_GROUP_CTRL_LOOP g, F.HP_GROUP_CTRL_TEST_RATE g, F.HP_GROUP_STATE_PLL_LOCK g, F.HP_GROUP_STATE_RATE g] ++
    (groupLanes g).flatMap fun n => [F.HP_LANE_STATE_TXS n, F.HP_LANE_STATE_RXS n, F.HP_LANE_STATE_CDR_LOCK n]

theorem enteredFlds_subset (g : Nat) : enteredFlds g ⊆ groupCtrlFlds g := by
  intro f hf
  simp only [enteredFlds, turnFlds, groupFlds, laneFlds, List.cons_append, List.nil_append, List.mem_cons, List.mem_flatMap, List.not_mem_nil,
    or_false] at hf
  simp only [groupCtrlFlds, List.cons_append, List.nil_append, List.mem_cons, List.mem_flatMap, List.not_mem_nil, or_false]
  obtain h | h | h | h | ⟨n, hn, h⟩ := hf
  · simp [h]
  · simp [h]
  · simp [h]
  · simp [h]
  · exact .inr (.inr (.inr (.inr (.inr ⟨n, hn, by tauto⟩))))

theorem testEn_settled {g : Nat} (w : Word) {s : State} (hunused : s.on (F.HP_GROUP_STATE_IN_USE g) = false) :
    let t := settle (opTestEnWrite g w s.fresh)
    (t.get (F.HP_GROUP_CTRL_TEST_EN g) = (if w.getLsbD 31 then 1 else 0) ∧ t.get (F.HP_GROUP_CTRL_LOOP g) = if w.getLsbD 28 then 1 else 0) ∧
      t.get (F.HP_GROUP_CTRL_TEST_RATE g) = bits w.toNat 30 29 ∧
      (∀ n ∈ groupLanes g, s.on (F.HP_GROUP_CTRL_TEST_EN g) ≠ w.getLsbD 31 →
        LaneIn (txState g (turnState (w.getLsbD 31))) (turnState (w.getLsbD 31)) n t) ∧
      t.get (F.HP_GROUP_STATE_RATE g) = (if w.getLsbD 31 then bits w.toNat 30 29 else
        if s.on (F.HP_GROUP_CTRL_TEST_EN g) then 0 else s.get (F.HP_GROUP_STATE_RATE g)) ∧
      ((∀ n ∈ groupLanes g, patOn (s.get (F.HP_PRBS_CTRL_TX_PAT n)) = false) ∨ w.getLsbD 31 = s.on (F.HP_GROUP_CTRL_TEST_EN g) → Sent [] t) ∧
      Frame (groupCtrlFlds g) s { s with lanes := t.lanes, freeN := t.freeN } t := by
  have hbits : bits w.toNat 30 29 % 4 = bits w.toNat 30 29 := Nat.mod_mod _ _
  obtain ⟨ln, k, o, hentered, hout⟩ := testEntered_writes g w s.fresh
  have hrate := opTestRateChange_writes g (bits w.toNat 30 29) (testEntered g w s.fresh)
  have hall : Writes (groupCtrlFlds g) (s.fresh.withRun ln k o) (opTestRateChange g (bits w.toNat 30 29) (testEntered g w s.fresh)) :=
    (hentered.mono (enteredFlds_subset g)).trans (hrate.mono (by simp))
  have hen : (testEntered g w s.fresh).get (F.HP_GROUP_CTRL_TEST_EN g) = if w.getLsbD 31 then 1 else 0 :=
    (testEntered_ctrl g w s.fresh rfl).trans (testWritten_en ..)
  have hon : (testEntered g w s.fresh).on (F.HP_GROUP_CTRL_TEST_EN g) = w.getLsbD 31 := by
    rw [State.on, hen]
    cases w.getLsbD 31 <;> rfl
  have hctrl : ∀ f : Fld, f.addr = atGROUP g 4 → (F.HP_GROUP_CTRL_TEST_RATE g).sep f = true →
      (opTestRateChange g (bits w.toNat 30 29) (testEntered g w s.fresh)).get f = (testEntered g w s.fresh).get f := fun f hf hsep =>
    hrate.get (List.forall_mem_cons.mpr ⟨hsep, by simp [Fld.sep, hf, F.HP_GROUP_STATE_PLL_LOCK, F.HP_GROUP_STATE_RATE]⟩)
  rw [opTestEnWrite_of_unused (s := s.fresh) w hunused]
  simp only [settle_get]
  refine ⟨⟨?_, ?_⟩, ?_, fun n hn hturn => ?_, ?_, fun h => ?_, ?_⟩
  · rw [hctrl _ rfl (Fld.sep_of_bits rfl), hen]
  · rw [hctrl _ rfl (Fld.sep_of_bits rfl), testEntered_ctrl g w s.fresh rfl, testWritten_loop]
  · rw [opTestRateChange_testRate, hbits]
  · refine (testEntered_in g w s.fresh hn hturn).of_get fun f hf => (settle_get ..).trans (hrate.get_of_addr ?_)
    simp [hf, atGROUP_ne_laneReg, F.HP_GROUP_CTRL_TEST_RATE, F.HP_GROUP_STATE_PLL_LOCK, F.HP_GROUP_STATE_RATE]
  · rw [opTestRateChange_rate, hon, hbits, testEntered_rate, State.fresh_on, State.fresh_get]
    cases w.getLsbD 31 <;> cases s.on (F.HP_GROUP_CTRL_TEST_EN g) <;> rfl
  · exact hall.sent.trans (hout h)
  · exact hall.runFrame rfl rfl

/-! ### The commands of TEST -/

section
variable {s : State} {g : Nat} (ha : s.acts)
include ha

theorem exec_testEnWrite_of_ok {w : Word} (hg : g < 24) (hok : s.wordOk (atGROUP g 0x04) w = true) :
    exec (.testEnWrite g w) s = .next (settle (opTestEnWrite g w s.fresh)) := by
  rw [exec_testEnWrite, execTestEnWrite, runRindF_onlyE_withWord ha (decide_eq_true hg) hok]

theorem exec_testEnWrite_of_used {w : Word} (hg : g < 24) (hok : s.wordOk (atGROUP g 0x04) w = true) (hbit : w.getLsbD 31 = true)
    (hused : s.on (F.HP_GROUP_STATE_IN_USE g) = true) :
    exec (.testEnWrite g w) s = .next (settle (s.fresh.flag (F.HP_GROUP_STATE_TEST_REFUSED g))) := by
  rw [exec_testEnWrite_of_ok ha hg hok, opTestEnWrite_of_used (s := s.fresh) hbit hused]

theorem exec_testRateChange_of_answers (rate : Nat) (hg : g < 24) (hw : s.answersAt (atGROUP g 0x04) = true) :
    exec (.testRateChange g rate) s = .next (settle (opTestRateChange g rate s.fresh)) := by
  rw [exec_testRateChange, execTestRateChange, runRind_only_atWindow ha (decide_eq_true hg) hw]

end

end Sys2Proof.Machine
end

section
/-!
PROOFS. Chapter 06: the host's eye scans (R193 to R195, R200), and the tests of a lane together.
-/

namespace Sys2Proof.Machine

open Sys2Proof

/-! ### Host eye scans (R193 to R195, R200) -/

theorem sweepSide_le (isOpen : Int → Bool) (dir : Int) : ∀ (n : Nat) (p : Int), sweepSide isOpen dir n p ≤ n
  | 0, _ => Nat.le_refl 0
  | n + 1, p => by
    rw [sweepSide]
    split
    · exact Nat.succ_le_succ (sweepSide_le isOpen dir n _)
    · exact Nat.zero_le _

theorem sweep_le (isOpen : Int → Bool) (below above : Nat) : sweep isOpen below above ≤ below + above + 1 := by
  rw [sweep]
  split
  · exact Nat.succ_le_succ (Nat.add_le_add (sweepSide_le ..) (sweepSide_le ..))
  · exact Nat.zero_le _

/-- What a completed scan of a mode shows, before its end. -/
def scanShown (n mode width height errors : Nat) (s : State) : State :=
  ((s.when (mode == 1 || mode == 3) (·.put (F.HP_EYE_RESULT_WIDTH n) width)).when (mode == 2 || mode == 3)
    (·.put (F.HP_EYE_RESULT_HEIGHT n) height)).when (mode == 0) (·.put (F.HP_EYE_POINT_ERRORS n) errors)

abbrev scanShownFlds (n : Nat) : List Fld := [F.HP_EYE_RESULT_WIDTH n, F.HP_EYE_RESULT_HEIGHT n, F.HP_EYE_POINT_ERRORS n]

section
variable (n mode width height errors : Nat) (s : State)

theorem scanShown_writes : Writes (scanShownFlds n) s (scanShown n mode width height errors s) :=
  (((Writes.refl _ s).when _ ((put_writes _ _ _).mono (by simp))).when _ ((put_writes _ _ _).mono (by simp))).when _
    ((put_writes _ _ _).mono (by simp))

theorem scanShown_width (h : width < 128) : (scanShown n mode width height errors s).get (F.HP_EYE_RESULT_WIDTH n) =
    if mode = 1 ∨ mode = 3 then width else s.get (F.HP_EYE_RESULT_WIDTH n) := by
  rw [scanShown, State.get_when, State.get_put_sep _ _ _ _ (Fld.sep_of_addr_ne (atLANE_ne n n (by decide))), ite_self, State.get_when,
    State.get_put_sep _ _ _ _ (Fld.sep_of_bits rfl), ite_self, State.get_when, State.get_put_fit _ _ rfl h]
  simp only [Bool.or_eq_true, beq_iff_eq]

theorem scanShown_height (h : height < 512) : (scanShown n mode width height errors s).get (F.HP_EYE_RESULT_HEIGHT n) =
    if mode = 2 ∨ mode = 3 then height else s.get (F.HP_EYE_RESULT_HEIGHT n) := by
  rw [scanShown, State.get_when, State.get_put_sep _ _ _ _ (Fld.sep_of_addr_ne (atLANE_ne n n (by decide))), ite_self, State.get_when,
    State.get_put_fit _ _ rfl h, State.get_when, State.get_put_sep _ _ _ _ (Fld.sep_of_bits rfl), ite_self]
  simp only [Bool.or_eq_true, beq_iff_eq]

theorem scanShown_errors (h : errors < 2 ^ 32) : (scanShown n mode width height errors s).get (F.HP_EYE_POINT_ERRORS n) =
    if mode = 0 then errors else s.get (F.HP_EYE_POINT_ERRORS n) := by
  have hsep : ∀ {b : Bool} {f : Fld} {v : Nat} {u : State}, f.addr = atLANE n 0x2C →
      (u.when b (·.put f v)).get (F.HP_EYE_POINT_ERRORS n) = u.get (F.HP_EYE_POINT_ERRORS n) := fun hf => by
    rw [State.get_when, State.get_put_sep _ _ _ _ (Fld.sep_of_addr_ne (by rw [hf]; exact atLANE_ne n n (by decide))), ite_self]
  rw [scanShown, State.get_when, State.get_put_fit _ _ rfl h, hsep rfl, hsep rfl]
  simp only [beq_iff_eq]

end

/-- The points of a scan that are open, and what its sweeps over them give, within their fields. -/
theorem eyeWidth_lt (pts : List EyePoint) (dwell lim : Nat) : eyeWidth pts dwell lim < 128 :=
  (sweep_le _ 32 31).trans_lt (by decide)

theorem eyeHeight_lt (pts : List EyePoint) (dwell lim : Nat) : eyeHeight pts dwell lim < 512 :=
  (Nat.mul_le_mul_left 5 (sweep_le _ 31 31)).trans_lt (by decide)

/-- The error count of a POINT scan. -/
def State.pointErrors (s : State) (n : Nat) (pts : List EyePoint) : Nat :=
  min ((eyeErrors pts (s.get (F.HP_EYE_CTRL_DWELL n)) (s.getI (F.HP_EYE_CTRL_HOFF n)) (max (-31) (s.getI (F.HP_EYE_CTRL_VOFF n)))).getD 0) (2 ^ 32 - 1)

theorem State.pointErrors_lt (s : State) (n : Nat) (pts : List EyePoint) : s.pointErrors n pts < 2 ^ 32 :=
  (min_le_right _ _).trans_lt (by decide)

/-- What a scan of a lane under its settings shows. -/
def scanMeasured (n : Nat) (pts : List EyePoint) (s : State) : State :=
  scanShown n (s.get (F.HP_EYE_CTRL_MODE n)) (eyeWidth pts (s.get (F.HP_EYE_CTRL_DWELL n)) (s.get (F.HP_EYE_CTRL_ERR_LIM n)))
    (eyeHeight pts (s.get (F.HP_EYE_CTRL_DWELL n)) (s.get (F.HP_EYE_CTRL_ERR_LIM n))) (s.pointErrors n pts) s

section
variable {n : Nat} {s : State} (hscan : (s.lane n).scanning = true)
include hscan

theorem opEyeScanDone_of_scanning (pts : List EyePoint) : opEyeScanDone n pts s = eyeEnd n 0 (scanMeasured n pts s) := by
  rw [opEyeScanDone, hscan, Bool.not_true, if_neg Bool.false_ne_true]
  rfl

theorem opEyeScanAbort_of_scanning (nolock : Bool) : opEyeScanAbort n nolock s = eyeEnd n (if nolock then 3 else 2) s := if_pos hscan

end

theorem eyeEnd_get (n res : Nat) (s : State) {f : Fld} (hf : ∀ g ∈ scanEndFlds n, g.sep f = true) : (eyeEnd n res s).get f = s.get f :=
  ((eyeEnd_writes n s res).get hf).trans (scanStopped_get n s f)

theorem scanDone_settled {n : Nat} {s : State} (pts : List EyePoint) (hscan : (s.lane n).scanning = true) :
    let m := s.get (F.HP_EYE_CTRL_MODE n)
    let t := settle (opEyeScanDone n pts s.fresh)
    t.get (F.HP_EYE_RESULT_RES n) = 0 ∧ t.get (F.HP_EYE_RESULT_VALID n) = 1 ∧ t.get (F.HP_EYE_RESULT_SEQ n) = s.wrap (F.HP_EYE_RESULT_SEQ n) ∧
      t.get (F.HP_EYE_RESULT_WIDTH n) = (if m = 1 ∨ m = 3 then eyeWidth pts (s.get (F.HP_EYE_CTRL_DWELL n)) (s.get (F.HP_EYE_CTRL_ERR_LIM n))
        else s.get (F.HP_EYE_RESULT_WIDTH n)) ∧
      t.get (F.HP_EYE_RESULT_HEIGHT n) = (if m = 2 ∨ m = 3 then eyeHeight pts (s.get (F.HP_EYE_CTRL_DWELL n)) (s.get (F.HP_EYE_CTRL_ERR_LIM n))
        else s.get (F.HP_EYE_RESULT_HEIGHT n)) ∧
      t.get (F.HP_EYE_POINT_ERRORS n) = (if m = 0 then s.pointErrors n pts else s.get (F.HP_EYE_POINT_ERRORS n)) ∧
      (t.lane n).scanning = false ∧ Sent [] t ∧ Frame (scanEndFlds n ++ scanShownFlds n) s { s with lanes := t.lanes } t := by
  intro m
  have hshown : Writes (scanShownFlds n) s.fresh (scanMeasured n pts s.fresh) := scanShown_writes ..
  have hend := eyeEnd_writes n (scanMeasured n pts s.fresh) 0
  have hall : Writes (scanEndFlds n ++ scanShownFlds n) (scanStopped n s.fresh) (eyeEnd n 0 (scanMeasured n pts s.fresh)) :=
    ((hshown.map (scanStopped n) fun _ _ => rfl).mono (List.subset_append_right ..)).trans (hend.mono (List.subset_append_left ..))
  have hscan' : (s.fresh.lane n).scanning = true := by rwa [State.fresh_v_lane]
  have hseq : (scanMeasured n pts s.fresh).get (F.HP_EYE_RESULT_SEQ n) = s.get (F.HP_EYE_RESULT_SEQ n) :=
    hshown.get (by simp [Fld.sep, F.HP_EYE_RESULT_WIDTH, F.HP_EYE_RESULT_HEIGHT, F.HP_EYE_POINT_ERRORS, F.HP_EYE_RESULT_SEQ])
  rw [opEyeScanDone_of_scanning hscan']
  simp only [settle_get, settle_lane]
  refine ⟨eyeEnd_res n _ (by decide), eyeEnd_valid n _ 0, ?_, ?_, ?_, ?_, eyeEnd_scanning n _ 0, hall.sent, hall.laneFrame rfl rfl⟩
  · rw [eyeEnd_seq, State.wrap, hseq, State.wrap]
  · rw [eyeEnd_get n 0 _ (by simp [Fld.sep, F.HP_EYE_RESULT_WIDTH, F.HP_EYE_RESULT_RES, F.HP_EYE_RESULT_VALID, F.HP_EYE_RESULT_SEQ])]
    exact scanShown_width n _ _ _ _ s.fresh (eyeWidth_lt ..)
  · rw [eyeEnd_get n 0 _ (by simp [Fld.sep, F.HP_EYE_RESULT_HEIGHT, F.HP_EYE_RESULT_RES, F.HP_EYE_RESULT_VALID, F.HP_EYE_RESULT_SEQ])]
    exact scanShown_height n _ _ _ _ s.fresh (eyeHeight_lt ..)
  · rw [eyeEnd_get n 0 _ (by simp [Fld.sep, F.HP_EYE_POINT_ERRORS, F.HP_EYE_RESULT_RES, F.HP_EYE_RESULT_VALID, F.HP_EYE_RESULT_SEQ])]
    exact scanShown_errors n _ _ _ _ s.fresh (State.pointErrors_lt ..)

theorem scanAbort_settled {n : Nat} {s : State} (nolock : Bool) (hscan : (s.lane n).scanning = true) :
    let t := settle (opEyeScanAbort n nolock s.fresh)
    t.get (F.HP_EYE_RESULT_RES n) = (if nolock then 3 else 2) ∧ t.get (F.HP_EYE_RESULT_VALID n) = 1 ∧
      t.get (F.HP_EYE_RESULT_SEQ n) = s.wrap (F.HP_EYE_RESULT_SEQ n) ∧ (t.lane n).scanning = false ∧ Sent [] t ∧
      Frame (scanEndFlds n) s { s with lanes := t.lanes } t := by
  have hend := eyeEnd_writes n s.fresh (if nolock then 3 else 2)
  have hscan' : (s.fresh.lane n).scanning = true := by rwa [State.fresh_v_lane]
  rw [opEyeScanAbort_of_scanning hscan']
  simp only [settle_get, settle_lane]
  exact ⟨eyeEnd_res n _ (by split <;> decide), eyeEnd_valid n _ _, eyeEnd_seq n s.fresh _, eyeEnd_scanning n _ _, hend.sent, hend.laneFrame rfl rfl⟩

/-! ### The start of a host's scan (R195) -/

theorem wr_lane_calHolds (s : State) (n : Nat) {off : Nat} (h : off < 0x40) (w : Word) : (s.wr (atLANE n off) w).calHolds n = s.calHolds n := by
  have hstep : ∀ g, (s.wr (atLANE n off) w).get (F.HP_CAL_STATUS_STEP g) = s.get (F.HP_CAL_STATUS_STEP g) := fun g =>
    State.get_wr_ne s _ w (atGROUP_ne_laneReg g n (by decide) h)
  have hcal : ∀ g, (s.wr (atLANE n off) w).cal g = s.cal g := fun g => by rw [State.cal, State.wr_cals, State.cal]
  simp only [State.calHolds, hcal, hstep]

theorem opEyeScanStart_of_start {s : State} {n : Nat} {w : Word} (hstart : w.getLsbD 31 = true) (hidle : (s.lane n).scanning = false) :
    opEyeScanStart n w s = if s.calHolds n then (s.wr (atLANE n 0x28) (w &&& 0x7FFFFFFF)).put (F.HP_EYE_RESULT_RES n) 1
      else (s.wr (atLANE n 0x28) (w &&& 0x7FFFFFFF)).setLn n fun x => { x with scanning := true } := by
  have hbit : w.toNat.testBit 31 = true := hstart
  have hlane : ((s.wr (atLANE n 0x28) (w &&& 0x7FFFFFFF)).lane n).scanning = false := by rwa [State.lane, State.wr_lanes, ← State.lane]
  rw [opEyeScanStart, ofNat_mod_eq_and]
  change (if !w.toNat.testBit 31 || ((s.wr (atLANE n 0x28) (w &&& 0x7FFFFFFF)).lane n).scanning then _ else
    if (s.wr (atLANE n 0x28) (w &&& 0x7FFFFFFF)).calHolds n then _ else _) = _
  rw [hbit, hlane, Bool.not_true, Bool.or_false, if_neg Bool.false_ne_true, wr_lane_calHolds s n (by decide)]
  rfl

theorem scanStart_settled {s : State} {n : Nat} {w : Word} (hstart : w.getLsbD 31 = true) (hidle : (s.lane n).scanning = false) :
    let t := settle (opEyeScanStart n w s.fresh)
    t.rd (atLANE n 0x28) = w &&& 0x7FFFFFFF ∧ (t.lane n).scanning = !s.calHolds n ∧
      t.get (F.HP_EYE_RESULT_RES n) = (if s.calHolds n then 1 else s.get (F.HP_EYE_RESULT_RES n)) ∧ Sent [] t ∧
      Frame [whole (atLANE n 0x28), F.HP_EYE_RESULT_RES n] s { s with lanes := t.lanes } t := by
  have hstored : Writes [whole (atLANE n 0x28), F.HP_EYE_RESULT_RES n] s.fresh (s.fresh.wr (atLANE n 0x28) (w &&& 0x7FFFFFFF)) :=
    (Writes.refl _ _).wr (by simp) _
  have hidle' : (s.fresh.lane n).scanning = false := by rwa [State.fresh_v_lane]
  have hne : (F.HP_EYE_RESULT_RES n).addr ≠ atLANE n 0x28 := atLANE_ne n n (by decide)
  rw [opEyeScanStart_of_start hstart hidle', State.fresh_v_calHolds]
  cases s.calHolds n with
  | true =>
    have hw := hstored.put (f := F.HP_EYE_RESULT_RES n) (by simp) 1
    simp only [if_true, settle_rd, settle_get, settle_lane]
    refine ⟨?_, ?_, State.get_put_one _ _ rfl, hw.sent, hw.laneFrame rfl rfl⟩
    · rw [State.rd_put_ne _ _ _ hne.symm, State.rd_wr_same]
    · rw [hw.lane, State.fresh_v_lane, hidle, Bool.not_true]
  | false =>
    have hw := hstored.map (·.setLn n fun x => { x with scanning := true }) fun _ _ => rfl
    simp only [Bool.false_eq_true, if_false, settle_rd, settle_get, settle_lane, State.setLn_rd, State.setLn_get]
    refine ⟨State.rd_wr_same .., ?_, (State.get_wr_ne _ _ _ hne).trans (State.fresh_get s _), hw.sent, hw.laneFrame rfl rfl⟩
    rw [State.lane_setLn_same, Bool.not_false]

/-! ### The commands of the eye scan -/

section
variable {s : State} {n : Nat} (ha : s.acts)
include ha

theorem exec_eyeScanStart_of_ok {w : Word} (hn : n < 112) (hok : s.wordOk (atLANE n 0x28) w = true) :
    exec (.eyeScanStart n w) s = .next (settle (opEyeScanStart n w s.fresh)) := by
  rw [exec_eyeScanStart, execEyeScanStart, runRindF_onlyE_withWord ha (decide_eq_true hn) hok]

theorem exec_eyeScanDone_run (width height point : List EyePoint) (hn : n < 112) :
    exec (.eyeScanDone n width height point) s = .next (settle (opEyeScanDone n (width ++ height ++ point) s.fresh)) := by
  rw [exec_eyeScanDone, execEyeScanDone, run_only ha (decide_eq_true hn)]

theorem exec_eyeScanAbort_run (nolock : Bool) (hn : n < 112) :
    exec (.eyeScanAbort n nolock) s = .next (settle (opEyeScanAbort n nolock s.fresh)) := by
  rw [exec_eyeScanAbort, execEyeScanAbort, run_only ha (decide_eq_true hn)]

end

/-- Settles O9: the checker, the generator, TEST and the eye scan each by the operation's own equation and what it writes. -/
theorem laneTests : Obligations.LaneTests := by
  refine ⟨?_, ?_, ?_, ?_, ?_, ?_, ?_, ?_, ?_, ?_⟩
  · intro s n line pat l k ha hn hline hchecks hout hlen hpred
    have hbits : s.fresh.rxBits n line = l := (State.fresh_v_rxBits ..).trans (rxBits_eq s n line)
    have hmatch := prbsMiss_of_recurrence (prbsTaps_fst pat) hlen hpred
    rw [← hbits] at hlen hmatch
    have hop := opPrbsSync_of_match (s := s.fresh) hline hchecks hout (prbsTaps_fst pat) hlen hmatch
    rw [State.fresh_v_rxBits] at hop
    obtain ⟨hsync, hlock, hsent, hframe⟩ := prbsSync_settled hop
    rw [rxBits_eq] at hframe
    exact ⟨_, exec_prbsSync_run ha line hn, hsync, hlock, hsent, hframe⟩
  · intro s n b x taps want miss lost ha hn hline hsync
    obtain ⟨hshown, hrecord, hsent, hframe⟩ := prbsCompare_settled n (s.get (F.HP_PRBS_CTRL_RX_PAT n)) (b != s.on (F.HP_LANE_TXM_RX_POL n)) hsync
    refine ⟨_, exec_prbsSyncLoss_of_sync ha b hn hline hsync, hshown.err, ?_, ⟨hshown.sync, hshown.syncLost⟩, hshown.count, fun h => ?_, hsent, hframe⟩
    · simpa only [beq_iff_eq, Nat.reduceEqDiff] using hshown.bits
    · refine or_iff_not_imp_right.mpr fun hbits => (hrecord h).trans ?_
      rw [Lane.compared_of_le _ _ _ (Nat.not_lt.mp hbits)]
      rfl
  · intro s n ha hn hw
    have hwrites := opPrbsClr_writes n s.fresh
    have hzero : ∀ f ∈ prbsCounts n, (settle (opPrbsClr n s.fresh)).get f = 0 := fun f hf => (settle_get ..).trans (opPrbsClr_zero n s.fresh f hf)
    exact ⟨_, exec_prbsClr_of_answers ha hn hw, hzero _ (by simp), hzero _ (by simp), hzero _ (by simp), hwrites.sent, hwrites.frame rfl rfl⟩
  · exact fun s n ha hn hw => ⟨_, exec_prbsInject_of_answers ha hn hw, inject_settled n s⟩
  · intro s g w ha hg hok hbit hused
    have hw : Writes [F.HP_GROUP_STATE_TEST_REFUSED g] s.fresh (s.fresh.flag (F.HP_GROUP_STATE_TEST_REFUSED g)) := put_writes ..
    refine ⟨_, exec_testEnWrite_of_used ha hg hok hbit hused, ?_, hw.sent, hw.frame rfl rfl⟩
    rw [settle_get]
    exact State.get_put_one _ _ rfl
  · intro s g w ha hg hok hunused
    obtain ⟨hctrl, htestRate, hlanes, hrate, hsent, hframe⟩ := testEn_settled w hunused
    refine ⟨_, exec_testEnWrite_of_ok ha hg hok, hctrl, htestRate, fun n hn hturn => (hlanes n hn hturn).1, hrate, fun n hn hturn => ?_, hsent, hframe⟩
    rw [(hlanes n hn hturn).2, txState_eq]
    rfl
  · intro s g rate ha hg hw
    have hwrites := opTestRateChange_writes g rate s.fresh
    refine ⟨_, exec_testRateChange_of_answers ha rate hg hw, ?_, ?_, hwrites.sent, hwrites.frame rfl rfl⟩
    · rw [settle_get, opTestRateChange_testRate]
    · rw [settle_get, opTestRateChange_rate, State.fresh_on, State.fresh_get]
  · exact fun s n w ha hn hok hstart hidle => ⟨_, exec_eyeScanStart_of_ok ha hn hok, scanStart_settled hstart hidle⟩
  · intro s n width height point m errs op ha hn hscan
    exact ⟨_, exec_eyeScanDone_run ha width height point hn, scanDone_settled _ hscan⟩
  · exact fun s n nolock ha hn hscan => ⟨_, exec_eyeScanAbort_run ha nolock hn, scanAbort_settled nolock hscan⟩

end Sys2Proof.Machine
end

section
/-!
PROOFS. Chapter 07: what does not hold of an accepted calibration's temperature (R218, R219) and of the end of a drop with another retirement waiting (R216).
-/

namespace Sys2Proof.Machine

open Sys2Proof

/-! ### The temperature of an accepted step (R218) -/

/-- The step in progress on lane 2 of group 0: adaptation has settled and the measurements run. -/
def measuredStep : CalStep := { id := 7, lane := 2, settled := true }

/-- A measured eye without errors at the dwell of 2^22 bits after reset: open for 16 points to each side of the centre. -/
def openEye : List EyePoint :=
  (List.range 17).flatMap fun (k : Nat) =>
    [⟨(k : Int), 0, 2 ^ 21, 2 ^ 21, 0, 0⟩, ⟨-(k : Int), 0, 2 ^ 21, 2 ^ 21, 0, 0⟩, ⟨0, (k : Int), 2 ^ 22, 2 ^ 22, 0, 0⟩, ⟨0, -(k : Int), 2 ^ 22, 2 ^ 22, 0, 0⟩]

/-- A part in the measurements of that step, whose group temperature of 5,000 degrees lies above what HP_CAL_TEMP can show. -/
def beyondTemp : State :=
  (State.reset.setCal 0 fun x => { x with step := some measuredStep, temp := 40000 }).put (F.HP_CAL_STATUS_STEP 0) csMeasure

/-- The acceptance saturates HP_CAL_TEMP. -/
theorem beyondTemp_shown : nextField (exec (.calMeasureDone 0 [] [] openEye openEye openEye openEye) beyondTemp) (F.HP_CAL_TEMP_TEMP 0) = some 32767 := by
  decide +kernel

/-- Refutes O10: its clause on an accepted step has HP_CAL_TEMP take the group's temperature cut to 16 bits, where the register saturates; no hypothesis
bounds the temperature, DIE_SENSOR_SAMPLE may bring any, and 40,000 eighths of a degree would have to read as -25,536 of them. -/
theorem not_calibrationSteps : ¬ Obligations.CalibrationSteps := by
  rintro ⟨-, -, -, -, -, -, -, -, -, haccept, -⟩
  obtain ⟨t, ht, -, -, -, -, -, -, -, -, -, -, -, htemp, -⟩ := haccept beyondTemp 0 [] [] openEye openEye openEye openEye measuredStep (by decide +kernel)
    (by decide) (by decide +kernel) ⟨rfl, rfl⟩ (by decide +kernel) (by decide) (by decide +kernel) (by decide +kernel) (.inl rfl)
  have hshown := beyondTemp_shown
  rw [nextField_next _ ht, Option.some_inj] at hshown
  rw [State.getI, hshown] at htemp
  exact absurd htemp (by decide +kernel)

/-! ### A retirement that waits for the end of a drop (R216) -/

/-- What a command sends. -/
def nextSent (o : Host.Outcome State Fault Refusal) : Option (List Out) :=
  match o with
  | .next t => some t.out
  | _ => none

theorem nextSent_next {o : Host.Outcome State Fault Refusal} {t : State} (h : o = .next t) : nextSent o = some t.out := by
  rw [h]
  rfl

/-- The step of a retirement of lane 1 for which the transmitter has answered a DROP to two lanes. -/
def droppedStep : CalStep := { id := 7, lane := 1, retiring := true, dropTo := 2, dropAck := true }

/-- A sender whose port 0 receives on lanes 0 to 3 and retires lane 1, while the retirement of lane 0 waits for the end of that. -/
def retiresNext : State :=
  let s := (State.reset.put F.RD_DIE_STATE_ROLE 1).put (F.CH_TRAIN_STATE_STATE 0) 8
  let s := (s.put (F.CH_LINK_STATUS_RX_LANES 0) 4).each (List.range 4) fun i s => s.put (F.HP_LANE_STATE_RXS (chainLane 0 i)) lnActive
  s.setCal 0 fun x => { x with lastId := 7, step := some droppedStep, retireNext := [(0, 0)] }

/-- One SKP set on four lanes as the ten-bit codes of the line. -/
def skpColumns : List (List Nat) :=
  (encodeColumns (List.replicate 4 false) [List.replicate 4 symCom, List.replicate 4 symSkp, List.replicate 4 symAln]).1

/-- The set ends lane 1's retirement, and that of lane 0 begins at once with a DROP to one lane. -/
theorem retiresNext_sent : nextSent (exec (.segmentRx 0 skpColumns false false false false) retiresNext) =
    some [.ctrl 0 (laneCmd retiresNext.ownCode cmdDrop 8 0 0 0 1)] := by
  decide +kernel

/-- Refutes O11: its clause on the SKP set after DROPPED has the port send nothing and leaves it no step, where a second retirement that waited for the
end of the first begins with that set; no hypothesis says that none waits. -/
theorem not_laneCommands : ¬ Obligations.LaneCommands := by
  rintro ⟨-, -, -, -, -, -, -, hdropped, -⟩
  obtain ⟨t, ht, -, -, -, -, -, -, hsent, -⟩ := hdropped retiresNext 0 skpColumns false false false false droppedStep (by decide +kernel)
    (by decide +kernel) (by decide +kernel) (by decide +kernel) (by decide +kernel) (by decide +kernel) (by decide +kernel) rfl (by decide) rfl rfl
    (by decide)
  have hshown := retiresNext_sent
  rw [nextSent_next ht, hsent] at hshown
  exact absurd hshown (by decide +kernel)

end Sys2Proof.Machine
end

section
/-!
PROOFS. Chapter 08: bits of memory, words of a burst and places of pixels (R235, R236).
-/

namespace Sys2Proof.Machine

open Sys2Proof

/-! ### Bits of memory (R235) -/

/-- Bit `n` of the bytes that begin at an address. -/
def State.bitAt (s : State) (a n : Nat) : Bool := (s.byte (a + n / 8)).getLsbD (n % 8)

theorem State.bitAt_add (s : State) (a m n : Nat) : s.bitAt (a + m) n = s.bitAt a (8 * m + n) := by
  have hbyte : a + m + n / 8 = a + (8 * m + n) / 8 := by omega
  rw [State.bitAt, State.bitAt, hbyte, Nat.mul_add_mod]

theorem State.bytesN_testBit (s : State) (n : Nat) : ∀ a i, (s.bytesN a n).testBit i = (decide (i < 8 * n) && s.bitAt a i) := by
  induction n with
  | zero => simp [State.bytesN]
  | succ n ih =>
    intro a i
    have hsplit : s.bytesN a (n + 1) = 2 ^ 8 * s.bytesN (a + 1) n + (s.byte a).toNat := by
      rw [State.bytesN]
      omega
    rw [hsplit, Nat.testBit_two_pow_mul_add _ (s.byte a).isLt]
    split
    next h =>
      have hin : i < 8 * (n + 1) := by omega
      rw [decide_eq_true hin, Bool.true_and, State.bitAt, Nat.div_eq_of_lt h, Nat.mod_eq_of_lt h]
      rfl
    next h =>
      have hiff : (i - 8 < 8 * n) = (i < 8 * (n + 1)) := by
        apply propext
        omega
      have hbit : 8 * 1 + (i - 8) = i := by omega
      rw [ih, State.bitAt_add, hbit]
      simp only [hiff]

theorem State.byte_setBytesN_in (n : Nat) : ∀ (s : State) (a v k : Nat), k < n →
    (s.setBytesN a n v).byte (a + k) = BitVec.ofNat 8 (v / 256 ^ k) := by
  induction n with
  | zero => exact fun _ _ _ k hk => absurd hk (Nat.not_lt_zero k)
  | succ n ih =>
    intro s a v k hk
    cases k with
    | zero => rw [State.setBytesN, State.byte_setBytesN n _ _ _ _ (by omega), State.byte_setByte, if_pos (by omega), pow_zero, Nat.div_one]
    | succ k =>
      have haddr : a + (k + 1) = a + 1 + k := by omega
      rw [State.setBytesN, haddr, ih _ _ _ k (by omega), Nat.div_div_eq_div_mul, Nat.pow_succ']

theorem State.bitAt_setBytesN (s : State) (a n v : Nat) {i : Nat} (hi : i < 8 * n) : (s.setBytesN a n v).bitAt a i = v.testBit i := by
  have hbyte : (256 : Nat) ^ (i / 8) = 2 ^ (8 * (i / 8)) := (pow_mul 2 8 (i / 8)).symm
  have hbit : 8 * (i / 8) + i % 8 = i := by omega
  have hmod : i % 8 < 8 := Nat.mod_lt _ (by decide)
  rw [State.bitAt, State.byte_setBytesN_in n s a v _ (by omega), BitVec.getLsbD_ofNat, decide_eq_true hmod, Bool.true_and, hbyte,
    Nat.testBit_div_two_pow, Nat.add_comm, hbit]

/-- A number with `n` of its bits, from bit `sh`, replaced by those of another. -/
theorem testBit_replaced (old sh n w i : Nat) : (old - old / 2 ^ sh % 2 ^ n * 2 ^ sh + w % 2 ^ n * 2 ^ sh).testBit i =
    if sh ≤ i ∧ i < sh + n then w.testBit (i - sh) else old.testBit i := by
  have hold : 2 ^ sh * (2 ^ n * (old / 2 ^ sh / 2 ^ n) + old / 2 ^ sh % 2 ^ n) + old % 2 ^ sh = old := by
    rw [Nat.div_add_mod, Nat.div_add_mod]
  have hparts : old - old / 2 ^ sh % 2 ^ n * 2 ^ sh + w % 2 ^ n * 2 ^ sh =
      2 ^ sh * (2 ^ n * (old / 2 ^ sh / 2 ^ n) + w % 2 ^ n) + old % 2 ^ sh := by
    rw [Nat.mul_add] at hold ⊢
    rw [Nat.mul_comm _ (2 ^ sh), Nat.mul_comm _ (2 ^ sh)]
    omega
  rw [hparts, Nat.testBit_two_pow_mul_add _ (Nat.mod_lt _ (Nat.two_pow_pos sh)), Nat.testBit_two_pow_mul_add _ (Nat.mod_lt _ (Nat.two_pow_pos n))]
  by_cases hlow : i < sh
  · rw [if_pos hlow, if_neg (by omega), Nat.testBit_mod_two_pow, decide_eq_true hlow, Bool.true_and]
  by_cases hmid : i - sh < n
  · rw [if_neg hlow, if_pos hmid, if_pos (by omega), Nat.testBit_mod_two_pow, decide_eq_true hmid, Bool.true_and]
  · have hbit : i - sh - n + n + sh = i := by omega
    rw [if_neg hlow, if_neg hmid, if_neg (by omega), Nat.testBit_div_two_pow, Nat.testBit_div_two_pow, hbit]

/-! ### Words of a burst (R235) -/

theorem State.p14_testBit (s : State) (a k i : Nat) : (s.p14 a k).testBit i = (decide (i < 36) && s.bitAt a (36 * k + i)) := by
  have hbit : 8 * (36 * k / 8) + (i + 36 * k % 8) = 36 * k + i := by omega
  rw [State.p14, Nat.testBit_mod_two_pow, Nat.testBit_div_two_pow, State.bytesN_testBit, State.bitAt_add, hbit]
  by_cases hi : i < 36
  · have hin : i + 36 * k % 8 < 8 * 5 := by omega
    rw [decide_eq_true hin, Bool.true_and]
  · simp [hi]

theorem State.setP14_byte (s : State) (a k w : Nat) {c : Nat} (h : c < a + 36 * k / 8 ∨ a + 36 * k / 8 + 5 ≤ c) :
    (s.setP14 a k w).byte c = s.byte c := by
  unfold State.setP14
  exact State.byte_setBytesN 5 s _ _ c h

theorem State.setP14_bitAt (s : State) (a k w n : Nat) : (s.setP14 a k w).bitAt a n =
    if 36 * k ≤ n ∧ n < 36 * k + 36 then w.testBit (n - 36 * k) else s.bitAt a n := by
  by_cases hin : 36 * k / 8 ≤ n / 8 ∧ n / 8 < 36 * k / 8 + 5
  · obtain ⟨i, rfl⟩ : ∃ i, n = 8 * (36 * k / 8) + i := ⟨n - 8 * (36 * k / 8), by omega⟩
    have hiff : (36 * k % 8 ≤ i ∧ i < 36 * k % 8 + 36) = (36 * k ≤ 8 * (36 * k / 8) + i ∧ 8 * (36 * k / 8) + i < 36 * k + 36) := by
      apply propext
      omega
    have hbit : i - 36 * k % 8 = 8 * (36 * k / 8) + i - 36 * k := by omega
    rw [← State.bitAt_add, State.setP14, State.bitAt_setBytesN _ _ _ _ (by omega), testBit_replaced, State.bytesN_testBit, hbit,
      decide_eq_true (show i < 8 * 5 by omega), Bool.true_and, State.bitAt_add]
    simp only [hiff]
  · rw [if_neg (by omega), State.bitAt, State.setP14_byte _ _ _ _ (by omega), State.bitAt]

theorem State.p14_setP14 (s : State) (a j k w : Nat) : (s.setP14 a k w).p14 a j = if j = k then w % 2 ^ 36 else s.p14 a j := by
  by_cases hjk : j = k
  · subst hjk
    refine Nat.eq_of_testBit_eq fun i => ?_
    rw [if_pos rfl, State.p14_testBit, State.setP14_bitAt, Nat.testBit_mod_two_pow, Nat.add_sub_cancel_left]
    by_cases hi : i < 36
    · rw [if_pos (by omega)]
    · rw [decide_eq_false hi, Bool.false_and, Bool.false_and]
  · refine Nat.eq_of_testBit_eq fun i => ?_
    rw [if_neg hjk, State.p14_testBit, State.setP14_bitAt, State.p14_testBit]
    by_cases hi : i < 36
    · rw [if_neg (by omega)]
    · rw [decide_eq_false hi, Bool.false_and, Bool.false_and]

/-- Settles O50, bit by bit. -/
theorem burstWords : Obligations.BurstWords :=
  fun s a j k w _ _ => ⟨s.p14_setP14 a j k w, fun _ _ => s.setP14_byte a k w (by omega)⟩

/-! ### Places of pixels (R236) -/

theorem storeBurst_eq_iff (c : StoreCfg) (b x y u v : Nat) :
    storeBurst c b x y = storeBurst c b u v ↔ y * c.stride + x / 14 = v * c.stride + u / 14 := by
  unfold storeBurst dramAt
  omega

/-- Settles O51: the burst's number in the buffer gives back the row and the burst of the row. -/
theorem pixelsApart : Obligations.PixelsApart := by
  intro c b x y u v hx hu hburst hword
  have hx' : x / 14 < c.stride := Nat.div_lt_of_lt_mul hx
  have hu' : u / 14 < c.stride := Nat.div_lt_of_lt_mul hu
  have hpos : 0 < c.stride := Nat.zero_lt_of_lt hx'
  rw [storeBurst_eq_iff, Nat.add_comm, Nat.add_comm (v * c.stride)] at hburst
  have hcol := congrArg (· % c.stride) hburst
  have hrow := congrArg (· / c.stride) hburst
  simp only [Nat.add_mul_mod_self_right, Nat.mod_eq_of_lt hx', Nat.mod_eq_of_lt hu'] at hcol
  simp only [Nat.add_mul_div_right _ _ hpos, Nat.div_eq_of_lt hx', Nat.div_eq_of_lt hu', Nat.zero_add] at hrow
  exact ⟨by omega, hrow⟩

end Sys2Proof.Machine
end

section
/-!
PROOFS. Chapter 08: rows of pixels, and the registers and records of ingest engines and stores (R235 to R240, R247 to R249).
-/

namespace Sys2Proof.Machine

open Sys2Proof

/-! ### Steps over a list -/

/-- What each step over a listed element keeps holds at the end. -/
theorem State.each_keeps_mem {α : Type} (P : State → Prop) {f : α → State → State} : ∀ (L : List α) (s : State),
    (∀ a ∈ L, ∀ t, P t → P (f a t)) → P s → P (s.each L f)
  | [], _, _, h => h
  | a :: L, s, hf, h => State.each_keeps_mem P L (f a s) (fun b hb => hf b (List.mem_cons_of_mem a hb)) (hf a List.mem_cons_self s h)

theorem State.each_fresh {α : Type} {f : α → State → State} (hf : ∀ a s, f a (State.fresh s) = (f a s).fresh) :
    ∀ (L : List α) (s : State), s.fresh.each L f = (s.each L f).fresh
  | [], _ => rfl
  | a :: L, s => (congrArg (State.each · L f) (hf a s)).trans (State.each_fresh hf L (f a s))

/-- The elements of a list with their places, by place. -/
theorem zipIdx_eq_map_range (l : List Nat) : l.zipIdx = (List.range l.length).map fun i => (l.getD i 0, i) := by
  refine List.ext_getElem (by simp) fun i h _ => ?_
  have hi : i < l.length := by simpa using h
  simp [List.getElem?_eq_getElem hi]

/-! ### What changes DRAM alone (R235) -/

/-- `t` is `s` but for DRAM. -/
def DramOnly (s t : State) : Prop := ∃ d, t = { s with dram := d }

section
variable {s t u : State}

theorem DramOnly.refl (s : State) : DramOnly s s := ⟨s.dram, rfl⟩

theorem DramOnly.trans (h : DramOnly s t) (k : DramOnly t u) : DramOnly s u := by
  obtain ⟨_, rfl⟩ := h
  obtain ⟨d, rfl⟩ := k
  exact ⟨d, rfl⟩

theorem DramOnly.setByte (h : DramOnly s t) (a : Nat) (b : Byte) : DramOnly s (t.setByte a b) := h.trans ⟨_, rfl⟩

theorem DramOnly.setBytesN (n : Nat) : ∀ {t : State}, DramOnly s t → ∀ a v, DramOnly s (t.setBytesN a n v) := by
  induction n with
  | zero => exact fun h _ _ => h
  | succ n ih => exact fun h a v => ih (h.setByte a _) (a + 1) (v / 256)

theorem DramOnly.each {α : Type} {f : α → State → State} (h : DramOnly s t) (hf : ∀ a u, DramOnly u (f a u)) (L : List α) :
    DramOnly s (t.each L f) := State.each_keeps (DramOnly s) f (fun a u hu => hu.trans (hf a u)) L t h

theorem DramOnly.eq (h : DramOnly s t) : t = { s with dram := t.dram } := by
  obtain ⟨d, rfl⟩ := h
  rfl

end

/-! ### Rows of pixels (R235 to R238) -/

section
variable (s : State) (c : StoreCfg) (b tag x y w wid : Nat) (words : List Nat)

theorem setP14_dramOnly (a k : Nat) : DramOnly s (s.setP14 a k w) := by
  unfold State.setP14
  exact (DramOnly.refl s).setBytesN 5 _ _

theorem putPixel_dramOnly : DramOnly s (s.putPixel c b tag x y w) := by
  unfold State.putPixel
  split
  · exact (setP14_dramOnly s w _ _).setByte _ _
  · exact .refl s

theorem putRow_dramOnly : DramOnly s (s.putRow c b tag x y wid words) :=
  ((DramOnly.refl s).each (fun _ u => putPixel_dramOnly u _ _ _ _ _ _) _).each (fun _ u => putPixel_dramOnly u _ _ _ _ _ _) _

theorem setBytesN_fresh (n : Nat) : ∀ (s : State) (a v : Nat), s.fresh.setBytesN a n v = (s.setBytesN a n v).fresh := by
  induction n with
  | zero => exact fun _ _ _ => rfl
  | succ n ih => exact fun s a v => ih (s.setByte a _) (a + 1) (v / 256)

theorem bytesN_fresh (n : Nat) : ∀ a, s.fresh.bytesN a n = s.bytesN a n := by
  induction n with
  | zero => exact fun _ => rfl
  | succ n ih =>
    intro a
    rw [State.bytesN, State.bytesN, ih, State.fresh_v_byte]

theorem putPixel_fresh : s.fresh.putPixel c b tag x y w = (s.putPixel c b tag x y w).fresh := by
  unfold State.putPixel State.setP14
  split
  · simp only [bytesN_fresh, setBytesN_fresh]
    rfl
  · rfl

theorem putRow_fresh : s.fresh.putRow c b tag x y wid words = (s.putRow c b tag x y wid words).fresh := by
  unfold State.putRow
  rw [State.each_fresh fun _ _ => putPixel_fresh _ _ _ _ _ _ _, State.each_fresh fun _ _ => putPixel_fresh _ _ _ _ _ _ _]

variable {s c b x y}

theorem putPixel_byte {a : Nat} (h : ¬ (storeBurst c b x y ≤ a ∧ a < storeBurst c b x y + 64)) :
    (s.putPixel c b tag x y w).byte a = s.byte a := by
  unfold State.putPixel
  split
  · have hword : x % 14 < 14 := Nat.mod_lt _ (by decide)
    rw [State.byte_setByte, if_neg (by omega), State.setP14_byte _ _ _ _ (by omega)]
  · rfl

/-- Words written along a row leave every byte outside the bursts of their columns, and of the slots after the row's last word. -/
theorem putRow_byte {a : Nat} (h : ∀ i ∈ List.range (x + words.length + 14), ¬ (storeBurst c b i y ≤ a ∧ a < storeBurst c b i y + 64)) :
    (s.putRow c b tag x y wid words).byte a = s.byte a := by
  have hwords : (s.each words.zipIdx fun e s => s.putPixel c b tag (x + e.2) y e.1).byte a = s.byte a :=
    State.each_keeps_mem (fun t => t.byte a = s.byte a) _ s (fun e he t ht => by
      have hcol : e.2 < words.length := by simpa using List.snd_lt_of_mem_zipIdx he
      rw [putPixel_byte _ _ (h _ (List.mem_range.mpr (by omega))), ht]) rfl
  unfold State.putRow
  refine State.each_keeps_mem (fun t => t.byte a = s.byte a) _ _ (fun i hi t ht => ?_) hwords
  split at hi
  next hend =>
    have hslot : i < 14 := (List.mem_range.mp hi).trans (Nat.mod_lt _ (by decide))
    rw [putPixel_byte _ _ (h _ (List.mem_range.mpr (by omega))), ht]
  next => exact absurd hi (by simp)

end

/-! ### Registers of ingest engines and frame stores (R247 to R249) -/

section
variable (v e a b : Nat)

theorem atING_inj : atING v e a = atING v e b ↔ a = b := by
  unfold atING
  omega

theorem atRND_inj : atRND v e a = atRND v e b ↔ a = b := by
  unfold atRND
  omega

theorem atING_ge : 0x1000000 ≤ atING v e a := by
  unfold atING dieBase
  omega

theorem atRND_ge : 0x1000000 ≤ atRND v e a := by
  unfold atRND dieBase
  omega

theorem not_laneBlock_ing {e : Nat} (he : e < 2) {off : Nat} (h : off < 0x100) : ¬ laneBlock (atING v e off) := by
  unfold laneBlock atING dieBase
  omega

theorem storeAt_ingest {e : Nat} (he : e < 2) (off : Nat) : storeAt (storeKey v skIngest e) off = atING v e off := by
  have hvat : storeKey v skIngest e / 16 = v := by unfold storeKey skIngest; omega
  have hkind : storeKey v skIngest e / 4 % 4 = 0 := by unfold storeKey skIngest; omega
  have hindex : storeKey v skIngest e % 4 = e := by unfold storeKey skIngest; omega
  simp only [storeAt, hvat, hkind, hindex, if_true]

theorem storeAt_renderer {r : Nat} (hr : r < 2) (off : Nat) : storeAt (storeKey v skRenderer r) off = atRND v r off := by
  have hvat : storeKey v skRenderer r / 16 = v := by unfold storeKey skRenderer; omega
  have hkind : storeKey v skRenderer r / 4 % 4 = 1 := by unfold storeKey skRenderer; omega
  have hindex : storeKey v skRenderer r % 4 = r := by unfold storeKey skRenderer; omega
  simp only [storeAt, hvat, hkind, hindex, Nat.one_ne_zero, if_false, if_true]

end

/-- Fields of one engine: of different registers, or apart in one. -/
theorem Fld.sep_of_ing {f g : Fld} {v e a b : Nat} (hf : f.addr = atING v e a) (hg : g.addr = atING v e b)
    (h : (a != b || (decide (g.hi < f.lo) || decide (f.hi < g.lo))) = true) : f.sep g = true := by
  rcases Bool.or_eq_true _ _ ▸ h with h | h
  · exact Fld.sep_of_addr_ne (by rw [hf, hg, Ne, atING_inj]; simpa using h)
  · exact Fld.sep_of_bits h

theorem Fld.sep_of_rnd {f g : Fld} {v r a b : Nat} (hf : f.addr = atRND v r a) (hg : g.addr = atRND v r b)
    (h : (a != b || (decide (g.hi < f.lo) || decide (f.hi < g.lo))) = true) : f.sep g = true := by
  rcases Bool.or_eq_true _ _ ▸ h with h | h
  · exact Fld.sep_of_addr_ne (by rw [hf, hg, Ne, atRND_inj]; simpa using h)
  · exact Fld.sep_of_bits h

/-! ### Records of engines, renderers and buffers -/

theorem State.ing_setIng (s : State) (v e a b : Nat) (f : Ingest → Ingest) :
    (s.setIng v e f).ing a b = if 2 * a + b = 2 * v + e then f (s.ing v e) else s.ing a b :=
  Tab.get_set (fun _ => {}) (2 * v + e) (f (s.ing v e)) s.ings (2 * a + b)

theorem State.ing_setIng_same (s : State) (v e : Nat) (f : Ingest → Ingest) : (s.setIng v e f).ing v e = f (s.ing v e) := by
  rw [State.ing_setIng, if_pos rfl]

theorem State.rnd_setRnd_same (s : State) (v r : Nat) (f : Rnd → Rnd) : (s.setRnd v r f).rnd v r = f (s.rnd v r) :=
  Tab.get_set_same (fun _ => ({} : Rnd)) (2 * v + r) (f (s.rnd v r)) s.rnds

theorem State.buf_setBuf_same (s : State) (k b : Nat) (f : BufInfo → BufInfo) : (s.setBuf k b f).buf k b = f (s.buf k b) := by
  have hstore : (s.setBuf k b f).store k = { s.store k with bufs := Tab.set (fun _ => {}) b (f (s.buf k b)) (s.store k).bufs } :=
    Tab.get_set_same (fun _ => ({} : Store)) k _ s.stores
  rw [State.buf, hstore]
  exact Tab.get_set_same (fun _ => ({} : BufInfo)) b _ (s.store k).bufs

theorem settle_ing (s : State) (v e : Nat) : (settle s).ing v e = s.ing v e := by rw [State.ing, settle_ings, State.ing]

theorem settle_ingState (s : State) (v e : Nat) : (settle s).ingState v e = s.ingState v e := settle_get s _

theorem settle_rnd (s : State) (v r : Nat) : (settle s).rnd v r = s.rnd v r := by rw [State.rnd, settle_rnds, State.rnd]

theorem settle_buf (s : State) (k b : Nat) : (settle s).buf k b = s.buf k b := by
  rw [State.buf, State.store, settle_stores, State.buf, State.store]

theorem settle_byte (s : State) (a : Nat) : (settle s).byte a = s.byte a := by rw [State.byte, settle_dram, State.byte]

theorem settle_pendingCause (s : State) (c : Nat) : (settle s).pendingCause c = s.pendingCause c := by
  rw [State.pendingCause, settle_get, settle_get, State.pendingCause]

/-- A store that has not moved has no place to release. -/
theorem publish_eq {c : StoreCfg} {s : State} (h : s.mould.oldStores = []) (b : Nat) (i : BufInfo) :
    publish c b i s = (s.setBuf (storeCfgKey c) b fun _ => i).put (fsNewest (storeCfgKey c)) b := by
  have hmould : { s.mould with oldStores := placeComplete c s.mould.oldStores } = s.mould := by
    rw [h, placeComplete, ← h]
  unfold publish
  exact congrArg (fun m => ({ (s.setBuf (storeCfgKey c) b fun _ => i).put (fsNewest (storeCfgKey c)) b with mould := m } : State)) hmould

theorem freeBuf_lt {s : State} {k b : Nat} {busy : List Nat} (h : s.freeBuf k busy = some b) : b < 3 :=
  List.mem_range.mp (List.mem_of_find?_eq_some h)

/-! ### Writes of flags, counters and causes -/

section
variable {l : List Fld} {s t v : State} {f : Fld}

theorem Writes.bump (h : Writes l s t) (hf : f ∈ l) : Writes l s (t.bump f) := h.put hf _

theorem Writes.cause (h : Writes l s t) (h0 : F.RD_IRQ_PEND0_PEND ∈ l) (h1 : F.RD_IRQ_PEND1_PEND ∈ l) (c : Nat) : Writes l s (t.cause c) := by
  unfold State.cause
  split
  · exact h.put h0 _
  · exact h.put h1 _

theorem Writes.raise (h : Writes l s t) (hf : f ∈ l) (h0 : F.RD_IRQ_PEND0_PEND ∈ l) (h1 : F.RD_IRQ_PEND1_PEND ∈ l) (c : Nat) :
    Writes l s (t.raise f c) := by
  unfold State.raise
  split
  · exact h
  · exact (h.put hf 1).cause h0 h1 c

theorem Writes.pendingCause (h : Writes l s t) (hl : ∀ g ∈ l, 0x1000000 ≤ g.addr) (c : Nat) : t.pendingCause c = s.pendingCause c := by
  have hget : ∀ f : Fld, f.addr < 0x1000000 → t.get f = s.get f := fun f hf =>
    h.get_of_addr fun g hg => Nat.ne_of_gt (hf.trans_le (hl g hg))
  rw [State.pendingCause, hget _ (by decide), hget _ (by decide), State.pendingCause]

/-- A flag of another die than the Rind, raised: it stands, and its cause is pending unless it stood before (R570). -/
theorem raise_shown (s : State) {c : Nat} (hf : 0x1000000 ≤ f.addr) (hok : f.ok = true) (hc : c < 37) :
    (s.raise f c).on f = true ∧ (s.on f = true ∨ (s.raise f c).pendingCause c = true) := by
  have hne : ∀ a < 0x1000000, f.addr ≠ a := fun a ha => Nat.ne_of_gt (Nat.lt_of_lt_of_le ha hf)
  refine ⟨State.on_raise_same f c hok (hne _ (by decide)) (hne _ (by decide)), ?_⟩
  rcases hon : s.on f with _ | _
  · exact .inr (State.pending_raise f hc hon)
  · exact .inl rfl

theorem Writes.on (h : Writes l s t) (hf : ∀ g ∈ l, g.sep f = true) : t.on f = s.on f := by rw [State.on, h.get hf, State.on]

theorem Writes.ing (h : Writes l s t) (v e : Nat) : t.ing v e = s.ing v e := h.same (State.ing · v e) fun _ _ => rfl

theorem Writes.rnd (h : Writes l s t) (v r : Nat) : t.rnd v r = s.rnd v r := h.same (State.rnd · v r) fun _ _ => rfl

/-- The frame of a command that changes records of engines and then writes registers. -/
theorem Writes.ingFrame (h : Writes l v t) (hr : v.regs = s.regs) (hk : v.kept = { s with ings := v.ings }.kept) :
    Frame l s { s with ings := (settle t).ings } (settle t) := by
  rw [settle_ings, h.same State.ings fun _ _ => rfl]
  exact h.frame hr hk

/-- The same for records of renderers. -/
theorem Writes.rndFrame (h : Writes l v t) (hr : v.regs = s.regs) (hk : v.kept = { s with rnds := v.rnds }.kept) :
    Frame l s { s with rnds := (settle t).rnds } (settle t) := by
  rw [settle_rnds, h.same State.rnds fun _ _ => rfl]
  exact h.frame hr hk

end

end Sys2Proof.Machine
end

section
/-!
PROOFS. Chapter 08: a source port locks (R230, R242).
-/

namespace Sys2Proof.Machine

open Sys2Proof

/-! ### A source port locks (R230) -/

/-- The registers of a lane that the lock of its source port writes. -/
abbrev srcLaneFlds (n : Nat) : List Fld :=
  [F.HP_LANE_STATE_RXS n, F.HP_LANE_STATE_CDR_LOCK n, whole (atLANE n 0x38), whole (atLANE n 0x10)]

/-- A lane whose adaptation has settled. -/
def laneSettled (w : Word) (n : Nat) (s : State) : State :=
  setRxEq n w ((s.put (F.HP_LANE_STATE_RXS n) lnActive).put (F.HP_LANE_STATE_CDR_LOCK n) 1)

def lanesSettled (q : Nat) (eq : List Word) (s : State) : State :=
  s.each (groupLanes (16 + q)).zipIdx fun e s => laneSettled (eq.getD e.2 0) e.1 s

/-- A lane shows its lock and its settings: the adapted ones, or with MANUAL those of the host (R186). -/
structure LaneShown (w : Word) (n : Nat) (s : State) : Prop where
  active : s.get (F.HP_LANE_STATE_RXS n) = lnActive
  lock : s.get (F.HP_LANE_STATE_CDR_LOCK n) = 1
  eq : s.rd (atLANE n 0x10) = (if s.on (F.HP_LANE_RXMAN_MANUAL n) then s.rd (atLANE n 0x14) else w) &&& 0x7FFFFFFF

section
variable {l : List Fld} {s t v : State}

theorem State.rd_of_regs (h : t.regs = s.regs) (a : Nat) : t.rd a = s.rd a := by
  unfold State.rd
  rw [h]

theorem Writes.rd_of_addr (h : Writes l s t) {a : Nat} (hl : ∀ g ∈ l, g.addr ≠ a) : t.rd a = s.rd a := by
  have hwhole : ∀ u : State, u.get (whole a) = (u.rd a).toNat := fun u => Nat.mod_eq_of_lt (u.rd a).isLt
  refine BitVec.eq_of_toNat_eq ?_
  rw [← hwhole, ← hwhole]
  exact h.get_of_addr (f := whole a) hl

/-- A lane shows what it showed after writes of other registers than its state and its settings. -/
theorem LaneShown.of_writes {w : Word} {n : Nat} (h : LaneShown w n s) (hw : Writes l v t) (hr : v.regs = s.regs)
    (h0 : ∀ g ∈ l, g.addr ≠ atLANE n 0) (h10 : ∀ g ∈ l, g.addr ≠ atLANE n 0x10) (h14 : ∀ g ∈ l, g.addr ≠ atLANE n 0x14) : LaneShown w n t := by
  have hget : ∀ f : Fld, (∀ g ∈ l, g.addr ≠ f.addr) → t.get f = s.get f := fun f hf => (hw.get_of_addr hf).trans (State.get_of_regs hr f)
  have hrd : ∀ a, (∀ g ∈ l, g.addr ≠ a) → t.rd a = s.rd a := fun a ha => (hw.rd_of_addr ha).trans (State.rd_of_regs hr a)
  refine ⟨(hget _ h0).trans h.active, (hget _ h0).trans h.lock, ?_⟩
  rw [hrd _ h10, h.eq, hrd _ h14, State.on, State.on, hget (F.HP_LANE_RXMAN_MANUAL n) h14]

end

/-- Registers of different lanes. -/
theorem atLANE_ne_of_lanes {n m : Nat} (h : n ≠ m) {a b : Nat} (ha : a < 64) (hb : b < 64) : atLANE n a ≠ atLANE m b := by
  unfold atLANE dieBase
  omega

section
variable (w : Word) (n : Nat) (s : State)

theorem setRxEq_laneWrites : ∃ ln, Writes [whole (atLANE n 0x10)] (s.withLanes ln) (setRxEq n w s) := setRxEq_writes n w s

theorem setRxEq_get {f : Fld} (hf : atLANE n 0x10 ≠ f.addr) : (setRxEq n w s).get f = s.get f := by
  obtain ⟨ln, heq⟩ := setRxEq_laneWrites w n s
  exact (heq.get_of_addr (List.forall_mem_singleton.mpr hf)).trans (State.get_of_regs rfl f)

theorem setRxEq_rd {a : Nat} (ha : atLANE n 0x10 ≠ a) : (setRxEq n w s).rd a = s.rd a := by
  obtain ⟨ln, heq⟩ := setRxEq_laneWrites w n s
  exact (heq.rd_of_addr (List.forall_mem_singleton.mpr ha)).trans (State.rd_of_regs rfl a)

/-- With MANUAL set the host's settings stand, whatever they were to become (R186). -/
theorem setRxEq_settings : (setRxEq n w s).rd (atLANE n 0x10) =
    (if s.on (F.HP_LANE_RXMAN_MANUAL n) then s.rd (atLANE n 0x14) else w) &&& 0x7FFFFFFF := by
  have hrxeq : atLANE n 0x10 = (F.HP_LANE_RXEQ_CTLE n).addr := rfl
  have hmanual : (F.HP_LANE_RXMAN_CTLE n).addr = atLANE n 0x14 := rfl
  rw [setRxEq, State.setLn_rd, State.rd_wr, if_pos hrxeq, hmanual]

/-- The registers that tell of a lane's lock and settings. -/
abbrev settledFlds : List Fld := [F.HP_LANE_STATE_RXS n, F.HP_LANE_STATE_CDR_LOCK n, whole (atLANE n 0x10)]

theorem laneSettled_writes : ∃ ln, Writes (settledFlds n) (s.withLanes ln) (laneSettled w n s) := by
  obtain ⟨ln, heq⟩ := setRxEq_laneWrites w n ((s.put (F.HP_LANE_STATE_RXS n) lnActive).put (F.HP_LANE_STATE_CDR_LOCK n) 1)
  have hstate : Writes (settledFlds n) s ((s.put (F.HP_LANE_STATE_RXS n) lnActive).put (F.HP_LANE_STATE_CDR_LOCK n) 1) :=
    ((Writes.refl _ s).put (by simp) lnActive).put (by simp) 1
  exact ⟨ln, (hstate.map (State.withLanes ln) fun _ _ => rfl).trans (heq.mono (by simp))⟩

theorem laneSettled_shown : LaneShown w n (laneSettled w n s) := by
  have hstate : atLANE n 0x10 ≠ atLANE n 0 := atLANE_ne n n (by decide)
  have hrxman : atLANE n 0x10 ≠ atLANE n 0x14 := atLANE_ne n n (by decide)
  unfold laneSettled
  refine ⟨?_, ?_, ?_⟩
  · rw [setRxEq_get _ _ _ hstate, State.get_put_sep _ _ _ _ (Fld.sep_of_bits rfl)]
    exact State.get_put_fit _ _ rfl (show lnActive < 2 ^ 4 by decide)
  · rw [setRxEq_get _ _ _ hstate]
    exact State.get_put_one _ _ rfl
  · rw [setRxEq_settings, setRxEq_rd _ _ _ hrxman, State.on, State.on, setRxEq_get (f := F.HP_LANE_RXMAN_MANUAL n) _ _ _ hrxman]

end

/-! The four lanes of a source port. -/

section
variable (q : Nat)

theorem groupLanes_source : groupLanes (16 + q) = (List.range 4).map (sourceLane q) := by
  unfold groupLanes groupLane
  simp

theorem groupLanes_source_zipIdx : (groupLanes (16 + q)).zipIdx = (List.range 4).map fun i => (sourceLane q i, i) := by
  rw [groupLanes_source]
  rfl

theorem sourceLane_inj {q i j : Nat} (h : sourceLane q i = sourceLane q j) : i = j := by
  unfold sourceLane at h
  split at h <;> omega

variable (eq : List Word) (s : State)

theorem lanesSettled_eq : lanesSettled q eq s = s.each (List.range 4) fun i s => laneSettled (eq.getD i 0) (sourceLane q i) s := by
  rw [lanesSettled, groupLanes_source_zipIdx]
  exact List.foldl_map

theorem lanesSettled_writes : ∃ ln, Writes ((groupLanes (16 + q)).flatMap srcLaneFlds) (s.withLanes ln) (lanesSettled q eq s) :=
  Writes.each_lanes _ s fun e he t => by
    obtain ⟨ln, hone⟩ := laneSettled_writes (eq.getD e.2 0) e.1 t
    have hsub : settledFlds e.1 ⊆ srcLaneFlds e.1 := by simp
    exact ⟨ln, hone.mono fun g hg => List.mem_flatMap.mpr ⟨e.1, List.fst_mem_of_mem_zipIdx he, hsub hg⟩⟩

theorem settledFlds_ne {n m : Nat} (h : n ≠ m) {off : Nat} (hoff : off < 64) : ∀ g ∈ settledFlds n, g.addr ≠ atLANE m off := fun g hg => by
  simp only [List.mem_cons, List.not_mem_nil, or_false] at hg
  obtain rfl | rfl | rfl := hg
  all_goals exact atLANE_ne_of_lanes h (by decide) hoff

theorem lanesSettled_shown {i : Nat} (hi : i ∈ List.range 4) : LaneShown (eq.getD i 0) (sourceLane q i) (lanesSettled q eq s) := by
  rw [lanesSettled_eq]
  refine State.each_establishes (P := fun i t => LaneShown (eq.getD i 0) (sourceLane q i) t) (fun j t => laneSettled_shown _ _ t)
    (fun i j t hij h => ?_) _ s (.inl hi)
  have hne : sourceLane q j ≠ sourceLane q i := fun h => hij (sourceLane_inj h).symm
  obtain ⟨ln, hone⟩ := laneSettled_writes (eq.getD j 0) (sourceLane q j) t
  exact h.of_writes hone rfl (settledFlds_ne hne (by decide)) (settledFlds_ne hne (by decide)) (settledFlds_ne hne (by decide))

/-- The targets of a group's lanes, from their trim sets for the group's temperature. -/
abbrev targetFlds (g : Nat) : List Fld := (groupLanes g).map fun n => whole (atLANE n 0x38)

def retargeted (g : Nat) (s : State) : State := s.each (groupLanes g) fun n s => retarget n (s.cal g).temp s

theorem retargeted_writes (g : Nat) : Writes (targetFlds g) s (retargeted g s) :=
  Writes.each _ s fun _ hn t => (Writes.refl _ t).wr (List.mem_map_of_mem (f := fun n => whole (atLANE n 0x38)) hn) _

/-- A source port shows that it calibrates in place (R204). -/
def inPlaceShown (s : State) : State :=
  ((s.put (F.HP_CAL_STATUS_VALID (16 + q)) 1).put (F.HP_CAL_STATUS_IN_PLACE (16 + q)) 1).putI (F.HP_CAL_TEMP_TEMP (16 + q)) (s.cal (16 + q)).temp

abbrev inPlaceFlds : List Fld := [F.HP_CAL_STATUS_VALID (16 + q), F.HP_CAL_STATUS_IN_PLACE (16 + q), F.HP_CAL_TEMP_TEMP (16 + q)]

theorem inPlaceShown_writes : Writes (inPlaceFlds q) s (inPlaceShown q s) :=
  (((Writes.refl _ s).put (by simp) 1).put (by simp) 1).put (by simp) _

theorem showCalSource_eq : opSourceLock.showCalSource q s = retargeted (16 + q) (inPlaceShown q s) := rfl

theorem showCalSource_writes : Writes (inPlaceFlds q ++ targetFlds (16 + q)) s (opSourceLock.showCalSource q s) :=
  ((inPlaceShown_writes q s).mono (List.subset_append_left _ _)).trans
    ((retargeted_writes _ (16 + q)).mono (List.subset_append_right _ _))

theorem targetFlds_ne_group (g : Nat) {h off : Nat} (hoff : off < 0x20) : ∀ f ∈ targetFlds g, f.addr ≠ atGROUP h off := fun f hf => by
  obtain ⟨n, -, rfl⟩ := List.mem_map.mp hf
  exact (atGROUP_ne_laneReg h n hoff (by decide)).symm

theorem showCalSource_inPlace : (opSourceLock.showCalSource q s).get (F.HP_CAL_STATUS_IN_PLACE (16 + q)) = 1 := by
  have hne : atGROUP (16 + q) 0x18 ≠ atGROUP (16 + q) 0x10 := by simp
  have htargets := (retargeted_writes (inPlaceShown q s) (16 + q)).get_of_addr (f := F.HP_CAL_STATUS_IN_PLACE (16 + q))
    (targetFlds_ne_group (16 + q) (by decide))
  rw [showCalSource_eq, htargets, inPlaceShown, State.get_putI_sep _ _ _ (Fld.sep_of_addr_ne hne)]
  exact State.get_put_one _ _ rfl

end

theorem calSourceFlds_ne_lane {q g n off : Nat} (hoff : off < 0x40) (h : off ≠ 0x38) :
    ∀ f ∈ inPlaceFlds q ++ targetFlds g, f.addr ≠ atLANE n off := fun f hf => by
  rcases List.mem_append.mp hf with hf | hf
  · simp only [List.mem_cons, List.not_mem_nil, or_false] at hf
    obtain rfl | rfl | rfl := hf
    all_goals exact atGROUP_ne_laneReg _ _ (by decide) hoff
  · obtain ⟨m, -, rfl⟩ := List.mem_map.mp hf
    exact atLANE_ne m n (a := 0x38) (by omega)

/-- What the lock of a source port writes of its lanes and its group. -/
abbrev srcLockFlds (q : Nat) : List Fld := inPlaceFlds q ++ (groupLanes (16 + q)).flatMap srcLaneFlds

/-- A source port whose lanes hold lock, before the engine waits for a format. -/
def portLocked (q bit : Nat) (eq : List Word) (c : SourceCfg) (s : State) : State :=
  (opSourceLock.showCalSource q (lanesSettled q eq s)).setIng c.vat c.engine fun x => { x with lock := setBit x.lock bit }

section
variable (q bit : Nat) (eq : List Word) (c : SourceCfg) (s : State)

theorem srcLockFlds_block : ∀ g ∈ srcLockFlds q, laneBlock g.addr := fun g hg => by
  rcases List.mem_append.mp hg with hg | hg
  · simp only [List.mem_cons, List.not_mem_nil, or_false] at hg
    obtain rfl | rfl | rfl := hg
    all_goals exact laneBlock_group _ (by decide)
  · obtain ⟨n, -, hg⟩ := List.mem_flatMap.mp hg
    simp only [List.mem_cons, List.not_mem_nil, or_false] at hg
    obtain rfl | rfl | rfl | rfl := hg
    all_goals exact laneBlock_lane _ (by decide)

theorem srcLockFlds_ne_rxman (n : Nat) : ∀ g ∈ srcLockFlds q, g.addr ≠ atLANE n 0x14 := fun g hg => by
  rcases List.mem_append.mp hg with hg | hg
  · exact calSourceFlds_ne_lane (g := 16) (by decide) (by decide) g (List.mem_append_left _ hg)
  · obtain ⟨m, -, hg⟩ := List.mem_flatMap.mp hg
    simp only [List.mem_cons, List.not_mem_nil, or_false] at hg
    obtain rfl | rfl | rfl | rfl := hg
    all_goals exact atLANE_ne m n (by decide)

theorem targetFlds_subset : targetFlds (16 + q) ⊆ (groupLanes (16 + q)).flatMap srcLaneFlds := fun g hg => by
  obtain ⟨n, hn, rfl⟩ := List.mem_map.mp hg
  exact List.mem_flatMap.mpr ⟨n, hn, by simp⟩

theorem portLocked_writes : ∃ ln, Writes (srcLockFlds q)
    ((s.withLanes ln).setIng c.vat c.engine fun x => { x with lock := setBit x.lock bit }) (portLocked q bit eq c s) := by
  obtain ⟨ln, hlanes⟩ := lanesSettled_writes q eq s
  have hcal := (showCalSource_writes q (lanesSettled q eq s)).mono (m := srcLockFlds q)
    (List.append_subset.mpr ⟨List.subset_append_left _ _, List.Subset.trans (targetFlds_subset q) (List.subset_append_right _ _)⟩)
  exact ⟨ln, ((hlanes.mono (List.subset_append_right _ _)).trans hcal).map (State.setIng · c.vat c.engine _) fun _ _ => rfl⟩

theorem portLocked_lane {i : Nat} (hi : i ∈ List.range 4) : LaneShown (eq.getD i 0) (sourceLane q i) (portLocked q bit eq c s) :=
  (lanesSettled_shown q eq s hi).of_writes ((showCalSource_writes q _).map (State.setIng · c.vat c.engine _) fun _ _ => rfl) rfl
    (calSourceFlds_ne_lane (by decide) (by decide)) (calSourceFlds_ne_lane (by decide) (by decide)) (calSourceFlds_ne_lane (by decide) (by decide))

variable {q bit c s}

theorem portLocked_get {f : Fld} (hf : ¬ laneBlock f.addr) : (portLocked q bit eq c s).get f = s.get f := by
  obtain ⟨ln, hw⟩ := portLocked_writes q bit eq c s
  exact (hw.get fun g hg => Fld.sep_of_laneBlock (srcLockFlds_block q g hg) hf).trans (State.get_of_regs rfl f)

theorem portLocked_ing : (portLocked q bit eq c s).ing c.vat c.engine =
    { s.ing c.vat c.engine with lock := setBit (s.ing c.vat c.engine).lock bit } := by
  obtain ⟨ln, hw⟩ := portLocked_writes q bit eq c s
  rw [hw.ing, State.ing_setIng_same]
  rfl

/-- The last port of an engine without a signal locks. -/
theorem opSourceLock_of_locked (heng : s.engineOf q = some (c, bit)) (he : c.engine < 2) (hst : s.ingState c.vat c.engine = ingNoSignal)
    (hlock : setBit (s.ing c.vat c.engine).lock bit = portBits c) :
    opSourceLock q eq s = (portLocked q bit eq c s).put (F.VT_ING_STATUS_STATE c.vat c.engine) ingWait := by
  have hst' : (portLocked q bit eq c s).ingState c.vat c.engine = ingNoSignal :=
    (portLocked_get eq (f := F.VT_ING_STATUS_STATE c.vat c.engine) (not_laneBlock_ing _ he (by decide))).trans hst
  have hlock' : ((portLocked q bit eq c s).ing c.vat c.engine).lock = portBits c := by rw [portLocked_ing, hlock]
  have hwhole : opSourceLock q eq s =
      if (portLocked q bit eq c s).ingState c.vat c.engine == ingNoSignal && ((portLocked q bit eq c s).ing c.vat c.engine).lock == portBits c then
        (portLocked q bit eq c s).put (F.VT_ING_STATUS_STATE c.vat c.engine) ingWait
      else portLocked q bit eq c s := by
    unfold opSourceLock
    rw [heng]
    rfl
  rw [hwhole, hst', hlock', beq_self_eq_true, beq_self_eq_true, Bool.and_true, if_pos rfl]

end

theorem sourceLock_settled {s : State} {q bit : Nat} {c : SourceCfg} (eq : List Word) (heng : s.engineOf q = some (c, bit)) (he : c.engine < 2)
    (hst : s.ingState c.vat c.engine = ingNoSignal) (hlock : setBit (s.ing c.vat c.engine).lock bit = portBits c) :
    let t := settle (opSourceLock q eq s.fresh)
    t.ingState c.vat c.engine = ingWait ∧
      (∀ n ∈ groupLanes (16 + q), (t.get (F.HP_LANE_STATE_RXS n), t.get (F.HP_LANE_STATE_CDR_LOCK n)) = (lnActive, 1)) ∧
      t.get (F.HP_CAL_STATUS_IN_PLACE (16 + q)) = 1 ∧
      (∀ e ∈ (groupLanes (16 + q)).zipIdx, t.rd (atLANE e.1 0x10) =
        (if s.on (F.HP_LANE_RXMAN_MANUAL e.1) then s.rd (atLANE e.1 0x14) else eq.getD e.2 0) &&& 0x7FFFFFFF) ∧
      Sent [] t ∧ Frame (F.VT_ING_STATUS_STATE c.vat c.engine :: srcLockFlds q) s { s with ings := t.ings, lanes := t.lanes } t := by
  intro t
  obtain ⟨ln, hport⟩ := portLocked_writes q bit eq c s.fresh
  have hop := opSourceLock_of_locked (s := s.fresh) eq heng he hst hlock
  have hput : Writes [F.VT_ING_STATUS_STATE c.vat c.engine] (portLocked q bit eq c s.fresh) (opSourceLock q eq s.fresh) := by
    rw [hop]
    exact put_writes _ _ _
  have hw := (hport.mono (List.subset_cons_self (F.VT_ING_STATUS_STATE c.vat c.engine) _)).trans (hput.mono (by simp))
  have hstate : ∀ a, laneBlock a → ∀ g ∈ [F.VT_ING_STATUS_STATE c.vat c.engine], g.addr ≠ a := fun a ha =>
    List.forall_mem_singleton.mpr fun (h : atING c.vat c.engine 4 = a) => not_laneBlock_ing c.vat he (by decide) (h ▸ ha)
  have hlane : ∀ i ∈ List.range 4, LaneShown (eq.getD i 0) (sourceLane q i) (opSourceLock q eq s.fresh) := fun i hi =>
    (portLocked_lane q bit eq c s.fresh hi).of_writes hput rfl (hstate _ (laneBlock_lane _ (by decide)))
      (hstate _ (laneBlock_lane _ (by decide))) (hstate _ (laneBlock_lane _ (by decide)))
  have hings : t.ings = ((s.fresh.withLanes ln).setIng c.vat c.engine fun x => { x with lock := setBit x.lock bit }).ings :=
    hw.same State.ings fun _ _ => rfl
  have hlanes : t.lanes = ln := hw.same State.lanes fun _ _ => rfl
  refine ⟨?_, ?_, ?_, ?_, hw.sent, ?_⟩
  · rw [State.ingState, settle_get, hop]
    exact State.get_put_fit _ _ rfl (show ingWait < 2 ^ 4 by decide)
  · intro n hn
    rw [groupLanes_source] at hn
    obtain ⟨i, hi, rfl⟩ := List.mem_map.mp hn
    rw [settle_get, settle_get, (hlane i hi).active, (hlane i hi).lock]
  · rw [settle_get, hput.get_of_addr (f := F.HP_CAL_STATUS_IN_PLACE (16 + q)) (hstate _ (laneBlock_group _ (by decide)))]
    exact showCalSource_inPlace q _
  · intro e hmem
    rw [groupLanes_source_zipIdx] at hmem
    obtain ⟨i, hi, rfl⟩ := List.mem_map.mp hmem
    have hman : ∀ g ∈ F.VT_ING_STATUS_STATE c.vat c.engine :: srcLockFlds q, g.addr ≠ atLANE (sourceLane q i) 0x14 :=
      List.forall_mem_cons.mpr ⟨hstate _ (laneBlock_lane _ (by decide)) _ List.mem_cons_self, srcLockFlds_ne_rxman q _⟩
    rw [settle_rd, (hlane i hi).eq, State.on, hw.get_of_addr (f := F.HP_LANE_RXMAN_MANUAL (sourceLane q i)) hman, hw.rd_of_addr hman]
    rfl
  · rw [hings, hlanes]
    exact hw.frame rfl rfl

end Sys2Proof.Machine
end

section
/-!
PROOFS. Chapter 08: the formats of a source (R231, R242, R247).
-/

namespace Sys2Proof.Machine

open Sys2Proof

/-! ### What the buffer for a frame depends on (R240, R244) -/

theorem freeBuf_congr {s t : State} {k : Nat} (hheld : t.get (fsHeld k) = s.get (fsHeld k)) (hnewest : t.get (fsNewest k) = s.get (fsNewest k))
    (busy : List Nat) : t.freeBuf k busy = s.freeBuf k busy := by
  rw [State.freeBuf, hheld, hnewest, State.freeBuf]

/-- A change of an engine's record that leaves its format in force leaves the budget. -/
theorem budgetOk_setIng {f : Ingest → Ingest} (hf : ∀ x, (f x).inForce = x.inForce) (s : State) (v e : Nat) (c : SourceCfg) (g : SrcFormat) :
    (s.setIng v e f).budgetOk c g = s.budgetOk c g := by
  have hforce : ∀ a b, ((s.setIng v e f).ing a b).inForce = (s.ing a b).inForce := fun a b => by
    rw [State.ing_setIng]
    split
    next h => rw [hf, State.ing, State.ing, h]
    next => rfl
  simp only [State.budgetOk, hforce, State.ingState, State.setIng_get] <;> rfl

/-- Every field of a FORMAT packet fits its field of the engine's registers (R231, R247). -/
theorem formatOk_fits {f : SrcFormat} (h : formatOk f = true) :
    f.w < 2 ^ 16 ∧ f.h < 2 ^ 16 ∧ f.num < 2 ^ 20 ∧ f.den < 2 ^ 12 ∧ f.code < 2 ^ 2 ∧ f.depth < 2 ^ 4 ∧ f.range < 2 ^ 1 := by
  simp only [formatOk, Bool.and_eq_true, Bool.or_eq_true, decide_eq_true_eq, beq_iff_eq] at h
  omega

theorem formatOk_fmtSeen {f : SrcFormat} (h : formatOk f = true) (bit : Nat) : formatOk (fmtSeen bit f) = true := by
  have hbond : (fmtSeen bit f).bond ≤ 2 := by
    unfold fmtSeen
    dsimp only
    split
    · exact Nat.zero_le 2
    · split <;> decide
  simp only [formatOk, Bool.and_eq_true] at h ⊢
  exact ⟨h.1, decide_eq_true hbond⟩

/-! ### A FORMAT packet of an engine that waits (R231, R242) -/

/-- An engine that has noted the number of the source's frame. -/
def sframeNoted (v e sframe : Nat) (s : State) : State := s.setIng v e fun x => { x with lastSframe := some sframe }

theorem sframeNoted_ing (v e sframe : Nat) (s : State) : (sframeNoted v e sframe s).ing v e = { s.ing v e with lastSframe := some sframe } :=
  State.ing_setIng_same _ _ _ _

theorem sframeNoted_budgetOk (v e sframe : Nat) (s : State) (c : SourceCfg) (g : SrcFormat) :
    (sframeNoted v e sframe s).budgetOk c g = s.budgetOk c g := by
  unfold sframeNoted
  rw [budgetOk_setIng]
  exact fun _ => rfl

section
variable {s : State} {q bit : Nat} {c : SourceCfg} {f : SrcFormat}

/-- Between frames a good FORMAT packet is judged as it comes. -/
theorem opFormat_of_between (sframe : Nat) (heng : s.engineOf q = some (c, bit)) (hlock : (s.ing c.vat c.engine).lock.testBit bit = true)
    (hok : formatOk f = true) (hframe : (s.ing c.vat c.engine).frame = none) (holder : (s.ing c.vat c.engine).older = none)
    (hlast : (s.ing c.vat c.engine).lastSframe = none) :
    opFormat q sframe f true none s = judgeFormat c f sframe bit (sframeNoted c.vat c.engine sframe s) := by
  have hbegins : formatBegins c f sframe bit none s = judgeFormat c f sframe bit (sframeGap c.vat c.engine sframe s) := by
    unfold formatBegins
    dsimp only
    rw [hframe]
    dsimp only
    split
    · contradiction
    · rfl
  have hgap : sframeGap c.vat c.engine sframe s = sframeNoted c.vat c.engine sframe s := by
    simp only [sframeGap, hlast, sframeNoted]
  simp only [opFormat, heng, hlock, hok, holder, hframe, Bool.not_true, Bool.or_self, Bool.false_eq_true, if_false, Option.any_none, hbegins, hgap]

variable (hst : s.ingState c.vat c.engine = ingWait)
include hst

theorem judgeFormat_of_new (sframe : Nat) (hcand : (s.ing c.vat c.engine).cand ≠ some (fmtSeen bit f)) :
    judgeFormat c f sframe bit s = beginDiscard c.vat c.engine (fmtSeen bit f) sframe bit
      ((s.raise (F.VT_ING_STATUS_FMT_CHG c.vat c.engine) 17).setIng c.vat c.engine fun x => { x with cand := some (fmtSeen bit f) }) := by
  have hnot : (ingWait == ingRunning) = false := rfl
  have hnew : ((s.ing c.vat c.engine).cand == some (fmtSeen bit f)) = false := beq_eq_false_iff_ne.mpr hcand
  simp only [judgeFormat, hst, hnot, hnew, Bool.false_and, Bool.false_eq_true, if_false]

theorem judgeFormat_of_second (sframe : Nat) (hcand : (s.ing c.vat c.engine).cand = some (fmtSeen bit f))
    (hbudget : s.budgetOk c (fmtSeen bit f) = true) :
    judgeFormat c f sframe bit s = beginFrame c.vat c.engine (fmtSeen bit f) sframe bit (adopt c.vat c.engine (fmtSeen bit f) s) := by
  have hnot : (ingWait == ingRunning) = false := rfl
  simp only [judgeFormat, hst, hnot, hcand, hbudget, beq_self_eq_true, Bool.false_and, Bool.false_eq_true, if_false, if_true]

end

theorem showWriting_writes (v e : Nat) (s : State) : Writes [fsWriting (storeKey v skIngest e)] s (showWriting v e s) := put_writes _ _ _

theorem beginDiscard_writes (v e : Nat) (f : SrcFormat) (sframe bit : Nat) (s : State) : Writes [fsWriting (storeKey v skIngest e)]
    (s.setIng v e fun x => { x with frame := some { fmt := f, sframe := sframe, target := none, tag := 0, begun := 2 ^ bit } })
    (beginDiscard v e f sframe bit s) := showWriting_writes v e _

/-! The first FORMAT packet of a format. -/

section
variable (v e : Nat)

abbrev candidateFlds : List Fld := [F.VT_ING_STATUS_FMT_CHG v e, fsWriting (storeKey v skIngest e)] ++ pendFlds

/-- An engine that has seen its first FORMAT packet of a format. -/
def candidateSeen (f : SrcFormat) (sframe bit : Nat) (s : State) : State :=
  beginDiscard v e f sframe bit ((s.raise (F.VT_ING_STATUS_FMT_CHG v e) 17).setIng v e fun x => { x with cand := some f })

variable (f : SrcFormat) (sframe bit : Nat) (s : State)

theorem candidateSeen_writes : Writes (candidateFlds v e)
    ((s.setIng v e fun x => { x with cand := some f }).setIng v e fun x =>
      { x with frame := some { fmt := f, sframe := sframe, target := none, tag := 0, begun := 2 ^ bit } }) (candidateSeen v e f sframe bit s) := by
  have hraise : Writes (candidateFlds v e) s (s.raise (F.VT_ING_STATUS_FMT_CHG v e) 17) := (Writes.refl _ s).raise (by simp) (by simp) (by simp) 17
  exact ((hraise.map (State.setIng · v e _) fun _ _ => rfl).map (State.setIng · v e _) fun _ _ => rfl).trans
    ((beginDiscard_writes v e f sframe bit _).mono (by simp))

theorem candidateSeen_cand : ((candidateSeen v e f sframe bit s).ing v e).cand = some f := by
  rw [(candidateSeen_writes v e f sframe bit s).ing, State.ing_setIng_same, State.ing_setIng_same]

variable {e} (he : e < 2)
include he

theorem candidateSeen_shown : (candidateSeen v e f sframe bit s).on (F.VT_ING_STATUS_FMT_CHG v e) = true ∧
    (s.on (F.VT_ING_STATUS_FMT_CHG v e) = true ∨ (candidateSeen v e f sframe bit s).pendingCause 17 = true) := by
  have hw := beginDiscard_writes v e f sframe bit ((s.raise (F.VT_ING_STATUS_FMT_CHG v e) 17).setIng v e fun x => { x with cand := some f })
  have hsep : ∀ g ∈ [fsWriting (storeKey v skIngest e)], g.sep (F.VT_ING_STATUS_FMT_CHG v e) = true :=
    List.forall_mem_singleton.mpr (Fld.sep_of_ing (storeAt_ingest v he 0x30) rfl rfl)
  have hge : ∀ g ∈ [fsWriting (storeKey v skIngest e)], 0x1000000 ≤ g.addr :=
    List.forall_mem_singleton.mpr ((atING_ge v e 0x30).trans_eq (storeAt_ingest v he 0x30).symm)
  have hshown := raise_shown (f := F.VT_ING_STATUS_FMT_CHG v e) s (c := 17) (atING_ge v e 4) rfl (by decide)
  exact ⟨(hw.on hsep).trans hshown.1, hshown.2.imp_right (hw.pendingCause hge 17).trans⟩

theorem candidateSeen_state : (candidateSeen v e f sframe bit s).ingState v e = s.ingState v e := by
  refine (candidateSeen_writes v e f sframe bit s).get fun g hg => ?_
  simp only [List.mem_append, List.mem_cons, List.not_mem_nil, or_false] at hg
  obtain (rfl | rfl) | (rfl | rfl) := hg
  · exact Fld.sep_of_bits rfl
  · exact Fld.sep_of_ing (storeAt_ingest v he 0x30) rfl rfl
  · exact Fld.sep_of_rind (by decide) (atING_ge v e 4)
  · exact Fld.sep_of_rind (by decide) (atING_ge v e 4)

end

/-! The second in a row. -/

section
variable (v e : Nat)

/-- What the adoption of a format writes (R247). -/
abbrev adoptFlds : List Fld :=
  [F.VT_ING_STATUS_STATE v e, F.VT_ING_FMT0_VALID v e, F.VT_ING_FMT0_SEQ v e, F.VT_ING_FMT0_CODE v e, F.VT_ING_FMT0_DEPTH v e, F.VT_ING_FMT0_RANGE v e,
   F.VT_ING_FMT1_WIDTH v e, F.VT_ING_FMT1_HEIGHT v e, F.VT_ING_FMT2_NUM v e, F.VT_ING_FMT2_DEN v e]

variable (f : SrcFormat) (s : State)

theorem adopt_writes : Writes (adoptFlds v e) (s.setIng v e fun x => { x with inForce := some f, cand := none, stopped := 0 }) (adopt v e f s) := by
  have hcode := ((((Writes.refl (adoptFlds v e) s).put (f := F.VT_ING_FMT0_VALID v e) (by simp) 1).bump (f := F.VT_ING_FMT0_SEQ v e) (by simp)).put
    (f := F.VT_ING_FMT0_CODE v e) (by simp) f.code).put (f := F.VT_ING_FMT0_DEPTH v e) (by simp) f.depth
  have hsize := ((hcode.put (f := F.VT_ING_FMT0_RANGE v e) (by simp) f.range).put (f := F.VT_ING_FMT1_WIDTH v e) (by simp) f.w).put
    (f := F.VT_ING_FMT1_HEIGHT v e) (by simp) f.h
  have hrate := ((hsize.put (f := F.VT_ING_FMT2_NUM v e) (by simp) f.num).put (f := F.VT_ING_FMT2_DEN v e) (by simp) f.den).put
    (f := F.VT_ING_STATUS_STATE v e) (by simp) ingRunning
  exact hrate.map (State.setIng · v e _) fun _ _ => rfl

/-- The engine's registers show a format that it runs. -/
structure FormatShown (v e : Nat) (f : SrcFormat) (s : State) : Prop where
  state : s.ingState v e = ingRunning
  width : s.get (F.VT_ING_FMT1_WIDTH v e) = f.w
  height : s.get (F.VT_ING_FMT1_HEIGHT v e) = f.h
  code : s.get (F.VT_ING_FMT0_CODE v e) = f.code
  num : s.get (F.VT_ING_FMT2_NUM v e) = f.num
  den : s.get (F.VT_ING_FMT2_DEN v e) = f.den
  depth : s.get (F.VT_ING_FMT0_DEPTH v e) = f.depth
  range : s.get (F.VT_ING_FMT0_RANGE v e) = f.range

theorem FormatShown.of_get {s t : State} (h : FormatShown v e f s) (hget : ∀ g ∈ adoptFlds v e, t.get g = s.get g) : FormatShown v e f t where
  state := (hget _ (by simp)).trans h.state
  width := (hget _ (by simp)).trans h.width
  height := (hget _ (by simp)).trans h.height
  code := (hget _ (by simp)).trans h.code
  num := (hget _ (by simp)).trans h.num
  den := (hget _ (by simp)).trans h.den
  depth := (hget _ (by simp)).trans h.depth
  range := (hget _ (by simp)).trans h.range

theorem adopt_shows {f : SrcFormat} (hok : formatOk f = true) : FormatShown v e f (adopt v e f s) := by
  obtain ⟨hw, hh, hnum, hden, hcode, hdepth, hrange⟩ := formatOk_fits hok
  constructor
  all_goals simp (disch := exact Fld.sep_of_ing rfl rfl rfl) only [adopt, State.ingState, State.setIng_get, State.get_put_sep]
  · exact State.get_put_fit _ _ rfl (show ingRunning < 2 ^ 4 by decide)
  · exact State.get_put_fit _ _ rfl hw
  · exact State.get_put_fit _ _ rfl hh
  · exact State.get_put_fit _ _ rfl hcode
  · exact State.get_put_fit _ _ rfl hnum
  · exact State.get_put_fit _ _ rfl hden
  · exact State.get_put_fit _ _ rfl hdepth
  · exact State.get_put_fit _ _ rfl hrange

end

/-! The frame that begins (R237, R240). -/

section
variable (v e : Nat)

abbrev beginFlds : List Fld := [F.VT_ING_COUNT_DROPPED v e, F.VT_ING_STATUS_TRUNC v e, fsWriting (storeKey v skIngest e)]

/-- A frame without a buffer is counted. -/
def dropCounted (t : Option Nat) (s : State) : State := if t.isNone then s.inc (F.VT_ING_COUNT_DROPPED v e) else s

/-- A frame beyond the store's layout is shown. -/
def truncShown (f : SrcFormat) (s : State) : State :=
  if f.w > 14 * s.get (fsStride (storeKey v skIngest e)) || f.h > s.get (fsMaxRows (storeKey v skIngest e)) then s.flag (F.VT_ING_STATUS_TRUNC v e)
  else s

/-- The frame that begins, into buffer `t` where there is one. -/
def newFrame (t : Option Nat) (f : SrcFormat) (sframe bit : Nat) (s : State) : IngFrame :=
  { fmt := f, sframe := sframe, lay := s.storeCfg (storeKey v skIngest e), target := t, tag := s.raster.fnum % 256, begun := 2 ^ bit }

/-- The buffer that a frame that begins gets: none of one that is being written (R240). -/
def State.nextBuf (s : State) : Option Nat :=
  s.freeBuf (storeKey v skIngest e) (((s.ing v e).done.toList ++ (s.ing v e).older.toList).filterMap (·.target))

variable (f : SrcFormat) (sframe bit : Nat) (s : State)

theorem beginFrame_eq : beginFrame v e f sframe bit s =
    showWriting v e ((truncShown v e f (dropCounted v e (s.nextBuf v e) s)).setIng v e fun x =>
      { x with frame := some (newFrame v e (s.nextBuf v e) f sframe bit (truncShown v e f (dropCounted v e (s.nextBuf v e) s))) }) := rfl

theorem dropCounted_writes (t : Option Nat) : Writes (beginFlds v e) s (dropCounted v e t s) := by
  unfold dropCounted
  split
  · exact (Writes.refl _ s).inc (by simp)
  · exact .refl _ s

theorem truncShown_writes : Writes (beginFlds v e) s (truncShown v e f s) := by
  unfold truncShown
  split
  · exact (Writes.refl _ s).put (by simp) 1
  · exact .refl _ s

theorem beginFrame_writes : ∃ fr : IngFrame, fr.target = s.nextBuf v e ∧
    Writes (beginFlds v e) (s.setIng v e fun x => { x with frame := some fr }) (beginFrame v e f sframe bit s) := by
  refine ⟨newFrame v e (s.nextBuf v e) f sframe bit (truncShown v e f (dropCounted v e (s.nextBuf v e) s)), rfl, ?_⟩
  rw [beginFrame_eq]
  exact (((dropCounted_writes v e s _).trans (truncShown_writes v e f _)).map (State.setIng · v e _) fun _ _ => rfl).trans
    ((showWriting_writes v e _).mono (by simp))

variable {v e} (he : e < 2)
include he

theorem beginFlds_sep_adopt : ∀ x ∈ adoptFlds v e, ∀ g ∈ beginFlds v e, g.sep x = true := fun x hx g hg => by
  have hwriting : (fsWriting (storeKey v skIngest e)).addr = atING v e 0x30 := storeAt_ingest v he 0x30
  simp only [List.mem_cons, List.not_mem_nil, or_false] at hg hx
  obtain rfl | rfl | rfl := hg
  · obtain rfl | rfl | rfl | rfl | rfl | rfl | rfl | rfl | rfl | rfl := hx
    all_goals exact Fld.sep_of_ing rfl rfl rfl
  · obtain rfl | rfl | rfl | rfl | rfl | rfl | rfl | rfl | rfl | rfl := hx
    all_goals exact Fld.sep_of_ing rfl rfl rfl
  · obtain rfl | rfl | rfl | rfl | rfl | rfl | rfl | rfl | rfl | rfl := hx
    all_goals exact Fld.sep_of_ing hwriting rfl rfl

/-- Adoption leaves the store's buffers as they are. -/
theorem adopt_freeBuf (f : SrcFormat) (busy : List Nat) (s : State) :
    (adopt v e f s).freeBuf (storeKey v skIngest e) busy = s.freeBuf (storeKey v skIngest e) busy := by
  have hget : ∀ x : Fld, x.addr = atING v e 0x30 → (adopt v e f s).get x = s.get x := fun x hx =>
    ((adopt_writes v e f s).get_of_addr fun g hg => by
      simp only [List.mem_cons, List.not_mem_nil, or_false] at hg
      obtain rfl | rfl | rfl | rfl | rfl | rfl | rfl | rfl | rfl | rfl := hg
      all_goals
        rw [hx]
        exact mt (atING_inj v e _ _).mp (by decide)).trans (State.get_of_regs rfl x)
  exact freeBuf_congr (hget _ (storeAt_ingest v he 0x30)) (hget _ (storeAt_ingest v he 0x30)) busy

end

/-! The two outcomes as a whole. -/

section
variable {s : State} {q bit : Nat} {c : SourceCfg} {f : SrcFormat} (sframe : Nat) (he : c.engine < 2)
  (heng : s.engineOf q = some (c, bit)) (hlock : (s.ing c.vat c.engine).lock.testBit bit = true) (hok : formatOk f = true)
  (hframe : (s.ing c.vat c.engine).frame = none) (holder : (s.ing c.vat c.engine).older = none)
  (hlast : (s.ing c.vat c.engine).lastSframe = none) (hst : s.ingState c.vat c.engine = ingWait)
include he heng hlock hok hframe holder hlast hst

theorem firstFormat_settled (hcand : (s.ing c.vat c.engine).cand ≠ some (fmtSeen bit f)) :
    let t := settle (opFormat q sframe f true none s.fresh)
    (t.ing c.vat c.engine).cand = some (fmtSeen bit f) ∧
      (t.on (F.VT_ING_STATUS_FMT_CHG c.vat c.engine) = true ∧
        (s.on (F.VT_ING_STATUS_FMT_CHG c.vat c.engine) = true ∨ t.pendingCause 17 = true)) ∧
      t.ingState c.vat c.engine = ingWait ∧ Sent [] t ∧ Frame (candidateFlds c.vat c.engine) s { s with ings := t.ings } t := by
  have hnew : ((sframeNoted c.vat c.engine sframe s.fresh).ing c.vat c.engine).cand ≠ some (fmtSeen bit f) := by
    rw [sframeNoted_ing]
    exact hcand
  rw [opFormat_of_between (s := s.fresh) sframe heng hlock hok hframe holder hlast,
    judgeFormat_of_new (s := sframeNoted c.vat c.engine sframe s.fresh) hst sframe hnew]
  have hw := candidateSeen_writes c.vat c.engine (fmtSeen bit f) sframe bit (sframeNoted c.vat c.engine sframe s.fresh)
  refine ⟨?_, ?_, ?_, hw.sent, hw.ingFrame rfl rfl⟩
  · rw [settle_ing]
    exact candidateSeen_cand c.vat c.engine _ sframe bit _
  · rw [settle_on, settle_pendingCause]
    exact candidateSeen_shown c.vat _ sframe bit _ he
  · rw [settle_ingState]
    exact (candidateSeen_state c.vat _ sframe bit _ he).trans hst

theorem secondFormat_settled (hcand : (s.ing c.vat c.engine).cand = some (fmtSeen bit f)) (hbudget : s.budgetOk c (fmtSeen bit f) = true) :
    let t := settle (opFormat q sframe f true none s.fresh)
    FormatShown c.vat c.engine (fmtSeen bit f) t ∧ (t.ing c.vat c.engine).inForce = some (fmtSeen bit f) ∧
      (t.ing c.vat c.engine).frame.map (·.target) =
        some (s.freeBuf (storeKey c.vat skIngest c.engine) ((s.ing c.vat c.engine).done.toList.filterMap (·.target))) ∧
      Sent [] t ∧ Frame (adoptFlds c.vat c.engine ++ beginFlds c.vat c.engine) s { s with ings := t.ings } t := by
  have hnew : ((sframeNoted c.vat c.engine sframe s.fresh).ing c.vat c.engine).cand = some (fmtSeen bit f) := by
    rw [sframeNoted_ing]
    exact hcand
  have hfits : (sframeNoted c.vat c.engine sframe s.fresh).budgetOk c (fmtSeen bit f) = true := by
    rw [sframeNoted_budgetOk]
    exact hbudget
  rw [opFormat_of_between (s := s.fresh) sframe heng hlock hok hframe holder hlast,
    judgeFormat_of_second (s := sframeNoted c.vat c.engine sframe s.fresh) hst sframe hnew hfits]
  have hadopt := adopt_writes c.vat c.engine (fmtSeen bit f) (sframeNoted c.vat c.engine sframe s.fresh)
  obtain ⟨fr, htarget, hbegin⟩ := beginFrame_writes c.vat c.engine (fmtSeen bit f) sframe bit
    (adopt c.vat c.engine (fmtSeen bit f) (sframeNoted c.vat c.engine sframe s.fresh))
  have hw := ((hadopt.mono (List.subset_append_left _ (beginFlds c.vat c.engine))).map
    (State.setIng · c.vat c.engine fun x => { x with frame := some fr }) fun _ _ => rfl).trans (hbegin.mono (List.subset_append_right _ _))
  have hing := hw.ing c.vat c.engine
  rw [State.ing_setIng_same, State.ing_setIng_same] at hing
  rw [State.nextBuf, hadopt.ing, State.ing_setIng_same, sframeNoted_ing, State.fresh_v_ing, holder, adopt_freeBuf he] at htarget
  have hbufs : ∀ busy, (sframeNoted c.vat c.engine sframe s.fresh).freeBuf (storeKey c.vat skIngest c.engine) busy =
      s.freeBuf (storeKey c.vat skIngest c.engine) busy := freeBuf_congr (State.setIng_get _ _ _ _ _) (State.setIng_get _ _ _ _ _)
  have hshown := adopt_shows c.vat c.engine (sframeNoted c.vat c.engine sframe s.fresh) (formatOk_fmtSeen hok bit)
  refine ⟨FormatShown.of_get _ _ _ hshown fun g hg => ?_, ?_, ?_, hw.sent, hw.ingFrame rfl rfl⟩
  · rw [settle_get, hbegin.get (beginFlds_sep_adopt he g hg), State.setIng_get]
  · rw [settle_ing, hing]
  · rw [settle_ing, hing, Option.map_some, htarget, hbufs, Option.toList_none, List.append_nil]

end

end Sys2Proof.Machine
end

section
/-!
PROOFS. Chapter 08: line packets, the frames they make and the loss of a source (R229, R232, R233, R238, R241 to R243).
-/

namespace Sys2Proof.Machine

open Sys2Proof

/-! ### Line packets (R229, R232, R233) -/

theorem lineClean_iff (e : LineEnd) :
    lineClean e = true ↔ e.viol = false ∧ e.ctrl.all sourceKs.contains = true ∧ e.ctrl.getLast? = some symEop := by
  simp [lineClean, and_assoc]

/-- A frame in which a packet has covered columns of a row. -/
def IngFrame.covered (fr : IngFrame) (row col n : Nat) : IngFrame :=
  { fr with cover := Tab.set (fun _ => []) row (spanIns col n (Tab.get (fun _ => []) fr.cover row)) fr.cover }

section
variable {s : State} {q row col sf bit b : Nat} {words : List Nat} {c : SourceCfg} {fr : IngFrame}

/-- What puts a line packet of an open frame in order, where one port feeds the engine. -/
structure RowTaken (fr : IngFrame) (c : SourceCfg) (row col sf n : Nat) : Prop where
  single : c.bonded = false
  begun : fr.begun = 1
  ended : fr.ended = 0
  shut : fr.shut = 0
  number : sf % 256 = fr.sframe % 256
  row_lt : row < fr.fmt.h
  col_le : col + n ≤ fr.fmt.w
  pos : 1 ≤ n
  le : n ≤ 1024

theorem opLinePacket_of_taken (h : RowTaken fr c row col sf words.length) (heng : s.engineOf q = some (c, 0))
    (hframe : (s.ing c.vat c.engine).frame = some fr) (holder : (s.ing c.vat c.engine).older = none) (htarget : fr.target = some b) :
    opLinePacket q row col sf false words true s =
      (s.putRow fr.lay b fr.tag col row fr.fmt.w (words.map (pixelWord fr.fmt))).setIng c.vat c.engine fun x =>
        { x with frame := some (fr.covered row col words.length) } := by
  obtain ⟨hsingle, hbegun, hended, hshut, hnumber, hrow, hcol, hpos, hle⟩ := h
  have honOlder : (s.ing c.vat c.engine).onOlder 0 = false := by rw [Ingest.onOlder, holder]; rfl
  have hbits : fr.shut.testBit 0 = false ∧ fr.begun.testBit 0 = true ∧ fr.ended.testBit 0 = false := by
    rw [hshut, hbegun, hended]
    decide
  have hempty : (words.length == 0) = false := beq_eq_false_iff_ne.mpr (by omega)
  have hopen : (fr.ended == portBits c) = false := by
    rw [hended, portBits, hsingle]
    rfl
  simp only [opLinePacket, heng, honOlder, hframe, htarget, hsingle, hbits, hnumber, hempty, hopen, bne_self_eq_false, Bool.not_true,
    decide_eq_false (Nat.not_le.mpr hrow), decide_eq_false (Nat.not_lt.mpr hcol), decide_eq_false (Nat.not_lt.mpr hle), Bool.false_and, Bool.or_self,
    Bool.false_eq_true, if_false, IngFrame.covered]

/-- A packet that came with an error is counted, whatever the engine is at. -/
theorem opLinePacket_of_bad (last : Bool) (heng : s.engineOf q = some (c, bit)) :
    opLinePacket q row col sf last words false s = s.inc (F.VT_ING_COUNT2_PKT_ERR c.vat c.engine) := by
  simp only [opLinePacket, heng]
  rcases (if (s.ing c.vat c.engine).onOlder bit then (s.ing c.vat c.engine).older else (s.ing c.vat c.engine).frame) with _ | fr
  · rfl
  · simp only [Bool.not_false, Bool.true_or, if_true]

end

/-- A row written into DRAM and the engine's record of it: nothing else changes. -/
theorem rowTaken_settled (v e col row b tag wid : Nat) (lay : StoreCfg) (words : List Nat) (fr : IngFrame) (s : State) :
    let u := s.putRow lay b tag col row wid words
    let t := settle ((s.fresh.putRow lay b tag col row wid words).setIng v e fun x => { x with frame := some fr })
    t.dram = u.dram ∧ (t.ing v e).frame = some fr ∧ Sent [] t ∧ (∀ a, t.byte a = u.byte a) ∧ Frame [] s { s with ings := t.ings, dram := t.dram } t := by
  obtain ⟨d, hd⟩ := putRow_dramOnly s lay b tag col row wid words
  rw [putRow_fresh, hd]
  refine ⟨?_, ?_, rfl, ?_, ?_⟩
  · rw [settle_dram]
    rfl
  · rw [settle_ing, State.ing_setIng_same]
  · intro a
    rw [settle_byte]
    rfl
  · rw [settle_dram, settle_ings]
    exact frame_of_same_regs rfl rfl

/-! ### The end of a frame (R238, R241) -/

/-- What the store shows of a buffer that has taken a whole frame. -/
def IngFrame.info (fr : IngFrame) : BufInfo :=
  { w := min fr.fmt.w (14 * fr.lay.stride), h := min fr.fmt.h fr.lay.maxRows, code := fr.fmt.code, tag := fr.tag, fence := fr.sframe, invalid := [],
    trunc := decide (14 * fr.lay.stride < fr.fmt.w ∨ fr.lay.maxRows < fr.fmt.h) }

/-- A frame that has ended is taken out of its engine's record. -/
def doneTaken (v e : Nat) (s : State) : State := showWriting v e (s.setIng v e fun x => { x with done := none })

theorem doneTaken_writes (v e : Nat) (s : State) :
    Writes [fsWriting (storeKey v skIngest e)] (s.setIng v e fun x => { x with done := none }) (doneTaken v e s) := showWriting_writes v e _

theorem doneTaken_done (v e : Nat) (s : State) : ((doneTaken v e s).ing v e).done = none := by
  rw [(doneTaken_writes v e s).ing, State.ing_setIng_same]

/-- A frame is published in buffer `b`, counted and shown. -/
def framePublished (v e b : Nat) (fr : IngFrame) (s : State) : State :=
  (((s.setBuf (storeKey v skIngest e) b fun _ => fr.info).put (fsNewest (storeKey v skIngest e)) b).inc (F.VT_ING_COUNT_FRAMES v e)).put
    (F.VT_ING_SFRAME_SFRAME v e) fr.sframe

/-- A damaged frame is shown and counted. -/
def damageShown (v e : Nat) (s : State) : State := (s.flag (F.VT_ING_STATUS_DAMAGED v e)).inc (F.VT_ING_COUNT_DAMAGED_N v e)

section
variable {s : State} {v e b : Nat} {fr : IngFrame} (hdone : (s.ing v e).done = some fr) (htarget : fr.target = some b)
include hdone htarget

theorem opIngestComplete_of_whole (hrows : fr.badRows = []) (hstores : s.mould.oldStores = [])
    (hkey : storeCfgKey fr.lay = storeKey v skIngest e) (hnewest : (doneTaken v e s).get (fsNewest (storeKey v skIngest e)) = 3) :
    opIngestComplete v e s = framePublished v e b fr (doneTaken v e s) := by
  have hmould : (doneTaken v e s).mould.oldStores = [] := hstores
  have hinfo : ({ w := min fr.fmt.w (14 * fr.lay.stride), h := min fr.fmt.h fr.lay.maxRows, code := fr.fmt.code, tag := fr.tag, fence := fr.sframe,
                  invalid := [],
                  trunc := min fr.fmt.w (14 * fr.lay.stride) < fr.fmt.w || min fr.fmt.h fr.lay.maxRows < fr.fmt.h } : BufInfo) = fr.info := by
    simp only [IngFrame.info, min_lt_iff, lt_irrefl, false_or, Bool.decide_or]
  have hkept : decide ((3 : Nat) < 3) = false := rfl
  unfold doneTaken at hnewest hmould
  simp only [opIngestComplete, hdone, htarget, hrows, List.isEmpty_nil, Bool.not_true, Bool.false_and, Bool.false_eq_true, if_false, hnewest, hkept,
    hinfo, publish_eq hmould, hkey, framePublished, doneTaken]

theorem opIngestComplete_of_damaged (hrows : fr.badRows ≠ []) (hdrop : (damageShown v e (doneTaken v e s)).on (F.VT_ING_CTRL_DROP_DAMAGED v e) = true) :
    opIngestComplete v e s = damageShown v e (doneTaken v e s) := by
  have hbad : fr.badRows.isEmpty = false := List.isEmpty_eq_false_iff.mpr hrows
  unfold damageShown doneTaken at hdrop
  simp only [opIngestComplete, hdone, htarget, hbad, Bool.not_false, Bool.true_and, if_true, hdrop, damageShown, doneTaken]

end

section
variable (v e b : Nat) (fr : IngFrame) (s : State)

abbrev publishFlds : List Fld :=
  [fsNewest (storeKey v skIngest e), fsWriting (storeKey v skIngest e), F.VT_ING_SFRAME_SFRAME v e, F.VT_ING_COUNT_FRAMES v e]

theorem framePublished_writes :
    Writes (publishFlds v e) (s.setBuf (storeKey v skIngest e) b fun _ => fr.info) (framePublished v e b fr s) :=
  (((Writes.refl _ _).put (by simp) b).inc (by simp)).put (by simp) fr.sframe

theorem damageShown_writes : Writes [F.VT_ING_STATUS_DAMAGED v e, F.VT_ING_COUNT_DAMAGED_N v e] s (damageShown v e s) :=
  ((Writes.refl _ _).put (by simp) 1).inc (by simp)

variable {v e b s}

theorem damageShown_shown : (damageShown v e s).get (F.VT_ING_STATUS_DAMAGED v e) = 1 ∧
    (damageShown v e s).get (F.VT_ING_COUNT_DAMAGED_N v e) = s.more (F.VT_ING_COUNT_DAMAGED_N v e) := by
  unfold damageShown State.flag
  refine ⟨?_, ?_⟩
  · rw [State.get_inc_sep _ _ (Fld.sep_of_ing rfl rfl rfl)]
    exact State.get_put_one _ _ rfl
  · rw [State.get_inc_same _ rfl, State.more, State.get_put_sep _ _ _ _ (Fld.sep_of_ing rfl rfl rfl)]
    rfl

/-- Taking a frame out of the record leaves every field of the engine but WRITING. -/
theorem doneTaken_get {f : Fld} (hf : (fsWriting (storeKey v skIngest e)).sep f = true) : (doneTaken v e s).get f = s.get f :=
  ((doneTaken_writes v e s).get (List.forall_mem_singleton.mpr hf)).trans (State.setIng_get _ _ _ _ _)

variable (he : e < 2)
include he

/-- Fields of an engine's store lie at the engine's registers. -/
theorem fsNewest_addr : (fsNewest (storeKey v skIngest e)).addr = atING v e 0x30 := storeAt_ingest v he 0x30

theorem fsWriting_addr : (fsWriting (storeKey v skIngest e)).addr = atING v e 0x30 := storeAt_ingest v he 0x30

theorem framePublished_shown (hb : b < 3) : (framePublished v e b fr s).get (fsNewest (storeKey v skIngest e)) = b ∧
    (framePublished v e b fr s).get (F.VT_ING_SFRAME_SFRAME v e) = fr.sframe % 2 ^ 32 ∧
    (framePublished v e b fr s).get (F.VT_ING_COUNT_FRAMES v e) = s.more (F.VT_ING_COUNT_FRAMES v e) := by
  have hnewest := fsNewest_addr (v := v) he
  unfold framePublished
  refine ⟨?_, ?_, ?_⟩
  · rw [State.get_put_sep _ _ _ _ (Fld.sep_of_ing rfl hnewest rfl), State.get_inc_sep _ _ (Fld.sep_of_ing rfl hnewest rfl)]
    exact State.get_put_fit _ _ rfl (show b < 2 ^ 2 by omega)
  · exact State.get_put_same _ _ _ rfl
  · rw [State.get_put_sep _ _ _ _ (Fld.sep_of_ing rfl rfl rfl), State.get_inc_same _ rfl, State.more,
      State.get_put_sep _ _ _ _ (Fld.sep_of_ing hnewest rfl rfl)]
    rfl

end

section
variable {s : State} {v e b : Nat} {fr : IngFrame} (he : e < 2) (hdone : (s.ing v e).done = some fr) (htarget : fr.target = some b)
include he hdone htarget

theorem wholeFrame_settled (hb : b < 3) (hrows : fr.badRows = []) (hstores : s.mould.oldStores = [])
    (hkey : storeCfgKey fr.lay = storeKey v skIngest e) (hnewest : s.get (fsNewest (storeKey v skIngest e)) = 3) :
    let t := settle (opIngestComplete v e s.fresh)
    t.get (fsNewest (storeKey v skIngest e)) = b ∧ t.get (F.VT_ING_SFRAME_SFRAME v e) = fr.sframe % 2 ^ 32 ∧
      t.get (F.VT_ING_COUNT_FRAMES v e) = s.more (F.VT_ING_COUNT_FRAMES v e) ∧ t.buf (storeKey v skIngest e) b = fr.info ∧
      (t.ing v e).done = none ∧ Sent [] t ∧ Frame (publishFlds v e) s { s with ings := t.ings, stores := t.stores } t := by
  have hwriting := fsWriting_addr (v := v) he
  have hnone : (doneTaken v e s.fresh).get (fsNewest (storeKey v skIngest e)) = 3 :=
    (doneTaken_get (Fld.sep_of_bits rfl)).trans hnewest
  rw [opIngestComplete_of_whole (s := s.fresh) hdone htarget hrows hstores hkey hnone]
  obtain ⟨hshown, hframe, hcount⟩ := framePublished_shown fr (s := doneTaken v e s.fresh) he hb
  have htaken := ((doneTaken_writes v e s.fresh).mono (m := publishFlds v e) (by simp)).map (State.setBuf · (storeKey v skIngest e) b fun _ => fr.info)
    fun _ _ => rfl
  have hw := htaken.trans (framePublished_writes v e b fr _)
  refine ⟨?_, ?_, ?_, ?_, ?_, hw.sent, ?_⟩
  · rw [settle_get, hshown]
  · rw [settle_get, hframe]
  · rw [settle_get, hcount, State.more, doneTaken_get (Fld.sep_of_ing hwriting rfl rfl)]
    rfl
  · rw [settle_buf, (framePublished_writes v e b fr _).same (State.buf · _ b) fun _ _ => rfl, State.buf_setBuf_same]
  · rw [settle_ing, (framePublished_writes v e b fr _).ing]
    exact doneTaken_done v e s.fresh
  · rw [settle_ings, settle_stores, hw.same State.ings fun _ _ => rfl, hw.same State.stores fun _ _ => rfl]
    exact hw.frame rfl rfl

theorem damagedFrame_settled (hrows : fr.badRows ≠ []) (hdrop : s.on (F.VT_ING_CTRL_DROP_DAMAGED v e) = true) :
    let t := settle (opIngestComplete v e s.fresh)
    t.get (fsNewest (storeKey v skIngest e)) = s.get (fsNewest (storeKey v skIngest e)) ∧ t.get (F.VT_ING_STATUS_DAMAGED v e) = 1 ∧
      t.get (F.VT_ING_COUNT_DAMAGED_N v e) = s.more (F.VT_ING_COUNT_DAMAGED_N v e) ∧ (t.ing v e).done = none ∧ Sent [] t ∧
      Frame ([fsWriting (storeKey v skIngest e), F.VT_ING_STATUS_DAMAGED v e, F.VT_ING_COUNT_DAMAGED_N v e]) s { s with ings := t.ings } t := by
  have hwriting := fsWriting_addr (v := v) he
  have hnewest := fsNewest_addr (v := v) he
  have hw := ((doneTaken_writes v e s.fresh).mono (m := [fsWriting (storeKey v skIngest e), F.VT_ING_STATUS_DAMAGED v e, F.VT_ING_COUNT_DAMAGED_N v e])
    (by simp)).trans ((damageShown_writes v e _).mono (by simp))
  have hget : ∀ f : Fld, (∀ g ∈ [fsWriting (storeKey v skIngest e), F.VT_ING_STATUS_DAMAGED v e, F.VT_ING_COUNT_DAMAGED_N v e], g.sep f = true) →
      (damageShown v e (doneTaken v e s.fresh)).get f = s.get f := fun f hf => (hw.get hf).trans (State.setIng_get _ _ _ _ _)
  have hctrl : (damageShown v e (doneTaken v e s.fresh)).on (F.VT_ING_CTRL_DROP_DAMAGED v e) = true := by
    rw [State.on, hget, ← State.on, hdrop]
    simp only [List.forall_mem_cons, List.not_mem_nil, false_imp_iff, implies_true, and_true]
    exact ⟨Fld.sep_of_ing hwriting rfl rfl, Fld.sep_of_ing rfl rfl rfl, Fld.sep_of_ing rfl rfl rfl⟩
  rw [opIngestComplete_of_damaged (s := s.fresh) hdone htarget hrows hctrl]
  obtain ⟨hshown, hcount⟩ := damageShown_shown (v := v) (e := e) (s := doneTaken v e s.fresh)
  refine ⟨?_, ?_, ?_, ?_, hw.sent, hw.ingFrame rfl rfl⟩
  · rw [settle_get, hget]
    simp only [List.forall_mem_cons, List.not_mem_nil, false_imp_iff, implies_true, and_true]
    exact ⟨Fld.sep_of_bits rfl, Fld.sep_of_ing rfl hnewest rfl, Fld.sep_of_ing rfl hnewest rfl⟩
  · rw [settle_get, hshown]
  · rw [settle_get, hcount, State.more, doneTaken_get (Fld.sep_of_ing hwriting rfl rfl)]
    rfl
  · rw [settle_ing, (damageShown_writes v e _).ing, doneTaken_done]

end

/-! ### The loss of a source (R242) -/

theorem setIng_pendingCause (s : State) (v e : Nat) (f : Ingest → Ingest) (c : Nat) : (s.setIng v e f).pendingCause c = s.pendingCause c := rfl

/-- The lanes of the lost ports of an engine train again. -/
def lanesLost (v e lost : Nat) (s : State) : State :=
  match s.mould.loaded with
  | some m => match m.sources.find? fun c => c.vat == v && c.engine == e with
    | some c => s.each (bitsOf 2 lost) fun i s => s.each (groupLanes (16 + c.port + i)) fun n s => s.put (F.HP_LANE_STATE_RXS n) lnTrain
    | none => s
  | none => s

/-- An engine stops: it shows that and discards its frames. -/
def engineStopped (v e : Nat) (s : State) : State :=
  (dropFrame v e (((s.put (F.VT_ING_STATUS_STATE v e) ingStopped).raise (F.VT_ING_STATUS_STOPPED_EV v e) 16).setIng v e fun x =>
    { x with older := none })).setIng v e fun x => { x with cand := none, stopped := 0 }

/-- An engine's record without the ports that have lost their source. -/
def portsLost (v e lost : Nat) (s : State) : State := s.setIng v e fun x => { x with lock := x.lock - (x.lock &&& lost) }

theorem opIngestStop_of_live {s : State} {v e : Nat} (lost : Nat)
    (h : s.ingState v e = ingWait ∨ s.ingState v e = ingRunning ∨ s.ingState v e = ingOver) :
    opIngestStop v e lost s = engineStopped v e (lanesLost v e lost (portsLost v e lost s)) := by
  have hlive : (s.ingState v e == ingWait || s.ingState v e == ingRunning || s.ingState v e == ingOver) = true := by
    simpa only [Bool.or_eq_true, beq_iff_eq, or_assoc] using h
  exact if_pos hlive

section
variable (v e lost : Nat) (s : State)

theorem lanesLost_writes : ∃ l : List Fld, (∀ g ∈ l, laneBlock g.addr) ∧ Writes l s (lanesLost v e lost s) := by
  unfold lanesLost
  split
  next m _ =>
    split
    next c _ =>
      refine ⟨(bitsOf 2 lost).flatMap fun i => (groupLanes (16 + c.port + i)).map F.HP_LANE_STATE_RXS, fun g hg => ?_, ?_⟩
      · obtain ⟨i, -, hg⟩ := List.mem_flatMap.mp hg
        obtain ⟨n, -, rfl⟩ := List.mem_map.mp hg
        exact laneBlock_lane n (by decide)
      · exact Writes.each _ s fun i hi t => Writes.each _ t fun n hn u => (Writes.refl _ u).put
          (List.mem_flatMap.mpr ⟨i, hi, List.mem_map_of_mem (f := F.HP_LANE_STATE_RXS) hn⟩) lnTrain
    next => exact ⟨[], by simp, .refl _ s⟩
  next => exact ⟨[], by simp, .refl _ s⟩

abbrev stopFlds : List Fld := [F.VT_ING_STATUS_STATE v e, F.VT_ING_STATUS_STOPPED_EV v e, fsWriting (storeKey v skIngest e)] ++ pendFlds

theorem engineStopped_writes : Writes (stopFlds v e)
    (((s.setIng v e fun x => { x with older := none }).setIng v e fun x => { x with frame := none }).setIng v e fun x =>
      { x with cand := none, stopped := 0 }) (engineStopped v e s) := by
  have hraise := ((Writes.refl (stopFlds v e) s).put (f := F.VT_ING_STATUS_STATE v e) (by simp) ingStopped).raise
    (f := F.VT_ING_STATUS_STOPPED_EV v e) (by simp) (by simp) (by simp) 16
  have hdrop := (hraise.map (State.setIng · v e fun x => { x with older := none }) fun _ _ => rfl).map
    (State.setIng · v e fun x => { x with frame := none }) fun _ _ => rfl
  exact (hdrop.trans ((showWriting_writes v e _).mono (by simp))).map (State.setIng · v e _) fun _ _ => rfl

theorem engineStopped_ing : (engineStopped v e s).ing v e = { s.ing v e with older := none, frame := none, cand := none, stopped := 0 } := by
  rw [(engineStopped_writes v e s).ing, State.ing_setIng_same, State.ing_setIng_same, State.ing_setIng_same]

variable {v e s} (he : e < 2)
include he

theorem engineStopped_shown : (engineStopped v e s).ingState v e = ingStopped ∧
    (engineStopped v e s).on (F.VT_ING_STATUS_STOPPED_EV v e) = true ∧
    (s.on (F.VT_ING_STATUS_STOPPED_EV v e) = true ∨ (engineStopped v e s).pendingCause 16 = true) := by
  have hwriting := fsWriting_addr (v := v) he
  have hge := atING_ge v e
  have hrind : ∀ a < 0x1000000, (F.VT_ING_STATUS_STATE v e).addr ≠ a := fun a ha => Nat.ne_of_gt (ha.trans_le (hge 4))
  have hw : Writes [fsWriting (storeKey v skIngest e)]
      ((((s.put (F.VT_ING_STATUS_STATE v e) ingStopped).raise (F.VT_ING_STATUS_STOPPED_EV v e) 16).setIng v e fun x =>
        { x with older := none }).setIng v e fun x => { x with frame := none }) (dropFrame v e _) := showWriting_writes v e _
  have hshown := raise_shown (f := F.VT_ING_STATUS_STOPPED_EV v e) (s.put (F.VT_ING_STATUS_STATE v e) ingStopped) (c := 16) (hge 4) rfl (by decide)
  rw [State.on_put_sep _ _ _ _ (Fld.sep_of_bits rfl)] at hshown
  unfold engineStopped
  refine ⟨?_, ?_, hshown.2.imp_right fun h => ?_⟩
  · rw [State.ingState, State.setIng_get, hw.get (List.forall_mem_singleton.mpr (Fld.sep_of_ing hwriting rfl rfl)), State.setIng_get,
      State.setIng_get, State.get_raise_sep _ _ _ (Fld.sep_of_bits rfl) (hrind _ (by decide)) (hrind _ (by decide))]
    exact State.get_put_fit _ _ rfl (show ingStopped < 2 ^ 4 by decide)
  · rw [State.setIng_on, hw.on (List.forall_mem_singleton.mpr (Fld.sep_of_ing hwriting rfl rfl)), State.setIng_on, State.setIng_on, hshown.1]
  · rw [setIng_pendingCause, hw.pendingCause (List.forall_mem_singleton.mpr ((hge 0x30).trans_eq hwriting.symm)), setIng_pendingCause,
      setIng_pendingCause, h]

end

theorem ingestStop_settled {s : State} {v e : Nat} (lost : Nat) (he : e < 2)
    (h : s.ingState v e = ingWait ∨ s.ingState v e = ingRunning ∨ s.ingState v e = ingOver) :
    let t := settle (opIngestStop v e lost s.fresh)
    t.ingState v e = ingStopped ∧ t.on (F.VT_ING_STATUS_STOPPED_EV v e) = true ∧
      (s.on (F.VT_ING_STATUS_STOPPED_EV v e) = true ∨ t.pendingCause 16 = true) ∧
      t.ing v e = { s.ing v e with lock := (s.ing v e).lock - ((s.ing v e).lock &&& lost), older := none, frame := none, cand := none, stopped := 0 } ∧
      t.get (fsNewest (storeKey v skIngest e)) = s.get (fsNewest (storeKey v skIngest e)) ∧ t.dram = s.dram ∧ t.stores = s.stores ∧ Sent [] t := by
  obtain ⟨l, hblock, hlanes⟩ := lanesLost_writes v e lost (portsLost v e lost s.fresh)
  have hnewest := fsNewest_addr (v := v) he
  have hnot : ∀ off < 0x100, ∀ f : Fld, f.addr = atING v e off → ∀ g ∈ l, g.sep f = true := fun off hoff f hf g hg =>
    Fld.sep_of_laneBlock (hblock g hg) (hf ▸ not_laneBlock_ing v he hoff)
  have hdram : (lanesLost v e lost (portsLost v e lost s.fresh)).dram = s.dram := hlanes.same State.dram fun _ _ => rfl
  have hstores : (lanesLost v e lost (portsLost v e lost s.fresh)).stores = s.stores := hlanes.same State.stores fun _ _ => rfl
  have hout : (lanesLost v e lost (portsLost v e lost s.fresh)).out = [] := hlanes.same State.out fun _ _ => rfl
  have hw := engineStopped_writes v e (lanesLost v e lost (portsLost v e lost s.fresh))
  obtain ⟨hstate, hon, hcause⟩ := engineStopped_shown (s := lanesLost v e lost (portsLost v e lost s.fresh)) (v := v) he
  rw [opIngestStop_of_live (s := s.fresh) lost h]
  refine ⟨?_, ?_, ?_, ?_, ?_, ?_, ?_, ?_⟩
  · rw [settle_ingState, hstate]
  · rw [settle_on, hon]
  · rw [settle_pendingCause]
    refine hcause.imp_left fun h => ?_
    rwa [hlanes.on (hnot 4 (by decide) _ rfl)] at h
  · rw [settle_ing, engineStopped_ing, hlanes.ing, portsLost, State.ing_setIng_same]
    rfl
  · rw [settle_get, hw.get, State.setIng_get, State.setIng_get, State.setIng_get, hlanes.get (hnot 0x30 (by decide) _ hnewest)]
    · exact State.setIng_get s.fresh v e _ _
    · simp only [List.forall_mem_append, List.forall_mem_cons, List.not_mem_nil, false_imp_iff, implies_true, and_true]
      exact ⟨⟨Fld.sep_of_ing rfl hnewest rfl, Fld.sep_of_ing rfl hnewest rfl, Fld.sep_of_bits rfl⟩,
        Fld.sep_of_rind (by decide) ((atING_ge v e 0x30).trans_eq hnewest.symm), Fld.sep_of_rind (by decide) ((atING_ge v e 0x30).trans_eq hnewest.symm)⟩
  · rw [settle_dram, hw.same State.dram fun _ _ => rfl, State.setIng_dram, State.setIng_dram, State.setIng_dram, hdram]
  · rw [settle_stores, hw.same State.stores fun _ _ => rfl, State.setIng_stores, State.setIng_stores, State.setIng_stores, hstores]
  · rw [Sent, settle_out, hw.same State.out fun _ _ => rfl, State.setIng_out, State.setIng_out, State.setIng_out, hout]

/-! ### An overflow (R242) and the end of STOP_HOLD (R243) -/

/-- Rows of a frame are lost. -/
def loseRows (rows : List Nat) (o : Option IngFrame) : Option IngFrame := o.map fun fr => { fr with lost := rows ++ fr.lost }

/-- An engine's record after the loss of rows, each to the frame that its port sends. -/
def Ingest.overflow (x : Ingest) (rows : List Nat) : Ingest :=
  { x with older := loseRows (rows.filter fun r => x.onOlder (r % 2)) x.older, frame := loseRows (rows.filter fun r => !x.onOlder (r % 2)) x.frame }

theorem opIngestOverflow_eq (v e : Nat) (rows : List Nat) (s : State) :
    opIngestOverflow v e rows s = (s.inc (F.VT_ING_COUNT2_OVERFLOW v e)).setIng v e (Ingest.overflow · rows) := rfl

/-- With one frame in progress every row is lost to it. -/
theorem Ingest.overflow_frame {x : Ingest} {fr : IngFrame} (rows : List Nat) (hframe : x.frame = some fr) (holder : x.older = none) :
    (x.overflow rows).frame = some { fr with lost := rows ++ fr.lost } := by
  have honOlder : ∀ r, x.onOlder r = false := fun r => by rw [Ingest.onOlder, holder]; rfl
  have hall : (rows.filter fun r => !x.onOlder (r % 2)) = rows := List.filter_eq_self.mpr fun r _ => by rw [honOlder]; rfl
  rw [Ingest.overflow, hall, hframe]
  rfl

theorem overflow_settled {s : State} {v e : Nat} {fr : IngFrame} (rows : List Nat) (hframe : (s.ing v e).frame = some fr)
    (holder : (s.ing v e).older = none) :
    let t := settle (opIngestOverflow v e rows s.fresh)
    t.get (F.VT_ING_COUNT2_OVERFLOW v e) = s.more (F.VT_ING_COUNT2_OVERFLOW v e) ∧ (t.ing v e).frame = some { fr with lost := rows ++ fr.lost } ∧
      Sent [] t ∧ Frame ([F.VT_ING_COUNT2_OVERFLOW v e]) s { s with ings := t.ings } t := by
  have hw := (inc_writes s.fresh (F.VT_ING_COUNT2_OVERFLOW v e)).map (State.setIng · v e (Ingest.overflow · rows)) fun _ _ => rfl
  rw [opIngestOverflow_eq]
  refine ⟨?_, ?_, hw.sent, hw.ingFrame rfl rfl⟩
  · rw [settle_get, State.setIng_get]
    exact State.get_inc_same _ rfl
  · rw [settle_ing, hw.ing, State.ing_setIng_same]
    exact Ingest.overflow_frame rows hframe holder

theorem stopHold_settled {s : State} {v e : Nat} (hst : s.ingState v e = ingStopped ∨ s.ingState v e = ingOver)
    (hon : s.on (F.VT_ING_CTRL_STOP_HOLD v e) = true) (hheld : s.get (F.VT_ING_CTRL_STOP_HOLD v e) ≤ (s.ing v e).stopped) :
    let t := settle (opStopHold v e s.fresh)
    t.get (fsNewest (storeKey v skIngest e)) = 3 ∧ Sent [] t ∧ Frame ([fsNewest (storeKey v skIngest e)]) s s t := by
  have hpos : 0 < s.get (F.VT_ING_CTRL_STOP_HOLD v e) := Nat.pos_of_ne_zero ((State.on_iff _ _).mp hon)
  have hexpired : ((s.ingState v e == ingStopped || s.ingState v e == ingOver) && decide (0 < s.get (F.VT_ING_CTRL_STOP_HOLD v e)) &&
      decide (s.get (F.VT_ING_CTRL_STOP_HOLD v e) ≤ (s.ing v e).stopped)) = true := by
    simpa only [Bool.and_eq_true, Bool.or_eq_true, beq_iff_eq, decide_eq_true_eq] using ⟨⟨hst, hpos⟩, hheld⟩
  have hop : opStopHold v e s.fresh = s.fresh.put (fsNewest (storeKey v skIngest e)) 3 := if_pos hexpired
  have hw := put_writes s.fresh (fsNewest (storeKey v skIngest e)) 3
  rw [hop]
  refine ⟨?_, hw.sent, hw.frame rfl rfl⟩
  rw [settle_get]
  exact State.get_put_fit _ _ rfl (show 3 < 2 ^ 2 by decide)

/-! ### The format registers are read together (R16, R247) -/

theorem runRind_only_atRead {s : State} {b : Bool} {f : State → State} {a : Nat} (ha : s.acts) (hb : b = true) (hw : s.answersAt a = true) :
    runRind (only b (atRead a f)) s = .next (settle (f s.fresh)) := by
  rw [runRind_acts _ (acts_rind ha), only_pos _ hb, atRead, State.fresh_v_answersAt, if_pos hw]

/-- A read that captures two partners: the word itself, and what both hold now. -/
theorem captureRead_settled {a b c : Nat} (hbc : b ≠ c) (s : State) :
    let t := settle (s.fresh.captureRead a [b, c])
    t.acc.rdata = [(s.rd a).toNat] ∧ Tab.get (fun _ => none) t.acc.captured b = some (s.rd b) ∧
      Tab.get (fun _ => none) t.acc.captured c = some (s.rd c) ∧ Sent [] t ∧ Frame [] s { s with acc := t.acc } t := by
  have hacc : (settle (s.fresh.captureRead a [b, c])).acc = (s.fresh.captureRead a [b, c]).acc := settle_acc _
  have hcap : (s.fresh.captureRead a [b, c]).acc.captured =
      Tab.set (fun _ => none) c (some (s.rd c)) (Tab.set (fun _ => none) b (some (s.rd b)) s.fresh.acc.captured) := rfl
  dsimp only
  rw [hacc, hcap]
  refine ⟨rfl, ?_, ?_, rfl, frame_of_same_regs rfl rfl⟩
  · rw [Tab.get_set_ne _ _ _ hbc, Tab.get_set_same]
  · rw [Tab.get_set_same]

/-! ### The statement -/

theorem exec_linePacket_run {s : State} {q row col sf : Nat} {last ok : Bool} {words : List Nat} {e : LineEnd} (ha : s.acts) (hq : q < 8)
    (hok : (lineClean e && e.count == words.length && e.check == crc32 (lineBytes row col e.count (if last then 1 else 0) sf words)) = ok) :
    exec (.linePacket q row col sf last words e) s = .next (settle (opLinePacket q row col sf last words ok s.fresh)) := by
  rw [exec_linePacket, execLinePacket, run_only ha (decide_eq_true hq), hok]

theorem exec_format_run {s : State} {q sframe : Nat} {f : SrcFormat} {w : PktEnd} (ha : s.acts) (hq : q < 8)
    (hgood : w.good (rxHead w (formatPkt sframe f))) :
    exec (.format q sframe f none w) s = .next (settle (opFormat q sframe f true none s.fresh)) := by
  obtain ⟨hedb, hcheck⟩ := hgood
  have hok : (!w.edb && w.check == pktCheck (rxHead w (formatPkt sframe f))) = true := by
    rw [hedb, hcheck, beq_self_eq_true]
    rfl
  rw [exec_format, execFormat, run_only ha (decide_eq_true hq), hok]

theorem vatEngine_ok {v e : Nat} (h : v < 4 ∧ e < 2) : (decide (v < 4) && decide (e < 2)) = true := by
  rw [decide_eq_true h.1, decide_eq_true h.2]
  rfl

/-- Settles O17: each row of the ingest engines by its own lemma above. -/
theorem sourceIngest : Obligations.SourceIngest := by
  unfold Obligations.SourceIngest
  refine ⟨?_, ?_, ?_, ?_, ?_, ?_, ?_, ?_, ?_, ?_, ?_⟩
  · intro s q bit eq c ha hq heng ⟨_, he, _⟩ hst hlock
    refine ⟨_, run_only ha (decide_eq_true hq), ?_⟩
    obtain ⟨hwait, hlanes, hplace, heq, hsent, hframe⟩ := sourceLock_settled eq heng he hst hlock
    exact ⟨fun _ => hwait, hlanes, hplace, heq, hsent, hframe.mono (by simp)⟩
  · intro s q sframe bit f c w ha hq heng ⟨_, he, _⟩ hlock hok hgood ⟨hframe, holder⟩ hst hcand hlast
    exact ⟨_, exec_format_run ha hq hgood, firstFormat_settled sframe he heng hlock hok hframe holder hlast hst hcand⟩
  · intro s q sframe bit f c w ha hq heng ⟨_, he, _⟩ hlock hok hgood ⟨hframe, holder⟩ hst hcand hlast hbudget
    refine ⟨_, exec_format_run ha hq hgood, ?_⟩
    obtain ⟨hshown, hforce, htarget, hsent, hkeep⟩ := secondFormat_settled sframe he heng hlock hok hframe holder hlast hst hcand hbudget
    exact ⟨hshown.state, hforce, hshown.width, hshown.height, hshown.code, hshown.num, hshown.den, hshown.depth, hshown.range, htarget, hsent,
      hkeep.mono (by simp)⟩
  · intro s q row col sf chk bit b words ctrl c fr ha hq heng ⟨_, _, hsingle, hbit⟩ ⟨hframe, holder⟩ hchk ⟨hsyms, heop⟩ htarget ⟨hbegun, hended, hshut⟩
      hnumber ⟨hrow, hcol⟩ ⟨hpos, hle⟩
    subst hbit hchk
    have hclean : lineClean ⟨words.length, crc32 (lineBytes row col words.length 0 sf words), false, ctrl⟩ = true :=
      (lineClean_iff _).mpr ⟨rfl, by simpa using hsyms, heop⟩
    have htaken : RowTaken fr c row col sf words.length := ⟨hsingle, hbegun, hended, hshut, hnumber, hrow, hcol, hpos, hle⟩
    refine ⟨_, exec_linePacket_run (ok := true) ha hq (by simp [hclean]), ?_⟩
    rw [opLinePacket_of_taken (s := s.fresh) htaken heng hframe holder htarget]
    obtain ⟨hdram, hcover, hsent, hbyte, hkeep⟩ := rowTaken_settled c.vat c.engine col row b fr.tag fr.fmt.w fr.lay (words.map (pixelWord fr.fmt))
      (fr.covered row col words.length) s
    refine ⟨hdram, hcover, hsent, fun a hout => ?_, hkeep⟩
    rw [hbyte, putRow_byte]
    rwa [List.length_map]
  · intro s q row col sf count chk bit last viol words ctrl c ha hq heng hbad
    have hnot : (lineClean ⟨count, chk, viol, ctrl⟩ && count == words.length &&
        chk == crc32 (lineBytes row col count (if last then 1 else 0) sf words)) = false := by
      rw [Bool.eq_false_iff, Ne, Bool.and_eq_true, Bool.and_eq_true, lineClean_iff, beq_iff_eq, beq_iff_eq]
      rintro ⟨⟨⟨hviol, hsyms, heop⟩, hcount⟩, hchk⟩
      obtain h | h | h | h | h := hbad
      · exact absurd (hviol.symm.trans h) (by decide)
      · exact absurd (hsyms.symm.trans h) (by decide)
      · exact h heop
      · exact h hcount
      · exact h hchk
    refine ⟨_, exec_linePacket_run ha hq hnot, ?_⟩
    rw [opLinePacket_of_bad (s := s.fresh) last heng]
    have hw := inc_writes s.fresh (F.VT_ING_COUNT2_PKT_ERR c.vat c.engine)
    exact ⟨(settle_get _ _).trans (State.get_inc_same (s := s.fresh) _ rfl), hw.sent, hw.frame rfl rfl⟩
  · intro s v e b fr ha hve hdone htarget hb hrows ⟨hstores, hkey⟩ hnewest
    exact ⟨_, run_only ha (vatEngine_ok hve), wholeFrame_settled hve.2 hdone htarget hb hrows hstores hkey hnewest⟩
  · intro s v e b fr ha hve hdone htarget _ hrows hdrop
    exact ⟨_, run_only ha (vatEngine_ok hve), damagedFrame_settled hve.2 hdone htarget hrows hdrop⟩
  · intro s v e lost ha hve hst
    refine ⟨_, run_only ha (vatEngine_ok hve), ?_⟩
    obtain ⟨hstate, hon, hcause, hing, hnewest, hdram, hstores, hsent⟩ := ingestStop_settled lost hve.2 hst
    rw [hing]
    exact ⟨hstate, hon, hcause, rfl, rfl, rfl, rfl, rfl, hnewest, hdram, hstores, hsent⟩
  · intro s v e rows fr ha hve ⟨hframe, holder⟩
    exact ⟨_, run_only ha (vatEngine_ok hve), overflow_settled rows hframe holder⟩
  · intro s v e ha hve hst hon hheld
    exact ⟨_, run_only ha (vatEngine_ok hve), stopHold_settled hst hon hheld⟩
  · intro s v e ha hve hans
    exact ⟨_, runRind_only_atRead ha (vatEngine_ok hve) hans, captureRead_settled (by omega) s⟩

end Sys2Proof.Machine
end

section
/-!
PROOFS. Chapter 08: the renderer's buffers (R239, R246).
-/

namespace Sys2Proof.Machine

open Sys2Proof

/-! ### A field put to what it holds -/

theorem State.put_own (s : State) (f : Fld) : s.put f (s.get f) = s.addSat f 0 := by
  rw [State.addSat, Nat.add_zero, min_eq_left (Nat.le_sub_one_of_lt (State.get_lt s f))]

theorem Writes.put_own {l : List Fld} {s t : State} (h : Writes l s t) {f : Fld} {v : Nat} (hv : t.get f = v) : Writes l s (t.put f v) := by
  obtain ⟨⟨r, rfl⟩, hk⟩ := h
  subst hv
  exact ⟨⟨_, rfl⟩, fun g hg => (by rw [State.put_own, State.get_addSat_zero] : State.get _ g = _).trans (hk g hg)⟩

/-! ### Results of a renderer's commands (R246) -/

section
variable (v r st buf : Nat) (s : State)

abbrev resultFlds : List Fld := [F.VT_RND_RESULT_STATE v r, F.VT_RND_RESULT_BUF v r, F.VT_RND_RESULT_VALID v r, F.VT_RND_RESULT_SEQ v r]

theorem rndResult_writes : Writes (resultFlds v r) s (rndResult v r st buf s) :=
  ((((Writes.refl _ s).put (f := F.VT_RND_RESULT_VALID v r) (by simp) 1).bump (f := F.VT_RND_RESULT_SEQ v r) (by simp)).put
    (f := F.VT_RND_RESULT_STATE v r) (by simp) st).put (f := F.VT_RND_RESULT_BUF v r) (by simp) buf

/-- The result of a finished command stands. -/
structure ResultShown (v r st buf seq : Nat) (s : State) : Prop where
  state : s.get (F.VT_RND_RESULT_STATE v r) = st
  buf : s.get (F.VT_RND_RESULT_BUF v r) = buf
  valid : s.get (F.VT_RND_RESULT_VALID v r) = 1
  seq : s.get (F.VT_RND_RESULT_SEQ v r) = seq

variable {v r st buf} {s t : State}

theorem ResultShown.of_get {seq : Nat} (h : ResultShown v r st buf seq s) (hget : ∀ g ∈ resultFlds v r, t.get g = s.get g) :
    ResultShown v r st buf seq t where
  state := (hget _ (by simp)).trans h.state
  buf := (hget _ (by simp)).trans h.buf
  valid := (hget _ (by simp)).trans h.valid
  seq := (hget _ (by simp)).trans h.seq

theorem rndResult_shown (hst : st < 2 ^ 4) (hbuf : buf < 2 ^ 2) (s : State) :
    ResultShown v r st buf (s.wrap (F.VT_RND_RESULT_SEQ v r)) (rndResult v r st buf s) := by
  unfold rndResult
  refine ⟨?_, State.get_put_fit _ _ rfl hbuf, ?_, ?_⟩
  · rw [State.get_put_sep _ _ _ _ (Fld.sep_of_bits rfl)]
    exact State.get_put_fit _ _ rfl hst
  · rw [State.get_put_sep _ _ _ _ (Fld.sep_of_bits rfl), State.get_put_sep _ _ _ _ (Fld.sep_of_bits rfl), State.bump,
      State.get_put_sep _ _ _ _ (Fld.sep_of_bits rfl)]
    exact State.get_put_one _ _ rfl
  · rw [State.get_put_sep _ _ _ _ (Fld.sep_of_bits rfl), State.get_put_sep _ _ _ _ (Fld.sep_of_bits rfl), State.get_bump_same _ rfl, State.wrap,
      State.get_put_sep _ _ _ _ (Fld.sep_of_bits rfl), State.wrap]

/-- A refusal leaves the buffer that the result names. -/
theorem rndRefuse_writes (v r : Nat) (s : State) :
    Writes [F.VT_RND_RESULT_STATE v r, F.VT_RND_RESULT_VALID v r, F.VT_RND_RESULT_SEQ v r] s (rndRefuse v r s) := by
  have hstate := (((Writes.refl [F.VT_RND_RESULT_STATE v r, F.VT_RND_RESULT_VALID v r, F.VT_RND_RESULT_SEQ v r] s).put
    (f := F.VT_RND_RESULT_VALID v r) (by simp) 1).bump (f := F.VT_RND_RESULT_SEQ v r) (by simp)).put (f := F.VT_RND_RESULT_STATE v r) (by simp) rndRefused
  refine hstate.put_own (hstate.get fun g hg => ?_)
  simp only [List.mem_cons, List.not_mem_nil, or_false] at hg
  obtain rfl | rfl | rfl := hg
  all_goals exact Fld.sep_of_bits rfl

theorem rndRefuse_shown (v r : Nat) (s : State) :
    ResultShown v r rndRefused (s.get (F.VT_RND_RESULT_BUF v r)) (s.wrap (F.VT_RND_RESULT_SEQ v r)) (rndRefuse v r s) :=
  rndResult_shown (by decide) (State.get_lt s _) s

end

/-! ### OPEN (R239, R246) -/

/-- A renderer's record of buffer `b`, opened in store `k`. -/
def State.rndOpened (s : State) (v r b : Nat) (x : Rnd) : Rnd :=
  { buf := some b, lay := s.storeCfg (storeKey v skRenderer r), ended := x.ended, tag := s.raster.fnum % 256, w := s.get (F.VT_RND_FMT_WIDTH v r),
    h := s.get (F.VT_RND_FMT_HEIGHT v r), code := s.get (F.VT_RND_CODE_CODE v r) }

section
variable {s : State} {v r b : Nat}

theorem fsWriting_rnd_addr (hr : r < 2) : (fsWriting (storeKey v skRenderer r)).addr = atRND v r 0x30 := storeAt_renderer v hr 0x30

theorem fsNewest_rnd_addr (hr : r < 2) : (fsNewest (storeKey v skRenderer r)).addr = atRND v r 0x30 := storeAt_renderer v hr 0x30

/-- The result lies apart from the fields of the store's status. -/
theorem resultFlds_sep_store {f : Fld} (hf : f.addr = atRND v r 0x30) : ∀ g ∈ resultFlds v r, g.sep f = true := fun g hg => by
  simp only [List.mem_cons, List.not_mem_nil, or_false] at hg
  obtain rfl | rfl | rfl | rfl := hg
  all_goals exact Fld.sep_of_rnd rfl hf rfl

theorem store_sep_resultFlds {f : Fld} (hf : f.addr = atRND v r 0x30) : ∀ g ∈ resultFlds v r, f.sep g = true := fun g hg => by
  simp only [List.mem_cons, List.not_mem_nil, or_false] at hg
  obtain rfl | rfl | rfl | rfl := hg
  all_goals exact Fld.sep_of_rnd hf rfl rfl

theorem opOpen_of_free (hplaced : s.placed (storeKey v skRenderer r) = true) (hclosed : (s.rnd v r).buf = none)
    (hw : s.get (F.VT_RND_FMT_WIDTH v r) ≤ 14 * s.get (fsStride (storeKey v skRenderer r)))
    (hh : s.get (F.VT_RND_FMT_HEIGHT v r) ≤ s.get (fsMaxRows (storeKey v skRenderer r)))
    (hfree : s.freeBuf (storeKey v skRenderer r) (s.rnd v r).ended = some b) :
    opOpen v r s = rndResult v r rndOpen b ((s.setRnd v r (s.rndOpened v r b)).put (fsWriting (storeKey v skRenderer r)) b) := by
  simp only [opOpen, hplaced, hclosed, hfree, decide_eq_false (Nat.not_lt.mpr hw), decide_eq_false (Nat.not_lt.mpr hh), Option.isSome_none,
    Bool.not_true, Bool.or_self, Bool.false_eq_true, if_false]
  rfl

theorem open_settled (hr : r < 2) (hplaced : s.placed (storeKey v skRenderer r) = true) (hclosed : (s.rnd v r).buf = none)
    (hw : s.get (F.VT_RND_FMT_WIDTH v r) ≤ 14 * s.get (fsStride (storeKey v skRenderer r)))
    (hh : s.get (F.VT_RND_FMT_HEIGHT v r) ≤ s.get (fsMaxRows (storeKey v skRenderer r)))
    (hfree : s.freeBuf (storeKey v skRenderer r) (s.rnd v r).ended = some b) :
    let t := settle (opOpen v r s.fresh)
    ResultShown v r rndOpen b (s.wrap (F.VT_RND_RESULT_SEQ v r)) t ∧ t.get (fsWriting (storeKey v skRenderer r)) = b ∧
      t.rnd v r = s.rndOpened v r b (s.rnd v r) ∧ Sent [] t ∧
      Frame (resultFlds v r ++ [fsWriting (storeKey v skRenderer r)]) s { s with rnds := t.rnds } t := by
  have hwriting := fsWriting_rnd_addr (v := v) hr
  have hb : b < 2 ^ 2 := (freeBuf_lt hfree).trans (by decide)
  have hwait := put_writes (s.fresh.setRnd v r (s.fresh.rndOpened v r b)) (fsWriting (storeKey v skRenderer r)) b
  rw [opOpen_of_free (s := s.fresh) hplaced hclosed hw hh hfree]
  generalize hu : (s.fresh.setRnd v r (s.fresh.rndOpened v r b)).put (fsWriting (storeKey v skRenderer r)) b = u at hwait ⊢
  have hresult := rndResult_writes v r rndOpen b u
  have hall := (hwait.mono (List.subset_append_right (resultFlds v r) _)).trans (hresult.mono (List.subset_append_left _ _))
  have hseq : u.wrap (F.VT_RND_RESULT_SEQ v r) = s.wrap (F.VT_RND_RESULT_SEQ v r) := by
    rw [State.wrap, hwait.get (List.forall_mem_singleton.mpr (Fld.sep_of_rnd hwriting rfl rfl)), State.setRnd_get]
    rfl
  refine ⟨?_, ?_, ?_, hall.sent, hall.rndFrame rfl rfl⟩
  · exact (hseq ▸ rndResult_shown (by decide) hb u).of_get fun g _ => settle_get _ g
  · rw [settle_get, hresult.get (resultFlds_sep_store hwriting), ← hu]
    exact State.get_put_fit _ _ rfl hb
  · rw [settle_rnd, hall.rnd, State.rnd_setRnd_same]
    rfl

/-! ### FENCE and the end of its flush (R246) -/

theorem opFence_of_open (hopen : (s.rnd v r).buf.isSome = true) (hflush : (s.rnd v r).flush = none) :
    opFence v r s = ((s.setRnd v r fun x => { x with flush := some (s.get (F.VT_RND_FENCE_VAL_VAL v r)) }).put
      (F.VT_RND_RESULT_STATE v r) rndFlushing).put (F.VT_RND_RESULT_VALID v r) 0 := by
  have hnone : (s.rnd v r).buf.isNone = false := by
    rw [Option.isNone_eq_false_iff]
    exact hopen
  simp only [opFence, hnone, hflush, Option.isSome_none, Bool.or_self, Bool.false_eq_true, if_false]

theorem fence_settled (hopen : (s.rnd v r).buf.isSome = true) (hflush : (s.rnd v r).flush = none) :
    let t := settle (opFence v r s.fresh)
    t.rnd v r = { s.rnd v r with flush := some (s.get (F.VT_RND_FENCE_VAL_VAL v r)) } ∧ t.get (F.VT_RND_RESULT_STATE v r) = rndFlushing ∧
      t.get (F.VT_RND_RESULT_VALID v r) = 0 ∧ Sent [] t ∧
      Frame [F.VT_RND_RESULT_STATE v r, F.VT_RND_RESULT_VALID v r] s { s with rnds := t.rnds } t := by
  rw [opFence_of_open (s := s.fresh) hopen hflush]
  generalize hu : (s.fresh.setRnd v r fun x => { x with flush := some (s.fresh.get (F.VT_RND_FENCE_VAL_VAL v r)) }) = u
  have hw := ((Writes.refl [F.VT_RND_RESULT_STATE v r, F.VT_RND_RESULT_VALID v r] u).put (f := F.VT_RND_RESULT_STATE v r) (by simp) rndFlushing).put
    (f := F.VT_RND_RESULT_VALID v r) (by simp) 0
  refine ⟨?_, ?_, ?_, ?_, ?_⟩
  · rw [settle_rnd, hw.rnd, ← hu, State.rnd_setRnd_same]
    rfl
  · rw [settle_get, State.get_put_sep _ _ _ _ (Fld.sep_of_bits rfl)]
    exact State.get_put_fit _ _ rfl (show rndFlushing < 2 ^ 4 by decide)
  · rw [settle_get]
    exact State.get_put_zero _ _ rfl
  · exact hw.sent.trans (congrArg State.out hu.symm)
  · exact hw.rndFrame (by rw [← hu]; rfl) (by rw [← hu]; rfl)

/-- What the store shows of a buffer that a renderer has closed. -/
def Rnd.info (x : Rnd) (fv : Nat) : BufInfo := { w := x.w, h := x.h, code := x.code, tag := x.tag, fence := fv }

/-- A renderer's buffer is published as the newest of its store, with the value of its FENCE. -/
def bufPublished (v r b fv : Nat) (x : Rnd) (s : State) : State :=
  (((((s.setRnd v r fun _ => {}).put (fsWriting (storeKey v skRenderer r)) 3).setBuf (storeKey v skRenderer r) b fun _ => x.info fv).put
    (fsNewest (storeKey v skRenderer r)) b)).put (F.VT_RND_DONE_VAL v r) fv

theorem opFlushDone_of_flush {fv : Nat} (hended : (s.rnd v r).ended = []) (hopen : (s.rnd v r).buf = some b) (hflush : (s.rnd v r).flush = some fv)
    (hstores : s.mould.oldStores = []) (hkey : storeCfgKey (s.rnd v r).lay = storeKey v skRenderer r) :
    opFlushDone v r s = (rndResult v r rndDone b (bufPublished v r b fv (s.rnd v r) s)).cause 18 := by
  have hmould : ((s.setRnd v r fun _ => {}).put (fsWriting (storeKey v skRenderer r)) 3).mould.oldStores = [] := hstores
  simp only [opFlushDone, hended, hopen, hflush, publish_eq hmould, hkey, bufPublished, Rnd.info]

abbrev bufPublishedFlds (v r : Nat) : List Fld :=
  [F.VT_RND_DONE_VAL v r, fsNewest (storeKey v skRenderer r), fsWriting (storeKey v skRenderer r)]

theorem bufPublished_writes (v r b fv : Nat) (x : Rnd) (s : State) : Writes (bufPublishedFlds v r)
    ((s.setRnd v r fun _ => {}).setBuf (storeKey v skRenderer r) b fun _ => x.info fv) (bufPublished v r b fv x s) := by
  have hwriting := (Writes.refl (bufPublishedFlds v r) (s.setRnd v r fun _ => {})).put (f := fsWriting (storeKey v skRenderer r)) (by simp) 3
  exact ((hwriting.map (State.setBuf · (storeKey v skRenderer r) b fun _ => x.info fv) fun _ _ => rfl).put
    (f := fsNewest (storeKey v skRenderer r)) (by simp) b).put (f := F.VT_RND_DONE_VAL v r) (by simp) fv

theorem bufPublished_shown (hr : r < 2) (hb : b < 3) (fv : Nat) (x : Rnd) (s : State) :
    (bufPublished v r b fv x s).get (fsNewest (storeKey v skRenderer r)) = b ∧
      (bufPublished v r b fv x s).get (fsWriting (storeKey v skRenderer r)) = 3 ∧
      (bufPublished v r b fv x s).get (F.VT_RND_DONE_VAL v r) = fv % 2 ^ 32 := by
  have hnewest := fsNewest_rnd_addr (v := v) hr
  have hwriting := fsWriting_rnd_addr (v := v) hr
  unfold bufPublished
  refine ⟨?_, ?_, State.get_put_same _ _ _ rfl⟩
  · rw [State.get_put_sep _ _ _ _ (Fld.sep_of_rnd rfl hnewest rfl)]
    exact State.get_put_fit _ _ rfl (show b < 2 ^ 2 by omega)
  · rw [State.get_put_sep _ _ _ _ (Fld.sep_of_rnd rfl hwriting rfl), State.get_put_sep _ _ _ _ (Fld.sep_of_bits rfl), State.setBuf_get]
    exact State.get_put_fit _ _ rfl (show 3 < 2 ^ 2 by decide)

theorem bufPublished_rnd (v r b fv : Nat) (x : Rnd) (s : State) : (bufPublished v r b fv x s).rnd v r = {} := by
  rw [(bufPublished_writes v r b fv x s).rnd]
  exact State.rnd_setRnd_same s v r fun _ => {}

theorem bufPublished_buf (v r b fv : Nat) (x : Rnd) (s : State) :
    (bufPublished v r b fv x s).buf (storeKey v skRenderer r) b = x.info fv := by
  rw [(bufPublished_writes v r b fv x s).same (State.buf · _ b) fun _ _ => rfl, State.buf_setBuf_same]

/-- A cause leaves every field of a renderer as it was. -/
theorem get_cause_rnd {f : Fld} {off : Nat} (hf : f.addr = atRND v r off) (c : Nat) (s : State) : (s.cause c).get f = s.get f := by
  have hne : ∀ a < 0x1000000, f.addr ≠ a := fun a ha => Nat.ne_of_gt (ha.trans_le ((atRND_ge v r off).trans_eq hf.symm))
  exact State.get_cause_ne (s := s) c f (hne _ (by decide)) (hne _ (by decide))

theorem flushDone_settled {fv : Nat} (hr : r < 2) (hb : b < 3) (hended : (s.rnd v r).ended = []) (hopen : (s.rnd v r).buf = some b)
    (hflush : (s.rnd v r).flush = some fv) (hstores : s.mould.oldStores = []) (hkey : storeCfgKey (s.rnd v r).lay = storeKey v skRenderer r) :
    let t := settle (opFlushDone v r s.fresh)
    t.get (fsNewest (storeKey v skRenderer r)) = b ∧ t.get (fsWriting (storeKey v skRenderer r)) = 3 ∧
      t.buf (storeKey v skRenderer r) b = (s.rnd v r).info fv ∧ t.get (F.VT_RND_DONE_VAL v r) = fv % 2 ^ 32 ∧
      t.get (F.VT_RND_RESULT_STATE v r) = rndDone ∧ t.get (F.VT_RND_RESULT_BUF v r) = b ∧ t.get (F.VT_RND_RESULT_VALID v r) = 1 ∧
      t.rnd v r = {} ∧ t.pendingCause 18 = true ∧ Sent [] t ∧
      Frame (resultFlds v r ++ bufPublishedFlds v r ++ pendFlds) s { s with rnds := t.rnds, stores := t.stores } t := by
  have hnewest := fsNewest_rnd_addr (v := v) hr
  have hwriting := fsWriting_rnd_addr (v := v) hr
  have hpublish := bufPublished_writes v r b fv (s.rnd v r) s.fresh
  obtain ⟨hshownNewest, hshownWriting, hshownVal⟩ := bufPublished_shown (v := v) hr hb fv (s.rnd v r) s.fresh
  have hrnd := bufPublished_rnd v r b fv (s.rnd v r) s.fresh
  have hbuf := bufPublished_buf v r b fv (s.rnd v r) s.fresh
  rw [opFlushDone_of_flush (s := s.fresh) hended hopen hflush hstores hkey, State.fresh_v_rnd]
  generalize bufPublished v r b fv (s.rnd v r) s.fresh = u at hpublish hshownNewest hshownWriting hshownVal hrnd hbuf ⊢
  have hresult := rndResult_writes v r rndDone b u
  obtain ⟨hstate, hresbuf, hvalid, -⟩ := rndResult_shown (v := v) (r := r) (st := rndDone) (buf := b) (by decide) (by omega) u
  have hcause : Writes (resultFlds v r ++ pendFlds) u ((rndResult v r rndDone b u).cause 18) :=
    (hresult.mono (List.subset_append_left _ _)).cause (by simp) (by simp) 18
  have hall := (hpublish.mono (m := resultFlds v r ++ bufPublishedFlds v r ++ pendFlds) (by simp)).trans (hcause.mono (by simp))
  refine ⟨?_, ?_, ?_, ?_, ?_, ?_, ?_, ?_, ?_, hall.sent, ?_⟩
  · rw [settle_get, get_cause_rnd hnewest, hresult.get (resultFlds_sep_store hnewest), hshownNewest]
  · rw [settle_get, get_cause_rnd hwriting, hresult.get (resultFlds_sep_store hwriting), hshownWriting]
  · rw [settle_buf, hcause.same (State.buf · _ b) fun _ _ => rfl, hbuf]
  · have hsep : ∀ g ∈ resultFlds v r, g.sep (F.VT_RND_DONE_VAL v r) = true := fun g hg => by
      simp only [List.mem_cons, List.not_mem_nil, or_false] at hg
      obtain rfl | rfl | rfl | rfl := hg
      all_goals exact Fld.sep_of_rnd rfl rfl rfl
    rw [settle_get, get_cause_rnd rfl, hresult.get hsep, hshownVal]
  · rw [settle_get, get_cause_rnd rfl, hstate]
  · rw [settle_get, get_cause_rnd rfl, hresbuf]
  · rw [settle_get, get_cause_rnd rfl, hvalid]
  · rw [settle_rnd, hcause.rnd, hrnd]
  · rw [settle_pendingCause, State.pending_cause (by decide)]
  · rw [settle_rnds, settle_stores, hall.same State.rnds fun _ _ => rfl, hall.same State.stores fun _ _ => rfl]
    exact hall.frame rfl rfl

theorem opFlushDone_of_ended {l : List Nat} (h : (s.rnd v r).ended = b :: l) : opFlushDone v r s = s.setRnd v r fun x => { x with ended := l } := by
  simp only [opFlushDone, h]

theorem flushEnded_settled {l : List Nat} (h : (s.rnd v r).ended = b :: l) :
    let t := settle (opFlushDone v r s.fresh)
    t.rnd v r = { s.rnd v r with ended := l } ∧ Sent [] t ∧ Frame [] s { s with rnds := t.rnds } t := by
  rw [opFlushDone_of_ended (s := s.fresh) h]
  refine ⟨?_, rfl, (Writes.refl [] _).rndFrame rfl rfl⟩
  rw [settle_rnd, State.rnd_setRnd_same]
  rfl

/-! ### ABORT (R239, R246) -/

/-- A renderer's record once its buffer `b` is open no longer; a flush that is not over keeps the buffer. -/
def Rnd.aborted (b : Nat) (x : Rnd) : Rnd := { ended := if x.flush.isSome then x.ended ++ [b] else x.ended }

theorem opAbort_of_open (h : (s.rnd v r).buf = some b) :
    opAbort v r s = ((rndResult v r rndIdle b s).setRnd v r (Rnd.aborted b)).put (fsWriting (storeKey v skRenderer r)) 3 := by
  simp only [opAbort, h]
  rfl

theorem opAbort_of_closed (h : (s.rnd v r).buf = none) : opAbort v r s = rndRefuse v r s := by
  simp only [opAbort, h]

theorem abort_settled (hr : r < 2) (hb : b < 3) (hopen : (s.rnd v r).buf = some b) :
    let t := settle (opAbort v r s.fresh)
    t.rnd v r = (s.rnd v r).aborted b ∧ t.get (fsWriting (storeKey v skRenderer r)) = 3 ∧
      ResultShown v r rndIdle b (s.wrap (F.VT_RND_RESULT_SEQ v r)) t ∧ Sent [] t ∧
      Frame (resultFlds v r ++ [fsWriting (storeKey v skRenderer r)]) s { s with rnds := t.rnds } t := by
  have hwriting := fsWriting_rnd_addr (v := v) hr
  have hresult := rndResult_writes v r rndIdle b s.fresh
  have hshown := rndResult_shown (v := v) (r := r) (st := rndIdle) (buf := b) (by decide) (by omega) s.fresh
  rw [opAbort_of_open (s := s.fresh) hopen]
  have hput := put_writes ((rndResult v r rndIdle b s.fresh).setRnd v r (Rnd.aborted b)) (fsWriting (storeKey v skRenderer r)) 3
  have hall := ((hresult.map (State.setRnd · v r (Rnd.aborted b)) fun _ _ => rfl).mono (List.subset_append_left _ _)).trans
    (hput.mono (List.subset_append_right (resultFlds v r) _))
  refine ⟨?_, ?_, ?_, hall.sent, hall.rndFrame rfl rfl⟩
  · rw [settle_rnd, hall.rnd, State.rnd_setRnd_same, State.fresh_v_rnd]
  · rw [settle_get]
    exact State.get_put_fit _ _ rfl (show 3 < 2 ^ 2 by decide)
  · refine hshown.of_get fun g hg => ?_
    rw [settle_get, State.get_put_sep _ _ _ _ (store_sep_resultFlds hwriting g hg), State.setRnd_get]

theorem abortRefused_settled (hclosed : (s.rnd v r).buf = none) :
    let t := settle (opAbort v r s.fresh)
    t.get (F.VT_RND_RESULT_STATE v r) = rndRefused ∧ t.get (F.VT_RND_RESULT_VALID v r) = 1 ∧
      t.get (F.VT_RND_RESULT_SEQ v r) = s.wrap (F.VT_RND_RESULT_SEQ v r) ∧ Sent [] t ∧
      Frame [F.VT_RND_RESULT_STATE v r, F.VT_RND_RESULT_VALID v r, F.VT_RND_RESULT_SEQ v r] s s t := by
  rw [opAbort_of_closed (s := s.fresh) hclosed]
  have hw := rndRefuse_writes v r s.fresh
  obtain ⟨hstate, -, hvalid, hseq⟩ := (rndRefuse_shown v r s.fresh).of_get fun g _ => settle_get _ g
  exact ⟨hstate, hvalid, hseq, hw.sent, hw.frame rfl rfl⟩

end

end Sys2Proof.Machine
end

section
/-!
PROOFS. Chapters 08 and 22: a store written and read through BAR2 (R245, R250, R568, R569).
-/

namespace Sys2Proof.Machine

open Sys2Proof

/-! ### What a write through BAR2 changes: DRAM, and free values (R245, R250) -/

/-- `t` is `s` but for DRAM and the free values used. -/
def DramFreeOnly (s t : State) : Prop := ∃ d n, t = { s with dram := d, freeN := n }

theorem DramFreeOnly.refl (s : State) : DramFreeOnly s s := ⟨s.dram, s.freeN, rfl⟩

theorem DramFreeOnly.trans {s t u : State} (h : DramFreeOnly s t) (k : DramFreeOnly t u) : DramFreeOnly s u := by
  obtain ⟨_, _, rfl⟩ := h
  obtain ⟨d, n, rfl⟩ := k
  exact ⟨d, n, rfl⟩

theorem DramFreeOnly.setByte {s t : State} (h : DramFreeOnly s t) (a : Nat) (b : Byte) : DramFreeOnly s (t.setByte a b) :=
  h.trans ⟨(t.setByte a b).dram, t.freeN, rfl⟩

theorem DramFreeOnly.draw {s t : State} (h : DramFreeOnly s t) : DramFreeOnly s t.draw.2 := h.trans ⟨t.dram, t.freeN + 1, rfl⟩

theorem DramOnly.settled {s t : State} (h : DramOnly s.fresh t) : Sent [] (settle t) ∧ Frame [] s { s with dram := (settle t).dram } (settle t) := by
  obtain ⟨d, rfl⟩ := h
  refine ⟨rfl, ?_⟩
  rw [settle_dram]
  exact frame_of_same_regs rfl rfl

theorem DramFreeOnly.settled {s t : State} (h : DramFreeOnly s.fresh t) :
    Sent [] (settle t) ∧ Frame [] s { s with dram := (settle t).dram, freeN := (settle t).freeN } (settle t) := by
  obtain ⟨d, n, rfl⟩ := h
  refine ⟨rfl, ?_⟩
  rw [settle_dram, settle_freeN]
  exact frame_of_same_regs rfl rfl

/-! ### A write to the open buffer (R245) -/

/-- Byte `a` of a buffer at `base` is written, and the tag of its burst. -/
def bar2Byte (base tag a x : Nat) (s : State) : State :=
  (s.setByte (base + a) (BitVec.ofNat 8 (if a % 64 = 63 then tag else x))).setByte (base + a / 64 * 64 + 63) (BitVec.ofNat 8 tag)

def bar2Bytes (base at' tag : Nat) (bytes : List Nat) (s : State) : State :=
  s.each bytes.zipIdx fun e s => bar2Byte base tag (at' + e.2) e.1 s

/-- The bursts of a buffer that an error has taken are zeroed. -/
def bar2Zeroed (base : Nat) (bursts : List Nat) (s : State) : State := s.each bursts fun b s => s.setBytesN (base + 64 * b) 64 0

section
variable (base at' tag a x : Nat) (bytes bursts : List Nat) (s : State)

theorem bar2Byte_dramOnly : DramOnly s (bar2Byte base tag a x s) := ((DramOnly.refl s).setByte _ _).setByte _ _

theorem bar2Bytes_dramOnly : DramOnly s (bar2Bytes base at' tag bytes s) := (DramOnly.refl s).each (fun _ u => bar2Byte_dramOnly _ _ _ _ u) _

theorem bar2Zeroed_dramOnly : DramOnly s (bar2Zeroed base bursts s) := (DramOnly.refl s).each (fun _ u => (DramOnly.refl u).setBytesN 64 _ _) _

/-- What a byte of the buffer holds once it is written: byte 63 of a burst is the tag. -/
theorem bar2Byte_same : (bar2Byte base tag a x s).byte (base + a) = BitVec.ofNat 8 (if a % 64 = 63 then tag else x) := by
  unfold bar2Byte
  rw [State.byte_setByte, State.byte_setByte, if_pos rfl]
  split
  next h => rw [if_pos (by omega)]
  next => rfl

variable {base a}

theorem bar2Byte_other {c : Nat} (hbyte : c ≠ base + a) (htag : c ≠ base + a / 64 * 64 + 63) : (bar2Byte base tag a x s).byte c = s.byte c := by
  unfold bar2Byte
  rw [State.byte_setByte, if_neg htag, State.byte_setByte, if_neg hbyte]

/-- A byte that is written stands, whatever other bytes of the buffer are written after it. -/
theorem bar2Byte_keeps {i : Nat} (y : Nat) (h : i ≠ a) (hi : s.byte (base + i) = BitVec.ofNat 8 (if i % 64 = 63 then tag else y)) :
    (bar2Byte base tag a x s).byte (base + i) = BitVec.ofNat 8 (if i % 64 = 63 then tag else y) := by
  by_cases htag : base + i = base + a / 64 * 64 + 63
  · have hlast : i % 64 = 63 := by omega
    rw [htag, bar2Byte, State.byte_setByte, if_pos rfl, if_pos hlast]
  · rw [bar2Byte_other _ _ _ (by omega) htag, hi]

variable {bytes at'}

theorem bar2Bytes_byte {i : Nat} (hi : i ∈ List.range bytes.length) : (bar2Bytes base at' tag bytes s).byte (base + at' + i) =
    BitVec.ofNat 8 (if (at' + i) % 64 = 63 then tag else bytes.getD i 0) := by
  have hsteps : bar2Bytes base at' tag bytes s = s.each (List.range bytes.length) fun i s => bar2Byte base tag (at' + i) (bytes.getD i 0) s := by
    rw [bar2Bytes, zipIdx_eq_map_range]
    exact List.foldl_map
  rw [hsteps, Nat.add_assoc]
  exact State.each_establishes
    (P := fun i t => t.byte (base + (at' + i)) = BitVec.ofNat 8 (if (at' + i) % 64 = 63 then tag else bytes.getD i 0))
    (fun j t => bar2Byte_same _ _ _ _ t) (fun j k t hjk h => bar2Byte_keeps _ _ t _ (by omega) h) _ s (.inl hi)

theorem bar2Bytes_other {c : Nat} (hout : c < base + at' ∨ base + at' + bytes.length ≤ c)
    (htag : ∀ i ∈ List.range bytes.length, c ≠ base + (at' + i) / 64 * 64 + 63) : (bar2Bytes base at' tag bytes s).byte c = s.byte c := by
  refine State.each_keeps_mem (fun t => t.byte c = s.byte c) _ s (fun e he t ht => ?_) rfl
  have hplace : e.2 < bytes.length := by simpa using List.snd_lt_of_mem_zipIdx he
  rw [bar2Byte_other _ _ t (by omega) (htag e.2 (List.mem_range.mpr hplace)), ht]

variable {bursts}

theorem bar2Zeroed_byte {i j : Nat} (hi : i ∈ bursts) (hj : j < 64) : (bar2Zeroed base bursts s).byte (base + 64 * i + j) = 0 := by
  refine State.each_establishes (P := fun i t => t.byte (base + 64 * i + j) = 0) (fun b t => ?_) (fun b d t hbd h => ?_) _ s (.inl hi)
  · rw [State.byte_setBytesN_in 64 t _ 0 j hj, Nat.zero_div]
    rfl
  · rw [State.byte_setBytesN 64 t _ 0 _ (by omega), h]

end

/-! ### A write that reaches another buffer, or none (R250) -/

theorem bar2Stray_dramFreeOnly (base at' n : Nat) (s : State) : DramFreeOnly s (bar2Stray base at' n s) :=
  State.each_keeps (DramFreeOnly s) _ (fun _ _ ht => (ht.draw.setByte _ _).draw.setByte _ _) _ s (.refl s)

theorem bar2Beyond_dramFreeOnly (base len n : Nat) (s : State) : DramFreeOnly s (bar2Beyond base len n s) :=
  State.each_keeps (DramFreeOnly s) _ (fun _ _ ht => ht.draw.draw.setByte _ _) _ s (.refl s)

theorem State.draw_byte (s : State) (a : Nat) : s.draw.2.byte a = s.byte a := rfl

theorem bar2Stray_other {base at' n c : Nat} (hout : c < base + at' ∨ base + at' + n ≤ c)
    (htag : ∀ i ∈ List.range n, c ≠ base + (at' + i) / 64 * 64 + 63) (s : State) : (bar2Stray base at' n s).byte c = s.byte c := by
  refine State.each_keeps_mem (fun t => t.byte c = s.byte c) _ s (fun i hi t ht => ?_) rfl
  have hplace : i < n := List.mem_range.mp hi
  dsimp only
  rw [State.byte_setByte, if_neg (htag i hi), State.draw_byte, State.byte_setByte, if_neg (by omega), State.draw_byte, ht]

theorem bar2Beyond_other {base len c : Nat} (n : Nat) (hout : c < base ∨ base + max len 1 ≤ c) (s : State) :
    (bar2Beyond base len n s).byte c = s.byte c := by
  refine State.each_keeps (fun t => t.byte c = s.byte c) _ (fun _ t ht => ?_) _ s rfl
  have hplace : t.draw.1.toNat % max len 1 < max len 1 := Nat.mod_lt _ (Nat.lt_of_lt_of_le Nat.one_pos (le_max_right _ _))
  dsimp only
  rw [State.byte_setByte, if_neg (by omega), State.draw_byte, State.draw_byte, ht]

/-! ### Where a write goes (R568, R569) -/

section
variable {s : State} {off k b at' : Nat} {bytes : List Nat} (ue : List Nat)

theorem opBar2Write_of_open (h : s.bar2Target off bytes.length = some (k, b, at')) (hkind : k / 4 % 4 = skRenderer)
    (hopen : (s.rnd (k / 16) (k % 4)).buf = some b) (hflush : (s.rnd (k / 16) (k % 4)).flush = none) :
    opBar2Write off bytes ue s = bar2Bytes (storeBurst (s.bar2Cfg k b) b 0 0) at' (s.rnd (k / 16) (k % 4)).tag bytes
      (bar2Zeroed (storeBurst (s.bar2Cfg k b) b 0 0) (partBursts at' bytes.length ue) s) := by
  simp only [opBar2Write, h, hkind, hopen, hflush, bne_self_eq_false, Option.isSome_none, Bool.or_self, Bool.false_eq_true, if_false]
  rfl

theorem opBar2Write_of_other (h : s.bar2Target off bytes.length = some (k, b, at'))
    (hother : k / 4 % 4 ≠ skRenderer ∨ (s.rnd (k / 16) (k % 4)).buf ≠ some b ∨ (s.rnd (k / 16) (k % 4)).flush.isSome = true) :
    opBar2Write off bytes ue s = bar2Stray (storeBurst (s.bar2Cfg k b) b 0 0) at' bytes.length s := by
  have hstray : (k / 4 % 4 != skRenderer || (s.rnd (k / 16) (k % 4)).buf != some b || (s.rnd (k / 16) (k % 4)).flush.isSome) = true := by
    simpa only [Bool.or_eq_true, bne_iff_ne, or_assoc] using hother
  simp only [opBar2Write, h, hstray, if_true]

theorem opBar2Write_of_nothing (h : s.bar2Target off bytes.length = none)
    (hnone : ((bar2Slot off).any fun e => s.bar2Reaches e.1 e.2.1) = false) : opBar2Write off bytes ue s = s := by
  unfold opBar2Write
  rw [h]
  dsimp only
  split
  next v k b hslot =>
    rw [hslot, Option.any_some] at hnone
    exact if_neg (ne_true_of_eq_false hnone)
  next => rfl

theorem opBar2Write_of_beyond {v : Nat} (hslot : bar2Slot off = some (v, k, b)) (hreach : s.bar2Reaches v k = true)
    (hlen : storeBytes (s.bar2Cfg k b) < off % 2 ^ 29 + bytes.length) : opBar2Write off bytes ue s =
      bar2Beyond (storeBurst (s.bar2Cfg k b) b 0 0) (storeBytes (s.bar2Cfg k b)) bytes.length s := by
  have htarget : s.bar2Target off bytes.length = none := by
    simp only [State.bar2Target, hslot, hreach, decide_eq_false (Nat.not_le.mpr hlen), Bool.and_false, Bool.false_eq_true, if_false]
  simp only [opBar2Write, htarget, hslot, hreach, if_true]

theorem opBar2Read_of_target {len : Nat} (poisoned : Bool) (h : s.bar2Target off len = some (k, b, at')) : opBar2Read off len poisoned s =
    { s with acc := { s.acc with
      rdata := (List.range len).map fun i => (s.byte (storeBurst (s.bar2Cfg k b) b 0 0 + at' + i)).toNat, poisoned := poisoned } } := by
  simp only [opBar2Read, h]
  rfl

theorem opBar2Read_of_nothing {len : Nat} (poisoned : Bool) (h : s.bar2Target off len = none) :
    opBar2Read off len poisoned s = s.reply (List.replicate len 0xFF) := by
  simp only [opBar2Read, h]

end

/-! ### The statement -/

/-- Settles O18: each row of the renderer path by its own lemma above. -/
theorem rendererPath : Obligations.RendererPath := by
  unfold Obligations.RendererPath
  refine ⟨?_, ?_, ?_, ?_, ?_, ?_, ?_, ?_, ?_, ?_, ?_, ?_, ?_⟩
  · intro s v r b ha hvr hans hplaced hclosed ⟨hw, hh⟩ hfree
    refine ⟨_, runRind_only_atWindow ha (vatEngine_ok hvr) hans, ?_⟩
    obtain ⟨hshown, hwriting, hrnd, hsent, hframe⟩ := open_settled hvr.2 hplaced hclosed hw hh hfree
    exact ⟨hshown.state, hshown.buf, hshown.valid, hshown.seq, hwriting, hrnd, hsent, hframe⟩
  · intro s v r ha hvr hans ⟨hopen, hflush⟩
    exact ⟨_, runRind_only_atWindow ha (vatEngine_ok hvr) hans, fence_settled hopen hflush⟩
  · intro s v r b fv ha hvr ⟨hopen, hflush, hended⟩ hb ⟨hstores, hkey⟩
    exact ⟨_, run_only ha (vatEngine_ok hvr), flushDone_settled hvr.2 hb hended hopen hflush hstores hkey⟩
  · intro s v r b l ha hvr hended
    exact ⟨_, run_only ha (vatEngine_ok hvr), flushEnded_settled hended⟩
  · intro s v r b ha hvr hans hopen hb
    refine ⟨_, runRind_only_atWindow ha (vatEngine_ok hvr) hans, ?_⟩
    obtain ⟨hrnd, hwriting, hshown, hsent, hframe⟩ := abort_settled hvr.2 hb hopen
    exact ⟨⟨hrnd, hwriting⟩, hshown.state, hshown.buf, hshown.valid, hsent, hframe⟩
  · intro s v r ha hvr hans hclosed
    exact ⟨_, runRind_only_atWindow ha (vatEngine_ok hvr) hans, abortRefused_settled hclosed⟩
  · intro s off k b at0 bytes ue base ha htarget hkind ⟨hopen, hflush⟩ hwhole
    refine ⟨_, (exec_bar2Write ..).trans (run_acts _ ha), ?_⟩
    rw [opBar2Write_of_open (s := s.fresh) ue htarget hkind hopen hflush, hwhole]
    obtain ⟨hsent, hframe⟩ := (bar2Bytes_dramOnly base at0 (s.rnd (k / 16) (k % 4)).tag bytes s.fresh).settled
    refine ⟨fun i hi => (settle_byte _ _).trans (bar2Bytes_byte _ _ hi), hsent, fun a hout htag => ?_, hframe⟩
    exact (settle_byte _ _).trans (bar2Bytes_other _ _ hout htag)
  · intro s off k b at0 bytes ue base ha htarget hother
    refine ⟨_, (exec_bar2Write ..).trans (run_acts _ ha), ?_⟩
    rw [opBar2Write_of_other (s := s.fresh) ue htarget hother]
    obtain ⟨hsent, hframe⟩ := (bar2Stray_dramFreeOnly base at0 bytes.length s.fresh).settled
    exact ⟨hsent, fun a hout htag => (settle_byte _ _).trans (bar2Stray_other hout htag s.fresh), hframe⟩
  · intro s off k b at0 i j bytes ue ha htarget hkind ⟨hopen, hflush⟩ hi ⟨hj, hout⟩
    refine ⟨_, (exec_bar2Write ..).trans (run_acts _ ha), ?_⟩
    rw [opBar2Write_of_open (s := s.fresh) ue htarget hkind hopen hflush]
    obtain ⟨hsent, hframe⟩ := ((bar2Zeroed_dramOnly _ (partBursts at0 bytes.length ue) s.fresh).trans
      (bar2Bytes_dramOnly _ at0 (s.fresh.rnd (k / 16) (k % 4)).tag bytes _)).settled
    refine ⟨?_, hsent, hframe⟩
    rw [settle_byte, State.fresh_v_bar2Cfg, bar2Bytes_other _ _ (by omega) fun _ _ => by omega]
    exact bar2Zeroed_byte _ hi (by omega)
  · intro s off bytes ue ha htarget hnone
    refine ⟨_, (exec_bar2Write ..).trans (run_acts _ ha), ?_⟩
    rw [opBar2Write_of_nothing (s := s.fresh) ue htarget hnone]
    exact ⟨rfl, frame_of_same_regs rfl rfl⟩
  · intro s off v k b bytes ue base ha hslot hreach hlen
    refine ⟨_, (exec_bar2Write ..).trans (run_acts _ ha), ?_⟩
    rw [opBar2Write_of_beyond (s := s.fresh) ue hslot hreach hlen]
    obtain ⟨hsent, hframe⟩ := (bar2Beyond_dramFreeOnly base (storeBytes (s.bar2Cfg k b)) bytes.length s.fresh).settled
    exact ⟨hsent, fun a hout => (settle_byte _ _).trans (bar2Beyond_other _ hout s.fresh), hframe⟩
  · intro s off len k b at0 ue ha htarget
    refine ⟨_, (exec_bar2Read ..).trans (run_acts _ ha), ?_⟩
    rw [opBar2Read_of_target (s := s.fresh) ue htarget]
    exact ⟨by rw [settle_acc]; rfl, by rw [settle_acc], rfl, frame_of_same_regs rfl rfl⟩
  · intro s off len ue ha htarget
    refine ⟨_, (exec_bar2Read ..).trans (run_acts _ ha), ?_⟩
    rw [opBar2Read_of_nothing (s := s.fresh) ue htarget]
    exact ⟨by rw [settle_acc]; rfl, by rw [settle_acc]; rfl, rfl, frame_of_same_regs rfl rfl⟩

end Sys2Proof.Machine
end
